-- ==== Sys2Proof/Word.lean ====
section
/-! DEFINITION. Sys2Proof/Word.lean: the words the part moves, and the sorted finite table
in which the model keeps every sparse collection (registers, contexts, journals, buffers). -/

namespace Sys2Proof

/-- A byte. -/
abbrev Byte := BitVec 8

/-- A register word: registers are 32 bits wide (R16). -/
abbrev Word := BitVec 32

/-- A 64-bit value (addresses of host memory, meter addresses, instants). -/
abbrev Quad := BitVec 64

/-- A sparse table: keys strictly rising, one entry a key. -/
abbrev Tab (α : Type) := List (Nat × α)

/-- The entry at a key. -/
def Tab.find {α : Type} : Tab α → Nat → Option α
  | [], _ => none
  | (k, v) :: t, q => if q = k then some v else Tab.find t q

/-- Put an entry, replacing the one at its key. -/
def Tab.put {α : Type} : Tab α → Nat → α → Tab α
  | [], q, w => [(q, w)]
  | (k, v) :: t, q, w =>
    if q < k then (q, w) :: (k, v) :: t
    else if q = k then (q, w) :: t
    else (k, v) :: Tab.put t q w

/-- Remove the entry at a key. -/
def Tab.del {α : Type} (t : Tab α) (q : Nat) : Tab α := t.filter (fun e => decide (e.1 ≠ q))

/-- The keys of a table. -/
def Tab.keys {α : Type} (t : Tab α) : List Nat := t.map (·.1)

/-- The values of a table, by rising key. -/
def Tab.vals {α : Type} (t : Tab α) : List α := t.map (·.2)

/-- The canonical form: keys strictly rising. -/
def Tab.wf {α : Type} (t : Tab α) : Bool := decide (t.Pairwise (fun a b => a.1 < b.1))

/-- The entry at a key, or a default. -/
def Tab.getD {α : Type} (t : Tab α) (k : Nat) (d : α) : α := (t.find k).getD d

/-- Change the entry at a key, if there is one. -/
def Tab.upd {α : Type} (t : Tab α) (k : Nat) (f : α → α) : Tab α :=
  match t.find k with
  | some v => t.put k (f v)
  | none => t

/-- Change every entry. -/
def Tab.mapVals {α β : Type} (t : Tab α) (f : Nat → α → β) : Tab β :=
  t.map (fun kv => (kv.1, f kv.1 kv.2))

/-- Keep the entries that a test accepts. -/
def Tab.keep {α : Type} (t : Tab α) (p : Nat → α → Bool) : Tab α :=
  t.filter (fun kv => p kv.1 kv.2)

/-- The bits of a number from `lo`, `len` of them. -/
def bitsOf (w lo len : Nat) : Nat := (w >>> lo) % 2 ^ len

/-- `w` with the bits from `lo`, `len` of them, replaced by the low bits of `v`. -/
def withBits (w lo len v : Nat) : Nat :=
  w - (bitsOf w lo len) * 2 ^ lo + (v % 2 ^ len) * 2 ^ lo

/-- The low `n` bits read as a two's-complement number. -/
def signed (n w : Nat) : Int :=
  let m := w % 2 ^ n
  if m < 2 ^ (n - 1) then (m : Int) else (m : Int) - 2 ^ n

/-- The low `n` bits of an integer, two's complement. -/
def unsigned (n : Nat) (i : Int) : Nat := (i % (2 ^ n : Int)).toNat

/-- An integer held within bounds. -/
def clampInt (lo hi i : Int) : Int := max lo (min hi i)

/-- A number held within bounds: the clamp of R20. -/
def clampNat (lo hi n : Nat) : Nat := max lo (min hi n)

/-- A number held at a ceiling. -/
def satNat (hi n : Nat) : Nat := min hi n

/-- Bit `i` of a number. -/
def bitAt (w i : Nat) : Bool := (w >>> i) % 2 = 1

/-- A Bool as a number. -/
def b2n (b : Bool) : Nat := if b then 1 else 0

/-- Bytes of a number, least significant first. -/
def leBytes : Nat → Nat → List Byte
  | 0, _ => []
  | n + 1, v => BitVec.ofNat 8 v :: leBytes n (v / 256)

/-- Bytes of a number, most significant first. -/
def beBytes (n v : Nat) : List Byte := (leBytes n v).reverse

/-- The number that bytes spell, least significant first. -/
def leNat : List Byte → Nat
  | [] => 0
  | b :: t => b.toNat + 256 * leNat t

/-- The number that bytes spell, most significant first. -/
def beNat (bs : List Byte) : Nat := leNat bs.reverse

/-- The `n` bytes from `i`. -/
def slice {α : Type} (bs : List α) (i n : Nat) : List α := (bs.drop i).take n

/-- Bytes padded with zeros to a length. -/
def padTo (n : Nat) (bs : List Byte) : List Byte := bs ++ List.replicate (n - bs.length) 0

/-- Split a list into runs of `n`, with fuel. -/
def chunks {α : Type} (n : Nat) : Nat → List α → List (List α)
  | 0, _ => []
  | _ + 1, [] => []
  | f + 1, l => l.take n :: chunks n f (l.drop n)

/-- How many bits of the low `n` are 1. -/
def popBits : Nat → Nat → Nat
  | 0, _ => 0
  | n + 1, w => w % 2 + popBits n (w / 2)

/-- The sum of a list of numbers. -/
def sumNat (l : List Nat) : Nat := l.foldl (· + ·) 0

/-- The sum of a list of integers. -/
def sumInt (l : List Int) : Int := l.foldl (· + ·) 0

/-- Division rounding up. -/
def ceilDiv (a b : Nat) : Nat := (a + b - 1) / b

/-- The integer square root, by bisection with fuel. -/
def isqrtAux : Nat → Nat → Nat → Nat → Nat
  | 0, lo, _, _ => lo
  | f + 1, lo, hi, n =>
    if hi ≤ lo + 1 then lo
    else
      let m := (lo + hi) / 2
      if m * m ≤ n then isqrtAux f m hi n else isqrtAux f lo m n

/-- The largest number whose square is at most `n`. -/
def isqrt (n : Nat) : Nat :=
  isqrtAux (Nat.log2 (n + 1) + 3) 0 (2 ^ (Nat.log2 (n + 1) / 2 + 1) + 1) n

/-- Insert a number into a rising list. -/
def insertSorted (x : Nat) : List Nat → List Nat
  | [] => [x]
  | y :: t => if x ≤ y then x :: y :: t else y :: insertSorted x t

/-- A rising copy of a list. -/
def sortNat (l : List Nat) : List Nat := l.foldl (fun acc x => insertSorted x acc) []

/-- Insert an integer into a rising list. -/
def insertSortedInt (x : Int) : List Int → List Int
  | [] => [x]
  | y :: t => if x ≤ y then x :: y :: t else y :: insertSortedInt x t

/-- A rising copy of a list of integers. -/
def sortInt (l : List Int) : List Int := l.foldl (fun acc x => insertSortedInt x acc) []

/-- Insert by a key, after entries of an equal key. -/
def insertBy {α : Type} (key : α → Nat) (x : α) : List α → List α
  | [] => [x]
  | y :: t => if key x < key y then x :: y :: t else y :: insertBy key x t

/-- A stable rising copy of a list by a key. -/
def sortBy {α : Type} (key : α → Nat) (l : List α) : List α :=
  l.foldl (fun acc x => insertBy key x acc) []

/-- A bit of a BitVec as a Bool list, least significant first. -/
def bitsList (n w : Nat) : List Bool := (List.range n).map (bitAt w)

end Sys2Proof
end

