-- ==== Sys2Proof/Frames.lean ====
section
/-! DEFINITION. Sys2Proof/Frames.lean: the data that commands bring from outside: frames from a line, a radio or a link,
descriptors and buffers in host memory, results of what happens off the die; and the records that a pair of devices copies. -/

namespace Sys2Proof

/-- The two grades (R4). -/
inductive Grade where
  | x | f
  deriving DecidableEq, Repr

/-- The errors that the endpoint reports through AER (R58). -/
inductive AerErr where
  | unsupportedRequest | completionTimeout | poisonedTlp | malformedTlp | receiverOverflow
  deriving DecidableEq, Repr

/-- What a read of a host buffer brings: its bytes, or a completion error or timeout (R88, HOST_ABORT), as AER reports it. -/
inductive HostRead where
  | data (bytes : List Byte)
  | abort (err : AerErr)
  deriving DecidableEq, Repr

/-- A descriptor as it stands in host memory: sixteen words (R75). -/
structure Desc where
  w : List Word
  deriving DecidableEq, Repr

/-- Word `i` of a descriptor. -/
def Desc.word (d : Desc) (i : Nat) : Nat := (d.w.getD i 0).toNat

/-- A 64-bit value of two body words, low word first. -/
def Desc.quad (d : Desc) (i : Nat) : Nat := d.word i + 2 ^ 32 * d.word (i + 1)

/-- What a billing journal entry says, enough for the bow to apply it to its own copy (R421). -/
inductive JWhat where
  /-- MIX, START, rate, VALUE, demand length in minutes (0: adds nothing to demand), default tariff, version of the table -/
  | booking (mix start rate value dlen : Nat) (dflt : Bool) (version : Nat)
  | marker (instant : Nat)
  | activation (grp version instant : Nat)
  /-- a meter closed at an instant, with the tamper bits that R420 cleared -/
  | closed (mix instant cleared dlen : Nat)
  | tamper (mix bits : Nat)
  | opened (mix instant : Nat)
  | final (mix : Nat)
  /-- a table staged for a group (R402), as its 2,208 bytes -/
  | loaded (grp : Nat) (table : List Byte)
  /-- the staged table of a group is to take force at an instant, ns (R406) -/
  | armed (grp instant : Nat)
  deriving DecidableEq, Repr

end Sys2Proof

namespace Sys2Proof.Machine

/-! ## Records that the stroke copies to the bow -/

/-- A context (R105), field by field. -/
structure Ctx where
  addr : Nat
  kind : Nat
  medium : Nat := 0
  /-- STATE of R119 -/
  st : Nat := 1
  grp : Nat := 0
  owner : Nat := 0xFFFF
  short : Nat := 0
  attach : Nat := 0
  hops : Nat := 0
  admitTime : Nat := 0
  lastRx : Nat := 0
  lastTx : Nat := 0
  rxCounter : Nat := 0
  txCounter : Nat := 0
  suite : Nat := 1
  keyGen : Nat := 0
  shadow : Bool := false
  authFail : Nat := 0
  authRun : Nat := 0
  sysTitle : Nat := 0
  lastIntEnd : Nat := 0
  nextDue : Nat := 0
  heat : Nat := 0
  retries : Nat := 0
  failHeats : Nat := 0
  poll : Nat := 0
  nextSlot : Nat := 0
  slotPeriod : Nat := 0
  wake : Nat := 0
  missRun : Nat := 0
  guard : Nat := 0
  rsync : Nat := 0
  clockOfs : Int := 0
  timeQual : Nat := 0
  phase : Nat := 3
  linkCost : Nat := 0
  snr : Int := 0
  imgFirst : Nat := 0
  imgMiss : Nat := 0
  imgState : Nat := 0
  alarmBits : Nat := 0
  alarmMerged : Nat := 0
  lastAlarm : Nat := 0
  partnerLost : Nat := 0
  meterTamper : Nat := 0
  partnerLostT : Nat := 0
  chainHead : List Byte := List.replicate 32 0
  logSeq : Nat := 0
  intLen : Nat := 15
  vee : Nat := 0
  estCount : Nat := 0
  lastReg : Nat := 0
  suspect : Int := 0
  balNode : Nat := 0
  logTail : Nat := 0
  logNand : Nat := 0
  framesRx : Nat := 0
  framesTx : Nat := 0
  lineCycle : Nat := 0
  deriving DecidableEq, Repr

/-- A billing extension (R108). -/
structure Ext where
  /-- 0 free, 1 active, 2 closed -/
  st : Nat := 1
  grp : Nat := 0
  version : Nat := 0xFFFF
  lastBooked : Nat := 0
  periodStart : Nat := 0
  rates : List Nat := List.replicate 16 0
  total : Nat := 0
  dmax : Nat := 0
  dmaxTime : Nat := 0
  dcur : Nat := 0
  adjust : Nat := 0
  tamper : Nat := 0
  fDefault : Bool := false
  fAdjust : Bool := false
  scale : Int := 0
  jseq : Nat := 0
  deriving DecidableEq, Repr

/-- A season or a day: month, day, profiles from Monday. -/
structure Season where
  month : Nat
  day : Nat
  prof : List Nat
  deriving DecidableEq, Repr

/-- A special day. -/
structure Special where
  year : Nat
  month : Nat
  day : Nat
  prof : Nat
  deriving DecidableEq, Repr

/-- An effective tariff table (R403). -/
structure TarTable where
  version : Nat := 0xFFFF
  demandMin : Nat := 15
  defaultRate : Nat := 0
  closeDay : Nat := 0
  closeMin : Nat := 0
  utcOfs : Int := 0
  dstMin : Nat := 0
  dstStartM : Nat := 3
  dstStartW : Nat := 5
  dstEndM : Nat := 10
  dstEndW : Nat := 5
  dstStartMin : Nat := 60
  dstEndMin : Nat := 120
  seasons : List Season := []
  /-- switch points of each profile: minute, rate; unused points are not listed but keep their place as minute 0xFFFF -/
  profiles : List (List (Nat × Nat)) := []
  special : List Special := []
  deriving DecidableEq, Repr

/-- The tables of a group (R402, R406). -/
structure GrpTar where
  inForce : Option TarTable := none
  /-- activation instant of the table in force, s -/
  since : Nat := 0
  prev : Option TarTable := none
  staged : Option TarTable := none
  /-- pending activation instant, ns -/
  actAt : Option Nat := none
  /-- latest close instant, s, and the latest instant handled -/
  closeAt : Nat := 0
  lastClose : Nat := 0
  deriving DecidableEq, Repr

/-- An entry of the import table (R295): the last derived generation used; EK or K, AK and KEK in force; the same staged; the
PSK. Each key is held wrapped under K_wrap. -/
structure Import where
  lastGen : Nat := 0xFF
  ek : Option (List Byte) := none
  ak : Option (List Byte) := none
  kek : Option (List Byte) := none
  shEk : Option (List Byte) := none
  shAk : Option (List Byte) := none
  shKek : Option (List Byte) := none
  psk : Option (List Byte) := none
  /-- the meter kept this KEK when it took a derived set (R296) -/
  keepKek : Bool := false
  deriving DecidableEq, Repr

/-- A staged key set (R294, R296): derived with its generation, or imported; whether the meter has acknowledged its delivery;
consecutive failed exchanges under it. -/
structure Shadow where
  imported : Bool
  gen : Nat
  delivered : Bool := false
  fails : Nat := 0
  deriving DecidableEq, Repr

/-- An effective policy table (R142). -/
structure Policy where
  heatMin : Nat := 15
  phaseOfs : Nat := 0
  method : Nat := 0
  prio : Nat := 3
  spread : Nat := 60
  retries : Nat := 3
  retryGap : Nat := 60
  escHeats : Nat := 3
  catchup : Nat := 8
  portMask : Nat := 0x7F
  odLimit : Nat := 60000
  pushGrace : Nat := 120
  sels : List Nat := [0]
  deriving DecidableEq, Repr

/-- A member's entry in an open heat: port, due instant on the monotonic count; its heat state and retries are in the context. -/
structure Entry where
  grp : Nat
  port : Nat
  due : Nat
  /-- the due instant before a radio member's attempt was moved to its slot (R149) -/
  asked : Nat := 0
  /-- the due instant in device time, ns, by which a partner knows it (R166) -/
  at_ : Nat := 0
  /-- under METHOD 1 its push is late: it is read as under METHOD 0 until the heat ends (R145) -/
  late : Bool := false
  /-- the due instant has been marked -/
  fallen : Bool := false
  /-- nothing is sent: under METHOD 1 until the push is late (R145), or the meter never listens (R265) -/
  push : Bool := false
  /-- attempts started in this heat; place in the order of R147 -/
  made : Nat := 0
  ord : Nat := 0
  deriving DecidableEq, Repr

/-- A calendar element (R252) but for NOW: GEN, WAKE, PERIOD in s, SLOT in ns, GUARD and LISTEN and TURN in ms, FLAGS.UNSLOTTED. -/
structure Elem where
  gen : Nat
  wake : Nat
  period : Nat
  slot : Nat
  guard : Nat
  listen : Nat
  turn : Nat
  unslotted : Bool
  deriving DecidableEq, Repr

/-- A meter's calendar (R252 to R257): the element in force and the one whose echo is awaited; its grid position; a wireless
M-Bus meter's latest frames. -/
structure Cal where
  gen : Nat := 0
  /-- the element whose echo is awaited -/
  pend : Option Elem := none
  pos : Option Nat := none
  /-- instants at which the latest eight frames ended, ns, newest first -/
  frames : List Nat := []
  deaf : Bool := false
  /-- the part of the port's mode and the FEC of its latest frame, which its answers keep (R239, log 124) -/
  sub : Nat := 0
  fec : Bool := false
  /-- its latest frame came through a relay (R269) -/
  relayed : Bool := false
  /-- after a takeover the pending element goes again under its generation (R270) -/
  again : Bool := false
  deriving DecidableEq, Repr

/-- An interval-log entry (R328) with what its output record needs (R333). -/
structure LogEnt where
  prev : List Byte
  seq : Nat
  typ : Nat
  cls : Nat := 0
  body : List Byte := []
  start : Nat
  value : Nat
  reg : Option Nat := none
  vee : Nat := 0
  intLen : Nat := 0
  aux : Nat := 0
  ref : Nat := 0
  /-- BOOK of the output record, or none while it is held (R327) -/
  book : Option Nat := some 0
  balNode : Nat := 0
  clockOfs : Int := 0
  rxTime : Nat := 0
  /-- device time s at which it was logged -/
  at_ : Nat := 0
  deriving DecidableEq, Repr

/-- What the Ledger keeps of a meter beside its context. -/
structure LdgMeter where
  /-- newest first -/
  log : List LogEnt := []
  /-- up to five offset measurements, newest first (R316) -/
  clocks : List Int := []
  beaconTime : Bool := false
  /-- monotonic count of the latest WRITE_TIME asked (R319) -/
  askedAt : Option Nat := none
  stuckRun : Nat := 0
  stuckStart : Nat := 0
  stuckSaid : Bool := false
  veeDay : Nat := 0
  /-- points of a register-only meter: receive timestamp ns and register, newest first (R324) -/
  points : List (Nat × Nat) := []
  /-- times of phase changes, s, newest first, and the span left out of per-phase fits (R349, R350) -/
  moves : List (Nat × Nat × Nat) := []
  /-- the scheduler is to send a WRITE_TIME at the next exchange (R319) -/
  askTime : Bool := false
  /-- ATTACH code at the field device that reaches the meter (R335) -/
  fdPort : Nat := 0
  suspectRun : Nat := 0
  bypassed : Bool := false
  deriving DecidableEq, Repr

/-- One balance interval of a node (R336): its end, check-meter energies of L1 to L3, Wh, and residuals of all phases and each. -/
structure BalRow where
  end_ : Nat
  check : Option (List Rat)
  res : List (Option Rat) := [none, none, none, none]
  /-- metered energy of the members -/
  metered : Rat := 0
  formed : Bool := false
  decided : Bool := false
  deriving DecidableEq, Repr

/-- A balance node beside its registers (R335 to R355). -/
structure Node where
  log : List BalRow := []
  /-- 1 LEARNING, 2 WATCHING, 3 LOSS (R342) -/
  st : Nat := 1
  lossK : Nat := 0
  days : Nat := 0
  cover : Nat := 0
  f0 : Rat := 0
  validAt : Nat := 0
  means : List Int := [0, 0, 0, 0]
  lbs : List Int := [0, 0, 0, 0]
  lastEnd : Nat := 0
  attrOff : Bool := false
  top : List (Nat × Int) := []
  deriving DecidableEq, Repr

/-- The window of a receiver (R487): highest EPOCH and COUNT, COUNTs seen. -/
structure SeqWin where
  epoch : Nat := 0
  top : Option Nat := none
  seen : List Nat := []
  deriving DecidableEq, Repr

/-- One end of a field link: its sender, its receiver, and when it sent and heard last on the monotonic count. -/
structure FlEnd where
  epoch : Nat := 0
  count : Nat := 0
  win : SeqWin := {}
  sentAt : Nat := 0
  heardAt : Nat := 0
  /-- source address of the latest authenticated frame; 0 before one -/
  mac : Nat := 0
  deriving DecidableEq, Repr

/-- What a head end keeps of a field device. -/
structure Fd where
  link : FlEnd := {}
  /-- 0 absent, 1 keying, 2 mustered, 3 lost -/
  st : Nat := 0
  port : Nat := 0
  heardS : Nat := 0
  serial : Nat := 0
  /-- highest contiguous DSEQ received, and those received above it -/
  dseq : Nat := 0
  above : List Nat := []
  ackFrom : Option Nat := none
  ackCount : Nat := 0
  /-- DSEQs of its forwarded frames that authenticated since the latest DATA_ACK, newest first (R221) -/
  auth : List Nat := []
  ttx : List Nat := [1000, 1000, 1000, 1000, 1000, 1000]
  tseq : Nat := 0
  timeTx : Int := 0
  timeDue : Nat := 0
  deriving DecidableEq, Repr

/-- A meter image in its slot (R605): BLOCK, SIZE, IDENT and the image bytes staged so far. -/
structure ImgSlot where
  block : Nat
  size : Nat
  ident : List Byte
  bytes : List Byte := []
  deriving DecidableEq, Repr

/-- A port's passes of a campaign (R608): passes run, the next block of the pass that runs, the end of the latest one. -/
structure Pass where
  run : Nat := 0
  next : Option Nat := none
  endedAt : Option Nat := none
  deriving DecidableEq, Repr

/-- A group's campaign (R606): image slot, daily window in minutes, state of R611, passes by port. -/
structure Campaign where
  slot : Nat
  open_ : Nat
  close_ : Nat
  st : Nat := 2
  passes : Tab Pass := []
  deriving DecidableEq, Repr

end Sys2Proof.Machine

namespace Sys2Proof

/-- The header of a pair-link frame (R536): its cycle, the two parts of SEQ, and the key under which its tag verifies,
empty for a keyless frame. -/
structure PairHdr where
  cycle : Nat
  epoch : Nat
  count : Nat
  key : List Byte
  deriving DecidableEq, Repr

/-- A record of a delta or of a catch-up (R541, R546): a context, or that it is FREE; a billing extension and a closed-period record;
calendar; a configuration register; a field device; a group's image campaign; an image slot. -/
inductive DeltaRec where
  | ctx (mix : Nat) (c : Option Machine.Ctx)
  | ext (mix : Nat) (e : Machine.Ext)
  | closed (mix : Nat) (e : Machine.Ext)
  | imported (mix : Nat) (i : Option Machine.Import)
  | shadow (mix : Nat) (s : Option Machine.Shadow)
  /-- with its load count (R146) -/
  | policy (grp : Nat) (p : Machine.Policy) (loads : Nat)
  /-- a join in progress: the STATE that it came from, and its field device -/
  | join (mix : Nat) (x : Option (Nat × Option Nat))
  /-- the latest short address that a line port has given (R117) -/
  | shortLast (port a : Nat)
  | tables (grp : Nat) (g : Machine.GrpTar)
  /-- with the bytes that its log has grown by -/
  | ledger (mix : Nat) (x : Option Machine.LdgMeter) (grown : Nat)
  | node (n : Nat) (x : Option Machine.Node)
  | entry (mix : Nat) (x : Option Machine.Entry)
  | cal (mix : Nat) (x : Option Machine.Cal)
  | reg (off : Nat) (w : Option Word)
  | fieldDev (fdx : Nat) (x : Option Machine.Fd)
  | camp (grp : Nat) (x : Option Machine.Campaign)
  | image (slot : Nat) (x : Option Machine.ImgSlot)
  deriving DecidableEq, Repr

/-- What a HEARTBEAT tells of its sender (R539, R540, R592, R598, R599). -/
structure PairPeer where
  role : Nat := 0
  claim : Bool := false
  rootValid : Bool := false
  kcv : Nat := 0
  checkOk : Bool := false
  faultLatched : Bool := true
  fatal : Bool := false
  mediaOk : Bool := false
  ready : Bool := false
  cycle : Nat := 0
  version : Nat := 0
  cfgFmt : List Nat := List.replicate 21 0
  closing : Bool := false
  tamper : Bool := false
  deriving DecidableEq, Repr

/-- The body of a pair-link frame that the part sends or takes (R537). -/
inductive PairBody where
  | arb (rootValid lastStroke side : Bool) (serial : Nat)
  | heartbeat (p : PairPeer)
  | delta (recs : List DeltaRec)
  /-- record count; its SHA-256 of the delta stands for the delta as sent -/
  | fin (count : Nat)
  | ack
  | jmir (entries : List (Nat × JWhat))
  | jack (seq : Nat)
  | credit (cells : Nat)
  | swap
  | yield
  | catchup (recs : List DeltaRec)
  | catchupAsk
  | drill (step : Nat) (means : List (Nat × Nat × Nat))
  | drillResult (step : Nat) (pass : Bool) (failPort : Nat)
  | cloneNonce (nonce : List Byte)
  | cloneRoot (wrapped : List Byte)
  /-- part of a firmware package: for a paused activation or not; its offset; the package's length -/
  | image (pause : Bool) (offset total : Nat) (bytes : List Byte)
  deriving DecidableEq, Repr

/-- A PTP message (R439, R440): times in ns, TAI; corrections in ns; `who` is the sender's port identity. -/
inductive PtpMsg where
  /-- priority1, clockClass, accuracy, variance, priority2, grandmaster, steps removed; currentUtcOffset where valid; leap 61, 59 or 0 -/
  | announce (domain who prio1 cls acc var prio2 gm steps : Nat) (utcOfs : Option Nat) (leap : Nat)
  | sync (domain who seq : Nat) (twoStep : Bool) (origin corr : Int)
  | followUp (domain who seq : Nat) (origin corr : Int)
  /-- answer to a delay request or a peer-delay request: the receiver's receive time, and turnaround time for a peer -/
  | delayResp (domain who seq : Nat) (rx : Int) (turnaround : Int)
  | delayReq (domain who seq : Nat)
  /-- management, unicast negotiation, transparent-clock and other messages that are ignored (R440) -/
  | other
  deriving DecidableEq, Repr

/-! ## Frames of meters -/

/-- A profile item (R315): interval start in the meter's clock, s; consumption; register at the interval's end where reported. -/
structure MItem where
  start : Nat
  value : Nat
  reg : Option Nat := none
  deriving DecidableEq, Repr

/-- The decrypted content of a meter's frame (R315), and the answer it carries, if it is one. -/
structure MData where
  /-- the meter's clock reading, ms; whether it resolves 1 ms or finer -/
  clock : Option Int := none
  clockFine : Bool := false
  clkInvalid : Bool := false
  /-- a clock adjustment or a power-down, with the instant it is reported for, if one is given, s of the meter's clock -/
  clkAdj : Option (Option Nat) := none
  pwrDown : Option (Option Nat) := none
  regReset : Bool := false
  items : List MItem := []
  /-- register readings without an interval -/
  regs : List Nat := []
  /-- alarm bits coded as w4 of 0x0301 (R580) -/
  alarms : Nat := 0
  /-- tamper flags coded as METER_TAMPER, where the frame reports them -/
  tamper : Option Nat := none
  status : Nat := 0
  /-- the answer's content, a record for each object that it carries (R78), a negative result code, and the Sels that the frame carries -/
  resp : List (List Byte) := []
  reject : Option Nat := none
  sels : List Nat := []
  /-- answer to a key delivery (R296): 0 none, 1 accepted, 2 accepted but for the master key -/
  keyAck : Nat := 0
  /-- image blocks the meter reports as missing, where the frame reports them: first and count -/
  imgMiss : Option (Nat × Nat) := none
  /-- image_block_size, and the active image identifier, where the frame reports them (R604, R607) -/
  imgBlock : Option Nat := none
  imgIdent : Option (List Byte) := none
  deriving DecidableEq, Repr

/-- A secured frame of a meter (R35): the key of its lookup (R114), its bytes, whether its security header names a protection
that its suite supports (R302), its counter or access number, the EK or K and the AK under which its integrity verifies. -/
structure MFrame where
  kind : Nat
  addr : Nat
  raw : List Byte
  unsup : Bool := false
  counter : Nat := 0
  ek : List Byte := []
  ak : List Byte := []
  data : MData := {}
  deriving DecidableEq, Repr

/-- A join frame (R121): lookup key, whether the meter declares that it follows beacon time (R317) and that it is mains-powered
(R251), its system title; for a wireless M-Bus meter, whether it is a mode that never listens (R265). -/
structure JoinReq where
  kind : Nat
  addr : Nat
  beaconTime : Bool := false
  mains : Bool := false
  deaf : Bool := false
  title : Nat := 0
  deriving DecidableEq, Repr

/-- What a received frame carries above the MAC. -/
inductive Pay where
  | frame (f : MFrame)
  | join (j : JoinReq)
  /-- nothing above the MAC: a tone map, an answer without data, a route message -/
  | none
  deriving DecidableEq, Repr

/-- The MAC header of a line-port frame (R211); for a compatible plan the matching parts of the recommendation, with its phase
detection counter as `zcDelay` and the route reply's next hop, hop count and cost. -/
structure MacHdr where
  typ : Nat
  poll : Bool := false
  tmreq : Bool := false
  /-- the transmit tone map that the neighbour returns: TMI, rate, loadings; on a compatible plan 1, the modulation and the tones -/
  tmap : Option (Nat × Nat × List Nat) := none
  /-- the transmit gain that a compatible plan's tone-map response asks for (R227) -/
  txGain : Nat := 0
  /-- on a compatible plan: an acknowledgement; a route reply or a route error for the meter of address `final` (R210, R224) -/
  ack : Bool := false
  reply : Bool := false
  error : Bool := false
  up : Bool := true
  seq : Nat := 0
  dest : Nat := 0
  src : Nat
  final : Nat := 0
  nav : Nat := 0
  zcDelay : Nat := 0xFFFF
  resid : Nat := 0xFFFF
  hops : Nat := 0
  cost : Nat := 0
  /-- short address and BPS of each entry -/
  path : List (Nat × Nat) := []
  /-- index of this segment and of the last one (R212) -/
  seg : Nat := 0
  segLast : Nat := 0
  deriving DecidableEq, Repr

/-- A symbol that a receive chain demodulates: the ADC samples of its span (R194); a data symbol's SNR by carrier, 0.5 dB. -/
structure RxSym where
  adc : List Int := []
  snr : List Int := []
  deriving DecidableEq, Repr

/-- A frame at a line port's receive chain (R184): plan 0 CENA, 1 FCC, 2 SC; the frame-control word as decoded (R180), on a compatible plan
whether its own check holds; whether the frame check passes, which a frame cut by an abort marker fails (R198); the ADC samples before it,
and its symbols with the preamble and frame control; the carriers that its sender uses (R188); what its preamble asks of the gain stage, and
the gain at which another chain already held that stage (R187); on a compatible plan the air time up to the end of the preamble and from there to the
end of the frame, ns, and the generation and key under which the MAC's security verifies (R234). -/
structure LineRx where
  plan : Nat
  fc : Nat := 0xC70040
  fcOk : Bool := true
  ok : Bool := true
  before : List Int := []
  syms : List RxSym := []
  mask : Nat := 0x3FFFFFFFFFFFFFF
  pga : Nat := 0
  held : Option Nat := none
  pre : Nat := 0
  after : Nat := 0
  gmk : Option (Nat × List Byte) := none
  bytes : Nat := 64
  hdr : MacHdr
  pay : Pay := .none
  deriving DecidableEq, Repr

/-- A frame at a radio port (R247): its check, its RSSI and SNR, the flood element (R266), the GEN that it echoes or 0xFF for a
rendezvous call (R252, R262); the part of the port's mode that it uses (R239), its FEC, in modes 0 to 2 the eight address bytes in on-air
order (R114), in modes whose frames another standard times the air time after the timestamp's instant, ns; words with a wrong marker that
came before its end (R242). -/
structure RadioRx where
  ok : Bool := true
  sub : Nat := 0
  fec : Bool := false
  onAir : List Byte := []
  after : Nat := 0
  bad : Nat := 0
  rssi : Int := -80
  snr : Int := 20
  bytes : Nat := 64
  /-- ORIG, SEQ, TTL, UP, HOPS -/
  flood : Option (Nat × Nat × Nat × Bool × Nat) := none
  gen : Option Nat := none
  pay : Pay := .none
  deriving DecidableEq, Repr


/-! ## Ethernet and the field link -/

/-- A record of the field link (R489); timestamps in ns; a secured request stands as its length. DATA_ACK carries the report of R221, which
forwarded frames authenticated (log 133). -/
inductive FlRec where
  | helloK (serial : Nat) (nonce : List Byte)
  | keyWrap (nonce wrapped : List Byte)
  | hello (serial dseq : Nat)
  | welcome (serial dseq hb : Nat)
  | heartbeat
  | meterUp (dseq port hops snr rx : Nat) (f : MFrame)
  | dataAck (dseq : Nat) (auth : List Nat)
  | order (id kind addr cls deadline bytes : Nat) (poll : Bool)
  | orderDone (dseq id result attempts answer : Nat) (inPolling : Bool)
  | joinOk (id kind addr : Nat)
  | release (id kind addr : Nat)
  | time (hold valid : Bool) (tseq : Nat) (prev : Int)
  | delayReq (id : Nat)
  | delayRsp (id : Nat) (rx : Int)
  | join (dseq port : Nat) (j : JoinReq)
  | meterSts (dseq kind attach hops cost addr : Nat)
  | portSts (ttx : List Nat)
  | checkRec (dseq : Nat) (bytes : List Byte)
  | unknown (typ : Nat)
  deriving DecidableEq, Repr

/-- A field-link frame (R485): whether LEN is 4 to 1,400 and its records fill it, the two parts of SEQ, the key under which its
tag verifies. -/
structure FlFrame where
  ver : Nat := 1
  up : Bool
  hold : Bool := false
  keyless : Bool := false
  fdx : Nat
  lenOk : Bool := true
  epoch : Nat := 0
  count : Nat := 0
  key : List Byte := []
  recs : List FlRec
  deriving DecidableEq, Repr

/-- Where a field-link frame goes (R484): MODE 1, source and destination MAC, byte 0 lowest; MODE 2, FL_IP_LOCAL, FL_IP_PEER, and the address
on the link that it is sent to, the gateway's for a peer outside the /64; hop limit 64. -/
inductive FlTo where
  | mac (src dst : Nat)
  | ip (local_ peer hop : List Nat) (port : Nat)
  deriving DecidableEq, Repr

/-- Where an Ethernet frame goes (R482). -/
inductive EthDst where
  | own | flMac | broadcast | ptp | ptpPeer | allNodes | solicited | other
  deriving DecidableEq, Repr

/-- What an Ethernet frame holds: a field-link frame under its EtherType, or in IPv6 UDP to a port, to FL_IP_LOCAL or not; PTP;
a neighbour solicitation or an echo request for FL_IP_LOCAL; IPv6 with extension headers or fragments; MAC control; other bytes. -/
inductive EthBody where
  | fl (etype : Nat) (f : FlFrame)
  | flUdp (port : Nat) (toLocal : Bool) (f : FlFrame)
  | ptp (layer2 : Bool)
  | icmp (echo : Bool)
  | extV6
  | pause (quanta : Nat)
  | macCtl
  | other (bytes : List Byte)
  deriving DecidableEq, Repr

/-- A received Ethernet frame (R479, R482): FCS, coding errors, length in bytes with FCS and tag, VLAN, source address. -/
structure EthRx where
  fcsOk : Bool := true
  codeErr : Bool := false
  bytes : Nat := 64
  dst : EthDst := .own
  vid : Option Nat := none
  src : Nat := 0
  body : EthBody
  deriving DecidableEq, Repr

/-- What a NAND channel finds at its start-up (R500, R527): JEDEC identifier, LUNs, chip enables, bits per cell, erase units, LUs of an erase
unit in native mode, rated P/E cycles, a tPROG or tRST beyond R500, factory-bad units of the media. -/
structure NandPart where
  id : Nat := 0
  luns : Nat := 0
  ces : Nat := 0
  bits : Nat := 1
  eus : Nat := 0
  euLu : Nat := 1
  pe : Nat := 3000
  slow : Bool := false
  bad : List Nat := []
  deriving DecidableEq, Repr

/-- What a boot finds (R33, R57, R287, R620, R622): the halt code of its failure, 0 for none; the durations of steps a and b, µs; the LPDDR5
fitted, MiB; whether both lanes of the pair link are in service; CLAIM_IN; the PCIe reference clock, and the generation and width that
the host's port can train; the RTC oscillator; the health test of the true random generator; unused Cox TCM, KiB; the rails in range. -/
structure BootEnv where
  halt : Nat := 0
  aUs : Nat := 4000
  bUs : Nat := 140000
  fitted : Nat := 2048
  lanes : Bool := false
  claimIn : Bool := false
  pcieRef : Bool := true
  pcieGen : Nat := 4
  pcieWidth : Nat := 4
  rtcRuns : Bool := true
  trngOk : Bool := true
  tcmFree : Nat := 0
  rails : Nat := 1023
  deriving DecidableEq, Repr

end Sys2Proof
end

