-- ==== Sys2Proof/Syntax.lean ====
section
/-! DEFINITION. Sys2Proof/Syntax.lean: the commands of the part. -/

namespace Sys2Proof

/-- The commands the part takes: one constructor for each row of the command table. -/
inductive Instr where
  /-- REGISTER_WRITE (R20) A BAR0 write to a register that has no row of its own is applied under its access codes and clamped to the effective value. -/
  | registerWrite (off : BitVec 24) (val : Word)
  /-- UNALIGNED_ACCESS (R16) A BAR0 access that is not 32-bit aligned completes without effect, and a read of that kind returns 0. -/
  | unalignedAccess (isWrite : Bool) (off : BitVec 24) (bytes : Nat)
  /-- CFG_LOCK_SET (R639) Writing 1 to GLB_CFG_LOCK.LOCK makes every RWL field read-only until the next device reset. -/
  | cfgLockSet (val : Word)
  /-- CONFIG_STORE_WRITE (R85) A change to a stored field reaches the configuration store within 1 s of the change. -/
  | configStoreWrite
  /-- DOORBELL_SUB_TAIL (R69) A SUB_TAIL write is clamped, then either accepted and queued for fetch, or ignored as a tail regression, as an event-pair doorbell, or because the pair is not ON. -/
  | doorbellSubTail (pair : Fin 64) (val : Word)
  /-- DOORBELL_CMP_HEAD (R72) A CMP_HEAD write frees completion-ring entries, restarts the stopping timer and lets waiting completions be written. -/
  | doorbellCmpHead (pair : Fin 64) (val : Word)
  /-- FETCH_GRANT (R91) The fetch engine grants a waiting ring pair by PRIO and round-robin, and reads up to four descriptors from host memory. -/
  | fetchGrant (descs : List Desc) (latNs : Nat)
  /-- FETCH_FAILED (R94) A descriptor fetch that fails twice sets FETCH_ERR, takes the pair to FAILED, is reported through AER and writes one record. -/
  | fetchFailed (req : Fin 64 × AerErr)
  /-- COMPLETION_WRITE (R72) A waiting completion is written to the completion ring as one 32 B write once the ring has room, with PHASE inverted at each wrap. -/
  | completionWrite (pair : Fin 64)
  /-- EVENT_POST (R100) A waiting event entry is written to the completion ring of its event pair once the ring has room, after any merging. -/
  | eventPost
  /-- IRQ_MOD_TIMER (R102) When the oldest unsignalled entry has waited TIME µs, the pair's vector fires and every entry written so far is marked signalled. -/
  | irqModTimer (pair : Fin 64)
  /-- MSIX_UNMASK (R102) Unmasking a vector whose pending bit is set sends one message, however many entries arrived meanwhile. -/
  | msixUnmask (vec : Fin 128)
  /-- STOPPING_PAIR_TIMEOUT (R96) A stopping pair whose completion ring stays full for 1 s discards its waiting completions into CMP_DROP and goes to OFF. -/
  | stoppingPairTimeout (pair : Fin 64)
  /-- RNG_LAT_CLR (R93) A write to RNG_LAT_CLR sets RNG_LAT_MEAS.MAX to 0. -/
  | rngLatClr (val : Word)
  /-- RNG_PAIR_CNT_CLEAR (R66) A write of any value to RNG_PAIR_CNT clears all three of its counts. -/
  | rngPairCntClear (pair : Fin 64) (val : Word)
  /-- RESERVED_OPCODE (R79) A descriptor with a reserved opcode, or an opcode of a family the grade lacks, completes with BAD_OPCODE and no action. -/
  | reservedOpcode (pair : Fin 64)
  /-- CFG_SET (R84) CFG_SET writes a register item or a host-timer item as a BAR0 access would and returns the effective value. -/
  | cfgSet (pair : Fin 64)
  /-- CFG_GET (R84) CFG_GET returns the readback of a register item or the effective values of a host-timer item. -/
  | cfgGet (pair : Fin 64)
  /-- CFG_COMMIT (R85) CFG_COMMIT writes every change not yet in the configuration store and completes when all of them are in eMRAM. -/
  | cfgCommit (pair : Fin 64)
  /-- POLICY_LOAD (R142) POLICY_LOAD checks and clamps a 128 B policy table for a group, which takes effect at the group's next heat start. -/
  | policyLoad (pair : Fin 64) (buf : HostRead)
  /-- POLICY_GET (R142) POLICY_GET returns the effective policy table of a group, every clamp applied. -/
  | policyGet (pair : Fin 64)
  /-- POLICY_HOLD (R164) POLICY_HOLD holds a group's unreleased entries as HELD, or releases them and spaces them again. -/
  | policyHold (pair : Fin 64)
  /-- READ_NOW (R155) READ_NOW reads a meter on demand, merged with an open heat entry where the Sels allow it. -/
  | readNow (pair : Fin 64)
  /-- READ_LOG (R332) READ_LOG returns output records or log entries of a meter or group from an interval start, up to the count. -/
  | readLog (pair : Fin 64)
  /-- WRITE_OBJ (R82) WRITE_OBJ writes one object of a meter from a host buffer and returns the meter's result code. -/
  | writeObj (pair : Fin 64) (buf : HostRead)
  /-- WRITE_ACTION (R82) WRITE_ACTION invokes one method of a meter and returns the meter's result code. -/
  | writeAction (pair : Fin 64) (buf : HostRead)
  /-- WRITE_TIME (R82) WRITE_TIME sets a meter's clock and returns its offset before correction. -/
  | writeTime (pair : Fin 64)
  /-- TARIFF_LOAD (R402) TARIFF_LOAD stages a checked and clamped tariff table for a group, and completes once it is in NAND and acknowledged by the bow. -/
  | tariffLoad (pair : Fin 64) (buf : HostRead)
  /-- TARIFF_ACTIVATE (R406) TARIFF_ACTIVATE sets the instant at which a group's staged table takes force. -/
  | tariffActivate (pair : Fin 64)
  /-- TARIFF_GET (R403) TARIFF_GET returns the effective table in force and any effective staged table. -/
  | tariffGet (pair : Fin 64)
  /-- TIME_CONFIRM (R414) TIME_CONFIRM confirms a pending step of device time when its value lies within ±1 s of STEP_PEND. -/
  | timeConfirm (pair : Fin 64)
  /-- IMAGE_STAGE (R605) IMAGE_STAGE appends meter-image data, with its header first, to an image slot in stream 5. -/
  | imageStage (pair : Fin 64) (buf : HostRead)
  /-- IMAGE_START (R606) IMAGE_START starts a group's image campaign with a complete image and a daily window. -/
  | imageStart (pair : Fin 64)
  /-- IMAGE_STATUS (R611) IMAGE_STATUS returns a member's image state or the campaign summary of a group. -/
  | imageStatus (pair : Fin 64)
  /-- IMAGE_ABORT (R611) IMAGE_ABORT ends a group's campaign, making its unfinished members ABORTED, or frees an unused slot. -/
  | imageAbort (pair : Fin 64)
  /-- FW_WRITE (R591) FW_WRITE appends a chunk to the staged firmware package at the offset that UPD_STAGE.BYTES gives. -/
  | fwWrite (pair : Fin 64) (buf : HostRead)
  /-- FW_ACTIVATE (R593) FW_ACTIVATE checks the refusal states and the staged package, then starts a paused or hitless activation. -/
  | fwActivate (pair : Fin 64)
  /-- KEY_STAGE (R294) KEY_STAGE stages a derived or imported shadow key set for a meter, or derived shadows for a group. -/
  | keyStage (pair : Fin 64)
  /-- KEY_COMMIT (R298) KEY_COMMIT commits a complete imported shadow whose check value matches, or completes with KEY_CHECK. -/
  | keyCommit (pair : Fin 64)
  /-- KEY_DISCARD (R298) KEY_DISCARD removes a meter's shadow, or every uncommitted shadow of a group. -/
  | keyDiscard (pair : Fin 64)
  /-- ATTEST (R308) ATTEST writes a 208 B response with the boot digests and an HMAC under K_att over a host nonce. -/
  | attest (pair : Fin 64)
  /-- CTX_GET (R107) CTX_GET copies the authoritative 256 B context to a host buffer and returns its STATE. -/
  | ctxGet (pair : Fin 64)
  /-- CTX_ADMIT (R120) CTX_ADMIT creates a context in ADMITTED at the lowest FREE MIX, or returns the MIX already held for the key. -/
  | ctxAdmit (pair : Fin 64) (moves : List (Fin 4))
  /-- CTX_RETIRE (R127) CTX_RETIRE sets RETIRING at once and starts the retirement of the context. -/
  | ctxRetire (pair : Fin 64)
  /-- CTX_OWNER (R128) CTX_OWNER changes a context's owner once its started descriptors have completed. -/
  | ctxOwner (pair : Fin 64)
  /-- MEDIA_HEALTH (R524) MEDIA_HEALTH writes the 128 B health record of the media and of one NAND channel. -/
  | mediaHealth (pair : Fin 64)
  /-- MEDIA_DRAIN (R522) MEDIA_DRAIN frees acknowledged drain entries and copies the oldest drained items to a host buffer. -/
  | mediaDrain (pair : Fin 64)
  /-- LOG_READ (R578) LOG_READ returns event records from an index up to the fill in force when the descriptor starts. -/
  | logRead (pair : Fin 64)
  /-- LOG_FREEZE (R577) LOG_FREEZE freezes or unfreezes the event recorder and returns the staging fill. -/
  | logFreeze (pair : Fin 64)
  /-- FAULT_HIST (R569) FAULT_HIST writes the fault history entries, newest first, to a host buffer. -/
  | faultHist (pair : Fin 64)
  /-- PAIR_STATUS (R540) PAIR_STATUS returns the role and claim, the latest ended stroke cycle and the partner's health word. -/
  | pairStatus (pair : Fin 64)
  /-- PAIR_SWAP (R549) PAIR_SWAP starts a planned move of the claim from the stroke to the bow. -/
  | pairSwap (pair : Fin 64)
  /-- PAIR_DRILL (R551) PAIR_DRILL runs the requested drill steps in bit order and returns the passed mask. -/
  | pairDrill (pair : Fin 64) (results : BitVec 4)
  /-- DIAG_ECHO (R82) DIAG_ECHO returns words 3 to 6 of its body unchanged. -/
  | diagEcho (pair : Fin 64)
  /-- DIAG_COUNTERS (R87) DIAG_COUNTERS writes a snapshot of a function's counters, read at one instant, to a host buffer. -/
  | diagCounters (pair : Fin 64)
  /-- DIAG_LOOP (R86) DIAG_LOOP runs one self-test loop on a function at its next boundary and returns the result. -/
  | diagLoop (pair : Fin 64)
  /-- DIAG_LOOP_END (R86) A running self-test loop ends, releases its function and posts the result. -/
  | diagLoopEnd (loop : Nat) (pass : Bool) (part : BitVec 8) (errors : BitVec 16)
  /-- LINE_FRAME_RX (R184) A receive chain of a line port decodes a whole frame on its plan, checks it and hands it to the MAC and the ingest queue. -/
  | lineFrameRx (port : Fin 2) (rx : LineRx)
  /-- SEGMENT_TIMEOUT (R212) A segment that does not arrive within T_ifs plus the preceding segment's T_frm voids the MAC frame and counts in LCP_SEG_DROP. -/
  | segmentTimeout (port : Fin 2)
  /-- PORT_BOUNDARY (R151) At a port boundary the port starts the first waiting beacon, on-demand transaction, scheduled entry or image block under the shares. -/
  | portBoundary (port : Fin 7) (fdx : Fin 1024) (bytes : Nat)
  /-- BACKOFF_EXPIRY (R214) A sender's backoff slot count reaches zero while the medium is idle, and its frame is transmitted. -/
  | backoffExpiry (port : Fin 2)
  /-- EXCHANGE_TIMEOUT (R208) No returning frame starts on hop 1 within T_to of the request's end, so the exchange fails. -/
  | exchangeTimeout (port : Fin 6)
  /-- EXCHANGE_END (R209) An exchange ends with an answer or a failure, and the transaction completes, retransmits at once or counts a failed attempt. -/
  | exchangeEnd (port : Fin 6)
  /-- LINE_TX_END (R172) A line-port transmission ends, the DAC returns to zero and LPn_DRV_EN falls after DRV_LAG. -/
  | lineTxEnd (port : Fin 2) (gain : Fin 8)
  /-- BLANK_END (R186) BLANK after the last DAC sample, the blanked receive chains are released. -/
  | blankEnd (port : Fin 2)
  /-- GOV_SAMPLE (R196) At each 250 ns sense sample the governor updates E_win and E_frame and checks the truncation condition. -/
  | govSample (port : Fin 2) (vsns isns : BitVec 14)
  /-- GOV_CAP_WRITE (R201) A write to LCP_GOV_CAP takes effect at the next sample and may truncate a frame in progress at once. -/
  | govCapWrite (port : Fin 2) (val : Word)
  /-- GOV_FUSE_GO (R202) LCP_GOV_PROG with KEY 0xF05E and GO 1 starts fusing the hard caps, or is refused with record 0x0503. -/
  | govFuseGo (port : Fin 2) (val : Word)
  /-- GOV_FUSE_DONE (R202) Fusing ends within 20 ms, LCP_GOV_OTP shows the fused values and record 0x0502 is written. -/
  | govFuseDone (port : Fin 2)
  /-- LCP_COUNTER_CLEAR (R205) A write to an RW counter of a line port clears it; a write to LCP_GOV_TRUNC clears both of its fields. -/
  | lcpCounterClear (port : Fin 2) (counter : Fin 12) (val : Word)
  /-- TM_REFRESH_DUE (R190) PERIOD seconds after a neighbour's last refresh, a tone-map request is set to ride on the next frame to it. -/
  | tmRefreshDue (port : Fin 2) (nb : Fin 2048)
  /-- TM_TTL_EXPIRY (R192) A transmit tone map not refreshed within TTL becomes invalid, and the port sends ROBUST to that neighbour. -/
  | tmTtlExpiry (port : Fin 2) (nb : Fin 2048)
  /-- ZERO_CROSS_EDGE (R229) A positive-going crossing on an enabled zero-cross input is timestamped and joins the latest 64 cycles. -/
  | zeroCrossEdge (port : Fin 2) (edge : Fin 3 × Bool)
  /-- PORT_POLL_WINDOW (R218) At the end of each 60 s window the port judges its failure share and enters or leaves port polling. -/
  | portPollWindow (port : Fin 2)
  /-- NEIGHBOUR_AGE_EXPIRY (R226) A neighbour not heard for NB_AGE minutes becomes stale. -/
  | neighbourAgeExpiry (port : Fin 2) (nb : Fin 2048)
  /-- NB_SNAPSHOT_READ (R237) A read of word 0 of LCP_NB_DATA or LCP_RT_DATA takes a consistent snapshot of the selected entry. -/
  | nbSnapshotRead (port : Fin 2) (route : Bool)
  /-- RADIO_FRAME_RX (R247) A radio port receives a whole frame, stamps it at the end of its SFD and hands it to the ingest queue. -/
  | radioFrameRx (port : Fin 4) (rx : RadioRx) (answer us : Nat)
  /-- SEEN_KEY_EXPIRY (R268) A key of the flood seen cache expires SEEN_AGE seconds after entry. -/
  | seenKeyExpiry (port : Fin 4)
  /-- IQ_LANE_TRAINED (R242) Training sees 64 consecutive good markers on each receive lane, and IQ_LOCK reads 1. -/
  | iqLaneTrained (port : Fin 4) (dly : BitVec 6 × BitVec 6) (bad : Nat)
  /-- IQ_LOCK_TIMEOUT (R242) A port that has not reached I/Q lock within 10 ms goes to FAILED. -/
  | iqLockTimeout (port : Fin 4)
  /-- IQ_LOCK_LOST (R242) Sixteen consecutive words with wrong markers clear IQ_LOCK and start training again. -/
  | iqLockLost (lost : Fin 4 × Nat)
  /-- SPI_IRQ_EDGE (R241) A rising edge on RDn_SPI_IRQ counts in RAD_XCVR_STS.IRQS. -/
  | spiIrqEdge (port : Fin 4)
  /-- LBT_LISTEN_END (R248) A listen span ends, and the frame is sent on a clear channel or backs off, failing as busy after TRIES. -/
  | lbtListenEnd (port : Fin 4) (rssi : Int) (us : Nat)
  /-- DUTY_WAIT_END (R250) A transmission waiting for the duty budget starts once it fits, or fails if its answer window has closed. -/
  | dutyWaitEnd (port : Fin 4)
  /-- AGREED_SLOT (R253) At SLOT plus GUARD the port sends a calendar meter its due read or a calendar frame. -/
  | agreedSlot (mix : BitVec 20) (rssi : List Int) (bytes us : Nat)
  /-- SLOT_ANSWER_TIMEOUT (R259) No answer from a calendar meter within TURN plus 1 ms is a miss, and the guard and RSYNC state move. -/
  | slotAnswerTimeout (mix : BitVec 20)
  /-- WMB_FRAME_LATE (R259) No frame from an EN 13757-4 meter within its expected window is a miss. -/
  | wmbFrameLate (mix : BitVec 20)
  /-- RENDEZVOUS_WINDOW_OPEN (R262) At I − W before a wake-class instant the port opens a rendezvous window for a meter in LONG_LISTEN. -/
  | rendezvousWindowOpen (mix : BitVec 20)
  /-- RENDEZVOUS_WINDOW_CLOSE (R262) A rendezvous window closes at I + W, and other traffic of the port resumes. -/
  | rendezvousWindowClose (mix : BitVec 20)
  /-- FRAME_PROCESS (R35) A frame taken from its ingest queue is resolved to a MIX, authenticated, validated, logged and handed for booking. -/
  | frameProcess (queue : Fin 10)
  /-- JOIN_RX (R121) A join frame moves an existing context to JOINING, or takes a new one under MODE 1, or is refused or forwarded. -/
  | joinRx (queue : Fin 10) (moves : List (Fin 4))
  /-- JOIN_TIMEOUT (R123) A context that stays JOINING for JOIN_TIMEOUT returns to FREE or to the state it came from. -/
  | joinTimeout (mix : BitVec 20)
  /-- LOOKUP_REHASH_DONE (R116) A background rebuild of the address lookup table under a new seed ends, and admissions and joins resume. -/
  | lookupRehashDone (moves : List (List (Fin 4)))
  /-- CONTEXT_SNAPSHOT_START (R132) Every 3,600 stroke cycles, or at 64 GiB of journals, a NAND snapshot of the contexts and billing extensions begins. -/
  | contextSnapshotStart
  /-- CACHE_SET_UNPIN (R130) A context that becomes unpinned lets a fetch waiting on its full set proceed. -/
  | cacheSetUnpin (set : Fin 2048)
  /-- GAP_FILL (R324) EST_HOLD hours after a bracketing entry is logged, a run of missing intervals is filled with class R values. -/
  | gapFill (mix : BitVec 20)
  /-- VEE_FLAGS_CLEAR (R322) At 00:00 UTC the context's VEE_FLAGS clears. -/
  | veeFlagsClear
  /-- INTERVAL_EVENT_WINDOW (R334) At the end of each 60 s window in which output records became effective, one INTERVAL-class event is posted. -/
  | intervalEventWindow
  /-- BALANCE_FORM (R339) BAL_LAG hours after a balance interval ends, its residuals are formed if coverage allows. -/
  | balanceForm
  /-- LEDGER_EVALUATION (R341) Daily at 00:00 UTC plus BAL_LAG, each node is tested for loss and its members are fitted and ranked. -/
  | ledgerEvaluation
  /-- LEDGER_RECOMPUTE_DONE (R352) After a takeover or restart the recomputation of missed days ends, and any missed evaluation runs. -/
  | ledgerRecomputeDone
  /-- BOOKING (R407) The Weigh-in core takes an entry from the booking queue and books it or refuses it as already booked. -/
  | booking
  /-- TARIFF_ACTIVATION (R406) At its instant under valid time, a staged table becomes the table in force. -/
  | tariffActivation (grp : Fin 4096)
  /-- DEMAND_BOUNDARY (R417) At a demand boundary the Weigh-in core journals a marker fixing the instant. -/
  | demandBoundary (minutes : Nat)
  /-- CLOSE_INSTANT (R410) At a group's close instant the Weigh-in core starts a sweep of its active extensions. -/
  | closeInstant (grp : Fin 4096)
  /-- CLOSE_SWEEP_END (R410) A close sweep ends, CLOSE_AT takes the close instant and CLOSING clears. -/
  | closeSweepEnd (grp : Fin 4096)
  /-- DISPLAY_FRAME (R400) Every PERIOD seconds the Weigh-in core sends one 64-bit frame on the legal display. -/
  | displayFrame
  /-- BAR4_WRITE (R56) A write to BAR4 is discarded and counted. -/
  | bar4Write (off : BitVec 20) (val : Word)
  /-- CHECK_VALUE_RECOMPUTE (R398) Every 60 min the check value is recomputed, and a difference stops booking and raises a Degraded fault. -/
  | checkValueRecompute (digest : BitVec 256)
  /-- HOLDOVER_24H (R413) Holdover lasting beyond 24 h makes device time invalid. -/
  | holdover24h
  /-- PTP_MESSAGE_RX (R439) A PTP message received on a PTP port is processed under the profile and BMCA. -/
  | ptpMessageRx (port : Fin 4) (msg : PtpMsg)
  /-- PTP_MESSAGE_TX (R440) At each Sync, Announce or delay interval a PTP port sends its message. -/
  | ptpMessageTx (port : Fin 4) (kind : Fin 3)
  /-- PTP_SOURCE_LOST (R435) Missing Syncs, an Announce timeout or leaving SLAVE loses the PTP source and may start holdover. -/
  | ptpSourceLost (port : Fin 4)
  /-- LEAP_SECOND (R430) At an announced leap second device time is stepped by 1 s. -/
  | leapSecond
  /-- RTC_SET (R429) Every 10 s while locked, the battery RTC is set from device time. -/
  | rtcSet
  /-- RATE_STORE (R436) Once per hour while LOCK is 2, the rate is written to the configuration store. -/
  | rateStore
  /-- TIME_SNAPSHOT_READ (R427) A read of TIM_TIME_LO snapshots the time counter and the monotonic count for the other words. -/
  | timeSnapshotRead
  /-- HOST_TIMER_ENABLE (R447) Enabling a host timer or PPS output takes a pooled comparator, or is refused with ENABLE reading 0. -/
  | hostTimerEnable (unit : Fin 8) (val : Word)
  /-- HOST_TIMER_FIRE (R448) A host timer fires and posts a TIME-class event 0x0C01. -/
  | hostTimerFire (timer : Fin 4)
  /-- PPS_EDGE (R449) A pulse output drives its edge at START plus k times PERIOD. -/
  | ppsEdge (n : Fin 4)
  /-- PPS_WIDTH_END (R449) WIDTH after an edge on the monotonic count, the pulse ends. -/
  | ppsWidthEnd (n : Fin 4)
  /-- CAPTURE_EDGE (R450) An edge on CAP_INn is timestamped into its queue, or dropped with OVF when four are held. -/
  | captureEdge (n : Fin 4) (rising : Bool)
  /-- CAPTURE_POP (R456) A read of TIM_CAP_LO returns the oldest capture, latches its high word and removes it. -/
  | capturePop (n : Fin 4)
  /-- TXQ_POP (R444) Writing POP moves the oldest host transmit timestamp into TIM_TXQ_ID, _SEC and _NS. -/
  | txqPop (port : Fin 4) (val : Word)
  /-- BEACON_DUE (R451) The beacon comparator makes a port's beacon due, to start at its next boundary. -/
  | beaconDue (port : Fin 6)
  /-- QUEUE_REFILL (R472) A queue below 7/8 of its quota is refilled from its oldest ring entries. -/
  | queueRefill (queue : Fin 256)
  /-- HOLD_RELEASE (R461) A producer held for room places its item once cells are free. -/
  | holdRelease (queue : Fin 256)
  /-- QUEUE_FLUSH (R468) Writing FLUSH to a host-flushable queue discards its items older than the flush point; other queues count a refusal. -/
  | queueFlush (queue : Fin 256) (val : Word)
  /-- FLUSH_DONE (R469) Every discarded cell and ring entry has been freed, FLUSH reads 0 and newer items become visible. -/
  | flushDone (queue : Fin 256)
  /-- CELL_ECC_ERROR (R459) An uncorrected error in a cell discards the affected items and may start a pool scan. -/
  | cellEccError (queue : Option (Fin 256)) (item : Nat) (header : Bool)
  /-- POOL_SCAN_DONE (R459) The scan after a header error ends, having freed the cells of the lost chain. -/
  | poolScanDone (queue : Fin 256)
  /-- STORM_WINDOW (R162) At the end of each 1 s window the scheduler judges storm entry and exit from alarm frames and the ring. -/
  | stormWindow
  /-- HEAT_START (R139) At a group's heat start the members are fixed, ordered by port and given due times. -/
  | heatStart (grp : Fin 4096)
  /-- HEAT_END (R160) At a heat's end the scheduler updates failed-heat counts, SILENT transitions and escalation. -/
  | heatEnd (grp : Fin 4096)
  /-- SCHED_ENTRY_DUE (R148) A heat entry falls due, for a first attempt or a retry, and waits for its port's boundary. -/
  | schedEntryDue (mix : BitVec 20)
  /-- PUSH_GRACE_EXPIRY (R145) PUSH_GRACE after an interval end without its push, a pull read is planned for the member. -/
  | pushGraceExpiry (mix : BitVec 20)
  /-- CENSUS_START (R627) At the end of step h every group starts a census heat. -/
  | censusStart
  /-- ETH_FRAME_RX (R482) A whole received Ethernet frame is checked, filtered and classified as field link, PTP, ICMPv6 or management. -/
  | ethFrameRx (port : Fin 4) (frame : EthRx)
  /-- ETH_FRAME_TX (R479) A port starts the next waiting frame by class order once it is whole in cells. -/
  | ethFrameTx (port : Fin 4)
  /-- PAUSE_EXPIRY (R481) The pause time runs out and transmission resumes. -/
  | pauseExpiry (port : Fin 4)
  /-- ETH_LINK_DOWN (R480) Loss of link leaves the port ON, discards waiting frames and counts LINK_DOWN. -/
  | ethLinkDown (port : Fin 4)
  /-- ETH_LINK_UP (R480) Link returns on a port and ETH_STS.LINK reads 1. -/
  | ethLinkUp (port : Fin 4) (speed : Fin 3)
  /-- SERDES_LOCK_LOSS (R34) Loss of an Ethernet or pair-link SerDes lock takes the function to FAILED. -/
  | serdesLockLoss (port : Fin 5)
  /-- MGT_TX_GO (R496) Writing GO sends the management transmit buffer, or sets REFUSED on a bow. -/
  | mgtTxGo (port : Fin 4) (val : Word)
  /-- MGT_RX_POP (R496) Writing POP removes the management frame shown and sets RX_PAGE to 0. -/
  | mgtRxPop (port : Fin 4) (val : Word)
  /-- ETH_COUNTER_SNAPSHOT_READ (R483) A read of a counter's LO word takes a snapshot of its HI word. -/
  | ethCounterSnapshotRead (port : Fin 4) (counter : Fin 18)
  /-- FL_FRAME_RX (R487) A field-link frame is authenticated, checked against its SEQ window and split into records. -/
  | flFrameRx (port : Fin 4)
  /-- HELLO_K_RX (R492) A head end answers a keyless HELLO_K from an enabled FDX with a KEYWRAP under the muster code. -/
  | helloKRx
  /-- KEYWRAP_RX (R492) A field device unwraps its field-link key, keeps it wrapped and sends HELLO. -/
  | keywrapRx
  /-- HELLO_RX (R492) A head end answers a keyed HELLO with WELCOME, or counts an FDX conflict. -/
  | helloRx
  /-- WELCOME_RX (R492) A field device is mustered and resends its held records above the acknowledged DSEQ. -/
  | welcomeRx
  /-- FL_HEARTBEAT_RX (R491) A field-link HEARTBEAT refreshes the link's liveness. -/
  | flHeartbeatRx
  /-- METER_UP_RX (R489) A head end takes a forwarded meter frame from a field device into processing. -/
  | meterUpRx
  /-- DATA_ACK_RX (R490) A field device frees the held records that a DATA_ACK covers. -/
  | dataAckRx
  /-- ORDER_RX (R161) A field device starts a heat, on-demand or image order as a scheduled transaction, or answers a repeated ID from its store. -/
  | orderRx
  /-- ORDER_DONE_RX (R489) A head end settles the order's entry or descriptor and copies IN_POLLING. -/
  | orderDoneRx
  /-- JOIN_OK_RX (R111) A field device creates a context with OWNER 0xFFFE for a meter its head end accepted. -/
  | joinOkRx (moves : List (Fin 4))
  /-- RELEASE_RX (R113) A field device frees the context of a meter that its head end moved away. -/
  | releaseRx
  /-- TIME_RECORD_RX (R442) A field device takes a TIME record and applies the resulting offset under the servo. -/
  | timeRecordRx
  /-- DELAY_REQ_RX (R442) A head end answers a DELAY_REQ with its receive timestamp. -/
  | delayReqRx
  /-- DELAY_RSP_RX (R442) A field device forms the mean path delay from a DELAY_RSP. -/
  | delayRspRx
  /-- JOIN_RECORD_RX (R121) A head end handles a join forwarded by a field device as a join of its own. -/
  | joinRecordRx
  /-- METER_STS_RX (R225) A head end updates a meter's ATTACH, HOPS and LINK_COST from METER_STS. -/
  | meterStsRx
  /-- PORT_STS_RX (R161) A head end takes the field device's port TTX values for planning. -/
  | portStsRx
  /-- CHECK_REC_RX (R49) A head end adds a field device's check-meter interval record to its node logs. -/
  | checkRecRx
  /-- FL_TIME_SEND (R442) Every PERIOD seconds a head end sends a TIME record to each mustered field device. -/
  | flTimeSend (fdx : Fin 1024)
  /-- FL_TIME_MISS (R442) A time message not received within PERIOD plus 100 ms is missed, and three misses lose the source. -/
  | flTimeMiss
  /-- FL_HEARTBEAT_SEND (R491) An end that has sent nothing for HB_MS sends a HEARTBEAT. -/
  | flHeartbeatSend (fdx : Fin 1024)
  /-- FL_LINK_LOST (R491) After three HB_MS without an authenticated frame, a field device takes its next port and musters again. -/
  | flLinkLost
  /-- FDX_LOST (R494) After three HB_MS without a frame from an FDX, a head end marks it LOST and posts an ALARM. -/
  | fdxLost (fdx : Fin 1024)
  /-- FL_RTO_EXPIRY (R490) A held record or order not covered after RTO is sent again. -/
  | flRtoExpiry
  /-- DATA_ACK_DUE (R490) 50 ms after receipt, or after 64 records, a head end sends DATA_ACK. -/
  | dataAckDue (fdx : Fin 1024)
  /-- HELLO_RESEND (R492) An unanswered HELLO_K is sent again every 10 s, and a HELLO every 2 s. -/
  | helloResend
  /-- PORT_STS_SEND (R489) Every 60 s a field device sends PORT_STS. -/
  | portStsSend
  /-- FL_CODE_VOID (R492) The muster code becomes void CODE_HOURS after it is written. -/
  | flCodeVoid
  /-- FL_PORT_FAILBACK (R548) A preceding port with link for 10 s becomes the active field-link port again. -/
  | flPortFailback
  /-- MEDIA_WRITE (R504) The Media manager takes an item of queue 14 and programs it to its stream, or refuses it into the drain. -/
  | mediaWrite
  /-- MEDIA_READ (R509) A codeword is read through the retention sets, a soft read and the second copy until one decodes. -/
  | mediaRead (lu : Nat) (step : Option (Fin 4)) (bits : Nat) (overLimit : Bool)
  /-- FOLD_START (R507) A cache above 3/4 of S starts folding its oldest data into native EUs. -/
  | foldStart
  /-- GC_START (R512) Free EUs below GC_LOW start collection of the full EU with the fewest valid LUs. -/
  | gcStart
  /-- GC_SWITCH (R512) After the last copied codeword verifies, the map switches to the target and the source is erased. -/
  | gcSwitch
  /-- NAND_PROGRAM_FAIL (R513) A failed program, erase or verify retires its EU and restarts a collection copy. -/
  | nandProgramFail (eu : Nat) (what : Fin 3)
  /-- EU_REFRESH (R510) An EU marked for refresh, or reaching 17,520 h of age, has its data copied elsewhere. -/
  | euRefresh (eu : Nat)
  /-- WEAR_LEVEL_MOVE (R511) A PE gap above WL_GAP moves a full EU's data and frees it. -/
  | wearLevelMove
  /-- HISTORY_RELEASE (R515) Use above HIST_FILL releases the oldest stream-3 EUs, outside HIST_MIN. -/
  | historyRelease
  /-- BILLING_SNAPSHOT (R505) At 256 MiB of stream-0 data since the last snapshot, a further billing snapshot is written. -/
  | billingSnapshot
  /-- NAND_CHANNEL_FAIL (R523) Three status-read timeouts or a failed reset take a NAND channel to FAILED. -/
  | nandChannelFail (n : Fin 4)
  /-- FTL_FORMAT_REQUEST (R521) FTL_CTL with KEY 0x46D7 and FORMAT 1 requests a format at the next device reset. -/
  | ftlFormatRequest (val : Word)
  /-- FTL_FORMAT_CANCEL (R521) FTL_CTL with KEY 0x46D7 and CANCEL 1 withdraws a pending format. -/
  | ftlFormatCancel (val : Word)
  /-- CLAIM_IN_CHANGE (R530) A change on CLAIM_IN closes or opens the transmit gates at once and updates the filtered value after 10 µs. -/
  | claimInChange (level stays : Bool)
  /-- ARB_LISTEN_END (R533) After 100 ms of listening, a device decides its role by CLAIM_IN, an ARB exchange or SIDE timing. -/
  | arbListenEnd
  /-- ARB_RX (R533) An ARB frame from the partner is compared, and the winner sets its claim at 150 ms. -/
  | arbRx (hdr : PairHdr) (rootValid lastStroke side : Bool) (serial : Nat)
  /-- ARB_CLAIM_INSTANT (R533) At 150 or 250 ms a device sets its claim if CLAIM_IN still reads low. -/
  | arbClaimInstant
  /-- PAIR_HEARTBEAT_SEND (R539) Every HB_MS a device sends a HEARTBEAT and reloads its claim timer. -/
  | pairHeartbeatSend
  /-- PAIR_HEARTBEAT_RX (R539) A partner's heartbeat updates its health word and role. -/
  | pairHeartbeatRx (hdr : PairHdr) (peer : PairPeer)
  /-- PAIR_HEARTBEAT_MISS (R539) A heartbeat not received within HB_MS plus 20 µs is missed, and three misses declare it lost. -/
  | pairHeartbeatMiss
  /-- CLAIM_TIMER_EXPIRY (R531) A claim timer not reloaded within 2 × HB_MS drops CLAIM_OUT and closes the gates. -/
  | claimTimerExpiry
  /-- CLAIM_LOW_TIMEOUT (R544) CLAIM_IN low for 3 × HB_MS lets a READY bow take over. -/
  | claimLowTimeout
  /-- STROKE_CYCLE_CLOSE (R541) At CMP5, or at 64 MiB of delta, the stroke gathers the cycle's delta and streams it to the bow. -/
  | strokeCycleClose
  /-- DELTA_RX (R542) The bow stages a DELTA frame in its firmware working area. -/
  | deltaRx (hdr : PairHdr) (recs : List DeltaRec)
  /-- END_RX (R542) The bow checks a delta's count and hash, applies it and sends ACK, or discards it and asks for a catch-up. -/
  | endRx (hdr : PairHdr) (count : Nat) (hashOk : Bool)
  /-- ACK_RX (R542) The stroke takes the bow's ACK for a cycle. -/
  | ackRx (hdr : PairHdr)
  /-- STROKE_CYCLE_END (R542) A cycle ends once its ACK has arrived and its closed journal half is programmed, and PAR_CYCLE advances. -/
  | strokeCycleEnd
  /-- JMIR_RX (R543) The bow appends mirrored billing journal entries in order and answers with JACK. -/
  | jmirRx (hdr : PairHdr) (entries : List (Nat × JWhat))
  /-- JACK_RX (R543) The stroke's bookings up to the acknowledged JOURNAL_SEQ become effective. -/
  | jackRx (hdr : PairHdr) (seq : Nat)
  /-- CREDIT_RX (R538) A CREDIT frame grants the sender room in the receiver's queue 15, releasing waiting frames. -/
  | creditRx (hdr : PairHdr) (cells : Nat)
  /-- CREDIT_SEND (R538) At least every 100 µs while cells have freed, the receiver sends a CREDIT frame. -/
  | creditSend
  /-- YIELD_RX (R544) A YIELD from the stroke lets a READY bow take over once CLAIM_IN reads low. -/
  | yieldRx (hdr : PairHdr)
  /-- SWAP_RX (R549) The bow takes a SWAP and sets its claim when CLAIM_IN reads low. -/
  | swapRx (hdr : PairHdr)
  /-- SWAP_TIMEOUT (R549) If the new stroke has not claimed within 50 ms of SWAP, the old stroke reclaims and the swap aborts. -/
  | swapTimeout
  /-- CATCHUP_REQUEST (R546) A bow that is not READY asks the stroke for a catch-up, which streams the full state. -/
  | catchupRequest (hdr : Option PairHdr)
  /-- CATCHUP_RX (R546) The bow applies a CATCHUP frame of the full-state transfer. -/
  | catchupRx (hdr : PairHdr) (recs : List DeltaRec)
  /-- CATCHUP_DONE (R546) At the first cycle end after the catch-up the bow becomes READY and the stroke leaves solo. -/
  | catchupDone
  /-- DRILL_RX (R551) A bow runs the drill step that a DRILL frame asks for. -/
  | drillRx (hdr : PairHdr) (step : Fin 5) (means : List (Nat × Nat × Nat)) (result : Option (Bool × Nat)) (finds : Bool)
  /-- DRILL_WINDOW (R552) At the end of each 60 s window of a drill hold the new stroke's failure shares are judged. -/
  | drillWindow
  /-- DRILL_HOLD_END (R552) After DRILL_HOLD minutes, or on failure, the NVD swaps back. -/
  | drillHoldEnd
  /-- PAIR_LANE_LOSS (R535) A lane without block lock for 1 ms is taken out of service; losing both is link down. -/
  | pairLaneLoss (lane : Fin 2)
  /-- PAIR_LANE_RETURN (R535) A lane with 1 s of clean lock returns to service. -/
  | pairLaneReturn (lane : Fin 2)
  /-- PAIR_FORCE (R547) PAR_CTL with KEY 0x9A1E and FORCE 1 makes a bow that is not READY claim. -/
  | pairForce (val : Word)
  /-- PAR_DELTA_CLEAR (R554) A write to PAR_DELTA clears PEAK. -/
  | parDeltaClear (val : Word)
  /-- ROOT_GENERATE (R283) SEC_ROOT_CTL OP 1 draws a new root from the true random generator. -/
  | rootGenerate (val : Word)
  /-- ROOT_CLONE_SEND (R284) SEC_ROOT_CTL OP 2 wraps the root under the clone key and sends it to the partner. -/
  | rootCloneSend (val : Word)
  /-- ROOT_CLONE_RECV (R284) SEC_ROOT_CTL OP 3 sends a nonce and waits for a wrapped root from the partner. -/
  | rootCloneRecv (val : Word)
  /-- CLONE_FRAME_RX (R284) A keyless CLONE frame carries the nonce or the wrapped root, which the receiver unwraps and takes. -/
  | cloneFrameRx (body : PairBody)
  /-- ROOT_ZEROISE (R283) SEC_ROOT_CTL OP 4 zeroises the root with tamper source HOST. -/
  | rootZeroise (val : Word)
  /-- CLONE_CODE_WRITE (R284) A write to SEC_CLONE_CODE sets the clone code. -/
  | cloneCodeWrite (n : Fin 4) (val : Word)
  /-- CLONE_CODE_VOID (R284) A clone code becomes void 600 s after it is written. -/
  | cloneCodeVoid
  /-- KTK_CLEAR_LOAD (R293) SEC_KTK_CTL OP 1 loads the KTK in clear from the data words. -/
  | ktkClearLoad (val : Word)
  /-- KTK_WRAPPED_LOAD (R293) SEC_KTK_CTL OP 2 unwraps a new KTK under the KTK in force. -/
  | ktkWrappedLoad (val : Word)
  /-- KTK_ERASE (R293) SEC_KTK_CTL OP 3 erases the KTK. -/
  | ktkErase (val : Word)
  /-- TAMPER_LATCH_CLEAR (R290) W1C to TAMPER_LATCH clears it, unless ROOT_VALID is 0. -/
  | tamperLatchClear (val : Word)
  /-- TAMPER_INPUT_TRIP (R286) A TAMPER_INn at its active level for DEBOUNCE periods trips and zeroises the root. -/
  | tamperInputTrip (n : Fin 4)
  /-- TAMPER_MESH_TRIP (R286) Two consecutive mismatched mesh bits trip and zeroise the root. -/
  | tamperMeshTrip
  /-- TAMPER_TEMP_TRIP (R286) A die temperature outside −55 to +140 °C trips and zeroises the root. -/
  | tamperTempTrip (temp : Int)
  /-- TAMPER_VOLTAGE_TRIP (R287) An armed core-voltage excursion trips and zeroises the root. -/
  | tamperVoltageTrip (core sram : Nat)
  /-- TAMPER_BATTERY_TRIP (R282) VBAT below 1.9 V with the main supplies absent zeroises the root. -/
  | tamperBatteryTrip (vbat : Nat)
  /-- TAMPER_ROOT_CLOCK_TRIP (R286) An armed root clock outside its window, or absent for 1 µs, trips and zeroises the root. -/
  | tamperRootClockTrip (khz : Nat)
  /-- AUTH_RATE_WINDOW (R304) At the end of each 60 s window a failure count of RATE_ALARM or more writes a record and posts a TAMPER event. -/
  | authRateWindow
  /-- MET_CH_OUTPUT (R368) A metrology channel produces an output sample with index and stamp, applying any armed swap. -/
  | metChOutput (ch : Fin 24) (bits : Nat) (overload : Bool)
  /-- SWAP_ARM (R372) Writing ARM 1 arms a swap at AT, or at the next output with LATE set; ARM 0 cancels it. -/
  | swapArm (ch : Fin 24) (val : Word)
  /-- MET_TRIM_GAIN_WRITE (R370) A write to MET_CH_TRIM or MET_CH_GAIN takes effect at once while OFF, or becomes pending. -/
  | metTrimGainWrite (ch : Fin 24) (gain : Bool) (val : Word)
  /-- BANK_ACTIVE_WRITE (R371) A write to the active coefficient bank is ignored and sets ACT_WR. -/
  | bankActiveWrite (ch : Fin 24) (word : Fin 97) (val : Word)
  /-- BITSTREAM_STUCK (R359) 256 clocks without a transition make an external channel stuck and output zero. -/
  | bitstreamStuck (ch : Fin 24)
  /-- BITSTREAM_RECOVER (R359) 1,024 clocks with transitions return a stuck channel to normal. -/
  | bitstreamRecover (ch : Fin 24)
  /-- CM_SECOND (R377) Over each whole second of stamps a check meter forms RMS, power and frequency. -/
  | cmSecond (cm : Fin 4)
  /-- CM_INTERVAL_CLOSE (R378) A check-meter interval closes, its record is written and passed to node logs or dropped. -/
  | cmIntervalClose (cm : Fin 4)
  /-- FUNCTION_ENABLE (R631) Writing ENABLE 1 moves a function from OFF to STARTING, or sets PENDING while STOPPING. -/
  | functionEnable (fix : Fin 128) (val : Word)
  /-- FUNCTION_DISABLE (R631) Writing ENABLE 0 stops a function, clears PENDING, or leaves FAILED. -/
  | functionDisable (fix : Fin 128) (val : Word)
  /-- FUNCTION_STARTED (R631) A starting function completes its start and goes to ON, or applies PENDING. -/
  | functionStarted (fix : Fin 128) (nand : NandPart)
  /-- FUNCTION_STOPPED (R631) A stopping function finishes its shut-down and goes to OFF, then STARTING if PENDING. -/
  | functionStopped (fix : Fin 128)
  /-- FUNCTION_START_TIMEOUT (R632) A function not ON within 1 s of STARTING goes to FAILED and reports 0x0F1E. -/
  | functionStartTimeout (fix : Fin 128)
  /-- FUNCTION_RESET (R633) GLB_FUNC_RESET with GO resets one function by its FIX. -/
  | functionReset (val : Word)
  /-- SOFT_RESET (R639) GLB_SOFT_RESET with KEY 0xC0DE and GO resets the device with cause 6. -/
  | softReset (val : Word)
  /-- RESET_N_ASSERT (R617) RESET_N low for 1 µs is latched, and the device commits and resets. -/
  | resetNAssert
  /-- PERST_N_ASSERT (R617) PERST_N low for 1 µs is latched, and the device commits and resets. -/
  | perstNAssert
  /-- PCIE_HOT_RESET (R615) A PCIe hot reset is latched as a device reset with cause 4. -/
  | pcieHotReset
  /-- FLR (R615) A function-level reset is latched as a device reset with cause 5. -/
  | flr
  /-- RESET_RELEASE (R616) When every reset source and PWR_FAIL_N is released, step a of the boot starts. -/
  | resetRelease (resetN perstN : Bool)
  /-- POWER_UP (R616) The last main supply enters range, and the power-on reset is released 1 ms later. -/
  | powerUp (offS : Nat) (cold resetN perstN pwrFailN : Bool)
  /-- BOOT (R620) Steps a and b lock the PLLs, check the ROM, train LPDDR5, scan eMRAM, verify firmware and seed keys. -/
  | boot (env : BootEnv)
  /-- BOOT_RETRY (R622) 10 s after a halt the boot is tried again, with PWR_CYCLE_REQ_N after three halts. -/
  | bootRetry
  /-- RESTORE_DONE (R626) Step g ends with the snapshot loaded and journals replayed, and the line and radio ports autostart. -/
  | restoreDone
  /-- SPARE_INIT_DONE (R621) Inline ECC initialisation of the spare region ends, and the Ledger may use it. -/
  | spareInitDone
  /-- PWR_FAIL_FALL (R42) PWR_FAIL_N falling starts the power-fail commit and sheds load. -/
  | pwrFailFall
  /-- POWER_FAIL_COMMIT_DONE (R42) The commit has programmed the open journal half, staged records, FTL metadata and the queue-14 head. -/
  | powerFailCommitDone (us : Nat)
  /-- PWR_FAIL_RISE (R619) PWR_FAIL_N high for 100 ms after a commit boots the device with cause 1. -/
  | pwrFailRise
  /-- RAIL_TRIP (R667) A main rail below range for 2 µs with PWR_FAIL_N high starts a commit and writes 0x1303. -/
  | railTrip (rails : BitVec 10)
  /-- HOLDUP_SAMPLE (R669) Each VHOLD_SNS sample updates the store energy, and 16 samples the other way change HOLD_LOW. -/
  | holdupSample (mv : BitVec 12)
  /-- PWR_TEMP_CLEAR (R672) A write to PWR_TEMP sets TJ_MAX and TJ_MIN to TJ. -/
  | pwrTempClear (val : Word)
  /-- PLL_LOCK_LOSS (R34) Loss of the main or memory PLL lock after boot raises a Fatal fault. -/
  | pllLockLoss (mem : Bool)
  /-- CORE_WATCHDOG_EXPIRY (R558) A Cox core or the Weigh-in core silent for 100 ms raises a Fatal fault. -/
  | coreWatchdogExpiry (core : Fin 5)
  /-- SRAM_ECC_UNCORRECTED (R24) An uncorrected SRAM error is reported with its array and classified. -/
  | sramEccUncorrected (array : Fin 6)
  /-- LPDDR5_ECC_UNCORRECTED (R558) An uncorrected LPDDR5 error is reported with its region and classified. -/
  | lpddr5EccUncorrected (region : Fin 7) (item : Option (Fin 256 × Nat))
  /-- EMRAM_ECC_UNCORRECTED (R558) An uncorrected eMRAM error at run time is reported as Degraded. -/
  | emramEccUncorrected (area : Fin 5)
  /-- BILLING_ACCESS_REFUSED (R26) An access to the billing extension region by another initiator is refused and raises a Fatal fault. -/
  | billingAccessRefused (initiator : Fin 3)
  /-- JUNCTION_OVERTEMP (R558) Junction temperature above 125 °C is Degraded, above 135 °C Fatal. -/
  | junctionOvertemp (tj : Int)
  /-- FLT_SELF_FAULT (R568) A parity or ECC error in an FLT register enters the safe state and holds FAULT_N low. -/
  | fltSelfFault (reg : BitVec 16)
  /-- FAULT_PULSE_END (R561) 10 to 11 ms after the latest classification the FAULT_N pulse ends. -/
  | faultPulseEnd
  /-- AUTO_RESET_EXPIRY (R566) AUTO_RST seconds after safe-state entry the device resets itself with cause 7. -/
  | autoResetExpiry
  /-- PWR_CYCLE_REQUEST (R563) FLT_PIN_CTRL with KEY 0xF1C7 and CYC_REQ 1 enters the safe state and asserts PWR_CYCLE_REQ_N. -/
  | pwrCycleRequest (val : Word)
  /-- FAULT_N_DRIVE (R562) Writing FLT_PIN_CTRL.DRIVE sets the level of FAULT_N outside a pulse. -/
  | faultNDrive (val : Word)
  /-- DEGRADED_CLEAR (R560) W1C to FLT_STS.DEGRADED clears the latch unless a Degraded condition still holds. -/
  | degradedClear (val : Word)
  /-- EVR_FREEZE (R577) Writing EVR_FREEZE.FREEZE 1 freezes the recorder, and 0 flushes the staged records. -/
  | evrFreeze (val : Word)
  /-- FREEZE_MAX_EXPIRY (R577) FREEZE_MAX seconds after a freeze began it ends and the staged records are flushed. -/
  | freezeMaxExpiry
  /-- EVR_SNAPSHOT_READ (R578) A read of EVR_DATA0 takes a consistent copy of the selected record. -/
  | evrSnapshotRead
  /-- OPTIME_SAVE (R573) Every 60 s the operating time is written to the configuration store. -/
  | optimeSave
  /-- FLT_COUNTER_CLEAR (R588) A write to an FLT class counter clears it. -/
  | fltCounterClear (counter : Fin 5) (val : Word)
  /-- ACTIVATION_RESET (R597) A paused activation places LPDDR5 in self-refresh, writes the retention mark and resets with cause 6. -/
  | activationReset
  /-- HITLESS_STEP (R598) A hitless activation advances to its next step once the previous has completed. -/
  | hitlessStep
  /-- HITLESS_STOP (R599) A hitless activation stops with record 0x1106 on a failed image, swap, fault or readiness timeout. -/
  | hitlessStop
  /-- PAIR_IMAGE_RX (R601) Keyless IMAGE frames carry a firmware package to a bow or a recovering partner. -/
  | pairImageRx (pause : Bool) (offset total : Nat) (bytes : List Byte)
  /-- TFTP_RECOVERY_READ (R601) In recovery the loader reads nvd1048.img by TFTP, retrying a stalled read after 5 s. -/
  | tftpRecoveryRead (block : Option (List Byte))
  /-- RECOVERY_INSTALL (R601) A complete verified recovery package is written to both regions and the device resets into a normal boot. -/
  | recoveryInstall
  /-- IMAGE_WINDOW_OPEN (R606) At the window start a campaign's blocks and control steps may travel. -/
  | imageWindowOpen (grp : Fin 4096)
  /-- IMAGE_WINDOW_CLOSE (R606) At the window end a campaign stops and keeps its pass position. -/
  | imageWindowClose (grp : Fin 4096)
  /-- IMAGE_PASS_START (R608) One heat period after the previous pass, a port starts a broadcast pass of image blocks. -/
  | imagePassStart (grp : Fin 4096) (port : Fin 7) (fdx : Fin 1024)
  /-- MAIN_SUPPLY_LOSS (R663) The main supplies fall; the battery domain switches to VBAT within 1 µs, PWR_CYCLE_REQ_N is released and operating time stops counting. -/
  | mainSupplyLoss
  /-- RTC_OSCILLATOR_STOP (R655) After four missing RTC crystal cycles the oscillator counts as stopped, RTC_RUN clears and the RTC becomes invalid. -/
  | rtcOscillatorStop
  /-- RADIO_TX_END (R246) A radio transmission ends: the transmit lanes return to zero samples, RDn_IQ_TXEN falls, the RX script plays and the duty count takes the frame. -/
  | radioTxEnd (port : Fin 4)
  /-- TRANSACTION_DEADLINE (R88) The deadline of a READ or WRITE descriptor passes before the transaction ends, and it completes with DEADLINE. -/
  | transactionDeadline (pair : Fin 64)
  /-- ORDER_DEADLINE (R490) A field device's ORDER that has not started by its deadline is answered with ORDER_DONE RESULT 2. -/
  | orderDeadline (order : Word)
  /-- SNAPSHOT_COMPLETE (R132) A NAND snapshot of the context table and billing extensions finishes and becomes the latest complete snapshot, releasing older journal and snapshot data. -/
  | snapshotComplete
  /-- FAULT_HIST_SNAPSHOT_READ (R586) A read of FLT_HIST_DATA0 takes a consistent copy of the selected history entry for the other words. -/
  | faultHistSnapshotRead
  /-- MET_SAMPLE_SNAPSHOT_READ (R368) A read of MET_CH_SMP_LO takes a consistent snapshot of the latest index and its stamp. -/
  | metSampleSnapshotRead (ch : Fin 24)
  /-- CM_LAST_SNAPSHOT_READ (R391) A read of word 0 of MET_CM_LAST takes a consistent snapshot of the latest interval record. -/
  | cmLastSnapshotRead (cm : Fin 4)
  /-- NODE_DATA_SNAPSHOT_READ (R355) A read of word 8 of LDG_NODE_DATA takes a consistent snapshot of words 8 to 31. -/
  | nodeDataSnapshotRead
  deriving DecidableEq, Repr

end Sys2Proof
end

