-- ==== Sys2Proof/Machine/Codec.lean ====
section
/-! DEFINITION. Sys2Proof/Machine/Codec.lean: the check codes of the spec: CRC-8, CRC-16, CRC-32. -/

namespace Sys2Proof.Machine

/-- One bit of a CRC register of `w` bits, most significant bit first. -/
def crcBit (w poly c : Nat) (b : Bool) : Nat :=
  let top := bitAt c (w - 1)
  let s := (2 * c) % 2 ^ w
  if top != b then s ^^^ poly else s

/-- One byte, most significant bit first. -/
def crcByte (w poly c : Nat) (b : Byte) : Nat :=
  (List.range 8).foldl (fun a i => crcBit w poly a (bitAt b.toNat (7 - i))) c

/-- A CRC without reflection and without a final complement. -/
def crcMsb (w poly init : Nat) (bs : List Byte) : Nat := bs.foldl (crcByte w poly) init

/-- The CRC-16 of R572: x^16 + x^12 + x^5 + 1, initial value 0xFFFF. -/
def crc16 (bs : List Byte) : Nat := crcMsb 16 0x1021 0xFFFF bs

/-- The CRC-8 of R401: x^8 + x^2 + x + 1, initial value 0. -/
def crc8 (bs : List Byte) : Nat := crcMsb 8 0x07 0 bs

/-- One byte of the reflected CRC-32 (polynomial 0xEDB88320). -/
def crc32Byte (c : Nat) (b : Byte) : Nat :=
  (List.range 8).foldl (fun a _ => if a % 2 = 1 then (a / 2) ^^^ 0xEDB88320 else a / 2) (c ^^^ b.toNat)

/-- CRC-32, the CRC of IEEE 802.3: initial value and final complement 0xFFFFFFFF. -/
def crc32 (bs : List Byte) : Nat := (bs.foldl crc32Byte 0xFFFFFFFF) ^^^ 0xFFFFFFFF

/-- Bytes of words, little-endian. -/
def wordsBytes (ws : List Nat) : List Byte := ws.flatMap (leBytes 4)

/-- Words of bytes, little-endian, with fuel. -/
def bytesWords (bs : List Byte) : List Nat := (chunks 4 (bs.length + 1) bs).map leNat

end Sys2Proof.Machine
end

