-- ==== Sys2Proof/Machine/Crypto.lean ====
section
/-! DEFINITION. Sys2Proof/Machine/Crypto.lean: the cryptographic primitives that R275 to R309 name: AES, AES-CMAC, the
counter-mode KDF of NIST SP 800-108, AES-KW (RFC 3394), SHA-256, HMAC-SHA-256 and SHA-384. -/

namespace Sys2Proof.Machine

/-! ## AES -/

/-- Doubling in the field of AES. -/
def gfDouble (a : Nat) : Nat := if a < 128 then 2 * a else (2 * a) ^^^ 0x11B

/-- A bit of a number. -/
def bitN (a i : Nat) : Nat := a / 2 ^ i % 2

/-- One step of the reduction by the polynomial of AES: bit `8 + k` goes. -/
def gfFold (p k : Nat) : Nat := p ^^^ (bitN p (8 + k) * (0x11B * 2 ^ k))

/-- A product in the field of AES: the carry-less product of two bytes, reduced. -/
def gfMul (a b : Nat) : Nat :=
  let p := (bitN b 0 * a) ^^^ (bitN b 1 * (2 * a)) ^^^ (bitN b 2 * (4 * a)) ^^^ (bitN b 3 * (8 * a))
    ^^^ (bitN b 4 * (16 * a)) ^^^ (bitN b 5 * (32 * a)) ^^^ (bitN b 6 * (64 * a)) ^^^ (bitN b 7 * (128 * a))
  gfFold (gfFold (gfFold (gfFold (gfFold (gfFold (gfFold p 6) 5) 4) 3) 2) 1) 0

/-- A square in the field of AES. -/
def gfSq (a : Nat) : Nat := gfMul a a

/-- The inverse in the field of AES: the 254th power; 0 for 0. -/
def gfInv (a : Nat) : Nat :=
  let a2 := gfSq a
  let a3 := gfMul a2 a
  let a12 := gfSq (gfSq a3)
  let a15 := gfMul a12 a3
  let a240 := gfSq (gfSq (gfSq (gfSq a15)))
  gfMul (gfMul a240 a12) a2

/-- A byte turned left. -/
def rotl8 (b n : Nat) : Nat := (b * 2 ^ n) % 256 + b / 2 ^ (8 - n)

/-- The substitution of AES. -/
def aesSub (b : Nat) : Nat :=
  let i := gfInv b
  i ^^^ rotl8 i 1 ^^^ rotl8 i 2 ^^^ rotl8 i 3 ^^^ rotl8 i 4 ^^^ 0x63

/-- The inverse substitution. -/
def aesUnsub (b : Nat) : Nat :=
  let x := b ^^^ 0x63
  gfInv (rotl8 x 1 ^^^ rotl8 x 3 ^^^ rotl8 x 6)

/-- Bytes combined by exclusive or. -/
def xorBytes (a b : List Nat) : List Nat := List.zipWith (· ^^^ ·) a b

/-- The next word of a key schedule: words so far, newest first; `nk` words in the key. -/
def keyWord (nk : Nat) (ws : List (List Nat)) : List Nat :=
  let i := ws.length
  let t := ws.headD []
  let rcon := (List.range (i / nk - 1)).foldl (fun a _ => gfDouble a) 1
  let t' :=
    if i % nk = 0 then xorBytes ((t.drop 1 ++ t.take 1).map aesSub) [rcon, 0, 0, 0]
    else if 6 < nk ∧ i % nk = 4 then t.map aesSub else t
  xorBytes (ws.getD (nk - 1) []) t'

/-- The round keys of an AES key, 16 bytes each. -/
def aesKeys (key : List Byte) : List (List Nat) :=
  let nk := key.length / 4
  let w0 := (chunks 4 8 (key.map (·.toNat))).reverse
  let ws := ((List.range (4 * (nk + 7) - nk)).foldl (fun ws _ => keyWord nk ws :: ws) w0).reverse
  (chunks 4 16 ws).map List.flatten

/-- Rows shifted: output byte `i` is input byte `(5 * i) mod 16`, for a column-first state. -/
def shiftRows (s : List Nat) : List Nat := (List.range 16).map (fun i => s.getD ((5 * i) % 16) 0)

/-- Rows shifted back. -/
def unshiftRows (s : List Nat) : List Nat := (List.range 16).map (fun i => s.getD ((13 * i) % 16) 0)

/-- Columns mixed by four coefficients. -/
def mixCols (c : List Nat) (s : List Nat) : List Nat :=
  (List.range 16).map (fun i =>
    (List.range 4).foldl (fun a j => a ^^^ gfMul (s.getD (4 * (i / 4) + j) 0) (c.getD ((j + 4 - i % 4) % 4) 0)) 0)

/-- One block of AES enciphered. -/
def aesEnc (key block : List Byte) : List Byte :=
  let ks := aesKeys key
  let n := ks.length - 1
  let s0 := xorBytes (block.map (·.toNat)) (ks.headD [])
  let s := (List.range n).foldl (fun s r =>
    let t := shiftRows (s.map aesSub)
    xorBytes (if r + 1 < n then mixCols [2, 3, 1, 1] t else t) (ks.getD (r + 1) [])) s0
  s.map (BitVec.ofNat 8)

/-- One block of AES deciphered. -/
def aesDec (key block : List Byte) : List Byte :=
  let ks := (aesKeys key).reverse
  let n := ks.length - 1
  let s0 := xorBytes (block.map (·.toNat)) (ks.headD [])
  let s := (List.range n).foldl (fun s r =>
    let t := xorBytes ((unshiftRows s).map aesUnsub) (ks.getD (r + 1) [])
    if r + 1 < n then mixCols [14, 11, 13, 9] t else t) s0
  s.map (BitVec.ofNat 8)

/-! ## CMAC and the KDF (R275) -/

/-- Doubling of a 16-byte block, as AES-CMAC doubles its subkeys. -/
def cmacDouble (b : List Byte) : List Byte :=
  let v := beNat b
  beBytes 16 (if v < 2 ^ 127 then 2 * v else ((2 * v) % 2 ^ 128) ^^^ 0x87)

/-- Exclusive or of byte strings. -/
def xorB (a b : List Byte) : List Byte := List.zipWith (· ^^^ ·) a b

/-- AES-CMAC. -/
def cmac (key msg : List Byte) : List Byte :=
  let k1 := cmacDouble (aesEnc key (List.replicate 16 0))
  let bs := if msg.isEmpty then [[]] else chunks 16 (msg.length + 1) msg
  let final := bs.getLastD []
  let y := if final.length = 16 then xorB final k1
    else xorB (padTo 16 (final ++ [0x80])) (cmacDouble k1)
  let x := bs.dropLast.foldl (fun x m => aesEnc key (xorB x m)) (List.replicate 16 0)
  aesEnc key (xorB x y)

/-- The bytes of an ASCII label. -/
def ascii (s : String) : List Byte := s.toList.map (fun c => BitVec.ofNat 8 c.toNat)

/-- The KDF of R275: `bits` of output. -/
def kdf (parent : List Byte) (label : String) (context : List Byte) (bits : Nat) : List Byte :=
  (((List.range (ceilDiv bits 128)).flatMap (fun i =>
    cmac parent ([BitVec.ofNat 8 (i + 1)] ++ ascii label ++ [0] ++ context ++ beBytes 2 bits))).take (bits / 8))

/-- The key check value of R277. -/
def kcv (key : List Byte) : List Byte := (cmac key (List.replicate 16 0)).take 8

/-! ## AES-XTS (IEEE 1619) -/

/-- Doubling of a tweak, byte 0 lowest. -/
def xtsDouble (b : List Byte) : List Byte :=
  let v := beNat b.reverse
  leBytes 16 (if v < 2 ^ 127 then 2 * v else ((2 * v) % 2 ^ 128) ^^^ 0x87)

/-- The blocks of a data unit under a running tweak. -/
def xtsBlocks (key : List Byte) : List Byte → List (List Byte) → List Byte
  | _, [] => []
  | t, b :: l => xorB (aesEnc key (xorB b t)) t ++ xtsBlocks key (xtsDouble t) l

/-- A data unit of whole blocks under AES-XTS; a tweak below 16 bytes is followed by zeros. -/
def xtsEnc (key key2 tweak data : List Byte) : List Byte :=
  xtsBlocks key (aesEnc key2 (padTo 16 tweak)) (chunks 16 (data.length + 1) data)

/-! ## AES-KW (RFC 3394) -/

/-- The initial value of AES-KW. -/
def kwIv : List Byte := List.replicate 8 0xA6

/-- Wrap a key of `n` 8-byte blocks. -/
def kwWrap (kek key : List Byte) : List Byte :=
  let n := key.length / 8
  let r := (List.range (6 * n)).foldl (fun (st : List Byte × List (List Byte)) t =>
    let i := t % n
    let b := aesEnc kek (st.1 ++ st.2.getD i [])
    (xorB (b.take 8) (beBytes 8 (t + 1)), st.2.set i (b.drop 8))) (kwIv, chunks 8 (n + 1) key)
  r.1 ++ r.2.flatten

/-- Unwrap a wrapped key; none where the check fails. -/
def kwUnwrap (kek w : List Byte) : Option (List Byte) :=
  let n := w.length / 8 - 1
  let r := (List.range (6 * n)).foldl (fun (st : List Byte × List (List Byte)) u =>
    let t := 6 * n - 1 - u
    let i := t % n
    let b := aesDec kek (xorB st.1 (beBytes 8 (t + 1)) ++ st.2.getD i [])
    (b.take 8, st.2.set i (b.drop 8))) (w.take 8, chunks 8 (n + 1) (w.drop 8))
  if r.1 = kwIv then some r.2.flatten else none

/-! ## SHA-256 and HMAC -/

/-- The first `n` primes. -/
def primes (n : Nat) : List Nat :=
  ((List.range 420).filter (fun p => 2 ≤ p && (List.range p).all (fun q => q < 2 || p % q ≠ 0))).take n

/-- The largest number whose cube is at most `n`, by bits from `b` down. -/
def icbrt (b n : Nat) : Nat :=
  ((List.range b).reverse).foldl (fun r i => if (r + 2 ^ i) ^ 3 ≤ n then r + 2 ^ i else r) 0

/-- The round constants: the first 32 bits of the fractions of the cube roots of the first 64 primes. -/
def shaK : List Word := (primes 64).map (fun p => BitVec.ofNat 32 (icbrt 36 (p * 2 ^ 96)))

/-- The initial hash: the same of the square roots of the first 8 primes. -/
def shaInit : List Word := (primes 8).map (fun p => BitVec.ofNat 32 (isqrt (p * 2 ^ 64)))

/-- A word turned right. -/
def rotr32 (x : Word) (n : Nat) : Word := x.rotateRight n

/-- The message schedule: words so far, newest first, and the next. -/
def shaSchedule (ws : List Word) : List Word :=
  let a := ws.getD 14 0
  let b := ws.getD 1 0
  let s0 := rotr32 a 7 ^^^ rotr32 a 18 ^^^ (a >>> 3)
  let s1 := rotr32 b 17 ^^^ rotr32 b 19 ^^^ (b >>> 10)
  (ws.getD 15 0 + s0 + ws.getD 6 0 + s1) :: ws

/-- One round of SHA-256. -/
def shaRound (h : List Word) (kw : Word) : List Word :=
  match h with
  | [a, b, c, d, e, f, g, z] =>
    let s1 := rotr32 e 6 ^^^ rotr32 e 11 ^^^ rotr32 e 25
    let ch := (e &&& f) ^^^ (~~~e &&& g)
    let t1 := z + s1 + ch + kw
    let s0 := rotr32 a 2 ^^^ rotr32 a 13 ^^^ rotr32 a 22
    let maj := (a &&& b) ^^^ (a &&& c) ^^^ (b &&& c)
    [t1 + s0 + maj, a, b, c, d + t1, e, f, g]
  | _ => h

/-- One 64-byte block. -/
def shaBlock (h : List Word) (block : List Byte) : List Word :=
  let w0 := ((chunks 4 17 block).map (fun b => BitVec.ofNat 32 (beNat b))).reverse
  let ws := ((List.range 48).foldl (fun ws _ => shaSchedule ws) w0).reverse
  let r := (List.zipWith (· + ·) shaK ws).foldl shaRound h
  List.zipWith (· + ·) h r

/-- SHA-256. -/
def sha256 (msg : List Byte) : List Byte :=
  let n := msg.length
  let padded := msg ++ [0x80] ++ List.replicate ((119 - n % 64) % 64) 0 ++ beBytes 8 (8 * n)
  ((chunks 64 (padded.length + 1) padded).foldl shaBlock shaInit).flatMap (fun w => beBytes 4 w.toNat)

/-- HMAC-SHA-256 under a key of at most 64 bytes. -/
def hmac (key msg : List Byte) : List Byte :=
  let k := padTo 64 key
  sha256 (k.map (· ^^^ 0x5C) ++ sha256 (k.map (· ^^^ 0x36) ++ msg))

/-! ## SHA-384 (R279, R589) -/

/-- The round constants: 64 bits of the fractions of the cube roots of the first 80 primes. -/
def sha5K : List Quad := (primes 80).map (fun p => BitVec.ofNat 64 (icbrt 68 (p * 2 ^ 192)))

/-- The initial hash of SHA-384: the same of the square roots of the ninth to the sixteenth prime. -/
def sha384Init : List Quad := ((primes 16).drop 8).map (fun p => BitVec.ofNat 64 (isqrt (p * 2 ^ 128)))

/-- The message schedule: words so far, newest first, and the next. -/
def sha5Schedule (ws : List Quad) : List Quad :=
  let a := ws.getD 14 0
  let b := ws.getD 1 0
  let s0 := a.rotateRight 1 ^^^ a.rotateRight 8 ^^^ (a >>> 7)
  let s1 := b.rotateRight 19 ^^^ b.rotateRight 61 ^^^ (b >>> 6)
  (ws.getD 15 0 + s0 + ws.getD 6 0 + s1) :: ws

/-- One round on 64-bit words. -/
def sha5Round (h : List Quad) (kw : Quad) : List Quad :=
  match h with
  | [a, b, c, d, e, f, g, z] =>
    let s1 := e.rotateRight 14 ^^^ e.rotateRight 18 ^^^ e.rotateRight 41
    let t1 := z + s1 + ((e &&& f) ^^^ (~~~e &&& g)) + kw
    let s0 := a.rotateRight 28 ^^^ a.rotateRight 34 ^^^ a.rotateRight 39
    [t1 + s0 + ((a &&& b) ^^^ (a &&& c) ^^^ (b &&& c)), a, b, c, d + t1, e, f, g]
  | _ => h

/-- One 128-byte block. -/
def sha5Block (h : List Quad) (block : List Byte) : List Quad :=
  let w0 := ((chunks 8 17 block).map (fun b => BitVec.ofNat 64 (beNat b))).reverse
  let ws := ((List.range 64).foldl (fun ws _ => sha5Schedule ws) w0).reverse
  List.zipWith (· + ·) h ((List.zipWith (· + ·) sha5K ws).foldl sha5Round h)

/-- SHA-384. -/
def sha384 (msg : List Byte) : List Byte :=
  let n := msg.length
  let padded := msg ++ [0x80] ++ List.replicate ((239 - n % 128) % 128) 0 ++ beBytes 16 (8 * n)
  (((chunks 128 (padded.length + 1) padded).foldl sha5Block sha384Init).flatMap (fun w => beBytes 8 w.toNat)).take 48

end Sys2Proof.Machine
end

