-- ==== Sys2Proof/Config.lean ====
section
/-! DEFINITION. Sys2Proof/Config.lean: what an implementation fixes and the spec leaves open. Each free value is an opaque
function of the number that the step takes from `Dev.freeCtr` (or of the operands it depends on): nothing can be proved of it. -/

namespace Sys2Proof.Config

/-- A byte that the spec leaves open. -/
opaque free8 : Nat → BitVec 8

/-- A 32-bit value that the spec leaves open. -/
opaque free32 : Nat → BitVec 32

/-- A 64-bit value that the spec leaves open. -/
opaque free64 : Nat → BitVec 64

/-- A draw of the true random generator (R115, R283, R284, R290, R492). -/
opaque random : Nat → BitVec 256

/-- The keyed hash of the lookup table (R115 does not give it): seed, KIND, address, and which of the two candidate buckets. -/
opaque keyHash : BitVec 128 → Nat → Nat → Bool → BitVec 32

/-- Words 4 to 6 of a fault record: the source's own data, which R571 does not lay out. -/
opaque sourceData : Nat → Nat → BitVec 32

/-- The PCIe vendor ID: Obboken Devices' assigned identifier, which R57 does not give as a number. -/
opaque vendorId : BitVec 16

/-- The PCIe revision ID, which the spec does not give. -/
opaque revisionId : BitVec 8

/-- The device's serial number (R308, R533): each part has its own. -/
opaque serial : Nat → BitVec 64

/-- The set of the key cache in which an entry lies (R306 does not say which): entry type, MIX or GRP, generation. -/
opaque keySet : Nat → Nat → Nat → BitVec 13

/-- A 32-bit billing register after a booking or a closure whose result does not fit it: R408 and R409 state no result. By the
journal sequence, so both devices of a pair hold the same. -/
opaque overflow : Nat → BitVec 32

/-- LOG_TAIL: where a log tail lies in the Ledger working area (R105, R330 do not lay the area out), by MIX and LOG_SEQ. -/
opaque logTail : Nat → Nat → BitVec 32


/-- The upper limit of the response delay of EN 13757-4 by mode code (R239, R257), and the lower one (R246), µs: figures of that standard. -/
opaque wmbLatest : Nat → BitVec 32

/-- The lower limit of the response delay of EN 13757-4 by mode code (R246), µs. -/
opaque wmbEarliest : Nat → BitVec 32

/-- The unit in the last place that the FIR adds to the floor of its sum (R366 states no rounding), by the sum. -/
opaque firRound : Int → BitVec 1

/-- The coefficient a of the high-pass filter, in units of 2^-32 (R362 gives its corner, not its value): f_out in mS/s. -/
opaque hpPole : Nat → BitVec 32

/-- The unit in the last place that the high-pass filter adds to the floor of a product (R362 states no rounding), by the product. -/
opaque hpRound : Int → BitVec 1

/-- The unit in the last place that the normaliser adds to the floor of its product (R362 states no rounding), by the product. -/
opaque normRound : Int → BitVec 1

/-- The fine delay's interpolation (R369 states its accuracy, not its method): FINE, D_cic, the normaliser's latest 32 outputs, newest
first. -/
opaque fineDelay : Nat → Nat → List Int → BitVec 32

/-- The output of a half-band filter from its 27 latest inputs, newest first (R365 gives its response, not its coefficients). -/
opaque halfBand : List Int → BitVec 32

/-- A bit of a channel's delay line that its modulator has not written since the channel left OFF (R369): channel, clocks before its first. -/
opaque emptyLine : Nat → Nat → Bool

/-- The outputs that a trim change takes to settle, which the NVD computes from the ratio (R373), by the word of MET_CH_RATIO. -/
opaque settle : Nat → BitVec 16

/-- A voltage interpolated between two samples (R376 states no method), at a fraction in 1/65536 from the first. -/
opaque interpolate : Int → Int → Nat → BitVec 32

/-- Where between two samples V1 crosses zero (R376, R377 state no method), in 1/65536 of the sample period. -/
opaque crossing : Int → Int → BitVec 16

/-- The unit in the last place that a register of the hold-up monitor adds to the floor of its value (R669, R672 state no rounding), by the
exact numerator. -/
opaque holdRound : Nat → BitVec 1

/-- The code with which w4 of 0x0D85 names a reason of R520 (it numbers none): 1 key lost, 2 identifiers differ, 3 no format. -/
opaque mountReason : Nat → BitVec 32

/-- ROM_DIGEST: the SHA-256 of the boot ROM, fused at manufacture (R279, R620). -/
opaque romDigest : Nat → BitVec 256

/-- The SHA-256 fingerprint of each of the four signing keys in the ROM (R279). -/
opaque signerKey : Nat → BitVec 256

/-- Whether a signature of a package verifies under the key of a signer (R279, R589): ECDSA P-384 is left uninterpreted. -/
opaque signatureGood : Nat → List (BitVec 8) → List (BitVec 8) → Bool

/-- A uniform draw of a backoff, a listen span or a wait (R214, R248): by the number of the draw; taken modulo the count of values. -/
opaque draw : Nat → BitVec 32

/-- The fixed BPSK pattern of a Sculler preamble symbol, by carrier (R179 does not give it). -/
opaque preamble : Nat → Bool

/-- The rate 1/2 code of frame control (R180 does not name it). -/
opaque fcCode : BitVec 24 → BitVec 48

/-- Which coded bits the puncturing to a rate keeps (R182 gives no pattern): rate code, index. -/
opaque punctureKeeps : Nat → Nat → Bool

/-- The interleaver of a symbol of n bits (R182 gives no permutation). -/
opaque interleaver : (n : Nat) → Equiv.Perm (Fin n)

/-- The 32-bit frame check sequence of a Sculler frame (R183 gives no polynomial). -/
opaque frameCheck : List Bool → BitVec 32

/-- Sample n of the inverse transform of 512 bins, as a DAC code (R178 gives no scale or rounding). -/
opaque inverseFft : List (Int × Int) → Nat → BitVec 16

/-- The gain, 6 dB steps, that tracks a line port's noise floor (R187): port, CLK_FAB cycle. -/
opaque noiseGain : Nat → Nat → BitVec 3

/-- T_sym of a compatible plan, ns, as ITU-T G.9903 gives it (R176). -/
opaque g3Sym : Nat → BitVec 32

/-- T_pre of a compatible plan, ns (R176). -/
opaque g3Pre : Nat → BitVec 32

/-- bits_per_symbol of a compatible plan under a modulation and a tone map (R176): plan, modulation, tones. -/
opaque g3Bits : Nat → Nat → Nat → BitVec 16

/-- Symbols after the preamble of a compatible frame: plan, bytes, bits_per_symbol. -/
opaque g3Count : Nat → Nat → Nat → BitVec 16

/-- The tone map with which the NVD answers a compatible neighbour (R177): plan and the SNR of each tone; one of the modulations ROBO 0, DBPSK
1, DQPSK 2, D8PSK 3, never a coherent one; the tones used; the transmit gain asked for. -/
opaque g3Map : Nat → List Int → BitVec 2 × BitVec 24 × BitVec 8

/-- A contention slot of a compatible plan, ns, and the slots of its high-priority window (R210, R213). -/
opaque g3Slot : Nat → BitVec 32

/-- Slots of the high-priority window of ITU-T G.9903 (R210). -/
opaque g3HpSlots : BitVec 8

/-- A receive chain of a line port is decoding a frame (R204, RX_BUSY), which the model takes whole at its end: port, plan, CLK_FAB cycle. -/
opaque chainBusy : Nat → Nat → Nat → Bool

/-- How long a compatible frame's sender waits for the acknowledgement, ns (R210): plan. -/
opaque g3AckWait : Nat → BitVec 32

/-- The NVD's EUI-64 (R266). -/
opaque nvdEui : BitVec 64

/-- The generation of a port's group master key that its frames use (R234, R278 give no rule for it). -/
opaque gmkGen : Nat → BitVec 8

/-- Fragments of the adaptation layer that a compatible frame of some bytes needs, less one (R234). -/
opaque g3Fragments : Nat → Nat → BitVec 8

/-- The on-air time up to the end of the SFD of a SUN-OFDM frame, ns, by its bytes (R247, R252). -/
opaque ofdmSfd : Nat → BitVec 32

/-- The noise floor in a band of a line port, dBµV at the receive tap (R205): port, plan, CLK_FAB cycle of the read. -/
opaque noise : Nat → Nat → Nat → BitVec 8

/-- The round trip that a head end shows for a field device, µs (R499): field device, second of the latest frame. How it is measured the spec
does not say. -/
opaque roundTrip : Nat → Nat → BitVec 32

/-- The busy share of a Cox core over the latest second, % (R640): core, CLK_FAB cycle of the read; taken modulo 101. -/
opaque coxLoad : Nat → Nat → BitVec 8

end Sys2Proof.Config
end

