-- ==== Sys2Proof/Machine/RegMap.lean ====
section
/-! DEFINITION. Sys2Proof/Machine/RegMap.lean: the registers of BAR0 as the spec's register tables give them (R17 to R20, R51
and each block's tables): offset, instances, and for each field its place, access code, reset value, legal range and
whether the configuration store keeps it. Fields whose range depends on another field get their further clamp in RegFile.lean. -/

namespace Sys2Proof.Machine

/-- Access codes of R19. `cnt` is the RW counter of R137: it saturates, and a write of any value clears it. -/
inductive Acc where
 | rw | ro | w1c | w1s | wo | rwl | cnt
 deriving DecidableEq, Repr

/-- The clamp of a field (R20): to the nearest legal value, signed or not, or a reserved code to its default. -/
inductive Lim where
 | any
 | near (lo hi : Nat)
 | snear (lo hi : Int)
 | enum (lo hi dflt : Nat)
 deriving DecidableEq, Repr

/-- One field of a register: `offOnly` marks a field whose write takes effect only while its function is OFF. -/
structure Fld where
 lo : Nat
 len : Nat
 acc : Acc
 reset : Nat
 lim : Lim
 stored : Bool
 offOnly : Bool
 deriving DecidableEq, Repr

/-- One register or register array: `fix` is the function index (R630) of instance 0, if its
instances are functions; a table of words side by side belongs whole to that function. -/
structure RegDef where
 name : String
 off : Nat
 stride : Nat
 count : Nat
 fix : Option Nat
 flds : List Fld
 deriving DecidableEq, Repr

/-- A field by name, for the meanings: offset of instance 0, distance of instances, place. -/
structure F where
 off : Nat
 stride : Nat
 lo : Nat
 len : Nat
 deriving DecidableEq, Repr

/-- A field that software writes. -/
def rwF (lo len reset : Nat) (lim : Lim := .any) : Fld := ⟨lo, len, .rw, reset, lim, false, false⟩
/-- A field that software writes while the lock is open. -/
def rwlF (lo len reset : Nat) (lim : Lim := .any) : Fld := ⟨lo, len, .rwl, reset, lim, false, false⟩
/-- A read-only field. -/
def roF (lo len reset : Nat) : Fld := ⟨lo, len, .ro, reset, .any, false, false⟩
/-- A write-only field. -/
def woF (lo len : Nat) : Fld := ⟨lo, len, .wo, 0, .any, false, false⟩
/-- A write-1-to-clear field. -/
def w1cF (lo len reset : Nat) : Fld := ⟨lo, len, .w1c, reset, .any, false, false⟩
/-- A write-1-to-set field. -/
def w1sF (lo len reset : Nat) : Fld := ⟨lo, len, .w1s, reset, .any, false, false⟩
/-- A counter (R137). -/
def cntF (lo len reset : Nat) : Fld := ⟨lo, len, .cnt, reset, .any, false, false⟩
/-- The field is kept in the configuration store. -/
def Fld.st (f : Fld) : Fld := { f with stored := true }
/-- A write of the field takes effect only while the function is OFF. -/
def Fld.offo (f : Fld) : Fld := { f with offOnly := true }

/-- The registers of block GLB. -/
def regsGLB : List RegDef := [
  ⟨"GLB_ID", 0, 0, 1, none, [roF 16 16 0x1048, roF 12 4 1, roF 0 4 1]⟩,  -- R11
  ⟨"GLB_ROLE_CFG", 0x10, 0, 1, none, [(rwlF 0 2 0 (.enum 0 2 0)).st]⟩,  -- R12
  ⟨"GLB_ROLE_STS", 0x14, 0, 1, none, [roF 2 1 0, roF 0 2 0]⟩,  -- R13
  ⟨"GLB_CFG_LOCK", 0x18, 0, 1, none, [w1sF 0 1 0]⟩,  -- R639
  ⟨"GLB_CLK_STS", 0x20, 0, 1, none, [roF 7 1 0, roF 6 1 0, roF 5 1 0, roF 4 1 0, roF 3 1 0, roF 2 1 0, roF 1 1 0, w1cF 0 1 0]⟩,  -- R33
  ⟨"GLB_RST_CAUSE", 0x30, 0, 1, none, [roF 7 1 0, roF 0 4 0]⟩,  -- R639
  ⟨"GLB_SOFT_RESET", 0x34, 0, 1, none, [woF 16 16, woF 0 1]⟩,  -- R639
  ⟨"GLB_FUNC_RESET", 0x38, 0, 1, none, [woF 8 1, woF 0 8]⟩,  -- R639
  ⟨"GLB_BOOT_STS", 0x3C, 0, 1, none, [roF 31 1 0, roF 30 1 0, roF 20 4 0, roF 0 9 0]⟩,  -- R639
  ⟨"GLB_STEP_TIME", 0x80, 4, 9, none, [roF 0 32 0]⟩,  -- R639
  ⟨"GLB_FUNC_STATE", 0x100, 4, 16, none, [roF 0 32 0]⟩,  -- R639
  ⟨"GLB_FUNC_BLOCKED", 0x140, 4, 4, none, [roF 0 32 0]⟩,  -- R639
  ⟨"GLB_AUTO_EN", 0x150, 4, 4, none, [(rwlF 0 32 0).st]⟩]  -- R639

/-- The registers of block RNG. -/
def regsRNG : List RegDef := [
  ⟨"RNG_PAIR_CFG", 0x10000, 0x40, 64, some 64, [rwF 31 1 0, (rwF 30 1 0).offo, rwF 24 3 0, rwF 16 7 0, (rwF 8 5 4 (.near 4 16)).offo, (rwF 0 5 4 (.near 4 16)).offo]⟩,  -- R61
  ⟨"RNG_SUB_BASE_LO", 0x10004, 0x40, 64, some 64, [(rwF 6 26 0).offo]⟩,
  ⟨"RNG_SUB_BASE_HI", 0x10008, 0x40, 64, some 64, [(rwF 0 32 0).offo]⟩,
  ⟨"RNG_CMP_BASE_LO", 0x1000C, 0x40, 64, some 64, [(rwF 6 26 0).offo]⟩,
  ⟨"RNG_CMP_BASE_HI", 0x10010, 0x40, 64, some 64, [(rwF 0 32 0).offo]⟩,
  ⟨"RNG_PAIR_STS", 0x10014, 0x40, 64, some 64, [roF 29 3 0, roF 28 1 0, roF 27 1 0, w1cF 26 1 0, w1cF 25 1 0, w1cF 24 1 0, w1cF 23 1 0]⟩,  -- R64
  ⟨"RNG_PAIR_PTR", 0x10018, 0x40, 64, some 64, [roF 16 16 0, roF 0 16 0]⟩,  -- R65
  ⟨"RNG_IRQ_MOD", 0x1001C, 0x40, 64, some 64, [rwF 24 8 1 (.near 1 255), rwF 0 16 0]⟩,  -- R101
  ⟨"RNG_EVT_MASK", 0x10020, 0x40, 64, some 64, [rwF 11 1 0, rwF 10 1 0, rwF 9 1 0, rwF 8 1 0, rwF 7 1 0, rwF 6 1 0, rwF 5 1 0, rwF 4 1 0, rwF 3 1 0, rwF 2 1 0, rwF 1 1 0, rwF 0 1 0]⟩,  -- R98
  ⟨"RNG_PAIR_CNT", 0x10024, 0x40, 64, some 64, [cntF 24 8 0, cntF 12 12 0, cntF 0 12 0]⟩,  -- R66
  ⟨"RNG_LAT_MEAS", 0x14000, 0, 1, none, [roF 16 16 0, roF 0 16 0]⟩,  -- R93
  ⟨"RNG_LAT_CLR", 0x14004, 0, 1, none, [woF 0 32]⟩,
  ⟨"RNG_EVT_UNROUTED", 0x14008, 0, 1, none, [roF 0 32 0]⟩,
  ⟨"RNG_FAULT_VEC", 0x1400C, 0, 1, none, [rwF 31 1 0, rwF 0 7 0]⟩]  -- R103

/-- The registers of block LNE. -/
def regsLNE : List RegDef := [
  ⟨"LNE_OVF_CFG", 0x20000, 0, 1, none, [roF 16 11 0, (rwlF 0 11 0x100 (.near 64 1024)).st]⟩,  -- R476
  ⟨"LNE_OVF_USED", 0x20004, 0, 1, none, [roF 0 23 0]⟩,  -- R476
  ⟨"LNE_OVF_PEAK", 0x20008, 0, 1, none, [cntF 0 23 0]⟩,  -- R476
  ⟨"LNE_POOL_STS", 0x2000C, 0, 1, none, [roF 31 1 0, roF 0 17 0x18000]⟩,  -- R476
  ⟨"LNE_MIN_SUM", 0x20010, 0, 1, none, [(roF 0 17 0).st]⟩,  -- R476
  ⟨"LNE_SPILLED", 0x20014, 0, 1, none, [cntF 0 32 0]⟩,
  ⟨"LNE_DROP", 0x20018, 0, 1, none, [cntF 0 32 0]⟩,
  ⟨"LNE_HELD", 0x2001C, 0, 1, none, [cntF 0 32 0]⟩,
  ⟨"LNE_FLUSHED", 0x20020, 0, 1, none, [cntF 0 32 0]⟩,
  ⟨"LNE_FLUSH_REFUSED", 0x20024, 0, 1, none, [cntF 0 32 0]⟩,
  ⟨"LNE_ECC_DROP", 0x20028, 0, 1, none, [cntF 0 32 0]⟩,
  ⟨"LNE_Q_CFG", 0x21000, 0x10, 256, none, [roF 31 1 0, roF 30 1 0, roF 29 1 0, (rwF 9 17 0 (.near 0 98304)).st, (rwF 0 9 0x10 (.near 0 256)).st]⟩,  -- R476
  ⟨"LNE_Q_CTL", 0x21004, 0x10, 256, none, [w1sF 0 1 0]⟩,  -- R476
  ⟨"LNE_Q_STS", 0x21008, 0x10, 256, none, [roF 31 1 0, roF 30 1 0, roF 0 17 0]⟩,  -- R476
  ⟨"LNE_Q_RING", 0x2100C, 0x10, 256, none, [roF 0 23 0]⟩]  -- R476

/-- The registers of block CTX. -/
def regsCTX : List RegDef := [
  ⟨"CTX_ADMIT_CFG", 0x30000, 0, 1, none, [(rwlF 16 12 0).st, (rwF 4 12 0x3C (.near 1 1440)).st, (rwlF 0 2 0 (.enum 0 1 0)).st]⟩,  -- R134
  ⟨"CTX_STATE_CFG", 0x30004, 0, 1, none, [rwF 16 16 0x3C (.near 10 600), rwF 0 8 4 (.near 1 255)]⟩,  -- R135
  ⟨"CTX_CAP_STS", 0x30008, 0, 1, none, [roF 31 1 0, roF 0 21 0]⟩,  -- R136
  ⟨"CTX_ATTACH_STS", 0x3000C, 0, 1, none, [roF 16 16 0, roF 0 15 0]⟩,  -- R136
  ⟨"CTX_REFUSED", 0x30010, 0, 1, none, [cntF 0 32 0]⟩,
  ⟨"CTX_ATTACH_REFUSED", 0x30014, 0, 1, none, [cntF 0 32 0]⟩,
  ⟨"CTX_UNKNOWN_RX", 0x30018, 0, 1, none, [cntF 0 32 0]⟩,
  ⟨"CTX_CACHE_STS", 0x3001C, 0, 1, none, [cntF 16 16 0, roF 0 15 0]⟩,  -- R138
  ⟨"CTX_CACHE_HIT", 0x30020, 0, 1, none, [roF 0 32 0]⟩,
  ⟨"CTX_CACHE_MISS", 0x30024, 0, 1, none, [roF 0 32 0]⟩,
  ⟨"CTX_LOOKUP_STS", 0x30028, 0, 1, none, [roF 31 1 0, roF 0 11 0]⟩]  -- R138

/-- The registers of block SEC. -/
def regsSEC : List RegDef := [
  ⟨"SEC_STS", 0x40000, 0, 1, none, [roF 31 1 0, w1cF 30 1 0, roF 29 1 0, roF 28 1 0, roF 27 1 0, roF 26 1 0, roF 24 2 0, roF 20 4 0, roF 18 2 0]⟩,  -- R312
  ⟨"SEC_ROOT_CTL", 0x40004, 0, 1, none, [woF 16 16, woF 0 3]⟩,  -- R312
  ⟨"SEC_ROOT_KCV", 0x40008, 4, 2, none, [roF 0 32 0]⟩,  -- R312
  ⟨"SEC_CLONE_CODE", 0x40010, 4, 4, none, [woF 0 32]⟩,  -- R312
  ⟨"SEC_KTK_CTL", 0x40020, 0, 1, none, [woF 16 16, woF 0 2]⟩,  -- R312
  ⟨"SEC_KTK_KCV", 0x40024, 4, 2, none, [roF 0 32 0]⟩,  -- R312
  ⟨"SEC_KTK_DATA", 0x40040, 4, 10, none, [woF 0 32]⟩,  -- R312
  ⟨"SEC_TAMPER_CFG", 0x40070, 0, 1, none, [rwlF 24 8 3 (.near 1 255), rwlF 16 4 0, rwlF 4 1 0, rwlF 0 4 0]⟩,  -- R313
  ⟨"SEC_TAMPER_STS", 0x40074, 0, 1, none, [roF 28 4 0, roF 16 12 0]⟩,  -- R313
  ⟨"SEC_TAMPER_TIME", 0x40078, 0, 1, none, [roF 0 32 0]⟩,  -- R313
  ⟨"SEC_MON_STS", 0x4007C, 0, 1, none, [roF 24 8 0, roF 15 9 0]⟩,  -- R312
  ⟨"SEC_AUTH_CFG", 0x40080, 0, 1, none, [(rwF 16 16 0x3E8 (.near 10 65535)).st, (rwF 8 8 5 (.near 2 255)).st, (rwF 0 1 1).st]⟩,  -- R313
  ⟨"SEC_IMPORT_STS", 0x40084, 0, 1, none, [roF 15 1 0, roF 0 15 0]⟩,  -- R312
  ⟨"SEC_BOOT_DIGEST", 0x400A0, 4, 8, none, [roF 0 32 0]⟩,  -- R312
  ⟨"SEC_IMG_DIGEST", 0x400C0, 4, 12, none, [roF 0 32 0]⟩,  -- R312
  ⟨"SEC_ATT_WRAP", 0x40100, 4, 10, none, [roF 0 32 0]⟩,  -- R312
  ⟨"SEC_KC_HIT", 0x40140, 0, 1, none, [roF 0 32 0]⟩,
  ⟨"SEC_KC_MISS", 0x40144, 0, 1, none, [roF 0 32 0]⟩,
  ⟨"SEC_DERIVE", 0x40148, 0, 1, none, [roF 0 32 0]⟩,
  ⟨"SEC_REPLAY_RX", 0x4014C, 0, 1, none, [cntF 0 32 0]⟩,
  ⟨"SEC_NOKEY_RX", 0x40150, 0, 1, none, [cntF 0 32 0]⟩,
  ⟨"SEC_AUTH_FAIL", 0x40154, 0, 1, none, [cntF 0 32 0]⟩,
  ⟨"SEC_UNSUP_RX", 0x40158, 0, 1, none, [cntF 0 32 0]⟩,
  ⟨"SEC_CLONE_FAIL", 0x4015C, 0, 1, none, [cntF 0 32 0]⟩,
  ⟨"SEC_ROOT_REFUSED", 0x40160, 0, 1, none, [cntF 0 32 0]⟩]

/-- The registers of block LCP. -/
def regsLCP : List RegDef := [
  ⟨"LCP_CFG", 0x50000, 0x8000, 2, some 0, [rwF 31 1 0, (rwF 0 3 1 (.enum 1 7 1)).st.offo]⟩,  -- R204
  ⟨"LCP_STS", 0x50004, 0x8000, 2, some 0, [roF 29 3 0, roF 28 1 0, roF 27 1 0, roF 26 1 0, roF 25 1 0, roF 22 3 0, w1cF 21 1 0, w1cF 20 1 0, roF 19 1 0]⟩,  -- R204
  ⟨"LCP_AFE_CFG", 0x50008, 0x8000, 2, some 0, [rwF 24 3 5 (.near 0 5), rwF 16 8 0x14 (.near 10 100), rwF 8 8 0xA (.near 2 50), rwF 0 8 0x64 (.near 20 255)]⟩,  -- R204
  ⟨"LCP_TX_LEVEL", 0x5000C, 0x8000, 2, some 0, [(rwF 16 5 6).st, (rwF 8 5 6).st, (rwF 0 5 6).st]⟩,  -- R204
  ⟨"LCP_SC_MASK_LO", 0x50010, 0x8000, 2, some 0, [(rwF 0 32 0xFFFFFFFF).st.offo]⟩,  -- R204
  ⟨"LCP_SC_MASK_HI", 0x50014, 0x8000, 2, some 0, [(rwF 0 26 0x3FFFFFF).st.offo]⟩,  -- R204
  ⟨"LCP_TM_CFG", 0x50018, 0x8000, 2, some 0, [rwF 16 8 6 (.near 0 40), rwF 8 8 6 (.near 1 20), rwF 4 4 0xF (.near 1 15)]⟩,  -- R204
  ⟨"LCP_TM_REFRESH", 0x5001C, 0x8000, 2, some 0, [rwF 16 16 0x384 (.near 60 7200), rwF 0 16 0x12C (.near 10 3600)]⟩,  -- R204
  ⟨"LCP_IMP_CFG", 0x50020, 0x8000, 2, some 0, [rwF 8 8 6 (.near 3 20), rwF 0 8 4 (.near 1 64)]⟩,  -- R204
  ⟨"LCP_SNS_CAL", 0x50024, 0x8000, 2, some 0, [(rwlF 16 16 0x44B (.near 1 65535)).st, (rwlF 0 16 0xDC (.near 1 65535)).st]⟩,  -- R204
  ⟨"LCP_ZC_CFG", 0x50028, 0x8000, 2, some 0, [rwF 8 8 0x32, (rwF 6 2 2 (.enum 0 2 2)).st, rwF 3 3 7, rwF 0 3 0]⟩,  -- R204
  ⟨"LCP_GOV_CAP", 0x50030, 0x8000, 2, some 0, [(rwlF 16 16 0xC8 (.near 1 65535)).st, (rwlF 0 16 0x3E8 (.near 1 65535)).st]⟩,  -- R205
  ⟨"LCP_GOV_PMAX", 0x50034, 0x8000, 2, some 0, [(rwlF 0 16 0x1388 (.near 100 20000)).st]⟩,  -- R205
  ⟨"LCP_GOV_OTP", 0x50038, 0x8000, 2, some 0, [roF 16 16 0xC8, roF 0 16 0x3E8]⟩,  -- R205
  ⟨"LCP_GOV_FUSE", 0x5003C, 0x8000, 2, some 0, [rwlF 16 16 0 (.near 1 65535), rwlF 0 16 0 (.near 1 65535)]⟩,  -- R205
  ⟨"LCP_GOV_PROG", 0x50040, 0x8000, 2, some 0, [woF 16 16, woF 0 1]⟩,  -- R205
  ⟨"LCP_GOV_STS", 0x50044, 0x8000, 2, some 0, [roF 16 16 0, roF 0 16 0]⟩,  -- R205
  ⟨"LCP_GOV_TRUNC", 0x50048, 0x8000, 2, some 0, [cntF 16 16 0, cntF 0 16 0]⟩,  -- R205
  ⟨"LCP_RX_OK", 0x50050, 0x8000, 2, some 0, [cntF 0 32 0]⟩,
  ⟨"LCP_RX_FCS", 0x50054, 0x8000, 2, some 0, [cntF 0 32 0]⟩,
  ⟨"LCP_IMP_SYM", 0x50058, 0x8000, 2, some 0, [cntF 0 32 0]⟩,
  ⟨"LCP_TM_EARLY", 0x5005C, 0x8000, 2, some 0, [cntF 0 32 0]⟩,
  ⟨"LCP_NOISE", 0x50060, 0x8000, 2, some 0, [roF 16 8 0, roF 8 8 0, roF 0 8 0]⟩,  -- R205
  ⟨"LCP_MAC_CFG", 0x50400, 0x8000, 2, some 0, [(rwF 28 4 4 (.near 1 8)).st, (rwF 24 4 5 (.near 3 8)).st, (rwF 20 4 3 (.near 1 8)).st, (rwF 16 4 2 (.near 0 7)).st, (rwF 0 12 0x100 (.near 32 1024)).st]⟩,  -- R236
  ⟨"LCP_POLL_CFG", 0x50404, 0x8000, 2, some 0, [(rwF 24 8 0x28 (.near 10 90)).st, (rwF 16 8 0xF (.near 5 90)).st, (rwF 8 8 0x32 (.near 10 255)).st, (rwF 4 4 3 (.near 1 15)).st, (rwF 0 1 1).st]⟩,  -- R236
  ⟨"LCP_MESH_CFG", 0x50408, 0x8000, 2, some 0, [(rwF 24 8 0x14 (.near 5 255)).st, (rwF 16 8 0x10 (.near 0 64)).st, (rwF 8 4 8 (.near 1 8)).st, (rwF 0 8 0x3C (.near 1 255)).st]⟩,  -- R236
  ⟨"LCP_PH_CFG", 0x5040C, 0x8000, 2, some 0, [(rwF 8 8 0x14 (.near 5 29)).st, (rwF 0 4 6 (.near 4 8)).st]⟩,  -- R236
  ⟨"LCP_MAC_STS", 0x50410, 0x8000, 2, some 0, [roF 31 1 0, roF 27 4 3, roF 20 7 0, roF 0 16 0]⟩,  -- R237
  ⟨"LCP_PH_STS", 0x50414, 0x8000, 2, some 0, [roF 16 16 0, roF 15 1 0, roF 12 3 0]⟩,  -- R237
  ⟨"LCP_MAC_TX", 0x50420, 0x8000, 2, some 0, [cntF 0 32 0]⟩,
  ⟨"LCP_MAC_FAIL", 0x50424, 0x8000, 2, some 0, [cntF 0 32 0]⟩,
  ⟨"LCP_RT_QUERY", 0x50428, 0x8000, 2, some 0, [cntF 0 32 0]⟩,
  ⟨"LCP_RT_DROP", 0x5042C, 0x8000, 2, some 0, [cntF 0 32 0]⟩,
  ⟨"LCP_NB_FULL", 0x50430, 0x8000, 2, some 0, [cntF 0 32 0]⟩,
  ⟨"LCP_PH_CHANGE", 0x50434, 0x8000, 2, some 0, [cntF 0 32 0]⟩,
  ⟨"LCP_SEG_DROP", 0x50438, 0x8000, 2, some 0, [cntF 0 32 0]⟩,
  ⟨"LCP_NB_SEL", 0x50440, 0x8000, 2, some 0, [roF 16 12 0, rwF 0 11 0]⟩,  -- R237
  ⟨"LCP_RT_SEL", 0x50444, 0x8000, 2, some 0, [rwF 0 20 0]⟩]  -- R237

/-- The registers of block RAD. -/
def regsRAD : List RegDef := [
  ⟨"RAD_CFG", 0x60000, 0x4000, 4, some 2, [rwF 31 1 0, (rwF 0 4 1 (.enum 0 6 1)).st.offo]⟩,  -- R272
  ⟨"RAD_STS", 0x60004, 0x4000, 4, some 2, [roF 29 3 0, roF 28 1 0, roF 27 1 0, roF 26 1 0, roF 25 1 0, roF 24 1 0, roF 16 8 0x80]⟩,  -- R273
  ⟨"RAD_CHAN", 0x60008, 0x4000, 4, some 2, [(rwF 12 20 0xD4256).st.offo]⟩,  -- R272
  ⟨"RAD_IQ_CFG", 0x6000C, 0x4000, 4, some 2, [(rwF 24 8 0 (.snear (-128) 127)).st, roF 8 6 0, roF 0 6 0]⟩,  -- R272
  ⟨"RAD_XCVR_CFG", 0x60010, 0x4000, 4, some 2, [(rwF 24 8 0 (.near 0 127)).st.offo, (rwF 16 8 0 (.near 0 127)).st.offo, (rwF 8 8 0 (.near 0 127)).st.offo, (rwF 0 8 0 (.near 0 127)).st.offo]⟩,  -- R272
  ⟨"RAD_XCVR_FSTEP", 0x60014, 0x4000, 4, some 2, [(rwF 0 32 0xEE6B (.near 1000 1000000)).st.offo]⟩,  -- R272
  ⟨"RAD_LBT_CFG", 0x60018, 0x4000, 4, some 2, [(rwF 24 8 0x55 (.near 50 110)).st, (rwF 16 8 5 (.near 1 20)).st, (rwF 8 8 5 (.near 1 50)).st, (rwF 4 4 5 (.near 1 8)).st]⟩,  -- R272
  ⟨"RAD_DUTY_CFG", 0x6001C, 0x4000, 4, some 2, [(rwF 0 10 0xA (.near 1 1000)).st]⟩,  -- R272
  ⟨"RAD_SLOT_CFG", 0x60020, 0x4000, 4, some 2, [(rwF 17 15 0x384 (.near 60 21600)).st, (rwF 14 3 2).st, (rwF 8 6 5 (.near 2 50)).st, (rwF 0 8 0xA (.near 2 255)).st]⟩,  -- R272
  ⟨"RAD_GUARD_CFG", 0x60024, 0x4000, 4, some 2, [(rwF 16 16 0xFA (.near 50 10000)).st, (rwF 8 8 0x28 (.near 10 200)).st, (rwF 0 8 2 (.near 1 100)).st]⟩,  -- R272
  ⟨"RAD_LL_CFG", 0x60028, 0x4000, 4, some 2, [(rwF 16 16 0x78 (.near 10 600)).st, (rwF 8 8 5 (.near 1 60)).st, (rwF 0 8 0xA (.near 0 50)).st]⟩,  -- R272
  ⟨"RAD_FLOOD_CFG", 0x6002C, 0x4000, 4, some 2, [(rwF 31 1 1).st, (rwF 20 8 0x1E (.near 1 255)).st, (rwF 16 3 3 (.near 1 7)).st, (rwF 12 4 2 (.near 1 7)).st, (rwF 8 4 8 (.near 1 15)).st, (rwF 0 8 0xA (.near 1 100)).st]⟩,  -- R272
  ⟨"RAD_SLOT_STS", 0x60034, 0x4000, 4, some 2, [roF 16 16 0, roF 0 16 0]⟩,  -- R273
  ⟨"RAD_RSYNC_STS", 0x60038, 0x4000, 4, some 2, [roF 16 16 0, roF 0 16 0]⟩,  -- R273
  ⟨"RAD_DUTY_STS", 0x6003C, 0x4000, 4, some 2, [roF 0 10 0]⟩,  -- R273
  ⟨"RAD_IQ_STS", 0x60040, 0x4000, 4, some 2, [cntF 0 32 0]⟩,  -- R273
  ⟨"RAD_XCVR_STS", 0x60044, 0x4000, 4, some 2, [cntF 24 8 0, roF 12 12 0, roF 0 12 0]⟩,  -- R273
  ⟨"RAD_RX_OK", 0x60050, 0x4000, 4, some 2, [cntF 0 32 0]⟩,
  ⟨"RAD_RX_FCS", 0x60054, 0x4000, 4, some 2, [cntF 0 32 0]⟩,
  ⟨"RAD_LBT_BUSY", 0x60058, 0x4000, 4, some 2, [cntF 0 32 0]⟩,
  ⟨"RAD_DUTY_WAIT", 0x6005C, 0x4000, 4, some 2, [cntF 0 32 0]⟩,
  ⟨"RAD_BCN_SKIP", 0x60060, 0x4000, 4, some 2, [cntF 0 32 0]⟩,
  ⟨"RAD_SLOT_MISS", 0x60064, 0x4000, 4, some 2, [cntF 0 32 0]⟩,
  ⟨"RAD_SLOT_YIELD", 0x60068, 0x4000, 4, some 2, [cntF 0 32 0]⟩,
  ⟨"RAD_SLOT_BUSY", 0x6006C, 0x4000, 4, some 2, [cntF 0 32 0]⟩,
  ⟨"RAD_RSYNC_ENTER", 0x60070, 0x4000, 4, some 2, [cntF 0 32 0]⟩,
  ⟨"RAD_PARTNER_LOST", 0x60074, 0x4000, 4, some 2, [cntF 0 32 0]⟩,
  ⟨"RAD_FLOOD_DUP", 0x60078, 0x4000, 4, some 2, [cntF 0 32 0]⟩,
  ⟨"RAD_SEEN_EVICT", 0x6007C, 0x4000, 4, some 2, [cntF 0 32 0]⟩,
  ⟨"RAD_SCRIPT0", 0x60200, 4, 128, some 2, [(rwF 0 32 0).st.offo]⟩,
  ⟨"RAD_SCRIPT1", 0x64200, 4, 128, some 3, [(rwF 0 32 0).st.offo]⟩,
  ⟨"RAD_SCRIPT2", 0x68200, 4, 128, some 4, [(rwF 0 32 0).st.offo]⟩,
  ⟨"RAD_SCRIPT3", 0x6C200, 4, 128, some 5, [(rwF 0 32 0).st.offo]⟩]

/-- The registers of block ETH. -/
def regsETH : List RegDef := [
  ⟨"ETH_CFG", 0x70000, 0x4000, 4, some 6, [rwF 31 1 0, (rwF 28 3 2 (.enum 0 3 2)).st, (rwF 27 1 1).st, (rwF 26 1 1).st, (rwF 25 1 0).st, (rwF 24 1 0).st, (rwF 0 14 0x5F2 (.near 1518 9022)).st]⟩,  -- R498
  ⟨"ETH_STS", 0x70004, 0x4000, 4, some 6, [roF 29 3 0, roF 28 1 0, roF 26 2 0, roF 25 1 0, roF 24 1 0]⟩,  -- R498
  ⟨"ETH_MAC_LO", 0x70008, 0x4000, 4, some 6, [(rwlF 0 32 0).st]⟩,  -- R498
  ⟨"ETH_MAC_HI", 0x7000C, 0x4000, 4, some 6, [(rwlF 0 16 0).st]⟩,  -- R498
  ⟨"ETH_VLAN", 0x70010, 0x4000, 4, some 6, [(rwF 13 3 0).st, (rwF 0 12 1 (.near 1 4094)).st]⟩,  -- R498
  ⟨"ETH_MGT_TX_CTL", 0x70200, 0x4000, 4, some 6, [roF 31 1 0, w1cF 30 1 0, rwF 29 1 0, woF 28 1, rwF 14 14 0x3C (.near 60 9018)]⟩,  -- R498
  ⟨"ETH_MGT_TX_ID", 0x70204, 0x4000, 4, some 6, [rwF 0 16 0x8000]⟩,  -- R498
  ⟨"ETH_MGT_RX", 0x70208, 0x4000, 4, some 6, [roF 31 1 0, roF 14 3 0, roF 0 14 0]⟩,  -- R498
  ⟨"ETH_MGT_RX_POP", 0x7020C, 0x4000, 4, some 6, [woF 0 1]⟩,  -- R498
  ⟨"ETH_MGT_RX_SEC", 0x70210, 0x4000, 4, some 6, [roF 0 32 0]⟩,  -- R498
  ⟨"ETH_MGT_RX_NS", 0x70214, 0x4000, 4, some 6, [roF 0 32 0]⟩,  -- R498
  ⟨"ETH_MGT_PAGE", 0x70218, 0x4000, 4, some 6, [rwF 8 3 0 (.near 0 4), rwF 0 3 0 (.near 0 4)]⟩,  -- R498
  ⟨"FL_CFG", 0x73000, 0, 1, none, [(rwlF 30 2 0 (.enum 0 2 0)).st, (rwlF 26 4 1).st, (rwlF 16 10 0).st, (rwlF 0 16 0x88B5 (.near 1536 65535)).st]⟩,  -- R499
  ⟨"FL_UDP", 0x73004, 0, 1, none, [(rwlF 0 16 0xBAB5 (.near 1024 65535)).st]⟩,  -- R499
  ⟨"FL_TIMER", 0x73008, 0, 1, none, [(rwF 18 14 0x3E8 (.near 100 10000)).st, (rwF 8 10 0x32 (.near 1 1000)).st, (rwlF 0 8 0x18 (.near 1 168)).st]⟩,  -- R499
  ⟨"FL_STS", 0x7300C, 0, 1, none, [roF 29 3 0, roF 27 2 0, (roF 26 1 0).st, roF 25 1 0, roF 0 11 0]⟩,  -- R499
  ⟨"FL_CODE", 0x73010, 4, 4, none, [woF 0 32]⟩,  -- R499
  ⟨"FL_PEER_MAC", 0x73020, 4, 2, none, [(rwlF 0 32 0).st]⟩,  -- R499
  ⟨"FL_MAC", 0x73028, 4, 2, none, [(rwlF 0 32 0).st]⟩,  -- R499
  ⟨"FL_IP", 0x73030, 4, 12, none, [(rwlF 0 32 0).st]⟩,  -- R499
  ⟨"FL_FD_SEL", 0x73060, 0, 1, none, [rwF 0 10 0]⟩,  -- R499
  ⟨"FL_FD_DATA", 0x73070, 4, 4, none, [roF 0 32 0]⟩,  -- R499
  ⟨"FL_FD_EN", 0x73080, 4, 32, none, [(rwlF 0 32 0).st]⟩,  -- R499
  ⟨"FL_KEYWRAP", 0x73100, 0, 1, none, [cntF 0 32 0]⟩,
  ⟨"FL_DUP", 0x73104, 0, 1, none, [cntF 0 32 0]⟩,
  ⟨"FL_FDX_CONFLICT", 0x73108, 0, 1, none, [cntF 0 32 0]⟩]

/-- The registers of block TIM. -/
def regsTIM : List RegDef := [
  ⟨"TIM_CFG", 0x80000, 0, 1, none, [(rwF 31 1 0).st, (rwF 24 3 7).st, (rwF 16 8 0x25).st, (rwF 15 1 0).st]⟩,  -- R455
  ⟨"TIM_STS", 0x80004, 0, 1, none, [roF 29 3 0, roF 27 2 0, roF 26 1 0, roF 25 1 0, roF 24 1 0, w1cF 23 1 0, w1cF 22 1 0]⟩,  -- R455
  ⟨"TIM_TIME_LO", 0x80008, 0, 1, none, [roF 0 32 0]⟩,  -- R455
  ⟨"TIM_TIME_HI", 0x8000C, 0, 1, none, [roF 0 32 0]⟩,  -- R455
  ⟨"TIM_MONO_LO", 0x80010, 0, 1, none, [roF 0 32 0]⟩,  -- R455
  ⟨"TIM_MONO_HI", 0x80014, 0, 1, none, [roF 0 32 0]⟩,  -- R455
  ⟨"TIM_OFFSET", 0x80018, 0, 1, none, [roF 0 32 0]⟩,  -- R455
  ⟨"TIM_RATE", 0x8001C, 0, 1, none, [(roF 0 32 0).st]⟩,  -- R455
  ⟨"TIM_SERVO_CFG", 0x80020, 0, 1, none, [(rwF 24 8 0xB3 (.near 1 255)).st, (rwF 8 16 0x4CCD (.near 1 65535)).st, (rwF 0 8 0xA (.near 1 255)).st]⟩,  -- R455
  ⟨"TIM_HOLD_CFG", 0x80024, 0, 1, none, [(rwF 20 12 0x258 (.near 10 3600)).st, (rwF 0 10 0x64 (.near 1 1000)).st]⟩,  -- R455
  ⟨"TIM_PTP_CFG", 0x80028, 0, 1, none, [(rwF 31 1 0).st, (rwF 29 2 0 (.enum 0 1 0)).st, (rwF 27 2 0 (.enum 0 2 0)).st, (rwF 26 1 1).st, (rwF 25 1 1).st, (rwF 24 1 0).st, (rwF 16 8 0).st, (rwF 12 4 1).st, (rwF 8 4 0 (.snear (-4) 1)).st, (rwF 4 4 0 (.near 0 3)).st]⟩,  -- R455
  ⟨"TIM_PTP_PRIO", 0x8002C, 0, 1, none, [(rwF 24 8 0x80).st, (rwF 16 8 0x80).st, (rwF 8 8 0xF8).st]⟩,  -- R455
  ⟨"TIM_PTP_STS", 0x80030, 0, 1, none, [roF 0 16 0]⟩,  -- R455
  ⟨"TIM_FL_CFG", 0x80034, 0, 1, none, [(rwF 24 8 1 (.near 1 60)).st, (rwF 16 8 0x10 (.near 1 64)).st]⟩,  -- R455
  ⟨"TIM_BCN_CFG", 0x80038, 0, 1, none, [(rwF 22 10 0x1E (.near 5 600)).st, (rwF 12 10 0x3C (.near 10 1000)).st, (rwF 6 6 6).st, (rwF 0 6 4).st]⟩,  -- R455
  ⟨"TIM_CMP_OWN", 0x8003C, 0, 1, none, [roF 0 32 0]⟩,  -- R455
  ⟨"TIM_ETH_DLY", 0x80040, 4, 4, none, [(rwF 16 16 0).st, (rwF 0 16 0).st]⟩,  -- R455
  ⟨"TIM_PPS_CFG", 0x80080, 0x20, 4, none, [rwF 31 1 0, (rwF 30 1 0).st, w1cF 29 1 0]⟩,  -- R456
  ⟨"TIM_PPS_START_LO", 0x80084, 0x20, 4, none, [rwF 0 32 0]⟩,  -- R456
  ⟨"TIM_PPS_START_HI", 0x80088, 0x20, 4, none, [rwF 0 32 0]⟩,  -- R456
  ⟨"TIM_PPS_PERIOD", 0x8008C, 0x20, 4, none, [rwF 0 32 0x3B9ACA00]⟩,  -- R456
  ⟨"TIM_PPS_WIDTH", 0x80090, 0x20, 4, none, [rwF 0 32 0x5F5E100]⟩,  -- R456
  ⟨"TIM_CAP_CFG", 0x80100, 0x10, 4, none, [rwF 31 1 0, (rwF 29 2 1 (.enum 1 3 1)).st]⟩,  -- R456
  ⟨"TIM_CAP_STS", 0x80104, 0x10, 4, none, [w1cF 31 1 0, roF 28 3 0]⟩,  -- R456
  ⟨"TIM_CAP_LO", 0x80108, 0x10, 4, none, [roF 0 32 0]⟩,  -- R456
  ⟨"TIM_CAP_HI", 0x8010C, 0x10, 4, none, [roF 0 32 0]⟩,  -- R456
  ⟨"TIM_HT_CFG", 0x80140, 0x10, 4, none, [rwF 31 1 0, w1cF 30 1 0]⟩,  -- R456
  ⟨"TIM_HT_AT_LO", 0x80144, 0x10, 4, none, [rwF 0 32 0]⟩,  -- R456
  ⟨"TIM_HT_AT_HI", 0x80148, 0x10, 4, none, [rwF 0 32 0]⟩,  -- R456
  ⟨"TIM_HT_PERIOD", 0x8014C, 0x10, 4, none, [rwF 0 32 0 (.near 0 86400000)]⟩,  -- R456
  ⟨"TIM_TXQ_STS", 0x80180, 0x20, 4, some 6, [w1cF 31 1 0, roF 26 5 0]⟩,  -- R456
  ⟨"TIM_TXQ_POP", 0x80184, 0x20, 4, some 6, [woF 0 1]⟩,  -- R456
  ⟨"TIM_TXQ_ID", 0x80188, 0x20, 4, some 6, [roF 16 1 0, roF 0 16 0]⟩,  -- R456
  ⟨"TIM_TXQ_SEC", 0x8018C, 0x20, 4, some 6, [roF 0 32 0]⟩,  -- R456
  ⟨"TIM_TXQ_NS", 0x80190, 0x20, 4, some 6, [roF 2 30 0, roF 0 2 0]⟩,  -- R456
  ⟨"TIM_TXQ_DROP", 0x80194, 0x20, 4, some 6, [cntF 0 32 0]⟩,
  ⟨"TIM_STEPS", 0x80200, 0, 1, none, [cntF 0 32 0]⟩,
  ⟨"TIM_HOLDOVERS", 0x80204, 0, 1, none, [cntF 0 32 0]⟩,
  ⟨"TIM_CMP_REFUSED", 0x80208, 0, 1, none, [cntF 0 32 0]⟩,
  ⟨"TIM_BCN_SENT", 0x8020C, 0, 1, none, [roF 0 32 0]⟩,
  ⟨"TIM_FL_MISS", 0x80210, 0, 1, none, [cntF 0 32 0]⟩]

/-- The registers of block MET. -/
def regsMET : List RegDef := [
  ⟨"MET_CFG", 0x90000, 0, 1, none, [(rwF 1 1 0).st, (rwF 0 1 0).st]⟩,  -- R389
  ⟨"MET_STS", 0x90004, 0, 1, none, [roF 31 1 0, roF 0 24 0]⟩,  -- R389
  ⟨"MET_CH_CFG", 0x90100, 0x40, 24, some 19, [rwF 31 1 0, (rwF 30 1 1).st.offo, (rwF 29 1 0).st, (rwF 24 2 0).st.offo]⟩,  -- R389
  ⟨"MET_CH_RATIO", 0x90104, 0x40, 24, some 19, [(rwF 27 5 1 (.near 1 16)).st.offo, (rwF 24 3 3 (.near 0 6)).st.offo, (rwF 0 17 0x7D (.near 2 65536)).st.offo]⟩,  -- R389
  ⟨"MET_CH_TRIM", 0x90108, 0x40, 24, some 19, [(rwF 16 16 0).st, (rwF 0 8 0).st]⟩,  -- R389
  ⟨"MET_CH_GAIN", 0x9010C, 0x40, 24, some 19, [(rwF 0 32 0 (.snear (-10000000) 10000000)).st]⟩,  -- R389
  ⟨"MET_CH_SWAP_AT_LO", 0x90110, 0x40, 24, some 19, [rwF 0 32 0]⟩,  -- R389
  ⟨"MET_CH_SWAP_AT_HI", 0x90114, 0x40, 24, some 19, [rwF 0 32 0]⟩,  -- R389
  ⟨"MET_CH_SWAP_CTL", 0x90118, 0x40, 24, some 19, [rwF 31 1 0, rwF 30 1 0]⟩,  -- R389
  ⟨"MET_CH_STS", 0x9011C, 0x40, 24, some 19, [roF 29 3 0, (roF 28 1 0).st, w1cF 27 1 0, w1cF 26 1 0, w1cF 25 1 0, roF 24 1 0, roF 23 1 0, roF 22 1 0, roF 0 16 0]⟩,  -- R389
  ⟨"MET_CH_SMP_LO", 0x90120, 0x40, 24, some 19, [roF 0 32 0]⟩,  -- R389
  ⟨"MET_CH_SMP_HI", 0x90124, 0x40, 24, some 19, [roF 0 32 0]⟩,  -- R389
  ⟨"MET_CH_STAMP_LO", 0x90128, 0x40, 24, some 19, [roF 0 32 0]⟩,  -- R389
  ⟨"MET_CH_STAMP_HI", 0x9012C, 0x40, 24, some 19, [roF 0 32 0]⟩,  -- R389
  ⟨"MET_CH_RATE", 0x90130, 0x40, 24, some 19, [roF 0 32 0x989680]⟩,  -- R389
  ⟨"MET_CH_GD", 0x90134, 0x40, 24, some 19, [roF 0 32 0x8D202]⟩,  -- R389
  ⟨"MET_CM_CFG", 0x98000, 0x100, 4, some 14, [rwF 31 1 0, (rwF 30 1 0).st]⟩,  -- R391
  ⟨"MET_CM_MAP", 0x98004, 0x100, 4, some 14, [(rwF 0 30 0).st.offo]⟩,  -- R391
  ⟨"MET_CM_VFS", 0x98008, 0x100, 4, some 14, [(rwF 0 32 0x3E8 (.near 1 4294967295)).st]⟩,  -- R391
  ⟨"MET_CM_IFS", 0x9800C, 0x100, 4, some 14, [(rwF 0 32 0x3E8 (.near 1 4294967295)).st]⟩,  -- R391
  ⟨"MET_CM_STS", 0x98010, 0x100, 4, some 14, [roF 29 3 0, roF 28 1 0, roF 8 20 0]⟩,  -- R391
  ⟨"MET_CM_VRMS1", 0x98020, 0x100, 4, some 14, [roF 0 32 0]⟩,  -- R391
  ⟨"MET_CM_VRMS2", 0x98024, 0x100, 4, some 14, [roF 0 32 0]⟩,  -- R391
  ⟨"MET_CM_VRMS3", 0x98028, 0x100, 4, some 14, [roF 0 32 0]⟩,  -- R391
  ⟨"MET_CM_IRMS1", 0x9802C, 0x100, 4, some 14, [roF 0 32 0]⟩,  -- R391
  ⟨"MET_CM_IRMS2", 0x98030, 0x100, 4, some 14, [roF 0 32 0]⟩,  -- R391
  ⟨"MET_CM_IRMS3", 0x98034, 0x100, 4, some 14, [roF 0 32 0]⟩,  -- R391
  ⟨"MET_CM_P1", 0x98038, 0x100, 4, some 14, [roF 0 32 0]⟩,  -- R391
  ⟨"MET_CM_P2", 0x9803C, 0x100, 4, some 14, [roF 0 32 0]⟩,  -- R391
  ⟨"MET_CM_P3", 0x98040, 0x100, 4, some 14, [roF 0 32 0]⟩,  -- R391
  ⟨"MET_CM_DROP", 0x98044, 0x100, 4, some 14, [cntF 0 32 0]⟩]  -- R391

/-- The registers of block LDG. -/
def regsLDG : List RegDef := [
  ⟨"LDG_VEE_CFG", 0xA0000, 0, 1, none, [(rwF 24 8 2 (.near 0 60)).st, (rwF 16 8 0x3C).st, (rwF 8 8 0x14 (.near 2 100)).st, (rwF 0 8 0x60 (.near 4 255)).st]⟩,  -- R354
  ⟨"LDG_EST_CFG", 0xA0004, 0, 1, none, [(rwF 24 8 0x30 (.near 1 168)).st, (rwF 16 8 1).st, (rwF 8 8 0x18 (.near 1 72)).st]⟩,  -- R354
  ⟨"LDG_CLK_CFG", 0xA0008, 0, 1, none, [(rwF 24 8 2 (.near 1 30)).st, (rwF 12 12 0x78 (.near 10 3600)).st, (rwF 0 1 0).st]⟩,  -- R354
  ⟨"LDG_BAL_CFG", 0xA000C, 0, 1, none, [(rwF 31 1 1).st, (rwF 24 7 6 (.near 1 72)).st, (rwF 16 8 0x5F (.near 50 100)).st, (rwF 8 8 2 (.near 0 20)).st, (rwF 6 2 0 (.enum 0 2 0)).st]⟩,  -- R354
  ⟨"LDG_LOSS_CFG", 0xA0010, 0, 1, none, [(rwF 24 8 0xE (.near 7 60)).st, (rwF 16 8 7 (.near 3 60)).st, (rwF 0 16 0xA (.near 1 1000)).st]⟩,  -- R354
  ⟨"LDG_ATTR_CFG", 0xA0014, 0, 1, none, [(rwF 31 1 1).st, (rwF 30 1 0).st, (rwF 20 10 0x28 (.near 20 500)).st, (rwF 12 8 5 (.near 1 100)).st, (rwF 4 8 7 (.near 1 60)).st]⟩,  -- R354
  ⟨"LDG_STS", 0xA0018, 0, 1, none, [roF 19 13 0, roF 6 13 0]⟩,  -- R354
  ⟨"LDG_NODE_SEL", 0xA0020, 0, 1, none, [rwF 0 12 0]⟩,  -- R354
  ⟨"LDG_INT_LOGGED", 0xA0100, 0, 1, none, [roF 0 32 0]⟩,
  ⟨"LDG_DUP", 0xA0104, 0, 1, none, [cntF 0 32 0]⟩,
  ⟨"LDG_REJECT", 0xA0108, 0, 1, none, [cntF 0 32 0]⟩,
  ⟨"LDG_EST_R", 0xA010C, 0, 1, none, [cntF 0 32 0]⟩,
  ⟨"LDG_FORMED", 0xA0110, 0, 1, none, [roF 0 32 0]⟩,
  ⟨"LDG_NOT_FORMED", 0xA0114, 0, 1, none, [cntF 0 32 0]⟩,
  ⟨"LDG_PH_MOVE", 0xA0118, 0, 1, none, [cntF 0 32 0]⟩,
  ⟨"LDG_CONFLICT", 0xA011C, 0, 1, none, [cntF 0 32 0]⟩]

/-- The registers of block TAR. -/
def regsTAR : List RegDef := [
  ⟨"TAR_STS", 0xB0000, 0, 1, none, [roF 31 1 0, roF 30 1 0, roF 29 1 0, roF 16 8 0]⟩,  -- R423
  ⟨"TAR_MIRROR_SEL", 0xB0004, 0, 1, none, [rwF 30 2 0 (.enum 0 2 0), rwF 0 20 0]⟩,  -- R423
  ⟨"TAR_DSP_CFG", 0xB0008, 0, 1, none, [(rwlF 0 8 2 (.near 1 60)).st]⟩,  -- R423
  ⟨"TAR_TIME_STS", 0xB000C, 0, 1, none, [roF 31 1 0, roF 30 1 0, roF 29 1 0, roF 28 1 0, roF 27 1 0, roF 26 1 0, roF 25 1 0, roF 0 25 0]⟩,  -- R423
  ⟨"TAR_STEP_PEND_LO", 0xB0010, 0, 1, none, [roF 0 32 0]⟩,  -- R423
  ⟨"TAR_STEP_PEND_HI", 0xB0014, 0, 1, none, [roF 0 32 0]⟩,  -- R423
  ⟨"TAR_FW_CHECK", 0xB0020, 4, 8, none, [roF 0 32 0]⟩,  -- R423
  ⟨"TAR_BOOKED", 0xB0040, 0, 1, none, [roF 0 32 0]⟩,
  ⟨"TAR_REFUSED", 0xB0044, 0, 1, none, [cntF 0 32 0]⟩,
  ⟨"TAR_ADJUST", 0xB0048, 0, 1, none, [cntF 0 32 0]⟩,
  ⟨"TAR_DEFAULT", 0xB004C, 0, 1, none, [cntF 0 32 0]⟩,
  ⟨"TAR_NO_DEMAND", 0xB0050, 0, 1, none, [cntF 0 32 0]⟩,
  ⟨"TAR_BAR4_WR", 0xB0054, 0, 1, none, [cntF 0 32 0]⟩]

/-- The registers of block FTL. -/
def regsFTL : List RegDef := [
  ⟨"FTL_CFG", 0xC0000, 0, 1, none, [(rwlF 24 8 7 (.near 2 20)).st, (rwF 16 8 0x5A (.near 50 95)).st, (rwF 8 8 0x3E (.near 1 255)).st, (rwF 4 4 3 (.enum 0 3 3)).st]⟩,  -- R526
  ⟨"FTL_STS", 0xC0004, 0, 1, none, [roF 29 3 0, roF 28 1 0, roF 27 1 0, roF 26 1 0, roF 25 1 0, roF 24 1 0, roF 16 8 0, (roF 15 1 0).st]⟩,  -- R526
  ⟨"FTL_CTL", 0xC0008, 0, 1, none, [woF 16 16, woF 1 1, woF 0 1]⟩,  -- R526
  ⟨"FTL_GC_CFG", 0xC000C, 0, 1, none, [(rwF 24 8 3 (.near 1 20)).st, (rwF 16 8 1 (.near 1 20)).st, (rwF 8 8 0xA (.near 1 50)).st, (rwF 0 8 0x46 (.near 10 100)).st]⟩,  -- R526
  ⟨"FTL_LIFE_CFG", 0xC0010, 0, 1, none, [(rwF 24 8 0x19 (.near 5 80)).st, (rwF 16 8 0x50 (.near 50 100)).st, (rwF 0 16 0).st]⟩,  -- R526
  ⟨"FTL_CAP", 0xC0014, 0, 1, none, [roF 0 32 0]⟩,  -- R526
  ⟨"FTL_USED", 0xC0018, 0, 1, none, [roF 0 32 0]⟩,  -- R526
  ⟨"FTL_SLC", 0xC001C, 0, 1, none, [roF 0 32 0]⟩,  -- R526
  ⟨"FTL_SPARE", 0xC0020, 0, 1, none, [roF 0 17 0]⟩,  -- R526
  ⟨"FTL_WEAR", 0xC0024, 0, 1, none, [roF 16 16 0, roF 0 16 0]⟩,  -- R526
  ⟨"FTL_CORR_CW", 0xC0040, 0, 1, none, [roF 0 32 0]⟩,
  ⟨"FTL_UECC", 0xC0044, 0, 1, none, [cntF 0 32 0]⟩,
  ⟨"FTL_RECOVERED", 0xC0048, 0, 1, none, [cntF 0 32 0]⟩,
  ⟨"FTL_LOST", 0xC004C, 0, 1, none, [cntF 0 32 0]⟩,
  ⟨"FTL_RETIRED", 0xC0050, 0, 1, none, [cntF 0 32 0]⟩,
  ⟨"FTL_GC_RESTART", 0xC0054, 0, 1, none, [cntF 0 32 0]⟩,
  ⟨"FTL_REFRESH", 0xC0058, 0, 1, none, [cntF 0 32 0]⟩,
  ⟨"FTL_WRITE_REFUSED", 0xC005C, 0, 1, none, [cntF 0 32 0]⟩,
  ⟨"FTL_CH_CFG", 0xC0100, 0x40, 4, some 10, [rwF 31 1 0, (rwF 0 4 0xF (.enum 1 15 15)).st.offo]⟩,  -- R527
  ⟨"FTL_CH_STS", 0xC0104, 0x40, 4, some 10, [roF 29 3 0, roF 25 4 0, roF 20 5 0]⟩,  -- R527
  ⟨"FTL_CH_ID_LO", 0xC0108, 0x40, 4, some 10, [roF 0 32 0]⟩,  -- R527
  ⟨"FTL_CH_ID_HI", 0xC010C, 0x40, 4, some 10, [roF 0 32 0]⟩,  -- R527
  ⟨"FTL_CH_GEOM", 0xC0110, 0x40, 4, some 10, [roF 28 4 0, roF 0 17 0]⟩,  -- R527
  ⟨"FTL_RT_TBL", 0xC0400, 4, 32, none, [(rwlF 0 32 0).st]⟩]  -- R527

/-- The registers of block MEM. -/
def regsMEM : List RegDef := [
  ⟨"MEM_CAP", 0xD0000, 0, 1, none, [roF 16 16 0, roF 0 16 0]⟩]  -- R676

/-- The registers of block PAR. -/
def regsPAR : List RegDef := [
  ⟨"PAR_CFG", 0xE0000, 0, 1, none, [(rwlF 31 1 0).st, (rwlF 30 1 0).st, (rwF 16 13 0x3E8 (.near 100 5000)).st, (rwF 0 8 0xA (.near 1 100)).st]⟩,  -- R554
  ⟨"PAR_STS", 0xE0004, 0, 1, none, [roF 29 3 0, roF 27 2 0, roF 26 1 0, roF 25 1 0, roF 24 1 0, roF 23 1 0, roF 21 2 0, roF 20 1 0]⟩,  -- R554
  ⟨"PAR_CTL", 0xE0008, 0, 1, none, [woF 16 16, woF 0 1]⟩,  -- R554
  ⟨"PAR_CYCLE", 0xE000C, 0, 1, none, [roF 0 32 0]⟩,  -- R554
  ⟨"PAR_HEALTH", 0xE0010, 0, 1, none, [roF 0 8 0]⟩,  -- R554
  ⟨"PAR_DELTA", 0xE0014, 0, 1, none, [cntF 16 16 0, roF 0 16 0]⟩,  -- R554
  ⟨"PAR_DRILL_CFG", 0xE0018, 0, 1, none, [(rwF 24 8 0x1E (.near 5 240)).st, (rwF 16 8 0xA (.near 1 50)).st, (rwF 8 8 0x14 (.near 5 255)).st]⟩,  -- R554
  ⟨"PAR_DRILL_STS", 0xE001C, 0, 1, none, [roF 31 1 0, (roF 8 8 0).st, (roF 0 5 0).st]⟩,  -- R554
  ⟨"PAR_TAKEOVERS", 0xE0040, 0, 1, none, [cntF 0 32 0]⟩,
  ⟨"PAR_SWAPS", 0xE0044, 0, 1, none, [cntF 0 32 0]⟩,
  ⟨"PAR_HB_MISS", 0xE0048, 0, 1, none, [cntF 0 32 0]⟩,
  ⟨"PAR_CYCLE_SHORT", 0xE004C, 0, 1, none, [cntF 0 32 0]⟩,
  ⟨"PAR_LINK_DOWN", 0xE0050, 0, 1, none, [cntF 0 32 0]⟩,
  ⟨"PAR_AUTH_FAIL", 0xE0054, 0, 1, none, [cntF 0 32 0]⟩]

/-- The registers of block FLT. -/
def regsFLT : List RegDef := [
  ⟨"FLT_CFG", 0xF0000, 0, 1, none, [(rwlF 24 8 0x1E).st, (rwlF 20 4 3 (.near 1 15)).st]⟩,  -- R586
  ⟨"FLT_STS", 0xF0004, 0, 1, none, [roF 31 1 0, roF 30 1 0, w1cF 29 1 0, roF 28 1 0, roF 27 1 0, roF 26 1 0, roF 21 5 0]⟩,  -- R586
  ⟨"FLT_PIN_CTRL", 0xF0008, 0, 1, none, [woF 16 16, woF 1 1, rwF 0 1 0]⟩,  -- R586
  ⟨"FLT_HIST_SEL", 0xF000C, 0, 1, none, [rwF 0 4 0]⟩,  -- R586
  ⟨"FLT_HIST_DATA", 0xF0010, 4, 4, none, [roF 0 32 0]⟩,  -- R586
  ⟨"FLT_FATAL_CNT", 0xF0020, 0, 1, none, [cntF 0 32 0]⟩,
  ⟨"FLT_DEGRADED_CNT", 0xF0024, 0, 1, none, [cntF 0 32 0]⟩,
  ⟨"FLT_FUNCTION_CNT", 0xF0028, 0, 1, none, [cntF 0 32 0]⟩,
  ⟨"FLT_NOTICE_CNT", 0xF002C, 0, 1, none, [cntF 0 32 0]⟩,
  ⟨"FLT_HIST_OVF", 0xF0030, 0, 1, none, [cntF 0 32 0]⟩]

/-- The registers of block EVR. -/
def regsEVR : List RegDef := [
  ⟨"EVR_STS", 0x100000, 0, 1, none, [roF 31 1 0, roF 30 1 0, roF 29 1 0, roF 22 7 0, roF 0 17 0]⟩,  -- R587
  ⟨"EVR_FREEZE", 0x100004, 0, 1, none, [rwF 31 1 0, (rwF 0 8 0xA (.near 1 255)).st]⟩,  -- R587
  ⟨"EVR_SEL", 0x100008, 0, 1, none, [rwF 0 16 0]⟩,  -- R587
  ⟨"EVR_LOST", 0x10000C, 0, 1, none, [(roF 0 32 0).st]⟩,  -- R587
  ⟨"EVR_STAGE_OVF", 0x100010, 0, 1, none, [cntF 0 32 0]⟩,
  ⟨"EVR_TORN", 0x100014, 0, 1, none, [roF 0 32 0]⟩,  -- R587
  ⟨"EVR_OPTIME", 0x100018, 0, 1, none, [(roF 0 32 0).st]⟩,  -- R587
  ⟨"EVR_PWRCYC", 0x10001C, 0, 1, none, [(roF 0 24 0).st]⟩,  -- R587
  ⟨"EVR_DATA", 0x100020, 4, 8, none, [roF 0 32 0]⟩]  -- R587

/-- The registers of block UPD. -/
def regsUPD : List RegDef := [
  ⟨"UPD_CFG", 0x110000, 0, 1, none, [(rwlF 31 1 0).st, (rwlF 30 1 0).st]⟩,  -- R613
  ⟨"UPD_STS", 0x110004, 0, 1, none, [roF 28 4 0, roF 24 4 0, roF 16 5 0]⟩,  -- R613
  ⟨"UPD_STAGE", 0x110008, 0, 1, none, [roF 0 23 0]⟩,  -- R613
  ⟨"UPD_VERSION", 0x11000C, 0, 1, none, [roF 0 32 0]⟩,  -- R613
  ⟨"UPD_STAGE_VER", 0x110010, 0, 1, none, [roF 0 32 0]⟩,  -- R613
  ⟨"UPD_CFG_RESET", 0x110014, 0, 1, none, [roF 0 21 0]⟩,  -- R613
  ⟨"UPD_RCV_IP", 0x110020, 4, 4, none, [(rwlF 0 32 0).st]⟩,  -- R613
  ⟨"UPD_IMG_CFG", 0x110030, 0, 1, none, [(rwF 24 8 0x10 (.near 0 64)).st, (rwF 16 8 8 (.near 1 64)).st]⟩,  -- R613
  ⟨"UPD_IMG_STS", 0x110034, 0, 1, none, [roF 16 5 0, roF 0 13 0]⟩,  -- R613
  ⟨"UPD_ACTIVATIONS", 0x110040, 0, 1, none, [cntF 0 32 0]⟩,
  ⟨"UPD_RECOVERIES", 0x110044, 0, 1, none, [cntF 0 32 0]⟩,
  ⟨"UPD_BLOCKS_SENT", 0x110048, 0, 1, none, [roF 0 32 0]⟩,
  ⟨"UPD_METER_DONE", 0x11004C, 0, 1, none, [cntF 0 32 0]⟩,
  ⟨"UPD_METER_FAIL", 0x110050, 0, 1, none, [cntF 0 32 0]⟩,
  ⟨"UPD_PASSES", 0x110054, 0, 1, none, [cntF 0 32 0]⟩]

/-- The registers of block SCH. -/
def regsSCH : List RegDef := [
  ⟨"SCH_CFG", 0x120000, 0, 1, none, [(rwF 31 1 1).st, (rwF 0 8 0x1E (.near 5 255)).st]⟩,  -- R168
  ⟨"SCH_STORM_CFG", 0x120004, 0, 1, none, [(rwF 16 16 0x7D0 (.near 100 60000)).st, (rwF 0 16 0xC8 (.near 10 60000)).st]⟩,  -- R168
  ⟨"SCH_STS", 0x120008, 0, 1, none, [roF 31 1 0, roF 30 1 0, roF 0 13 0]⟩,  -- R169
  ⟨"SCH_STORMS", 0x12000C, 0, 1, none, [cntF 0 32 0]⟩,
  ⟨"SCH_OVERRUN", 0x120010, 0, 1, none, [cntF 0 32 0]⟩,
  ⟨"SCH_MERGED", 0x120014, 0, 1, none, [cntF 0 32 0]⟩,
  ⟨"SCH_PORT_CFG", 0x120100, 8, 7, none, [(rwF 0 8 0x46 (.near 10 95)).st]⟩,  -- R168
  ⟨"SCH_PORT_STS", 0x120104, 8, 7, none, [roF 16 16 0x3E8, roF 8 8 0, roF 0 8 0]⟩]  -- R169

/-- The registers of block PWR. -/
def regsPWR : List RegDef := [
  ⟨"PWR_SUP_STS", 0x130000, 0, 1, none, [roF 31 1 0, w1cF 30 1 0, roF 29 1 1, roF 0 10 0]⟩,  -- R672
  ⟨"PWR_HOLD_CFG", 0x130004, 0, 1, none, [(rwlF 16 16 0).st, (rwlF 8 8 0x46 (.near 10 255)).st, (rwlF 0 8 0x55 (.near 50 100)).st]⟩,  -- R672
  ⟨"PWR_HOLD_RSV", 0x130008, 0, 1, none, [(rwlF 16 16 0xA00 (.near 256 65535)).st, (rwlF 0 10 0x3C (.near 30 1000)).st]⟩,  -- R672
  ⟨"PWR_HOLD_STS", 0x13000C, 0, 1, none, [roF 16 16 0, roF 0 16 0]⟩,  -- R672
  ⟨"PWR_LAST_COMMIT", 0x130010, 0, 1, none, [(roF 16 16 0).st, (roF 0 16 0).st]⟩,  -- R672
  ⟨"PWR_TEMP", 0x130014, 0, 1, none, [roF 24 8 0, rwF 16 8 0, rwF 8 8 0]⟩,  -- R672
  ⟨"PWR_FAIL_CNT", 0x130020, 0, 1, none, [cntF 0 32 0]⟩,
  ⟨"PWR_HOLD_LOW_CNT", 0x130024, 0, 1, none, [cntF 0 32 0]⟩,
  ⟨"PWR_RAIL_TRIP", 0x130028, 0, 1, none, [cntF 0 32 0]⟩]

/-- The registers of block COX. -/
def regsCOX : List RegDef := [
  ⟨"COX_STS", 0x140000, 0, 1, none, [roF 28 4 0, roF 0 16 0]⟩,  -- R640
  ⟨"COX_LOAD", 0x140004, 0, 1, none, [roF 0 32 0]⟩]  -- R640

/-- The registers of block Win. -/
def regsWin : List RegDef := [
  ⟨"LDG_NODE_W0", 0x2000000, 0x80, 4096, none, [(rwlF 31 1 0).st, (rwlF 30 1 0).st, (rwlF 28 2 0 (.enum 0 1 0)).st, (rwlF 22 2 0 (.enum 0 1 0)).st, (rwlF 16 2 0).st, (rwlF 0 16 0).st]⟩,  -- R355
  ⟨"LDG_NODE_W1", 0x2000004, 0x80, 4096, none, [(rwlF 16 16 0xFFFF).st, (rwlF 0 12 0).st]⟩,  -- R355
  ⟨"LDG_NODE_W2", 0x2000008, 0x80, 4096, none, [(rwlF 16 16 0).st, (rwlF 0 16 0).st]⟩,  -- R355
  ⟨"LDG_NODE_W3", 0x200000C, 0x80, 4096, none, [(rwlF 16 16 0 (.snear (-30000) 30000)).st]⟩]  -- R355

/-- Words 0 to 95 of a coefficient bank (R390): a coefficient. -/
def bankDef : RegDef := ⟨"MET_BANK", 0x92000, 4, 6144, none, [(rwF 0 24 0).st]⟩

/-- Word 96 of a coefficient bank (R390): the group delay. -/
def bankGdDef : RegDef := ⟨"MET_BANK", 0x92000, 4, 6144, none, [(rwF 0 16 0).st]⟩

/-- The registers of the block that holds an offset (R51). The selected-node words (R355) have keys from 0x2000000. -/
def blockRegs (b : Nat) : List RegDef :=
  match b with
  | 0 => regsGLB
  | 1 => regsRNG
  | 2 => regsLNE
  | 3 => regsCTX
  | 4 => regsSEC
  | 5 => regsLCP
  | 6 => regsRAD
  | 7 => regsETH
  | 8 => regsTIM
  | 9 => regsMET
  | 10 => regsLDG
  | 11 => regsTAR
  | 12 => regsFTL
  | 13 => regsMEM
  | 14 => regsPAR
  | 15 => regsFLT
  | 16 => regsEVR
  | 17 => regsUPD
  | 18 => regsSCH
  | 19 => regsPWR
  | 20 => regsCOX
  | _ => if b = 0x200 ∨ (0x200 < b ∧ b < 0x208) then regsWin else []

end Sys2Proof.Machine

/-! Field names: block, register and field as the spec names them. -/

namespace Sys2Proof.Machine.F
def GLB_ID_PART : F := ⟨0, 0, 16, 16⟩
def GLB_ID_STEP : F := ⟨0, 0, 12, 4⟩
def GLB_ID_GRADE : F := ⟨0, 0, 0, 4⟩
def GLB_ROLE_CFG_ROLE : F := ⟨0x10, 0, 0, 2⟩
def GLB_ROLE_STS_PENDING : F := ⟨0x14, 0, 2, 1⟩
def GLB_ROLE_STS_ROLE : F := ⟨0x14, 0, 0, 2⟩
def GLB_CFG_LOCK_LOCK : F := ⟨0x18, 0, 0, 1⟩
def GLB_CLK_STS_RTC_RUN : F := ⟨0x20, 0, 7, 1⟩
def GLB_CLK_STS_PCIE_REF : F := ⟨0x20, 0, 6, 1⟩
def GLB_CLK_STS_PAIR_LOCK : F := ⟨0x20, 0, 5, 1⟩
def GLB_CLK_STS_ETH_LOCK : F := ⟨0x20, 0, 4, 1⟩
def GLB_CLK_STS_MEM_LOCK : F := ⟨0x20, 0, 3, 1⟩
def GLB_CLK_STS_MAIN_LOCK : F := ⟨0x20, 0, 2, 1⟩
def GLB_CLK_STS_ROOT_OK : F := ⟨0x20, 0, 1, 1⟩
def GLB_CLK_STS_LOSS_SEEN : F := ⟨0x20, 0, 0, 1⟩
def GLB_RST_CAUSE_CLEAN : F := ⟨0x30, 0, 7, 1⟩
def GLB_RST_CAUSE_CAUSE : F := ⟨0x30, 0, 0, 4⟩
def GLB_SOFT_RESET_KEY : F := ⟨0x34, 0, 16, 16⟩
def GLB_SOFT_RESET_GO : F := ⟨0x34, 0, 0, 1⟩
def GLB_FUNC_RESET_GO : F := ⟨0x38, 0, 8, 1⟩
def GLB_FUNC_RESET_FIX : F := ⟨0x38, 0, 0, 8⟩
def GLB_BOOT_STS_READY : F := ⟨0x3C, 0, 31, 1⟩
def GLB_BOOT_STS_HALT : F := ⟨0x3C, 0, 30, 1⟩
def GLB_BOOT_STS_HALT_CODE : F := ⟨0x3C, 0, 20, 4⟩
def GLB_BOOT_STS_DONE : F := ⟨0x3C, 0, 0, 9⟩
def GLB_STEP_TIME_MS : F := ⟨0x80, 4, 0, 32⟩
def GLB_FUNC_STATE_STATE : F := ⟨0x100, 4, 0, 32⟩
def GLB_FUNC_BLOCKED_BLOCKED : F := ⟨0x140, 4, 0, 32⟩
def GLB_AUTO_EN_EN : F := ⟨0x150, 4, 0, 32⟩
def RNG_PAIR_CFG_ENABLE : F := ⟨0x10000, 0x40, 31, 1⟩
def RNG_PAIR_CFG_EVENT : F := ⟨0x10000, 0x40, 30, 1⟩
def RNG_PAIR_CFG_PRIO : F := ⟨0x10000, 0x40, 24, 3⟩
def RNG_PAIR_CFG_VEC : F := ⟨0x10000, 0x40, 16, 7⟩
def RNG_PAIR_CFG_SUB_LOG2 : F := ⟨0x10000, 0x40, 8, 5⟩
def RNG_PAIR_CFG_CMP_LOG2 : F := ⟨0x10000, 0x40, 0, 5⟩
def RNG_SUB_BASE_LO_BASE : F := ⟨0x10004, 0x40, 6, 26⟩
def RNG_SUB_BASE_HI_BASE : F := ⟨0x10008, 0x40, 0, 32⟩
def RNG_CMP_BASE_LO_BASE : F := ⟨0x1000C, 0x40, 6, 26⟩
def RNG_CMP_BASE_HI_BASE : F := ⟨0x10010, 0x40, 0, 32⟩
def RNG_PAIR_STS_STATE : F := ⟨0x10014, 0x40, 29, 3⟩
def RNG_PAIR_STS_PENDING : F := ⟨0x10014, 0x40, 28, 1⟩
def RNG_PAIR_STS_CMP_STALL : F := ⟨0x10014, 0x40, 27, 1⟩
def RNG_PAIR_STS_TAIL_BACK : F := ⟨0x10014, 0x40, 26, 1⟩
def RNG_PAIR_STS_SEQ_SEEN : F := ⟨0x10014, 0x40, 25, 1⟩
def RNG_PAIR_STS_FETCH_ERR : F := ⟨0x10014, 0x40, 24, 1⟩
def RNG_PAIR_STS_EVT_DB : F := ⟨0x10014, 0x40, 23, 1⟩
def RNG_PAIR_PTR_CMP_TAIL : F := ⟨0x10018, 0x40, 16, 16⟩
def RNG_PAIR_PTR_SUB_HEAD : F := ⟨0x10018, 0x40, 0, 16⟩
def RNG_IRQ_MOD : F := ⟨0x1001C, 0x40, 24, 8⟩
def RNG_IRQ_MOD_TIME : F := ⟨0x1001C, 0x40, 0, 16⟩
def RNG_EVT_MASK_UPDATE : F := ⟨0x10020, 0x40, 11, 1⟩
def RNG_EVT_MASK_IMAGE : F := ⟨0x10020, 0x40, 10, 1⟩
def RNG_EVT_MASK_COUNTER : F := ⟨0x10020, 0x40, 9, 1⟩
def RNG_EVT_MASK_TIME : F := ⟨0x10020, 0x40, 8, 1⟩
def RNG_EVT_MASK_PAIR : F := ⟨0x10020, 0x40, 7, 1⟩
def RNG_EVT_MASK_FAULT : F := ⟨0x10020, 0x40, 6, 1⟩
def RNG_EVT_MASK_TAMPER : F := ⟨0x10020, 0x40, 5, 1⟩
def RNG_EVT_MASK_CAPACITY : F := ⟨0x10020, 0x40, 4, 1⟩
def RNG_EVT_MASK_MEDIA : F := ⟨0x10020, 0x40, 3, 1⟩
def RNG_EVT_MASK_LEDGER : F := ⟨0x10020, 0x40, 2, 1⟩
def RNG_EVT_MASK_INTERVAL : F := ⟨0x10020, 0x40, 1, 1⟩
def RNG_EVT_MASK_ALARM : F := ⟨0x10020, 0x40, 0, 1⟩
def RNG_PAIR_CNT_CMP_DROP : F := ⟨0x10024, 0x40, 24, 8⟩
def RNG_PAIR_CNT_DB_IGNORED : F := ⟨0x10024, 0x40, 12, 12⟩
def RNG_PAIR_CNT_TAIL_BACKS : F := ⟨0x10024, 0x40, 0, 12⟩
def RNG_LAT_MEAS_MAX : F := ⟨0x14000, 0, 16, 16⟩
def RNG_LAT_MEAS_AVG : F := ⟨0x14000, 0, 0, 16⟩
def RNG_LAT_CLR_CLR : F := ⟨0x14004, 0, 0, 32⟩
def RNG_EVT_UNROUTED : F := ⟨0x14008, 0, 0, 32⟩
def RNG_FAULT_VEC_EN : F := ⟨0x1400C, 0, 31, 1⟩
def RNG_FAULT_VEC_VEC : F := ⟨0x1400C, 0, 0, 7⟩
def LNE_OVF_CFG_SIZE_NOW : F := ⟨0x20000, 0, 16, 11⟩
def LNE_OVF_CFG_SIZE : F := ⟨0x20000, 0, 0, 11⟩
def LNE_OVF_USED_ENTRIES : F := ⟨0x20004, 0, 0, 23⟩
def LNE_OVF_PEAK_ENTRIES : F := ⟨0x20008, 0, 0, 23⟩
def LNE_POOL_STS_RESERVE_SHORT : F := ⟨0x2000C, 0, 31, 1⟩
def LNE_POOL_STS_FREE : F := ⟨0x2000C, 0, 0, 17⟩
def LNE_MIN_SUM_SUM : F := ⟨0x20010, 0, 0, 17⟩
def LNE_SPILLED : F := ⟨0x20014, 0, 0, 32⟩
def LNE_DROP : F := ⟨0x20018, 0, 0, 32⟩
def LNE_HELD : F := ⟨0x2001C, 0, 0, 32⟩
def LNE_FLUSHED : F := ⟨0x20020, 0, 0, 32⟩
def LNE_FLUSH_REFUSED : F := ⟨0x20024, 0, 0, 32⟩
def LNE_ECC_DROP : F := ⟨0x20028, 0, 0, 32⟩
def LNE_Q_CFG_MODE : F := ⟨0x21000, 0x10, 31, 1⟩
def LNE_Q_CFG_POLICY : F := ⟨0x21000, 0x10, 30, 1⟩
def LNE_Q_CFG_FLUSHABLE : F := ⟨0x21000, 0x10, 29, 1⟩
def LNE_Q_CFG_MIN : F := ⟨0x21000, 0x10, 9, 17⟩
def LNE_Q_CFG_SHARE : F := ⟨0x21000, 0x10, 0, 9⟩
def LNE_Q_CTL_FLUSH : F := ⟨0x21004, 0x10, 0, 1⟩
def LNE_Q_STS_IN_RING : F := ⟨0x21008, 0x10, 31, 1⟩
def LNE_Q_STS_HELD : F := ⟨0x21008, 0x10, 30, 1⟩
def LNE_Q_STS_CELLS : F := ⟨0x21008, 0x10, 0, 17⟩
def LNE_Q_RING_ENTRIES : F := ⟨0x2100C, 0x10, 0, 23⟩
def CTX_ADMIT_CFG_DEFAULT_GRP : F := ⟨0x30000, 0, 16, 12⟩
def CTX_ADMIT_CFG_BACKOFF : F := ⟨0x30000, 0, 4, 12⟩
def CTX_ADMIT_CFG_MODE : F := ⟨0x30000, 0, 0, 2⟩
def CTX_STATE_CFG_JOIN_TIMEOUT : F := ⟨0x30004, 0, 16, 16⟩
def CTX_STATE_CFG_SILENT_HEATS : F := ⟨0x30004, 0, 0, 8⟩
def CTX_CAP_STS_FULL : F := ⟨0x30008, 0, 31, 1⟩
def CTX_CAP_STS_USED : F := ⟨0x30008, 0, 0, 21⟩
def CTX_ATTACH_STS_JOINING : F := ⟨0x3000C, 0, 16, 16⟩
def CTX_ATTACH_STS_DIRECT : F := ⟨0x3000C, 0, 0, 15⟩
def CTX_REFUSED : F := ⟨0x30010, 0, 0, 32⟩
def CTX_ATTACH_REFUSED : F := ⟨0x30014, 0, 0, 32⟩
def CTX_UNKNOWN_RX : F := ⟨0x30018, 0, 0, 32⟩
def CTX_CACHE_STS_SET_WAIT : F := ⟨0x3001C, 0, 16, 16⟩
def CTX_CACHE_STS_PINNED : F := ⟨0x3001C, 0, 0, 15⟩
def CTX_CACHE_HIT : F := ⟨0x30020, 0, 0, 32⟩
def CTX_CACHE_MISS : F := ⟨0x30024, 0, 0, 32⟩
def CTX_LOOKUP_STS_REHASH : F := ⟨0x30028, 0, 31, 1⟩
def CTX_LOOKUP_STS_STASH : F := ⟨0x30028, 0, 0, 11⟩
def SEC_STS_ROOT_VALID : F := ⟨0x40000, 0, 31, 1⟩
def SEC_STS_TAMPER_LATCH : F := ⟨0x40000, 0, 30, 1⟩
def SEC_STS_KTK_VALID : F := ⟨0x40000, 0, 29, 1⟩
def SEC_STS_ATT_READY : F := ⟨0x40000, 0, 28, 1⟩
def SEC_STS_VBAT_LOW : F := ⟨0x40000, 0, 27, 1⟩
def SEC_STS_TRNG_OK : F := ⟨0x40000, 0, 26, 1⟩
def SEC_STS_BOOT_PATH : F := ⟨0x40000, 0, 24, 2⟩
def SEC_STS_CLONE : F := ⟨0x40000, 0, 20, 4⟩
def SEC_STS_SIGNER : F := ⟨0x40000, 0, 18, 2⟩
def SEC_ROOT_CTL_KEY : F := ⟨0x40004, 0, 16, 16⟩
def SEC_ROOT_CTL_OP : F := ⟨0x40004, 0, 0, 3⟩
def SEC_ROOT_KCV_KCV : F := ⟨0x40008, 4, 0, 32⟩
def SEC_CLONE_CODE_CODE : F := ⟨0x40010, 4, 0, 32⟩
def SEC_KTK_CTL_KEY : F := ⟨0x40020, 0, 16, 16⟩
def SEC_KTK_CTL_OP : F := ⟨0x40020, 0, 0, 2⟩
def SEC_KTK_KCV_KCV : F := ⟨0x40024, 4, 0, 32⟩
def SEC_KTK_DATA_DATA : F := ⟨0x40040, 4, 0, 32⟩
def SEC_TAMPER_CFG_DEBOUNCE : F := ⟨0x40070, 0, 24, 8⟩
def SEC_TAMPER_CFG_POL : F := ⟨0x40070, 0, 16, 4⟩
def SEC_TAMPER_CFG_MESH_EN : F := ⟨0x40070, 0, 4, 1⟩
def SEC_TAMPER_CFG_IN_EN : F := ⟨0x40070, 0, 0, 4⟩
def SEC_TAMPER_STS_SOURCE : F := ⟨0x40074, 0, 28, 4⟩
def SEC_TAMPER_STS : F := ⟨0x40074, 0, 16, 12⟩
def SEC_TAMPER_TIME_TIME : F := ⟨0x40078, 0, 0, 32⟩
def SEC_MON_STS_TEMP : F := ⟨0x4007C, 0, 24, 8⟩
def SEC_MON_STS_VBAT : F := ⟨0x4007C, 0, 15, 9⟩
def SEC_AUTH_CFG_RATE_ALARM : F := ⟨0x40080, 0, 16, 16⟩
def SEC_AUTH_CFG_RUN_ALARM : F := ⟨0x40080, 0, 8, 8⟩
def SEC_AUTH_CFG_MIGRATE : F := ⟨0x40080, 0, 0, 1⟩
def SEC_IMPORT_STS_FULL : F := ⟨0x40084, 0, 15, 1⟩
def SEC_IMPORT_STS_USED : F := ⟨0x40084, 0, 0, 15⟩
def SEC_BOOT_DIGEST_D_BOOT : F := ⟨0x400A0, 4, 0, 32⟩
def SEC_IMG_DIGEST_D_IMG : F := ⟨0x400C0, 4, 0, 32⟩
def SEC_ATT_WRAP_WRAP : F := ⟨0x40100, 4, 0, 32⟩
def SEC_KC_HIT : F := ⟨0x40140, 0, 0, 32⟩
def SEC_KC_MISS : F := ⟨0x40144, 0, 0, 32⟩
def SEC_DERIVE : F := ⟨0x40148, 0, 0, 32⟩
def SEC_REPLAY_RX : F := ⟨0x4014C, 0, 0, 32⟩
def SEC_NOKEY_RX : F := ⟨0x40150, 0, 0, 32⟩
def SEC_AUTH_FAIL : F := ⟨0x40154, 0, 0, 32⟩
def SEC_UNSUP_RX : F := ⟨0x40158, 0, 0, 32⟩
def SEC_CLONE_FAIL : F := ⟨0x4015C, 0, 0, 32⟩
def SEC_ROOT_REFUSED : F := ⟨0x40160, 0, 0, 32⟩
def LCP_CFG_ENABLE : F := ⟨0x50000, 0x8000, 31, 1⟩
def LCP_CFG_PLANS : F := ⟨0x50000, 0x8000, 0, 3⟩
def LCP_STS_STATE : F := ⟨0x50004, 0x8000, 29, 3⟩
def LCP_STS_TX_ACTIVE : F := ⟨0x50004, 0x8000, 28, 1⟩
def LCP_STS_GATED : F := ⟨0x50004, 0x8000, 27, 1⟩
def LCP_STS_OTP_FUSED : F := ⟨0x50004, 0x8000, 26, 1⟩
def LCP_STS_FUSING : F := ⟨0x50004, 0x8000, 25, 1⟩
def LCP_STS_RX_BUSY : F := ⟨0x50004, 0x8000, 22, 3⟩
def LCP_STS_TRUNC_SEEN : F := ⟨0x50004, 0x8000, 21, 1⟩
def LCP_STS_DRV_OPEN : F := ⟨0x50004, 0x8000, 20, 1⟩
def LCP_STS_CAP_LOW : F := ⟨0x50004, 0x8000, 19, 1⟩
def LCP_AFE_CFG_PGA_MAX : F := ⟨0x50008, 0x8000, 24, 3⟩
def LCP_AFE_CFG_DRV_LEAD : F := ⟨0x50008, 0x8000, 16, 8⟩
def LCP_AFE_CFG_DRV_LAG : F := ⟨0x50008, 0x8000, 8, 8⟩
def LCP_AFE_CFG_BLANK : F := ⟨0x50008, 0x8000, 0, 8⟩
def LCP_TX_LEVEL_SC_ATTEN : F := ⟨0x5000C, 0x8000, 16, 5⟩
def LCP_TX_LEVEL_FCC_ATTEN : F := ⟨0x5000C, 0x8000, 8, 5⟩
def LCP_TX_LEVEL_CENA_ATTEN : F := ⟨0x5000C, 0x8000, 0, 5⟩
def LCP_SC_MASK_LO_CARRIERS : F := ⟨0x50010, 0x8000, 0, 32⟩
def LCP_SC_MASK_HI_CARRIERS : F := ⟨0x50014, 0x8000, 0, 26⟩
def LCP_TM_CFG_MARGIN : F := ⟨0x50018, 0x8000, 16, 8⟩
def LCP_TM_CFG_DROP_DB : F := ⟨0x50018, 0x8000, 8, 8⟩
def LCP_TM_CFG_RATES : F := ⟨0x50018, 0x8000, 4, 4⟩
def LCP_TM_REFRESH_TTL : F := ⟨0x5001C, 0x8000, 16, 16⟩
def LCP_TM_REFRESH_PERIOD : F := ⟨0x5001C, 0x8000, 0, 16⟩
def LCP_IMP_CFG_K : F := ⟨0x50020, 0x8000, 8, 8⟩
def LCP_IMP_CFG_MIN : F := ⟨0x50020, 0x8000, 0, 8⟩
def LCP_SNS_CAL_VSCALE : F := ⟨0x50024, 0x8000, 16, 16⟩
def LCP_SNS_CAL_ISCALE : F := ⟨0x50024, 0x8000, 0, 16⟩
def LCP_ZC_CFG_DEBOUNCE : F := ⟨0x50028, 0x8000, 8, 8⟩
def LCP_ZC_CFG_MAINS : F := ⟨0x50028, 0x8000, 6, 2⟩
def LCP_ZC_CFG_EN : F := ⟨0x50028, 0x8000, 3, 3⟩
def LCP_ZC_CFG_POL : F := ⟨0x50028, 0x8000, 0, 3⟩
def LCP_GOV_CAP_WIN_CAP : F := ⟨0x50030, 0x8000, 16, 16⟩
def LCP_GOV_CAP_FRAME_CAP : F := ⟨0x50030, 0x8000, 0, 16⟩
def LCP_GOV_PMAX_PMAX : F := ⟨0x50034, 0x8000, 0, 16⟩
def LCP_GOV_OTP_WIN_HARD : F := ⟨0x50038, 0x8000, 16, 16⟩
def LCP_GOV_OTP_FRAME_HARD : F := ⟨0x50038, 0x8000, 0, 16⟩
def LCP_GOV_FUSE_WIN : F := ⟨0x5003C, 0x8000, 16, 16⟩
def LCP_GOV_FUSE_FRAME : F := ⟨0x5003C, 0x8000, 0, 16⟩
def LCP_GOV_PROG_KEY : F := ⟨0x50040, 0x8000, 16, 16⟩
def LCP_GOV_PROG_GO : F := ⟨0x50040, 0x8000, 0, 1⟩
def LCP_GOV_STS_WIN_NOW : F := ⟨0x50044, 0x8000, 16, 16⟩
def LCP_GOV_STS_LAST_FRAME : F := ⟨0x50044, 0x8000, 0, 16⟩
def LCP_GOV_TRUNC_TRUNC : F := ⟨0x50048, 0x8000, 16, 16⟩
def LCP_GOV_TRUNC_WAIT : F := ⟨0x50048, 0x8000, 0, 16⟩
def LCP_RX_OK : F := ⟨0x50050, 0x8000, 0, 32⟩
def LCP_RX_FCS : F := ⟨0x50054, 0x8000, 0, 32⟩
def LCP_IMP_SYM : F := ⟨0x50058, 0x8000, 0, 32⟩
def LCP_TM_EARLY : F := ⟨0x5005C, 0x8000, 0, 32⟩
def LCP_NOISE_SC : F := ⟨0x50060, 0x8000, 16, 8⟩
def LCP_NOISE_FCC : F := ⟨0x50060, 0x8000, 8, 8⟩
def LCP_NOISE_CENA : F := ⟨0x50060, 0x8000, 0, 8⟩
def LCP_MAC_CFG_HP_SLOTS : F := ⟨0x50400, 0x8000, 28, 4⟩
def LCP_MAC_CFG_MAX_BE : F := ⟨0x50400, 0x8000, 24, 4⟩
def LCP_MAC_CFG_MIN_BE : F := ⟨0x50400, 0x8000, 20, 4⟩
def LCP_MAC_CFG_RETX : F := ⟨0x50400, 0x8000, 16, 4⟩
def LCP_MAC_CFG_RSP_MAX : F := ⟨0x50400, 0x8000, 0, 12⟩
def LCP_POLL_CFG_PW_ON : F := ⟨0x50404, 0x8000, 24, 8⟩
def LCP_POLL_CFG_PW_OFF : F := ⟨0x50404, 0x8000, 16, 8⟩
def LCP_POLL_CFG_PW_MIN : F := ⟨0x50404, 0x8000, 8, 8⟩
def LCP_POLL_CFG_POLL_OK : F := ⟨0x50404, 0x8000, 4, 4⟩
def LCP_POLL_CFG_PW_EN : F := ⟨0x50404, 0x8000, 0, 1⟩
def LCP_MESH_CFG_CTO : F := ⟨0x50408, 0x8000, 24, 8⟩
def LCP_MESH_CFG_HYST : F := ⟨0x50408, 0x8000, 16, 8⟩
def LCP_MESH_CFG_MAX_HOPS : F := ⟨0x50408, 0x8000, 8, 4⟩
def LCP_MESH_CFG_NB_AGE : F := ⟨0x50408, 0x8000, 0, 8⟩
def LCP_PH_CFG_TOL : F := ⟨0x5040C, 0x8000, 8, 8⟩
def LCP_PH_CFG_AGREE : F := ⟨0x5040C, 0x8000, 0, 4⟩
def LCP_MAC_STS_PORT_POLL : F := ⟨0x50410, 0x8000, 31, 1⟩
def LCP_MAC_STS_BE : F := ⟨0x50410, 0x8000, 27, 4⟩
def LCP_MAC_STS_FAIL_PCT : F := ⟨0x50410, 0x8000, 20, 7⟩
def LCP_MAC_STS_POLLED : F := ⟨0x50410, 0x8000, 0, 16⟩
def LCP_PH_STS_PERIOD : F := ⟨0x50414, 0x8000, 16, 16⟩
def LCP_PH_STS_ROT : F := ⟨0x50414, 0x8000, 15, 1⟩
def LCP_PH_STS_ZC_OK : F := ⟨0x50414, 0x8000, 12, 3⟩
def LCP_MAC_TX : F := ⟨0x50420, 0x8000, 0, 32⟩
def LCP_MAC_FAIL : F := ⟨0x50424, 0x8000, 0, 32⟩
def LCP_RT_QUERY : F := ⟨0x50428, 0x8000, 0, 32⟩
def LCP_RT_DROP : F := ⟨0x5042C, 0x8000, 0, 32⟩
def LCP_NB_FULL : F := ⟨0x50430, 0x8000, 0, 32⟩
def LCP_PH_CHANGE : F := ⟨0x50434, 0x8000, 0, 32⟩
def LCP_SEG_DROP : F := ⟨0x50438, 0x8000, 0, 32⟩
def LCP_NB_SEL : F := ⟨0x50440, 0x8000, 16, 12⟩
def LCP_NB_SEL_INDEX : F := ⟨0x50440, 0x8000, 0, 11⟩
def LCP_RT_SEL_MIX : F := ⟨0x50444, 0x8000, 0, 20⟩
def RAD_CFG_ENABLE : F := ⟨0x60000, 0x4000, 31, 1⟩
def RAD_CFG_MODE : F := ⟨0x60000, 0x4000, 0, 4⟩
def RAD_STS_STATE : F := ⟨0x60004, 0x4000, 29, 3⟩
def RAD_STS_TX_ACTIVE : F := ⟨0x60004, 0x4000, 28, 1⟩
def RAD_STS_GATED : F := ⟨0x60004, 0x4000, 27, 1⟩
def RAD_STS_BLOCKED : F := ⟨0x60004, 0x4000, 26, 1⟩
def RAD_STS_SLOW : F := ⟨0x60004, 0x4000, 25, 1⟩
def RAD_STS_IQ_LOCK : F := ⟨0x60004, 0x4000, 24, 1⟩
def RAD_STS_RSSI : F := ⟨0x60004, 0x4000, 16, 8⟩
def RAD_CHAN_FREQ_KHZ : F := ⟨0x60008, 0x4000, 12, 20⟩
def RAD_IQ_CFG_RSSI_OFS : F := ⟨0x6000C, 0x4000, 24, 8⟩
def RAD_IQ_CFG_DLY_Q : F := ⟨0x6000C, 0x4000, 8, 6⟩
def RAD_IQ_CFG_DLY_I : F := ⟨0x6000C, 0x4000, 0, 6⟩
def RAD_XCVR_CFG_INIT : F := ⟨0x60010, 0x4000, 24, 8⟩
def RAD_XCVR_CFG_RX : F := ⟨0x60010, 0x4000, 16, 8⟩
def RAD_XCVR_CFG_TX : F := ⟨0x60010, 0x4000, 8, 8⟩
def RAD_XCVR_CFG_SLEEP : F := ⟨0x60010, 0x4000, 0, 8⟩
def RAD_XCVR_FSTEP_FSTEP : F := ⟨0x60014, 0x4000, 0, 32⟩
def RAD_LBT_CFG_THR : F := ⟨0x60018, 0x4000, 24, 8⟩
def RAD_LBT_CFG_LISTEN : F := ⟨0x60018, 0x4000, 16, 8⟩
def RAD_LBT_CFG_UNIT : F := ⟨0x60018, 0x4000, 8, 8⟩
def RAD_LBT_CFG_TRIES : F := ⟨0x60018, 0x4000, 4, 4⟩
def RAD_DUTY_CFG_DUTY : F := ⟨0x6001C, 0x4000, 0, 10⟩
def RAD_SLOT_CFG_PERIOD : F := ⟨0x60020, 0x4000, 17, 15⟩
def RAD_SLOT_CFG_WAKE : F := ⟨0x60020, 0x4000, 14, 3⟩
def RAD_SLOT_CFG_TURN : F := ⟨0x60020, 0x4000, 8, 6⟩
def RAD_SLOT_CFG_LISTEN : F := ⟨0x60020, 0x4000, 0, 8⟩
def RAD_GUARD_CFG_GRAN : F := ⟨0x60024, 0x4000, 16, 16⟩
def RAD_GUARD_CFG_PPM : F := ⟨0x60024, 0x4000, 8, 8⟩
def RAD_GUARD_CFG_BASE : F := ⟨0x60024, 0x4000, 0, 8⟩
def RAD_LL_CFG_LL_MAX : F := ⟨0x60028, 0x4000, 16, 16⟩
def RAD_LL_CFG_LL_MIN : F := ⟨0x60028, 0x4000, 8, 8⟩
def RAD_LL_CFG_WMB_JIT : F := ⟨0x60028, 0x4000, 0, 8⟩
def RAD_FLOOD_CFG_EN : F := ⟨0x6002C, 0x4000, 31, 1⟩
def RAD_FLOOD_CFG_SEEN_AGE : F := ⟨0x6002C, 0x4000, 20, 8⟩
def RAD_FLOOD_CFG_TTL : F := ⟨0x6002C, 0x4000, 16, 3⟩
def RAD_FLOOD_CFG_SUPP : F := ⟨0x6002C, 0x4000, 12, 4⟩
def RAD_FLOOD_CFG_RWIN : F := ⟨0x6002C, 0x4000, 8, 4⟩
def RAD_FLOOD_CFG_RSLOT : F := ⟨0x6002C, 0x4000, 0, 8⟩
def RAD_SLOT_STS_SLOTTED : F := ⟨0x60034, 0x4000, 16, 16⟩
def RAD_SLOT_STS_UNSLOTTED : F := ⟨0x60034, 0x4000, 0, 16⟩
def RAD_RSYNC_STS_RESYNC : F := ⟨0x60038, 0x4000, 16, 16⟩
def RAD_RSYNC_STS_LONG : F := ⟨0x60038, 0x4000, 0, 16⟩
def RAD_DUTY_STS_USED : F := ⟨0x6003C, 0x4000, 0, 10⟩
def RAD_IQ_STS_BAD : F := ⟨0x60040, 0x4000, 0, 32⟩
def RAD_XCVR_STS_IRQS : F := ⟨0x60044, 0x4000, 24, 8⟩
def RAD_XCVR_STS_T_RX2TX : F := ⟨0x60044, 0x4000, 12, 12⟩
def RAD_XCVR_STS_T_TX2RX : F := ⟨0x60044, 0x4000, 0, 12⟩
def RAD_RX_OK : F := ⟨0x60050, 0x4000, 0, 32⟩
def RAD_RX_FCS : F := ⟨0x60054, 0x4000, 0, 32⟩
def RAD_LBT_BUSY : F := ⟨0x60058, 0x4000, 0, 32⟩
def RAD_DUTY_WAIT : F := ⟨0x6005C, 0x4000, 0, 32⟩
def RAD_BCN_SKIP : F := ⟨0x60060, 0x4000, 0, 32⟩
def RAD_SLOT_MISS : F := ⟨0x60064, 0x4000, 0, 32⟩
def RAD_SLOT_YIELD : F := ⟨0x60068, 0x4000, 0, 32⟩
def RAD_SLOT_BUSY : F := ⟨0x6006C, 0x4000, 0, 32⟩
def RAD_RSYNC_ENTER : F := ⟨0x60070, 0x4000, 0, 32⟩
def RAD_PARTNER_LOST : F := ⟨0x60074, 0x4000, 0, 32⟩
def RAD_FLOOD_DUP : F := ⟨0x60078, 0x4000, 0, 32⟩
def RAD_SEEN_EVICT : F := ⟨0x6007C, 0x4000, 0, 32⟩
def RAD_SCRIPT0_WORD : F := ⟨0x60200, 4, 0, 32⟩
def RAD_SCRIPT1_WORD : F := ⟨0x64200, 4, 0, 32⟩
def RAD_SCRIPT2_WORD : F := ⟨0x68200, 4, 0, 32⟩
def RAD_SCRIPT3_WORD : F := ⟨0x6C200, 4, 0, 32⟩
def ETH_CFG_ENABLE : F := ⟨0x70000, 0x4000, 31, 1⟩
def ETH_CFG_RATE : F := ⟨0x70000, 0x4000, 28, 3⟩
def ETH_CFG_AN : F := ⟨0x70000, 0x4000, 27, 1⟩
def ETH_CFG_PAUSE_RX : F := ⟨0x70000, 0x4000, 26, 1⟩
def ETH_CFG_VLAN_EN : F := ⟨0x70000, 0x4000, 25, 1⟩
def ETH_CFG_MGT_EN : F := ⟨0x70000, 0x4000, 24, 1⟩
def ETH_CFG_MAX_FRAME : F := ⟨0x70000, 0x4000, 0, 14⟩
def ETH_STS_STATE : F := ⟨0x70004, 0x4000, 29, 3⟩
def ETH_STS_LINK : F := ⟨0x70004, 0x4000, 28, 1⟩
def ETH_STS_SPEED : F := ⟨0x70004, 0x4000, 26, 2⟩
def ETH_STS_PAUSED : F := ⟨0x70004, 0x4000, 25, 1⟩
def ETH_STS_FL_ACTIVE : F := ⟨0x70004, 0x4000, 24, 1⟩
def ETH_MAC_LO_MAC : F := ⟨0x70008, 0x4000, 0, 32⟩
def ETH_MAC_HI_MAC : F := ⟨0x7000C, 0x4000, 0, 16⟩
def ETH_VLAN_PCP : F := ⟨0x70010, 0x4000, 13, 3⟩
def ETH_VLAN_VID : F := ⟨0x70010, 0x4000, 0, 12⟩
def ETH_MGT_TX_CTL_BUSY : F := ⟨0x70200, 0x4000, 31, 1⟩
def ETH_MGT_TX_CTL_REFUSED : F := ⟨0x70200, 0x4000, 30, 1⟩
def ETH_MGT_TX_CTL_TS_REQ : F := ⟨0x70200, 0x4000, 29, 1⟩
def ETH_MGT_TX_CTL_GO : F := ⟨0x70200, 0x4000, 28, 1⟩
def ETH_MGT_TX_CTL_LEN : F := ⟨0x70200, 0x4000, 14, 14⟩
def ETH_MGT_TX_ID_ID : F := ⟨0x70204, 0x4000, 0, 16⟩
def ETH_MGT_RX_VALID : F := ⟨0x70208, 0x4000, 31, 1⟩
def ETH_MGT_RX_FILL : F := ⟨0x70208, 0x4000, 14, 3⟩
def ETH_MGT_RX_LEN : F := ⟨0x70208, 0x4000, 0, 14⟩
def ETH_MGT_RX_POP_POP : F := ⟨0x7020C, 0x4000, 0, 1⟩
def ETH_MGT_RX_SEC_TS : F := ⟨0x70210, 0x4000, 0, 32⟩
def ETH_MGT_RX_NS_TS : F := ⟨0x70214, 0x4000, 0, 32⟩
def ETH_MGT_PAGE_RX_PAGE : F := ⟨0x70218, 0x4000, 8, 3⟩
def ETH_MGT_PAGE_TX_PAGE : F := ⟨0x70218, 0x4000, 0, 3⟩
def FL_CFG_MODE : F := ⟨0x73000, 0, 30, 2⟩
def FL_CFG_PORTS : F := ⟨0x73000, 0, 26, 4⟩
def FL_CFG_FDX : F := ⟨0x73000, 0, 16, 10⟩
def FL_CFG_ETYPE : F := ⟨0x73000, 0, 0, 16⟩
def FL_UDP_PORT : F := ⟨0x73004, 0, 0, 16⟩
def FL_TIMER_HB_MS : F := ⟨0x73008, 0, 18, 14⟩
def FL_TIMER_RTO : F := ⟨0x73008, 0, 8, 10⟩
def FL_TIMER_CODE_HOURS : F := ⟨0x73008, 0, 0, 8⟩
def FL_STS_STATE : F := ⟨0x7300C, 0, 29, 3⟩
def FL_STS_PORT : F := ⟨0x7300C, 0, 27, 2⟩
def FL_STS_KEY_HELD : F := ⟨0x7300C, 0, 26, 1⟩
def FL_STS_CODE_VALID : F := ⟨0x7300C, 0, 25, 1⟩
def FL_STS_MUSTERED : F := ⟨0x7300C, 0, 0, 11⟩
def FL_CODE_CODE : F := ⟨0x73010, 4, 0, 32⟩
def FL_PEER_MAC_MAC : F := ⟨0x73020, 4, 0, 32⟩
def FL_MAC_MAC : F := ⟨0x73028, 4, 0, 32⟩
def FL_IP_ADDR : F := ⟨0x73030, 4, 0, 32⟩
def FL_FD_SEL_FDX : F := ⟨0x73060, 0, 0, 10⟩
def FL_FD_DATA_DATA : F := ⟨0x73070, 4, 0, 32⟩
def FL_FD_EN_EN : F := ⟨0x73080, 4, 0, 32⟩
def FL_KEYWRAP : F := ⟨0x73100, 0, 0, 32⟩
def FL_DUP : F := ⟨0x73104, 0, 0, 32⟩
def FL_FDX_CONFLICT : F := ⟨0x73108, 0, 0, 32⟩
def TIM_CFG_PPS_VALID_ONLY : F := ⟨0x80000, 0, 31, 1⟩
def TIM_CFG_SRC_EN : F := ⟨0x80000, 0, 24, 3⟩
def TIM_CFG_UTC_OFS : F := ⟨0x80000, 0, 16, 8⟩
def TIM_CFG_PREFER_FL : F := ⟨0x80000, 0, 15, 1⟩
def TIM_STS_SRC : F := ⟨0x80004, 0, 29, 3⟩
def TIM_STS_LOCK : F := ⟨0x80004, 0, 27, 2⟩
def TIM_STS_HOLDOVER : F := ⟨0x80004, 0, 26, 1⟩
def TIM_STS_RTC_VALID : F := ⟨0x80004, 0, 25, 1⟩
def TIM_STS_LEAP_PEND : F := ⟨0x80004, 0, 24, 1⟩
def TIM_STS_CMP_REFUSED : F := ⟨0x80004, 0, 23, 1⟩
def TIM_STS_STEPPED : F := ⟨0x80004, 0, 22, 1⟩
def TIM_TIME_LO : F := ⟨0x80008, 0, 0, 32⟩
def TIM_TIME_HI : F := ⟨0x8000C, 0, 0, 32⟩
def TIM_MONO_LO : F := ⟨0x80010, 0, 0, 32⟩
def TIM_MONO_HI : F := ⟨0x80014, 0, 0, 32⟩
def TIM_OFFSET_O : F := ⟨0x80018, 0, 0, 32⟩
def TIM_RATE_RATE : F := ⟨0x8001C, 0, 0, 32⟩
def TIM_SERVO_CFG_KP : F := ⟨0x80020, 0, 24, 8⟩
def TIM_SERVO_CFG_KI : F := ⟨0x80020, 0, 8, 16⟩
def TIM_SERVO_CFG_STEP_THR : F := ⟨0x80020, 0, 0, 8⟩
def TIM_HOLD_CFG_HOLD_AVG : F := ⟨0x80024, 0, 20, 12⟩
def TIM_HOLD_CFG_MAX_SLEW : F := ⟨0x80024, 0, 0, 10⟩
def TIM_PTP_CFG_EN : F := ⟨0x80028, 0, 31, 1⟩
def TIM_PTP_CFG_PROFILE : F := ⟨0x80028, 0, 29, 2⟩
def TIM_PTP_CFG_TRANSPORT : F := ⟨0x80028, 0, 27, 2⟩
def TIM_PTP_CFG_TWO_STEP : F := ⟨0x80028, 0, 26, 1⟩
def TIM_PTP_CFG_SLAVE_ONLY : F := ⟨0x80028, 0, 25, 1⟩
def TIM_PTP_CFG_BC : F := ⟨0x80028, 0, 24, 1⟩
def TIM_PTP_CFG_DOMAIN : F := ⟨0x80028, 0, 16, 8⟩
def TIM_PTP_CFG_PORTS : F := ⟨0x80028, 0, 12, 4⟩
def TIM_PTP_CFG_SYNC_LOG2 : F := ⟨0x80028, 0, 8, 4⟩
def TIM_PTP_CFG_ANN_LOG2 : F := ⟨0x80028, 0, 4, 4⟩
def TIM_PTP_PRIO_PRIO1 : F := ⟨0x8002C, 0, 24, 8⟩
def TIM_PTP_PRIO_PRIO2 : F := ⟨0x8002C, 0, 16, 8⟩
def TIM_PTP_PRIO_CLASS : F := ⟨0x8002C, 0, 8, 8⟩
def TIM_PTP_STS_STATE : F := ⟨0x80030, 0, 0, 16⟩
def TIM_FL_CFG_PERIOD : F := ⟨0x80034, 0, 24, 8⟩
def TIM_FL_CFG_DELAY_N : F := ⟨0x80034, 0, 16, 8⟩
def TIM_BCN_CFG_LINE_PER : F := ⟨0x80038, 0, 22, 10⟩
def TIM_BCN_CFG_RAD_PER : F := ⟨0x80038, 0, 12, 10⟩
def TIM_BCN_CFG_LINE_DLY : F := ⟨0x80038, 0, 6, 6⟩
def TIM_BCN_CFG_RAD_DLY : F := ⟨0x80038, 0, 0, 6⟩
def TIM_CMP_OWN_OWNER : F := ⟨0x8003C, 0, 0, 32⟩
def TIM_ETH_DLY_TX_DLY : F := ⟨0x80040, 4, 16, 16⟩
def TIM_ETH_DLY_RX_DLY : F := ⟨0x80040, 4, 0, 16⟩
def TIM_PPS_CFG_ENABLE : F := ⟨0x80080, 0x20, 31, 1⟩
def TIM_PPS_CFG_POL : F := ⟨0x80080, 0x20, 30, 1⟩
def TIM_PPS_CFG_LATE : F := ⟨0x80080, 0x20, 29, 1⟩
def TIM_PPS_START_LO_START : F := ⟨0x80084, 0x20, 0, 32⟩
def TIM_PPS_START_HI_START : F := ⟨0x80088, 0x20, 0, 32⟩
def TIM_PPS_PERIOD_PERIOD : F := ⟨0x8008C, 0x20, 0, 32⟩
def TIM_PPS_WIDTH_WIDTH : F := ⟨0x80090, 0x20, 0, 32⟩
def TIM_CAP_CFG_ENABLE : F := ⟨0x80100, 0x10, 31, 1⟩
def TIM_CAP_CFG_EDGE : F := ⟨0x80100, 0x10, 29, 2⟩
def TIM_CAP_STS_OVF : F := ⟨0x80104, 0x10, 31, 1⟩
def TIM_CAP_STS_FILL : F := ⟨0x80104, 0x10, 28, 3⟩
def TIM_CAP_LO_T : F := ⟨0x80108, 0x10, 0, 32⟩
def TIM_CAP_HI_T : F := ⟨0x8010C, 0x10, 0, 32⟩
def TIM_HT_CFG_ENABLE : F := ⟨0x80140, 0x10, 31, 1⟩
def TIM_HT_CFG_LATE : F := ⟨0x80140, 0x10, 30, 1⟩
def TIM_HT_AT_LO_AT : F := ⟨0x80144, 0x10, 0, 32⟩
def TIM_HT_AT_HI_AT : F := ⟨0x80148, 0x10, 0, 32⟩
def TIM_HT_PERIOD_PERIOD : F := ⟨0x8014C, 0x10, 0, 32⟩
def TIM_TXQ_STS_OVF : F := ⟨0x80180, 0x20, 31, 1⟩
def TIM_TXQ_STS_FILL : F := ⟨0x80180, 0x20, 26, 5⟩
def TIM_TXQ_POP_POP : F := ⟨0x80184, 0x20, 0, 1⟩
def TIM_TXQ_ID_VALID : F := ⟨0x80188, 0x20, 16, 1⟩
def TIM_TXQ_ID_ID : F := ⟨0x80188, 0x20, 0, 16⟩
def TIM_TXQ_SEC_SEC : F := ⟨0x8018C, 0x20, 0, 32⟩
def TIM_TXQ_NS_NS : F := ⟨0x80190, 0x20, 2, 30⟩
def TIM_TXQ_NS_QNS : F := ⟨0x80190, 0x20, 0, 2⟩
def TIM_TXQ_DROP : F := ⟨0x80194, 0x20, 0, 32⟩
def TIM_STEPS : F := ⟨0x80200, 0, 0, 32⟩
def TIM_HOLDOVERS : F := ⟨0x80204, 0, 0, 32⟩
def TIM_CMP_REFUSED : F := ⟨0x80208, 0, 0, 32⟩
def TIM_BCN_SENT : F := ⟨0x8020C, 0, 0, 32⟩
def TIM_FL_MISS : F := ⟨0x80210, 0, 0, 32⟩
def MET_CFG_BSCLK_EN : F := ⟨0x90000, 0, 1, 1⟩
def MET_CFG_EDGE : F := ⟨0x90000, 0, 0, 1⟩
def MET_STS_MX_CLAIMED : F := ⟨0x90004, 0, 31, 1⟩
def MET_STS_CH_ON : F := ⟨0x90004, 0, 0, 24⟩
def MET_CH_CFG_ENABLE : F := ⟨0x90100, 0x40, 31, 1⟩
def MET_CH_CFG_HPF : F := ⟨0x90100, 0x40, 30, 1⟩
def MET_CH_CFG_CODE : F := ⟨0x90100, 0x40, 29, 1⟩
def MET_CH_CFG_PGA : F := ⟨0x90100, 0x40, 24, 2⟩
def MET_CH_RATIO_D_FIR : F := ⟨0x90104, 0x40, 27, 5⟩
def MET_CH_RATIO_N_HB : F := ⟨0x90104, 0x40, 24, 3⟩
def MET_CH_RATIO_D_CIC : F := ⟨0x90104, 0x40, 0, 17⟩
def MET_CH_TRIM_COARSE : F := ⟨0x90108, 0x40, 16, 16⟩
def MET_CH_TRIM_FINE : F := ⟨0x90108, 0x40, 0, 8⟩
def MET_CH_GAIN_GAIN : F := ⟨0x9010C, 0x40, 0, 32⟩
def MET_CH_SWAP_AT_LO_AT : F := ⟨0x90110, 0x40, 0, 32⟩
def MET_CH_SWAP_AT_HI_AT : F := ⟨0x90114, 0x40, 0, 32⟩
def MET_CH_SWAP_CTL_ARM : F := ⟨0x90118, 0x40, 31, 1⟩
def MET_CH_SWAP_CTL_BANK : F := ⟨0x90118, 0x40, 30, 1⟩
def MET_CH_STS_STATE : F := ⟨0x9011C, 0x40, 29, 3⟩
def MET_CH_STS_ACTIVE : F := ⟨0x9011C, 0x40, 28, 1⟩
def MET_CH_STS_LATE : F := ⟨0x9011C, 0x40, 27, 1⟩
def MET_CH_STS_ACT_WR : F := ⟨0x9011C, 0x40, 26, 1⟩
def MET_CH_STS_OVL : F := ⟨0x9011C, 0x40, 25, 1⟩
def MET_CH_STS_STUCK : F := ⟨0x9011C, 0x40, 24, 1⟩
def MET_CH_STS_PENDING : F := ⟨0x9011C, 0x40, 23, 1⟩
def MET_CH_STS_CM_HELD : F := ⟨0x9011C, 0x40, 22, 1⟩
def MET_CH_STS_SETTLE : F := ⟨0x9011C, 0x40, 0, 16⟩
def MET_CH_SMP_LO_INDEX : F := ⟨0x90120, 0x40, 0, 32⟩
def MET_CH_SMP_HI_INDEX : F := ⟨0x90124, 0x40, 0, 32⟩
def MET_CH_STAMP_LO_STAMP : F := ⟨0x90128, 0x40, 0, 32⟩
def MET_CH_STAMP_HI_STAMP : F := ⟨0x9012C, 0x40, 0, 32⟩
def MET_CH_RATE_RATE : F := ⟨0x90130, 0x40, 0, 32⟩
def MET_CH_GD_GD : F := ⟨0x90134, 0x40, 0, 32⟩
def MET_CM_CFG_ENABLE : F := ⟨0x98000, 0x100, 31, 1⟩
def MET_CM_CFG_DIR : F := ⟨0x98000, 0x100, 30, 1⟩
def MET_CM_MAP_MAP : F := ⟨0x98004, 0x100, 0, 30⟩
def MET_CM_VFS_V_FS : F := ⟨0x98008, 0x100, 0, 32⟩
def MET_CM_IFS_I_FS : F := ⟨0x9800C, 0x100, 0, 32⟩
def MET_CM_STS_STATE : F := ⟨0x98010, 0x100, 29, 3⟩
def MET_CM_STS_BLOCKED : F := ⟨0x98010, 0x100, 28, 1⟩
def MET_CM_STS_FREQ : F := ⟨0x98010, 0x100, 8, 20⟩
def MET_CM_VRMS1_V_RMS1_to_3 : F := ⟨0x98020, 0x100, 0, 32⟩
def MET_CM_VRMS2_V_RMS1_to_3 : F := ⟨0x98024, 0x100, 0, 32⟩
def MET_CM_VRMS3_V_RMS1_to_3 : F := ⟨0x98028, 0x100, 0, 32⟩
def MET_CM_IRMS1_I_RMS1_to_3 : F := ⟨0x9802C, 0x100, 0, 32⟩
def MET_CM_IRMS2_I_RMS1_to_3 : F := ⟨0x98030, 0x100, 0, 32⟩
def MET_CM_IRMS3_I_RMS1_to_3 : F := ⟨0x98034, 0x100, 0, 32⟩
def MET_CM_P1_P1_to_P3 : F := ⟨0x98038, 0x100, 0, 32⟩
def MET_CM_P2_P1_to_P3 : F := ⟨0x9803C, 0x100, 0, 32⟩
def MET_CM_P3_P1_to_P3 : F := ⟨0x98040, 0x100, 0, 32⟩
def MET_CM_DROP : F := ⟨0x98044, 0x100, 0, 32⟩
def LDG_VEE_CFG_ALIGN_TOL : F := ⟨0xA0000, 0, 24, 8⟩
def LDG_VEE_CFG_FUT_TOL : F := ⟨0xA0000, 0, 16, 8⟩
def LDG_VEE_CFG_SPIKE_X : F := ⟨0xA0000, 0, 8, 8⟩
def LDG_VEE_CFG_STUCK_N : F := ⟨0xA0000, 0, 0, 8⟩
def LDG_EST_CFG_EST_HOLD : F := ⟨0xA0004, 0, 24, 8⟩
def LDG_EST_CFG_SUM_TOL : F := ⟨0xA0004, 0, 16, 8⟩
def LDG_EST_CFG_PH_SPAN : F := ⟨0xA0004, 0, 8, 8⟩
def LDG_CLK_CFG_FINE_MAX : F := ⟨0xA0008, 0, 24, 8⟩
def LDG_CLK_CFG_COARSE_MAX : F := ⟨0xA0008, 0, 12, 12⟩
def LDG_CLK_CFG_AUTO_SET : F := ⟨0xA0008, 0, 0, 1⟩
def LDG_BAL_CFG_EN : F := ⟨0xA000C, 0, 31, 1⟩
def LDG_BAL_CFG_BAL_LAG : F := ⟨0xA000C, 0, 24, 7⟩
def LDG_BAL_CFG_COVER_MIN : F := ⟨0xA000C, 0, 16, 8⟩
def LDG_BAL_CFG_UNK_MAX : F := ⟨0xA000C, 0, 8, 8⟩
def LDG_BAL_CFG_CONF : F := ⟨0xA000C, 0, 6, 2⟩
def LDG_LOSS_CFG_WIN_DAYS : F := ⟨0xA0010, 0, 24, 8⟩
def LDG_LOSS_CFG_MIN_DAYS : F := ⟨0xA0010, 0, 16, 8⟩
def LDG_LOSS_CFG_LOSS_MIN : F := ⟨0xA0010, 0, 0, 16⟩
def LDG_ATTR_CFG_EN : F := ⟨0xA0014, 0, 31, 1⟩
def LDG_ATTR_CFG_BYPASS_EN : F := ⟨0xA0014, 0, 30, 1⟩
def LDG_ATTR_CFG_T_SUS : F := ⟨0xA0014, 0, 20, 10⟩
def LDG_ATTR_CFG_BETA_MIN : F := ⟨0xA0014, 0, 12, 8⟩
def LDG_ATTR_CFG_BYPASS_DAYS : F := ⟨0xA0014, 0, 4, 8⟩
def LDG_STS_NODES_ON : F := ⟨0xA0018, 0, 19, 13⟩
def LDG_STS_NODES_LOSS : F := ⟨0xA0018, 0, 6, 13⟩
def LDG_NODE_SEL_NODE : F := ⟨0xA0020, 0, 0, 12⟩
def LDG_INT_LOGGED : F := ⟨0xA0100, 0, 0, 32⟩
def LDG_DUP : F := ⟨0xA0104, 0, 0, 32⟩
def LDG_REJECT : F := ⟨0xA0108, 0, 0, 32⟩
def LDG_EST_R : F := ⟨0xA010C, 0, 0, 32⟩
def LDG_FORMED : F := ⟨0xA0110, 0, 0, 32⟩
def LDG_NOT_FORMED : F := ⟨0xA0114, 0, 0, 32⟩
def LDG_PH_MOVE : F := ⟨0xA0118, 0, 0, 32⟩
def LDG_CONFLICT : F := ⟨0xA011C, 0, 0, 32⟩
def TAR_STS_RUNNING : F := ⟨0xB0000, 0, 31, 1⟩
def TAR_STS_CHECK_OK : F := ⟨0xB0000, 0, 30, 1⟩
def TAR_STS_CLOSING : F := ⟨0xB0000, 0, 29, 1⟩
def TAR_STS_SLOTS : F := ⟨0xB0000, 0, 16, 8⟩
def TAR_MIRROR_SEL_VIEW : F := ⟨0xB0004, 0, 30, 2⟩
def TAR_MIRROR_SEL_BASE : F := ⟨0xB0004, 0, 0, 20⟩
def TAR_DSP_CFG_PERIOD : F := ⟨0xB0008, 0, 0, 8⟩
def TAR_TIME_STS_VALID : F := ⟨0xB000C, 0, 31, 1⟩
def TAR_TIME_STS_RTC_VALID : F := ⟨0xB000C, 0, 30, 1⟩
def TAR_TIME_STS_PTP : F := ⟨0xB000C, 0, 29, 1⟩
def TAR_TIME_STS_FIELD_LINK : F := ⟨0xB000C, 0, 28, 1⟩
def TAR_TIME_STS_HOLDOVER : F := ⟨0xB000C, 0, 27, 1⟩
def TAR_TIME_STS_HOLD_24H : F := ⟨0xB000C, 0, 26, 1⟩
def TAR_TIME_STS_STEP_PEND : F := ⟨0xB000C, 0, 25, 1⟩
def TAR_TIME_STS_HOLD_S : F := ⟨0xB000C, 0, 0, 25⟩
def TAR_STEP_PEND_LO_STEP : F := ⟨0xB0010, 0, 0, 32⟩
def TAR_STEP_PEND_HI_STEP : F := ⟨0xB0014, 0, 0, 32⟩
def TAR_FW_CHECK_CHECK : F := ⟨0xB0020, 4, 0, 32⟩
def TAR_BOOKED : F := ⟨0xB0040, 0, 0, 32⟩
def TAR_REFUSED : F := ⟨0xB0044, 0, 0, 32⟩
def TAR_ADJUST : F := ⟨0xB0048, 0, 0, 32⟩
def TAR_DEFAULT : F := ⟨0xB004C, 0, 0, 32⟩
def TAR_NO_DEMAND : F := ⟨0xB0050, 0, 0, 32⟩
def TAR_BAR4_WR : F := ⟨0xB0054, 0, 0, 32⟩
def FTL_CFG_SPARE_PCT : F := ⟨0xC0000, 0, 24, 8⟩
def FTL_CFG_HIST_FILL : F := ⟨0xC0000, 0, 16, 8⟩
def FTL_CFG_HIST_MIN : F := ⟨0xC0000, 0, 8, 8⟩
def FTL_CFG_TIMING : F := ⟨0xC0000, 0, 4, 4⟩
def FTL_STS_STATE : F := ⟨0xC0004, 0, 29, 3⟩
def FTL_STS_ID_MISMATCH : F := ⟨0xC0004, 0, 28, 1⟩
def FTL_STS_KEY_LOST : F := ⟨0xC0004, 0, 27, 1⟩
def FTL_STS_COMMIT_SLOW : F := ⟨0xC0004, 0, 26, 1⟩
def FTL_STS_RES_SHORT : F := ⟨0xC0004, 0, 25, 1⟩
def FTL_STS_GC_ACTIVE : F := ⟨0xC0004, 0, 24, 1⟩
def FTL_STS_LUNS : F := ⟨0xC0004, 0, 16, 8⟩
def FTL_STS_FMT_PEND : F := ⟨0xC0004, 0, 15, 1⟩
def FTL_CTL_KEY : F := ⟨0xC0008, 0, 16, 16⟩
def FTL_CTL_FORMAT : F := ⟨0xC0008, 0, 1, 1⟩
def FTL_CTL_CANCEL : F := ⟨0xC0008, 0, 0, 1⟩
def FTL_GC_CFG_GC_LOW : F := ⟨0xC000C, 0, 24, 8⟩
def FTL_GC_CFG_GC_CRIT : F := ⟨0xC000C, 0, 16, 8⟩
def FTL_GC_CFG_WL_GAP : F := ⟨0xC000C, 0, 8, 8⟩
def FTL_GC_CFG_REFRESH_PCT : F := ⟨0xC000C, 0, 0, 8⟩
def FTL_LIFE_CFG_SPARE_WARN : F := ⟨0xC0010, 0, 24, 8⟩
def FTL_LIFE_CFG_WEAR_WARN : F := ⟨0xC0010, 0, 16, 8⟩
def FTL_LIFE_CFG_RATED_PE : F := ⟨0xC0010, 0, 0, 16⟩
def FTL_CAP_USER_LU : F := ⟨0xC0014, 0, 0, 32⟩
def FTL_USED_USED_LU : F := ⟨0xC0018, 0, 0, 32⟩
def FTL_SLC_SLC_LU : F := ⟨0xC001C, 0, 0, 32⟩
def FTL_SPARE_LEFT : F := ⟨0xC0020, 0, 0, 17⟩
def FTL_WEAR_USED : F := ⟨0xC0024, 0, 16, 16⟩
def FTL_WEAR_MAX : F := ⟨0xC0024, 0, 0, 16⟩
def FTL_CORR_CW : F := ⟨0xC0040, 0, 0, 32⟩
def FTL_UECC : F := ⟨0xC0044, 0, 0, 32⟩
def FTL_RECOVERED : F := ⟨0xC0048, 0, 0, 32⟩
def FTL_LOST : F := ⟨0xC004C, 0, 0, 32⟩
def FTL_RETIRED : F := ⟨0xC0050, 0, 0, 32⟩
def FTL_GC_RESTART : F := ⟨0xC0054, 0, 0, 32⟩
def FTL_REFRESH : F := ⟨0xC0058, 0, 0, 32⟩
def FTL_WRITE_REFUSED : F := ⟨0xC005C, 0, 0, 32⟩
def FTL_CH_CFG_ENABLE : F := ⟨0xC0100, 0x40, 31, 1⟩
def FTL_CH_CFG_CE_EN : F := ⟨0xC0100, 0x40, 0, 4⟩
def FTL_CH_STS_STATE : F := ⟨0xC0104, 0x40, 29, 3⟩
def FTL_CH_STS_CE_FOUND : F := ⟨0xC0104, 0x40, 25, 4⟩
def FTL_CH_STS_LUNS : F := ⟨0xC0104, 0x40, 20, 5⟩
def FTL_CH_ID_LO_ID : F := ⟨0xC0108, 0x40, 0, 32⟩
def FTL_CH_ID_HI_ID : F := ⟨0xC010C, 0x40, 0, 32⟩
def FTL_CH_GEOM_BITS : F := ⟨0xC0110, 0x40, 28, 4⟩
def FTL_CH_GEOM_EUS : F := ⟨0xC0110, 0x40, 0, 17⟩
def FTL_RT_TBL_OFFSETS : F := ⟨0xC0400, 4, 0, 32⟩
def MEM_CAP_USABLE : F := ⟨0xD0000, 0, 16, 16⟩
def MEM_CAP_FITTED : F := ⟨0xD0000, 0, 0, 16⟩
def PAR_CFG_EN : F := ⟨0xE0000, 0, 31, 1⟩
def PAR_CFG_SIDE : F := ⟨0xE0000, 0, 30, 1⟩
def PAR_CFG_STROKE_MS : F := ⟨0xE0000, 0, 16, 13⟩
def PAR_CFG_HB_MS : F := ⟨0xE0000, 0, 0, 8⟩
def PAR_STS_STATE : F := ⟨0xE0004, 0, 29, 3⟩
def PAR_STS_ROLE : F := ⟨0xE0004, 0, 27, 2⟩
def PAR_STS_CLAIM_OWN : F := ⟨0xE0004, 0, 26, 1⟩
def PAR_STS_CLAIM_PEER : F := ⟨0xE0004, 0, 25, 1⟩
def PAR_STS_SOLO : F := ⟨0xE0004, 0, 24, 1⟩
def PAR_STS_READY : F := ⟨0xE0004, 0, 23, 1⟩
def PAR_STS_LANES : F := ⟨0xE0004, 0, 21, 2⟩
def PAR_STS_LINK : F := ⟨0xE0004, 0, 20, 1⟩
def PAR_CTL_KEY : F := ⟨0xE0008, 0, 16, 16⟩
def PAR_CTL_FORCE : F := ⟨0xE0008, 0, 0, 1⟩
def PAR_CYCLE_CYCLE : F := ⟨0xE000C, 0, 0, 32⟩
def PAR_HEALTH_HEALTH : F := ⟨0xE0010, 0, 0, 8⟩
def PAR_DELTA_PEAK : F := ⟨0xE0014, 0, 16, 16⟩
def PAR_DELTA_LAST : F := ⟨0xE0014, 0, 0, 16⟩
def PAR_DRILL_CFG_DRILL_HOLD : F := ⟨0xE0018, 0, 24, 8⟩
def PAR_DRILL_CFG_MARGIN : F := ⟨0xE0018, 0, 16, 8⟩
def PAR_DRILL_CFG_MIN_EXCH : F := ⟨0xE0018, 0, 8, 8⟩
def PAR_DRILL_STS_RUNNING : F := ⟨0xE001C, 0, 31, 1⟩
def PAR_DRILL_STS_FAIL_PORT : F := ⟨0xE001C, 0, 8, 8⟩
def PAR_DRILL_STS_PASSED : F := ⟨0xE001C, 0, 0, 5⟩
def PAR_TAKEOVERS : F := ⟨0xE0040, 0, 0, 32⟩
def PAR_SWAPS : F := ⟨0xE0044, 0, 0, 32⟩
def PAR_HB_MISS : F := ⟨0xE0048, 0, 0, 32⟩
def PAR_CYCLE_SHORT : F := ⟨0xE004C, 0, 0, 32⟩
def PAR_LINK_DOWN : F := ⟨0xE0050, 0, 0, 32⟩
def PAR_AUTH_FAIL : F := ⟨0xE0054, 0, 0, 32⟩
def FLT_CFG_AUTO_RST : F := ⟨0xF0000, 0, 24, 8⟩
def FLT_CFG_CYC_LIMIT : F := ⟨0xF0000, 0, 20, 4⟩
def FLT_STS_SAFE : F := ⟨0xF0004, 0, 31, 1⟩
def FLT_STS_FATAL : F := ⟨0xF0004, 0, 30, 1⟩
def FLT_STS_DEGRADED : F := ⟨0xF0004, 0, 29, 1⟩
def FLT_STS_SELF : F := ⟨0xF0004, 0, 28, 1⟩
def FLT_STS_PULSE : F := ⟨0xF0004, 0, 27, 1⟩
def FLT_STS_CYC_REQ : F := ⟨0xF0004, 0, 26, 1⟩
def FLT_STS_HIST_FILL : F := ⟨0xF0004, 0, 21, 5⟩
def FLT_PIN_CTRL_KEY : F := ⟨0xF0008, 0, 16, 16⟩
def FLT_PIN_CTRL_CYC_REQ : F := ⟨0xF0008, 0, 1, 1⟩
def FLT_PIN_CTRL_DRIVE : F := ⟨0xF0008, 0, 0, 1⟩
def FLT_HIST_SEL_INDEX : F := ⟨0xF000C, 0, 0, 4⟩
def FLT_HIST_DATA_WORD : F := ⟨0xF0010, 4, 0, 32⟩
def FLT_FATAL_CNT : F := ⟨0xF0020, 0, 0, 32⟩
def FLT_DEGRADED_CNT : F := ⟨0xF0024, 0, 0, 32⟩
def FLT_FUNCTION_CNT : F := ⟨0xF0028, 0, 0, 32⟩
def FLT_NOTICE_CNT : F := ⟨0xF002C, 0, 0, 32⟩
def FLT_HIST_OVF : F := ⟨0xF0030, 0, 0, 32⟩
def EVR_STS_FULL : F := ⟨0x100000, 0, 31, 1⟩
def EVR_STS_NEAR_FULL : F := ⟨0x100000, 0, 30, 1⟩
def EVR_STS_FROZEN : F := ⟨0x100000, 0, 29, 1⟩
def EVR_STS_STAGED : F := ⟨0x100000, 0, 22, 7⟩
def EVR_STS_FILL : F := ⟨0x100000, 0, 0, 17⟩
def EVR_FREEZE_FREEZE : F := ⟨0x100004, 0, 31, 1⟩
def EVR_FREEZE_FREEZE_MAX : F := ⟨0x100004, 0, 0, 8⟩
def EVR_SEL_INDEX : F := ⟨0x100008, 0, 0, 16⟩
def EVR_LOST : F := ⟨0x10000C, 0, 0, 32⟩
def EVR_STAGE_OVF : F := ⟨0x100010, 0, 0, 32⟩
def EVR_TORN : F := ⟨0x100014, 0, 0, 32⟩
def EVR_OPTIME_SECONDS : F := ⟨0x100018, 0, 0, 32⟩
def EVR_PWRCYC : F := ⟨0x10001C, 0, 0, 24⟩
def EVR_DATA_WORD : F := ⟨0x100020, 4, 0, 32⟩
def UPD_CFG_OWNER_LOCK : F := ⟨0x110000, 0, 31, 1⟩
def UPD_CFG_SIGNER_CHG : F := ⟨0x110000, 0, 30, 1⟩
def UPD_STS_STATE : F := ⟨0x110004, 0, 28, 4⟩
def UPD_STS_HSTEP : F := ⟨0x110004, 0, 24, 4⟩
def UPD_STS_REFUSE : F := ⟨0x110004, 0, 16, 5⟩
def UPD_STAGE_BYTES : F := ⟨0x110008, 0, 0, 23⟩
def UPD_VERSION_VERSION : F := ⟨0x11000C, 0, 0, 32⟩
def UPD_STAGE_VER_VERSION : F := ⟨0x110010, 0, 0, 32⟩
def UPD_CFG_RESET_MASK : F := ⟨0x110014, 0, 0, 21⟩
def UPD_RCV_IP_ADDR : F := ⟨0x110020, 4, 0, 32⟩
def UPD_IMG_CFG_UNI_MAX : F := ⟨0x110030, 0, 24, 8⟩
def UPD_IMG_CFG_MAX_PASSES : F := ⟨0x110030, 0, 16, 8⟩
def UPD_IMG_STS_IMAGES : F := ⟨0x110034, 0, 16, 5⟩
def UPD_IMG_STS_CAMPAIGNS : F := ⟨0x110034, 0, 0, 13⟩
def UPD_ACTIVATIONS : F := ⟨0x110040, 0, 0, 32⟩
def UPD_RECOVERIES : F := ⟨0x110044, 0, 0, 32⟩
def UPD_BLOCKS_SENT : F := ⟨0x110048, 0, 0, 32⟩
def UPD_METER_DONE : F := ⟨0x11004C, 0, 0, 32⟩
def UPD_METER_FAIL : F := ⟨0x110050, 0, 0, 32⟩
def UPD_PASSES : F := ⟨0x110054, 0, 0, 32⟩
def SCH_CFG_EN : F := ⟨0x120000, 0, 31, 1⟩
def SCH_CFG_QUIET : F := ⟨0x120000, 0, 0, 8⟩
def SCH_STORM_CFG_ON_RATE : F := ⟨0x120004, 0, 16, 16⟩
def SCH_STORM_CFG_OFF_RATE : F := ⟨0x120004, 0, 0, 16⟩
def SCH_STS_STORM : F := ⟨0x120008, 0, 31, 1⟩
def SCH_STS_HOLD_ALL : F := ⟨0x120008, 0, 30, 1⟩
def SCH_STS_HEATS_OPEN : F := ⟨0x120008, 0, 0, 13⟩
def SCH_STORMS : F := ⟨0x12000C, 0, 0, 32⟩
def SCH_OVERRUN : F := ⟨0x120010, 0, 0, 32⟩
def SCH_MERGED : F := ⟨0x120014, 0, 0, 32⟩
def SCH_PORT_CFG_LOAD : F := ⟨0x120100, 8, 0, 8⟩
def SCH_PORT_STS_TTX : F := ⟨0x120104, 8, 16, 16⟩
def SCH_PORT_STS_BUSY : F := ⟨0x120104, 8, 8, 8⟩
def SCH_PORT_STS_OD_WAIT : F := ⟨0x120104, 8, 0, 8⟩
def PWR_SUP_STS_PWR_FAIL : F := ⟨0x130000, 0, 31, 1⟩
def PWR_SUP_STS_VBAT_COLD : F := ⟨0x130000, 0, 30, 1⟩
def PWR_SUP_STS_HOLD_LOW : F := ⟨0x130000, 0, 29, 1⟩
def PWR_SUP_STS_RAIL_OK : F := ⟨0x130000, 0, 0, 10⟩
def PWR_HOLD_CFG_CAP : F := ⟨0x130004, 0, 16, 16⟩
def PWR_HOLD_CFG_V_MIN : F := ⟨0x130004, 0, 8, 8⟩
def PWR_HOLD_CFG_EFF : F := ⟨0x130004, 0, 0, 8⟩
def PWR_HOLD_RSV_DIV : F := ⟨0x130008, 0, 16, 16⟩
def PWR_HOLD_RSV_RESERVE : F := ⟨0x130008, 0, 0, 10⟩
def PWR_HOLD_STS_VHOLD : F := ⟨0x13000C, 0, 16, 16⟩
def PWR_HOLD_STS_E_AVAIL : F := ⟨0x13000C, 0, 0, 16⟩
def PWR_LAST_COMMIT_V_FAIL : F := ⟨0x130010, 0, 16, 16⟩
def PWR_LAST_COMMIT_V_END : F := ⟨0x130010, 0, 0, 16⟩
def PWR_TEMP_TJ : F := ⟨0x130014, 0, 24, 8⟩
def PWR_TEMP_TJ_MAX : F := ⟨0x130014, 0, 16, 8⟩
def PWR_TEMP_TJ_MIN : F := ⟨0x130014, 0, 8, 8⟩
def PWR_FAIL_CNT : F := ⟨0x130020, 0, 0, 32⟩
def PWR_HOLD_LOW_CNT : F := ⟨0x130024, 0, 0, 32⟩
def PWR_RAIL_TRIP : F := ⟨0x130028, 0, 0, 32⟩
def COX_STS_RUN : F := ⟨0x140000, 0, 28, 4⟩
def COX_STS_TCM_FREE : F := ⟨0x140000, 0, 0, 16⟩
def COX_LOAD_BUSY : F := ⟨0x140004, 0, 0, 32⟩
def LDG_NODE_W0_VALID : F := ⟨0x2000000, 0x80, 31, 1⟩
def LDG_NODE_W0_F0_FIXED : F := ⟨0x2000000, 0x80, 30, 1⟩
def LDG_NODE_W0_MODE : F := ⟨0x2000000, 0x80, 28, 2⟩
def LDG_NODE_W0_SRC : F := ⟨0x2000000, 0x80, 22, 2⟩
def LDG_NODE_W0_CM : F := ⟨0x2000000, 0x80, 16, 2⟩
def LDG_NODE_W0_SRC_FDX : F := ⟨0x2000000, 0x80, 0, 16⟩
def LDG_NODE_W1_ATTACH_FDX : F := ⟨0x2000004, 0x80, 16, 16⟩
def LDG_NODE_W1_GRP_or_PORT_MASK : F := ⟨0x2000004, 0x80, 0, 12⟩
def LDG_NODE_W2_NL_W : F := ⟨0x2000008, 0x80, 16, 16⟩
def LDG_NODE_W2_LL_PPM : F := ⟨0x2000008, 0x80, 0, 16⟩
def LDG_NODE_W3_F0 : F := ⟨0x200000C, 0x80, 16, 16⟩
end Sys2Proof.Machine.F
end

