-- ==== Sys2Proof/Machine/State.lean ====
section
/-! DEFINITION. Sys2Proof/Machine/State.lean: everything the spec gives the part to hold, as plain data.
Registers live in one file, `Dev.regs`; what follows is the state no register holds. -/

namespace Sys2Proof.Machine

/-! ## Functions, boot and supplies (R615 to R635, R663 to R672) -/

/-- The lifecycle states of a function (R631), coded as in RNG_PAIR_STS (R64). -/
inductive FnState where
  | off | starting | on | stopping | failed
  deriving DecidableEq, Repr

/-- The code of a lifecycle state (R64). -/
def FnState.code : FnState → Nat
  | .off => 0 | .starting => 1 | .on => 2 | .stopping => 3 | .failed => 4

/-- One function: its state, PENDING, BLOCKED, and the unblocked time it has spent STARTING (R631, R632). -/
structure Fn where
  st : FnState := .off
  pending : Bool := false
  blocked : Bool := false
  /-- monotonic count at which STARTING was entered, moved on by time spent BLOCKED -/
  since : Nat := 0
  /-- a disable arrived while STARTING: run to ON, then STOPPING (R631) -/
  thenStop : Bool := false
  deriving DecidableEq, Repr

/-- How far the device has come since its reset (R616 to R622). -/
inductive Phase where
  /-- main supplies absent -/
  | unpowered
  /-- supplies present, a reset source or PWR_FAIL_N still asserted -/
  | held
  /-- every reset source released: steps a and b may run -/
  | booting
  /-- READY: step b has ended -/
  | ready
  /-- a halted boot (R622) -/
  | halted
  /-- PWR_FAIL_N low: the power-fail commit runs (R42, R619) -/
  | failing
  /-- the power-fail commit has ended: held as in reset (R619) -/
  | failed
  deriving DecidableEq, Repr

/-- Boot, reset and supply state that no register holds. -/
structure Glb where
  phase : Phase := .booting
  /-- cause code of the reset in progress (R615) -/
  cause : Nat := 1
  resetN : Bool := true
  perstN : Bool := true
  pwrFailN : Bool := true
  /-- instants (monotonic) -/
  haltAt : Nat := 0
  halts : Nat := 0
  haltCode : Nat := 0
  /-- records staged when PWR_FAIL_N fell (R579) -/
  stagedAt : Nat := 0
  /-- the spare LPDDR5 region is initialised (R621) -/
  spareReady : Bool := false
  /-- the Weigh-in core runs -/
  tarRuns : Bool := true
  /-- drives PWR_CYCLE_REQ_N low (R563) -/
  pwrCycleReq : Bool := false
  /-- FAULT_N held low by a halt (R622) or a collector self-fault (R568) -/
  faultHeld : Bool := false
  /-- junction temperature, °C; the lowest and the highest NAND temperature seen (R524) -/
  temp : Int := 25
  tempMin : Int := 25
  tempMax : Int := 25
  /-- HOLD_LOW samples the other way (R669) -/
  holdRun : Nat := 0
  /-- the start of step a, on the monotonic count -/
  stepAStart : Nat := 0
  censusDone : Nat := 0
  censusFailed : Nat := 0
  censusOpen : Nat := 0
  censusOn : Bool := false
  /-- steps c, g and h of the start have ended (R624) -/
  stepC : Bool := false
  stepG : Bool := false
  stepH : Bool := false
  /-- the role in force before the latest boot (R2), and FLT_STS before the latest reset where it survived (R579) -/
  roleWas : Nat := 0
  fltBefore : Nat := 0
  /-- operating time of the latest record 0x1301 (R669) -/
  holdRecAt : Option Nat := none
  deriving DecidableEq, Repr

/-! ## Time engine (R425 to R457) -/

/-- A transmit timestamp (R443): seconds, nanoseconds, quarter nanoseconds. -/
structure Stamp where
  sec : Nat
  ns : Nat
  qns : Nat
  deriving DecidableEq, Repr

/-- What a PTP port knows (R439): its parent's data set and identity, a two-step Sync that waits for its Follow_Up, and the
delay measurement. -/
structure PtpPort where
  /-- codes of TIM_PTP_STS (R455) -/
  st : Nat := 0
  /-- best Announce heard: priority1, class, accuracy, variance, priority2, grandmaster, steps, sender -/
  best : Option (List Nat) := none
  parent : Nat := 0
  /-- sequence and receive time, ns, of a two-step Sync -/
  sync : Option (Nat × Int) := none
  /-- offset plus delay of the latest Sync, ns, not yet corrected for the delay -/
  raw : Option Int := none
  /-- transmit time of the latest delay request and its sequence -/
  t3 : Option (Nat × Int) := none
  delay : Option Int := none
  txSeq : Nat := 0
  deriving DecidableEq, Repr

/-- The Time engine's state beside its registers. -/
structure Tim where
  /-- monotonic count: CLK_FAB cycles since the last device reset (R426) -/
  mono : Nat := 0
  /-- time counter, 2 ns ticks, and the fraction of a tick in 10^-12 units (R425) -/
  time : Nat := 0
  frac : Nat := 0
  /-- TIM_RATE, in 10^-12 units -/
  rate : Int := 0
  /-- snapshot of R427: time counter and monotonic count -/
  snapTime : Nat := 0
  snapMono : Nat := 0
  /-- servo integral, ns·ns (R432) -/
  integ : Int := 0
  /-- monotonic instant of the previous measurement -/
  lastMeas : Option Nat := none
  coarseRun : Nat := 0
  fineRun : Nat := 0
  farRun : Nat := 0
  /-- rates in force while LOCK was 1 or 2, with the cycles of each, newest first (R436) -/
  rates : List (Int × Nat) := []
  /-- rate stored in the configuration store (R436) -/
  rateStored : Int := 0
  ptpAvail : Bool := false
  flAvail : Bool := false
  /-- monotonic instant at which holdover began, and the seconds it counted before (R429, R436) -/
  holdSince : Option Nat := none
  holdOfs : Nat := 0
  /-- device time is valid (R413), and the next step is not held (R431) -/
  valid : Bool := false
  freeStep : Bool := false
  /-- steps since boot -/
  steps : Nat := 0
  /-- leap second announced: 61, 59 or 0 (R430) -/
  leap : Nat := 0
  utcOfs : Option Nat := none
  ptp : List PtpPort := [{}, {}, {}, {}]
  flMissRun : Nat := 0
  flMsgs : Nat := 0
  /-- latest time message: its TSEQ and its receive time, ns; offset plus delay of the one before; and the latest delay request's
  identifier and transmit time, and the mean path delay (R442) -/
  flRaw : Option Int := none
  flT1 : Option (Nat × Int) := none
  flT3 : Option (Nat × Int) := none
  flDelay : Option Int := none
  flDue : Option Nat := none
  headHold : Bool := false
  /-- pooled comparators CMP8 to CMP15: owner code of R455 -/
  pool : List Nat := [0, 0, 0, 0, 0, 0, 0, 0]
  /-- next beacon instant by port, ns; ports whose beacon is due; ports that have not sent a beacon since a step (R451, R452) -/
  beacons : Tab Nat := []
  beaconDue : List Nat := []
  stepped : List Nat := []
  /-- next instants of host timers and pulse outputs, ns; pulse ends on the monotonic count; pins -/
  htNext : Tab Nat := []
  ppsNext : Tab Nat := []
  ppsEnd : Tab Nat := []
  ppsPin : List Bool := [false, false, false, false]
  /-- capture queues, ns; high words latched (R450, R456) -/
  caps : Tab (List Nat) := []
  capHi : Tab Nat := []
  /-- transmit timestamp queues: identifier and stamp (R444) -/
  txq : Tab (List (Nat × Stamp)) := []
  /-- battery-domain RTC (R429): valid, its time and its time at the latest setting, ns -/
  rtcValid : Bool := false
  rtcNs : Nat := 0
  rtcSet : Nat := 0
  deriving DecidableEq, Repr

/-! ## Ring engine (R57 to R104) -/

/-- A completion that waits for its ring (R72, R80). -/
structure Cmpl where
  tagSeq : Nat
  st : Nat
  op : Nat
  sub : Nat
  target : Nat
  res : List Nat
  irq : Bool
  deriving DecidableEq, Repr

/-- A descriptor the part holds: fetched, and perhaps started. -/
structure Held where
  id : Nat
  desc : Desc
  started : Bool
  /-- the result of a started descriptor whose completion an earlier one of the same MIX holds back (R81) -/
  result : Option Cmpl
  /-- 0: completes with a posting; 1: discarded and counted in CMP_DROP; 2: discarded and not counted (R96) -/
  mute : Nat
  deriving DecidableEq, Repr

/-- One ring pair beside its registers (R60 to R74). -/
structure Pair where
  subHead : Nat := 0
  tail : Nat := 0
  cmpTail : Nat := 0
  cmpHead : Nat := 0
  phase : Bool := true
  expSeq : Nat := 0
  held : List Held := []
  waiting : List Cmpl := []
  unsig : Nat := 0
  oldest : Option Nat := none
  /-- the instant from which R96 counts its 1 s -/
  fullSince : Option Nat := none
  deriving DecidableEq, Repr

/-- One MSI-X table entry with its pending bit (R58, R102). -/
structure MsixVec where
  addr : Nat := 0
  data : Nat := 0
  masked : Bool := true
  pend : Bool := false
  deriving DecidableEq, Repr

/-- The Ring engine's state beside its registers. -/
structure Rng where
  pairs : Tab Pair := []
  vecs : Tab MsixVec := []
  /-- pairs granted since the round began, and the latest pair granted at each level (R91) -/
  granted : List Nat := []
  last : Tab Nat := []
  lats : List Nat := []
  nextId : Nat := 0
  /-- a self-test loop that runs: FIX, kind, pair and descriptor id (R86) -/
  loops : List (Nat × Nat × Nat × Nat) := []
  /-- the PCIe link as trained (R57): generation 1 to 4 and width 4, 2 or 1; 0 before training -/
  linkGen : Nat := 0
  linkWidth : Nat := 0
  deriving DecidableEq, Repr

/-! ## Faults and the event recorder (R556 to R588) -/

/-- One record of the event recorder (R571). -/
structure Rec where
  words : List Word
  torn : Bool
  deriving DecidableEq, Repr

/-- The event recorder beside its registers (R571 to R578). -/
structure Evr where
  /-- committed records, newest first; the index of the oldest is 0 -/
  recs : List Rec := []
  staged : List (List Nat) := []
  dropped : Nat := 0
  dropFirst : Nat × Nat := (0, 0)
  dropLast : Nat × Nat := (0, 0)
  frozen : Bool := false
  frozenAt : Nat := 0
  /-- the copy of R578 that EVR_DATA0 took -/
  copy : List Word := []
  /-- NEAR_FULL and FULL have been reported (R574) -/
  nearPosted : Bool := false
  fullPosted : Bool := false
  optime : Nat := 0
  /-- seconds of operating time in each band of NAND temperature (R524) -/
  bands : List Nat := [0, 0, 0, 0, 0, 0, 0, 0]
  /-- operating time and power cycles as the configuration store holds them (R573) -/
  saved : Nat := 0
  /-- monotonic count at which optime last rose -/
  optMono : Nat := 0
  powerCycles : Nat := 0
  lost : Nat := 0
  deriving DecidableEq, Repr

/-- A fault history entry (R570). -/
structure Hist where
  code : Nat
  src : Nat
  cls : Nat
  safe : Bool
  rep : Nat
  detail : Nat
  first : Nat
  last : Nat
  deriving DecidableEq, Repr

/-- The Fault collector beside its registers (R556 to R570). -/
structure Flt where
  /-- newest first -/
  hist : List Hist := []
  /-- operating time of the latest record of each code, source and DETAIL (R559) -/
  recAt : List ((Nat × Nat × Nat) × Nat) := []
  /-- operating times of the Fatal faults of the latest hour (R563) -/
  fatals : List Nat := []
  pulseEnd : Option Nat := none
  safeAt : Option Nat := none
  autoRst : Nat := 30
  commit : Bool := false
  histCopy : List Word := []
  /-- corrected SRAM errors by array (R24) -/
  sramCorr : Tab Nat := []
  /-- Degraded conditions that hold now, by code (R560) -/
  conds : List Nat := []
  deriving DecidableEq, Repr

/-! ## Lane manager (R458 to R477) -/

/-- An event entry before its ring words are formed (R99). -/
structure Event where
  code : Nat
  sev : Nat
  cls : Nat
  src : Nat
  target : Nat
  stamp : Nat
  w4 : Nat := 0
  w5 : Nat := 0
  w6 : Nat := 0
  merged : Nat := 0
  /-- alarm bits gathered so far (R100) -/
  gathered : Nat := 0
  deriving DecidableEq, Repr


/-! ## Meter contexts (R105 to R138) -/

/-- A valid slot of the lookup table (R115): KIND, address and MIX, and the bucket that holds it; none in the stash (R116). -/
structure Slot where
  kind : Nat
  addr : Nat
  mix : Nat
  bucket : Option Nat
  deriving DecidableEq, Repr

/-- The Context engine beside its registers. -/
structure CtxEng where
  /-- contexts in use, by MIX -/
  tab : Tab Ctx := []
  /-- the lookup table, newest first (R114 to R116) -/
  index : List Slot := []
  /-- the seed of the keyed hash (R115), once drawn; it is kept in the configuration store -/
  seed : Option (BitVec 128) := none
  rehash : Bool := false
  /-- short-address maps: per port, short address to MIX, and the latest address given (R117) -/
  shorts : Tab (Tab Nat) := []
  shortLast : Tab Nat := []
  /-- JOINING contexts: MIX, the STATE it came from, the instant on the monotonic count, the field device of the join (R123) -/
  joins : Tab (Nat × Nat × Option Nat) := []
  /-- KIND 1 addresses whose installation frames are ignored until an instant, s (R124) -/
  quiet : List (Nat × Nat) := []
  /-- day, or second under invalid time, of the latest 0x0320 record (R126) -/
  refDay : Option Nat := none
  /-- cache sets: MIX most recently used first (R129), pins by MIX (R130), fetches that wait for a set -/
  cache : Tab (List Nat) := []
  pins : Tab Nat := []
  waits : List Nat := []
  /-- fetches that waited and have ended, whose frames are still to be processed -/
  fetched : List Nat := []
  /-- dirty lines of the current stroke cycle, a mask by MIX (R131) -/
  dirty : Tab Nat := []
  /-- retirements: MIX, and the descriptor if any (pair, id); the stroke cycle in which its lookup
  entries went (R127) -/
  retire : List (Nat × Option (Nat × Nat) × Option Nat) := []
  /-- owner changes that wait for started descriptors: MIX, owner, pair, id (R128) -/
  owners : List (Nat × Nat × Nat × Nat) := []
  deriving DecidableEq, Repr

/-! ## Weigh-in partition (R392 to R424) -/

/-- A billing journal entry with the extension as it leaves it (R40, R41, R408). -/
structure JEntry where
  seq : Nat
  what : JWhat
  mix : Option Nat
  ext : Option Ext
  /-- the output record that its booking releases: MIX, SEQ of the log entry, BOOK -/
  out : Option (Nat × Nat × Nat) := none
  deriving DecidableEq, Repr

/-- An entry of the booking queue (R327, R407). -/
structure BookEntry where
  mix : Nat
  start : Nat
  value : Nat
  /-- the log held no earlier entry handed for this START -/
  first : Bool
  timeInvalid : Bool
  /-- SEQ of the log entry -/
  seq : Nat
  deriving DecidableEq, Repr

/-- A close sweep in progress (R410): group, close instant, members still to take. -/
structure Sweep where
  grp : Nat
  instant : Nat
  left : List Nat
  deriving DecidableEq, Repr

/-- A descriptor of TARIFF_LOAD that waits until its table is in NAND and the bow has acknowledged its journal entry (R402), with the
CRC-32 of the effective table. -/
structure LoadWait where
  pair : Nat
  id : Nat
  seq : Nat
  inNand : Bool := false
  crc : Nat
  deriving DecidableEq, Repr

/-- The Weigh-in partition beside its registers. -/
structure Tar where
  ext : Tab Ext := []
  /-- effective copies: what the mirror shows (R40) -/
  eff : Tab Ext := []
  closedRec : Tab Ext := []
  grps : Tab GrpTar := []
  /-- open journal half, oldest first; halves closed and not yet programmed -/
  half : List JEntry := []
  closedHalves : List (List JEntry) := []
  /-- entries that wait for the bow's JACK -/
  unacked : List JEntry := []
  jseq : Nat := 0
  sweeps : List Sweep := []
  /-- protected span by MIX: from (exclusive) to (inclusive), s (R407) -/
  spans : Tab (Nat × Nat) := []
  check : List Byte := List.replicate 32 0
  checkOk : Bool := false
  prevCheck : Option (List Byte) := none
  fwUpdates : Nat := 0
  defaultBooked : Nat := 0
  /-- device time s of the latest default-tariff booking (R401) -/
  defaultAt : Option Nat := none
  stepPend : Int := 0
  dspSeq : Nat := 0
  dspType : Nat := 1
  /-- monotonic instants of the next display frame and of the latest hourly check (R398, R400) -/
  dspDue : Nat := 0
  checkFrom : Nat := 0
  /-- descriptors of TARIFF_LOAD that wait for NAND and the bow (R402) -/
  loads : List LoadWait := []
  /-- highest JOURNAL_SEQ that the bow has acknowledged -/
  acked : Nat := 0
  deriving DecidableEq, Repr

/-! ## Pair unit (R529 to R555) -/

/-- The role codes of PAR_STS (R554). -/
inductive Role where
  | single | stroke | bow | arb
  deriving DecidableEq, Repr

/-- The code of a role. -/
def Role.code : Role → Nat
  | .single => 0 | .stroke => 1 | .bow => 2 | .arb => 3

/-- A planned swap's progress (R549). -/
inductive SwapPhase where
  /-- waits for a close sweep -/
  | sweep
  /-- ports drain -/
  | ports
  /-- the cycle was closed early and has not ended -/
  | cycle
  /-- SWAP is sent and the claim is down -/
  | sent
  deriving DecidableEq, Repr

/-- A swap in progress: the descriptor that asked, if any, and the instant of SWAP. -/
structure Swap where
  phase : SwapPhase
  desc : Option (Nat × Nat)
  sentAt : Nat := 0
  deriving DecidableEq, Repr

/-- A drill in progress (R551, R552): `own` at the device that was asked. -/
structure Drill where
  own : Bool
  desc : Option (Nat × Nat)
  mask : Nat
  left : Nat
  passed : Nat := 0
  failed : Bool := false
  failPort : Nat := 0
  /-- a field device went LOST during the hold (R552) -/
  fdLost : Bool := false
  /-- own results of the steps that run on the bow, where the asked device is the bow -/
  results : Nat := 0
  holdFrom : Option Nat := none
  windows : Nat := 0
  /-- the old stroke's failures and exchanges of the hour before, by port; failing windows in a row by port -/
  means : List (Nat × Nat × Nat) := []
  runs : Tab Nat := []
  deriving DecidableEq, Repr

/-- What the stroke copies to the bow, as it stood at the latest close (R541): imports, staged sets, policies, Ledger states, nodes,
heat entries, calendars, configuration registers, field devices. -/
structure Copied where
  imports : Tab Import := []
  shadows : Tab Shadow := []
  /-- policy tables with their load counts (R146) -/
  pols : Tab (Policy × Nat) := []
  meters : Tab LdgMeter := []
  nodes : Tab Node := []
  entries : Tab Entry := []
  cals : Tab Cal := []
  regs : Tab Word := []
  fds : Tab Fd := []
  camps : Tab Campaign := []
  images : Tab ImgSlot := []
  /-- joins in progress: the STATE that each came from, and the field device of the join (R123) -/
  joins : Tab (Nat × Option Nat) := []
  /-- the latest short address given on each line port (R117) -/
  shortLast : Tab Nat := []
  deriving DecidableEq, Repr

/-- The Pair unit beside its registers. -/
structure Par where
  /-- EN and SIDE in force since the latest device reset (R554) -/
  en : Bool := false
  side : Bool := false
  role : Role := .single
  /-- CLAIM_OUT is high -/
  claim : Bool := false
  /-- CLAIM_IN as it stands, its value before its latest change settled, and the instant of that change (R530) -/
  claimInRaw : Bool := false
  claimInOld : Bool := false
  claimInAt : Nat := 0
  /-- monotonic instant at which the claim timer expires; none without the timer -/
  claimExp : Option Nat := none
  /-- arbitration (R533): the end of step b, and whether this device won an ARB exchange -/
  arbFrom : Nat := 0
  won : Option Bool := none
  lanes : List Bool := [false, false]
  hbDue : Nat := 0
  hbMisses : Nat := 0
  hbLost : Bool := false
  /-- instant of the latest heartbeat, received or missed -/
  lastHb : Option Nat := none
  peer : PairPeer := {}
  /-- the partner's serial number, from its latest ARB frame (R533) -/
  peerSerial : Nat := 0
  health : Nat := 0
  ready : Bool := false
  solo : Bool := false
  /-- the stroke has sent YIELD; the bow has received it -/
  yielded : Bool := false
  /-- the last role was stroke: kept in the configuration store (R533) -/
  wasStroke : Bool := false
  epoch : Nat := 0
  txCount : Nat := 0
  win : SeqWin := {}
  /-- cells granted by the partner; cells freed here and not yet granted (R538) -/
  credit : Nat := 0
  freed : Nat := 4096
  /-- latest ended cycle -/
  cycle : Nat := 0
  cycleDue : Nat := 0
  /-- the cycle being closed: its number, and whether its ACK has arrived or none is awaited -/
  closing : Option (Nat × Bool) := none
  base : Copied := {}
  /-- bow: DELTA records of the cycle that streams, and deltas held until a catch-up has been applied -/
  staged : List DeltaRec := []
  catchup : Bool := false
  /-- contexts that the bow held when the catch-up's first frame came -/
  stale : Option (List Nat) := none
  held : List (Nat × List DeltaRec) := []
  /-- a catch-up has been applied, or sent: READY comes with the end of a cycle after this one (R546) -/
  caughtAt : Option Nat := none
  swap : Option Swap := none
  /-- bow: a SWAP has been received -/
  swapRx : Bool := false
  drill : Option Drill := none
  /-- exchanges of the latest hour and more on each port: monotonic instant, port (0 to 5), failed (R552) -/
  exLog : List (Nat × Nat × Bool) := []
  deriving DecidableEq, Repr

/-! ## Media (R500 to R528) -/

/-- An erase unit's record (R502) and the LUs it holds validly. -/
structure Eu where
  pe : Nat := 0
  hour : Nat := 0
  temp : Int := 0
  /-- STATE of R502: 0 free … 6 factory bad -/
  st : Nat := 0
  stream : Nat := 0
  channel : Nat := 0
  lun : Nat := 0
  lus : List Nat := []
  refresh : Bool := false
  /-- a codeword of it failed steps 1 to 3 of R509 -/
  failedCw : Bool := false
  deriving DecidableEq, Repr

/-- A logical unit in NAND: its stream, erase unit, second copy, and the number of the item it holds. -/
structure Lu where
  stream : Nat
  eu : Nat
  eu2 : Option Nat := none
  item : Nat
  /-- START of the log entry it holds, for history (R515); the log entries it holds, meter and SEQ -/
  start : Nat := 0
  ents : List (Nat × Nat) := []
  deriving DecidableEq, Repr

/-- A drained item (R522). -/
structure DrainItem where
  stream : Nat
  seq : Nat
  at_ : Nat
  bytes : List Byte
  deriving DecidableEq, Repr

/-- A garbage-collection or refresh copy in progress (R512). -/
structure Copy where
  src : Nat
  dst : Nat
  left : List Nat
  done : List Nat
  deriving DecidableEq, Repr

/-- The Media manager beside its registers. -/
structure Ftl where
  state : Nat := 3
  formatted : Bool := false
  /-- K_wrap under which the media was formatted (R503); a format is to be made at this boot (R521); NOT_MOUNTED has been reported -/
  fmtKey : Option (List Byte) := none
  fmtNow : Bool := false
  notMounted : Bool := false
  /-- what the channels that are or were ON since the boot found (R500) -/
  parts : Tab NandPart := []
  fmtPend : Bool := false
  keyLost : Bool := false
  idMismatch : Bool := false
  commitSlow : Bool := false
  resShort : Bool := false
  readOnly : Bool := false
  gcActive : Bool := false
  luns : Nat := 0
  paramPe : Nat := 3000
  ids : Nat := 0
  spareStart : Nat := 0
  spareLeft : Nat := 0
  userEus : Nat := 0
  userLu : Nat := 0
  eus : Tab Eu := []
  map : Tab Lu := []
  nextLu : Nat := 0
  /-- EUs in use, LUs of one EU in native mode, bits per cell, EUs of the legal reserve -/
  total : Nat := 0
  euLu : Nat := 1
  bits : Nat := 1
  legal : Nat := 0
  /-- the open LU of each stream and the bytes in it -/
  heads : Tab (Nat × Nat) := []
  /-- LUs of the SLC cache, oldest first -/
  slc : List Nat := []
  copies : List Copy := []
  /-- stream-0 LUs since the latest billing snapshot -/
  billLu : Nat := 0
  drain : List DrainItem := []
  drainSeq : Nat := 0

  corrBits : Nat := 0
  /-- codewords that failed steps 1 to 3 of R509 -/
  uecc3 : Nat := 0
  /-- a billing snapshot is on its way (R505) -/
  billRunning : Bool := false
  /-- the LU numbers at which the two latest billing snapshots and the latest context snapshot began -/
  billPrev : Nat := 0
  billCur : Nat := 0
  snapFrom : Nat := 0
  /-- the bands of NAND temperature at the format (R524) -/
  bandsAt : List Nat := [0, 0, 0, 0, 0, 0, 0, 0]
  chRetired : Tab Nat := []
  chUecc : Tab Nat := []
  /-- operating hour of the latest retirement record (R514), day of the latest history event (R515) -/
  retHour : Option Nat := none
  histDay : Option Nat := none
  histOldest : Nat := 0
  /-- warnings of R517 at the latest entry to WARN -/
  warned : Nat := 0
  cyclesSinceSnap : Nat := 0
  snapRunning : Bool := false
  deriving DecidableEq, Repr

/-- What NAND and eMRAM give back at a restore (R39, R132): contexts as at the latest stroke-cycle end, billing as journalled. -/
structure Nand where
  ctx : Tab Ctx := []
  ext : Tab Ext := []
  closedRec : Tab Ext := []
  grps : Tab GrpTar := []
  /-- the contexts of the latest complete snapshot and of the one before it, to which a lost codeword sends a restore back (R506) -/
  snap : Tab Ctx := []
  snapPrev : Tab Ctx := []
  /-- the context snapshot being written, and the changes journalled since it began (R132) -/
  snapNew : Tab Ctx := []
  snapSince : Tab (Option Ctx) := []
  /-- what the stroke copies, as the latest ended cycle's journal holds it (R146, R541) -/
  cop : Copied := {}
  jseq : Nat := 0
  /-- the previous run ended with a complete commit (R628) -/
  clean : Bool := true
  deriving DecidableEq, Repr


/-! ## Keys (R275 to R309) -/

/-- A KEY descriptor that waits for the end of a stroke cycle (R299): pair, id, cycle, result words. -/
structure KeyWait where
  pair : Nat
  id : Nat
  cycle : Nat
  res : List Nat
  deriving DecidableEq, Repr

/-- A root clone in progress (R284). -/
inductive Clone where
  | idle
  /-- the sender waits for the receiver's nonce -/
  | sending
  /-- the receiver has sent this nonce -/
  | receiving (nonce : List Byte)
  deriving DecidableEq, Repr

/-- The Security engine beside its registers. -/
structure Sec where
  /-- the device key in the key registers (R281) -/
  kdev : Option (List Byte) := none
  dBoot : List Byte := []
  dImg : List Byte := []
  /-- key cache tags, most recently used first (R306): 0 meter or 1 group; MIX or GRP; generation -/
  cache : List (Nat × Nat × Nat) := []
  imports : Tab Import := []
  shadows : Tab Shadow := []
  waits : List KeyWait := []
  /-- meters whose run of failures has been posted (R304) -/
  alarmed : List Nat := []
  winFails : Nat := 0
  winStart : Nat := 0
  rateAt : Option Nat := none
  clone : Clone := .idle
  /-- the latest nonce received from the partner while no clone was being sent (R284) -/
  peerNonce : Option (List Byte) := none
  /-- the clone code (R284): bytes written so far, when it was completed, failed unwraps -/
  code : List Word := [0, 0, 0, 0]
  codeAt : Option Nat := none
  codeFails : Nat := 0
  ktkData : List Word := List.replicate 10 0
  /-- the core-voltage and root-clock monitors are armed (R287) -/
  armed : Bool := false
  deriving DecidableEq, Repr

/-! ## Heat scheduler (R139 to R169) -/

/-- An open heat: start in device time, ns, and its window on the monotonic count (R141). -/
structure Heat where
  start : Nat
  from_ : Nat
  until_ : Nat
  pol : Policy
  census : Bool := false
  deriving DecidableEq, Repr

/-- A group at the scheduler. -/
structure GrpSch where
  /-- the table loaded last, and the table in force, which takes its place at a heat start (R142) -/
  pol : Policy := {}
  cur : Policy := {}
  loads : Nat := 0
  held : Bool := false
  heat : Option Heat := none
  /-- members DEFERRED or SUSPENDED at the end of the previous heat (R147) -/
  late : List Nat := []
  deriving DecidableEq, Repr

/-- What a transaction asks of its meter. -/
inductive Ask where
  | read
  | write (sel : Nat) (value : List Byte)
  | action (sel : Nat) (value : List Byte)
  | setTime
  /-- a step of an image campaign (R607): 1 initiate, 2 blocks, 3 verify, 4 activate, 5 identifier -/
  | image (step : Nat)
  /-- a block that a pass broadcasts (R608) -/
  | cast (grp block : Nat)
  /-- a calendar frame (R253) -/
  | calendar
  /-- an order of the head end: its request is opaque here (R489) -/
  | order (cls : Nat)
  deriving DecidableEq, Repr

/-- A transaction (R154, R206): the descriptors it completes, whether it settles the heat entry, whether it runs as scheduled
traffic, its Sels, its exchanges. -/
structure Xfer where
  mix : Nat
  port : Nat
  ask : Ask := .read
  sels : List Nat := []
  descs : List (Nat × Nat) := []
  heat : Bool := false
  sched : Bool := false
  limit : Nat := 1
  made : Nat := 0
  /-- deadline on the monotonic count -/
  deadline : Option Nat := none
  started : Option Nat := none
  deliver : Bool := false
  shadow : Bool := false
  polled : Bool := false
  viaAlt : Bool := false
  query : Bool := false
  plan : Nat := 2
  /-- ORDER_ID of an order that a field device runs or a head end waits for (R489), or the DSEQ of its answer -/
  order : Option Nat := none
  /-- device time, ns, by which an order must have started -/
  due : Option Nat := none
  bytes : Nat := 64
  /-- image blocks that the request carries from IMG_FIRST (R609, R610) -/
  blocks : Nat := 0
  /-- the heat of its entry has ended (R159) -/
  closed : Bool := false
  /-- it goes at the meter's agreed slot, or waits for the meter's next frame (R149, R265) -/
  slot : Bool := false
  /-- interval data that its request asks for: from which instant, s, and how many at most (R143) -/
  ints : Option (Nat × Nat) := none
  /-- monotonic instant at which it was asked -/
  from_ : Nat := 0
  deriving DecidableEq, Repr

/-- A port at the scheduler: its transaction in flight, answered transactions whose frame step 5 has not taken, its use over the
last 10 s (scheduled?, from, to), the durations behind TTX, ms. -/
structure PortSch where
  cur : Option Xfer := none
  answered : List Xfer := []
  used : List (Bool × Nat × Nat) := []
  ttx : List Nat := []
  beacon : Bool := false
  /-- a DIAG_LOOP holds the port (R86) -/
  looped : Bool := false
  deriving DecidableEq, Repr

/-- Image distribution (R604 to R611). -/
structure Img where
  slots : Tab ImgSlot := []
  camps : Tab Campaign := []
  /-- exchanges in a row that changed nothing, by MIX (R610); members whose image_activate has gone -/
  stalls : Tab Nat := []
  activated : List Nat := []
  /-- the meter served last on each port, and the group whose pass ran last (R608) -/
  last : Tab Nat := []
  turn : Tab Nat := []
  deriving DecidableEq, Repr

/-- The Heat scheduler beside its registers. -/
structure Sch where
  grps : Tab GrpSch := []
  entries : Tab Entry := []
  /-- on-demand transactions and image blocks that wait for a boundary, oldest first -/
  wait : List Xfer := []
  ports : Tab PortSch := []
  /-- the current 1 s window of R162 and its alarm frames; quiet windows in a row -/
  window : Nat := 0
  alarms : Nat := 0
  quiet : Nat := 0
  deriving DecidableEq, Repr

/-! ## Line ports (R170 to R238) -/

/-- A neighbour entry (R227). -/
structure Nb where
  short : Nat
  plan : Nat
  stale : Bool := false
  mix : Option Nat := none
  lastHeard : Nat := 0
  lastTm : Option Nat := none
  txTmi : Nat := 0
  txRate : Nat := 0
  txValid : Bool := false
  rxTmi : Nat := 0
  rxRate : Nat := 0
  rxSent : Bool := false
  snrRef : Int := 0
  snrLast : Int := 0
  dropRun : Nat := 0
  hist : Nat := 0
  phase : Nat := 3
  angle : Nat := 0xFFFF
  /-- latest eight sample codes, newest first -/
  samples : List Nat := [3, 3, 3, 3, 3, 3, 3, 3]
  txMap : List Nat := []
  rxMap : List Nat := []
  txGain : Nat := 0
  /-- a tone-map request rides on the next frame to it (R190) -/
  reqDue : Bool := true
  /-- the neighbour has asked for its map: it rides on the next frame to it -/
  mapDue : Bool := false
  deriving DecidableEq, Repr

/-- A route entry (R228). -/
structure Route where
  cost : Nat
  path : List (Nat × Nat)
  altCost : Nat := 0
  alt : Option (List (Nat × Nat)) := none
  lastOk : Nat := 0
  fails : Nat := 0
  altFails : Nat := 0
  /-- the primary has failed since it was last used successfully (R222) -/
  failed : Bool := false
  /-- hop counts of a compatible plan's paths, which hold the next hop alone (R224); 0 on a Sculler path -/
  far : Nat := 0
  altFar : Nat := 0
  deriving DecidableEq, Repr

/-- How far the exchange in progress has come. -/
inductive LinePhase where
  | idle
  /-- the frame contends; what its own backoff draw was, once made -/
  | contend
  | sending
  /-- waits for a returning frame until an instant of the monotonic count -/
  | awaiting (until_ : Nat)
  | answered
  | failed
  deriving DecidableEq, Repr

/-- A frame being sent: plan, data symbols, start, E_frame, the sample at which the governor cut it, whether it is a beacon, its segment and
the last one (R212), current at mid-scale. -/
structure LineTx where
  plan : Nat
  symbols : Nat
  start : Nat
  energy : Nat := 0
  cut : Option Nat := none
  beacon : Bool := false
  seg : Nat := 0
  segLast : Nat := 0
  mid : Bool := true
  sampled : Bool := false
  deriving DecidableEq, Repr

/-- Segments received so far of a MAC frame (R212): sender, SEQ, next index, last index; the start of the first one, its receive timestamp,
the end of the latest one and its T_frm. -/
structure SegRx where
  src : Nat
  seq : Nat
  next : Nat
  last : Nat
  start : Nat := 0
  rx : Nat := 0
  ended : Nat := 0
  frm : Nat := 0
  deriving DecidableEq, Repr

/-- A line port beside its registers. -/
structure Lcp where
  be : Nat := 3
  navUntil : Nat := 0
  phase : LinePhase := .idle
  tx : Option LineTx := none
  /-- end of blanking on the monotonic count -/
  blankUntil : Option Nat := none
  blanked : List Nat := []
  /-- nonzero powers of the latest 40,000 samples (R196): sample number and µV·µA -/
  win : List (Nat × Nat) := []
  sample : Nat := 0
  midRun : Nat := 0
  /-- the words of the registers of R236 as the port's latest exchange took them, by offset -/
  cfg : Tab Nat := []
  /-- backoff (R213, R214): the instant from which the medium is idle, that at which the frame became ready, the slots still to count, whether
  it is a high-priority frame, and the segment that goes next without contending -/
  idleFrom : Nat := 0
  readyAt : Nat := 0
  slots : Nat := 0
  hiPrio : Bool := false
  segNext : Nat := 0
  /-- by when the acknowledgement of a compatible frame must come (R210) -/
  ackBy : Option Nat := none
  /-- the gain stage, 6 dB steps: now, and while the latest frame was decoded (R187) -/
  gain : Nat := 0
  gainRx : Nat := 0
  /-- the latest 1,024 unflagged ADC samples, newest first (R194) -/
  imp : List Int := []
  /-- since when the port has seen no frame, and the end of the latest 1 s without one (R205) -/
  quietFrom : Nat := 0
  quietLast : Option Nat := none
  /-- phases decided while the device is bow, whose contexts the copies write (R231) -/
  phDec : Tab Nat := []
  truncAt : Option Nat := none
  fuseUntil : Option Nat := none
  waitCounted : Bool := false
  /-- plans on which the beacon that goes out, and the broadcast block that goes out, are still to be sent (R185) -/
  bcnLeft : List Nat := []
  castLeft : List Nat := []
  /-- the exchange failed by truncation or by the claim gate (R218) -/
  excused : Bool := false
  nbs : Tab Nb := []
  routes : Tab Route := []
  /-- positive-going crossings of each phase, newest first, ns (R229) -/
  zc : List (List Nat) := [[], [], []]
  /-- meters in meter polling: successes in a row, and whether the next exchange is the normal probe (R217) -/
  polled : Tab (Nat × Bool) := []
  winEx : Nat := 0
  winFail : Nat := 0
  winStart : Nat := 0
  goodWins : Nat := 0
  seg : Option SegRx := none
  /-- phase samples of each meter, codes of R230, newest first -/
  phs : Tab (List Nat) := []
  nbCopy : List Word := []
  rtCopy : List Word := []
  seq : Nat := 0
  deriving DecidableEq, Repr

/-! ## Radio ports (R239 to R274) -/

/-- What a radio port is doing. -/
inductive RadPhase where
  | idle
  /-- listening before it sends -/
  | listen
  /-- waits for the duty budget; the instant its answer window closes, if it answers -/
  | duty (until_ : Option Nat)
  | sending
  /-- waits for an answer until an instant -/
  | awaiting (until_ : Nat)
  | answered
  | failed
  deriving DecidableEq, Repr

/-- A radio port beside its registers. -/
structure Rad where
  phase : RadPhase := .idle
  be : Nat := 2
  tries : Nat := 0
  /-- the frame that waits or flies: 0 exchange, 1 beacon, 2 answer to a rendezvous call, 3 calendar frame, 4 flooded exchange,
  5 image block; its meter; bytes; whether it serves a slot -/
  kind : Nat := 0
  mix : Option Nat := none
  bytes : Nat := 0
  slot : Bool := false
  /-- it is the request of a calendar meter's agreed slot (R253) -/
  agreed : Bool := false
  /-- the part of the mode and the FEC that it uses (R239, R247), and the calendar element that it carries -/
  sub : Nat := 0
  fec : Bool := false
  elem : Option (Nat × Elem) := none
  /-- end of the listen span in progress (R248) -/
  listenUntil : Nat := 0
  /-- end of the slot window that holds the air (R254) -/
  airUntil : Nat := 0
  txFrom : Nat := 0
  /-- T_frm of that frame -/
  txLen : Nat := 0
  /-- transmissions of the sliding hour (R250) -/
  txLog : List (Nat × Nat) := []
  /-- flood keys seen (R268): ORIG, SEQ, UP, instant of entry; oldest first -/
  seen : List (Nat × Nat × Bool × Nat) := []
  floodSeq : Nat := 0
  training : Bool := false
  trainFrom : Nat := 0
  /-- open rendezvous windows: meter and end, ns (R262) -/
  rdv : List (Nat × Nat) := []
  deriving DecidableEq, Repr

/-! ## Ledger (R315 to R356) -/

/-- The Ledger beside its registers. -/
structure Ldg where
  meters : Tab LdgMeter := []
  nodes : Tab Node := []
  /-- output records that became effective in the window (R334): latest end, and the meters -/
  winEnd : Nat := 0
  winMixes : List Nat := []
  /-- instant of the first of them, cycles of the monotonic count -/
  winFrom : Nat := 0
  evalDay : Nat := 0
  /-- end of the latest balance interval handled, s; 0 before the first -/
  balTo : Nat := 0
  recompute : Bool := false
  missed : Bool := false
  nodeCopy : List Word := []
  deriving DecidableEq, Repr

/-! ## The Catch chain (R357 to R391) -/

/-- The CIC of a channel (R362): its integrators, and what its combs subtract, 50 bits each. -/
structure Cic where
  i1 : BitVec 50 := 0
  i2 : BitVec 50 := 0
  i3 : BitVec 50 := 0
  c1 : BitVec 50 := 0
  c2 : BitVec 50 := 0
  c3 : BitVec 50 := 0
  deriving DecidableEq, Repr

/-- A channel beside its registers: the latest 65,535 modulator bits, the newest in bit 0; the CIC; the normaliser's mantissa and shift and
its latest outputs, newest first; the history of each half-band stage; the index of its latest output, its stamp, 2 ns ticks, and its value; the high-pass filter's
input; the FIR's input history, newest first; when its next output is due on the monotonic count; trim and gain that wait for a swap
boundary; the boundary armed, and whether it exchanges the banks; the snapshot of R368. -/
structure MetCh where
  past : Nat := 0
  cic : Cic := {}
  mant : Nat := 0
  shift : Nat := 0
  norm : List Int := []
  hb : List (List Int) := []
  idx : Option Nat := none
  stamp : Nat := 0
  y : Int := 0
  xPrev : Int := 0
  hist : List Int := []
  nextAt : Option Nat := none
  pendTrim : Option Nat := none
  pendGain : Option Nat := none
  armed : Option (Nat × Bool) := none
  copyIdx : Nat := 0
  copyStamp : Nat := 0
  deriving DecidableEq, Repr

/-- An interval that a check meter accumulates (R378, R379): START, FLAGS, active and reactive energies of L1 to L3, Ws and vars. -/
structure CmAcc where
  start : Nat
  flags : Nat := 0
  e : List Rat := [0, 0, 0]
  q : List Rat := [0, 0, 0]
  samples : Nat := 0
  deriving DecidableEq, Repr

/-- A second that a check meter accumulates (R377): sums of squares and powers, and V1's positive-going crossings, ns. -/
structure CmSec where
  sec : Nat
  n : Nat := 0
  v2 : List Rat := [0, 0, 0]
  i2 : List Rat := [0, 0, 0]
  p : List Rat := [0, 0, 0]
  cross : List Rat := []
  deriving DecidableEq, Repr

/-- A check meter beside its registers: device time, ns, at which it became ON; the index accumulated last and its stamp, ns; intervals
and seconds that accumulate; FLAGS of swaps at the next sample; samples of V1 to V3, newest first; the latest two crossings of V1;
records closed while bow (R381); the latest record and its snapshot. -/
structure MetCm where
  onAt : Nat := 0
  done : Option Nat := none
  at_ : Nat := 0
  accs : List CmAcc := []
  secs : List CmSec := []
  marks : Nat := 0
  vs : List (List Int) := [[], [], []]
  cross : List Rat := []
  closed : List (Nat × List Int) := []
  last : List Byte := []
  copy : List Byte := []
  deriving DecidableEq, Repr

/-- The Catch chain beside its registers. -/
structure Met where
  chs : Tab MetCh := []
  cms : Tab MetCm := []
  deriving DecidableEq, Repr


/-! ## Ethernet ports and the field link (R478 to R499) -/

/-- A frame that waits on an Ethernet port (R479): 0 PTP, 1 field-link time, 2 field link, 3 management. -/
structure EthTx where
  cls : Nat
  bytes : Nat
  fl : Option FlFrame := none
  dest : Option FlTo := none
  mgt : List Byte := []
  /-- it carries retransmitted records -/
  retx : Bool := false
  /-- identifier of a timestamp request (R444) -/
  tsId : Option Nat := none
  deriving DecidableEq, Repr

/-- An Ethernet port beside its registers. -/
structure Eth where
  wait : List EthTx := []
  /-- the pause ends at this instant of the monotonic count, and began at -/
  pauseUntil : Option Nat := none
  pausedFrom : Nat := 0
  /-- monotonic instant since which the link is up -/
  linkAt : Option Nat := none
  /-- counters of R483 by index, and the latched high words -/
  cnt : Tab Nat := []
  hi : Tab Nat := []
  /-- management frames received: timestamp ns, bytes without FCS -/
  mgtRx : List (Nat × List Byte) := []
  mgtTx : List Byte := []
  deriving DecidableEq, Repr

/-- A record that its sender repeats (R490): its number, the field device it goes to, when it was sent last. -/
structure FlHeld where
  num : Nat
  fdx : Nat := 0
  rec_ : FlRec
  sentAt : Option Nat := none
  deriving DecidableEq, Repr

/-- A path that a forwarded frame collected: its DSEQ, line port, meter, path, last sender and cost. -/
structure FlLearn where
  dseq : Nat
  port : Nat
  mix : Nat
  path : List (Nat × Nat)
  near : Nat
  cost : Nat
  deriving DecidableEq, Repr

/-- A forwarded frame that has passed step 5: field device, DSEQ, its content where it authenticated, CLOCK_OFS before it. -/
structure FlAnswer where
  fdx : Nat
  dseq : Nat
  data : Option MData
  ofs : Int
  deriving DecidableEq, Repr

/-- The field link. -/
structure Fl where
  /-- MODE in force since the latest device reset (R499) -/
  mode : Nat := 0
  /-- records taken from authenticated frames: field device, port, receive timestamp ns, record -/
  inbox : List (Nat × Nat × Nat × FlRec) := []
  fds : Tab Fd := []
  /-- records with an ORDER_ID that wait for their end (R490), and the latest ORDER_ID -/
  orders : List FlHeld := []
  orderId : Nat := 0
  /-- KEYWRAP and WELCOME wait for their turn (R493): field device, port, record; sent in the current second -/
  muster : List (Nat × Nat × FlRec) := []
  musterSec : Nat := 0
  musterSent : Nat := 0
  /-- operating time of the latest record of an FDX conflict -/
  conflictAt : Option Nat := none
  /-- the field device's side: state and active port of FL_STS, its link, its key wrapped under K_wrap, its nonce -/
  st : Nat := 0
  port : Nat := 0
  link : FlEnd := {}
  key : Option (List Byte) := none
  nonce : List Byte := []
  tries : Nat := 0
  helloAt : Nat := 0
  hbMs : Nat := 0
  /-- latest DSEQ given; held records not yet covered -/
  dseq : Nat := 0
  held : List FlHeld := []
  /-- answers to the latest 4,096 ORDER_IDs; orders taken and not yet answered -/
  done : List (Nat × FlRec) := []
  taken : List Nat := []
  stsAt : Nat := 0
  /-- field device: paths of forwarded frames, learned once DATA_ACK covers them (R221) -/
  learns : List FlLearn := []
  /-- head end: frames of meters with an order out, already processed -/
  answers : List FlAnswer := []
  /-- field device: joins forwarded, ATTACH code and frame, newest first; the muster code, its words written, when it was complete -/
  joined : List (Nat × JoinReq) := []
  code : List Word := [0, 0, 0, 0]
  codeGot : List Nat := []
  codeAt : Option Nat := none
  dreq : Nat := 0
  deriving DecidableEq, Repr


/-! ## Items on their way to NAND (R504) -/

/-- What an item of queue 14 holds. -/
inductive MediaData where
  /-- bytes whose meaning the media does not need: log entries, node logs, policy loads, images, held records -/
  | raw (bytes : List Byte)
  /-- part of a stroke cycle's context journal (R131): contexts as changed; none for one that became FREE -/
  | ctxJournal (chg : List (Nat × Option Ctx))
  /-- part of a closed journal half (R41); true for the last part -/
  | bill (es : List JEntry) (last : Bool)
  /-- a closed-period record (R411) -/
  | closedRec (mix : Nat) (e : Ext)
  /-- a group's tables (R402), and the descriptor that waits for it -/
  | tables (grp : Nat) (t : GrpTar) (desc : Option (Nat × Nat))
  /-- part of a context snapshot (R132); true for the last part -/
  | snapshot (cs : Tab Ctx) (last : Bool)
  /-- part of a billing snapshot (R505) -/
  | billSnapshot (es : Tab Ext) (last : Bool)
  /-- a cycle's import table, policies, Ledger state, entries, calendars, registers and field devices, as copied, with its bytes (R146, R295,
  R352, R541) -/
  | copies (bytes : Nat) (c : Copied)
  /-- a drained or held log entry with its START (R328) -/
  | log (mix start : Nat) (bytes : List Byte)
  deriving DecidableEq, Repr

/-! ## Frames on their way to step 4 of R35 -/

/-- Where a frame came from: ATTACH code (R105), field device, receive timestamp (ns), hops, cost and SNR, the route it
collected (R221), the short address of its sender. -/
structure Via where
  attach : Nat
  fdx : Option Nat := none
  rx : Nat := 0
  hops : Nat := 1
  cost : Nat := 0
  snr : Int := 0
  path : List (Nat × Nat) := []
  short : Nat := 0
  /-- the short address of the meter itself, 0 where the frame names none (R117) -/
  orig : Nat := 0
  /-- a compatible plan carried it: the path is the next hop alone (R224) -/
  compat : Bool := false
  /-- when the frame ended, ns -/
  fin : Nat := 0
  /-- TAG of the field-link record that carried it -/
  tag : Nat := 0
  /-- a copy of a flood that came through a relay (R269) -/
  relayed : Bool := false
  /-- the calendar generation that it echoes; 0xFF for a rendezvous call (R252) -/
  gen : Option Nat := none
  /-- it answers the transaction in flight on its port, or the order of its TAG -/
  reply : Bool := false
  /-- decoded while the port transmitted (R186) -/
  txrx : Bool := false
  deriving DecidableEq, Repr



/-! ## Lane queues and what leaves the part (R458 to R477) -/

/-- What an item of a queue carries. -/
inductive Payload where
  | event (e : Event)
  /-- a meter's frame, and a join, on the way from its port -/
  | frame (f : MFrame) (via : Via)
  | join (j : JoinReq) (via : Via)
  /-- an entry of the booking queue -/
  | booking (b : BookEntry)
  /-- a received Ethernet frame, with its receive timestamp ns -/
  | eth (f : EthRx) (rx : Nat)
  /-- a pair-link frame that waits for credits -/
  | pairOut (cycle : Nat) (body : PairBody)
  /-- an item of queue 14: its stream and what it holds -/
  | media (stream : Nat) (data : MediaData)
  deriving DecidableEq, Repr

/-- An item of a queue (R458): its priority, its length in bytes, what it carries. -/
structure Item where
  prio : Nat
  bytes : Nat
  payload : Payload
  deriving DecidableEq, Repr

/-- One queue of the Lane manager (R460 to R473). -/
structure Lane where
  /-- complete items in cells, oldest first -/
  cells : List Item := []
  /-- items in the overflow ring, oldest first -/
  ring : List Item := []
  /-- ring entries already taken from the queue's first segment (R470) -/
  ringHead : Nat := 0
  /-- items of producers that wait for room (R461) -/
  waits : List Item := []
  /-- FLUSH reads 1 (R469) -/
  flushing : Bool := false
  /-- cells of discarded items that are still to be freed -/
  freeing : Nat := 0
  /-- ring segments of discarded items that are still to be freed -/
  freeingSegs : Nat := 0
  /-- cells of a chain lost to a header error, until the pool scan ends (R459) -/
  lostCells : Nat := 0
  /-- items of that chain, counted when the scan frees them -/
  lostItems : Nat := 0
  deriving DecidableEq, Repr

/-- The Lane manager beside its registers. -/
structure Lne where
  lanes : Tab Lane := []
  /-- the record of this storm's drops is written (R473) -/
  stormRec : Bool := false
  /-- operating time of the latest drop record outside a storm -/
  dropAt : Option Nat := none
  /-- 0x0202 has been posted and the ring has not fallen below 1/2 since (R580) -/
  warned : Bool := false
  deriving DecidableEq, Repr

/-- How a line-port frame goes on the line: the 24 bits of Sculler frame control (R180); on a compatible plan its modulation; the loading
of each carrier; the attenuation in dB (R204); data symbols; the 26-bit segment header (R212); the generation of the group master key that
secures a compatible frame (R234), and the fragments of its adaptation layer. -/
structure LineSig where
  fc : Nat
  modulation : Nat
  loads : List Nat
  atten : Nat
  symbols : Nat
  segHdr : Nat
  gmk : Option Nat := none
  fragments : Nat := 1
  deriving DecidableEq, Repr

/-- What the part sends out: host memory writes, interrupts, frames, pins. -/
inductive Out where
  /-- bytes written to a host buffer -/
  | hostWrite (addr : Nat) (bytes : List Byte)
  /-- a read of host memory: address and length (R63, R91) -/
  | hostRead (addr bytes : Nat)
  /-- a completion or event entry written to a completion ring: pair, index, host address (R63), words 0 to 7 -/
  | entry (pair idx addr : Nat) (words : List Nat)
  | msix (vec : Nat)
  /-- an error reported through AER as non-fatal (R58, R94) -/
  | aer (err : AerErr)
  /-- a frame on the pair link (R536) -/
  | pairTx (cycle epoch count : Nat) (body : PairBody)
  /-- an item programmed to NAND (R504): stream, LU -/
  | nandProg (stream lu : Nat)
  /-- a codeword read from NAND (R509, R510): LU, and for each hard read the retention set with its read-level offsets -/
  | nandRead (lu : Nat) (sets : List (Nat × List Nat))
  /-- a PTP message sent: port, 0 Sync, 1 Announce, 2 delay request, 3 answer to one, 4 Follow_Up; its time, ns TAI (R430) -/
  | ptpTx (port kind seq : Nat) (t : Int)
  /-- PPS_OUTn is driven to its active or inactive level -/
  | pps (n : Nat) (active : Bool)
  /-- a line-port frame (R185, R211): port, plan, header; the meter it is for; bytes; how it goes on the line -/
  | lineTx (port plan : Nat) (hdr : MacHdr) (mix : Option Nat) (bytes : Nat) (sig : LineSig)
  /-- the DAC samples of a Sculler beacon, all of whose bytes the device knows (R178 to R183) -/
  | lineWave (port : Nat) (dac : List (BitVec 16))
  /-- the abort marker of a truncated Sculler frame (R198), and its attenuation in dB -/
  | abortMarker (port atten : Nat) (points : List (Int × Int))
  /-- the acknowledgement of a compatible frame (R210): port, plan, sender -/
  | lineAck (port plan dest : Nat)
  /-- a chip-select frame on a control SPI (R245) -/
  | spi (port : Nat) (bytes : List Byte)
  /-- a calendar element (R252): port, meter, its 26 bytes -/
  | element (port mix : Nat) (bytes : List Byte)
  /-- a radio frame: port, 0 request, 1 beacon, 2 answer, 3 calendar frame, 4 downward flood; the meter; bytes; mode, its part, FEC (R239);
  the 12 bytes of its flood element (R266) -/
  | radioTx (port kind : Nat) (mix : Option Nat) (bytes mode sub : Nat) (fec : Bool) (flood : List Byte)
  /-- a secured request to a meter (R302): MIX, TX_COUNTER, key generation, whether it carries a key delivery, and the wrapped keys that a
  global_key_transfer carries: EK, AK, master key (R296) -/
  | request (mix counter gen : Nat) (deliver : Bool) (keys : List (List Byte))
  /-- what a read asks for (R82, R143): port, MIX, Sels; for intervals the instant from which, s, and how many at most -/
  | ask (port mix : Nat) (sels : List Nat) (ints : Option (Nat × Nat))
  /-- the answer to a join: ATTACH code, KIND, address, 0 accepted or the back-off told with "capacity", short address given -/
  | joinAnswer (attach kind addr backoff short : Nat)
  /-- an Ethernet frame sent on a port: its class, where a field-link frame goes, that frame, the bytes of a management frame -/
  | ethTx (port cls bytes : Nat) (dest : Option FlTo) (fl : Option FlFrame) (mgt : List Byte)
  /-- the body of a beacon (R452) -/
  | beacon (port : Nat) (body : List Byte)
  /-- a frame on the legal display (R401) -/
  | display (frame : BitVec 64)
  /-- answer of a BAR access that reads -/
  | readData (val : Nat)
  deriving DecidableEq, Repr

/-! ## Firmware (R589 to R603) -/

/-- What the loader makes of a firmware package (R589, R590): header valid, signature good, SIGNER, VERSION, PAIR_FMT, CFG_FMT, SHA-256 of the
Weigh-in part, D_img. -/
structure FwInfo where
  valid : Bool := true
  sigOk : Bool := true
  signer : Nat := 0
  version : Nat := 0
  pairFmt : Nat := 0
  cfgFmt : List Nat := List.replicate 21 0
  check : List Byte := List.replicate 32 0
  dImg : List Byte := List.replicate 48 0
  deriving DecidableEq, Repr

/-- Own firmware beside its registers: the staged package; the package in the running region; the check value of the Weigh-in region as stored; in the configuration store: signer, VERSION and settings formats of the latest normal
boot; a recovery boot and its reason. -/
structure Upd where
  staged : List Byte := []
  run : FwInfo := {}
  weigh : List Byte := List.replicate 32 0
  signer : Option Nat := none
  version : Nat := 0
  cfgFmt : List Nat := List.replicate 21 0
  recovery : Bool := false
  why : Nat := 0
  /-- UPD_STS.STATE but for RECOVERY: 0 idle or staged, 2 writing, 3 pause, 4 hitless -/
  st : Nat := 0
  /-- the step of R598; instants at which the partner was reset, and was READY -/
  hstep : Nat := 0
  resetAt : Option Nat := none
  readyAt : Option Nat := none
  /-- VERSION that the hitless activation installs -/
  target : Nat := 0
  /-- the bow of an activation writes its regions and resets itself -/
  install : Bool := false
  /-- packages received by IMAGE frames and by TFTP; a package that FW_ACTIVATE verified in recovery -/
  imgRx : List Byte := []
  imgLen : Nat := 0
  tftp : List Byte := []
  tftpFails : Nat := 0
  tftpRest : Option Nat := none
  tftpDone : Bool := false
  hostOk : Bool := false
  /-- the retention mark of R597, and LPDDR5 content kept through the reset; the reason it is not used -/
  mark : Option Nat := none
  kept : Option Nand := none
  otherReset : Bool := false
  /-- the regions have been written since the latest normal boot, by a paused activation -/
  fresh : Bool := false
  paused : Bool := false
  failSeen : Bool := false
  deriving DecidableEq, Repr

/-! ## The whole state -/

/-- What holds through every reset and every loss of power: the fuses (R202, R621). -/
structure Die where
  /-- fused hard caps of LP0 and LP1, WIN and FRAME (R202) -/
  gov : Tab (Nat × Nat) := []
  deriving DecidableEq, Repr

/-- The battery domain (R282): it holds while VBAT does. -/
structure Bat where
  /-- VBAT in 10 mV units -/
  vbat : Nat := 300
  root : Option (List Byte) := none
  ktk : Option (List Byte) := none
  latch : Bool := false
  source : Nat := 0
  count : Nat := 0
  time : Nat := 0
  /-- SEC_TAMPER_CFG as the domain holds it (R313) -/
  cfg : Nat := 0x03000000
  /-- a trip without main supplies that is still to be reported (R289) -/
  owed : Bool := false
  /-- the domain has lost all power, and no boot has reported it (R664) -/
  cold : Bool := false
  deriving DecidableEq, Repr

/-- Everything else the part holds. -/
structure Dev where
  grade : Grade := .x
  regs : Tab Word := []
  /-- the configuration store in eMRAM (R85): words of stored registers by offset -/
  store : Tab Word := []
  /-- offsets of registers whose latest change has not reached the store -/
  dirty : List Nat := []
  fn : Tab Fn := []
  glb : Glb := {}
  tim : Tim := {}
  rng : Rng := {}
  lne : Lne := {}
  evr : Evr := {}
  flt : Flt := {}
  ctx : CtxEng := {}
  tar : Tar := {}
  par : Par := {}
  ftl : Ftl := {}
  nand : Nand := {}
  sec : Sec := {}
  sch : Sch := {}
  img : Img := {}
  lcp : Tab Lcp := []
  rad : Tab Rad := []
  cals : Tab Cal := []
  ldg : Ldg := {}
  met : Met := {}
  eth : Tab Eth := []
  fl : Fl := {}
  upd : Upd := {}
  /-- the model's own counter that numbers free values -/
  freeCtr : Nat := 0
  out : List Out := []
  deriving DecidableEq, Repr

/-- The state of the part and the queue of commands that wait for it. -/
structure State where
  die : Die := {}
  bat : Bat := {}
  dev : Dev := {}
  pending : List Instr := []
  deriving DecidableEq, Repr

/-- Reasons to stop. -/
inductive Fault where
  /-- raised by a meaning whose command carries an operand that no sender can form (see WellFormed): safe -/
  | illFormedCommand (mnemonic : String)
  deriving DecidableEq, Repr

/-- Reasons to refuse. -/
inductive Refusal where
  /-- raised by `exec` for a command without a meaning yet: safe -/
  | notModelled (mnemonic : String)
  deriving DecidableEq, Repr

/-- The machine right after reset: every reset source released, step a about to run (R616). -/
def State.reset : State := { dev := { evr := { powerCycles := 1 } } }

end Sys2Proof.Machine
end

