-- ==== Sys2Proof/Machine/RegFile.lean ====
section
/-! DEFINITION. Sys2Proof/Machine/RegFile.lean: reading and writing the register file under the access codes and clamps of
R17 to R20, with the further clamps of fields whose range another field sets. -/

namespace Sys2Proof.Machine

/-- A replaced field of a word. -/
def F.put (f : F) (w v : Nat) : Nat := withBits w f.lo f.len v

/-- A field of a word. -/
def F.get (f : F) (w : Nat) : Nat := bitsOf w f.lo f.len

/-- Which instance of a register an offset names. -/
def RegDef.inst (r : RegDef) (off : Nat) : Option Nat :=
  if off < r.off then none
  else if r.stride = 0 then (if off = r.off then some 0 else none)
  else
    let k := (off - r.off) / r.stride
    if (off - r.off) % r.stride = 0 ∧ k < r.count then some k else none

/-- A coefficient-bank offset (R388, R390): words 0 to 96 of a bank of a channel. -/
def bankInst (off : Nat) : Option Nat :=
  if 0x92000 ≤ off ∧ off < 0x98000 ∧ off % 4 = 0 ∧ ((off - 0x92000) / 4) % 128 ≤ 96 then some ((off - 0x92000) / 4) else none

/-- The register that an offset names, with its instance. -/
def findReg (off : Nat) : Option (RegDef × Nat) :=
  match bankInst off with
  | some k => some (if k % 128 = 96 then bankGdDef else bankDef, k)
  | none => (blockRegs (off / 0x10000)).findSome? (fun r => (r.inst off).map (fun i => (r, i)))

/-- The queue table of R460: MIN default by queue. -/
def laneMinDefault (q : Nat) : Nat :=
  if q ≤ 9 then 2048 else if q = 10 then 4096 else if q = 11 then 64 else if q = 12 then 256
  else if q = 13 then 8192 else if q = 14 then 8192 else if q ≤ 16 then 4096 else if q ≤ 31 then 512 else 64

/-- The queue table of R460: MIN floor by queue. -/
def laneMinFloor (q : Nat) : Nat :=
  if q = 10 then 4096 else if q = 11 then 64 else if q = 12 then 256 else 0

/-- The queue table of R460: asynchronous queues. -/
def laneAsync (q : Nat) : Bool := q = 13 || q = 15 || (32 ≤ q && q ≤ 159)

/-- The queue table of R460: queues that hold beyond their quota. -/
def laneHold (q : Nat) : Bool := 14 ≤ q

/-- The queue table of R460: queues that the host may flush. -/
def laneFlushable (q : Nat) : Bool := q ≤ 9 || q = 13

/-- The queues of functions that the F grade lacks (R460). -/
def laneAbsent (g : Grade) (q : Nat) : Bool :=
  g = .f && (q = 1 || q = 4 || q = 5 || q = 8 || q = 9 || q = 15 || q = 16)

/-- The default word of a coefficient bank (R366, R390): a unit impulse, and the group delay of one tap. -/
def bankReset (k : Nat) : Nat := if k % 128 = 0 then 0x400000 else 0

/-- The default map of a check meter (R374): MC(6k) to MC(6k + 5), five bits a role, V1 lowest. -/
def cmDefaultMap (k : Nat) : Nat := sumNat ((List.range 6).map (fun j => ((6 * k + j) % 32) * 2 ^ (5 * j)))

/-- The six channels that a map names, V1 to I3. -/
def cmMapList (w : Nat) : List Nat := (List.range 6).map (fun j => bitsOf w (5 * j) 5)

/-- The effective map of a check meter (R374). -/
def cmMapClamp (g : Grade) (k w : Nat) : Nat :=
  let l := cmMapList w
  let top := match g with | .x => 23 | .f => 11
  if l.all (fun c => decide (c ≤ top)) && decide (l.Nodup) then bitsOf w 0 30 else cmDefaultMap k

/-- The ratio clamp of R363: D_CIC rises until the ratio is at least 100. -/
def metRatioClamp (w : Nat) : Nat :=
  let r := 2 ^ (F.MET_CH_RATIO_N_HB.get w) * F.MET_CH_RATIO_D_FIR.get w
  if F.MET_CH_RATIO_D_CIC.get w * r < 100 then F.MET_CH_RATIO_D_CIC.put w (ceilDiv 100 r) else w

/-- CODE reads 0 on the internal channels (R389). -/
def metCfgClamp (ch w : Nat) : Nat := if ch ≤ 11 then F.MET_CH_CFG_CODE.put w 0 else w

/-- The word of a register before anything has written it. -/
def resetVal (g : Grade) (off : Nat) : Nat :=
  match findReg off with
  | none => 0
  | some (r, i) =>
    let base := sumNat (r.flds.map (fun f => f.reset * 2 ^ f.lo))
    if r.off = 0 then withBits base 0 4 (match g with | .x => 1 | .f => 2)
    else if r.off = 0x150 then (if i = 0 then (match g with | .x => 0x3C40 | .f => 0x0C40) else 0)
    else if r.off = 0x21000 then
      (b2n (laneAsync i)) * 2 ^ 31 + (b2n (laneHold i)) * 2 ^ 30 + (b2n (laneFlushable i)) * 2 ^ 29
        + (if laneAbsent g i then 0 else laneMinDefault i) * 2 ^ 9 + 16
    else if r.off = 0x98004 then cmDefaultMap i
    else if r.off = 0x92000 then bankReset i
    else base

/-- The stored word of a register. -/
def Dev.word (d : Dev) (off : Nat) : Nat :=
  match d.regs.find off with
  | some w => w.toNat
  | none => resetVal d.grade off

/-- Store the word of a register. The table lists no word equal to the register's reset word. -/
def Dev.setWord (d : Dev) (off v : Nat) : Dev :=
  { d with regs := if v % 2 ^ 32 = resetVal d.grade off then d.regs.del off else d.regs.put off (BitVec.ofNat 32 v) }

/-- The offset of an instance's register. -/
def F.at (f : F) (i : Nat) : Nat := f.off + f.stride * i

/-- Read a field of the register file. -/
def Dev.rd (d : Dev) (f : F) (i : Nat := 0) : Nat := bitsOf (d.word (f.at i)) f.lo f.len

/-- Whether a one-bit field reads 1. -/
def Dev.on (d : Dev) (f : F) (i : Nat := 0) : Bool := d.rd f i = 1

/-- A field read as a signed number. -/
def Dev.rdS (d : Dev) (f : F) (i : Nat := 0) : Int := signed f.len (d.rd f i)

/-- Set a field of the register file, whatever its access code. -/
def Dev.wr (d : Dev) (f : F) (i v : Nat) : Dev := d.setWord (f.at i) (withBits (d.word (f.at i)) f.lo f.len v)

/-- Set a one-bit field. -/
def Dev.wrb (d : Dev) (f : F) (i : Nat) (b : Bool) : Dev := d.wr f i (b2n b)

/-- Count one in a counter that saturates (R137). -/
def Dev.bump (d : Dev) (f : F) (i : Nat := 0) (n : Nat := 1) : Dev :=
  d.wr f i (min (d.rd f i + n) (2 ^ f.len - 1))

/-- Count in a counter that wraps. -/
def Dev.bumpW (d : Dev) (f : F) (i : Nat := 0) (n : Nat := 1) : Dev :=
  d.wr f i ((d.rd f i + n) % 2 ^ f.len)

/-- A function that the F grade lacks (R4, R6). -/
def fixAbsent (g : Grade) (fix : Nat) : Bool :=
  (43 ≤ fix && fix < 64) || 128 ≤ fix ||
  (g = .f && (fix = 1 || fix = 4 || fix = 5 || fix = 8 || fix = 9 || fix = 12 || fix = 13 || fix = 16 || fix = 17 || fix = 18
    || (31 ≤ fix && fix ≤ 42)))

/-- The state of a function (R631). -/
def Dev.fnOf (d : Dev) (fix : Nat) : Fn := d.fn.getD fix {}

/-- Set the state of a function. A function in its reset state is not listed. -/
def Dev.setFn (d : Dev) (fix : Nat) (f : Fn) : Dev :=
  { d with fn := if f = {} then d.fn.del fix else d.fn.put fix f }

/-- A function is ON. -/
def Dev.isOn (d : Dev) (fix : Nat) : Bool := decide ((d.fnOf fix).st = .on)

/-- A function is OFF. -/
def Dev.isOff (d : Dev) (fix : Nat) : Bool := decide ((d.fnOf fix).st = .off)

/-- Windows of functions that the grade lacks (R6, R167, R454, R499): they read 0 and ignore writes. -/
def absentOff (g : Grade) (off : Nat) : Bool :=
  g = .f &&
  ((0x58000 ≤ off && off < 0x60000) || (0x68000 ≤ off && off < 0x70000) || (0x78000 ≤ off && off < 0x80000)
    || (0x90400 ≤ off && off < 0x90700) || (0x95000 ≤ off && off < 0x98000)
    || (0x98200 ≤ off && off < 0x98400) || (0xC0180 ≤ off && off < 0xC0200) || (0xE0000 ≤ off && off < 0xF0000)
    || (0x73028 ≤ off && off < 0x73030) || (0x73060 ≤ off && off < 0x73100)
    || (0x80048 ≤ off && off < 0x80050) || (0x801C0 ≤ off && off < 0x80200)
    || (0x120108 ≤ off && off < 0x120110) || (0x120120 ≤ off && off < 0x120130))

/-- The clamp of one field (R20). -/
def Lim.clamp (l : Lim) (len v : Nat) : Nat :=
  match l with
  | .any => v
  | .near lo hi => clampNat lo hi v
  | .snear lo hi => unsigned len (clampInt lo hi (signed len v))
  | .enum lo hi dflt => if lo ≤ v ∧ v ≤ hi then v else dflt

/-- The new value of one field of a register that is written (R19, R20). -/
def Fld.next (f : Fld) (lock off : Bool) (cur v : Nat) : Nat :=
  let old := bitsOf cur f.lo f.len
  let new := bitsOf v f.lo f.len
  match f.acc with
  | .rw => if f.offOnly && !off then old else f.lim.clamp f.len new
  | .rwl => if lock then old else if f.offOnly && !off then old else f.lim.clamp f.len new
  | .ro => old
  | .wo => 0
  | .w1c => old &&& (2 ^ f.len - 1 - new)
  | .w1s => old ||| new
  | .cnt => 0

/-- The word of a register after a write, field by field, before the clamps that join fields. -/
def RegDef.next (r : RegDef) (lock off : Bool) (cur v : Nat) : Nat :=
  sumNat (r.flds.map (fun f => f.next lock off cur v * 2 ^ f.lo))

/-- The highest MIX of the grade (R4). -/
def mixMax (g : Grade) : Nat := match g with | .x => 1048575 | .f => 65535

/-- The nearest legal centre frequency, kHz (R272). -/
def chanClamp (v : Nat) : Nat :=
  if v ≤ 169000 then 169000 else if v ≤ 170000 then v
  else if v < 863000 then (if v - 170000 < 863000 - v then 170000 else 863000)
  else min v 876000

/-- The overflow-ring size clamp of R27, against the usable capacity in MiB. -/
def ovfClamp (g : Grade) (usable v : Nat) : Nat :=
  let n := clampNat 64 1024 v
  let m := ((n + 32) / 64) * 64
  let fixed := match g with | .x => 1056 | .f => 666
  let fit := ((usable - fixed) / 64) * 64
  min m (max 64 fit)

/-- Σ MIN over the queues other than `q` (R464). -/
def Dev.minSumBut (d : Dev) (q : Nat) : Nat :=
  sumNat ((List.range 256).map (fun k => if k = q then 0 else d.rd F.LNE_Q_CFG_MIN k))

/-- Σ MIN (R462). -/
def Dev.minSum (d : Dev) : Nat := d.minSumBut 256

/-- The clamps of a written word that join several fields or depend on other state. -/
def Dev.crossClamp (d : Dev) (base i w : Nat) : Nat :=
  if base = 0x10 then (match d.grade with | .x => w | .f => 0)                                     -- R5
  else if base = 0x150 then                                                                       -- R639
    sumNat ((List.range 32).map (fun b =>
      if bitAt w b && !(fixAbsent d.grade (32 * i + b)) && (32 * i + b) < 64 && (32 * i + b) ≠ 18 then 2 ^ b else 0))
  else if base = 0x120004 then F.SCH_STORM_CFG_OFF_RATE.put w
      (clampNat 10 (F.SCH_STORM_CFG_ON_RATE.get w) (F.SCH_STORM_CFG_OFF_RATE.get w))              -- R168
  else if base = 0x50018 then F.LCP_TM_CFG_RATES.put w (F.LCP_TM_CFG_RATES.get w ||| 1)           -- R204
  else if base = 0x5001C then F.LCP_TM_REFRESH_TTL.put w
      (max (F.LCP_TM_REFRESH_TTL.get w) (2 * F.LCP_TM_REFRESH_PERIOD.get w))
  else if base = 0x50030 then                                                                     -- R205
    F.LCP_GOV_CAP_WIN_CAP.put
      (F.LCP_GOV_CAP_FRAME_CAP.put w (clampNat 1 (d.rd F.LCP_GOV_OTP_FRAME_HARD i) (F.LCP_GOV_CAP_FRAME_CAP.get w)))
      (clampNat 1 (d.rd F.LCP_GOV_OTP_WIN_HARD i) (F.LCP_GOV_CAP_WIN_CAP.get w))
  else if base = 0x50400 then F.LCP_MAC_CFG_MIN_BE.put w
      (clampNat 1 (F.LCP_MAC_CFG_MAX_BE.get w) (F.LCP_MAC_CFG_MIN_BE.get w))                      -- R236
  else if base = 0x50404 then F.LCP_POLL_CFG_PW_OFF.put w
      (clampNat 5 (F.LCP_POLL_CFG_PW_ON.get w) (F.LCP_POLL_CFG_PW_OFF.get w))
  else if base = 0x50444 then F.LCP_RT_SEL_MIX.put w (min (mixMax d.grade) (F.LCP_RT_SEL_MIX.get w))
  else if base = 0x60008 then F.RAD_CHAN_FREQ_KHZ.put w (chanClamp (F.RAD_CHAN_FREQ_KHZ.get w))   -- R272
  else if base = 0x60028 then F.RAD_LL_CFG_LL_MIN.put w
      (clampNat 1 (min 60 (F.RAD_LL_CFG_LL_MAX.get w)) (F.RAD_LL_CFG_LL_MIN.get w))
  else if base = 0xA0010 then F.LDG_LOSS_CFG_MIN_DAYS.put w
      (clampNat 3 (F.LDG_LOSS_CFG_WIN_DAYS.get w) (F.LDG_LOSS_CFG_MIN_DAYS.get w))                -- R354
  else if base = 0xA0020 then F.LDG_NODE_SEL_NODE.put w
      (match d.grade with | .x => F.LDG_NODE_SEL_NODE.get w | .f => min 63 (F.LDG_NODE_SEL_NODE.get w))
  else if base = 0x90104 then metRatioClamp w                                                     -- R363
  else if base = 0x98004 then cmMapClamp d.grade i w                                                        -- R374
  else if base = 0xB0004 then F.TAR_MIRROR_SEL_BASE.put w                                         -- R423
      (min (if F.TAR_MIRROR_SEL_VIEW.get w = 2 then 4095 else mixMax d.grade) (F.TAR_MIRROR_SEL_BASE.get w))
  else if base = 0x8008C then                                                                     -- R456, TIM_PPS_PERIOD
    (if w < 500 then 0 else (clampNat 1000 4294967294 w) / 2 * 2)
  else if base = 0x80090 then
    (let p := d.rd F.TIM_PPS_PERIOD_PERIOD i
     clampNat 10 (if p = 0 then 4294967294 else p - 10) w)
  else if base = 0x80084 ∨ base = 0x80144 then w / 2 * 2
  else if base = 0x20000 then F.LNE_OVF_CFG_SIZE.put w
      (ovfClamp d.grade (d.rd F.MEM_CAP_USABLE) (bitsOf w 0 11))                                  -- R27
  else if base = 0x21000 then                                                                     -- R464
    (if laneAbsent d.grade i then F.LNE_Q_CFG_MIN.put w 0
     else F.LNE_Q_CFG_MIN.put w
       (let m := clampNat (laneMinFloor i) 98304 (F.LNE_Q_CFG_MIN.get w)
        let others := d.minSumBut i
        if others + m ≤ 90112 then m else max (laneMinFloor i) (90112 - others)))
  else if base = 0x70200 then F.ETH_MGT_TX_CTL_LEN.put w
      (clampNat 60 (d.rd F.ETH_CFG_MAX_FRAME i - 4) (F.ETH_MGT_TX_CTL_LEN.get w))                 -- R498
  else if base = 0x70204 then w ||| 0x8000
  else if base = 0x73000 then                                                                     -- R499
    (let w1 := if F.FL_CFG_ETYPE.get w = 0x86DD ∨ F.FL_CFG_ETYPE.get w = 0x88F7 then F.FL_CFG_ETYPE.put w 0x88B5 else w
     match d.grade with | .x => w1 | .f => F.FL_CFG_PORTS.put w1 (F.FL_CFG_PORTS.get w1 % 4))
  else if base = 0x80028 then                                                                     -- R455, R440
    (let w1 := if F.TIM_PTP_CFG_PROFILE.get w = 1
        then F.TIM_PTP_CFG_TRANSPORT.put (F.TIM_PTP_CFG_SYNC_LOG2.put (F.TIM_PTP_CFG_ANN_LOG2.put w 0) 0) 0 else w
     match d.grade with | .x => w1 | .f => F.TIM_PTP_CFG_PORTS.put w1 (F.TIM_PTP_CFG_PORTS.get w1 % 4))
  else if base = 0xC000C then F.FTL_GC_CFG_GC_CRIT.put w
      (clampNat 1 (F.FTL_GC_CFG_GC_LOW.get w) (F.FTL_GC_CFG_GC_CRIT.get w))                       -- R526
  else if base = 0xC0010 then F.FTL_LIFE_CFG_RATED_PE.put w
      (let v := F.FTL_LIFE_CFG_RATED_PE.get w
       if v < 50 then 0 else clampNat 100 (max 100 d.ftl.paramPe) v)
  else if base = 0x90000 then (match d.grade with | .x => w | .f => F.MET_CFG_BSCLK_EN.put w 0)   -- R361
  else if base = 0x90100 then metCfgClamp i w                                                     -- R389
  else w

end Sys2Proof.Machine
end

