-- ==== Sys2Proof/WellFormed.lean ====
section
/-! DEFINITION. Sys2Proof/WellFormed.lean: the commands that a sender can form. An operand whose range is a power of two or a small count has a
type of that size; the checks here are the others. -/

namespace Sys2Proof

/-- A grant reads at most four descriptors (R91), each of sixteen words (R75). -/
def grantOk (descs : List Desc) : Bool := descs.length ≤ 4 && descs.all (fun x => x.w.length = 16)

/-- An access that is not an aligned word (R16). -/
def unalignedOk (off : BitVec 24) (bytes : Nat) : Bool := !(off.toNat % 4 = 0 && bytes = 4)

/-- A halt code of R622, or 0. -/
def bootOk (env : BootEnv) : Bool := env.halt ≤ 4

/-- A demand interval divides the hour (R416, R417). -/
def demandOk (minutes : Nat) : Bool := minutes ≠ 0 && 60 % minutes = 0

/-- A TFTP block holds at most 1,428 bytes (R601). -/
def tftpOk (block : Option (List Byte)) : Bool := (block.getD []).length ≤ 1428

/-- A command is well formed. -/
def Instr.wf : Instr → Bool
  | .fetchGrant descs _ => grantOk descs
  | .unalignedAccess _ off bytes => unalignedOk off bytes
  | .boot env => bootOk env
  | .demandBoundary minutes => demandOk minutes
  | .tftpRecoveryRead block => tftpOk block
  | _ => true

end Sys2Proof
end

