-- ==== Sys2Proof/Machine/Ops.lean ====
section
/-! DEFINITION. Sys2Proof/Machine/Ops.lean: the shared operations: time, outputs, the event recorder, Lane manager queues,
events, interrupts and completions. -/

namespace Sys2Proof.Machine

/-! ## Time, outputs, free values -/

/-- Send something out. -/
def Dev.emit (d : Dev) (o : Out) : Dev := { d with out := o :: d.out }

/-- Device time, ns (R425). -/
def Dev.nowNs (d : Dev) : Nat := 2 * d.tim.time

/-- Device time in seconds, truncated to 32 bits (R425). -/
def Dev.nowS (d : Dev) : Nat := (d.nowNs / 1000000000) % 2 ^ 32

/-- Take the number of a free value. -/
def Dev.fresh (d : Dev) : Nat × Dev := (d.freeCtr, { d with freeCtr := d.freeCtr + 1 })

/-- Rates in force while locked: `n` cycles more (R436). -/
def addRate (rate : Int) (n : Nat) : List (Int × Nat) → List (Int × Nat)
  | [] => [(rate, n)]
  | (r, k) :: t => if r = rate then (r, k + n) :: t else (rate, n) :: (r, k) :: t

/-- The bands of NAND temperature of the health record (R524). -/
def tempBand (t : Int) : Nat :=
  if t < 0 then 0 else if t < 25 then 1 else if t < 40 then 2 else if t < 55 then 3 else if t < 70 then 4 else if t < 85 then 5
  else if t < 100 then 6 else 7

/-- The temperature changes; it is the NAND's too (R510: the die's, where no part declares a sensor; PRESUMED, log 143). -/
def Dev.setTemp (d : Dev) (t : Int) : Dev :=
  { d with glb := { d.glb with temp := t, tempMin := min d.glb.tempMin t, tempMax := max d.glb.tempMax t } }

/-- `n` CLK_FAB cycles pass: the monotonic count (R426), the time counter at its rate (R425), the RTC, the operating time (R573). -/
def Dev.passCycles (d : Dev) (n : Nat) : Dev :=
  let tot : Int := (n : Int) * (1000000000000 + d.tim.rate) + d.tim.frac
  let mono := d.tim.mono + n
  let secs := (mono - d.evr.optMono) / 500000000
  { d with
    tim := { d.tim with
      mono := mono
      time := (d.tim.time + (tot / 1000000000000).toNat) % 2 ^ 64
      frac := (tot % 1000000000000).toNat
      rtcNs := d.tim.rtcNs + 2 * n
      rates := if d.rd F.TIM_STS_LOCK = 0 ∨ n = 0 then d.tim.rates else addRate d.tim.rate n d.tim.rates }
    evr := { d.evr with optime := d.evr.optime + secs, optMono := d.evr.optMono + secs * 500000000
                        bands := if secs = 0 then d.evr.bands else d.evr.bands.modify (tempBand d.glb.temp) (· + secs) } }

/-- Let time pass up to an instant of the monotonic count; an instant that has passed is now. -/
def Dev.toMono (d : Dev) (m : Nat) : Dev := d.passCycles (m - d.tim.mono)

/-- One of `n` values, drawn uniformly. -/
def Dev.drawOf (d : Dev) (n : Nat) : Nat × Dev := ((Config.draw d.freeCtr).toNat % n, { d with freeCtr := d.freeCtr + 1 })

/-- Let time pass up to an instant of device time, ns. -/
def Dev.toNs (d : Dev) (ns : Nat) : Dev :=
  if d.nowNs < ns then
    let need : Int := ((ns + 1) / 2 - d.tim.time : Nat) * 1000000000000 - d.tim.frac
    d.passCycles (((need + (1000000000000 + d.tim.rate) - 1) / (1000000000000 + d.tim.rate)).toNat)
  else d

/-- The device is bow (R43). -/
def Dev.isBow (d : Dev) : Bool := decide (d.par.role = .bow)

/-- The device is in the safe state (R564). -/
def Dev.isSafe (d : Dev) : Bool := d.on F.FLT_STS_SAFE

/-- The device has reached READY and is not being reset (R618). -/
def Dev.live (d : Dev) : Bool := decide (d.glb.phase = .ready)

/-- A self-test loop holds a function (R86). -/
def Dev.inLoop (d : Dev) (fix : Nat) : Bool := d.rng.loops.any (fun l => l.1 = fix)

/-- The device processes frames: live, not bow, not in the safe state, not in a recovery boot (R43, R565, R600). -/
def Dev.serves (d : Dev) : Bool := d.live && !d.isBow && !d.isSafe && !d.upd.recovery

/-- The role in force: 0 Field, 1 Head-end, 2 Both (R13). -/
def Dev.role (d : Dev) : Nat := d.rd F.GLB_ROLE_STS_ROLE

/-- The device terminates field devices. -/
def Dev.isHead (d : Dev) : Bool := d.role ≠ 0

/-- The device is itself a field device of a head end. -/
def Dev.isField (d : Dev) : Bool := d.role = 0

/-- A stored register has changed and has not reached the configuration store (R85). -/
def Dev.touch (d : Dev) (off : Nat) : Dev := { d with dirty := if d.dirty.contains off then d.dirty else off :: d.dirty }

/-! ## The event recorder (R571 to R577) -/

/-- Words 0 to 6 of a record with its seventh word: CRC and mark (R571, R572). -/
def sealRec (w : List Nat) : List Word :=
  (w ++ [crc16 (wordsBytes w) + 0x5A5A0000]).map (BitVec.ofNat 32)

/-- A record is stored: at the fill, or counted as lost when the recorder is full (R574). -/
def Dev.evrPush (d : Dev) (w : List Nat) : Dev :=
  if d.evr.recs.length ≥ 65536 then { d with evr := { d.evr with lost := min (d.evr.lost + 1) 4294967295 } }
  else { d with evr := { d.evr with recs := ⟨sealRec w, false⟩ :: d.evr.recs } }

/-- A record goes to the recorder, or to the staging buffer while it is frozen (R577). -/
def Dev.evrCommit (d : Dev) (w : List Nat) : Dev :=
  if d.evr.frozen then
    if d.evr.staged.length < 64 then { d with evr := { d.evr with staged := d.evr.staged ++ [w] } }
    else
      let cur := ((w.getD 0 0) % 65536, w.getD 1 0)
      { (d.bump F.EVR_STAGE_OVF) with evr := { d.evr with
          dropped := d.evr.dropped + 1
          dropFirst := if d.evr.dropped = 0 then cur else d.evr.dropFirst
          dropLast := cur } }
  else d.evrPush w

/-- Words 0 to 6 of a new record (R571). -/
def Dev.recWords (d : Dev) (code src sev : Nat) (w3 w4 w5 w6 : Nat) (deferred : Bool) : List Nat :=
  [code % 65536 + (src % 256) * 65536 + (sev % 16) * 16777216 + (if deferred then 2 ^ 29 else 0) + (if d.isBow then 2 ^ 30 else 0),
   d.evr.optime % 2 ^ 32, d.evr.powerCycles % 2 ^ 24, w3 % 2 ^ 32, w4 % 2 ^ 32, w5 % 2 ^ 32, w6 % 2 ^ 32]

/-! ## Lane manager (R458 to R473) -/

/-- A queue. -/
def Dev.lane (d : Dev) (q : Nat) : Lane := d.lne.lanes.getD q {}

/-- Set a queue. An empty queue is not listed. -/
def Dev.setLane (d : Dev) (q : Nat) (l : Lane) : Dev :=
  { d with lne := { d.lne with lanes := if l = {} then d.lne.lanes.del q else d.lne.lanes.put q l } }

/-- MIN of a queue (R460, R462). -/
def Dev.laneMin (d : Dev) (q : Nat) : Nat :=
  match d.regs.find (0x21000 + 16 * q) with
  | some w => bitsOf w.toNat 9 17
  | none => if laneAbsent d.grade q then 0 else laneMinDefault q

/-- SHARE of a queue. -/
def Dev.laneShare (d : Dev) (q : Nat) : Nat :=
  match d.regs.find (0x21000 + 16 * q) with
  | some w => bitsOf w.toNat 0 9
  | none => 16

/-- The sum of MIN over all queues (R462). -/
def Dev.laneMinSum (d : Dev) : Nat := sumNat ((List.range 256).map d.laneMin)

/-- The quota of a queue (R462). -/
def Dev.quota (d : Dev) (q : Nat) : Nat := d.laneMin q + d.laneShare q * (98304 - d.laneMinSum) / 256

/-- The cells of an item (R458). -/
def Item.cellCount (i : Item) : Nat := ceilDiv i.bytes 120

/-- The ring entries of an item (R470). -/
def Item.ringCount (i : Item) : Nat := ceilDiv i.bytes 240

/-- The cells that a queue's items hold. -/
def Lane.used (l : Lane) : Nat := sumNat (l.cells.map Item.cellCount) + l.freeing + l.lostCells

/-- The ring entries that a queue's items hold. -/
def Lane.ringUsed (l : Lane) : Nat := sumNat (l.ring.map Item.ringCount)

/-- The ring segments that a queue holds (R470). -/
def Lane.segs (l : Lane) : Nat := ceilDiv (l.ringHead + l.ringUsed) 256 + l.freeingSegs

/-- The state of a ring pair. -/
def Dev.pair (d : Dev) (p : Nat) : Pair := d.rng.pairs.getD p {}

/-- Set the state of a ring pair. A pair in its reset state is not listed. -/
def Dev.setPair (d : Dev) (p : Nat) (x : Pair) : Dev :=
  { d with rng := { d.rng with pairs := if x = {} then d.rng.pairs.del p else d.rng.pairs.put p x } }

/-- Change the state of a ring pair. -/
def Dev.updPair (d : Dev) (p : Nat) (f : Pair → Pair) : Dev := d.setPair p (f (d.pair p))

/-- The cells that a queue holds: items, and the descriptors and completions of the ring pairs. -/
def Dev.laneCells (d : Dev) (q : Nat) : Nat :=
  (d.lane q).used
    + (if 32 ≤ q ∧ q ≤ 95 then ((d.pair (q - 32)).held.filter (fun h => !h.started)).length
       else if 96 ≤ q ∧ q ≤ 159 then (d.pair (q - 96)).waiting.length else 0)

/-- The cells held by all queues and those of them above each queue's MIN. -/
def Dev.cellSums (d : Dev) : Nat × Nat :=
  let qs := d.lne.lanes.keys ++ (d.rng.pairs.keys.flatMap (fun p => [32 + p, 96 + p]))
  (sumNat (qs.map d.laneCells), sumNat (qs.map (fun q => d.laneCells q - d.laneMin q)))

/-- An item of `c` cells fits (R462, R463). -/
def Dev.fits (d : Dev) (q c : Nat) : Bool :=
  let held := d.laneCells q
  let sums := d.cellSums
  let extra := (held + c - d.laneMin q) - (held - d.laneMin q)
  decide (held + c ≤ d.quota q) && decide (d.laneMinSum + sums.2 + extra ≤ 98304 ∨ extra = 0)
    && decide (sums.1 + c ≤ 98304)

/-- RESERVE_SHORT (R463). -/
def Dev.reserveShort (d : Dev) : Bool := decide (98304 < d.laneMinSum + d.cellSums.2)

/-- The ring's segments in all (R470). -/
def Dev.ringSegs (d : Dev) : Nat := d.rd F.LNE_OVF_CFG_SIZE_NOW * 16

/-- Ring entries of the drained items, on their chain of queue 14 (R519, R522). -/
def Ftl.drainEntries (f : Ftl) : Nat := sumNat (f.drain.map (fun i => ceilDiv i.bytes.length 240))

/-- The ring's segments in use. -/
def Dev.ringSegsUsed (d : Dev) : Nat := sumNat (d.lne.lanes.vals.map Lane.segs) + ceilDiv d.ftl.drainEntries 256

/-- The ring's entries in use. -/
def Dev.ringUsed (d : Dev) : Nat := sumNat (d.lne.lanes.vals.map Lane.ringUsed) + d.ftl.drainEntries

/-- Queues that the ring takes from: those under Spill (R460). The ring takes items of queue 14 only as drained ones (R519). -/
def Dev.spills (_d : Dev) (q : Nat) : Bool := !(laneHold q)

/-- Put an item at the tail of a queue's chain in the ring, if it has room (R471, R473). -/
def Dev.ringPut (d : Dev) (q : Nat) (i : Item) : Option Dev :=
  let l := d.lane q
  let l' := { l with ring := l.ring ++ [i] }
  if d.ringSegsUsed - l.segs + l'.segs ≤ d.ringSegs then
    let d := (d.setLane q l').bump F.LNE_SPILLED
    some (d.wr F.LNE_OVF_PEAK_ENTRIES 0 (max (d.rd F.LNE_OVF_PEAK_ENTRIES) d.ringUsed))
  else none

/-- How many drops make a record now: once a storm, once an hour of operating time outside one (R473, R580). -/
def Dev.dropRecordDue (d : Dev) : Bool :=
  if d.on F.SCH_STS_STORM then !d.lne.stormRec
  else match d.lne.dropAt with
    | none => true
    | some t => decide (t + 3600 ≤ d.evr.optime)

/-- The class, severity and payload of an event before it is routed. -/
def Dev.mkEvent (d : Dev) (cls code sev src target w4 w5 w6 : Nat) : Event :=
  { code := code, sev := sev, cls := cls, src := src, target := target, stamp := d.tim.time, w4 := w4 % 2 ^ 32, w5 := w5 % 2 ^ 32,
    w6 := w6 % 2 ^ 32 }

/-! ## Events (R97 to R100) -/

/-- The event pair that carries a class: the lowest-numbered event pair in state ON whose mask holds it (R98). -/
def Dev.eventPair (d : Dev) (cls : Nat) : Option Nat :=
  (List.range 64).find? (fun p => d.isOn (64 + p) && d.on F.RNG_PAIR_CFG_EVENT p && bitAt (d.word (0x10020 + 0x40 * p)) cls)

/-- Alarm bits that an event carries in w4 (R580). -/
def Event.alarmBits (e : Event) : Nat := if e.cls = 0 ∧ 0x0301 ≤ e.code ∧ e.code ≤ 0x0303 then e.w4 else 0

/-- Whether a later event merges into a waiting one (R100). -/
def Event.mergesInto (new old : Event) : Bool :=
  (new.code = old.code && new.target = old.target)
    || (new.cls = 0 && old.cls = 0 && new.target = old.target && new.target / 2 ^ 28 = 1)

/-- The waiting entry after a later event has merged into it (R100). -/
def Event.merge (new old : Event) : Event :=
  { new with
    target := old.target, cls := old.cls, src := old.src
    w4 := if old.cls = 0 ∧ (new.alarmBits ≠ 0 ∨ old.gathered ≠ 0) then old.gathered ||| new.alarmBits else new.w4
    gathered := old.gathered ||| new.alarmBits
    merged := min (old.merged + 1) 32767 }

/-- Merge an event into the first item that takes it. -/
def mergeFirst (e : Event) : List Item → Option (List Item)
  | [] => none
  | i :: t =>
    match (match i.payload with | .event o => some o | _ => none) with
    | some o => if e.mergesInto o then some ({ i with payload := .event (e.merge o) } :: t) else (mergeFirst e t).map (i :: ·)
    | none => (mergeFirst e t).map (i :: ·)

/-- An event goes to the event-post queue, merged where R100 says, or else put there by `put`; an event that no pair carries is
counted (R98). -/
def Dev.routeEvent (put : Dev → Item → Dev) (d : Dev) (e0 : Event) : Dev :=
  let e := { e0 with gathered := e0.alarmBits }
  match d.eventPair e.cls with
  | none => d.bump F.RNG_EVT_UNROUTED
  | some _ =>
    let l := d.lane 13
    match mergeFirst e l.cells with
    | some cs => d.setLane 13 { l with cells := cs }
    | none =>
      match mergeFirst e l.ring with
      | some rs => d.setLane 13 { l with ring := rs }
      | none => put d ⟨0, 32, .event e⟩

/-! ## Offering items (R461, R471, R473) -/

/-- Offer an item to a queue (R461, R471, R473); with fuel left, a first drop writes record and event 0x0201, and a ring more
than 3/4 full posts 0x0202 (R580). -/
def Dev.offerRaw : Nat → Dev → Nat → Item → Dev
  | fuel, d, q, i =>
    let l := d.lane q
    if l.ring.isEmpty && l.waits.isEmpty && d.fits q i.cellCount then
      d.setLane q { l with cells := l.cells ++ [i] }
    else if d.spills q then
      match d.ringPut q i with
      | some d' =>
        if 4 * d'.ringUsed > 3 * (d'.ringSegs * 256) ∧ ¬ d'.lne.warned then
          let d2 := { d' with lne := { d'.lne with warned := true } }
          match fuel with
          | 0 => d2
          | f + 1 => d2.routeEvent (fun x j => x.offerRaw f 13 j) (d2.mkEvent 4 0x0202 1 2 0 d2.ringUsed 0 0)
        else d'
      | none =>
        if laneHold q then (d.setLane q { l with waits := l.waits ++ [i] }).bump F.LNE_HELD
        else
          let d1 := d.bump F.LNE_DROP
          if d1.dropRecordDue then
            let d2 := { d1 with lne := { d1.lne with
              stormRec := d1.on F.SCH_STS_STORM || d1.lne.stormRec
              dropAt := if d1.on F.SCH_STS_STORM then d1.lne.dropAt else some d1.evr.optime } }
            let d3 := d2.evrCommit (d2.recWords 0x0201 2 1 0 q (d2.rd F.LNE_DROP) 0 false)
            match fuel with
            | 0 => d3
            | f + 1 => d3.routeEvent (fun x j => x.offerRaw f 13 j) (d3.mkEvent 4 0x0201 1 2 0 q (d3.rd F.LNE_DROP) 0)
          else d1
    else (d.setLane q { l with waits := l.waits ++ [i] }).bump F.LNE_HELD

/-- The overflow ring holds an entry of the event-post queue. -/
def Dev.ringEvents (d : Dev) : Bool := !(d.lane 13).ring.isEmpty

/-- A storm starts (R162): STORM, SCH_STORMS, a record and an event with the alarm frames of the window; drops are recorded anew (R580). -/
def Dev.stormStart (d : Dev) : Dev :=
  let d1 := (d.wrb F.SCH_STS_STORM 0 true).bump F.SCH_STORMS
  let d2 : Dev := { d1 with lne := { d1.lne with stormRec := false } }
  let d3 := d2.evrCommit (d2.recWords 0x1201 0x12 1 0 d.sch.alarms 0 0 false)
  d3.routeEvent (fun x i => x.offerRaw 2 13 i) (d3.mkEvent 4 0x1201 1 0x12 0 d.sch.alarms 0 0)

/-- An event goes to the event-post queue (R98, R100); where it goes to the overflow ring, a storm starts (R162). -/
def Dev.postRaw (d : Dev) (e : Event) : Dev :=
  let d1 := d.routeEvent (fun x i => x.offerRaw 2 13 i) e
  if !d1.on F.SCH_STS_STORM && d1.ringEvents then d1.stormStart else d1

/-! ## Interrupts (R101 to R103) -/

/-- The MSI-X entry of a vector. -/
def Dev.vec (d : Dev) (v : Nat) : MsixVec := d.rng.vecs.getD v {}

/-- Set an MSI-X entry. -/
def Dev.setVec (d : Dev) (v : Nat) (x : MsixVec) : Dev :=
  { d with rng := { d.rng with vecs := if x = {} then d.rng.vecs.del v else d.rng.vecs.put v x } }

/-- A vector fires: a message, or the pending bit while it is masked (R102). -/
def Dev.fire (d : Dev) (v : Nat) : Dev :=
  if (d.vec v).masked then d.setVec v { d.vec v with pend := true } else d.emit (.msix v)

/-- Signal a pair's vector: every entry written so far counts as signalled (R102). -/
def Dev.signal (d : Dev) (p : Nat) : Dev :=
  (d.fire (d.rd F.RNG_PAIR_CFG_VEC p)).updPair p (fun x => { x with unsig := 0, oldest := none })

/-- After an entry is written: fire at once, or by COUNT (R101, R102). -/
def Dev.entryWritten (d : Dev) (p : Nat) (irq : Bool) : Dev :=
  let d1 := d.updPair p (fun x => { x with unsig := x.unsig + 1, oldest := some (x.oldest.getD d.tim.mono) })
  if irq || d1.rd F.RNG_IRQ_MOD p ≤ (d1.pair p).unsig then d1.signal p else d1

/-! ## The recorder's own faults, records and events -/

/-- The latest operating time of a record of this code, source and DETAIL (R559). -/
def Dev.recordedAt (d : Dev) (k : Nat × Nat × Nat) : Option Nat := (d.flt.recAt.find? (fun e => e.1 = k)).map (·.2)

/-- Note that such a record was written now. -/
def Dev.noteRecord (d : Dev) (k : Nat × Nat × Nat) : Dev :=
  { d with flt := { d.flt with recAt := (k, d.evr.optime) :: d.flt.recAt.filter (fun e => e.1 ≠ k) } }

/-- The history entry of a report: merged under R559, or the newest of sixteen (R569). -/
def Dev.history (d : Dev) (code src cls detail : Nat) (safe : Bool) : Dev :=
  if d.flt.hist.any (fun h => h.code = code && h.src = src && h.detail = detail) then
    { d with flt := { d.flt with hist := d.flt.hist.map (fun h =>
        if h.code = code && h.src = src && h.detail = detail then
          { h with rep := min (h.rep + 1) 65535, last := d.evr.optime, safe := h.safe || safe } else h) } }
  else
    let e : Hist := { code := code, src := src, cls := cls, safe := safe, rep := 0, detail := detail, first := d.evr.optime, last := d.evr.optime }
    let d1 := if d.flt.hist.length ≥ 16 then d.bump F.FLT_HIST_OVF else d
    { d1 with flt := { d1.flt with hist := (e :: d1.flt.hist).take 16 } }

/-- The FAULT_N pulse starts, or its 10 ms start again (R561): it ends 10 ms later. -/
def Dev.pulse (d : Dev) : Dev :=
  { (d.wrb F.FLT_STS_PULSE 0 true) with flt := { d.flt with pulseEnd := some (d.tim.mono + 5000000) } }

/-- Word 4, 5 or 6 of a fault's payload: source data, a free value (R571). -/
def Dev.srcData (d : Dev) (k : Nat) : Nat := (Config.sourceData d.freeCtr k).toNat

/-- The collector's actions short of the safe state, the record and the function's own state (R556). -/
def Dev.faultCore (d : Dev) (code src cls detail : Nat) (safe : Bool) : Dev :=
  let d1 := d.bump (match cls with | 4 => F.FLT_FATAL_CNT | 3 => F.FLT_DEGRADED_CNT | 2 => F.FLT_FUNCTION_CNT | _ => F.FLT_NOTICE_CNT)
  let d2 := if cls ≥ 2 then d1.history code src cls detail safe else d1
  let d3 := d2.postRaw (d2.mkEvent 6 code cls src 0 (d.srcData 4) (d.srcData 5) (d.srcData 6))
  if cls ≥ 3 then
    let d4 := if cls = 4 then d3.wrb F.FLT_STS_FATAL 0 true else d3.wrb F.FLT_STS_DEGRADED 0 true
    let d5 := d4.pulse
    if d5.on F.RNG_FAULT_VEC_EN then d5.fire (d5.rd F.RNG_FAULT_VEC_VEC) else d5
  else d3

/-- `faultCore`, then the number of its source data is spent. -/
def Dev.faultCoreF (d : Dev) (code src cls detail : Nat) (safe : Bool) : Dev :=
  let d1 := d.faultCore code src cls detail safe
  { d1 with freeCtr := d1.freeCtr + 1 }

/-- The recorder nears its end or is full (R574). -/
def Dev.fullCheck (d : Dev) : Dev :=
  let n := d.evr.recs.length
  let d1 := if 61440 ≤ n ∧ ¬ d.evr.nearPosted then
      ({ d with evr := { d.evr with nearPosted := true } }).postRaw (d.mkEvent 6 0x1003 1 0x10 0 n 0 0) else d
  if 65536 ≤ n ∧ ¬ d1.evr.fullPosted then
    ({ d1 with evr := { d1.evr with fullPosted := true }, flt := { d1.flt with conds := 0x0F1F :: d1.flt.conds } }).faultCoreF 0x0F1F 0x10 3 0 false
  else d1

/-- Write one event record (R571, R573). -/
def Dev.record (d : Dev) (code src sev : Nat) (w3 : Nat := 0) (w4 : Nat := 0) (w5 : Nat := 0) (w6 : Nat := 0)
    (deferred : Bool := false) : Dev :=
  (d.evrCommit (d.recWords code src sev w3 w4 w5 w6 deferred)).fullCheck

/-- Post one event entry (R99). -/
def Dev.post (d : Dev) (cls code sev src target : Nat) (w4 : Nat := 0) (w5 : Nat := 0) (w6 : Nat := 0) : Dev :=
  (d.postRaw (d.mkEvent cls code sev src target w4 w5 w6)).fullCheck

/-- One record and one event entry of the same code, severity and payload. -/
def Dev.recordPost (d : Dev) (cls code sev src target : Nat) (w3 : Nat := 0) (w4 : Nat := 0) (w5 : Nat := 0) (w6 : Nat := 0) : Dev :=
  (d.record code src sev w3 w4 w5 w6).post cls code sev src target w4 w5 w6

/-- Offer an item to a queue. -/
def Dev.offer (d : Dev) (q : Nat) (i : Item) : Dev := (d.offerRaw 2 q i).fullCheck

/-- The target word of a meter (R76). -/
def tgtMix (m : Nat) : Nat := 2 ^ 28 + m

/-- The target word of a group. -/
def tgtGrp (g : Nat) : Nat := 2 * 2 ^ 28 + g

/-- The target word of a field device. -/
def tgtFdx (x : Nat) : Nat := 3 * 2 ^ 28 + x

/-! ## Taking items from queues -/

/-- The oldest item of the highest PRIO (R465), with its place. -/
def bestItem : List Item → Option (Nat × Item)
  | [] => none
  | i :: t =>
    match bestItem t with
    | none => some (0, i)
    | some (n, j) => if i.prio ≥ j.prio then some (0, i) else some (n + 1, j)

/-- The item that the consumer takes next (R465, R466); none is visible during a flush (R469). -/
def Dev.laneHead (d : Dev) (q : Nat) : Option (Nat × Item) :=
  let l := d.lane q
  if l.flushing then none
  else if laneAsync q then l.cells.head?.map (fun i => (0, i)) else bestItem l.cells

/-- Remove the item at a place of a queue's cells. -/
def Dev.laneDrop (d : Dev) (q n : Nat) : Dev :=
  let l := d.lane q
  d.setLane q { l with cells := l.cells.eraseIdx n }

/-- Entries taken from the head of a queue's chain: whole segments that empty are freed (R470). -/
def Lane.tookRing (l : Lane) (n : Nat) : Lane :=
  if l.ring.isEmpty then { l with ringHead := 0 } else { l with ringHead := (l.ringHead + n) % 256 }

/-- Refill a queue from its oldest ring entries until its quota or its entries are reached, with fuel (R472). -/
def Dev.refill : Nat → Dev → Nat → Dev
  | 0, d, _ => d
  | f + 1, d, q =>
    match (d.lane q).ring with
    | [] => d
    | i :: t =>
      if d.fits q i.cellCount then
        let l := d.lane q
        (d.setLane q (({ l with ring := t, cells := l.cells ++ [i] } : Lane).tookRing i.ringCount)).refill f q
      else d

/-- Held producers place their items, oldest first, while they fit, with fuel (R461). -/
def Dev.release : Nat → Dev → Nat → Dev
  | 0, d, _ => d
  | f + 1, d, q =>
    match (d.lane q).waits with
    | [] => d
    | i :: t =>
      let l := d.lane q
      if l.ring.isEmpty && d.fits q i.cellCount then
        (d.setLane q { l with waits := t, cells := l.cells ++ [i] }).release f q
      else if d.spills q then
        match (d.setLane q { l with waits := t }).ringPut q i with
        | some d' => d'.release f q
        | none => d
      else d

/-- The discard of R469 at the flush point. -/
def Dev.flushNow (d : Dev) (q : Nat) : Dev :=
  let l := d.lane q
  if l.flushing then d
  else
    let n := l.cells.length + l.ring.length
    (d.setLane q { l with cells := [], ring := [], ringHead := 0, flushing := true
                          freeing := l.used - l.lostCells, freeingSegs := l.segs }).bump F.LNE_FLUSHED 0 n

/-! ## Completions (R72 to R74, R80, R81) -/

/-- The MIX that a descriptor names, if its KIND is 1. -/
def descMix (x : Desc) : Option Nat := if x.word 2 / 2 ^ 28 = 1 then some (x.word 2 % 2 ^ 28) else none

/-- FLAGS bit (R77). -/
def descFlag (x : Desc) (b : Nat) : Bool := bitAt (x.word 0) (8 + b)

/-- The opcode of a descriptor. -/
def descOp (x : Desc) : Nat := x.word 0 % 256

/-- The completion of a descriptor (R80). -/
def descCmpl (x : Desc) (st sub : Nat) (res : List Nat) : Cmpl :=
  { tagSeq := x.word 0 / 65536 + (x.word 1 % 65536) * 65536, st := st, op := descOp x, sub := sub % 65536, target := x.word 2
    res := (res ++ [0, 0, 0, 0]).take 4, irq := descFlag x 0 }

/-- Split finished descriptors off, holding back one whose MIX an earlier unfinished descriptor names (R81). -/
def settleHeld : List Nat → List Held → List Held × List Held
  | _, [] => ([], [])
  | busy, h :: t =>
    let m := descMix h.desc
    let blocked := match m with | some k => busy.contains k | none => false
    if h.result.isSome && !blocked then
      let r := settleHeld busy t
      (r.1, h :: r.2)
    else
      let r := settleHeld (match m with | some k => k :: busy | none => busy) t
      (h :: r.1, r.2)

/-- The completions that a list of finished descriptors posts (QUIET drops an OK, R77), and how many are discarded and counted. -/
def postings (hs : List Held) : List Cmpl × Nat :=
  (hs.filterMap (fun h => match h.result with
      | some c => if h.mute ≠ 0 then none else if descFlag h.desc 2 && c.st = 0 then none else some c
      | none => none),
   (hs.filter (fun h => h.mute = 1)).length)

/-- Entries of a pair's completion ring (R61). -/
def Dev.cmpSize (d : Dev) (p : Nat) : Nat := 2 ^ d.rd F.RNG_PAIR_CFG_CMP_LOG2 p

/-- The state of a ring pair's function. -/
def Dev.pairState (d : Dev) (p : Nat) : FnState := (d.fnOf (64 + p)).st

/-- The completion ring is full (R72). -/
def Dev.cmpFull (d : Dev) (p : Nat) : Bool :=
  decide (((d.pair p).cmpTail + 1) % d.cmpSize p = (d.pair p).cmpHead)

/-- The 1 s of R96 runs from the first instant at which a stopping pair has a completion waiting on a full ring. -/
def Dev.watchFull (d : Dev) (p : Nat) : Dev :=
  if decide (d.pairState p = .stopping) && d.cmpFull p && !(d.pair p).waiting.isEmpty then
    d.updPair p (fun x => { x with fullSince := some (x.fullSince.getD d.tim.mono) })
  else d.updPair p (fun x => { x with fullSince := none })

/-- Completions join the waiting list of their pair. -/
def Dev.settle (d : Dev) (p : Nat) : Dev :=
  let x := d.pair p
  let r := settleHeld [] x.held
  let c := postings r.2
  ((d.setPair p { x with held := r.1, waiting := x.waiting ++ c.1 }).bump F.RNG_PAIR_CNT_CMP_DROP p c.2).watchFull p

/-- Complete a descriptor the part holds. -/
def Dev.complete (d : Dev) (p id st sub : Nat) (res : List Nat := []) : Dev :=
  (d.updPair p (fun x => { x with held := x.held.map (fun h =>
    if h.id = id ∧ h.result = none then { h with result := some (descCmpl h.desc st sub res), started := true } else h) })).settle p

/-- Complete every descriptor of every pair that a test picks. -/
def Dev.completeAll (d : Dev) (pick : Nat → Held → Option (Nat × Nat)) : Dev :=
  d.rng.pairs.keys.foldl (fun (d : Dev) p =>
    (d.updPair p (fun x => { x with held := x.held.map (fun h =>
      if h.result = none then
        match pick p h with
        | some (st, sub) => { h with result := some (descCmpl h.desc st sub []), started := true }
        | none => h
      else h) })).settle p) d

/-- Mark a descriptor as started. -/
def Dev.markStarted (d : Dev) (p id : Nat) : Dev :=
  d.updPair p (fun x => { x with held := x.held.map (fun h => if h.id = id then { h with started := true } else h) })

/-- A descriptor the part holds, by its number. -/
def Dev.heldOf (d : Dev) (p id : Nat) : Option Held := (d.pair p).held.find? (fun h => h.id = id && h.result = none)

/-- A step of the start, 0 for a to 8 for i, has ended (R624): GLB_STEP_TIME takes its ms from the start of step a. -/
def Dev.stepDone (d : Dev) (i : Nat) : Dev :=
  if bitAt (d.rd F.GLB_BOOT_STS_DONE) i then d
  else (d.wr F.GLB_STEP_TIME_MS i (min 4294967295 ((d.tim.mono - d.glb.stepAStart) / 500000))).wr F.GLB_BOOT_STS_DONE 0
    (d.rd F.GLB_BOOT_STS_DONE ||| 2 ^ i)

/-! ## Validity of device time (R413, R414) -/

/-- Seconds of holdover (R436). -/
def Dev.holdS (d : Dev) : Nat :=
  match d.tim.holdSince with
  | some m => min (d.tim.holdOfs + (d.tim.mono - m) / 500000000) (2 ^ 25 - 1)
  | none => 0

/-- The first condition of R413. -/
def Dev.noTime (d : Dev) : Bool := !d.tim.rtcValid && !d.tim.ptpAvail && !d.tim.flAvail

/-- Holdover beyond 24 h. -/
def Dev.hold24 (d : Dev) : Bool := d.tim.holdSince.isSome && decide (86400 < d.holdS)

/-- Device time is valid (R413). -/
def Dev.timeValid (d : Dev) : Bool := !d.noTime && !d.hold24 && decide (d.tar.stepPend = 0)

/-- The word of TAR_TIME_STS (R423). -/
def Dev.timeSts (d : Dev) : Nat :=
  2 ^ 31 * b2n d.timeValid + 2 ^ 30 * b2n d.tim.rtcValid + 2 ^ 29 * b2n d.tim.ptpAvail + 2 ^ 28 * b2n d.tim.flAvail
    + 2 ^ 27 * b2n d.tim.holdSince.isSome + 2 ^ 26 * b2n d.hold24 + 2 ^ 25 * b2n (decide (d.tar.stepPend ≠ 0)) + d.holdS

/-- The families that a bow serves: CFG, LOG, PAIR, DIAG (R44). -/
def bowServes (op : Nat) : Bool := op / 16 = 0 || op / 16 = 9 || op / 16 = 10 || op / 16 = 11

end Sys2Proof.Machine
end

