-- ==== Sys2Proof/Machine/Operands.lean ====
section
/-! DEFINITION. Sys2Proof/Machine/Operands.lean: what a descriptor says (R75 to R79, R82, R104): opcode, target, host buffer,
the checks before an opcode acts, and the fields that clamp. -/

namespace Sys2Proof.Machine

/-- What a target word names (R76). -/
inductive Target where
  | device
  | meter (mix : Nat)
  | group (grp : Nat)
  | fieldDev (fdx : Nat)
  | func (cls inst : Nat)
  deriving DecidableEq, Repr

/-- How many functions of a class the grade has (R4, R76). -/
def funcCount (g : Grade) (cls : Nat) : Nat :=
  match g, cls with
  | .x, 1 => 2 | .x, 2 => 4 | .x, 3 => 4 | .x, 4 => 4 | .x, 5 => 4 | .x, 6 => 1
  | .f, 1 => 1 | .f, 2 => 2 | .f, 3 => 2 | .f, 4 => 2 | .f, 5 => 2
  | _, _ => 0

/-- The function index of a class and instance (R630). -/
def funcFix (cls inst : Nat) : Nat :=
  match cls with
  | 1 => inst | 2 => 2 + inst | 3 => 6 + inst | 4 => 10 + inst | 5 => 14 + inst | _ => 18

/-- The target of a word 2, if it lies in the grade's range (R15, R76). -/
def targetOf (g : Grade) (w : Nat) : Option Target :=
  let idx := w % 2 ^ 20
  let hi := bitsOf w 20 8
  match w / 2 ^ 28 with
  | 0 => if w = 0 then some .device else none
  | 1 => if hi = 0 ∧ idx ≤ mixMax g then some (.meter idx) else none
  | 2 => if hi = 0 ∧ idx ≤ 4095 then some (.group idx) else none
  | 3 => if hi = 0 ∧ idx ≤ 1023 ∧ g = .x then some (.fieldDev idx) else none
  | 4 => if idx < funcCount g hi then some (.func hi idx) else none
  | _ => none

/-- The KIND of a target. -/
def Target.kind : Target → Nat
  | .device => 0 | .meter _ => 1 | .group _ => 2 | .fieldDev _ => 3 | .func _ _ => 4

/-- The opcode table of R82: accepted KINDs, and whether the body names a host buffer. -/
def opInfo (op : Nat) : Option (List Nat × Bool) :=
  match op with
  | 0x00 => some ([0, 4], false) | 0x01 => some ([0, 4], false) | 0x02 => some ([0], false)
  | 0x10 => some ([2], true) | 0x11 => some ([2], true) | 0x12 => some ([2], false)
  | 0x20 => some ([1], true) | 0x21 => some ([1, 2], true)
  | 0x30 => some ([1], true) | 0x31 => some ([1], true) | 0x32 => some ([1], false)
  | 0x40 => some ([2], true) | 0x41 => some ([2], false) | 0x42 => some ([2], true) | 0x43 => some ([0], false)
  | 0x50 => some ([2], true) | 0x51 => some ([2], false) | 0x52 => some ([1, 2], false) | 0x53 => some ([2], false)
  | 0x58 => some ([0], true) | 0x59 => some ([0], false)
  | 0x60 => some ([1, 2], false) | 0x61 => some ([1, 2], false) | 0x62 => some ([1, 2], false) | 0x63 => some ([0], true)
  | 0x70 => some ([1], true) | 0x71 => some ([0], false) | 0x72 => some ([1], false) | 0x73 => some ([1], false)
  | 0x80 => some ([4], true) | 0x81 => some ([0], true)
  | 0x90 => some ([0], true) | 0x91 => some ([0], false) | 0x92 => some ([0], true)
  | 0xA0 => some ([0], false) | 0xA1 => some ([0], false) | 0xA2 => some ([0], false)
  | 0xB0 => some ([0], false) | 0xB1 => some ([4], true) | 0xB2 => some ([4], false)
  | _ => none

/-- The grade knows the opcode (R79): the F grade has no pair unit, so no PAIR family. -/
def opKnown (g : Grade) (op : Nat) : Bool := (opInfo op).isSome && !(g = .f && op / 16 = 10)

/-- The effective length of a host buffer (R78). -/
def bufLen (x : Desc) : Nat := (clampNat 64 1048576 (x.word 5)) / 64 * 64

/-- The address of a host buffer. -/
def bufAddr (x : Desc) : Nat := x.quad 3

/-- The descriptors that a recovery boot serves (R600): FW_WRITE, FW_ACTIVATE, LOG_READ, FAULT_HIST, PAIR_STATUS, DIAG_ECHO, ATTEST. -/
def recoveryServes (op : Nat) : Bool :=
  op = 0x58 || op = 0x59 || op = 0x90 || op = 0x92 || op = 0xA0 || op = 0xB0 || op = 0x63

/-- Status and sub-status with which a descriptor is refused before its opcode acts (R44, R76, R78, R79, R565). -/
def Dev.refusal (d : Dev) (x : Desc) : Option (Nat × Nat) :=
  match opInfo (descOp x) with
  | none => some (1, 0)
  | some (kinds, hbuf) =>
    if !opKnown d.grade (descOp x) then some (1, 0)
    else if d.upd.recovery && !recoveryServes (descOp x) then some (7, 0)
    else if (d.isBow || d.isSafe) && !bowServes (descOp x) then some (6, 0)
    else if d.isSafe && (descOp x = 0xA1 || descOp x = 0xA2) then some (8, 0)
    else match targetOf d.grade (x.word 2) with
      | none => some (2, 0)
      | some t =>
        if !kinds.contains t.kind then some (2, 0)
        else if hbuf && !descFlag x 3 then some (4, 1)
        else if hbuf && x.word 3 % 64 ≠ 0 then some (4, 12)
        else none

/-- The first held descriptor of an opcode that may start: FENCE waits for every earlier one (R77). -/
def startableIn (p : Desc → Bool) : Bool → List Held → Option Held
  | _, [] => none
  | first, h :: t =>
    if p h.desc && !h.started && h.result.isNone && (first || !descFlag h.desc 1) then some h else startableIn p false t

/-- The next descriptor of a pair that a command with this opcode takes. -/
def Dev.startable (d : Dev) (p : Nat) (pick : Desc → Bool) : Option Held := startableIn pick true (d.pair p).held

/-- Run an opcode on the descriptor it takes, after the checks; without such a descriptor nothing happens. -/
def Dev.onDesc (d : Dev) (p op : Nat) (f : Dev → Held → Dev) : Dev :=
  if !d.live then d
  else match d.startable p (fun x => descOp x = op) with
    | none => d
    | some h =>
      match d.refusal h.desc with
      | some (st, sub) => d.complete p h.id st sub
      | none => f d h

/-- Run an opcode that reads its host buffer: a read that fails completes with HOST_ABORT (R88). -/
def Dev.onDescRead (d : Dev) (p op : Nat) (r : HostRead) (f : Dev → Held → List Byte → Dev) : Dev :=
  d.onDesc p op (fun d h =>
    match r with
    | .abort e => (d.emit (.aer e)).complete p h.id 5 0
    | .data bs => f d h (padTo (bufLen h.desc) (bs.take (bufLen h.desc))))

/-- Write a result to a descriptor's host buffer (R59, R78). -/
def Dev.writeBuf (d : Dev) (x : Desc) (bs : List Byte) : Dev := d.emit (.hostWrite (bufAddr x) (bs.take (bufLen x)))

/-- The MIX of a descriptor's target. -/
def tMix (x : Desc) : Nat := x.word 2 % 2 ^ 20

/-- The GRP of a descriptor's target. -/
def tGrp (x : Desc) : Nat := x.word 2 % 2 ^ 12

/-- The KIND of a descriptor's target. -/
def tKind (x : Desc) : Nat := x.word 2 / 2 ^ 28

/-- N_RETRY of a meter control word (R104). -/
def nRetry (x : Desc) : Nat := min 7 (x.word 6 % 256)

/-- SEL_COUNT of a meter control word (R104). -/
def selCount (x : Desc) : Nat := clampNat 1 4 (bitsOf (x.word 6) 8 8)

/-- The deadline of a READ or WRITE, ms; 0 for the policy's limit (R104). -/
def deadlineMs (x : Desc) : Nat := min 600000 (x.word 7)

/-- A record count that clamps to 1 to 4,096 (R104). -/
def count4096 (w : Nat) : Nat := clampNat 1 4096 w

/-- A minute of day that clamps to 1,439 (R104). -/
def minute1439 (w : Nat) : Nat := min 1439 w

end Sys2Proof.Machine
end

