-- ==== Sys2Proof/Machine/MediaOps.lean ====
section
/-! DEFINITION. Sys2Proof/Machine/MediaOps.lean: NAND placement and what NAND holds for a restore (R39, R501 to R511). -/

namespace Sys2Proof.Machine

/-- What an item adds to the state that a restore finds (R39, R132). -/
def Dev.persist (d : Dev) (m : MediaData) : Dev :=
  match m with
  | .ctxJournal chg =>
    { d with nand := { d.nand with
        ctx := chg.foldl (fun t c => match c.2 with | some x => t.put c.1 x | none => t.del c.1) d.nand.ctx
        snapSince := if d.ftl.snapRunning then chg.foldl (fun t c => t.put c.1 c.2) d.nand.snapSince else d.nand.snapSince } }
  | .snapshot cs _ => { d with nand := { d.nand with snapNew := cs.foldl (fun t c => t.put c.1 c.2) d.nand.snapNew } }
  | .billSnapshot es _ =>
    { d with nand := { d.nand with
        ext := es.foldl (fun t e =>
          if (match t.find e.1 with | some o => decide (e.2.jseq < o.jseq) | none => false) then t else t.put e.1 e.2) d.nand.ext } }
  | .bill es _ =>
    { d with nand := { d.nand with
        ext := es.foldl (fun t e => match e.mix, e.ext with | some k, some x => t.put k x | _, _ => t) d.nand.ext
        jseq := es.foldl (fun n e => max n e.seq) d.nand.jseq
        grps := if d.glb.stepG then d.tar.grps else d.nand.grps } }
  | .closedRec k e => { d with nand := { d.nand with closedRec := d.nand.closedRec.put k e } }
  | .tables g t _ => { d with nand := { d.nand with grps := d.nand.grps.put g t } }
  | .copies _ c => { d with nand := { d.nand with cop := c } }
  | _ => d

/-- The record of an erase unit: unlisted units are free and never written; the first ones are the legal reserve (R501, R502). -/
def Ftl.eu (f : Ftl) (i : Nat) : Eu :=
  f.eus.getD i (if i < f.legal then { st := 5, channel := i % 4, lun := i / 4 } else { channel := i % 4, lun := i / 4 })

/-- Set the record of an erase unit. -/
def Ftl.setEu (f : Ftl) (i : Nat) (e : Eu) : Ftl := { f with eus := f.eus.put i e }

/-- A stream is written in SLC mode first (R504, R507): all but the native copies that folds make. -/
def Ftl.slcCap (f : Ftl) : Nat := max 1 (f.euLu / max 1 f.bits)

/-- An open erase unit of a stream with room. -/
def Ftl.openEu (f : Ftl) (stream : Nat) : Option Nat :=
  (f.eus.find? (fun e => e.2.stream = stream && e.2.lus.length < f.slcCap
    && (if stream = 0 then e.2.st = 5 && !e.2.lus.isEmpty else e.2.st = 1))).map (·.1)

/-- Free erase units among the user units: a listed one of the lowest PE, or one never written (R511). -/
def Ftl.freeEu (f : Ftl) (usable : Nat → Bool) (legal : Bool) : Option Nat :=
  let listed := f.eus.filter (fun e => (if legal then e.2.st = 5 && e.2.lus.isEmpty else e.2.st = 0) && usable e.1)
  let fresh := (List.range f.total).find? (fun i => (f.eus.find i).isNone && decide (i < f.legal) = legal && usable i)
  match fresh with
  | some i => some i
  | none =>
    (listed.foldl (fun (b : Option (Nat × Eu)) e => match b with
      | none => some e
      | some x => if e.2.pe < x.2.pe then some e else some x) none).map (·.1)

/-- How many user erase units are free. -/
def Ftl.freeCount (f : Ftl) : Nat :=
  (f.total - f.legal - (f.eus.filter (fun e => f.legal ≤ e.1)).length) + (f.eus.filter (fun e => e.2.st = 0)).length - f.spareLeft

/-- LUs that hold valid data. -/
def Ftl.used (f : Ftl) : Nat := f.map.length

/-- The limit S of the SLC cache (R507). -/
def Ftl.slcLimit (f : Ftl) : Nat :=
  if 100 * f.used ≥ 95 * f.userLu then f.userLu * 5 / 1000 else (114 * f.userLu - 115 * f.used) / 950

/-- A channel takes writes (R523). -/
def Dev.chanOn (d : Dev) (c : Nat) : Bool := d.isOn (10 + c)

/-- Media work goes on: no self-test loop holds a channel (R86; an item's LUs lie on every channel, DEDUCED). -/
def Dev.mediaRuns (d : Dev) : Bool := d.live && !(List.range 4).any (fun n => d.inLoop (10 + n))

/-- An erase unit lies on a channel that is ON. -/
def Dev.euUsable (d : Dev) (i : Nat) : Bool := d.chanOn (d.ftl.eu i).channel

/-- The erase unit in which the next LU of a stream goes. -/
def Dev.pickEu (d : Dev) (stream : Nat) : Option Nat :=
  match d.ftl.openEu stream with
  | some i => if d.euUsable i then some i else d.ftl.freeEu d.euUsable (stream = 0)
  | none => d.ftl.freeEu d.euUsable (stream = 0)

/-- The second copy of a stream-0 LU: a legal-reserve unit on another channel, or on another LUN when one channel is ON (R504). -/
def Dev.pickSecond (d : Dev) (first : Nat) : Option Nat :=
  let one := ((List.range 4).filter d.chanOn).length ≤ 1
  let ok := fun i => i ≠ first && d.euUsable i && (if one then (d.ftl.eu i).lun ≠ (d.ftl.eu first).lun else (d.ftl.eu i).channel ≠ (d.ftl.eu first).channel)
  match d.ftl.eus.find? (fun e => e.2.st = 5 && !e.2.lus.isEmpty && e.2.lus.length < d.ftl.slcCap && ok e.1) with
  | some e => some e.1
  | none => d.ftl.freeEu ok true

/-- An erase unit takes an LU. -/
def Dev.euTake (d : Dev) (e stream lu cap : Nat) : Dev :=
  let u := d.ftl.eu e
  let u' : Eu := { u with
    st := if u.st = 5 then 5 else if cap ≤ u.lus.length + 1 then (if stream = 7 then 2 else 3) else 1
    stream := stream, lus := u.lus ++ [lu]
    hour := if u.lus.isEmpty then d.nowNs / 3600000000000 % 65536 else u.hour
    temp := if u.lus.isEmpty then d.glb.temp else u.temp }
  { d with ftl := d.ftl.setEu e u' }

/-- Open a new LU for an item (R501, R504). -/
def Dev.placeNew (d : Dev) (stream bytes item start : Nat) : Option Dev :=
  match d.pickEu stream with
  | none => none
  | some e =>
    let lu := d.ftl.nextLu
    let d1 := d.euTake e stream lu d.ftl.slcCap
    let e2 := if stream = 0 then d1.pickSecond e else none
    let d2 := match e2 with | some x => d1.euTake x stream lu d.ftl.slcCap | none => d1
    let f := d2.ftl
    some (({ d2 with ftl := { f with
      map := f.map.put lu { stream := stream, eu := e, eu2 := e2, item := item, start := start }
      nextLu := lu + 1
      slc := if stream = 0 ∨ stream = 6 then f.slc else f.slc ++ [lu]
      billLu := if stream = 0 then f.billLu + 1 else f.billLu
      heads := f.heads.put stream (lu, bytes) } } : Dev).emit (.nandProg stream lu))

/-- Program an item: into its stream's open LU while it has room, or into a new LU (R501, R504). -/
def Dev.placeItem (d : Dev) (stream bytes item start : Nat) : Option Dev :=
  match d.ftl.heads.find stream with
  | some (lu, n) =>
    if n + bytes ≤ 4096 then
      some (({ d with ftl := { d.ftl with heads := d.ftl.heads.put stream (lu, n + bytes) } } : Dev).emit (.nandProg stream lu))
    else d.placeNew stream bytes item start
  | none => d.placeNew stream bytes item start

end Sys2Proof.Machine
end

