-- ==== Sys2Proof/Machine/PortRegs.lean ====
section
/-! DEFINITION. Sys2Proof/Machine/PortRegs.lean: line and radio ports beside their registers, line-port settings as an exchange takes them
(R236), and the transceiver scripts (R245, R246). -/

namespace Sys2Proof.Machine

/-! ## Line ports -/

/-- A line port beside its registers. -/
def Dev.lp (d : Dev) (p : Nat) : Lcp := d.lcp.getD p {}

/-- Set a line port. -/
def Dev.setLp (d : Dev) (p : Nat) (l : Lcp) : Dev := { d with lcp := if l = {} then d.lcp.del p else d.lcp.put p l }

/-- Change a line port. -/
def Dev.updLp (d : Dev) (p : Nat) (f : Lcp → Lcp) : Dev := d.setLp p (f (d.lp p))

/-- CLK_FAB cycles of microseconds. -/
def usC (n : Nat) : Nat := n * 500

/-- The registers whose writes take effect at a line port's next exchange (R236), by one field of each. -/
def exRegs : List F := [F.LCP_MAC_CFG_HP_SLOTS, F.LCP_POLL_CFG_PW_ON, F.LCP_MESH_CFG_CTO, F.LCP_PH_CFG_TOL]

/-- A field of those registers as the port's latest exchange took it (R236); before the first exchange, as it stands. -/
def Dev.lcf (d : Dev) (f : F) (p : Nat) : Nat := match (d.lp p).cfg.find f.off with | some w => f.get w | none => d.rd f p

/-- An exchange takes the registers of R236 as they stand. -/
def Dev.latch (d : Dev) (p : Nat) : Dev := d.updLp p (fun l => { l with cfg := exRegs.map (fun f => (f.off, d.word (f.at p))) })

/-! ## Radio ports -/

/-- A radio port beside its registers. -/
def Dev.rp (d : Dev) (n : Nat) : Rad := d.rad.getD n {}

/-- Set a radio port. -/
def Dev.setRp (d : Dev) (n : Nat) (r : Rad) : Dev := { d with rad := if r = {} then d.rad.del n else d.rad.put n r }

/-- Change a radio port. -/
def Dev.updRp (d : Dev) (n : Nat) (f : Rad → Rad) : Dev := d.setRp n (f (d.rp n))

/-! ## Transceiver scripts (R245, R246) -/

/-- Word `i` of a port's script memory. -/
def Dev.scriptWord (d : Dev) (n i : Nat) : Nat := d.word (0x60200 + 0x4000 * n + 4 * i)

/-- The frequency word (R245): to the nearest, saturating. -/
def Dev.freqWord (d : Dev) (n : Nat) : Nat :=
  let s := d.rd F.RAD_XCVR_FSTEP_FSTEP n
  min 0xFFFFFF ((2 * d.rd F.RAD_CHAN_FREQ_KHZ n * 1000000 + s) / (2 * s))

/-- The words of a script from a first word to its END, with fuel: a script that meets none ends with the memory. -/
def Dev.scriptFrom (d : Dev) (n : Nat) : Nat → Nat → List Nat
  | 0, _ => []
  | f + 1, i =>
    let w := d.scriptWord n i
    let op := w / 2 ^ 28
    if 128 ≤ i ∨ op = 0 ∨ 4 ≤ op then [] else w :: d.scriptFrom n f (i + 1)

/-- The bytes of one script word's chip-select frame; none for a WAIT. -/
def Dev.scriptBytes (d : Dev) (n w : Nat) : List Byte :=
  match w / 2 ^ 28 with
  | 1 => (beBytes 3 (w % 2 ^ 24)).take (clampNat 1 3 (bitsOf w 24 4))
  | 2 => beBytes 1 (w % 256) ++ beBytes 3 (d.freqWord n)
  | _ => []

/-- The duration of a script word in tenths of a µs (R246). -/
def Dev.scriptTime (d : Dev) (n w : Nat) : Nat :=
  if w / 2 ^ 28 = 3 then 10 * (w % 2 ^ 24) else 10 + 8 * (d.scriptBytes n w).length

/-- A script of a port: 0 INIT, 1 RX, 2 TX, 3 SLEEP. -/
def Dev.script (d : Dev) (n k : Nat) : List Nat :=
  let first := match k with
    | 0 => d.rd F.RAD_XCVR_CFG_INIT n | 1 => d.rd F.RAD_XCVR_CFG_RX n | 2 => d.rd F.RAD_XCVR_CFG_TX n | _ => d.rd F.RAD_XCVR_CFG_SLEEP n
  d.scriptFrom n 129 first

/-- A script's duration, µs: a fraction counts as a whole one. -/
def Dev.scriptUs (d : Dev) (n k : Nat) : Nat := ceilDiv (sumNat ((d.script n k).map (d.scriptTime n))) 10

/-- A script is played. -/
def Dev.play (d : Dev) (n k : Nat) : Dev :=
  (d.script n k).foldl (fun (y : Dev) w => let b := d.scriptBytes n w; if b.isEmpty then y else y.emit (.spi n b)) d

end Sys2Proof.Machine
end

