-- ==== Sys2Proof/Machine/Faults.lean ====
section
/-! DEFINITION. Sys2Proof/Machine/Faults.lean: the Fault collector's actions (R556 to R568), the commit (R42), the safe state,
and the frames that the pair unit sends on the way (R536, R564). -/

namespace Sys2Proof.Machine

/-! ## The pair link's sender (R536 to R538) -/

/-- Both devices of the pair can talk: at least one lane is in service (R535). -/
def Dev.pairUp (d : Dev) : Bool := d.par.lanes.any id

/-- Bytes that a record of a delta counts: the sizes of R105, R108, R142, R295 and R402 where they give one, else 32 (DESIGN CHOICE). -/
def deltaLen : DeltaRec → Nat
  | .ctx _ (some _) => 256
  | .ext _ _ => 128
  | .closed _ _ => 128
  | .imported _ _ => 128
  | .policy _ _ _ => 128
  | .tables _ _ => 2208
  | .ledger _ _ n => n
  | .reg _ _ => 8
  | .image _ (some s) => 64 + s.bytes.length
  | _ => 32

/-- Bytes of a frame's body, where the spec lays its parts out. -/
def pairLen : PairBody → Nat
  | .delta rs => min 4096 (sumNat (rs.map deltaLen))
  | .catchup rs => min 4096 (sumNat (rs.map deltaLen))
  | .fin _ => 36
  | .jmir es => 16 * es.length
  | .jack _ => 8
  | .image _ _ _ bs => 8 + bs.length
  | .cloneRoot w => w.length
  | .cloneNonce n => n.length
  | _ => 16

/-- Frames that bypass credits (R538). -/
def pairBypass : PairBody → Bool
  | .heartbeat .. | .jmir _ | .jack _ | .ack | .swap | .yield => true
  | _ => false

/-- Cells that a frame needs in the receiver's queue 15 (R538). -/
def pairCells (b : PairBody) : Nat := ceilDiv (pairLen b + 32) 120

/-- A frame leaves: SEQ counts (R536). -/
def Dev.pairEmit (d : Dev) (cycle : Nat) (b : PairBody) : Dev :=
  ({ d with par := { d.par with txCount := d.par.txCount + 1 } } : Dev).emit (.pairTx cycle d.par.epoch d.par.txCount b)

/-- Send a frame to the partner: at once where it bypasses credits or has them, else it waits in queue 16 (R538). -/
def Dev.pairSend (d : Dev) (cycle : Nat) (b : PairBody) : Dev :=
  if !d.pairUp then d
  else if pairBypass b then d.pairEmit cycle b
  else if (d.lane 16).cells.isEmpty && pairCells b ≤ d.par.credit then
    ({ d with par := { d.par with credit := d.par.credit - pairCells b } } : Dev).pairEmit cycle b
  else d.offer 16 ⟨0, pairLen b + 32, .pairOut cycle b⟩

/-- CLAIM_OUT goes low (R531). -/
def Dev.dropClaim (d : Dev) : Dev := { d with par := { d.par with claim := false, claimExp := none } }

/-- The transmit gate of R171 and R243: the own claim, and no peer claim on the unfiltered CLAIM_IN. -/
def Dev.gateOpen (d : Dev) : Bool :=
  match d.grade with
  | .f => !d.isSafe && !d.upd.recovery
  | .x => d.par.claim && !d.par.claimInRaw && !d.isSafe

/-! ## Freeze (R577) -/

/-- The freeze ends: the staged records are committed in order with STAGED set, then one overflow record if any was dropped. -/
def Dev.unfreeze (d : Dev) : Dev :=
  if d.evr.frozen then
    let e := d.evr
    let d1 : Dev := { d with evr := { e with frozen := false, staged := [], dropped := 0, dropFirst := (0, 0), dropLast := (0, 0) } }
    let d2 := e.staged.foldl (fun (x : Dev) w => (x.evrPush (w.set 0 (withBits (w.getD 0 0) 28 1 1))).fullCheck) d1
    if e.dropped = 0 then d2
    else d2.record 0x1001 0x10 1 e.dropped (e.dropFirst.1 + 65536 * e.dropLast.1) e.dropFirst.2 e.dropLast.2
  else d

/-! ## The commit (R42, R516, R583) -/

/-- Whole items from the head of a list, up to a number of bytes. -/
def takeBytes : Nat → List Item → List Item
  | _, [] => []
  | n, i :: t => if i.bytes ≤ n then i :: takeBytes (n - i.bytes) t else []

/-- The items of queue 14 that the commit programs: 128 KiB of its head. -/
def Dev.headItems (d : Dev) : List Item := takeBytes 131072 (d.lane 14).cells

/-- Program what the commit holds of queue 14. -/
def Dev.commitHead (d : Dev) : Dev :=
  let hs := d.headItems
  let d1 := hs.foldl (fun (x : Dev) i => match i.payload with | .media _ m => x.persist m | _ => x) d
  let l := d1.lane 14
  d1.setLane 14 { l with cells := l.cells.drop hs.length }

/-- The commit: open and closed journal halves, staged records, the head of queue 14, FTL metadata and operating time (R573). Media that
is not mounted takes nothing. -/
def Dev.commit (d : Dev) : Dev :=
  let d1 := d.unfreeze
  let d2 := if d1.ftl.state ≤ 2 then d1.persist (.bill (d1.tar.closedHalves.flatten ++ d1.tar.half) true) else d1
  let d3 : Dev := { d2 with tar := { d2.tar with half := [], closedHalves := [] } }
  let d4 := if d3.ftl.state ≤ 2 then d3.commitHead else d3
  { d4 with nand := { d4.nand with clean := true }, evr := { d4.evr with saved := d4.evr.optime } }

/-! ## The safe state (R564 to R567) -/

/-- A swap or a drill stops: its descriptor completes with ABORTED, sub-status 3 (R567). -/
def Dev.stopSwap (d : Dev) : Dev :=
  let d1 := match d.par.swap with
    | some s => (match s.desc with | some (p, i) => d.complete p i 0x16 3 | none => d)
    | none => d
  let d2 := match d1.par.drill with
    | some x => (match x.desc with | some (p, i) => d1.complete p i 0x16 3 | none => d1)
    | none => d1
  { (d2.wrb F.PAR_DRILL_STS_RUNNING 0 false) with par := { d2.par with swap := none, drill := none } }

/-- The own claim falls while a line port sends (R172): a request is a failed attempt at the MAC; blanking ends BLANK later. -/
def Dev.claimCutLine (d : Dev) (p : Nat) : Dev :=
  match (d.lp p).tx with
  | none => d
  | some t =>
    let x := (d.sch.ports.getD p {}).cur
    let polled := match x with | some y => y.polled | none => false
    let sent := !t.beacon && (match x with | some y => (match y.ask with | .cast _ _ => false | _ => true) | none => false)
    let d1 := d.updLp p (fun l => { l with
      blankUntil := some (d.tim.mono + usC (d.rd F.LCP_AFE_CFG_BLANK p)), idleFrom := max l.idleFrom d.tim.mono, quietFrom := d.tim.mono
      be := if sent && !polled then min (l.be + 1) (d.lcf F.LCP_MAC_CFG_MAX_BE p) else l.be })
    if sent then d1.bump F.LCP_MAC_FAIL p else d1

/-- The own claim falls while a radio port sends (R243): its transmit time counts, and it receives again. -/
def Dev.claimCutRad (d : Dev) (n : Nat) : Dev :=
  match (d.rp n).phase with
  | .sending => (d.updRp n (fun r => { r with txLog := (r.txFrom, d.tim.mono) :: r.txLog })).play n 1
  | _ => d

/-- Without the claim every port is silent: its transactions end, and its transmitters fall silent (R43, R171, R243). -/
def Dev.dropXfers (d0 : Dev) : Dev :=
  let d := (List.range 4).foldl Dev.claimCutRad ((List.range 2).foldl Dev.claimCutLine d0)
  { d with
    sch := { d.sch with wait := [], ports := d.sch.ports.mapVals (fun _ p => { p with cur := none, answered := [], beacon := false }) }
    lcp := d.lcp.mapVals (fun _ l => { l with phase := .idle, tx := none, bcnLeft := [], castLeft := [], ackBy := none })
    rad := d.rad.mapVals (fun _ r => { r with phase := .idle, mix := none, rdv := [], agreed := false, elem := none })
    ctx := { d.ctx with pins := [] }
    tim := { d.tim with beaconDue := [] } }

/-- Descriptors when the claim is lost (R89): started ones complete with ABORTED, sub-status 2, others with NOT_STROKE. -/
def Dev.dropDescs (d : Dev) : Dev :=
  (d.dropXfers).completeAll (fun _ h => if bowServes (descOp h.desc) then none else if h.started then some (0x16, 2) else some (6, 0))

/-- The stroke yields (R544): YIELD, then the claim goes. -/
def Dev.yieldClaim (d : Dev) : Dev :=
  let d1 := (d.pairSend d.par.cycle .yield).dropClaim
  { d1 with par := { d1.par with yielded := true } }

/-- t1 of R564: YIELD where the link is up, the claim released, transmitters silent, descriptors settled (R565). -/
def Dev.silence (d : Dev) : Dev :=
  let d1 := d.unfreeze
  let d3 := if d1.par.en && decide (d1.par.role = .stroke) && d1.par.claim then d1.yieldClaim else d1.dropClaim
  let d4 := (d3.stopSwap).dropDescs
  { d4 with tim := { d4.tim with ppsPin := [false, false, false, false] } }

/-- Entry to the safe state up to t1. -/
def Dev.enterSafe (d : Dev) : Dev :=
  if d.isSafe then d
  else
    let d1 := d.silence
    { (d1.wrb F.FLT_STS_SAFE 0 true) with flt := { d1.flt with safeAt := some d1.tim.mono, autoRst := d1.rd F.FLT_CFG_AUTO_RST } }

/-- PWR_CYCLE_REQ_N is asserted: one record 0x0F31 before it (R563). -/
def Dev.cycleReq (d : Dev) (why : Nat) : Dev :=
  if d.on F.FLT_STS_CYC_REQ then d
  else
    let d1 := d.record 0x0F31 0xF 4 why
    { (d1.wrb F.FLT_STS_CYC_REQ 0 true) with glb := { d1.glb with pwrCycleReq := true } }

/-- Fatal faults of the latest hour of operating time (R563). -/
def Dev.fatalHour (d : Dev) : List Nat := d.flt.fatals.filter (fun t => d.evr.optime < t + 3600)

/-- A reported error is classified and its class's actions are carried out (R556, R559). `own` marks a source whose own chapter
writes the record. -/
def Dev.fault (d : Dev) (code src cls detail : Nat) (own : Bool := false) : Dev :=
  let wasSafe := d.isSafe
  let d1 := if cls = 4 ∧ d.evr.frozen then d.unfreeze else d
  let n := d1.freeCtr
  let d2 := d1.faultCoreF code src cls detail (cls = 4 && !wasSafe)
  let d3 := if cls = 4 then d2.enterSafe else d2
  let k := (code, src, detail)
  let due := match d3.recordedAt k with | none => true | some t => decide (t + 3600 ≤ d3.evr.optime)
  let d4 := if own || cls ≤ 1 || !(cls = 4 || due) then d3
    else (d3.record code src cls detail (Config.sourceData n 4).toNat (Config.sourceData n 5).toNat (Config.sourceData n 6).toNat).noteRecord k
  if cls = 4 then
    let d5 : Dev := { d4 with flt := { d4.flt with fatals := d4.evr.optime :: d4.fatalHour } }
    let d6 := if wasSafe then d5 else d5.commit
    if d6.rd F.FLT_CFG_CYC_LIMIT ≤ d6.fatalHour.length then d6.cycleReq 1 else d6
  else d4

/-- The block code of a function (R51, R630). -/
def fixBlock (fix : Nat) : Nat :=
  if fix ≤ 1 then 5 else if fix ≤ 5 then 6 else if fix ≤ 9 then 7 else if fix ≤ 13 then 0xC else if fix ≤ 17 then 9
  else if fix = 18 then 0xE else if fix ≤ 42 then 9 else 1

/-- A function goes to FAILED and reports it (R556, R558, R631). -/
def Dev.failFn (d : Dev) (fix : Nat) : Dev :=
  let d1 := d.setFn fix { st := .failed }
  if 10 ≤ fix ∧ fix ≤ 13 then d1 else d1.fault 0x0F1E (fixBlock fix) 2 fix

/-- Degraded conditions that still hold (R560): media, check value, root after a tamper, full recorder, temperature, reserve. -/
def Dev.degradedHolds (d : Dev) : Bool :=
  decide (d.ftl.state = 2) || (d.ftl.state = 3 && d.ftl.notMounted) || d.ftl.resShort || d.ftl.commitSlow
    || (d.live && !d.tar.checkOk)
    || (d.on F.SEC_STS_TAMPER_LATCH && !d.on F.SEC_STS_ROOT_VALID)
    || decide (65536 ≤ d.evr.recs.length) || decide (125 < d.glb.temp)
    || d.on F.LCP_STS_DRV_OPEN 0 || d.on F.LCP_STS_DRV_OPEN 1

end Sys2Proof.Machine
end

