-- ==== Sys2Proof/Machine/CtxOps.lean ====
section
/-! DEFINITION. Sys2Proof/Machine/CtxOps.lean: the context table, its images, the cache, the lookup table (R105 to R132). -/

namespace Sys2Proof.Machine

/-! ## The image of a context (R105) -/

/-- The fields of a context before CHAIN_HEAD, by rising offset: bytes and value. -/
def Ctx.head (m : Nat) (c : Ctx) : List (Nat × Nat) :=
  [(8, c.addr), (4, m % 2 ^ 20 + c.kind % 2 * 2 ^ 20 + c.medium % 16 * 2 ^ 24 + c.st % 16 * 2 ^ 28), (2, c.grp), (2, c.owner),
   (2, c.short), (1, c.attach), (1, c.hops), (4, c.admitTime), (4, c.lastRx), (4, c.lastTx),
   (4, c.rxCounter), (4, c.txCounter), (1, c.suite), (1, c.keyGen), (1, b2n c.shadow), (1, 0), (2, c.authFail), (2, c.authRun),
   (8, c.sysTitle), (8, 0),
   (4, c.lastIntEnd), (4, c.nextDue), (1, c.heat), (1, c.retries), (1, c.failHeats), (1, c.poll), (4, 0),
   (8, c.nextSlot), (2, c.slotPeriod), (1, c.wake), (1, c.missRun), (2, c.guard), (1, c.rsync), (1, 0),
   (4, unsigned 32 c.clockOfs), (1, c.timeQual), (1, c.phase), (1, c.linkCost), (1, unsigned 8 c.snr),
   (4, c.imgFirst), (3, c.imgMiss), (1, c.imgState), (2, c.alarmBits), (2, c.alarmMerged), (4, c.lastAlarm),
   (2, c.partnerLost), (1, c.meterTamper), (1, 0), (4, c.partnerLostT)]

/-- The fields of a context after CHAIN_HEAD. -/
def Ctx.tail (c : Ctx) : List (Nat × Nat) :=
  [(4, c.logSeq), (1, c.intLen), (1, c.vee), (2, c.estCount), (8, c.lastReg), (4, unsigned 32 c.suspect), (2, c.balNode), (10, 0),
   (4, c.logTail), (4, c.logNand), (4, c.framesRx), (4, c.framesTx), (44, 0), (4, c.lineCycle)]

/-- Bytes of fields in turn, little-endian. -/
def layBytes (fs : List (Nat × Nat)) : List Byte := fs.flatMap (fun f => leBytes f.1 f.2)

/-- The 256 B image of a context (R105). -/
def Ctx.image (m : Nat) (c : Ctx) : List Byte :=
  layBytes (c.head m) ++ (padTo 32 c.chainHead).take 32 ++ layBytes c.tail

/-- A little-endian field of an image. -/
def getLe (bs : List Byte) (off n : Nat) : Nat := leNat (slice bs off n)

/-- The context that a 256 B image spells: the reading side of R105. -/
def Ctx.ofImage (b : List Byte) : Ctx :=
  let id := getLe b 0x08 4
  { addr := getLe b 0 8, kind := bitsOf id 20 1, medium := bitsOf id 24 4, st := bitsOf id 28 4, grp := getLe b 0x0C 2
    owner := getLe b 0x0E 2, short := getLe b 0x10 2, attach := getLe b 0x12 1, hops := getLe b 0x13 1
    admitTime := getLe b 0x14 4, lastRx := getLe b 0x18 4, lastTx := getLe b 0x1C 4, rxCounter := getLe b 0x20 4
    txCounter := getLe b 0x24 4, suite := getLe b 0x28 1, keyGen := getLe b 0x29 1, shadow := bitAt (getLe b 0x2A 1) 0
    authFail := getLe b 0x2C 2, authRun := getLe b 0x2E 2, sysTitle := getLe b 0x30 8, lastIntEnd := getLe b 0x40 4
    nextDue := getLe b 0x44 4, heat := getLe b 0x48 1, retries := getLe b 0x49 1, failHeats := getLe b 0x4A 1
    poll := getLe b 0x4B 1, nextSlot := getLe b 0x50 8, slotPeriod := getLe b 0x58 2, wake := getLe b 0x5A 1
    missRun := getLe b 0x5B 1, guard := getLe b 0x5C 2, rsync := getLe b 0x5E 1, clockOfs := signed 32 (getLe b 0x60 4)
    timeQual := getLe b 0x64 1, phase := getLe b 0x65 1, linkCost := getLe b 0x66 1, snr := signed 8 (getLe b 0x67 1)
    imgFirst := getLe b 0x68 4, imgMiss := getLe b 0x6C 3, imgState := getLe b 0x6F 1, alarmBits := getLe b 0x70 2
    alarmMerged := getLe b 0x72 2, lastAlarm := getLe b 0x74 4, partnerLost := getLe b 0x78 2, meterTamper := getLe b 0x7A 1
    partnerLostT := getLe b 0x7C 4, chainHead := slice b 0x80 32, logSeq := getLe b 0xA0 4, intLen := getLe b 0xA4 1
    vee := getLe b 0xA5 1, estCount := getLe b 0xA6 2, lastReg := getLe b 0xA8 8, suspect := signed 32 (getLe b 0xB0 4)
    balNode := getLe b 0xB4 2, logTail := getLe b 0xC0 4, logNand := getLe b 0xC4 4, framesRx := getLe b 0xC8 4
    framesTx := getLe b 0xCC 4, lineCycle := getLe b 0xFC 4 }

/-! ## The table -/

/-- The context of a MIX in use. -/
def Dev.ctxAt (d : Dev) (m : Nat) : Option Ctx := d.ctx.tab.find m

/-- The stroke cycle that is open (R541): the one after the latest ended, or after the one that is closing. -/
def Dev.openCycle (d : Dev) : Nat := d.par.cycle + (if d.par.closing.isSome then 2 else 1)

/-- The context lines in which two images differ, a bit a line (R131). -/
def lineMask (a b : List Byte) : Nat :=
  sumNat ((List.range 4).map (fun i => if slice a (64 * i) 64 = slice b (64 * i) 64 then 0 else 2 ^ i))

/-- Mark lines of a context as changed in the open stroke cycle (R131). -/
def Dev.mark (d : Dev) (m mask : Nat) : Dev :=
  { d with ctx := { d.ctx with dirty := d.ctx.dirty.put m (d.ctx.dirty.getD m 0 ||| mask) } }

/-- The ports that a MODE 0 selector names (R142, R355): no bit names every port. -/
def portIn (mask attach : Nat) : Bool := mask % 64 = 0 || (0 < attach && bitAt (mask % 64) (attach - 1))

/-- A node's selector matches a context (R335); `fdPort` is the ATTACH code at the field device that reaches it. -/
def Dev.nodeTakes (d : Dev) (n fdPort : Nat) (c : Ctx) : Bool :=
  let sel := d.rd F.LDG_NODE_W1_GRP_or_PORT_MASK n
  let fdx := d.rd F.LDG_NODE_W1_ATTACH_FDX n
  if d.rd F.LDG_NODE_W0_MODE n = 1 then c.grp = sel
  else if fdx = 0xFFFF then decide (1 ≤ c.attach ∧ c.attach ≤ 6) && portIn sel c.attach
  else fdx ≤ 1023 && c.owner = fdx && portIn sel fdPort

/-- The node of a context: the lowest-numbered one that matches it (R335). -/
def Dev.nodeOf (d : Dev) (m : Nat) (c : Ctx) : Option Nat :=
  if c.medium = 0 && c.owner ≠ 0xFFFE then
    d.ldg.nodes.keys.find? (fun n => d.nodeTakes n ((d.ldg.meters.getD m {}).fdPort) c)
  else none

/-- BAL_NODE of a context (R335). -/
def Dev.balOf (d : Dev) (m : Nat) (c : Ctx) : Nat :=
  match d.nodeOf m c with
  | some n => n % 4096 + (c.phase % 4) * 4096 + 32768
  | none => 0

/-- Write a context: BAL_NODE follows (R335); every change marks its lines and writes LINE_CYCLE (R131). -/
def Dev.putCtx (d : Dev) (m : Nat) (c0 : Ctx) : Dev :=
  let c := { c0 with balNode := d.balOf m c0 }
  let old := match d.ctxAt m with | some o => o.image m | none => []
  if c.image m = old then d
  else
    let c' := { c with lineCycle := d.openCycle % 2 ^ 32 }
    ({ d with ctx := { d.ctx with tab := d.ctx.tab.put m c' } } : Dev).mark m (lineMask old (c'.image m))

/-- Change a context, if it is in use. -/
def Dev.editCtx (d : Dev) (m : Nat) (f : Ctx → Ctx) : Dev :=
  match d.ctxAt m with
  | some c => d.putCtx m (f c)
  | none => d

/-- Change every context in use; each change marks its lines (R131). -/
def Dev.mapCtx (d : Dev) (f : Nat → Ctx → Ctx) : Dev := d.ctx.tab.keys.foldl (fun (x : Dev) m => x.editCtx m (f m)) d

/-- Contexts in use (R119). -/
def Dev.ctxUsed (d : Dev) : Nat := d.ctx.tab.length

/-- Contexts of the grade (R4). -/
def Dev.ctxLimit (d : Dev) : Nat := mixMax d.grade + 1

/-- Contexts on the device's own line and radio ports (R136). -/
def Dev.direct (d : Dev) : Nat := (d.ctx.tab.filter (fun e => 1 ≤ e.2.attach && e.2.attach ≤ 6)).length

/-- No further meter may attach directly (R4, R125). -/
def Dev.directFull (d : Dev) : Bool := decide (16384 ≤ d.direct)

/-- Contexts in JOINING (R122). -/
def Dev.joining (d : Dev) : Nat := (d.ctx.tab.filter (fun e => e.2.st = 2)).length

/-- The lowest MIX that is not among rising keys. -/
def lowestFree : Nat → List Nat → Nat
  | n, [] => n
  | n, k :: t => if k = n then lowestFree (n + 1) t else n

/-- The lowest FREE MIX (R120). -/
def Dev.freeMix (d : Dev) : Nat := lowestFree 0 d.ctx.tab.keys

/-- The MIX that a lookup key resolves to (R114). -/
def Dev.lookup (d : Dev) (kind addr : Nat) : Option Nat :=
  (d.ctx.index.find? (fun e => e.kind = kind && e.addr = addr)).map (·.mix)

/-- The meter is owned here (R110). -/
def Ctx.owned (c : Ctx) : Bool := c.owner ≠ 0xFFFE

/-- Members of a group in some states, by ascending MIX. -/
def Dev.members (d : Dev) (grp : Nat) (p : Ctx → Bool) : List Nat :=
  (d.ctx.tab.filter (fun e => e.2.grp = grp && p e.2)).map (·.1)

/-- A meter that a descriptor may name: in use and not RETIRING (R88, R127). -/
def Dev.ctxNamed (d : Dev) (m : Nat) : Option Ctx := (d.ctxAt m).filter (fun c => c.st ≠ 5)

/-! ## The lookup table (R115 to R117) -/

/-- Stash entries in use. -/
def Dev.stashUsed (d : Dev) : Nat := (d.ctx.index.filter (fun e => e.bucket.isNone)).length

/-- Hash buckets of the grade (R115). -/
def buckets (g : Grade) : Nat := match g with | .x => 516096 | .f => 28672

/-- A candidate bucket of a key under a seed: the keyed hash is uninterpreted (R115). -/
def keyBucket (g : Grade) (seed : BitVec 128) (kind addr : Nat) (second : Bool) : Nat :=
  (Config.keyHash seed kind addr second).toNat % buckets g

/-- Slots that a bucket has in use. -/
def bucketLoad (ix : List Slot) (b : Nat) : Nat := (ix.filter (fun e => e.bucket = some b)).length

/-- The other candidate bucket of a resident slot. -/
def Slot.other (g : Grade) (seed : BitVec 128) (e : Slot) : Nat :=
  let a := keyBucket g seed e.kind e.addr false
  if e.bucket = some a then keyBucket g seed e.kind e.addr true else a

/-- Free a slot of a full bucket: one of its entries moves to that entry's other bucket, from which, when full, one moves in turn, with
the moves that are left (R116, which does not say which entry moves: the operand `moves` picks it among the four, oldest first; log 114). -/
def moveOut (g : Grade) (seed : BitVec 128) : Nat → List (Fin 4) → List Slot → Nat → Option (List Slot)
  | 0, _, _, _ => none
  | f + 1, moves, ix, b =>
    match (ix.reverse.filter (fun e => decide (e.bucket = some b)))[(moves.headD 0).val]? with
    | none => none
    | some e =>
      let o := e.other g seed
      let put := fun (l : List Slot) => l.map (fun x => if x = e then { x with bucket := some o } else x)
      if bucketLoad ix o < 4 then some (put ix)
      else match moveOut g seed f moves.tail ix o with
        | some l => if bucketLoad l o < 4 then some (put l) else none
        | none => none

/-- Insert a key (R116): into the candidate bucket with more free slots; where both are full, after up to 16 moves; else into the stash. A
table of fewer than four entries has no full bucket. -/
def insertKey (g : Grade) (seed : BitVec 128) (moves : List (Fin 4)) (ix : List Slot) (kind addr m : Nat) : List Slot :=
  let a := keyBucket g seed kind addr false
  let b := keyBucket g seed kind addr true
  let best := if bucketLoad ix b < bucketLoad ix a then b else a
  if ix.length < 4 then ⟨kind, addr, m, some best⟩ :: ix
  else if bucketLoad ix best < 4 then ⟨kind, addr, m, some best⟩ :: ix
  else match moveOut g seed 16 moves ix a with
    | some l => ⟨kind, addr, m, some a⟩ :: l
    | none => ⟨kind, addr, m, none⟩ :: ix

/-- The seed in force. -/
def Dev.hashSeed (d : Dev) : BitVec 128 := d.ctx.seed.getD 0

/-- The table with a key inserted. -/
def Dev.withKey (d : Dev) (moves : List (Fin 4)) (ix : List Slot) (kind addr m : Nat) : List Slot :=
  insertKey d.grade d.hashSeed moves ix kind addr m

/-- The table built anew from keys, each with the moves of its insertion, under the seed in force. -/
def Dev.buildIndex (d : Dev) (keys : List ((Nat × Nat × Nat) × List (Fin 4))) : List Slot :=
  keys.foldl (fun ix k => d.withKey k.2 ix k.1.1 k.1.2.1 k.1.2.2) []

/-- The seed is drawn when the table is first built (R115). -/
def Dev.drawSeed (d : Dev) : Dev :=
  let f := d.fresh
  { f.2 with ctx := { f.2.ctx with seed := some ((Config.random f.1).setWidth 128) } }

/-- Insert a lookup key (R116). Where it would go to a full stash the rebuild starts under a new seed, and nothing is inserted. -/
def Dev.indexPut (d : Dev) (moves : List (Fin 4)) (kind addr m : Nat) : Bool × Dev :=
  if d.ctx.rehash then (false, d)
  else
    let ix := d.withKey moves d.ctx.index kind addr m
    if d.ctx.index.length < 1024 then (true, { d with ctx := { d.ctx with index := ix } })
    else if 1024 < (ix.filter (fun e => e.bucket.isNone)).length then
      let y := d.drawSeed
      (false, { y with ctx := { y.ctx with rehash := true } })
    else (true, { d with ctx := { d.ctx with index := ix } })

/-- Give a short address on a line port (R117): the first address after the latest whose map entry is not valid, with fuel. -/
def nextShort : Nat → Tab Nat → Nat → Nat
  | 0, _, a => a
  | f + 1, t, a =>
    let n := if a ≥ 0xFFFD then 1 else a + 1
    if (t.find n).isSome then nextShort f t n else n

/-- Give a short address on a line port to a meter that has none there. Its entries in other ports' maps stay valid until it is retired
(DESIGN CHOICE, log 115: R127 alone removes one). -/
def Dev.giveShort (d : Dev) (port m : Nat) : Nat × Dev :=
  let t := d.ctx.shorts.getD port []
  match t.find? (fun e => e.2 = m) with
  | some e => (e.1, d)
  | none =>
    let a := nextShort 65536 t (d.ctx.shortLast.getD port 0)
    (a, { d with ctx := { d.ctx with
      shorts := d.ctx.shorts.put port (t.put a m), shortLast := d.ctx.shortLast.put port a } })

/-- Remove a meter's lookup key and short addresses (R127). -/
def Dev.unindex (d : Dev) (m : Nat) : Dev :=
  { d with ctx := { d.ctx with
      index := d.ctx.index.filter (fun e => e.mix ≠ m)
      shorts := d.ctx.shorts.mapVals (fun _ t => t.filter (fun e => e.2 ≠ m)) } }

/-! ## The cache (R129, R130) -/

/-- A context is pinned while a transaction for it is in flight. -/
def Dev.pinned (d : Dev) (m : Nat) : Bool := decide (0 < d.ctx.pins.getD m 0)

/-- Pin a context. -/
def Dev.pin (d : Dev) (m : Nat) : Dev := { d with ctx := { d.ctx with pins := d.ctx.pins.put m (d.ctx.pins.getD m 0 + 1) } }

/-- Unpin a context. -/
def Dev.unpin (d : Dev) (m : Nat) : Dev :=
  let ps := if d.ctx.pins.getD m 0 ≤ 1 then d.ctx.pins.del m else d.ctx.pins.put m (d.ctx.pins.getD m 0 - 1)
  { d with ctx := { d.ctx with pins := ps } }

/-- Ways of a set with a context used latest first. -/
def Dev.useWay (d : Dev) (m : Nat) (ways : List Nat) : Dev :=
  { d with ctx := { d.ctx with cache := d.ctx.cache.put (m % 2048) (m :: ways.filter (· ≠ m)) } }

/-- Fetch a context into the cache: false where every way of its set is pinned, and the fetch waits (R130). A fetch that waited and has
ended is not counted again. -/
def Dev.fetchCtx (d : Dev) (m : Nat) : Bool × Dev :=
  let ways := d.ctx.cache.getD (m % 2048) []
  if d.ctx.fetched.contains m && ways.contains m then
    (true, ({ d with ctx := { d.ctx with fetched := d.ctx.fetched.erase m } } : Dev).useWay m ways)
  else if ways.contains m then (true, (d.bumpW F.CTX_CACHE_HIT).useWay m ways)
  else if ways.length < 8 then (true, (d.bumpW F.CTX_CACHE_MISS).useWay m ways)
  else match ways.reverse.find? (fun w => !d.pinned w) with
    | some v => (true, (d.bumpW F.CTX_CACHE_MISS).useWay m (ways.filter (· ≠ v)))
    | none =>
      if d.ctx.waits.contains m then (false, d)
      else (false, ({ d with ctx := { d.ctx with waits := d.ctx.waits ++ [m] } } : Dev).bump F.CTX_CACHE_STS_SET_WAIT)

/-! ## Leaving the table -/

/-- Everything that other blocks hold of a meter goes: its route (R226), calendar, heat entry, keys (R295, R307), polling. -/
def Dev.forget (d : Dev) (m : Nat) : Dev :=
  { d with
    ctx := { d.ctx with
      cache := d.ctx.cache.mapVals (fun _ ws => ws.filter (· ≠ m)), pins := d.ctx.pins.del m
      joins := d.ctx.joins.del m, waits := d.ctx.waits.filter (· ≠ m), fetched := d.ctx.fetched.filter (· ≠ m) }
    sec := { d.sec with
      cache := d.sec.cache.filter (fun e => !(e.1 = 0 && e.2.1 = m)), imports := d.sec.imports.del m
      shadows := d.sec.shadows.del m, alarmed := d.sec.alarmed.filter (· ≠ m) }
    sch := { d.sch with entries := d.sch.entries.del m }
    lcp := d.lcp.mapVals (fun _ l => { l with
      routes := l.routes.del m, polled := l.polled.del m, phs := l.phs.del m
      nbs := l.nbs.mapVals (fun _ n => if n.mix = some m then { n with mix := none } else n) })
    cals := d.cals.del m
    img := { d.img with stalls := d.img.stalls.del m, activated := d.img.activated.filter (· ≠ m) } }

/-- A context becomes FREE. -/
def Dev.freeCtx (d : Dev) (m : Nat) : Dev :=
  let d1 := (d.unindex m).forget m
  ({ d1 with ctx := { d1.ctx with tab := d1.ctx.tab.del m } } : Dev).mark m 15

end Sys2Proof.Machine
end

