-- ==== Sys2Proof/Machine/SecOps.lean ====
section
/-! DEFINITION. Sys2Proof/Machine/SecOps.lean: the key tree, the key cache, frame authentication and shadows (R275 to R307). -/

namespace Sys2Proof.Machine

/-! ## The key tree (R276 to R278) -/

/-- The device key (R276, R279). -/
def deviceKey (root dBoot : List Byte) : List Byte := kdf root "NVD-DEV" dBoot 256

/-- A purpose key (R278). -/
def Dev.purposeKey (d : Dev) (label : String) : Option (List Byte) := d.sec.kdev.map (fun k => kdf k label [] 256)

/-- A group key under K_MTR (R276). -/
def groupKey (kmtr : List Byte) (grp : Nat) : List Byte := kdf kmtr "GRP" (beBytes 2 grp) 256

/-- A meter key set in three 128-bit keys: EK or K, AK, KEK. -/
structure KeySet where
  ek : List Byte
  ak : List Byte
  kek : List Byte
  deriving DecidableEq, Repr

/-- The context bytes of a meter key set (R276). -/
def meterCtx (c : Ctx) (gen : Nat) : List Byte := beBytes 1 c.kind ++ beBytes 8 c.addr ++ beBytes 4 c.admitTime ++ beBytes 1 gen

/-- A meter key set (R276). -/
def meterKeys (kg : List Byte) (c : Ctx) (gen : Nat) : KeySet :=
  let o := kdf kg "MTR" (meterCtx c gen) 384
  ⟨slice o 0 16, slice o 16 16, slice o 32 16⟩

/-- The derived key set of a generation, while a device key is held. -/
def Dev.derived (d : Dev) (c : Ctx) (gen : Nat) : Option KeySet :=
  (d.purposeKey "MTR").map (fun k => meterKeys (groupKey k c.grp) c gen)

/-- The import entry of a meter. -/
def Dev.import_ (d : Dev) (m : Nat) : Import := d.sec.imports.getD m {}

/-- Set an import entry; one that holds nothing is released (R297). -/
def Dev.setImport (d : Dev) (m : Nat) (i : Import) : Dev :=
  let t := if i.ek = none ∧ i.ak = none ∧ i.kek = none ∧ i.shEk = none ∧ i.shAk = none ∧ i.shKek = none ∧ i.psk = none
    then d.sec.imports.del m else d.sec.imports.put m i
  { d with sec := { d.sec with imports := t } }

/-- A key held wrapped under K_wrap (R278, R295). -/
def Dev.unwrapped (d : Dev) (w : Option (List Byte)) : Option (List Byte) :=
  match d.purposeKey "WRP", w with
  | some k, some x => kwUnwrap k x
  | _, _ => none

/-- Suites 0 and 1 use EK, AK and KEK; suites 5 and 7 use K alone (R276). -/
def suiteFull (suite : Nat) : Bool := suite ≤ 1

/-- The imported set in force, or staged. -/
def Dev.importSet (d : Dev) (m : Nat) (staged : Bool) : Option KeySet :=
  let i := d.import_ m
  match d.unwrapped (if staged then i.shEk else i.ek) with
  | some ek => some ⟨ek, (d.unwrapped (if staged then i.shAk else i.ak)).getD [], (d.unwrapped (if staged then i.shKek else i.kek)).getD []⟩
  | none => none

/-- The key set of a generation of a meter: 0xFF names the imported set. -/
def Dev.keySet (d : Dev) (m : Nat) (c : Ctx) (gen : Nat) (staged : Bool := false) : Option KeySet :=
  if gen = 0xFF then d.importSet m staged else d.derived c gen

/-- The last derived generation used, 0xFF for none (R294). -/
def Dev.lastGen (d : Dev) (m : Nat) (c : Ctx) : Nat := if c.keyGen = 0xFF then (d.import_ m).lastGen else c.keyGen

/-- The derived generation that follows it (R294, R299). -/
def Dev.nextGen (d : Dev) (m : Nat) (c : Ctx) : Option Nat :=
  match d.lastGen m c with
  | 0xFF => some 0
  | 254 => none
  | g => some (g + 1)

/-! ## The key cache (R306, R307) -/

/-- The set of a cache entry. -/
def kcSet (e : Nat × Nat × Nat) : BitVec 13 := Config.keySet e.1 e.2.1 e.2.2

/-- Remove the least recently used entry of a set. -/
def kcEvict (e : Nat × Nat × Nat) (l : List (Nat × Nat × Nat)) : List (Nat × Nat × Nat) :=
  match l.reverse.find? (fun x => kcSet x = kcSet e) with
  | some v => l.filter (· ≠ v)
  | none => l

/-- The group master key of a line port and a generation (R278). -/
def Dev.gmkOf (d : Dev) (port gen : Nat) : Option (List Byte) :=
  (d.purposeKey "GMK").map (fun k => kdf k "GMK" (beBytes 1 port ++ beBytes 1 gen) 128)

/-- Enter an entry in the cache, or use it again: eight ways a set. -/
def Dev.kcUse (d : Dev) (e : Nat × Nat × Nat) : Dev :=
  let l := d.sec.cache.filter (· ≠ e)
  let l' := if l.length < 8 then l else if (l.filter (fun x => kcSet x = kcSet e)).length < 8 then l else kcEvict e l
  { d with sec := { d.sec with cache := e :: l' } }

/-- Look one entry up: a hit, or a miss with the derivations it costs. -/
def Dev.kcOne (d : Dev) (e : Nat × Nat × Nat) (derive : Bool) : Bool × Dev :=
  if d.sec.cache.contains e then (true, (d.bumpW F.SEC_KC_HIT).kcUse e)
  else
    let d1 := d.bumpW F.SEC_KC_MISS
    (false, (if derive then d1.bumpW F.SEC_DERIVE else d1).kcUse e)

/-- A meter key set comes from the cache, or is derived from its group key, which may miss too. -/
def Dev.kcTake (d : Dev) (m grp gen : Nat) : Dev :=
  let r := d.kcOne (0, m, gen) (gen ≠ 0xFF)
  if r.1 || gen = 0xFF then r.2 else (r.2.kcOne (1, grp, 0) true).2

/-- Invalidate one set of a meter (R307). -/
def Dev.kcDrop (d : Dev) (m gen : Nat) : Dev :=
  { d with sec := { d.sec with cache := d.sec.cache.filter (· ≠ (0, m, gen)) } }

/-! ## Shadows (R294 to R297) -/

/-- The staged set of a meter. -/
def Dev.shadow (d : Dev) (m : Nat) : Option Shadow := d.sec.shadows.find m

/-- The generation code of a staged set. -/
def Shadow.code (s : Shadow) : Nat := if s.imported then 0xFF else s.gen

/-- Set the staged set of a meter; KEY_FLAGS[0] marks it (R105). -/
def Dev.setShadow (d : Dev) (m : Nat) (s : Option Shadow) : Dev :=
  let t := match s with | some x => d.sec.shadows.put m x | none => d.sec.shadows.del m
  ({ d with sec := { d.sec with shadows := t } } : Dev).editCtx m (fun c => { c with shadow := s.isSome })

/-- Discard a shadow: its cache entries and its imported keys go (R295, R307). -/
def Dev.dropShadow (d : Dev) (m : Nat) : Dev :=
  match d.shadow m with
  | none => d
  | some s =>
    let d1 := (d.kcDrop m s.code).setShadow m none
    if s.imported then d1.setImport m { d1.import_ m with shEk := none, shAk := none, shKek := none } else d1

/-- Stage a derived generation. -/
def Dev.stageDerived (d : Dev) (m gen : Nat) : Dev := (d.dropShadow m).setShadow m (some { imported := false, gen := gen })

/-- A shadow becomes the set in force (R297): `gen` is the derived generation, or 0xFF for the imported set. -/
def Dev.commitKeys (d : Dev) (m gen : Nat) : Dev :=
  match d.ctxAt m with
  | none => d
  | some c =>
    let d1 := ((d.kcDrop m c.keyGen).setShadow m none).editCtx m (fun c => { c with keyGen := gen })
    let i := d1.import_ m
    if gen = 0xFF then
      let lg := if c.keyGen = 0xFF then i.lastGen else c.keyGen
      let d2 := d1.setImport m { i with lastGen := lg, ek := i.shEk, ak := i.shAk, kek := i.shKek, shEk := none, shAk := none, shKek := none, keepKek := false }
      if d2.on F.SEC_AUTH_CFG_MIGRATE then
        match d2.nextGen m { c with keyGen := 0xFF } with
        | some g => d2.stageDerived m g
        | none => d2
      else d2
    else if (d1.sec.imports.find m).isSome then
      d1.setImport m { i with lastGen := gen, ek := none, ak := none, kek := if i.keepKek then i.kek else none, shEk := none, shAk := none, shKek := none }
    else d1

/-! ## Frames (R302 to R304) -/

/-- What step 5 finds. -/
inductive Auth where
  /-- authenticated -/
  | ok
  /-- failed integrity (R304) -/
  | bad
  /-- dropped and counted without touching AUTH_FAIL: no root, unsupported protection, or a replay -/
  | drop
  deriving DecidableEq, Repr

/-- A frame verifies under a key set: EK with AK in suites 0 and 1, K in suites 5 and 7. -/
def verifies (suite : Nat) (f : MFrame) (k : Option KeySet) : Bool :=
  match k with
  | some s => f.ek = s.ek && (!suiteFull suite || f.ak = s.ak)
  | none => false

/-- The counter check (R302, R303). -/
def Dev.replay (d : Dev) (c : Ctx) (f : MFrame) : Bool :=
  if c.suite = 5 then f.counter % 256 = c.rxCounter % 256 && c.lastRx ≠ 0 && d.nowS - c.lastRx ≤ 120
  else f.counter ≤ c.rxCounter

/-- RX_COUNTER after a frame is accepted. -/
def rxCounterAfter (c : Ctx) (f : MFrame) : Nat :=
  if c.suite = 5 then c.rxCounter / 256 * 256 + f.counter % 256 else f.counter % 2 ^ 32

/-- An authenticated frame: RX_COUNTER, AUTH_RUN (R297, R304). -/
def Dev.authOk (d : Dev) (m : Nat) (c : Ctx) (f : MFrame) : Dev :=
  let d1 := d.editCtx m (fun x => { x with rxCounter := rxCounterAfter c f, authRun := 0 })
  { d1 with sec := { d1.sec with alarmed := d1.sec.alarmed.filter (· ≠ m) } }

/-- A frame that fails authentication is counted; the run that reaches RUN_ALARM posts one event (R304). -/
def Dev.authBad (d : Dev) (m : Nat) (c : Ctx) : Dev :=
  let run := min 65535 (c.authRun + 1)
  let tot := min 65535 (c.authFail + 1)
  let d1 := (d.editCtx m (fun x => { x with authRun := run, authFail := tot })).bump F.SEC_AUTH_FAIL
  let d2 : Dev := { d1 with sec := { d1.sec with winFails := d1.sec.winFails + 1 } }
  if d2.rd F.SEC_AUTH_CFG_RUN_ALARM ≤ run ∧ ¬ d2.sec.alarmed.contains m then
    ({ d2 with sec := { d2.sec with alarmed := m :: d2.sec.alarmed } } : Dev).post 5 0x0401 1 4 (tgtMix m) run tot
  else d2

/-- Step 5 of R35: root, protection, counter, integrity under the set in force, then the shadow or the look-ahead generation. -/
def Dev.authenticate (d : Dev) (m : Nat) (c : Ctx) (f : MFrame) : Auth × Dev :=
  if d.sec.kdev.isNone || !d.on F.SEC_STS_ROOT_VALID then (.drop, d.bump F.SEC_NOKEY_RX)
  else if f.unsup then (.drop, d.bump F.SEC_UNSUP_RX)
  else if d.replay c f then (.drop, d.bump F.SEC_REPLAY_RX)
  else
    let d1 := d.kcTake m c.grp c.keyGen
    if verifies c.suite f (d1.keySet m c c.keyGen) then (.ok, d1.authOk m c f)
    else
      let alt := match d1.shadow m with | some s => some s.code | none => d1.nextGen m c
      match alt with
      | none => (.bad, d1.authBad m c)
      | some g =>
        let d2 := d1.kcTake m c.grp g
        if verifies c.suite f (d2.keySet m c g true) then (.ok, (d2.commitKeys m g).authOk m c f)
        else (.bad, d2.authBad m c)

/-! ## Requests (R296, R302) -/

/-- A meter can be sent something: a root is held and TX_COUNTER is not exhausted. -/
def Dev.canSend (d : Dev) (c : Ctx) : Bool :=
  d.sec.kdev.isSome && d.on F.SEC_STS_ROOT_VALID && decide (c.txCounter < 2 ^ 32 - 1)

/-- An imported set is complete (R295). -/
def Dev.importComplete (d : Dev) (m suite : Nat) : Bool :=
  let i := d.import_ m
  i.shEk.isSome && (!suiteFull suite || (i.shAk.isSome && i.shKek.isSome))

/-- The keys of a delivery (R296): in suites 0 and 1 EK, AK and then the master key of the staged set, each wrapped under the KEK in force,
which is the kept one where the meter has refused a transfer of it. The key change of EN 13757-7 is that standard's. -/
def Dev.keyTransfer (d : Dev) (m : Nat) (c : Ctx) (gen : Nat) : List (List Byte) :=
  match d.keySet m c c.keyGen, d.keySet m c gen true with
  | some a, some b =>
    let kek := if (d.import_ m).keepKek then (d.unwrapped (d.import_ m).kek).getD a.kek else a.kek
    if suiteFull c.suite then [b.ek, b.ak, b.kek].map (kwWrap kek) else []
  | _, _ => []

/-- Build a secured request: TX_COUNTER is used and raised; a derived shadow not yet delivered rides on it. The answer says
whether it went under the shadow, and whether it carries the delivery. -/
def Dev.secure (d : Dev) (m : Nat) (c : Ctx) : (Bool × Bool) × Dev :=
  let s := d.shadow m
  let under := match s with | some x => !x.imported && x.delivered | none => false
  let deliver := match s with | some x => !x.imported && !x.delivered && !(d.cals.getD m {}).deaf | none => false
  let gen := if under then (match s with | some x => x.code | none => c.keyGen) else c.keyGen
  let d1 := (d.kcTake m c.grp gen).editCtx m (fun x => { x with
    txCounter := x.txCounter + 1, lastTx := d.nowS, framesTx := (x.framesTx + 1) % 2 ^ 32 })
  let keys := match s with | some x => if deliver then d.keyTransfer m c x.code else [] | none => []
  ((under, deliver), d1.emit (.request m c.txCounter gen deliver keys))

/-- The meter has acknowledged a delivery (R296): 1 all keys, 2 all but the master key, whose old KEK is kept. -/
def Dev.keyAck (d : Dev) (m ack : Nat) : Dev :=
  match d.shadow m, d.ctxAt m with
  | some s, some c =>
    if ack = 0 ∨ s.imported ∨ s.delivered then d
    else
      let d1 := d.setShadow m (some { s with delivered := true, fails := 0 })
      if ack = 2 ∧ suiteFull c.suite then
        match d1.keySet m c c.keyGen, d1.purposeKey "WRP" with
        | some k, some w =>
          let i := d1.import_ m
          if i.keepKek then d1
          else d1.setImport m { i with lastGen := d1.lastGen m c, kek := some (kwWrap w k.kek), keepKek := true }
        | _, _ => d1
      else d1
  | _, _ => d

/-- An exchange under the shadow failed: two in a row return to the set in force (R296). -/
def Dev.shadowFail (d : Dev) (m : Nat) : Dev :=
  match d.shadow m with
  | some s =>
    if 2 ≤ s.fails + 1 then d.setShadow m (some { s with delivered := false, fails := 0 })
    else d.setShadow m (some { s with fails := s.fails + 1 })
  | none => d

/-- An exchange under the shadow succeeded. -/
def Dev.shadowOk (d : Dev) (m : Nat) : Dev :=
  match d.shadow m with
  | some s => if s.fails = 0 then d else d.setShadow m (some { s with fails := 0 })
  | none => d

/-! ## The order of the Security engine's work (R636) -/

/-- The MIX of a frame (R35): a short address resolves through its line port's map (R117), any other address through the lookup (R114). -/
def Dev.resolve (d : Dev) (f : MFrame) (v : Via) : Option Nat :=
  if v.fdx.isNone && decide (1 ≤ v.attach) && decide (v.attach ≤ 2) && decide (v.orig ≠ 0) then
    (d.ctx.shorts.getD (v.attach - 1) []).find v.orig
  else d.lookup f.kind f.addr

/-- A frame at the head of an ingest queue waits for the Security engine (R35, step 5): an own meter's, whose context can be fetched. -/
def Dev.frameForSec (d : Dev) (f : MFrame) (v : Via) : Bool :=
  match d.resolve f v with
  | none => false
  | some m => match d.ctxAt m with
    | none => false
    | some c => (decide (c.st ≠ 5) || v.reply) && decide (c.owner ≠ 0xFFFE) && (d.fetchCtx m).1

/-- Meter frames wait for the Security engine in the ingest queues. -/
def Dev.framesForSec (d : Dev) : Bool :=
  d.serves && (List.range 10).any (fun q => match d.laneHead q with
    | some (_, i) => (match i.payload with | .frame f v => d.frameForSec f v | _ => false)
    | none => false)

/-- Media writes wait for the Security engine. -/
def Dev.mediaForSec (d : Dev) : Bool :=
  decide (d.ftl.state ≤ 1) && (match d.laneHead 14 with | some (_, i) => (match i.payload with | .media .. => true | _ => false) | none => false)

/-- Work of a rank of R636 finds work of a higher rank waiting. Commands end the work of ranks 1 and 3 with the frame that asks for it, so
that nothing of these ranks waits (DEDUCED, log 135). -/
def Dev.secAhead (d : Dev) (rank : Nat) : Bool :=
  (decide (2 < rank) && d.framesForSec) || (decide (4 < rank) && d.mediaForSec)

end Sys2Proof.Machine
end

