-- ==== Sys2Proof/Machine/FlOps.lean ====
section
/-! DEFINITION. Sys2Proof/Machine/FlOps.lean: Ethernet transmit queues and counters (R479, R483), and the senders of the field link
(R484 to R490). -/

namespace Sys2Proof.Machine

/-! ## Ethernet ports -/

/-- An Ethernet port. -/
def Dev.ep (d : Dev) (p : Nat) : Eth := d.eth.getD p {}

/-- Set an Ethernet port. -/
def Dev.setEp (d : Dev) (p : Nat) (e : Eth) : Dev := { d with eth := if e = {} then d.eth.del p else d.eth.put p e }

/-- The target word of an Ethernet port: KIND 4, class 3. -/
def tgtEth (p : Nat) : Nat := 4 * 2 ^ 28 + 3 * 2 ^ 20 + p

/-- Count in a counter of a port (R483): 64 bits, wrapping; bit 63 rising posts one COUNTER-class event. -/
def Dev.ethCount (d : Dev) (p i : Nat) (n : Nat := 1) : Dev :=
  let e := d.ep p
  let old := e.cnt.getD i 0
  let new := (old + n) % 2 ^ 64
  let d1 := if n = 0 then d else d.setEp p { e with cnt := e.cnt.put i new }
  if !bitAt old 63 && bitAt new 63 then d1.post 9 0x0E01 0 7 (tgtEth p) i else d1

/-- The link of a port is up (R480). -/
def Dev.linkUp (d : Dev) (p : Nat) : Bool := d.isOn (6 + p) && d.on F.ETH_STS_LINK p

/-- A frame joins the frames that wait on a port; on a port without its link it is discarded (R480). -/
def Dev.ethQueue (d : Dev) (p : Nat) (t : EthTx) : Dev :=
  if d.linkUp p then d.setEp p { d.ep p with wait := (d.ep p).wait ++ [t] } else d.ethCount p 15

/-! ## Field-link keys (R278, R492) -/

/-- The key of a field device at the head end. -/
def Dev.flKeyOf (d : Dev) (fdx : Nat) : Option (List Byte) := (d.purposeKey "FLK").map (fun k => kdf k "FLK" (beBytes 2 fdx) 256)

/-- The key that the field device holds. -/
def Dev.flKeyHeld (d : Dev) : Option (List Byte) := d.unwrapped d.fl.key

/-- The key of a link with a field device. -/
def Dev.flKey (d : Dev) (fdx : Nat) : Option (List Byte) := if d.isField then d.flKeyHeld else d.flKeyOf fdx

/-! ## Records and frames (R485 to R489) -/

/-- Bytes of a record's body (R489). -/
def flBody : FlRec → Nat
  | .helloK _ _ => 24
  | .keyWrap _ _ => 56
  | .hello _ _ => 12
  | .welcome _ _ _ => 16
  | .heartbeat => 0
  | .meterUp _ _ _ _ _ f => 24 + f.raw.length
  | .dataAck _ _ => 4
  | .order _ _ _ _ _ n _ => 24 + n
  | .orderDone .. => 16
  | .joinOk _ _ _ => 16
  | .release _ _ _ => 16
  | .time _ _ _ _ => 20
  | .delayReq _ => 4
  | .delayRsp _ _ => 16
  | .join _ _ _ => 16
  | .meterSts .. => 16
  | .portSts _ => 12
  | .checkRec _ _ => 68
  | .unknown _ => 0

/-- Bytes of a record with its header, padded to four. -/
def flLen (r : FlRec) : Nat := 4 + ceilDiv (flBody r) 4 * 4

/-- Bytes of an Ethernet frame that carries records: header and tag of R485, Ethernet header and FCS, VLAN tag, IPv6 and UDP. -/
def Dev.flBytes (d : Dev) (p : Nat) (recs : List FlRec) : Nat :=
  max 64 (32 + sumNat (recs.map flLen) + 18 + (if d.on F.ETH_CFG_VLAN_EN p then 4 else 0) + (if d.fl.mode = 2 then 48 else 0))

/-- The class of R479: frames with TIME, DELAY_REQ or DELAY_RSP records go before other field-link frames. -/
def flCls : FlRec → Nat
  | .time .. | .delayReq _ | .delayRsp _ _ => 1
  | _ => 2

/-- A record takes a transmit timestamp (R489). -/
def flStamped : FlRec → Bool
  | .time .. | .delayReq _ => true
  | _ => false

/-- Keyless records (R486). -/
def flKeyless : FlRec → Bool
  | .helloK _ _ | .keyWrap _ _ => true
  | _ => false

/-- A head end's field device. -/
def Dev.fd (d : Dev) (fdx : Nat) : Fd := d.fl.fds.getD fdx {}

/-- The field device is enabled at the head end (R499). -/
def Dev.fdxOn (d : Dev) (fdx : Nat) : Bool := decide (fdx < 1024) && bitAt (d.rd F.FL_FD_EN_EN (fdx / 32)) (fdx % 32)

/-- Step f has ended (R624, R629): the last enabled field device is mustered; a field device's own muster; none without field devices. -/
def Dev.mustered (d : Dev) : Bool :=
  if d.fl.mode = 0 then true
  else if d.isField then decide (d.fl.st = 3)
  else (List.range 1024).all (fun x => !d.fdxOn x || decide ((d.fd x).st = 2))

/-- Step f is noted when the last muster ends. -/
def Dev.stepFEnd (d : Dev) : Dev := if d.mustered then d.stepDone 5 else d

/-- Set a head end's field device. -/
def Dev.setFd (d : Dev) (fdx : Nat) (x : Fd) : Dev := { d with fl := { d.fl with fds := if x = {} then d.fl.fds.del fdx else d.fl.fds.put fdx x } }

/-- A frame that a field device sent up authenticated, by its DSEQ (R221): the next DATA_ACK reports it. -/
def Dev.fdAuth (d : Dev) (fdx dseq : Nat) : Dev :=
  d.setFd fdx { d.fd fdx with auth := (dseq :: (d.fd fdx).auth).take 4096 }

/-- The link's end toward a field device, or toward the head end. -/
def Dev.flEnd (d : Dev) (fdx : Nat) : FlEnd := if d.isField then d.fl.link else (d.fd fdx).link

/-- Set the link's end. -/
def Dev.setFlEnd (d : Dev) (fdx : Nat) (e : FlEnd) : Dev :=
  if d.isField then { d with fl := { d.fl with link := e } } else d.setFd fdx { d.fd fdx with link := e }

/-- The flag of R442: a field device in holdover, or whose head end reports it. -/
def Dev.flHold (d : Dev) : Bool := d.isField && (d.tim.holdSince.isSome || d.tim.headHold)

/-- A MAC address held in two registers, byte 0 lowest (R498, R499). -/
def macOf (lo hi : Nat) : Nat := lo + 2 ^ 32 * (hi % 65536)

/-- Four words of an IPv6 address: 0 FL_IP_LOCAL, 1 FL_IP_PEER, 2 FL_IP_GW (R499). -/
def Dev.flIp (d : Dev) (which : Nat) : List Nat := (List.range 4).map (fun i => d.rd F.FL_IP_ADDR (4 * which + i))

/-- The address that a field-link frame is sent to (R484). A head end that has heard no authenticated frame from the FDX sends to broadcast,
as a field device does (DESIGN CHOICE, log 141). -/
def Dev.flTo (d : Dev) (p fdx : Nat) : FlTo :=
  if d.fl.mode = 2 then
    let l := d.flIp 0
    let peer := d.flIp 1
    .ip l peer (if l.take 2 = peer.take 2 then peer else d.flIp 2) (d.rd F.FL_UDP_PORT)
  else
    let heard := (d.flEnd fdx).mac
    let peer := if d.isField then macOf (d.rd F.FL_PEER_MAC_MAC) (d.rd F.FL_PEER_MAC_MAC 1) else 0
    .mac (if d.isField then macOf (d.rd F.ETH_MAC_LO_MAC p) (d.rd F.ETH_MAC_HI_MAC p) else macOf (d.rd F.FL_MAC_MAC) (d.rd F.FL_MAC_MAC 1))
      (if peer ≠ 0 then peer else if heard ≠ 0 then heard else 2 ^ 48 - 1)

/-- Send one record in a frame of its own (R485, R487): SEQ counts; beyond the last EPOCH nothing is sent. -/
def Dev.flSendOn (d : Dev) (p fdx : Nat) (r : FlRec) (retx : Bool := false) : Dev :=
  let e := d.flEnd fdx
  let (ep, ct) := if e.count < 2 ^ 40 then (e.epoch, e.count) else (e.epoch + 1, 0)
  if d.fl.mode = 0 ∨ !d.serves ∨ 2 ^ 24 ≤ ep then d
  else
    let f : FlFrame := { up := d.isField, hold := d.flHold, keyless := flKeyless r, fdx := fdx, epoch := ep, count := ct
                         key := if flKeyless r then [] else (d.flKey fdx).getD [], recs := [r] }
    let d1 := d.setFlEnd fdx { e with epoch := ep, count := ct + 1, sentAt := d.tim.mono }
    d1.ethQueue p { cls := flCls r, bytes := d.flBytes p [r], fl := some f, dest := some (d.flTo p fdx), retx := retx
                    tsId := if flStamped r then some ((match r with | .time _ _ t _ => t | .delayReq i => i | _ => 0) % 2 ^ 15) else none }

/-- Send a record to a field device, or from the field device to its head end, on the active port. -/
def Dev.flSend (d : Dev) (fdx : Nat) (r : FlRec) (retx : Bool := false) : Dev :=
  d.flSendOn (if d.isField then d.fl.port else (d.fd fdx).port) fdx r retx

/-- The field device's own index. -/
def Dev.ownFdx (d : Dev) : Nat := d.rd F.FL_CFG_FDX

/-- The field device sends a record to its head end. -/
def Dev.flUp (d : Dev) (r : FlRec) : Dev := d.flSend d.ownFdx r

/-- The field link to the head end is up: mustered. -/
def Dev.flIsUp (d : Dev) : Bool := decide (d.fl.st = 3)

/-- Held records that may be outstanding are sent (R490). -/
def Dev.flPush (d : Dev) : Dev :=
  if !d.flIsUp then d
  else ((d.fl.held.take 4096).filter (fun h => h.sentAt.isNone)).foldl (fun (x : Dev) h =>
    (({ x with fl := { x.fl with held := x.fl.held.map (fun y => if y.num = h.num then { y with sentAt := some x.tim.mono } else y) } } : Dev)).flUp h.rec_) d

/-- A record takes the next DSEQ and is held until its DATA_ACK (R490), in cells and through stream 4 of the NAND (R36, R504). -/
def Dev.flHoldRec (d : Dev) (mk : Nat → FlRec) : Dev :=
  let n := (d.fl.dseq + 1) % 2 ^ 32
  let kept := d.offer 14 ⟨4, flLen (mk n), .media 4 (.raw (match mk n with | .meterUp _ _ _ _ _ f => f.raw | _ => []))⟩
  let d := kept
  ({ d with fl := { d.fl with dseq := n, held := d.fl.held ++ [{ num := n, rec_ := mk n }] } } : Dev).flPush

/-- A head end sends a record under the next ORDER_ID and repeats it until its ORDER_DONE arrives (R490). -/
def Dev.flOrder (d : Dev) (fdx : Nat) (mk : Nat → FlRec) : Dev :=
  let n := (d.fl.orderId + 1) % 2 ^ 32
  let d1 : Dev := { d with fl := { d.fl with orderId := n, orders := d.fl.orders ++ [{ num := n, fdx := fdx, rec_ := mk n, sentAt := some d.tim.mono }] } }
  d1.flSend fdx (mk n)

/-- A head end sends a field device the release of a meter (R113). -/
def Dev.flRelease (d : Dev) (fdx kind addr : Nat) : Dev := d.flOrder fdx (fun n => .release n kind addr)

/-- A head end releases a meter that leaves the field device in its OWNER field. -/
def Dev.flLeave (d : Dev) (c : Ctx) : Dev := if d.isHead && c.owner ≤ 0x3FF then d.flRelease c.owner c.kind c.addr else d

/-! ## Receive windows (R487) -/

/-- A receiver takes a SEQ: a higher EPOCH restarts the window, else a COUNT above the highest or unseen within the 64 below it. -/
def SeqWin.take (w : SeqWin) (epoch count : Nat) : Option SeqWin :=
  match w.top with
  | none => if w.epoch ≤ epoch then some { epoch := epoch, top := some count, seen := [count] } else none
  | some t =>
    if w.epoch < epoch then some { epoch := epoch, top := some count, seen := [count] }
    else if epoch < w.epoch then none
    else if t < count then some { w with top := some count, seen := count :: w.seen.filter (fun c => count ≤ c + 64) }
    else if t ≤ count + 64 && !w.seen.contains count then some { w with seen := count :: w.seen }
    else none

end Sys2Proof.Machine
end

