-- ==== Sys2Proof/Machine/RegWrite.lean ====
section
/-! DEFINITION. Sys2Proof/Machine/RegWrite.lean: a write to a register under its access codes and clamps (R16 to R20), without the
effects that some registers add. -/

namespace Sys2Proof.Machine

/-- The function to which an instance of a register belongs is OFF, or it belongs to none. -/
def Dev.regOff (d : Dev) (r : RegDef) (i : Nat) : Bool :=
  match r.fix with | some f => d.isOff (if r.stride = 4 then f else f + i) | none => true

/-- A register's word after a write. -/
def Dev.nextWord (d : Dev) (r : RegDef) (i off v : Nat) : Nat :=
  d.crossClamp r.off i (r.next (d.on F.GLB_CFG_LOCK_LOCK) (d.regOff r i) (d.word off) v)

/-- A register holds a stored field in which two words differ (R85). -/
def RegDef.storedDiff (r : RegDef) (a b : Nat) : Bool := r.flds.any (fun f => f.stored && decide (bitsOf a f.lo f.len ≠ bitsOf b f.lo f.len))

/-- Write a register (R19, R20); a stored field that changes is on its way to the configuration store (R85). -/
def Dev.plainWrite (d : Dev) (off v : Nat) : Dev :=
  if absentOff d.grade off then d
  else match findReg off with
    | none => d
    | some (r, i) =>
      let w := d.nextWord r i off v
      let d1 := d.setWord off w
      if r.storedDiff (d.word off) w then d1.touch off else d1

end Sys2Proof.Machine
end

