-- ==== Sys2Proof/Machine/Rings.lean ====
section
/-! DEFINITION. Sys2Proof/Machine/Rings.lean: doorbells, fetch, completions, events and interrupts of the Ring engine (R57 to R104). -/

namespace Sys2Proof.Machine

/-- Answer the next state, the device changed. -/
def State.go (s : State) (f : Dev → Dev) : Host.Outcome State Fault Refusal := .next { s with dev := f s.dev }

/-- Entries of a pair's submission ring. -/
def Dev.subSize (d : Dev) (p : Nat) : Nat := 2 ^ d.rd F.RNG_PAIR_CFG_SUB_LOG2 p

/-- The pair is an event pair. -/
def Dev.isEventPair (d : Dev) (p : Nat) : Bool := d.on F.RNG_PAIR_CFG_EVENT p

/-- Descriptors waiting on a pair's submission ring (R69). -/
def Dev.waitingCount (d : Dev) (p : Nat) : Nat :=
  let n := d.subSize p
  ((d.pair p).tail + n - (d.pair p).subHead % n) % n

/-- A SUB_TAIL write (R54, R68, R69, R97). -/
def Dev.subTail (d : Dev) (p v : Nat) : Dev :=
  if !d.live then d
  else if d.pairState p ≠ .on then d.bump F.RNG_PAIR_CNT_DB_IGNORED p
  else if d.isEventPair p then d.wrb F.RNG_PAIR_STS_EVT_DB p true
  else
    let n := d.subSize p
    let t := min (v % 65536) (n - 1)
    let x := d.pair p
    if (t + n - x.subHead) % n < (x.tail + n - x.subHead) % n then
      (d.wrb F.RNG_PAIR_STS_TAIL_BACK p true).bump F.RNG_PAIR_CNT_TAIL_BACKS p
    else d.setPair p { x with tail := t }

/-- A CMP_HEAD write (R54, R68, R72): it acts on a pair that is ON, and on a stopping one, whose 1 s it restarts (R96). -/
def Dev.cmpHeadWrite (d : Dev) (p v : Nat) : Dev :=
  if !d.live then d
  else if d.pairState p ≠ .on ∧ d.pairState p ≠ .stopping then d.bump F.RNG_PAIR_CNT_DB_IGNORED p
  else
    let h := min (v % 65536) (d.cmpSize p - 1)
    let x := d.pair p
    (d.setPair p { x with cmpHead := h, fullSince := if h ≠ x.cmpHead then none else x.fullSince }).watchFull p

/-- A write of an aligned word to BAR2 (R53): page n, at n × 0x1000, holds the two registers of ring pair n; the rest ignores it. -/
def Dev.bar2Write (d : Dev) (off v : Nat) : Dev :=
  let p := off / 0x1000
  if 64 ≤ p then d
  else match off % 0x1000 with
    | 0 => d.subTail p v
    | 4 => d.cmpHeadWrite p v
    | _ => d

/-- A read of a word of BAR2 (R53): both registers are write-only and the rest of a page reads 0. -/
def Dev.bar2Read (_d : Dev) (_off : Nat) : Nat := 0

/-- DOORBELL_SUB_TAIL (R69): a write to word 0 of the page (R53). -/
def execDoorbellSubTail (pair : Fin 64) (val : Word) (s : State) : Host.Outcome State Fault Refusal :=
  s.go (fun d => d.bar2Write (0x1000 * pair) val.toNat)

/-- DOORBELL_CMP_HEAD (R72): a write to word 1 of the page (R53). -/
def execDoorbellCmpHead (pair : Fin 64) (val : Word) (s : State) : Host.Outcome State Fault Refusal :=
  s.go (fun d => d.bar2Write (0x1000 * pair + 4) val.toNat)

/-! ## Fetch (R74, R91 to R94) -/

/-- The pair has descriptors that the fetch engine may take (R72, R91, R97). -/
def Dev.fetchable (d : Dev) (p : Nat) : Bool :=
  decide (d.pairState p = .on) && !d.isEventPair p && decide (0 < d.waitingCount p) && decide ((d.pair p).waiting.length < 64)

/-- Of several pairs of one level, the next after the one granted last (R91). -/
def nextAfter (last : Option Nat) (ps : List Nat) : Option Nat :=
  match last with
  | none => ps.head?
  | some l => match ps.find? (fun p => decide (l < p)) with | some p => some p | none => ps.head?

/-- The pair that the fetch engine grants next, and the round it grants it in (R91). -/
def Dev.grant (d : Dev) : Option (Nat × List Nat) :=
  let ws := (List.range 64).filter d.fetchable
  let open_ := ws.filter (fun p => !d.rng.granted.contains p)
  let (cand, round) := if open_.isEmpty then (ws, []) else (open_, d.rng.granted)
  let top := cand.foldl (fun m p => max m (d.rd F.RNG_PAIR_CFG_PRIO p)) 0
  (nextAfter (d.rng.last.find top) (cand.filter (fun p => d.rd F.RNG_PAIR_CFG_PRIO p = top))).map (fun p => (p, round))

/-- One descriptor becomes held; its sequence is checked (R74). -/
def Dev.takeDesc (d : Dev) (p : Nat) (x : Desc) : Dev :=
  let q := d.pair p
  let id := d.rng.nextId
  let seq := x.word 1 % 65536
  let d1 : Dev := { d with rng := { d.rng with nextId := id + 1 } }
  let q' : Pair := { q with
    subHead := (q.subHead + 1) % d.subSize p
    expSeq := (seq + 1) % 65536
    held := q.held ++ [{ id := id, desc := x, started := false, result := none, mute := 0 }] }
  let d2 := d1.setPair p q'
  if seq = q.expSeq then d2
  else (d2.complete p id 3 q.expSeq).wrb F.RNG_PAIR_STS_SEQ_SEEN p true

/-- The latency registers after one measured fetch (R93): MAX and the mean each saturate, no sample does. -/
def Dev.latency (d : Dev) (ns : Nat) : Dev :=
  let ls := (ns :: d.rng.lats).take 256
  let d1 : Dev := { d with rng := { d.rng with lats := ls } }
  let d2 := d1.wr F.RNG_LAT_MEAS_MAX 0 (max (d1.rd F.RNG_LAT_MEAS_MAX) (min ns 65535))
  d2.wr F.RNG_LAT_MEAS_AVG 0 (min 65535 (sumNat ls / max 1 ls.length))

/-- The host address of a submission entry (R63): base + 64 × index. -/
def Dev.subAddr (d : Dev) (p i : Nat) : Nat :=
  d.word (0x10004 + 0x40 * p) + 2 ^ 32 * d.word (0x10008 + 0x40 * p) + 64 * i

/-- The host address of a completion entry (R63): base + 32 × index. -/
def Dev.cmpAddr (d : Dev) (p i : Nat) : Nat :=
  d.word (0x1000C + 0x40 * p) + 2 ^ 32 * d.word (0x10010 + 0x40 * p) + 32 * i

/-- A grant: up to four descriptors of the granted pair are read from host memory (R91), each at its place on the ring (R63). One
measured latency belongs to the grant's read (DESIGN CHOICE, log 106: R93 speaks of fetches, and a grant is one). -/
def Dev.fetchGrant (d : Dev) (descs : List Desc) (ns : Nat) : Dev :=
  if !d.live then d
  else match d.grant with
    | none => d
    | some (p, round) =>
      let n := min 4 (d.waitingCount p)
      let lvl := d.rd F.RNG_PAIR_CFG_PRIO p
      let d1 : Dev := { d with
        rng := { d.rng with granted := p :: round, last := d.rng.last.put lvl p }
        out := ((List.range n).map (fun k => Out.hostRead (d.subAddr p (((d.pair p).subHead + k) % d.subSize p)) 64)).reverse ++ d.out }
      ((descs.take n).foldl (fun (x : Dev) y => x.takeDesc p y) d1).latency ns

/-- FETCH_GRANT (R91). -/
def execFetchGrant (descs : List Desc) (latNs : Nat) (s : State) : Host.Outcome State Fault Refusal :=
  if grantOk descs then s.go (fun d => d.fetchGrant descs latNs)
  else .fault (.illFormedCommand "FETCH_GRANT")

/-- A fetch that failed twice (R94): FETCH_ERR, the pair FAILED, AER, one record. -/
def Dev.fetchFail (d : Dev) (p : Nat) (e : AerErr) : Dev :=
  if d.live && d.fetchable p then
    ((d.wrb F.RNG_PAIR_STS_FETCH_ERR p true).emit (.aer e)).failFn (64 + p)
  else d

/-- FETCH_FAILED (R94): the pair, and the error that the second failure reports. -/
def execFetchFailed (req : Fin 64 × AerErr) (s : State) : Host.Outcome State Fault Refusal := s.go (fun d => d.fetchFail req.1 req.2)

/-! ## Completions and events leave (R72, R73, R80, R99) -/

/-- TIME of R80: bits [35:5] of the time counter. -/
def Dev.time31 (d : Dev) : Nat := (d.tim.time / 32) % 2 ^ 31

/-- Write one entry of eight words at the tail of a completion ring: word 7 gets PHASE (R73). -/
def Dev.putEntry (d : Dev) (p : Nat) (w : List Nat) (w7 : Nat) (irq : Bool) : Dev :=
  let x := d.pair p
  let t := (x.cmpTail + 1) % d.cmpSize p
  let d1 := d.emit (.entry p x.cmpTail (d.cmpAddr p x.cmpTail) (w ++ [w7 % 2 ^ 31 + b2n x.phase * 2 ^ 31]))
  let d2 := d1.setPair p { x with cmpTail := t, phase := if t = 0 then !x.phase else x.phase }
  d2.entryWritten p irq

/-- Completions of a pair are posted while it is ON, STOPPING or FAILED (R94, R95). -/
def Dev.posts (d : Dev) (p : Nat) : Bool := decide (d.pairState p ≠ .off) && decide (d.pairState p ≠ .starting)

/-- A waiting completion is written once the ring has room (R72, R80). -/
def Dev.completionWrite (d : Dev) (p : Nat) : Dev :=
  if d.live && d.posts p && !d.cmpFull p then
    match (d.pair p).waiting with
    | [] => d
    | c :: t =>
      let d1 := d.updPair p (fun x => { x with waiting := t })
      let w := [c.tagSeq, c.st + 256 * c.op + 65536 * c.sub, c.target] ++ c.res
      (d1.putEntry p w d1.time31 c.irq).watchFull p
  else d.watchFull p

/-- COMPLETION_WRITE (R72). -/
def execCompletionWrite (pair : Fin 64) (s : State) : Host.Outcome State Fault Refusal := s.go (fun d => d.completionWrite pair)

/-- The words of an event entry (R99). -/
def Event.words (e : Event) : List Nat :=
  [e.code % 65536 + 65536 * (e.sev % 16) + 2 ^ 20 * (e.cls % 16) + 2 ^ 24 * (e.src % 256), e.target,
   e.stamp % 2 ^ 32, e.stamp / 2 ^ 32 % 2 ^ 32, e.w4, e.w5, e.w6]

/-- The oldest event of queue 13 is written to its event pair once the ring has room (R98, R100, R466). -/
def Dev.eventPost (d : Dev) : Dev :=
  if !d.live then d
  else match d.laneHead 13 with
    | none => d
    | some (n, i) =>
      match (match i.payload with | .event e => some e | _ => none) with
      | none => d
      | some e =>
        match d.eventPair e.cls with
        -- DESIGN CHOICE (log 107): a merged entry that is dropped here counts once
        | none => (d.laneDrop 13 n).bump F.RNG_EVT_UNROUTED
        | some p =>
          if d.cmpFull p then d
          else
            let d1 := (d.laneDrop 13 n).putEntry p e.words (65536 * e.merged) false
            if e.cls = 0 ∧ e.target / 2 ^ 28 = 1 ∧ ¬ d1.isBow then d1.editCtx (e.target % 2 ^ 20) (fun c => { c with alarmBits := 0 }) else d1

/-- EVENT_POST (R100). -/
def execEventPost (s : State) : Host.Outcome State Fault Refusal := s.go Dev.eventPost

/-! ## Interrupts (R102) -/

/-- The moderation timer of a pair runs out (R101, R102): time moves to the instant, and the vector fires. -/
def Dev.modTimer (d : Dev) (p : Nat) : Dev :=
  match (d.pair p).oldest with
  | none => d
  | some t =>
    let us := d.rd F.RNG_IRQ_MOD_TIME p
    if d.live && decide (us ≠ 0) then (d.toMono (t + 500 * us)).signal p else d

/-- IRQ_MOD_TIMER (R102). -/
def execIrqModTimer (pair : Fin 64) (s : State) : Host.Outcome State Fault Refusal := s.go (fun d => d.modTimer pair)

/-- A vector is unmasked: its pending bit sends one message (R102). -/
def Dev.unmask (d : Dev) (v : Nat) : Dev :=
  if !d.live then d
  else
    let x := d.vec v
    let d1 := d.setVec v { x with masked := false, pend := false }
    if x.pend then d1.emit (.msix v) else d1

/-- MSIX_UNMASK (R102). -/
def execMsixUnmask (vec : Fin 128) (s : State) : Host.Outcome State Fault Refusal := s.go (fun d => d.unmask vec)

/-- The ring state of a pair on enable (R67): heads, tails and the expected sequence 0, PHASE 1. Descriptors of an earlier enable run on
without a completion (R96). -/
def Dev.pairFresh (d : Dev) (p : Nat) : Dev := d.setPair p { held := (d.pair p).held }

/-- A stopping pair whose ring stayed full for 1 s goes to OFF (R96), and with PENDING starts again (R67). A held descriptor that had
not started may still start, as the part finishes every descriptor it holds (R95; DESIGN CHOICE, log 108). -/
def Dev.stopTimeout (d : Dev) (p : Nat) : Dev :=
  match (d.pair p).fullSince with
  | none => d
  | some t =>
    if d.live && decide (d.pairState p = .stopping) then
      let d1 := d.toMono (t + 500000000)
      let x := d1.pair p
      let d2 := d1.bump F.RNG_PAIR_CNT_CMP_DROP p x.waiting.length
      let d3 := d2.setPair p { x with waiting := [], fullSince := none, held := x.held.map (fun h => { h with mute := 1 }) }
      let f := d3.fnOf (64 + p)
      let d4 := d3.setFn (64 + p) { f with st := if f.pending then .starting else .off, pending := false, since := d3.tim.mono }
      if f.pending then d4.pairFresh p else d4
    else d

/-- STOPPING_PAIR_TIMEOUT (R96). -/
def execStoppingPairTimeout (pair : Fin 64) (s : State) : Host.Outcome State Fault Refusal := s.go (fun d => d.stopTimeout pair)

/-- RNG_LAT_CLR (R93): MAX returns to 0. -/
def execRngLatClr (_val : Word) (s : State) : Host.Outcome State Fault Refusal :=
  s.go (fun d => if d.live then d.wr F.RNG_LAT_MEAS_MAX 0 0 else d)

/-- RNG_PAIR_CNT_CLEAR (R66): all three counts return to 0. -/
def execRngPairCntClear (pair : Fin 64) (_val : Word) (s : State) : Host.Outcome State Fault Refusal :=
  s.go (fun d => if d.live then d.setWord (0x10024 + 0x40 * pair) 0 else d)

/-! ## Opcodes of this chapter that need no other block (R79, R82) -/

/-- RESERVED_OPCODE (R79): the next held descriptor of such an opcode completes with BAD_OPCODE. -/
def execReservedOpcode (pair : Fin 64) (s : State) : Host.Outcome State Fault Refusal :=
  s.go (fun d =>
    if !d.live then d
    else match d.startable pair (fun x => !opKnown d.grade (descOp x)) with
      | none => d
      | some h => d.complete pair h.id 1 0)

/-- DIAG_ECHO (R82): words 3 to 6 come back. -/
def execDiagEcho (pair : Fin 64) (s : State) : Host.Outcome State Fault Refusal :=
  s.go (fun d => d.onDesc pair 0xB0 (fun d h =>
    d.complete pair h.id 0 0 [h.desc.word 3, h.desc.word 4, h.desc.word 5, h.desc.word 6]))

end Sys2Proof.Machine
end

