-- ==== Sys2Proof/Machine/Events.lean ====
section
/-! DEFINITION. Sys2Proof/Machine/Events.lean: the commands of the Fault collector and the event recorder (R556 to R588). -/

namespace Sys2Proof.Machine

/-- Report a fault while the device runs. -/
def Dev.report (d : Dev) (code src cls detail : Nat) (own : Bool := false) : Dev :=
  if d.live then d.fault code src cls detail own else d

/-! ## Sources of R558 -/

/-- A core is silent for 100 ms (R558): cores 0 to 3 of the Cox cluster, 4 the Weigh-in core, which then stops (R564). -/
def Dev.watchdog (d : Dev) (core : Nat) : Dev :=
  if !d.live then d
  else if core = 4 then
    (({ d with glb := { d.glb with tarRuns := false } } : Dev).wrb F.TAR_STS_RUNNING 0 false).fault 0x0F11 0xB 4 0
  else (d.wr F.COX_STS_RUN 0 (d.rd F.COX_STS_RUN &&& (15 - 2 ^ core))).fault 0x0F10 0x14 4 core

/-- CORE_WATCHDOG_EXPIRY (R558). -/
def execCoreWatchdogExpiry (core : Fin 5) (s : State) : Host.Outcome State Fault Refusal := s.go (fun d => d.watchdog core)

/-- Class and block of an uncorrected SRAM error by array 1 to 6 (R558). -/
def sramSource (array : Nat) : Nat × Nat :=
  match array with
  | 1 => (1, 2) | 2 => (1, 3) | 3 => (1, 4) | 4 => (4, 0x14) | 5 => (3, 0xC) | _ => (4, 0xB)

/-- A corrected SRAM error is counted by array (R24). No register shows the count, and no row of the command table brings the event. -/
def Dev.sramCorrected (d : Dev) (array : Nat) : Dev :=
  { d with flt := { d.flt with sramCorr := d.flt.sramCorr.put array (d.flt.sramCorr.getD array 0 + 1) } }

/-- An uncorrected SRAM error (R24, R558); in the Weigh-in SRAM the core stops (R564). -/
def Dev.sramError (d : Dev) (array : Nat) : Dev :=
  let c := sramSource array
  let d1 := if d.live && array = 6 then ({ d with glb := { d.glb with tarRuns := false } } : Dev).wrb F.TAR_STS_RUNNING 0 false else d
  d1.report 0x0F13 c.2 c.1 array

/-- SRAM_ECC_UNCORRECTED (R24). -/
def execSramEccUncorrected (array : Fin 6) (s : State) : Host.Outcome State Fault Refusal :=
  s.go (fun d => d.sramError (array + 1))

/-- An item of the overflow ring is lost to an error in its entry (R472). -/
def Dev.ringLose (d : Dev) (q n : Nat) : Dev :=
  let l := d.lane q
  if n < l.ring.length then
    (d.setLane q { l with ring := l.ring.eraseIdx n }).bump F.LNE_ECC_DROP
  else d

/-- An uncorrected LPDDR5 error by region 1 to 7 (R558), Fatal in the billing extension region, with the ring item it hits. -/
def Dev.dramError (d : Dev) (region : Nat) (item : Option (Nat × Nat)) : Dev :=
  let d1 := match item with
    | some (q, n) => if d.live && region = 4 then d.ringLose q n else d
    | none => d
  d1.report 0x0F14 0xD (if region = 2 then 4 else 3) region

/-- LPDDR5_ECC_UNCORRECTED (R558). -/
def execLpddr5EccUncorrected (region : Fin 7) (item : Option (Fin 256 × Nat)) (s : State) : Host.Outcome State Fault Refusal :=
  s.go (fun d => d.dramError (region + 1) (item.map (fun i => (i.1.val, i.2))))

/-- The block that owns an eMRAM area 1 to 5 (R558). -/
def emramBlock (area : Nat) : Nat :=
  match area with | 1 => 0x14 | 2 => 0xB | 3 => 0x10 | 4 => 0 | _ => 0xC

/-- EMRAM_ECC_UNCORRECTED (R558): Degraded. -/
def execEmramEccUncorrected (area : Fin 5) (s : State) : Host.Outcome State Fault Refusal :=
  s.go (fun d => d.report 0x0F15 (emramBlock (area + 1)) 3 (area + 1))

/-- BILLING_ACCESS_REFUSED (R26): Fatal; initiator 1 Cox, 2 Ring engine, 3 other. -/
def execBillingAccessRefused (initiator : Fin 3) (s : State) : Host.Outcome State Fault Refusal :=
  s.go (fun d => d.report 0x0F16 0xD 4 (initiator + 1))

/-- The junction temperature is measured (R558, R672); a threshold reports when it is crossed (DEDUCED). -/
def Dev.junction (d : Dev) (t : Int) : Dev :=
  let d0 := d.setTemp t
  let tj := clampInt (-128) 127 t
  let d1 := ((d0.wr F.PWR_TEMP_TJ 0 (unsigned 8 tj)).wr F.PWR_TEMP_TJ_MAX 0 (unsigned 8 (max tj (d0.rdS F.PWR_TEMP_TJ_MAX)))).wr
    F.PWR_TEMP_TJ_MIN 0 (unsigned 8 (min tj (d0.rdS F.PWR_TEMP_TJ_MIN)))
  let d2 := if decide (d.glb.temp ≤ 125) && decide (125 < t) then d1.report 0x0F17 0x13 3 1 else d1
  if decide (d.glb.temp ≤ 135) && decide (135 < t) then d2.report 0x0F17 0x13 4 2 else d2

/-- JUNCTION_OVERTEMP (R558). -/
def execJunctionOvertemp (tj : Int) (s : State) : Host.Outcome State Fault Refusal := s.go (fun d => d.junction tj)

/-- A PLL loses lock after boot (R33, R34): Fatal. -/
def Dev.pllLoss (d : Dev) (mem : Bool) : Dev :=
  if !d.live then d
  else
    let d1 := d.wrb (if mem then F.GLB_CLK_STS_MEM_LOCK else F.GLB_CLK_STS_MAIN_LOCK) 0 false
    (d1.wrb F.GLB_CLK_STS_LOSS_SEEN 0 true).fault 0x0F12 0 4 (if mem then 2 else 1)

/-- PLL_LOCK_LOSS (R34). -/
def execPllLockLoss (mem : Bool) (s : State) : Host.Outcome State Fault Refusal := s.go (fun d => d.pllLoss mem)

/-- A parity or ECC error in the collector's own registers (R568): the safe state without classification; FAULT_N held low. -/
def Dev.selfFault (d : Dev) (reg : Nat) : Dev :=
  if !d.live then d
  else
    let n := d.freeCtr
    let d0 : Dev := { d with freeCtr := n + 1, glb := { d.glb with faultHeld := true } }
    let d1 := (d0.enterSafe.wrb F.FLT_STS_SELF 0 true).wrb F.FLT_STS_FATAL 0 true
    let d2 : Dev := { d1 with flt := { d1.flt with autoRst := if reg = 0 then 30 else d1.flt.autoRst } }
    let sd := fun k => (Config.sourceData n k).toNat
    let d3 := d2.record 0x0F18 0xF 4 reg (sd 4) (sd 5) (sd 6)
    let d4 := d3.post 6 0x0F18 4 0xF 0 (sd 4) (sd 5) (sd 6)
    let d5 := if d4.on F.RNG_FAULT_VEC_EN then d4.fire (d4.rd F.RNG_FAULT_VEC_VEC) else d4
    if d.isSafe then d5 else d5.commit

/-- FLT_SELF_FAULT (R568). -/
def execFltSelfFault (reg : BitVec 16) (s : State) : Host.Outcome State Fault Refusal := s.go (fun d => d.selfFault reg.toNat)

/-! ## Pins and latches -/

/-- FAULT_PULSE_END (R561): the pulse ends 10 ms after the latest classification. -/
def execFaultPulseEnd (s : State) : Host.Outcome State Fault Refusal :=
  s.go (fun d => match d.flt.pulseEnd with
    | none => d
    | some t =>
      let d1 := (d.toMono t).wrb F.FLT_STS_PULSE 0 false
      { d1 with flt := { d1.flt with pulseEnd := none } })

/-- A write to FLT_PIN_CTRL (R562, R563, R568): DRIVE, and with the key a power-cycle request. -/
def Dev.pinCtrl (d : Dev) (v : Nat) : Dev :=
  if !d.live || d.on F.FLT_STS_SELF then d
  else
    let d1 := d.wr F.FLT_PIN_CTRL_DRIVE 0 (v % 2)
    if F.FLT_PIN_CTRL_KEY.get v = 0xF1C7 ∧ F.FLT_PIN_CTRL_CYC_REQ.get v = 1 then
      let d2 := if d1.isSafe then d1 else d1.enterSafe.commit
      d2.cycleReq 2
    else d1

/-- PWR_CYCLE_REQUEST (R563). -/
def execPwrCycleRequest (val : Word) (s : State) : Host.Outcome State Fault Refusal := s.go (fun d => d.pinCtrl val.toNat)

/-- FAULT_N_DRIVE (R562). -/
def execFaultNDrive (val : Word) (s : State) : Host.Outcome State Fault Refusal := s.go (fun d => d.pinCtrl val.toNat)

/-- The level of FAULT_N: true when the collector drives it low (R561, R562, R568, R622). -/
def Dev.faultNLow (d : Dev) : Bool :=
  if d.glb.faultHeld || decide (d.glb.phase = .halted) then true
  else if !d.live then false
  else d.on F.FLT_STS_PULSE || d.on F.FLT_PIN_CTRL_DRIVE

/-- A write of 1 to FLT_STS.DEGRADED (R560). -/
def Dev.degradedClear (d : Dev) (v : Nat) : Dev :=
  if d.live && F.FLT_STS_DEGRADED.get v = 1 && !d.degradedHolds then d.wrb F.FLT_STS_DEGRADED 0 false else d

/-- DEGRADED_CLEAR (R560). -/
def execDegradedClear (val : Word) (s : State) : Host.Outcome State Fault Refusal := s.go (fun d => d.degradedClear val.toNat)

/-- FLT_COUNTER_CLEAR (R588): FLT_FATAL_CNT, _DEGRADED_CNT, _FUNCTION_CNT, _NOTICE_CNT or FLT_HIST_OVF returns to 0. -/
def execFltCounterClear (counter : Fin 5) (_val : Word) (s : State) : Host.Outcome State Fault Refusal :=
  s.go (fun d => if d.live then d.setWord (0xF0020 + 4 * counter) 0 else d)

/-! ## Recorder -/

/-- The recorder freezes (R577). -/
def Dev.freeze (d : Dev) : Dev :=
  if d.evr.frozen then d else { d with evr := { d.evr with frozen := true, frozenAt := d.tim.mono } }

/-- A write to EVR_FREEZE (R577, R587). -/
def Dev.freezeWrite (d : Dev) (v : Nat) : Dev :=
  if !d.live then d
  else
    let d1 := d.wr F.EVR_FREEZE_FREEZE_MAX 0 (max 1 (F.EVR_FREEZE_FREEZE_MAX.get v))
    if F.EVR_FREEZE_FREEZE.get v = 1 then (d1.freeze).wrb F.EVR_FREEZE_FREEZE 0 true
    else (d1.unfreeze).wrb F.EVR_FREEZE_FREEZE 0 false

/-- EVR_FREEZE (R577). -/
def execEvrFreeze (val : Word) (s : State) : Host.Outcome State Fault Refusal :=
  s.go (fun d => if d.live then (d.freezeWrite val.toNat).touch 0x100004 else d)

/-- FREEZE_MAX_EXPIRY (R577): FREEZE_MAX seconds after it began, the freeze ends. -/
def execFreezeMaxExpiry (s : State) : Host.Outcome State Fault Refusal :=
  s.go (fun d =>
    if d.live && d.evr.frozen then
      ((d.toMono (d.evr.frozenAt + d.rd F.EVR_FREEZE_FREEZE_MAX * 500000000)).unfreeze).wrb F.EVR_FREEZE_FREEZE 0 false
    else d)

/-- LOG_FREEZE (R577): freezes or unfreezes, and returns the staging fill. -/
def execLogFreeze (pair : Fin 64) (s : State) : Host.Outcome State Fault Refusal :=
  s.go (fun d => d.onDesc pair 0x91 (fun d h =>
    let n := d.evr.staged.length
    let d1 := if h.desc.word 3 % 2 = 1 then (d.freeze).wrb F.EVR_FREEZE_FREEZE 0 true
      else (d.unfreeze).wrb F.EVR_FREEZE_FREEZE 0 false
    d1.complete pair h.id 0 0 [n]))

/-- The record at an index, oldest 0. -/
def Dev.recAt (d : Dev) (i : Nat) : Option Rec :=
  let n := d.evr.recs.length
  if i < n then d.evr.recs[n - 1 - i]? else none

/-- LOG_READ (R578): records from an index up to the fill, as stored. -/
def execLogRead (pair : Fin 64) (s : State) : Host.Outcome State Fault Refusal :=
  s.go (fun d => d.onDesc pair 0x90 (fun d h =>
    let n := d.evr.recs.length
    let i := h.desc.word 6
    let k := min (min (count4096 (h.desc.word 7)) (n - i)) (bufLen h.desc / 32)
    let rs := slice d.evr.recs.reverse i k
    let d1 := if k = 0 then d else d.writeBuf h.desc (rs.flatMap (fun r => wordsBytes (r.words.map BitVec.toNat)))
    d1.complete pair h.id 0 0 [k, n]))

/-- EVR_SNAPSHOT_READ (R578): a read of EVR_DATA0 copies the selected record. -/
def execEvrSnapshotRead (s : State) : Host.Outcome State Fault Refusal :=
  s.go (fun d =>
    if !d.live then d
    else
      let w := match d.recAt (d.rd F.EVR_SEL_INDEX) with | some r => r.words | none => []
      ({ d with evr := { d.evr with copy := w } } : Dev).emit (.readData (w.getD 0 0).toNat))

/-- OPTIME_SAVE (R573): the operating time reaches the configuration store. -/
def execOptimeSave (s : State) : Host.Outcome State Fault Refusal :=
  s.go (fun d => if d.live then { d with evr := { d.evr with saved := d.evr.optime } } else d)

/-! ## Fault history (R569, R570) -/

/-- The four words of a history entry. -/
def Hist.words (h : Hist) : List Nat :=
  [h.code % 65536 + 65536 * (h.src % 256) + 2 ^ 24 * (h.cls % 16) + 2 ^ 28 * b2n h.safe, h.rep % 65536 + 65536 * (h.detail % 65536),
   h.first % 2 ^ 32, h.last % 2 ^ 32]

/-- FAULT_HIST (R569): the entries, newest first, 16 B each. -/
def execFaultHist (pair : Fin 64) (s : State) : Host.Outcome State Fault Refusal :=
  s.go (fun d => d.onDesc pair 0x92 (fun d h =>
    if bufLen h.desc < 256 then d.complete pair h.id 4 20
    else
      (d.writeBuf h.desc (d.flt.hist.flatMap (fun e => wordsBytes e.words))).complete pair h.id 0 0 [d.flt.hist.length]))

/-- FAULT_HIST_SNAPSHOT_READ (R586): a read of FLT_HIST_DATA0 copies the selected entry. -/
def execFaultHistSnapshotRead (s : State) : Host.Outcome State Fault Refusal :=
  s.go (fun d =>
    if !d.live then d
    else
      let w := match d.flt.hist[d.rd F.FLT_HIST_SEL_INDEX]? with | some h => h.words | none => []
      ({ d with flt := { d.flt with histCopy := w.map (BitVec.ofNat 32) } } : Dev).emit (.readData (w.getD 0 0)))

end Sys2Proof.Machine
end

