-- ==== Sys2Proof/Machine/Lanes.lean ====
section
/-! DEFINITION. Sys2Proof/Machine/Lanes.lean: the commands of the Lane manager (R459, R461, R468 to R472). -/

namespace Sys2Proof.Machine

/-- The ring has fallen below half: 0x0202 may be posted again (R580). -/
def Dev.ringCheck (d : Dev) : Dev :=
  if 2 * d.ringUsed < d.ringSegs * 256 then { d with lne := { d.lne with warned := false } } else d

/-- A queue below 7/8 of its quota takes its oldest ring entries back (R472). -/
def Dev.queueRefill (d : Dev) (q : Nat) : Dev :=
  if 8 * d.laneCells q < 7 * d.quota q then (d.refill (d.lane q).ring.length q).ringCheck else d

/-- QUEUE_REFILL (R472). -/
def execQueueRefill (queue : Fin 256) (s : State) : Host.Outcome State Fault Refusal :=
  s.go (fun d => if d.live then d.queueRefill queue else d)

/-- HOLD_RELEASE (R461): held producers place their items while they fit. -/
def execHoldRelease (queue : Fin 256) (s : State) : Host.Outcome State Fault Refusal :=
  s.go (fun d => if d.live then d.release (d.lane queue).waits.length queue else d)

/-- A write to LNE_Q_CTL (R468). -/
def Dev.queueFlush (d : Dev) (q v : Nat) : Dev :=
  if !d.live || v % 2 = 0 then d
  else if laneFlushable q then d.flushNow q
  else d.bump F.LNE_FLUSH_REFUSED

/-- QUEUE_FLUSH (R468). -/
def execQueueFlush (queue : Fin 256) (val : Word) (s : State) : Host.Outcome State Fault Refusal :=
  s.go (fun d => d.queueFlush queue val.toNat)

/-- Every discarded cell and ring entry has been freed (R469). -/
def Dev.flushDone (d : Dev) (q : Nat) : Dev :=
  let l := d.lane q
  if l.flushing then (d.setLane q { l with flushing := false, freeing := 0, freeingSegs := 0 }).ringCheck else d

/-- FLUSH_DONE (R469). -/
def execFlushDone (queue : Fin 256) (s : State) : Host.Outcome State Fault Refusal := s.go (fun d => d.flushDone queue)

/-- The header of a cell (R459): NEXT, FIRST, LAST, BYTES, PRIO, ITEM_LEN, QUEUE. -/
def cellHeader (next : Option Nat) (first last : Bool) (bytes prio len queue : Nat) : BitVec 64 :=
  BitVec.ofNat 64 (next.getD 0x1FFFF % 2 ^ 17 + 2 ^ 17 * b2n first + 2 ^ 18 * b2n last + 2 ^ 19 * (bytes % 128) + 2 ^ 26 * (prio % 8)
    + 2 ^ 32 * (if first then len % 4096 else 0) + 2 ^ 44 * (queue % 256))

/-- The headers of the cells that an item of queue `q` lies in, the first at `at_`, the next item of the queue at `after` (R458, R459). -/
def Item.headers (i : Item) (q : Nat) (after : Option Nat) (first : Bool) : List Nat → Nat → List (BitVec 64)
  | [], _ => []
  | [_], left => [cellHeader after first true left i.prio i.bytes q]
  | _ :: c :: t, left => cellHeader (some c) first false 120 i.prio i.bytes q :: i.headers q after false (c :: t) (left - 120)

/-- A list without the `n`-th of the entries that `p` picks, or without that one and all such behind it. -/
def dropPicked {α : Type} (p : α → Bool) (all : Bool) : Nat → List α → List α
  | _, [] => []
  | n, x :: t =>
    if p x then
      match n with
      | 0 => if all then t.filter (fun y => !p y) else t
      | m + 1 => x :: dropPicked p all m t
    else x :: dropPicked p all n t

/-- An error in a cell of queues 32 to 159 (R459, R460): the waiting descriptor or completion it holds is gone, by a header error with all
behind it, which count when the pool scan frees them. -/
def Dev.pairCellError (d : Dev) (k n : Nat) (header : Bool) : Dev :=
  let p := if k < 96 then k - 32 else k - 96
  let x := d.pair p
  let y : Pair := if k < 96 then { x with held := dropPicked (fun h => !h.started) header n x.held }
    else { x with waiting := dropPicked (fun _ => true) header n x.waiting }
  let gone := (x.held.length - y.held.length) + (x.waiting.length - y.waiting.length)
  if gone = 0 then d
  else
    let l := d.lane k
    ((d.updPair p (fun _ => y)).setLane k { l with lostCells := l.lostCells + b2n header * gone
                                                   lostItems := l.lostItems + (gone - 1) }).bump F.LNE_ECC_DROP

/-- An uncorrected error in a cell (R459): of no item, in a payload word, or in a header, which loses the chain behind it. -/
def Dev.cellError (d : Dev) (q : Option Nat) (n : Nat) (header : Bool) : Dev :=
  if !d.live then d
  else
    let d1 := d.fault 0x0F13 2 1 1
    match q with
    | none => d1
    | some k =>
      if 32 ≤ k ∧ k ≤ 159 then d1.pairCellError k n header
      else
      let l := d1.lane k
      match l.cells[n]? with
      | none => d1
      | some _ =>
        if header then
          let gone := l.cells.drop n
          (d1.setLane k { l with cells := l.cells.take n
                                 lostCells := l.lostCells + sumNat (gone.map Item.cellCount)
                                 lostItems := l.lostItems + (gone.length - 1) }).bump F.LNE_ECC_DROP
        else (d1.setLane k { l with cells := l.cells.eraseIdx n }).bump F.LNE_ECC_DROP

/-- CELL_ECC_ERROR (R459). -/
def execCellEccError (queue : Option (Fin 256)) (item : Nat) (header : Bool) (s : State) : Host.Outcome State Fault Refusal :=
  s.go (fun d => d.cellError (queue.map Fin.val) item header)

/-- The pool scan ends: the lost chain's cells are free, its items counted (R459). -/
def Dev.scanDone (d : Dev) (q : Nat) : Dev :=
  let l := d.lane q
  (d.setLane q { l with lostCells := 0, lostItems := 0 }).bump F.LNE_ECC_DROP 0 l.lostItems

/-- POOL_SCAN_DONE (R459). -/
def execPoolScanDone (queue : Fin 256) (s : State) : Host.Outcome State Fault Refusal :=
  s.go (fun d => if d.live then d.scanDone queue else d)

end Sys2Proof.Machine
end

