-- ==== Sys2Proof/Machine/TimeEng.lean ====
section
/-! DEFINITION. Sys2Proof/Machine/TimeEng.lean: the Time engine: servo, holdover, steps, PTP, comparators, pulses, captures (R425 to R457)
and the validity of device time (R413, R414). -/

namespace Sys2Proof.Machine

/-! ## Validity (R413, R414) -/

/-- A change of validity writes one record and posts one TIME-class event (R413). -/
def Dev.timeCheck (d : Dev) : Dev :=
  let v := d.timeValid
  let d0 : Dev := { d with tim := { d.tim with freeStep := d.tim.freeStep || d.noTime } }
  if v = d.tim.valid then d0
  else
    let d1 : Dev := { d0 with tim := { d0.tim with valid := v } }
    d1.recordPost 8 (if v then 0x0C41 else 0x0C42) (if v then 0 else 1) 8 0 0 d1.timeSts

/-! ## Steps (R438, R446, R449) -/

/-- The beacon period of a port, ns (R451). -/
def Dev.beaconPer (d : Dev) (p : Nat) : Nat :=
  (if p < 2 then d.rd F.TIM_BCN_CFG_LINE_PER else d.rd F.TIM_BCN_CFG_RAD_PER) * 1000000000

/-- The first instant of a series that lies after `now`. -/
def seriesNext (start period now : Nat) : Nat :=
  if now < start then start else if period = 0 then start else start + ((now - start) / period + 1) * period

/-- A 64-bit instant held in two registers. -/
def Dev.quadAt (d : Dev) (lo hi : F) (i : Nat) : Nat := d.rd lo i + 2 ^ 32 * d.rd hi i

/-- AT of a host timer. -/
def Dev.htAt (d : Dev) (h : Nat) : Nat := d.quadAt F.TIM_HT_AT_LO_AT F.TIM_HT_AT_HI_AT h

/-- PERIOD of a host timer, ns. -/
def Dev.htPeriod (d : Dev) (h : Nat) : Nat := d.rd F.TIM_HT_PERIOD_PERIOD h * 1000000

/-- START of a pulse output. -/
def Dev.ppsStart (d : Dev) (n : Nat) : Nat := d.quadAt F.TIM_PPS_START_LO_START F.TIM_PPS_START_HI_START n

/-- The first instant after `now` of a series that has `t` as a member: `t` itself unless a step back left earlier members ahead. -/
def seriesBack (t period now : Nat) : Nat := if period = 0 then t else t - (t - 1 - now) / period * period

/-- Comparators after a step back or forward: host timers and beacons keep a skipped instant, which fires once; series re-align (R446). -/
def Dev.realign (d : Dev) (back : Bool) : Dev :=
  let now := d.nowNs
  { d with tim := { d.tim with
      htNext := d.tim.htNext.mapVals (fun h t => if back ∧ d.htPeriod h ≠ 0 then seriesNext (d.htAt h) (d.htPeriod h) now else t)
      beacons := d.tim.beacons.mapVals (fun p t => if back then seriesBack t (d.beaconPer p) now else t)
      ppsNext := d.tim.ppsNext.mapVals (fun n t =>
        if d.rd F.TIM_PPS_PERIOD_PERIOD n = 0 then t else seriesNext (d.ppsStart n) (d.rd F.TIM_PPS_PERIOD_PERIOD n) now) } }

/-- Low and high word of a signed 64-bit value. -/
def lo64 (i : Int) : Nat := unsigned 64 i % 2 ^ 32

/-- High word of a signed 64-bit value. -/
def hi64 (i : Int) : Nat := unsigned 64 i / 2 ^ 32

/-- Groups whose latest close instant lies between the time after a step back and the time before it (R416). -/
def Dev.crossed (d : Dev) (before after : Nat) : Nat :=
  (d.tar.grps.filter (fun g => g.2.lastClose ≠ 0 && after < g.2.lastClose * 1000000000 && g.2.lastClose * 1000000000 ≤ before)).length

/-- Device time is stepped by a number of ns (R438): record 0x0C10, slots, comparators, beacons, and the Weigh-in partition. -/
def Dev.stepTime (d : Dev) (by_ : Int) : Dev :=
  let before := d.nowNs
  let tot : Int := (d.tim.time : Int) * 1000000000000 + d.tim.frac + by_ * 500000000000
  let time := (tot / 1000000000000).toNat
  let big := decide (900000000000 < by_.natAbs) && !d.tim.freeStep
  let held := big || decide (d.tar.stepPend ≠ 0)
  let d1 : Dev := { d with
    tim := { d.tim with time := time % 2 ^ 64, frac := (tot % 1000000000000).toNat, steps := d.tim.steps + 1, freeStep := false
                        stepped := [0, 1, 2, 3, 4, 5] }

    cals := d.cals.mapVals (fun _ c => { c with
      frames := c.frames.map (fun t => ((t : Int) + by_).toNat)
      pend := c.pend.map (fun e => if e.slot = 0 then e else { e with slot := ((e.slot : Int) + by_).toNat }) })
    met := { d.met with cms := d.met.cms.mapVals (fun _ c => { c with accs := c.accs.map (fun a => { a with flags := a.flags ||| 8 }) }) }
    tar := { d.tar with stepPend := if held then d.tar.stepPend + by_ else d.tar.stepPend } }
  let d2 := (((d1.mapCtx (fun _ c => if c.nextSlot = 0 then c else { c with nextSlot := ((c.nextSlot : Int) + by_).toNat })).wrb
    F.TIM_STS_STEPPED 0 true).bump F.TIM_STEPS).realign (decide (by_ < 0))
  let d3 := d2.record 0x0C10 8 1 0 (lo64 by_) (hi64 by_)
  let n := d3.crossed before d3.nowNs
  let d4 := if by_ < 0 ∧ n ≠ 0 then d3.record 0x0B10 0xB 1 n (lo64 by_) (hi64 by_) else d3
  let d5 := if held then d4.post 8 0x0C43 1 8 0 (lo64 d4.tar.stepPend) (hi64 d4.tar.stepPend) else d4
  d5.timeCheck

/-! ## The servo (R428, R431 to R433, R437) -/

/-- The integral preset so that the loop's rate equals the rate in force (R432). -/
def Dev.presetInteg (d : Dev) : Int := -(d.tim.rate * 65536000000000) / ((1000 * d.rd F.TIM_SERVO_CFG_KI : Nat) : Int)

/-- The rate of R432, 10^-12 units, before its clamp. -/
def Dev.servoRate (d : Dev) (o integ : Int) : Int :=
  -(((d.rd F.TIM_SERVO_CFG_KP : Nat) : Int) * o * 1000 * 256000000000 + ((d.rd F.TIM_SERVO_CFG_KI : Nat) : Int) * 1000 * integ) / 65536000000000

/-- Set TIM_RATE (R455). -/
def Dev.setRate (d : Dev) (r : Int) : Dev :=
  { (d.wr F.TIM_RATE_RATE 0 (unsigned 32 r)) with tim := { d.tim with rate := r } }

/-- LOCK after a measurement that made no step (R433). -/
def Dev.lockCount (d : Dev) (o : Int) : Dev :=
  let near := decide (o.natAbs ≤ 1000)
  let c := if near then d.tim.coarseRun + 1 else 0
  let f := if o.natAbs ≤ 50 then d.tim.fineRun + 1 else 0
  let x := if near then 0 else d.tim.farRun + 1
  let l := d.rd F.TIM_STS_LOCK
  let l1 := if 4 ≤ x then 0 else if 64 ≤ f then 2 else if 8 ≤ c then max l 1 else l
  let d1 := (d.wr F.TIM_STS_LOCK 0 l1)
  { (if l1 = 0 then d1 else d1.stepDone 4) with tim := { d.tim with coarseRun := c, fineRun := f, farRun := x } }

/-- The servo at one measurement (R432). -/
def Dev.servo (d : Dev) (o : Int) : Dev :=
  let t : Int := match d.tim.lastMeas with | some m => ((2 * (d.tim.mono - m) : Nat) : Int) | none => 0
  let integ := d.tim.integ + o * t
  let lim : Int := ((d.rd F.TIM_HOLD_CFG_MAX_SLEW * 1000000 : Nat) : Int)
  let d1 := d.setRate (clampInt (-lim) lim (d.servoRate o integ))
  (({ d1 with tim := { d1.tim with integ := integ } } : Dev)).lockCount o

/-- Whether a source's measurement is taken: enabled, and no preferred source available (R428). 1 PTP, 2 field-link time. -/
def Dev.sourceTaken (d : Dev) (src : Nat) : Bool :=
  let en := d.rd F.TIM_CFG_SRC_EN
  if src = 1 then bitAt en 0 && !(d.on F.TIM_CFG_PREFER_FL && d.tim.flAvail && bitAt en 1)
  else bitAt en 1 && !(!d.on F.TIM_CFG_PREFER_FL && d.tim.ptpAvail && bitAt en 0)

/-- Holdover ends at an applied measurement (R437). -/
def Dev.endHoldover (d : Dev) : Dev :=
  match d.tim.holdSince with
  | none => d
  | some _ =>
    let d1 : Dev := { d with tim := { d.tim with holdSince := none, holdOfs := 0 } }
    (d1.wrb F.TIM_STS_HOLDOVER 0 false).recordPost 8 0x0C21 0 8 0

/-- A measurement of a source: device time less source time, ns (R428, R431). -/
def Dev.measure (d : Dev) (src : Nat) (o : Int) : Dev :=
  if !d.sourceTaken src then d
  else
    let d0 : Dev := { d with tim := { d.tim with
      ptpAvail := d.tim.ptpAvail || decide (src = 1), flAvail := d.tim.flAvail || decide (src = 2) } }
    let had := if src = 1 then d.tim.ptpAvail else d.tim.flAvail
    let d1 := if d0.rd F.TIM_STS_SRC = src && had then d0
      else (d0.wr F.TIM_STS_SRC 0 src).post 8 0x0C30 0 8 0 src
    let d2 := d1.wr F.TIM_OFFSET_O 0 (unsigned 32 (clampInt (-2147483648) 2147483647 o))
    let step := decide (d2.rd F.TIM_SERVO_CFG_STEP_THR * 10000 < o.natAbs)
    let d3 := if step then
        let s := d2.stepTime (-o)
        let s1 : Dev := { s with tim := { s.tim with integ := s.presetInteg, coarseRun := 0, fineRun := 0, farRun := 0 } }
        s1.wr F.TIM_STS_LOCK 0 0
      else d2.servo o
    let d4 : Dev := { d3 with tim := { d3.tim with lastMeas := some d3.tim.mono } }
    d4.endHoldover.timeCheck

/-! ## Holdover (R435, R436) -/

/-- The sum of rate times cycles, and of cycles, over the latest `n` cycles of the list. -/
def rateSum : Nat → List (Int × Nat) → Int × Nat
  | _, [] => (0, 0)
  | n, (r, k) :: t =>
    let m := min n k
    let rest := if k < n then rateSum (n - k) t else (0, 0)
    (r * m + rest.1, m + rest.2)

/-- The rate held in holdover (R436). -/
def Dev.heldRate (d : Dev) : Int :=
  let s := rateSum (d.rd F.TIM_HOLD_CFG_HOLD_AVG * 500000000) d.tim.rates
  if s.2 = 0 then d.tim.rateStored else s.1 / (s.2 : Int)

/-- Holdover begins (R435): w4 1 for a lost source, 2 for a boot from the RTC. -/
def Dev.enterHoldover (d : Dev) (why : Nat) : Dev :=
  match d.tim.holdSince with
  | some _ => d
  | none =>
    let d1 := d.setRate d.heldRate
    let d2 : Dev := { d1 with tim := { d1.tim with holdSince := some d1.tim.mono } }
    let d3 := (d2.wrb F.TIM_STS_HOLDOVER 0 true).bump F.TIM_HOLDOVERS
    d3.recordPost 8 0x0C20 1 8 0 0 why

/-- A source is lost (R435): 1 PTP, 2 field-link time. -/
def Dev.sourceLost (d : Dev) (src : Nat) : Dev :=
  let was := if src = 1 then d.tim.ptpAvail else d.tim.flAvail
  if !was then d
  else
    let d1 : Dev := { d with tim := { d.tim with
      ptpAvail := d.tim.ptpAvail && decide (src ≠ 1), flAvail := d.tim.flAvail && decide (src ≠ 2) } }
    let d2 := if d1.tim.ptpAvail || d1.tim.flAvail then d1 else d1.enterHoldover 1
    d2.timeCheck

/-- HOLDOVER_24H (R413): holdover passes 24 h. -/
def execHoldover24h (s : State) : Host.Outcome State Fault Refusal :=
  s.go (fun d => match d.tim.holdSince with
    | none => d
    | some m => if d.live then (d.toMono (m + (86401 - d.tim.holdOfs) * 500000000)).timeCheck else d)

/-! ## PTP (R430, R439 to R441) -/

/-- A PTP port takes part: PTP on, the port named, the Ethernet port ON (R439). -/
def Dev.ptpOn (d : Dev) (p : Nat) : Bool :=
  d.live && d.on F.TIM_PTP_CFG_EN && bitAt (d.rd F.TIM_PTP_CFG_PORTS) p && d.isOn (6 + p)

/-- A PTP port. -/
def Dev.ptpPort (d : Dev) (p : Nat) : PtpPort := d.tim.ptp.getD p {}

/-- Set a PTP port; TIM_PTP_STS follows. -/
def Dev.setPtp (d : Dev) (p : Nat) (x : PtpPort) : Dev :=
  { (d.wr F.TIM_PTP_STS_STATE 0 (withBits (d.rd F.TIM_PTP_STS_STATE) (4 * p) 4 x.st)) with tim := { d.tim with ptp := d.tim.ptp.set p x } }

/-- Lists of one length, first difference decides. -/
def lexLess : List Nat → List Nat → Bool
  | a :: s, b :: t => if a < b then true else if b < a then false else lexLess s t
  | _, _ => false

/-- The device's own data set (R439): it is its own grandmaster with the highest identity. -/
def Dev.ownSet (d : Dev) : List Nat :=
  [d.rd F.TIM_PTP_PRIO_PRIO1, d.rd F.TIM_PTP_PRIO_CLASS, 0xFE, 0xFFFF, d.rd F.TIM_PTP_PRIO_PRIO2, 2 ^ 64 - 1, 0, 0]

/-- The best Announce over all ports, with its port. -/
def Dev.bestPort (d : Dev) : Option (Nat × List Nat) :=
  (List.range 4).foldl (fun b p =>
    if !d.ptpOn p then b
    else match (d.ptpPort p).best, b with
      | none, _ => b
      | some x, none => some (p, x)
      | some x, some (q, y) => if lexLess x y then some (p, x) else some (q, y)) none

/-- The best master clock algorithm decides every port's state (R439, R441). -/
def Dev.bmca (d : Dev) : Dev :=
  let best := d.bestPort
  let slaveOnly := d.on F.TIM_PTP_CFG_SLAVE_ONLY || d.isBow
  let boundary := d.on F.TIM_PTP_CFG_BC
  (List.range 4).foldl (fun (x : Dev) p =>
    let q := x.ptpPort p
    let st := if !x.ptpOn p then 0
      else match best with
        | none => if slaveOnly then 1 else 4
        | some (b, set) =>
          if slaveOnly || lexLess set d.ownSet then
            if p = b then (if q.st = 3 ∧ q.parent = set.getD 7 0 then 3 else 2)
            else if slaveOnly then 1
            else if boundary then
              (match q.best with | some y => if lexLess y set then 5 else if y = set then 5 else 4 | none => 4)
            else 5
          else 4
    x.setPtp p { q with st := st, parent := match best with | some (b, set) => if p = b then set.getD 7 0 else q.parent | none => q.parent }) d

/-- UTC of a TAI instant, ns (R430). -/
def Dev.toUtc (d : Dev) (tai : Int) : Int :=
  tai - (((d.tim.utcOfs.getD (d.rd F.TIM_CFG_UTC_OFS)) * 1000000000 : Nat) : Int)

/-- TAI of an instant of device time, ns (R430). -/
def Dev.toTai (d : Dev) (utc : Int) : Int :=
  utc + (((d.tim.utcOfs.getD (d.rd F.TIM_CFG_UTC_OFS)) * 1000000000 : Nat) : Int)

/-- A receive timestamp at the port's reference plane (R443). -/
def Dev.rxStamp (d : Dev) (p : Nat) : Int := ((d.nowNs + d.rd F.TIM_ETH_DLY_RX_DLY p : Nat) : Int)

/-- A Sync's origin is known: offset plus delay; with a known delay it is a measurement (R431, R439). -/
def Dev.ptpOrigin (d : Dev) (p : Nat) (rx origin : Int) : Dev :=
  let raw := rx - d.toUtc origin
  let q := d.ptpPort p
  let d1 := d.setPtp p { q with raw := some raw, sync := none }
  match q.delay with
  | none => d1
  | some dl => (d1.setPtp p { (d1.ptpPort p) with st := 3 }).measure 1 (raw - dl)

/-- PTP_SOURCE_LOST (R435): missing Syncs, an Announce timeout, or a port that leaves SLAVE. -/
def execPtpSourceLost (port : Fin 4) (s : State) : Host.Outcome State Fault Refusal :=
  s.go (fun d =>
    let q := d.ptpPort port
    if d.live && (q.st = 3 || q.st = 2) then
      (((d.setPtp port { q with st := 1, best := none, raw := none, sync := none, delay := none }).sourceLost 1)).bmca
    else d)

/-- LEAP_SECOND (R430): device time moves to the announced instant and is stepped by 1 s. -/
def execLeapSecond (s : State) : Host.Outcome State Fault Refusal :=
  s.go (fun d =>
    if !d.live || d.tim.leap = 0 then d
    else
      let day := 86400000000000
      let mid := (d.nowNs / day + 1) * day
      let back := d.tim.leap = 61
      let d1 := d.toNs (if back then mid else mid - 1000000000)
      let d2 := (({ d1 with tim := { d1.tim with leap := 0 } } : Dev).wrb F.TIM_STS_LEAP_PEND 0 false).stepTime
        (if back then -1000000000 else 1000000000)
      let d3 : Dev := { d2 with tim := { d2.tim with integ := d2.presetInteg, coarseRun := 0, fineRun := 0, farRun := 0 } }
      d3.wr F.TIM_STS_LOCK 0 0)

/-- RTC_SET (R429): while a source is selected (not in holdover) and locked, the RTC takes device time. -/
def execRtcSet (s : State) : Host.Outcome State Fault Refusal :=
  s.go (fun d =>
    if d.live && d.rd F.TIM_STS_SRC ≠ 0 && d.tim.holdSince.isNone && d.rd F.TIM_STS_LOCK ≠ 0 && d.on F.GLB_CLK_STS_RTC_RUN then
      (({ d with tim := { d.tim with rtcNs := d.nowNs, rtcSet := d.nowNs, rtcValid := true } } : Dev).wrb F.TIM_STS_RTC_VALID 0 true).timeCheck
    else d)

/-- RATE_STORE (R436): while LOCK is 2, the rate reaches the configuration store. -/
def execRateStore (s : State) : Host.Outcome State Fault Refusal :=
  s.go (fun d => if d.live && d.rd F.TIM_STS_LOCK = 2 then { d with tim := { d.tim with rateStored := d.tim.rate } } else d)

/-- TIME_SNAPSHOT_READ (R427): a read of TIM_TIME_LO. -/
def execTimeSnapshotRead (s : State) : Host.Outcome State Fault Refusal :=
  s.go (fun d => if d.live then
    ({ d with tim := { d.tim with snapTime := d.tim.time, snapMono := d.tim.mono } } : Dev).emit (.readData (d.tim.time % 2 ^ 32)) else d)

/-! ## Pooled comparators, host timers, pulses (R445 to R449) -/

/-- Take the lowest free pooled comparator for an owner (R445). -/
def Dev.takeCmp (d : Dev) (owner : Nat) : Option Dev :=
  if d.tim.pool.contains owner then some d
  else match (List.range 8).find? (fun i => d.tim.pool.getD i 0 = 0) with
    | some i => some { d with tim := { d.tim with pool := d.tim.pool.set i owner } }
    | none => none

/-- Release an owner's comparator. -/
def Dev.dropCmp (d : Dev) (owner : Nat) : Dev :=
  { d with tim := { d.tim with pool := d.tim.pool.map (fun o => if o = owner then 0 else o) } }

/-- A port waits for the beacon comparator: STARTING and BLOCKED, not by metrology (R447). -/
def Dev.waitsBeacon (d : Dev) (fix : Nat) : Bool :=
  let f := d.fnOf fix
  decide (f.st = .starting) && f.blocked && !(fix = 5 && d.on F.RAD_STS_BLOCKED 3)

/-- Release an owner's comparator: ports that wait for the beacon comparator get it (R447). -/
def Dev.freeCmp (d : Dev) (owner : Nat) : Dev :=
  let d1 := d.dropCmp owner
  let ws := (List.range 6).filter d1.waitsBeacon
  if ws.isEmpty then d1
  else match d1.takeCmp 5 with
    | some d2 => ws.foldl (fun (y : Dev) f => y.setFn f { y.fnOf f with blocked := false, since := y.tim.mono }) d2
    | none => d1

/-- A refused request: CMP_REFUSED and its count (R447). -/
def Dev.cmpRefused (d : Dev) : Dev := (d.wrb F.TIM_STS_CMP_REFUSED 0 true).bump F.TIM_CMP_REFUSED

/-- A host timer fires (R448). -/
def Dev.htFire (d : Dev) (h : Nat) : Dev := d.post 8 0x0C01 0 8 0 h

/-- The next firing of a host timer after it fired. -/
def Dev.htAfter (d : Dev) (h : Nat) : Dev :=
  let nx := if d.htPeriod h = 0 then d.tim.htNext.del h
    else d.tim.htNext.put h (seriesNext (d.htAt h) (d.htPeriod h) d.nowNs)
  { d with tim := { d.tim with htNext := nx } }

/-- A host timer's ENABLE is written 1 or 0 (R447, R448). -/
def Dev.htEnable (d : Dev) (h : Nat) (on : Bool) : Dev :=
  if on then
    if d.on F.TIM_HT_CFG_ENABLE h then d
    else match d.takeCmp (8 + h) with
      | none => d.cmpRefused
      | some d1 =>
        let d2 := d1.wrb F.TIM_HT_CFG_ENABLE h true
        if d2.htAt h ≤ d2.nowNs then ((d2.wrb F.TIM_HT_CFG_LATE h true).htFire h).htAfter h
        else { d2 with tim := { d2.tim with htNext := d2.tim.htNext.put h (d2.htAt h) } }
  else
    let d1 := (d.wrb F.TIM_HT_CFG_ENABLE h false).freeCmp (8 + h)
    { d1 with tim := { d1.tim with htNext := d1.tim.htNext.del h } }

/-- A pulse output's ENABLE is written 1 or 0 (R447, R449). -/
def Dev.ppsEnable (d : Dev) (n : Nat) (on : Bool) : Dev :=
  if on then
    if d.on F.TIM_PPS_CFG_ENABLE n then d
    else match d.takeCmp (1 + n) with
      | none => d.cmpRefused
      | some d1 =>
        let d2 := d1.wrb F.TIM_PPS_CFG_ENABLE n true
        let per := d2.rd F.TIM_PPS_PERIOD_PERIOD n
        if per = 0 ∧ d2.ppsStart n ≤ d2.nowNs then d2.wrb F.TIM_PPS_CFG_LATE n true
        else { d2 with tim := { d2.tim with ppsNext := d2.tim.ppsNext.put n (seriesNext (d2.ppsStart n) per d2.nowNs) } }
  else
    let d1 := (d.wrb F.TIM_PPS_CFG_ENABLE n false).freeCmp (1 + n)
    { d1 with tim := { d1.tim with ppsNext := d1.tim.ppsNext.del n } }

/-- A write to TIM_HT_CFG (R456). -/
def Dev.htCfgWrite (d : Dev) (h v : Nat) : Dev :=
  let d1 := if F.TIM_HT_CFG_LATE.get v = 1 then d.wrb F.TIM_HT_CFG_LATE h false else d
  d1.htEnable h (decide (F.TIM_HT_CFG_ENABLE.get v = 1))

/-- A write to TIM_PPS_CFG (R456). -/
def Dev.ppsCfgWrite (d : Dev) (n v : Nat) : Dev :=
  let d1 := if F.TIM_PPS_CFG_LATE.get v = 1 then d.wrb F.TIM_PPS_CFG_LATE n false else d
  let d2 := (d1.wr F.TIM_PPS_CFG_POL n (F.TIM_PPS_CFG_POL.get v)).touch (0x80080 + 0x20 * n)
  d2.ppsEnable n (decide (F.TIM_PPS_CFG_ENABLE.get v = 1))

/-- HOST_TIMER_ENABLE (R447): units 0 to 3 are HT0 to HT3, 4 to 7 PPS_OUT0 to PPS_OUT3. -/
def execHostTimerEnable (unit : Fin 8) (val : Word) (s : State) : Host.Outcome State Fault Refusal :=
  s.go (fun d => if !d.live then d else if unit.val < 4 then d.htCfgWrite unit val.toNat else d.ppsCfgWrite (unit - 4) val.toNat)

/-- HOST_TIMER_FIRE (R448): the timer's instant comes. -/
def execHostTimerFire (timer : Fin 4) (s : State) : Host.Outcome State Fault Refusal :=
  s.go (fun d => match d.tim.htNext.find timer with
    | none => d
    | some t => if d.live then ((d.toNs t).htFire timer).htAfter timer else d)

/-- A pulse edge (R449): held while time is invalid with PPS_VALID_ONLY, and in the safe state (R564). -/
def Dev.ppsEdge (d : Dev) (n t : Nat) : Dev :=
  let d1 := d.toNs t
  let per := d1.rd F.TIM_PPS_PERIOD_PERIOD n
  let nx := if per = 0 then d1.tim.ppsNext.del n
    else d1.tim.ppsNext.put n (seriesNext (d1.ppsStart n) per d1.nowNs)
  let d2 : Dev := { d1 with tim := { d1.tim with ppsNext := nx } }
  if (d2.on F.TIM_CFG_PPS_VALID_ONLY && !d2.timeValid) || d2.isSafe then d2
  else
    ({ d2 with tim := { d2.tim with ppsPin := d2.tim.ppsPin.set n true
                                    ppsEnd := d2.tim.ppsEnd.put n (d2.tim.mono + d2.rd F.TIM_PPS_WIDTH_WIDTH n / 2) } } : Dev).emit (.pps n true)

/-- PPS_EDGE (R449). -/
def execPpsEdge (n : Fin 4) (s : State) : Host.Outcome State Fault Refusal :=
  s.go (fun d => match d.tim.ppsNext.find n with
    | none => d
    | some t => if d.live then d.ppsEdge n t else d)

/-- PPS_WIDTH_END (R449): the pulse ends WIDTH after its edge on the monotonic count. -/
def execPpsWidthEnd (n : Fin 4) (s : State) : Host.Outcome State Fault Refusal :=
  s.go (fun d => match d.tim.ppsEnd.find n with
    | none => d
    | some t =>
      let d1 := d.toMono t
      ({ d1 with tim := { d1.tim with ppsPin := d1.tim.ppsPin.set n false, ppsEnd := d1.tim.ppsEnd.del n } } : Dev).emit (.pps n false))

/-! ## Captures and transmit timestamps (R444, R450) -/

/-- An edge on CAP_INn (R450). -/
def Dev.capture (d : Dev) (n : Nat) (rising : Bool) : Dev :=
  let e := d.rd F.TIM_CAP_CFG_EDGE n
  if d.live && d.on F.TIM_CAP_CFG_ENABLE n && (if rising then e ≠ 2 else e ≠ 1) then
    let l := d.tim.caps.getD n []
    if l.length < 4 then { d with tim := { d.tim with caps := d.tim.caps.put n (l ++ [d.nowNs]) } }
    else d.wrb F.TIM_CAP_STS_OVF n true
  else d

/-- CAPTURE_EDGE (R450). -/
def execCaptureEdge (n : Fin 4) (rising : Bool) (s : State) : Host.Outcome State Fault Refusal := s.go (fun d => d.capture n rising)

/-- A read of TIM_CAP_LO (R456): the oldest entry's low word; its high word is latched and the entry removed. -/
def Dev.capPop (d : Dev) (n : Nat) : Dev :=
  match d.tim.caps.getD n [] with
  | [] => d.emit (.readData 0)
  | t :: l =>
    ({ d with tim := { d.tim with
        caps := if l.isEmpty then d.tim.caps.del n else d.tim.caps.put n l
        capHi := d.tim.capHi.put n (t / 2 ^ 32 % 2 ^ 32) } } : Dev).emit (.readData (t % 2 ^ 32))

/-- CAPTURE_POP (R456). -/
def execCapturePop (n : Fin 4) (s : State) : Host.Outcome State Fault Refusal := s.go (fun d => if d.live then d.capPop n else d)

/-- A transmit timestamp joins a port's queue, or is dropped when 16 are held (R444). Where in the tick of 2 ns the delimiter falls, in the
250 ps of R443, is the world's: a free value. -/
def Dev.txStamp (d0 : Dev) (p id : Nat) : Dev :=
  let (n, d) := d0.fresh
  let sub := (Config.free8 n).toNat % 8
  let l := d.tim.txq.getD p []
  let ns := d.nowNs + d.rd F.TIM_ETH_DLY_TX_DLY p + sub / 4
  let st : Stamp := ⟨ns / 1000000000 % 2 ^ 32, ns % 1000000000, sub % 4⟩
  if l.length < 16 then { d with tim := { d.tim with txq := d.tim.txq.put p (l ++ [(id, st)]) } }
  else (d.wrb F.TIM_TXQ_STS_OVF p true).bump F.TIM_TXQ_DROP p

/-- A write to TIM_TXQ_POP (R444, R456). -/
def Dev.txqPop (d : Dev) (p v : Nat) : Dev :=
  if v % 2 = 0 then d
  else match d.tim.txq.getD p [] with
    | [] => d.wrb F.TIM_TXQ_ID_VALID p false
    | (id, st) :: l =>
      let d1 : Dev := { d with tim := { d.tim with txq := if l.isEmpty then d.tim.txq.del p else d.tim.txq.put p l } }
      (((d1.setWord (F.TIM_TXQ_ID_ID.at p) (id % 65536 + 65536)).setWord (F.TIM_TXQ_SEC_SEC.at p) st.sec).setWord
        (F.TIM_TXQ_NS_NS.at p) (4 * st.ns + st.qns))

/-- TXQ_POP (R444). -/
def execTxqPop (port : Fin 4) (val : Word) (s : State) : Host.Outcome State Fault Refusal :=
  s.go (fun d => if d.live then d.txqPop port val.toNat else d)

/-! ## Beacons (R451) -/

/-- A port sends beacons: a line port, or a radio port in a SUN mode (R451). Ports 0, 1 are LP0, LP1; 2 to 5 RP0 to RP3. -/
def Dev.beaconPort (d : Dev) (p : Nat) : Bool := p < 2 || (let m := d.rd F.RAD_CFG_MODE (p - 2); decide (3 ≤ m ∧ m ≤ 6))


/-- A port's beacon falls due (R451): it starts at the port's next boundary. Only the stroke sends beacons (R43). -/
def Dev.beaconDue (d : Dev) (p : Nat) : Dev :=
  match d.tim.beacons.find p with
  | none => d
  | some t =>
    if d.live && d.isOn p && d.beaconPort p && !d.isBow then
      let d1 := d.toNs t
      { d1 with tim := { d1.tim with
          beacons := d1.tim.beacons.put p (seriesNext t (d1.beaconPer p) d1.nowNs)
          beaconDue := if d1.tim.beaconDue.contains p then d1.tim.beaconDue else d1.tim.beaconDue ++ [p] } }
    else d

/-- BEACON_DUE (R451). -/
def execBeaconDue (port : Fin 6) (s : State) : Host.Outcome State Fault Refusal := s.go (fun d => d.beaconDue port)

end Sys2Proof.Machine
end

