-- ==== Sys2Proof/Machine/EthPort.lean ====
section
/-! DEFINITION. Sys2Proof/Machine/EthPort.lean: Ethernet ports: frames received and sent, pause, link, counters and the management path
(R478 to R483, R496). -/

namespace Sys2Proof.Machine

/-! ## Reception (R481 to R483) -/

/-- The grade has the port, and its function is ON. -/
def Dev.epOn (d : Dev) (p : Nat) : Bool := d.live && !fixAbsent d.grade (6 + p) && d.isOn (6 + p)

/-- The destination is accepted (R482). -/
def Dev.dstOk (d : Dev) : EthDst → Bool
  | .other => false
  | .flMac => d.isHead
  | _ => true

/-- The VLAN matches (R482). -/
def Dev.vlanOk (d : Dev) (p : Nat) (f : EthRx) : Bool :=
  if d.on F.ETH_CFG_VLAN_EN p then
    match f.vid with
    | some v => v = d.rd F.ETH_VLAN_VID p
    | none => (match f.body with | .ptp layer2 => layer2 | _ => false)
  else f.vid.isNone

/-- The class of an accepted frame (R482): 0 field link, 1 PTP, 2 answered by the NVD, 3 management, 4 filtered. -/
def Dev.ethClass (d : Dev) (p : Nat) (b : EthBody) : Nat :=
  let mgt := if d.on F.ETH_CFG_MGT_EN p then 3 else 4
  match b with
  | .fl t _ => if t = d.rd F.FL_CFG_ETYPE then 0 else mgt
  | .flUdp port local_ _ => if port = d.rd F.FL_UDP_PORT && local_ then 0 else mgt
  | .ptp _ => 1
  | .icmp _ => 2
  | .extV6 => 4
  | .pause _ => 4
  | .macCtl => 4
  | .other _ => mgt

/-- Bits a second of a port (R478); SGMII's is the negotiated one. -/
def Dev.ethRate (d : Dev) (p : Nat) : Nat :=
  match d.rd F.ETH_CFG_RATE p with
  | 0 => 10000000000 | 1 => 2500000000 | 2 => 1000000000
  | _ => (match d.rd F.ETH_STS_SPEED p with | 0 => 10000000 | 1 => 100000000 | _ => 1000000000)

/-- The pause of a port ends now: the time spent paused is counted, µs. -/
def Dev.pauseEnd (d : Dev) (p : Nat) : Dev :=
  let e := d.ep p
  match e.pauseUntil with
  | none => d
  | some _ => ((d.setEp p { e with pauseUntil := none, pausedFrom := 0 }).wrb F.ETH_STS_PAUSED p false).ethCount p 14 ((d.tim.mono - e.pausedFrom) / 500)

/-- A PAUSE frame (R481). -/
def Dev.pauseRx (d : Dev) (p quanta : Nat) : Dev :=
  let d1 := d.ethCount p 8
  if !d1.on F.ETH_CFG_PAUSE_RX p then d1
  else if quanta = 0 then d1.pauseEnd p
  else
    let e := d1.ep p
    let from_ := if e.pauseUntil.isSome then e.pausedFrom else d1.tim.mono
    (d1.setEp p { e with pauseUntil := some (d1.tim.mono + quanta * 512 * 500000000 / d1.ethRate p), pausedFrom := from_ }).wrb F.ETH_STS_PAUSED p true

/-- The counter of a frame that is dropped at once, if it is (R482). -/
def Dev.ethDrop (d : Dev) (p : Nat) (f : EthRx) : Option Nat :=
  if f.codeErr then some 6
  else if !f.fcsOk then some 3
  else if f.bytes < 64 then some 4
  else if d.rd F.ETH_CFG_MAX_FRAME p < f.bytes then some 5
  else match f.body with
    | .pause _ => none
    | _ => if !d.dstOk f.dst || !d.vlanOk p f || d.ethClass p f.body = 4 then some 7 else none

/-- A management frame joins the store of 8, or is dropped (R482, R496). -/
def Dev.mgtRx (d : Dev) (p : Nat) (f : EthRx) : Dev :=
  let e := d.ep p
  if 8 ≤ e.mgtRx.length then d.ethCount p 11
  else
    let (n, d1) := d.fresh
    d1.setEp p { e with mgtRx := e.mgtRx ++ [(4 * (d.rxStamp p).toNat + (Config.free8 n).toNat % 8, match f.body with | .other b => b | _ => [])] }

/-- A frame is accepted: counted, and handed on by its class. -/
def Dev.ethAccept (d : Dev) (p : Nat) (f : EthRx) : Dev :=
  let d1 := (d.ethCount p 0).ethCount p 1 f.bytes
  let d2 := match f.dst with | .own | .flMac => d1 | _ => d1.ethCount p 2
  match d2.ethClass p f.body with
  | 0 => d2.offer (6 + p) ⟨0, f.bytes, .eth f (d2.rxStamp p).toNat⟩
  | 2 => if d2.isBow then d2 else d2.ethQueue p { cls := 3, bytes := f.bytes }
  | 3 => d2.mgtRx p f
  | _ => d2

/-- ETH_FRAME_RX (R482). A PTP frame's message comes by PTP_MESSAGE_RX. -/
def execEthFrameRx (port : Fin 4) (frame : EthRx) (s : State) : Host.Outcome State Fault Refusal :=
  s.go (fun d =>
    if !d.epOn port || !d.on F.ETH_STS_LINK port then d
    else match d.ethDrop port frame with
      | some i => d.ethCount port i
      | none => match frame.body with
        | .pause q => d.pauseRx port q
        | _ => d.ethAccept port frame)

/-! ## PTP messages (R439, R440, R479) -/

/-- Bytes of a PTP frame by its message, with Ethernet header and FCS, and under TRANSPORT its IP and UDP headers (PRESUMED, log 140). -/
def Dev.ptpBytes (d : Dev) (kind : Nat) : Nat :=
  let body := match kind with | 1 => 64 | 3 => 54 | _ => 44
  max 64 (body + 18 + (match d.rd F.TIM_PTP_CFG_TRANSPORT with | 0 => 0 | 1 => 28 | _ => 50))

/-- A PTP message goes out on a port and counts as a frame sent; without its link it is discarded (R480, R483). -/
def Dev.ptpOut (d : Dev) (p kind seq : Nat) (t : Int) : Dev :=
  if d.linkUp p then ((d.emit (.ptpTx p kind seq t)).ethCount p 12).ethCount p 13 (d.ptpBytes kind) else d.ethCount p 15

/-- A PTP message arrives (R430, R439, R440). -/
def Dev.ptpRx (d : Dev) (p : Nat) (m : PtpMsg) : Dev :=
  if !d.ptpOn p then d
  else
    let dom := d.rd F.TIM_PTP_CFG_DOMAIN
    let q := d.ptpPort p
    let slave := decide (q.st = 2 ∨ q.st = 3)
    match m with
    | .announce dm who p1 cls acc var p2 gm steps utc leap =>
      if dm ≠ dom then d
      else
        let set := [p1, cls, acc, var, p2, gm, steps, who]
        let keep := match q.best with | some y => y.getD 7 0 = who || lexLess set y | none => true
        let d1 := (if keep then d.setPtp p { q with best := some set } else d).bmca
        let q1 := d1.ptpPort p
        if (q1.st = 2 ∨ q1.st = 3) ∧ q1.parent = who then
          ({ d1 with tim := { d1.tim with utcOfs := utc, leap := leap } } : Dev).wrb F.TIM_STS_LEAP_PEND 0 (decide (leap ≠ 0))
        else d1
    | .sync dm who seq two origin corr =>
      if dm ≠ dom || !slave || q.parent ≠ who then d
      else
        let rx := d.rxStamp p - corr
        if two then d.setPtp p { q with sync := some (seq, rx) } else d.ptpOrigin p rx origin
    | .followUp dm who seq origin corr =>
      if dm ≠ dom || !slave || q.parent ≠ who then d
      else match q.sync with
        | some (n, rx) => if n = seq then d.ptpOrigin p (rx - corr) origin else d
        | none => d
    | .delayResp dm _ seq rx turn =>
      if dm ≠ dom || !slave then d
      else match q.t3, q.raw with
        | some (n, t3), some raw =>
          if n = seq then
            if d.rd F.TIM_PTP_CFG_PROFILE = 1 then
              d.setPtp p { q with t3 := none, delay := some ((d.rxStamp p - t3 - turn) / 2) }
            else d.setPtp p { q with t3 := none, delay := some ((raw + (d.toUtc rx - t3)) / 2) }
          else d
        | some (n, t3), none =>
          if n = seq && d.rd F.TIM_PTP_CFG_PROFILE = 1 then
            d.setPtp p { q with t3 := none, delay := some ((d.rxStamp p - t3 - turn) / 2) }
          else d
        | _, _ => d
    | .delayReq dm _ seq =>
      if dm ≠ dom || !(q.st = 4 || d.rd F.TIM_PTP_CFG_PROFILE = 1) then d else d.ptpOut p 3 seq (d.toTai (d.rxStamp p))
    | .other => d

/-- PTP_MESSAGE_RX (R439). -/
def execPtpMessageRx (port : Fin 4) (msg : PtpMsg) (s : State) : Host.Outcome State Fault Refusal := s.go (fun d => d.ptpRx port msg)

/-- The Follow_Up that a two-step Sync is sent with (R440). -/
def Dev.ptpFollow (d : Dev) (p kind seq : Nat) (t : Int) : Dev :=
  if kind = 0 ∧ d.on F.TIM_PTP_CFG_TWO_STEP = true then d.ptpOut p 4 seq t else d

/-- A port's message falls due (R440, R441): 0 Sync and 1 Announce from a MASTER, 2 a delay request. -/
def Dev.ptpSend (d : Dev) (p kind : Nat) : Dev :=
  if !d.ptpOn p then d
  else
    let d0 := d.bmca
    let q := d0.ptpPort p
    let t : Int := ((d0.nowNs + d0.rd F.TIM_ETH_DLY_TX_DLY p : Nat) : Int)
    let out := d0.toTai t
    let ok := (d0.ep p).pauseUntil.isNone && if kind = 2 then decide (q.st = 2 ∨ q.st = 3) || d0.rd F.TIM_PTP_CFG_PROFILE = 1 else decide (q.st = 4) && !d0.isBow
    if ok then
      ((d0.setPtp p { q with txSeq := (q.txSeq + 1) % 65536, t3 := if kind = 2 then some (q.txSeq, t) else q.t3 }).ptpOut p kind q.txSeq out).ptpFollow p kind q.txSeq out
    else d0

/-- PTP_MESSAGE_TX (R440). -/
def execPtpMessageTx (port : Fin 4) (kind : Fin 3) (s : State) : Host.Outcome State Fault Refusal := s.go (fun d => d.ptpSend port kind)

/-! ## Transmission (R479, R481) -/

/-- The first of the lowest class among the frames that may go, with its place. -/
def nextTx (may : EthTx → Bool) : List EthTx → Option (Nat × EthTx)
  | [] => none
  | t :: l => match nextTx may l with
    | none => if may t then some (0, t) else none
    | some (i, u) => if may t && decide (t.cls ≤ u.cls) then some (0, t) else some (i + 1, u)

/-- What a transmit timestamp serves (R442, R444): the next TIME to the field device, a delay request, or the host's queue. -/
def Dev.txStamped (d : Dev) (p : Nat) (t : EthTx) : Dev :=
  let ns : Int := ((d.nowNs + d.rd F.TIM_ETH_DLY_TX_DLY p : Nat) : Int)
  match t.fl with
  | some f => f.recs.foldl (fun (x : Dev) r => match r with
      | .time .. => x.setFd f.fdx { x.fd f.fdx with timeTx := ns }
      | .delayReq i => { x with tim := { x.tim with flT3 := some (i, ns) } }
      | _ => x) d
  | none => match t.tsId with | some i => d.txStamp p i | none => d

/-- A frame may go: a bow sends only PTP frames on its Ethernet ports (R43). -/
def Dev.ethMay (d : Dev) (t : EthTx) : Bool := !d.isBow || t.cls = 0

/-- A port starts a frame. -/
def Dev.ethSend (d : Dev) (p : Nat) : Dev :=
  match nextTx d.ethMay (d.ep p).wait with
  | none => d
  | some (i, t) =>
    let e := d.ep p
    let d1 := (d.setEp p { e with wait := e.wait.eraseIdx i }).emit (.ethTx p t.cls t.bytes t.dest t.fl t.mgt)
    let d2 := ((d1.ethCount p 12).ethCount p 13 t.bytes).ethCount p 16 (b2n t.retx)
    let d3 := if t.mgt.isEmpty then d2 else d2.wrb F.ETH_MGT_TX_CTL_BUSY p false
    d3.txStamped p t

/-- ETH_FRAME_TX (R479). -/
def execEthFrameTx (port : Fin 4) (s : State) : Host.Outcome State Fault Refusal :=
  s.go (fun d => if d.epOn port && !d.inLoop (6 + port) && d.linkUp port && (d.ep port).pauseUntil.isNone then d.ethSend port else d)

/-- PAUSE_EXPIRY (R481). -/
def execPauseExpiry (port : Fin 4) (s : State) : Host.Outcome State Fault Refusal :=
  s.go (fun d => match (d.ep port).pauseUntil with
    | some t => if d.live then (d.toMono t).pauseEnd port else d
    | none => d)

/-! ## Link (R480) -/

/-- The frames that wait for a port are discarded (R480). -/
def Dev.ethDiscard (d : Dev) (p : Nat) : Dev :=
  let e := d.ep p
  ((d.setEp p { e with wait := [] }).ethCount p 15 e.wait.length).wrb F.ETH_MGT_TX_CTL_BUSY p false

/-- A port's link goes. -/
def Dev.ethDown (d : Dev) (p : Nat) : Dev :=
  if !d.on F.ETH_STS_LINK p then d
  else
    let d1 := ((d.wrb F.ETH_STS_LINK p false).ethCount p 17).ethDiscard p
    d1.setEp p { d1.ep p with linkAt := none }

/-- ETH_LINK_DOWN (R480). -/
def execEthLinkDown (port : Fin 4) (s : State) : Host.Outcome State Fault Refusal :=
  s.go (fun d => if d.epOn port then d.ethDown port else d)

/-! ## Management path (R496) -/

/-- A write of ETH_MGT_TX_CTL. -/
def Dev.mgtGo (d : Dev) (p v : Nat) : Dev :=
  let busy := d.on F.ETH_MGT_TX_CTL_BUSY p
  let d1 := d.plainWrite (F.ETH_MGT_TX_CTL_GO.at p) v
  if !bitAt v 28 || busy then d1
  else if d1.isBow then d1.wrb F.ETH_MGT_TX_CTL_REFUSED p true
  else if !d1.epOn p || !d1.on F.ETH_CFG_MGT_EN p then d1
  else
    let n := d1.rd F.ETH_MGT_TX_CTL_LEN p
    let t : EthTx := { cls := 3, bytes := n + 4, mgt := padTo n ((d1.ep p).mgtTx.take n)
                       tsId := if d1.on F.ETH_MGT_TX_CTL_TS_REQ p then some (d1.rd F.ETH_MGT_TX_ID_ID p) else none }
    if d1.linkUp p then (d1.ethQueue p t).wrb F.ETH_MGT_TX_CTL_BUSY p true else d1.ethQueue p t

/-- MGT_TX_GO (R496). -/
def execMgtTxGo (port : Fin 4) (val : Word) (s : State) : Host.Outcome State Fault Refusal :=
  s.go (fun d => if d.live && !fixAbsent d.grade (6 + port) then d.mgtGo port val.toNat else d)

/-- MGT_RX_POP (R496). -/
def execMgtRxPop (port : Fin 4) (val : Word) (s : State) : Host.Outcome State Fault Refusal :=
  s.go (fun d =>
    if d.live && !fixAbsent d.grade (6 + port) && bitAt val.toNat 0 then
      (d.setEp port { d.ep port with mgtRx := (d.ep port).mgtRx.drop 1 }).wr F.ETH_MGT_PAGE_RX_PAGE port 0
    else d)

/-- ETH_COUNTER_SNAPSHOT_READ (R483). -/
def execEthCounterSnapshotRead (port : Fin 4) (counter : Fin 18) (s : State) : Host.Outcome State Fault Refusal :=
  s.go (fun d =>
    if d.live && !fixAbsent d.grade (6 + port) then
      let e := d.ep port
      let v := e.cnt.getD counter 0
      (d.setEp port { e with hi := e.hi.put counter (v / 2 ^ 32) }).emit (.readData (v % 2 ^ 32))
    else d)

end Sys2Proof.Machine
end

