-- ==== Sys2Proof/Machine/ImgOps.lean ====
section
/-! DEFINITION. Sys2Proof/Machine/ImgOps.lean: meter image campaigns and their members (R604 to R611). -/

namespace Sys2Proof.Machine

/-! ## Image steps that a transaction carries (R607, R610) -/

/-- The campaign that runs in a meter's group. -/
def Dev.campOf (d : Dev) (g : Nat) : Option (Campaign × ImgSlot) :=
  match d.img.camps.find g with
  | some c => if c.st = 2 ∨ c.st = 3 then (d.img.slots.find c.slot).map (fun s => (c, s)) else none
  | none => none

/-- Blocks of an image. -/
def ImgSlot.blocks (s : ImgSlot) : Nat := ceilDiv s.size s.block

/-- Every byte of the image is staged (R605). -/
def ImgSlot.complete (s : ImgSlot) : Bool := decide (s.bytes.length = s.size)

/-- A final state (R607). -/
def imgFinal (st : Nat) : Bool := 5 ≤ st && st ≤ 8

/-- Members of a group with a campaign state that is not final. -/
def Dev.imgOpen (d : Dev) (g : Nat) : List (Nat × Ctx) :=
  d.ctx.tab.filter (fun e => e.2.grp = g && e.2.imgState ≠ 0 && !imgFinal e.2.imgState)

/-- A campaign takes a state: one event (R611). -/
def Dev.campState (d : Dev) (g st : Nat) : Dev :=
  match d.img.camps.find g with
  | none => d
  | some c =>
    if c.st = st then d
    else ({ d with img := { d.img with camps := d.img.camps.put g { c with st := st } } } : Dev).post 10 0x1110 0 0x11 (tgtGrp g) g st

/-- A campaign whose members are all in final states is done. -/
def Dev.campCheck (d : Dev) (g : Nat) : Dev :=
  match d.img.camps.find g with
  | some c => if (c.st = 2 ∨ c.st = 3) ∧ (d.imgOpen g).isEmpty then d.campState g 4 else d
  | none => d

/-- A member takes a campaign state: a final one posts an event and is counted (R611, R614). -/
def Dev.imgSet (d : Dev) (m st : Nat) : Dev :=
  match d.ctxAt m with
  | none => d
  | some c =>
    let d1 := (d.editCtx m (fun x => { x with imgState := st }))
    let d2 : Dev := { d1 with img := { d1.img with stalls := d1.img.stalls.del m, activated := d1.img.activated.filter (· ≠ m) } }
    if imgFinal st && c.imgState ≠ st then
      let d3 := d2.post 10 0x1111 0 0x11 (tgtMix m) (m + 2 ^ 24 * st)
      let d4 := if st = 5 then d3.bump F.UPD_METER_DONE else if st = 6 ∨ st = 7 then d3.bump F.UPD_METER_FAIL else d3
      d4.campCheck c.grp
    else d2

/-- A member becomes WAITING in its group's campaign (R607); a meter without the image transfer object is UNSUPPORTED (R604). -/
def Dev.imgWait (d : Dev) (m : Nat) (c : Ctx) (blocks : Nat) : Dev :=
  let d1 := d.editCtx m (fun x => { x with imgState := 1, imgFirst := 0, imgMiss := blocks })
  let d2 : Dev := { d1 with img := { d1.img with stalls := d1.img.stalls.del m, activated := d1.img.activated.filter (· ≠ m) } }
  if c.kind = 0 ∧ c.suite ≤ 1 then d2 else d2.imgSet m 7

/-- A context that joins a group during a campaign becomes WAITING (R607). -/
def Dev.imgJoin (d : Dev) (m : Nat) : Dev :=
  match d.ctxAt m with
  | none => d
  | some c =>
    match d.campOf c.grp with
    | some (_, s) => d.imgWait m c s.blocks
    | none => d

/-- A status read's count of missing blocks (R607, R610). -/
def Dev.imgCount (d : Dev) (m : Nat) (miss : Nat × Nat) (carried : Bool) : Dev :=
  match d.ctxAt m with
  | none => d
  | some c =>
    let same := decide (c.imgFirst = miss.1 ∧ c.imgMiss = miss.2)
    let d1 := d.editCtx m (fun x => { x with imgFirst := miss.1, imgMiss := miss.2 })
    if miss.2 = 0 then d1.imgSet m 3
    else if carried && same then
      let n := d1.img.stalls.getD m 0 + 1
      if 16 ≤ n then d1.imgSet m 6 else { d1 with img := { d1.img with stalls := d1.img.stalls.put m n } }
    else { d1 with img := { d1.img with stalls := d1.img.stalls.del m } }

/-- The answer to an exchange of a campaign (R607). -/
def Dev.imgAnswer (d : Dev) (m : Nat) (data : MData) (carried : Bool) : Dev :=
  match d.ctxAt m with
  | none => d
  | some c =>
    match d.campOf c.grp with
    | none => d
    | some (_, s) =>
      if c.imgState = 1 then
        if (match data.imgBlock with | some b => decide (b ≠ s.block) | none => false) then d.imgSet m 7
        else if data.reject.isSome then d.imgSet m 6
        else (d.imgSet m 2).imgCount m (data.imgMiss.getD (0, s.blocks)) false
      else if c.imgState = 2 then
        if data.reject.isSome then d.imgSet m 6
        else match data.imgMiss with | some x => d.imgCount m x carried | none => d
      else if c.imgState = 3 then (if data.reject.isSome then d.imgSet m 6 else d.imgSet m 4)
      else if c.imgState = 4 then
        if data.reject.isSome then d.imgSet m 6
        else if d.img.activated.contains m then (if data.imgIdent = some s.ident then d.imgSet m 5 else d.imgSet m 6)
        else { d with img := { d.img with activated := m :: d.img.activated } }
      else d

/-- The step that a member's next exchange carries (R607): 0 for none. -/
def Dev.imgStep (d : Dev) (m : Nat) (c : Ctx) : Nat :=
  match c.imgState with
  | 1 => 1 | 2 => 2 | 3 => 3 | 4 => if d.img.activated.contains m then 5 else 4 | _ => 0

end Sys2Proof.Machine
end

