-- ==== Sys2Proof/Machine/Calendar.lean ====
section
/-! DEFINITION. Sys2Proof/Machine/Calendar.lean: dates of device time (R404): days since 1970-01-01, months, Sundays. -/

namespace Sys2Proof.Machine

/-- A date of the Gregorian calendar. -/
structure Date where
  year : Nat
  month : Nat
  day : Nat
  deriving DecidableEq, Repr

/-- A leap year. -/
def leapYear (y : Nat) : Bool := (y % 4 = 0 && y % 100 ≠ 0) || y % 400 = 0

/-- Days in a month. -/
def monthLen (y m : Nat) : Nat :=
  if m = 2 then (if leapYear y then 29 else 28) else if m = 4 ∨ m = 6 ∨ m = 9 ∨ m = 11 then 30 else 31

/-- Days from 1970-01-01 to a date, counting years from March. -/
def daysTo (y m d : Nat) : Int :=
  let y' : Int := if m ≤ 2 then (y : Int) - 1 else y
  let mp : Int := (m + 9) % 12
  365 * y' + y' / 4 - y' / 100 + y' / 400 + (153 * mp + 2) / 5 + (d : Int) - 1 - 719468

/-- The date of a number of days after 1970-01-01. -/
def dateOf (days : Int) : Date :=
  let z := days + 719468
  let era := z / 146097
  let doe := z % 146097
  let yoe := (doe - doe / 1460 + doe / 36524 - doe / 146096) / 365
  let doy := doe - (365 * yoe + yoe / 4 - yoe / 100)
  let mp := (5 * doy + 2) / 153
  let d := doy - (153 * mp + 2) / 5 + 1
  let m := if mp < 10 then mp + 3 else mp - 9
  let y := yoe + era * 400 + (if m ≤ 2 then 1 else 0)
  ⟨y.toNat, m.toNat, d.toNat⟩

/-- The day of the week of a number of days: 0 Monday to 6 Sunday. -/
def weekday (days : Int) : Nat := ((days + 3) % 7).toNat

/-- The w-th Sunday of a month as a number of days; 5 means the last (R403). -/
def sundayOf (y m w : Nat) : Int :=
  let first := daysTo y m 1
  let s1 := first + (6 - weekday first : Nat)
  let last := first + (monthLen y m : Int) - 1
  if w ≥ 5 then last - ((weekday last + 1) % 7 : Nat) else s1 + 7 * ((w : Int) - 1)

end Sys2Proof.Machine
end

