-- ==== Sys2Proof/Machine/TarTables.lean ====
section
/-! DEFINITION. Sys2Proof/Machine/TarTables.lean: tariff tables, local time, the choice of a rate, close instants (R402 to R406,
R410), and the image of a billing extension (R108). -/

namespace Sys2Proof.Machine

/-! ## Loading a table (R403) -/

/-- The nearest divisor of a number, a tie going to the larger; candidates are tried from 1 up. -/
def nearestDivisor (n lo v : Nat) : Nat :=
  (List.range (n + 1)).foldl (fun b k =>
    if k ≠ 0 ∧ lo ≤ k ∧ n % k = 0 ∧ (b = 0 ∨ (if k ≤ v then v - k else k - v) ≤ (if b ≤ v then v - b else b - v)) then k else b) 0

/-- The year clamp of a special day (R403). -/
def specialYear (y : Nat) : Nat := if y < 1000 then 0 else clampNat 2000 2199 y

/-- A switch point as loaded: minute and rate. -/
def pointAt (b : List Byte) (o : Nat) : Nat × Nat :=
  let m := getLe b o 2
  (if m = 0xFFFF then m else min 1439 m, min 15 (getLe b (o + 2) 1))

/-- The effective table of a buffer (R403), or the byte offset of its first bad field. -/
def TarTable.parse (b : List Byte) : Except Nat TarTable :=
  if getLe b 0 4 ≠ 0x46524154 then .error 0
  else if getLe b 4 2 ≠ 1 then .error 4
  else if getLe b 6 2 = 0xFFFF then .error 6
  else
    let ns := clampNat 1 8 (getLe b 0x00A 1)
    let np := clampNat 1 32 (getLe b 0x00B 1)
    let nx := min 64 (getLe b 0x00C 1)
    .ok { version := getLe b 6 2, demandMin := nearestDivisor 60 1 (getLe b 8 1), defaultRate := min 15 (getLe b 9 1)
          closeDay := min 28 (getLe b 0x00D 1), closeMin := min 1439 (getLe b 0x00E 2)
          utcOfs := clampInt (-720) 840 (signed 16 (getLe b 0x010 2)), dstMin := min 120 (getLe b 0x012 1)
          dstStartM := clampNat 1 12 (getLe b 0x013 1), dstStartW := clampNat 1 5 (getLe b 0x014 1)
          dstEndM := clampNat 1 12 (getLe b 0x015 1), dstEndW := clampNat 1 5 (getLe b 0x016 1)
          dstStartMin := min 1439 (getLe b 0x018 2), dstEndMin := min 1439 (getLe b 0x01A 2)
          seasons := (List.range ns).map (fun i =>
            ⟨clampNat 1 12 (getLe b (0x040 + 12 * i) 1), clampNat 1 31 (getLe b (0x041 + 12 * i) 1),
             (List.range 7).map (fun k => min (np - 1) (getLe b (0x042 + 12 * i + k) 1))⟩)
          profiles := (List.range np).map (fun i => (List.range 12).map (fun k => pointAt b (0x0A0 + 48 * i + 4 * k)))
          special := (List.range nx).map (fun i =>
            ⟨specialYear (getLe b (0x6A0 + 8 * i) 2), clampNat 1 12 (getLe b (0x6A2 + 8 * i) 1),
             clampNat 1 31 (getLe b (0x6A3 + 8 * i) 1), min (np - 1) (getLe b (0x6A4 + 8 * i) 1)⟩) }

/-- The 2,208 bytes of an effective table: entries beyond its counts and reserved bytes are 0. -/
def TarTable.image (t : TarTable) : List Byte :=
  layBytes [(4, 0x46524154), (2, 1), (2, t.version), (1, t.demandMin), (1, t.defaultRate), (1, t.seasons.length),
    (1, t.profiles.length), (1, t.special.length), (1, t.closeDay), (2, t.closeMin), (2, unsigned 16 t.utcOfs), (1, t.dstMin),
    (1, t.dstStartM), (1, t.dstStartW), (1, t.dstEndM), (1, t.dstEndW), (1, 0), (2, t.dstStartMin), (2, t.dstEndMin), (36, 0)]
  ++ padTo 96 (t.seasons.flatMap (fun s => layBytes ([(1, s.month), (1, s.day)] ++ s.prof.map (fun p => (1, p)) ++ [(3, 0)])))
  ++ padTo 1536 (t.profiles.flatMap (fun p => layBytes (p.flatMap (fun x => [(2, x.1), (1, x.2), (1, 0)]))))
  ++ padTo 512 (t.special.flatMap (fun x => layBytes [(2, x.year), (1, x.month), (1, x.day), (1, x.prof), (3, 0)]))

/-! ## Local time and rates (R404, R405) -/

/-- The DST start and end of a year, UTC seconds (R404). -/
def TarTable.dstSpan (t : TarTable) (y : Nat) : Int × Int :=
  (sundayOf y t.dstStartM t.dstStartW * 86400 + t.dstStartMin * 60 - t.utcOfs * 60,
   sundayOf y t.dstEndM t.dstEndW * 86400 + t.dstEndMin * 60 - t.utcOfs * 60 - t.dstMin * 60)

/-- Daylight time holds at a UTC second. -/
def TarTable.dstOn (t : TarTable) (s : Int) : Bool :=
  t.dstMin ≠ 0 &&
  (let y := (dateOf ((s + t.utcOfs * 60) / 86400)).year
   let sp := t.dstSpan y
   if sp.1 ≤ sp.2 then sp.1 ≤ s && s < sp.2 else sp.1 ≤ s || s < sp.2)

/-- Local time of a UTC second, s (R404). -/
def TarTable.local_ (t : TarTable) (s : Int) : Int := s + t.utcOfs * 60 + (if t.dstOn s then t.dstMin * 60 else 0)

/-- The day of a month, or its last day (R403). -/
def dayIn (y m d : Nat) : Nat := min d (monthLen y m)

/-- The first entry of a list with the largest key among those that a test accepts. -/
def bestBy {α : Type} (key : α → Nat) (p : α → Bool) (l : List α) : Option α :=
  l.foldl (fun (b : Option α) x => if p x then (match b with | none => some x | some y => if key y < key x then some x else b) else b) none

/-- The day profile of a local date (R405). -/
def TarTable.profileOf (t : TarTable) (dt : Date) (wd : Nat) : Option Nat :=
  let same := fun (x : Special) => x.month = dt.month && dayIn dt.year x.month x.day = dt.day
  match t.special.find? (fun x => x.year = dt.year && same x) with
  | some x => some x.prof
  | none =>
    match t.special.find? (fun x => x.year = 0 && same x) with
    | some x => some x.prof
    | none =>
      let key := fun (s : Season) => 100 * s.month + dayIn dt.year s.month s.day
      match bestBy key (fun s => key s ≤ 100 * dt.month + dt.day) t.seasons with
      | some s => some (s.prof.getD wd 0)
      | none => (bestBy key (fun _ => true) t.seasons).map (fun s => s.prof.getD wd 0)

/-- The rate of an interval at its START (R405). -/
def TarTable.rateAt (t : TarTable) (start : Nat) : Nat :=
  let l := t.local_ start
  let day := l / 86400
  let min_ := (l % 86400 / 60).toNat
  match t.profileOf (dateOf day) (weekday day) with
  | none => t.defaultRate
  | some p =>
    let pts := (t.profiles.getD p []).filter (fun x => x.1 ≠ 0xFFFF)
    match bestBy (·.1) (fun x => x.1 ≤ min_) pts with
    | some x => x.2
    | none => match bestBy (·.1) (fun _ => true) pts with
      | some x => x.2
      | none => t.defaultRate

/-! ## Tables of a group (R402, R406) -/

/-- A group's tables. -/
def Dev.grpTar (d : Dev) (g : Nat) : GrpTar := d.tar.grps.getD g {}

/-- Set a group's tables. -/
def Dev.setGrpTar (d : Dev) (g : Nat) (t : GrpTar) : Dev :=
  { d with tar := { d.tar with grps := if t = {} then d.tar.grps.del g else d.tar.grps.put g t } }

/-- The table in force, or the default table (R406). -/
def GrpTar.table (g : GrpTar) : TarTable := g.inForce.getD {}

/-- The table of an interval by its START (R406). -/
def GrpTar.tableAt (g : GrpTar) (start : Nat) : TarTable := if g.inForce.isSome ∧ start < g.since then g.prev.getD {} else g.table

/-- The tables that take slots: each distinct effective table once (R402). -/
def Dev.slotTables (d : Dev) : List TarTable :=
  (d.tar.grps.vals.flatMap (fun g => g.inForce.toList ++ g.prev.toList ++ g.staged.toList)).foldl
    (fun l t => if l.contains t || t.version = 0xFFFF then l else t :: l) []

/-- The demand length of a meter, minutes (R409). -/
def demandLen (t : TarTable) (intLen : Nat) : Nat := Nat.lcm t.demandMin intLen

/-! ## Close instants (R410) -/

/-- The UTC second of a local minute of a date: the DST start where the time is skipped, the first occurrence where it repeats. -/
def TarTable.utcOf (t : TarTable) (y m d minute : Nat) : Int :=
  let l : Int := daysTo y m d * 86400 + minute * 60
  let dst := l - t.utcOfs * 60 - t.dstMin * 60
  let std := l - t.utcOfs * 60
  if t.local_ dst = l then dst else if t.local_ std = l then std else (t.dstSpan y).1

/-- The first close instant after a second, searched over the months that follow. -/
def TarTable.nextClose (t : TarTable) (after : Nat) : Option Nat :=
  if t.closeDay = 0 then none
  else
    let dt := dateOf (t.local_ after / 86400)
    (List.range 3).findSome? (fun k =>
      let mm := dt.month - 1 + k
      let i := t.utcOf (dt.year + mm / 12) (mm % 12 + 1) t.closeDay t.closeMin
      if (after : Int) < i then some i.toNat else none)

/-! ## Billing extensions (R108) -/

/-- Bytes 0x00 to 0x7B of a billing extension. -/
def Ext.body (m : Nat) (e : Ext) : List Byte :=
  layBytes ([(4, m % 2 ^ 20 + e.st % 16 * 2 ^ 28), (4, e.grp % 4096 + e.version % 65536 * 65536), (4, e.lastBooked), (4, e.periodStart)]
    ++ e.rates.map (fun r => (4, r))
    ++ [(8, e.total), (4, e.dmax), (4, e.dmaxTime), (4, e.dcur), (4, e.adjust), (4, e.tamper),
        (4, b2n e.fDefault + 2 * b2n e.fAdjust + unsigned 8 e.scale * 2 ^ 24), (8, e.jseq), (4, 0)])

/-- The 128 B image of a billing extension. -/
def Ext.image (m : Nat) (e : Ext) : List Byte := e.body m ++ leBytes 4 (crc32 (e.body m))

/-- The extension that a 128 B image spells. -/
def Ext.ofImage (b : List Byte) : Ext :=
  { st := bitsOf (getLe b 0 4) 28 4, grp := bitsOf (getLe b 4 4) 0 12, version := bitsOf (getLe b 4 4) 16 16
    lastBooked := getLe b 8 4, periodStart := getLe b 0xC 4, rates := (List.range 16).map (fun i => getLe b (0x10 + 4 * i) 4)
    total := getLe b 0x50 8, dmax := getLe b 0x58 4, dmaxTime := getLe b 0x5C 4, dcur := getLe b 0x60 4, adjust := getLe b 0x64 4
    tamper := getLe b 0x68 4, fDefault := bitAt (getLe b 0x6C 4) 0, fAdjust := bitAt (getLe b 0x6C 4) 1
    scale := signed 8 (bitsOf (getLe b 0x6C 4) 24 8), jseq := getLe b 0x70 8 }

/-- A result that fits 32 bits, or a free value where the spec states no result. -/
def fit32 (seq v : Nat) : Nat := if v < 2 ^ 32 then v else (Config.overflow seq).toNat

/-- The closure of the open demand interval (R409): `end_` is its end. -/
def Ext.closeDemand (e : Ext) (seq dlen end_ : Nat) : Ext :=
  let dem := fit32 seq (e.dcur * 60 / dlen)
  if e.dmax < dem then { e with dmax := dem, dmaxTime := end_, dcur := 0 } else { e with dcur := 0 }

/-- The end of the demand interval that holds LAST_BOOKED. -/
def Ext.demandEnd (e : Ext) (dlen : Nat) : Nat := (e.lastBooked / (dlen * 60) + 1) * (dlen * 60)

/-- Demand under R409; a length of 0 adds nothing. -/
def Ext.demand (e : Ext) (seq start value dlen : Nat) : Ext :=
  if dlen = 0 then e
  else
    let here := start / (dlen * 60)
    let open_ := e.lastBooked / (dlen * 60)
    if here = open_ then { e with dcur := fit32 seq (e.dcur + value) }
    else if here < open_ then e
    else { (e.closeDemand seq dlen (e.demandEnd dlen)) with dcur := value }

/-- A booking (R408): registers, demand or adjustment, LAST_BOOKED, JOURNAL_SEQ, FLAGS[0] (R415). -/
def Ext.booked (e : Ext) (seq grp start rate value dlen : Nat) (dflt : Bool) (version : Nat) : Ext :=
  let e1 := { e with rates := e.rates.set rate ((e.rates.getD rate 0 + value) % 2 ^ 32), total := (e.total + value) % 2 ^ 64 }
  let e2 := if e.periodStart ≤ start then e1.demand seq start value dlen
    else { e1 with adjust := fit32 seq (e1.adjust + value), fAdjust := true }
  { e2 with lastBooked := max e.lastBooked start, jseq := seq, fDefault := dflt, grp := grp, version := version }

/-- The closed-period record: the extension after its open demand interval is closed (R411). -/
def Ext.record (e : Ext) (seq dlen : Nat) : Ext := e.closeDemand seq dlen (e.demandEnd dlen)

/-- The extension after a close (R410): tamper bits released, period registers 0, PERIOD_START. -/
def Ext.closed (e : Ext) (seq instant cleared dlen : Nat) : Ext :=
  let r := e.record seq dlen
  { r with tamper := r.tamper &&& (7 - cleared % 8), dmax := 0, dmaxTime := 0, dcur := 0, adjust := 0, fAdjust := false
           periodStart := instant, jseq := seq }

/-- An extension at admission (R109). -/
def Ext.fresh (grp at_ : Nat) : Ext := { grp := grp, periodStart := at_ }

end Sys2Proof.Machine
end

