-- ==== Sys2Proof/Machine/TarOps.lean ====
section
/-! DEFINITION. Sys2Proof/Machine/TarOps.lean: the billing journal (R40, R41), bookings, closes, activations and tamper bits of the
Weigh-in partition (R392 to R421). -/

namespace Sys2Proof.Machine

/-! ## The journal -/

/-- A billing extension as the Weigh-in core works on it. -/
def Dev.ext (d : Dev) (m : Nat) : Option Ext := d.tar.ext.find m

/-- Set a billing extension. -/
def Dev.setExt (d : Dev) (m : Nat) (e : Ext) : Dev := { d with tar := { d.tar with ext := d.tar.ext.put m e } }

/-- The output record of a log entry takes its BOOK (R327, R333); an effective booking counts in the window of R334. -/
def Dev.setBook (d : Dev) (m seq code : Nat) : Dev :=
  match d.ldg.meters.find m with
  | none => d
  | some x =>
    let e := x.log.find? (fun e => e.seq = seq)
    let x' := { x with log := x.log.map (fun e => if e.seq = seq then { e with book := some code } else e) }
    let l := { d.ldg with meters := d.ldg.meters.put m x' }
    let at_ := if l.winMixes.isEmpty then d.tim.mono else l.winFrom
    let l' := match e with
      | some e => if code = 1 ∨ code = 3 then { l with winFrom := at_
                                                       winEnd := max l.winEnd (e.start + e.intLen * 60)
                                                       winMixes := if l.winMixes.contains m then l.winMixes else m :: l.winMixes } else l
      | none => l
    { d with ldg := l' }

/-- A journal entry becomes effective (R40): the mirror shows it, and its output record is released. -/
def Dev.effective (d : Dev) (e : JEntry) : Dev :=
  let d1 := match e.mix, e.ext with
    | some m, some x => { d with tar := { d.tar with eff := d.tar.eff.put m x } }
    | _, _ => d
  match e.out with
  | some (m, seq, code) => d1.setBook m seq code
  | none => d1

/-- The bow must acknowledge entries: the device is the stroke of a pair and not solo (R40, R546). -/
def Dev.mirrored (d : Dev) : Bool := d.par.en && decide (d.par.role = .stroke) && !d.par.solo

/-- Close the open half and give it to the NAND billing stream (R41). -/
def Dev.closeHalf (d : Dev) : Dev :=
  let h := d.tar.half
  let d1 : Dev := { d with tar := { d.tar with half := [], closedHalves := d.tar.closedHalves ++ [h] } }
  d1.offer 14 ⟨7, max 16 (16 * h.length), .media 0 (.bill h true)⟩

/-- Both halves are closed and not yet programmed: bookings wait (R41). -/
def Dev.journalFull (d : Dev) : Bool := 2 ≤ d.tar.closedHalves.length

/-- Write a journal entry; it is mirrored to the bow, or effective at once (R40, R543). -/
def Dev.journal (d : Dev) (what : JWhat) (mix : Option Nat) (ext : Option Ext) (out : Option (Nat × Nat × Nat) := none) : Dev :=
  let e : JEntry := { seq := d.tar.jseq + 1, what := what, mix := mix, ext := ext, out := out }
  let d1 : Dev := { d with tar := { d.tar with jseq := e.seq, half := d.tar.half ++ [e] } }
  let d2 := if d1.mirrored
    then ({ d1 with tar := { d1.tar with unacked := d1.tar.unacked ++ [e] } } : Dev).pairSend d1.openCycle (.jmir [(e.seq, what)])
    else d1.effective e
  if 8192 ≤ d2.tar.half.length then d2.closeHalf else d2

/-- Change an extension and journal the change; the function gets the entry's number. -/
def Dev.journalExt (d : Dev) (m : Nat) (what : JWhat) (f : Nat → Ext → Ext) (out : Option (Nat × Nat × Nat) := none) : Dev :=
  match d.ext m with
  | none => d
  | some e =>
    let e' := f (d.tar.jseq + 1) e
    (d.setExt m e').journal what (some m) (some e') out

/-- TARIFF_LOAD completes once the table is in NAND and the bow has acknowledged it (R402). -/
def Dev.loadsDone (d : Dev) : Dev :=
  let ready := fun (l : LoadWait) => l.inNand && (!d.mirrored || decide (l.seq ≤ d.tar.acked))
  let d1 : Dev := { d with tar := { d.tar with loads := d.tar.loads.filter (fun l => !ready l) } }
  (d.tar.loads.filter ready).foldl (fun (x : Dev) l => x.complete l.pair l.id 0 0 [l.crc]) d1

/-- Entries up to a sequence become effective (R40, R543). -/
def Dev.acknowledge (d : Dev) (seq : Nat) : Dev :=
  let es := d.tar.unacked.filter (fun e => e.seq ≤ seq)
  let d1 : Dev := { d with tar := { d.tar with unacked := d.tar.unacked.filter (fun e => seq < e.seq), acked := max d.tar.acked seq } }
  (es.foldl (fun (x : Dev) e => x.effective e) d1).loadsDone

/-! ## Extensions -/

/-- The Weigh-in core opens the extension of a meter that is admitted (R109). -/
def Dev.openExt (d : Dev) (m : Nat) : Dev :=
  match d.ctxAt m with
  | none => d
  | some c =>
    let d1 := d.setExt m (Ext.fresh c.grp d.nowS)
    d1.journalExt m (.opened m d.nowS) (fun seq e => { e with jseq := seq })

/-- The extension of a retired meter is closed, its content kept (R109, R127). -/
def Dev.finalExt (d : Dev) (m : Nat) : Dev := d.journalExt m (.final m) (fun seq e => { e with st := 2, jseq := seq })

/-- Set tamper bits that a meter reports, or that the Ledger passes on (R419). -/
def Dev.setTamper (d : Dev) (m bits : Nat) : Dev :=
  match d.ext m with
  | none => d
  | some e =>
    let new := bits % 8 &&& (7 - e.tamper % 8)
    if new = 0 ∨ e.st ≠ 1 then d
    else (d.journalExt m (.tamper m new) (fun seq e => { e with tamper := e.tamper ||| new, jseq := seq })).post 5 0x0B20 1 0xB (tgtMix m) new

/-! ## Closes (R410, R411, R420) -/

/-- The demand length of a meter under its group's table in force. -/
def Dev.dlenOf (d : Dev) (m : Nat) : Nat :=
  match d.ctxAt m with
  | some c => demandLen (d.grpTar c.grp).table c.intLen
  | none => 15

/-- The tamper bits that a close releases (R420). -/
def Dev.released (d : Dev) (m : Nat) : Nat :=
  match d.ctxAt m with
  | none => 0
  | some c =>
    let free := fun b => !bitAt c.meterTamper b
    b2n (free 0) + 2 * b2n (free 1 && decide (c.suspect < 10 * (d.rd F.LDG_ATTR_CFG_T_SUS : Int))) + 4 * b2n (free 2)

/-- One meter of a sweep (R410). -/
def Dev.sweepMeter (d : Dev) (m instant : Nat) : Dev :=
  match d.ext m with
  | none => d
  | some e =>
    if e.st ≠ 1 then d
    else
      let dl := d.dlenOf m
      let cl := d.released m
      let seq := d.tar.jseq + 1
      let r := e.record seq dl
      let d1 : Dev := { d with tar := { d.tar with closedRec := d.tar.closedRec.put m r } }
      (d1.offer 14 ⟨7, 128, .media 0 (.closedRec m r)⟩).journalExt m (.closed m instant cl dl) (fun s x => x.closed s instant cl dl)

/-- The sweep of a group in progress. -/
def Dev.sweepOf (d : Dev) (g : Nat) : Option Sweep := d.tar.sweeps.find? (fun s => s.grp = g)

/-- A sweep takes one of its meters. -/
def Dev.sweepTake (d : Dev) (s : Sweep) (m : Nat) : Dev :=
  let d1 := d.sweepMeter m s.instant
  { d1 with tar := { d1.tar with sweeps := d1.tar.sweeps.map (fun x => if x.grp = s.grp then { x with left := x.left.filter (· ≠ m) } else x) } }

/-- The next close instant of a group: after its latest close, or after its table took force (R410, R416). -/
def GrpTar.closeDue (g : GrpTar) : Option Nat := g.table.nextClose (max g.closeAt g.since)

/-- A sweep starts (R410). -/
def Dev.startSweep (d : Dev) (g instant : Nat) : Dev :=
  let ms := (d.tar.ext.filter (fun e => e.2.st = 1 && (match d.ctxAt e.1 with | some c => c.grp = g | none => false))).map (·.1)
  ({ d with tar := { d.tar with sweeps := d.tar.sweeps ++ [{ grp := g, instant := instant, left := ms }] } } : Dev).wrb F.TAR_STS_CLOSING 0 true

/-- A sweep ends: the meters left are taken, CLOSE_AT takes the instant (R410). -/
def Dev.endSweep (d : Dev) (s : Sweep) : Dev :=
  let d1 := s.left.foldl (fun (x : Dev) m => x.sweepTake s m) d
  let d2 := d1.setGrpTar s.grp { d1.grpTar s.grp with closeAt := s.instant }
  let rest := d2.tar.sweeps.filter (fun x => x.grp ≠ s.grp)
  ({ d2 with tar := { d2.tar with sweeps := rest } } : Dev).wrb F.TAR_STS_CLOSING 0 (!rest.isEmpty)

/-! ## Activations (R406, R418) -/

/-- The activation of a group is due. -/
def Dev.actDue (d : Dev) (g : Nat) : Bool :=
  match (d.grpTar g).actAt with
  | some t => decide (t ≤ d.nowNs) && (d.grpTar g).staged.isSome
  | none => false

/-- The staged table takes force (R406), stamped with its instant. -/
def Dev.activate (d : Dev) (g : Nat) : Dev :=
  let x := d.grpTar g
  match x.staged, x.actAt with
  | some t, some at_ =>
    let s := at_ / 1000000000 % 2 ^ 32
    let x' : GrpTar := { x with inForce := some t, since := s, prev := some x.table, staged := none, actAt := none }
    ((d.setGrpTar g x').journal (.activation g t.version s) none none).offer 14 ⟨7, 2208, .media 0 (.tables g x' none)⟩
  | _, _ => d

/-! ## Bookings (R407, R408, R412, R415) -/

/-- START lies in the meter's protected span (R407). -/
def Dev.inSpan (d : Dev) (m start : Nat) : Bool :=
  match d.tar.spans.find m with
  | some (lo, hi) => decide (lo < start) && decide (start ≤ hi)
  | none => false

/-- The Weigh-in core books the entry (R407). -/
def Dev.books (d : Dev) (b : BookEntry) (e : Ext) : Bool :=
  decide (e.lastBooked < b.start) || (decide (b.start < e.lastBooked) && b.first && !d.inSpan b.mix b.start)

/-- Book an entry, or refuse it as already booked. -/
def Dev.book (d : Dev) (b : BookEntry) : Dev :=
  match d.ext b.mix, d.ctxAt b.mix with
  | some e0, some c =>
    if e0.st ≠ 1 then d.setBook b.mix b.seq 0
    else if !d.books b e0 then (d.bump F.TAR_REFUSED).setBook b.mix b.seq 2
    else
      let d1 := match d.sweepOf c.grp with
        | some s => if s.left.contains b.mix && decide (s.instant ≤ b.start) then d.sweepTake s b.mix else d
        | none => d
      let e := (d1.ext b.mix).getD e0
      let g := d1.grpTar c.grp
      let valid := d1.timeValid
      let t := if valid then g.tableAt b.start else g.table
      let rate := if valid then t.rateAt b.start else g.table.defaultRate
      let dlen := if b.timeInvalid then 0 else demandLen t c.intLen
      let late := decide (b.start < e.periodStart)
      let none_ := b.timeInvalid || (!late && decide (b.start / (dlen * 60) < e.lastBooked / (dlen * 60)))
      let d2 := d1.bumpW F.TAR_BOOKED
      let d3 := if late then d2.bump F.TAR_ADJUST else d2
      let d4 := if none_ then d3.bump F.TAR_NO_DEMAND else d3
      let d5 : Dev := if valid then d4 else
        { (d4.bump F.TAR_DEFAULT) with tar := { d4.tar with defaultBooked := (d4.tar.defaultBooked + 1) % 2 ^ 64, defaultAt := some d4.nowS } }
      d5.journalExt b.mix (.booking b.mix b.start rate b.value dlen (!valid) g.table.version)
        (fun seq x => x.booked seq c.grp b.start rate b.value dlen (!valid) g.table.version) (some (b.mix, b.seq, if late then 3 else 1))
  | _, _ => d.setBook b.mix b.seq 0

/-- The bow applies a mirrored entry to its own copy (R421). -/
def Dev.applyMirror (d : Dev) (seq : Nat) (w : JWhat) : Dev :=
  let upd := fun (x : Dev) (m : Nat) (f : Ext → Ext) =>
    match x.ext m with
    | some e => (({ (x.setExt m (f e)) with tar := { (x.setExt m (f e)).tar with eff := x.tar.eff.put m (f e) } } : Dev), some m, some (f e))
    | none => (x, some m, none)
  let r : Dev × Option Nat × Option Ext := match w with
    | .booking m start rate value dlen dflt ver =>
      upd d m (fun e => e.booked seq ((d.ctxAt m).map (·.grp) |>.getD e.grp) start rate value dlen dflt ver)
    | .marker _ => (d, none, none)
    | .activation g _ s =>
      (match (d.grpTar g).staged with
       | some t => (d.setGrpTar g { d.grpTar g with inForce := some t, since := s, prev := some (d.grpTar g).table, staged := none, actAt := none }, none, none)
       | none => (d, none, none))
    | .closed m i cl dl =>
      (match d.ext m with
       | some e =>
         let rec_ := e.record seq dl
         upd (({ d with tar := { d.tar with closedRec := d.tar.closedRec.put m rec_ } } : Dev).offer 14 ⟨7, 128, .media 0 (.closedRec m rec_)⟩) m
           (fun e => e.closed seq i cl dl)
       | none => (d, some m, none))
    | .tamper m bits => upd d m (fun e => { e with tamper := e.tamper ||| bits, jseq := seq })
    | .opened m at_ =>
      let e := { Ext.fresh ((d.ctxAt m).map (·.grp) |>.getD 0) at_ with jseq := seq }
      (({ (d.setExt m e) with tar := { (d.setExt m e).tar with eff := d.tar.eff.put m e } } : Dev), some m, some e)
    | .final m => upd d m (fun e => { e with st := 2, jseq := seq })
    | .armed g t => (d.setGrpTar g { d.grpTar g with actAt := some t }, none, none)
    | .loaded g b =>
      (match TarTable.parse b with
       | .ok t => (d.setGrpTar g { d.grpTar g with staged := some t, actAt := none }, none, none)
       | .error _ => (d, none, none))
  let e : JEntry := { seq := seq, what := w, mix := r.2.1, ext := r.2.2 }
  let d1 : Dev := { r.1 with tar := { r.1.tar with jseq := seq, half := r.1.tar.half ++ [e] } }
  if 8192 ≤ d1.tar.half.length then d1.closeHalf else d1

end Sys2Proof.Machine
end

