-- ==== Sys2Proof/Machine/LdgOps.lean ====
section
/-! DEFINITION. Sys2Proof/Machine/LdgOps.lean: the interval log, meter clocks, validation and estimation (R315 to R334). -/

namespace Sys2Proof.Machine

/-- What the Ledger keeps of a meter. -/
def Dev.ldgM (d : Dev) (m : Nat) : LdgMeter := d.ldg.meters.getD m {}

/-- Set what the Ledger keeps of a meter. -/
def Dev.setLdgM (d : Dev) (m : Nat) (x : LdgMeter) : Dev := { d with ldg := { d.ldg with meters := d.ldg.meters.put m x } }

/-! ## The log (R328, R329) -/

/-- The 64-byte header of an entry (R328). -/
def LogEnt.header (e : LogEnt) : List Byte :=
  (padTo 32 e.prev).take 32 ++ layBytes [(4, e.seq), (1, e.typ), (1, e.cls), (2, e.body.length), (4, e.start), (4, e.value),
    (8, e.reg.getD 0xFFFFFFFFFFFFFFFF), (2, e.vee), (1, e.intLen), (1, e.aux), (4, e.ref)]

/-- The hash of an entry: its header and the first BODY_LEN bytes of its body (R329). -/
def LogEnt.hash (e : LogEnt) : List Byte := sha256 (e.header ++ e.body)

/-- An entry as stored: the body padded to a multiple of 64 B (R328). -/
def LogEnt.bytes (e : LogEnt) : List Byte := e.header ++ padTo (ceilDiv e.body.length 64 * 64) e.body

/-- Append an entry to a meter's log: PREV is CHAIN_HEAD, SEQ is LOG_SEQ; both move on (R329). -/
def Dev.appendLog (d : Dev) (m : Nat) (e0 : LogEnt) : Dev :=
  match d.ctxAt m with
  | none => d
  | some c =>
    let e := { e0 with prev := if c.logSeq = 0 then List.replicate 32 0 else c.chainHead, seq := c.logSeq, at_ := d.nowS
                       balNode := c.balNode, clockOfs := c.clockOfs }
    (d.setLdgM m { d.ldgM m with log := e :: (d.ldgM m).log }).editCtx m (fun c => { c with chainHead := e.hash, logSeq := e.seq + 1 })

/-- GENESIS, at admission (R329). -/
def Dev.genesis (d : Dev) (m : Nat) : Dev :=
  match d.ctxAt m with
  | none => d
  | some c =>
    (d.setLdgM m { beaconTime := (d.ldgM m).beaconTime, fdPort := (d.ldgM m).fdPort }).appendLog m
      { prev := [], seq := 0, typ := 1, body := layBytes [(8, c.addr), (1, c.kind), (1, c.medium), (2, c.grp), (4, 0)]
        start := c.admitTime, value := m }

/-- An INTERVAL entry. -/
def LogEnt.isInt (e : LogEnt) : Bool := e.typ = 3

/-- Neither REJECT nor DUP_CONFLICT: handed for booking (R327). -/
def LogEnt.handed (e : LogEnt) : Bool := e.isInt && !bitAt e.vee 0 && !bitAt e.vee 1

/-- SEAL, at retirement: SEQ of the last INTERVAL entry, or 0xFFFF_FFFF (R328, R329). -/
def Dev.sealLog (d : Dev) (m : Nat) : Dev :=
  d.appendLog m { prev := [], seq := 0, typ := 4, start := d.nowS
                  value := match (d.ldgM m).log.find? LogEnt.isInt with | some e => e.seq | none => 0xFFFFFFFF }

/-- Hand an entry to the Weigh-in partition on the booking queue (R327, R407). -/
def Dev.handOver (d : Dev) (m start value : Nat) (first timeInvalid : Bool) (seq : Nat) : Dev :=
  d.offer 10 ⟨0, 32, .booking { mix := m, start := start, value := value, first := first, timeInvalid := timeInvalid, seq := seq }⟩

/-- Log an interval value (R329), count it, and hand it over unless it is rejected or in conflict (R327). -/
def Dev.logInterval (d : Dev) (m cls start value : Nat) (reg : Option Nat) (vee : Nat) (ref rx : Nat) : Dev :=
  match d.ctxAt m with
  | none => d
  | some c =>
    let x := d.ldgM m
    let handed := !bitAt vee 0 && !bitAt vee 1
    let first := !(x.log.any (fun e => e.handed && e.start = start))
    let day := d.nowS / 86400
    let d1 := d.appendLog m { prev := [], seq := 0, typ := 3, cls := cls, start := start, value := value, reg := reg, vee := vee
                              intLen := c.intLen, aux := c.timeQual, ref := if cls = 1 then ref else 0
                              book := if handed then none else some 0, rxTime := if cls = 1 then rx else 0 }
    let d2 := (d1.setLdgM m { d1.ldgM m with veeDay := day }).editCtx m (fun y => { y with
      vee := (if x.veeDay = day then y.vee else 0) ||| vee % 256
      estCount := if cls = 2 then min 65535 (y.estCount + 1) else y.estCount })
    let d3 := d2.bumpW F.LDG_INT_LOGGED
    let d4 := if cls = 2 then d3.bump F.LDG_EST_R else d3
    if handed then d4.handOver m start value first (bitAt vee 12) c.logSeq else d4

/-- The FRAME entries of a frame (R329): parts of 1,280 B. -/
def Dev.logFrame (d : Dev) (m : Nat) (raw : List Byte) (counter rx suite : Nat) : Dev :=
  let parts := if raw.isEmpty then [[]] else chunks 1280 (raw.length + 1) raw
  let last := parts.length - 1
  (parts.foldl (fun (s : Nat × Dev) p => (s.1 + 1, s.2.appendLog m
    { prev := [], seq := 0, typ := 2, cls := s.1 % 256, body := p, start := rx / 1000000000 % 2 ^ 32, value := counter % 2 ^ 32
      reg := some rx, aux := suite, ref := last })) (0, d)).2

/-! ## Meter clocks (R316 to R319) -/

/-- The median of up to five measurements, the lower of two middle ones (R316). -/
def medianLow (l : List Int) : Int := (sortInt l).getD ((l.length - 1) / 2) 0

/-- The class of a clock (R317). -/
def Dev.clockClass (d : Dev) (x : LdgMeter) (ofs : Int) (data : MData) : Nat :=
  let a := ofs.natAbs
  if data.clkInvalid then 3
  else if x.beaconTime && data.clockFine && a ≤ 1 then 0
  else if a ≤ 1000 * d.rd F.LDG_CLK_CFG_FINE_MAX then 1
  else if a ≤ 1000 * d.rd F.LDG_CLK_CFG_COARSE_MAX then 2 else 3

/-- Empty the history of measurements (R316). -/
def Dev.clockFresh (d : Dev) (m : Nat) : Dev := d.setLdgM m { d.ldgM m with clocks := [] }

/-- The offset of a reading, ms, to the nearest. -/
def clockOffset (reading : Int) (rx : Nat) : Int := (reading * 1000000 - rx + 500000) / 1000000

/-- A class is taken: a change posts a finding, and entering class 2 or 3 may ask for a WRITE_TIME (R317, R319). -/
def Dev.setClass (d : Dev) (m cls : Nat) : Dev :=
  match d.ctxAt m with
  | none => d
  | some c =>
    if c.timeQual = cls then d
    else
      let d1 := (d.editCtx m (fun y => { y with timeQual := cls })).post 2 0x0A40 0 0xA (tgtMix m) m (c.timeQual + 256 * cls) (unsigned 32 c.clockOfs)
      let x := d1.ldgM m
      let late := match x.askedAt with | some t => decide (t + 43200000000000 ≤ d1.tim.mono) | none => true
      if d1.on F.LDG_CLK_CFG_AUTO_SET && 2 ≤ cls && late && !(d1.cals.getD m {}).deaf then
        d1.setLdgM m { x with askTime := true, askedAt := some d1.tim.mono }
      else d1

/-- A frame's clock reading is measured (R316, R317). -/
def Dev.clockMeasure (d : Dev) (m : Nat) (data : MData) (rx : Nat) : Dev :=
  let d1 := if data.clkAdj.isSome then d.clockFresh m else d
  match data.clock with
  | none => if data.clkInvalid then d1.setClass m 3 else d1
  | some r =>
    let x := d1.ldgM m
    let cs := (clockOffset r rx :: x.clocks).take 5
    let ofs := medianLow cs
    let d2 := (d1.setLdgM m { x with clocks := cs }).editCtx m (fun y => { y with clockOfs := ofs })
    d2.setClass m (d2.clockClass x ofs data)

/-! ## Validation (R318, R320, R321) -/

/-- START of a profile item (R318). -/
def startOf (meterStart : Nat) (ofs : Int) (intLen : Nat) : Nat :=
  let l : Int := intLen * 60000
  ((((meterStart : Int) * 1000 - ofs + l / 2) / l) * (intLen * 60 : Nat)).toNat

/-- Class A entries that are not rejected. -/
def LogEnt.goodA (e : LogEnt) : Bool := e.isInt && e.cls = 1 && !bitAt e.vee 0

/-- V1: what the log says of an item's START and VALUE: 0 nothing, 1 the same, 2 a conflict. -/
def dupCheck (log : List LogEnt) (start value : Nat) : Nat :=
  let same := log.filter (fun e => e.isInt && e.cls = 1 && e.start = start)
  if same.isEmpty then 0 else if same.any (fun e => e.value = value) then 1 else 2

/-- V2: distance of a start from its nearest boundary, s. -/
def misalign (start intLen : Nat) : Nat := let r := start % (intLen * 60); min r (intLen * 60 - r)

/-- The register of the accepted entry for a START (V5). -/
def regAt (log : List LogEnt) (start : Nat) : Option Nat :=
  log.findSome? (fun e => if e.isInt && !bitAt e.vee 0 && e.start = start then e.reg else none)

/-- V6: a spike against the class A values of the 30 days before, once they cover 7 UTC days. -/
def spike (log : List LogEnt) (start value x : Nat) : Bool :=
  let vs := log.filter (fun e => e.goodA && start ≤ e.start + 2592000 && e.start < start)
  let days := (vs.map (fun e => e.start / 86400)).foldl (fun l k => if l.contains k then l else k :: l) ([] : List Nat)
  7 ≤ days.length && x * sumNat (vs.map (·.value)) < value * vs.length

/-- A report that flags an item: all items without an instant, the item whose span holds it otherwise (V8). -/
def reported (r : Option (Option Nat)) (start len : Nat) : Bool :=
  match r with
  | none => false
  | some none => true
  | some (some t) => start ≤ t && t < start + len

/-- The node of a meter showed check-meter energy throughout a span (V7). -/
def Dev.nodeEnergy (d : Dev) (c : Ctx) (start len : Nat) : Bool :=
  bitAt c.balNode 15 &&
  (let rows := ((d.ldg.nodes.getD (c.balNode % 4096) {}).log).filter (fun r => start < r.end_ && r.end_ < start + len + 900)
   !rows.isEmpty && rows.all (fun r => match r.check with | some e => decide (0 < e.foldl (· + ·) (0 : Rat)) | none => false))

/-- A flag bit, if a condition holds. -/
def flagIf (b : Nat) (p : Bool) : Nat := if p then 2 ^ b else 0

/-- One profile item is validated, logged and handed over (R320). `ref` is the frame's first FRAME entry. -/
def Dev.item (d : Dev) (m : Nat) (data : MData) (rx ref : Nat) (it : MItem) : Dev :=
  match d.ctxAt m with
  | none => d
  | some c =>
    let x := d.ldgM m
    let len := c.intLen * 60
    let start := startOf it.start c.clockOfs c.intLen
    let dup := dupCheck x.log start it.value
    if dup = 1 then d.bump F.LDG_DUP
    else
      let mis := misalign it.start c.intLen
      let v2 := d.rd F.LDG_VEE_CFG_ALIGN_TOL < mis
      let v2r := c.intLen * 15 < mis
      let v3 := d.nowS + d.rd F.LDG_VEE_CFG_FUT_TOL < start + len
      let back := match it.reg with | some r => decide (r < c.lastReg) | none => false
      let v4 := back && !data.regReset
      let prevReg := regAt x.log (start - len)
      let fix := match it.reg, prevReg with
        | some r, some p => if p ≤ r ∧ d.rd F.LDG_EST_CFG_SUM_TOL < ((it.value : Int) - (r - p : Nat)).natAbs then some (r - p) else none
        | _, _ => none
      let value := fix.getD it.value
      let cls := if fix.isSome then 2 else 1
      let v6 := spike x.log start value (d.rd F.LDG_VEE_CFG_SPIKE_X)
      let run := if cls = 1 ∧ value = 0 ∧ d.nodeEnergy c start len then x.stuckRun + 1 else 0
      let v7 := decide (d.rd F.LDG_VEE_CFG_STUCK_N ≤ run)
      let pwr := reported data.pwrDown it.start len
      let adj := reported data.clkAdj it.start len
      let v9 := c.timeQual = 3
      let v10 := !d.timeValid
      let sup := x.log.any (fun e => e.isInt && e.cls = 2 && e.start = start) && dup = 0
      let rej := dup = 2 || v2r || v3 || v4
      let vee := flagIf 0 rej + flagIf 1 (dup = 2) + flagIf 2 v2 + flagIf 3 v3 + flagIf 4 v4 + flagIf 5 (back && data.regReset)
        + flagIf 6 fix.isSome + flagIf 7 v6 + flagIf 8 v7 + flagIf 9 pwr + flagIf 10 adj + flagIf 11 v9 + flagIf 12 v10
        + flagIf 13 sup + flagIf 14 (rej || v6 || adj || v9 || v10)
      let d1 := d.setLdgM m { x with stuckRun := run, stuckStart := if run = 1 then start else x.stuckStart
                                     stuckSaid := if run = 0 then false else x.stuckSaid }
      let d2 := d1.logInterval m cls start value it.reg vee ref rx
      let d3 := if rej then (d2.editCtx m (fun y => if back && data.regReset then { y with lastReg := it.reg.getD y.lastReg } else y)).bump F.LDG_REJECT
        else d2.editCtx m (fun y => { y with lastReg := it.reg.getD y.lastReg, lastIntEnd := max y.lastIntEnd (start + len) })
      let d4 := if dup = 2 then (d3.bump F.LDG_CONFLICT).post 2 0x0A60 1 0xA (tgtMix m) m start c.logSeq else d3
      if v7 && !(d4.ldgM m).stuckSaid then
        (d4.setLdgM m { d4.ldgM m with stuckSaid := true }).post 2 0x0A50 1 0xA (tgtMix m) m run (d4.ldgM m).stuckStart
      else d4

/-! ## Register readings (R324) -/

/-- The curve through two points at an instant, ns. -/
def lineAt (t1 r1 t2 r2 t : Nat) : Rat :=
  if t2 ≤ t1 then r1 else (r1 : Rat) + ((r2 : Rat) - r1) * ((t : Rat) - t1) / ((t2 : Rat) - t1)

/-- The curve of a register-only meter at an instant; points newest first. -/
def curveAt : List (Nat × Nat) → Nat → Option Rat
  | (t2, r2) :: (t1, r1) :: ps, t => if t1 ≤ t then (if t ≤ t2 then some (lineAt t1 r1 t2 r2 t) else none) else curveAt ((t1, r1) :: ps) t
  | [(t1, r1)], t => if t = t1 then some r1 else none
  | [], _ => none

/-- A reading of a register-only meter is a point; each interval that it completes gets its growth (R324). -/
def Dev.reading (d : Dev) (m rx reg : Nat) : Dev :=
  match d.ctxAt m with
  | none => d
  | some c =>
    let x := d.ldgM m
    let len := c.intLen * 60
    let pts := (rx, reg) :: x.points
    let lo := match x.points with | p :: _ => p.1 / 1000000000 / len | [] => rx / 1000000000 / len
    let d1 := d.setLdgM m { x with points := pts.take 4 }
    (List.range (rx / 1000000000 / len - lo)).foldl (fun (y : Dev) k =>
      let e := (lo + 1 + k) * len
      match curveAt pts (e * 1000000000), curveAt pts ((e - len) * 1000000000) with
      | some a, some b =>
        (y.logInterval m 2 (e - len) (a - b).floor.toNat none (flagIf 12 (!y.timeValid) + flagIf 14 (!y.timeValid)) 0 rx).editCtx m
          (fun z => { z with lastIntEnd := max z.lastIntEnd e })
      | _, _ => y) d1

/-! ## A frame at the Ledger (R315, R320, R329) -/

/-- A frame's content passes the Ledger: clock, FRAME entries, items in ascending start order, register readings. -/
def Dev.ledger (d : Dev) (m : Nat) (f : MFrame) (rx : Nat) : Dev :=
  let d1 := d.clockMeasure m f.data rx
  match d1.ctxAt m with
  | none => d1
  | some c =>
    let items := sortBy (·.start) f.data.items
    let log := (d1.ldgM m).log
    let keeps := items.any (fun it => dupCheck log (startOf it.start c.clockOfs c.intLen) it.value ≠ 1)
    let d2 := if keeps || !f.data.regs.isEmpty then d1.logFrame m f.raw f.counter rx c.suite else d1
    let d3 := items.foldl (fun (y : Dev) it => y.item m f.data rx c.logSeq it) d2
    if items.isEmpty then f.data.regs.foldl (fun (y : Dev) r => (y.reading m rx r).editCtx m (fun z => { z with lastReg := r })) d3 else d3

/-! ## Gap fill (R324) -/

/-- Accepted INTERVAL entries by rising START. -/
def accepted (log : List LogEnt) : List LogEnt := sortBy (·.start) (log.filter LogEnt.handed)

/-- Pairs of neighbouring entries of a list that carry REG, with what lies between. -/
def regPairs : Option LogEnt → List LogEnt → List LogEnt → List (LogEnt × LogEnt × List LogEnt)
  | _, _, [] => []
  | none, _, e :: t => if e.reg.isSome then regPairs (some e) [] t else regPairs none [] t
  | some a, acc, e :: t => if e.reg.isSome then (a, e, acc) :: regPairs (some e) [] t else regPairs (some a) (acc ++ [e]) t

/-- The missing starts between two entries. -/
def missing (len : Nat) (a b : LogEnt) (mid : List LogEnt) : List Nat :=
  ((List.range ((b.start - a.start) / len - 1)).map (fun k => a.start + (k + 1) * len)).filter (fun s => !(mid.any (fun e => e.start = s)))

/-- The mean class A value at the same time of day over the 28 days before, where 7 such days exist (R324, R325). -/
def dayMean (log : List LogEnt) (start : Nat) : Option Rat :=
  let vs := log.filter (fun e => e.goodA && e.start < start && start ≤ e.start + 2419200 && e.start % 86400 = start % 86400)
  if 7 ≤ vs.length then some ((sumNat (vs.map (·.value)) : Rat) / vs.length) else none

/-- Shares of a total by weights: rounded down, the units left over to the largest fractions, a tie to the earlier (R324). -/
def shares (total : Nat) (ws0 : List Rat) : List Nat :=
  let ws := if ws0.all (· = 0) then ws0.map (fun _ => (1 : Rat)) else ws0
  let sum := ws.foldl (· + ·) 0
  let ex := ws.map (fun w => (total : Rat) * w / sum)
  let fl := ex.map (fun r => r.floor.toNat)
  let left := total - sumNat fl
  let fr := List.zipWith (fun (r : Rat) (n : Nat) => r - n) ex fl
  (List.range fl.length).map (fun i =>
    let fi := fr.getD i 0
    let before := ((List.range fr.length).filter (fun j => decide (fi < fr.getD j 0) || (fr.getD j 0 = fi && decide (j < i)))).length
    fl.getD i 0 + (if before < left then 1 else 0))

/-- The runs that can be filled: their starts, the growth to share, and when the later entry has been logged long enough, s. -/
def Dev.fillable (d : Dev) (m : Nat) : List (List Nat × Nat × Nat) :=
  match d.ctxAt m with
  | none => []
  | some c =>
    let len := c.intLen * 60
    (regPairs none [] (accepted (d.ldgM m).log)).filterMap (fun p =>
      let a := p.1
      let b := p.2.1
      let ms := (missing len a b p.2.2).filter (fun s => !d.inSpan m s)
      let v := sumNat (p.2.2.map (·.value)) + b.value
      match a.reg, b.reg with
      | some ra, some rb =>
        if ms.isEmpty ∨ 2880 < ms.length ∨ rb < ra + v then none
        else some (ms, rb - ra - v, b.at_ + 3600 * d.rd F.LDG_EST_CFG_EST_HOLD)
      | _, _ => none)

/-- Fill a run with class R values (R324). -/
def Dev.fillRun (d : Dev) (m : Nat) (starts : List Nat) (growth : Nat) : Dev :=
  let log := (d.ldgM m).log
  let vs := shares growth (starts.map (fun s => (dayMean log s).getD 1))
  (List.zip starts vs).foldl (fun (y : Dev) p =>
    y.logInterval m 2 p.1 p.2 none (flagIf 12 (!y.timeValid) + flagIf 14 (!y.timeValid)) 0 0) d

end Sys2Proof.Machine
end

