-- ==== Sys2Proof/Machine/Contexts.lean ====
section
/-! DEFINITION. Sys2Proof/Machine/Contexts.lean: the CTX descriptors, retirement, change of owner, and the commands of the context
engine (R107 to R130). -/

namespace Sys2Proof.Machine

/-- A MIX of a descriptor is checked (R88, R112, R127): unknown or RETIRING, then owned by the head end. -/
def Dev.withCtx (d : Dev) (p : Nat) (h : Held) (f : Nat → Ctx → Dev) : Dev :=
  match d.ctxNamed (tMix h.desc) with
  | none => d.complete p h.id 0xB 0
  | some c => if c.owned then f (tMix h.desc) c else d.complete p h.id 0xC 0

/-! ## CTX_GET (R107) -/

/-- The authoritative image: LOG_TAIL names the Ledger working area while entries wait there (R105, R330). -/
def Ctx.authImage (m : Nat) (c : Ctx) : List Byte :=
  ({ c with logTail := if c.logNand < c.logSeq then (Config.logTail m c.logSeq).toNat else 0 } : Ctx).image m

/-- CTX_GET: a RETIRING context is unknown (R127); one whose owner is the head end is served (R112). -/
def execCtxGet (pair : Fin 64) (s : State) : Host.Outcome State Fault Refusal :=
  s.go (fun d => d.onDesc pair 0x70 (fun d h =>
    match d.ctxAt (tMix h.desc) with
    | none => d.complete pair h.id 0xB 0
    | some c =>
      if c.st = 5 then d.complete pair h.id 0xB 0
      else if bufLen h.desc < 256 then d.complete pair h.id 4 20
      else (d.writeBuf h.desc (c.authImage (tMix h.desc))).complete pair h.id 0 0 [c.st]))

/-! ## CTX_ADMIT (R109, R120) -/

/-- A KIND's default suite, and the effective suite (R120). -/
def suiteOf (kind v : Nat) : Nat :=
  if kind = 0 then (if v ≤ 1 then v else 1) else (if v = 5 ∨ v = 7 then v else 7)

/-- An owner code of CTX_ADMIT and CTX_OWNER. -/
def Dev.ownerOk (d : Dev) (o : Nat) : Bool := o = 0xFFFF || (d.isHead && o ≤ 0x3FF)

/-- A new context, with its billing extension and GENESIS entry when it is admitted at once (R109, R329). -/
def Dev.newCtx (d : Dev) (m : Nat) (c : Ctx) (admitted : Bool) : Dev :=
  let d1 := d.putCtx m c
  if admitted then (d1.openExt m).genesis m else d1

/-- CTX_ADMIT: while the lookup table is rebuilt it completes with BUSY (R116). -/
def Dev.ctxAdmit (d : Dev) (p : Nat) (moves : List (Fin 4)) (h : Held) : Dev :=
  let x := h.desc
  let addr := x.quad 6
  let w := x.word 10
  let kind := bitsOf w 4 1
  let med := bitsOf w 0 4
  if 4095 < x.word 8 then d.complete p h.id 2 0
  else if !d.ownerOk (x.word 9) then d.complete p h.id 2 0
  else match d.lookup kind addr with
    | some m => d.complete p h.id 0 0 [m]
    | none =>
      if d.ctxLimit ≤ d.ctxUsed then d.complete p h.id 0xA 0
      else
        let m := d.freeMix
        let r := d.indexPut moves kind addr m
        if !r.1 then r.2.complete p h.id 8 0
        else
          let c : Ctx := { addr := addr, kind := kind, medium := if med ≤ 3 then med else 0, st := 1, grp := x.word 8, owner := x.word 9
                           admitTime := d.nowS, suite := suiteOf kind (bitsOf w 8 4), intLen := nearestDivisor 60 1 (bitsOf w 16 6)
                           timeQual := 3 }
          ((r.2.newCtx m c true).imgJoin m).complete p h.id 0 0 [m]

/-- CTX_ADMIT (R120). -/
def execCtxAdmit (pair : Fin 64) (moves : List (Fin 4)) (s : State) : Host.Outcome State Fault Refusal :=
  s.go (fun d => d.onDesc pair 0x71 (fun d h => d.ctxAdmit pair moves h))

/-! ## Retirement and change of owner (R127, R128) -/

/-- A started descriptor of a meter runs: one that waits for such descriptors itself, a CTX_RETIRE or a CTX_OWNER, is none. -/
def Dev.busyMix (d : Dev) (m : Nat) : Bool :=
  d.rng.pairs.any (fun q => q.2.held.any (fun h =>
    h.started && h.result.isNone && descMix h.desc = some m && descOp h.desc ≠ 0x72 && descOp h.desc ≠ 0x73))

/-- The booking queue holds an entry of a meter. -/
def Dev.bookingDue (d : Dev) (m : Nat) : Bool :=
  let l := d.lane 10
  (l.cells ++ l.ring ++ l.waits).any (fun i => match i.payload with | .booking b => b.mix = m | _ => false)

/-- A transaction of a meter is in flight. -/
def Dev.inFlight (d : Dev) (m : Nat) : Bool :=
  d.sch.ports.any (fun q => (q.2.cur.toList ++ q.2.answered).any (fun x => x.mix = m))

/-- Steps 1 to 3 of a retirement, once nothing of the meter is pending: final record, SEAL, lookup entries gone. -/
def Dev.retireStep (d : Dev) (r : Nat × Option (Nat × Nat) × Option Nat) : Dev :=
  let m := r.1
  if r.2.2.isSome || d.busyMix m || d.inFlight m || d.bookingDue m then d
  else
    let d1 := d.finalExt m
    let d2 := if (d1.ldg.meters.find m).isSome then d1.sealLog m else d1
    let d3 := match d2.ctxAt m with | some c => d2.flLeave c | none => d2
    let d4 := d3.unindex m
    { d4 with ctx := { d4.ctx with retire := d4.ctx.retire.map (fun x => if x.1 = m then (m, x.2.1, some d4.openCycle) else x) } }

/-- A change of owner, once the meter's started descriptors have completed (R128). -/
def Dev.ownerStep (d : Dev) (o : Nat × Nat × Nat × Nat) : Dev :=
  let m := o.1
  if d.busyMix m then d
  else
    let d1 := match d.ctxAt m with | some c => if c.owner ≠ o.2.1 then d.flLeave c else d | none => d
    let d2 := d1.editCtx m (fun c => { c with owner := o.2.1 })
    ({ d2 with ctx := { d2.ctx with owners := d2.ctx.owners.filter (fun x => x ≠ o) } } : Dev).complete o.2.2.1 o.2.2.2 0 0

/-- Retirements and changes of owner that need wait no longer go on. -/
def Dev.ctxTry (d : Dev) : Dev :=
  let d1 := d.ctx.owners.foldl Dev.ownerStep d
  d1.ctx.retire.foldl Dev.retireStep d1

/-- Steps 4 and 5: at the end of the stroke cycle that carried the change, the context is FREE and its descriptor completes. -/
def Dev.retireEnd (d : Dev) (cycle : Nat) : Dev :=
  let done := d.ctx.retire.filter (fun r => match r.2.2 with | some k => decide (k ≤ cycle) | none => false)
  let d1 : Dev := { d with ctx := { d.ctx with retire := d.ctx.retire.filter (fun r => !(done.contains r)) } }
  done.foldl (fun (x : Dev) r =>
    let y := x.freeCtx r.1
    match r.2.1 with | some (p, i) => y.complete p i 0 0 | none => y) d1

/-- The scheduler's own transactions of a meter that wait for a port are dropped; those of started descriptors run to completion (R127). -/
def Dev.dropWaiting (d : Dev) (m : Nat) : Dev :=
  { d with sch := { d.sch with
      wait := (d.sch.wait.filter (fun x => decide (x.mix ≠ m) || !x.descs.isEmpty)).map (fun x => if x.mix = m then { x with heat := false } else x) } }

/-- RETIRING is set, the scheduler drops the meter from its plans (R127). -/
def Dev.setRetiring (d0 : Dev) (m : Nat) (desc : Option (Nat × Nat)) : Dev :=
  let d := d0.dropWaiting m
  let grp := match d.ctxAt m with | some c => c.grp | none => 0
  let d1 := (d.editCtx m (fun c => { c with st := 5, heat := 0, nextDue := 0, imgState := 0, poll := c.poll / 4 * 4 })).campCheck grp
  { d1 with
    sch := { d1.sch with entries := d1.sch.entries.del m }
    lcp := d1.lcp.mapVals (fun _ l => { l with polled := l.polled.del m })
    ctx := { d1.ctx with joins := d1.ctx.joins.del m, retire := d1.ctx.retire ++ [(m, desc, none)] } }

/-- CTX_RETIRE (R127). -/
def execCtxRetire (pair : Fin 64) (s : State) : Host.Outcome State Fault Refusal :=
  s.go (fun d => d.onDesc pair 0x72 (fun d h =>
    d.withCtx pair h (fun m _ => ((d.markStarted pair h.id).setRetiring m (some (pair.val, h.id))).ctxTry)))

/-- CTX_OWNER (R128): the owner is coded as in CTX_ADMIT. Of several grounds to refuse it, an unknown MIX and one owned by the head end come
before an owner code out of range (DESIGN CHOICE, log 64: R15, R112 and R128 state no order). -/
def execCtxOwner (pair : Fin 64) (s : State) : Host.Outcome State Fault Refusal :=
  s.go (fun d => d.onDesc pair 0x73 (fun d h =>
    d.withCtx pair h (fun m _ =>
      if !d.ownerOk (h.desc.word 6) then d.complete pair h.id 2 0
      else
        let d1 := d.markStarted pair h.id
        ({ d1 with ctx := { d1.ctx with owners := d1.ctx.owners ++ [(m, h.desc.word 6, pair.val, h.id)] } } : Dev).ctxTry)))

/-! ## Joins, lookup and cache -/

/-- A join that does not authenticate ends (R123): back to FREE, or to the state that the context came from. -/
def Dev.joinFails (d : Dev) (m : Nat) : Dev :=
  match d.ctx.joins.find m with
  | none => d
  | some (st, _, fdx) =>
    let d0 : Dev := { d with ctx := { d.ctx with joins := d.ctx.joins.del m } }
    let d1 := match fdx, d0.ctxAt m with
      | some b, some c => if st = 0 || c.owner ≠ b then d0.flRelease b c.kind c.addr else d0
      | _, _ => d0
    if st = 0 then d1.freeCtx m else (d1.editCtx m (fun c => { c with st := st })).unpin m

/-- JOIN_TIMEOUT passes (R123). -/
def execJoinTimeout (mix : BitVec 20) (s : State) : Host.Outcome State Fault Refusal :=
  s.go (fun d =>
    match d.ctx.joins.find mix.toNat with
    | some (_, t, _) => if d.live then (d.toMono (t + d.rd F.CTX_STATE_CFG_JOIN_TIMEOUT * 500000000)).joinFails mix.toNat else d
    | none => d)

/-- LOOKUP_REHASH_DONE (R116): the table is built anew under the new seed, the oldest key first. -/
def execLookupRehashDone (moves : List (List (Fin 4))) (s : State) : Host.Outcome State Fault Refusal :=
  s.go (fun d =>
    if d.live && d.ctx.rehash then
      { d with ctx := { d.ctx with
          rehash := false
          index := d.buildIndex (d.ctx.index.reverse.mapIdx (fun i e => ((e.kind, e.addr, e.mix), moves.getD i []))) } }
    else d)

/-- CACHE_SET_UNPIN (R130): the oldest fetch that waits on a set proceeds once a way of it is unpinned. -/
def execCacheSetUnpin (set : Fin 2048) (s : State) : Host.Outcome State Fault Refusal :=
  s.go (fun d =>
    match d.ctx.waits.find? (fun m => m % 2048 = set.val) with
    | some m =>
      if d.live && (d.ctx.cache.getD set.val []).any (fun w => !d.pinned w) then
        (({ d with ctx := { d.ctx with waits := d.ctx.waits.filter (· ≠ m), fetched := d.ctx.fetched ++ [m] } } : Dev).fetchCtx m).2
      else d
    | none => d)

end Sys2Proof.Machine
end

