-- ==== Sys2Proof/Machine/Media.lean ====
section
/-! DEFINITION. Sys2Proof/Machine/Media.lean: the MEDIA descriptors and the commands of the Media manager (R500 to R528). -/

namespace Sys2Proof.Machine

/-! ## Erase units: wear, retirement, release (R505, R511 to R514) -/

/-- RATED_PE in force (R511). -/
def Dev.ratedPe (d : Dev) : Nat :=
  let v := d.rd F.FTL_LIFE_CFG_RATED_PE
  max 1 (if v = 0 then d.ftl.paramPe else min v d.ftl.paramPe)

/-- Wear used, 0.1 % (R511). -/
def Dev.wearUsed (d : Dev) : Nat :=
  sumNat ((d.ftl.eus.filter (fun e => e.2.st ≠ 5 && e.2.st ≠ 6)).map (fun e => e.2.pe)) * 1000 / (max 1 d.ftl.userEus * d.ratedPe)

/-- The highest PE of any unit. -/
def Ftl.peMax (f : Ftl) : Nat := f.eus.foldl (fun m e => max m e.2.pe) 0

/-- The highest PE, 0.1 %. -/
def Dev.wearMax (d : Dev) : Nat := d.ftl.peMax * 1000 / d.ratedPe

/-- The warnings of R517: spares, wear, reserve. -/
def Dev.mediaWarn (d : Dev) : Nat :=
  b2n (decide (100 * d.ftl.spareLeft < d.rd F.FTL_LIFE_CFG_SPARE_WARN * d.ftl.spareStart))
    + 2 * b2n (decide (10 * d.rd F.FTL_LIFE_CFG_WEAR_WARN ≤ d.wearUsed)) + 4 * b2n d.ftl.resShort

/-- NORMAL and WARN follow the warnings (R517). -/
def Dev.mediaState (d : Dev) : Dev :=
  let w := d.mediaWarn
  if d.ftl.state = 0 ∧ w ≠ 0 then ({ d with ftl := { d.ftl with state := 1, warned := w } } : Dev).recordPost 3 0x0D81 1 0xC 0 0 w
  else if d.ftl.state = 1 ∧ w = 0 then { d with ftl := { d.ftl with state := 0, warned := 0 } }
  else d

/-- A unit is retired (R514): 1 program, 2 erase, 3 uncorrectable codeword; a spare takes the place of a user unit, and of a unit of
the legal reserve, which shrinks only when no unit is left (R505). -/
def Dev.retireEu (d : Dev) (e reason : Nat) : Dev :=
  let u := d.ftl.eu e
  let legal := u.st = 5
  let f := { (d.ftl.setEu e { u with st := 4 }) with
    spareLeft := d.ftl.spareLeft - 1
    resShort := d.ftl.resShort || (legal && d.ftl.spareLeft = 0 && d.ftl.freeCount = 0)
    chRetired := d.ftl.chRetired.put u.channel (d.ftl.chRetired.getD u.channel 0 + 1) }
  let d1 := ({ d with ftl := f } : Dev).bump F.FTL_RETIRED
  let hour := d1.evr.optime / 3600
  let d2 := if d1.ftl.retHour = some hour then d1
    else ({ d1 with ftl := { d1.ftl with retHour := some hour } } : Dev).record 0x0D87 0xC 1 e reason
  let d3 := if legal && !d2.ftl.resShort then
      (match d2.ftl.freeEu d2.euUsable false with
       | some n => { d2 with ftl := d2.ftl.setEu n { d2.ftl.eu n with st := 5 } }
       | none => d2)
    else d2
  if d3.ftl.resShort ∧ ¬ d.ftl.resShort then (d3.fault 0x0F1C 0xC 3 0).mediaState else d3.mediaState

/-- A unit is erased: its PE rises; one that held a failed codeword is retired (R514). -/
def Dev.eraseEu (d : Dev) (e : Nat) : Dev :=
  let u := d.ftl.eu e
  if u.failedCw then ({ d with ftl := d.ftl.setEu e { u with lus := [], failedCw := false } } : Dev).retireEu e 3
  else { d with ftl := d.ftl.setEu e { st := if u.st = 5 then 5 else 0, pe := u.pe + 1, channel := u.channel, lun := u.lun } }

/-- Closed units without a valid LU are erased. -/
def Dev.eraseEmpty (d : Dev) : Dev :=
  (d.ftl.eus.filter (fun e => e.2.lus.isEmpty && (e.2.st = 2 || e.2.st = 3 || (e.2.st = 5 && e.2.stream = 0 && e.2.hour ≠ 0)))).foldl
    (fun (x : Dev) e => x.eraseEu e.1) d

/-- LUs are released. -/
def Dev.releaseLus (d : Dev) (p : Nat → Lu → Bool) : Dev :=
  let gone := (d.ftl.map.filter (fun l => p l.1 l.2)).map (·.1)
  ({ d with ftl := { d.ftl with
      map := d.ftl.map.keep (fun k l => !p k l)
      slc := d.ftl.slc.filter (fun k => !gone.contains k)
      heads := d.ftl.heads.keep (fun _ h => !gone.contains h.1)
      eus := d.ftl.eus.mapVals (fun _ e => { e with lus := e.lus.filter (fun k => !gone.contains k) }) } } : Dev).eraseEmpty

/-! ## Writing (R504, R507, R518, R519) -/

/-- The oldest START that history may still release: entries below it are older than HIST_MIN days (R515). -/
def Dev.histLimit (d : Dev) : Nat := d.nowS - d.rd F.FTL_CFG_HIST_MIN * 86400

/-- The oldest releasable log LU. -/
def Dev.oldestLog (d : Dev) : Option (Nat × Lu) :=
  (d.ftl.map.filter (fun l => l.2.stream = 3 && l.2.start < d.histLimit)).foldl (fun (b : Option (Nat × Lu)) l =>
    match b with | none => some l | some x => if l.2.start < x.2.start then some l else b) none

/-- The oldest log LU's erase unit is released with what it holds (R515). -/
def Dev.releaseOldest (d : Dev) : Option Dev :=
  d.oldestLog.map (fun l =>
    let d1 := d.releaseLus (fun _ x => x.stream = 3 && x.eu = l.2.eu && x.start < d.histLimit)
    { d1 with ftl := { d1.ftl with histOldest := (d1.ftl.map.filter (fun x => x.2.stream = 3)).foldl (fun m x => if m = 0 then x.2.start else min m x.2.start) 0 } })

/-- Room for a write of streams 1 to 6: a free unit, a unit that holds nothing valid, history, the spare pool (R518). -/
def Dev.makeRoom (d : Dev) : Option Dev :=
  if 0 < d.ftl.freeCount then some d
  else
    let d1 := d.eraseEmpty
    if 0 < d1.ftl.freeCount then some d1
    else match d1.releaseOldest with
      | some d2 => some d2
      | none => if 0 < d1.ftl.spareLeft then some { d1 with ftl := { d1.ftl with spareLeft := d1.ftl.spareLeft - 1 } } else none

/-- Program an item in LUs of 4 KiB, with fuel. -/
def Dev.placeBytes : Nat → Dev → Nat → Nat → Nat → Nat → Option Dev
  | 0, _, _, _, _, _ => none
  | f + 1, d, stream, bytes, item, start =>
    let room := if stream = 0 ∨ (d.ftl.openEu stream).isSome then some d else d.makeRoom
    match room with
    | none => none
    | some d1 =>
      match d1.placeItem stream (min bytes 4096) item start with
      | none => none
      | some d2 => if bytes ≤ 4096 then some d2 else Dev.placeBytes f d2 stream (bytes - 4096) item start

/-- Bytes of an item as the drain returns it; journal entries' 16 bytes are laid out nowhere: free values. -/
def Dev.itemBytes (d : Dev) (m : MediaData) : List Byte :=
  match m with
  | .raw b => b
  | .ctxJournal chg => chg.flatMap (fun c => match c.2 with | some x => x.image c.1 | none => layBytes [(8, 0), (4, c.1), (244, 0)])
  | .bill es _ => (List.range (16 * es.length)).map (fun i => Config.free8 (d.freeCtr + i))
  | .closedRec k e => e.image k
  | .tables _ t _ => (t.inForce.toList ++ t.staged.toList).flatMap TarTable.image
  | .snapshot cs _ => cs.flatMap (fun c => c.2.image c.1)
  | .billSnapshot es _ => es.flatMap (fun e => e.2.image e.1)
  | .copies n _ => (List.range n).map (fun i => Config.free8 (d.freeCtr + i))
  | .log _ _ b => b

/-- START of a log entry. -/
def mediaStart : MediaData → Nat
  | .log _ s _ => s
  | _ => 0

/-- What follows once an item is in NAND: what a restore finds, and what waited for it. -/
def Dev.programmed (d : Dev) (m : MediaData) : Dev :=
  let d1 := d.persist m
  match m with
  | .bill _ last => if last then { d1 with tar := { d1.tar with closedHalves := d1.tar.closedHalves.drop 1 } } else d1
  | .tables _ _ (some k) =>
    ({ d1 with tar := { d1.tar with loads := d1.tar.loads.map (fun l => if (l.pair, l.id) = k then { l with inNand := true } else l) } } : Dev).loadsDone
  | .billSnapshot _ last =>
    if last then
      let d2 := d1.releaseLus (fun k l => l.stream = 0 && decide (k < d1.ftl.billPrev))
      { d2 with ftl := { d2.ftl with billPrev := d2.ftl.billCur, billRunning := false } }
    else d1
  | .log k _ b =>
    let seq := getLe b 32 4
    let lu := (d1.ftl.heads.getD 3 (0, 0)).1
    ({ d1 with ftl := { d1.ftl with map := d1.ftl.map.upd lu (fun l => { l with ents := l.ents ++ [(k, seq)] }) } } : Dev).editCtx k
      (fun c => { c with logNand := max c.logNand (seq + 1) })
  | _ => d1

/-- A refused item joins the drain, while the ring has room for it (R519, R520, R522). -/
def Dev.drainPut (d : Dev) (n stream : Nat) (m : MediaData) : Dev :=
  let bs := d.itemBytes m
  let it : DrainItem := { stream := stream, seq := d.ftl.drainSeq, at_ := d.nowNs, bytes := bs }
  let d1 : Dev := { d with ftl := { d.ftl with drain := d.ftl.drain ++ [it], drainSeq := (d.ftl.drainSeq + 1) % 2 ^ 32 }
                           freeCtr := d.freeCtr + bs.length }
  if d1.ringSegsUsed ≤ d1.ringSegs then (d1.laneDrop 14 n).bump F.FTL_WRITE_REFUSED else d

/-- The media is worn and full: READ_ONLY (R518). -/
def Dev.goReadOnly (d : Dev) : Dev :=
  let d1 : Dev := { d with ftl := { d.ftl with state := 2, snapRunning := false } }
  (d1.recordPost 3 0x0D82 3 0xC 0).fault 0x0D82 0xC 3 0 true

/-- A native-mode unit takes folded LUs. -/
def Dev.foldEu (d : Dev) : Option Nat :=
  match d.ftl.eus.find? (fun e => e.2.stream = 7 && e.2.st = 1 && e.2.lus.length < d.ftl.euLu) with
  | some e => if d.euUsable e.1 then some e.1 else d.ftl.freeEu d.euUsable false
  | none => d.ftl.freeEu d.euUsable false

/-- Free units stand below GC_CRIT %: collection writes go ahead of queue 14 (R512). -/
def Dev.gcAhead (d : Dev) : Bool :=
  d.ftl.gcActive && !d.ftl.copies.isEmpty && decide (100 * d.ftl.freeCount < d.rd F.FTL_GC_CFG_GC_CRIT * d.ftl.userEus)

/-- Folding has not yet brought the cache under S: a write that finds no free unit waits in queue 14 (R508). -/
def Dev.foldPending (d : Dev) : Bool := decide (d.ftl.slcLimit < d.ftl.slc.length) && d.foldEu.isSome

/-- One item of queue 14 (R504, R518 to R520); it waits while the Security engine has meter frames to serve (R636). -/
def Dev.mediaWrite (d : Dev) : Dev :=
  match d.laneHead 14 with
  | some (n, ⟨_, bytes, .media stream m⟩) =>
    if d.ftl.state = 4 then d
    else if d.ftl.state = 3 then d.drainPut n stream m
    else if d.ftl.state = 2 ∧ stream = 2 then (d.laneDrop 14 n).bump F.FTL_WRITE_REFUSED
    else if d.ftl.state = 2 ∧ stream ≠ 0 then d.drainPut n stream m
    else if d.secAhead 4 || d.gcAhead then d
    else match d.placeBytes 64 stream (max 1 bytes) d.ftl.nextLu (mediaStart m) with
      | some d1 => ((d1.laneDrop 14 n).programmed m).mediaState
      | none => if stream = 0 || d.foldPending then d else d.goReadOnly.drainPut n stream m
  | _ => d

/-- MEDIA_WRITE (R504). -/
def execMediaWrite (s : State) : Host.Outcome State Fault Refusal := s.go (fun d => if d.mediaRuns then d.mediaWrite else d)

/-! ## Encryption (R503) -/

/-- The 512-bit key of the media (R503). -/
def Dev.mediaKey (d : Dev) : Option (List Byte) := (d.purposeKey "WRP").map (fun k => kdf k "MEDIA" [] 512)

/-- The 4 KiB of an LU as they are encoded: the tweak is the stream number and the LU number (R503). -/
def Dev.luCipher (d : Dev) (stream lu : Nat) (data : List Byte) : Option (List Byte) :=
  d.mediaKey.map (fun k => xtsEnc (k.take 32) (k.drop 32) (beBytes 1 stream ++ beBytes 7 lu) data)

/-! ## Reading (R506, R509, R510) -/

/-- H_eff of a unit reaches `h` hours (R510): its hours times 2^((T - 40) / 10), the factor held to 1 to 16; compared exactly. -/
def Dev.effAge (d : Dev) (u : Eu) (h : Nat) : Bool :=
  let age := (d.nowNs / 3600000000000 + 65536 - u.hour) % 65536
  let t := clampInt 40 80 (max u.temp d.glb.temp)
  decide (h ^ 10 ≤ age ^ 10 * 2 ^ (t - 40).toNat)

/-- The retention set of a unit (R510); while time is invalid the one above it comes first. -/
def Dev.retentionSet (d : Dev) (u : Eu) : Nat :=
  let n := ([24, 168, 720, 2160, 4380, 8760, 17520].filter (d.effAge u)).length
  if d.timeValid then n else min 7 (n + 1)

/-- The sets of a codeword's hard reads: the unit's own, then the others, nearest age first (R509); of two as near, the older one's
(DESIGN CHOICE, log 144). -/
def readOrder (n : Nat) : List Nat := n :: (List.range 8).flatMap (fun k => [n + (k + 1), n - (k + 1)].filter (fun j => j ≤ 7 && (n < j || k < n)))

/-- A set's read-level offsets (R527). -/
def Dev.setOffsets (d : Dev) (s : Nat) : List Nat := (List.range 4).map (fun w => d.rd F.FTL_RT_TBL_OFFSETS (4 * s + w))

/-- Log entries that a lost LU held are gaps (R506). -/
def Dev.loseLogs (d : Dev) (es : List (Nat × Nat)) : Dev :=
  es.foldl (fun (x : Dev) e => x.setLdgM e.1 { x.ldgM e.1 with log := (x.ldgM e.1).log.filter (fun l => l.seq ≠ e.2) }) d

/-- What a lost codeword leaves of its stream (R506): a gap in a log; a restore that goes back to the previous complete snapshot. -/
def Dev.loseLu (d : Dev) (lu : Nat) (l : Lu) : Dev :=
  if l.stream = 3 then d.loseLogs l.ents
  else if l.stream = 1 then { d with nand := { d.nand with ctx := d.nand.snap } }
  else if l.stream = 2 then
    if d.ftl.snapRunning ∧ d.ftl.snapFrom ≤ lu then { d with ftl := { d.ftl with snapRunning := false }, nand := { d.nand with snapNew := [], snapSince := [] } }
    else { d with nand := { d.nand with ctx := d.nand.snapPrev } }
  else d

/-- A codeword is read: the step of R509 that decodes it, if any, the bit errors corrected, whether they exceed REFRESH_PCT. -/
def Dev.mediaRead (d : Dev) (lu : Nat) (step : Option Nat) (bits : Nat) (overLimit : Bool) : Dev :=
  match d.ftl.map.find lu with
  | none => d
  | some l =>
    let u := d.ftl.eu l.eu
    let late : Bool := match step with | some k => decide (4 ≤ k) | none => true
    let d1 : Dev := if late then
        { d with ftl := { (d.ftl.setEu l.eu { u with failedCw := true }) with
            uecc3 := d.ftl.uecc3 + 1, chUecc := d.ftl.chUecc.put u.channel (d.ftl.chUecc.getD u.channel 0 + 1) } }
      else if overLimit then { d with ftl := d.ftl.setEu l.eu { u with refresh := true } } else d
    match step with
    | some k =>
      if k = 4 ∧ l.stream = 0 ∧ l.eu2.isSome then
        (({ d1 with ftl := { d1.ftl with map := d1.ftl.map.put lu { l with eu := l.eu2.getD l.eu, eu2 := some l.eu } } } : Dev)).bump F.FTL_RECOVERED
      else if bits = 0 ∨ late then d1
      else ({ d1 with ftl := { d1.ftl with corrBits := d1.ftl.corrBits + bits } } : Dev).bumpW F.FTL_CORR_CW
    | none =>
      let d2 := d1.bump F.FTL_UECC
      if l.stream = 0 then d2
      else
        let d3 := (d2.bump F.FTL_LOST).post 3 0x0D83 1 0xC 0 l.stream lu
        ({ d3 with ftl := { d3.ftl with map := d3.ftl.map.del lu, slc := d3.ftl.slc.filter (· ≠ lu)
                                        eus := d3.ftl.eus.mapVals (fun _ e => { e with lus := e.lus.filter (· ≠ lu) }) } } : Dev).loseLu lu l

/-- The hard reads of a codeword (R509): the first set alone where it decodes, else all eight. -/
def Dev.readOut (d : Dev) (lu : Nat) (step : Option Nat) : Dev :=
  match d.ftl.map.find lu with
  | none => d
  | some l =>
    let sets := readOrder (d.retentionSet (d.ftl.eu l.eu))
    d.emit (.nandRead lu ((if step = some 1 then sets.take 1 else sets).map (fun s => (s, d.setOffsets s))))

/-- An LU can be read: its unit's channel is ON (R523). -/
def Dev.luReads (d : Dev) (lu : Nat) : Bool := match d.ftl.map.find lu with | some l => d.euUsable l.eu | none => false

/-- MEDIA_READ (R509), after the meter frames that wait for the Security engine (R636); on a channel that is not ON a read fails and marks
nothing (R523). The operand names the step that decodes, from 0. -/
def execMediaRead (lu : Nat) (step : Option (Fin 4)) (bits : Nat) (overLimit : Bool) (s : State) : Host.Outcome State Fault Refusal :=
  let k := step.map (fun x => x.val + 1)
  s.go (fun d => if d.mediaRuns && decide (d.ftl.state ≠ 3 ∧ d.ftl.state ≠ 4) && !d.secAhead 4 && d.luReads lu then
    (d.readOut lu k).mediaRead lu k bits overLimit else d)

/-! ## Folds, collection, refresh and wear levelling (R507 to R513) -/

/-- One LU moves to a native-mode unit, once its copy is verified. -/
def Dev.foldOne (d : Dev) (lu : Nat) : Option Dev :=
  match d.ftl.map.find lu, d.foldEu with
  | some l, some e =>
    let d1 := d.euTake e 7 lu d.ftl.euLu
    let old := d1.ftl.eu l.eu
    let f := d1.ftl.setEu l.eu { old with lus := old.lus.filter (· ≠ lu) }
    some ({ d1 with ftl := { f with map := f.map.put lu { l with eu := e }, slc := f.slc.filter (· ≠ lu) } } : Dev)
  | _, _ => none

/-- Fold the oldest data until the cache holds half of S; held records are never folded. -/
def Dev.foldAll : Nat → Dev → Dev
  | 0, d => d
  | n + 1, d =>
    if 2 * d.ftl.slc.length ≤ d.ftl.slcLimit then d
    else match d.ftl.slc.find? (fun k => match d.ftl.map.find k with | some l => l.stream ≠ 4 | none => false) with
      | none => d
      | some k => match d.foldOne k with | some d1 => Dev.foldAll n d1 | none => d

/-- FOLD_START (R507): the cache holds more than 3/4 of S. -/
def execFoldStart (s : State) : Host.Outcome State Fault Refusal :=
  s.go (fun d =>
    if d.mediaRuns && decide (d.ftl.state ≤ 1) && decide (3 * d.ftl.slcLimit < 4 * d.ftl.slc.length) then
      (d.foldAll d.ftl.slc.length).eraseEmpty
    else d)

/-- A copy of a unit's valid LUs to a free unit starts (R512). -/
def Dev.copyStart (d : Dev) (src : Nat) : Dev :=
  match d.ftl.freeEu (fun i => d.euUsable i && i ≠ src) false with
  | none => d
  | some dst => { d with ftl := { d.ftl with copies := d.ftl.copies ++ [{ src := src, dst := dst, left := (d.ftl.eu src).lus, done := [] }] } }

/-- The full unit with the fewest valid LUs, outside the legal reserve, that no copy has taken. -/
def Dev.gcVictim (d : Dev) : Option Nat :=
  ((d.ftl.eus.filter (fun e => (e.2.st = 2 || e.2.st = 3) && !(d.ftl.copies.any (fun c => c.src = e.1)))).foldl
    (fun (b : Option (Nat × Eu)) e => match b with
      | none => some e
      | some x => if e.2.lus.length < x.2.lus.length then some e else b) none).map (·.1)

/-- GC_START (R512): below GC_LOW % free, or while collection runs. -/
def execGcStart (s : State) : Host.Outcome State Fault Refusal :=
  s.go (fun d =>
    let low := decide (100 * d.ftl.freeCount < d.rd F.FTL_GC_CFG_GC_LOW * d.ftl.userEus)
    if d.mediaRuns && decide (d.ftl.state ≤ 1) && (low || d.ftl.gcActive) then
      match d.gcVictim with
      | some e => ({ d with ftl := { d.ftl with gcActive := true } } : Dev).copyStart e
      | none => d
    else d)

/-- The oldest copy ends: the map switches for the LUs still at the source, and the source is erased (R512). -/
def Dev.gcSwitch (d : Dev) : Dev :=
  match d.ftl.copies with
  | [] => d
  | c :: rest =>
    let live := (c.left ++ c.done).filter (fun k => match d.ftl.map.find k with | some l => l.eu = c.src | none => false)
    let src := d.ftl.eu c.src
    let dst := d.ftl.eu c.dst
    let f := d.ftl.setEu c.dst { dst with st := if src.st = 3 then 3 else 2, stream := src.stream, lus := live
                                          hour := d.nowNs / 3600000000000 % 65536, temp := d.glb.temp }
    let f1 := f.setEu c.src { src with lus := [], refresh := false }
    let f2 := { f1 with map := live.foldl (fun m k => m.upd k (fun l => { l with eu := c.dst })) f1.map, copies := rest }
    let d1 := ({ d with ftl := f2 } : Dev).eraseEu c.src
    let more := decide (100 * d1.ftl.freeCount < 2 * d1.rd F.FTL_GC_CFG_GC_LOW * d1.ftl.userEus)
    { d1 with ftl := { d1.ftl with gcActive := d1.ftl.gcActive && more } }

/-- GC_SWITCH (R512): a copy ends while nothing waits in queue 14, or free units stand below GC_CRIT %. -/
def execGcSwitch (s : State) : Host.Outcome State Fault Refusal :=
  s.go (fun d => if d.mediaRuns && decide (d.ftl.state ≤ 1) && (d.gcAhead || (d.laneHead 14).isNone) then d.gcSwitch else d)

/-- A program, erase or verify fails on a unit (R513, R514): the unit is retired, and a copy to it starts again on another. -/
def Dev.nandFail (d : Dev) (e reason : Nat) : Dev :=
  let u := d.ftl.eu e
  if d.ftl.total ≤ e ∨ u.st = 4 ∨ u.st = 6 then d
  else
    let d1 := d.retireEu e reason
    match d1.ftl.copies.find? (fun c => c.dst = e) with
    | none => d1
    | some c =>
      let rest := d1.ftl.copies.filter (fun x => x ≠ c)
      (({ d1 with ftl := { d1.ftl with copies := rest } } : Dev).copyStart c.src).bump F.FTL_GC_RESTART

/-- NAND_PROGRAM_FAIL (R513): 0 program, 1 erase, 2 verify. -/
def execNandProgramFail (eu : Nat) (what : Fin 3) (s : State) : Host.Outcome State Fault Refusal :=
  s.go (fun d => if d.live && decide (d.ftl.state ≤ 2) then d.nandFail eu (what + 1) else d)

/-- H_eff of a unit reaches 17,520 h (R510). -/
def Dev.aged (d : Dev) (u : Eu) : Bool := !u.lus.isEmpty && d.effAge u 17520

/-- EU_REFRESH (R509, R510). -/
def execEuRefresh (eu : Nat) (s : State) : Host.Outcome State Fault Refusal :=
  s.go (fun d =>
    let u := d.ftl.eu eu
    if d.mediaRuns && decide (d.ftl.state ≤ 1) && (u.refresh || d.aged u) && (u.st = 2 || u.st = 3) && !(d.ftl.copies.any (fun c => c.src = eu)) then
      (d.copyStart eu).bump F.FTL_REFRESH
    else d)

/-- The full unit of the lowest PE that no copy has taken. -/
def Dev.wearSource (d : Dev) : Option (Nat × Eu) :=
  (d.ftl.eus.filter (fun e => (e.2.st = 2 || e.2.st = 3) && !(d.ftl.copies.any (fun c => c.src = e.1)))).foldl
    (fun (b : Option (Nat × Eu)) e => match b with
      | none => some e
      | some x => if e.2.pe < x.2.pe then some e else b) none

/-- WEAR_LEVEL_MOVE (R511): the full unit of the lowest PE is moved. -/
def execWearLevelMove (s : State) : Host.Outcome State Fault Refusal :=
  s.go (fun d =>
    match d.wearSource with
    | some e =>
      if d.mediaRuns && decide (d.ftl.state ≤ 1) && decide (d.rd F.FTL_GC_CFG_WL_GAP * d.ratedPe < 100 * (d.ftl.peMax - e.2.pe)) then d.copyStart e.1 else d
    | none => d)

/-- Release history until use is below HIST_FILL - 5 %, with fuel. -/
def Dev.histAll : Nat → Dev → Dev
  | 0, d => d
  | n + 1, d =>
    if 100 * d.ftl.used < (d.rd F.FTL_CFG_HIST_FILL - 5) * d.ftl.userLu then d
    else match d.releaseOldest with | some d1 => Dev.histAll n d1 | none => d

/-- HISTORY_RELEASE (R515): one event a day. -/
def execHistoryRelease (s : State) : Host.Outcome State Fault Refusal :=
  s.go (fun d =>
    if d.live && decide (d.ftl.state ≤ 1) && decide (d.rd F.FTL_CFG_HIST_FILL * d.ftl.userLu < 100 * d.ftl.used) then
      let d1 := d.histAll d.ftl.map.length
      let day := d1.nowS / 86400
      if d1.ftl.used = d.ftl.used ∨ d1.ftl.histDay = some day then d1
      else ({ d1 with ftl := { d1.ftl with histDay := some day } } : Dev).post 3 0x0D84 0 0xC 0 d1.ftl.histOldest
    else d)

/-! ## Snapshots (R132, R505) -/

/-- Lists of at most `n`, the last one marked. -/
def markLast {α : Type} : List (List α) → List (List α × Bool)
  | [] => [([], true)]
  | [l] => [(l, true)]
  | l :: t => (l, false) :: markLast t

/-- The billing extensions go to stream 0 (R505). -/
def Dev.billSnapshot (d : Dev) : Dev :=
  let d1 : Dev := { d with ftl := { d.ftl with billLu := 0, billCur := d.ftl.nextLu, billRunning := true } }
  (markLast (chunks 32 (d.tar.ext.length + 1) d.tar.ext)).foldl (fun (x : Dev) c =>
    x.offer 14 ⟨7, max 16 (128 * c.1.length), .media 0 (.billSnapshot c.1 c.2)⟩) d1

/-- Stream-0 LUs at which a further billing snapshot is written: 256 MiB, or a quarter of a short reserve. -/
def Dev.billTrigger (d : Dev) : Nat := if d.ftl.resShort then d.ftl.legal * d.ftl.slcCap / 4 else 65536

/-- BILLING_SNAPSHOT (R505). -/
def execBillingSnapshot (s : State) : Host.Outcome State Fault Refusal :=
  s.go (fun d => if d.live && decide (d.ftl.state ≤ 2) && !d.ftl.billRunning && decide (d.billTrigger ≤ d.ftl.billLu) then d.billSnapshot else d)

/-- CONTEXT_SNAPSHOT_START (R132): after 3,600 stroke cycles, or 64 GiB of journals. -/
def execContextSnapshotStart (s : State) : Host.Outcome State Fault Refusal :=
  s.go (fun d =>
    let jr := (d.ftl.map.filter (fun l => l.2.stream = 1 && d.ftl.snapFrom ≤ l.1)).length
    if d.live && decide (d.ftl.state ≤ 1) && !d.ftl.snapRunning && (decide (3600 ≤ d.ftl.cyclesSinceSnap) || decide (16777216 ≤ jr)) then
      let d1 : Dev := { d with ftl := { d.ftl with snapRunning := true, cyclesSinceSnap := 0, snapFrom := d.ftl.nextLu }
                               nand := { d.nand with snapNew := [], snapSince := [] } }
      let d2 := (markLast (chunks 16 (d1.ctx.tab.length + 1) d1.ctx.tab)).foldl (fun (x : Dev) c =>
        x.offer 14 ⟨3, max 16 (256 * c.1.length), .media 2 (.snapshot c.1 c.2)⟩) d1
      d2.billSnapshot
    else d)

/-- Items of the running snapshot wait in queue 14. -/
def Dev.snapWaits (d : Dev) : Bool :=
  let l := d.lane 14
  (l.cells ++ l.ring ++ l.waits).any (fun i => match i.payload with | .media _ (.snapshot _ _) => true | _ => false)

/-- What a restore finds after a complete snapshot (R132): the snapshot, with the journals since it began replayed. -/
def Nand.replayed (n : Nand) : Tab Ctx :=
  n.snapSince.foldl (fun (t : Tab Ctx) c => match c.2 with | some x => t.put c.1 x | none => t.del c.1) n.snapNew

/-- SNAPSHOT_COMPLETE (R132): a restore uses it from now on; older journals and snapshots are released. -/
def execSnapshotComplete (s : State) : Host.Outcome State Fault Refusal :=
  s.go (fun d =>
    if d.live && d.ftl.snapRunning && !d.snapWaits then
      let d1 : Dev := { d with ftl := { d.ftl with snapRunning := false }
                               nand := { d.nand with ctx := d.nand.replayed, snapPrev := d.nand.snap, snap := d.nand.snapNew, snapNew := [], snapSince := [] } }
      d1.releaseLus (fun k l => (l.stream = 1 || l.stream = 2) && decide (k < d1.ftl.snapFrom))
    else d)

/-! ## Channels and format (R521, R523) -/

/-- NAND_CHANNEL_FAIL (R523). -/
def execNandChannelFail (n : Fin 4) (s : State) : Host.Outcome State Fault Refusal :=
  s.go (fun d =>
    if d.live && d.isOn (10 + n) then
      ((d.failFn (10 + n)).recordPost 3 0x0D86 2 0xC 0 n).fault 0x0D86 0xC 2 n true
    else d)

/-- A write to FTL_CTL (R521). -/
def Dev.ftlCtl (d : Dev) (v : Nat) : Dev :=
  if !d.live ∨ F.FTL_CTL_KEY.get v ≠ 0x46D7 ∨ d.on F.GLB_CFG_LOCK_LOCK then d
  else if F.FTL_CTL_CANCEL.get v = 1 then { d with ftl := { d.ftl with fmtPend := false } }
  else if F.FTL_CTL_FORMAT.get v = 1 then { d with ftl := { d.ftl with fmtPend := true } }
  else d

/-- FTL_FORMAT_REQUEST (R521). -/
def execFtlFormatRequest (val : Word) (s : State) : Host.Outcome State Fault Refusal := s.go (fun d => d.ftlCtl val.toNat)

/-- FTL_FORMAT_CANCEL (R521). -/
def execFtlFormatCancel (val : Word) (s : State) : Host.Outcome State Fault Refusal := s.go (fun d => d.ftlCtl val.toNat)

/-! ## Descriptors (R522, R524) -/

/-- The health record (R524). -/
def Dev.health (d : Dev) (n : Nat) : List Byte :=
  let f := d.ftl
  let ch := f.eus.filter (fun e => e.2.channel = n)
  layBytes ([(4, 0x484C5446), (2, 1), (1, n), (1, f.state), (4, f.spareLeft), (4, f.spareStart), (2, min 65535 d.wearUsed),
    (2, min 65535 d.wearMax), (4, d.ratedPe), (8, d.rd F.FTL_CORR_CW), (8, f.corrBits), (8, f.uecc3), (4, d.rd F.FTL_RECOVERED), (4, d.rd F.FTL_LOST)]
    ++ (List.range 8).map (fun i => (4, (d.evr.bands.getD i 0 - f.bandsAt.getD i 0) / 3600))
    ++ [(1, unsigned 8 (clampInt (-128) 127 d.glb.tempMin)), (1, unsigned 8 (clampInt (-128) 127 d.glb.tempMax)), (2, 0), (4, d.rd F.FTL_RETIRED), (4, f.userLu), (4, f.used), (4, f.slcLimit),
        (4, f.histOldest), (4, f.chRetired.getD n 0), (4, f.chUecc.getD n 0),
        (2, sumNat (ch.map (fun e => e.2.pe)) / max 1 (d.rd F.FTL_CH_GEOM_EUS n)), (2, ch.foldl (fun m e => max m e.2.pe) 0), (4, 0)])

/-- MEDIA_HEALTH (R524): KIND 4, class 4. -/
def execMediaHealth (pair : Fin 64) (s : State) : Host.Outcome State Fault Refusal :=
  s.go (fun d => d.onDesc pair 0x80 (fun d h =>
    if bitsOf (h.desc.word 2) 20 8 ≠ 4 then d.complete pair h.id 2 0
    else if bufLen h.desc < 128 then d.complete pair h.id 4 20
    else (d.writeBuf h.desc (d.health (tMix h.desc))).complete pair h.id 0 0 [128]))

/-- A drained item as returned (R522). -/
def DrainItem.rec_ (i : DrainItem) : List Byte :=
  layBytes [(1, i.stream), (1, 0), (2, i.bytes.length), (4, i.seq), (8, i.at_)] ++ padTo (ceilDiv i.bytes.length 16 * 16) i.bytes

/-- Whole records from the head of the drain that fit. -/
def drainTake : Nat → Nat → List DrainItem → List DrainItem
  | 0, _, _ => []
  | _, _, [] => []
  | n + 1, room, i :: t => if i.rec_.length ≤ room then i :: drainTake n (room - i.rec_.length) t else []

/-- MEDIA_DRAIN (R522). -/
def execMediaDrain (pair : Fin 64) (s : State) : Host.Outcome State Fault Refusal :=
  s.go (fun d => d.onDesc pair 0x81 (fun d h =>
    let x := h.desc
    let keep := if x.word 8 % 2 = 1 then d.ftl.drain.filter (fun i => 2 ^ 31 ≤ (x.word 7 + 2 ^ 32 - i.seq) % 2 ^ 32) else d.ftl.drain
    let d1 : Dev := { d with ftl := { d.ftl with drain := keep } }
    let got := drainTake (count4096 (x.word 6)) (bufLen x) keep
    let bs := got.flatMap DrainItem.rec_
    (if bs.isEmpty then d1 else d1.writeBuf x bs).complete pair h.id 0 0 [bs.length, keep.length - got.length]))

end Sys2Proof.Machine
end

