-- ==== Sys2Proof/Machine/Phy.lean ====
section
/-! DEFINITION. Sys2Proof/Machine/Phy.lean: the physical layer of Sculler mode (R178 to R183, R194): frame control, scrambler, convolutional
code, interleaver, mapping, symbols, coherent decisions, the impulse detector. Commands carry what a receive chain has decoded; what a frame
is on the line is said here. A constellation point is in units of 1/1024 of a BPSK carrier's amplitude, in phase and in quadrature. -/

namespace Sys2Proof.Machine

/-- A constellation point. -/
abbrev Pt := Int × Int

/-! ## Carriers and symbols (R178, R179) -/

/-- The carriers of a mask, by their index c (R178). -/
def carriersOf (mask : Nat) : List Nat := (List.range 58).filter (bitAt mask)

/-- The frequency of carrier c, in units of 0.1 Hz: (c + 5) times 7.8125 kHz (R178). -/
def carrierFreq (c : Nat) : Nat := (c + 5) * 78125

/-- Samples of a symbol body, of its cyclic prefix, and of a symbol, at 4 MS/s (R178). -/
def symBody : Nat := 512
/-- Samples of the cyclic prefix: 16 µs. -/
def symPrefix : Nat := 64
/-- Samples of a symbol: 144 µs. -/
def symSamples : Nat := symBody + symPrefix

/-- The 512 frequency bins of a symbol: carrier c lies in bin c + 5 (R178). -/
def symBins (mask : Nat) (pts : List Pt) : List Pt :=
  (List.range symBody).map (fun k => match ((carriersOf mask).zip pts).find? (fun e => e.1 + 5 = k) with | some e => e.2 | none => (0, 0))

/-- The DAC samples of a symbol (R178): the inverse transform of its bins, whose scale and rounding the spec leaves open, after its last 64
samples as the prefix. -/
def symWave (mask : Nat) (pts : List Pt) : List (BitVec 16) :=
  let body := (List.range symBody).map (fun n => Config.inverseFft (symBins mask pts) n)
  body.drop (symBody - symPrefix) ++ body

/-- A BPSK point: bit 0 in phase, bit 1 inverted. -/
def bpsk (b : Bool) : Pt := if b then (-1024, 0) else (1024, 0)

/-- Preamble symbol k, 0 to 5 (R179): the fixed pattern, inverted in the sixth. -/
def preambleSym (mask k : Nat) : List Pt := (carriersOf mask).map (fun c => bpsk (Config.preamble c != decide (k = 5)))

/-! ## Frame control (R180) -/

/-- CRC-8 with x^8 + x^2 + x + 1 over bits [15:0], bit 15 first, from 0 (R180 gives neither: DESIGN CHOICE, log 123). -/
def fcCrc (w : Nat) : Nat :=
  (List.range 16).reverse.foldl (fun c i => if bitAt w i != bitAt c 7 then (2 * c % 256) ^^^ 7 else 2 * c % 256) 0

/-- The 24 bits of frame control (R180): TMI, RATE, N_SYM and their CRC. -/
def fcWord (tmi rate nsym : Nat) : Nat :=
  let w := tmi % 16 + 16 * (rate % 4) + 64 * (nsym % 1024)
  w + 65536 * fcCrc w

/-- The CRC of a frame-control word holds. -/
def fcGood (w : Nat) : Bool := bitsOf w 16 8 = fcCrc (w % 65536)

/-- N_SYM of a frame-control word. -/
def fcSyms (w : Nat) : Nat := bitsOf w 6 10

/-- The two frame-control symbols (R180): 48 coded bits by BPSK on the carriers of both, repeated cyclically. -/
def fcSym (mask w : Nat) : List (List Pt) :=
  let cs := carriersOf mask
  let code := Config.fcCode (BitVec.ofNat 24 w)
  let pts := (List.range (2 * cs.length)).map (fun i => bpsk (code.getLsbD (i % 48)))
  [pts.take cs.length, pts.drop cs.length]

/-! ## Data (R182, R183) -/

/-- The scrambler x^7 + x^4 + 1 (R182): the register's seventh and fourth bits, from a state of seven bits, newest first. -/
def scrambleFrom : List Bool → List Bool → List Bool
  | _, [] => []
  | st, b :: t => let k := st.getD 6 false != st.getD 3 false; (b != k) :: scrambleFrom ((k :: st).take 7) t

/-- Scrambled data, seeded with all ones. -/
def scramble (l : List Bool) : List Bool := scrambleFrom (List.replicate 7 true) l

/-- The parity of the taps of a generator over the present bit and the six before it, newest first. -/
def convBit (g : Nat) (w : List Bool) : Bool := ((List.range 7).filter (fun i => bitAt g (6 - i) && w.getD i false)).length % 2 = 1

/-- The convolutional code of constraint length 7 with generators 0o171 and 0o133 (R182). -/
def convFrom : List Bool → List Bool → List Bool
  | _, [] => []
  | st, b :: t => let w := b :: st; convBit 0o171 w :: convBit 0o133 w :: convFrom (w.take 6) t

/-- Coded data, closed by six tail bits. -/
def convCode (l : List Bool) : List Bool := convFrom (List.replicate 6 false) (l ++ List.replicate 6 false)

/-- The code punctured to a rate (R182); the pattern is not given. -/
def punctured (rate : Nat) (l : List Bool) : List Bool :=
  if rate = 0 then l else (l.zipIdx.filter (fun e => Config.punctureKeeps rate e.2)).map (·.1)

/-- The bits of a symbol, interleaved (R182); the permutation is not given. -/
def interleave (l : List Bool) : List Bool :=
  (List.finRange l.length).map (fun i => l.get (Config.interleaver l.length i))

/-- The Gray code of a number. -/
def grayOf (k : Nat) : Nat := k ^^^ (k / 2)

/-- One axis of 16-QAM, Gray-coded: -3, -1, 1, 3 for the labels 00, 01, 11, 10. -/
def qamAxis (label : Nat) : Int :=
  match (List.range 4).find? (fun k => grayOf k = label) with | some k => 324 * (2 * (k : Int) - 3) | none => 0

/-- The points of an 8-PSK circle. -/
def psk8 : List Pt := [(1024, 0), (724, 724), (0, 1024), (-724, 724), (-1024, 0), (-724, -724), (0, -1024), (724, -724)]

/-- The points of a loading by label (R182): BPSK, QPSK, 8-PSK, 16-QAM, Gray-coded. -/
def pointsOf (loading : Nat) : List Pt :=
  match loading with
  | 1 => [bpsk false, bpsk true]
  | 2 => (List.range 4).map (fun l => match (List.range 4).find? (fun k => grayOf k = l) with | some k => psk8.getD (2 * k) (0, 0) | none => (0, 0))
  | 3 => (List.range 8).map (fun l => match (List.range 8).find? (fun k => grayOf k = l) with | some k => psk8.getD k (0, 0) | none => (0, 0))
  | 4 => (List.range 16).map (fun l => (qamAxis (l / 4), qamAxis (l % 4)))
  | _ => [(0, 0)]

/-- The number that bits spell, first bit most significant. -/
def bitsVal (l : List Bool) : Nat := l.foldl (fun n b => 2 * n + b2n b) 0

/-- The points of one data symbol: each carrier takes as many bits as its loading. -/
def mapBits : List Nat → List Bool → List Pt
  | [], _ => []
  | b :: t, l => (pointsOf b).getD (bitsVal (l.take b)) (0, 0) :: mapBits t (l.drop b)

/-- The loadings of the unmasked carriers, by carrier: all BPSK in ROBUST (R183). -/
def loadsOn (mask tmi : Nat) (map : List Nat) : List Nat := (carriersOf mask).map (fun c => if tmi = 0 then 1 else map.getD c 0)

/-- Coded bits ready for their symbols: in ROBUST each is sent four times (R183). -/
def codedBits (tmi rate : Nat) (info : List Bool) : List Bool :=
  let c := convCode (scramble info)
  if tmi = 0 then c.flatMap (List.replicate 4) else punctured rate c

/-- The N_SYM data symbols of a frame (R182): the coded bits fill them in turn, and what is left of the last is filled up with zeros (DESIGN
CHOICE, log 123); the bits of each are interleaved and mapped. -/
def dataSyms (mask tmi rate : Nat) (map : List Nat) (nsym : Nat) (info : List Bool) : List (List Pt) :=
  let loads := loadsOn mask tmi map
  let n := sumNat loads
  let bits := codedBits tmi rate info
  let all := bits ++ List.replicate (nsym * n - bits.length) false
  (List.range nsym).map (fun k => mapBits loads (interleave ((all.drop (k * n)).take n)))

/-- The 26-bit segment header (R212): SEQ, index, last index, pad bits. -/
def segHeader (seq idx last pad : Nat) : Nat := seq % 256 + 256 * (idx % 16) + 4096 * (last % 16) + 65536 * (pad % 256)

/-- The bits that a frame carries before coding (R183): segment header, the MAC frame's bytes, the frame check sequence, pad bits; each
number least significant bit first (DESIGN CHOICE, log 123). -/
def infoBits (hdr pad : Nat) (bytes : List Byte) : List Bool :=
  let body := bitsList 26 hdr ++ bytes.flatMap (fun b => bitsList 8 b.toNat)
  body ++ bitsList 32 (Config.frameCheck body).toNat ++ List.replicate pad false

/-- A whole Sculler frame as symbols (R179): preamble, frame control, data. -/
def frameSyms (mask tmi rate : Nat) (map : List Nat) (nsym hdr pad : Nat) (bytes : List Byte) : List (List Pt) :=
  (List.range 6).map (preambleSym mask) ++ fcSym mask (fcWord tmi rate nsym) ++ dataSyms mask tmi rate map nsym (infoBits hdr pad bytes)

/-- The samples of a whole frame. -/
def frameWave (mask : Nat) (syms : List (List Pt)) : List (BitVec 16) := syms.flatMap (symWave mask)

/-! ## Coherent decisions (R182) -/

/-- The product of two points. -/
def ptMul (a b : Pt) : Pt := (a.1 * b.1 - a.2 * b.2, a.1 * b.2 + a.2 * b.1)

/-- The conjugate. -/
def ptConj (a : Pt) : Pt := (a.1, -a.2)

/-- The squared size. -/
def ptSize (a : Pt) : Int := a.1 * a.1 + a.2 * a.2

/-- The channel of a carrier as an observed point and the sent one show it, in 1/1024. -/
def chanOf (y x : Pt) : Pt := let p := ptMul y (ptConj x); if ptSize x = 0 then (0, 0) else (1024 * p.1 / ptSize x, 1024 * p.2 / ptSize x)

/-- How far an observed point lies from a sent one through a channel. -/
def chanDist (h y x : Pt) : Int := let p := ptMul h x; ptSize (1024 * y.1 - p.1, 1024 * y.2 - p.2)

/-- The label of the nearest point of a loading. -/
def decide_ (loading : Nat) (h y : Pt) : Nat :=
  ((pointsOf loading).zipIdx.foldl (fun (a : Nat × Int) e => let k := chanDist h y e.1; if a.2 < 0 ∨ k < a.2 then (e.2, k) else a) (0, -1)).1

/-- One data symbol: the label of each carrier, and the channel tracked by these decisions. -/
def decideSym (loads : List Nat) (chan ys : List Pt) : List Nat × List Pt :=
  let r := (loads.zip (chan.zip ys)).map (fun e =>
    let l := decide_ e.1 e.2.1 e.2.2
    (l, if e.1 = 0 then e.2.1 else chanOf e.2.2 ((pointsOf e.1).getD l (0, 0))))
  (r.map (·.1), r.map (·.2))

/-- The channel of each carrier, the mean over the observed preamble symbols. -/
def chanFrom (mask : Nat) (obs : List (List Pt)) : List Pt :=
  let n : Int := max 1 obs.length
  (List.range (carriersOf mask).length).map (fun i =>
    let hs := obs.zipIdx.map (fun e => chanOf (e.1.getD i (0, 0)) ((preambleSym mask e.2).getD i (0, 0)))
    (sumInt (hs.map (·.1)) / n, sumInt (hs.map (·.2)) / n))

/-- The labels of a frame's data symbols: channel from the preamble, then decision by decision. -/
def decideFrame (loads : List Nat) : List Pt → List (List Pt) → List (List Nat)
  | _, [] => []
  | chan, y :: t => let r := decideSym loads chan y; r.1 :: decideFrame loads r.2 t

/-- The soft bits that the decoder takes for a symbol: each with its confidence, zero where the symbol is erased (R194). -/
def softBits (erased : Bool) (bits : List (Bool × Nat)) : List (Bool × Nat) := bits.map (fun b => (b.1, if erased then 0 else b.2))

/-! ## The impulse detector (R194) -/

/-- A sample is flagged: its magnitude exceeds K times the RMS of the latest 1,024 unflagged samples. -/
def impFlag (k : Nat) (kept : List Int) (x : Int) : Bool :=
  decide (((k * k : Nat) : Int) * sumInt (kept.map (fun y => y * y)) < x * x * (kept.length : Int))

/-- A run of samples: how many are flagged, and the unflagged samples kept, newest first. -/
def impRun (k : Nat) : List Int → List Int → Nat × List Int
  | kept, [] => (0, kept)
  | kept, x :: t =>
    if impFlag k kept x then let r := impRun k kept t; (r.1 + 1, r.2) else impRun k ((x :: kept).take 1024) t

/-- A run of symbols: which are erased, by MIN flagged samples or more in their spans. -/
def impSyms (k least : Nat) : List Int → List (List Int) → List Bool × List Int
  | kept, [] => ([], kept)
  | kept, s :: t =>
    let r := impRun k kept s
    let q := impSyms k least r.2 t
    (decide (least ≤ r.1) :: q.1, q.2)

/-- The SNR of each carrier averaged over symbols, 0.5 dB. -/
def snrAverage (rows : List (List Int)) : List Int :=
  let rs := rows.filter (fun r => !r.isEmpty)
  (List.range ((rs.map List.length).foldl max 0)).map (fun c => sumInt (rs.map (fun r => r.getD c 0)) / (rs.length : Int))

end Sys2Proof.Machine
end

