-- ==== Sys2Proof/Machine/CatchChain.lean ====
section
/-! DEFINITION. Sys2Proof/Machine/CatchChain.lean: the decimation chain of a metrology channel (R362 to R366): CIC, normaliser and fine
delay, half-band filters. -/

namespace Sys2Proof.Machine

/-- ±FS of a sample (R362). -/
def satSample (i : Int) : Int := clampInt (-2147483647) 2147483647 i

/-! ## CIC (R362, R364) -/

/-- One modulator clock: the bit counts +1 or -1, and the three integrators add in turn. -/
def Cic.push (c : Cic) (b : Bool) : Cic :=
  let i1 := c.i1 + (if b then 1 else -1)
  let i2 := c.i2 + i1
  { c with i1 := i1, i2 := i2, i3 := c.i3 + i2 }

/-- One output of the CIC: the three combs subtract in turn. -/
def Cic.comb (c : Cic) : Int × Cic :=
  let a := c.i3 - c.c1
  let b := a - c.c2
  ((b - c.c3).toInt, { c with c1 := c.i3, c2 := a, c3 := b })

/-- `n` outputs of a CIC that decimates by `dc`, oldest first; `bit t` is the delayed bitstream. -/
def cicRun (bit : Nat → Bool) (dc : Nat) : Nat → Nat → Cic → List Int × Cic
  | 0, _, c => ([], c)
  | n + 1, t, c =>
    let r := ((List.range dc).foldl (fun (a : Cic) k => a.push (bit (t + k))) c).comb
    let q := cicRun bit dc n (t + dc) r.2
    (r.1 :: q.1, q.2)

/-! ## Normaliser and fine delay (R362, R364, R369) -/

/-- The normaliser's shift: the least L with D_cic³ ≤ 2^L. -/
def normShift (dc : Nat) : Nat := Nat.log2 (dc ^ 3 - 1) + 1

/-- The normaliser's 24-bit mantissa (R364): 2^(23 + L) / D_cic³, to the nearest. -/
def normMant (dc : Nat) : Nat := min (2 ^ 24 - 1) ((2 ^ (24 + normShift dc) + dc ^ 3) / (2 * dc ^ 3))

/-- A CIC output at unit DC gain, in 32 bits; the spec leaves its rounding open. -/
def normalise (mant shift : Nat) (i : Int) : Int :=
  let p := i * (mant * 256 : Nat)
  satSample (p / (2 ^ shift : Nat) + (Config.normRound p).toNat)

/-- The fine delay (R369): of the normaliser's outputs, newest first; FINE 0 delays by nothing, and the interpolation is the part's own. -/
def fineDelay (fine dc : Nat) (hist : List Int) : Int := if fine = 0 then hist.getD 0 0 else signed 32 (Config.fineDelay fine dc hist).toNat

/-- Samples pass the normaliser and the fine delay, oldest first: what comes out, and the history it leaves, newest first. -/
def fineRun (mant shift fine dc : Nat) : List Int → List Int → List Int × List Int
  | hist, [] => ([], hist)
  | hist, i :: t =>
    let h := (normalise mant shift i :: hist).take 32
    let r := fineRun mant shift fine dc h t
    (fineDelay fine dc h :: r.1, r.2)

/-! ## Half-band filters (R362, R365) -/

/-- A half-band stage takes its inputs two by two, oldest first, over 27 taps. -/
def halfBand : List Int → List Int → List Int × List Int
  | hist, a :: b :: t =>
    let h := (b :: a :: hist).take 27
    let r := halfBand h t
    (signed 32 (Config.halfBand ((List.range 27).map (fun k => h.getD k 0))).toNat :: r.1, r.2)
  | hist, _ => ([], hist)

/-- The half-band stages in turn, each with its own history. -/
def halfBands : Nat → List (List Int) → List Int → List Int × List (List Int)
  | 0, _, xs => (xs, [])
  | n + 1, hs, xs =>
    let r := halfBand (hs.headD []) xs
    let q := halfBands n hs.tail r.1
    (q.1, r.2 :: q.2)

/-! ## The chain as far as the FIR -/

/-- Stages 1 to 4 (R362) over the modulator's bits of one output, `bit` of the delayed bitstream: the FIR's inputs, oldest first. -/
def MetCh.stages (x : MetCh) (bit : Nat → Bool) (dc hbs dfir fine : Nat) : List Int × MetCh :=
  let c := cicRun bit dc (2 ^ hbs * dfir) 0 x.cic
  let f := fineRun x.mant x.shift fine dc x.norm c.1
  let h := halfBands hbs x.hb f.1
  (h.1, { x with cic := c.2, norm := f.2, hb := h.2 })

end Sys2Proof.Machine
end

