-- ==== Sys2Proof/Machine/NodeOps.lean ====
section
/-! DEFINITION. Sys2Proof/Machine/NodeOps.lean: balance nodes: members and their energies, residuals, the daily test and the fit
of members (R325, R335 to R350). -/

namespace Sys2Proof.Machine

/-- A node. -/
def Dev.node (d : Dev) (n : Nat) : Node := d.ldg.nodes.getD n {}

/-- Set a node. -/
def Dev.setNode (d : Dev) (n : Nat) (x : Node) : Dev := { d with ldg := { d.ldg with nodes := d.ldg.nodes.put n x } }

/-- The members of a node, by ascending MIX (R335). -/
def Dev.nodeMembers (d : Dev) (n : Nat) : List (Nat × Ctx) := d.ctx.tab.filter (fun e => e.2.balNode / 32768 = 1 && e.2.balNode % 4096 = n)

/-- The source of a node is ON, or its field device has mustered (R336). -/
def Dev.hasSource (d : Dev) (n : Nat) : Bool :=
  if d.rd F.LDG_NODE_W0_SRC n = 0 then d.isOn (14 + d.rd F.LDG_NODE_W0_CM n)
  else decide (d.rd F.LDG_NODE_W0_SRC_FDX n ≤ 1023) && decide ((d.fl.fds.getD (d.rd F.LDG_NODE_W0_SRC_FDX n) {}).st = 2)

/-- Every member's BAL_NODE follows a change of a node (R335). -/
def Dev.rebalAll (d : Dev) : Dev := d.ctx.tab.foldl (fun (x : Dev) e => x.editCtx e.1 id) d

/-- Words 0 to 3 of a node have changed (R355): VALID opens or closes it; a change of its source, MODE or selector restarts its
windows, and its learning unless F0 is fixed. -/
def Dev.nodeChanged (d : Dev) (n w0 w1 : Nat) : Dev :=
  let valid := d.on F.LDG_NODE_W0_VALID n
  let fixed := d.on F.LDG_NODE_W0_F0_FIXED n
  let v0 := d.word (0x2000000 + 0x80 * n)
  let v1 := d.word (0x2000004 + 0x80 * n)
  let src := decide (bitsOf v0 0 26 ≠ bitsOf w0 0 26)
  let sel := decide (v1 ≠ w1) || decide (bitsOf v0 28 2 ≠ bitsOf w0 28 2)
  let d1 : Dev :=
    if !valid then { d with ldg := { d.ldg with nodes := d.ldg.nodes.del n } }
    else match d.ldg.nodes.find n with
      | none => d.setNode n { validAt := d.nowS, st := if fixed then 2 else 1 }
      | some x =>
        let y : Node := if fixed && x.st = 1 then { x with st := 2 } else x
        if src || sel then
          d.setNode n { log := if src then [] else y.log.filter (fun r => !r.decided), validAt := if fixed then y.validAt else d.nowS
                        st := if fixed then 2 else 1, f0 := if fixed then y.f0 else 0 }
        else d.setNode n y
  d1.rebalAll

/-! ## Member energies (R325, R337) -/

/-- Ten to an integer power. -/
def pow10 (i : Int) : Rat := if 0 ≤ i then ((10 ^ i.toNat : Nat) : Rat) else 1 / ((10 ^ (-i).toNat : Nat) : Rat)

/-- Keep the first entry for each START. -/
def firstStarts : List LogEnt → List LogEnt → List LogEnt
  | acc, [] => acc
  | acc, e :: t => if acc.any (fun a => a.start = e.start) then firstStarts acc t else firstStarts (e :: acc) t

/-- Entries that the balance takes, by rising START: neither REJECT nor NO_BALANCE; of entries for one START the latest (R326, R337). -/
def balEnts (log : List LogEnt) : List LogEnt :=
  sortBy (·.start) (firstStarts [] (log.filter (fun e => e.isInt && !bitAt e.vee 0 && !bitAt e.vee 14)))

/-- END of an entry. -/
def LogEnt.fin (e : LogEnt) : Nat := e.start + e.intLen * 60

/-- The points of a member's cumulative curve (R337), from the first entry's START. -/
def curvePts : Nat → List LogEnt → List (Nat × Nat)
  | _, [] => []
  | sum, e :: t => (e.fin, sum + e.value) :: curvePts (sum + e.value) t

/-- The curve at an instant. -/
def ptsAt : List (Nat × Nat) → Nat → Option Rat
  | (t1, r1) :: (t2, r2) :: ps, t => if t < t1 then none else if t ≤ t2 then some (lineAt t1 r1 t2 r2 t) else ptsAt ((t2, r2) :: ps) t
  | [(t1, r1)], t => if t = t1 then some r1 else none
  | [], _ => none

/-- The growth of the curve over an interval (R337), register units. -/
def curveGrowth (log : List LogEnt) (a b : Nat) : Option Rat :=
  match balEnts log with
  | [] => none
  | e :: t =>
    let pts := (e.start, 0) :: curvePts 0 (e :: t)
    match ptsAt pts a, ptsAt pts b with
    | some x, some y => some (y - x)
    | _, _ => none

/-- The seconds of an interval that entries cover. -/
def covered (es : List LogEnt) (a b : Nat) : Nat := sumNat (es.map (fun e => min b e.fin - max a e.start))

/-- Class A or R data exist for an interval (R339). -/
def hasData (log : List LogEnt) (a b : Nat) : Bool := b - a ≤ covered (balEnts log) a b && (curveGrowth log a b).isSome

/-- The mean growth at an interval's time of day over the 28 days before, and the number of those days that have it (R325). -/
def dayGrowth (log : List LogEnt) (a b : Nat) : Rat × Nat :=
  let gs := (List.range 28).filterMap (fun j =>
    let s := (j + 1) * 86400
    if s ≤ a && hasData log (a - s) (b - s) then curveGrowth log (a - s) (b - s) else none)
  (gs.foldl (· + ·) (0 : Rat) / (max 1 gs.length : Nat), gs.length)

/-- A member in a balance interval: its energy, Wh, whether data exist for it, and its phase then, 1 to 3, where known and stable. -/
structure MemE where
  m : Nat
  has : Bool
  e : Rat
  unknown : Bool
  ph : Option Nat
  deriving DecidableEq, Repr

/-- Three changes within 7 days, and no 7 days since without one (R350); times newest first. -/
def unstableAt (now : Nat) : List Nat → Bool
  | a :: b :: c :: t =>
    if a + 604800 ≤ now then false
    else if a ≤ c + 604800 then true
    else unstableAt a (b :: c :: t)
  | _ => false

/-- The phase code at an instant: the one before the earliest later change (R349). -/
def phaseAt (now : Nat) (t : Nat) (moves : List (Nat × Nat × Nat)) : Nat :=
  match (moves.filter (fun v => t < v.1)).getLast? with
  | some v => v.2.1 % 4
  | none => now % 4

/-- The member's SCALE as a factor. -/
def Dev.scaleOf (d : Dev) (m : Nat) : Rat := match d.ext m with | some e => pow10 e.scale | none => 1

/-- A member's own energy over an interval: its curve, or its time-of-day mean (R325, R337). -/
def Dev.ownE (d : Dev) (m a b : Nat) : Bool × Option Rat :=
  let log := (d.ldgM m).log
  if hasData log a b then (true, (curveGrowth log a b).map (· * d.scaleOf m))
  else
    let g := dayGrowth log a b
    (false, if 7 ≤ g.2 then some (g.1 * d.scaleOf m) else none)

/-- The members of a node in a balance interval (R325, R337, R339). -/
def Dev.memberEs (d : Dev) (n a b : Nat) : List MemE :=
  let raw := (d.nodeMembers n).map (fun e => (e.1, e.2, d.ownE e.1 a b))
  let real := raw.filterMap (fun r => if r.2.2.1 then r.2.2.2 else none)
  let mean : Rat := if real.isEmpty then 0 else real.foldl (· + ·) 0 / (real.length : Rat)
  raw.map (fun r =>
    let mv := (d.ldgM r.1).moves
    let ph := phaseAt r.2.1.phase b mv
    { m := r.1, has := r.2.2.1, e := r.2.2.2.getD mean, unknown := ph = 3
      ph := if ph = 3 || unstableAt b (mv.map (·.1)) then none else some (ph + 1) })

/-! ## Residuals (R338 to R340, R349) -/

/-- A sum of rationals. -/
def sumRat (l : List Rat) : Rat := l.foldl (· + ·) 0

/-- Check-meter energy of phase k, or of all phases for 0. -/
def checkOf (es : List Rat) (k : Nat) : Rat := if k = 0 then sumRat es else es.getD (k - 1) 0

/-- The technical loss of R338, Wh: NL_W over 900 s and LL_PPM of the energy; a third of NL_W for one phase. -/
def Dev.lossTech (d : Dev) (n k : Nat) (e : Rat) : Rat :=
  (d.rd F.LDG_NODE_W2_NL_W n : Rat) / (if k = 0 then 4 else 12) + (d.rd F.LDG_NODE_W2_LL_PPM n : Rat) * e / 1000000

/-- A member's change of phase leaves an interval out of phase k (R349). -/
def Dev.movedOut (d : Dev) (n k a b : Nat) : Bool :=
  (d.nodeMembers n).any (fun e => (d.ldgM e.1).moves.any (fun v =>
    (v.2.1 % 4 + 1 = k || v.2.2 % 4 + 1 = k) && decide (v.1 ≤ a + 3600 * d.rd F.LDG_EST_CFG_PH_SPAN) && decide (b ≤ v.1)))

/-- The residual of phase k over an interval, where it is formed (R338, R340, R349). -/
def Dev.residual (d : Dev) (n a b : Nat) (es : List Rat) (ms : List MemE) (k : Nat) : Option Rat :=
  let e := checkOf es k
  let tot := sumRat (ms.map (·.e))
  let unk := sumRat ((ms.filter (·.unknown)).map (·.e))
  if k = 0 then some (e - tot - d.lossTech n 0 e)
  else if (d.rd F.LDG_BAL_CFG_UNK_MAX : Rat) * tot < 100 * unk || d.movedOut n k a b then none
  else some (e - sumRat ((ms.filter (fun x => x.ph = some k)).map (·.e)) - d.lossTech n k e)

/-- A balance interval of a node is formed, or fails its coverage (R339). A node without members has no share to fail. -/
def Dev.formRow (d : Dev) (n b : Nat) : Dev :=
  let x := d.node n
  match x.log.find? (fun r => r.end_ = b && !r.decided) with
  | none => d
  | some r =>
    match r.check with
    | none => d
    | some es =>
      if !d.hasSource n then d
      else
        let ms := d.memberEs n (b - 900) b
        let have_ := (ms.filter (·.has)).length
        let put := fun (y : Node) (r' : BalRow) => { y with log := y.log.map (fun q => if q.end_ = b then r' else q) }
        if 100 * have_ < d.rd F.LDG_BAL_CFG_COVER_MIN * ms.length then
          (d.setNode n (put x { r with decided := true })).bump F.LDG_NOT_FORMED
        else
          (d.setNode n { put x { r with decided := true, formed := true, metered := sumRat (ms.map (·.e))
                                        res := (List.range 4).map (d.residual n (b - 900) b es ms) } with
            cover := if ms.isEmpty then 100 else 100 * have_ / ms.length, lastEnd := b }).bumpW F.LDG_FORMED

/-- A check-meter record reaches a node log (R336, R380): energies of L1 to L3, mWh. -/
def Dev.nodeLogAdd (d : Dev) (n start : Nat) (mWh : List Int) : Dev :=
  let x := d.node n
  if x.log.any (fun r => r.end_ = start + 900) then d
  else d.setNode n { x with log := { end_ := start + 900, check := some (mWh.map (fun (e : Int) => (e : Rat) / 1000)) } :: x.log }

/-- A record of a check meter goes to the node log of every node whose source it is (R380): `fdx` for one of a field device. -/
def Dev.nodeLogs (d : Dev) (fdx : Option Nat) (cm start : Nat) (mWh : List Int) : Dev :=
  d.ldg.nodes.keys.foldl (fun (x : Dev) n =>
    let here := match fdx with
      | none => x.rd F.LDG_NODE_W0_SRC n = 0
      | some f => x.rd F.LDG_NODE_W0_SRC n = 1 && x.rd F.LDG_NODE_W0_SRC_FDX n = f
    if here && x.rd F.LDG_NODE_W0_CM n = cm then x.nodeLogAdd n start mWh else x) d

/-! ## The daily test (R341, R342) -/

/-- The formed rows that phase k may use (R349). -/
def Dev.rowsOf (d : Dev) (n k : Nat) : List (BalRow × Rat) :=
  (d.node n).log.filterMap (fun r =>
    if !r.formed || (k ≠ 0 && d.movedOut n k (r.end_ - 900) r.end_) then none else (r.res.getD k none).map (fun v => (r, v)))

/-- UTC day of a row. -/
def BalRow.day (r : BalRow) : Nat := (r.end_ - 900) / 86400

/-- A residual fraction over rows; where no energy passed the check meter the spec states none: a free value, ppm. -/
def fraction (free k : Nat) (rows : List (BalRow × Rat)) : Rat :=
  let e := sumRat (rows.map (fun r => checkOf (r.1.check.getD []) k))
  if e = 0 then (signed 32 (Config.free32 free).toNat : Rat) / 1000000 else sumRat (rows.map (·.2)) / e

/-- The residual fractions of the complete days from `lo` to before `hi`, by rising day (R341). -/
def Dev.dayFractions (d : Dev) (n k lo hi : Nat) : List (Nat × Rat) :=
  let rows := d.rowsOf n k
  (List.range (hi - lo)).filterMap (fun i =>
    let rs := rows.filter (fun r => r.1.day = lo + i)
    if 864 ≤ 10 * rs.length then some (lo + i, fraction d.freeCtr k rs) else none)

/-- A nearest integer; halves go up. -/
def nearest (r : Rat) : Int := (r + 1 / 2).floor

/-- The nearest integer to a - √q. -/
def subRoot (a q : Rat) : Int := nearest (a - (isqrt (q * 1000000000000).floor.toNat : Rat) / 1000000)

/-- z of R341, in thousandths. -/
def zOf (conf : Nat) : Nat := match conf with | 1 => 1960 | 2 => 2326 | _ => 1645

/-- The mean, and the square of z·s/√D. -/
def meanBound (z : Nat) (fs : List Rat) : Rat × Rat :=
  let n : Rat := (fs.length : Rat)
  let mean := sumRat fs / n
  let s2 := sumRat (fs.map (fun f => (f - mean) * (f - mean))) / (n - 1)
  (mean, (z : Rat) * z / 1000000 * s2 / n)

/-- F0 in force (R342). -/
def Dev.f0Of (d : Dev) (n : Nat) : Rat :=
  if d.on F.LDG_NODE_W0_F0_FIXED n then (d.rdS F.LDG_NODE_W3_F0 n : Rat) / 1000000 else (d.node n).f0

/-- The bit of LOSS_K for phase k. -/
def lossBit (k : Nat) : Nat := if k = 0 then 3 else k - 1

/-- Set an element of a list. -/
def setAt {α : Type} (l : List α) (i : Nat) (v : α) : List α := (List.range l.length).zip l |>.map (fun e => if e.1 = i then v else e.2)

/-- The learned baseline: the mean of the first WIN_DAYS complete days since the node became VALID (R342). -/
def Dev.learn (d : Dev) (n today : Nat) : Dev :=
  let x := d.node n
  let w := d.rd F.LDG_LOSS_CFG_WIN_DAYS
  if x.st ≠ 1 ∨ d.on F.LDG_NODE_W0_F0_FIXED n then d
  else
    let fs := (d.dayFractions n 0 (x.validAt / 86400) today).take w
    if fs.length < w then d else d.setNode n { x with st := 2, f0 := sumRat (fs.map (·.2)) / (w : Rat) }

/-- The test of phase k of a node (R341, R342, R351). One complete day has no sample deviation: LB is then a free value. -/
def Dev.testPhase (d : Dev) (n today k : Nat) : Dev :=
  let fs := (d.dayFractions n k (today - d.rd F.LDG_LOSS_CFG_WIN_DAYS) today).map (·.2)
  let x0 := d.node n
  let x := if k = 0 then { x0 with days := fs.length } else x0
  if fs.isEmpty then d.setNode n x
  else
    let mb := meanBound (zOf (d.rd F.LDG_BAL_CFG_CONF)) fs
    let lim := d.f0Of n + (d.rd F.LDG_LOSS_CFG_LOSS_MIN : Rat) / 10000
    let lb : Int := if fs.length = 1 then signed 32 (Config.free32 (d.freeCtr + 1)).toNat else subRoot (mb.1 * 1000000) (mb.2 * 1000000000000)
    let mean := nearest (mb.1 * 1000000)
    let d1 := d.setNode n { x with means := setAt x.means k mean, lbs := setAt x.lbs k lb }
    let was := bitAt x.lossK (lossBit k)
    let w4 := n + k * 4096
    if x.st ≠ 1 && !was && decide (d.rd F.LDG_LOSS_CFG_MIN_DAYS ≤ fs.length) && decide (lim < mb.1) && decide (mb.2 < (mb.1 - lim) * (mb.1 - lim)) then
      let y := d1.node n
      (d1.setNode n { y with lossK := y.lossK ||| 2 ^ lossBit k, st := 3 }).recordPost 2 0x0A10 1 0xA 0 0 w4 (unsigned 32 mean) (unsigned 32 lb)
    else if was && decide (mb.1 ≤ lim) then
      let y := d1.node n
      let l := y.lossK - 2 ^ lossBit k
      (d1.setNode n { y with lossK := l, st := if l = 0 then 2 else 3 }).recordPost 2 0x0A11 0 0xA 0 0 w4 (unsigned 32 mean) (unsigned 32 lb)
    else d1

/-! ## Attribution (R344 to R348) -/

/-- Remove the mean and the component explained by X (R344, 1). -/
def partial_ (xs ys : List Rat) : List Rat :=
  let n : Rat := (max 1 ys.length : Nat)
  let mx := sumRat xs / n
  let my := sumRat ys / n
  let cx := xs.map (· - mx)
  let cy := ys.map (· - my)
  let sxx := sumRat (List.zipWith (· * ·) cx cx)
  let b := if sxx = 0 then 0 else sumRat (List.zipWith (· * ·) cx cy) / sxx
  List.zipWith (fun x y => y - b * x) cx cy

/-- A fitted member: β̂, t² with the sign of t, or t beyond every bound, round(100·t) saturating. -/
structure Fit where
  m : Nat
  beta : Rat
  tsq : Rat
  inf : Bool
  score : Int
  deriving DecidableEq, Repr

/-- round(100·t) of a signed square, held to 32 bits. -/
def scoreOf (tsq : Rat) : Int :=
  let a := if tsq < 0 then -tsq else tsq
  let r : Int := ((isqrt (a * 40000).floor.toNat + 1) / 2 : Nat)
  clampInt (-2147483648) 2147483647 (if tsq < 0 then -r else r)

/-- The fit of R344 over residuals, a member's energies and metered totals. With no residual left at all t is 0/0, for which the
spec states no value: SUSPECT is then a free value, and t what it says. -/
def fitOf (free m : Nat) (rs es xs : List Rat) : Option Fit :=
  let n := rs.length
  let r := partial_ xs rs
  let x := partial_ xs es
  let sxx := sumRat (List.zipWith (· * ·) x x)
  if n ≤ 3 ∨ sxx = 0 then none
  else
    let beta := sumRat (List.zipWith (· * ·) r x) / sxx
    let u := List.zipWith (fun a b => a - beta * b) r x
    let s2 := sumRat (List.zipWith (· * ·) u u) / ((n : Rat) - 3)
    let srr := sumRat (List.zipWith (· * ·) r r)
    let rho0 := if srr = 0 then 0 else sumRat (List.zipWith (· * ·) r (r.drop 1)) / srr
    let rho := max 0 (min (95 / 100) rho0)
    let share := (1 - rho) / (1 + rho)
    if s2 = 0 ∧ beta = 0 then
      let v := signed 32 (Config.free32 free).toNat
      some ⟨m, beta, (v * v.natAbs : Int) / (10000 : Rat), false, v⟩
    else if s2 = 0 then some ⟨m, beta, if beta < 0 then -1 else 1, true, if beta < 0 then -2147483648 else 2147483647⟩
    else
      let t2 := beta * beta * sxx * share / s2
      let q := if beta < 0 then -t2 else t2
      some ⟨m, beta, q, false, scoreOf q⟩

/-- A member is eligible over rows (R345): MIN_DAYS days with data, and 80 % of its intervals with data of TIME_QUAL at most 2. -/
def Dev.eligible (d : Dev) (m : Nat) (c : Ctx) (rows : List BalRow) : Bool :=
  let log := (d.ldgM m).log
  let mine := rows.filter (fun r => c.admitTime ≤ r.end_ - 900)
  let has := mine.filter (fun r => hasData log (r.end_ - 900) r.end_)
  let days := has.foldl (fun (l : List Nat) r => if l.contains r.day then l else r.day :: l) []
  let good := has.filter (fun r => 900 ≤ covered ((balEnts log).filter (fun e => e.aux ≤ 2)) (r.end_ - 900) r.end_)
  d.rd F.LDG_LOSS_CFG_MIN_DAYS ≤ days.length && !mine.isEmpty && 80 * mine.length ≤ 100 * good.length

/-- A member's fit against its phase's residuals where its phase is known and stable, since its latest change; else all phases. -/
def Dev.fitMember (d : Dev) (n lo hi m : Nat) (c : Ctx) : Option Fit :=
  let mv := (d.ldgM m).moves
  let k := if c.phase % 4 = 3 || unstableAt d.nowS (mv.map (·.1)) then 0 else c.phase % 4 + 1
  let from_ := if k = 0 then 0 else match mv with | v :: _ => v.1 | [] => 0
  let inWin := fun (r : BalRow) => lo ≤ r.day && r.day < hi
  if !d.eligible m c ((d.node n).log.filter (fun r => r.formed && inWin r)) then none
  else
    let rows := ((d.rowsOf n k).filter (fun r => inWin r.1 && from_ ≤ r.1.end_ - 900)).reverse
    fitOf (d.freeCtr + 2 + m) m (rows.map (·.2))
      (rows.map (fun r => (((d.memberEs n (r.1.end_ - 900) r.1.end_).find? (fun x => x.m = m)).map (·.e)).getD 0))
      (rows.map (fun r => r.1.metered))

/-- Whether one fit ranks before another (R346): members that report bypass or reversed current first, then by t. -/
def Dev.ranksBefore (d : Dev) (a b : Fit) : Bool :=
  let tam := fun (f : Fit) => match d.ctxAt f.m with | some c => c.meterTamper % 4 ≠ 0 | none => false
  let key := fun (f : Fit) => if f.inf then (if f.tsq < 0 then (0 : Nat) else 2) else 1
  if tam a != tam b then tam a
  else if key a ≠ key b then key b < key a
  else if a.inf then false else decide (b.tsq < a.tsq)

/-- Insert a fit in rank order. -/
def Dev.rankIn (d : Dev) (f : Fit) : List Fit → List Fit
  | [] => [f]
  | g :: t => if d.ranksBefore f g then f :: g :: t else g :: Dev.rankIn d f t

/-- t reaches T_SUS and β̂ reaches BETA_MIN (R346). -/
def Dev.suspects (d : Dev) (f : Fit) : Bool :=
  let ts := d.rd F.LDG_ATTR_CFG_T_SUS
  decide (0 < f.tsq) && (f.inf || decide ((ts * ts : Nat) ≤ f.tsq * 100)) && decide ((d.rd F.LDG_ATTR_CFG_BETA_MIN : Rat) ≤ 100 * f.beta)

/-- A suspect finding (R346, R351), and the bypass indication that a run of them gives (R348). -/
def Dev.suspectFinding (d : Dev) (n : Nat) (f : Fit) : Dev :=
  let x := d.ldgM f.m
  let run := x.suspectRun + 1
  let d1 := (d.setLdgM f.m { x with suspectRun := run }).post 2 0x0A20 1 0xA (tgtMix f.m) (f.m % 2 ^ 20 + (n % 4096) * 2 ^ 20)
    (unsigned 32 (nearest (f.beta * 1000000))) (unsigned 32 f.score)
  if d1.on F.LDG_ATTR_CFG_BYPASS_EN && decide (d1.rd F.LDG_ATTR_CFG_BYPASS_DAYS ≤ run) then d1.setTamper f.m 2 else d1

/-- Attribution for a node (R344 to R346). -/
def Dev.attribute (d : Dev) (n today : Nat) : Dev :=
  let x := d.node n
  let ms := d.nodeMembers n
  if x.st = 1 then d
  else if 2048 < ms.length then d.setNode n { x with attrOff := true }
  else if !d.on F.LDG_ATTR_CFG_EN then d.setNode n { x with attrOff := false }
  else
    let fits := ms.filterMap (fun e => d.fitMember n (today - d.rd F.LDG_LOSS_CFG_WIN_DAYS) today e.1 e.2)
    let ranked := fits.foldl (fun l f => d.rankIn f l) []
    let d1 := d.setNode n { x with attrOff := false, top := (ranked.take 4).map (fun f => (f.m, f.score)) }
    let d2 := ms.foldl (fun (y : Dev) e => if fits.any (fun f => f.m = e.1 && x.st = 3 && d.suspects f) then y else
      y.setLdgM e.1 { y.ldgM e.1 with suspectRun := 0 }) d1
    ranked.foldl (fun (y : Dev) f =>
      let y1 := y.editCtx f.m (fun c => { c with suspect := f.score })
      if x.st = 3 && d.suspects f then y1.suspectFinding n f else y1) d2

/-- The daily evaluation of every node (R341); the state then goes to NAND (R352). -/
def Dev.evaluate (d : Dev) (today : Nat) : Dev :=
  let d0 : Dev := { d with ldg := { d.ldg with evalDay := today, missed := false } }
  if !d.timeValid || !d.on F.LDG_BAL_CFG_EN then d0
  else
    let d1 := d0.ldg.nodes.keys.foldl (fun (x : Dev) n =>
      let y := [0, 1, 2, 3].foldl (fun (z : Dev) k => z.testPhase n today k) (x.learn n today)
      let w := y.attribute n today
      { w with freeCtr := w.freeCtr + 2 + 2 ^ 20 }) d0
    if d1.ldg.nodes.isEmpty then d1 else d1.offer 14 ⟨3, 128 * d1.ldg.nodes.length, .media 2 (.raw [])⟩

end Sys2Proof.Machine
end

