-- ==== Sys2Proof/Machine/CmOps.lean ====
section
/-! DEFINITION. Sys2Proof/Machine/CmOps.lean: channels and check meters of the Catch chain (R357 to R391). -/

namespace Sys2Proof.Machine

/-- A channel. -/
def Dev.mch (d : Dev) (n : Nat) : MetCh := d.met.chs.getD n {}

/-- Set a channel. -/
def Dev.setMch (d : Dev) (n : Nat) (x : MetCh) : Dev := { d with met := { d.met with chs := if x = {} then d.met.chs.del n else d.met.chs.put n x } }

/-- A check meter. -/
def Dev.mcm (d : Dev) (k : Nat) : MetCm := d.met.cms.getD k {}

/-- Set a check meter. -/
def Dev.setMcm (d : Dev) (k : Nat) (x : MetCm) : Dev := { d with met := { d.met with cms := if x = {} then d.met.cms.del k else d.met.cms.put k x } }

/-- The channels of a check meter, V1 to I3 (R374). -/
def Dev.cmChans (d : Dev) (k : Nat) : List Nat := cmMapList (d.rd F.MET_CM_MAP_MAP k)

/-- The check meter that holds a channel (R375): one that is not OFF. -/
def Dev.cmHolder (d : Dev) (ch : Nat) : Option Nat :=
  (List.range 4).find? (fun k => decide ((d.fnOf (14 + k)).st ≠ .off ∧ (d.fnOf (14 + k)).st ≠ .failed) && !(d.fnOf (14 + k)).blocked && (d.cmChans k).contains ch)

/-! ## The chain (R362 to R368) -/

/-- R_tot (R363). -/
def Dev.ratio (d : Dev) (ch : Nat) : Nat :=
  d.rd F.MET_CH_RATIO_D_CIC ch * 2 ^ d.rd F.MET_CH_RATIO_N_HB ch * d.rd F.MET_CH_RATIO_D_FIR ch

/-- f_out in mS/s (R363). -/
def Dev.chRate (d : Dev) (ch : Nat) : Nat := 10000000000 / max 1 (d.ratio ch)

/-- The bank in use (R371). -/
def Dev.chBank (d : Dev) (ch : Nat) : Nat := d.rd F.MET_CH_STS_ACTIVE ch

/-- Offset of a bank word (R388). -/
def bankOff (ch bank word : Nat) : Nat := 0x92000 + ch * 0x400 + bank * 0x200 + 4 * word

/-- G in 2 ns units (R367). -/
def Dev.chDelay (d : Dev) (ch : Nat) : Nat :=
  let dc := d.rd F.MET_CH_RATIO_D_CIC ch
  let n := 2 ^ d.rd F.MET_CH_RATIO_N_HB ch
  let gd := d.word (bankOff ch (d.chBank ch) 96) % 65536
  (150 * (dc - 1) + 1300 * dc * (n - 1) + gd * dc * n * 100 / 256) / 2

/-- The trim delay in 2 ns units (R369): FINE steps are 0.390625 ns. -/
def Dev.chTrim (d : Dev) (ch : Nat) : Nat := (d.rd F.MET_CH_TRIM_COARSE ch * 50) + d.rd F.MET_CH_TRIM_FINE ch * 390625 / 2000000

/-- The FIR's sum over the input history (R366), coefficients in Q2.22. -/
def Dev.firSum (d : Dev) (ch : Nat) (hist : List Int) : Int :=
  sumInt ((List.range 96).map (fun k => signed 24 (d.word (bankOff ch (d.chBank ch) k)) * hist.getD k 0))

/-- A channel that is OFF keeps the boundary that is armed, and the trim and gain that wait for it (R370, R372). -/
def Dev.chOff (d : Dev) (ch : Nat) : MetCh :=
  let x := d.mch ch
  { armed := x.armed, pendTrim := x.pendTrim, pendGain := x.pendGain }

/-- A channel as it leaves OFF: the normaliser forms its mantissa and its shift (R364). -/
def Dev.chFresh (d : Dev) (ch : Nat) : MetCh :=
  let dc := d.rd F.MET_CH_RATIO_D_CIC ch
  { d.chOff ch with mant := normMant dc, shift := normShift dc }

/-- Stages 1 to 4 of a channel (R362): `bits` are the modulator's bits since the output before, the newest in bit 0. COARSE delays the
bitstream (R369); what the delay line holds before the channel's first bit the spec leaves open; CODE says what a bit means (R359). -/
def Dev.chStages (d : Dev) (ch n bits : Nat) : List Int × MetCh :=
  let x := d.mch ch
  let r := d.ratio ch
  let past := x.past * 2 ^ r + bits % 2 ^ r
  let bit := fun (t : Nat) =>
    let ago := r - 1 - t + d.rd F.MET_CH_TRIM_COARSE ch
    (if ago < r * (n + 1) then bitAt past ago else Config.emptyLine ch (ago - r * (n + 1))) != (decide (12 ≤ ch) && d.on F.MET_CH_CFG_CODE ch)
  let s := x.stages bit (d.rd F.MET_CH_RATIO_D_CIC ch) (d.rd F.MET_CH_RATIO_N_HB ch) (d.rd F.MET_CH_RATIO_D_FIR ch) (d.rd F.MET_CH_TRIM_FINE ch)
  (s.1, { s.2 with past := past % 2 ^ 65535 })

/-- 0.95 FS is reached. -/
def nearFs (i : Int) : Bool := 95 * 2147483647 ≤ 100 * i.natAbs

/-- The swap boundary of a channel (R370, R372, R373): banks are exchanged where asked, pending trim and gain take effect. -/
def Dev.chSwap (d : Dev) (ch : Nat) (exchange : Bool) : Dev :=
  let x := d.mch ch
  let d1 := if exchange then (d.wrb F.MET_CH_STS_ACTIVE ch (!d.on F.MET_CH_STS_ACTIVE ch)).touch (F.MET_CH_STS_ACTIVE.at ch) else d
  let d2 := match x.pendTrim with | some w => (d1.setWord (F.MET_CH_TRIM_COARSE.at ch) w).touch (F.MET_CH_TRIM_COARSE.at ch) | none => d1
  let d3 := match x.pendGain with | some w => (d2.setWord (F.MET_CH_GAIN_GAIN.at ch) w).touch (F.MET_CH_GAIN_GAIN.at ch) | none => d2
  let cal := x.pendTrim.isSome || x.pendGain.isSome
  let d4 := ((d3.setMch ch { x with pendTrim := none, pendGain := none, armed := none }).wrb F.MET_CH_STS_PENDING ch false).wrb F.MET_CH_SWAP_CTL_ARM ch false
  { d4 with met := { d4.met with cms := d4.met.cms.mapVals (fun k c =>
      if (d4.cmChans k).contains ch then { c with marks := c.marks ||| (if cal then 32 else 0) ||| (if exchange then 64 else 0) } else c) } }

/-- An output of a channel (R368) from the modulator's bits since the output before; `ovl`: the modulator was overloaded. The output of a
channel whose bitstream is stuck is zero (R359). -/
def Dev.chOutput (d : Dev) (ch bits : Nat) (ovl : Bool) : Dev :=
  let x0 := d.mch ch
  let n := match x0.idx with | some i => i + 1 | none => 0
  let d0 := match x0.nextAt with | some t => d.toMono t | none => d
  let d1 := match x0.armed with
    | some (at_, ex) => if at_ ≤ n then d0.chSwap ch ex else d0
    | none => d0
  let stuck := d1.on F.MET_CH_STS_STUCK ch
  let r := d1.chStages ch n bits
  let x := r.2
  let hist := (r.1.reverse ++ x.hist).take 96
  let s := d1.firSum ch hist
  let f := satSample (s / 4194304 + (Config.firRound s).toNat)
  let fb := x.y * ((Config.hpPole (d1.chRate ch)).toNat : Int)
  let hp := satSample (f - x.xPrev + fb / 4294967296 + (Config.hpRound fb).toNat)
  let y := if stuck then 0 else if d1.on F.MET_CH_CFG_HPF ch then hp else f
  let back : Int := ((d1.chDelay ch : Int) * (1000000000000 + d1.tim.rate)) / 1000000000000 + d1.chTrim ch
  let d2 := d1.setMch ch { x with idx := some (n % 2 ^ 64), y := y, xPrev := f, hist := hist, stamp := ((d1.tim.time : Int) - back).toNat
                                  nextAt := some (d1.tim.mono + 50 * d1.ratio ch) }
  if ovl || nearFs y then d2.wrb F.MET_CH_STS_OVL ch true else d2

/-! ## Check meters (R376 to R380) -/

/-- A value at FS, primary milli-units, with the channel's gain, applied to a sample (R376): primary units. -/
def Dev.primary (d : Dev) (fs : Nat) (ch : Nat) (y : Int) : Rat :=
  (fs : Rat) / 1000 * (1 + (d.rdS F.MET_CH_GAIN_GAIN ch : Rat) / 100000000) * (y : Rat) / 2147483647

/-- The voltage a quarter of a mains period before, by interpolation; without a measured period or enough history the spec states
none: a free value. -/
def quadrature (free : Nat) (vs : List Int) (cross : List Rat) (step : Rat) : Int :=
  let none_ := signed 32 (Config.free32 free).toNat
  match cross with
  | a :: b :: _ =>
    let pos := (a - b) / 4 / step
    let i := pos.floor.toNat
    match vs[i]?, vs[i + 1]? with
    | some p, some q => signed 32 (Config.interpolate p q (((pos - i) * 65536).floor.toNat)).toNat
    | _, _ => none_
  | _ => none_

/-- Sums, element by element. -/
def addRats (a b : List Rat) : List Rat := List.zipWith (· + ·) a b

/-- A share of a sample joins an interval, if it accumulates. -/
def joinAcc (start flags : Nat) (e q : List Rat) (l : List CmAcc) : List CmAcc :=
  l.map (fun a => if a.start = start then
    { a with flags := a.flags ||| flags, e := addRats a.e e, q := addRats a.q q, samples := a.samples + 1 } else a)

/-- The six channels of a check meter have all computed a sample: it accumulates (R376 to R379). A sample's span ends at its stamp. -/
def Dev.cmSample (d : Dev) (k : Nat) : Dev :=
  let chs := d.cmChans k
  let ys := chs.map (fun c => (d.mch c).y)
  let v1 := chs.getD 0 0
  let x := d.mcm k
  let t := 2 * (d.mch v1).stamp
  let stepNs := 100 * d.ratio v1
  let fs := fun (j : Nat) => if j < 3 then d.rd F.MET_CM_VFS_V_FS k else d.rd F.MET_CM_IFS_I_FS k
  let val := fun (j : Nat) (y : Int) => d.primary (fs j) (chs.getD j 0) y
  let sign : Rat := if d.on F.MET_CM_CFG_DIR k then -1 else 1
  let v := (List.range 3).map (fun j => val j (ys.getD j 0))
  let i := (List.range 3).map (fun j => sign * val (3 + j) (ys.getD (3 + j) 0))
  let sec : Rat := (stepNs : Rat) / 1000000000
  let prevY := ((x.vs.getD 0 []).head?).getD 0
  let crossed := !(x.vs.getD 0 []).isEmpty && prevY < 0 && 0 ≤ ys.getD 0 0
  let cAt : Rat := (t : Rat) - (stepNs : Rat) + (stepNs : Rat) * ((Config.crossing prevY (ys.getD 0 0)).toNat : Rat) / 65536
  let cross := if crossed then (cAt :: x.cross).take 2 else x.cross
  let vs := (List.range 3).map (fun j => (ys.getD j 0 :: x.vs.getD j []).take 700)
  let q := (List.range 3).map (fun j => val j (quadrature (d.freeCtr + j) (vs.getD j []) cross (stepNs : Rat)) * i.getD j 0 * sec)
  let e := (List.range 3).map (fun j => v.getD j 0 * i.getD j 0 * sec)
  let flags := flagIf 1 (chs.any (fun c => d.on F.MET_CH_STS_OVL c || nearFs (d.mch c).y)) + flagIf 2 (chs.any (fun c => d.on F.MET_CH_STS_STUCK c))
    + flagIf 4 (!d.timeValid)
  let start := t / 900000000000 * 900
  let edge := start * 1000000000
  let accs0 := if x.accs.any (fun a => a.start = start) then x.accs else x.accs ++ [{ start := start, flags := flagIf 0 (decide (edge < x.onAt)) }]
  let before : Rat := if t < edge + stepNs then ((edge + stepNs - t : Nat) : Rat) / (stepNs : Rat) else 0
  let part := fun (r : Rat) (l : List Rat) => l.map (· * r)
  let accs1 := joinAcc start (flags ||| x.marks) (part (1 - before) e) (part (1 - before) q) accs0
  let accs := if before = 0 then accs1 else joinAcc (start - 900) flags (part before e) (part before q) accs1
  let s := t / 1000000000
  let secs0 := if x.secs.any (fun a => a.sec = s) then x.secs else x.secs ++ [{ sec := s }]
  let secs := secs0.map (fun a => if a.sec = s then
    { a with n := a.n + 1, v2 := addRats a.v2 (v.map (fun r => r * r)), i2 := addRats a.i2 (i.map (fun r => r * r))
             p := addRats a.p (List.zipWith (· * ·) v i), cross := if crossed then cAt :: a.cross else a.cross } else a)
  let d1 := d.setMcm k { x with done := (d.mch v1).idx, at_ := t, accs := accs, secs := secs, marks := 0, vs := vs, cross := cross }
  { d1 with freeCtr := d1.freeCtr + 3 }

/-- The six channels of a check meter stand at one index, which it has not accumulated. -/
def Dev.cmAligned (d : Dev) (k : Nat) : Bool :=
  match (d.cmChans k).map (fun c => (d.mch c).idx) with
  | some i :: t => t.all (· = some i) && decide ((d.mcm k).done ≠ some i)
  | _ => false

/-- A record is written (R379): energies in mWh and mvarh, to the nearest. -/
def CmAcc.milli (l : List Rat) : List Int := l.map (fun r => nearest (r / 36 * 10))

/-- The 64 B record of an interval (R379). -/
def CmAcc.image (k : Nat) (a : CmAcc) : List Byte :=
  layBytes ([(4, a.start), (2, a.flags), (1, k % 4), (1, 0)] ++ ((CmAcc.milli a.e) ++ (CmAcc.milli a.q)).map (fun i => (8, unsigned 64 i))
    ++ [(4, a.samples), (4, 0)])

/-- A closed record goes to the node logs and, on a field device, up the field link; a flagged one is counted; a bow keeps its own
(R380, R381). -/
def Dev.cmClose (d : Dev) (k : Nat) (a : CmAcc) : Dev :=
  let x := d.mcm k
  let d1 := d.setMcm k { x with accs := x.accs.filter (fun b => b.start ≠ a.start), last := a.image k }
  if a.flags % 16 ≠ 0 then d1.bump F.MET_CM_DROP k
  else if d1.isBow then d1.setMcm k { d1.mcm k with closed := (a.start, CmAcc.milli a.e) :: (d1.mcm k).closed }
  else
    let d2 := d1.nodeLogs none k a.start (CmAcc.milli a.e)
    if d2.isField && decide (d2.fl.mode ≠ 0) then d2.flHoldRec (fun n => .checkRec n (a.image k)) else d2

/-- At takeover the new stroke adds the records that it closed itself and that its node log lacks (R381); the balance state is
recomputed (R352). -/
def Dev.cmTakeover (d : Dev) : Dev :=
  let d1 := (List.range 4).foldl (fun (y : Dev) k =>
    let z := (y.mcm k).closed.foldr (fun r (w : Dev) => w.nodeLogs none k r.1 r.2) y
    if (y.mcm k).closed.isEmpty then y else z.setMcm k { z.mcm k with closed := [] }) d
  { d1 with ldg := { d1.ldg with recompute := true } }

/-- A check meter stops: what it accumulated produces no record. -/
def Dev.cmStopped (d : Dev) (k : Nat) : Dev :=
  let x := d.mcm k
  d.setMcm k { closed := x.closed, last := x.last, copy := x.copy }

end Sys2Proof.Machine
end

