-- ==== Sys2Proof/Machine/Security.lean ====
section
/-! DEFINITION. Sys2Proof/Machine/Security.lean: the KEY and ATTEST descriptors, the root, the key transport key and tamper (R279 to R309). -/

namespace Sys2Proof.Machine

/-! ## KEY descriptors (R294 to R299) -/

/-- A descriptor waits for the end of the open stroke cycle (R299). -/
def Dev.keyWait (d : Dev) (p id : Nat) (res : List Nat) : Dev :=
  let d1 := d.markStarted p id
  { d1 with sec := { d1.sec with waits := d1.sec.waits ++ [{ pair := p, id := id, cycle := d1.openCycle, res := res }] } }

/-- KEY descriptors whose cycle has ended complete (R299). -/
def Dev.keyEnd (d : Dev) (cycle : Nat) : Dev :=
  let d1 : Dev := { d with sec := { d.sec with waits := d.sec.waits.filter (fun w => cycle < w.cycle) } }
  (d.sec.waits.filter (fun w => w.cycle ≤ cycle)).foldl (fun (x : Dev) w => x.complete w.pair w.id 0 0 w.res) d1

/-- A root is held and the key registers are loaded. -/
def Dev.keyed (d : Dev) : Bool := d.on F.SEC_STS_ROOT_VALID && d.sec.kdev.isSome

/-- The wrapped key of a KEY_STAGE body: w4 to w9. -/
def stageKey (x : Desc) : List Byte := wordsBytes [x.word 4, x.word 5, x.word 6, x.word 7, x.word 8, x.word 9]

/-- A key identifier that a meter's suite uses (R294): PSK is for ITU-T G.9903 meters, reached on line ports or through a field
device, or not yet attached. -/
def keyIdUsed (c : Ctx) (id : Nat) : Bool :=
  match id with
  | 0 => true
  | 3 => c.kind = 0 && (c.attach = 0 || c.attach = 1 || c.attach = 2 || c.attach = 7)
  | _ => suiteFull c.suite

/-- Derived staging of one meter: the shadow changes, is left as it stands, or cannot be staged. -/
def Dev.stageNext (d : Dev) (m : Nat) (c : Ctx) : Option (Bool × Dev) :=
  match d.nextGen m c with
  | none => none
  | some g =>
    match d.shadow m with
    | some s => if s.imported then some (true, d.stageDerived m g) else some (false, d)
    | none => some (true, d.stageDerived m g)

/-- Import staging of one key under K_wrap (R295). -/
def Dev.stageImport (d : Dev) (m id : Nat) (key : List Byte) : Dev :=
  let w := (d.purposeKey "WRP").map (fun k => kwWrap k key)
  if id = 3 then d.setImport m { d.import_ m with psk := w }
  else
    let d1 := match d.shadow m with | some s => if s.imported then d else d.dropShadow m | none => d
    let i := d1.import_ m
    let i' := match id with
      | 0 => { i with shEk := w }
      | 1 => { i with shAk := w }
      | _ => { i with shKek := w }
    (d1.setImport m i').setShadow m (some { imported := true, gen := 0xFF })

/-- KEY_STAGE of one meter (R294, R295). -/
def Dev.keyStageOne (d : Dev) (p : Nat) (h : Held) (ktk : Option (List Byte)) (m : Nat) (c : Ctx) : Dev :=
  let id := bitsOf (h.desc.word 3) 0 4
  let w := stageKey h.desc
  if 4 ≤ id then d.complete p h.id 4 12
  else if w.all (· = 0) then
    match d.stageNext m c with
    | none => d.complete p h.id 4 16
    | some (true, d1) => d1.keyWait p h.id []
    | some (false, d1) => d1.complete p h.id 0 0
  else match ktk.bind (fun k => kwUnwrap k w) with
    | none => d.complete p h.id 4 16
    | some key =>
      if !keyIdUsed c id then d.complete p h.id 4 12
      else if (d.sec.imports.find m).isNone && 16384 ≤ d.sec.imports.length then d.complete p h.id 8 0
      else (d.stageImport m id key).keyWait p h.id []

/-- KEY_STAGE of a group: derived staging of its ASSOCIATED and SILENT meters (R294). -/
def Dev.keyStageGroup (d : Dev) (p : Nat) (h : Held) : Dev :=
  if 4 ≤ bitsOf (h.desc.word 3) 0 4 then d.complete p h.id 4 12
  else if !(stageKey h.desc).all (· = 0) then d.complete p h.id 4 16
  else
    let ms := d.members (tGrp h.desc) (fun c => c.owned && (c.st = 3 || c.st = 4))
    let r := ms.foldl (fun (a : Nat × Nat × Bool × Dev) m =>
      match a.2.2.2.ctxAt m with
      | none => a
      | some c => match a.2.2.2.stageNext m c with
        | none => (a.1, a.2.1 + 1, a.2.2.1, a.2.2.2)
        | some (ch, d1) => (a.1 + 1, a.2.1, a.2.2.1 || ch, d1)) (0, 0, false, d)
    if r.2.2.1 then r.2.2.2.keyWait p h.id [r.1, r.2.1] else r.2.2.2.complete p h.id 0 0 [r.1, r.2.1]

/-- KEY_STAGE (R294). -/
def execKeyStage (pair : Fin 64) (s : State) : Host.Outcome State Fault Refusal :=
  s.go (fun d => d.onDesc pair 0x60 (fun d h =>
    if tKind h.desc = 2 then (if d.keyed then d.keyStageGroup pair h else d.complete pair h.id 7 0)
    else d.withCtx pair h (fun m c => if d.keyed then d.keyStageOne pair h s.bat.ktk m c else d.complete pair h.id 7 0)))

/-- The staged import set of a meter is complete, and the check value given is that of its EK or K (R298). -/
def Dev.commitFits (d : Dev) (m : Nat) (c : Ctx) (x : Desc) : Bool :=
  match d.shadow m with
  | some s => s.imported && d.importComplete m c.suite
      && (match d.importSet m true with | some k => kcv k.ek = wordsBytes [x.word 3, x.word 4] | none => false)
  | none => false

/-- KEY_COMMIT (R298). -/
def execKeyCommit (pair : Fin 64) (s : State) : Host.Outcome State Fault Refusal :=
  s.go (fun d => d.onDesc pair 0x61 (fun d h =>
    if tKind h.desc = 2 then d.complete pair h.id 0x11 0
    else d.withCtx pair h (fun m c =>
      if !d.keyed then d.complete pair h.id 7 0
      else if d.commitFits m c h.desc then (d.commitKeys m 0xFF).keyWait pair h.id []
      else d.complete pair h.id 0x11 0)))

/-- KEY_DISCARD (R298). -/
def execKeyDiscard (pair : Fin 64) (s : State) : Host.Outcome State Fault Refusal :=
  s.go (fun d => d.onDesc pair 0x62 (fun d h =>
    if tKind h.desc = 2 then
      let ms := (d.members (tGrp h.desc) Ctx.owned).filter (fun m => (d.shadow m).isSome)
      if ms.isEmpty then d.complete pair h.id 0 0 else (ms.foldl (fun (x : Dev) m => x.dropShadow m) d).keyWait pair h.id []
    else d.withCtx pair h (fun m _ =>
      if (d.shadow m).isSome then (d.dropShadow m).keyWait pair h.id [] else d.complete pair h.id 0 0)))

/-! ## Attestation (R308) -/

/-- The first 176 bytes of the response. -/
def Dev.attestBody (d : Dev) (nonce : List Byte) : List Byte :=
  layBytes [(4, 0x5441564E), (2, 1),
    (2, b2n (d.on F.SEC_STS_ROOT_VALID) + 2 * b2n (d.on F.SEC_STS_TAMPER_LATCH) + 4 * b2n d.par.claim
        + 8 * b2n (decide (d.rd F.SEC_STS_BOOT_PATH = 2))),
    (4, d.word 0), (4, d.evr.powerCycles), (8, (Config.serial 0).toNat), (8, d.tim.time)]
  ++ (padTo 32 d.sec.dBoot).take 32 ++ (padTo 48 d.sec.dImg).take 48 ++ (padTo 32 d.tar.check).take 32 ++ nonce

/-- The 208-byte response: its HMAC is zero without a root. -/
def Dev.attest (d : Dev) (nonce : List Byte) : List Byte :=
  let b := d.attestBody nonce
  b ++ (if d.keyed then (match d.purposeKey "ATT" with | some k => hmac k b | none => List.replicate 32 0) else List.replicate 32 0)

/-- ATTEST (R308): it waits while the Security engine has other work (R636). -/
def execAttest (pair : Fin 64) (s : State) : Host.Outcome State Fault Refusal :=
  s.go (fun d => d.onDesc pair 0x63 (fun d h =>
    if bufLen h.desc < 256 then d.complete pair h.id 4 20
    else if d.secAhead 5 then d
    else
      let nonce := wordsBytes ((List.range 8).map (fun i => h.desc.word (6 + i)))
      (d.writeBuf h.desc (d.attest nonce)).complete pair h.id 0 0 [208]))

/-! ## The root and the key transport key (R281 to R293) -/

/-- The registers that show the battery domain (R312, R313). -/
def Dev.showBat (d : Dev) (b : Bat) : Dev :=
  let v := b.root.isSome
  let k := match b.root with | some r => kcv (kdf r "NVD-KCV" [] 256) | none => List.replicate 8 0
  let t := match b.ktk with | some x => kcv x | none => List.replicate 8 0
  let d1 := ((d.wrb F.SEC_STS_ROOT_VALID 0 v).wrb F.SEC_STS_TAMPER_LATCH 0 b.latch).wrb F.SEC_STS_KTK_VALID 0 b.ktk.isSome
  let d2 := ((d1.wrb F.SEC_STS_VBAT_LOW 0 (decide (b.vbat < 220))).wr F.SEC_MON_STS_VBAT 0 b.vbat).setWord 0x40070 b.cfg
  let d3 := ((d2.setWord 0x40008 (getLe k 0 4)).setWord 0x4000C (getLe k 4 4)).setWord 0x40024 (getLe t 0 4)
  let d4 := (d3.setWord 0x40028 (getLe t 4 4)).wr F.SEC_TAMPER_STS_SOURCE 0 b.source
  (d4.wr F.SEC_TAMPER_STS 0 b.count).setWord 0x40078 b.time

/-- Show the battery domain, as it now is. -/
def State.show_ (s : State) : State := { s with dev := s.dev.showBat s.bat }

/-- The derivation engine forms K_dev from the root (R281). -/
def Dev.seed (d : Dev) (root : Option (List Byte)) : Dev :=
  { d with sec := { d.sec with kdev := root.map (fun r => deviceKey r d.sec.dBoot), cache := [] } }

/-- A new root is taken: the key registers are loaded again. -/
def State.takeRoot (s : State) (r : List Byte) : State :=
  ({ s with bat := { s.bat with root := some r }, dev := s.dev.seed (some r) } : State).show_

/-- A refused write of SEC_ROOT_CTL or SEC_KTK_CTL. -/
def Dev.rootRefused (d : Dev) : Dev := d.bump F.SEC_ROOT_REFUSED

/-- The main supplies are present. -/
def Dev.powered (d : Dev) : Bool := decide (d.glb.phase ≠ .unpowered)

/-- A zeroisation (R288, R289): 1 to 4 inputs, 5 mesh, 6 temperature, 7 core voltage, 8 battery, 9 root clock, 10 host. -/
def State.zeroise (s : State) (source : Nat) : State :=
  let was := s.bat.latch
  let d := s.dev
  let b := { s.bat with root := none, ktk := none, latch := true, source := source, count := min 4095 (s.bat.count + 1)
                        time := d.tim.rtcNs / 1000000000 % 2 ^ 32, owed := s.bat.owed || (!was && !d.powered) }
  if !d.powered then { s with bat := b }
  else
    let d1 : Dev := { d with sec := { d.sec with kdev := none, cache := [], clone := .idle, code := [0, 0, 0, 0], codeAt := none, peerNonce := none } }
    let s1 := ({ s with bat := b, dev := d1.wr F.SEC_STS_CLONE 0 0 } : State).show_
    if was then s1
    else
      let x := s1.dev
      let sd := fun k => (Config.sourceData x.freeCtr k).toNat
      let x1 := x.recordPost 5 0x0F40 3 4 0 source (sd 4) (sd 5) (sd 6)
      { s1 with dev := x1.fault 0x0F40 4 3 source true }

/-- The clone code is void (R284). -/
def Dev.codeVoid (d : Dev) : Dev :=
  let d1 : Dev := { d with sec := { d.sec with code := [0, 0, 0, 0], codeAt := none, codeFails := 0 } }
  if d1.rd F.SEC_STS_CLONE = 1 then d1.wr F.SEC_STS_CLONE 0 0 else d1

/-- The key that wraps the root on the pair link (R284). -/
def Dev.cloneKey (d : Dev) (nonce : List Byte) (sending : Bool) : List Byte :=
  let own := beBytes 8 (Config.serial 0).toNat
  let peer := beBytes 8 d.par.peerSerial
  kdf (wordsBytes (d.sec.code.map BitVec.toNat)) "NVD-CLONE" ((if sending then own ++ peer else peer ++ own) ++ nonce) 256

/-- The sender answers the receiver's nonce with the wrapped root; the code is then void. -/
def State.cloneSend (s : State) (nonce : List Byte) : State :=
  match s.bat.root with
  | none => s
  | some r =>
    let d := s.dev.pairSend s.dev.openCycle (.cloneRoot (kwWrap (s.dev.cloneKey nonce true) r))
    let d1 : Dev := { d with sec := { d.sec with clone := .idle, peerNonce := none } }
    { s with dev := d1.codeVoid.wr F.SEC_STS_CLONE 0 4 }

/-- A write to SEC_ROOT_CTL (R283, R312). -/
def State.rootCtl (s : State) (v : Nat) : State :=
  let d := s.dev
  let op := F.SEC_ROOT_CTL_OP.get v
  let valid := s.bat.root.isSome
  if !d.live ∨ op = 0 ∨ 4 < op then s
  else if F.SEC_ROOT_CTL_KEY.get v ≠ 0x5EC0 then { s with dev := d.rootRefused }
  else if op = 4 then s.zeroise 10
  else if op = 1 then
    if !valid && d.on F.SEC_STS_TRNG_OK then
      let f := d.fresh
      ({ s with dev := f.2 } : State).takeRoot (beBytes 32 (Config.random f.1).toNat)
    else { s with dev := d.rootRefused }
  else if d.grade ≠ .x ∨ (op = 2 ∧ !valid) ∨ (op = 3 ∧ valid) then { s with dev := d.rootRefused }
  else if d.sec.codeAt.isNone then { s with dev := (d.wr F.SEC_STS_CLONE 0 5) }
  else if op = 2 then
    match d.sec.peerNonce with
    | some n => s.cloneSend n
    | none => { s with dev := ({ d with sec := { d.sec with clone := .sending } } : Dev).wr F.SEC_STS_CLONE 0 2 }
  else
    let f := d.fresh
    let n := beBytes 16 ((Config.random f.1).toNat % 2 ^ 128)
    let d1 : Dev := { f.2 with sec := { f.2.sec with clone := .receiving n } }
    { s with dev := (d1.wr F.SEC_STS_CLONE 0 3).pairSend d1.openCycle (.cloneNonce n) }

/-- ROOT_GENERATE (R283). -/
def execRootGenerate (val : Word) (s : State) : Host.Outcome State Fault Refusal := .next (s.rootCtl val.toNat)

/-- ROOT_CLONE_SEND (R284). -/
def execRootCloneSend (val : Word) (s : State) : Host.Outcome State Fault Refusal := .next (s.rootCtl val.toNat)

/-- ROOT_CLONE_RECV (R284). -/
def execRootCloneRecv (val : Word) (s : State) : Host.Outcome State Fault Refusal := .next (s.rootCtl val.toNat)

/-- ROOT_ZEROISE (R283). -/
def execRootZeroise (val : Word) (s : State) : Host.Outcome State Fault Refusal := .next (s.rootCtl val.toNat)

/-- A CLONE frame arrives (R284). -/
def State.cloneRx (s : State) (b : PairBody) : State :=
  let d := s.dev
  if !d.live || !d.pairUp then s
  else match b, d.sec.clone with
    | .cloneNonce n, .sending => s.cloneSend n
    | .cloneNonce n, .idle => { s with dev := { d with sec := { d.sec with peerNonce := some n } } }
    | .cloneRoot w, .receiving n =>
      (match kwUnwrap (d.cloneKey n false) w with
       | some r =>
         let d1 : Dev := { d with sec := { d.sec with clone := .idle } }
         ({ s with dev := d1.codeVoid.wr F.SEC_STS_CLONE 0 4 } : State).takeRoot r
       | none =>
         let d1 := ({ d with sec := { d.sec with clone := .idle, codeFails := d.sec.codeFails + 1 } } : Dev).bump F.SEC_CLONE_FAIL
         let d2 := if 3 ≤ d1.sec.codeFails then d1.codeVoid else d1
         { s with dev := d2.wr F.SEC_STS_CLONE 0 5 })
    | _, _ => s

/-- CLONE_FRAME_RX (R284). -/
def execCloneFrameRx (body : PairBody) (s : State) : Host.Outcome State Fault Refusal := .next (s.cloneRx body)

/-- CLONE_CODE_WRITE (R284): four bytes of the code; its 600 s run from the latest write. -/
def execCloneCodeWrite (n : Fin 4) (val : Word) (s : State) : Host.Outcome State Fault Refusal :=
  s.go (fun d =>
    if d.live then
      let d1 : Dev := { d with sec := { d.sec with code := d.sec.code.set n val, codeAt := some d.tim.mono, codeFails := 0 } }
      if d1.sec.clone = .idle then d1.wr F.SEC_STS_CLONE 0 1 else d1
    else d)

/-- CLONE_CODE_VOID (R284): 600 s after it was written. -/
def execCloneCodeVoid (s : State) : Host.Outcome State Fault Refusal :=
  s.go (fun d => match d.sec.codeAt with
    | some t => if d.live then (d.toMono (t + 300000000000)).codeVoid else d
    | none => d)

/-- The bytes of the data words. -/
def Dev.ktkBytes (d : Dev) (n : Nat) : List Byte := wordsBytes ((d.sec.ktkData.take n).map BitVec.toNat)

/-- A write to SEC_KTK_CTL (R293): after an operation the data words read 0. -/
def State.ktkCtl (s : State) (v : Nat) : State :=
  let d := s.dev
  let op := F.SEC_KTK_CTL_OP.get v
  let wiped : Dev := { d with sec := { d.sec with ktkData := List.replicate 10 0 } }
  if !d.live ∨ op = 0 then s
  else if F.SEC_KTK_CTL_KEY.get v ≠ 0x5EC0 then { s with dev := d.rootRefused }
  else match op with
    | 1 => if d.rd F.GLB_CFG_LOCK_LOCK = 0 ∧ s.bat.ktk.isNone then
        ({ s with bat := { s.bat with ktk := some (d.ktkBytes 8) }, dev := wiped } : State).show_ else { s with dev := d.rootRefused }
    | 2 => (match s.bat.ktk with
      | some k => ({ s with bat := { s.bat with ktk := some ((kwUnwrap k (d.ktkBytes 10)).getD k) }, dev := wiped } : State).show_
      | none => { s with dev := d.rootRefused })
    | _ => ({ s with bat := { s.bat with ktk := none }, dev := wiped } : State).show_

/-- KTK_CLEAR_LOAD (R293). -/
def execKtkClearLoad (val : Word) (s : State) : Host.Outcome State Fault Refusal := .next (s.ktkCtl val.toNat)

/-- KTK_WRAPPED_LOAD (R293). -/
def execKtkWrappedLoad (val : Word) (s : State) : Host.Outcome State Fault Refusal := .next (s.ktkCtl val.toNat)

/-- KTK_ERASE (R293). -/
def execKtkErase (val : Word) (s : State) : Host.Outcome State Fault Refusal := .next (s.ktkCtl val.toNat)

/-! ## Tamper (R286 to R290) -/

/-- TAMPER_LATCH_CLEAR (R290): a W1C write, ignored while no root is held. -/
def execTamperLatchClear (val : Word) (s : State) : Host.Outcome State Fault Refusal :=
  if s.dev.live ∧ F.SEC_STS_TAMPER_LATCH.get val.toNat = 1 ∧ s.bat.root.isSome then
    .next ({ s with bat := { s.bat with latch := false } } : State).show_
  else .next s

/-- TAMPER_INPUT_TRIP (R286): an armed input. -/
def execTamperInputTrip (n : Fin 4) (s : State) : Host.Outcome State Fault Refusal :=
  .next (if bitAt s.bat.cfg n then s.zeroise (n + 1) else s)

/-- TAMPER_MESH_TRIP (R286): the armed mesh. -/
def execTamperMeshTrip (s : State) : Host.Outcome State Fault Refusal := .next (if bitAt s.bat.cfg 4 then s.zeroise 5 else s)

/-- TAMPER_TEMP_TRIP (R286): the die temperature, °C. -/
def execTamperTempTrip (temp : Int) (s : State) : Host.Outcome State Fault Refusal :=
  .next (
    let d := s.dev
    let d1 := (d.setTemp temp).wr F.SEC_MON_STS_TEMP 0 (unsigned 8 (clampInt (-128) 127 temp))
    if temp < -55 ∨ 140 < temp then ({ s with dev := d1 } : State).zeroise 6 else { s with dev := d1 })

/-- TAMPER_VOLTAGE_TRIP (R287): VDD_CORE and VDD_SRAM in mV, while the monitor is armed. -/
def execTamperVoltageTrip (core sram : Nat) (s : State) : Host.Outcome State Fault Refusal :=
  .next (if s.dev.sec.armed && (core < 700 || 920 < core || sram < 750 || 970 < sram) then s.zeroise 7 else s)

/-- TAMPER_BATTERY_TRIP (R282): VBAT, in 10 mV units. -/
def execTamperBatteryTrip (vbat : Nat) (s : State) : Host.Outcome State Fault Refusal :=
  .next (
    let s1 : State := { s with bat := { s.bat with vbat := vbat } }
    if s1.dev.powered then s1.show_ else if vbat < 190 then s1.zeroise 8 else s1)

/-- ROOT_OK (R33) follows the clock monitor's window, and a fall sets LOSS_SEEN. -/
def Dev.rootClock (d : Dev) (ok : Bool) : Dev :=
  (if d.on F.GLB_CLK_STS_ROOT_OK && !ok then d.wrb F.GLB_CLK_STS_LOSS_SEEN 0 true else d).wrb F.GLB_CLK_STS_ROOT_OK 0 ok

/-- TAMPER_ROOT_CLOCK_TRIP (R286): the root clock in kHz, 0 when absent; ROOT_OK follows it (R33), and while the monitor is armed a clock
outside the window zeroises. -/
def execTamperRootClockTrip (khz : Nat) (s : State) : Host.Outcome State Fault Refusal :=
  let out := decide (khz < 22500 ∨ 27500 < khz)
  let s1 : State := if s.dev.powered then { s with dev := s.dev.rootClock (!out) } else s
  .next (if s.dev.sec.armed && out then s1.zeroise 9 else s1)

/-- AUTH_RATE_WINDOW (R304): the 60 s window on the monotonic count ends. -/
def execAuthRateWindow (s : State) : Host.Outcome State Fault Refusal :=
  s.go (fun d =>
    if !d.live then d
    else
      let d1 := d.toMono (d.sec.winStart + 30000000000)
      let n := d1.sec.winFails
      let d2 : Dev := { d1 with sec := { d1.sec with winFails := 0, winStart := d1.sec.winStart + 30000000000 } }
      let due := match d2.sec.rateAt with | none => true | some t => decide (t + 3600 ≤ d2.evr.optime)
      if decide (d2.rd F.SEC_AUTH_CFG_RATE_ALARM ≤ n) && due then
        ({ d2 with sec := { d2.sec with rateAt := some d2.evr.optime } } : Dev).recordPost 5 0x0402 1 4 0 0 n
      else d2)

end Sys2Proof.Machine
end

