-- ==== Sys2Proof/Machine/Tariff.lean ====
section
/-! DEFINITION. Sys2Proof/Machine/Tariff.lean: the TARIFF descriptors, and the commands of the Weigh-in partition (R394 to R421). -/

namespace Sys2Proof.Machine

/-! ## Descriptors (R402 to R406, R414) -/

/-- TARIFF_LOAD of a table whose buffer was read (R402, R403). -/
def Dev.tariffLoad (d : Dev) (p : Nat) (h : Held) (bs : List Byte) : Dev :=
  match TarTable.parse bs with
  | .error o => d.complete p h.id 4 o
  | .ok t =>
    let g := tGrp h.desc
    let x : GrpTar := { d.grpTar g with staged := none, actAt := none }
    let slots := (d.setGrpTar g x).slotTables
    if !slots.contains t && 96 ≤ slots.length then d.complete p h.id 8 0
    else
      let x' : GrpTar := { x with staged := some t }
      let d1 := ((d.markStarted p h.id).setGrpTar g x').journal (.loaded g t.image) none none
      ({ d1 with tar := { d1.tar with loads := d1.tar.loads ++ [{ pair := p, id := h.id, seq := d1.tar.jseq, crc := crc32 t.image }] } } : Dev).offer 14
        ⟨7, 2208, .media 0 (.tables g x' (some (p, h.id)))⟩

/-- TARIFF_LOAD (R402). -/
def execTariffLoad (pair : Fin 64) (buf : HostRead) (s : State) : Host.Outcome State Fault Refusal :=
  s.go (fun d => d.onDesc pair 0x40 (fun d h =>
    if bufLen h.desc < 2240 then d.complete pair h.id 4 20
    else match buf with
      | .abort e => (d.emit (.aer e)).complete pair h.id 5 0
      | .data bs => d.tariffLoad pair h (padTo (bufLen h.desc) (bs.take (bufLen h.desc)))))

/-- TARIFF_ACTIVATE (R406): the instant is not earlier than the time of execution (R104); it is journalled, so that a restart and the bow
keep it (R418; DEDUCED, log 137). -/
def execTariffActivate (pair : Fin 64) (s : State) : Host.Outcome State Fault Refusal :=
  s.go (fun d => d.onDesc pair 0x41 (fun d h =>
    let x := d.grpTar (tGrp h.desc)
    if x.staged.isNone then d.complete pair h.id 4 12
    else
      let g := tGrp h.desc
      let at_ := max d.nowNs (h.desc.quad 3)
      let x' : GrpTar := { x with actAt := some at_ }
      let d1 := ((d.setGrpTar g x').journal (.armed g at_) none none).offer 14 ⟨7, 2208, .media 0 (.tables g x' none)⟩
      d1.complete pair h.id 0 0))

/-- TARIFF_GET (R403): the table in force, then the staged one; whole tables that fit. -/
def execTariffGet (pair : Fin 64) (s : State) : Host.Outcome State Fault Refusal :=
  s.go (fun d => d.onDesc pair 0x42 (fun d h =>
    let x := d.grpTar (tGrp h.desc)
    let ts := (x.table :: x.staged.toList).take (bufLen h.desc / 2208)
    let bs := ts.flatMap TarTable.image
    (if bs.isEmpty then d else d.writeBuf h.desc bs).complete pair h.id 0 0 [bs.length]))

/-- TIME_CONFIRM (R414). -/
def execTimeConfirm (pair : Fin 64) (s : State) : Host.Outcome State Fault Refusal :=
  s.go (fun d => d.onDesc pair 0x43 (fun d h =>
    let v := signed 64 (h.desc.quad 3)
    if d.tar.stepPend ≠ 0 ∧ (v - d.tar.stepPend).natAbs ≤ 1000000000 then
      let d1 : Dev := { d with tar := { d.tar with stepPend := 0 } }
      (d1.complete pair h.id 0 0).timeCheck
    else d.complete pair h.id 4 12))

/-! ## The Weigh-in core (R407, R410, R415 to R418) -/

/-- The Weigh-in core of the stroke works. -/
def Dev.tarWorks (d : Dev) : Bool := d.serves && d.glb.tarRuns

/-- BOOKING (R407): the entry at the head of the booking queue, while the check value stands and a journal half is open (R41, R398). -/
def execBooking (s : State) : Host.Outcome State Fault Refusal :=
  s.go (fun d =>
    if d.tarWorks && d.tar.checkOk && !d.journalFull then
      match d.laneHead 10 with
      | some (n, ⟨_, _, .booking b⟩) => ((d.laneDrop 10 n).book b).ctxTry
      | _ => d
    else d)

/-- TARIFF_ACTIVATION (R406, R415): at its instant, under valid time. -/
def execTariffActivation (grp : Fin 4096) (s : State) : Host.Outcome State Fault Refusal :=
  s.go (fun d =>
    match (d.grpTar grp).actAt with
    | some t => if d.tarWorks && d.timeValid then (d.toNs t).activate grp else d
    | none => d)

/-- DEMAND_BOUNDARY (R417): the next boundary of demand intervals of a length in minutes that divides 60. -/
def execDemandBoundary (minutes : Nat) (s : State) : Host.Outcome State Fault Refusal :=
  if !demandOk minutes then .fault (.illFormedCommand "DEMAND_BOUNDARY")
  else s.go (fun d =>
    if d.tarWorks then
      let l := minutes * 60000000000
      let d1 := d.toNs (ceilDiv d.nowNs l * l)
      d1.journal (.marker (d1.nowNs / l * (minutes * 60))) none none
    else d)

/-- A close instant (R410): an activation that is due goes first (R417), then the sweep starts. -/
def Dev.closeInstant (d : Dev) (g : Nat) : Dev :=
  if !(d.tarWorks && d.timeValid) || (d.sweepOf g).isSome then d
  else
    let d0 := if d.actDue g then d.activate g else d
    match (d0.grpTar g).closeDue with
    | none => d0
    | some i =>
      let d1 := d0.toNs (i * 1000000000)
      let d2 := if d1.actDue g then d1.activate g else d1
      match (d2.grpTar g).closeDue with
      | some j => if j = i then (d2.setGrpTar g { d2.grpTar g with lastClose := i }).startSweep g i else d2
      | none => d2

/-- CLOSE_INSTANT (R410). -/
def execCloseInstant (grp : Fin 4096) (s : State) : Host.Outcome State Fault Refusal := s.go (fun d => d.closeInstant grp)

/-- CLOSE_SWEEP_END (R410). -/
def execCloseSweepEnd (grp : Fin 4096) (s : State) : Host.Outcome State Fault Refusal :=
  s.go (fun d => match d.sweepOf grp with
    | some w => if d.tarWorks then d.endSweep w else d
    | none => d)

/-! ## Display and check value (R398, R400, R401) -/

/-- The frame without its CRC: 56 bits. -/
def Dev.dspBody (d : Dev) : Nat :=
  let data := if d.tar.dspType = 1 then beNat (slice d.tar.check 0 4) else d.nowS
  let dflt := match d.tar.defaultAt with | some t => decide (d.nowS ≤ t + 86400) | none => false
  let flags := b2n d.tar.checkOk + 2 * b2n d.timeValid + 4 * b2n dflt + 8 * b2n (d.tar.ext.any (fun e => e.2.st = 1 && e.2.tamper ≠ 0))
    + 16 * b2n (!d.tar.sweeps.isEmpty)
  0xB7 * 2 ^ 48 + d.tar.dspType * 2 ^ 44 + (d.tar.dspSeq % 16) * 2 ^ 40 + data * 2 ^ 8 + flags

/-- DISPLAY_FRAME (R400): every PERIOD seconds; types 1 and 2 alternate. -/
def execDisplayFrame (s : State) : Host.Outcome State Fault Refusal :=
  s.go (fun d =>
    if d.live && d.glb.tarRuns then
      let d1 := d.toMono d.tar.dspDue
      let b := d1.dspBody
      let d2 := d1.emit (.display (BitVec.ofNat 64 (b * 256 + crc8 (beBytes 7 b))))
      { d2 with tar := { d2.tar with dspSeq := (d2.tar.dspSeq + 1) % 16, dspType := 3 - d2.tar.dspType
                                     dspDue := d2.tim.mono + d2.rd F.TAR_DSP_CFG_PERIOD * 500000000 } }
    else d)

/-- BAR4_WRITE (R56): discarded and counted, wherever in BAR4 it goes. -/
def execBar4Write (_off : BitVec 20) (_val : Word) (s : State) : Host.Outcome State Fault Refusal :=
  s.go (fun d => if d.live then d.bump F.TAR_BAR4_WR else d)

/-- CHECK_VALUE_RECOMPUTE (R398): the digest of the firmware region as it now is. A stroke whose
partner is healthy yields where the check fails (R544). The work waits for all other work of the Security engine,
for 60 s at most (R636). -/
def execCheckValueRecompute (digest : BitVec 256) (s : State) : Host.Outcome State Fault Refusal :=
  s.go (fun d =>
    if d.live then
      let due := d.tar.checkFrom + 1800000000000
      let d1 := d.toMono due
      if d1.secAhead 5 && decide (d1.tim.mono < due + 30000000000) then d1
      else
      let d2 : Dev := { d1 with tar := { d1.tar with checkFrom := d1.tim.mono } }
      if beBytes 32 digest.toNat ≠ d2.tar.check ∧ d2.tar.checkOk then
        let d3 := (({ d2 with tar := { d2.tar with checkOk := false } } : Dev).wrb F.TAR_STS_CHECK_OK 0 false).fault 0x0F19 0xB 3 0
        if d3.par.en && decide (d3.par.role = .stroke) && d3.par.claim && decide (d3.par.health % 128 = 127) then d3.yieldClaim.dropDescs else d3
      else d2
    else d)

/-! ## BAR4 (R55, R394 to R396) -/

/-- Meters with a tamper bit set, as the mirror shows them. -/
def Dev.tamperMeters (d : Dev) (b : Nat) : Nat := (d.tar.eff.filter (fun e => e.2.st = 1 && bitAt e.2.tamper b)).length

/-- A 32-bit word of the fixed area (R394), by word index. -/
def Dev.bar4Fixed (d : Dev) (w : Nat) : Nat :=
  if 0x400 ≤ w ∧ w < 0x1400 then (d.grpTar (w - 0x400)).closeAt
  else if 0x1400 ≤ w ∧ w < 0x3400 then
    let g := d.grpTar ((w - 0x1400) / 2)
    if w % 2 = 0 then g.table.version + 65536 * (match g.staged with | some t => t.version | none => 0xFFFF)
    else (match g.actAt with | some t => t / 1000000000 % 2 ^ 32 | none => 0)
  else match w with
    | 0 => 0x4E494757
    | 1 => 1
    | 2 => d.tar.fwUpdates
    | 12 => d.timeSts
    | 14 => unsigned 64 d.tar.stepPend % 2 ^ 32
    | 15 => unsigned 64 d.tar.stepPend / 2 ^ 32
    | 16 => d.tar.defaultBooked % 2 ^ 32
    | 17 => d.tar.defaultBooked / 2 ^ 32
    | 18 => d.word 0xB0004
    | 19 => d.rd F.TAR_BAR4_WR
    | 20 => d.tamperMeters 0
    | 21 => d.tamperMeters 1
    | 22 => d.tamperMeters 2
    | k => if 4 ≤ k ∧ k < 12 then getLe d.tar.check (4 * (k - 4)) 4 else 0

/-- A record of the aperture (R395): entry `i` of the window. -/
def Dev.bar4Entry (d : Dev) (i : Nat) : List Byte :=
  let base := d.rd F.TAR_MIRROR_SEL_BASE
  match d.rd F.TAR_MIRROR_SEL_VIEW with
  | 0 => (match d.tar.eff.find (base + i) with | some e => e.image (base + i) | none => [])
  | 1 => (match d.tar.closedRec.find (base + i) with | some e => e.image (base + i) | none => [])
  | _ => if base + i ≤ 4095 then (d.grpTar (base + i)).table.image else []

/-- The bytes between two entries of the aperture (R395). -/
def Dev.bar4Stride (d : Dev) : Nat := if d.rd F.TAR_MIRROR_SEL_VIEW = 2 then 2560 else 128

/-- A read of an aligned 32-bit word of BAR4 (R55): the fixed area, then the aperture of 960 KiB, which holds 7,680 billing records or 384
tables; what no entry fills reads 0. -/
def Dev.bar4Word (d : Dev) (off : Nat) : Nat :=
  if off % 4 ≠ 0 ∨ 0x100000 ≤ off then 0
  else if off < 0x10000 then d.bar4Fixed (off / 4)
  else
    let a := off - 0x10000
    getLe (d.bar4Entry (a / d.bar4Stride)) (a % d.bar4Stride) 4

/-- A read of an aligned 64-bit value of BAR4 (R56): both words come from one version of the record that holds them. -/
def Dev.bar4Quad (d : Dev) (off : Nat) : Nat := d.bar4Word off + 2 ^ 32 * d.bar4Word (off + 4)

end Sys2Proof.Machine
end

