-- ==== Sys2Proof/Machine/PairOps.lean ====
section
/-! DEFINITION. Sys2Proof/Machine/PairOps.lean: the copy (R541, R546), the claim, takeover and planned swaps (R529 to R549). -/

namespace Sys2Proof.Machine

/-! ## What is copied (R541, R381) -/

/-- Milliseconds as CLK_FAB cycles. -/
def msC (n : Nat) : Nat := n * 500000

/-- Registers that each device keeps for itself: PAR_CFG with its SIDE (R533), PAR_DRILL_STS, and the calibration of R381. -/
def ownRegs : List Nat :=
  [0xE0000, 0xE001C, F.MET_CH_TRIM_COARSE.off, F.MET_CH_GAIN_GAIN.off, F.MET_CM_VFS_V_FS.off, F.MET_CM_IFS_I_FS.off, 0x92000]

/-- A field that software sets and the configuration store keeps. -/
def Fld.copied (f : Fld) : Bool := f.stored && (match f.acc with | .rw => true | .rwl => true | _ => false)

/-- The register is part of the configuration copy. -/
def regCopied (off : Nat) : Bool :=
  match findReg off with
  | some (r, _) => r.flds.any Fld.copied && !ownRegs.contains r.off
  | none => false

/-- The copied fields of a register take a new word. -/
def copyWord (r : RegDef) (cur new : Nat) : Nat :=
  sumNat (r.flds.map (fun f => bitsOf (if f.copied then new else cur) f.lo f.len * 2 ^ f.lo))

/-- What the stroke copies, as it stands. -/
def Dev.copied (d : Dev) : Copied :=
  { imports := d.sec.imports, shadows := d.sec.shadows, pols := d.sch.grps.mapVals (fun _ g => (g.pol, g.loads)), meters := d.ldg.meters
    nodes := d.ldg.nodes, entries := d.sch.entries, cals := d.cals, regs := d.regs.keep (fun off _ => regCopied off), fds := d.fl.fds, camps := d.img.camps
    images := d.img.slots, joins := d.ctx.joins.mapVals (fun _ j => (j.1, j.2.2)), shortLast := d.ctx.shortLast }

/-- What differs between two tables: new values, and keys that are gone. -/
def tabDiff {α : Type} [DecidableEq α] (old new : Tab α) : List (Nat × Option α) :=
  (new.filter (fun e => decide (old.find e.1 ≠ some e.2))).map (fun e => (e.1, some e.2))
    ++ (old.filter (fun e => (new.find e.1).isNone)).map (fun e => (e.1, none))

/-- Log entries that a meter's log has grown by. -/
def grownBy (old : Option LdgMeter) (x : LdgMeter) : List LogEnt :=
  let top := match old with | some o => (match o.log.head? with | some e => e.seq + 1 | none => 0) | none => 0
  x.log.filter (fun e => top ≤ e.seq)

/-- The records by which two states of the copied parts differ. -/
def Copied.diff (a b : Copied) : List DeltaRec :=
  (tabDiff a.imports b.imports).map (fun e => .imported e.1 e.2)
    ++ (tabDiff a.shadows b.shadows).map (fun e => .shadow e.1 e.2)
    ++ (tabDiff a.pols b.pols).map (fun e => .policy e.1 ((e.2.map (·.1)).getD {}) ((e.2.map (·.2)).getD 0))
    ++ (tabDiff a.joins b.joins).map (fun e => .join e.1 e.2)
    ++ (tabDiff a.shortLast b.shortLast).map (fun e => .shortLast e.1 (e.2.getD 0))
    ++ (tabDiff a.meters b.meters).map (fun e => .ledger e.1 e.2
        (match e.2 with | some x => sumNat ((grownBy (a.meters.find e.1) x).map (fun l => l.bytes.length)) | none => 0))
    ++ (tabDiff a.nodes b.nodes).map (fun e => .node e.1 e.2)
    ++ (tabDiff a.entries b.entries).map (fun e => .entry e.1 e.2)
    ++ (tabDiff a.cals b.cals).map (fun e => .cal e.1 e.2)
    ++ (tabDiff a.regs b.regs).map (fun e => .reg e.1 e.2)
    ++ (tabDiff a.fds b.fds).map (fun e => .fieldDev e.1 e.2)
    ++ (tabDiff a.camps b.camps).map (fun e => .camp e.1 e.2)
    ++ (tabDiff a.images b.images).map (fun e => .image e.1 e.2)

/-- Contexts that changed in the open cycle (R131). -/
def Dev.ctxChanges (d : Dev) : List (Nat × Option Ctx) := d.ctx.dirty.keys.map (fun m => (m, d.ctxAt m))

/-- A configuration register of a block whose settings have the same format on both devices (R599); every other record. -/
def Dev.sameFmt (d : Dev) (r : DeltaRec) : Bool :=
  match r with
  | .reg off _ => decide (d.upd.cfgFmt.getD (off / 65536) 0 = d.par.peer.cfgFmt.getD (off / 65536) 0)
  | _ => true

/-- The delta of the open cycle (R541); blocks of another format are left out (R599). -/
def Dev.delta (d : Dev) : List DeltaRec := d.ctxChanges.map (fun c => .ctx c.1 c.2) ++ (d.par.base.diff d.copied).filter d.sameFmt

/-- The full state that a catch-up transfers (R546). -/
def Dev.fullState (d : Dev) : List DeltaRec :=
  d.ctx.tab.map (fun c => .ctx c.1 (some c.2)) ++ d.tar.ext.map (fun e => .ext e.1 e.2) ++ d.tar.closedRec.map (fun e => .closed e.1 e.2)
    ++ d.tar.grps.map (fun g => .tables g.1 g.2) ++ (({} : Copied).diff d.copied).filter d.sameFmt

/-- Records in frames of at most 4,096 B of body (R536); a longer record has a frame of its own. -/
def packRecs : Nat → List DeltaRec → List DeltaRec → List (List DeltaRec)
  | _, acc, [] => if acc.isEmpty then [] else [acc.reverse]
  | used, acc, r :: t =>
    if acc.isEmpty || used + deltaLen r ≤ 4096 then packRecs (used + deltaLen r) (r :: acc) t
    else acc.reverse :: packRecs (deltaLen r) [r] t

/-- A table entry that is set or gone. -/
def setTab {α : Type} (t : Tab α) (k : Nat) (v : Option α) : Tab α := match v with | some x => t.put k x | none => t.del k

/-- The short-address maps (R117) hold a context's own short address. -/
def shortsWith (t : Tab (Tab Nat)) (m : Nat) (c : Ctx) : Tab (Tab Nat) :=
  let t1 := t.mapVals (fun _ s => s.filter (fun e => e.2 ≠ m))
  if c.short ≠ 0 && (c.attach = 1 || c.attach = 2) then t1.put (c.attach - 1) (Tab.put (t1.getD (c.attach - 1) []) c.short m) else t1

/-- An entry from a copy: its due instants on this device's monotonic count. -/
def Dev.ownEntry (d : Dev) (e : Entry) : Entry :=
  let due := (d.tim.mono + e.at_ / 2) - d.nowNs / 2
  { e with due := due, asked := due - (e.due - e.asked) }

/-- The bow applies one record to its own copy (R542). -/
def Dev.applyRec (d : Dev) (r : DeltaRec) : Dev :=
  match r with
  | .ctx m (some c) =>
    let keep := d.ctx.index.any (fun e => e.mix = m && e.kind = c.kind && e.addr = c.addr)
    let ix := if keep then d.ctx.index else d.withKey [] (d.ctx.index.filter (fun e => e.mix ≠ m)) c.kind c.addr m
    { d with ctx := { d.ctx with tab := d.ctx.tab.put m c, index := ix, shorts := shortsWith d.ctx.shorts m c } }
  | .ctx m none =>
    let x := d.freeCtx m
    { x with ctx := { x.ctx with dirty := x.ctx.dirty.del m } }
  | .ext m e =>
    if (match d.ext m with | some o => decide (e.jseq < o.jseq) | none => false) then d
    else { d with tar := { d.tar with ext := d.tar.ext.put m e, eff := d.tar.eff.put m e, jseq := max d.tar.jseq e.jseq } }
  | .closed m e => { d with tar := { d.tar with closedRec := d.tar.closedRec.put m e, jseq := max d.tar.jseq e.jseq } }
  | .imported m i => { d with sec := { d.sec with imports := setTab d.sec.imports m i } }
  | .shadow m s => { d with sec := { d.sec with shadows := setTab d.sec.shadows m s } }
  | .policy g p n => { d with sch := { d.sch with grps := d.sch.grps.put g { d.sch.grps.getD g {} with pol := p, loads := n } } }
  | .join m x => { d with ctx := { d.ctx with joins := setTab d.ctx.joins m (x.map (fun j => (j.1, d.tim.mono, j.2))) } }
  | .shortLast p a => { d with ctx := { d.ctx with shortLast := if a = 0 then d.ctx.shortLast.del p else d.ctx.shortLast.put p a } }
  | .tables g t => d.setGrpTar g t
  | .ledger m x _ => { d with ldg := { d.ldg with meters := setTab d.ldg.meters m x } }
  | .node n x => { d with ldg := { d.ldg with nodes := setTab d.ldg.nodes n x } }
  | .entry m x => { d with sch := { d.sch with entries := setTab d.sch.entries m (x.map d.ownEntry) } }
  | .cal m x => { d with cals := setTab d.cals m x }
  | .reg off w =>
    (match findReg off with
     | some (r, _) =>
       if regCopied off then
         (d.setWord off (copyWord r (d.word off) (match w with | some v => v.toNat | none => resetVal d.grade off))).touch off
       else d
     | none => d)
  | .fieldDev x v => { d with fl := { d.fl with fds := setTab d.fl.fds x v } }
  | .camp g x => { d with img := { d.img with camps := setTab d.img.camps g x } }
  | .image n x => { d with img := { d.img with slots := setTab d.img.slots n x } }

/-- The first frame of a catch-up takes the place of what the bow holds of the copied state (R546), but for billing: JMIR entries may have
come ahead of it. -/
def Dev.catchupClear (d : Dev) : Dev :=
  if d.par.stale.isSome then d
  else
    let keep := fun (off : Nat) (_ : Word) => !(regCopied off && d.sameFmt (.reg off none))
    { d with
      par := { d.par with stale := some d.ctx.tab.keys }
      ctx := { d.ctx with tab := [], index := [], shorts := [], joins := [], shortLast := [] }
      sec := { d.sec with imports := [], shadows := [] }
      sch := { d.sch with grps := [], entries := [] }
      ldg := { d.ldg with meters := [], nodes := [] }
      cals := [], regs := d.regs.keep keep
      fl := { d.fl with fds := [] }, img := { d.img with camps := [], slots := [] } }

/-- Its last frame: nothing is left of meters that the stroke does not hold. -/
def Dev.catchupEnd (d : Dev) : Dev :=
  let gone := (d.par.stale.getD []).filter (fun m => (d.ctx.tab.find m).isNone)
  let d1 := gone.foldl Dev.forget d
  let cut := fun (t : Tab Ext) => t.filter (fun e => !gone.contains e.1)
  { d1 with
    par := { d1.par with stale := none }
    tar := { d1.tar with ext := cut d1.tar.ext, eff := cut d1.tar.eff, closedRec := cut d1.tar.closedRec } }

/-- The contexts among records. -/
def ctxRecs (rs : List DeltaRec) : List (Nat × Option Ctx) := rs.filterMap (fun r => match r with | .ctx m c => some (m, c) | _ => none)

/-- Context journal, import changes, policy loads and the other copies of a cycle go to NAND stream 1, log entries to stream 3 (R131, R330,
R504). -/
def Dev.journalCycle (d : Dev) (chg : List (Nat × Option Ctx)) (logs : List (Nat × LogEnt)) : Dev :=
  let d1 := if chg.isEmpty then d else d.offer 14 ⟨6, max 16 (256 * chg.length), .media 1 (.ctxJournal chg)⟩
  let d2 := logs.foldl (fun (x : Dev) l => x.offer 14 ⟨5, l.2.bytes.length, .media 3 (.log l.1 l.2.start l.2.bytes)⟩) d1
  let n := max 16 (sumNat ((d.par.base.diff d.copied).map deltaLen))
  if d.par.base = d.copied then d2 else d2.offer 14 ⟨6, n, .media 1 (.copies n d.copied)⟩

/-- Log entries that no cycle has handed to NAND yet, oldest first. -/
def Dev.newLogs (d : Dev) : List (Nat × LogEnt) :=
  d.ldg.meters.flatMap (fun e => ((grownBy (d.par.base.meters.find e.1) e.2).reverse).map (fun l => (e.1, l)))

/-- A delta is applied as one step (R542); the bow writes its own NAND from it (R43). -/
def Dev.applyDelta (d : Dev) (cycle : Nat) (rs : List DeltaRec) : Dev :=
  let d1 := rs.foldl Dev.applyRec d
  let d2 := d1.journalCycle (ctxRecs rs) d1.newLogs
  let d3 := if d2.tar.half.isEmpty then d2 else d2.closeHalf
  (({ d3 with par := { d3.par with cycle := max d3.par.cycle cycle, base := d3.copied } } : Dev)).pairSend cycle .ack

/-! ## Health (R540) -/

/-- ROOT_KCV. -/
def Dev.rootKcv (d : Dev) : Nat := d.rd F.SEC_ROOT_KCV_KCV 0 + 2 ^ 32 * d.rd F.SEC_ROOT_KCV_KCV 1

/-- Media is NORMAL or WARN. -/
def Dev.mediaFine (d : Dev) : Bool := decide (d.ftl.state ≤ 1)

/-- The health word as it stands. -/
def Dev.healthNow (d : Dev) : Nat :=
  let p := d.par.peer
  b2n (d.pairUp && !d.par.hbLost && d.par.lastHb.isSome) + 2 * b2n p.rootValid + 4 * b2n (decide (p.kcv = d.rootKcv))
    + 8 * b2n (if d.isBow then d.par.ready else p.ready) + 16 * b2n p.checkOk + 32 * b2n (!p.faultLatched) + 64 * b2n p.mediaOk
    + 128 * b2n (d.par.lanes.all id)

/-- The health word is formed again; a change posts one PAIR-class event 0x0E16 (R580). -/
def Dev.healthCheck (d : Dev) : Dev :=
  let n := d.healthNow
  if n = d.par.health then d
  else ({ d with par := { d.par with health := n } } : Dev).post 7 0x0E16 0 0xE 0 d.par.health n

/-- The partner is healthy (R540). -/
def Dev.peerHealthy (d : Dev) : Bool := decide (d.par.health % 128 = 127)

/-! ## The claim (R530, R531) -/

/-- The heartbeat period, CLK_FAB cycles. -/
def Dev.hbC (d : Dev) : Nat := msC (d.rd F.PAR_CFG_HB_MS)

/-- The filtered CLAIM_IN (R530). -/
def Dev.claimIn (d : Dev) : Bool := if d.par.claimInAt + 5000 ≤ d.tim.mono then d.par.claimInRaw else d.par.claimInOld

/-- The device sets its claim; with a pair its timer starts (R531, R532). -/
def Dev.setClaim (d : Dev) : Dev :=
  { d with par := { d.par with claim := true, claimExp := if d.par.en then some (d.tim.mono + 2 * d.hbC) else none } }

/-- A root is held. -/
def Dev.rootValid (d : Dev) : Bool := d.on F.SEC_STS_ROOT_VALID

/-- What a new bow may no longer send on an Ethernet port is discarded and counted there (R43; DESIGN CHOICE, log 111). -/
def Dev.bowEth (d : Dev) (p : Nat) : Dev :=
  let e := d.ep p
  let n := (e.wait.filter (fun t => t.cls ≠ 0)).length
  if n = 0 then d
  else
    ((d.setEp p { e with wait := e.wait.filter (fun t => t.cls = 0) }).ethCount p 15 n).wrb F.ETH_MGT_TX_CTL_BUSY p false

/-- A line port of a bow (R205, R238): no exchange, no meter polling, no wait of its governor; its settings are read as they stand. -/
def Dev.bowLine (d : Dev) (p : Nat) : Dev :=
  [F.LCP_MAC_TX, F.LCP_MAC_FAIL, F.LCP_RT_QUERY, F.LCP_GOV_TRUNC_TRUNC, F.LCP_GOV_TRUNC_WAIT].foldl (fun (x : Dev) f => x.wr f p 0)
    (d.updLp p (fun l => { l with polled := [], cfg := [], phDec := [] }))

/-- A radio port of a bow (R274): its calendar counters stay 0. -/
def Dev.bowRad (d : Dev) (n : Nat) : Dev :=
  [F.RAD_SLOT_MISS, F.RAD_SLOT_YIELD, F.RAD_SLOT_BUSY, F.RAD_RSYNC_ENTER, F.RAD_PARTNER_LOST].foldl (fun (x : Dev) f => x.wr f n 0) d

/-- The counters of work that a bow does not do stay 0 there (R314, R424, R457, R614). -/
def Dev.bowCounts (d : Dev) : Dev :=
  [F.SEC_KC_HIT, F.SEC_KC_MISS, F.SEC_DERIVE, F.SEC_REPLAY_RX, F.SEC_NOKEY_RX, F.SEC_AUTH_FAIL, F.SEC_UNSUP_RX, F.TAR_BOOKED, F.TAR_REFUSED,
   F.TIM_BCN_SENT, F.UPD_BLOCKS_SENT, F.UPD_PASSES].foldl (fun (x : Dev) f => x.wr f 0 0) d

/-- The device becomes bow: its claim is down, its descriptors are settled (R89), it is not READY (R546), its Ethernet ports send PTP alone
(R43) and none of them stays MASTER (R441). -/
def Dev.becomeBow (d : Dev) : Dev :=
  let d0 := ((List.range 4).foldl Dev.bowRad ((List.range 2).foldl Dev.bowLine d.dropClaim.dropDescs)).bowCounts
  let d1 := (List.range 4).foldl Dev.bowEth d0
  Dev.bmca { d1 with
    tim := { d1.tim with ppsPin := [false, false, false, false] }
    par := { d1.par with role := .bow, wasStroke := false, ready := false, solo := false, yielded := false, closing := none, staged := [], held := []
                         catchup := false, caughtAt := none } }

/-! ## Takeover (R545) -/

/-- The latest START of a restored log that was handed for booking, exclusive; without one, ADMIT_TIME inclusive (R407). -/
def Dev.spanFrom (d : Dev) (m : Nat) : Int :=
  let hs := ((d.ldgM m).log.filter LogEnt.handed).map (·.start)
  match hs with
  | [] => (match d.ctxAt m with | some c => (c.admitTime : Int) - 1 | none => -1)
  | h :: t => ((t.foldl max h : Nat) : Int)

/-- Protected spans after a restore or a takeover (R407). -/
def Dev.protect (d : Dev) : Dev :=
  { d with tar := { d.tar with spans := d.tar.ext.foldl (fun (t : Tab (Nat × Nat)) e =>
      let f := d.spanFrom e.1
      if e.2.st = 1 ∧ f < (e.2.lastBooked : Int) then t.put e.1 ((f + 1).toNat, e.2.lastBooked) else t.del e.1) [] } }

/-- NEXT_SLOT in the past moves on by whole periods (R270). -/
def Ctx.slotOn (c : Ctx) (now : Nat) : Ctx :=
  if c.nextSlot = 0 ∨ c.slotPeriod = 0 then c else { c with nextSlot := seriesNext c.nextSlot (c.slotPeriod * 1000000000) now }

/-- A meter whose copied context says that it is in meter polling on a line port is in it on this device (R215, R217; log 132). -/
def Dev.pollingKept (d : Dev) (m : Nat) (c : Ctx) : Dev :=
  if bitAt c.poll 1 && decide (1 ≤ c.attach ∧ c.attach ≤ 2) then
    d.updLp (c.attach - 1) (fun l => { l with polled := l.polled.put m (0, false) })
  else d

/-- Tone maps, slots, heat entries, key cache, calendars and field link at a takeover (R193, R166, R270, R307, R495). -/
def Dev.adopt (d : Dev) : Dev :=
  let fds := d.fl.fds.mapVals (fun _ f => { f with link := { f.link with epoch := f.link.epoch + 1, count := 0 } })
  let d1 : Dev := { d with
    ctx := { d.ctx with pins := d.ctx.joins.mapVals (fun _ _ => 1) }
    sch := { d.sch with entries := d.sch.entries.mapVals (fun m e =>
      match d.ctxAt m with
      | some c => if c.heat = 2 then { e with due := d.tim.mono, asked := d.tim.mono, at_ := d.nowNs, fallen := false, made := e.made - 1 } else e
      | none => e) }
    lcp := d.lcp.mapVals (fun _ l => { l with phDec := [], nbs := l.nbs.mapVals (fun _ n => { n with txValid := false, reqDue := true }) })
    sec := { d.sec with cache := [] }
    cals := d.cals.mapVals (fun _ c => { c with again := c.pend.isSome })
    fl := { d.fl with fds := fds, orders := d.fl.orders.map (fun o => { o with sentAt := none }) } }
  let d1' := d1.mapCtx (fun _ c =>
    let c1 := if c.nextSlot ≤ d.nowNs then c.slotOn d.nowNs else c
    if c1.heat = 2 then { c1 with heat := 3, nextDue := d.nowS } else c1)
  let d1'' := d1'.ctx.tab.foldl (fun (x : Dev) e => x.pollingKept e.1 e.2) d1'
  let d2 := (d1''.fl.fds.filter (fun f => f.2.st = 2)).foldl (fun (x : Dev) f => x.flSend f.1 .heartbeat) d1''
  d2.bmca.cmTakeover

/-- The device becomes stroke: it claims, drops a delta without END, protects spans and adopts what R545 lists. -/
def Dev.becomeStroke (d : Dev) : Dev :=
  let d1 := d.setClaim
  let d2 : Dev := { d1 with par := { d1.par with
      role := .stroke, wasStroke := true, solo := d1.par.hbLost, ready := false, staged := [], held := [], catchup := false, caughtAt := none
      swapRx := false, yielded := false, closing := none, cycleDue := d1.tim.mono + msC (d1.rd F.PAR_CFG_STROKE_MS), base := d1.copied } }
  d2.protect.adopt

/-- A bow may set its claim by itself (R534, R544). -/
def Dev.mayClaim (d : Dev) : Bool := d.live && d.isBow && d.par.ready && d.rootValid && !d.claimIn && !d.isSafe

/-- A descriptor of PAIR_SWAP completes, if one waits. -/
def Dev.swapDesc (d : Dev) (st sub : Nat) (res : List Nat := []) : Dev :=
  match d.par.swap with
  | some s =>
    let d1 := match s.desc with | some (p, i) => d.complete p i st sub res | none => d
    { d1 with par := { d1.par with swap := none } }
  | none => d

/-- A takeover for a cause of R675. -/
def Dev.takeover (d : Dev) (cause : Nat) : Dev :=
  if !d.mayClaim then d
  else
    let d1 := ((d.swapDesc 0x16 3).becomeStroke).bump F.PAR_TAKEOVERS
    d1.recordPost 7 0x0E10 1 0xE 0 0 d1.par.cycle cause

/-! ## Drills (R551, R552) -/

/-- Failure shares of each port over a span that ends now: port, failed, exchanges. -/
def Dev.portShares (d : Dev) (span : Nat) : List (Nat × Nat × Nat) :=
  (List.range 6).map (fun p =>
    let es := d.par.exLog.filter (fun e => e.2.1 = p && decide (d.tim.mono < e.1 + span))
    (p, (es.filter (fun e => e.2.2)).length, es.length))

/-- An exchange on a port is noted for the drill; entries older than an hour are dropped. -/
def Dev.noteEx (d : Dev) (port : Nat) (failed : Bool) : Dev :=
  { d with par := { d.par with exLog := (d.tim.mono, port, failed) :: d.par.exLog.filter (fun e => decide (d.tim.mono < e.1 + msC 3600000)) } }

/-- A drill ends: its originator writes PAR_DRILL_STS, record and event, and completes the descriptor. -/
def Dev.drillEnd (d : Dev) : Dev :=
  match d.par.drill with
  | none => d
  | some x =>
    let d1 := ({ d with par := { d.par with drill := none } } : Dev).wrb F.PAR_DRILL_STS_RUNNING 0 false
    if !x.own then d1
    else
      let d2 := (((d1.wr F.PAR_DRILL_STS_PASSED 0 x.passed).wr F.PAR_DRILL_STS_FAIL_PORT 0 x.failPort).touch 0xE001C).recordPost 7 0x0E14
        (if x.passed = x.mask then 0 else 1) 0xE 0 0 x.mask x.passed x.failPort
      match x.desc with
      | some (p, i) => d2.complete p i 0 0 [x.passed]
      | none => d2

/-- A step of the drill ends. -/
def Dev.drillStep (d : Dev) (step : Nat) (pass : Bool) (failPort : Nat) : Dev :=
  match d.par.drill with
  | none => d
  | some x =>
    let x' := { x with left := x.left - (if bitAt x.left step then 2 ^ step else 0)
                       passed := x.passed ||| (if pass && bitAt x.mask step then 2 ^ step else 0)
                       failed := x.failed || !pass
                       failPort := if x.failPort = 0 then failPort else x.failPort }
    { d with par := { d.par with drill := some x' } }

/-- The drill holds from now, if its SWAP step is under way; else it is over (R552). -/
def Dev.drillSwapped (d : Dev) : Dev :=
  match d.par.drill with
  | none => d
  | some x => if bitAt x.left 4 then { d with par := { d.par with drill := some { x with holdFrom := some d.tim.mono, runs := [] } } } else d.drillEnd

/-- The old stroke of a drill waits for its result; with the result known, the swap back is done and the drill over. -/
def Dev.drillLeft (d : Dev) : Dev :=
  match d.par.drill with
  | none => d
  | some x => if bitAt x.left 4 then d else d.drillEnd

/-! ## Planned swaps (R549) -/

/-- Count a swap and report it: the instant, ns, at which the new stroke set its claim. -/
def Dev.swapCount (d : Dev) (at_ : Nat) : Dev :=
  (d.bump F.PAR_SWAPS).recordPost 7 0x0E11 0 0xE 0 0 (at_ % 2 ^ 32) (at_ / 2 ^ 32 % 2 ^ 32)

/-- The bow of a planned swap takes over once CLAIM_IN reads low. -/
def Dev.swapTake (d : Dev) : Dev :=
  if d.live && d.isBow && d.par.swapRx && !d.claimIn && d.rootValid && !d.isSafe then
    let t := d.nowNs
    let d1 := d.becomeStroke.swapCount t
    (d1.swapDesc 0 0 [t % 2 ^ 32, t / 2 ^ 32 % 2 ^ 32]).drillSwapped
  else d

/-- The old stroke sees the new claim, set at an instant, ns. -/
def Dev.swapDone (d : Dev) (t : Nat) : Dev :=
  ((d.swapCount t).swapDesc 0 0 [t % 2 ^ 32, t / 2 ^ 32 % 2 ^ 32]).becomeBow.drillLeft

/-- No transaction runs on a port. -/
def Dev.portsQuiet (d : Dev) : Bool := d.sch.ports.all (fun p => p.2.cur.isNone)

/-- A planned swap, or an activation with a pause, keeps new transactions off the ports (R549, R595). -/
def Dev.draining (d : Dev) : Bool :=
  decide (d.upd.st = 3) || decide (d.par.role = .stroke) && (match d.par.swap with | some s => decide (s.phase ≠ .sweep) | none => false)

/-- The stroke copies each cycle to its partner: mirrored, or while a catch-up runs (R546). -/
def Dev.copies (d : Dev) : Bool :=
  d.par.en && decide (d.par.role = .stroke) && d.pairUp && !d.par.hbLost && (!d.par.solo || d.par.catchup || d.par.caughtAt.isSome)

/-- A stroke cycle closes (R541): half of the billing journal, context journal, log tails, and the delta to the bow. -/
def Dev.cycleClose (d : Dev) (early : Bool) : Dev :=
  if d.par.closing.isSome then d
  else
    let n := d.par.cycle + 1
    let rs := d.delta
    let k := min 65535 (ceilDiv (sumNat (rs.map deltaLen)) 65536)
    let d1 := (d.wr F.PAR_DELTA_LAST 0 k).wr F.PAR_DELTA_PEAK 0 (max k (d.rd F.PAR_DELTA_PEAK))
    let d2 := if early then d1.bump F.PAR_CYCLE_SHORT else d1
    let d3 := if d2.tar.half.isEmpty then d2 else d2.closeHalf
    let d4 := d3.journalCycle d3.ctxChanges d3.newLogs
    let d5 : Dev := { d4 with
      ctx := { d4.ctx with dirty := [] }
      par := { d4.par with closing := some (n, !d4.mirrored), base := d4.copied } }
    if d5.copies then ((packRecs 0 [] rs).foldl (fun (x : Dev) r => x.pairSend n (.delta r)) d5).pairSend n (.fin rs.length)
    else d5

/-- The swap goes on as far as it can (R549): the sweep ends, the ports are quiet, the cycle has ended, the claim goes. -/
def Dev.swapTry (d : Dev) : Dev :=
  if d.par.role ≠ .stroke then d
  else match d.par.swap with
    | none => d
    | some s =>
      let s1 := if s.phase = .sweep ∧ d.tar.sweeps.isEmpty then { s with phase := SwapPhase.ports } else s
      let d1 : Dev := { d with par := { d.par with swap := some s1 } }
      match s1.phase with
      | .ports =>
        if d1.portsQuiet && d1.par.closing.isNone then
          ({ d1 with par := { d1.par with swap := some { s1 with phase := SwapPhase.cycle } } } : Dev).cycleClose true
        else d1
      | .cycle =>
        if d1.par.closing.isNone then
          let d2 := (d1.pairSend d1.par.cycle .swap).dropClaim.dropDescs
          { d2 with par := { d2.par with swap := some { s1 with phase := SwapPhase.sent, sentAt := d2.tim.mono } } }
        else d1
      | _ => d1

/-- A swap starts at the stroke. -/
def Dev.swapStart (d : Dev) (desc : Option (Nat × Nat)) : Dev :=
  ({ d with par := { d.par with swap := some { phase := .sweep, desc := desc } } } : Dev).swapTry

/-- The SWAP step ends: the result goes to the originator, and the NVD swaps back (R552). -/
def Dev.drillOver (d : Dev) (pass : Bool) (failPort : Nat) : Dev :=
  match d.par.drill with
  | none => d
  | some x =>
    if x.holdFrom.isNone || !bitAt x.left 4 then d
    else
      let d1 := d.drillStep 4 pass failPort
      let d2 := if pass then d1 else d1.wr F.PAR_DRILL_STS_FAIL_PORT 0 failPort
      let d3 := if x.own then d2 else d2.pairSend d2.openCycle (.drillResult 4 pass failPort)
      d3.swapStart none

end Sys2Proof.Machine
end

