-- ==== Sys2Proof/Machine/SchedOps.lean ====
section
/-! DEFINITION. Sys2Proof/Machine/SchedOps.lean: the Heat scheduler (R139 to R169): the policy table, heats and their entries,
transactions and how they end. Ports are numbered 0 and 1 for line ports, 2 to 5 for radio ports, 16 + FDX for the field link. -/

namespace Sys2Proof.Machine

/-! ## The policy table (R142) -/

/-- The nearest divisor of 1,440 from 5; a tie goes to the larger. -/
def heatMinutes (v : Nat) : Nat := nearestDivisor 1440 5 v

/-- A policy table: its clamped content, or the sub-status of BAD_BUFFER (R142). -/
def Policy.parse (b : List Byte) : Except Nat Policy :=
  if leNat (slice b 0 4) ≠ 0x50484541 then .error 0
  else if leNat (slice b 4 2) ≠ 1 then .error 4
  else
    let hm := heatMinutes (leNat (slice b 0x08 2))
    let n := clampNat 1 8 (leNat (slice b 0x15 1))
    let meth := leNat (slice b 0x0C 1)
    .ok { heatMin := hm
          phaseOfs := min (leNat (slice b 0x16 2) * 65536 + leNat (slice b 0x0A 2)) (hm * 60 - 1)
          method := if meth ≤ 1 then meth else 0
          prio := min 7 (leNat (slice b 0x0D 1))
          spread := clampNat 10 90 (leNat (slice b 0x0E 1))
          retries := min 7 (leNat (slice b 0x0F 1))
          retryGap := clampNat 5 600 (leNat (slice b 0x10 2))
          escHeats := min 16 (leNat (slice b 0x12 1))
          catchup := clampNat 1 96 (leNat (slice b 0x13 1))
          portMask := leNat (slice b 0x14 1)
          odLimit := clampNat 1000 600000 (leNat (slice b 0x18 4))
          pushGrace := min 3600 (leNat (slice b 0x1C 4))
          sels := (List.range n).map (fun i => leNat (slice b (0x40 + 8 * i) 8)) }

/-- The 128 bytes that POLICY_GET returns. -/
def Policy.image (p : Policy) (loads : Nat) : List Byte :=
  leBytes 4 0x50484541 ++ leBytes 2 1 ++ leBytes 2 loads ++ leBytes 2 p.heatMin ++ leBytes 2 p.phaseOfs ++ leBytes 1 p.method
    ++ leBytes 1 p.prio ++ leBytes 1 p.spread ++ leBytes 1 p.retries ++ leBytes 2 p.retryGap ++ leBytes 1 p.escHeats
    ++ leBytes 1 p.catchup ++ leBytes 1 p.portMask ++ leBytes 1 p.sels.length ++ leBytes 2 (p.phaseOfs / 65536)
    ++ leBytes 4 p.odLimit ++ leBytes 4 p.pushGrace ++ List.replicate 32 0 ++ padTo 64 (p.sels.flatMap (leBytes 8))

/-- The heat period, in CLK_FAB cycles. -/
def Policy.cycles (p : Policy) : Nat := p.heatMin * 60 * 500000000

/-- The bit of PORT_MASK for a port; a mask of 0 means every port. Bits of ports that the grade lacks are kept, so that a mask of such bits
alone allows no port, and reserved bit 7 is not looked at, so that a mask of bit 7 alone allows every port (DESIGN CHOICE, log 119). -/
def Policy.allows (p : Policy) (pk : Nat) : Bool := p.portMask % 128 = 0 || bitAt p.portMask (min pk 6)

/-! ## Groups and ports -/

/-- A group at the scheduler. -/
def Dev.grpSch (d : Dev) (g : Nat) : GrpSch := d.sch.grps.getD g {}

/-- Set a group at the scheduler. -/
def Dev.setGrpSch (d : Dev) (g : Nat) (x : GrpSch) : Dev :=
  { d with sch := { d.sch with grps := if x = {} then d.sch.grps.del g else d.sch.grps.put g x } }

/-- A hold applies to a group (R164). -/
def Dev.grpHeld (d : Dev) (g : Nat) : Bool := (d.grpSch g).held || !d.on F.SCH_CFG_EN

/-- A storm is on (R162). -/
def Dev.storm (d : Dev) : Bool := d.on F.SCH_STS_STORM

/-- A port at the scheduler. -/
def Dev.psch (d : Dev) (pk : Nat) : PortSch := d.sch.ports.getD pk {}

/-- Set a port at the scheduler. -/
def Dev.setPsch (d : Dev) (pk : Nat) (x : PortSch) : Dev :=
  { d with sch := { d.sch with ports := if x = {} then d.sch.ports.del pk else d.sch.ports.put pk x } }

/-- The index of a port in the registers of R167. -/
def pIdx (pk : Nat) : Nat := min pk 6

/-- The port of a meter: that of its field device, or of its ATTACH field (R147, R161). -/
def Ctx.port (c : Ctx) : Option Nat :=
  if c.owner ≤ 0x3FF then some (16 + c.owner) else if 1 ≤ c.attach ∧ c.attach ≤ 6 then some (c.attach - 1) else none

/-- A port can take traffic: the function is ON; the field device is mustered. -/
def Dev.portOn (d : Dev) (pk : Nat) : Bool :=
  if pk < 6 then d.isOn pk else decide (d.fl.mode ≠ 0) && decide ((d.fd (pk - 16)).st = 2)

/-- LOAD of a port, in %. -/
def Dev.load (d : Dev) (pk : Nat) : Nat := d.rd F.SCH_PORT_CFG_LOAD (pIdx pk)

/-- TTX for a meter on a port, ms: of its port, or of the port that reaches it at its field device (R148, R161). -/
def Dev.ttxFor (d : Dev) (pk m : Nat) : Nat :=
  if pk < 6 then d.rd F.SCH_PORT_STS_TTX pk else (d.fd (pk - 16)).ttx.getD ((d.ldgM m).fdPort - 1) 1000

/-- A transaction is an on-demand one (R151): neither scheduled, nor image work or a calendar frame. -/
def Xfer.onDemand (x : Xfer) : Bool :=
  !x.sched && (match x.ask with | .cast _ _ | .image _ | .calendar => false | _ => true)

/-- A transaction ended on a port: its use of the last 10 s (R151) and, for a scheduled one, TTX (R154). Image work and calendar frames
count for neither share. -/
def Dev.noteUse (d : Dev) (pk : Nat) (x : Xfer) : Dev :=
  let now := d.tim.mono
  let since := x.started.getD now
  let p := d.psch pk
  let d1 := if x.sched || x.onDemand then
      d.setPsch pk { p with used := (x.sched, since, now) :: p.used.filter (fun u => decide (now < u.2.2 + 5000000000)) }
    else d
  if x.sched then
    let k := pIdx pk
    let q := d1.psch k
    let l := (clampNat 1 65535 ((now - since + 250000) / 500000) :: q.ttx).take 1024
    (d1.setPsch k { q with ttx := l }).wr F.SCH_PORT_STS_TTX k (clampNat 1 65535 (sumNat l / l.length))
  else d1

/-- Cycles of the last 10 s that scheduled, or on-demand, transactions used: those that ended and the one in flight. -/
def Dev.usedBy (d : Dev) (pk : Nat) (sched : Bool) : Nat :=
  let lo := d.tim.mono - 5000000000
  let p := d.psch pk
  let flying := match p.cur with
    | some x => if (if sched then x.sched else x.onDemand) then (match x.started with | some t => d.tim.mono - max lo t | none => 0) else 0
    | none => 0
  sumNat ((p.used.filter (fun u => u.1 = sched)).map (fun u => u.2.2 - max lo u.2.1)) + flying

/-- On-demand transactions have used less than their share (R151). -/
def Dev.odBelow (d : Dev) (pk : Nat) : Bool := decide (d.usedBy pk false * 100 < (100 - d.load pk) * 5000000000)

/-- Scheduled transactions have used less than LOAD of the port's time. -/
def Dev.schBelow (d : Dev) (pk : Nat) : Bool := decide (d.usedBy pk true * 100 < d.load pk * 5000000000)

/-! ## Missing intervals (R143) -/

/-- The end, s, of the first whole interval after LAST_INT_END, or after ADMIT_TIME while that is 0. -/
def Ctx.firstEnd (c : Ctx) : Nat :=
  let len := c.intLen * 60
  (ceilDiv (if c.lastIntEnd = 0 then c.admitTime else c.lastIntEnd) len + 1) * len

/-- A meter has missing intervals. -/
def Dev.lacks (d : Dev) (c : Ctx) : Bool := decide (c.firstEnd ≤ d.nowS)

/-- COLLECT[27:24] with a bit set or cleared: 0 ESCALATED, 1 IN_POLLING, 2 EXPEDITE, 3 CATCHUP (R159). -/
def pollBit (p b : Nat) (on : Bool) : Nat := if on then p ||| 2 ^ b else if bitAt p b then p - 2 ^ b else p

/-- CATCHUP follows the missing intervals. -/
def Dev.markCatchup (d : Dev) (m : Nat) : Dev := d.editCtx m (fun c => { c with poll := pollBit c.poll 3 (d.lacks c) })

/-! ## Heat entries (R147 to R149, R158, R159) -/

/-- The device second of an instant of the monotonic count. -/
def Dev.secAt (d : Dev) (mono : Nat) : Nat := ((d.nowNs + 2 * mono - 2 * d.tim.mono) / 1000000000) % 2 ^ 32

/-- A member's entry. -/
def Dev.entry (d : Dev) (m : Nat) : Option Entry := d.sch.entries.find m

/-- A waiting on-demand read that also settles its meter's entry (R155). -/
def Xfer.merged (x : Xfer) (m : Nat) : Bool := decide (x.mix = m) && x.heat && !x.closed

/-- EXPEDITE follows the merged reads of a meter that wait (R155). -/
def Dev.expedite (d : Dev) (m : Nat) : Dev :=
  d.editCtx m (fun c => { c with poll := pollBit c.poll 2 (d.sch.wait.any (fun x => x.merged m)) })

/-- The merged reads of a meter that wait run apart: its entry has been settled (R155). -/
def Dev.unmerge (d : Dev) (m : Nat) : Dev :=
  ({ d with sch := { d.sch with wait := d.sch.wait.map (fun x => if x.merged m then { x with heat := false } else x) } } : Dev).expedite m

/-- Set a member's entry and its state in COLLECT and NEXT_DUE; a bow writes no context (R123). A state in which the entry waits for no
further attempt leaves nothing for a merged read to settle. -/
def Dev.setEntry (d : Dev) (m : Nat) (e0 : Entry) (st : Nat) : Dev :=
  let e := { e0 with at_ := d.nowNs + 2 * e0.due - 2 * d.tim.mono }
  let d1 : Dev := { d with sch := { d.sch with entries := d.sch.entries.put m e } }
  if d.isBow then d1
  else
    let d2 := d1.editCtx m (fun c => { c with
      heat := st, retries := e.made - 1
      nextDue := if (st = 1 ∨ st = 3) ∧ ¬ e.push then d1.secAt e.due else 0 })
    if 4 ≤ st ∧ st ≤ 8 then d2.unmerge m else d2

/-- The heat state of a meter. -/
def Dev.heatState (d : Dev) (m : Nat) : Nat := match d.ctxAt m with | some c => c.heat | none => 0

/-- A radio meter that is read at agreed slots only (R149, R251). -/
def Dev.slotted (d : Dev) (pk m : Nat) : Bool :=
  decide (2 ≤ pk ∧ pk ≤ 5) && (match d.ctxAt m with | some c => decide (c.wake ≠ 0xFE) | none => false)

/-- A meter to which nothing can be sent at any time: it never listens, or is heard through relays alone (R265, R269). -/
def Dev.mute (d : Dev) (pk m : Nat) : Bool :=
  d.slotted pk m && ((d.cals.getD m {}).deaf ||
    ((d.cals.getD m {}).relayed && (match d.ctxAt m with | some c => decide (c.rsync % 4 = 3) | none => false)))

/-- The first agreed slot at or after an instant, ns; none without slots. -/
def Ctx.slotFrom (c : Ctx) (ns : Nat) : Option Nat :=
  if c.nextSlot = 0 then none
  else if ns ≤ c.nextSlot then some c.nextSlot
  else
    let per := c.slotPeriod * 1000000000
    if per = 0 then none else some (c.nextSlot + ceilDiv (ns - c.nextSlot) per * per)

/-- The instant to which an attempt that is due then is moved (R149): on a radio port with agreed slots the first slot at or after it; none
where no slot falls before the heat ends. -/
def Dev.slotTime (d : Dev) (heat : Heat) (pk m due : Nat) : Option Nat :=
  if !d.slotted pk m then some due
  else
    match (d.ctxAt m).bind (fun c => c.slotFrom (d.nowNs + 2 * (due - d.tim.mono))) with
    | none => none
    | some ns =>
      let t := d.tim.mono + (ns - d.nowNs + 1) / 2
      if heat.until_ ≤ t then none else some t

/-- Nothing is sent for an entry: its push is awaited (R145), or its meter never listens (R265). -/
def Dev.silentEntry (d : Dev) (heat : Heat) (m : Nat) (e : Entry) : Bool := (decide (heat.pol.method = 1) && !e.late) || d.mute e.port m

/-- Plan a member's attempt at an instant of the monotonic count (R148, R149). -/
def Dev.planAt (d : Dev) (heat : Heat) (m : Nat) (e : Entry) (due : Nat) : Dev :=
  if heat.until_ ≤ due then (d.setEntry m { e with due := due, asked := due } 6).bump F.SCH_OVERRUN
  else match d.slotTime heat e.port m due with
    | none => d.setEntry m { e with due := due, asked := due } 8
    | some t => d.setEntry m { e with due := t, asked := due, fallen := false, push := d.silentEntry heat m e } (if e.made = 0 then 1 else 3)

/-- A radio member's slots have changed: its waiting attempt is moved again, or it is NO_SLOT (R149). -/
def Dev.slotReplan (d : Dev) (m : Nat) : Dev :=
  match d.entry m with
  | none => d
  | some e =>
    match (d.grpSch e.grp).heat with
    | none => d
    | some h =>
      if d.slotted e.port m && (d.heatState m = 1 || d.heatState m = 3) && decide (d.tim.mono < h.until_) then
        d.planAt h m e (max e.asked d.tim.mono)
      else d

/-- Space members of one port from now (R148). -/
def Dev.spaceOut (d : Dev) (heat : Heat) (pk w1 : Nat) (es : List (Nat × Entry)) : Dev :=
  (es.foldl (fun (a : Dev × Nat × Nat) x =>
    let gap := max (a.2.1 * w1 / es.length) (a.2.2 * 50000000 / d.load pk)
    (a.1.planAt heat x.1 x.2 (d.tim.mono + gap), a.2.1 + 1, a.2.2 + d.ttxFor pk x.1)) (d, 0, 0)).1

/-- Space members again, port by port, in their order; a member whose port takes no traffic is SKIPPED (R147). -/
def Dev.spaceAll (d : Dev) (heat : Heat) (w1 : Nat) (es : List (Nat × Entry)) : Dev :=
  let ok := es.filter (fun x => decide (x.2.port ≠ 255) && d.portOn x.2.port && heat.pol.allows x.2.port)
  let d1 := (es.filter (fun x => !ok.any (fun y => y.1 = x.1))).foldl (fun (y : Dev) x => y.setEntry x.1 x.2 7) d
  let pks := sortNat ((ok.map (fun x => x.2.port)).eraseDups)
  pks.foldl (fun (y : Dev) pk => y.spaceOut heat pk w1 (sortBy (fun x => x.2.ord) (ok.filter (fun x => x.2.port = pk)))) d1

/-- Entries of a group in some heat states. -/
def Dev.entriesIn (d : Dev) (g : Nat) (sts : List Nat) : List (Nat × Entry) :=
  d.sch.entries.filter (fun x => x.2.grp = g && sts.contains (d.heatState x.1) && (d.ctxAt x.1).isSome)

/-- Entries not yet released become HELD (R164). -/
def Dev.holdEntries (d : Dev) (g : Nat) : Dev :=
  (d.entriesIn g [1, 3, 9]).foldl (fun (y : Dev) x => y.setEntry x.1 x.2 10) d

/-- In a storm, entries that have fallen due are SUSPENDED (R162), those that fell due before it began too (DESIGN CHOICE, log 121). -/
def Dev.suspend (d : Dev) : Dev :=
  if d.storm && !d.isBow then
    (d.sch.entries.filter (fun x => x.2.fallen && (d.heatState x.1 = 1 || d.heatState x.1 = 3))).foldl (fun (y : Dev) x => y.setEntry x.1 x.2 9) d
  else d

/-- Entries in a heat state are spaced again, with W1 the time left in the heat (R162, R164). -/
def Dev.respace (d : Dev) (g st : Nat) : Dev :=
  match (d.grpSch g).heat with
  | none => d
  | some h => d.spaceAll h (h.until_ - d.tim.mono) (d.entriesIn g [st])

/-! ## Heat start (R139 to R148) -/

/-- The first boundary of a group's series at or after now, ns (R139). -/
def Dev.nextHeat (d : Dev) (g : Nat) : Nat :=
  let p := (d.grpSch g).cur
  let per := p.heatMin * 60 * 1000000000
  let ofs := p.phaseOfs * 1000000000
  if d.nowNs ≤ ofs then ofs else ofs + ceilDiv (d.nowNs - ofs) per * per

/-- The members of a heat (R140), by ascending MIX. -/
def Dev.heatMembers (d : Dev) (g : Nat) : List (Nat × Ctx) :=
  d.ctx.tab.filter (fun e => e.2.grp = g && (e.2.st = 3 || e.2.st = 4)
    && (e.2.owner = 0xFFFF || (d.isHead && e.2.owner ≤ 0x3FF)))

/-- A heat of a group opens now: members, their order and their due times (R140, R147, R148); a loaded table takes effect. -/
def Dev.heatOpen (d : Dev) (g : Nat) (census : Bool) : Dev :=
  let gs := d.grpSch g
  if gs.heat.isSome then d
  else
    let h : Heat := { start := d.nowNs, from_ := d.tim.mono, until_ := d.tim.mono + gs.pol.cycles, pol := gs.pol, census := census }
    let d1 := d.setGrpSch g { gs with cur := gs.pol, heat := some h, late := [] }
    let ms := d1.heatMembers g
    let ranked := ms.filter (fun x => gs.late.contains x.1)
      ++ ms.filter (fun x => !gs.late.contains x.1 && d1.lacks x.2)
      ++ ms.filter (fun x => !gs.late.contains x.1 && !d1.lacks x.2)
    let es := (ranked.zip (List.range ranked.length)).map (fun x =>
      (x.1.1, ({ grp := g, port := x.1.2.port.getD 255, due := 0, ord := x.2, push := decide (gs.pol.method = 1) } : Entry)))
    let d2 := if d1.isBow then d1 else ms.foldl (fun (y : Dev) x => y.markCatchup x.1) d1
    if d2.grpHeld g then es.foldl (fun (y : Dev) x => y.setEntry x.1 x.2 10) d2
    else d2.spaceAll h (gs.pol.spread * gs.pol.cycles / 100) es

/-! ## Failed heats, SILENT and escalation (R158 to R160) -/

/-- A meter's line port enters meter polling for it, and reports it (R215, R217). -/
def Dev.enterPolling (d : Dev) (p m : Nat) : Dev :=
  let l := d.lcp.getD p {}
  if (l.polled.find m).isSome then d
  else ({ d with lcp := d.lcp.put p { l with polled := l.polled.put m (0, false) } } : Dev).editCtx m (fun c =>
    { c with poll := pollBit c.poll 1 true })

/-- A meter's heat counts as failed: the count, SILENT, escalation. -/
def Dev.heatMissed (d : Dev) (m : Nat) (pol : Policy) : Dev :=
  match d.ctxAt m with
  | none => d
  | some c =>
    let n := min 255 (c.failHeats + 1)
    let silent := decide (c.st = 3 ∧ d.rd F.CTX_STATE_CFG_SILENT_HEATS ≤ n)
    let esc := decide (pol.escHeats ≠ 0 ∧ pol.escHeats ≤ n) && !bitAt c.poll 0
    let d1 := d.editCtx m (fun x => { x with failHeats := n, st := if silent then 4 else x.st })
    match esc, c.port with
    | true, some pk =>
      if pk < 2 then (d1.editCtx m (fun x => { x with poll := pollBit x.poll 0 true })).enterPolling pk m
      else if 16 ≤ pk then d1.editCtx m (fun x => { x with poll := pollBit x.poll 0 true })
      else d1
    | _, _ => d1

/-- What the end of its heat does to a member (R159): an attempt in flight, or a merged read that waits again, settles it later. -/
def Dev.settleEnd (d : Dev) (m : Nat) (pol : Policy) : Dev :=
  let st := d.heatState m
  let d1 : Dev := { d with sch := { d.sch with entries := d.sch.entries.del m } }
  if d.isBow then d1
  else if st = 2 then
    let close := fun (x : Xfer) => if x.mix = m ∧ x.heat then { x with closed := true } else x
    ({ d1 with sch := { d1.sch with
        wait := d1.sch.wait.map close
        ports := d1.sch.ports.mapVals (fun _ p => { p with cur := p.cur.map close, answered := p.answered.map close }) } } : Dev).expedite m
  else
    let d2 : Dev := { d1 with sch := { d1.sch with wait := d1.sch.wait.map (fun x => if x.mix = m ∧ x.heat then { x with heat := false } else x) } }
    let d3 := if st = 4 then d2.editCtx m (fun c => { c with failHeats := 0 })
      else if st = 1 ∨ st = 3 ∨ st = 5 then d2.heatMissed m pol else d2
    d3.editCtx m (fun c => { c with heat := 0, nextDue := 0, poll := pollBit c.poll 2 false })

/-- Members DONE and FAILED at the end of a heat. -/
def Dev.tally (d : Dev) (es : List (Nat × Entry)) (sts : List Nat) : Nat :=
  (es.filter (fun x => sts.contains (d.heatState x.1))).length

/-- A heat of a group ends (R160); the last census heat writes 0x0F33 (R627). -/
def Dev.heatClose (d : Dev) (g : Nat) : Dev :=
  match (d.grpSch g).heat with
  | none => d
  | some h =>
    let es := d.sch.entries.filter (fun x => x.2.grp = g)
    let late := (es.filter (fun x => d.heatState x.1 = 6 || d.heatState x.1 = 9)).map (·.1)
    let done := d.tally es [4]
    let failed := d.tally es [1, 3, 5]
    let d1 := es.foldl (fun (y : Dev) x => y.settleEnd x.1 h.pol) d
    let d2 := d1.setGrpSch g { d1.grpSch g with heat := none, late := late }
    if !h.census then d2
    else
      let n := d2.glb.censusOpen - 1
      let d3 : Dev := { d2 with glb := { d2.glb with censusOpen := n, censusDone := d2.glb.censusDone + done, censusFailed := d2.glb.censusFailed + failed } }
      if n = 0 ∧ d3.glb.censusOn then
        (({ d3 with glb := { d3.glb with censusOn := false } } : Dev).stepDone 8).record 0x0F33 0x12 0 d3.glb.censusDone d3.glb.censusFailed
      else d3

/-! ## How attempts settle (R156, R158) -/

/-- An entry's attempt failed: a retry is due RETRY_GAP later, moved to an agreed slot or NO_SLOT (R149), or the entry is FAILED; while its
group is held it is HELD. -/
def Dev.attemptFailed (d : Dev) (m : Nat) : Dev :=
  match d.entry m with
  | none => d
  | some e =>
    match (d.grpSch e.grp).heat with
    | none => d
    | some h =>
      if e.made < 1 + h.pol.retries then
        let due := d.tim.mono + h.pol.retryGap * 500000000
        match d.grpHeld e.grp, d.slotTime h e.port m due with
        | true, _ => d.setEntry m { e with due := due, asked := due, fallen := false } 10
        | false, some t => d.setEntry m { e with due := t, asked := due, fallen := false } 3
        | false, none => d.setEntry m { e with due := due, asked := due, fallen := false } 8
      else d.setEntry m e 5

/-- A heat transaction's attempt failed; after its heat's end the outcome settles the member (R159). -/
def Dev.heatFailed (d : Dev) (x : Xfer) : Dev :=
  if !x.closed then d.attemptFailed x.mix
  else
    let pol := match d.ctxAt x.mix with | some c => (d.grpSch c.grp).cur | none => {}
    let d1 := d.heatMissed x.mix pol
    if (d1.entry x.mix).isSome then d1 else d1.editCtx x.mix (fun c => { c with heat := 0, nextDue := 0 })

/-- A heat transaction was answered: DONE. -/
def Dev.heatDone (d : Dev) (x : Xfer) : Dev :=
  if x.closed then
    let d1 := d.editCtx x.mix (fun c => { c with failHeats := 0 })
    if (d1.entry x.mix).isSome then d1 else d1.editCtx x.mix (fun c => { c with heat := 0, nextDue := 0 })
  else match d.entry x.mix with
    | some e => d.setEntry x.mix e 4
    | none => d

/-- An answer by itself settles an entry whose read waits for it (R145, R265): nothing is missing any more. -/
def Dev.pushArrived (d : Dev) (m : Nat) : Dev :=
  match d.entry m, d.ctxAt m with
  | some e, some c =>
    if e.push && (c.heat = 1 || c.heat = 3 || c.heat = 9 || c.heat = 10) && !d.lacks c then d.setEntry m e 4 else d
  | _, _ => d

/-! ## Orders of a head end, on the field device (R489, R490) -/

/-- An order ends: its result is held, and kept with the latest 4,096. -/
def Dev.orderDone (d : Dev) (id result attempts answer : Nat) (polling : Bool) : Dev :=
  let d1 := d.flHoldRec (fun n => .orderDone n id result attempts answer polling)
  match d1.fl.held.getLast? with
  | none => d1
  | some h => { d1 with fl := { d1.fl with done := ((id, h.rec_) :: d1.fl.done).take 4096, taken := d1.fl.taken.filter (· ≠ id) } }

/-- A meter is in meter polling on a line port. -/
def Dev.inPolling (d : Dev) (pk m : Nat) : Bool := decide (pk < 2) && ((d.lcp.getD pk {}).polled.find m).isSome

/-! ## Transactions -/

/-- The Sels of a READ (R82). -/
def descSels (x : Desc) : List Nat := ((List.range (selCount x)).map (fun i => x.quad (8 + 2 * i))).eraseDups

/-- The deadline of a READ or WRITE, on the monotonic count (R104, R144). -/
def Dev.deadlineOf (d : Dev) (c : Ctx) (x : Desc) : Nat :=
  d.tim.mono + (if deadlineMs x = 0 then (d.grpSch c.grp).cur.odLimit else deadlineMs x) * 500000

/-- The on-demand transaction of a READ_NOW. -/
def Dev.odRead (d : Dev) (m pk : Nat) (c : Ctx) (p : Nat) (h : Held) : Xfer :=
  { mix := m, port := pk, sels := descSels h.desc, descs := [(p, h.id)], limit := 1 + nRetry h.desc, deadline := some (d.deadlineOf c h.desc)
    slot := d.slotted pk m, from_ := d.tim.mono }

/-- A transaction joins those that wait. -/
def Dev.enqueue (d : Dev) (x : Xfer) : Dev := { d with sch := { d.sch with wait := d.sch.wait ++ [x] } }

/-- The result words of a READ (R82): bytes; retries, port and hops; meter status. -/
def readWords (x : Xfer) (c : Ctx) (bytes status : Nat) : List Nat :=
  [bytes, (x.made - 1) % 256 + 256 * (pIdx x.port) + 65536 * (c.hops % 256), status]

/-- The whole records that fit `n` bytes, in order (R78). -/
def wholeRecords : Nat → List (List Byte) → List Byte
  | _, [] => []
  | n, r :: t => if r.length ≤ n then r ++ wholeRecords (n - r.length) t else []

/-- A descriptor completes from its meter's answer (R82, R88). A READ_NOW response that does not fit its buffer is cut at a record, which is
one object's data, and no MORE is shown, since R82 gives READ_NOW no place for it (DESIGN CHOICE, log 112). -/
def Dev.answerDesc (d : Dev) (x : Xfer) (c : Ctx) (data : MData) (ofs : Int) (q : Nat × Nat) : Dev :=
  match d.heldOf q.1 q.2 with
  | none => d
  | some h =>
    let code := match data.reject with | some r => r | none => 0
    let st := if data.reject.isSome then 0xF else 0
    if descOp h.desc = 0x20 then
      let out := wholeRecords (bufLen h.desc) data.resp
      let d1 := if out.isEmpty then d else d.writeBuf h.desc out
      d1.complete q.1 q.2 st code (readWords x c out.length data.status)
    else if descOp h.desc = 0x32 then d.complete q.1 q.2 st code [unsigned 32 ofs]
    else d.complete q.1 q.2 st code [code]

/-- Descriptors that a heat's answer was to serve run on their own after its attempt failed. -/
def Dev.requeue (d : Dev) (x : Xfer) : Dev :=
  match d.ctxAt x.mix with
  | none => x.descs.foldl (fun (y : Dev) q => y.complete q.1 q.2 0xB 0) d
  | some c =>
    x.descs.foldl (fun (y : Dev) q =>
      match y.heldOf q.1 q.2 with
      | some h => y.enqueue (y.odRead x.mix x.port c q.1 h)
      | none => y) d

/-- A transaction fails: its descriptors complete, its entry counts a failed attempt, its order is reported. -/
def Dev.xferFail (d : Dev) (x : Xfer) (st sub : Nat) : Dev :=
  let d1 := if x.sched && st ≠ 0x10 then d.requeue x else x.descs.foldl (fun (y : Dev) q => y.complete q.1 q.2 st sub) d
  let d2 := if x.heat then d1.heatFailed x else d1
  let d3 := match x.order with | some id => d2.orderDone id 1 x.made 0 (d2.inPolling x.port x.mix) | none => d2
  (d3.unpin x.mix).ctxTry

/-- A transaction's answer has passed authentication: descriptors, entry, key delivery, clock, image step. -/
def Dev.xferDone (d : Dev) (x : Xfer) (data : MData) (ofs : Int) : Dev :=
  match d.ctxAt x.mix with
  | none => x.descs.foldl (fun (y : Dev) q => y.complete q.1 q.2 0xB 0) d
  | some c =>
    let d1 := x.descs.foldl (fun (y : Dev) q => y.answerDesc x c data ofs q) d
    let d2 := if x.heat then d1.heatDone x else d1
    let d3 := if x.deliver then d2.keyAck x.mix data.keyAck else d2
    let d4 := if x.shadow then d3.shadowOk x.mix else d3
    let d5 := match x.ask with
      | .setTime => if data.reject.isSome then d4 else d4.clockFresh x.mix
      | .image _ => d4.imgAnswer x.mix data (decide (x.blocks ≠ 0))
      | _ => if x.blocks ≠ 0 then d4.imgAnswer x.mix data true else d4
    (d5.unpin x.mix).ctxTry

/-! ## Starting a transaction (R37, R151, R302) -/

/-- A transaction builds a secured request. -/
def Xfer.secured (x : Xfer) : Bool :=
  match x.ask with | .cast _ _ | .calendar | .order _ => false | _ => true

/-- The meter can be sent a transaction's request now. -/
def Dev.sendable (d : Dev) (x : Xfer) : Bool :=
  if x.secured then (match d.ctxAt x.mix with | some c => d.canSend c | none => false) else true

/-- What a transaction asks a meter for (R143): the Sel of zeros asks for intervals from LAST_INT_END, or from ADMIT_TIME while that is 0, at
most CATCHUP of the table in force. -/
def Dev.intsOf (d : Dev) (x : Xfer) : Option (Nat × Nat) :=
  match x.ask, d.ctxAt x.mix with
  | .read, some c =>
    if x.sels.contains 0 then some (if c.lastIntEnd = 0 then c.admitTime else c.lastIntEnd, (d.grpSch c.grp).cur.catchup) else none
  | _, _ => none

/-- A transaction starts on its port: descriptors, entry, request. A merged read counts as one attempt for its heat, however often it goes
(R156). -/
def Dev.xferStart (d : Dev) (x0 : Xfer) (bytes : Nat) : Dev :=
  let m := x0.mix
  let d1 := x0.descs.foldl (fun (y : Dev) q => y.markStarted q.1 q.2) d
  let d2 := if x0.merged m then
      (match d1.entry m with
       | some e => d1.setEntry m { e with made := if x0.made = 0 then e.made + 1 else e.made } 2
       | none => d1)
    else d1
  let r := if x0.secured then (match d2.ctxAt m with | some c => d2.secure m c | none => ((false, false), d2)) else ((false, false), d2)
  let x : Xfer := { x0 with made := x0.made + 1, started := some d.tim.mono, shadow := r.1.1, deliver := r.1.2, bytes := bytes
                            ints := d1.intsOf x0 }
  let d3 := if x0.secured then r.2.pin m else r.2
  let d4 : Dev := { d3 with sch := { d3.sch with wait := d3.sch.wait.filter (fun w => !(w = x0)) } }
  let d5 := match x.ask with | .read => d4.emit (.ask x.port m x.sels x.ints) | _ => d4
  let d6 := if x0.heat then d5.expedite m else d5
  d6.setPsch x.port { d6.psch x.port with cur := some x }

/-- The transaction in flight leaves its port: answered, it waits for step 5. -/
def Dev.xferLeave (d : Dev) (pk : Nat) (answered : Bool) : Dev :=
  let p := d.psch pk
  match p.cur with
  | none => d
  | some x =>
    let d1 := d.setPsch pk { p with cur := none, answered := if answered then p.answered ++ [x] else p.answered }
    d1.noteUse pk x

/-- The transaction in flight on a port fails for want of an answer (R88, R158). -/
def Dev.xferLost (d : Dev) (pk : Nat) (st : Nat := 0xD) : Dev :=
  match (d.psch pk).cur with
  | none => d
  | some x => (d.xferLeave pk false).xferFail x st (if st = 7 then (d.fnOf pk).st.code else x.made)

/-! ## What a port starts at a boundary (R151, R152) -/

/-- A heat entry's transaction. -/
def Dev.heatXfer (d : Dev) (m : Nat) (e : Entry) (pol : Policy) : Xfer :=
  { mix := m, port := e.port, sels := pol.sels, heat := true, sched := true
    limit := if e.port < 2 then 1 + d.rd F.LCP_MAC_CFG_RETX e.port else 1, from_ := e.due }

/-- Due scheduled work of a port with its rank (R152): PRIO, retries first, earliest due, lowest MIX; none in a storm (R162). -/
def Dev.dueOn (d : Dev) (pk : Nat) : List (List Nat × Xfer) :=
  if d.storm then [] else
  let es := d.sch.entries.filterMap (fun x =>
    match (d.grpSch x.2.grp).heat, d.ctxAt x.1 with
    | some h, some c =>
      if x.2.port = pk && x.2.fallen && !x.2.push && (c.heat = 1 || c.heat = 3) && !bitAt c.poll 2 && !d.grpHeld x.2.grp
          && !d.slotted pk x.1 then
        some ([7 - h.pol.prio, if c.heat = 3 then 0 else 1, x.2.due, x.1], d.heatXfer x.1 x.2 h.pol)
      else none
    | _, _ => none)
  let os := (d.sch.wait.filter (fun x => x.port = pk && x.sched && !x.slot)).map (fun x =>
    ([match d.ctxAt x.mix with | some c => 7 - (d.grpSch c.grp).cur.prio | none => 4, 1, x.from_, x.mix], x))
  (es ++ os).filter (fun x => d.sendable x.2)

/-- The first by rank. -/
def bestRank : List (List Nat × Xfer) → Option (List Nat × Xfer)
  | [] => none
  | x :: t => match bestRank t with | some y => if lexLess y.1 x.1 then some y else some x | none => some x

/-- The oldest on-demand transaction of a port. -/
def Dev.odOn (d : Dev) (pk : Nat) : Option Xfer :=
  d.sch.wait.find? (fun x => x.port = pk && !x.sched && !x.slot && (match x.ask with | .cast _ _ => false | _ => true) && d.sendable x)

/-- The daily window of a campaign is open: the state of R611 follows it (R606). -/
def Campaign.inWindow (c : Campaign) (minute : Nat) : Bool :=
  if c.open_ = c.close_ then true
  else if c.open_ < c.close_ then decide (c.open_ ≤ minute ∧ minute < c.close_)
  else decide (c.open_ ≤ minute ∨ minute < c.close_)

/-- The minute of the day (R606). -/
def Dev.minuteNow (d : Dev) : Nat := (d.nowNs / 60000000000) % 1440

/-- A campaign sends now: it runs, inside its window, outside a storm, on the stroke (R606). -/
def Dev.campSends (d : Dev) (g : Nat) : Bool :=
  match d.campOf g with | some (c, _) => decide (c.st = 2) && c.inWindow d.minuteNow && !d.storm && !d.isBow | none => false

/-- Members of a campaign's group on a port in RECEIVING. -/
def Dev.imgReceiving (d : Dev) (g pk : Nat) : List (Nat × Ctx) :=
  d.ctx.tab.filter (fun e => e.2.grp = g && e.2.imgState = 2 && e.2.port = some pk)

/-- The passes of a campaign on a port are spent (R610). -/
def Dev.passesSpent (d : Dev) (c : Campaign) (pk : Nat) : Bool := decide (d.rd F.UPD_IMG_CFG_MAX_PASSES ≤ (c.passes.getD pk {}).run)

/-- The block that a pass on a port sends next. -/
def Dev.castOn (d : Dev) (pk : Nat) : Option Xfer :=
  let gs := d.img.camps.keys.filter (fun g => d.campSends g && (match d.img.camps.find g with
    | some c => (c.passes.getD pk {}).next.isSome | none => false))
  match (gs.find? (fun g => decide (d.img.turn.find pk = some g))).or gs.head? with
  | none => none
  | some g => match d.img.camps.find g with
    | some c => (c.passes.getD pk {}).next.map (fun b => { mix := 0, port := pk, ask := .cast g b, from_ := d.tim.mono })
    | none => none

/-- A member that an exchange of its campaign may serve on a port outside agreed slots: control steps, and unicast blocks (R610). -/
def Dev.imgUni (d : Dev) (pk : Nat) (e : Nat × Ctx) : Bool :=
  d.campSends e.2.grp && e.2.port = some pk && !d.slotted pk e.1 && decide (d.imgStep e.1 e.2 ≠ 0)
    && (match d.img.camps.find e.2.grp with
        | some c => e.2.imgState ≠ 2 || decide (e.2.imgMiss ≤ d.rd F.UPD_IMG_CFG_UNI_MAX) || d.passesSpent c pk
        | none => false)

/-- The exchange of a campaign that a port starts next: members take turns by MIX. -/
def Dev.imgOn (d : Dev) (pk : Nat) : Option Xfer :=
  let es := d.ctx.tab.filter (fun e => e.2.imgState ≠ 0 && d.imgUni pk e)
  let last := d.img.last.getD pk 0
  match (es.find? (fun e => decide (last < e.1))).or es.head? with
  | none => none
  | some (m, c) =>
    let k := d.imgStep m c
    some { mix := m, port := pk, ask := .image k, blocks := if k = 2 then 1 else 0, from_ := d.tim.mono }

/-- Image work of a port, the lowest rank; none in a storm (R162). -/
def Dev.blockOn (d : Dev) (pk : Nat) : Option Xfer :=
  if d.storm then none
  else match d.castOn pk with
    | some x => some x
    | none => (d.sch.wait.find? (fun x => x.port = pk && !x.slot && (match x.ask with | .cast _ _ => true | _ => false))).or
        ((d.imgOn pk).filter d.sendable)

/-- What a port starts at a boundary, but for a beacon (R151). -/
def Dev.pickOn (d : Dev) (pk : Nat) : Option Xfer :=
  let od := d.odOn pk
  let sch := (bestRank (d.dueOn pk)).map (·.2)
  if od.isSome && d.odBelow pk then od
  else if sch.isSome && d.schBelow pk then sch
  else if od.isSome then od
  else d.blockOn pk

end Sys2Proof.Machine
end

