-- ==== Sys2Proof/Machine/LineOps.lean ====
section
/-! DEFINITION. Sys2Proof/Machine/LineOps.lean: line ports (R170 to R238): tone maps, neighbours, routes, mains phase, the governor's
sums, exchanges. -/

namespace Sys2Proof.Machine

/-- Plans that LCP_CFG enables, CENA first (R185). -/
def Dev.plans (d : Dev) (p : Nat) : List Nat := (List.range 3).filter (fun k => bitAt (d.rd F.LCP_CFG_PLANS p) k)

/-! ## Sculler symbols and tone maps (R178 to R192) -/

/-- Carriers in use, a bit a carrier. -/
def Dev.scMask (d : Dev) (p : Nat) : Nat := d.rd F.LCP_SC_MASK_LO_CARRIERS p + 2 ^ 32 * d.rd F.LCP_SC_MASK_HI_CARRIERS p

/-- bits_per_symbol of ROBUST (R183). -/
def Dev.robust (d : Dev) (p : Nat) : Nat := popBits 58 (d.scMask p) / 8

/-- The thresholds of R189, 0.5 dB units, by rate code. -/
def tmThresholds (rate : Nat) : List Nat :=
  match rate with | 0 => [6, 12, 22, 26] | 1 => [9, 15, 25, 29] | 2 => [11, 17, 27, 31] | _ => [13, 19, 29, 33]

/-- The largest loading whose threshold plus the margin does not exceed an SNR (R188). -/
def tmLoad (rate margin : Nat) (snr : Int) : Nat :=
  ((tmThresholds rate).filter (fun t => decide (((t + margin : Nat) : Int) ≤ snr))).length

/-- bits_per_symbol of a negotiated map (R183). -/
def tmBits (rate sum : Nat) : Nat :=
  match rate with | 0 => sum / 2 | 1 => sum * 2 / 3 | 2 => sum * 3 / 4 | _ => sum * 5 / 6

/-- The loading of every carrier at a rate; a carrier that either end masks is off. -/
def Dev.tmLoads (d : Dev) (p rate mask : Nat) (snr : List Int) : List Nat :=
  (List.range 58).map (fun c => if bitAt (d.scMask p) c && bitAt mask c then
    (match snr[c]? with | some s => tmLoad rate (d.rd F.LCP_TM_CFG_MARGIN p) s | none => 0) else 0)

/-- The receive tone map of a frame's SNR (R188): rate and loadings; none where ROBUST carries more. -/
def Dev.toneMap (d : Dev) (p mask : Nat) (snr : List Int) : Option (Nat × List Nat) :=
  let rates := (List.range 4).filter (fun r => bitAt (d.rd F.LCP_TM_CFG_RATES p) r)
  let best := rates.foldl (fun (a : Option (Nat × List Nat)) r =>
    let l := d.tmLoads p r mask snr
    match a with
    | some x => if tmBits x.1 (sumNat x.2) < tmBits r (sumNat l) then some (r, l) else a
    | none => some (r, l)) none
  best.filter (fun x => decide (d.robust p ≤ tmBits x.1 (sumNat x.2)))

/-- The number that a list of bits spells, first bit least significant. -/
def bitsNum (l : List Nat) : Nat := sumNat (l.zipIdx.map (fun e => e.1 % 2 * 2 ^ e.2))

/-- bits_per_symbol of a map on a plan (R176, R183): ROBUST for TMI 0; on a compatible plan what the recommendation gives for the modulation
and the tones, ROBO for TMI 0. -/
def Dev.mapBps (d : Dev) (p plan tmi rate : Nat) (map : List Nat) : Nat :=
  if plan ≠ 2 then (Config.g3Bits plan (if tmi = 0 then 0 else rate) (if tmi = 0 then 0 else bitsNum map)).toNat
  else if tmi = 0 then d.robust p else tmBits rate (sumNat map)

/-- bits_per_symbol toward a neighbour (R192). -/
def Dev.txBps (d : Dev) (p : Nat) (n : Nb) : Nat := if n.txValid then d.mapBps p n.plan n.txTmi n.txRate n.txMap else d.mapBps p n.plan 0 0 []

/-- bits_per_symbol from a neighbour. -/
def Dev.rxBps (d : Dev) (p : Nat) (n : Nb) : Nat := d.mapBps p n.plan n.rxTmi n.rxRate n.rxMap

/-- The hop cost of a link (R220). -/
def Dev.hopCost (d : Dev) (p : Nat) (n : Nb) : Nat :=
  min 255 (8 + ceilDiv 720 (min (d.txBps p n) (d.rxBps p n)) + 8 * popBits 16 n.hist)

/-- Data symbols of a Sculler frame (R183). -/
def scSymbols (bytes bps : Nat) : Nat := ceilDiv (8 * bytes + 64) bps

/-- T_frm of a Sculler frame, cycles (R179, R183). -/
def scFrame (bytes bps : Nat) : Nat := usC (144 * (8 + scSymbols bytes bps))

/-- Data symbols of a frame on a plan (R176, R183). -/
def frameSymbols (plan bytes bps : Nat) : Nat := if plan = 2 then scSymbols bytes bps else (Config.g3Count plan bytes bps).toNat

/-- T_frm of a frame by its data symbols, cycles (R176, R179): T_pre and the symbols. -/
def frameC (plan symbols : Nat) : Nat :=
  if plan = 2 then usC (144 * (8 + symbols)) else ((Config.g3Pre plan).toNat + symbols * (Config.g3Sym plan).toNat) / 2

/-- MAC-frame bytes that one segment carries (R183, R212): as many whole bytes as 1,023 symbols hold. -/
def segRoom (bps : Nat) : Nat := (1023 * bps - 64) / 8

/-- Segments that a MAC frame needs (R212): one where it fits 1,023 symbols. -/
def scSegments (bytes bps : Nat) : Nat := max 1 (ceilDiv bytes (segRoom bps))

/-- Bytes of a segment: every one but the last is full (DESIGN CHOICE, log 125). -/
def segBytes (bytes bps k : Nat) : Nat := min (segRoom bps) (bytes - k * segRoom bps)

/-- T_slot on a plan, cycles (R213). -/
def slotC (plan : Nat) : Nat := if plan = 2 then usC 320 else (Config.g3Slot plan).toNat / 2

/-! ## Neighbours (R226, R227) -/

/-- A neighbour by its short address. -/
def Lcp.nbOf (l : Lcp) (short : Nat) : Option (Nat × Nb) := l.nbs.find? (fun e => e.2.short = short)

/-- A direct neighbour of a meter: an active entry that names its context (R223). -/
def Lcp.nbMix (l : Lcp) (m : Nat) : Option (Nat × Nb) := l.nbs.find? (fun e => e.2.mix = some m && !e.2.stale)

/-- A node is the first hop of a route. -/
def Lcp.firstHop (l : Lcp) (short : Nat) : Bool :=
  l.routes.any (fun r => r.2.path.head?.map (·.1) = some short || (r.2.alt.getD []).head?.map (·.1) = some short)

/-- The entry that a new neighbour takes: the lowest free one, else the lowest stale one that is no first hop. -/
def Lcp.nbFree (l : Lcp) : Option Nat :=
  let f := lowestFree 0 l.nbs.keys
  if f < 2048 then some f else (l.nbs.find? (fun e => e.2.stale && !l.firstHop e.2.short)).map (·.1)

/-- Change a neighbour. -/
def Dev.updNb (d : Dev) (p i : Nat) (f : Nb → Nb) : Dev := d.updLp p (fun l => { l with nbs := l.nbs.upd i f })

/-- The mean of an SNR list, dB. -/
def snrMean (snr : List Int) : Int := if snr.isEmpty then 0 else sumInt snr / (2 * (snr.length : Int))

/-- The modulation and tones that the NVD answers a compatible neighbour with (R177): a differential loading, as a receive tone map. -/
def g3Map (plan : Nat) (snr : List Int) : Nat × List Nat :=
  let m := Config.g3Map plan snr
  (m.1.toNat, (List.range 24).map (fun c => b2n (m.2.1.getLsbD c)))

/-- The receive tone map that a frame's SNR gives on its plan; none for ROBUST. -/
def Dev.rxMapOf (d : Dev) (p : Nat) (rx : LineRx) (snr : List Int) : Option (Nat × List Nat) :=
  if rx.plan = 2 then d.toneMap p rx.mask snr else some (g3Map rx.plan snr)

/-- A neighbour after a good frame from it (R188, R190, R191, R227), whose SNR by carrier is that of its unerased data symbols: whether the
early trigger asks for a refresh that is not due already. -/
def Dev.nbHear (d : Dev) (p : Nat) (n : Nb) (rx : LineRx) (snrs : List Int) (mix : Option Nat) : Bool × Nb :=
  let snr := if snrs.isEmpty then n.snrLast else snrMean snrs
  let run := if snrs.isEmpty then n.dropRun
    else if n.lastTm.isSome ∧ ((d.rd F.LCP_TM_CFG_DROP_DB p : Nat) : Int) ≤ n.snrRef - snr then n.dropRun + 1 else 0
  let early := decide (3 ≤ run)
  let mix1 := if rx.hdr.path.isEmpty && decide (rx.plan = 2 ∨ rx.hdr.hops ≤ 1) then mix.or n.mix else n.mix
  let n1 : Nb := { n with stale := false, plan := rx.plan, lastHeard := d.nowS, snrLast := snr, dropRun := if early then 0 else run
                          hist := (2 * n.hist) % 65536, mapDue := n.mapDue || rx.hdr.tmreq, reqDue := n.reqDue || early
                          mix := mix1, phase := match mix1.bind d.ctxAt with | some c => c.phase | none => n.phase }
  let n2 := if snrs.isEmpty then n1
    else match d.rxMapOf p rx snrs with
      | some (r, l) => if n1.rxRate = r ∧ n1.rxMap = l ∧ n1.rxTmi ≠ 0 then n1
                       else { n1 with rxTmi := n1.rxTmi % 15 + 1, rxRate := r, rxMap := l, rxSent := false }
      | none => if n1.rxTmi = 0 then n1 else { n1 with rxTmi := 0, rxRate := 0, rxMap := [], rxSent := false }
  (early && !n.reqDue, match rx.hdr.tmap with
    | some (t, r, l) => { n2 with txTmi := t, txRate := r, txMap := l, txValid := true, lastTm := some d.nowS, reqDue := false
                                  txGain := rx.hdr.txGain, snrRef := snr, dropRun := 0 }
    | none => n2)

/-- A good frame from a neighbour enters it or refreshes it (R226). -/
def Dev.hearNb (d : Dev) (p : Nat) (rx : LineRx) (snrs : List Int) (mix : Option Nat) : Dev :=
  let l := d.lp p
  let slot := match l.nbOf rx.hdr.src with | some e => some e.1 | none => l.nbFree
  match slot with
  | none => d.bump F.LCP_NB_FULL p
  | some i =>
    let n := match l.nbOf rx.hdr.src with | some e => e.2 | none => { short := rx.hdr.src, plan := rx.plan }
    let r := d.nbHear p n rx snrs mix
    let d1 := d.updLp p (fun l => { l with nbs := l.nbs.put i r.2 })
    if r.1 then d1.bump F.LCP_TM_EARLY p else d1

/-! ## Routes (R221 to R223) -/

/-- The downward path of an upward one: reversed, each BPS with the node that the link leads to, then the meter (R221). -/
def downPath (up : List (Nat × Nat)) (own meter : Nat) : List (Nat × Nat) :=
  ((up.map (·.1)).reverse ++ [meter]).zip (own :: (up.map (·.2)).reverse)

/-- The nodes of a route's alternate path. -/
def Route.altNodes (r : Route) : Option (List Nat) := r.alt.map (fun a => a.map (·.1))

/-- A route learns a path (R222); `far` is the hop count of a path that holds the next hop alone (R224), else 0. -/
def Route.learn (r : Route) (path : List (Nat × Nat)) (cost far hyst : Nat) : Route :=
  let nodes := path.map (·.1)
  if nodes = r.path.map (·.1) then { r with path := path, cost := cost, far := far }
  else if r.altNodes = some nodes then { r with alt := some path, altCost := cost, altFar := far }
  else if cost + hyst < r.cost ∨ r.failed then
    { r with path := path, cost := cost, far := far, fails := 0, failed := false
             alt := some r.path, altCost := r.cost, altFar := r.far, altFails := r.fails }
  else if r.alt.isNone ∨ cost < r.altCost then { r with alt := some path, altCost := cost, altFar := far, altFails := 0 }
  else r

/-- HOPS of a route's primary path, and ALT_HOPS (R228). -/
def Route.hops (r : Route) : Nat := if r.far = 0 then r.path.length else r.far
/-- ALT_HOPS of a route. -/
def Route.altHops (r : Route) : Nat := if r.altFar = 0 then (r.alt.getD []).length else r.altFar

/-- A line port learns a meter's path (R221, R226). -/
def Dev.learnRoute (d : Dev) (p m : Nat) (path : List (Nat × Nat)) (cost : Nat) (far : Nat := 0) : Dev :=
  let l := d.lp p
  match l.routes.find m with
  | some r => d.setLp p { l with routes := l.routes.put m (r.learn path cost far (d.lcf F.LCP_MESH_CFG_HYST p)) }
  | none => if l.routes.length < 16384 then d.setLp p { l with routes := l.routes.put m { cost := cost, path := path, far := far } } else d

/-- A line port learns the route of a meter from the path that its upward Sculler frame collected (R221): the frame's last sender is the first
hop. -/
def Dev.learnLine (d : Dev) (p m : Nat) (up : List (Nat × Nat)) (near cost : Nat) : Dev :=
  let short := match d.ctxAt m with | some c => c.short | none => 0
  let own := match (d.lp p).nbOf near with | some (_, n) => d.txBps p n | none => 0
  d.learnRoute p m (downPath up own short) cost

/-- A route error of a compatible plan reports that a meter's path is gone (R224): the primary is dropped, and the drop counts. -/
def Dev.routeError (d : Dev) (p m : Nat) : Dev :=
  let l := d.lp p
  match l.routes.find m with
  | none => d
  | some r => (match r.alt with
    | some a =>
      let fresh : Route := { r with alt := none, altCost := 0, altFar := 0, altFails := 0 }
      d.setLp p { l with routes := l.routes.put m { fresh with path := a, cost := r.altCost, far := r.altFar, fails := r.altFails
                                                               failed := decide (0 < r.altFails) } }
    | none => d.setLp p { l with routes := l.routes.del m }).bump F.LCP_RT_DROP p

/-- A path has failed: two failures in a row drop it, and the last one frees the entry (R223). -/
def Dev.failPath (d : Dev) (p m : Nat) (viaAlt : Bool) : Dev :=
  let l := d.lp p
  match l.routes.find m with
  | none => d
  | some r =>
    let r1 := if viaAlt then { r with altFails := r.altFails + 1 } else { r with fails := r.fails + 1, failed := true }
    if viaAlt && decide (2 ≤ r1.altFails) then
      (d.setLp p { l with routes := l.routes.put m { r1 with alt := none, altCost := 0, altFar := 0, altFails := 0 } }).bump F.LCP_RT_DROP p
    else if !viaAlt && decide (2 ≤ r1.fails) then d.routeError p m
    else d.setLp p { l with routes := l.routes.put m r1 }

/-! ## Mains phase (R229 to R232) -/

/-- T_m, ns: the mean spacing of the crossings kept. -/
def meanPeriod (zc : List Nat) : Option Nat :=
  match zc.head?, zc.getLast? with
  | some a, some b => if 2 ≤ zc.length then some ((a - b) / (zc.length - 1)) else none
  | _, _ => none

/-- The crossings of a phase that the port keeps: those of the latest 64 mains cycles; none once the latest of them is older than 64 nominal
cycles (R229). -/
def Dev.zcs (d : Dev) (p k : Nat) : List Nat :=
  let l := (d.lp p).zc.getD k []
  let nom := if d.rd F.LCP_ZC_CFG_MAINS p = 1 then 16666667 else 20000000
  match l.head? with
  | some t => if d.nowNs ≤ t + 64 * nom then l else []
  | none => []

/-- T_m of a port, ns; not used where MAINS names another frequency (R229). -/
def Dev.mainsPeriod (d : Dev) (p : Nat) : Option Nat :=
  match meanPeriod (d.zcs p 0) with
  | none => none
  | some t =>
    let nom := match d.rd F.LCP_ZC_CFG_MAINS p with | 0 => 20000000 | 1 => 16666667 | _ => 0
    if nom = 0 then some t else if 20 * (if t < nom then nom - t else t - nom) ≤ nom then some t else none

/-- An angle of an instant after the latest crossing of L1, 0.1 degrees. -/
def zcAngle (z1 : List Nat) (t tm : Nat) : Option Nat :=
  match z1.find? (fun z => decide (z ≤ t)) with
  | some z => if tm = 0 then none else some ((3600 * (t - z) / tm) % 3600)
  | none => none

/-- The reference angle of phase `k` (0 to 2), 0.1 degrees. -/
def Dev.refAngle (d : Dev) (p k tm : Nat) : Nat :=
  if k = 0 ∨ !bitAt (d.rd F.LCP_ZC_CFG_EN p) k then 1200 * k
  else match (d.zcs p k).head? with
    | some t => (zcAngle (d.zcs p 0) t tm).getD (1200 * k)
    | none => 1200 * k

/-- Two angles lie within a tolerance of each other. -/
def angleNear (a b tol : Nat) : Bool := let x := (a + 3600 - b % 3600) % 3600; decide (x ≤ tol ∨ 3600 - x ≤ tol)

/-- The angle of a frame's meter: receive time, residence and delay (R230, R232). -/
def Dev.phAngle (d : Dev) (p rxNs : Nat) (h : MacHdr) (plan : Nat) : Option Nat :=
  let resid := if plan = 2 then h.resid else 0
  if 0xFFFF ≤ h.zcDelay ∨ 0xFFFF ≤ resid ∨ (plan ≠ 2 ∧ 1 < h.hops) then none
  else match d.mainsPeriod p with
    | none => none
    | some tm => zcAngle (d.zcs p 0) (rxNs - 1000 * (resid + h.zcDelay)) tm

/-- The sample code of an angle (R230). -/
def Dev.phCode (d : Dev) (p angle : Nat) : Nat :=
  let tm := (d.mainsPeriod p).getD 0
  let tol := 10 * d.lcf F.LCP_PH_CFG_TOL p
  match (List.range 3).find? (fun k => angleNear angle (d.refAngle p k tm) tol) with
  | some k => k
  | none => match (List.range 3).find? (fun k => angleNear angle (d.refAngle p k tm + 1800) tol) with
    | some k => k + 4
    | none => 7

/-- The code that at least AGREE of the latest samples carry (R231). -/
def phDecided (agree : Nat) (codes : List Nat) : Option Nat :=
  [0, 1, 2, 4, 5, 6].find? (fun k => decide (agree ≤ (codes.filter (· = k)).length))

/-- The Ledger is told of a phase change of a meter (R231, R349, R350). -/
def Dev.phaseMoved (d : Dev) (m old new t : Nat) : Dev :=
  let x := d.ldgM m
  let d1 := (d.setLdgM m { x with moves := (t, old, new) :: x.moves.filter (fun e => decide (t < e.1 + 5270400)) }).bump F.LDG_PH_MOVE
  d1.post 2 0x0A30 0 0xA (tgtMix m) m (old + 256 * new) t

/-- A sample of a meter's phase is taken from its frame (R230, R231). -/
def Dev.phSample (d : Dev) (p m rxNs : Nat) (h : MacHdr) (plan : Nat) : Dev :=
  match d.phAngle p rxNs h plan with
  | none => d
  | some a =>
    let l := d.lp p
    let codes := (d.phCode p a :: l.phs.getD m []).take 8
    let d1 := d.setLp p { l with phs := l.phs.put m codes
                                 nbs := l.nbs.mapVals (fun _ n => if n.mix = some m then { n with angle := a, samples := (codes ++ List.replicate 8 3).take 8 } else n) }
    match phDecided (d.lcf F.LCP_PH_CFG_AGREE p) codes, d.ctxAt m with
    | some k, some c =>
      let old := if d.isBow then (l.phDec.find m).getD c.phase else c.phase
      if old = k then d1
      else
        let d2 := (d1.updLp p (fun l => { l with
          phDec := if d1.isBow then l.phDec.put m k else l.phDec
          nbs := l.nbs.mapVals (fun _ n => if n.mix = some m then { n with phase := k } else n) })).bump F.LCP_PH_CHANGE p
        if d2.isBow then d2 else (d2.editCtx m (fun x => { x with phase := k })).phaseMoved m c.phase k (rxNs / 1000000000)
    | _, _ => d1

/-- A compatible-plan meter that is reached through a relay reads unknown (R232). -/
def Dev.phUnknown (d : Dev) (p m : Nat) : Dev :=
  match d.ctxAt m with
  | some c =>
    if c.phase = 3 then d
    else (d.updLp p (fun l => { l with
        phs := l.phs.del m, nbs := l.nbs.mapVals (fun _ n => if n.mix = some m then { n with phase := 3 } else n) })).editCtx m (fun x => { x with phase := 3 })
  | none => d

/-! ## The governor (R196 to R201): energies in µV·µA·samples; 10 µJ are 4·10^13 of them -/

/-- 10 µJ. -/
def tenMicroJ : Nat := 40000000000000

/-- The number of the sense sample that the monotonic count has reached. -/
def Dev.sampleNo (d : Dev) : Nat := d.tim.mono / 125

/-- E_win (R196). -/
def Dev.eWin (d : Dev) (p : Nat) : Nat :=
  sumNat (((d.lp p).win.filter (fun e => decide (d.sampleNo < e.1 + 40000))).map (·.2))

/-- WIN_EFF (R197). -/
def Dev.winEff (d : Dev) (p : Nat) : Nat := min (d.rd F.LCP_GOV_CAP_WIN_CAP p) (d.rd F.LCP_GOV_OTP_WIN_HARD p) * tenMicroJ

/-- FRAME_EFF (R197). -/
def Dev.frameEff (d : Dev) (p : Nat) : Nat := min (d.rd F.LCP_GOV_CAP_FRAME_CAP p) (d.rd F.LCP_GOV_OTP_FRAME_HARD p) * tenMicroJ

/-- E_res of a frame on a plan (R197): PMAX in mW times µs, in nJ. -/
def Dev.eRes (d : Dev) (p plan : Nat) : Nat := d.rd F.LCP_GOV_PMAX_PMAX p * (if plan = 2 then 146 else 2) * 4000000000

/-- E_res alone reaches an effective cap (R199). -/
def Dev.capLow (d : Dev) (p plan : Nat) : Bool := decide (d.winEff p ≤ d.eRes p plan ∨ d.frameEff p ≤ d.eRes p plan)

/-- LCP_STS.CAP_LOW (R199): under no enabled plan can a frame start. -/
def Dev.capLowAll (d : Dev) (p : Nat) : Bool := !(d.plans p).isEmpty && (d.plans p).all (fun k => d.capLow p k)

/-- A frame may start (R199). -/
def Dev.govStarts (d : Dev) (p plan : Nat) : Bool :=
  decide (d.eWin p + d.eRes p plan < d.winEff p) && decide (d.eRes p plan < d.frameEff p)

/-- The truncation condition of the frame in progress (R197). -/
def Dev.truncates (d : Dev) (p : Nat) (t : LineTx) : Bool :=
  decide (d.frameEff p ≤ t.energy + d.eRes p t.plan ∨ d.winEff p ≤ d.eWin p + d.eRes p t.plan)

/-- An energy in 10 µJ units, saturating. -/
def in10uJ (e : Nat) : Nat := min 65535 (e / tenMicroJ)

/-- The attenuation of a plan, dB (R204). -/
def Dev.txAtten (d : Dev) (p plan : Nat) : Nat :=
  match plan with | 0 => d.rd F.LCP_TX_LEVEL_CENA_ATTEN p | 1 => d.rd F.LCP_TX_LEVEL_FCC_ATTEN p | _ => d.rd F.LCP_TX_LEVEL_SC_ATTEN p

/-- The governor truncates the frame in progress (R198). -/
def Dev.truncate (d : Dev) (p : Nat) : Dev :=
  match (d.lp p).tx with
  | none => d
  | some t =>
    if t.cut.isSome then d
    else
      let hour := d.evr.optime / 3600
      let d1 := ((d.updLp p (fun l => { l with tx := some { t with cut := some d.sampleNo }, truncAt := some hour, excused := true })).bump
        F.LCP_GOV_TRUNC_TRUNC p).wrb F.LCP_STS_TRUNC_SEEN p true
      let d2 := if t.plan = 2 then d1.emit (.abortMarker p (d1.txAtten p 2) (preambleSym (d1.scMask p) 5)) else d1
      if (d.lp p).truncAt = some hour then d2
      else d2.record 0x0501 5 1 p (in10uJ t.energy) (in10uJ (d.eWin p))

/-- Check the condition now. -/
def Dev.govCheck (d : Dev) (p : Nat) : Dev :=
  match (d.lp p).tx with | some t => if d.truncates p t then d.truncate p else d | none => d

/-- Samples that a cut frame may still take (R198): the abort marker of a Sculler frame, and 2 µs for the DAC to reach zero, of which the
sample that met the condition is the first. -/
def cutTail (plan : Nat) : Nat := if plan = 2 then 583 else 7

/-- The instant of the last DAC sample of a frame being sent (R172, R179, R198). -/
def Dev.txLast (d : Dev) (p : Nat) (t : LineTx) : Nat :=
  match t.cut with
  | some c => 125 * (c + cutTail t.plan)
  | none => t.start + usC (d.rd F.LCP_AFE_CFG_DRV_LEAD p) + frameC t.plan t.symbols

/-- The instant at which LPn_DRV_EN falls (R172, R198, R204): DRV_LAG after the last sample, of a cut frame with it. -/
def Dev.txDown (d : Dev) (p : Nat) (t : LineTx) : Nat :=
  match t.cut with
  | some _ => d.txLast p t
  | none => d.txLast p t + usC (d.rd F.LCP_AFE_CFG_DRV_LAG p)

/-! ## Exchanges (R206 to R218) -/

/-- How the next exchange with a meter goes: plan, path (empty for a query), bits_per_symbol of hop 1. -/
structure LineGo where
  plan : Nat
  path : List (Nat × Nat)
  bps : Nat
  deriving DecidableEq, Repr

/-- The plan of a query or of an unknown node: Sculler mode if it is enabled. -/
def Dev.queryPlan (d : Dev) (p : Nat) : Nat := let l := d.plans p; if l.contains 2 then 2 else l.headD 0

/-- The way to a meter (R222 to R225). -/
def Dev.lineGo (d : Dev) (p m : Nat) (viaAlt : Bool) : LineGo :=
  let l := d.lp p
  match l.routes.find m with
  | some r =>
    let path := if viaAlt then r.alt.getD r.path else r.path
    (match l.nbOf ((path.head?.map (·.1)).getD 0) with
     | some (_, n) => ⟨n.plan, path, d.txBps p n⟩
     | none => ⟨2, path, d.robust p⟩)
  | none => match l.nbMix m with
    | some (_, n) => ⟨n.plan, [(n.short, d.txBps p n)], d.txBps p n⟩
    | none => ⟨d.queryPlan p, [], d.robust p⟩

/-- T_to of an exchange, cycles (R208, R210); for a query, room for MAX_HOPS hops at ROBUST (DESIGN CHOICE, see the log). -/
def Dev.lineTo (d : Dev) (p : Nat) (go : LineGo) (bytes : Nat) : Nat :=
  let rsp := d.lcf F.LCP_MAC_CFG_RSP_MAX p
  if go.plan ≠ 2 then d.lcf F.LCP_MESH_CFG_CTO p * 50000000
  else if go.path.isEmpty then
    let h := d.lcf F.LCP_MESH_CFG_MAX_HOPS p
    (2 * h - 1) * usC 500 + (h - 1) * (scFrame bytes (d.robust p) + scFrame rsp (d.robust p)) + 7 * h * usC 320
  else
    (2 * go.path.length - 1) * usC 500 + sumNat ((go.path.drop 1).map (fun e => scFrame bytes e.2 + scFrame rsp e.2))

/-! ## The medium (R213, R214) -/

/-- When the frame that contends has counted its slots: from the instant at which it was ready and the medium idle, for a normal frame after
the high-priority window too; a further segment goes without counting (R212). -/
def Dev.countFrom (d : Dev) (p plan : Nat) : Nat :=
  let l := d.lp p
  let window := if l.hiPrio then 0 else (if plan = 2 then d.lcf F.LCP_MAC_CFG_HP_SLOTS p else Config.g3HpSlots.toNat) * slotC plan
  max l.readyAt (max l.idleFrom l.navUntil + window)

/-- The instant at which the frame that contends goes (R214). -/
def Dev.sendAt (d : Dev) (p plan : Nat) : Nat :=
  if (d.lp p).segNext = 0 then d.countFrom p plan + (d.lp p).slots * slotC plan else (d.lp p).readyAt

/-- A frame becomes ready (R213, R214, R216): a polled Sculler exchange takes slot 0 of the high-priority window; a polled exchange of a
compatible plan draws from the smallest window; other frames draw from theirs. -/
def Dev.ready (d : Dev) (p plan : Nat) (hi polled : Bool) : Dev :=
  let n := if polled then (if plan = 2 then 1 else 2 ^ d.lcf F.LCP_MAC_CFG_MIN_BE p)
    else if hi then (if plan = 2 then d.lcf F.LCP_MAC_CFG_HP_SLOTS p else Config.g3HpSlots.toNat)
    else 2 ^ (d.lp p).be
  let r := d.drawOf n
  r.2.updLp p (fun l => { l with phase := .contend, slots := r.1, readyAt := d.tim.mono, hiPrio := hi, waitCounted := false, segNext := 0 })

/-- The medium is busy from one instant to another: a frame that contends on a plan has counted the slots before it, and counts on after it
(R214); the port has seen a frame (R205). -/
def Dev.mediumBusy (d : Dev) (p plan from_ until_ : Nat) : Dev :=
  let counted := (from_ - d.countFrom p plan) / max 1 (slotC plan)
  d.updLp p (fun l => { l with
    slots := match l.phase with | .contend => l.slots - counted | _ => l.slots
    idleFrom := max l.idleFrom until_
    quietFrom := max l.quietFrom until_
    quietLast := if l.quietFrom + 500000000 ≤ from_ then some from_ else l.quietLast })

/-- The port runs an exchange with a meter as a polled one (R215, R217, R218). -/
def Dev.isPolled (d : Dev) (p m : Nat) : Bool :=
  d.on F.LCP_MAC_STS_PORT_POLL p || (match (d.lp p).polled.find m with | some (_, probe) => !probe | none => false)

/-- The transaction in flight on a port. -/
def Dev.curOf (d : Dev) (pk : Nat) : Option Xfer := (d.psch pk).cur

/-- Change the transaction in flight. -/
def Dev.setCur (d : Dev) (pk : Nat) (x : Xfer) : Dev := d.setPsch pk { d.psch pk with cur := some x }

/-- A transaction is a broadcast. -/
def Xfer.isCast (x : Xfer) : Bool := match x.ask with | .cast _ _ => true | _ => false

/-- An exchange of the transaction in flight starts with the settings that the port now takes (R206, R214, R236, R238): its request contends.
A path query goes out on every enabled plan in turn, as a broadcast (R185, R223; log 126). -/
def Dev.exchange (d : Dev) (p : Nat) : Dev :=
  match d.curOf p with
  | none => d
  | some x =>
    let d0 := d.latch p
    let go := d0.lineGo p x.mix x.viaAlt
    let query := go.path.isEmpty && !x.isCast
    let plan := if x.isCast then ((d0.lp p).castLeft.head?).getD 2 else if query then (d0.plans p).headD 2 else go.plan
    let bps := if x.isCast || query then d0.robust p else go.bps
    if (decide (plan = 2) || (query && (d0.plans p).contains 2)) && decide (16 < scSegments x.bytes bps) then (d0.xferLeave p false).xferFail x 4 0
    else
      let polled := d0.isPolled p x.mix && !x.isCast
      let d1 := d0.setCur p { x with plan := plan, query := query, polled := polled }
      let d2 := d1.updLp p (fun l => { l with seq := (l.seq + 1) % 256, excused := false, ackBy := none
                                              castLeft := if x.isCast then l.castLeft else if query then d0.plans p else [] })
      let d3 := d2.ready p plan (query || polled) polled
      let d4 := if x.isCast then d3 else d3.bump F.LCP_MAC_TX p
      if query then d4.bump F.LCP_RT_QUERY p else d4

/-- Plans whose band overlaps that of a transmitting plan, widened by 10 kHz at each edge (R186): a plan overlaps itself; the band of
Sculler mode is the span of its unmasked carriers; units of 0.1 Hz. -/
def Dev.overlaps (d : Dev) (p tx rx : Nat) : Bool :=
  let lowHz := fun (k : Nat) => (k + 5) * 78125
  if tx = rx then true
  else if tx ≠ 2 ∧ rx ≠ 2 then false
  else
    let c := if tx = 2 then rx else tx
    let ks := (List.range 58).filter (fun k => bitAt (d.scMask p) k)
    let lo := lowHz (ks.headD 0)
    let hi := lowHz (ks.getLastD 0)
    let band := if c = 0 then (359375, 906250) else (1546875, 4875000)
    decide (lo ≤ band.2 + 100000 ∧ band.1 ≤ hi + 100000)

/-- The frame on its way leaves the port: transmission starts, with the gain stage at 0 dB (R171, R186, R196). -/
def Dev.lineStart (d : Dev) (p plan symbols : Nat) (beacon : Bool) (seg last : Nat) : Dev :=
  d.updLp p (fun l => { l with
    phase := .sending, tx := some { plan := plan, symbols := symbols, start := d.tim.mono, beacon := beacon, seg := seg, segLast := last }
    blanked := (d.plans p).filter (d.overlaps p plan), blankUntil := none, gain := 0 })

/-- The gain stage tracks the noise floor while no chain holds a frame (R187). -/
def Dev.noiseTrack (d : Dev) (p : Nat) : Nat := min (d.rd F.LCP_AFE_CFG_PGA_MAX p) (Config.noiseGain p d.tim.mono).toNat

/-- NAV of a polled exchange's request, and of others (R213, R216), in units of 32 µs. -/
def Dev.navOf (d : Dev) (p : Nat) (go : LineGo) (x : Xfer) : Nat :=
  if x.polled then min 65535 (ceilDiv (d.lineTo p go x.bytes + scFrame (d.lcf F.LCP_MAC_CFG_RSP_MAX p) go.bps) (usC 32)) else ceilDiv 820 32

/-- The header of a request, a query or a block (R211). -/
def Dev.lineHdr (d : Dev) (p : Nat) (go : LineGo) (x : Xfer) : MacHdr :=
  let l := d.lp p
  let first := (go.path.head?.map (·.1)).getD 0xFFFF
  let nb := (l.nbOf first).map (·.2)
  let short := match d.ctxAt x.mix with | some c => c.short | none => 0
  let ask := match nb with | some n => n.reqDue | none => false
  let cast := match x.ask with | .cast _ _ => true | _ => false
  { typ := if x.query then 4 else 0, poll := x.polled, tmreq := ask, up := false, seq := l.seq
    tmap := match nb with | some n => if ask || n.mapDue then some (n.rxTmi, n.rxRate, n.rxMap) else none | none => none
    dest := if x.query || cast then 0xFFFF else first, src := 0, final := if cast then 0xFFFF else short
    nav := if (x.query && !x.polled) || cast then 0 else d.navOf p go x
    hops := if x.query then d.lcf F.LCP_MESH_CFG_MAX_HOPS p else go.path.length
    path := if x.query || cast then [] else go.path }

/-- The 25 bytes of a tone map (R211). -/
def tmapBytes (tmi rate : Nat) (map : List Nat) : List Byte :=
  leBytes 1 (tmi % 16 + 16 * (rate % 4)) ++ leBytes 24 (sumNat (map.zipIdx.map (fun e => e.1 % 8 * 2 ^ (3 * e.2))))

/-- The bytes of a Sculler MAC header (R211). -/
def MacHdr.bytes (h : MacHdr) : List Byte :=
  layBytes [(1, h.typ % 16 + 16 * b2n h.poll + 32 * b2n h.tmreq + 64 * b2n h.tmap.isSome + 128 * b2n h.up), (1, h.seq), (2, h.dest), (2, h.src),
    (2, h.final), (2, h.nav), (2, h.zcDelay), (2, h.resid), (1, h.hops % 16 + 16 * (h.path.length % 16)), (1, h.cost)]
  ++ h.path.flatMap (fun e => leBytes 2 e.1 ++ leBytes 1 e.2) ++ (match h.tmap with | some (t, r, l) => tmapBytes t r l | none => [])

/-- The 16 bytes of a beacon body (R452, R453): its time is that of the end of the preamble, `lead` ns after the start. -/
def Dev.beaconBody (d : Dev) (pk lead : Nat) : List Byte :=
  let rad := decide (2 ≤ pk)
  let n := pk - 2
  let flags := b2n d.timeValid + 2 * b2n d.tim.holdSince.isSome + 4 * b2n (d.tim.stepped.contains pk)
  let dly := if rad then d.rd F.TIM_BCN_CFG_RAD_DLY else d.rd F.TIM_BCN_CFG_LINE_DLY
  leBytes 1 1 ++ leBytes 1 flags ++ leBytes 1 0 ++ leBytes 1 (if rad then 0 else d.lcf F.LCP_MESH_CFG_HYST pk)
    ++ leBytes 8 (d.nowNs + lead + 1000 * dly)
    ++ leBytes 1 (if rad then d.rd F.RAD_FLOOD_CFG_TTL n + 16 * d.rd F.RAD_FLOOD_CFG_SUPP n + 128 * b2n (d.on F.RAD_FLOOD_CFG_EN n) else 0)
    ++ leBytes 1 (if rad then d.rd F.RAD_FLOOD_CFG_RWIN n else 0) ++ leBytes 1 (if rad then d.rd F.RAD_FLOOD_CFG_RSLOT n else 0) ++ leBytes 1 0

/-- A beacon has been sent on a port (R452, R457). -/
def Dev.beaconOut (d : Dev) (pk lead : Nat) : Dev :=
  let d1 := (d.emit (.beacon pk (d.beaconBody pk lead))).bumpW F.TIM_BCN_SENT
  { d1 with tim := { d1.tim with stepped := d1.tim.stepped.filter (· ≠ pk) } }

/-- What a frame that contends is: plan, bits_per_symbol, bytes; broadcasts and beacons go in ROBUST, on a compatible plan in ROBO. -/
def Dev.contends (d : Dev) (p : Nat) : Option (Nat × Nat × Nat) :=
  match (d.psch p).beacon, (d.lp p).bcnLeft with
  | true, k :: _ => some (k, d.mapBps p k 0 0 [], 32)
  | _, _ => match d.curOf p with
    | none => none
    | some x => some (x.plan, if x.isCast || x.query then d.mapBps p x.plan 0 0 [] else (d.lineGo p x.mix x.viaAlt).bps, x.bytes)

/-- The plan on which a frame contends; Sculler mode where none does. -/
def Dev.contendPlan (d : Dev) (p : Nat) : Nat := match d.contends p with | some c => c.1 | none => 2

/-- How a frame goes on the line (R176, R180, R188, R204, R212, R234): `n` is the neighbour it is for, and its tone map if that is valid. -/
def Dev.lineSig (d : Dev) (p plan : Nat) (n : Option Nb) (bytes bps symbols seg last : Nat) : LineSig :=
  let tm := match n with | some b => if b.txValid then (b.txTmi, b.txRate, b.txMap) else (0, 0, []) | none => (0, 0, [])
  let pad := if plan = 2 then symbols * bps - (8 * bytes + 64) else 0
  { fc := if plan = 2 then fcWord tm.1 tm.2.1 symbols else 0
    modulation := if plan = 2 ∨ tm.1 = 0 then 0 else tm.2.1
    loads := if plan = 2 then loadsOn (d.scMask p) tm.1 tm.2.2 else tm.2.2
    atten := d.txAtten p plan, symbols := symbols
    segHdr := if plan = 2 then segHeader (d.lp p).seq seg last pad else 0
    gmk := if plan = 2 then none else some (Config.gmkGen p).toNat
    fragments := if plan = 2 then 1 else 1 + (Config.g3Fragments plan bytes).toNat }

/-- The DAC samples of a Sculler beacon (R178 to R183, R211, R452). -/
def Dev.beaconWave (d : Dev) (p : Nat) (h : MacHdr) (body : List Byte) (sig : LineSig) : List (BitVec 16) :=
  frameWave (d.scMask p) (frameSyms (d.scMask p) 0 0 [] sig.symbols sig.segHdr (sig.segHdr / 65536 % 256) (MacHdr.bytes h ++ body))

/-- LCP_STS.GATED: the gate holds a line port's transmit request, or has cut its frame (R172). -/
def Dev.lineHeld (d : Dev) (p : Nat) : Bool :=
  !d.gateOpen && d.on F.LCP_STS_GATED p && (match (d.lp p).phase with | .contend => true | .failed => true | _ => false)

/-- The gate closes during a frame (R172): the line is released at once without a marker, and the frame counts as a failed attempt. -/
def Dev.lineGated (d : Dev) (p : Nat) : Dev :=
  match (d.lp p).tx with
  | none => d
  | some t =>
    let d1 := (d.updLp p (fun l => { l with
      tx := none, blankUntil := some (d.tim.mono + usC (d.rd F.LCP_AFE_CFG_BLANK p)), idleFrom := max l.idleFrom d.tim.mono
      quietFrom := d.tim.mono, gain := d.noiseTrack p })).wrb F.LCP_STS_GATED p true
    if t.beacon then (d1.updLp p (fun l => { l with phase := .idle, bcnLeft := [] })).setPsch p { d1.psch p with beacon := false }
    else d1.updLp p (fun l => { l with phase := .failed, excused := true })

/-- A beacon leaves on a plan (R185, R451, R452): its time is that of the end of its preamble (R453); a Sculler one is given as its samples. -/
def Dev.sendBeacon (d : Dev) (p plan bps bytes : Nat) : Dev :=
  let h : MacHdr := { typ := 2, up := false, dest := 0xFFFF, src := 0 }
  let sig := d.lineSig p plan none bytes bps (frameSymbols plan bytes bps) 0 0
  let lead := 1000 * d.rd F.LCP_AFE_CFG_DRV_LEAD p + (if plan = 2 then 864000 else (Config.g3Pre plan).toNat)
  let d1 := d.emit (.lineTx p plan h none bytes sig)
  (if plan = 2 then d1.emit (.lineWave p (d.beaconWave p h (d.beaconBody p lead) sig)) else d1).beaconOut p lead

/-- A frame of the transaction in flight leaves. -/
def Dev.sendXfer (d : Dev) (p plan bps n seg last : Nat) (x : Xfer) : Dev :=
  let h := d.lineHdr p (d.lineGo p x.mix x.viaAlt) x
  let nb := (d.lp p).nbOf h.dest
  let d1 := d.emit (.lineTx p plan h (if x.isCast then none else some x.mix) n
    (d.lineSig p plan (nb.map (·.2)) n bps (frameSymbols plan n bps) seg last))
  match nb with
  | some (i, _) => d1.updNb p i (fun b => { b with mapDue := false, rxSent := b.rxSent || h.tmap.isSome })
  | none => d1

/-- The backoff has run out: the frame is sent, one segment of it where it needs several, or waits for the gate or for the governor (R171,
R172, R199, R212, R214). -/
def Dev.lineSend (d : Dev) (p : Nat) : Dev :=
  match (d.lp p).phase, d.contends p with
  | .contend, some (plan, bps, bytes) =>
    let d0 := d.toMono (d.sendAt p plan)
    if !d0.gateOpen then d0.wrb F.LCP_STS_GATED p true
    else if !d0.govStarts p plan then
      if (d0.lp p).waitCounted then d0 else (d0.updLp p (fun l => { l with waitCounted := true })).bump F.LCP_GOV_TRUNC_WAIT p
    else
      let beacon := (d0.psch p).beacon
      let seg := (d0.lp p).segNext
      let last := if plan = 2 then scSegments bytes bps - 1 else 0
      let n := if last = 0 then bytes else segBytes bytes bps seg
      let d1 := (d0.wrb F.LCP_STS_GATED p false).lineStart p plan (frameSymbols plan n bps) beacon seg last
      if beacon then d1.sendBeacon p plan bps n
      else match d0.curOf p with
        | none => d1
        | some x => d1.sendXfer p plan bps n seg last x
  | _, _ => d

/-! ## How an exchange ends (R209, R214, R217, R218, R223) -/

/-- The port reports that a meter has left meter polling (R160, R217). -/
def Dev.leavePolling (d : Dev) (p m : Nat) : Dev :=
  if ((d.lp p).polled.find m).isNone then d
  else (d.updLp p (fun l => { l with polled := l.polled.del m })).editCtx m (fun c =>
    { c with poll := pollBit (pollBit c.poll 0 false) 1 false })

/-- The count of exchanges of the 60 s window (R218). -/
def Dev.windowCount (d : Dev) (p : Nat) (failed : Bool) : Dev :=
  if (d.lp p).excused then d
  else d.updLp p (fun l => { l with winEx := l.winEx + 1, winFail := l.winFail + b2n failed })

/-- The first hop of an exchange notes its failure (R220, R227). -/
def Dev.histFail (d : Dev) (p : Nat) (go : LineGo) : Dev :=
  match go.path.head? with
  | none => d
  | some e => match (d.lp p).nbOf e.1 with
    | some (i, _) => d.updNb p i (fun n => { n with hist := (2 * n.hist + 1) % 65536 })
    | none => d

/-- An answered exchange: backoff, polling run, route (R214, R217, R223, R228). -/
def Dev.lineOk (d : Dev) (p : Nat) (x : Xfer) : Dev :=
  let d1 := if x.polled then d else d.updLp p (fun l => { l with be := d.lcf F.LCP_MAC_CFG_MIN_BE p })
  let d2 := match (d1.lp p).polled.find x.mix with
    | some (n, probe) =>
      if probe && !x.polled then d1.leavePolling p x.mix
      else if x.polled then
        d1.updLp p (fun l => { l with polled := l.polled.put x.mix (n + 1, decide (d1.lcf F.LCP_POLL_CFG_POLL_OK p ≤ n + 1)) })
      else d1
    | none => d1
  let l := d2.lp p
  let d3 := match l.routes.find x.mix with
    | some r => d2.setLp p { l with routes := l.routes.put x.mix (if x.viaAlt && r.alt.isSome then { r with lastOk := d.nowS, altFails := 0 }
        else { r with lastOk := d.nowS, fails := 0, failed := false }) }
    | none => match l.nbMix x.mix with
      | some (_, n) => d2.learnRoute p x.mix [(n.short, d2.txBps p n)] (d2.hopCost p n) (if x.plan = 2 then 0 else 1)
      | none => d2
  d3.windowCount p false

/-- A failed exchange (R209, R214, R217, R223). -/
def Dev.lineFail (d : Dev) (p : Nat) (x : Xfer) : Dev :=
  let d1 := (if x.polled then d else d.updLp p (fun l => { l with be := min (l.be + 1) (d.lcf F.LCP_MAC_CFG_MAX_BE p) })).bump F.LCP_MAC_FAIL p
  let d2 := match (d1.lp p).polled.find x.mix with
    | some _ => d1.updLp p (fun l => { l with polled := l.polled.put x.mix (0, false) })
    | none => d1
  let d3 := (d2.histFail p (d2.lineGo p x.mix x.viaAlt)).windowCount p true
  let d4 := if x.query then d3 else d3.failPath p x.mix x.viaAlt
  if x.shadow then d4.shadowFail x.mix else d4

/-- The other path, where the meter has one (R223). -/
def Dev.otherPath (d : Dev) (p m : Nat) (viaAlt : Bool) : Bool :=
  match (d.lp p).routes.find m with | some r => if r.alt.isSome then !viaAlt else false | none => false

/-- A block of a pass has gone out on one plan: the next plan, or the next block, or the pass ends (R185, R608). -/
def Dev.castSent (d : Dev) (pk g b : Nat) : Dev :=
  match d.img.camps.find g with
  | none => d
  | some c =>
    let ps := c.passes.getD pk {}
    let total := match d.img.slots.find c.slot with | some s => s.blocks | none => 0
    let ps' : Pass := if b + 1 < total then { ps with next := some (b + 1) } else { run := ps.run, next := none, endedAt := some d.nowNs }
    let others := d.img.camps.keys.filter (fun k => decide (k ≠ g) && (match d.img.camps.find k with | some y => (y.passes.getD pk {}).next.isSome | none => false))
    let turn := if b + 1 < total then d.img.turn.put pk g else (match others.head? with | some k => d.img.turn.put pk k | none => d.img.turn.del pk)
    ({ d with img := { d.img with camps := d.img.camps.put g { c with passes := (Tab.put c.passes pk ps') }, turn := turn } } : Dev).bumpW F.UPD_BLOCKS_SENT

/-- A broadcast that a transaction carried has been sent: nothing answers it. -/
def Dev.castEnd (d : Dev) (pk : Nat) (x : Xfer) : Dev :=
  let d1 := d.xferLeave pk false
  match x.ask with
  | .cast g b => match x.order with
    | some id => d1.orderDone id 0 1 0 false
    | none => d1.castSent pk g b
  | _ => d1

/-- A head end's block whose next plan is still to come waits for the next boundary. -/
def Dev.castAgain (d : Dev) (x : Xfer) : Dev :=
  if d.isField then { d with sch := { d.sch with wait := { x with made := 0, started := none } :: d.sch.wait } } else d

end Sys2Proof.Machine
end

