-- ==== Sys2Proof/Machine/Line.lean ====
section
/-! DEFINITION. Sys2Proof/Machine/Line.lean: the commands of the line ports (R170 to R238), but for those they share with other ports. -/

namespace Sys2Proof.Machine

/-- A port runs: ON, or STOPPING while it finishes its exchange (R631). -/
def Dev.portRuns (d : Dev) (fix : Nat) : Bool := d.live && (match (d.fnOf fix).st with | .on | .stopping => true | _ => false)

/-! ## Receiving (R184 to R187, R194, R211, R212) -/

/-- The short address of the meter that an upward frame comes from (R211): its sender's where no relay carried it, else the far end's. -/
def LineRx.orig (rx : LineRx) : Nat :=
  if rx.hdr.path.isEmpty && decide (rx.plan = 2 ∨ rx.hdr.hops ≤ 1) then rx.hdr.src else rx.hdr.final

/-- What a line port hands on is of KIND 0, whatever its plan (R114). -/
def LineRx.pay0 (rx : LineRx) : Pay :=
  match rx.pay with | .frame f => .frame { f with kind := 0 } | .join j => .join { j with kind := 0 } | .none => .none

/-- The meter of a line frame: a short address resolves through the port's map (R117), a content's address through the lookup (R114). -/
def Dev.lineMix (d : Dev) (p : Nat) (rx : LineRx) : Option Nat :=
  match rx.pay with
  | .join j => d.lookup 0 j.addr
  | .frame f => if (LineRx.orig rx) ≠ 0 then (d.ctx.shorts.getD p []).find (LineRx.orig rx) else d.lookup 0 f.addr
  | .none => if (LineRx.orig rx) ≠ 0 then (d.ctx.shorts.getD p []).find (LineRx.orig rx) else none

/-- N_SYM of a frame: as its frame control has it; none of it counts where that fails its check (R180). -/
def LineRx.symbols (rx : LineRx) : Nat := if fcGood rx.fc then fcSyms rx.fc else 0

/-- Frame control passes its check (R180). -/
def LineRx.fcPass (rx : LineRx) : Bool := if rx.plan = 2 then fcGood rx.fc && decide (fcSyms rx.fc ≠ 0) else rx.fcOk

/-- The time from the end of a frame's preamble to its end, ns (R179). -/
def LineRx.tail (rx : LineRx) : Nat := if rx.plan = 2 then 144000 * (2 + (LineRx.symbols rx)) else rx.after

/-- T_frm of a received frame, cycles. -/
def LineRx.frm (rx : LineRx) : Nat := if rx.plan = 2 then usC (144 * (8 + (LineRx.symbols rx))) else (rx.pre + rx.after) / 2

/-- A frame answers the exchange in progress (R206, R208): it started in time, is of this exchange and from its meter. A path query is open to
an answer while it still goes out on other plans. -/
def Dev.lineReply (d : Dev) (p start : Nat) (rx : LineRx) (mix : Option Nat) : Bool :=
  let of_ := fun (x : Xfer) => decide (mix = some x.mix) && (rx.hdr.typ = 1 || rx.hdr.typ = 5) && decide (rx.plan ≠ 2 ∨ rx.hdr.seq = (d.lp p).seq)
  match (d.lp p).phase, d.curOf p with
  | .awaiting t, some x => of_ x && decide ((if rx.plan = 2 then start else d.tim.mono) ≤ t)
  | .contend, some x => of_ x && x.query && decide ((d.lp p).castLeft.length < (d.plans p).length)
  | _, _ => false

/-- A route reply or a route error of a compatible plan (R224): the route entry holds the next hop with the reply's hop count and cost; the
reply to the discovery of the exchange in progress sends its request on its way. -/
def Dev.routeMsg (d : Dev) (p : Nat) (rx : LineRx) : Dev :=
  match (d.ctx.shorts.getD p []).find rx.hdr.final with
  | none => d
  | some m =>
    if rx.hdr.error then d.routeError p m
    else if rx.hdr.reply then
      let bps := match (d.lp p).nbOf rx.hdr.src with | some (_, n) => d.txBps p n | none => 0
      let d1 := d.learnRoute p m [(rx.hdr.src, bps)] rx.hdr.cost (max 1 rx.hdr.hops)
      match (d1.lp p).phase, d1.curOf p with
      | .awaiting _, some x =>
        if x.query ∧ x.mix = m then (d1.setCur p { x with query := false, plan := rx.plan }).ready p rx.plan x.polled x.polled else d1
      | _, _ => d1
    else d

/-- The neighbour acknowledges a compatible frame, or answers it (R210). -/
def Dev.lineAcked (d : Dev) (p : Nat) (rx : LineRx) : Dev :=
  if rx.plan ≠ 2 && decide (rx.hdr.dest = 0) && (match d.curOf p with
      | some x => decide (((d.lineGo p x.mix x.viaAlt).path.head?.map (·.1)) = some rx.hdr.src) | none => false)
  then d.updLp p (fun l => { l with ackBy := none })
  else d

/-- A compatible frame that names the NVD alone is acknowledged at once, where the gate and the governor let a frame start (R210; log 127). -/
def Dev.ackSend (d : Dev) (p : Nat) (rx : LineRx) : Dev :=
  if rx.plan ≠ 2 && decide (rx.hdr.dest = 0) && !rx.hdr.ack && d.gateOpen && d.govStarts p rx.plan then d.emit (.lineAck p rx.plan rx.hdr.src) else d

/-- A whole MAC frame with a good check: neighbour, phase, and its content to the port's ingest queue (R35). A bow learns the route of an
upward Sculler frame at once, since it processes no frame (R225; log 128). -/
def Dev.lineMac (d : Dev) (p start rxNs : Nat) (rx : LineRx) (snrs : List Int) : Dev :=
  let mix := d.lineMix p rx
  let d1 := (d.hearNb p rx snrs mix).lineAcked p rx
  let d2 := match mix with | some m => d1.phSample p m rxNs rx.hdr rx.plan | none => d1
  if rx.hdr.dest ≠ 0 || rx.hdr.ack then d2
  else
    let d3 := (d2.ackSend p rx).routeMsg p rx
    let own := match (d3.lp p).nbOf rx.hdr.src with | some (_, n) => (d3.hopCost p n, d3.rxBps p n) | none => (0, 0)
    let hops := if rx.plan = 2 then rx.hdr.path.length + 1 else max 1 rx.hdr.hops
    let cost := if rx.plan = 2 then min 255 (rx.hdr.cost + own.1) else rx.hdr.cost
    let via : Via := { attach := p + 1, rx := rxNs, fin := d.nowNs, hops := hops, cost := cost, snr := snrMean snrs
                       path := if rx.plan = 2 then rx.hdr.path else [(rx.hdr.src, own.2)], short := rx.hdr.src, orig := (LineRx.orig rx)
                       compat := decide (rx.plan ≠ 2), relayed := decide (1 < hops), txrx := (d.lp p).tx.isSome }
    let d4 := match mix with
      | some m => if d3.isBow && decide (rx.plan = 2) && rx.hdr.up then d3.learnLine p m rx.hdr.path rx.hdr.src cost else d3
      | none => d3
    match (LineRx.pay0 rx) with
    | .none => d4
    | .join j => d4.offer p ⟨0, rx.bytes, .join j via⟩
    | .frame f =>
      let reply := d4.lineReply p start rx mix
      let d5 := if reply then d4.updLp p (fun l => { l with phase := .answered, castLeft := [], ackBy := none }) else d4
      d5.offer p ⟨0, rx.bytes, .frame f { via with reply := reply }⟩

/-- The exchange in progress fails with the returning frame that fails its check (R208): one on the plan of the exchange. -/
def Dev.lineBad (d : Dev) (p plan : Nat) : Dev :=
  match (d.lp p).phase, d.curOf p with
  | .awaiting _, some x => if x.plan = plan then d.updLp p (fun l => { l with phase := .failed, seg := none, ackBy := none }) else d
  | _, _ => d

/-- A segment joins the frame it belongs to (R212): the last one delivers it; one out of order voids it, and with it the exchange whose
answer it was. -/
def Dev.lineSeg (d : Dev) (p start rxNs : Nat) (rx : LineRx) (snrs : List Int) : Dev :=
  let h := rx.hdr
  if h.segLast = 0 then d.lineMac p start rxNs rx snrs
  else match (d.lp p).seg with
    | some s =>
      if s.src = h.src ∧ s.seq = h.seq ∧ s.next = h.seg ∧ s.last = h.segLast then
        if h.seg = h.segLast then (d.updLp p (fun l => { l with seg := none })).lineMac p s.start s.rx rx snrs
        else d.updLp p (fun l => { l with seg := some { s with next := h.seg + 1, ended := d.tim.mono, frm := (LineRx.frm rx) } })
      else ((d.updLp p (fun l => { l with seg := none })).bump F.LCP_SEG_DROP p).lineBad p 2
    | none =>
      if h.seg = 0 then d.updLp p (fun l => { l with
        seg := some { src := h.src, seq := h.seq, next := 1, last := h.segLast, start := start, rx := rxNs, ended := d.tim.mono, frm := (LineRx.frm rx) } })
      else d

/-- The gain stage at the end of a frame (R187): 0 dB while the port sends; held by the first chain that had a frame; else what the frame's
preamble asked for, up to PGA_MAX. -/
def Dev.rxGain (d : Dev) (p : Nat) (rx : LineRx) : Nat :=
  if (d.lp p).tx.isSome then 0 else min (d.rd F.LCP_AFE_CFG_PGA_MAX p) (rx.held.getD rx.pga)

/-- The impulse detector runs over what the ADC took before and during a frame (R194): the symbols erased, the samples kept. -/
def Dev.impulse (d : Dev) (p : Nat) (rx : LineRx) : List Bool × List Int :=
  let k := d.rd F.LCP_IMP_CFG_K p
  impSyms k (d.rd F.LCP_IMP_CFG_MIN p) (impRun k (d.lp p).imp rx.before).2 (rx.syms.map (·.adc))

/-- The SNR of each carrier over a frame's data symbols that are not erased (R188). -/
def LineRx.snrs (rx : LineRx) (erased : List Bool) : List Int :=
  snrAverage ((rx.syms.zip erased).filterMap (fun e => if e.2 then none else some e.1.snr))

/-- The MAC's security of a compatible frame (R234): a secured frame verifies under the port's group master key of its generation. -/
def Dev.gmkGood (d : Dev) (p : Nat) (rx : LineRx) : Bool :=
  match rx.gmk with
  | none => true
  | some g => decide (rx.plan = 2) || decide (d.gmkOf p g.1 = some g.2)

/-- What a frame does to the receiver whatever its checks: gain, impulse detector, medium. -/
def Dev.lineHeard (d : Dev) (p : Nat) (rx : LineRx) (imp : List Bool × List Int) : Dev :=
  let d1 := d.mediumBusy p (d.contendPlan p) (d.tim.mono - (LineRx.frm rx)) d.tim.mono
  (d1.updLp p (fun l => { l with
    imp := imp.2, gainRx := d.rxGain p rx, gain := if l.tx.isSome then 0 else if rx.held.isSome then d.rxGain p rx else d.noiseTrack p })).bump
    F.LCP_IMP_SYM p (imp.1.filter id).length

/-- A receive chain has decoded a frame. -/
def Dev.lineRx (d : Dev) (p : Nat) (rx : LineRx) : Dev :=
  if !d.portRuns p || !(d.plans p).contains rx.plan || (d.lp p).blanked.contains rx.plan then d
  else
    let imp := d.impulse p rx
    let d1 := d.lineHeard p rx imp
    if !(LineRx.fcPass rx) then d1.bump F.LCP_RX_FCS p
    else if !rx.ok then (d1.bump F.LCP_RX_FCS p).lineBad p rx.plan
    else
      let d2 := d1.bump F.LCP_RX_OK p
      if (rx.plan = 2 ∧ 6 ≤ rx.hdr.typ) || !d2.gmkGood p rx then d2
      else
        let d3 := if rx.plan = 2 then d2.updLp p (fun l => { l with navUntil := max l.navUntil (d.tim.mono + usC (32 * rx.hdr.nav)) }) else d2
        d3.lineSeg p (d.tim.mono - (LineRx.frm rx)) (d.nowNs - (LineRx.tail rx)) rx ((LineRx.snrs rx) imp.1)

/-- LINE_FRAME_RX (R184): a receive chain decodes a whole frame. -/
def execLineFrameRx (port : Fin 2) (rx : LineRx) (s : State) : Host.Outcome State Fault Refusal := s.go (fun d => d.lineRx port rx)

/-- SEGMENT_TIMEOUT (R212): a segment that has not come within T_ifs and the T_frm of the one before it voids the frame. -/
def execSegmentTimeout (port : Fin 2) (s : State) : Host.Outcome State Fault Refusal :=
  s.go (fun d => match d.portRuns port, (d.lp port).seg with
    | true, some g => (((d.toMono (g.ended + usC 500 + g.frm)).updLp port (fun l => { l with seg := none })).bump F.LCP_SEG_DROP port).lineBad port 2
    | _, _ => d)

/-! ## Sending -/

/-- BACKOFF_EXPIRY (R214): the backoff has run out, and the frame is sent. -/
def execBackoffExpiry (port : Fin 2) (s : State) : Host.Outcome State Fault Refusal :=
  s.go (fun d => if d.portRuns port then d.lineSend port else d)

/-- Four frames in a row showed no current: DRV_OPEN (R204). -/
def Dev.drvOpen (d : Dev) (p : Nat) (t : LineTx) : Dev :=
  let n := if t.sampled && t.mid then (d.lp p).midRun + 1 else 0
  let d1 := d.updLp p (fun l => { l with midRun := if 4 ≤ n then 0 else n })
  if 4 ≤ n then (d1.wrb F.LCP_STS_DRV_OPEN p true).fault 0x0F1A 5 3 p else d1

/-- How long an exchange waits for the answer, cycles: T_to; a query, for as long as any plan it went out on may take (log 126). -/
def Dev.lineWait (d : Dev) (p : Nat) (x : Xfer) : Nat :=
  let go := d.lineGo p x.mix x.viaAlt
  if x.query then (d.plans p).foldl (fun a k => max a (d.lineTo p { go with plan := k } x.bytes)) 0 else d.lineTo p go x.bytes

/-- What follows a transmission whose last sample was at `t4`: the next segment, T_ifs on (R212); the next plan of a query, a block or, at a
boundary of its own, a beacon (R185); else the wait for the answer, on a compatible plan first for the acknowledgement (R210). -/
def Dev.lineAfter (d : Dev) (p : Nat) (t : LineTx) (t4 : Nat) : Dev :=
  if t.beacon then
    let d1 := d.updLp p (fun l => { l with bcnLeft := l.bcnLeft.drop 1, phase := .idle, waitCounted := false })
    d1.setPsch p { d1.psch p with beacon := false }
  else match d.curOf p with
    | none => d.updLp p (fun l => { l with phase := .idle })
    | some x =>
      let left := (d.lp p).castLeft.drop 1
      if t.cut.isNone && decide (t.seg < t.segLast) then
        d.updLp p (fun l => { l with phase := .contend, segNext := t.seg + 1, readyAt := t4 + usC 500, waitCounted := false })
      else if x.isCast then
        let d1 := d.updLp p (fun l => { l with castLeft := left, phase := .idle })
        if left.isEmpty then d1.castEnd p x else (d1.xferLeave p false).castAgain x
      else if t.cut.isSome then d.updLp p (fun l => { l with phase := .failed, castLeft := [] })
      else match x.query, left with
        | true, k :: _ => ((d.updLp p (fun l => { l with castLeft := left })).setCur p { x with plan := k }).ready p k true x.polled
        | _, _ => d.updLp p (fun l => { l with
            phase := .awaiting (t4 + d.lineWait p x), castLeft := []
            ackBy := if x.plan = 2 ∨ x.query then none else some (t4 + (Config.g3AckWait x.plan).toNat / 2) })

/-- A transmission ends (R172, R186, R198, R205): LPn_DRV_EN falls; the chains stay blanked until BLANK after the last sample, and the gain
stage goes from 0 dB back to the step that the noise floor asks for (R187). -/
def Dev.lineTxEnd (d : Dev) (p gain : Nat) : Dev :=
  match (d.lp p).tx with
  | none => d
  | some t =>
    let t4 := d.txLast p t
    let d1 := d.toMono (d.txDown p t)
    let d2 := (d1.mediumBusy p t.plan t.start t4).updLp p (fun l => { l with
      tx := none, blankUntil := some (t4 + usC (d.rd F.LCP_AFE_CFG_BLANK p)), gain := min (d.rd F.LCP_AFE_CFG_PGA_MAX p) gain })
    ((d2.wr F.LCP_GOV_STS_LAST_FRAME p (in10uJ t.energy)).drvOpen p t).lineAfter p t t4

/-- LINE_TX_END (R172): `gain` is the step of the gain stage that the noise floor asks for (R187). -/
def execLineTxEnd (port : Fin 2) (gain : Fin 8) (s : State) : Host.Outcome State Fault Refusal :=
  s.go (fun d => if d.portRuns port then d.lineTxEnd port gain else d)

/-- BLANK_END (R186): the blanked chains are released. -/
def execBlankEnd (port : Fin 2) (s : State) : Host.Outcome State Fault Refusal :=
  s.go (fun d => match (d.lp port).blankUntil with
    | some t => (d.toMono t).updLp port (fun l => { l with blanked := [], blankUntil := none })
    | none => d)

/-! ## The governor (R196 to R202) -/

/-- The power of a sample, µV·µA (R196). -/
def Dev.samplePower (d : Dev) (p v i : Nat) : Nat :=
  ((((v : Int) - 8192) * (d.rd F.LCP_SNS_CAL_VSCALE p : Int)) * (((i : Int) - 8192) * (d.rd F.LCP_SNS_CAL_ISCALE p : Int))).toNat

/-- The frame in progress is over by a sample: it is closed before that sample counts (R196 to R198). -/
def Dev.closeBy (d : Dev) (p n : Nat) : Dev :=
  match (d.lp p).tx with
  | some t => if d.txDown p t < 125 * n then d.lineTxEnd p (d.noiseTrack p) else d
  | none => d

/-- A sense sample: both sums, then the truncation condition. -/
def Dev.govSample (d : Dev) (p v i : Nat) : Dev :=
  let n := max ((d.lp p).sample + 1) d.sampleNo
  let d1 := (d.closeBy p n).toMono (125 * n)
  let w := d1.samplePower p v i
  let mid := decide (7865 ≤ i ∧ i ≤ 8519)
  (d1.updLp p (fun l => { l with
    sample := n
    win := (if w = 0 then [] else [(n, w)]) ++ l.win.filter (fun e => decide (n < e.1 + 40000))
    tx := l.tx.map (fun t => { t with energy := t.energy + w, sampled := true, mid := t.mid && mid }) })).govCheck p

/-- GOV_SAMPLE (R196): E_win runs at all times. -/
def execGovSample (port : Fin 2) (vsns isns : BitVec 14) (s : State) : Host.Outcome State Fault Refusal :=
  s.go (fun d => if d.live && !absentOff d.grade (F.LCP_STS_STATE.at port) then d.govSample port vsns.toNat isns.toNat else d)

/-- GOV_CAP_WRITE (R201, R205): a frame in progress that meets the condition under the new caps is truncated at once. -/
def execGovCapWrite (port : Fin 2) (val : Word) (s : State) : Host.Outcome State Fault Refusal :=
  s.go (fun d => if d.live then (d.plainWrite (F.LCP_GOV_CAP_WIN_CAP.at port) val.toNat).govCheck port else d)

/-- Why a GO write is refused, the lowest code that holds (R202, R580). -/
def Dev.fuseRefused (d : Dev) (p v : Nat) : Option Nat :=
  if !d.isOff p then some 1
  else if d.on F.GLB_CFG_LOCK_LOCK then some 2
  else if F.LCP_GOV_PROG_KEY.get v ≠ 0xF05E then some 3
  else if d.on F.LCP_STS_OTP_FUSED p || d.on F.LCP_STS_FUSING p then some 4
  else none

/-- A write to LCP_GOV_PROG (R202). -/
def Dev.fuseGo (d : Dev) (p v : Nat) : Dev :=
  if !d.live || F.LCP_GOV_PROG_GO.get v = 0 || absentOff d.grade (F.LCP_GOV_PROG_GO.at p) then d
  else match d.fuseRefused p v with
    | some why => d.record 0x0503 5 1 p why
    | none => (d.wrb F.LCP_STS_FUSING p true).updLp p (fun l => { l with fuseUntil := some (d.tim.mono + 10000000) })

/-- GOV_FUSE_GO (R202). -/
def execGovFuseGo (port : Fin 2) (val : Word) (s : State) : Host.Outcome State Fault Refusal := s.go (fun d => d.fuseGo port val.toNat)

/-- The values that fusing writes: 0 becomes 1 (R205). -/
def Dev.fuseValues (d : Dev) (p : Nat) : Nat × Nat := (max 1 (d.rd F.LCP_GOV_FUSE_WIN p), max 1 (d.rd F.LCP_GOV_FUSE_FRAME p))

/-- Fusing has ended: LCP_GOV_OTP shows the values, record 0x0502. -/
def Dev.fuseDone (d : Dev) (p : Nat) (w : Nat × Nat) : Dev :=
  let d1 := (d.updLp p (fun l => { l with fuseUntil := none })).wrb F.LCP_STS_FUSING p false
  let d2 := ((d1.wrb F.LCP_STS_OTP_FUSED p true).wr F.LCP_GOV_OTP_WIN_HARD p w.1).wr F.LCP_GOV_OTP_FRAME_HARD p w.2
  d2.record 0x0502 5 0 p w.1 w.2

/-- GOV_FUSE_DONE (R202): within 20 ms the hard caps are fused, once for the life of the part. -/
def execGovFuseDone (port : Fin 2) (s : State) : Host.Outcome State Fault Refusal :=
  if (s.dev.lp port).fuseUntil.isSome ∧ (s.die.gov.find port).isNone then
    .next { s with die := { s.die with gov := s.die.gov.put port (s.dev.fuseValues port) }
                   dev := s.dev.fuseDone port (s.dev.fuseValues port) }
  else .next s

/-- The offsets of a line port's RW counters, in the order of R87. -/
def lcpCounters : List Nat := [0x50048, 0x50050, 0x50054, 0x50058, 0x5005C, 0x50420, 0x50424, 0x50428, 0x5042C, 0x50430, 0x50434, 0x50438]

/-- LCP_COUNTER_CLEAR (R205, R238): a write of any value clears the counter, both fields of LCP_GOV_TRUNC. -/
def execLcpCounterClear (port : Fin 2) (counter : Fin 12) (_val : Word) (s : State) : Host.Outcome State Fault Refusal :=
  s.go (fun d => if d.live then d.setWord (lcpCounters.getD counter.val 0 + 0x8000 * port.val) 0 else d)

/-! ## Refresh, age, phase (R190, R192, R226, R229) -/

/-- TM_REFRESH_DUE (R190): PERIOD after the latest refresh, a request rides on the next frame to the neighbour. -/
def execTmRefreshDue (port : Fin 2) (nb : Fin 2048) (s : State) : Host.Outcome State Fault Refusal :=
  s.go (fun d => match d.live, (d.lp port).nbs.find nb with
    | true, some n => (match n.lastTm with | some t => d.toNs ((t + d.rd F.LCP_TM_REFRESH_PERIOD port) * 1000000000) | none => d).updNb port nb
        (fun n => { n with reqDue := true })
    | _, _ => d)

/-- TM_TTL_EXPIRY (R192): the transmit tone map is no longer valid. -/
def execTmTtlExpiry (port : Fin 2) (nb : Fin 2048) (s : State) : Host.Outcome State Fault Refusal :=
  s.go (fun d => match d.live, (d.lp port).nbs.find nb with
    | true, some n => (match n.lastTm with | some t => d.toNs ((t + d.rd F.LCP_TM_REFRESH_TTL port) * 1000000000) | none => d).updNb port nb
        (fun n => { n with txValid := false, reqDue := true })
    | _, _ => d)

/-- A crossing joins those of its phase (R229): those of the latest 64 cycles are kept. POL says which edge marks a positive-going one
(R204); the other marks none. -/
def Dev.zeroCross (d : Dev) (p k : Nat) (rising : Bool) : Dev :=
  if !d.portRuns p || !bitAt (d.rd F.LCP_ZC_CFG_EN p) k || rising == bitAt (d.rd F.LCP_ZC_CFG_POL p) k then d
  else
    let t := d.nowNs - 1000 * d.rd F.LCP_ZC_CFG_DEBOUNCE p
    d.updLp p (fun l => { l with zc := l.zc.zipIdx.map (fun z => if z.2 = k then (t :: z.1).take 65 else z.1) })

/-- ZERO_CROSS_EDGE (R229): an edge of an input, by its phase and whether it rises. -/
def execZeroCrossEdge (port : Fin 2) (edge : Fin 3 × Bool) (s : State) : Host.Outcome State Fault Refusal :=
  s.go (fun d => d.zeroCross port edge.1 edge.2)

/-- A 60 s window of exchanges ends (R218). -/
def Dev.pollWindow (d0 : Dev) (p : Nat) : Dev :=
  let d := d0.toMono ((d0.lp p).winStart + 30000000000)
  let l := d.lp p
  let pct := if l.winEx = 0 then 0 else 100 * l.winFail / l.winEx
  let inPoll := d.on F.LCP_MAC_STS_PORT_POLL p
  let good := if pct < d.lcf F.LCP_POLL_CFG_PW_OFF p then l.goodWins + 1 else 0
  let d1 := (d.setLp p { l with winEx := 0, winFail := 0, winStart := d.tim.mono, goodWins := if inPoll then good else 0 }).wr F.LCP_MAC_STS_FAIL_PCT p pct
  if !inPoll && decide (d.lcf F.LCP_POLL_CFG_PW_EN p = 1) && decide (d.lcf F.LCP_POLL_CFG_PW_MIN p ≤ l.winEx) && decide (d.lcf F.LCP_POLL_CFG_PW_ON p ≤ pct) then
    (d1.wrb F.LCP_MAC_STS_PORT_POLL p true).record 0x0510 5 0 p pct
  else if inPoll && decide (5 ≤ good) then
    ((d1.updLp p (fun l => { l with goodWins := 0 })).wrb F.LCP_MAC_STS_PORT_POLL p false).record 0x0511 5 0 p pct
  else d1

/-- PORT_POLL_WINDOW (R218). -/
def execPortPollWindow (port : Fin 2) (s : State) : Host.Outcome State Fault Refusal :=
  s.go (fun d => if d.portRuns port && !d.isBow then d.pollWindow port else d)

/-- NEIGHBOUR_AGE_EXPIRY (R226). -/
def execNeighbourAgeExpiry (port : Fin 2) (nb : Fin 2048) (s : State) : Host.Outcome State Fault Refusal :=
  s.go (fun d => match d.live, (d.lp port).nbs.find nb with
    | true, some n => (d.toNs ((n.lastHeard + 60 * d.lcf F.LCP_MESH_CFG_NB_AGE port) * 1000000000)).updNb port nb (fun n => { n with stale := true })
    | _, _ => d)

/-! ## Windows (R227, R228, R237) -/


/-- The 128 bytes of a neighbour entry (R227). -/
def Dev.nbBytes (d : Dev) (p : Nat) (n : Nb) : List Byte :=
  let l := d.lp p
  let polled := match n.mix with | some m => (l.polled.find m).isSome | none => false
  layBytes [(2, n.short), (1, n.plan), (1, (if n.stale then 2 else 1) + 4 * b2n (l.firstHop n.short) + 8 * b2n polled),
    (4, match n.mix with | some m => m % 2 ^ 20 + 2 ^ 31 | none => 0), (4, n.lastHeard), (4, n.lastTm.getD 0),
    (1, n.txTmi % 16 + 16 * (n.txRate % 4) + 64 * b2n n.txValid), (1, n.rxTmi % 16 + 16 * (n.rxRate % 4) + 64 * b2n n.rxSent),
    (1, unsigned 8 (clampInt (-128) 127 n.snrRef)), (1, unsigned 8 (clampInt (-128) 127 n.snrLast)), (1, n.dropRun), (1, d.hopCost p n),
    (2, n.hist), (1, n.phase), (1, 0), (2, n.angle), (4, sumNat (n.samples.zipIdx.map (fun e => e.1 % 16 * 16 ^ e.2)))]
  ++ tmapBytes n.txTmi n.txRate n.txMap ++ tmapBytes n.rxTmi n.rxRate n.rxMap ++ leBytes 1 n.txGain ++ List.replicate 45 0

/-- A path of a route entry: up to eight entries of 3 bytes. -/
def pathBytes (path : List (Nat × Nat)) : List Byte := padTo 24 ((path.take 8).flatMap (fun e => leBytes 2 e.1 ++ leBytes 1 e.2))

/-- The 64 bytes of a route entry (R228). -/
def Route.bytes (r : Route) (m : Nat) : List Byte :=
  leBytes 4 (m % 2 ^ 20 + 2 ^ 31) ++ leBytes 1 r.hops ++ leBytes 1 r.cost ++ leBytes 1 r.altHops ++ leBytes 1 r.altCost
    ++ pathBytes r.path ++ pathBytes (r.alt.getD []) ++ leBytes 4 r.lastOk ++ leBytes 1 (r.fails % 16 + 16 * (r.altFails % 16)) ++ leBytes 3 0

/-- Bytes as words. -/
def toWords (b : List Byte) : List Word := (chunks 4 (b.length + 1) b).map (fun c => BitVec.ofNat 32 (leNat c))

/-- A read of word 0 of LCP_NB_DATA or LCP_RT_DATA takes its snapshot (R237). -/
def Dev.nbSnapshot (d : Dev) (p : Nat) (route : Bool) : Dev :=
  let l := d.lp p
  if route then
    let m := d.rd F.LCP_RT_SEL_MIX p
    let w := match l.routes.find m with | some r => toWords (r.bytes m) | none => List.replicate 16 0
    (d.setLp p { l with rtCopy := w }).emit (.readData (w.getD 0 0).toNat)
  else
    let w := match l.nbs.find (d.rd F.LCP_NB_SEL_INDEX p) with | some n => toWords (d.nbBytes p n) | none => List.replicate 32 0
    (d.setLp p { l with nbCopy := w }).emit (.readData (w.getD 0 0).toNat)

/-- NB_SNAPSHOT_READ (R237). -/
def execNbSnapshotRead (port : Fin 2) (route : Bool) (s : State) : Host.Outcome State Fault Refusal :=
  s.go (fun d => if d.live then d.nbSnapshot port route else d)

end Sys2Proof.Machine
end

