-- ==== Sys2Proof/Machine/RadioOps.lean ====
section
/-! DEFINITION. Sys2Proof/Machine/RadioOps.lean: radio ports (R239 to R270): scripts, air time, duty, the slot calendar, misses,
elements. A radio port is numbered 0 to 3; it is port 2 + n of the scheduler, and function 2 + n. -/

namespace Sys2Proof.Machine

/-- The mode of a port (R239). -/
def Dev.radMode (d : Dev) (n : Nat) : Nat := d.rd F.RAD_CFG_MODE n

/-- A SUN mode. -/
def Dev.radSun (d : Dev) (n : Nat) : Bool := decide (3 ≤ d.radMode n)

/-! ## Leaving OFF (R242, R245, R246) -/

/-- The earliest start of an answer that the mode allows, µs (R246). -/
def Dev.earliest (d : Dev) (n : Nat) : Nat :=
  if d.radSun n then 1000 * d.rd F.RAD_SLOT_CFG_TURN n else (Config.wmbEarliest (d.radMode n)).toNat

/-- A port leaves OFF: INIT, the durations, the check of R246, lane training (R242). -/
def Dev.radLeavesOff (d : Dev) (n : Nat) : Dev :=
  let d1 := ((d.play n 0).wr F.RAD_XCVR_STS_T_RX2TX n (min 4095 (d.scriptUs n 2))).wr F.RAD_XCVR_STS_T_TX2RX n (min 4095 (d.scriptUs n 1))
  if d.earliest n < d.scriptUs n 1 then (d1.wrb F.RAD_STS_SLOW n true).failFn (2 + n)
  else (d1.wrb F.RAD_STS_SLOW n false).updRp n (fun r => { r with training := true, trainFrom := d.tim.mono })

/-! ## Air time and duty (R247, R250) -/

/-- Bits that a frame in modes 3 to 5 puts on the air (R247). -/
def sunBits (bytes : Nat) (fec : Bool) : Nat := if fec then 80 + 16 * (3 + bytes) else 8 * (12 + bytes)

/-- The time of bits at the rate of mode 3, 4 or 5, cycles. -/
def sunC (mode bits : Nat) : Nat := match mode with | 3 => bits * 10000 | 4 => bits * 5000 | _ => ceilDiv (bits * 10000) 3

/-- T_frm, cycles (R247): modes 3 to 5 by the rule, with and without FEC, other modes as the standards give it, in µs. -/
def Dev.radFrm (d : Dev) (n bytes us : Nat) (fec : Bool) : Nat :=
  if 3 ≤ d.radMode n ∧ d.radMode n ≤ 5 then sunC (d.radMode n) (sunBits bytes fec) else usC us

/-- From the start of a SUN frame to the end of its SFD, ns: 80 bits in modes 3 to 5. -/
def Dev.sfdNs (d : Dev) (n bytes : Nat) : Nat := if d.radMode n = 6 then (Config.ofdmSfd bytes).toNat else 2 * sunC (d.radMode n) 80

/-- From the instant of the timestamp to the end of a received frame, ns. -/
def Dev.radTail (d : Dev) (n : Nat) (rx : RadioRx) : Nat :=
  if 3 ≤ d.radMode n ∧ d.radMode n ≤ 5 then 2 * sunC (d.radMode n) (sunBits rx.bytes rx.fec - 80) else rx.after

/-- The sliding hour, cycles. -/
def hourC : Nat := 3600 * 500000000

/-- Transmit time of a port over the sliding hour. -/
def Dev.dutyUsed (d : Dev) (n : Nat) : Nat := sumNat ((d.rp n).txLog.map (fun e => e.2 - max (d.tim.mono - hourC) e.1))

/-- The duty budget, cycles. -/
def Dev.dutyMax (d : Dev) (n : Nat) : Nat := d.rd F.RAD_DUTY_CFG_DUTY n * 1800000000

/-- A transmission fits the duty budget. -/
def Dev.dutyFits (d : Dev) (n len : Nat) : Bool := decide (d.dutyUsed n + len ≤ d.dutyMax n)

/-- The instant at which a span of use has left the sliding hour; transmissions oldest first. -/
def dutyFree (lo : Nat) : Nat → List (Nat × Nat) → Option Nat
  | _, [] => none
  | r, (a, b) :: t =>
    let s := max lo a
    if r ≤ b - s then some (s + r + hourC) else dutyFree lo (r - (b - s)) t

/-- When a waiting transmission fits. -/
def Dev.dutyAt (d : Dev) (n len : Nat) : Option Nat :=
  if d.dutyFits n len then some d.tim.mono
  else dutyFree (d.tim.mono - hourC) (d.dutyUsed n + len - d.dutyMax n) (d.rp n).txLog.reverse

/-! ## The slot grid (R254) -/

/-- Grid positions within a period. -/
def Dev.gridCount (d : Dev) (n : Nat) : Nat := d.rd F.RAD_SLOT_CFG_PERIOD n * 1000 / d.rd F.RAD_GUARD_CFG_GRAN n

/-- No other meter of the port holds a grid position. -/
def Dev.posFree (d : Dev) (n m p : Nat) : Bool :=
  !d.cals.any (fun e => decide (e.1 ≠ m ∧ e.2.pos = some p) && (match d.ctxAt e.1 with | some c => c.attach = n + 3 | none => false))

/-- The first free position from a start, with fuel. -/
def Dev.firstPos (d : Dev) (n m : Nat) : Nat → Nat → Option Nat
  | 0, _ => none
  | f + 1, p => if d.posFree n m p then some p else d.firstPos n m f ((p + 1) % d.gridCount n)

/-- The position of a meter: the one it holds, while it exists, or the first free one. -/
def Dev.takePos (d : Dev) (n m : Nat) : Option Nat :=
  match (d.cals.getD m {}).pos with
  | some p => if p < d.gridCount n && d.posFree n m p then some p else d.firstPos n m (d.gridCount n) (m % d.gridCount n)
  | none => d.firstPos n m (d.gridCount n) (m % d.gridCount n)

/-- The first slot at a grid position after now, ns. -/
def Dev.gridSlot (d : Dev) (n p : Nat) : Nat :=
  let per := d.rd F.RAD_SLOT_CFG_PERIOD n * 1000000000
  let ofs := p * d.rd F.RAD_GUARD_CFG_GRAN n * 1000000
  if d.nowNs < ofs then ofs else ofs + ((d.nowNs - ofs) / per + 1) * per

/-- A meter's calendar. -/
def Dev.cal (d : Dev) (m : Nat) : Cal := d.cals.getD m {}

/-- Set a meter's calendar. -/
def Dev.setCal (d : Dev) (m : Nat) (c : Cal) : Dev := { d with cals := if c = {} then d.cals.del m else d.cals.put m c }

/-- A calendar meter (R251). -/
def Ctx.calendar (c : Ctx) : Bool := decide (c.wake ≤ 7)

/-- The meter's radio port. -/
def Ctx.radPort (c : Ctx) : Option Nat := match c.port with | some pk => if 2 ≤ pk ∧ pk ≤ 5 then some (pk - 2) else none | none => none

/-! ## Guards, misses, Resync (R255 to R263) -/

/-- GUARD of R255 for a slot, ms. -/
def Dev.guardAt (d : Dev) (n : Nat) (c : Ctx) (slotNs : Nat) : Nat :=
  min (d.rd F.RAD_GUARD_CFG_BASE n + ceilDiv (d.rd F.RAD_GUARD_CFG_PPM n * (slotNs / 1000000000 - c.lastRx)) 1000) 1000

/-- A meter's next slot after the one that has come. -/
def Ctx.slotAfter (c : Ctx) : Nat := c.nextSlot + c.slotPeriod * 1000000000

/-- The slot moves on by a period; in step, its guard is that of R255. -/
def Dev.slotOn (d : Dev) (n m : Nat) : Dev :=
  d.editCtx m (fun c => { c with nextSlot := c.slotAfter, guard := if c.rsync % 4 = 0 then d.guardAt n c c.slotAfter else c.guard })

/-- A meter enters LONG_LISTEN (R261, R263): its position is free again. -/
def Dev.longListen (d : Dev) (n m : Nat) : Dev :=
  let d1 := d.editCtx m (fun c => { c with rsync := 2, nextSlot := 0, partnerLost := min 65535 (c.partnerLost + 1), partnerLostT := d.nowS })
  ((d1.setCal m { d1.cal m with pos := none, pend := none, again := false }).bump F.RAD_PARTNER_LOST n).slotReplan m

/-- A miss (R259, R261); the next slot has been set already. -/
def Dev.slotMiss (d : Dev) (n m : Nat) : Dev :=
  match d.ctxAt m with
  | none => d
  | some c =>
    let run := min 255 (c.missRun + 1)
    let gf := d.guardAt n c c.nextSlot
    let d1 := (d.editCtx m (fun x => { x with missRun := run })).bump F.RAD_SLOT_MISS n
    if c.rsync % 4 = 0 then
      if 3 ≤ run then (d1.editCtx m (fun x => { x with rsync := 1, guard := gf })).bump F.RAD_RSYNC_ENTER n
      else d1.editCtx m (fun x => { x with guard := gf })
    else if c.rsync % 4 = 1 then
      if c.guard < 1000 then d1.editCtx m (fun x => { x with guard := min (max (2 * c.guard) gf) 1000 })
      else if !bitAt c.rsync 2 then d1.editCtx m (fun x => { x with rsync := 5 })
      else d1.longListen n m
    else d1

/-! ## Calendar elements (R252, R254) -/

/-- The slot that a new element names, with the meter's position: none for an unslotted meter. -/
def Dev.elementSlot (d : Dev) (n m : Nat) (c : Ctx) : Option (Nat × Nat) :=
  if (d.cal m).relayed then none
  else match d.takePos n m with
    | none => none
    | some p =>
      if c.nextSlot ≠ 0 ∧ (d.cal m).pos = some p ∧ c.slotPeriod = d.rd F.RAD_SLOT_CFG_PERIOD n then some (p, c.nextSlot)
      else some (p, d.gridSlot n p)

/-- The fields of a new element under a generation (R252). -/
def Dev.elementFor (d : Dev) (n gen : Nat) (c : Ctx) (slot : Option (Nat × Nat)) : Elem :=
  { gen := gen, wake := d.rd F.RAD_SLOT_CFG_WAKE n, period := d.rd F.RAD_SLOT_CFG_PERIOD n, slot := (slot.map (·.2)).getD 0
    guard := match slot with | some s => d.guardAt n c s.2 | none => 0
    listen := d.rd F.RAD_SLOT_CFG_LISTEN n, turn := d.rd F.RAD_SLOT_CFG_TURN n, unslotted := slot.isNone }

/-- An element's slot, moved by whole periods to the future (R270). -/
def Elem.ahead (e : Elem) (now : Nat) : Elem :=
  if e.slot = 0 ∨ now < e.slot ∨ e.period = 0 then e
  else { e with slot := e.slot + ((now - e.slot) / (e.period * 1000000000) + 1) * (e.period * 1000000000) }

/-- The element that a meter is sent next (R252, R270): after a takeover the pending one; the pending one again while no field of it has
changed; else one of the next generation. -/
def Dev.nextElem (d : Dev) (n m : Nat) (c : Ctx) (slot : Option (Nat × Nat)) : Elem :=
  let k := d.cal m
  match k.pend with
  | some x =>
    if k.again then x.ahead d.nowNs
    else if d.elementFor n x.gen c slot = x then x else d.elementFor n ((x.gen + 1) % 255) c slot
  | none => d.elementFor n ((k.gen + 1) % 255) c slot

/-- The element that goes to a calendar meter, whose echo is awaited from then on. -/
def Dev.pendElement (d : Dev) (n m : Nat) (c : Ctx) : Elem × Dev :=
  let slot := d.elementSlot n m c
  let e := d.nextElem n m c slot
  (e, d.setCal m { d.cal m with pend := some e, again := false, pos := slot.map (·.1) })

/-- A calendar element goes to a meter with the frame that the port sends next. -/
def Dev.sendElement (d : Dev) (n m : Nat) : Dev :=
  match d.ctxAt m with
  | none => d
  | some c => let r := d.pendElement n m c; r.2.updRp n (fun x => { x with elem := some (m, r.1) })

/-- The 26 bytes of an element (R252): `now` is the device time at the end of the frame's SFD. -/
def Elem.bytes (e : Elem) (now : Nat) : List Byte :=
  layBytes [(1, e.gen), (1, e.wake), (2, e.period), (8, e.slot), (2, e.guard), (2, e.listen), (1, e.turn), (1, b2n e.unslotted), (8, now)]

/-- The answer to the join of a calendar meter carries its first element (DEDUCED, log 131). -/
def Dev.joinElement (d : Dev) (m : Nat) : Dev :=
  match d.ctxAt m with
  | none => d
  | some c => match c.radPort with
    | none => d
    | some n =>
      if c.calendar && d.radSun n then let r := d.pendElement n m c; r.2.emit (.element n m (r.1.bytes (d.nowNs + d.sfdNs n 0))) else d

/-- A calendar meter is in step after an authenticated frame, or unslotted where it has no position (R254, R259, R269): an echoed element is in
force from then on, with its slot; without an echo the calendar before it stays in force (R252). -/
def Dev.calTouch (d : Dev) (n m : Nat) (c : Ctx) (relayed : Bool) (echo : Option Elem) : Dev :=
  let k := { d.cal m with relayed := relayed }
  let k1 : Cal := match echo with | some e => { k with gen := e.gen, pend := none, again := false } | none => k
  let d1 := d.setCal m k1
  let c1 := match echo with | some e => { c with wake := e.wake, slotPeriod := e.period, nextSlot := (e.ahead d.nowNs).slot } | none => c
  match d1.elementSlot n m c1 with
  | none => (d1.setCal m { d1.cal m with pos := none }).editCtx m (fun _ => { c1 with missRun := 0, rsync := 3, nextSlot := 0 })
  | some (p, _) =>
    ((d1.setCal m { d1.cal m with pos := some p }).editCtx m (fun _ => { c1 with
      missRun := 0, rsync := 0, guard := d.guardAt n c1 c1.nextSlot })).slotReplan m

/-- The mean spacing of frames that ended at instants in ns, newest first, to the nearest second (R257). -/
def meanSpacing (ts : List Nat) : Nat :=
  match ts.head?, ts.getLast? with
  | some a, some b =>
    if 2 ≤ ts.length then min 65535 ((2 * (a - b) + (ts.length - 1) * 1000000000) / (2 * (ts.length - 1) * 1000000000)) else 0
  | _, _ => 0

/-- An EN 13757-4 meter's calendar after an authenticated frame that ended at an instant, ns (R257, R259). -/
def Dev.wmbTouch (d : Dev) (n m : Nat) (c : Ctx) (fin : Nat) : Dev :=
  let ts := (fin :: (d.cal m).frames).take 8
  let per := meanSpacing ts
  let next := if per = 0 then 0 else fin + per * 1000000000 + 1000 * (Config.wmbLatest (d.radMode n)).toNat
  (d.setCal m { d.cal m with frames := ts }).editCtx m (fun _ => { c with
    missRun := 0, rsync := 0, slotPeriod := per, nextSlot := next, guard := d.guardAt n c next })

/-- The calendar of a meter after an authenticated frame on a radio port, which ended at `fin`. -/
def Dev.radTouch (d : Dev) (n m fin : Nat) (relayed : Bool) (gen : Option Nat) : Dev :=
  match d.ctxAt m with
  | none => d
  | some c =>
    if c.calendar then d.calTouch n m c relayed ((d.cal m).pend.filter (fun e => decide (gen = some e.gen)))
    else if c.wake = 0xFF then d.wmbTouch n m c fin
    else d.setCal m { d.cal m with relayed := relayed }

/-! ## Sending (R243, R248 to R250) -/

/-- A listen span starts after a wait (R248): LBT.LISTEN ms and a random 0 to 10 slots of 0.5 ms. -/
def Dev.listen (d : Dev) (n wait : Nat) : Dev :=
  let r := d.drawOf 11
  r.2.updRp n (fun x => { x with phase := .listen, listenUntil := d.tim.mono + wait + msC (d.rd F.RAD_LBT_CFG_LISTEN n) + 250000 * r.1 })

/-- The wait after a busy listen (R248), cycles: 1 to 2^BE units. -/
def Dev.busyWait (d : Dev) (n be : Nat) : Nat × Dev :=
  let r := d.drawOf (2 ^ be)
  ((r.1 + 1) * msC (d.rd F.RAD_LBT_CFG_UNIT n), r.2)

/-- A transaction that no answer ended: at its slot it may go again under N_RETRY, else it has failed (R88, R158). -/
def Dev.radLost (d : Dev) (n : Nat) : Dev :=
  match d.curOf (2 + n) with
  | none => d
  | some x =>
    if x.slot && decide (x.made < x.limit) && !x.sched then ((d.xferLeave (2 + n) false).enqueue { x with started := none }).expedite x.mix
    else d.xferLost (2 + n)

/-- The frame that a port was to send fails: an exchange ends as failed; a beacon is skipped; a block goes later. -/
def Dev.radFail (d : Dev) (n : Nat) : Dev :=
  match (d.rp n).kind with
  | 1 => (d.updRp n (fun r => { r with phase := .idle })).setPsch (2 + n) { d.psch (2 + n) with beacon := false }
  | 5 => (d.updRp n (fun r => { r with phase := .idle })).xferLeave (2 + n) false
  | _ => if (d.psch (2 + n)).cur.isSome then d.updRp n (fun r => { r with phase := .failed }) else d.updRp n (fun r => { r with phase := .idle, mix := none })

/-- The code of `Out.radioTx`: 0 request, 1 beacon, 2 answer, 3 calendar frame, 4 downward flood. -/
def radKindOut (k : Nat) : Nat := if k = 5 then 4 else k

/-- The 12 bytes of a downward flood's element (R266, R269). -/
def Dev.floodBytes (d : Dev) (n : Nat) : List Byte :=
  layBytes [(8, Config.nvdEui.toNat), (2, (d.rp n).floodSeq), (1, d.rd F.RAD_FLOOD_CFG_TTL n % 8), (1, 0)]

/-- A frame leaves: TX script, transmit enable; a calendar element takes the device time of the end of the frame's SFD (R252). -/
def Dev.radStart (d : Dev) (n : Nat) : Dev :=
  let r := d.rp n
  let d0 := (d.play n 2).updRp n (fun x => { x with
    phase := .sending, txFrom := d.tim.mono, elem := none, floodSeq := if r.kind = 4 then (r.floodSeq + 1) % 65536 else r.floodSeq })
  let d1 := match r.elem with | some e => d0.emit (.element n e.1 (e.2.bytes (d.nowNs + d.sfdNs n r.bytes))) | none => d0
  let d2 := d1.emit (.radioTx n (radKindOut r.kind) r.mix r.bytes (d.radMode n) r.sub r.fec (if r.kind = 4 then d0.floodBytes n else []))
  if r.kind = 1 then d2.beaconOut (2 + n) (d.sfdNs n r.bytes) else d2

/-- A rendezvous window is open on the port, and the frame that it holds is neither a beacon, nor an answer, nor a slot's (R262). -/
def Dev.rdvHolds (d : Dev) (n : Nat) : Bool :=
  let r := d.rp n
  !r.rdv.isEmpty && decide (r.kind ≠ 1) && decide (r.kind ≠ 2) && !r.slot

/-- A frame is to be sent now: it waits for the gate (R243), for the end of the rendezvous windows (R262), then for the duty budget; an
answer's window closes at `until_`. -/
def Dev.radSend (d : Dev) (n : Nat) (until_ : Option Nat) : Dev :=
  if !d.gateOpen then (d.wrb F.RAD_STS_GATED n true).updRp n (fun r => { r with phase := .duty until_ })
  else
    let d1 := d.wrb F.RAD_STS_GATED n false
    if d1.rdvHolds n then d1.updRp n (fun r => { r with phase := .duty until_ })
    else if d1.dutyFits n (d1.rp n).txLen then d1.radStart n
    else (d1.updRp n (fun r => { r with phase := .duty until_ })).bump F.RAD_DUTY_WAIT n

/-- RAD_STS.GATED: the gate holds a radio port's transmit request, or has cut its frame (R243). -/
def Dev.radHeld (d : Dev) (n : Nat) : Bool :=
  !d.gateOpen && d.on F.RAD_STS_GATED n && (match (d.rp n).phase with | .idle => false | _ => true)

/-- The gate closes while a radio frame is sent (R243): it counts as a failed attempt, and the port receives again (R245). -/
def Dev.radGated (d : Dev) (n : Nat) : Dev :=
  match (d.rp n).phase with
  | .sending => (((d.updRp n (fun r => { r with txLog := (r.txFrom, d.tim.mono) :: r.txLog })).wrb F.RAD_STS_GATED n true).play n 1).radFail n
  | _ => d

/-- The gate closes on every port at once (R171, R172, R243). -/
def Dev.gateShut (d : Dev) : Dev :=
  (List.range 4).foldl (fun (x : Dev) n => x.radGated n) ((List.range 2).foldl (fun (x : Dev) p => x.lineGated p) d)

/-- A port takes a frame to send: what it is, for whom, its bytes and air time; the part of the mode and the FEC are those of the meter's
latest frame (R239; log 124), a broadcast has neither. -/
def Dev.radTake (d : Dev) (n kind : Nat) (mix : Option Nat) (bytes us : Nat) (slot : Bool) : Dev :=
  let k : Cal := match mix with | some m => d.cal m | none => {}
  d.updRp n (fun r => { r with
    kind := kind, mix := mix, bytes := bytes, slot := slot, agreed := false, be := 2, tries := 0, elem := none
    sub := k.sub, fec := k.fec, txLen := d.radFrm n bytes us k.fec })

/-- A meter is sent floods (R269): always listening, its latest frame came through a relay. -/
def Dev.flooded (d : Dev) (m : Nat) : Bool :=
  (match d.ctxAt m with | some c => decide (c.wake = 0xFE) | none => false) && (d.cal m).relayed

/-- How long a port waits for the start of an answer, cycles: TURN and 1 ms, longer for a flood to go and come back; the answer of an
EN 13757-4 meter within the limit of its mode. -/
def Dev.radWait (d : Dev) (n : Nat) : Nat :=
  let r := d.rp n
  if !d.radSun n then usC (Config.wmbLatest (d.radMode n)).toNat
  else
    let turn := msC (d.rd F.RAD_SLOT_CFG_TURN n + 1)
    if r.kind = 4 then turn + 2 * (d.rd F.RAD_FLOOD_CFG_TTL n + 1) * (msC (d.rd F.RAD_FLOOD_CFG_RWIN n * d.rd F.RAD_FLOOD_CFG_RSLOT n) + r.txLen)
    else turn

end Sys2Proof.Machine
end

