-- ==== Sys2Proof/Machine/Radio.lean ====
section
/-! DEFINITION. Sys2Proof/Machine/Radio.lean: the commands of the radio ports (R239 to R274), but for those they share with line ports. -/

namespace Sys2Proof.Machine

/-! ## What an agreed slot or an answer window carries (R149, R253, R265, R609) -/

/-- A waiting transaction of a meter that goes at its slot; a scheduled one does not in a storm (R162). -/
def Dev.slotWait (d : Dev) (pk m : Nat) : Option Xfer :=
  d.sch.wait.find? (fun x => x.port = pk && decide (x.mix = m) && x.slot && !(x.sched && d.storm) && d.sendable x)

/-- A meter's heat entry that is due, `early` cycles ahead of its instant at most. -/
def Dev.slotEntry (d : Dev) (pk m early : Nat) : Option Xfer :=
  match d.entry m, d.ctxAt m with
  | some e, some c =>
    (match (d.grpSch e.grp).heat with
     | some h => if e.port = pk && !e.push && (c.heat = 1 || c.heat = 3) && !bitAt c.poll 2 && !d.grpHeld e.grp && !d.storm
                    && decide (e.due ≤ d.tim.mono + early) && d.sendable (d.heatXfer m e h.pol) then some (d.heatXfer m e h.pol) else none
     | none => none)
  | _, _ => none

/-- Image blocks that fit a slot's request (R609). -/
def Dev.slotBlocks (d : Dev) (m : Nat) (c : Ctx) : Nat :=
  match d.campOf c.grp with
  | some (_, s) => if c.calendar && d.imgStep m c = 2 && d.campSends c.grp then 1024 / s.block else 0
  | none => 0

/-- An image step of a meter at its slot. -/
def Dev.slotImage (d : Dev) (pk m : Nat) (c : Ctx) : Option Xfer :=
  if c.imgState ≠ 0 && d.campSends c.grp && decide (d.imgStep m c ≠ 0) then
    let x : Xfer := { mix := m, port := pk, ask := .image (d.imgStep m c), slot := true, from_ := d.tim.mono
                      blocks := if d.imgStep m c = 2 then max 1 (d.slotBlocks m c) else 0 }
    if d.sendable x then some x else none
  else none

/-- The work that is due for a meter at its slot: a descriptor's, an order's, the heat's, an image's. -/
def Dev.slotWork (d : Dev) (pk m early : Nat) : Option Xfer :=
  match d.ctxAt m with
  | none => none
  | some c =>
    match (d.slotWait pk m).or (d.slotEntry pk m early) with
    | some x => some (if x.secured then { x with blocks := d.slotBlocks m c } else x)
    | none => d.slotImage pk m c


/-! ## Receiving (R247, R259, R262, R265, R268) -/

/-- What a radio port hands on is of the KIND of its mode; the address of an EN 13757-4 frame is its eight bytes in on-air order, the first
least significant (R114, R240). -/
def Dev.radPay (d : Dev) (n : Nat) (rx : RadioRx) : Pay :=
  let sun := d.radSun n
  match rx.pay with
  | .frame f => .frame (if sun then { f with kind := 0 } else { f with kind := 1, addr := leNat (rx.onAir.take 8) })
  | .join j => .join (if sun then { j with kind := 0 } else { j with kind := 1, addr := leNat (rx.onAir.take 8) })
  | .none => .none

/-- The meter that a frame's content names. -/
def Dev.payMix (d : Dev) (p : Pay) : Option Nat :=
  match p with | .frame f => d.lookup f.kind f.addr | .join j => d.lookup j.kind j.addr | .none => none

/-- The part of R268 that floods take: whether the frame goes on, with the seen cache. -/
def Dev.floodRx (d : Dev) (n : Nat) (fl : Nat × Nat × Nat × Bool × Nat) : Bool × Dev :=
  let orig := fl.1
  let seq := fl.2.1
  let up := fl.2.2.2.1
  if !d.on F.RAD_FLOOD_CFG_EN n || !d.radSun n || !up then (false, d)
  else
    let seen := (d.rp n).seen
    if seen.any (fun e => e.1 = orig && e.2.1 = seq && e.2.2.1 = up) then (false, d.bump F.RAD_FLOOD_DUP n)
    else
      let key := (orig, seq, up, d.tim.mono)
      if 4096 ≤ seen.length then (true, (d.updRp n (fun r => { r with seen := seen.drop 1 ++ [key] })).bump F.RAD_SEEN_EVICT n)
      else (true, d.updRp n (fun r => { r with seen := seen ++ [key] }))

/-- A frame answers the exchange in progress (R253). -/
def Dev.radReply (d : Dev) (n : Nat) (mix : Option Nat) : Bool :=
  match (d.rp n).phase, d.curOf (2 + n) with
  | .awaiting t, some x => decide (mix = some x.mix ∧ d.tim.mono ≤ t)
  | _, _ => false

/-- A rendezvous call is answered TURN ms after its end with a new calendar element, and with a request that waits for the meter (R249, R262). -/
def Dev.callAnswer (d0 : Dev) (n m answer us : Nat) : Dev :=
  let d := d0.toMono (d0.tim.mono + msC (d0.rd F.RAD_SLOT_CFG_TURN n))
  let x := match d.slotWait (2 + n) m with | some x => d.xferStart x answer | none => d
  ((x.radTake n 2 (some m) answer us true).sendElement n m).radSend n (some (d.tim.mono + msC 1))

/-- After a frame of an EN 13757-4 meter that listens, the work that waits for it goes in its answer window (R249, R251). -/
def Dev.wmbAnswer (d : Dev) (n m answer us : Nat) (c : Ctx) : Dev :=
  match d.slotWork (2 + n) m (msC (c.guard + d.rd F.RAD_LL_CFG_WMB_JIT n * c.slotPeriod * 10)) with
  | none => d
  | some x => ((d.xferStart x answer).radTake n 2 (some m) answer us true).radSend n (some (d.tim.mono + usC (Config.wmbLatest (d.radMode n)).toNat))

/-- What the port sends in answer to a frame of a meter that it does not exchange with. -/
def Dev.radAnswers (d : Dev) (n m : Nat) (gen : Option Nat) (answer us : Nat) : Dev :=
  match d.ctxAt m with
  | none => d
  | some c =>
    if !d.serves || (d.rp n).phase ≠ .idle || !d.isOn (2 + n) || c.port ≠ some (2 + n) then d
    else if c.calendar && d.radSun n && gen = some 0xFF && !(d.cal m).relayed then d.callAnswer n m answer us
    else if c.wake = 0xFF && !(d.cal m).deaf then d.wmbAnswer n m answer us c
    else d

/-- The content of a good frame goes to the port's ingest queue (R35, R247). -/
def Dev.radDeliver (d : Dev) (n : Nat) (rx : RadioRx) (answer us : Nat) : Dev :=
  let hops := match rx.flood with | some f => f.2.2.2.2 | none => 0
  let via : Via := { attach := n + 3, rx := d.nowNs - d.radTail n rx, fin := d.nowNs, hops := hops + 1, snr := rx.snr
                     relayed := decide (0 < hops), gen := if d.radSun n then rx.gen else none }
  let pay := d.radPay n rx
  let mix := d.payMix pay
  match pay with
  | .none => d
  | .join j => d.offer (2 + n) ⟨0, rx.bytes, .join j via⟩
  | .frame f =>
    let reply := d.radReply n mix
    let d1 := if reply then d.updRp n (fun r => { r with phase := .answered }) else d
    let d2 := d1.offer (2 + n) ⟨0, rx.bytes, .frame f { via with reply := reply }⟩
    match mix with
    | some m =>
      let d3 := d2.setCal m { d2.cal m with sub := rx.sub, fec := rx.fec }
      if reply then d3 else d3.radAnswers n m via.gen answer us
    | none => d2

/-- A radio port receives a frame; words with a wrong marker among those before its end are counted (R242). -/
def Dev.radRx (d0 : Dev) (n : Nat) (rx : RadioRx) (answer us : Nat) : Dev :=
  if !d0.portRuns (2 + n) || !d0.on F.RAD_STS_IQ_LOCK n then d0
  else
    let d := d0.bump F.RAD_IQ_STS_BAD n rx.bad
    let d1 := d.wr F.RAD_STS_RSSI n (unsigned 8 (clampInt (-128) 127 (rx.rssi + d.rdS F.RAD_IQ_CFG_RSSI_OFS n)))
    if !rx.ok then d1.bump F.RAD_RX_FCS n
    else
      let d2 := d1.bump F.RAD_RX_OK n
      match rx.flood with
      | some f => let r := d2.floodRx n f; if r.1 then r.2.radDeliver n rx answer us else r.2
      | none => d2.radDeliver n rx answer us

/-- RADIO_FRAME_RX (R247): `answer` bytes and `us` of air time are those of the frame that the port may send in answer. -/
def execRadioFrameRx (port : Fin 4) (rx : RadioRx) (answer us : Nat) (s : State) : Host.Outcome State Fault Refusal :=
  s.go (fun d => d.radRx port rx answer us)

/-- SEEN_KEY_EXPIRY (R268): the oldest key has lived SEEN_AGE seconds. -/
def execSeenKeyExpiry (port : Fin 4) (s : State) : Host.Outcome State Fault Refusal :=
  s.go (fun d => match (d.rp port).seen with
    | [] => d
    | e :: t => if d.live then (d.toMono (e.2.2.2 + d.rd F.RAD_FLOOD_CFG_SEEN_AGE port * 500000000)).updRp port (fun r => { r with seen := t }) else d)

/-! ## Lane training (R242) and the SPI -/

/-- A port trains its lanes. -/
def Dev.trains (d : Dev) (n : Nat) : Bool := d.live && (d.rp n).training

/-- The lanes are trained: the delays show, and a port that starts enters receive (R242, R245). -/
def Dev.laneTrained (d : Dev) (n dlyI dlyQ bad : Nat) : Dev :=
  let d1 := ((((d.updRp n (fun r => { r with training := false })).bump F.RAD_IQ_STS_BAD n bad).wrb F.RAD_STS_IQ_LOCK n true).wr
    F.RAD_IQ_CFG_DLY_I n dlyI).wr F.RAD_IQ_CFG_DLY_Q n dlyQ
  if (d.fnOf (2 + n)).st = .starting then d1.play n 1 else d1

/-- IQ_LANE_TRAINED (R242): the delays of both lanes; `bad` words with a wrong marker came while the port trained. -/
def execIqLaneTrained (port : Fin 4) (dly : BitVec 6 × BitVec 6) (bad : Nat) (s : State) : Host.Outcome State Fault Refusal :=
  s.go (fun d => if d.trains port then d.laneTrained port dly.1.toNat dly.2.toNat bad else d)

/-- A radio port stops for good: what it does ends, its transaction fails. -/
def Dev.radHalt (d : Dev) (n : Nat) : Dev :=
  let d1 := (d.updRp n (fun r => { r with phase := .idle, mix := none, training := false, rdv := [], agreed := false, elem := none, airUntil := 0 })).xferLost
    (2 + n) 7
  d1.setPsch (2 + n) { d1.psch (2 + n) with beacon := false }

/-- IQ_LOCK_TIMEOUT (R242): no lock within 10 ms. -/
def execIqLockTimeout (port : Fin 4) (s : State) : Host.Outcome State Fault Refusal :=
  s.go (fun d => if d.trains port then (((d.toMono ((d.rp port).trainFrom + msC 10)).failFn (2 + port)).radHalt port) else d)

/-- IQ_LOCK_LOST (R242): sixteen bad words in a row, after `stray` bad ones that no run followed. -/
def Dev.iqLost (d : Dev) (port stray : Nat) : Dev :=
  if d.live && d.on F.RAD_STS_IQ_LOCK port then
    ((d.bump F.RAD_IQ_STS_BAD port (16 + stray)).wrb F.RAD_STS_IQ_LOCK port false).updRp port (fun r => { r with training := true, trainFrom := d.tim.mono })
  else d

/-- IQ_LOCK_LOST (R242): the port, and its bad words before the run. -/
def execIqLockLost (lost : Fin 4 × Nat) (s : State) : Host.Outcome State Fault Refusal := s.go (fun d => d.iqLost lost.1 lost.2)

/-- SPI_IRQ_EDGE (R241). -/
def execSpiIrqEdge (port : Fin 4) (s : State) : Host.Outcome State Fault Refusal :=
  s.go (fun d => if d.live && !absentOff d.grade (F.RAD_XCVR_STS_IRQS.at port) then d.bump F.RAD_XCVR_STS_IRQS port else d)

/-! ## Listening, duty, the end of a transmission (R248 to R250) -/

/-- The channel is busy at an RSSI (R248). -/
def Dev.chanBusy (d : Dev) (n : Nat) (rssi : Int) : Bool := decide (-(d.rd F.RAD_LBT_CFG_THR n : Int) ≤ rssi + d.rdS F.RAD_IQ_CFG_RSSI_OFS n)

/-- RAD_STS.RSSI takes a reading. -/
def Dev.seeRssi (d : Dev) (n : Nat) (rssi : Int) : Dev :=
  d.wr F.RAD_STS_RSSI n (unsigned 8 (clampInt (-128) 127 (rssi + d.rdS F.RAD_IQ_CFG_RSSI_OFS n)))

/-- A listen span ends: `rssi` is the highest reading in it. A busy channel is listened to again after a wait that BE bounds as it stood
(R248; log 129). -/
def Dev.listenEnd (d0 : Dev) (n : Nat) (rssi : Int) (us : Nat) : Dev :=
  if !d0.portRuns (2 + n) || (d0.rp n).phase ≠ .listen then d0
  else
    let d := d0.toMono (d0.rp n).listenUntil
    let d1 := d.seeRssi n rssi
    if d.chanBusy n rssi then
      let k := (d.rp n).tries + 1
      if d.rd F.RAD_LBT_CFG_TRIES n ≤ k then
        let d2 := d1.bump F.RAD_LBT_BUSY n
        (if (d.rp n).kind = 1 then d2.bump F.RAD_BCN_SKIP n else d2).radFail n
      else
        let w := d1.busyWait n (d.rp n).be
        (w.2.updRp n (fun r => { r with tries := k, be := min 5 (r.be + 1) })).listen n w.1
    else (d1.updRp n (fun r => { r with txLen := d.radFrm n r.bytes us r.fec })).radSend n none

/-- LBT_LISTEN_END (R248): `us` is the frame's air time in the modes whose air time another standard gives. -/
def execLbtListenEnd (port : Fin 4) (rssi : Int) (us : Nat) (s : State) : Host.Outcome State Fault Refusal :=
  s.go (fun d => d.listenEnd port rssi us)

/-- The window of a waiting frame has closed: an answer fails (R250); a slot's request could no longer start in time, and the slot is busy
(R253, R256). -/
def Dev.windowShut (d : Dev) (n : Nat) : Dev :=
  if (d.rp n).agreed then
    ((d.bump F.RAD_SLOT_BUSY n).updRp n (fun r => { r with phase := .idle, mix := none, slot := false, agreed := false, elem := none })).radLost n
  else d.radFail n

/-- The wait for the gate, for a rendezvous window or for the duty budget ends: the frame starts, or fails where its window has closed. -/
def Dev.dutyEnd (d : Dev) (n : Nat) : Dev :=
  match (d.rp n).phase with
  | .duty until_ =>
    if !d.gateOpen then (match until_ with | some u => (d.toMono u).windowShut n | none => d)
    else if d.rdvHolds n then d
    else (match d.dutyAt n (d.rp n).txLen, until_ with
     | some t, some u => if t ≤ u then (d.toMono t).radSend n (some u) else (d.toMono u).windowShut n
     | some t, none => (d.toMono t).radSend n none
     | none, some u => (d.toMono u).windowShut n
     | none, none => d)
  | _ => d

/-- DUTY_WAIT_END (R250). -/
def execDutyWaitEnd (port : Fin 4) (s : State) : Host.Outcome State Fault Refusal :=
  s.go (fun d => if d.portRuns (2 + port) then d.dutyEnd port else d)

/-- What follows a transmission. -/
def Dev.radAfter (d : Dev) (n : Nat) : Dev :=
  let pk := 2 + n
  let idle := fun (y : Dev) => y.updRp n (fun r => { r with phase := .idle, mix := none, slot := false, agreed := false })
  match (d.rp n).kind, d.curOf pk with
  | 1, _ => (idle d).setPsch pk { d.psch pk with beacon := false }
  | 5, some x => (idle d).castEnd pk x
  | _, some _ => d.updRp n (fun r => { r with phase := .awaiting (d.tim.mono + d.radWait n) })
  | _, none => idle d

/-- A transmission ends: the time it took counts, and the port receives again. -/
def Dev.radTxEnd (d : Dev) (n : Nat) : Dev :=
  let r := d.rp n
  match r.phase with
  | .sending =>
    let d1 := d.toMono (r.txFrom + r.txLen)
    let d2 := d1.updRp n (fun x => { x with txLog := (r.txFrom, d1.tim.mono) :: x.txLog.filter (fun e => decide (d1.tim.mono < e.2 + hourC)) })
    (d2.play n 1).radAfter n
  | _ => d

/-- RADIO_TX_END. -/
def execRadioTxEnd (port : Fin 4) (s : State) : Host.Outcome State Fault Refusal :=
  s.go (fun d => if d.portRuns (2 + port) then d.radTxEnd port else d)


/-! ## Agreed slots (R253 to R259) -/

/-- A slot loses the air: it is yielded, or busy; it is no miss. -/
def Dev.slotLost (d : Dev) (n m : Nat) (yielded : Bool) : Dev :=
  ((d.bump (if yielded then F.RAD_SLOT_YIELD else F.RAD_SLOT_BUSY) n).slotOn n m).slotReplan m

/-- What a slot's request carries: the work that is due, else a calendar frame (R253). -/
def Dev.slotXfer (d : Dev) (n m : Nat) : Xfer :=
  (d.slotWork (2 + n) m 0).getD { mix := m, port := 2 + n, ask := .calendar, slot := true, from_ := d.tim.mono }

/-- The longest PSDU of IEEE 802.15.4g, which bounds a meter's answer (PRESUMED, log 130). -/
def maxPsdu : Nat := 2047

/-- The end of a slot's window (R254): the latest end of the answer to a request that starts now. -/
def Dev.windowEnd (d : Dev) (n bytes us : Nat) (fec : Bool) : Nat :=
  d.tim.mono + d.radFrm n bytes us fec + msC (d.rd F.RAD_SLOT_CFG_TURN n + 1) + d.radFrm n maxPsdu us fec

/-- The request of a slot goes out, with the meter's next calendar element; it may wait for the duty budget until LISTEN has passed. -/
def Dev.slotSend (d : Dev) (n m bytes us until_ : Nat) : Dev :=
  let x := d.slotXfer n m
  let fec := (d.cal m).fec
  let d1 := ((d.xferStart x bytes).slotOn n m).radTake n (match x.ask with | .calendar => 3 | _ => 0) (some m) bytes us true
  let d2 := d1.updRp n (fun r => { r with agreed := true, airUntil := d.windowEnd n bytes us fec })
  (d2.sendElement n m).radSend n (some until_)

/-- The listening before a slot's request (R248, R253): the spans' highest readings in turn, those that no longer are given being clear; the
delay that it puts on the start, none where the attempt fails as busy, and whether it did so by TRIES. -/
def Dev.slotListen (d : Dev) (n limit : Nat) : Nat → Nat → Nat → List Int → (Option Nat × Bool) × Dev
  | _, _, delay, [] => ((some delay, false), d)
  | be, k, delay, r :: t =>
    let d1 := d.seeRssi n r
    if !d.chanBusy n r then ((some delay, false), d1)
    else if d.rd F.RAD_LBT_CFG_TRIES n ≤ k then ((none, true), d1.bump F.RAD_LBT_BUSY n)
    else
      let w := d1.busyWait n be
      let s := w.2.drawOf 11
      let more := delay + w.1 + msC (d.rd F.RAD_LBT_CFG_LISTEN n) + 250000 * s.1
      if limit < more then ((none, false), s.2) else Dev.slotListen s.2 n limit (min 5 (be + 1)) (k + 1) more t

/-- A slot that TRIES busy listens have ended is busy, and a failed attempt of what it was to carry (R248, R256). -/
def Dev.slotBusyFail (d : Dev) (n m bytes : Nat) : Dev :=
  match d.slotWork (2 + n) m 0 with
  | none => d.slotLost n m false
  | some x => (((d.xferStart x bytes).bump F.RAD_SLOT_BUSY n).slotOn n m).radLost n

/-- A slot has come (R253, R254, R256): its window starts LBT.LISTEN and 5 ms before SLOT + GUARD, and yields to a beacon or to an earlier
window that holds the air; the port then listens, and starts the request at SLOT + GUARD or as long after it as LISTEN allows. -/
def Dev.agreedSlot (d0 : Dev) (n m : Nat) (c : Ctx) (rssi : List Int) (bytes us : Nat) : Dev :=
  let at_ := c.nextSlot + 1000000 * c.guard
  let d := d0.toNs (at_ - 1000000 * (d0.rd F.RAD_LBT_CFG_LISTEN n + 5))
  if d.tim.beaconDue.contains (2 + n) || (d.psch (2 + n)).beacon || decide (d.tim.mono < (d.rp n).airUntil)
      || ((d.rp n).slot && (d.rp n).phase ≠ .idle) then (d.toNs at_).slotLost n m true
  else if (d.rp n).phase ≠ .idle || (d.psch (2 + n)).looped then (d.toNs at_).slotLost n m false
  else
    let limit := msC (d.rd F.RAD_SLOT_CFG_LISTEN n)
    let e := d.toNs at_
    let r := e.slotListen n limit 2 1 0 rssi
    match r.1 with
    | (some delay, _) => (r.2.toMono (e.tim.mono + delay)).slotSend n m bytes us (e.tim.mono + limit)
    | (none, true) => r.2.slotBusyFail n m bytes
    | (none, false) => (r.2.toMono (e.tim.mono + limit)).slotLost n m false

/-- AGREED_SLOT (R253): the request that the slot carries has `bytes` bytes, and `us` of air time in modes of another standard; `rssi` are
the highest readings of the listen spans before it. -/
def execAgreedSlot (mix : BitVec 20) (rssi : List Int) (bytes us : Nat) (s : State) : Host.Outcome State Fault Refusal :=
  s.go (fun d => match d.ctxAt mix.toNat with
    | none => d
    | some c => match c.radPort with
      | none => d
      | some n =>
        if d.serves && d.isOn (2 + n) && d.radSun n && c.calendar && decide (c.nextSlot ≠ 0) && decide (c.st ≠ 5) then
          d.agreedSlot n mix.toNat c rssi bytes us
        else d)

/-- SLOT_ANSWER_TIMEOUT (R259): no answer has started within TURN + 1 ms of an agreed slot's request: a miss, and a failed attempt. -/
def execSlotAnswerTimeout (mix : BitVec 20) (s : State) : Host.Outcome State Fault Refusal :=
  s.go (fun d => match (d.ctxAt mix.toNat).bind Ctx.radPort with
    | none => d
    | some n => match (d.rp n).phase, d.curOf (2 + n) with
      | .awaiting t, some x =>
        if x.mix = mix.toNat ∧ (d.rp n).agreed then
          (((d.toMono t).slotMiss n x.mix).updRp n (fun r => { r with phase := .idle, mix := none, slot := false, agreed := false })).radLost n
        else d
      | _, _ => d)

/-- WMB_FRAME_LATE (R257, R259): the frame's window has passed. -/
def execWmbFrameLate (mix : BitVec 20) (s : State) : Host.Outcome State Fault Refusal :=
  s.go (fun d => match d.ctxAt mix.toNat with
    | none => d
    | some c => match c.radPort with
      | none => d
      | some n =>
        if d.serves && c.wake = 0xFF && decide (c.nextSlot ≠ 0) then
          let due := c.nextSlot - 1000 * (Config.wmbLatest (d.radMode n)).toNat
          ((d.toNs (due + 1000000 * c.guard + 10000000 * d.rd F.RAD_LL_CFG_WMB_JIT n * c.slotPeriod)).slotOn n mix.toNat).slotMiss n mix.toNat
        else d)

/-! ## Rendezvous (R262) -/

/-- The next wake-class instant of a calendar meter, s. -/
def Dev.nextWake (d : Dev) (c : Ctx) : Nat := let p := 900 * 2 ^ (c.wake % 8); (d.nowNs / 1000000000 / p + 1) * p

/-- W of a window, s. -/
def Dev.rdvHalf (d : Dev) (n i : Nat) (c : Ctx) : Nat :=
  min (d.rd F.RAD_LL_CFG_LL_MAX n) (max (d.rd F.RAD_LL_CFG_LL_MIN n) (ceilDiv (2 * d.rd F.RAD_GUARD_CFG_PPM n * (i - c.lastRx)) 1000000))

/-- RENDEZVOUS_WINDOW_OPEN (R262): for a calendar meter in LONG_LISTEN or UNSLOTTED. -/
def execRendezvousWindowOpen (mix : BitVec 20) (s : State) : Host.Outcome State Fault Refusal :=
  s.go (fun d => match d.ctxAt mix.toNat with
    | none => d
    | some c => match c.radPort with
      | none => d
      | some n =>
        if d.serves && d.isOn (2 + n) && d.radSun n && c.calendar && (c.rsync % 4 = 2 || c.rsync % 4 = 3 || decide (c.nextSlot = 0))
            && !(d.rp n).rdv.any (fun e => e.1 = mix.toNat) then
          let i := d.nextWake c
          let w := d.rdvHalf n i c
          (d.toNs ((i - w) * 1000000000)).updRp n (fun r => { r with rdv := r.rdv ++ [(mix.toNat, (i + w) * 1000000000)] })
        else d)

/-- RENDEZVOUS_WINDOW_CLOSE (R262): the window closes at I + W. -/
def execRendezvousWindowClose (mix : BitVec 20) (s : State) : Host.Outcome State Fault Refusal :=
  s.go (fun d => match (d.ctxAt mix.toNat).bind Ctx.radPort with
    | none => d
    | some n => match (d.rp n).rdv.find? (fun e => e.1 = mix.toNat) with
      | some e => if d.live then (d.toNs e.2).updRp n (fun r => { r with rdv := r.rdv.filter (fun x => x ≠ e) }) else d
      | none => d)

end Sys2Proof.Machine
end

