-- ==== Sys2Proof/Machine/Funcs.lean ====
section
/-! DEFINITION. Sys2Proof/Machine/Funcs.lean: the lifecycle of functions and the resources they share (R582, R630 to R637), and the mounting
of the media (R500, R501, R520, R521). -/

namespace Sys2Proof.Machine

/-! ## The media at the start of its channels -/

/-- LUs that a unit holds in SLC mode. -/
def nandSlcLus (p : NandPart) : Nat := max 1 (p.euLu / max 1 p.bits)

/-- Units of the legal reserve: SLC-mode units that hold 2 GiB (R501). -/
def nandLegalEus (p : NandPart) : Nat := ceilDiv 524288 (nandSlcLus p)

/-- The parts of the channels that are ON. -/
def Dev.nandParts (d : Dev) : List NandPart := ((List.range 4).filter d.chanOn).filterMap (fun n => d.ftl.parts.find n)

/-- The geometry in use (R500, R501): at most 131,072 units. -/
def Dev.mediaGeom (d : Dev) : Dev :=
  match d.nandParts with
  | [] => d
  | p :: t => { d with ftl := { d.ftl with
      luns := min 64 (p.luns + sumNat (t.map (fun q => q.luns))), total := min 131072 (p.eus + sumNat (t.map (fun q => q.eus)))
      euLu := max 1 p.euLu, bits := max 1 p.bits, paramPe := p.pe, legal := if d.ftl.formatted then d.ftl.legal else (nandLegalEus p) } }

/-- Counters of the whole media (R528), which its metadata keeps (R524). -/
def ftlCounters : List Nat := (List.range 8).map (fun i => 0xC0040 + 4 * i)

/-- The media is formatted (R521): the units are divided (R501), the identifiers and the key recorded; every stream is lost. -/
def Dev.format (d : Dev) : Dev :=
  match d.nandParts with
  | [] => d
  | p :: _ =>
    let bad := p.bad.filter (fun i => decide (i < d.ftl.total))
    let good := d.ftl.total - bad.length
    let spare := d.rd F.FTL_CFG_SPARE_PCT * good / 100
    let user := good - (nandLegalEus p) - spare
    let f : Ftl := { state := 0, formatted := true, fmtKey := d.purposeKey "WRP", parts := d.ftl.parts, ids := p.id, luns := d.ftl.luns
                     total := d.ftl.total, euLu := d.ftl.euLu, bits := d.ftl.bits, paramPe := d.ftl.paramPe, legal := (nandLegalEus p), bandsAt := d.evr.bands
                     spareStart := spare, spareLeft := spare, userEus := user, userLu := 95 * user / 100 * max 1 p.euLu
                     eus := bad.foldl (fun t i => Tab.put t i ({ st := 6, channel := i % 4, lun := i / 4 } : Eu)) [] }
    ftlCounters.foldl (fun (y : Dev) o => y.setWord o 0) { d with ftl := f, nand := { clean := d.nand.clean } }

/-- Why the media cannot be mounted (R520): 1 key lost, 2 identifiers differ, 3 no format. -/
def Dev.mountFault (d : Dev) : Option Nat :=
  if !d.ftl.formatted then some 3
  else if d.ftl.fmtKey ≠ d.purposeKey "WRP" ∨ d.ftl.fmtKey = none then some 1
  else if d.nandParts.any (fun p => p.id ≠ d.ftl.ids) then some 2
  else none

/-- The media is mounted, formatted or found unusable once no channel is starting (R517, R520, R521). -/
def Dev.mount (d : Dev) : Dev :=
  if (List.range 4).any (fun n => (d.fnOf (10 + n)).st = .starting) || d.nandParts.isEmpty then d
  else
    let d1 := d.mediaGeom
    if d1.ftl.state ≠ 3 then d1
    else if d1.ftl.fmtNow then d1.format.mediaState
    else match d1.mountFault with
      | none => ({ d1 with ftl := { d1.ftl with state := if d1.ftl.readOnly then 2 else 0 } } : Dev).mediaState
      | some r =>
        let d2 : Dev := { d1 with ftl := { d1.ftl with keyLost := r = 1, idMismatch := r = 2 } }
        if d2.ftl.notMounted then d2
        else
          let w := (Config.mountReason r).toNat
          let d3 : Dev := { d2 with ftl := { d2.ftl with notMounted := true } }
          (d3.recordPost 3 0x0D85 3 0xC 0 0 w).fault 0x0D85 0xC 3 w true

/-- A NAND channel is ON with the parts it found: COMMIT_SLOW is reported (R500), the media mounted. -/
def Dev.nandOn (d : Dev) (n : Nat) (p : NandPart) : Dev :=
  let d0 := ((d.wr F.FTL_CH_STS_CE_FOUND n (p.ces &&& d.rd F.FTL_CH_CFG_CE_EN n)).wr F.FTL_CH_STS_LUNS n (min 16 p.luns)).setWord
    (F.FTL_CH_ID_LO_ID.at n) (p.id % 2 ^ 32)
  let d1 := ((d0.setWord (F.FTL_CH_ID_HI_ID.at n) (p.id / 2 ^ 32 % 2 ^ 32)).wr F.FTL_CH_GEOM_BITS n p.bits).wr F.FTL_CH_GEOM_EUS n p.eus
  let d2 : Dev := { d1 with ftl := { d1.ftl with parts := d1.ftl.parts.put n p, commitSlow := d1.ftl.commitSlow || p.slow } }
  (if p.slow then d2.fault 0x0F1B 0xC 3 n else d2).mount

/-! ## Beacon comparator and the MX group (R360, R447, R635) -/

/-- A port takes the beacon comparator when it leaves OFF, or waits for it (R447). -/
def Dev.needBeacon (d : Dev) (fix : Nat) : Dev :=
  if fix < 6 && d.beaconPort fix then
    match d.takeCmp 5 with
    | some d1 => d1
    | none => d.setFn fix { d.fnOf fix with blocked := true }
  else d

/-- The last port that sends beacons has gone to OFF: its comparator frees. -/
def Dev.leaveBeacon (d : Dev) : Dev :=
  if (List.range 6).any (fun k => !d.isOff k && d.beaconPort k) then d else d.freeCmp 5

/-- Metrology claims the MX group (R360). -/
def Dev.mxClaimed (d : Dev) : Bool := (List.range 6).any (fun i => !d.isOff (37 + i))

/-- The claim takes the group from RP3, which behaves as if disabled and is enabled again (R635). -/
def Dev.mxTake (d : Dev) : Dev :=
  let d1 := d.wrb F.MET_STS_MX_CLAIMED 0 true
  let f := d1.fnOf 5
  if (f.st = .starting ∧ f.blocked = false) ∨ f.st = .on then
    (d1.setFn 5 (if f.st = .on then { f with st := .stopping, pending := true } else { f with thenStop := true, pending := true })).record 0x0F34 0 0
  else d1

/-- RP3 has released the balls, or never took them. -/
def Dev.mxFree (d : Dev) : Bool := let f := d.fnOf 5; decide (f.st = .off ∨ f.st = .failed) || (decide (f.st = .starting) && f.blocked)

/-! ## Starting -/

/-- A radio port starts: blocked while metrology claims its balls, else INIT, the checks and lane training (R242, R244 to R246). -/
def Dev.radEnable (d : Dev) (n : Nat) : Dev :=
  if n = 3 && d.mxClaimed then (d.setFn 5 { d.fnOf 5 with blocked := true }).wrb F.RAD_STS_BLOCKED 3 true
  else
    let d1 := (d.wrb F.RAD_STS_BLOCKED n false).radLeavesOff n
    if (d1.fnOf (2 + n)).st = .starting then d1.needBeacon (2 + n) else d1

/-- The check meters' channels that another check meter holds (R375). -/
def Dev.cmBlocked (d : Dev) (k : Nat) : Bool :=
  (d.cmChans k).any (fun c => match d.cmHolder c with | some j => j ≠ k | none => false)

/-- A check meter starts its channels (R375): V1's ratio and HPF for all, one modulator clock, indices from 0. -/
def Dev.cmTake (d : Dev) (k : Nat) : Dev :=
  let cs := d.cmChans k
  let v1 := cs.getD 0 0
  let ratio := d.word (F.MET_CH_RATIO_D_CIC.at v1)
  let d1 := cs.foldl (fun (y : Dev) c =>
    let z := ((y.setWord (F.MET_CH_RATIO_D_CIC.at c) ratio).wr F.MET_CH_CFG_HPF c (d.rd F.MET_CH_CFG_HPF v1)).wrb F.MET_CH_STS_CM_HELD c true
    (z.setMch c (z.chFresh c)).setFn (19 + c) { st := .starting, since := z.tim.mono }) d
  if cs.any (fun c => 18 ≤ c) then d1.mxTake else d1

/-- Check-meter start, blocked while another holds a channel of its map. -/
def Dev.cmStart (d : Dev) (k : Nat) : Dev :=
  if d.cmBlocked k then (d.setFn (14 + k) { d.fnOf (14 + k) with blocked := true }).wrb F.MET_CM_STS_BLOCKED k true
  else (d.wrb F.MET_CM_STS_BLOCKED k false).cmTake k

/-- A mask of 58 carriers with at least 24 set: the lowest clear bits are set (R181). -/
def maskFill (w : Nat) : Nat :=
  ((List.range 58).foldl (fun (a : Nat × Nat) b => if a.1 < 24 && !bitAt a.2 b then (a.1 + 1, a.2 + 2 ^ b) else a) (((List.range 58).filter (bitAt w)).length, w)).2

/-- LCP_SC_MASK takes its effective value. -/
def Dev.scMaskMin (d : Dev) (p : Nat) : Dev :=
  let w := maskFill (d.scMask p)
  (d.wr F.LCP_SC_MASK_LO_CARRIERS p (w % 2 ^ 32)).wr F.LCP_SC_MASK_HI_CARRIERS p (w / 2 ^ 32)

/-- A line port leaves OFF. -/
def Dev.lineLeavesOff (d : Dev) (p : Nat) : Dev :=
  let d1 := (d.scMaskMin p).updLp p (fun l => { l with
    be := d.rd F.LCP_MAC_CFG_MIN_BE p, navUntil := 0, phase := .idle, tx := none, blankUntil := none, blanked := [], bcnLeft := [], castLeft := []
    seg := none, winEx := 0, winFail := 0, goodWins := 0, winStart := d.tim.mono, cfg := [], idleFrom := d.tim.mono, segNext := 0, ackBy := none
    gain := d.noiseTrack p, imp := [], quietFrom := d.tim.mono, quietLast := none })
  d1.needBeacon p

/-- A function goes from OFF to STARTING (R631). -/
def Dev.fnStart (d : Dev) (fix : Nat) : Dev :=
  if fixAbsent d.grade fix then d
  else
    let d1 := d.setFn fix { st := .starting, since := d.tim.mono }
    if fix < 2 then d1.lineLeavesOff fix
    else if fix < 6 then d1.radEnable (fix - 2)
    else if fix < 10 then d1.setEp (fix - 6) { cnt := (d1.ep (fix - 6)).cnt, hi := (d1.ep (fix - 6)).hi }
    else if fix < 14 then d1
    else if fix < 18 then d1.cmStart (fix - 14)
    else if fix = 18 then d1
    else if fix < 43 then (let d2 := d1.setMch (fix - 19) (d1.chFresh (fix - 19)); if 37 ≤ fix then d2.mxTake else d2)
    else d1.pairFresh (fix - 64)

/-! ## Stopping -/

/-- Nothing of a function is in progress any more. -/
def Dev.fnIdle (d : Dev) (fix : Nat) : Bool :=
  if d.inLoop fix then false
  else if fix < 2 then (d.psch fix).cur.isNone && decide ((d.lp fix).phase = .idle)
  else if fix < 6 then (d.psch fix).cur.isNone && decide ((d.rp (fix - 2)).phase = .idle)
  else if 64 ≤ fix then (d.pair (fix - 64)).waiting.isEmpty && (d.pair (fix - 64)).held.all (fun h => h.mute ≠ 0)
  else true

/-- RP3 takes the balls that metrology has released (R635). -/
def Dev.mxRelease (d : Dev) : Dev :=
  if d.mxClaimed then d
  else
    let d1 := d.wrb F.MET_STS_MX_CLAIMED 0 false
    let f := d1.fnOf 5
    if f.st = .starting ∧ f.blocked ∧ d1.on F.RAD_STS_BLOCKED 3 then
      (d1.setFn 5 { f with blocked := false, since := d1.tim.mono }).radEnable 3
    else d1

/-- Check meters that waited for a channel start once it is free (R375). -/
def Dev.cmUnblock (d : Dev) : Dev :=
  (List.range 4).foldl (fun (y : Dev) k =>
    let f := y.fnOf (14 + k)
    if f.st = .starting ∧ f.blocked ∧ ¬ y.cmBlocked k then (y.setFn (14 + k) { f with blocked := false, since := y.tim.mono }).cmStart k else y) d

/-- A check meter releases its channels, which go to OFF. -/
def Dev.cmRelease (d : Dev) (k : Nat) : Dev :=
  (((d.cmChans k).foldl (fun (y : Dev) c => ((y.wrb F.MET_CH_STS_CM_HELD c false).setMch c (y.chOff c)).setFn (19 + c) {}) d).cmStopped k).mxRelease

/-- ETH_LOCK (R33): the Ethernet SerDes PLL of every enabled port is locked, which none FAILED says; a fall sets LOSS_SEEN. -/
def Dev.ethLock (d : Dev) : Dev :=
  let now := !(List.range 4).any (fun p => (d.fnOf (6 + p)).st = .failed)
  let d1 := if d.on F.GLB_CLK_STS_ETH_LOCK && !now then d.wrb F.GLB_CLK_STS_LOSS_SEEN 0 true else d
  d1.wrb F.GLB_CLK_STS_ETH_LOCK 0 now

/-- A function is OFF, or has FAILED: what it held is released. -/
def Dev.fnRelease (d : Dev) (fix : Nat) : Dev :=
  if fix < 2 then
    ({ (d.updLp fix (fun l => { l with phase := .idle, tx := none, bcnLeft := [], castLeft := [] })) with
        tim := { d.tim with beacons := d.tim.beacons.del fix, beaconDue := d.tim.beaconDue.filter (· ≠ fix) } } : Dev).leaveBeacon
  else if fix < 6 then
    let d1 := ((d.radHalt (fix - 2)).wrb F.RAD_STS_IQ_LOCK (fix - 2) false).wrb F.RAD_STS_BLOCKED (fix - 2) false
    ({ d1 with tim := { d1.tim with beacons := d1.tim.beacons.del fix, beaconDue := d1.tim.beaconDue.filter (· ≠ fix) } } : Dev).leaveBeacon
  else if fix < 10 then
    let d1 := (d.ethDiscard (fix - 6)).wrb F.ETH_STS_LINK (fix - 6) false
    (d1.setEp (fix - 6) { d1.ep (fix - 6) with linkAt := none, pauseUntil := none }).ethLock
  else if fix < 14 then d
  else if fix < 18 then (d.wrb F.MET_CM_STS_BLOCKED (fix - 14) false).cmRelease (fix - 14)
  else if fix = 18 then
    (if d.on F.GLB_CLK_STS_PAIR_LOCK then d.wrb F.GLB_CLK_STS_LOSS_SEEN 0 true else d).wrb F.GLB_CLK_STS_PAIR_LOCK 0 false
  else if fix < 43 then ((d.setMch (fix - 19) (d.chOff (fix - 19))).wrb F.MET_CH_STS_STUCK (fix - 19) false).mxRelease
  else d

/-- A function reaches OFF (R631): PENDING starts it again. -/
def Dev.fnOff (d : Dev) (fix : Nat) : Dev :=
  let f := d.fnOf fix
  let d0 := if 2 ≤ fix ∧ fix < 6 then d.play (fix - 2) 3 else d
  let held := decide (14 ≤ fix ∧ fix < 18) && !f.blocked
  let d1 := d0.setFn fix {}
  let d2 := if 14 ≤ fix ∧ fix < 18 ∧ ¬ held then d1.wrb F.MET_CM_STS_BLOCKED (fix - 14) false else d1.fnRelease fix
  let d3 := if 14 ≤ fix ∧ fix < 18 then d2.cmUnblock else d2
  if f.pending then d3.fnStart fix else d3

/-- A frame that no cap lets start ends with the disabling of its port (R199). -/
def Dev.capDrop (d : Dev) (p : Nat) : Dev :=
  if d.capLowAll p && decide ((d.lp p).phase = .contend) then
    if (d.psch p).beacon then (d.updLp p (fun l => { l with phase := .idle, bcnLeft := [] })).setPsch p { d.psch p with beacon := false }
    else d.updLp p (fun l => { l with phase := .failed, excused := true })
  else d

/-- A function that is ON goes to STOPPING. -/
def Dev.fnStop (d : Dev) (fix : Nat) (pending : Bool) : Dev :=
  let d1 := d.setFn fix { d.fnOf fix with st := .stopping, pending := pending, thenStop := false }
  if 64 ≤ fix then d1.watchFull (fix - 64) else if fix < 2 then d1.capDrop fix else d1

/-! ## Commands -/

/-- ENABLE written 1 (R631). -/
def Dev.enable (d : Dev) (fix : Nat) : Dev :=
  match (d.fnOf fix).st with
  | .off => d.fnStart fix
  | .stopping => d.setFn fix { d.fnOf fix with pending := true }
  | _ => d

/-- ENABLE written 0 (R631). -/
def Dev.disable (d : Dev) (fix : Nat) : Dev :=
  let f := d.fnOf fix
  match f.st with
  | .off => d
  | .starting => if f.blocked then (d.setFn fix { f with pending := false }).fnOff fix
                 else d.setFn fix { f with thenStop := true, pending := false }
  | .on => d.fnStop fix false
  | .stopping => d.setFn fix { f with pending := false }
  | .failed => if d.fnIdle fix then d.fnOff fix else d.setFn fix { f with thenStop := true }

/-- The ENABLE field of a function and its instance (R630); the pair unit follows PAR_CFG.EN at a reset. -/
def enableOf (fix : Nat) : Option (F × Nat) :=
  if fix < 2 then some (F.LCP_CFG_ENABLE, fix)
  else if fix < 6 then some (F.RAD_CFG_ENABLE, fix - 2)
  else if fix < 10 then some (F.ETH_CFG_ENABLE, fix - 6)
  else if fix < 14 then some (F.FTL_CH_CFG_ENABLE, fix - 10)
  else if fix < 18 then some (F.MET_CM_CFG_ENABLE, fix - 14)
  else if fix = 18 then none
  else if fix < 43 then some (F.MET_CH_CFG_ENABLE, fix - 19)
  else if 64 ≤ fix ∧ fix < 128 then some (F.RNG_PAIR_CFG_ENABLE, fix - 64)
  else none

/-- A channel that a check meter holds ignores writes to its ENABLE field (R375). -/
def Dev.enableHeld (d : Dev) (fix : Nat) : Bool := decide (19 ≤ fix ∧ fix < 43) && d.on F.MET_CH_STS_CM_HELD (fix - 19)

/-- A write to the register that holds a function's ENABLE field. -/
def Dev.fnCfgWrite (d : Dev) (fix v : Nat) : Dev :=
  match enableOf fix with
  | none => d
  | some (e, i) =>
    if !d.live || fixAbsent d.grade fix then d
    else if d.enableHeld fix then d.plainWrite (e.at i) (e.put v (d.rd e i))
    else
      let d1 := d.plainWrite (e.at i) v
      if e.get v = 1 then d1.enable fix else d1.disable fix

/-- FUNCTION_ENABLE (R631): a write with ENABLE 1. -/
def execFunctionEnable (fix : Fin 128) (val : Word) (s : State) : Host.Outcome State Fault Refusal :=
  s.go (fun d => d.fnCfgWrite fix (withBits val.toNat 31 1 1))

/-- FUNCTION_DISABLE (R631): a write with ENABLE 0. -/
def execFunctionDisable (fix : Fin 128) (val : Word) (s : State) : Host.Outcome State Fault Refusal :=
  s.go (fun d => d.fnCfgWrite fix (withBits val.toNat 31 1 0))

/-- What a function's kind asks before it is ON (R242, R360, R632). -/
def Dev.startable_ (d : Dev) (fix : Nat) : Bool :=
  if 2 ≤ fix ∧ fix < 6 then d.on F.RAD_STS_IQ_LOCK (fix - 2)
  else if 14 ≤ fix ∧ fix < 18 then (d.cmChans (fix - 14)).all (fun c => d.isOn (19 + c))
  else if 37 ≤ fix ∧ fix < 43 then d.mxFree
  else true

/-- A port that is ON has its beacon series (R451), anchored at this instant. -/
def Dev.beaconSeries (d : Dev) (fix : Nat) : Dev :=
  if d.beaconPort fix then { d with tim := { d.tim with beacons := d.tim.beacons.put fix (seriesNext d.nowNs (d.beaconPer fix) d.nowNs) } } else d

/-- What follows when a function is ON. -/
def Dev.fnOn (d : Dev) (fix : Nat) (nand : NandPart) : Dev :=
  if fix < 6 then d.beaconSeries fix
  else if fix < 10 then d.ethLock
  else if fix < 14 then d.nandOn (fix - 10) nand
  else if fix < 18 then d.setMcm (fix - 14) { d.mcm (fix - 14) with onAt := d.nowNs }
  else if fix = 18 then
    { (d.wrb F.GLB_CLK_STS_PAIR_LOCK 0 true) with par := if d.glb.stepC ∧ d.par.role = .arb then { d.par with arbFrom := d.tim.mono } else d.par }
  else if fix < 43 then d
  else d.stepDone 3

/-- A starting function has started (R631): ON, then STOPPING if a disable came meanwhile. -/
def Dev.fnStarted (d : Dev) (fix : Nat) (nand : NandPart) : Dev :=
  let f := d.fnOf fix
  if d.live && decide (f.st = .starting) && !f.blocked && d.startable_ fix then
    let d1 := (d.setFn fix { st := .on, pending := f.pending }).fnOn fix nand
    if f.thenStop then d1.fnStop fix f.pending else d1
  else d

/-- FUNCTION_STARTED (R631): `nand` is what a NAND channel found. -/
def execFunctionStarted (fix : Fin 128) (nand : NandPart) (s : State) : Host.Outcome State Fault Refusal :=
  s.go (fun d => d.fnStarted fix nand)

/-- FUNCTION_STOPPED (R631). -/
def execFunctionStopped (fix : Fin 128) (s : State) : Host.Outcome State Fault Refusal :=
  s.go (fun d =>
    let f := d.fnOf fix
    if d.live && (decide (f.st = .stopping) || (decide (f.st = .failed) && f.thenStop)) && d.fnIdle fix then d.fnOff fix else d)

/-- FUNCTION_START_TIMEOUT (R632): 1 s of STARTING, for a radio port with the duration of INIT. -/
def execFunctionStartTimeout (fix : Fin 128) (s : State) : Host.Outcome State Fault Refusal :=
  s.go (fun d =>
    let f := d.fnOf fix
    if d.live && decide (f.st = .starting) && !f.blocked then
      let d1 := d.toMono (f.since + msC 1000 + (if 2 ≤ fix.val ∧ fix.val < 6 then usC (d.scriptUs (fix - 2) 0) else 0))
      (d1.failFn fix).fnRelease fix
    else d)

/-- The queues of a function (R460, R468). -/
def fnQueues (fix : Nat) : List Nat := if fix < 10 then [fix] else if fix = 18 then [15, 16] else []

/-- A descriptor targets a function (R76). -/
def targetsFn (fix : Nat) (x : Desc) : Bool :=
  decide (x.word 2 / 2 ^ 28 = 4) && decide (funcFix (bitsOf (x.word 2) 20 8) (x.word 2 % 2 ^ 20) = fix)

/-- The started descriptors of a port are also those that its transaction in flight serves (R582, R633); the transaction runs on (R151). -/
def Dev.portAbort (d : Dev) (fix : Nat) : Dev :=
  match (d.psch fix).cur with
  | none => d
  | some x => x.descs.foldl (fun (y : Dev) q => y.complete q.1 q.2 0x16 1) (d.setPsch fix { d.psch fix with cur := some { x with descs := [] } })

/-- What a reset of a function discards and aborts (R90, R96, R468). -/
def Dev.fnFlush (d : Dev) (fix : Nat) : Dev :=
  let d0 : Dev := { d with rng := { d.rng with loops := d.rng.loops.filter (fun l => l.1 ≠ fix) }
                           sch := { d.sch with ports := if fix < 6 then d.sch.ports.mapVals (fun k p => if k = fix then { p with looped := false } else p) else d.sch.ports } }
  let d1 := (fnQueues fix).foldl (fun (y : Dev) q => y.flushNow q) d0
  let d2 := d1.completeAll (fun _ h => if h.started && targetsFn fix h.desc then some (0x16, 1) else none)
  if fix < 6 then d2.portAbort fix
  else if 64 ≤ fix then
    d2.updPair (fix - 64) (fun x => { x with waiting := [], held := (x.held.filter (fun h => h.started)).map (fun h => { h with mute := 2 }) })
  else d2

/-- A reset of the pair unit releases the claim (R633, R584); arbitration follows when it has started again. -/
def Dev.pairReset (d : Dev) : Dev :=
  let d1 := if d.par.claim then d.yieldClaim else d
  let d2 := d1.stopSwap.dropDescs
  { d2 with par := { d2.par with role := if d2.par.en then .arb else d2.par.role, arbFrom := d2.tim.mono, won := none, ready := false, yielded := false } }

/-- GLB_FUNC_RESET (R582, R633). -/
def Dev.fnReset (d : Dev) (fix : Nat) : Dev :=
  if fixAbsent d.grade fix then d
  else
    let f := d.fnOf fix
    let d0 := match enableOf fix with | some (e, i) => if d.enableHeld fix then d else d.wrb e i true | none => d
    match f.st with
    | .off => d0.fnStart fix
    | .starting => d
    | .stopping => d0.setFn fix { f with pending := true }
    | _ =>
      let d1 := (d0.fnFlush fix).fnStop fix true
      if fix = 18 then d1.pairReset else d1

/-- FUNCTION_RESET (R633): a write to GLB_FUNC_RESET. -/
def execFunctionReset (val : Word) (s : State) : Host.Outcome State Fault Refusal :=
  s.go (fun d => if d.live && decide (F.GLB_FUNC_RESET_GO.get val.toNat = 1) then d.fnReset (F.GLB_FUNC_RESET_FIX.get val.toNat) else d)

/-- SERDES_LOCK_LOSS (R34): Ethernet port 0 to 3, or 4 for the pair link. -/
def execSerdesLockLoss (port : Fin 5) (s : State) : Host.Outcome State Fault Refusal :=
  s.go (fun d =>
    if port.val = 4 then
      if d.live && d.isOn 18 then
        let d1 := (({ d with par := { d.par with lanes := [false, false], credit := 0, freed := 4096, staged := [] } } : Dev).bump F.PAR_LINK_DOWN).failFn 18
        (d1.fnRelease 18).healthCheck
      else d
    else if d.live && d.isOn (6 + port.val) then ((d.ethDown port.val).failFn (6 + port.val)).fnRelease (6 + port.val)
    else d)

/-- GLB_AUTO_EN names a function (R625, R639). -/
def Dev.auto (d : Dev) (fix : Nat) : Bool := !fixAbsent d.grade fix && bitAt (d.rd F.GLB_AUTO_EN_EN (fix / 32)) (fix % 32)

/-- Functions start by themselves, with their ENABLE fields set (R625). -/
def Dev.autoStart (d : Dev) (fixes : List Nat) : Dev :=
  fixes.foldl (fun (y : Dev) f =>
    if y.auto f && y.isOff f then (match enableOf f with | some (e, i) => y.wrb e i true | none => y).fnStart f else y) d

/-- Step c has ended (R533, R624, R625): the Ethernet ports, the channels, the check meters. -/
def Dev.stepCEnd (d : Dev) : Dev :=
  if d.glb.stepC then d
  else
    let d1 := d.stepDone 2
    ({ d1 with glb := { d1.glb with stepC := true } } : Dev).autoStart ((List.range 4).map (· + 6) ++ (List.range 24).map (· + 19) ++ (List.range 4).map (· + 14))

end Sys2Proof.Machine
end

