-- ==== Sys2Proof/Machine/Pair.lean ====
section
/-! DEFINITION. Sys2Proof/Machine/Pair.lean: the PAIR descriptors and the commands of the pair unit (R529 to R555). -/

namespace Sys2Proof.Machine

/-! ## Frames arrive (R536 to R538) -/

/-- A keyed frame is taken: K_plk and the SEQ window; a frame under credits frees its cells here (R536, R538). -/
def Dev.pairTake (d : Dev) (h : PairHdr) (b : PairBody) : Bool × Dev :=
  if !(d.live && d.par.en && d.pairUp) then (false, d)
  else if d.purposeKey "PLK" ≠ some h.key then (false, d.bump F.PAR_AUTH_FAIL)
  else match d.par.win.take h.epoch h.count with
    | none => (false, d.bump F.PAR_AUTH_FAIL)
    | some w => (true, { d with par := { d.par with win := w, freed := d.par.freed + (if pairBypass b then 0 else pairCells b) } })

/-- Act on a keyed frame that is taken. -/
def Dev.onPair (d : Dev) (h : PairHdr) (b : PairBody) (f : Dev → Dev) : Dev :=
  let r := d.pairTake h b
  if r.1 then f r.2 else r.2

/-! ## Descriptors (R540, R549, R551) -/

/-- PAIR_STATUS (R540). -/
def execPairStatus (pair : Fin 64) (s : State) : Host.Outcome State Fault Refusal :=
  s.go (fun d => d.onDesc pair 0xA0 (fun d h =>
    let w := d.par.role.code + 4 * b2n d.par.claim + 8 * b2n d.claimIn + 16 * b2n d.par.solo
    d.complete pair h.id 0 0 [w, d.par.cycle % 2 ^ 32, d.par.health]))

/-- What refuses a swap: the pair unit is not ON, or a swap or drill runs, or the partner is not healthy. -/
def Dev.swapRefusal (d : Dev) : Option (Nat × Nat) :=
  if !d.isOn 18 then some (7, (d.fnOf 18).st.code)
  else if d.par.swap.isSome || d.par.drill.isSome || !d.peerHealthy then some (8, 0)
  else none

/-- A swap is asked of this device (R549): the bow asks the stroke with a SWAP frame. -/
def Dev.swapAsk (d : Dev) (desc : Option (Nat × Nat)) : Dev :=
  if d.isBow then ({ d with par := { d.par with swap := some { phase := .sweep, desc := desc } } } : Dev).pairSend d.par.cycle .swap
  else d.swapStart desc

/-- PAIR_SWAP (R549). -/
def execPairSwap (pair : Fin 64) (s : State) : Host.Outcome State Fault Refusal :=
  s.go (fun d => d.onDesc pair 0xA1 (fun d h =>
    match d.swapRefusal with
    | some (st, sub) => d.complete pair h.id st sub
    | none => (d.markStarted pair h.id).swapAsk (some (pair.val, h.id))))

/-- The steps of a drill that can run now, in bit order, with fuel (R551). -/
def Dev.drillRun : Nat → Dev → Dev
  | 0, d => d
  | f + 1, d =>
    match d.par.drill with
    | none => d
    | some x =>
      match (List.range 5).find? (fun b => bitAt x.left b) with
      | none => d.drillEnd
      | some 4 =>
        if d.isBow then d.pairSend d.par.cycle (.drill 4 [])
        else (d.pairSend d.openCycle (.drill 4 (d.portShares (msC 3600000)))).swapStart none
      | some b => if d.isBow then Dev.drillRun f (d.drillStep b (bitAt x.results b) 0) else d.pairSend d.openCycle (.drill b [])

/-- PAIR_DRILL (R551): `results` tells which of the steps 0 to 3 pass where they run on this device. -/
def execPairDrill (pair : Fin 64) (results : BitVec 4) (s : State) : Host.Outcome State Fault Refusal :=
  s.go (fun d => d.onDesc pair 0xA2 (fun d h =>
    match d.swapRefusal with
    | some (st, sub) => d.complete pair h.id st sub
    | none =>
      let m := h.desc.word 3 % 32
      let x : Drill := { own := true, desc := some (pair.val, h.id), mask := m, left := m, results := results.toNat }
      let d1 := (d.markStarted pair h.id).wrb F.PAR_DRILL_STS_RUNNING 0 true
      ({ d1 with par := { d1.par with drill := some x } } : Dev).drillRun 6))

/-! ## Arbitration (R533, R534) -/

/-- This device wins an ARB exchange: root, then last role, then SIDE 0. -/
def arbWins (own peer : Bool × Bool × Bool) : Bool :=
  if own.1 ≠ peer.1 then own.1 else if own.2.1 ≠ peer.2.1 then own.2.1 else !own.2.2

/-- The device arbitrates: a recovery boot never sets its claim (R600). -/
def Dev.arbitrates (d : Dev) : Bool := d.live && d.par.en && decide (d.par.role = .arb) && !d.upd.recovery

/-- Arbitration ends with a role: heartbeats are expected from now (R539). -/
def Dev.arbEnd (d : Dev) (stroke : Bool) : Dev :=
  let d1 := if stroke then d.becomeStroke else d.becomeBow
  ({ d1 with par := { d1.par with lastHb := some d1.tim.mono, hbDue := d1.tim.mono } } : Dev).stepCEnd

/-- ARB_LISTEN_END (R533): 100 ms after step b. -/
def execArbListenEnd (s : State) : Host.Outcome State Fault Refusal :=
  s.go (fun d =>
    if !d.arbitrates then d
    else
      let d1 := d.toMono (d.par.arbFrom + msC 100)
      if d1.claimIn then d1.arbEnd false
      else d1.pairSend 0 (.arb d1.rootValid d1.par.wasStroke d1.par.side (Config.serial 0).toNat))

/-- ARB_RX (R533): compare, and note the partner's serial number. -/
def execArbRx (hdr : PairHdr) (rootValid lastStroke side : Bool) (serial : Nat) (s : State) : Host.Outcome State Fault Refusal :=
  s.go (fun d => d.onPair hdr (.arb rootValid lastStroke side serial) (fun d =>
    let d1 : Dev := { d with par := { d.par with peerSerial := serial } }
    if d1.arbitrates then
      { d1 with par := { d1.par with won := some (arbWins (d1.rootValid, d1.par.wasStroke, d1.par.side) (rootValid, lastStroke, side)) } }
    else d1))

/-- ARB_CLAIM_INSTANT (R533): 150 ms after step b; with the link down and SIDE 1, 250 ms. -/
def execArbClaimInstant (s : State) : Host.Outcome State Fault Refusal :=
  s.go (fun d =>
    if !d.arbitrates then d
    else
      let byArb := d.pairUp && d.par.won.isSome
      let d1 := d.toMono (d.par.arbFrom + msC (if !byArb && d.par.side then 250 else 150))
      if d1.claimIn then d1.arbEnd false
      else if byArb then d1.arbEnd (d1.par.won.getD false)
      else d1.arbEnd true)

/-! ## CLAIM_IN (R530, R533, R544) -/

/-- SWAP is sent and the claim is down. -/
def Dev.swapSent (d : Dev) : Bool := match d.par.swap with | some x => decide (x.phase = .sent) | none => false

/-- The filtered CLAIM_IN has risen; the partner set its claim at an instant, ns. -/
def Dev.claimRose (d : Dev) (t : Nat) : Dev :=
  if d.par.role ≠ .stroke then d
  else if d.par.claim then (if d.par.side then d.becomeBow else d)
  else if d.swapSent then d.swapDone t
  else
    let cause := if d.par.yielded then 2 else if d.par.hbLost then 1 else 3
    ((d.swapDesc 0x16 3).becomeBow).post 7 0x0E10 1 0xE 0 d.par.cycle cause

/-- The filtered CLAIM_IN has fallen. -/
def Dev.claimFell (d : Dev) : Dev :=
  if d.par.swapRx then d.swapTake
  else if d.par.yielded then d.takeover 2
  else if d.par.hbLost then d.takeover 1
  else d

/-- CLAIM_IN_CHANGE (R530): the gates follow at once; a level that stays for 10 µs reaches the filtered value. -/
def execClaimInChange (level stays : Bool) (s : State) : Host.Outcome State Fault Refusal :=
  s.go (fun d =>
    if level = d.par.claimInRaw then d
    else
      let t := d.nowNs
      let d0 : Dev := { d with par := { d.par with claimInOld := d.claimIn, claimInRaw := level, claimInAt := d.tim.mono } }
      let d1 := if level then d0.gateShut else d0
      if !stays then d1
      else
        let d2 := d1.toMono (d1.par.claimInAt + 5000)
        if !(d2.live && d2.par.en) || d1.claimIn = level then d2
        else if level then d2.claimRose t else d2.claimFell)

/-- CLAIM_LOW_TIMEOUT (R544): CLAIM_IN has read low for 3 × HB_MS. -/
def execClaimLowTimeout (s : State) : Host.Outcome State Fault Refusal :=
  s.go (fun d =>
    if d.live && d.isBow && !d.par.claimInRaw then (d.toMono (d.par.claimInAt + 5000 + 3 * d.hbC)).takeover 3 else d)

/-- CLAIM_TIMER_EXPIRY (R531): CLAIM_OUT falls; the descriptors of a device that loses the claim are settled (R89). -/
def execClaimTimerExpiry (s : State) : Host.Outcome State Fault Refusal :=
  s.go (fun d =>
    match d.par.claimExp with
    | some t => if d.live then (d.toMono t).dropClaim.dropDescs else d
    | none => d)

/-! ## Heartbeats (R539) -/

/-- The device takes part in heartbeats. -/
def Dev.beats (d : Dev) : Bool := d.live && d.par.en && (decide (d.par.role = .stroke) || d.isBow)

/-- The HEARTBEAT frame as it stands. -/
def Dev.heartbeat (d : Dev) : PairBody :=
  .heartbeat { role := d.par.role.code, claim := d.par.claim, rootValid := d.rootValid, kcv := d.rootKcv, checkOk := d.tar.checkOk
               faultLatched := d.on F.FLT_STS_FATAL || d.on F.FLT_STS_DEGRADED, fatal := d.on F.FLT_STS_FATAL, mediaOk := d.mediaFine, ready := d.par.ready, cycle := d.par.cycle
               version := d.word 0x11000C, cfgFmt := d.upd.cfgFmt, closing := d.on F.TAR_STS_CLOSING, tamper := d.on F.SEC_STS_TAMPER_LATCH }

/-- A stroke whose pair unit holds the claim set: not silent, not yielding, not past SWAP. -/
def Dev.claimStands (d : Dev) : Bool :=
  decide (d.par.role = .stroke) && !d.isSafe && !d.par.yielded && !d.claimIn && !d.swapSent

/-- PAIR_HEARTBEAT_SEND (R531, R539): every HB_MS; the claim timer is reloaded. -/
def execPairHeartbeatSend (s : State) : Host.Outcome State Fault Refusal :=
  s.go (fun d =>
    if !d.beats then d
    else
      let d1 := d.toMono d.par.hbDue
      let d2 := if d1.claimStands then d1.setClaim else d1
      let d3 : Dev := { d2 with par := { d2.par with hbDue := d2.tim.mono + d2.hbC } }
      (d3.pairSend 0 d3.heartbeat).swapTry)

/-- PAIR_HEARTBEAT_RX (R539, R540). -/
def execPairHeartbeatRx (hdr : PairHdr) (peer : PairPeer) (s : State) : Host.Outcome State Fault Refusal :=
  s.go (fun d => d.onPair hdr (.heartbeat peer) (fun d =>
    ({ d with par := { d.par with peer := peer, hbMisses := 0, hbLost := false, lastHb := some d.tim.mono } } : Dev).healthCheck))

/-- The stroke enters solo (R546): bookings that wait for JACK become effective. -/
def Dev.enterSolo (d : Dev) : Dev :=
  if d.par.solo then d
  else
    let d1 : Dev := { d with par := { d.par with
      solo := true, catchup := false, caughtAt := none, closing := d.par.closing.map (fun c => (c.1, true)) } }
    (d1.acknowledge d1.tar.jseq).recordPost 7 0x0E12 1 0xE 0 0 d1.par.cycle

/-- The heartbeat is lost (R539, R544, R546). -/
def Dev.heartbeatLost (d : Dev) : Dev :=
  let d1 := ({ d with par := { d.par with hbLost := true } } : Dev).healthCheck
  if d1.isBow then
    (if d1.claimIn then { d1 with par := { d1.par with ready := false, catchup := false } } else d1.takeover 1)
  else d1.enterSolo

/-- PAIR_HEARTBEAT_MISS (R539): HB_MS + 20 µs after the previous one; the third in a row declares it lost. -/
def execPairHeartbeatMiss (s : State) : Host.Outcome State Fault Refusal :=
  s.go (fun d =>
    match d.par.lastHb with
    | some t =>
      if !d.beats || d.par.hbLost then d
      else
        let d1 := (d.toMono (t + d.hbC + 10000)).bump F.PAR_HB_MISS
        let d2 : Dev := { d1 with par := { d1.par with hbMisses := d1.par.hbMisses + 1, lastHb := some (t + d1.hbC) } }
        if 3 ≤ d2.par.hbMisses then d2.heartbeatLost else d2
    | none => d)

/-! ## The stroke cycle (R541, R542) -/

/-- Stroke cycles run on a stroke and on a single device (R10, R41). -/
def Dev.cycles (d : Dev) : Bool := d.serves && decide (d.par.role ≠ .arb)

/-- STROKE_CYCLE_CLOSE (R541): at CMP5, or early when the delta has reached 64 MiB. -/
def execStrokeCycleClose (s : State) : Host.Outcome State Fault Refusal :=
  s.go (fun d =>
    if !d.cycles then d
    else if 67108864 ≤ sumNat (d.delta.map deltaLen) then d.cycleClose true
    else
      let d1 := d.toMono d.par.cycleDue
      ({ d1 with par := { d1.par with cycleDue := seriesNext d1.par.cycleDue (msC (d1.rd F.PAR_CFG_STROKE_MS)) d1.tim.mono } } : Dev).cycleClose false)

/-- The cycle ends (R542): KEY descriptors, retirements, swaps and snapshots that wait for it go on (R127, R132, R299). -/
def Dev.cycleEnd (d : Dev) (n : Nat) : Dev :=
  let d1 : Dev := { d with
    par := { d.par with cycle := n, closing := none }
    ftl := { d.ftl with cyclesSinceSnap := d.ftl.cyclesSinceSnap + 1 } }
  (((d1.wr F.PAR_CYCLE_CYCLE 0 n).keyEnd n).retireEnd n).swapTry

/-- STROKE_CYCLE_END (R542): the ACK has arrived, or none is awaited, and the closed journal half is programmed. -/
def execStrokeCycleEnd (s : State) : Host.Outcome State Fault Refusal :=
  s.go (fun d =>
    match d.par.closing with
    | some (n, acked) => if d.live && (acked || !d.mirrored) && d.tar.closedHalves.isEmpty then d.cycleEnd n else d
    | none => d)

/-- DELTA_RX (R542): staged by cycle; a later cycle's first frame drops a delta without END. -/
def execDeltaRx (hdr : PairHdr) (recs : List DeltaRec) (s : State) : Host.Outcome State Fault Refusal :=
  s.go (fun d => d.onPair hdr (.delta recs) (fun d =>
    if d.isBow then { d with par := { d.par with staged := d.par.staged ++ recs } } else d))

/-- END_RX (R542): `hashOk` says that the SHA-256 in END is that of the staged delta. -/
def execEndRx (hdr : PairHdr) (count : Nat) (hashOk : Bool) (s : State) : Host.Outcome State Fault Refusal :=
  s.go (fun d => d.onPair hdr (.fin count) (fun d =>
    if !d.isBow then d
    else
      let rs := d.par.staged
      let d1 : Dev := { d with par := { d.par with staged := [] } }
      if rs.length = count && hashOk then
        (if d1.par.catchup then { d1 with par := { d1.par with held := d1.par.held ++ [(hdr.cycle, rs)] } } else d1.applyDelta hdr.cycle rs)
      else
        let d2 : Dev := { d1 with par := { d1.par with ready := false, catchup := true, stale := none, held := [] } }
        d2.pairSend hdr.cycle .catchupAsk))

/-- ACK_RX (R542). -/
def execAckRx (hdr : PairHdr) (s : State) : Host.Outcome State Fault Refusal :=
  s.go (fun d => d.onPair hdr .ack (fun d =>
    match d.par.closing with
    | some (n, _) => if n ≤ hdr.cycle then { d with par := { d.par with closing := some (n, true) } } else d
    | none => d))

/-! ## Billing mirror, credits, yield (R538, R543, R544) -/

/-- JMIR_RX (R543): entries that the bow does not hold yet, in JOURNAL_SEQ order. -/
def execJmirRx (hdr : PairHdr) (entries : List (Nat × JWhat)) (s : State) : Host.Outcome State Fault Refusal :=
  s.go (fun d => d.onPair hdr (.jmir entries) (fun d =>
    if d.isBow then
      let d1 := (sortBy (·.1) entries).foldl (fun (x : Dev) e => if x.tar.jseq < e.1 then x.applyMirror e.1 e.2 else x) d
      d1.pairSend hdr.cycle (.jack d1.tar.jseq)
    else d))

/-- JACK_RX (R543). -/
def execJackRx (hdr : PairHdr) (seq : Nat) (s : State) : Host.Outcome State Fault Refusal :=
  s.go (fun d => d.onPair hdr (.jack seq) (fun d => if d.isBow then d else d.acknowledge seq))

/-- Waiting frames of queue 16 leave while their credits last, with fuel. -/
def Dev.pairDrain : Nat → Dev → Dev
  | 0, d => d
  | f + 1, d =>
    match d.laneHead 16 with
    | some (n, ⟨_, _, .pairOut c b⟩) =>
      if pairCells b ≤ d.par.credit then
        let d1 := d.laneDrop 16 n
        Dev.pairDrain f (({ d1 with par := { d1.par with credit := d1.par.credit - pairCells b } } : Dev).pairEmit c b)
      else d
    | _ => d

/-- CREDIT_RX (R538). -/
def execCreditRx (hdr : PairHdr) (cells : Nat) (s : State) : Host.Outcome State Fault Refusal :=
  s.go (fun d => d.onPair hdr (.credit cells) (fun d =>
    let d1 : Dev := { d with par := { d.par with credit := d.par.credit + cells } }
    d1.pairDrain (d1.lane 16).cells.length))

/-- CREDIT_SEND (R538): cells that have freed are granted. -/
def execCreditSend (s : State) : Host.Outcome State Fault Refusal :=
  s.go (fun d =>
    if d.live && d.par.en && d.pairUp && decide (0 < d.par.freed) then
      let n := d.par.freed
      ({ d with par := { d.par with freed := 0 } } : Dev).pairEmit 0 (.credit n)
    else d)

/-- YIELD_RX (R544). -/
def execYieldRx (hdr : PairHdr) (s : State) : Host.Outcome State Fault Refusal :=
  s.go (fun d => d.onPair hdr .yield (fun d =>
    if d.isBow then (({ d with par := { d.par with yielded := true } } : Dev)).takeover 2 else d))

/-! ## Swaps (R549) -/

/-- SWAP_RX (R549): a bow's SWAP asks the stroke for a swap; the stroke's lets the bow claim once CLAIM_IN reads low. -/
def execSwapRx (hdr : PairHdr) (s : State) : Host.Outcome State Fault Refusal :=
  s.go (fun d => d.onPair hdr .swap (fun d =>
    if d.isBow then ({ d with par := { d.par with swapRx := true } } : Dev).swapTake
    else if d.par.swap.isSome then d else d.swapStart none))

/-- SWAP_TIMEOUT (R549): 50 ms after SWAP the old stroke sets its claim again, and the swap is aborted. -/
def execSwapTimeout (s : State) : Host.Outcome State Fault Refusal :=
  s.go (fun d =>
    match d.par.swap with
    | some x =>
      if d.live && decide (d.par.role = .stroke) && decide (x.phase = .sent) && !d.isSafe then
        let d1 := ((d.toMono (x.sentAt + msC 50)).setClaim).swapDesc 0x16 3
        match d1.par.drill with
        | some y =>
          let d2 := d1.drillStep 4 false 0
          if y.own then d2.drillEnd else (d2.pairSend d2.openCycle (.drillResult 4 false 0)).drillEnd
        | none => d1
      else d
    | none => d)

/-! ## Catch-up (R546) -/

/-- The stroke streams the full state; an empty frame ends it (DESIGN CHOICE). -/
def Dev.catchupSend (d : Dev) : Dev :=
  let n := d.openCycle
  let d1 : Dev := { d with par := { d.par with catchup := true, base := d.copied } }
  let d2 := ((packRecs 0 [] d.fullState).foldl (fun (x : Dev) r => x.pairSend n (.catchup r)) d1).pairSend n (.catchup [])
  { d2 with par := { d2.par with catchup := false, caughtAt := some n } }

/-- CATCHUP_REQUEST (R546): with no header, this bow asks; with one, the partner's request arrives. -/
def execCatchupRequest (hdr : Option PairHdr) (s : State) : Host.Outcome State Fault Refusal :=
  s.go (fun d =>
    match hdr with
    | none =>
      if d.live && d.par.en && d.isBow && d.pairUp && !d.par.ready && !d.par.catchup then
        ({ d with par := { d.par with catchup := true, stale := none, held := [], caughtAt := none } } : Dev).pairSend d.par.cycle .catchupAsk
      else d
    | some h => d.onPair h .catchupAsk (fun d => if decide (d.par.role = .stroke) && d.par.claim then d.catchupSend else d))

/-- CATCHUP_RX (R546): records are applied; the end of the catch-up applies the deltas held meanwhile, in cycle order. -/
def execCatchupRx (hdr : PairHdr) (recs : List DeltaRec) (s : State) : Host.Outcome State Fault Refusal :=
  s.go (fun d => d.onPair hdr (.catchup recs) (fun d =>
    if !(d.isBow && d.par.catchup) then d
    else if !recs.isEmpty then recs.foldl Dev.applyRec d.catchupClear
    else
      let hs := d.par.held
      let c := hdr.cycle - 1
      let d0 := d.catchupClear.catchupEnd
      let d1 := (d0.journalCycle (d0.ctx.tab.map (fun c => (c.1, some c.2))) d0.newLogs).offer 14 ⟨7, 128 * max 1 d0.tar.ext.length, .media 0 (.billSnapshot d0.tar.ext true)⟩
      let d2 : Dev := { d1 with
        ctx := { d1.ctx with dirty := [] }
        par := { d1.par with catchup := false, held := [], caughtAt := some hdr.cycle, cycle := max d1.par.cycle c, base := d1.copied } }
      hs.foldl (fun (x : Dev) h => x.applyDelta h.1 h.2) (d2.pairSend c .ack)))

/-- CATCHUP_DONE (R546): at the first cycle end after the catch-up the bow is READY, and the stroke leaves solo. -/
def execCatchupDone (s : State) : Host.Outcome State Fault Refusal :=
  s.go (fun d =>
    match d.par.caughtAt with
    | some n =>
      if !(d.live && d.par.en) || d.par.cycle < n then d
      else if d.isBow then ({ d with par := { d.par with ready := true, caughtAt := none } } : Dev).healthCheck
      else
        let d1 : Dev := { d with par := { d.par with caughtAt := none, solo := false } }
        if d.par.solo then d1.recordPost 7 0x0E13 0 0xE 0 0 d1.par.cycle else d1
    | none => d)

/-! ## Drill (R551, R552) -/

/-- DRILL_RX (R551): a request, with what the step finds here, or the partner's result. -/
def execDrillRx (hdr : PairHdr) (step : Fin 5) (means : List (Nat × Nat × Nat)) (result : Option (Bool × Nat)) (finds : Bool) (s : State) :
    Host.Outcome State Fault Refusal :=
  s.go (fun d => d.onPair hdr (.drill step means) (fun d =>
    match result with
    | some (pass, port) =>
      let d1 := d.drillStep step pass port
      if step.val = 4 then (if pass then d1 else d1.wr F.PAR_DRILL_STS_FAIL_PORT 0 port) else d1.drillRun 6
    | none =>
      if step.val < 4 then (if d.isBow then d.pairSend d.par.cycle (.drillResult step finds 0) else d)
      else if d.isBow then
        let x : Drill := match d.par.drill with
          | some x => { x with means := means }
          | none => { own := false, desc := none, mask := 16, left := 16, means := means }
        ({ d with par := { d.par with drill := some x } } : Dev).wrb F.PAR_DRILL_STS_RUNNING 0 true
      else if d.par.drill.isSome || d.par.swap.isSome then d
      else
        let d1 := ({ d with par := { d.par with drill := some { own := false, desc := none, mask := 16, left := 16 } } } : Dev).wrb F.PAR_DRILL_STS_RUNNING 0 true
        (d1.pairSend d1.openCycle (.drill 4 (d1.portShares (msC 3600000)))).swapStart none))

/-- A port shows in a window a failure share above the old stroke's mean plus MARGIN (R552). -/
def Dev.windowFails (d : Dev) (x : Drill) (w : Nat × Nat × Nat) : Bool :=
  let m := match x.means.find? (fun y => y.1 = w.1) with | some y => y.2 | none => (0, 0)
  let t := max 1 m.2
  d.isOn w.1 && decide (d.rd F.PAR_DRILL_CFG_MIN_EXCH ≤ w.2.2)
    && decide ((100 * m.1 + d.rd F.PAR_DRILL_CFG_MARGIN * t) * w.2.2 < 100 * w.2.1 * t)

/-- DRV_OPEN or GATED on a port that is ON: 1 LP0 to 6 RP3; or a field device that went LOST: 7. -/
def Dev.drillPort (d : Dev) : Option Nat :=
  if (match d.par.drill with | some x => x.fdLost | none => false) then some 7 else
  ((List.range 6).find? (fun p => d.isOn p && (if p < 2 then d.on F.LCP_STS_DRV_OPEN p else d.radHeld (p - 2)))).map (· + 1)

/-- DRILL_WINDOW (R552): the end of a 60 s window of the hold. -/
def execDrillWindow (s : State) : Host.Outcome State Fault Refusal :=
  s.go (fun d =>
    match d.par.drill with
    | none => d
    | some x0 =>
      match x0.holdFrom with
      | none => d
      | some t =>
        if !(d.live && decide (d.par.role = .stroke) && bitAt x0.left 4) then d
        else
          let d1 := d.toMono (t + (x0.windows + 1) * msC 60000)
          let runs := (d1.portShares (msC 60000)).foldl (fun (r : Tab Nat) w => if d1.windowFails x0 w then r.put w.1 (r.getD w.1 0 + 1) else r.del w.1) x0.runs
          let d2 : Dev := { d1 with par := { d1.par with drill := some { x0 with windows := x0.windows + 1, runs := runs } } }
          match d2.drillPort with
          | some p => d2.drillOver false p
          | none => (match runs.find? (fun r => decide (2 ≤ r.2)) with | some r => d2.drillOver false (r.1 + 1) | none => d2))

/-- DRILL_HOLD_END (R552): DRILL_HOLD minutes after the swap, or at once where a port has failed. -/
def execDrillHoldEnd (s : State) : Host.Outcome State Fault Refusal :=
  s.go (fun d =>
    match d.par.drill with
    | none => d
    | some x =>
      match x.holdFrom with
      | none => d
      | some t =>
        if !(d.live && decide (d.par.role = .stroke)) then d
        else match d.drillPort with
          | some p => d.drillOver false p
          | none => (d.toMono (t + msC (60000 * d.rd F.PAR_DRILL_CFG_DRILL_HOLD))).drillOver true 0)

/-! ## Lanes, FORCE, PAR_DELTA (R535, R547, R554) -/

/-- PAIR_LANE_LOSS (R535). -/
def execPairLaneLoss (lane : Fin 2) (s : State) : Host.Outcome State Fault Refusal :=
  s.go (fun d =>
    if !(d.live && d.par.lanes.getD lane.val false) then d
    else
      let d1 : Dev := { d with par := { d.par with lanes := d.par.lanes.set lane.val false } }
      let d2 := if d1.pairUp then d1 else ({ d1 with par := { d1.par with credit := 0, freed := 4096, staged := [] } } : Dev).bump F.PAR_LINK_DOWN
      d2.healthCheck)

/-- PAIR_LANE_RETURN (R535): 1 s of clean lock has passed. -/
def execPairLaneReturn (lane : Fin 2) (s : State) : Host.Outcome State Fault Refusal :=
  s.go (fun d => if d.live && d.par.en then ({ d with par := { d.par with lanes := d.par.lanes.set lane.val true } } : Dev).healthCheck else d)

/-- PAIR_FORCE (R547): KEY and FORCE, a bow that is not READY, CLAIM_IN low, a valid root. -/
def execPairForce (val : Word) (s : State) : Host.Outcome State Fault Refusal :=
  s.go (fun d =>
    if d.live && decide (F.PAR_CTL_KEY.get val.toNat = 0x9A1E) && decide (F.PAR_CTL_FORCE.get val.toNat = 1) && d.isBow && !d.par.ready
        && !d.claimIn && d.rootValid && !d.isSafe then
      let d1 := (d.swapDesc 0x16 3).becomeStroke
      d1.recordPost 7 0x0E15 1 0xE 0 0 d1.par.cycle
    else d)

/-- PAR_DELTA_CLEAR (R554). -/
def execParDeltaClear (_val : Word) (s : State) : Host.Outcome State Fault Refusal :=
  s.go (fun d => if d.live && decide (d.grade = .x) then d.wr F.PAR_DELTA_PEAK 0 0 else d)

end Sys2Proof.Machine
end

