-- ==== Sys2Proof/Machine/Pcie.lean ====
section
/-! DEFINITION. Sys2Proof/Machine/Pcie.lean: the identity of the PCIe function, what its link trains at, and the words of its
configuration space that the spec gives (R57, R58). -/

namespace Sys2Proof.Machine

/-- The device ID (R57). -/
def pciDeviceId : Nat := 0x1048

/-- The class code: signal processing controller, other (R57). -/
def pciClassCode : Nat := 0x118000

/-- The largest payload and the largest read request, bytes (R58). -/
def pciMaxBytes : Nat := 512

/-- The width that the link trains at: x4, x2 or x1 (R57). -/
def pciWidth (host : Nat) : Nat := if 4 ≤ host then 4 else if 2 ≤ host then 2 else 1

/-- The link trains at Gen4 x4, or down to what the host's port can do (R57). -/
def Dev.pciTrain (d : Dev) (gen width : Nat) : Dev :=
  { d with rng := { d.rng with linkGen := clampNat 1 4 gen, linkWidth := pciWidth width } }

/-- A word of configuration space: device and vendor ID at 0x00, class code at 0x08 (PRESUMED, log 110: the places are those of every PCI
function; the vendor ID and the revision are free values). -/
def Dev.pciConfig (_d : Dev) (off : Nat) : Nat :=
  match off with
  | 0x00 => pciDeviceId * 2 ^ 16 + Config.vendorId.toNat
  | 0x08 => pciClassCode * 2 ^ 8 + Config.revisionId.toNat
  | _ => 0

/-- The requests into which a transfer of host memory is split: none carries more than 512 B (R58). -/
def pciRequests (bytes : Nat) : Nat := ceilDiv bytes pciMaxBytes

end Sys2Proof.Machine
end

