-- ==== Sys2Proof/Machine/Ports.lean ====
section
/-! DEFINITION. Sys2Proof/Machine/Ports.lean: what every port does: its boundaries, its exchanges' ends, deadlines (R88, R151 to R156, R206
to R209). -/

namespace Sys2Proof.Machine

/-! ## A boundary (R151) -/

/-- A port is idle: nothing in flight, no beacon, no self-test loop, no rendezvous window that keeps other traffic back. -/
def Dev.portIdle (d : Dev) (pk : Nat) : Bool :=
  let p := d.psch pk
  p.cur.isNone && !p.beacon && !p.looped
    && (if pk < 2 then decide ((d.lp pk).phase = .idle) else if pk < 6 then decide ((d.rp (pk - 2)).phase = .idle) else true)

/-- A rendezvous window is open on the port: it starts only beacons and slot exchanges (R262). -/
def Dev.rdvOpen (d : Dev) (pk : Nat) : Bool := decide (2 ≤ pk ∧ pk ≤ 5) && !(d.rp (pk - 2)).rdv.isEmpty

/-- The beacon of a line port's next plan contends, in the high-priority window (R185, R213). -/
def Dev.nextBeacon (d : Dev) (p : Nat) : Dev := (d.setPsch p { d.psch p with beacon := true }).ready p ((d.lp p).bcnLeft.headD 2) true false

/-- A due beacon starts: on each enabled plan of a line port in turn, after listening on a radio port (R451). -/
def Dev.startBeacon (d : Dev) (pk bytes : Nat) : Dev :=
  let d0 : Dev := { d with tim := { d.tim with beaconDue := d.tim.beaconDue.filter (· ≠ pk) } }
  if pk < 2 then (d0.updLp pk (fun l => { l with bcnLeft := d.plans pk })).nextBeacon pk
  else ((d0.setPsch pk { d0.psch pk with beacon := true }).radTake (pk - 2) 1 none bytes 0 false).listen (pk - 2) 0

/-- The instant of device time, ns, at which an order must have started (R161, R490): the end of its heat, the descriptor's deadline, for a
block one heat period on. -/
def Dev.orderBy (d : Dev) (x : Xfer) : Nat :=
  let at_ := fun (m : Nat) => d.nowNs + 2 * m - 2 * d.tim.mono
  match x.ask, x.deadline with
  | .cast g _, _ => d.nowNs + 2 * (d.grpSch g).cur.cycles
  | _, some t => at_ t
  | _, none => match d.ctxAt x.mix with
    | some c => match (d.grpSch c.grp).heat with | some h => at_ h.until_ | none => d.nowNs + 2 * (d.grpSch c.grp).cur.cycles
    | none => d.nowNs

/-- CLASS of an order (R489). -/
def Xfer.cls (x : Xfer) : Nat := match x.ask with | .cast _ _ => 2 | _ => if x.sched then 0 else 1

/-- The transaction in flight toward a field device goes as an order; its ORDER_ID names it (R161). -/
def Dev.sendOrder (d : Dev) (pk bytes : Nat) : Dev :=
  match d.curOf pk with
  | none => d
  | some x =>
    let cast := x.cls = 2
    let c := d.ctxAt x.mix
    let kind := if cast then 0 else match c with | some c => c.kind | none => 0
    let addr := if cast then 2 ^ 64 - 1 else match c with | some c => c.addr | none => 0
    let poll := match c with | some c => bitAt c.poll 0 && !cast | none => false
    let d1 := d.flOrder (pk - 16) (fun n => .order n kind addr x.cls (d.orderBy x) bytes poll)
    d1.setCur pk { x with order := some d1.fl.orderId }

/-- A transaction that has started goes out on its port. -/
def Dev.portGo (d : Dev) (pk bytes : Nat) (x : Xfer) : Dev :=
  if pk < 2 then
    (match x.ask with
     | .cast _ _ => if (d.lp pk).castLeft.isEmpty then d.updLp pk (fun l => { l with castLeft := d.plans pk }) else d
     | _ => d).exchange pk
  else if pk < 6 then
    let kind := match x.ask with | .cast _ _ => 5 | _ => if d.flooded x.mix && d.radSun (pk - 2) && d.on F.RAD_FLOOD_CFG_EN (pk - 2) then 4 else 0
    (d.radTake (pk - 2) kind (if kind = 5 then none else some x.mix) bytes 0 false).listen (pk - 2) 0
  else d.sendOrder pk bytes

/-- The image work that a port starts counts for its turn (R608, R610). -/
def Dev.noteTurn (d : Dev) (pk : Nat) (x : Xfer) : Dev :=
  match x.ask with
  | .image _ => { d with img := { d.img with last := d.img.last.put pk x.mix } }
  | .cast g _ => if x.order.isNone then { d with img := { d.img with turn := d.img.turn.put pk g } } else d
  | _ => d

/-- What waits at a line port that can start no frame (R199): the wait counts once, until what waited has gone. -/
def Dev.capWait (d : Dev) (p : Nat) : Dev :=
  if !d.tim.beaconDue.contains p && (d.lp p).bcnLeft.isEmpty && (d.pickOn p).isNone then d.updLp p (fun l => { l with waitCounted := false })
  else if (d.lp p).waitCounted then d
  else (d.updLp p (fun l => { l with waitCounted := true })).bump F.LCP_GOV_TRUNC_WAIT p

/-- A port at a boundary: the first that waits. -/
def Dev.boundary (d : Dev) (pk bytes : Nat) : Dev :=
  if !d.serves || !d.portOn pk || !d.portIdle pk || d.draining then d
  else if decide (pk < 2) && d.capLowAll pk then d.capWait pk
  else if decide (pk < 2) && !(d.lp pk).bcnLeft.isEmpty then d.nextBeacon pk
  else if d.tim.beaconDue.contains pk then d.startBeacon pk bytes
  else if d.rdvOpen pk then d
  else match d.pickOn pk with
    | none => d
    | some x => ((d.noteTurn pk x).xferStart x bytes).portGo pk bytes x

/-- PORT_BOUNDARY (R151): port 6 is the field link to field device `fdx`; the frame that starts has `bytes` bytes. -/
def execPortBoundary (port : Fin 7) (fdx : Fin 1024) (bytes : Nat) (s : State) : Host.Outcome State Fault Refusal :=
  s.go (fun d => d.boundary (if port.val = 6 then 16 + fdx.val else port.val) bytes)

/-! ## The end of an exchange (R208, R209) -/

/-- Segments of the returning frame are on their way, the first of which started in time (R208): the exchange ends with the last one. -/
def Dev.replyBegun (d : Dev) (p t : Nat) : Bool :=
  match (d.lp p).seg with | some g => decide (g.seq = (d.lp p).seq ∧ g.start ≤ t) | none => false

/-- No returning frame starts in time on a line port; on a compatible plan no acknowledgement comes in time (R208, R210). A Sculler frame is
known by its preamble, which ends six symbols after its start. -/
def Dev.lineTimeout (d : Dev) (p : Nat) : Dev :=
  let fail := fun (y : Dev) => y.updLp p (fun l => { l with phase := .failed, seg := none, ackBy := none })
  match (d.lp p).phase, d.curOf p with
  | .awaiting t, some x =>
    (match (d.lp p).ackBy with
     | some a => fail (d.toMono a)
     | none => if d.replyBegun p t then d else fail (d.toMono (t + (if x.plan = 2 then usC 864 else 0))))
  | _, _ => d

/-- No returning frame starts in time. -/
def Dev.exTimeout (d : Dev) (pk : Nat) : Dev :=
  if pk < 2 then d.lineTimeout pk
  else
    match (d.rp (pk - 2)).phase, d.curOf pk with
    | .awaiting t, some _ => if (d.rp (pk - 2)).agreed then d else (d.toMono t).updRp (pk - 2) (fun r => { r with phase := .failed })
    | _, _ => d

/-- EXCHANGE_TIMEOUT (R208): on a radio port the answer to a request outside agreed slots. -/
def execExchangeTimeout (port : Fin 6) (s : State) : Host.Outcome State Fault Refusal :=
  s.go (fun d => if d.portRuns port then d.exTimeout port else d)

/-- An exchange on a line port ends. -/
def Dev.lineEnd (d : Dev) (p : Nat) (x : Xfer) (ok : Bool) : Dev :=
  let d0 := d.updLp p (fun l => { l with phase := .idle })
  if x.isCast then ((d0.updLp p (fun l => { l with castLeft := [] })).xferLeave p false).castAgain x
  else if ok then ((d0.lineOk p x).noteEx p false).xferLeave p true
  else
    let d1 := (d0.lineFail p x).noteEx p true
    if (d1.fnOf p).st = .stopping then d1.xferLost p 7
    else if x.made < x.limit ∧ d1.isOn p then
      (d1.setCur p { x with made := x.made + 1, viaAlt := d1.otherPath p x.mix x.viaAlt }).exchange p
    else d1.xferLost p

/-- An exchange on a radio port ends. -/
def Dev.radEnd (d : Dev) (n : Nat) (x : Xfer) (ok : Bool) : Dev :=
  let pk := 2 + n
  let d0 := (d.noteEx pk (!ok)).updRp n (fun r => { r with phase := .idle, mix := none, slot := false, agreed := false, elem := none })
  if ok then d0.xferLeave pk true
  else
    let d1 := if x.shadow then d0.shadowFail x.mix else d0
    if (d1.fnOf pk).st = .stopping then d1.xferLost pk 7
    else if !x.slot && decide (x.made < x.limit) && d1.isOn pk then
      ((d1.setCur pk { x with made := x.made + 1 }).updRp n (fun r => { r with mix := some x.mix, be := 2, tries := 0 })).listen n 0
    else d1.radLost n

/-- An exchange ends, answered or failed. -/
def Dev.exEnd (d : Dev) (pk : Nat) : Dev :=
  match d.curOf pk with
  | none => d
  | some x =>
    if pk < 2 then
      (match (d.lp pk).phase with | .answered => d.lineEnd pk x true | .failed => d.lineEnd pk x false | _ => d)
    else
      (match (d.rp (pk - 2)).phase with | .answered => d.radEnd (pk - 2) x true | .failed => d.radEnd (pk - 2) x false | _ => d)

/-- EXCHANGE_END (R209). -/
def execExchangeEnd (port : Fin 6) (s : State) : Host.Outcome State Fault Refusal :=
  s.go (fun d => if d.portRuns port then d.exEnd port else d)

/-! ## Deadlines (R88, R156) -/

/-- Transactions that wait or are in flight. -/
def Dev.xfers (d : Dev) : List Xfer := d.sch.wait ++ d.sch.ports.vals.flatMap (fun p => p.cur.toList)

/-- The earliest deadline of a transaction that serves a descriptor of a ring pair. -/
def Dev.nextDeadline (d : Dev) (p : Nat) : Option Nat :=
  (d.xfers.filter (fun x => x.descs.any (fun q => q.1 = p))).foldl (fun (a : Option Nat) x =>
    match a, x.deadline with | some t, some u => some (min t u) | none, u => u | t, none => t) none

/-- A merged read that never started counts as one attempt of its entry all the same (R156). -/
def Dev.countMerged (d : Dev) (x : Xfer) : Dev :=
  match d.entry x.mix with
  | some e => if x.merged x.mix && decide (x.made = 0) then
      { d with sch := { d.sch with entries := d.sch.entries.put x.mix { e with made := e.made + 1 } } } else d
  | none => d

/-- A waiting transaction whose deadline has passed is gone; for the entry that it was to settle it is a failed attempt (R156). -/
def Dev.dropLate (d : Dev) (x : Xfer) : Dev :=
  let d0 : Dev := { d with sch := { d.sch with wait := d.sch.wait.filter (fun y => !(y = x)) } }
  let d1 := if x.port < 2 ∧ (d0.lp x.port).phase = .idle then d0.updLp x.port (fun l => { l with waitCounted := false }) else d0
  let d2 := if x.heat then ((d1.countMerged x).heatFailed x).expedite x.mix else d1
  x.descs.foldl (fun (y : Dev) q => y.complete q.1 q.2 0xE x.made) d2

/-- A transaction in flight goes on without the descriptors whose deadline has passed; it is not sent again for them. -/
def Dev.lateInFlight (d : Dev) (pk : Nat) : Dev :=
  match d.curOf pk with
  | none => d
  | some x =>
    if decide (x.deadline.isSome) && decide (x.deadline.getD 0 ≤ d.tim.mono) then
      x.descs.foldl (fun (y : Dev) q => y.complete q.1 q.2 0xE x.made)
        (d.setCur pk { x with descs := [], deadline := none, limit := if x.sched then x.limit else x.made })
    else d

/-- Deadlines that have passed now. -/
def Dev.expire (d : Dev) : Dev :=
  let late := d.sch.wait.filter (fun x => decide (x.deadline.isSome) && decide (x.deadline.getD 0 ≤ d.tim.mono))
  let d1 := late.foldl Dev.dropLate d
  d1.sch.ports.keys.foldl Dev.lateInFlight d1

/-- TRANSACTION_DEADLINE (R88). -/
def execTransactionDeadline (pair : Fin 64) (s : State) : Host.Outcome State Fault Refusal :=
  s.go (fun d => match d.nextDeadline pair with
    | some t => if d.live then (d.toMono t).expire.ctxTry else d
    | none => d)

end Sys2Proof.Machine
end

