-- ==== Sys2Proof/Machine/Sched.lean ====
section
/-! DEFINITION. Sys2Proof/Machine/Sched.lean: the commands of the Heat scheduler (R139 to R169), and the READ and WRITE descriptors (R82,
R155). -/

namespace Sys2Proof.Machine

/-! ## Policies (R142, R164) -/

/-- POLICY_LOAD (R142): the table takes effect at the next heat start; w3 counts the loads. -/
def Dev.policyLoad (d : Dev) (p : Nat) (h : Held) (b : List Byte) : Dev :=
  if bufLen h.desc < 128 then d.complete p h.id 4 20
  else match Policy.parse b with
    | .error sub => d.complete p h.id 4 sub
    | .ok pol =>
      let g := tGrp h.desc
      let x := d.grpSch g
      let n := (x.loads + 1) % 65536
      (d.setGrpSch g { x with pol := pol, loads := n }).complete p h.id 0 0 [n]

/-- POLICY_LOAD. -/
def execPolicyLoad (pair : Fin 64) (buf : HostRead) (s : State) : Host.Outcome State Fault Refusal :=
  s.go (fun d => d.onDescRead pair 0x10 buf (fun d h b => d.policyLoad pair h b))

/-- POLICY_GET (R142): the table, one record of 128 B; a shorter buffer takes nothing (R78). -/
def execPolicyGet (pair : Fin 64) (s : State) : Host.Outcome State Fault Refusal :=
  s.go (fun d => d.onDesc pair 0x11 (fun d h =>
    let x := d.grpSch (tGrp h.desc)
    let b := if bufLen h.desc < 128 then [] else x.pol.image x.loads
    (d.writeBuf h.desc b).complete pair h.id 0 0 [b.length, b2n (decide (b.length < 128))]))

/-- A hold, or a release, of a group by POLICY_HOLD (R164). -/
def Dev.holdGroup (d : Dev) (g : Nat) (hold : Bool) : Dev :=
  let d1 := d.setGrpSch g { d.grpSch g with held := hold }
  if hold then d1.holdEntries g else if d1.grpHeld g then d1 else d1.respace g 10

/-- POLICY_HOLD. -/
def execPolicyHold (pair : Fin 64) (s : State) : Host.Outcome State Fault Refusal :=
  s.go (fun d => d.onDesc pair 0x12 (fun d h => (d.holdGroup (tGrp h.desc) (h.desc.word 3 % 2 = 1)).complete pair h.id 0 0))

/-- SCH_CFG.EN has been written (R164): every group is held, or those that POLICY_HOLD does not hold are released. -/
def Dev.enChanged (d : Dev) (was : Bool) : Dev :=
  let now := d.on F.SCH_CFG_EN
  if was = now then d
  else d.sch.grps.keys.foldl (fun (y : Dev) g => if !now then y.holdEntries g else if (y.grpSch g).held then y else y.respace g 10) d

/-! ## READ_NOW and its merging (R155) -/

/-- A descriptor is served by an answer that is on its way. -/
def Dev.joinFlight (d : Dev) (m : Nat) (q : Nat × Nat) : Dev :=
  let add := fun (x : Xfer) => if x.mix = m ∧ x.heat then { x with descs := x.descs ++ [q] } else x
  ({ d with sch := { d.sch with ports := d.sch.ports.mapVals (fun _ p => { p with cur := p.cur.map add, answered := p.answered.map add }) } } : Dev).bump
    F.SCH_MERGED

/-- The heat transaction of a meter in flight. -/
def Dev.heatFlight (d : Dev) (m : Nat) : Option Xfer :=
  (d.sch.ports.vals.flatMap (fun p => p.cur.toList ++ p.answered)).find? (fun x => decide (x.mix = m) && x.heat && !x.closed)

/-- An on-demand read joins the meter's open heat where R155 lets it, or runs apart; that of a meter that never listens asks of the meter's next
frame no more than its own Sels (R265). A second read that joins is a transaction of its own
that carries the union too; the first of them to be answered settles the entry (DEDUCED, log 120). -/
def Dev.mergeRead (d : Dev) (m pk : Nat) (c : Ctx) (p : Nat) (h : Held) : Dev :=
  let x := d.odRead m pk c p h
  match (if d.mute pk m then none else d.entry m) with
  | none => d.enqueue x
  | some e =>
    let pol := match (d.grpSch e.grp).heat with | some y => y.pol | none => {}
    let union := (x.sels ++ pol.sels).eraseDups
    if c.heat = 1 || c.heat = 3 || c.heat = 9 || c.heat = 10 then
      if union.length ≤ 8 then ((d.enqueue { x with sels := union, heat := true }).bump F.SCH_MERGED).expedite m
      else d.enqueue x
    else if c.heat = 2 then
      (match d.heatFlight m with
       | some f => if x.sels.all (fun k => f.sels.contains k) then d.joinFlight m (p, h.id) else d.enqueue x
       | none => d.enqueue x)
    else d.enqueue x

/-- The checks that a READ or WRITE passes before it waits for a port: its meter, its port, a root, a counter (R88, R112, R302). -/
def Dev.meterDesc (d : Dev) (p : Nat) (h : Held) (f : Nat → Nat → Ctx → Dev) : Dev :=
  match d.ctxNamed (tMix h.desc) with
  | none => d.complete p h.id 0xB 0
  | some c =>
    if !c.owned then d.complete p h.id 0xC 0
    else match c.port with
      | none => d.complete p h.id 0xD 0
      | some pk =>
        if !d.portOn pk then d.complete p h.id 7 (if pk < 6 then (d.fnOf pk).st.code else 0)
        else if !d.on F.SEC_STS_ROOT_VALID then d.complete p h.id 7 0
        else if !d.canSend c then d.complete p h.id 0xD 0
        else f (tMix h.desc) pk c

/-- READ_NOW (R155). -/
def execReadNow (pair : Fin 64) (s : State) : Host.Outcome State Fault Refusal :=
  s.go (fun d => d.onDesc pair 0x20 (fun d h => d.meterDesc pair h (fun m pk c => (d.markStarted pair h.id).mergeRead m pk c pair h)))

/-! ## WRITE descriptors (R82, R265) -/

/-- A WRITE waits for its meter's port; for a meter that never listens it is rejected at once. -/
def Dev.writeDesc (d : Dev) (p : Nat) (h : Held) (ask : Ask) : Dev :=
  d.meterDesc p h (fun m pk c =>
    if d.mute pk m then d.complete p h.id 0xF 0xFFFF
    else (d.markStarted p h.id).enqueue { d.odRead m pk c p h with ask := ask, sels := [] })

/-- WRITE_OBJ. -/
def execWriteObj (pair : Fin 64) (buf : HostRead) (s : State) : Host.Outcome State Fault Refusal :=
  s.go (fun d => d.onDescRead pair 0x30 buf (fun d h b => d.writeDesc pair h (.write (h.desc.quad 8) b)))

/-- WRITE_ACTION. -/
def execWriteAction (pair : Fin 64) (buf : HostRead) (s : State) : Host.Outcome State Fault Refusal :=
  s.go (fun d => d.onDescRead pair 0x31 buf (fun d h b => d.writeDesc pair h (.action (h.desc.quad 8) b)))

/-- WRITE_TIME. -/
def execWriteTime (pair : Fin 64) (s : State) : Host.Outcome State Fault Refusal :=
  s.go (fun d => d.onDesc pair 0x32 (fun d h => d.writeDesc pair h .setTime))

/-! ## Storms (R162) -/


/-- A storm ends: the suspended entries of each open heat are spaced again. -/
def Dev.stormLeave (d : Dev) : Dev :=
  let d1 := d.suspend.wrb F.SCH_STS_STORM 0 false
  let d2 := if d1.isBow then d1 else d1.sch.grps.keys.foldl (fun (y : Dev) g => if y.grpHeld g then y else y.respace g 9) d1
  d2.recordPost 4 0x1202 0 0x12 0 0 (d2.rd F.SCH_STORMS)

/-- A storm starts once its cause holds, as alarm frames pass and at the end of each window; that of the overflow ring is also judged as
events are posted (`Dev.postRaw`). -/
def Dev.stormCheck (d : Dev) : Dev :=
  (if !d.storm && (decide (d.rd F.SCH_STORM_CFG_ON_RATE ≤ d.sch.alarms) || d.ringEvents) then d.stormStart.fullCheck else d).suspend

/-- A 1 s window ends. -/
def Dev.stormWindow (d : Dev) : Dev :=
  let d0 := (d.toMono (d.sch.window + 500000000)).stormCheck
  let quiet := if d0.storm && decide (d0.sch.alarms < d0.rd F.SCH_STORM_CFG_OFF_RATE) then d0.sch.quiet + 1 else 0
  let d1 : Dev := { d0 with sch := { d0.sch with window := d0.tim.mono, alarms := 0, quiet := quiet } }
  if d1.storm && decide (d1.rd F.SCH_CFG_QUIET ≤ quiet) && !d1.ringEvents then d1.stormLeave else d1

/-- STORM_WINDOW (R162). -/
def execStormWindow (s : State) : Host.Outcome State Fault Refusal := s.go (fun d => if d.live then d.stormWindow else d)

/-! ## Heats (R139 to R149, R160, R627) -/

/-- HEAT_START (R139): at the next instant of the group's series; none before the census (R627). -/
def execHeatStart (grp : Fin 4096) (s : State) : Host.Outcome State Fault Refusal :=
  s.go (fun d => if d.live && d.glb.stepH && (d.grpSch grp).heat.isNone then (d.toNs (d.nextHeat grp)).heatOpen grp false else d)

/-- HEAT_END (R160): P after its start on the monotonic count. -/
def execHeatEnd (grp : Fin 4096) (s : State) : Host.Outcome State Fault Refusal :=
  s.go (fun d => match d.live, (d.grpSch grp).heat with | true, some h => (d.suspend.toMono h.until_).heatClose grp | _, _ => d)

/-- An entry falls due: it waits for its port's boundary, or is suspended in a storm. -/
def Dev.entryDue (d : Dev) (m : Nat) : Dev :=
  match d.entry m with
  | some e =>
    if d.serves && !e.push && !e.fallen && (d.heatState m = 1 || d.heatState m = 3) then
      let d1 := d.toMono e.due
      if d1.storm then d1.setEntry m e 9 else { d1 with sch := { d1.sch with entries := d1.sch.entries.put m { e with fallen := true } } }
    else d
  | none => d

/-- SCHED_ENTRY_DUE (R148). -/
def execSchedEntryDue (mix : BitVec 20) (s : State) : Host.Outcome State Fault Refusal := s.go (fun d => d.entryDue mix.toNat)

/-- A push is late: the member is read as under METHOD 0 until its heat ends (R145). -/
def Dev.pushLate (d : Dev) (m : Nat) : Dev :=
  match d.entry m, d.ctxAt m with
  | some e, some c =>
    (match (d.grpSch e.grp).heat with
     | some h =>
       let d1 := d.toNs ((c.firstEnd + h.pol.pushGrace) * 1000000000)
       if e.push && decide (h.pol.method = 1) && decide (d1.tim.mono < h.until_) && !d.mute e.port m then
         let e' := { e with push := false, late := true, due := d1.tim.mono, asked := d1.tim.mono }
         if c.heat = 1 || c.heat = 3 then d1.planAt h m e' d1.tim.mono
         else { d1 with sch := { d1.sch with entries := d1.sch.entries.put m e' } }
       else d
     | none => d)
  | _, _ => d

/-- PUSH_GRACE_EXPIRY (R145). -/
def execPushGraceExpiry (mix : BitVec 20) (s : State) : Host.Outcome State Fault Refusal :=
  s.go (fun d => if d.serves then d.pushLate mix.toNat else d)

/-- Step h ends: every group starts its census heat (R624, R627). -/
def Dev.census (d : Dev) : Dev :=
  let d0 := d.stepDone 7
  let d1 : Dev := { d0 with glb := { d0.glb with stepH := true, censusOn := true, censusOpen := 4096, censusDone := 0, censusFailed := 0 } }
  (List.range 4096).foldl (fun (y : Dev) g => y.heatOpen g true) d1

/-- Every enabled line and radio port is ON (R624). -/
def Dev.portsServe (d : Dev) : Bool :=
  (List.range 6).all (fun p => d.isOn p || !(if p < 2 then d.on F.LCP_CFG_ENABLE p else d.on F.RAD_CFG_ENABLE (p - 2)))

/-- CENSUS_START (R624, R627): step h has ended. -/
def execCensusStart (s : State) : Host.Outcome State Fault Refusal :=
  s.go (fun d => if d.live && d.glb.stepG && d.glb.stepC && !d.glb.stepH && d.mustered && d.portsServe then d.census else d)

end Sys2Proof.Machine
end

