-- ==== Sys2Proof/Machine/BootOps.lean ====
section
/-! DEFINITION. Sys2Proof/Machine/BootOps.lean: what a device reset leaves (R583, R584, R615 to R619), and the boot's steps a and b (R620 to R622). -/

namespace Sys2Proof.Machine

/-! ## Resets -/

/-- Every reset source and PWR_FAIL_N are released (R616). -/
def Dev.released_ (d : Dev) : Bool := d.glb.resetN && d.glb.perstN && d.glb.pwrFailN

/-- Registers that a device reset leaves: counters of the media and, at rung 3, of the Fault collector (R528, R569). -/
def keptRegs (power : Bool) : List Nat := ftlCounters ++ (if power then [] else (List.range 5).map (fun i => 0xF0020 + 4 * i))

/-- What outlives a device reset (R584, R597), or a loss of power: the configuration store, the recorder, media and what NAND holds, the
RTC, firmware regions, and at rung 3 the fault history. -/
def Dev.reborn (d : Dev) (power : Bool) : Dev :=
  let up := d.on F.GLB_BOOT_STS_READY
  let f := d.ftl
  { grade := d.grade, store := d.store, nand := d.nand, img := d.img, freeCtr := d.freeCtr, out := d.out
    regs := (keptRegs power).foldl (fun (t : Tab Word) o => match d.regs.find o with | some w => Tab.put t o w | none => t) d.store
    glb := { phase := d.glb.phase, cause := d.glb.cause, resetN := d.glb.resetN, perstN := d.glb.perstN, pwrFailN := d.glb.pwrFailN
             halts := if power then 0 else d.glb.halts, haltCode := d.glb.haltCode, temp := d.glb.temp, tempMin := d.glb.tempMin, tempMax := d.glb.tempMax, holdRecAt := d.glb.holdRecAt
             roleWas := if up then d.role else d.glb.roleWas
             fltBefore := if power then 0 else if up then F.FLT_STS_HIST_FILL.put (d.word 0xF0004) d.flt.hist.length else d.glb.fltBefore }
    tim := { rtcValid := d.tim.rtcValid, rtcNs := d.tim.rtcNs, rtcSet := d.tim.rtcSet, rateStored := d.tim.rateStored }
    evr := { recs := d.evr.recs, optime := d.evr.saved, bands := d.evr.bands, saved := d.evr.saved, powerCycles := d.evr.powerCycles, lost := d.evr.lost
             nearPosted := d.evr.nearPosted, fullPosted := d.evr.fullPosted }
    flt := if power then {} else { hist := d.flt.hist, recAt := d.flt.recAt, fatals := d.flt.fatals }
    ctx := { shortLast := d.ctx.shortLast, seed := d.ctx.seed }
    tar := { prevCheck := d.tar.prevCheck, fwUpdates := d.tar.fwUpdates, defaultBooked := d.tar.defaultBooked }
    par := { wasStroke := d.par.wasStroke, epoch := d.par.epoch, peerSerial := d.par.peerSerial, cycle := d.par.cycle
             claimInRaw := d.par.claimInRaw, claimInOld := d.par.claimInRaw }
    ftl := { f with state := 3, readOnly := f.readOnly || decide (f.state = 2), fmtNow := f.fmtPend, fmtPend := false, notMounted := false
                    parts := [], keyLost := false, idMismatch := false, commitSlow := false, gcActive := false, copies := [], drain := []
                    drainSeq := 0, billRunning := false, snapRunning := false }
    fl := { key := d.fl.key, dseq := d.fl.dseq, held := d.fl.held, conflictAt := d.fl.conflictAt, link := { epoch := d.fl.link.epoch } }
    upd := { run := d.upd.run, weigh := d.upd.weigh, signer := d.upd.signer, version := d.upd.version, cfgFmt := d.upd.cfgFmt
             st := if d.upd.st = 4 ∧ d.upd.hstep = 5 then 4 else 0, hstep := d.upd.hstep, target := d.upd.target, resetAt := d.upd.resetAt.map (fun _ => 0), mark := d.upd.mark
             kept := if power then none else d.upd.kept, otherReset := d.upd.otherReset
             failSeen := d.upd.failSeen || (power && d.upd.mark.isSome), fresh := d.upd.fresh, paused := d.upd.paused } }

/-- The device starts again: its boot begins once every source is released. -/
def Dev.restart (d : Dev) (cause : Nat) : Dev :=
  let x := d.reborn false
  { x with glb := { x.glb with cause := cause, phase := if x.released_ then .booting else .held } }

/-- A device reset is latched (R617, R668): after step b the device falls silent and commits first, unless the safe state has. During a
power-fail commit it is latched only. -/
def Dev.latchReset (d : Dev) (cause : Nat) : Dev :=
  let d0 : Dev := { d with upd := { d.upd with otherReset := d.upd.otherReset || d.upd.mark.isSome } }
  match d.glb.phase with
  | .unpowered => d
  | .failing => d0
  | .failed => d0
  | .ready => ((if d0.isSafe then d0 else d0.silence.commit)).restart cause
  | _ => d0.restart cause

/-! ## Steps a and b (R620 to R622) -/

/-- A boot halts (R622): after three halts since the latest power-up it asserts PWR_CYCLE_REQ_N. -/
def Dev.haltBoot (d : Dev) (code : Nat) : Dev :=
  let d1 := (d.wrb F.GLB_BOOT_STS_HALT 0 true).wr F.GLB_BOOT_STS_HALT_CODE 0 code
  let g := d1.glb
  { d1 with glb := { g with phase := .halted, haltAt := d1.tim.mono, halts := g.halts + 1, haltCode := code
                            pwrCycleReq := g.pwrCycleReq || decide (3 ≤ g.halts + 1) } }

/-- Usable LPDDR5: inline ECC reserves 1/16 (R25). -/
def usableMiB (fitted : Nat) : Nat := fitted * 15 / 16

/-- Step a, and the measurements of b1 to b3: clocks, LPDDR5 capacity with the ring size that it allows (R27), torn records (R575). -/
def Dev.bootClocks (d : Dev) (e : BootEnv) : Dev :=
  let d0 : Dev := { d with glb := { d.glb with stepAStart := d.tim.mono } }
  let d1 := (d0.passCycles (500 * e.aUs)).stepDone 0
  let d2 := ((d1.wrb F.GLB_CLK_STS_MAIN_LOCK 0 true).wrb F.GLB_CLK_STS_MEM_LOCK 0 true).wrb F.GLB_CLK_STS_ROOT_OK 0 true
  let d3 := ((d2.wrb F.GLB_CLK_STS_PCIE_REF 0 e.pcieRef).wrb F.GLB_CLK_STS_RTC_RUN 0 e.rtcRuns).wrb F.GLB_CLK_STS_ETH_LOCK 0 true
  let d4 : Dev := { d3 with sec := { d3.sec with armed := true }, tim := { d3.tim with rtcValid := d3.tim.rtcValid && e.rtcRuns } }
  let d5 := (((if e.pcieRef then d4.pciTrain e.pcieGen e.pcieWidth else d4).passCycles (500 * e.bUs)).wr F.MEM_CAP_FITTED 0 e.fitted).wr F.MEM_CAP_USABLE 0 (usableMiB e.fitted)
  let size := ovfClamp d5.grade (usableMiB e.fitted) (d5.rd F.LNE_OVF_CFG_SIZE)
  let d6 := (d5.wr F.LNE_OVF_CFG_SIZE 0 size).wr F.LNE_OVF_CFG_SIZE_NOW 0 size
  (d6.wr F.EVR_TORN 0 (d6.evr.recs.filter Rec.torn).length).wr F.PWR_SUP_STS_RAIL_OK 0 e.rails

/-- Why the boot enters recovery (R600): 1 no header, 2 signature, 3 signer; 0 for a normal boot. -/
def Dev.recoveryWhy (d : Dev) : Nat :=
  let r := d.upd.run
  if !r.valid then 1
  else if !r.sigOk ∨ d.upd.weigh ≠ r.check then 2
  else if d.upd.signer.isSome ∧ d.upd.signer ≠ some r.signer ∧ ¬ d.on F.UPD_CFG_SIGNER_CHG then 3
  else 0

/-- Words of a digest shown in registers. -/
def Dev.showDigest (d : Dev) (f : F) (n : Nat) (bs : List Byte) : Dev :=
  (List.range n).foldl (fun (x : Dev) i => x.setWord (f.at i) (getLe bs (4 * i) 4)) d

/-- D_boot (R279): ROM_DIGEST, the signer's fingerprint, PATH. -/
def bootDigest (signer path : Nat) : List Byte :=
  sha256 (beBytes 32 (Config.romDigest 0).toNat ++ beBytes 32 (Config.signerKey signer).toNat ++ [BitVec.ofNat 8 path])

/-- Steps b4 to b6: the package is verified, D_img, D_boot and the check value are formed, the cores start (R279, R397, R620). -/
def Dev.bootFirmware (d : Dev) (e : BootEnv) : Dev :=
  let why := d.recoveryWhy
  let path := if why = 0 then 1 else 2
  let r := d.upd.run
  let db := bootDigest r.signer path
  let d1 : Dev := { d with
    upd := { d.upd with recovery := decide (why ≠ 0), why := why }
    sec := { d.sec with dBoot := db, dImg := r.dImg }
    tar := { d.tar with check := d.upd.weigh, checkOk := true, checkFrom := d.tim.mono, dspDue := d.tim.mono }
    glb := { d.glb with tarRuns := true } }
  let d2 := (d1.showDigest F.SEC_BOOT_DIGEST_D_BOOT 8 db).showDigest F.SEC_IMG_DIGEST_D_IMG 12 r.dImg
  let d3 := ((d2.wr F.SEC_STS_BOOT_PATH 0 path).wr F.SEC_STS_SIGNER 0 r.signer).wrb F.SEC_STS_TRNG_OK 0 e.trngOk
  let d4 := ((d3.showDigest F.TAR_FW_CHECK_CHECK 8 d3.upd.weigh).wrb F.TAR_STS_RUNNING 0 true).wrb F.TAR_STS_CHECK_OK 0 true
  ((d4.wr F.COX_STS_RUN 0 15).wr F.COX_STS_TCM_FREE 0 e.tcmFree).setWord 0x11000C r.version

/-- The hard caps as fused (R202), and LCP_GOV_CAP within them (R205). -/
def Dev.bootCaps (d : Dev) (gov : Tab (Nat × Nat)) : Dev :=
  (List.range 2).foldl (fun (x : Dev) p =>
    let y := match gov.find p with
      | some w => ((x.wrb F.LCP_STS_OTP_FUSED p true).wr F.LCP_GOV_OTP_WIN_HARD p w.1).wr F.LCP_GOV_OTP_FRAME_HARD p w.2
      | none => x
    let w := y.rd F.LCP_GOV_OTP_WIN_HARD p
    let f := y.rd F.LCP_GOV_OTP_FRAME_HARD p
    let known := (y.store.find (F.LCP_GOV_CAP_WIN_CAP.at p)).isSome
    (y.wr F.LCP_GOV_CAP_WIN_CAP p (if known then min w (y.rd F.LCP_GOV_CAP_WIN_CAP p) else w)).wr F.LCP_GOV_CAP_FRAME_CAP p
      (if known then min f (y.rd F.LCP_GOV_CAP_FRAME_CAP p) else f)) d

/-- READY: role, field-link mode and pair configuration take force (R2, R13, R499, R554). -/
def Dev.bootModes (d : Dev) (e : BootEnv) : Dev :=
  let d1 := (((d.stepDone 1).wrb F.GLB_BOOT_STS_READY 0 true).wr F.GLB_RST_CAUSE_CAUSE 0 d.glb.cause).wrb F.GLB_RST_CAUSE_CLEAN 0 d.nand.clean
  let d2 := d1.wr F.GLB_ROLE_STS_ROLE 0 (d1.rd F.GLB_ROLE_CFG_ROLE)
  let en := decide (d2.grade = .x) && d2.on F.PAR_CFG_EN
  { d2 with
    glb := { d2.glb with phase := .ready }
    nand := { d2.nand with clean := false }
    fl := { d2.fl with mode := d2.rd F.FL_CFG_MODE, link := { epoch := d2.fl.link.epoch + 1 } }
    par := { d2.par with
      en := en, side := d2.on F.PAR_CFG_SIDE, role := if en then .arb else .single, epoch := d2.par.epoch + 1, arbFrom := d2.tim.mono
      lanes := [en && e.lanes, en && e.lanes], claimInRaw := e.claimIn, claimInOld := e.claimIn
      cycleDue := d2.tim.mono + msC (d2.rd F.PAR_CFG_STROKE_MS) } }

/-- Device time from the RTC, where it is valid and enabled as a source (R428, R429): holdover at once; the validity with
which it starts (R413). -/
def Dev.bootTime (d : Dev) : Dev :=
  let d1 := d.wrb F.TIM_STS_RTC_VALID 0 d.tim.rtcValid
  let d2 := if d.tim.rtcValid && bitAt (d.rd F.TIM_CFG_SRC_EN) 2 then
      let x := (({ d1 with tim := { d1.tim with time := d1.tim.rtcNs / 2 % 2 ^ 64, frac := 0 } } : Dev).wr F.TIM_STS_SRC 0 3).enterHoldover 2
      { x with tim := { x.tim with holdOfs := (x.tim.rtcNs - x.tim.rtcSet) / 1000000000 } }
    else d1
  ({ d2 with tim := { d2.tim with valid := !d2.timeValid } } : Dev).timeCheck

/-- Blocks whose stored settings have another format than the package's, as a mask (R602). -/
def fmtMask (a b : List Nat) : Nat := sumNat ((List.range 21).map (fun i => if a.getD i 0 = b.getD i 0 then 0 else 2 ^ i))

/-- The stored settings of the blocks in a mask go back to their defaults (R602). -/
def Dev.resetBlocks (d : Dev) (mask : Nat) : Dev :=
  let gone := fun (o : Nat) => bitAt mask (o / 0x10000)
  { d with store := d.store.filter (fun e => !gone e.1), regs := d.regs.filter (fun e => !(gone e.1 && (d.store.find e.1).isSome)) }

/-- Before READY of a normal boot: settings of another format are reset (R602). -/
def Dev.bootFormats (d : Dev) : Nat × Dev :=
  if d.recoveryWhy ≠ 0 then (0, d)
  else
    let m := fmtMask d.upd.cfgFmt d.upd.run.cfgFmt
    (m, { (d.resetBlocks m) with upd := { d.upd with cfgFmt := d.upd.run.cfgFmt } })

/-- Whether LPDDR5 kept its content through an activation reset: no reason, or the reason of 0x1108 (R597). -/
def Dev.retainWhy (d : Dev) : Nat :=
  if d.upd.mark.isNone then 1 else if d.upd.failSeen then 2 else if d.upd.otherReset || d.upd.kept.isNone then 3 else 0

/-- The retention mark is used or discarded, and cleared (R597). -/
def Dev.bootRetain (d : Dev) : Dev :=
  let why := d.retainWhy
  let used := d.upd.paused && decide (why = 0)
  let d1 : Dev := { d with
    upd := { d.upd with kept := if used then d.upd.kept else none, mark := none, otherReset := false, failSeen := false, paused := false }
    glb := { d.glb with spareReady := used } }
  if d.upd.paused && decide (why ≠ 0) then d1.recordPost 11 0x1108 1 0x11 0 why else d1

/-- The record and event of a boot under a new image, or of a recovery boot (R603). -/
def Dev.bootImage (d : Dev) (mask : Nat) : Dev :=
  if d.upd.recovery then (d.bump F.UPD_RECOVERIES).recordPost 11 0x1102 1 0x11 0 d.upd.why
  else
    let d1 := if mask = 0 then d else d.recordPost 11 0x1104 0 0x11 0 mask
    let d2 := if d1.upd.fresh then (d1.bump F.UPD_ACTIVATIONS).recordPost 11 0x1101 0 0x11 0 d1.upd.version d1.upd.run.version else d1
    { d2 with upd := { d2.upd with fresh := false, signer := some d2.upd.run.signer, version := d2.upd.run.version } }

/-- The check value against the previous boot's (R399). -/
def Dev.bootCheck (d : Dev) : Dev :=
  let w := d.tar.check
  match d.tar.prevCheck with
  | none => { d with tar := { d.tar with prevCheck := some w } }
  | some o =>
    if o = w then d
    else ({ d with tar := { d.tar with prevCheck := some w, fwUpdates := d.tar.fwUpdates + 1 } } : Dev).record 0x0B01 0xB 0 (getLe o 0 4) (getLe w 0 4)

/-- The boot's records (R2, R579, R622). -/
def Dev.bootRecords (d : Dev) : Dev :=
  let d1 := d.record 0x0F30 0 0 d.glb.cause d.glb.fltBefore
  let d2 := if d1.glb.haltCode = 0 then d1 else
    ({ d1 with glb := { d1.glb with haltCode := 0 } } : Dev).record 0x0F32 0 0 d1.glb.haltCode 0 0 0 true
  if d2.role = d2.glb.roleWas then d2 else d2.record 0x0001 0 0 d2.glb.roleWas d2.role

/-- DEGRADED is set again by a condition that still holds (R584). -/
def Dev.bootDegraded (d : Dev) : Dev := if d.degradedHolds then d.wrb F.FLT_STS_DEGRADED 0 true else d

/-- Functions of step b start by themselves; without a pair to arbitrate, step c ends at once (R532, R625). A recovery boot sets no claim (R600). -/
def Dev.bootStart (d : Dev) : Dev :=
  let d1 := d.autoStart ((List.range 4).map (· + 10))
  let d2 := if d1.par.en then d1.fnStart 18 else d1
  if d2.upd.recovery then d2.stepCEnd
  else if d2.par.en then d2
  else d2.setClaim.stepCEnd

/-! ## Step g (R626, R628) -/

/-- A member's context after a restore: an exchange in flight is asked again. -/
def Ctx.restored (c : Ctx) (now : Nat) : Ctx :=
  let c1 := if c.nextSlot ≤ now then c.slotOn now else c
  if c1.heat = 2 then { c1 with heat := 3 } else c1

/-- What step g finds: LPDDR5 as retained (R597), else what mounted media holds. -/
def Dev.restoreSource (d : Dev) : Nand :=
  let n : Nand := if d.ftl.state ≤ 2 then d.nand else {}
  match d.upd.kept with
  | some k => { k with cop := { n.cop with meters := k.cop.meters, nodes := k.cop.nodes } }
  | none => n

/-- A close sweep that a power cut interrupted goes on (R410). -/
def restoredSweeps (n : Nand) : List Sweep :=
  (n.grps.filter (fun g => g.2.lastClose ≠ g.2.closeAt)).map (fun g =>
    { grp := g.1, instant := g.2.lastClose
      left := (n.ext.filter (fun e => e.2.st = 1 && decide (e.2.periodStart < g.2.lastClose)
        && (match n.ctx.find e.1 with | some c => decide (c.grp = g.1) | none => false))).map (·.1) })

/-- Contexts, extensions and what the latest cycle copied come back (R39, R117, R123, R626, R628); the lookup table is built under the stored
seed, or under one drawn now (R115). -/
def Dev.restore (d0 : Dev) : Dev :=
  let d := if d0.ctx.seed.isNone then d0.drawSeed else d0
  let n := d.restoreSource
  let sw := restoredSweeps n
  let d1 : Dev := { d with
    ctx := { d.ctx with
      tab := n.ctx, index := d.buildIndex (n.ctx.map (fun e => ((e.2.kind, e.2.addr, e.1), [])))
      shorts := n.ctx.foldl (fun t e => shortsWith t e.1 e.2) []
      shortLast := if n.cop.shortLast.isEmpty then d.ctx.shortLast else n.cop.shortLast
      joins := (n.ctx.filter (fun e => e.2.st = 2)).map (fun e =>
        let j := n.cop.joins.getD e.1 (if (n.ext.find e.1).isSome then 3 else 0, none)
        (e.1, j.1, d.tim.mono, j.2))
      pins := (n.ctx.filter (fun e => e.2.st = 2)).map (fun e => (e.1, 1))
      retire := (n.ctx.filter (fun e => e.2.st = 5)).map (fun e => (e.1, none, none)) }
    tar := { d.tar with ext := n.ext, eff := n.ext, closedRec := n.closedRec, grps := n.grps, jseq := n.jseq, acked := n.jseq, sweeps := sw }
    sec := { d.sec with imports := if d.rootValid then n.cop.imports else [], shadows := if d.rootValid then n.cop.shadows else [] }
    sch := { d.sch with grps := n.cop.pols.mapVals (fun _ p => { pol := p.1, cur := p.1, loads := p.2 }), entries := n.cop.entries.mapVals (fun _ e => d.ownEntry e) }
    ldg := { d.ldg with meters := n.cop.meters, nodes := n.cop.nodes, recompute := true }
    cals := n.cop.cals
    fl := { d.fl with fds := n.cop.fds.mapVals (fun _ f => { f with st := 0, link := { epoch := f.link.epoch + 1 } }) }
    upd := { d.upd with kept := none } }
  let d2 := ((d1.mapCtx (fun _ c => c.restored d1.nowNs)).wrb F.TAR_STS_CLOSING 0 (!sw.isEmpty)).protect
  { d2 with par := { d2.par with base := d2.copied } }

/-- Step g ends: the line ports and then the radio ports start (R624, R625). -/
def Dev.stepGEnd (d : Dev) : Dev :=
  let d1 := d.restore.stepDone 6
  ({ d1 with glb := { d1.glb with stepG := true } } : Dev).autoStart (List.range 6)

end Sys2Proof.Machine
end

