-- ==== Sys2Proof/Machine/Boot.lean ====
section
/-! DEFINITION. Sys2Proof/Machine/Boot.lean: resets, supplies, boot and restore (R42, R566, R583, R615 to R629, R639, R655, R663 to R673). -/

namespace Sys2Proof.Machine

/-! ## Reset sources (R615 to R617) -/

/-- SOFT_RESET (R639): KEY and GO. -/
def execSoftReset (val : Word) (s : State) : Host.Outcome State Fault Refusal :=
  s.go (fun d =>
    if d.live && decide (F.GLB_SOFT_RESET_KEY.get val.toNat = 0xC0DE) && decide (F.GLB_SOFT_RESET_GO.get val.toNat = 1) then d.latchReset 6 else d)

/-- RESET_N_ASSERT (R617): low for 1 µs; the monitors of R287 disarm. -/
def execResetNAssert (s : State) : Host.Outcome State Fault Refusal :=
  s.go (fun d => ({ d with glb := { d.glb with resetN := false }, sec := { d.sec with armed := false } } : Dev).latchReset 2)

/-- PERST_N_ASSERT (R617). -/
def execPerstNAssert (s : State) : Host.Outcome State Fault Refusal :=
  s.go (fun d => ({ d with glb := { d.glb with perstN := false } } : Dev).latchReset 3)

/-- PCIE_HOT_RESET (R615). -/
def execPcieHotReset (s : State) : Host.Outcome State Fault Refusal := s.go (fun d => d.latchReset 4)

/-- FLR (R615). -/
def execFlr (s : State) : Host.Outcome State Fault Refusal := s.go (fun d => d.latchReset 5)

/-- AUTO_RESET_EXPIRY (R566): AUTO_RST seconds after the safe state was entered. -/
def execAutoResetExpiry (s : State) : Host.Outcome State Fault Refusal :=
  s.go (fun d =>
    match d.flt.safeAt with
    | some t => if d.live && d.isSafe && decide (d.flt.autoRst ≠ 0) then (d.toMono (t + d.flt.autoRst * 500000000)).latchReset 7 else d
    | none => d)

/-- Pins rise; a device held only by them boots (R616). -/
def Dev.releasePins (d : Dev) (resetN perstN pwrFailN : Bool) : Dev :=
  let d1 : Dev := { d with glb := { d.glb with
    resetN := d.glb.resetN || resetN, perstN := d.glb.perstN || perstN, pwrFailN := d.glb.pwrFailN || pwrFailN } }
  if d1.glb.phase = .held ∧ d1.released_ then { d1 with glb := { d1.glb with phase := .booting } } else d1

/-- RESET_RELEASE (R616): RESET_N and PERST_N, where they are given, are released. -/
def execResetRelease (resetN perstN : Bool) (s : State) : Host.Outcome State Fault Refusal := s.go (fun d => d.releasePins resetN perstN false)

/-- The main supplies are in range and the power-on reset is released 1 ms later (R616). `offS` seconds passed without them; a battery
domain that has lost all power keeps nothing (R664). -/
def State.powerUp (s : State) (offS : Nat) (cold resetN perstN pwrFailN : Bool) : State :=
  let d := s.dev
  if d.powered then s
  else
    let d1 : Dev := { d with
      tim := { d.tim with rtcNs := d.tim.rtcNs + offS * 1000000000, rtcValid := d.tim.rtcValid && !cold }
      evr := { d.evr with powerCycles := d.evr.powerCycles + 1 }
      glb := { d.glb with phase := .held, cause := 1, resetN := resetN, perstN := perstN, pwrFailN := pwrFailN } }
    { s with bat := if cold then { vbat := 0, cold := true } else s.bat, dev := (d1.passCycles 500000).releasePins false false false }

/-- POWER_UP (R616). -/
def execPowerUp (offS : Nat) (cold resetN perstN pwrFailN : Bool) (s : State) : Host.Outcome State Fault Refusal :=
  .next (s.powerUp offS cold resetN perstN pwrFailN)

/-- MAIN_SUPPLY_LOSS (R663): what no commit has kept is lost, PWR_CYCLE_REQ_N is released, operating time stops. -/
def execMainSupplyLoss (s : State) : Host.Outcome State Fault Refusal :=
  s.go (fun d =>
    if d.powered then
      let x := d.reborn true
      { x with glb := { x.glb with phase := .unpowered } }
    else d)

/-! ## Boot (R620 to R622, R664) -/

/-- What the battery domain makes the boot report: that it was cold (R664), a zeroisation without main supplies (R289). -/
def State.bootBattery (s : State) : State :=
  let d := s.dev
  let d1 := if s.bat.cold then (d.wrb F.PWR_SUP_STS_VBAT_COLD 0 true).recordPost 5 0x1302 0 0x13 0 else d
  let d2 := if s.bat.owed then
      let n := d1.freeCtr
      let sd := fun k => (Config.sourceData n k).toNat
      let x := ({ d1 with freeCtr := n + 1 } : Dev).record 0x0F40 4 3 s.bat.source (sd 4) (sd 5) (sd 6) true
      (x.post 5 0x0F40 3 4 0 (sd 4) (sd 5) (sd 6)).fault 0x0F40 4 3 s.bat.source true
    else d1
  { s with bat := { s.bat with cold := false, owed := false }, dev := d2 }

/-- Steps a and b (R620): the boot halts, or ends with READY. -/
def State.boot (s : State) (e : BootEnv) : State :=
  let d := s.dev
  if d.glb.phase ≠ .booting then s
  else if e.halt ≠ 0 then { s with dev := (d.passCycles (500 * e.aUs)).haltBoot e.halt }
  else
    let f := d.bootFormats
    let d1 := ((f.2.bootClocks e).bootFirmware e).bootCaps s.die.gov
    let s1 := ({ s with dev := d1.seed s.bat.root } : State).show_
    let d2 := ((((s1.dev.bootModes e).bootRecords).bootTime).bootCheck).bootRetain
    let s2 := ({ s1 with dev := d2.bootImage f.1 } : State).bootBattery
    { s2 with dev := s2.dev.bootDegraded.bootStart }

/-- BOOT (R620): a halt code is 1 to 4 (R639). -/
def execBoot (env : BootEnv) (s : State) : Host.Outcome State Fault Refusal :=
  if bootOk env then .next (s.boot env) else .fault (.illFormedCommand "BOOT")

/-- BOOT_RETRY (R622): 10 s after the halt. -/
def execBootRetry (s : State) : Host.Outcome State Fault Refusal :=
  s.go (fun d =>
    if d.glb.phase = .halted then
      let d1 := ((d.toMono (d.glb.haltAt + 5000000000)).wrb F.GLB_BOOT_STS_HALT 0 false).wr F.GLB_BOOT_STS_HALT_CODE 0 0
      { d1 with glb := { d1.glb with phase := .booting } }
    else d)

/-- RESTORE_DONE (R626): the snapshot is loaded and the journals replayed, once the media has been mounted or found unusable. -/
def execRestoreDone (s : State) : Host.Outcome State Fault Refusal :=
  s.go (fun d =>
    if d.live && !d.glb.stepG && !d.upd.recovery && (List.range 4).all (fun n => decide ((d.fnOf (10 + n)).st ≠ .starting)) then d.stepGEnd else d)

/-- SPARE_INIT_DONE (R621). -/
def execSpareInitDone (s : State) : Host.Outcome State Fault Refusal :=
  s.go (fun d => if d.live then { d with glb := { d.glb with spareReady := true } } else d)

/-! ## Power failure (R42, R619, R665 to R670) -/

/-- The power-fail commit starts: the claim is released, transmitters stop, the monitors of R287 disarm (R665). Before READY the boot stops and
waits (R619). -/
def Dev.failStart (d : Dev) : Dev :=
  let d0 : Dev := { d with upd := { d.upd with failSeen := d.upd.failSeen || d.upd.mark.isSome }, sec := { d.sec with armed := false } }
  match d.glb.phase with
  | .ready =>
    let d1 := (d0.wr F.PWR_LAST_COMMIT_V_FAIL 0 (d0.rd F.PWR_HOLD_STS_VHOLD))
    let d2 := (if d1.isSafe then d1 else d1.silence)
    { d2 with glb := { d2.glb with phase := .failing, stagedAt := d.evr.staged.length } }
  | .booting => { (d0.restart d.glb.cause) with glb := { (d0.restart d.glb.cause).glb with phase := .held } }
  | .halted => { (d0.restart d.glb.cause) with glb := { (d0.restart d.glb.cause).glb with phase := .held } }
  | _ => d0

/-- PWR_FAIL_FALL (R42, R619): low for 2 µs. -/
def execPwrFailFall (s : State) : Host.Outcome State Fault Refusal :=
  s.go (fun d =>
    if d.powered then
      ({ (if d.live then d.wrb F.PWR_SUP_STS_PWR_FAIL 0 true else d) with glb := { d.glb with pwrFailN := false } } : Dev).failStart
    else d)

/-- RAIL_TRIP (R667): rails that leave their range while PWR_FAIL_N is high. -/
def execRailTrip (rails : BitVec 10) (s : State) : Host.Outcome State Fault Refusal :=
  s.go (fun d =>
    if d.powered && d.glb.pwrFailN && decide (rails ≠ 0) then
      let d1 := if d.live then
          let m := d.rd F.PWR_SUP_STS_RAIL_OK
          ((d.wr F.PWR_SUP_STS_RAIL_OK 0 (m - (m &&& rails.toNat))).bump F.PWR_RAIL_TRIP).record 0x1303 0x13 0 rails.toNat
        else d
      d1.failStart
    else d)

/-- The commit ends (R42, R579, R670): its time in µs; one commit where the safe state has made it (R567). -/
def Dev.failDone (d : Dev) (us : Nat) : Dev :=
  let d1 := ((d.passCycles (500 * us)).bump F.PWR_FAIL_CNT).record 0x1010 0x13 0 us d.glb.stagedAt
  let d2 := (if d1.isSafe then d1 else d1.commit).wr F.PWR_LAST_COMMIT_V_END 0 (d1.rd F.PWR_HOLD_STS_VHOLD)
  let w := BitVec.ofNat 32 (d2.word 0x130010)
  { d2 with store := if w = 0 then d2.store.del 0x130010 else d2.store.put 0x130010 w, glb := { d2.glb with phase := .failed } }

/-- POWER_FAIL_COMMIT_DONE (R42). -/
def execPowerFailCommitDone (us : Nat) (s : State) : Host.Outcome State Fault Refusal :=
  s.go (fun d => if d.glb.phase = .failing then d.failDone us else d)

/-- PWR_FAIL_RISE (R619): after a commit, 100 ms of PWR_FAIL_N high boot the device with cause 1, and the power-cycle count rises. -/
def execPwrFailRise (s : State) : Host.Outcome State Fault Refusal :=
  s.go (fun d =>
    let d1 := d.releasePins false false true
    if d1.glb.phase = .failed then
      let x := (d1.passCycles 50000000).reborn true
      ({ x with evr := { x.evr with powerCycles := x.evr.powerCycles + 1 }, glb := { x.glb with phase := .held, cause := 1 } } : Dev).releasePins
        false false false
    else d1)

/-! ## The hold-up monitor (R669) and the junction temperature (R672) -/

/-- The energy of R669 times 65536 × 10^11, in mJ, from x = VHOLD_SNS (mV) × DIV. -/
def Dev.holdNum (d : Dev) (x : Nat) : Nat :=
  5 * d.rd F.PWR_HOLD_CFG_CAP * d.rd F.PWR_HOLD_CFG_EFF * (x * x - 655360000 * d.rd F.PWR_HOLD_CFG_V_MIN ^ 2)

/-- A quotient as a register shows it, held at the register's limit: its rounding is open. -/
def holdQuot (n den : Nat) : Nat := min 65535 (if n % den = 0 then n / den else n / den + (Config.holdRound n).toNat)

/-- HOLD_LOW as a sample finds it: always with CAP at 0. -/
def Dev.holdLow (d : Dev) (x : Nat) : Bool :=
  decide (d.rd F.PWR_HOLD_CFG_CAP = 0) || decide (d.holdNum x < d.rd F.PWR_HOLD_RSV_RESERVE * 6553600000000000)

/-- HOLD_LOW goes from 0 to 1: counted, one event, one record an hour. -/
def Dev.holdFell (d : Dev) : Dev :=
  let d1 := (d.bump F.PWR_HOLD_LOW_CNT).post 11 0x1301 0 0x13 0
  let due := match d1.glb.holdRecAt with | none => true | some t => decide (t + 3600 ≤ d1.evr.optime)
  if due then ({ d1 with glb := { d1.glb with holdRecAt := some d1.evr.optime } } : Dev).record 0x1301 0x13 0 else d1

/-- A sample of VHOLD_SNS: sixteen the other way change HOLD_LOW; CAP at 0 sets it at once. -/
def Dev.holdSample (d : Dev) (mv : Nat) : Dev :=
  let x := mv * d.rd F.PWR_HOLD_RSV_DIV
  let d1 := (d.wr F.PWR_HOLD_STS_VHOLD 0 (holdQuot x 2560)).wr F.PWR_HOLD_STS_E_AVAIL 0 (holdQuot (d.holdNum x) 6553600000000000)
  let low := d.holdLow x
  if low = d.on F.PWR_SUP_STS_HOLD_LOW then { d1 with glb := { d1.glb with holdRun := 0 } }
  else if d.glb.holdRun + 1 < 16 ∧ d.rd F.PWR_HOLD_CFG_CAP ≠ 0 then { d1 with glb := { d1.glb with holdRun := d.glb.holdRun + 1 } }
  else
    let d2 := ({ d1 with glb := { d1.glb with holdRun := 0 } } : Dev).wrb F.PWR_SUP_STS_HOLD_LOW 0 low
    if low then d2.holdFell else d2

/-- HOLDUP_SAMPLE (R669): VHOLD_SNS in mV. -/
def execHoldupSample (mv : BitVec 12) (s : State) : Host.Outcome State Fault Refusal :=
  s.go (fun d => if d.glb.phase = .ready ∨ d.glb.phase = .failing then d.holdSample mv.toNat else d)

/-- PWR_TEMP_CLEAR (R672): any value. -/
def execPwrTempClear (_val : Word) (s : State) : Host.Outcome State Fault Refusal :=
  s.go (fun d =>
    if d.live then (d.wr F.PWR_TEMP_TJ_MAX 0 (d.rd F.PWR_TEMP_TJ)).wr F.PWR_TEMP_TJ_MIN 0 (d.rd F.PWR_TEMP_TJ) else d)

/-- RTC_OSCILLATOR_STOP (R429, R655). -/
def execRtcOscillatorStop (s : State) : Host.Outcome State Fault Refusal :=
  s.go (fun d =>
    let d1 : Dev := { d with tim := { d.tim with rtcValid := false } }
    if d1.live then ((d1.wrb F.GLB_CLK_STS_RTC_RUN 0 false).wrb F.TIM_STS_RTC_VALID 0 false).timeCheck else d1)

end Sys2Proof.Machine
end

