-- ==== Sys2Proof/Machine/Ingest.lean ====
section
/-! DEFINITION. Sys2Proof/Machine/Ingest.lean: frames and joins from their ingest queues through steps 4 to 8 of R35, and forwarding by a
field device (R36, R109 to R126, R302). -/

namespace Sys2Proof.Machine

/-! ## Answers and the transactions that they end -/

/-- The scheduler's port by which a frame came. -/
def Via.port (v : Via) : Nat := match v.fdx with | some b => 16 + b | none => v.attach - 1

/-- Take the answered transaction that a frame belongs to. -/
def Dev.takeAnswered (d : Dev) (m : Nat) (v : Via) : Option (Xfer × Dev) :=
  let p := d.psch v.port
  let pick := fun (x : Xfer) => decide (x.mix = m) && (if v.fdx.isSome then decide (x.order = some v.tag) else v.reply)
  (p.answered.find? pick).map (fun x => (x, d.setPsch v.port { p with answered := p.answered.erase x }))

/-- A frame of a meter with an order out has passed step 5 before its ORDER_DONE came: its outcome waits for that. -/
def Dev.keepAnswer (d : Dev) (m : Nat) (v : Via) (data : Option MData) (ofs : Int) : Dev :=
  match v.fdx, (d.psch v.port).cur with
  | some b, some x => if x.mix = m then { d with fl := { d.fl with answers := ({ fdx := b, dseq := v.tag, data := data, ofs := ofs } :: d.fl.answers).take 4096 } } else d
  | _, _ => d

/-- The answer to a transaction ends it: done, or failed authentication, or dropped before it. -/
def Dev.settleAnswer (d : Dev) (m : Nat) (v : Via) (data : Option MData) (bad : Bool) (ofs : Int) : Dev :=
  match d.takeAnswered m v with
  | none => d.keepAnswer m v data ofs
  | some (x, d1) => match data with
    | some a => d1.xferDone x a ofs
    | none => if bad then d1.xferFail x 0x10 0 else d1.xferFail x 0xD x.made

/-! ## A meter that never listens (R265) -/

/-- A frame carries every Sel of a transaction. -/
def Xfer.served (x : Xfer) (data : MData) : Bool := x.sels.all (fun k => data.sels.contains k)

/-- Reads that wait for a meter's next frame complete from it, or are rejected. -/
def Dev.muteReads (d : Dev) (pk m : Nat) (data : MData) : Dev :=
  if !d.mute pk m then d
  else
    let xs := d.sch.wait.filter (fun x => x.mix = m && x.slot && (match x.ask with | .read => true | _ => false))
    let d1 : Dev := { d with sch := { d.sch with wait := d.sch.wait.filter (fun x => !xs.contains x) } }
    xs.foldl (fun (y : Dev) x => match y.ctxAt m with
      | none => y
      | some c =>
        let y1 := if x.heat then y.editCtx m (fun z => { z with poll := pollBit z.poll 2 false }) else y
        if x.served data then x.descs.foldl (fun (z : Dev) q => z.answerDesc { x with made := 1 } c data 0 q) y1
        else x.descs.foldl (fun (z : Dev) q => z.complete q.1 q.2 0xF 0xFFFF) y1) d1

/-! ## Alarms (R47, R100) -/

/-- The code of an alarm frame's event by its bits. -/
def alarmCode (bits : Nat) : Nat := if bitAt bits 0 then 0x0301 else if bitAt bits 1 then 0x0302 else 0x0303

/-- An ALARM-class entry of a meter waits to be posted. -/
def Dev.alarmWaits (d : Dev) (m : Nat) : Bool :=
  ((d.lane 13).cells ++ (d.lane 13).ring).any (fun i => match i.payload with | .event e => e.cls = 0 && e.target = tgtMix m | _ => false)

/-- An authenticated alarm: the context's alarm fields, and one event. -/
def Dev.alarm (d : Dev) (m bits : Nat) : Dev :=
  if bits = 0 then d
  else
    let merged := d.alarmWaits m
    let d1 := d.editCtx m (fun c => { c with
      alarmBits := c.alarmBits ||| bits, alarmMerged := if merged then min 65535 (c.alarmMerged + 1) else c.alarmMerged, lastAlarm := d.nowS })
    d1.post 0 (alarmCode bits) 0 3 (tgtMix m) bits d.nowS

/-! ## Joins that authenticate (R109, R113, R123) -/

/-- The owner of a meter after its join came by a frame: a move between field devices is released and reported (R113). A move between a field
device and direct attachment sets OWNER to or from 0xFFFF, releases the old field device and posts no 0x0310, whose two FDX values it
lacks (DESIGN CHOICE, log 117). -/
def Dev.moveOwner (d : Dev) (m : Nat) (c : Ctx) (v : Via) : Dev :=
  if !d.isHead then d
  else
    let new := match v.fdx with | some b => b | none => 0xFFFF
    if c.owner = new then d
    else
      let d1 := (d.flLeave c).editCtx m (fun x => { x with owner := new })
      if c.owner ≤ 0x3FF ∧ new ≤ 0x3FF then d1.post 0 0x0310 0 3 (tgtMix m) c.owner new else d1

/-- A context in JOINING becomes ASSOCIATED; one that came from FREE is admitted. -/
def Dev.associated (d : Dev) (m : Nat) (v : Via) : Dev :=
  match d.ctxAt m, d.ctx.joins.find m with
  | some c, some (from_, _, _) =>
    let d1 : Dev := { d with ctx := { d.ctx with joins := d.ctx.joins.del m } }
    let d2 := ((d1.unpin m).editCtx m (fun x => { x with st := 3 })).moveOwner m c v
    if from_ = 0 then (d2.openExt m).genesis m else d2
  | _, _ => d

/-! ## An authenticated frame -/

/-- What the port and the frame tell of the meter goes to its context. -/
def Dev.netState (d : Dev) (m : Nat) (v : Via) : Dev :=
  d.editCtx m (fun c => { c with
    hops := min 255 v.hops, linkCost := if v.attach ≤ 2 then min 255 v.cost else c.linkCost, snr := clampInt (-128) 127 v.snr
    lastRx := (v.rx / 1000000000) % 2 ^ 32 })

/-- A line port learns the route, a radio port the calendar, from a frame that it received (R221, R259), and that a field device's frame
authenticated is noted for the report to it; a compatible plan's routes come with its route replies (R224), and its meter's phase is unknown
behind a relay (R232). -/
def Dev.learnVia (d : Dev) (m : Nat) (v : Via) : Dev :=
  match v.fdx with
  | some x => d.fdAuth x v.tag
  | none =>
  if 1 ≤ v.attach ∧ v.attach ≤ 2 then
    if v.compat then (if 1 < v.hops then d.phUnknown (v.attach - 1) m else d)
    else d.learnLine (v.attach - 1) m v.path v.short v.cost
  else if 3 ≤ v.attach ∧ v.attach ≤ 6 then d.radTouch (v.attach - 3) m v.fin v.relayed v.gen
  else d

/-- The Ledger asked for a WRITE_TIME: it follows this exchange (R319). -/
def Dev.timeAsked (d : Dev) (m pk : Nat) : Dev :=
  let x := d.ldgM m
  if x.askTime && !d.mute pk m then
    (d.setLdgM m { x with askTime := false }).enqueue { mix := m, port := pk, ask := .setTime, slot := d.slotted pk m, from_ := d.tim.mono }
  else d

/-- A frame that step 5 accepted: steps 6 to 8, and what it settles. -/
def Dev.acceptFrame (d : Dev) (m : Nat) (f : MFrame) (v : Via) : Dev :=
  let ofs := match d.ctxAt m with | some c => c.clockOfs | none => 0
  let d1 := if (match d.ctxAt m with | some c => decide (c.st = 2) | none => false) then d.associated m v else d
  let d2 := (d1.editCtx m (fun c => { c with
    st := if c.st = 4 then 3 else c.st, framesRx := (c.framesRx + 1) % 2 ^ 32, meterTamper := f.data.tamper.getD c.meterTamper }))
  let d3 := ((d2.netState m v).learnVia m v).ledger m f v.rx
  let d4 := (match f.data.tamper with | some t => d3.setTamper m t | none => d3).alarm m f.data.alarms
  let d5 := ((d4.markCatchup m).pushArrived m).muteReads v.port m f.data
  let d6 := d5.settleAnswer m v (some f.data) false ofs
  if v.reply || v.fdx.isSome then d6.timeAsked m v.port else d6

/-- Step 5, then the rest (R302), with the context fetched. -/
def Dev.ownFrame (d : Dev) (m : Nat) (c : Ctx) (f : MFrame) (v : Via) : Dev :=
  let r := d.authenticate m c f
  match r.1 with
  | .ok => r.2.acceptFrame m f v
  | .bad => (r.2.settleAnswer m v none true 0).joinFails m
  | .drop => r.2.settleAnswer m v none false 0

/-! ## Forwarding (R36, R111, R225) -/

/-- A field device reports a change of a meter's network state (R225, R489). -/
def Dev.meterSts (d : Dev) (old new : Ctx) : Dev :=
  if old.attach = new.attach ∧ old.hops = new.hops ∧ old.linkCost = new.linkCost then d
  else d.flHoldRec (fun n => .meterSts n new.kind new.attach new.hops new.linkCost new.addr)

/-- A field device forwards a frame of a meter that its head end owns; the answer to an order is reported with it. -/
def Dev.forwardFrame (d : Dev) (m : Nat) (c : Ctx) (f : MFrame) (v : Via) : Dev :=
  let d1 := d.netState m v
  let d2 := if 3 ≤ v.attach ∧ v.attach ≤ 6 then d1.radTouch (v.attach - 3) m v.fin v.relayed v.gen else d1
  let d3 := match d2.ctxAt m with | some c' => d2.meterSts c c' | none => d2
  let d4 := d3.flHoldRec (fun n => .meterUp n (v.attach - 1) v.hops (unsigned 8 v.snr) v.rx { f with kind := c.kind, addr := c.addr })
  let n := d4.fl.dseq
  let d5 : Dev := if v.attach ≤ 2 && !v.compat then
      { d4 with fl := { d4.fl with learns := { dseq := n, port := v.attach - 1, mix := m, path := v.path, near := v.short, cost := v.cost } :: d4.fl.learns.take 4095 } }
    else d4
  match d5.takeAnswered m v with
  | some (x, y) => match x.order with
    | some id => ((y.orderDone id 0 x.made n (y.inPolling v.port m)).unpin m).ctxTry
    | none => (y.unpin m).ctxTry
  | none => d5

/-! ## A frame from its queue (R35, R118, R127) -/

/-- A frame of an own meter needs its context in the cache: the fetch, which may wait for a set whose ways are all pinned, the frame
staying in its queue (R130). Other frames need none (R111). -/
def Dev.frameFetch (d : Dev) (f : MFrame) (v : Via) : Bool × Dev :=
  match d.resolve f v with
  | none => (true, d)
  | some m => match d.ctxAt m with
    | none => (true, d)
    | some c => if (decide (c.st = 5) && !v.reply) || decide (c.owner = 0xFFFE) then (true, d) else d.fetchCtx m

/-- Steps 4 on: the meter is looked up; a frame without one is dropped; alarm frames count toward a storm (R162). -/
def Dev.processFrame (d : Dev) (f : MFrame) (v : Via) : Dev :=
  match d.resolve f v with
  | none => d.bump F.CTX_UNKNOWN_RX
  | some m => match d.ctxAt m with
    | none => d.bump F.CTX_UNKNOWN_RX
    | some c =>
      if c.st = 5 ∧ ¬ v.reply then d.bump F.CTX_UNKNOWN_RX
      else if c.owner = 0xFFFE then d.forwardFrame m c f v
      else
        let d1 : Dev := if f.data.alarms ≠ 0 then { d with sch := { d.sch with alarms := d.sch.alarms + 1 } } else d
        d1.stormCheck.ownFrame m c f v

/-- The head of an ingest queue (R465): its place, and the frame or the join that it is. -/
def Dev.ingestHead (d : Dev) (q : Nat) : Option (Nat × Item) := if d.live then d.laneHead q else none

/-- The frame at a place of an ingest queue is processed once its context is fetched (R35, R130). -/
def Dev.takeFrame (d : Dev) (q n : Nat) (f : MFrame) (v : Via) : Dev :=
  let r := d.frameFetch f v
  if r.1 then (r.2.laneDrop q n).processFrame f v else r.2

/-- FRAME_PROCESS (R35): on a bow device and in the safe state a frame goes no further (R43, R565). -/
def execFrameProcess (queue : Fin 10) (s : State) : Host.Outcome State Fault Refusal :=
  s.go (fun d => match d.ingestHead queue with
    | none => d
    | some (n, i) => match i.payload with
      | .frame f v => if d.serves then d.takeFrame queue n f v else d.laneDrop queue n
      | _ => d)

/-! ## Joins (R121 to R126, R251, R301, R317) -/

/-- A refusal for want of contexts is counted; the first of a day is recorded and posted (R126). The day of the latest record does not
outlive a device reset (DESIGN CHOICE, log 116). -/
def Dev.capacityRefused (d : Dev) : Dev :=
  let d1 := d.bump F.CTX_REFUSED
  let first := match d1.ctx.refDay with
    | none => true
    | some t => if d1.timeValid then decide (t / 86400 ≠ d1.nowS / 86400) else decide (t + 86400 ≤ d1.nowS)
  if first then
    ({ d1 with ctx := { d1.ctx with refDay := some d1.nowS } } : Dev).recordPost 4 0x0320 1 3 0 0 (d1.rd F.CTX_REFUSED)
  else d1

/-- A refused meter is told "capacity", or its installation frames are ignored for the back-off time (R124). -/
def Dev.refuseJoin (d : Dev) (j : JoinReq) (v : Via) : Dev :=
  let mins := d.rd F.CTX_ADMIT_CFG_BACKOFF
  if j.kind = 0 then d.emit (.joinAnswer v.attach j.kind j.addr mins 0)
  else { d with ctx := { d.ctx with quiet := (j.addr, d.nowS + 60 * mins) :: d.ctx.quiet.filter (fun e => decide (d.nowS < e.2) && e.1 ≠ j.addr) } }

/-- Whether a refused KIND 1 address is in its back-off time (R124). -/
def Dev.isQuiet (d : Dev) (j : JoinReq) : Bool := j.kind = 1 && d.ctx.quiet.any (fun e => e.1 = j.addr && decide (d.nowS < e.2))

/-- A join on an own port counts against the 16,384 directly attached meters (R125). -/
def Dev.attachFull (d : Dev) (v : Via) (already : Bool) : Bool := v.fdx.isNone && !already && d.directFull

/-- The network state that a join gives its context. -/
def Dev.joinNet (d : Dev) (m : Nat) (j : JoinReq) (v : Via) : Dev :=
  let direct := v.fdx.isNone
  let s := if direct && decide (v.attach ≤ 2) then d.giveShort (v.attach - 1) m else (0, d)
  let radio := direct && decide (3 ≤ v.attach ∧ v.attach ≤ 6)
  let wake := if !radio then 0 else if j.kind = 1 then 0xFF else if j.mains then 0xFE else d.rd F.RAD_SLOT_CFG_WAKE (v.attach - 3)
  let d1 := s.2.editCtx m (fun c => { c with
    attach := if direct then v.attach else 7, short := s.1, sysTitle := if j.title = 0 then c.sysTitle else j.title
    wake := wake, nextSlot := 0, missRun := 0, rsync := 0 })
  let d2 : Dev := { d1 with cals := if radio then d1.cals.put m { deaf := j.deaf } else d1.cals.del m }
  let d3 := d2.setLdgM m { d2.ldgM m with beaconTime := j.beaconTime }
  { d3 with lcp := d3.lcp.mapVals (fun _ l => { l with polled := l.polled.del m }) }

/-- The meter's join is answered: by the port, or by the field device that JOIN_OK tells. -/
def Dev.answerJoin (d : Dev) (m : Nat) (j : JoinReq) (v : Via) : Dev :=
  match v.fdx with
  | some b => d.flOrder b (fun n => .joinOk n j.kind j.addr)
  | none => (d.emit (.joinAnswer v.attach j.kind j.addr 0 (match d.ctxAt m with | some c => c.short | none => 0))).joinElement m

/-- A context goes to JOINING. -/
def Dev.toJoining (d : Dev) (m from_ : Nat) (j : JoinReq) (v : Via) : Dev :=
  let d1 : Dev := { d with ctx := { d.ctx with joins := d.ctx.joins.put m (from_, d.tim.mono, v.fdx) } }
  let d2 := (d1.editCtx m (fun c => { c with st := 2, poll := c.poll / 4 * 4 })).joinNet m j v
  (d2.pin m).answerJoin m j v

/-- A join of a meter with a context. -/
def Dev.knownJoin (d : Dev) (m : Nat) (c : Ctx) (j : JoinReq) (v : Via) : Dev :=
  if d.isQuiet j then d
  else if c.st = 5 then d.bump F.CTX_UNKNOWN_RX
  else if c.st = 2 then d.answerJoin m j v
  else if d.attachFull v (decide (1 ≤ c.attach ∧ c.attach ≤ 6)) then (d.refuseJoin j v).bump F.CTX_ATTACH_REFUSED
  else if 1024 ≤ d.joining then d
  else d.toJoining m c.st j v

/-- The context that MODE 1 takes for an unknown join (R121). -/
def Dev.modeCtx (d : Dev) (j : JoinReq) (v : Via) : Ctx :=
  { addr := j.addr, kind := j.kind, st := 2, grp := d.rd F.CTX_ADMIT_CFG_DEFAULT_GRP, owner := v.fdx.getD 0xFFFF
    attach := if v.fdx.isSome then 7 else v.attach, admitTime := d.nowS, suite := suiteOf j.kind 15, intLen := 15, timeQual := 3 }

/-- A join from a key that is not in the table; unanswered while the table is rebuilt (R116). -/
def Dev.unknownJoin (d : Dev) (moves : List (Fin 4)) (j : JoinReq) (v : Via) : Dev :=
  if d.isQuiet j then d
  else if d.rd F.CTX_ADMIT_CFG_MODE = 0 then d.bump F.CTX_UNKNOWN_RX
  else if d.ctxLimit ≤ d.ctxUsed then (d.refuseJoin j v).capacityRefused
  else if d.attachFull v false then (d.refuseJoin j v).bump F.CTX_ATTACH_REFUSED
  else if 1024 ≤ d.joining then d
  else
    let m := d.freeMix
    let r := d.indexPut moves j.kind j.addr m
    if !r.1 then r.2
    else
      let d1 := ((r.2.putCtx m (d.modeCtx j v)).toJoining m 0 j v).imgJoin m
      d1.post 0 0x0311 0 3 (tgtMix m) m j.kind (if v.fdx.isSome then 7 else v.attach)

/-- A field device forwards a join while its link is up (R489); one that would raise its directly attached meters above 16,384 it refuses
itself (R125). -/
def Dev.forwardJoin (d : Dev) (j : JoinReq) (v : Via) : Dev :=
  if d.isQuiet j then d
  else if (d.lookup j.kind j.addr).isNone && d.directFull then (d.refuseJoin j v).bump F.CTX_ATTACH_REFUSED
  else if d.flIsUp then
    ({ d with fl := { d.fl with joined := ((v.attach, j) :: d.fl.joined.filter (fun e => !(e.2.kind = j.kind && e.2.addr = j.addr))).take 1024 } } : Dev).flHoldRec
      (fun n => .join n (v.attach - 1) j)
  else d

/-- A join frame (R121): a field device forwards those of unknown meters and of its head end's, while the link is up. No join is answered
while the lookup table is rebuilt (R116). -/
def Dev.processJoin (d : Dev) (moves : List (Fin 4)) (j : JoinReq) (v : Via) : Dev :=
  let known := (d.lookup j.kind j.addr).bind (fun m => (d.ctxAt m).map (fun c => (m, c)))
  if d.ctx.rehash then d
  else match known with
  | some (m, c) =>
    if c.owner = 0xFFFE then d.forwardJoin j v
    else d.knownJoin m c j v
  | none =>
    if d.isField && decide (d.fl.mode ≠ 0) then d.forwardJoin j v
    else if d.isField then d
    else d.unknownJoin moves j v

/-- JOIN_RX (R121): the join at the head of an ingest queue. -/
def execJoinRx (queue : Fin 10) (moves : List (Fin 4)) (s : State) : Host.Outcome State Fault Refusal :=
  s.go (fun d => match d.ingestHead queue with
    | none => d
    | some (n, i) => match i.payload with
      | .join j v => let d1 := d.laneDrop queue n; if d.serves then d1.processJoin moves j v else d1
      | _ => d)

end Sys2Proof.Machine
end

