-- ==== Sys2Proof/Machine/FieldLink.lean ====
section
/-! DEFINITION. Sys2Proof/Machine/FieldLink.lean: the field link: frames and records received, muster, orders, held records and their
timers (R36, R111, R113, R121, R160, R161, R442, R484 to R495, R548). -/

namespace Sys2Proof.Machine

/-! ## Frames (R485 to R488) -/

/-- A frame of the direction, version, length and field device that this end takes, in the encapsulation of MODE (R484, R485). -/
def Dev.flHeadOk (d : Dev) (udp : Bool) (f : FlFrame) : Bool :=
  decide (d.fl.mode = if udp then 2 else 1) && f.ver = 1 && f.lenOk && f.up == d.isHead
    && (if d.isField then f.fdx = d.ownFdx else d.fdxOn f.fdx)

/-- The records of a keyless frame are the ones it may carry (R486). -/
def keylessOk (f : FlFrame) : Bool := match f.recs with
  | [.helloK _ _] => f.up
  | [.keyWrap _ _] => !f.up
  | _ => false

/-- Records go to their commands; those of unknown type are skipped (R488). -/
def Dev.flDeliver (d : Dev) (p rx : Nat) (f : FlFrame) : Dev :=
  let known := f.recs.filter (fun r => match r with | .unknown _ => false | _ => true)
  { d with fl := { d.fl with inbox := d.fl.inbox ++ known.map (fun r => (f.fdx, p, rx, r)) } }

/-- A keyed frame: its tag, then its SEQ (R486, R487). -/
def Dev.flKeyed (d : Dev) (p rx src : Nat) (f : FlFrame) : Dev :=
  if d.flKey f.fdx ≠ some f.key || f.recs.any flKeyless then d.ethCount p 9
  else match (d.flEnd f.fdx).win.take f.epoch f.count with
    | none => d.ethCount p 10
    | some w =>
      let d1 := d.setFlEnd f.fdx { d.flEnd f.fdx with win := w, heardAt := d.tim.mono, mac := src }
      let d2 := if d1.isHead then d1.setFd f.fdx { d1.fd f.fdx with port := p, heardS := d1.nowS } else d1
      d2.flDeliver p rx f

/-- KEYWRAP and WELCOME that wait go out while the second's 64 last (R493), with fuel. -/
def Dev.musterSend : Nat → Dev → Dev
  | 0, d => d
  | n + 1, d =>
    let sec := d.tim.mono / 500000000
    let sent := if d.fl.musterSec = sec then d.fl.musterSent else 0
    match d.fl.muster with
    | [] => d
    | (fdx, p, r) :: t =>
      if 64 ≤ sent then d
      else
        let d1 : Dev := { d with fl := { d.fl with muster := t, musterSec := sec, musterSent := sent + 1 } }
        let d2 := d1.flSendOn p fdx r
        let x := d2.fd fdx
        let d3 := match r with
          | .keyWrap _ _ => (d2.setFd fdx { x with st := if x.st = 2 then 2 else 1 }).bump F.FL_KEYWRAP
          | _ => (d2.setFd fdx { x with st := 2, timeDue := if x.st = 2 then x.timeDue else d2.tim.mono + d2.rd F.TIM_FL_CFG_PERIOD * 500000000 }).stepFEnd
        Dev.musterSend n d3

/-- A KEYWRAP or WELCOME joins those that wait; a repeated one is merged (R493). -/
def Dev.musterAdd (d : Dev) (fdx p : Nat) (r : FlRec) : Dev :=
  ({ d with fl := { d.fl with muster := if d.fl.muster.any (fun e => e.1 = fdx) then d.fl.muster.map (fun e => if e.1 = fdx then (fdx, p, r) else e)
                                        else d.fl.muster ++ [(fdx, p, r)] } } : Dev).musterSend 64

/-- FL_FRAME_RX (R486 to R488): the frame at the head of an Ethernet port's ingest queue; a bow and the safe state discard it (R43, R565). -/
def Dev.flFrame (d : Dev) (p : Nat) : Dev :=
  match d.ingestHead (6 + p) with
  | some (n, ⟨_, _, .eth f rx⟩) =>
    let d1 := (d.laneDrop (6 + p) n).musterSend 64
    let go := fun (udp : Bool) (x : FlFrame) =>
      if !d1.serves then d1
      else if !d1.flHeadOk udp x then d1.ethCount p 9
      else if x.keyless then (if keylessOk x then d1.flDeliver p rx x else d1.ethCount p 9)
      else d1.flKeyed p rx f.src x
    (match f.body with
     | .fl _ x => go false x
     | .flUdp _ _ x => go true x
     | _ => d1)
  | _ => d

/-- FL_FRAME_RX (R487). -/
def execFlFrameRx (port : Fin 4) (s : State) : Host.Outcome State Fault Refusal := s.go (fun d => d.flFrame port)

/-! ## Records -/

/-- Run a record's meaning on the oldest record that a test picks. -/
def Dev.onRec (d : Dev) (pick : FlRec → Bool) (f : Dev → Nat → Nat → Nat → FlRec → Dev) : Dev :=
  if !d.serves then d
  else match d.fl.inbox.find? (fun e => pick e.2.2.2) with
    | none => d
    | some e => f { d with fl := { d.fl with inbox := d.fl.inbox.erase e } } e.1 e.2.1 e.2.2.1 e.2.2.2

/-- `a` is at or below `b` modulo 2^32 (R490). -/
def seqLe (a b : Nat) : Bool := decide ((b + 2 ^ 32 - a % 2 ^ 32) % 2 ^ 32 < 2 ^ 31)

/-- The highest contiguous DSEQ moves over those received above it, with fuel. -/
def seqRun : Nat → Nat → List Nat → Nat × List Nat
  | 0, n, l => (n, l)
  | f + 1, n, l => if l.contains ((n + 1) % 2 ^ 32) then seqRun f ((n + 1) % 2 ^ 32) (l.filter (· ≠ (n + 1) % 2 ^ 32)) else (n, l)

/-- DATA_ACK goes to a field device (R490), with the report of R221. -/
def Dev.dataAck (d : Dev) (fdx : Nat) : Dev :=
  let x := d.fd fdx
  (d.setFd fdx { x with ackFrom := none, ackCount := 0, auth := [] }).flSend fdx (.dataAck x.dseq x.auth)

/-- A held record arrives (R490): whether it is new; a repeated one is counted and acknowledged again. -/
def Dev.heldRx (d : Dev) (fdx n : Nat) : Bool × Dev :=
  let x := d.fd fdx
  let dup := seqLe n x.dseq || x.above.contains n
  let r := if dup then (x.dseq, x.above) else seqRun (x.above.length + 1) x.dseq (n :: x.above)
  let y : Fd := { x with dseq := r.1, above := r.2, ackFrom := some (x.ackFrom.getD d.tim.mono), ackCount := x.ackCount + 1 }
  let d1 := d.setFd fdx y
  let d2 := if dup then d1.bump F.FL_DUP else d1
  (!dup, if 64 ≤ y.ackCount then d2.dataAck fdx else d2)

/-! ## Muster (R491 to R493) -/

/-- The muster code, while it stands (R492). -/
def Dev.flCode (d : Dev) : Option (List Byte) :=
  match d.fl.codeAt with
  | some t => if d.tim.mono < t + d.rd F.FL_TIMER_CODE_HOURS * 1800000000000 then some (d.fl.code.flatMap (fun w => leBytes 4 w.toNat)) else none
  | none => none

/-- FL_CODE0 to 3 are written (R492, R499): the code stands once all four have been. -/
def Dev.flCodeWrite (d : Dev) (i v : Nat) : Dev :=
  let got := if d.fl.codeGot.contains i then d.fl.codeGot else i :: d.fl.codeGot
  let full := got.length = 4
  { d with fl := { d.fl with code := setAt d.fl.code i (BitVec.ofNat 32 v), codeGot := if full then [] else got
                             codeAt := if full then some d.tim.mono else d.fl.codeAt } }

/-- Sixteen bytes drawn. -/
def Dev.draw16 (d : Dev) : List Byte × Dev := let f := d.fresh; ((leBytes 16 (Config.random f.1).toNat), f.2)

/-- The key under which KEYWRAP wraps (R492). -/
def musterKey (code : List Byte) (fdx serial : Nat) (nf nh : List Byte) : List Byte :=
  kdf code "NVD-MUSTER" (beBytes 2 fdx ++ beBytes 8 serial ++ nf ++ nh) 256

/-- HELLO_K_RX (R492). -/
def execHelloKRx (s : State) : Host.Outcome State Fault Refusal :=
  s.go (fun d => d.onRec (fun r => match r with | .helloK _ _ => true | _ => false) (fun d fdx p _ r =>
    match r, d.flCode, d.flKeyOf fdx with
    | .helloK serial nf, some code, some key =>
      let n := d.draw16
      n.2.musterAdd fdx p (.keyWrap n.1 (kwWrap (musterKey code fdx serial nf n.1) key))
    | _, _, _ => d))

/-- The field device sends HELLO_K with a nonce of its own. -/
def Dev.sendHelloK (d : Dev) : Dev :=
  let n := d.draw16
  let d1 : Dev := { n.2 with fl := { n.2.fl with st := 1, nonce := n.1, tries := 0, helloAt := n.2.tim.mono } }
  d1.flUp (.helloK (Config.serial 0).toNat n.1)

/-- The field device sends HELLO under its key, or starts without one (R492). -/
def Dev.sendHello (d : Dev) : Dev :=
  if d.flKeyHeld.isNone then d.sendHelloK
  else
    let d1 : Dev := { d with fl := { d.fl with st := 2, tries := d.fl.tries + 1, helloAt := d.tim.mono } }
    d1.flUp (.hello (Config.serial 0).toNat d.fl.dseq)

/-- KEYWRAP_RX (R492). -/
def execKeywrapRx (s : State) : Host.Outcome State Fault Refusal :=
  s.go (fun d => d.onRec (fun r => match r with | .keyWrap _ _ => true | _ => false) (fun d fdx _ _ r =>
    match r, d.flCode, d.purposeKey "WRP" with
    | .keyWrap nh w, some code, some kw =>
      if d.fl.st ≠ 1 then d
      else match kwUnwrap (musterKey code fdx (Config.serial 0).toNat d.fl.nonce nh) w with
        | none => d
        | some key =>
          let d1 : Dev := { d with fl := { d.fl with key := some (kwWrap kw key), tries := 0, link := { d.fl.link with win := {} } } }
          d1.sendHello
    | _, _, _ => d))

/-- HELLO_RX (R492, R493). -/
def execHelloRx (s : State) : Host.Outcome State Fault Refusal :=
  s.go (fun d => d.onRec (fun r => match r with | .hello _ _ => true | _ => false) (fun d fdx p _ r =>
    match r with
    | .hello serial _ =>
      let x := d.fd fdx
      if x.st = 2 ∧ x.serial ≠ serial then
        let d1 := d.bump F.FL_FDX_CONFLICT
        let due : Bool := match d1.fl.conflictAt with | some t => decide (t + 3600 ≤ d1.evr.optime) | none => true
        if due then
          ({ d1 with fl := { d1.fl with conflictAt := some d1.evr.optime } } : Dev).record 0x0702 7 1 fdx (serial % 2 ^ 32) (serial / 2 ^ 32)
        else d1
      else
        let y : Fd := if x.serial = serial then x else { x with serial := serial, dseq := 0, above := [] }
        (d.setFd fdx y).musterAdd fdx p (.welcome (Config.serial 0).toNat y.dseq (d.rd F.FL_TIMER_HB_MS))
    | _ => d))

/-- Held records that an acknowledgement covers are freed; their copies in NAND once none is left (R504). -/
def Dev.freeHeld (d : Dev) (n : Nat) : Dev :=
  let d1 : Dev := { d with fl := { d.fl with held := d.fl.held.filter (fun h => !seqLe h.num n) } }
  if d1.fl.held.isEmpty then d1.releaseLus (fun _ l => l.stream = 4) else d1

/-- WELCOME_RX (R492): held records above its DSEQ are sent again. -/
def execWelcomeRx (s : State) : Host.Outcome State Fault Refusal :=
  s.go (fun d => d.onRec (fun r => match r with | .welcome _ _ _ => true | _ => false) (fun d _ _ _ r =>
    match r with
    | .welcome _ n hb =>
      if d.fl.st ≠ 2 then d
      else
        let d1 := d.freeHeld n
        let d2 : Dev := { d1 with fl := { d1.fl with st := 3, tries := 0, hbMs := clampNat 100 10000 hb, stsAt := d1.tim.mono
                                                     held := d1.fl.held.map (fun h => { h with sentAt := none }) } }
        d2.stepFEnd.flPush
    | _ => d))

/-- FL_HEARTBEAT_RX (R491): its frame has refreshed the link's liveness. -/
def execFlHeartbeatRx (s : State) : Host.Outcome State Fault Refusal :=
  s.go (fun d => d.onRec (fun r => match r with | .heartbeat => true | _ => false) (fun d _ _ _ _ => d))

/-! ## Meter frames, joins and status (R36, R49, R121, R161, R225) -/

/-- The port of the field device that reaches a meter (R335). -/
def Dev.noteFdPort (d : Dev) (fdx kind addr port : Nat) : Dev :=
  match d.lookup kind addr with
  | some m => (match d.ctxAt m with
    | some c => if c.owner = fdx then (d.setLdgM m { d.ldgM m with fdPort := port }).editCtx m id else d
    | none => d)
  | none => d

/-- METER_UP_RX (R489): the frame goes on from the port's ingest queue as from a port of its own. -/
def execMeterUpRx (s : State) : Host.Outcome State Fault Refusal :=
  s.go (fun d => d.onRec (fun r => match r with | .meterUp .. => true | _ => false) (fun d fdx p _ r =>
    match r with
    | .meterUp n port hops snr rx f =>
      let h := d.heldRx fdx n
      if !h.1 then h.2
      else (h.2.noteFdPort fdx f.kind f.addr (port + 1)).offer (6 + p) ⟨0, max 1 f.raw.length, .frame f
        { attach := 7, fdx := some fdx, rx := rx, hops := hops, snr := signed 8 snr, tag := n }⟩
    | _ => d))

/-- JOIN_RECORD_RX (R121). -/
def execJoinRecordRx (s : State) : Host.Outcome State Fault Refusal :=
  s.go (fun d => d.onRec (fun r => match r with | .join .. => true | _ => false) (fun d fdx p rx r =>
    match r with
    | .join n _ j =>
      let h := d.heldRx fdx n
      if !h.1 then h.2 else h.2.offer (6 + p) ⟨0, 64, .join j { attach := 7, fdx := some fdx, rx := rx, tag := n }⟩
    | _ => d))

/-- METER_STS_RX (R225): at the head end the context's ATTACH stays 7; the field device's is kept beside it. -/
def execMeterStsRx (s : State) : Host.Outcome State Fault Refusal :=
  s.go (fun d => d.onRec (fun r => match r with | .meterSts .. => true | _ => false) (fun d fdx _ _ r =>
    match r with
    | .meterSts n kind attach hops cost addr =>
      let h := d.heldRx fdx n
      if !h.1 then h.2
      else
        let d1 := h.2.noteFdPort fdx kind addr attach
        (match d1.lookup kind addr with
         | some m => d1.editCtx m (fun c => if c.owner = fdx then { c with attach := 7, hops := min 255 hops, linkCost := min 255 cost } else c)
         | none => d1)
    | _ => d))

/-- PORT_STS_RX (R161). -/
def execPortStsRx (s : State) : Host.Outcome State Fault Refusal :=
  s.go (fun d => d.onRec (fun r => match r with | .portSts _ => true | _ => false) (fun d fdx _ _ r =>
    match r with
    | .portSts ttx => d.setFd fdx { d.fd fdx with ttx := (List.range 6).map (fun i => clampNat 1 65535 (ttx.getD i 1000)) }
    | _ => d))

/-- CHECK_REC_RX (R49, R380). -/
def execCheckRecRx (s : State) : Host.Outcome State Fault Refusal :=
  s.go (fun d => d.onRec (fun r => match r with | .checkRec _ _ => true | _ => false) (fun d fdx _ _ r =>
    match r with
    | .checkRec n b =>
      let h := d.heldRx fdx n
      if !h.1 then h.2
      else if getLe b 4 2 % 16 ≠ 0 then h.2
      else h.2.nodeLogs (some fdx) (getLe b 6 1 % 4) (getLe b 0 4) ((List.range 3).map (fun k => signed 64 (getLe b (8 + 8 * k) 8)))
    | _ => d))

/-- The path of a forwarded frame is learned once the head end has it (R221). -/
def Dev.learnForwarded (d : Dev) (l : FlLearn) : Dev :=
  if (d.ctxAt l.mix).isSome then d.learnLine l.port l.mix l.path l.near l.cost else d

/-- DATA_ACK_RX (R490, R221): the paths of the frames that the head end reports as authenticated are learned; R489 has no record for
that report, so it comes with the acknowledgement (DESIGN CHOICE, log 133). -/
def execDataAckRx (s : State) : Host.Outcome State Fault Refusal :=
  s.go (fun d => d.onRec (fun r => match r with | .dataAck _ _ => true | _ => false) (fun d _ _ _ r =>
    match r with
    | .dataAck n auth =>
      let d1 := (d.fl.learns.filter (fun l => auth.contains l.dseq)).reverse.foldl Dev.learnForwarded d
      (({ d1 with fl := { d1.fl with learns := d1.fl.learns.filter (fun l => !auth.contains l.dseq) } } : Dev).freeHeld n).flPush
    | _ => d))

/-! ## Orders on a field device (R160, R161, R489, R490) -/

/-- A repeated ORDER_ID: answered from the store, or still in hand. -/
def Dev.orderKnown (d : Dev) (id : Nat) : Option Dev :=
  match d.fl.done.find? (fun e => e.1 = id) with
  | some e => some (d.flUp e.2)
  | none => if d.fl.taken.contains id then some d else none

/-- An order is in hand. -/
def Dev.orderTake (d : Dev) (id : Nat) : Dev := { d with fl := { d.fl with taken := id :: d.fl.taken } }

/-- The ports that broadcast an image block (R608): ON line ports, and ON radio ports that reach a relayed member. -/
def Dev.castPorts (d : Dev) : List Nat :=
  (List.range 6).filter (fun p => d.isOn p && (p < 2 || d.ctx.tab.any (fun e => e.2.port = some p && (d.flooded e.1 || (d.cals.getD e.1 {}).relayed))))

/-- An image order waits on every port that broadcasts it; the last one reports it. -/
def Dev.castOrder (d : Dev) (id due bytes : Nat) : Dev :=
  let ps := d.castPorts
  match ps.getLast? with
  | none => d.orderDone id 4 0 0 false
  | some l => ps.foldl (fun (x : Dev) p => x.enqueue { mix := 0, port := p, ask := .cast 0 0, bytes := bytes, due := some due
                                                       order := if p = l then some id else none, from_ := x.tim.mono }) (d.orderTake id)

/-- A heat order or an on-demand order waits on its meter's port. -/
def Dev.meterOrder (d : Dev) (id kind addr cls due bytes : Nat) (poll : Bool) : Dev :=
  match (d.lookup kind addr).bind (fun m => (d.ctxAt m).map (fun c => (m, c))) with
  | none => d.orderDone id 3 0 0 false
  | some (m, c) => match c.port with
    | none => d.orderDone id 3 0 0 false
    | some pk =>
      if 16 ≤ pk ∨ !d.isOn pk then d.orderDone id 4 0 0 (d.inPolling pk m)
      else
        let d1 := if poll && decide (pk < 2) then d.enterPolling pk m else d
        (d1.orderTake id).enqueue { mix := m, port := pk, ask := .order cls, sched := decide (cls = 0), bytes := bytes, due := some due, order := some id
                                    limit := if pk < 2 then 1 + d1.rd F.LCP_MAC_CFG_RETX pk else 1, slot := d1.slotted pk m, from_ := d1.tim.mono }

/-- ORDER_RX (R161). -/
def execOrderRx (s : State) : Host.Outcome State Fault Refusal :=
  s.go (fun d => d.onRec (fun r => match r with | .order .. => true | _ => false) (fun d _ _ _ r =>
    match r with
    | .order id kind addr cls due bytes poll =>
      (match d.orderKnown id with
       | some x => x
       | none => if cls = 2 then d.castOrder id due bytes else d.meterOrder id kind addr cls due bytes poll)
    | _ => d))

/-- ORDER_DEADLINE (R490): an order that has not started by its deadline. -/
def execOrderDeadline (order : Word) (s : State) : Host.Outcome State Fault Refusal :=
  s.go (fun d =>
    let id := order.toNat
    match d.sch.wait.find? (fun x => x.order = some id && x.due.isSome) with
    | none => d
    | some x =>
      if !d.serves then d
      else
        let d1 := d.toNs (x.due.getD 0)
        let d2 : Dev := { d1 with sch := { d1.sch with wait := d1.sch.wait.filter (fun y => !(y.order = some id && y.due.isSome)) } }
        d2.orderDone id 2 x.made 0 (d2.inPolling x.port x.mix))

/-- JOIN_OK_RX (R111). ADMIT_TIME of the context stays 0 (DESIGN CHOICE, log 118: the spec gives it no value on a field device). -/
def Dev.joinOk (d : Dev) (moves : List (Fin 4)) (id kind addr : Nat) : Dev :=
  let j := d.fl.joined.find? (fun e => e.2.kind = kind && e.2.addr = addr)
  let attach := match j with | some e => e.1 | none => 0
  let req : JoinReq := match j with | some e => e.2 | none => { kind := kind, addr := addr }
  let v : Via := { attach := attach }
  let finish := fun (x : Dev) (m : Nat) =>
    let y := (x.joinNet m { req with title := 0 } v).editCtx m (fun c => { c with attach := attach })
    ((y.emit (.joinAnswer attach kind addr 0 (match y.ctxAt m with | some c => c.short | none => 0))).joinElement m).orderDone id 0 0 0 false
  match d.lookup kind addr with
  | some m => (match d.ctxAt m with
    | some c => if c.owner = 0xFFFE then finish d m else d.orderDone id 0 0 0 false
    | none => d)
  | none =>
    if d.ctxLimit ≤ d.ctxUsed then d.orderDone id 3 0 0 false
    else if d.directFull then (d.bump F.CTX_ATTACH_REFUSED).orderDone id 3 0 0 false
    else
      let m := d.freeMix
      let r := d.indexPut moves kind addr m
      if !r.1 then r.2.orderDone id 3 0 0 false
      else
        let c : Ctx := { addr := addr, kind := kind, st := 3, owner := 0xFFFE, attach := attach, suite := 0, intLen := 0 }
        finish (r.2.putCtx m c) m

/-- JOIN_OK_RX (R111). -/
def execJoinOkRx (moves : List (Fin 4)) (s : State) : Host.Outcome State Fault Refusal :=
  s.go (fun d => d.onRec (fun r => match r with | .joinOk _ _ _ => true | _ => false) (fun d _ _ _ r =>
    match r with
    | .joinOk id kind addr => (match d.orderKnown id with | some x => x | none => d.joinOk moves id kind addr)
    | _ => d))

/-- RELEASE_RX (R113). -/
def execReleaseRx (s : State) : Host.Outcome State Fault Refusal :=
  s.go (fun d => d.onRec (fun r => match r with | .release _ _ _ => true | _ => false) (fun d _ _ _ r =>
    match r with
    | .release id kind addr =>
      (match d.orderKnown id with
       | some x => x
       | none => match d.lookup kind addr with
         | some m => (match d.ctxAt m with
           | some c => (if c.owner = 0xFFFE then d.freeCtx m else d).orderDone id 0 0 0 false
           | none => d.orderDone id 3 0 0 false)
         | none => d.orderDone id 3 0 0 false)
    | _ => d))

/-! ## Orders at the head end (R160, R161) -/

/-- IN_POLLING follows an ORDER_DONE; a POLL that found the meter out of polling ends the escalation (R160). -/
def Dev.orderPolling (d : Dev) (m : Nat) (polled polling : Bool) : Dev :=
  d.editCtx m (fun c =>
    let p := pollBit c.poll 1 polling
    { c with poll := if polled && !polling then pollBit (pollBit p 0 false) 1 false else p })

/-- No answer came: an on-demand transaction goes again as a new order, while attempts are left (R161). -/
def Dev.orderAgain (d : Dev) (pk : Nat) (x : Xfer) : Dev :=
  if !x.sched && decide (x.made < x.limit) then
    let d1 := (d.xferLeave pk false).unpin x.mix
    ({ d1 with sch := { d1.sch with wait := { x with order := none, started := none } :: d1.sch.wait } } : Dev).expedite x.mix
  else d.xferLost pk

/-- A member whose order was deferred (R161): DEFERRED, and counted in SCH_OVERRUN. After its heat's end the report settles it: its
failed-heat count stands (R159), and it is among those that go first in the next heat (DEDUCED, log 122). -/
def Dev.memberDeferred (d : Dev) (x : Xfer) : Dev :=
  let d1 := d.bump F.SCH_OVERRUN
  if !x.closed then (match d1.entry x.mix with | some e => d1.setEntry x.mix e 6 | none => d1)
  else match d1.ctxAt x.mix with
    | none => d1
    | some c =>
      let gs := d1.grpSch c.grp
      let d2 := d1.setGrpSch c.grp { gs with late := gs.late ++ [x.mix] }
      if (d2.entry x.mix).isSome then d2 else d2.editCtx x.mix (fun c => { c with heat := 0, nextDue := 0 })

/-- An order was deferred: the member is DEFERRED, descriptors fail by their deadline. -/
def Dev.orderDeferred (d : Dev) (pk : Nat) (x : Xfer) : Dev :=
  let d1 := d.xferLeave pk false
  let d2 := x.descs.foldl (fun (y : Dev) q => y.complete q.1 q.2 0xE x.made) d1
  let d3 := if x.heat then d2.memberDeferred x else d2
  (d3.unpin x.mix).ctxTry

/-- The order was answered by a frame: processed already, or on its way to step 5. -/
def Dev.orderAnswered (d : Dev) (pk fdx answer : Nat) (x : Xfer) : Dev :=
  match d.fl.answers.find? (fun a => a.fdx = fdx && a.dseq = answer) with
  | some a =>
    let d1 := ({ d with fl := { d.fl with answers := d.fl.answers.erase a } } : Dev).xferLeave pk false
    (match a.data with
     | some data => d1.xferDone x data a.ofs
     | none => d1.xferFail x 0x10 0)
  | none => (d.setCur pk { x with order := some answer }).xferLeave pk true

/-- ORDER_DONE_RX (R489). -/
def Dev.orderResult (d : Dev) (fdx id result answer : Nat) (polling : Bool) : Dev :=
  let pk := 16 + fdx
  let polled : Bool := match d.fl.orders.find? (fun o => o.num = id) with
    | some o => (match o.rec_ with | .order _ _ _ _ _ _ p => p | _ => false)
    | none => false
  let d1 : Dev := { d with fl := { d.fl with orders := d.fl.orders.filter (fun o => o.num ≠ id) } }
  match d1.curOf pk with
  | none => d1
  | some x =>
    if x.order ≠ some id then d1
    else match x.ask with
      | .cast g b => (d1.xferLeave pk false).castSent pk g b
      | _ =>
        let d2 := d1.orderPolling x.mix polled polling
        if result = 0 then d2.orderAnswered pk fdx answer x
        else if result = 2 then d2.orderDeferred pk x
        else d2.orderAgain pk x

/-- ORDER_DONE_RX (R489). -/
def execOrderDoneRx (s : State) : Host.Outcome State Fault Refusal :=
  s.go (fun d => d.onRec (fun r => match r with | .orderDone .. => true | _ => false) (fun d fdx _ _ r =>
    match r with
    | .orderDone n id result _ answer polling =>
      let h := d.heldRx fdx n
      if h.1 then h.2.orderResult fdx id result answer polling else h.2
    | _ => d))

/-! ## Time over the field link (R442) -/

/-- TIME_RECORD_RX (R442): it carries the transmit time of the message before it. -/
def Dev.timeRec (d : Dev) (rx : Nat) (hold : Bool) (tseq : Nat) (prev : Int) : Dev :=
  let raw : Option Int := match d.tim.flT1 with
    | some (n, r) => if (n + 1) % 2 ^ 32 = tseq then some (r - prev) else none
    | none => none
  let n := d.tim.flMsgs + 1
  let d1 : Dev := { d with tim := { d.tim with
    headHold := hold, flMissRun := 0, flMsgs := n, flT1 := some (tseq, (rx : Int)), flRaw := raw.or d.tim.flRaw
    flDue := some (d.tim.mono + d.rd F.TIM_FL_CFG_PERIOD * 500000000) } }
  let d2 := match raw, d1.tim.flDelay with
    | some r, some dl => d1.measure 2 (r - dl)
    | _, _ => d1
  if n % (max 1 (d2.rd F.TIM_FL_CFG_DELAY_N)) = 0 then
    let i := (d2.fl.dreq + 1) % 2 ^ 32
    ({ d2 with fl := { d2.fl with dreq := i } } : Dev).flUp (.delayReq i)
  else d2

/-- TIME_RECORD_RX (R442). -/
def execTimeRecordRx (s : State) : Host.Outcome State Fault Refusal :=
  s.go (fun d => d.onRec (fun r => match r with | .time .. => true | _ => false) (fun d _ _ rx r =>
    match r with
    | .time hold _ tseq prev => d.timeRec rx hold tseq prev
    | _ => d))

/-- DELAY_REQ_RX (R442). -/
def execDelayReqRx (s : State) : Host.Outcome State Fault Refusal :=
  s.go (fun d => d.onRec (fun r => match r with | .delayReq _ => true | _ => false) (fun d fdx _ rx r =>
    match r with
    | .delayReq i => d.flSend fdx (.delayRsp i rx)
    | _ => d))

/-- DELAY_RSP_RX (R442): the mean path delay of the end-to-end mechanism. -/
def execDelayRspRx (s : State) : Host.Outcome State Fault Refusal :=
  s.go (fun d => d.onRec (fun r => match r with | .delayRsp _ _ => true | _ => false) (fun d _ _ _ r =>
    match r with
    | .delayRsp i rx =>
      (match d.tim.flT3, d.tim.flRaw with
       | some (n, t3), some raw => if n = i then { d with tim := { d.tim with flT3 := none, flDelay := some ((raw + ((rx : Int) - t3)) / 2) } } else d
       | _, _ => d)
    | _ => d))

/-- FL_TIME_SEND (R442). -/
def execFlTimeSend (fdx : Fin 1024) (s : State) : Host.Outcome State Fault Refusal :=
  s.go (fun d =>
    if d.serves && d.isHead && decide ((d.fd fdx).st = 2) then
      let d1 := d.toMono (d.fd fdx).timeDue
      let x := d1.fd fdx
      let n := (x.tseq + 1) % 2 ^ 32
      (d1.setFd fdx { x with tseq := n, timeDue := max d1.tim.mono x.timeDue + d1.rd F.TIM_FL_CFG_PERIOD * 500000000 }).flSend fdx
        (.time d1.tim.holdSince.isSome d1.timeValid n x.timeTx)
    else d)

/-- FL_TIME_MISS (R442, R435). -/
def execFlTimeMiss (s : State) : Host.Outcome State Fault Refusal :=
  s.go (fun d => match d.tim.flDue with
    | none => d
    | some t =>
      if !d.live || !d.isField then d
      else
        let d1 := (d.toMono (t + 50000000)).bump F.TIM_FL_MISS
        let n := d1.tim.flMissRun + 1
        let d2 : Dev := { d1 with tim := { d1.tim with flMissRun := n, flDue := some (t + d1.rd F.TIM_FL_CFG_PERIOD * 500000000) } }
        if n = 3 then d2.sourceLost 2 else d2)

/-! ## Timers (R490 to R494, R548) -/

/-- HB_MS in cycles: a field device takes its head end's. -/
def Dev.hbCycles (d : Dev) : Nat := msC (if d.isField ∧ d.fl.hbMs ≠ 0 then d.fl.hbMs else d.rd F.FL_TIMER_HB_MS)

/-- The link with a field device, or with the head end, is mustered. -/
def Dev.flMustered (d : Dev) (fdx : Nat) : Bool :=
  d.serves && decide (d.fl.mode ≠ 0) && (if d.isField then d.fl.st = 3 && fdx = d.ownFdx else (d.fd fdx).st = 2)

/-- FL_HEARTBEAT_SEND (R491). -/
def execFlHeartbeatSend (fdx : Fin 1024) (s : State) : Host.Outcome State Fault Refusal :=
  s.go (fun d =>
    if d.flMustered fdx then ((d.toMono ((d.flEnd fdx).sentAt + d.hbCycles)).musterSend 64).flSend fdx .heartbeat else d)

/-- Ports that may carry the link: named in PORTS, with LINK. -/
def Dev.flPorts (d : Dev) : List Nat := (List.range 4).filter (fun p => bitAt (d.rd F.FL_CFG_PORTS) p && d.linkUp p)

/-- The field device takes a port and musters on it; HELLOs that went unanswered on the port before count on (R492). -/
def Dev.flTake (d : Dev) (p : Nat) : Dev :=
  ({ d with fl := { d.fl with port := p, tries := if d.fl.st = 2 then d.fl.tries else 0, link := { d.fl.link with heardAt := d.tim.mono } } } : Dev).sendHello

/-- The field device starts its link on the first port that may carry it (R491). -/
def Dev.flStart (d : Dev) : Dev :=
  if !d.isField || d.fl.mode = 0 || !d.serves || !(d.fl.st = 0 || d.fl.st = 4) then d
  else match d.flPorts.head? with
    | some p => d.flTake p
    | none => d

/-- FL_LINK_LOST (R491): the next port after the active one, in a ring; without any the link is lost. A muster that is not answered changes
to another port the same way, and goes on where there is no other (DEDUCED, log 142). -/
def execFlLinkLost (s : State) : Host.Outcome State Fault Refusal :=
  s.go (fun d =>
    if d.serves && d.isField && decide (1 ≤ d.fl.st ∧ d.fl.st ≤ 3) then
      let d1 := d.toMono (d.fl.link.heardAt + 3 * d.hbCycles)
      let ps := d1.flPorts
      match (ps.find? (fun p => d1.fl.port < p)).or ps.head? with
      | some p => if d1.fl.st ≠ 3 ∧ p = d1.fl.port then d1 else d1.flTake p
      | none => { d1 with fl := { d1.fl with st := 4 } }
    else d)

/-- ETH_LINK_UP (R480): the link of a port returns; a field device without an active port musters. -/
def execEthLinkUp (port : Fin 4) (speed : Fin 3) (s : State) : Host.Outcome State Fault Refusal :=
  s.go (fun d =>
    if d.epOn port && !d.on F.ETH_STS_LINK port then
      let d1 := (d.wrb F.ETH_STS_LINK port true).wr F.ETH_STS_SPEED port (if d.rd F.ETH_CFG_RATE port = 3 then speed else 3)
      (d1.setEp port { d1.ep port with linkAt := some d1.tim.mono }).flStart
    else d)

/-- A field device lost during the hold of a drill's SWAP step fails it (R552). -/
def Dev.drillFd (d : Dev) : Dev :=
  match d.par.drill with
  | some x => if x.holdFrom.isSome then { d with par := { d.par with drill := some { x with fdLost := true } } } else d
  | none => d

/-- FDX_LOST (R494). -/
def execFdxLost (fdx : Fin 1024) (s : State) : Host.Outcome State Fault Refusal :=
  s.go (fun d =>
    if d.isHead && d.flMustered fdx then
      let d1 := d.toMono ((d.fd fdx).link.heardAt + 3 * d.hbCycles)
      (d1.setFd fdx { d1.fd fdx with st := 3 }).drillFd.recordPost 0 0x0701 1 7 (tgtFdx fdx) 0 fdx
    else d)

/-- The record that was sent longest ago and waits for its end. -/
def oldestSent (l : List FlHeld) : Option FlHeld :=
  l.foldl (fun (b : Option FlHeld) h => match b, h.sentAt with
    | _, none => b
    | none, some _ => some h
    | some x, some t => if t < x.sentAt.getD 0 then some h else b) none

/-- FL_RTO_EXPIRY (R490): the held record, or the order, that was sent longest ago goes again. -/
def execFlRtoExpiry (s : State) : Host.Outcome State Fault Refusal :=
  s.go (fun d =>
    let rto := d.rd F.FL_TIMER_RTO * 5000000
    let stamp := fun (x : Dev) (h : FlHeld) (l : List FlHeld) => l.map (fun y => if y = h then { y with sentAt := some x.tim.mono } else y)
    if !d.serves then d
    else if d.isField then
      (match oldestSent d.fl.held with
       | some h =>
         if !d.flIsUp then d
         else
           let d1 := d.toMono (h.sentAt.getD 0 + rto)
           d1.flSend d1.ownFdx h.rec_ true |> fun x => { x with fl := { x.fl with held := stamp x h x.fl.held } }
       | none => d)
    else
      (match oldestSent (d.fl.orders.filter (fun o => (d.fd o.fdx).st = 2)) with
       | some h =>
         let d1 := d.toMono (h.sentAt.getD 0 + rto)
         d1.flSend h.fdx h.rec_ true |> fun x => { x with fl := { x.fl with orders := stamp x h x.fl.orders } }
       | none => d))

/-- DATA_ACK_DUE (R490). -/
def execDataAckDue (fdx : Fin 1024) (s : State) : Host.Outcome State Fault Refusal :=
  s.go (fun d => match (d.fd fdx).ackFrom with
    | some t => if d.serves && d.isHead then (d.toMono (t + 25000000)).dataAck fdx else d
    | none => d)

/-- HELLO_RESEND (R492): HELLO_K every 10 s, HELLO every 2 s; a HELLO unanswered three times starts without a key. -/
def execHelloResend (s : State) : Host.Outcome State Fault Refusal :=
  s.go (fun d =>
    if !d.serves || !d.isField then d
    else if d.fl.st = 1 then (d.toMono (d.fl.helloAt + 5000000000)).sendHelloK
    else if d.fl.st = 2 then
      let d1 := d.toMono (d.fl.helloAt + 1000000000)
      if 3 ≤ d1.fl.tries then d1.sendHelloK else d1.sendHello
    else d)

/-- PORT_STS_SEND (R489). -/
def execPortStsSend (s : State) : Host.Outcome State Fault Refusal :=
  s.go (fun d =>
    if d.serves && d.isField && d.flIsUp then
      let d1 := d.toMono (d.fl.stsAt + 30000000000)
      ({ d1 with fl := { d1.fl with stsAt := d1.tim.mono } } : Dev).flUp (.portSts ((List.range 6).map (fun p => d1.rd F.SCH_PORT_STS_TTX p)))
    else d)

/-- FL_CODE_VOID (R492). -/
def execFlCodeVoid (s : State) : Host.Outcome State Fault Refusal :=
  s.go (fun d => match d.fl.codeAt with
    | some t =>
      if d.live then
        let d1 := d.toMono (t + d.rd F.FL_TIMER_CODE_HOURS * 1800000000000)
        { d1 with fl := { d1.fl with codeAt := none, code := [0, 0, 0, 0] } }
      else d
    | none => d)

/-- FL_PORT_FAILBACK (R548): the first preceding port whose link has held for 10 s becomes the active one. -/
def execFlPortFailback (s : State) : Host.Outcome State Fault Refusal :=
  s.go (fun d =>
    if !d.serves || !d.isField || d.fl.mode = 0 || d.fl.st = 0 then d
    else match (d.flPorts.filter (fun p => p < d.fl.port)).head? with
      | some p => (match (d.ep p).linkAt with
        | some t => (d.toMono (t + 5000000000)).flTake p
        | none => d)
      | none => d)

end Sys2Proof.Machine
end

