-- ==== Sys2Proof/Machine/Ledger.lean ====
section
/-! DEFINITION. Sys2Proof/Machine/Ledger.lean: READ_LOG and the commands of the Ledger (R322, R324, R332 to R334, R339, R341, R352,
R355). -/

namespace Sys2Proof.Machine

/-! ## READ_LOG (R332, R333) -/

/-- The output record of an INTERVAL entry (R333). -/
def LogEnt.outRec (m : Nat) (e : LogEnt) : List Byte :=
  layBytes [(4, m % 2 ^ 20), (4, e.seq), (4, e.start), (1, e.intLen), (1, e.cls), (2, e.vee), (4, e.value), (4, 0),
    (8, e.reg.getD 0xFFFFFFFFFFFFFFFF), (1, e.book.getD 0), (1, e.aux), (2, e.balNode), (4, unsigned 32 e.clockOfs), (8, e.rxTime)]
    ++ e.hash.take 16

/-- History may have released the entry (R515): READ_LOG returns entries still held. -/
def Dev.entryHeld (d : Dev) (m : Nat) (e : LogEnt) : Bool :=
  match d.ctxAt m with
  | some c => c.logNand ≤ e.seq || d.ftl.histOldest ≤ e.start
  | none => false

/-- The requested span of a meter (R332): entries taken before a held one and up to a count; whether further ones qualify. -/
def spanOf : Nat → List LogEnt → List LogEnt × Bool
  | _, [] => ([], false)
  | 0, _ :: _ => ([], true)
  | n + 1, e :: t => if e.book.isNone then ([], true) else ((e :: (spanOf n t).1), (spanOf n t).2)

/-- The FRAME entries that an entry names, by rising SEQ (R328, R329). -/
def framesOf (log : List LogEnt) (e : LogEnt) : List LogEnt :=
  match log.find? (fun f => f.typ = 2 && f.seq = e.ref) with
  | some f => (log.filter (fun g => g.typ = 2 && e.ref ≤ g.seq && g.seq ≤ e.ref + f.ref)).reverse
  | none => []

/-- The entries of the second view: each FRAME before the first INTERVAL that names it. -/
def withFrames (log : List LogEnt) : List Nat → List LogEnt → List LogEnt
  | _, [] => []
  | seen, e :: t =>
    if e.cls = 1 && !seen.contains e.ref then framesOf log e ++ e :: withFrames log (e.ref :: seen) t
    else e :: withFrames log seen t

/-- What READ_LOG returns of a meter: records, and whether further ones qualify. -/
def Dev.logOf (d : Dev) (from_ cnt : Nat) (view : Bool) (m : Nat) : List (List Byte) × Bool :=
  let log := (d.ldgM m).log.filter (d.entryHeld m)
  let q := (log.filter (fun e => e.isInt && from_ ≤ e.start * 1000000000)).reverse
  let r := spanOf cnt q
  (if view then (withFrames log [] r.1).map LogEnt.bytes else r.1.map (LogEnt.outRec m), r.2)

/-- Whole records that fit a buffer, and whether some did not. -/
def fitting : Nat → List (List Byte) → List (List Byte) × Bool
  | _, [] => ([], false)
  | room, r :: t => if r.length ≤ room then (r :: (fitting (room - r.length) t).1, (fitting (room - r.length) t).2) else ([], true)

/-- READ_LOG (R332). -/
def Dev.readLog (d : Dev) (p : Nat) (h : Held) : Dev :=
  let run := fun (ms : List Nat) =>
    let rs := ms.map (d.logOf (h.desc.quad 6) (count4096 (h.desc.word 8)) (bitAt (h.desc.word 9) 0))
    let f := fitting (bufLen h.desc) (rs.flatMap (·.1))
    let more := f.2 || rs.any (·.2)
    (if f.1.isEmpty then d else d.writeBuf h.desc f.1.flatten).complete p h.id 0 0 [f.1.length, b2n more]
  if tKind h.desc = 1 then d.withCtx p h (fun m _ => run [m]) else run (d.members (tGrp h.desc) Ctx.owned)

/-- READ_LOG (R332). -/
def execReadLog (pair : Fin 64) (s : State) : Host.Outcome State Fault Refusal :=
  s.go (fun d => d.onDesc pair 0x21 (fun d h => d.readLog pair h))

/-! ## Times of the Ledger -/

/-- The Ledger runs: live, and not bow (R352). -/
def Dev.ldgRuns (d : Dev) : Bool := d.live && !d.isBow

/-- GAP_FILL (R324): the earliest run of a meter that falls due. -/
def execGapFill (mix : BitVec 20) (s : State) : Host.Outcome State Fault Refusal :=
  s.go (fun d =>
    match (sortBy (fun r => r.2.2) (d.fillable mix.toNat)).head? with
    | some r => if d.ldgRuns then (d.toNs (r.2.2 * 1000000000)).fillRun mix.toNat r.1 r.2.1 else d
    | none => d)

/-- VEE_FLAGS_CLEAR (R322): at the next 00:00 UTC. -/
def execVeeFlagsClear (s : State) : Host.Outcome State Fault Refusal :=
  s.go (fun d =>
    if d.ldgRuns then
      let d1 := d.toNs ((d.nowNs / 86400000000000 + 1) * 86400000000000)
      d1.ctx.tab.foldl (fun (x : Dev) e => if e.2.vee = 0 then x else x.editCtx e.1 (fun c => { c with vee := 0 })) d1
    else d)

/-- INTERVAL_EVENT_WINDOW (R334): the open 60 s window of the monotonic count ends. -/
def execIntervalEventWindow (s : State) : Host.Outcome State Fault Refusal :=
  s.go (fun d =>
    if d.ldgRuns then
      let from_ := if d.ldg.winMixes.isEmpty then d.tim.mono else d.ldg.winFrom
      let d1 := d.toMono ((from_ / 30000000000 + 1) * 30000000000)
      if d1.ldg.winMixes.isEmpty then d1
      else
        ({ d1 with ldg := { d1.ldg with winEnd := 0, winMixes := [] } } : Dev).post 1 0x0A01 0 0xA 0 d1.ldg.winEnd d1.ldg.winMixes.length
    else d)

/-! ## Balance (R339, R341, R352) -/

/-- Hours of BAL_LAG, s. -/
def Dev.balLag (d : Dev) : Nat := d.rd F.LDG_BAL_CFG_BAL_LAG * 3600

/-- The end of the next balance interval to handle, s: after the latest one handled; at first the next that falls due. -/
def Dev.balNext (d : Dev) : Nat :=
  if d.ldg.balTo = 0 then ceilDiv (d.nowNs / 1000000000 - d.balLag) 900 * 900 else d.ldg.balTo + 900

/-- BALANCE_FORM (R339): BAL_LAG after its end, an interval is formed for every node. -/
def execBalanceForm (s : State) : Host.Outcome State Fault Refusal :=
  s.go (fun d =>
    if d.ldgRuns then
      let b := d.balNext
      let d1 := d.toNs ((b + d.balLag) * 1000000000)
      let d2 : Dev := { d1 with ldg := { d1.ldg with balTo := b } }
      if d2.on F.LDG_BAL_CFG_EN then d2.ldg.nodes.keys.foldl (fun (x : Dev) n => x.formRow n b) d2 else d2
    else d)

/-- The day of the next evaluation: today's while it lies ahead and has not run, else tomorrow's (R341). -/
def Dev.evalNext (d : Dev) : Nat :=
  let now := d.nowNs / 1000000000
  let t := now / 86400
  let day := if now ≤ t * 86400 + d.balLag then t else t + 1
  max day (d.ldg.evalDay + 1)

/-- LEDGER_EVALUATION (R341, R352): a bow evaluates nothing; during a recomputation the evaluation waits for its end. -/
def execLedgerEvaluation (s : State) : Host.Outcome State Fault Refusal :=
  s.go (fun d =>
    if d.live then
      let day := d.evalNext
      let d1 := d.toNs ((day * 86400 + d.balLag) * 1000000000)
      if d1.isBow then { d1 with ldg := { d1.ldg with evalDay := day } }
      else if d1.ldg.recompute then { d1 with ldg := { d1.ldg with evalDay := day, missed := true } }
      else d1.evaluate day
    else d)

/-- LEDGER_RECOMPUTE_DONE (R352): the state follows the logs again; a missed evaluation runs. -/
def execLedgerRecomputeDone (s : State) : Host.Outcome State Fault Refusal :=
  s.go (fun d =>
    if d.ldgRuns && d.ldg.recompute then
      let d1 : Dev := { d with ldg := { d.ldg with recompute := false } }
      let now := d1.nowNs / 1000000000
      let due := if now / 86400 * 86400 + d1.balLag ≤ now then now / 86400 else now / 86400 - 1
      if d1.ldg.missed || (decide (0 < d1.ldg.evalDay) && decide (d1.ldg.evalDay < due)) then d1.evaluate (max due d1.ldg.evalDay) else d1
    else d)

/-! ## The node window (R355) -/

/-- STATE of a node. -/
def Dev.nodeState (d : Dev) (n : Nat) : Nat :=
  if !d.on F.LDG_NODE_W0_VALID n then 0 else if !d.hasSource n then 4 else (d.node n).st

/-- Words 8 to 31 of a node. -/
def Dev.nodeWords (d : Dev) (n : Nat) : List Nat :=
  let x := d.node n
  let one := fun (k : Nat) => [unsigned 32 (x.means.getD k 0), unsigned 32 (x.lbs.getD k 0)]
  let top := (List.range 4).flatMap (fun i => match x.top[i]? with
    | some t => [2 ^ 31 + t.1 % 2 ^ 20, unsigned 32 t.2]
    | none => [0, 0])
  [d.nodeState n * 2 ^ 28 + (x.lossK % 16) * 2 ^ 24 + (min 255 x.days) * 2 ^ 16 + (min 255 x.cover) * 256,
   unsigned 32 (nearest (d.f0Of n * 1000000))] ++ one 0 ++ one 1 ++ one 2 ++ one 3
    ++ [x.lastEnd, b2n x.attrOff * 2 ^ 20 + (d.nodeMembers n).length % 2 ^ 20] ++ top ++ [0, 0, 0, 0]

/-- NODE_DATA_SNAPSHOT_READ (R355): a read of word 8 of LDG_NODE_DATA. -/
def execNodeDataSnapshotRead (s : State) : Host.Outcome State Fault Refusal :=
  s.go (fun d =>
    if d.live then
      let ws := d.nodeWords (d.rd F.LDG_NODE_SEL_NODE)
      ({ d with ldg := { d.ldg with nodeCopy := ws.map (BitVec.ofNat 32) } } : Dev).emit (.readData (ws.getD 0 0))
    else d)

end Sys2Proof.Machine
end

