-- ==== Sys2Proof/Machine/Metrology.lean ====
section
/-! DEFINITION. Sys2Proof/Machine/Metrology.lean: the commands of the Catch chain (R359, R368 to R373, R377 to R380, R391). -/

namespace Sys2Proof.Machine

/-- The grade has the channel (R361). -/
def Dev.hasCh (d : Dev) (ch : Nat) : Bool := d.live && !fixAbsent d.grade (19 + ch)

/-- A channel that a check meter holds waits for the other five to reach its index. -/
def Dev.chMayRun (d : Dev) (ch : Nat) : Bool :=
  match d.cmHolder ch with
  | none => true
  | some k =>
    let own := match (d.mch ch).idx with | some i => i + 1 | none => 0
    (d.cmChans k).all (fun c => decide (own ≤ (match (d.mch c).idx with | some i => i + 1 | none => 0)))

/-- MET_CH_OUTPUT (R368): the output, and the check meter's sample once all six channels have theirs. An external channel has none while its
modulator's clock is not driven (R359, DEDUCED, log 136). -/
def execMetChOutput (ch : Fin 24) (bits : Nat) (overload : Bool) (s : State) : Host.Outcome State Fault Refusal :=
  s.go (fun d =>
    if d.hasCh ch && d.isOn (19 + ch) && d.chMayRun ch && (decide (ch.val < 12) || d.on F.MET_CFG_BSCLK_EN) then
      let d1 := d.chOutput ch bits overload
      match d1.cmHolder ch with
      | some k => if d1.isOn (14 + k) && d1.cmAligned k then d1.cmSample k else d1
      | none => d1
    else d)

/-- SWAP_ARM (R372, R373): a write of MET_CH_SWAP_CTL. -/
def execSwapArm (ch : Fin 24) (val : Word) (s : State) : Host.Outcome State Fault Refusal :=
  s.go (fun d =>
    if d.hasCh ch then
      let d1 := d.plainWrite (F.MET_CH_SWAP_CTL_ARM.at ch) val.toNat
      let x := d1.mch ch
      if d1.on F.MET_CH_SWAP_CTL_ARM ch then
        let at_ := d1.rd F.MET_CH_SWAP_AT_LO_AT ch + 2 ^ 32 * d1.rd F.MET_CH_SWAP_AT_HI_AT ch
        let d2 := d1.setMch ch { x with armed := some (at_, d1.on F.MET_CH_SWAP_CTL_BANK ch) }
        let late : Bool := match x.idx with | some i => decide (at_ ≤ i) | none => false
        if late then d2.wrb F.MET_CH_STS_LATE ch true else d2
      else d1.setMch ch { x with armed := none }
    else d)

/-- A write of MET_CH_TRIM or MET_CH_GAIN (R370): the register shows the value in force, and a pending value waits apart. -/
def Dev.trimGain (d : Dev) (ch : Nat) (gain : Bool) (val : Nat) : Dev :=
  let off := if gain then F.MET_CH_GAIN_GAIN.at ch else F.MET_CH_TRIM_COARSE.at ch
  if d.isOff (19 + ch) then
    let x := d.mch ch
    let y : MetCh := if gain then { x with pendGain := none } else { x with pendTrim := none }
    ((d.plainWrite off val).setMch ch y).wrb F.MET_CH_STS_PENDING ch (y.pendGain.isSome || y.pendTrim.isSome)
  else match findReg off with
    | none => d
    | some (r, i) =>
      let w := d.nextWord r i off val
      let x := d.mch ch
      (d.setMch ch (if gain then { x with pendGain := some w } else { x with pendTrim := some w })).wrb F.MET_CH_STS_PENDING ch true

/-- MET_TRIM_GAIN_WRITE (R370). -/
def execMetTrimGainWrite (ch : Fin 24) (gain : Bool) (val : Word) (s : State) : Host.Outcome State Fault Refusal :=
  s.go (fun d => if d.hasCh ch then d.trimGain ch gain val.toNat else d)

/-- BANK_ACTIVE_WRITE (R371): a write to the bank in use is ignored. -/
def execBankActiveWrite (ch : Fin 24) (_word : Fin 97) (_val : Word) (s : State) : Host.Outcome State Fault Refusal :=
  s.go (fun d => if d.hasCh ch then d.wrb F.MET_CH_STS_ACT_WR ch true else d)

/-- BITSTREAM_STUCK (R359): 256 clocks without a transition on an external channel. -/
def execBitstreamStuck (ch : Fin 24) (s : State) : Host.Outcome State Fault Refusal :=
  s.go (fun d =>
    if d.hasCh ch && decide (12 ≤ ch.val) && d.isOn (19 + ch) && d.on F.MET_CFG_BSCLK_EN && !d.on F.MET_CH_STS_STUCK ch then
      (d.wrb F.MET_CH_STS_STUCK ch true).fault 0x0F1D 9 1 ch
    else d)

/-- BITSTREAM_RECOVER (R359). -/
def execBitstreamRecover (ch : Fin 24) (s : State) : Host.Outcome State Fault Refusal :=
  s.go (fun d => if d.hasCh ch && d.on F.MET_CH_STS_STUCK ch then d.wrb F.MET_CH_STS_STUCK ch false else d)

/-- The nearest integer to a square root. -/
def rootNear (q : Rat) : Nat := (isqrt (q * 4).floor.toNat + 1) / 2

/-- Mains frequency in mHz from a second's crossings; with fewer than two the spec states none: a free value. -/
def freqOf (free : Nat) (cross : List Rat) : Nat :=
  match cross.head?, cross.getLast? with
  | some a, some b => if a ≤ b then (Config.free32 free).toNat % 2 ^ 20 else (nearest ((cross.length - 1 : Nat) * 1000000000000 / (a - b))).toNat % 2 ^ 20
  | _, _ => (Config.free32 free).toNat % 2 ^ 20

/-- The measurements of a second (R377): 10 mV, mA, W and mHz, to the nearest. -/
def Dev.cmSecond (d : Dev) (k : Nat) (a : CmSec) : Dev :=
  let n : Rat := (max 1 a.n : Nat)
  let g := fun (l : List Rat) (j : Nat) => l.getD j 0 / n
  let d1 := (List.range 3).foldl (fun (y : Dev) j =>
    ((y.setWord (F.MET_CM_VRMS1_V_RMS1_to_3.at k + 4 * j) (rootNear (g a.v2 j * 10000))).setWord (F.MET_CM_IRMS1_I_RMS1_to_3.at k + 4 * j)
      (rootNear (g a.i2 j * 1000000))).setWord (F.MET_CM_P1_P1_to_P3.at k + 4 * j) (unsigned 32 (nearest (g a.p j)))) d
  let d2 := d1.wr F.MET_CM_STS_FREQ k (freqOf d1.freeCtr a.cross)
  let x := d2.mcm k
  { (d2.setMcm k { x with secs := x.secs.filter (fun b => b.sec ≠ a.sec) }) with freeCtr := d2.freeCtr + 1 }

/-- CM_SECOND (R377): the oldest whole second of stamps. -/
def execCmSecond (cm : Fin 4) (s : State) : Host.Outcome State Fault Refusal :=
  s.go (fun d =>
    match (d.mcm cm).secs.head? with
    | some a => if d.live && d.isOn (14 + cm) && decide ((a.sec + 1) * 1000000000 ≤ (d.mcm cm).at_) then d.cmSecond cm a else d
    | none => d)

/-- CM_INTERVAL_CLOSE (R378): the oldest interval, once a sample stamped after its end has been computed. -/
def execCmIntervalClose (cm : Fin 4) (s : State) : Host.Outcome State Fault Refusal :=
  s.go (fun d =>
    match (d.mcm cm).accs.head? with
    | some a => if d.live && d.isOn (14 + cm) && decide ((a.start + 900) * 1000000000 ≤ (d.mcm cm).at_) then d.cmClose cm a else d
    | none => d)

/-- MET_SAMPLE_SNAPSHOT_READ (R368). -/
def execMetSampleSnapshotRead (ch : Fin 24) (s : State) : Host.Outcome State Fault Refusal :=
  s.go (fun d =>
    if d.hasCh ch then
      let x := d.mch ch
      (d.setMch ch { x with copyIdx := x.idx.getD 0, copyStamp := x.stamp }).emit (.readData (x.idx.getD 0 % 2 ^ 32))
    else d)

/-- CM_LAST_SNAPSHOT_READ (R391). -/
def execCmLastSnapshotRead (cm : Fin 4) (s : State) : Host.Outcome State Fault Refusal :=
  s.go (fun d =>
    if d.live && !fixAbsent d.grade (14 + cm) then
      let x := d.mcm cm
      (d.setMcm cm { x with copy := x.last }).emit (.readData (getLe x.last 0 4))
    else d)

end Sys2Proof.Machine
end

