-- ==== Sys2Proof/Machine/Update.lean ====
section
/-! DEFINITION. Sys2Proof/Machine/Update.lean: the device's own firmware: staging, activation with a pause, hitless activation, recovery
(R589 to R603). -/

namespace Sys2Proof.Machine

/-! ## The package (R589) -/

/-- COX_LEN of a package. -/
def pkgCox (b : List Byte) : Nat := getLe b 0x0C 4

/-- The length L of a package. -/
def pkgLen (b : List Byte) : Nat := 256 + pkgCox b + 524288 + 96

/-- COX_LEN is within its range. -/
def pkgCoxOk (b : List Byte) : Bool := decide (1 ≤ pkgCox b ∧ pkgCox b ≤ 4193952)

/-- The package without its signature, as far as it is there. -/
def pkgBody (b : List Byte) : List Byte := b.take (pkgLen b - 96)

/-- CRC-32 of the body with the CRC field counted as 0. -/
def pkgCrc (b : List Byte) : Nat :=
  let x := pkgBody b
  crc32 (x.take 0x18 ++ [0, 0, 0, 0] ++ x.drop 0x1C)

/-- Its header is valid. -/
def pkgValid (b : List Byte) : Bool :=
  decide (getLe b 0 4 = 0x4B50444E) && decide (getLe b 4 2 = 1) && pkgCoxOk b && decide (getLe b 0x10 4 = 524288)

/-- A whole package as the loader reads it from the regions (R590). -/
def pkgInfo (b : List Byte) : FwInfo :=
  let s := getLe b 6 1
  { valid := pkgValid b
    sigOk := decide (s ≤ 3) && decide (b.length = pkgLen b) && Config.signatureGood s (pkgBody b) (slice b (pkgLen b - 96) 96)
    signer := s, version := getLe b 8 4, pairFmt := getLe b 0x14 2
    cfgFmt := (List.range 21).map (fun i => getLe b (0x1C + i) 1)
    check := sha256 (slice b (256 + pkgCox b) 524288)
    dImg := sha384 (slice b 256 (pkgCox b + 524288)) }

/-! ## Refusal (R592) -/

/-- The refusal states that hold, as UPD_STS.REFUSE. -/
def Dev.updRefuse (d : Dev) : Nat :=
  b2n (d.on F.UPD_CFG_OWNER_LOCK) + 2 * b2n (d.on F.PWR_SUP_STS_HOLD_LOW)
    + 4 * b2n (d.on F.TAR_STS_CLOSING || (d.par.en && d.par.peer.closing))
    + 8 * b2n (d.on F.SEC_STS_TAMPER_LATCH || (d.par.en && d.par.peer.tamper)) + 16 * b2n (d.par.en && !d.peerHealthy)

/-- No state holds for which an activation waits before a reset. -/
def Dev.updMayReset (d : Dev) : Bool := !bitAt d.updRefuse 1 && !bitAt d.updRefuse 2

/-- An activation runs. -/
def Dev.activating (d : Dev) : Bool := d.upd.st ≠ 0 || d.upd.install || d.upd.hostOk

/-! ## FW_WRITE (R591) -/

/-- Bytes that the staged package may hold: L once its COX_LEN is there, and never more than the largest package. -/
def stageCap (b : List Byte) : Nat := if b.length < 16 then 4718592 else min 4718592 (pkgLen b)

/-- FW_WRITE, its buffer read. -/
def Dev.fwWrite (d : Dev) (p : Nat) (h : Held) (bs : List Byte) : Dev :=
  let w := h.desc.word 6
  let old := if w = 0 then [] else d.upd.staged
  if d.on F.UPD_CFG_OWNER_LOCK then d.complete p h.id 0x13 1
  else if d.activating then d.complete p h.id 8 0
  else if w ≠ old.length ∨ (w ≠ 0 ∧ stageCap old ≤ w) then d.complete p h.id 4 24
  else
    let all := old ++ bs
    let new := all.take (stageCap all)
    ({ d with upd := { d.upd with staged := new } } : Dev).complete p h.id 0 0 [new.length - old.length]

/-- FW_WRITE (R591). -/
def execFwWrite (pair : Fin 64) (buf : HostRead) (s : State) : Host.Outcome State Fault Refusal :=
  s.go (fun d => d.onDescRead pair 0x58 buf (fun d h bs => d.fwWrite pair h bs))

/-! ## FW_ACTIVATE (R593, R595, R598) -/

/-- The first check of R593 that the staged package fails. -/
def Dev.pkgFault (d : Dev) (hitless : Bool) : Option Nat :=
  let b := d.upd.staged
  if b.isEmpty then some 12
  else if getLe b 0 4 ≠ 0x4B50444E then some 0
  else if getLe b 4 2 ≠ 1 then some 4
  else if b.length ≠ pkgLen b ∨ ¬ pkgCoxOk b then some 12
  else if getLe b 0x10 4 ≠ 524288 then some 16
  else if pkgCrc b ≠ getLe b 0x18 4 then some 24
  else if getLe b 6 1 ≠ d.rd F.SEC_STS_SIGNER ∧ ¬ d.on F.UPD_CFG_SIGNER_CHG then some 6
  else if hitless && decide (getLe b 0x14 2 ≠ d.upd.run.pairFmt) then some 20
  else none

/-- A package goes to the partner in IMAGE frames. -/
def Dev.sendImage (d : Dev) (pause : Bool) (b : List Byte) : Dev :=
  ((chunks 4088 (b.length + 1) b).foldl (fun (x : Nat × Dev) c =>
    (x.1 + c.length, x.2.pairSend x.2.openCycle (.image pause x.1 b.length c))) (0, d)).2

/-- Waiting completions of a pair are written, then waiting events, while their rings have room. -/
def Dev.drainRings (d : Dev) (p : Nat) : Dev :=
  let d1 := (List.range (d.pair p).waiting.length).foldl (fun (x : Dev) _ => x.completionWrite p) d
  (List.range (d1.lane 13).cells.length).foldl (fun (x : Dev) _ => x.eventPost) d1

/-- The rings as a device reset leaves them (R90, R596): every pair OFF, its registers as stored. -/
def Dev.ringsReset (d : Dev) : Dev :=
  let inPairs := fun (o : Nat) => decide (0x10000 ≤ o ∧ o < 0x11000)
  { d with
    rng := { d.rng with pairs := [], granted := [], last := [] }
    fn := d.fn.keep (fun k _ => decide (k < 64))
    regs := (d.store.keep (fun o _ => inPairs o)).foldl (fun (t : Tab Word) e => t.put e.1 e.2) (d.regs.keep (fun o _ => !inPairs o)) }

/-- The running region takes a package. -/
def Dev.writeRun (d : Dev) (i : FwInfo) : Dev := { d with upd := { d.upd with run := i, fresh := true } }

/-- From t0 to t1 of R595: the running region is written, the completion posted, the ports start nothing new. -/
def Dev.pauseStart (d : Dev) (p : Nat) (h : Held) : Dev :=
  let i := pkgInfo d.upd.staged
  let d1 := if d.par.en then d.sendImage true d.upd.staged else d
  let d2 := ((d1.writeRun i).complete p h.id 0 0 [4000]).recordPost 11 0x1100 0 0x11 0 i.version 0
  let d3 := (d2.drainRings p).ringsReset
  { d3 with upd := { d3.upd with st := 3, paused := true } }

/-- A step of a hitless activation begins: HSTEP and its record (R598). -/
def Dev.hstepTo (d : Dev) (n : Nat) : Dev :=
  ({ d with upd := { d.upd with hstep := n } } : Dev).recordPost 11 0x1105 0 0x11 0 n

/-- A hitless activation begins with step 1. -/
def Dev.hitlessStart (d : Dev) (p : Nat) (h : Held) : Dev :=
  let i := pkgInfo d.upd.staged
  let d1 : Dev := { d with upd := { d.upd with st := 4, target := i.version, resetAt := none, readyAt := none } }
  let d2 := (d1.complete p h.id 0 0 [0]).recordPost 11 0x1100 0 0x11 0 i.version 1
  (d2.hstepTo 1).sendImage false d2.upd.staged

/-- The signer rule of R600. -/
def Dev.signerOk (d : Dev) (i : FwInfo) : Bool :=
  d.upd.signer.isNone || decide (d.upd.signer = some i.signer) || d.on F.UPD_CFG_SIGNER_CHG

/-- The loader accepts a package in recovery (R601). -/
def Dev.accepts (d : Dev) (b : List Byte) : Bool :=
  let i := pkgInfo b
  i.valid && i.sigOk && d.signerOk i

/-- FW_ACTIVATE in recovery verifies the signature: what the status says of a failure is open. -/
def Dev.activateHost (d : Dev) (p : Nat) (h : Held) : Dev :=
  if d.accepts d.upd.staged then
    (({ d with upd := { d.upd with hostOk := true } } : Dev).complete p h.id 0 0 [4000]).recordPost 11 0x1100 0 0x11 0 (getLe d.upd.staged 8 4) 0
  else
    let f := d.fresh
    ({ f.2 with upd := { f.2.upd with staged := [] } } : Dev).complete p h.id 4 (Config.free32 f.1).toNat

/-- FW_ACTIVATE after R592. -/
def Dev.fwActivate (d : Dev) (p : Nat) (h : Held) : Dev :=
  let hitless := d.par.en && !bitAt (h.desc.word 3) 0 && !d.upd.recovery
  if d.activating then d.complete p h.id 8 0
  else if d.updRefuse ≠ 0 then d.complete p h.id 0x13 d.updRefuse
  else match d.pkgFault hitless with
    | some sub => d.complete p h.id 4 sub
    | none =>
      if d.upd.recovery then d.activateHost p h
      else if hitless then d.hitlessStart p h
      else d.pauseStart p h

/-- FW_ACTIVATE (R593). -/
def execFwActivate (pair : Fin 64) (s : State) : Host.Outcome State Fault Refusal :=
  s.go (fun d => d.onDesc pair 0x59 (fun d h => d.fwActivate pair h))

/-! ## The reset of an activation (R592, R595, R597, R598) -/

/-- IMAGE frames still wait for credits. -/
def Dev.imageWaits (d : Dev) : Bool :=
  let l := d.lane 16
  (l.cells ++ l.ring ++ l.waits).any (fun i => match i.payload with | .pairOut _ (.image _ _ _ _) => true | _ => false)

/-- What LPDDR5 holds, for step g of the boot that follows (R597). -/
def Dev.retained (d : Dev) : Nand :=
  { d.nand with ctx := d.ctx.tab, ext := d.tar.ext, closedRec := d.tar.closedRec, grps := d.tar.grps, cop := d.copied, jseq := d.tar.jseq }

/-- t3 of R595: the commit, the Weigh-in region, the retention mark, and the device reset with cause 6. -/
def Dev.activationReset (d : Dev) : Dev :=
  let d1 := d.silence.commit
  let x : Dev := { d1 with upd := { d1.upd with
    weigh := d1.upd.run.check, mark := some d1.par.cycle, kept := some d1.retained, otherReset := false, failSeen := false } }
  x.restart 6

/-- A device of a hitless activation resets itself once it may: the Weigh-in region is written first. -/
def Dev.installGo (d : Dev) : Dev :=
  if d.upd.install && d.updMayReset then
    ({ d with upd := { d.upd with weigh := d.upd.run.check, install := false } } : Dev).latchReset 6
  else d

/-- ACTIVATION_RESET (R597): the last transaction has ended, and no state of R592 holds for which the reset waits. -/
def execActivationReset (s : State) : Host.Outcome State Fault Refusal :=
  s.go (fun d =>
    if !d.live then d
    else if d.upd.install then d.installGo
    else if decide (d.upd.st = 3) && d.portsQuiet && !d.imageWaits && d.updMayReset then d.activationReset
    else d)

/-! ## Hitless activation (R598, R599) -/

/-- Both regions take a package, and the device resets itself. -/
def Dev.installRun (d : Dev) (i : FwInfo) : Dev :=
  let d1 := d.writeRun i
  ({ d1 with upd := { d1.upd with install := true } } : Dev).installGo

/-- The step that follows, where the one that runs has completed. -/
def Dev.hitlessStep (d : Dev) : Dev :=
  match d.upd.hstep with
  | 1 => if d.imageWaits then d else d.hstepTo 2
  | 2 => if d.par.hbLost then let d1 := d.hstepTo 3; { d1 with upd := { d1.upd with resetAt := some d1.tim.mono } } else d
  | 3 =>
    if !d.par.hbLost && d.par.peer.ready && decide (d.par.peer.version = d.upd.target) then
      let d1 := d.hstepTo 4
      ({ d1 with upd := { d1.upd with readyAt := some d1.tim.mono } } : Dev).swapStart none
    else d
  | 4 =>
    if d.isBow && d.par.swap.isNone then
      let d1 := d.hstepTo 5
      ({ d1 with upd := { d1.upd with resetAt := some d1.tim.mono } } : Dev).installRun (pkgInfo d1.upd.staged)
    else d
  | 5 =>
    if d.isBow && d.par.ready && !d.upd.install then
      let d1 := (d.hstepTo 6).recordPost 11 0x1107 0 0x11 0 (d.word 0x11000C)
      { d1 with upd := { d1.upd with st := 0 } }
    else d
  | _ => d

/-- HITLESS_STEP (R598). -/
def execHitlessStep (s : State) : Host.Outcome State Fault Refusal :=
  s.go (fun d => if d.live && decide (d.upd.st = 4) then d.hitlessStep else d)

/-- A hitless activation stops for a reason. -/
def Dev.hitlessEnd (d : Dev) (reason : Nat) : Dev :=
  ({ d with upd := { d.upd with st := 0 } } : Dev).recordPost 11 0x1106 1 0x11 0 reason

/-- A Fatal fault on either device: the partner's heartbeat tells of its own. -/
def Dev.pairFatal (d : Dev) : Bool := d.on F.FLT_STS_FATAL || d.par.peer.fatal

/-- The reasons of R599 as they hold, or as time brings them. -/
def Dev.hitlessStop (d : Dev) : Dev :=
  let n := d.upd.hstep
  if d.pairFatal then d.hitlessEnd 3
  else if n = 3 ∧ d.par.hbLost = false ∧ d.par.peer.ready ∧ d.par.peer.version ≠ d.upd.target then d.hitlessEnd 1
  else if n = 4 then
    (if d.isBow then d
     else if d.par.swap.isNone then d.hitlessEnd 2
     else match d.upd.readyAt with | some t => (d.toMono (t + msC 600000)).hitlessEnd 2 | none => d)
  else if (n = 3 ∧ ¬ d.par.peer.ready) ∨ (n = 5 ∧ ¬ d.par.ready) then
    (match d.upd.resetAt with | some t => (d.toMono (t + msC 60000)).hitlessEnd 4 | none => d)
  else d

/-- HITLESS_STOP (R599). -/
def execHitlessStop (s : State) : Host.Outcome State Fault Refusal :=
  s.go (fun d => if d.live && decide (d.upd.st = 4) && !d.upd.install then d.hitlessStop else d)

/-! ## Packages from the partner (R595, R598, R601) -/

/-- The whole package of an activation has arrived at the bow. -/
def Dev.imageWhole (d : Dev) (pause : Bool) (b : List Byte) : Dev :=
  let d1 : Dev := { d with upd := { d.upd with imgRx := [], imgLen := 0 } }
  if pause then
    let d2 := (d1.writeRun (pkgInfo b)).ringsReset
    { d2 with upd := { d2.upd with st := 3, paused := true } }
  else d1.installRun (pkgInfo b)

/-- PAIR_IMAGE_RX (R537, R601): part of a package, in order; a bow acts on the whole one, a recovering device keeps it. -/
def execPairImageRx (pause : Bool) (offset total : Nat) (bytes : List Byte) (s : State) : Host.Outcome State Fault Refusal :=
  s.go (fun d =>
    if !(d.live && d.par.en && d.pairUp) then d
    else
      let d1 : Dev := { d with par := { d.par with freed := d.par.freed + pairCells (.image pause offset total bytes) } }
      let old := if offset = 0 then [] else d.upd.imgRx
      if !(d.upd.recovery || (d.isBow && !d.activating)) || decide (old.length ≠ offset) || decide (total < offset + bytes.length) then d1
      else
        let b := old ++ bytes
        if d.upd.recovery || decide (b.length < total) then { d1 with upd := { d1.upd with imgRx := b, imgLen := total } }
        else d1.imageWhole pause b)

/-! ## Recovery (R600, R601) -/

/-- A TFTP server is named. -/
def Dev.rcvIp (d : Dev) : Bool := (List.range 4).any (fun i => decide (d.rd F.UPD_RCV_IP_ADDR i ≠ 0))

/-- A read that stalls: again after 5 s, and after the third failure the source rests for 60 s. -/
def Dev.tftpStall (d : Dev) : Dev :=
  if 3 ≤ d.upd.tftpFails + 1 then
    { d with upd := { d.upd with tftp := [], tftpFails := 0, tftpRest := some (d.tim.mono + msC 60000) } }
  else
    let d1 := d.toMono (d.tim.mono + msC 5000)
    { d1 with upd := { d1.upd with tftpFails := d.upd.tftpFails + 1 } }

/-- The next block of the file; a short one is the last (RFC 1350). -/
def Dev.tftpRead (d : Dev) (block : Option (List Byte)) : Dev :=
  let d1 := match d.upd.tftpRest with
    | some t => { (d.toMono t) with upd := { d.upd with tftpRest := none } }
    | none => d
  match block with
  | none => d1.tftpStall
  | some b => { d1 with upd := { d1.upd with tftp := d1.upd.tftp ++ b, tftpFails := 0, tftpDone := decide (b.length < 1428) } }

/-- TFTP_RECOVERY_READ (R601): a block that arrives, or none for a read that stalls. -/
def execTftpRecoveryRead (block : Option (List Byte)) (s : State) : Host.Outcome State Fault Refusal :=
  if !tftpOk block then .fault (.illFormedCommand "TFTP_RECOVERY_READ")
  else s.go (fun d => if d.live && d.upd.recovery && d.rcvIp && !d.flPorts.isEmpty && !d.upd.tftpDone then d.tftpRead block else d)

/-- The first source that holds a complete package, with the package. -/
def Dev.recoveryPackage (d : Dev) : Option (Nat × List Byte) :=
  if d.upd.imgLen ≠ 0 ∧ d.upd.imgRx.length = d.upd.imgLen then some (1, d.upd.imgRx)
  else if d.upd.tftpDone then some (2, d.upd.tftp)
  else if d.upd.hostOk then some (3, d.upd.staged)
  else none

/-- A package that fails verification is discarded. -/
def Dev.discard (d : Dev) (source : Nat) : Dev :=
  { d with upd := (match source with
      | 1 => { d.upd with imgRx := [], imgLen := 0 }
      | 2 => { d.upd with tftp := [], tftpDone := false }
      | _ => { d.upd with staged := [], hostOk := false }) }

/-- RECOVERY_INSTALL (R601). -/
def execRecoveryInstall (s : State) : Host.Outcome State Fault Refusal :=
  s.go (fun d =>
    if !(d.live && d.upd.recovery) then d
    else match d.recoveryPackage with
      | none => d
      | some (source, b) =>
        if !d.accepts b then d.discard source
        else
          let i := pkgInfo b
          let d1 := (d.writeRun i).recordPost 11 0x1103 0 0x11 0 source i.version
          ({ d1 with upd := { d1.upd with weigh := i.check } } : Dev).latchReset 6)

end Sys2Proof.Machine
end

