-- ==== Sys2Proof/Machine/Readback.lean ====
section
/-! DEFINITION. Sys2Proof/Machine/Readback.lean: what a read of BAR0 returns. A register's stored word is shown as it stands; a status field
that reports other state is computed from that state when it is read. -/

namespace Sys2Proof.Machine

/-- A field of a word put from a Bool. -/
def F.putB (f : F) (w : Nat) (b : Bool) : Nat := f.put w (b2n b)

/-- The lifecycle code of a function (R64). -/
def Dev.fnCode (d : Dev) (fix : Nat) : Nat := (d.fnOf fix).st.code

/-! ## Blocks 0 to 4 -/

/-- GLB (R639): states and BLOCKED of the functions, the role that waits for a reset, autostart of the pair unit. -/
def Dev.glbRead (d : Dev) (base i w : Nat) : Nat :=
  if base = 0x14 then F.GLB_ROLE_STS_PENDING.putB w (decide (d.rd F.GLB_ROLE_CFG_ROLE ≠ F.GLB_ROLE_STS_ROLE.get w))
  else if base = 0x100 then sumNat ((List.range 8).map (fun k =>
    (d.fnCode (8 * i + k) + 8 * b2n (d.fnOf (8 * i + k)).pending) * 16 ^ k))
  else if base = 0x140 then sumNat ((List.range 32).map (fun b => b2n (d.fnOf (32 * i + b)).blocked * 2 ^ b))
  else if base = 0x150 && i = 0 then withBits w 18 1 (d.rd F.PAR_CFG_EN)
  else w

/-- RNG (R64, R65). CMP_STALL reads 1 while the completion ring is full, as R72 says, whether or not something waits for room
(DEDUCED, log 109: R64 adds "and the NVD waits for room"). -/
def Dev.rngRead (d : Dev) (base i w : Nat) : Nat :=
  if base = 0x10014 then
    let f := d.fnOf (64 + i)
    F.RNG_PAIR_STS_CMP_STALL.putB (F.RNG_PAIR_STS_PENDING.putB (F.RNG_PAIR_STS_STATE.put w f.st.code) f.pending) (d.cmpFull i)
  else if base = 0x10018 then (d.pair i).cmpTail % 65536 * 65536 + (d.pair i).subHead % 65536
  else w

/-- LNE (R476). -/
def Dev.lneRead (d : Dev) (base i w : Nat) : Nat :=
  if base = 0x20004 then d.ringUsed
  else if base = 0x2000C then F.LNE_POOL_STS_RESERVE_SHORT.putB (98304 - d.cellSums.1) d.reserveShort
  else if base = 0x20010 then d.laneMinSum
  else if base = 0x21004 then b2n (d.lane i).flushing
  else if base = 0x21008 then
    F.LNE_Q_STS_IN_RING.putB (F.LNE_Q_STS_HELD.putB (d.laneCells i) (!(d.lane i).waits.isEmpty)) (!(d.lane i).ring.isEmpty)
  else if base = 0x2100C then (d.lane i).ringUsed
  else w

/-- CTX (R136, R138). -/
def Dev.ctxRead (d : Dev) (base w : Nat) : Nat :=
  if base = 0x30008 then F.CTX_CAP_STS_FULL.putB d.ctxUsed (decide (d.ctxLimit ≤ d.ctxUsed))
  else if base = 0x3000C then d.joining * 65536 + d.direct
  else if base = 0x3001C then F.CTX_CACHE_STS_PINNED.put w (d.ctx.pins.filter (fun e => decide (0 < e.2))).length
  else if base = 0x30028 then F.CTX_LOOKUP_STS_REHASH.putB d.stashUsed d.ctx.rehash
  else w

/-- The attestation key can be exported (R309). -/
def Dev.attReady (d : Dev) : Bool :=
  !d.on F.GLB_CFG_LOCK_LOCK && d.on F.SEC_STS_KTK_VALID && decide (d.rd F.SEC_STS_BOOT_PATH = 1)

/-- SEC_ATT_WRAP (R309): K_att wrapped under the KTK. -/
def Dev.attWrap (d : Dev) (ktk : Option (List Byte)) (i : Nat) : Nat :=
  if !d.attReady then 0
  else match ktk, d.purposeKey "ATT" with
    | some t, some k => getLe (kwWrap t k) (4 * i) 4
    | _, _ => 0

/-- SEC (R312). -/
def Dev.secRead (d : Dev) (ktk : Option (List Byte)) (base i w : Nat) : Nat :=
  if base = 0x40000 then F.SEC_STS_ATT_READY.putB w d.attReady
  else if base = 0x40084 then F.SEC_IMPORT_STS_FULL.putB d.sec.imports.length (decide (16384 ≤ d.sec.imports.length))
  else if base = 0x40100 then d.attWrap ktk i
  else w

/-! ## Ports -/

/-- RX_BUSY of LCP_STS (R204): the chains that decode a frame. The model takes a frame whole, at its end, so whether one is on its way is a free
value (log 134), 0 for a chain that no plan enables, that is blanked or whose port does not run. -/
def Dev.rxBusy (d : Dev) (i : Nat) : Nat :=
  if d.portRuns i then
    sumNat ((d.plans i).map (fun k => b2n (Config.chainBusy i k d.tim.mono && !(d.lp i).blanked.contains k) * 2 ^ k))
  else 0

/-- LCP_STS (R204). -/
def Dev.lcpState (d : Dev) (i w : Nat) : Nat :=
  let w1 := F.LCP_STS_TX_ACTIVE.putB (F.LCP_STS_STATE.put w (d.fnCode i)) (d.lp i).tx.isSome
  F.LCP_STS_RX_BUSY.put (F.LCP_STS_CAP_LOW.putB (F.LCP_STS_GATED.putB w1 (d.lineHeld i)) (d.capLowAll i)) (d.rxBusy i)

/-- The instant of the end of the latest 1 s that a port saw without a frame (R205). -/
def Dev.noiseAt (d : Dev) (i : Nat) : Option Nat :=
  if d.portRuns i && (d.lp i).tx.isNone && decide ((d.lp i).quietFrom + 500000000 ≤ d.tim.mono) then some d.tim.mono else (d.lp i).quietLast

/-- LCP (R204, R205, R237). -/
def Dev.lcpRead (d : Dev) (base i w : Nat) : Nat :=
  if base = 0x50004 then d.lcpState i w
  else if base = 0x50044 then F.LCP_GOV_STS_WIN_NOW.put w (in10uJ (d.eWin i))
  else if base = 0x50060 then
    (match d.noiseAt i with | some t => sumNat ((List.range 3).map (fun k => (Config.noise i k t).toNat * 256 ^ k)) | none => 0)
  else if base = 0x50410 then F.LCP_MAC_STS_POLLED.put (F.LCP_MAC_STS_BE.put w (d.lp i).be) (min 65535 (d.lp i).polled.length)
  else if base = 0x50414 then
    (match meanPeriod (d.zcs i 0) with | some t => t / 1000 % 65536 | none => 0) * 65536
      + (match meanPeriod (d.zcs i 0) with
         | some tm => let a := d.refAngle i 1 tm; b2n (decide (a > 1800)) * 2 ^ 15
         | none => 0)
      + sumNat ((List.range 3).map (fun k => b2n (!(d.zcs i k).isEmpty) * 2 ^ (12 + k)))
  else if base = 0x50440 then F.LCP_NB_SEL.put w (d.lp i).nbs.length
  else w

/-- Contexts of calendar meters that hang on a radio port. -/
def Dev.radMeters (d : Dev) (n : Nat) (p : Nat → Ctx → Bool) : Nat :=
  (d.ctx.tab.filter (fun e => e.2.radPort = some n && e.2.calendar && p e.1 e.2)).length

/-- RAD (R273). -/
def Dev.radRead (d : Dev) (base i w : Nat) : Nat :=
  if base = 0x60004 then
    F.RAD_STS_TX_ACTIVE.putB (F.RAD_STS_GATED.putB (F.RAD_STS_STATE.put w (d.fnCode (2 + i))) (d.radHeld i)) (match (d.rp i).phase with | .sending => true | _ => false)
  else if base = 0x60034 then
    d.radMeters i (fun m _ => (d.cal m).pos.isSome) % 65536 * 65536 + d.radMeters i (fun _ c => decide (c.rsync % 4 = 3)) % 65536
  else if base = 0x60038 then
    d.radMeters i (fun _ c => decide (c.rsync % 4 = 1)) % 65536 * 65536 + d.radMeters i (fun _ c => decide (c.rsync % 4 = 2)) % 65536
  else if base = 0x6003C then (if d.isBow then 0 else min 1000 (d.dutyUsed i * 1000 / hourC))
  else w

/-- ETH and FL (R498, R499). -/
def Dev.ethRead (d : Dev) (base i w : Nat) : Nat :=
  let e := d.ep i
  if base = 0x70004 then
    F.ETH_STS_FL_ACTIVE.putB (F.ETH_STS_STATE.put w (d.fnCode (6 + i))) (d.isField && decide (d.fl.st ≠ 0) && decide (d.fl.port = i))
  else if base = 0x70208 then
    (match e.mgtRx with
     | [] => 0
     | f :: _ => 2 ^ 31 + min 7 e.mgtRx.length * 2 ^ 14 + f.2.length % 2 ^ 14)
  else if base = 0x70210 then (match e.mgtRx with | [] => 0 | f :: _ => f.1 / 4000000000 % 2 ^ 32)
  else if base = 0x70214 then (match e.mgtRx with | [] => 0 | f :: _ => f.1 % 4000000000)
  else if base = 0x7300C then
    (if d.isField then d.fl.st % 8 * 2 ^ 29 + d.fl.port % 4 * 2 ^ 27 else 0) + b2n d.fl.key.isSome * 2 ^ 26 + b2n d.flCode.isSome * 2 ^ 25
      + (if d.isHead then (d.fl.fds.filter (fun x => x.2.st = 2)).length else 0)
  else if base = 0x73070 then
    let x := d.fd (d.rd F.FL_FD_SEL_FDX)
    (match i with | 0 => x.st % 8 * 2 ^ 29 + x.port % 4 * 2 ^ 27 | 1 => x.heardS % 2 ^ 32 | 2 => if x.st = 0 then 0 else (Config.roundTrip (d.rd F.FL_FD_SEL_FDX) x.heardS).toNat | _ => x.dseq % 2 ^ 32)
  else w

/-! ## Time, metrology, Ledger, Weigh-in -/

/-- TIM (R455, R456). -/
def Dev.timRead (d : Dev) (base i w : Nat) : Nat :=
  if base = 0x8000C then d.tim.snapTime / 2 ^ 32 % 2 ^ 32
  else if base = 0x80010 then d.tim.snapMono % 2 ^ 32
  else if base = 0x80014 then d.tim.snapMono / 2 ^ 32 % 2 ^ 32
  else if base = 0x8003C then sumNat (d.tim.pool.zipIdx.map (fun e => e.1 % 16 * 16 ^ e.2))
  else if base = 0x80104 then F.TIM_CAP_STS_FILL.put w (d.tim.caps.getD i []).length
  else if base = 0x8010C then d.tim.capHi.getD i 0
  else if base = 0x80180 then F.TIM_TXQ_STS_FILL.put w (d.tim.txq.getD i []).length
  else w

/-- MET (R389, R391). -/
def Dev.metRead (d : Dev) (base i w : Nat) : Nat :=
  if base = 0x90004 then
    let n := match d.grade with | .x => 24 | .f => 12
    F.MET_STS_CH_ON.put w (sumNat ((List.range n).map (fun c => b2n (d.isOn (19 + c)) * 2 ^ c)))
  else if base = 0x9011C then
    F.MET_CH_STS_SETTLE.put (F.MET_CH_STS_STATE.put w (d.fnCode (19 + i)))
      (if d.isOff (19 + i) then 0 else (Config.settle (d.word (0x90104 + 0x40 * i))).toNat)
  else if base = 0x90124 then (d.mch i).copyIdx / 2 ^ 32 % 2 ^ 32
  else if base = 0x90128 then (d.mch i).copyStamp % 2 ^ 32
  else if base = 0x9012C then (d.mch i).copyStamp / 2 ^ 32 % 2 ^ 32
  else if base = 0x90130 then d.chRate i
  else if base = 0x90134 then d.chDelay i
  else if base = 0x98010 then F.MET_CM_STS_STATE.put w (d.fnCode (14 + i))
  else w

/-- LDG (R354). -/
def Dev.ldgRead (d : Dev) (base w : Nat) : Nat :=
  if base = 0xA0018 then
    let top := match d.grade with | .x => 4096 | .f => 64
    let on := (List.range top).filter (fun n => d.on F.LDG_NODE_W0_VALID n)
    on.length * 2 ^ 19 + (on.filter (fun n => d.nodeState n = 3)).length * 2 ^ 6
  else w

/-- TAR (R423). -/
def Dev.tarRead (d : Dev) (base w : Nat) : Nat :=
  if base = 0xB0000 then F.TAR_STS_SLOTS.put w d.slotTables.length
  else if base = 0xB000C then d.timeSts
  else if base = 0xB0010 then lo64 d.tar.stepPend
  else if base = 0xB0014 then hi64 d.tar.stepPend
  else w

/-! ## Media, pair, faults, events, firmware, scheduler, cores -/

/-- FTL (R526, R527). -/
def Dev.ftlRead (d : Dev) (base i w : Nat) : Nat :=
  let f := d.ftl
  if base = 0xC0004 then
    f.state % 8 * 2 ^ 29 + b2n f.idMismatch * 2 ^ 28 + b2n f.keyLost * 2 ^ 27 + b2n f.commitSlow * 2 ^ 26 + b2n f.resShort * 2 ^ 25
      + b2n f.gcActive * 2 ^ 24 + f.luns % 256 * 2 ^ 16 + b2n f.fmtPend * 2 ^ 15
  else if base = 0xC0014 then f.userLu
  else if base = 0xC0018 then f.used
  else if base = 0xC001C then f.slcLimit
  else if base = 0xC0020 then f.spareLeft
  else if base = 0xC0024 then min 65535 d.wearUsed * 65536 + min 65535 d.wearMax
  else if base = 0xC0104 then F.FTL_CH_STS_STATE.put w (d.fnCode (10 + i))
  else w

/-- PAR (R554). -/
def Dev.parRead (d : Dev) (base w : Nat) : Nat :=
  let p := d.par
  if base = 0xE0004 then
    d.fnCode 18 * 2 ^ 29 + p.role.code * 2 ^ 27 + b2n p.claim * 2 ^ 26 + b2n d.claimIn * 2 ^ 25 + b2n p.solo * 2 ^ 24 + b2n p.ready * 2 ^ 23
      + (p.lanes.filter (· = true)).length * 2 ^ 21 + b2n (p.lanes.any (· = true)) * 2 ^ 20
  else if base = 0xE0010 then p.health % 256
  else w

/-- FLT and EVR (R586, R587). -/
def Dev.evrRead (d : Dev) (base i w : Nat) : Nat :=
  let e := d.evr
  if base = 0xF0004 then F.FLT_STS_HIST_FILL.put w d.flt.hist.length
  else if base = 0xF0010 then (d.flt.histCopy.getD i 0).toNat
  else if base = 0x100000 then
    b2n (decide (65536 ≤ e.recs.length)) * 2 ^ 31 + b2n (decide (61440 ≤ e.recs.length)) * 2 ^ 30 + b2n e.frozen * 2 ^ 29
      + e.staged.length * 2 ^ 22 + e.recs.length
  else if base = 0x10000C then e.lost
  else if base = 0x100018 then e.optime
  else if base = 0x10001C then e.powerCycles % 2 ^ 24
  else if base = 0x100020 then (e.copy.getD i 0).toNat
  else w

/-- UPD_STS.STATE (R591, R613). -/
def Dev.updState (d : Dev) : Nat :=
  if d.upd.recovery then 5
  else if d.upd.st ≠ 0 then d.upd.st
  else b2n (decide (16 ≤ d.upd.staged.length) && decide (pkgLen d.upd.staged ≤ d.upd.staged.length))

/-- UPD (R602, R613). -/
def Dev.updRead (d : Dev) (base w : Nat) : Nat :=
  let s := d.upd.staged
  if base = 0x110004 then d.updState * 2 ^ 28 + d.upd.hstep % 16 * 2 ^ 24 + d.updRefuse * 2 ^ 16
  else if base = 0x110008 then s.length
  else if base = 0x11000C then d.upd.run.version
  else if base = 0x110010 then (if s.length < 12 then 0 else getLe s 8 4)
  else if base = 0x110014 then
    (if s.length < 0x31 then 0 else fmtMask d.upd.cfgFmt ((List.range 21).map (fun i => getLe s (0x1C + i) 1)))
  else if base = 0x110034 then d.img.slots.length * 65536 + (d.img.camps.filter (fun e => e.2.st = 2)).length
  else w

/-- SCH (R169). -/
def Dev.schRead (d : Dev) (base i w : Nat) : Nat :=
  if base = 0x120008 then
    F.SCH_STS_HEATS_OPEN.put (F.SCH_STS_HOLD_ALL.putB w (!d.on F.SCH_CFG_EN)) (d.sch.grps.filter (fun g => g.2.heat.isSome)).length
  else if base = 0x120104 then
    let keys := if i < 6 then [i] else d.sch.ports.keys.filter (fun k => decide (6 ≤ k))
    F.SCH_PORT_STS_OD_WAIT.put (F.SCH_PORT_STS_BUSY.put w (min 100 (sumNat (keys.map (fun k => d.usedBy k true)) / 50000000)))
      (min 255 (d.sch.wait.filter (fun x => x.onDemand && pIdx x.port = i)).length)
  else w

/-- COX (R640). -/
def Dev.coxRead (d : Dev) (base w : Nat) : Nat :=
  if base = 0x140004 then sumNat ((List.range 4).map (fun n => (Config.coxLoad n d.tim.mono).toNat % 101 * 256 ^ n))
  else w

/-! ## The readback of a register -/

/-- A register's word as it reads: the stored word with the fields that report other state. -/
def Dev.shownWord (d : Dev) (ktk : Option (List Byte)) (base i w : Nat) : Nat :=
  match base / 0x10000 with
  | 0 => d.glbRead base i w
  | 1 => d.rngRead base i w
  | 2 => d.lneRead base i w
  | 3 => d.ctxRead base w
  | 4 => d.secRead ktk base i w
  | 5 => d.lcpRead base i w
  | 6 => d.radRead base i w
  | 7 => d.ethRead base i w
  | 8 => d.timRead base i w
  | 9 => d.metRead base i w
  | 10 => d.ldgRead base w
  | 11 => d.tarRead base w
  | 12 => d.ftlRead base i w
  | 14 => d.parRead base w
  | 15 => d.evrRead base i w
  | 16 => d.evrRead base i w
  | 17 => d.updRead base w
  | 18 => d.schRead base i w
  | 20 => d.coxRead base w
  | _ => w

/-- Windows of BAR0 that no register definition lists. -/
inductive Win where
  /-- word of an MSI-X table entry (R58) -/
  | msix (v k : Nat)
  | pba (k : Nat)
  | nb (port k : Nat)
  | route (port k : Nat)
  | ethCnt (port i : Nat) (high : Bool)
  | mgtTx (port k : Nat)
  | mgtRx (port k : Nat)
  | cmLast (cm k : Nat)
  | node (k : Nat)
  deriving DecidableEq, Repr

/-- The window that holds an offset. -/
def winAt (off : Nat) : Option Win :=
  let lcp := (off - 0x50000) % 0x8000
  let eth := (off - 0x70000) % 0x4000
  let p := (off - 0x70000) / 0x4000
  if off % 4 ≠ 0 then none
  else if 0x18000 ≤ off ∧ off < 0x18800 then some (.msix ((off - 0x18000) / 16) ((off / 4) % 4))
  else if 0x19000 ≤ off ∧ off < 0x19010 then some (.pba ((off - 0x19000) / 4))
  else if 0x50000 ≤ off ∧ off < 0x60000 then
    if 0x480 ≤ lcp ∧ lcp < 0x500 then some (.nb ((off - 0x50000) / 0x8000) ((lcp - 0x480) / 4))
    else if 0x500 ≤ lcp ∧ lcp < 0x540 then some (.route ((off - 0x50000) / 0x8000) ((lcp - 0x500) / 4))
    else none
  else if 0x70000 ≤ off ∧ off < 0x80000 then
    if 0x100 ≤ eth ∧ eth < 0x190 then some (.ethCnt p ((eth - 0x100) / 8) (decide (eth % 8 = 4)))
    else if 0x1000 ≤ eth ∧ eth < 0x1800 then some (.mgtTx p ((eth - 0x1000) / 4))
    else if 0x1800 ≤ eth ∧ eth < 0x2000 then some (.mgtRx p ((eth - 0x1800) / 4))
    else none
  else if 0x98000 ≤ off ∧ off < 0x98400 ∧ 0x80 ≤ off % 0x100 ∧ off % 0x100 < 0xC0 then
    some (.cmLast ((off - 0x98000) / 0x100) ((off % 0x100 - 0x80) / 4))
  else if 0xA0080 ≤ off ∧ off < 0xA0100 then some (.node ((off - 0xA0080) / 4))
  else none

/-- The words of a window as they read; words with a read effect are read by `State.busRead`. -/
def Dev.winRead (d : Dev) : Win → Nat
  | .msix v k =>
    let x := d.vec v
    (match k with | 0 => x.addr % 2 ^ 32 | 1 => x.addr / 2 ^ 32 % 2 ^ 32 | 2 => x.data % 2 ^ 32 | _ => b2n x.masked)
  | .pba k => sumNat ((List.range 32).map (fun b => b2n (d.vec (32 * k + b)).pend * 2 ^ b))
  | .nb p k => ((d.lp p).nbCopy.getD k 0).toNat
  | .route p k => ((d.lp p).rtCopy.getD k 0).toNat
  | .ethCnt p i high => if high then (d.ep p).hi.getD i 0 else (d.ep p).cnt.getD i 0 % 2 ^ 32
  | .mgtTx p k => getLe (d.ep p).mgtTx (2048 * d.rd F.ETH_MGT_PAGE_TX_PAGE p + 4 * k) 4
  | .mgtRx p k => (match (d.ep p).mgtRx with | [] => 0 | f :: _ => getLe f.2 (2048 * d.rd F.ETH_MGT_PAGE_RX_PAGE p + 4 * k) 4)
  | .cmLast c k => getLe (d.mcm c).copy (4 * k) 4
  | .node k => if k < 4 then d.word (0x2000000 + 0x80 * d.rd F.LDG_NODE_SEL_NODE + 4 * k)
               else if k < 8 then 0 else (d.ldg.nodeCopy.getD (k - 8) 0).toNat

/-- The readback of a BAR0 word once the device is READY, without the effect that some reads have (R6, R20, R52). -/
def Dev.readWord (d : Dev) (ktk : Option (List Byte)) (off : Nat) : Nat :=
  if absentOff d.grade off then 0
  else match winAt off with
    | some v => d.winRead v
    | none => match findReg off with
      | some (r, i) => d.shownWord ktk r.off i (d.word off) % 2 ^ 32
      | none => 0

/-- The registers that read before READY (R618). -/
def earlyOff (off : Nat) : Bool := off = 0 || off = 0x30 || off = 0x3C || (decide (0x80 ≤ off) && decide (off < 0xA4) && off % 4 = 0)

/-- An offset that a register or a window holds (R52). -/
def assigned (off : Nat) : Bool := decide (off < 2 ^ 24) && ((winAt off).isSome || (findReg off).isSome)

end Sys2Proof.Machine
end

