-- ==== Sys2Proof/Machine/Bus.lean ====
section
/-! DEFINITION. Sys2Proof/Machine/Bus.lean: accesses of the host to BAR0 (R16 to R20, R52, R618): a write with the effect its register
adds, a read with the effect it has, and accesses that are not aligned words. -/

namespace Sys2Proof.Machine

/-- The state after an outcome that is a next state. -/
def State.after (s : State) (o : Host.Outcome State Fault Refusal) : State := match o with | .next t => t | _ => s

/-- A write to a window. -/
def Dev.winWrite (d : Dev) (w : Win) (val : Nat) : Dev :=
  match w with
  | .msix v k =>
    let x := d.vec v
    (match k with
     | 0 => d.setVec v { x with addr := x.addr / 2 ^ 32 * 2 ^ 32 + val }
     | 1 => d.setVec v { x with addr := x.addr % 2 ^ 32 + val * 2 ^ 32 }
     | 2 => d.setVec v { x with data := val }
     | _ => if val % 2 = 1 then d.setVec v { x with masked := true } else if x.masked then d.unmask v else d)
  | .mgtTx p k =>
    let e := d.ep p
    let at_ := 2048 * d.rd F.ETH_MGT_PAGE_TX_PAGE p + 4 * k
    d.setEp p { e with mgtTx := (padTo at_ e.mgtTx).take at_ ++ leBytes 4 val ++ e.mgtTx.drop (at_ + 4) }
  | .node k =>
    if 4 ≤ k then d
    else
      let n := d.rd F.LDG_NODE_SEL_NODE
      (d.plainWrite (0x2000000 + 0x80 * n + 4 * k) val).nodeChanged n (d.word (0x2000000 + 0x80 * n)) (d.word (0x2000004 + 0x80 * n))
  | _ => d

/-- SEC_TAMPER_CFG is held in the battery domain (R313). -/
def State.tamperCfg (s : State) (off v : Nat) : State :=
  let d := (s.dev.setWord off s.bat.cfg).plainWrite off v
  { s with dev := d, bat := { s.bat with cfg := d.word off } }

/-- A write to a register by its base offset and instance: the effect of the command that stands for it, else the access codes and clamps
alone (R19, R20). -/
def State.regWrite (s : State) (base i off v : Nat) : State :=
  let val : Word := BitVec.ofNat 32 v
  let go : (Dev → Dev) → State := fun f => { s with dev := f s.dev }
  match base with
  | 0x34 => s.after (execSoftReset val s)
  | 0x38 => s.after (execFunctionReset val s)
  | 0x10000 => go (fun d => d.fnCfgWrite (64 + i) v)
  | 0x10024 => s.after (execRngPairCntClear ⟨i % 64, Nat.mod_lt _ (by decide)⟩ val s)
  | 0x14004 => s.after (execRngLatClr val s)
  | 0x21004 => go (fun d => d.queueFlush i v)
  | 0x40000 => s.after (execTamperLatchClear val s)
  | 0x40004 => s.rootCtl v
  | 0x40010 => s.after (execCloneCodeWrite ⟨i % 4, Nat.mod_lt _ (by decide)⟩ val s)
  | 0x40020 => s.ktkCtl v
  | 0x40040 => go (fun d => { d with sec := { d.sec with ktkData := d.sec.ktkData.set i val } })
  | 0x40070 => s.tamperCfg off v
  | 0x50000 => go (fun d => d.fnCfgWrite i v)
  | 0x50030 => s.after (execGovCapWrite ⟨i % 2, Nat.mod_lt _ (by decide)⟩ val s)
  | 0x50040 => go (fun d => d.fuseGo i v)
  | 0x60000 => go (fun d => d.fnCfgWrite (2 + i) v)
  | 0x70000 => go (fun d => d.fnCfgWrite (6 + i) v)
  | 0x70200 => go (fun d => d.mgtGo i v)
  | 0x7020C => s.after (execMgtRxPop ⟨i % 4, Nat.mod_lt _ (by decide)⟩ val s)
  | 0x73010 => go (fun d => d.flCodeWrite i v)
  | 0x80080 => s.after (execHostTimerEnable ⟨4 + i % 4, by have := Nat.mod_lt i (show 4 > 0 by decide); omega⟩ val s)
  | 0x80140 => s.after (execHostTimerEnable ⟨i % 4, by have := Nat.mod_lt i (show 4 > 0 by decide); omega⟩ val s)
  | 0x80184 => go (fun d => d.txqPop i v)
  | 0x90100 => go (fun d => d.fnCfgWrite (19 + i) v)
  | 0x90108 => go (fun d => d.trimGain i false v)
  | 0x9010C => go (fun d => d.trimGain i true v)
  | 0x90118 => s.after (execSwapArm ⟨i % 24, Nat.mod_lt _ (by decide)⟩ val s)
  | 0x92000 =>
    go (fun d => if i / 128 % 2 = d.chBank (i / 256) then d.wrb F.MET_CH_STS_ACT_WR (i / 256) true else d.plainWrite off v)
  | 0x98000 => go (fun d => d.fnCfgWrite (14 + i) v)
  | 0xC0008 => go (fun d => d.ftlCtl v)
  | 0xC0100 => go (fun d => d.fnCfgWrite (10 + i) v)
  | 0xE0008 => s.after (execPairForce val s)
  | 0xE0014 => s.after (execParDeltaClear val s)
  | 0xF0004 => go (fun d => d.degradedClear v)
  | 0xF0008 => go (fun d => d.pinCtrl v)
  | 0xF0020 => s.after (execFltCounterClear ⟨i % 5, Nat.mod_lt _ (by decide)⟩ val s)
  | 0x100004 => s.after (execEvrFreeze val s)
  | 0x120000 => go (fun d => (d.plainWrite off v).enChanged (d.on F.SCH_CFG_EN))
  | 0x130014 => s.after (execPwrTempClear val s)
  | _ => go (fun d => d.plainWrite off v)

/-- A write of an aligned word to BAR0: ignored before READY (R618), in reserved space (R52) and in the windows of absent functions (R6). -/
def State.busWrite (s : State) (off v : Nat) : State :=
  if !s.dev.live || absentOff s.dev.grade off then s
  else match winAt off with
    | some w => { s with dev := s.dev.winWrite w v }
    | none => match findReg off with
      | some (r, i) => s.regWrite r.off i off v
      | none => s

/-- The value that a read's effect left at the head of what goes out. -/
def Dev.took (d d1 : Dev) : Nat × Dev :=
  match d1.out.head? with
  | some (.readData v) => (v, { d1 with out := d.out })
  | _ => (0, d1)

/-- The effect of a read, for the words that have one: the snapshots of R368, R355, R379, R237, R427, R450, R483, R570 and R578. -/
def readEffect (off : Nat) : Option (State → Host.Outcome State Fault Refusal) :=
  match winAt off with
  | some (.nb p 0) => some (execNbSnapshotRead ⟨p % 2, Nat.mod_lt _ (by decide)⟩ false)
  | some (.route p 0) => some (execNbSnapshotRead ⟨p % 2, Nat.mod_lt _ (by decide)⟩ true)
  | some (.ethCnt p i false) =>
    some (execEthCounterSnapshotRead ⟨p % 4, Nat.mod_lt _ (by decide)⟩ ⟨i % 18, Nat.mod_lt _ (by decide)⟩)
  | some (.cmLast c 0) => some (execCmLastSnapshotRead ⟨c % 4, Nat.mod_lt _ (by decide)⟩)
  | some (.node 8) => some execNodeDataSnapshotRead
  | some _ => none
  | none => match findReg off with
    | none => none
    | some (r, i) => match r.off, i with
      | 0x80008, _ => some execTimeSnapshotRead
      | 0x80108, n => some (execCapturePop ⟨n % 4, Nat.mod_lt _ (by decide)⟩)
      | 0x90120, c => some (execMetSampleSnapshotRead ⟨c % 24, Nat.mod_lt _ (by decide)⟩)
      | 0xF0010, 0 => some execFaultHistSnapshotRead
      | 0x100020, 0 => some execEvrSnapshotRead
      | _, _ => none

/-- A read of an aligned word of BAR0, with its effect (R52, R618). -/
def State.busRead (s : State) (off : Nat) : Nat × State :=
  if !s.dev.live then (if earlyOff off then s.dev.readWord s.bat.ktk off else 0, s)
  else if absentOff s.dev.grade off then (0, s)
  else match readEffect off with
    | some f => let r := s.dev.took (s.after (f s)).dev; (r.1, { s.after (f s) with dev := r.2 })
    | none => (s.dev.readWord s.bat.ktk off, s)

/-- REGISTER_WRITE (R20): a write of an aligned word. -/
def execRegisterWrite (off : BitVec 24) (val : Word) (s : State) : Host.Outcome State Fault Refusal :=
  .next (if off.toNat % 4 = 0 then s.busWrite off.toNat val.toNat else s)

/-- CFG_LOCK_SET (R639): a write to GLB_CFG_LOCK. -/
def execCfgLockSet (val : Word) (s : State) : Host.Outcome State Fault Refusal :=
  s.go (fun d => if d.live then d.plainWrite (F.GLB_CFG_LOCK_LOCK.at 0) val.toNat else d)

/-- UNALIGNED_ACCESS (R16): an access that is not an aligned word has no effect, and a read returns 0. -/
def execUnalignedAccess (isWrite : Bool) (off : BitVec 24) (bytes : Nat) (s : State) : Host.Outcome State Fault Refusal :=
  if !unalignedOk off bytes then .fault (.illFormedCommand "UNALIGNED_ACCESS")
  else s.go (fun d => if isWrite then d else d.emit (.readData 0))

end Sys2Proof.Machine
end

