-- ==== Sys2Proof/Machine/CfgCmd.lean ====
section
/-! DEFINITION. Sys2Proof/Machine/CfgCmd.lean: the configuration store and the CFG and DIAG opcodes (R83 to R87). -/

namespace Sys2Proof.Machine

/-! ## The configuration store (R85) -/

/-- The word that the store keeps of a register: its stored fields, the others as at reset. -/
def Dev.storeWord (d : Dev) (off : Nat) : Nat :=
  match findReg off with
  | none => 0
  | some (r, _) => r.flds.foldl (fun w f => if f.stored then withBits w f.lo f.len (bitsOf (d.word off) f.lo f.len) else w) (resetVal d.grade off)

/-- The word that the store holds of a register. -/
def Dev.stored (d : Dev) (off : Nat) : Nat := match d.store.find off with | some w => w.toNat | none => resetVal d.grade off

/-- Registers with a change that is not yet in the store. -/
def Dev.unstored (d : Dev) : List Nat := d.dirty.filter (fun off => d.storeWord off ≠ d.stored off)

/-- Every change reaches the store. The store lists no word equal to the register's reset word. -/
def Dev.storeAll (d : Dev) : Dev :=
  { d with dirty := []
           store := d.dirty.foldl (fun (t : Tab Word) off =>
             if d.storeWord off = resetVal d.grade off then t.del off else t.put off (BitVec.ofNat 32 (d.storeWord off))) d.store }

/-- CONFIG_STORE_WRITE (R85). -/
def execConfigStoreWrite (s : State) : Host.Outcome State Fault Refusal := s.go (fun d => if d.live then d.storeAll else d)

/-- CFG_COMMIT (R85). -/
def execCfgCommit (pair : Fin 64) (s : State) : Host.Outcome State Fault Refusal :=
  s.go (fun d => d.onDesc pair 0x02 (fun d h => d.storeAll.complete pair h.id 0 0 [d.unstored.length, 0, 0, 0]))

/-! ## Items (R84) -/

/-- What w3 of CFG_SET and CFG_GET names. -/
inductive CfgItem where
  | timer (h : Nat)
  | reg (off : Nat)
  deriving DecidableEq, Repr

/-- Base and length of a named instance's registers (R51, R388, R525). -/
def instRegs (cls inst : Nat) : Nat × Nat :=
  match cls with
  | 1 => (0x50000 + 0x8000 * inst, 0x8000)
  | 2 => (0x60000 + 0x4000 * inst, 0x4000)
  | 3 => (0x70000 + 0x4000 * inst, if inst = 0 then 0x3000 else 0x4000)
  | 4 => (0xC0100 + 0x40 * inst, 0x40)
  | 5 => (0x98000 + 0x100 * inst, 0x100)
  | _ => (0xE0000, 0x10000)

/-- The item of a descriptor, or the status with which it completes. -/
def Dev.cfgItem (d : Dev) (x : Desc) : Except (Nat × Nat) CfgItem :=
  let w := x.word 3
  match targetOf d.grade (x.word 2) with
  | some .device =>
    if 0xC00 ≤ w ∧ w ≤ 0xC03 then .ok (.timer (w - 0xC00))
    else
      let off := w - 2 ^ 31
      if w < 2 ^ 31 ∨ off % 4 ≠ 0 ∨ (0x18000 ≤ off ∧ off < 0x1A000) then .error (4, 12)
      else if absentOff d.grade off || assigned off then .ok (.reg off)
      else .error (4, 12)
  | some (.func cls inst) =>
    if 0xC00 ≤ w ∧ w ≤ 0xC03 then .error (2, 0)
    else
      let off := w - 2 ^ 31
      let r := instRegs cls inst
      if w < 2 ^ 31 ∨ off % 4 ≠ 0 ∨ r.2 ≤ off then .error (4, 12)
      else if assigned (r.1 + off) then .ok (.reg (r.1 + off))
      else .error (4, 12)
  | _ => .error (2, 0)

/-- A register that holds an RWL field. -/
def rwlReg (off : Nat) : Bool :=
  match winAt off with
  | some (.node k) => decide (k < 4)
  | some _ => false
  | none => match findReg off with
    | some (r, _) => r.flds.any (fun f => match f.acc with | .rwl => true | _ => false)
    | none => false

/-- A write that asks for a pooled comparator while none is free (R447). -/
def Dev.cmpDenied (d : Dev) (off v : Nat) : Bool :=
  bitAt v 31 && (match findReg off with
    | some (r, i) =>
      if r.off = 0x80140 then !d.on F.TIM_HT_CFG_ENABLE i && (d.takeCmp (8 + i)).isNone
      else if r.off = 0x80080 then !d.on F.TIM_PPS_CFG_ENABLE i && (d.takeCmp (1 + i)).isNone
      else false
    | none => false)

/-- The effective values of a host timer (R448). -/
def Dev.timerWords (d : Dev) (h : Nat) : List Nat :=
  [d.word (F.TIM_HT_AT_LO_AT.at h), d.word (F.TIM_HT_AT_HI_AT.at h), d.word (F.TIM_HT_PERIOD_PERIOD.at h), d.rd F.TIM_HT_CFG_ENABLE h]

/-- A host-timer item is set (R448): instant, period, enable; an enabled timer starts afresh. -/
def Dev.timerSet (d : Dev) (h lo hi per en : Nat) : Dev :=
  let d1 := ((d.plainWrite (F.TIM_HT_AT_LO_AT.at h) lo).plainWrite (F.TIM_HT_AT_HI_AT.at h) hi).plainWrite (F.TIM_HT_PERIOD_PERIOD.at h) per
  if en % 2 = 1 then (if d1.on F.TIM_HT_CFG_ENABLE h then (d1.htEnable h false).htEnable h true else d1.htEnable h true)
  else d1.htEnable h false

/-- Run the meaning of an opcode that acts on the whole state on the startable descriptor of a pair. -/
def State.onDesc (s : State) (p op : Nat) (f : State → Held → State) : State :=
  if !s.dev.live then s
  else match s.dev.startable p (fun x => descOp x = op) with
    | none => s
    | some h => match s.dev.refusal h.desc with
      | some (st, sub) => { s with dev := s.dev.complete p h.id st sub }
      | none => f s h

/-- A descriptor of a pair completes. -/
def State.done (s : State) (p id st sub : Nat) (res : List Nat) : State := { s with dev := s.dev.complete p id st sub res }

/-- CFG_SET (R84, R447). -/
def State.cfgSet (s : State) (p : Nat) (h : Held) : State :=
  match s.dev.cfgItem h.desc with
  | .error e => s.done p h.id e.1 e.2 []
  | .ok (.timer t) =>
    let en := h.desc.word 7
    let d1 := s.dev.timerSet t (h.desc.word 4) (h.desc.word 5) (h.desc.word 6) en
    let denied := en % 2 = 1 && !d1.on F.TIM_HT_CFG_ENABLE t
    ({ s with dev := d1 } : State).done p h.id (if denied then 9 else 0) 0 (d1.timerWords t)
  | .ok (.reg off) =>
    if absentOff s.dev.grade off then s.done p h.id 0 0 [0, 0, 0, 0]
    else if s.dev.on F.GLB_CFG_LOCK_LOCK && rwlReg off then s.done p h.id 0x12 0 []
    else
      let r := (s.busWrite off (h.desc.word 4)).busRead off
      r.2.done p h.id (if s.dev.cmpDenied off (h.desc.word 4) then 9 else 0) 0 [r.1, 0, 0, 0]

/-- CFG_SET (R84). -/
def execCfgSet (pair : Fin 64) (s : State) : Host.Outcome State Fault Refusal := .next (s.onDesc pair 0x00 (fun t h => t.cfgSet pair h))

/-- CFG_GET (R84). -/
def State.cfgGet (s : State) (p : Nat) (h : Held) : State :=
  match s.dev.cfgItem h.desc with
  | .error e => s.done p h.id e.1 e.2 []
  | .ok (.timer t) => s.done p h.id 0 0 (s.dev.timerWords t)
  | .ok (.reg off) => let r := s.busRead off; r.2.done p h.id 0 0 [r.1, 0, 0, 0]

/-- CFG_GET (R84). -/
def execCfgGet (pair : Fin 64) (s : State) : Host.Outcome State Fault Refusal := .next (s.onDesc pair 0x01 (fun t h => t.cfgGet pair h))

/-! ## DIAG_COUNTERS (R87) -/

/-- The counters of a function: BAR0 offset, width, value. -/
def Dev.fnCounters (d : Dev) (ktk : Option (List Byte)) (cls inst : Nat) : List (Nat × Nat × Nat) :=
  let one : Nat → Nat × Nat × Nat := fun off => (off, 32, d.readWord ktk off)
  match cls with
  | 1 => lcpCounters.map (fun o => one (o + 0x8000 * inst))
  | 2 => ([0x60040, 0x60044] ++ (List.range 12).map (fun i => 0x60050 + 4 * i)).map (fun o => one (o + 0x4000 * inst))
  | 3 => (List.range 18).map (fun i => (0x70100 + 0x4000 * inst + 8 * i, 64, (d.ep inst).cnt.getD i 0 % 2 ^ 64))
  | 4 => ftlCounters.map one
  | 5 => [one (0x98044 + 0x100 * inst)]
  | _ => (List.range 6).map (fun i => one (0xE0040 + 4 * i))

/-- DIAG_COUNTERS (R87): header, as many entries as fit, MORE if some do not. -/
def State.diagCounters (s : State) (p : Nat) (h : Held) : State :=
  let d := s.dev
  let cls := bitsOf (h.desc.word 2) 20 8
  let inst := h.desc.word 2 % 256
  if bufLen h.desc < 32 then s.done p h.id 4 20 []
  else
    let all := d.fnCounters s.bat.ktk cls inst
    let es := all.take ((bufLen h.desc - 16) / 16)
    let bytes := layBytes [(4, 0x54434744), (2, 1), (1, cls), (1, inst), (4, es.length), (4, d.tim.time / 32 % 2 ^ 31)]
      ++ es.flatMap (fun e => layBytes [(4, e.1), (1, e.2.1), (3, 0), (8, e.2.2)])
    ({ s with dev := d.writeBuf h.desc bytes } : State).done p h.id 0 0 [bytes.length, b2n (decide (es.length < all.length)), 0, 0]

/-- DIAG_COUNTERS (R87). -/
def execDiagCounters (pair : Fin 64) (s : State) : Host.Outcome State Fault Refusal :=
  .next (s.onDesc pair 0xB1 (fun t h => t.diagCounters pair h))

/-! ## DIAG_LOOP (R86) -/

/-- The loop kinds of a class. -/
def loopKinds (cls : Nat) : List Nat := if cls = 1 ∨ cls = 2 then [1, 2] else if 3 ≤ cls ∧ cls ≤ 6 then [1] else []

/-- A port's boundary at which a loop may take it; the other functions have none (R86, R151). -/
def Dev.loopMayStart (d : Dev) (fix : Nat) : Bool := !d.inLoop fix && (6 ≤ fix || d.portIdle fix)

/-- DIAG_LOOP: refused, or it starts and holds its function. -/
def Dev.diagLoop (d : Dev) (p : Nat) (h : Held) : Dev :=
  let cls := bitsOf (h.desc.word 2) 20 8
  let fix := funcFix cls (h.desc.word 2 % 2 ^ 20)
  if !(loopKinds cls).contains (h.desc.word 3) then d.complete p h.id 4 12
  else if !d.isOn fix then d.complete p h.id 7 (d.fnCode fix)
  else if !d.loopMayStart fix then d
  else
    let d1 := d.markStarted p h.id
    let d2 : Dev := { d1 with rng := { d1.rng with loops := d1.rng.loops ++ [(fix, h.desc.word 3, p, h.id)] } }
    if fix < 6 then d2.setPsch fix { d2.psch fix with looped := true } else d2

/-- DIAG_LOOP (R86), at the function's next boundary. -/
def execDiagLoop (pair : Fin 64) (s : State) : Host.Outcome State Fault Refusal := s.go (fun d => d.onDesc pair 0xB2 (fun d h => d.diagLoop pair h))

/-- The roles of a check meter, 0 (V1) to 5 (I3), whose channel is STUCK, has OVL set or shows another output index than V1 (R86). -/
def Dev.cmLoopFails (d : Dev) (k : Nat) : List Nat :=
  let l := d.cmChans k
  let first := (d.mch (l.getD 0 0)).idx
  (List.range 6).filter (fun j =>
    let c := l.getD j 0
    d.on F.MET_CH_STS_STUCK c || d.on F.MET_CH_STS_OVL c || decide ((d.mch c).idx ≠ first))

/-- What a loop ends with (R86): pass, failing part, errors. A check meter's state decides it: the first failing role, and an error for each
failing role (DESIGN CHOICE, log 113); the other loops bring theirs. -/
def Dev.loopVerdict (d : Dev) (fix : Nat) (pass : Bool) (part errors : Nat) : Bool × Nat × Nat :=
  if 14 ≤ fix ∧ fix < 18 then
    let l := d.cmLoopFails (fix - 14)
    (l.isEmpty, l.headD 0xFF, l.length)
  else (pass, if pass then 0xFF else part % 256, errors)

/-- A loop ends: it releases its function and posts its result (R86). -/
def Dev.loopEnd (d : Dev) (n : Nat) (pass : Bool) (part errors : Nat) : Dev :=
  match d.rng.loops[n]? with
  | none => d
  | some (fix, _, p, id) =>
    let r := d.loopVerdict fix pass part errors
    let d1 : Dev := { d with rng := { d.rng with loops := d.rng.loops.eraseIdx n } }
    let d2 := if fix < 6 then d1.setPsch fix { d1.psch fix with looped := false } else d1
    d2.complete p id 0 0 [b2n r.1 + 256 * r.2.1 + 65536 * min 65535 r.2.2, 0, 0, 0]

/-- DIAG_LOOP_END (R86). -/
def execDiagLoopEnd (loop : Nat) (pass : Bool) (part : BitVec 8) (errors : BitVec 16) (s : State) : Host.Outcome State Fault Refusal :=
  s.go (fun d => if d.live then d.loopEnd loop pass part.toNat errors.toNat else d)

end Sys2Proof.Machine
end

