-- ==== Sys2Proof/Machine/Images.lean ====
section
/-! DEFINITION. Sys2Proof/Machine/Images.lean: the IMAGE descriptors, and the windows and passes of campaigns (R604 to R611). -/

namespace Sys2Proof.Machine

/-! ## IMAGE_STAGE (R605) -/

/-- The slot that an image header of 64 B opens, or the sub-status of its first bad field. -/
def ImgSlot.parse (b : List Byte) : Except Nat ImgSlot :=
  let size := getLe b 8 4
  let idLen := clampNat 1 48 (getLe b 12 1)
  if getLe b 0 4 ≠ 0x4D494D56 then .error 0
  else if getLe b 4 2 ≠ 1 then .error 4
  else if size = 0 ∨ 16777216 < size then .error 8
  else .ok { block := clampNat 64 1024 (getLe b 6 2), size := size, ident := slice b 16 idLen }

/-- A running campaign of any group uses an image slot. -/
def Dev.imgUsed (d : Dev) (n : Nat) : Bool := d.img.camps.any (fun e => e.2.slot = n && (e.2.st = 2 || e.2.st = 3))

/-- A complete image is staged for the group that IMAGE_STAGE names, while no campaign of it runs (R611). -/
def Dev.imgStaged (d : Dev) (g n : Nat) : Dev :=
  if (d.campOf g).isSome then d
  else ({ d with img := { d.img with camps := d.img.camps.put g { slot := n, open_ := 0, close_ := 0, st := 0 } } } : Dev).campState g 1

/-- Image data joins its slot: stream 5 takes it; what lies beyond SIZE is refused. -/
def Dev.imgAppend (d : Dev) (p : Nat) (h : Held) (n : Nat) (s : ImgSlot) (bs : List Byte) : Dev :=
  let room := s.size - s.bytes.length
  let s' := { s with bytes := s.bytes ++ bs.take room }
  let d1 : Dev := { d with img := { d.img with slots := d.img.slots.put n s' } }
  let d2 := if room = 0 then d1 else d1.offer 14 ⟨2, min room bs.length, .media 5 (.raw (bs.take room))⟩
  let d3 := if s'.complete && !s.complete then d2.imgStaged (tGrp h.desc) n else d2
  if room < bs.length then d3.complete p h.id 4 8 else d3.complete p h.id 0 0 [s'.bytes.length / s'.block]

/-- IMAGE_STAGE, its buffer read. -/
def Dev.imageStage (d : Dev) (p : Nat) (h : Held) (bs : List Byte) : Dev :=
  let n := h.desc.word 6
  if d.ftl.state = 2 then d.complete p h.id 0x14 0
  else if 15 < n then d.complete p h.id 4 24
  else if d.imgUsed n then d.complete p h.id 8 0
  else match d.img.slots.find n with
    | some s => d.imgAppend p h n s bs
    | none =>
      match ImgSlot.parse bs with
      | .error sub => d.complete p h.id 4 sub
      | .ok s => d.imgAppend p h n s (bs.drop 64)

/-- IMAGE_STAGE (R605). -/
def execImageStage (pair : Fin 64) (buf : HostRead) (s : State) : Host.Outcome State Fault Refusal :=
  s.go (fun d => d.onDescRead pair 0x50 buf (fun d h bs => d.imageStage pair h bs))

/-! ## IMAGE_START (R606) -/

/-- The members that a start makes WAITING: all, or the FAILED and ABORTED ones of a campaign that has ended (R606). -/
def Dev.imgMembers (d : Dev) (g : Nat) (again : Bool) : List (Nat × Ctx) :=
  d.ctx.tab.filter (fun e => e.2.grp = g && e.2.st ≠ 5 && (!again || e.2.imgState = 6 || e.2.imgState = 8))

/-- The campaign that a group had with this image has ended. -/
def Dev.campEnded (d : Dev) (g n : Nat) : Bool :=
  match d.img.camps.find g with | some c => c.slot = n && (c.st = 4 || c.st = 5) | none => false

/-- A campaign starts. -/
def Dev.imageBegin (d : Dev) (g n o c blocks : Nat) : Dev :=
  let camp : Campaign := { slot := n, open_ := o, close_ := c, st := 0 }
  let ms := d.imgMembers g (d.campEnded g n)
  let d1 : Dev := { d with img := { d.img with camps := d.img.camps.put g camp } }
  let d2 := d1.campState g (if camp.inWindow d.minuteNow then 2 else 3)
  (ms.foldl (fun (x : Dev) e => x.imgWait e.1 e.2 blocks) d2).campCheck g

/-- IMAGE_START (R606). -/
def execImageStart (pair : Fin 64) (s : State) : Host.Outcome State Fault Refusal :=
  s.go (fun d => d.onDesc pair 0x51 (fun d h =>
    let n := h.desc.word 6
    let g := tGrp h.desc
    match d.img.slots.find n with
    | none => d.complete pair h.id 4 24
    | some i =>
      if !i.complete then d.complete pair h.id 4 24
      else if (d.campOf g).isSome then d.complete pair h.id 8 0
      else (d.imageBegin g n (minute1439 (h.desc.word 7)) (minute1439 (h.desc.word 8)) i.blocks).complete pair h.id 0 0))

/-! ## IMAGE_STATUS and IMAGE_ABORT (R611) -/

/-- The campaign state of a group. -/
def Dev.campSt (d : Dev) (g : Nat) : Nat := match d.img.camps.find g with | some c => c.st | none => 0

/-- The lowest IMG_FIRST of a group's RECEIVING members, 0 without one. -/
def Dev.imgLowest (d : Dev) (g : Nat) : Nat :=
  let fs := (d.ctx.tab.filter (fun e => e.2.grp = g && e.2.imgState = 2)).map (fun e => e.2.imgFirst)
  match fs with | [] => 0 | a :: t => t.foldl min a

/-- IMAGE_STATUS (R611). -/
def execImageStatus (pair : Fin 64) (s : State) : Host.Outcome State Fault Refusal :=
  s.go (fun d => d.onDesc pair 0x52 (fun d h =>
    if tKind h.desc = 1 then d.withCtx pair h (fun _ c => d.complete pair h.id 0 0 [c.imgFirst, c.imgMiss, c.imgState])
    else
      let g := tGrp h.desc
      d.complete pair h.id 0 0 [d.imgLowest g, (d.imgOpen g).length, d.campSt g]))

/-- An image that no campaign uses gives its slot back; a group for which it was staged has none. -/
def Dev.imgFree (d : Dev) (n : Nat) : Dev :=
  let gs := (d.img.camps.filter (fun e => e.2.slot = n && e.2.st = 1)).map (·.1)
  let d1 := gs.foldl (fun (x : Dev) g => x.campState g 0) d
  { d1 with img := { d1.img with
      slots := d1.img.slots.del n, camps := gs.foldl (fun (t : Tab Campaign) g => t.del g) d1.img.camps } }

/-- A group's campaign is ended: members that are not in a final state become ABORTED. -/
def Dev.campAbort (d : Dev) (g : Nat) : Dev :=
  let ms := (d.imgOpen g).map (·.1)
  let d1 := d.campState g 5
  let d2 : Dev := { d1 with
    img := { d1.img with camps := d1.img.camps.upd g (fun c => { c with passes := [] }) }
    sch := { d1.sch with wait := d1.sch.wait.filter (fun x => match x.ask with | .cast k _ => x.order.isSome || decide (k ≠ g) | _ => true) } }
  ms.foldl (fun (x : Dev) m => x.imgSet m 8) d2

/-- IMAGE_ABORT (R611). -/
def execImageAbort (pair : Fin 64) (s : State) : Host.Outcome State Fault Refusal :=
  s.go (fun d => d.onDesc pair 0x53 (fun d h =>
    let n := h.desc.word 6
    let g := tGrp h.desc
    if 15 < n then d.complete pair h.id 4 24
    else if !d.imgUsed n then (d.imgFree n).complete pair h.id 0 0
    else (if (d.campOf g).isSome then d.campAbort g else d).complete pair h.id 0 0))

/-! ## Windows and passes (R606, R608) -/

/-- The next instant of a minute of the day, ns. -/
def Dev.nextMinute (d : Dev) (minute : Nat) : Nat :=
  seriesNext (d.nowNs / 86400000000000 * 86400000000000 + minute * 60000000000) 86400000000000 d.nowNs

/-- IMAGE_WINDOW_OPEN (R606). -/
def execImageWindowOpen (grp : Fin 4096) (s : State) : Host.Outcome State Fault Refusal :=
  s.go (fun d =>
    match d.campOf grp.val with
    | none => d
    | some (c, _) =>
      if !d.serves || c.st ≠ 3 then d
      else (if c.inWindow d.minuteNow then d else d.toNs (d.nextMinute c.open_)).campState grp.val 2)

/-- IMAGE_WINDOW_CLOSE (R606): a window of all day has no end. -/
def execImageWindowClose (grp : Fin 4096) (s : State) : Host.Outcome State Fault Refusal :=
  s.go (fun d =>
    match d.campOf grp.val with
    | none => d
    | some (c, _) =>
      if !d.serves || c.st ≠ 2 || c.open_ = c.close_ then d
      else (if c.inWindow d.minuteNow then d.toNs (d.nextMinute c.close_) else d).campState grp.val 3)

/-- The members for which a port runs passes: RECEIVING, reached without an agreed slot, with more blocks missing than UNI_MAX. -/
def Dev.passFor (d : Dev) (g pk : Nat) : List (Nat × Ctx) :=
  (d.imgReceiving g pk).filter (fun e => decide (d.rd F.UPD_IMG_CFG_UNI_MAX < e.2.imgMiss) && !d.slotted pk e.1)

/-- A pass starts at the lowest IMG_FIRST of those members. -/
def Dev.passStart (d : Dev) (g pk : Nat) (c : Campaign) : Dev :=
  let ps := c.passes.getD pk {}
  match d.passFor g pk with
  | [] => d
  | a :: t =>
    let first := t.foldl (fun k e => min k e.2.imgFirst) a.2.imgFirst
    let ps' : Pass := { ps with run := ps.run + 1, next := some first }
    ({ d with img := { d.img with camps := d.img.camps.put g { c with passes := (Tab.put c.passes pk ps') } } } : Dev).bump F.UPD_PASSES

/-- IMAGE_PASS_START (R608): one heat period of the group after the port's previous pass; port 6 is the field link to `fdx`. -/
def execImagePassStart (grp : Fin 4096) (port : Fin 7) (fdx : Fin 1024) (s : State) : Host.Outcome State Fault Refusal :=
  s.go (fun d =>
    let pk := if port.val = 6 then 16 + fdx.val else port.val
    match d.campOf grp.val with
    | none => d
    | some (c, _) =>
      let ps := c.passes.getD pk {}
      if !d.serves || ps.next.isSome || d.passesSpent c pk then d
      else
        let d1 := match ps.endedAt with
          | some t => d.toNs (t + (d.grpSch grp.val).cur.heatMin * 60000000000)
          | none => d
        if d1.campSends grp.val then d1.passStart grp.val pk c else d1)

end Sys2Proof.Machine
end

