-- ==== Sys2Proof/Machine/Dispatch.lean ====
section
/-! DEFINITION. Sys2Proof/Machine/Dispatch.lean: one arm for each command, each arm one call of its meaning. -/

namespace Sys2Proof.Machine

def exec (i : Instr) (s : State) : Host.Outcome State Fault Refusal :=
  match i with
  | .registerWrite off val => Sys2Proof.Machine.execRegisterWrite off val s
  | .unalignedAccess isWrite off bytes => Sys2Proof.Machine.execUnalignedAccess isWrite off bytes s
  | .cfgLockSet val => Sys2Proof.Machine.execCfgLockSet val s
  | .configStoreWrite => Sys2Proof.Machine.execConfigStoreWrite s
  | .doorbellSubTail pair val => Sys2Proof.Machine.execDoorbellSubTail pair val s
  | .doorbellCmpHead pair val => Sys2Proof.Machine.execDoorbellCmpHead pair val s
  | .fetchGrant descs latNs => Sys2Proof.Machine.execFetchGrant descs latNs s
  | .fetchFailed req => Sys2Proof.Machine.execFetchFailed req s
  | .completionWrite pair => Sys2Proof.Machine.execCompletionWrite pair s
  | .eventPost => Sys2Proof.Machine.execEventPost s
  | .irqModTimer pair => Sys2Proof.Machine.execIrqModTimer pair s
  | .msixUnmask vec => Sys2Proof.Machine.execMsixUnmask vec s
  | .stoppingPairTimeout pair => Sys2Proof.Machine.execStoppingPairTimeout pair s
  | .rngLatClr val => Sys2Proof.Machine.execRngLatClr val s
  | .rngPairCntClear pair val => Sys2Proof.Machine.execRngPairCntClear pair val s
  | .reservedOpcode pair => Sys2Proof.Machine.execReservedOpcode pair s
  | .cfgSet pair => Sys2Proof.Machine.execCfgSet pair s
  | .cfgGet pair => Sys2Proof.Machine.execCfgGet pair s
  | .cfgCommit pair => Sys2Proof.Machine.execCfgCommit pair s
  | .policyLoad pair buf => Sys2Proof.Machine.execPolicyLoad pair buf s
  | .policyGet pair => Sys2Proof.Machine.execPolicyGet pair s
  | .policyHold pair => Sys2Proof.Machine.execPolicyHold pair s
  | .readNow pair => Sys2Proof.Machine.execReadNow pair s
  | .readLog pair => Sys2Proof.Machine.execReadLog pair s
  | .writeObj pair buf => Sys2Proof.Machine.execWriteObj pair buf s
  | .writeAction pair buf => Sys2Proof.Machine.execWriteAction pair buf s
  | .writeTime pair => Sys2Proof.Machine.execWriteTime pair s
  | .tariffLoad pair buf => Sys2Proof.Machine.execTariffLoad pair buf s
  | .tariffActivate pair => Sys2Proof.Machine.execTariffActivate pair s
  | .tariffGet pair => Sys2Proof.Machine.execTariffGet pair s
  | .timeConfirm pair => Sys2Proof.Machine.execTimeConfirm pair s
  | .imageStage pair buf => Sys2Proof.Machine.execImageStage pair buf s
  | .imageStart pair => Sys2Proof.Machine.execImageStart pair s
  | .imageStatus pair => Sys2Proof.Machine.execImageStatus pair s
  | .imageAbort pair => Sys2Proof.Machine.execImageAbort pair s
  | .fwWrite pair buf => Sys2Proof.Machine.execFwWrite pair buf s
  | .fwActivate pair => Sys2Proof.Machine.execFwActivate pair s
  | .keyStage pair => Sys2Proof.Machine.execKeyStage pair s
  | .keyCommit pair => Sys2Proof.Machine.execKeyCommit pair s
  | .keyDiscard pair => Sys2Proof.Machine.execKeyDiscard pair s
  | .attest pair => Sys2Proof.Machine.execAttest pair s
  | .ctxGet pair => Sys2Proof.Machine.execCtxGet pair s
  | .ctxAdmit pair moves => Sys2Proof.Machine.execCtxAdmit pair moves s
  | .ctxRetire pair => Sys2Proof.Machine.execCtxRetire pair s
  | .ctxOwner pair => Sys2Proof.Machine.execCtxOwner pair s
  | .mediaHealth pair => Sys2Proof.Machine.execMediaHealth pair s
  | .mediaDrain pair => Sys2Proof.Machine.execMediaDrain pair s
  | .logRead pair => Sys2Proof.Machine.execLogRead pair s
  | .logFreeze pair => Sys2Proof.Machine.execLogFreeze pair s
  | .faultHist pair => Sys2Proof.Machine.execFaultHist pair s
  | .pairStatus pair => Sys2Proof.Machine.execPairStatus pair s
  | .pairSwap pair => Sys2Proof.Machine.execPairSwap pair s
  | .pairDrill pair results => Sys2Proof.Machine.execPairDrill pair results s
  | .diagEcho pair => Sys2Proof.Machine.execDiagEcho pair s
  | .diagCounters pair => Sys2Proof.Machine.execDiagCounters pair s
  | .diagLoop pair => Sys2Proof.Machine.execDiagLoop pair s
  | .diagLoopEnd loop pass part errors => Sys2Proof.Machine.execDiagLoopEnd loop pass part errors s
  | .lineFrameRx port rx => Sys2Proof.Machine.execLineFrameRx port rx s
  | .segmentTimeout port => Sys2Proof.Machine.execSegmentTimeout port s
  | .portBoundary port fdx bytes => Sys2Proof.Machine.execPortBoundary port fdx bytes s
  | .backoffExpiry port => Sys2Proof.Machine.execBackoffExpiry port s
  | .exchangeTimeout port => Sys2Proof.Machine.execExchangeTimeout port s
  | .exchangeEnd port => Sys2Proof.Machine.execExchangeEnd port s
  | .lineTxEnd port gain => Sys2Proof.Machine.execLineTxEnd port gain s
  | .blankEnd port => Sys2Proof.Machine.execBlankEnd port s
  | .govSample port vsns isns => Sys2Proof.Machine.execGovSample port vsns isns s
  | .govCapWrite port val => Sys2Proof.Machine.execGovCapWrite port val s
  | .govFuseGo port val => Sys2Proof.Machine.execGovFuseGo port val s
  | .govFuseDone port => Sys2Proof.Machine.execGovFuseDone port s
  | .lcpCounterClear port counter val => Sys2Proof.Machine.execLcpCounterClear port counter val s
  | .tmRefreshDue port nb => Sys2Proof.Machine.execTmRefreshDue port nb s
  | .tmTtlExpiry port nb => Sys2Proof.Machine.execTmTtlExpiry port nb s
  | .zeroCrossEdge port edge => Sys2Proof.Machine.execZeroCrossEdge port edge s
  | .portPollWindow port => Sys2Proof.Machine.execPortPollWindow port s
  | .neighbourAgeExpiry port nb => Sys2Proof.Machine.execNeighbourAgeExpiry port nb s
  | .nbSnapshotRead port route => Sys2Proof.Machine.execNbSnapshotRead port route s
  | .radioFrameRx port rx answer us => Sys2Proof.Machine.execRadioFrameRx port rx answer us s
  | .seenKeyExpiry port => Sys2Proof.Machine.execSeenKeyExpiry port s
  | .iqLaneTrained port dly bad => Sys2Proof.Machine.execIqLaneTrained port dly bad s
  | .iqLockTimeout port => Sys2Proof.Machine.execIqLockTimeout port s
  | .iqLockLost lost => Sys2Proof.Machine.execIqLockLost lost s
  | .spiIrqEdge port => Sys2Proof.Machine.execSpiIrqEdge port s
  | .lbtListenEnd port rssi us => Sys2Proof.Machine.execLbtListenEnd port rssi us s
  | .dutyWaitEnd port => Sys2Proof.Machine.execDutyWaitEnd port s
  | .agreedSlot mix rssi bytes us => Sys2Proof.Machine.execAgreedSlot mix rssi bytes us s
  | .slotAnswerTimeout mix => Sys2Proof.Machine.execSlotAnswerTimeout mix s
  | .wmbFrameLate mix => Sys2Proof.Machine.execWmbFrameLate mix s
  | .rendezvousWindowOpen mix => Sys2Proof.Machine.execRendezvousWindowOpen mix s
  | .rendezvousWindowClose mix => Sys2Proof.Machine.execRendezvousWindowClose mix s
  | .frameProcess queue => Sys2Proof.Machine.execFrameProcess queue s
  | .joinRx queue moves => Sys2Proof.Machine.execJoinRx queue moves s
  | .joinTimeout mix => Sys2Proof.Machine.execJoinTimeout mix s
  | .lookupRehashDone moves => Sys2Proof.Machine.execLookupRehashDone moves s
  | .contextSnapshotStart => Sys2Proof.Machine.execContextSnapshotStart s
  | .cacheSetUnpin set => Sys2Proof.Machine.execCacheSetUnpin set s
  | .gapFill mix => Sys2Proof.Machine.execGapFill mix s
  | .veeFlagsClear => Sys2Proof.Machine.execVeeFlagsClear s
  | .intervalEventWindow => Sys2Proof.Machine.execIntervalEventWindow s
  | .balanceForm => Sys2Proof.Machine.execBalanceForm s
  | .ledgerEvaluation => Sys2Proof.Machine.execLedgerEvaluation s
  | .ledgerRecomputeDone => Sys2Proof.Machine.execLedgerRecomputeDone s
  | .booking => Sys2Proof.Machine.execBooking s
  | .tariffActivation grp => Sys2Proof.Machine.execTariffActivation grp s
  | .demandBoundary minutes => Sys2Proof.Machine.execDemandBoundary minutes s
  | .closeInstant grp => Sys2Proof.Machine.execCloseInstant grp s
  | .closeSweepEnd grp => Sys2Proof.Machine.execCloseSweepEnd grp s
  | .displayFrame => Sys2Proof.Machine.execDisplayFrame s
  | .bar4Write off val => Sys2Proof.Machine.execBar4Write off val s
  | .checkValueRecompute digest => Sys2Proof.Machine.execCheckValueRecompute digest s
  | .holdover24h => Sys2Proof.Machine.execHoldover24h s
  | .ptpMessageRx port msg => Sys2Proof.Machine.execPtpMessageRx port msg s
  | .ptpMessageTx port kind => Sys2Proof.Machine.execPtpMessageTx port kind s
  | .ptpSourceLost port => Sys2Proof.Machine.execPtpSourceLost port s
  | .leapSecond => Sys2Proof.Machine.execLeapSecond s
  | .rtcSet => Sys2Proof.Machine.execRtcSet s
  | .rateStore => Sys2Proof.Machine.execRateStore s
  | .timeSnapshotRead => Sys2Proof.Machine.execTimeSnapshotRead s
  | .hostTimerEnable unit val => Sys2Proof.Machine.execHostTimerEnable unit val s
  | .hostTimerFire timer => Sys2Proof.Machine.execHostTimerFire timer s
  | .ppsEdge n => Sys2Proof.Machine.execPpsEdge n s
  | .ppsWidthEnd n => Sys2Proof.Machine.execPpsWidthEnd n s
  | .captureEdge n rising => Sys2Proof.Machine.execCaptureEdge n rising s
  | .capturePop n => Sys2Proof.Machine.execCapturePop n s
  | .txqPop port val => Sys2Proof.Machine.execTxqPop port val s
  | .beaconDue port => Sys2Proof.Machine.execBeaconDue port s
  | .queueRefill queue => Sys2Proof.Machine.execQueueRefill queue s
  | .holdRelease queue => Sys2Proof.Machine.execHoldRelease queue s
  | .queueFlush queue val => Sys2Proof.Machine.execQueueFlush queue val s
  | .flushDone queue => Sys2Proof.Machine.execFlushDone queue s
  | .cellEccError queue item header => Sys2Proof.Machine.execCellEccError queue item header s
  | .poolScanDone queue => Sys2Proof.Machine.execPoolScanDone queue s
  | .stormWindow => Sys2Proof.Machine.execStormWindow s
  | .heatStart grp => Sys2Proof.Machine.execHeatStart grp s
  | .heatEnd grp => Sys2Proof.Machine.execHeatEnd grp s
  | .schedEntryDue mix => Sys2Proof.Machine.execSchedEntryDue mix s
  | .pushGraceExpiry mix => Sys2Proof.Machine.execPushGraceExpiry mix s
  | .censusStart => Sys2Proof.Machine.execCensusStart s
  | .ethFrameRx port frame => Sys2Proof.Machine.execEthFrameRx port frame s
  | .ethFrameTx port => Sys2Proof.Machine.execEthFrameTx port s
  | .pauseExpiry port => Sys2Proof.Machine.execPauseExpiry port s
  | .ethLinkDown port => Sys2Proof.Machine.execEthLinkDown port s
  | .ethLinkUp port speed => Sys2Proof.Machine.execEthLinkUp port speed s
  | .serdesLockLoss port => Sys2Proof.Machine.execSerdesLockLoss port s
  | .mgtTxGo port val => Sys2Proof.Machine.execMgtTxGo port val s
  | .mgtRxPop port val => Sys2Proof.Machine.execMgtRxPop port val s
  | .ethCounterSnapshotRead port counter => Sys2Proof.Machine.execEthCounterSnapshotRead port counter s
  | .flFrameRx port => Sys2Proof.Machine.execFlFrameRx port s
  | .helloKRx => Sys2Proof.Machine.execHelloKRx s
  | .keywrapRx => Sys2Proof.Machine.execKeywrapRx s
  | .helloRx => Sys2Proof.Machine.execHelloRx s
  | .welcomeRx => Sys2Proof.Machine.execWelcomeRx s
  | .flHeartbeatRx => Sys2Proof.Machine.execFlHeartbeatRx s
  | .meterUpRx => Sys2Proof.Machine.execMeterUpRx s
  | .dataAckRx => Sys2Proof.Machine.execDataAckRx s
  | .orderRx => Sys2Proof.Machine.execOrderRx s
  | .orderDoneRx => Sys2Proof.Machine.execOrderDoneRx s
  | .joinOkRx moves => Sys2Proof.Machine.execJoinOkRx moves s
  | .releaseRx => Sys2Proof.Machine.execReleaseRx s
  | .timeRecordRx => Sys2Proof.Machine.execTimeRecordRx s
  | .delayReqRx => Sys2Proof.Machine.execDelayReqRx s
  | .delayRspRx => Sys2Proof.Machine.execDelayRspRx s
  | .joinRecordRx => Sys2Proof.Machine.execJoinRecordRx s
  | .meterStsRx => Sys2Proof.Machine.execMeterStsRx s
  | .portStsRx => Sys2Proof.Machine.execPortStsRx s
  | .checkRecRx => Sys2Proof.Machine.execCheckRecRx s
  | .flTimeSend fdx => Sys2Proof.Machine.execFlTimeSend fdx s
  | .flTimeMiss => Sys2Proof.Machine.execFlTimeMiss s
  | .flHeartbeatSend fdx => Sys2Proof.Machine.execFlHeartbeatSend fdx s
  | .flLinkLost => Sys2Proof.Machine.execFlLinkLost s
  | .fdxLost fdx => Sys2Proof.Machine.execFdxLost fdx s
  | .flRtoExpiry => Sys2Proof.Machine.execFlRtoExpiry s
  | .dataAckDue fdx => Sys2Proof.Machine.execDataAckDue fdx s
  | .helloResend => Sys2Proof.Machine.execHelloResend s
  | .portStsSend => Sys2Proof.Machine.execPortStsSend s
  | .flCodeVoid => Sys2Proof.Machine.execFlCodeVoid s
  | .flPortFailback => Sys2Proof.Machine.execFlPortFailback s
  | .mediaWrite => Sys2Proof.Machine.execMediaWrite s
  | .mediaRead lu step bits overLimit => Sys2Proof.Machine.execMediaRead lu step bits overLimit s
  | .foldStart => Sys2Proof.Machine.execFoldStart s
  | .gcStart => Sys2Proof.Machine.execGcStart s
  | .gcSwitch => Sys2Proof.Machine.execGcSwitch s
  | .nandProgramFail eu what => Sys2Proof.Machine.execNandProgramFail eu what s
  | .euRefresh eu => Sys2Proof.Machine.execEuRefresh eu s
  | .wearLevelMove => Sys2Proof.Machine.execWearLevelMove s
  | .historyRelease => Sys2Proof.Machine.execHistoryRelease s
  | .billingSnapshot => Sys2Proof.Machine.execBillingSnapshot s
  | .nandChannelFail n => Sys2Proof.Machine.execNandChannelFail n s
  | .ftlFormatRequest val => Sys2Proof.Machine.execFtlFormatRequest val s
  | .ftlFormatCancel val => Sys2Proof.Machine.execFtlFormatCancel val s
  | .claimInChange level stays => Sys2Proof.Machine.execClaimInChange level stays s
  | .arbListenEnd => Sys2Proof.Machine.execArbListenEnd s
  | .arbRx hdr rootValid lastStroke side serial => Sys2Proof.Machine.execArbRx hdr rootValid lastStroke side serial s
  | .arbClaimInstant => Sys2Proof.Machine.execArbClaimInstant s
  | .pairHeartbeatSend => Sys2Proof.Machine.execPairHeartbeatSend s
  | .pairHeartbeatRx hdr peer => Sys2Proof.Machine.execPairHeartbeatRx hdr peer s
  | .pairHeartbeatMiss => Sys2Proof.Machine.execPairHeartbeatMiss s
  | .claimTimerExpiry => Sys2Proof.Machine.execClaimTimerExpiry s
  | .claimLowTimeout => Sys2Proof.Machine.execClaimLowTimeout s
  | .strokeCycleClose => Sys2Proof.Machine.execStrokeCycleClose s
  | .deltaRx hdr recs => Sys2Proof.Machine.execDeltaRx hdr recs s
  | .endRx hdr count hashOk => Sys2Proof.Machine.execEndRx hdr count hashOk s
  | .ackRx hdr => Sys2Proof.Machine.execAckRx hdr s
  | .strokeCycleEnd => Sys2Proof.Machine.execStrokeCycleEnd s
  | .jmirRx hdr entries => Sys2Proof.Machine.execJmirRx hdr entries s
  | .jackRx hdr seq => Sys2Proof.Machine.execJackRx hdr seq s
  | .creditRx hdr cells => Sys2Proof.Machine.execCreditRx hdr cells s
  | .creditSend => Sys2Proof.Machine.execCreditSend s
  | .yieldRx hdr => Sys2Proof.Machine.execYieldRx hdr s
  | .swapRx hdr => Sys2Proof.Machine.execSwapRx hdr s
  | .swapTimeout => Sys2Proof.Machine.execSwapTimeout s
  | .catchupRequest hdr => Sys2Proof.Machine.execCatchupRequest hdr s
  | .catchupRx hdr recs => Sys2Proof.Machine.execCatchupRx hdr recs s
  | .catchupDone => Sys2Proof.Machine.execCatchupDone s
  | .drillRx hdr step means result finds => Sys2Proof.Machine.execDrillRx hdr step means result finds s
  | .drillWindow => Sys2Proof.Machine.execDrillWindow s
  | .drillHoldEnd => Sys2Proof.Machine.execDrillHoldEnd s
  | .pairLaneLoss lane => Sys2Proof.Machine.execPairLaneLoss lane s
  | .pairLaneReturn lane => Sys2Proof.Machine.execPairLaneReturn lane s
  | .pairForce val => Sys2Proof.Machine.execPairForce val s
  | .parDeltaClear val => Sys2Proof.Machine.execParDeltaClear val s
  | .rootGenerate val => Sys2Proof.Machine.execRootGenerate val s
  | .rootCloneSend val => Sys2Proof.Machine.execRootCloneSend val s
  | .rootCloneRecv val => Sys2Proof.Machine.execRootCloneRecv val s
  | .cloneFrameRx body => Sys2Proof.Machine.execCloneFrameRx body s
  | .rootZeroise val => Sys2Proof.Machine.execRootZeroise val s
  | .cloneCodeWrite n val => Sys2Proof.Machine.execCloneCodeWrite n val s
  | .cloneCodeVoid => Sys2Proof.Machine.execCloneCodeVoid s
  | .ktkClearLoad val => Sys2Proof.Machine.execKtkClearLoad val s
  | .ktkWrappedLoad val => Sys2Proof.Machine.execKtkWrappedLoad val s
  | .ktkErase val => Sys2Proof.Machine.execKtkErase val s
  | .tamperLatchClear val => Sys2Proof.Machine.execTamperLatchClear val s
  | .tamperInputTrip n => Sys2Proof.Machine.execTamperInputTrip n s
  | .tamperMeshTrip => Sys2Proof.Machine.execTamperMeshTrip s
  | .tamperTempTrip temp => Sys2Proof.Machine.execTamperTempTrip temp s
  | .tamperVoltageTrip core sram => Sys2Proof.Machine.execTamperVoltageTrip core sram s
  | .tamperBatteryTrip vbat => Sys2Proof.Machine.execTamperBatteryTrip vbat s
  | .tamperRootClockTrip khz => Sys2Proof.Machine.execTamperRootClockTrip khz s
  | .authRateWindow => Sys2Proof.Machine.execAuthRateWindow s
  | .metChOutput ch bits overload => Sys2Proof.Machine.execMetChOutput ch bits overload s
  | .swapArm ch val => Sys2Proof.Machine.execSwapArm ch val s
  | .metTrimGainWrite ch gain val => Sys2Proof.Machine.execMetTrimGainWrite ch gain val s
  | .bankActiveWrite ch word val => Sys2Proof.Machine.execBankActiveWrite ch word val s
  | .bitstreamStuck ch => Sys2Proof.Machine.execBitstreamStuck ch s
  | .bitstreamRecover ch => Sys2Proof.Machine.execBitstreamRecover ch s
  | .cmSecond cm => Sys2Proof.Machine.execCmSecond cm s
  | .cmIntervalClose cm => Sys2Proof.Machine.execCmIntervalClose cm s
  | .functionEnable fix val => Sys2Proof.Machine.execFunctionEnable fix val s
  | .functionDisable fix val => Sys2Proof.Machine.execFunctionDisable fix val s
  | .functionStarted fix nand => Sys2Proof.Machine.execFunctionStarted fix nand s
  | .functionStopped fix => Sys2Proof.Machine.execFunctionStopped fix s
  | .functionStartTimeout fix => Sys2Proof.Machine.execFunctionStartTimeout fix s
  | .functionReset val => Sys2Proof.Machine.execFunctionReset val s
  | .softReset val => Sys2Proof.Machine.execSoftReset val s
  | .resetNAssert => Sys2Proof.Machine.execResetNAssert s
  | .perstNAssert => Sys2Proof.Machine.execPerstNAssert s
  | .pcieHotReset => Sys2Proof.Machine.execPcieHotReset s
  | .flr => Sys2Proof.Machine.execFlr s
  | .resetRelease resetN perstN => Sys2Proof.Machine.execResetRelease resetN perstN s
  | .powerUp offS cold resetN perstN pwrFailN => Sys2Proof.Machine.execPowerUp offS cold resetN perstN pwrFailN s
  | .boot env => Sys2Proof.Machine.execBoot env s
  | .bootRetry => Sys2Proof.Machine.execBootRetry s
  | .restoreDone => Sys2Proof.Machine.execRestoreDone s
  | .spareInitDone => Sys2Proof.Machine.execSpareInitDone s
  | .pwrFailFall => Sys2Proof.Machine.execPwrFailFall s
  | .powerFailCommitDone us => Sys2Proof.Machine.execPowerFailCommitDone us s
  | .pwrFailRise => Sys2Proof.Machine.execPwrFailRise s
  | .railTrip rails => Sys2Proof.Machine.execRailTrip rails s
  | .holdupSample mv => Sys2Proof.Machine.execHoldupSample mv s
  | .pwrTempClear val => Sys2Proof.Machine.execPwrTempClear val s
  | .pllLockLoss mem => Sys2Proof.Machine.execPllLockLoss mem s
  | .coreWatchdogExpiry core => Sys2Proof.Machine.execCoreWatchdogExpiry core s
  | .sramEccUncorrected array => Sys2Proof.Machine.execSramEccUncorrected array s
  | .lpddr5EccUncorrected region item => Sys2Proof.Machine.execLpddr5EccUncorrected region item s
  | .emramEccUncorrected area => Sys2Proof.Machine.execEmramEccUncorrected area s
  | .billingAccessRefused initiator => Sys2Proof.Machine.execBillingAccessRefused initiator s
  | .junctionOvertemp tj => Sys2Proof.Machine.execJunctionOvertemp tj s
  | .fltSelfFault reg => Sys2Proof.Machine.execFltSelfFault reg s
  | .faultPulseEnd => Sys2Proof.Machine.execFaultPulseEnd s
  | .autoResetExpiry => Sys2Proof.Machine.execAutoResetExpiry s
  | .pwrCycleRequest val => Sys2Proof.Machine.execPwrCycleRequest val s
  | .faultNDrive val => Sys2Proof.Machine.execFaultNDrive val s
  | .degradedClear val => Sys2Proof.Machine.execDegradedClear val s
  | .evrFreeze val => Sys2Proof.Machine.execEvrFreeze val s
  | .freezeMaxExpiry => Sys2Proof.Machine.execFreezeMaxExpiry s
  | .evrSnapshotRead => Sys2Proof.Machine.execEvrSnapshotRead s
  | .optimeSave => Sys2Proof.Machine.execOptimeSave s
  | .fltCounterClear counter val => Sys2Proof.Machine.execFltCounterClear counter val s
  | .activationReset => Sys2Proof.Machine.execActivationReset s
  | .hitlessStep => Sys2Proof.Machine.execHitlessStep s
  | .hitlessStop => Sys2Proof.Machine.execHitlessStop s
  | .pairImageRx pause offset total bytes => Sys2Proof.Machine.execPairImageRx pause offset total bytes s
  | .tftpRecoveryRead block => Sys2Proof.Machine.execTftpRecoveryRead block s
  | .recoveryInstall => Sys2Proof.Machine.execRecoveryInstall s
  | .imageWindowOpen grp => Sys2Proof.Machine.execImageWindowOpen grp s
  | .imageWindowClose grp => Sys2Proof.Machine.execImageWindowClose grp s
  | .imagePassStart grp port fdx => Sys2Proof.Machine.execImagePassStart grp port fdx s
  | .mainSupplyLoss => Sys2Proof.Machine.execMainSupplyLoss s
  | .rtcOscillatorStop => Sys2Proof.Machine.execRtcOscillatorStop s
  | .radioTxEnd port => Sys2Proof.Machine.execRadioTxEnd port s
  | .transactionDeadline pair => Sys2Proof.Machine.execTransactionDeadline pair s
  | .orderDeadline order => Sys2Proof.Machine.execOrderDeadline order s
  | .snapshotComplete => Sys2Proof.Machine.execSnapshotComplete s
  | .faultHistSnapshotRead => Sys2Proof.Machine.execFaultHistSnapshotRead s
  | .metSampleSnapshotRead ch => Sys2Proof.Machine.execMetSampleSnapshotRead ch s
  | .cmLastSnapshotRead cm => Sys2Proof.Machine.execCmLastSnapshotRead cm s
  | .nodeDataSnapshotRead => Sys2Proof.Machine.execNodeDataSnapshotRead s

end Sys2Proof.Machine
end

