-- ==== Sys2Proof/Safety.lean ====
section
/-! DEFINITION. Sys2Proof/Safety.lean: what a safe run is, and the terms in which statements speak of a command: the outcome it has, and the
parts of the device it leaves as they were. -/

namespace Sys2Proof.Machine

/-! ## The outcome of a command -/

/-- The state with another device: die, battery domain and queue as they were. -/
def State.withDev (s : State) (d : Dev) : State := { s with dev := d }

/-- A command runs and leaves this device; die, battery domain and queue stay as they were. -/
def Runs (c : Instr) (s : State) (d : Dev) : Prop := exec c s = .next (s.withDev d)

/-! ## Parts of the device -/

/-- The parts of the device. -/
inductive Part where
  /-- the grade -/
  | grade
  /-- the register file -/
  | regs
  /-- the configuration store -/
  | store
  /-- registers whose change has not reached the store -/
  | dirty
  /-- the functions' lifecycle -/
  | fn
  /-- resets, boot and supplies -/
  | glb
  /-- the Time engine -/
  | tim
  /-- ring pairs, vectors, fetch engine -/
  | rng
  /-- the Lane manager's queues -/
  | lne
  /-- the event recorder -/
  | evr
  /-- the Fault collector -/
  | flt
  /-- the Context engine -/
  | ctx
  /-- the Weigh-in partition -/
  | tar
  /-- the pair unit -/
  | par
  /-- the Media manager -/
  | ftl
  /-- what NAND holds -/
  | nand
  /-- the Security engine -/
  | sec
  /-- the Heat scheduler -/
  | sch
  /-- meter images -/
  | img
  /-- line ports -/
  | lcp
  /-- radio ports -/
  | rad
  /-- slot calendars -/
  | cals
  /-- the Ledger -/
  | ldg
  /-- the Catch chain -/
  | met
  /-- Ethernet ports -/
  | eth
  /-- the field link -/
  | fl
  /-- firmware packages -/
  | upd
  /-- the counter that numbers free values -/
  | freeCtr
  /-- what goes out -/
  | out
  deriving DecidableEq, Repr

/-- Two devices agree on a part. -/
def Part.same (p : Part) (d e : Dev) : Prop :=
  match p with
  | .grade => e.grade = d.grade
  | .regs => e.regs = d.regs
  | .store => e.store = d.store
  | .dirty => e.dirty = d.dirty
  | .fn => e.fn = d.fn
  | .glb => e.glb = d.glb
  | .tim => e.tim = d.tim
  | .rng => e.rng = d.rng
  | .lne => e.lne = d.lne
  | .evr => e.evr = d.evr
  | .flt => e.flt = d.flt
  | .ctx => e.ctx = d.ctx
  | .tar => e.tar = d.tar
  | .par => e.par = d.par
  | .ftl => e.ftl = d.ftl
  | .nand => e.nand = d.nand
  | .sec => e.sec = d.sec
  | .sch => e.sch = d.sch
  | .img => e.img = d.img
  | .lcp => e.lcp = d.lcp
  | .rad => e.rad = d.rad
  | .cals => e.cals = d.cals
  | .ldg => e.ldg = d.ldg
  | .met => e.met = d.met
  | .eth => e.eth = d.eth
  | .fl => e.fl = d.fl
  | .upd => e.upd = d.upd
  | .freeCtr => e.freeCtr = d.freeCtr
  | .out => e.out = d.out

/-- From the first device to the second, at most the listed parts change. -/
def Keeps (ps : List Part) (d e : Dev) : Prop := ∀ p : Part, p ∉ ps → p.same d e

/-- A command runs; at most the listed parts of the device change, die, battery domain and queue not, and the device after it satisfies `post`. -/
def Does (c : Instr) (s : State) (ps : List Part) (post : Dev → Prop) : Prop := ∃ d, Runs c s d ∧ Keeps ps s.dev d ∧ post d

/-- A command runs and leaves the battery domain as `b`; at most the listed parts of the device change, die and queue not, and the device
after it satisfies `post`. -/
def DoesBat (c : Instr) (s : State) (b : Bat) (ps : List Part) (post : Dev → Prop) : Prop :=
  ∃ d, exec c s = .next { s with bat := b, dev := d } ∧ Keeps ps s.dev d ∧ post d

/-- A command runs and leaves the die's fuses as `x`; at most the listed parts of the device change, battery domain and queue not, and the
device after it satisfies `post`. -/
def DoesDie (c : Instr) (s : State) (x : Die) (ps : List Part) (post : Dev → Prop) : Prop :=
  ∃ d, exec c s = .next { s with die := x, dev := d } ∧ Keeps ps s.dev d ∧ post d

/-- The battery domain after a zeroisation of a powered device (R288, R289). -/
def Bat.zeroised (b : Bat) (source time : Nat) : Bat :=
  { b with root := none, ktk := none, latch := true, source := source, count := min 4095 (b.count + 1), time := time }

/-- The device serves commands, and a command with opcode `op` on pair `p` takes the descriptor `h`, which passes the checks before its
opcode acts (R44, R76 to R79). -/
def State.takes (s : State) (p op : Nat) (h : Held) : Prop :=
  s.dev.live = true ∧ s.dev.startable p (fun x => descOp x = op) = some h ∧ s.dev.refusal h.desc = none

/-- A command acts for the descriptor `h` of pair `p` and completes it with OK and this result (R80): beside the rings and the registers at
most the listed parts change, the pair is left as that completion leaves it, and the device after it satisfies `post`. -/
def Completes (c : Instr) (s : State) (p : Nat) (h : Held) (res : List Nat) (ps : List Part) (post : Dev → Prop) : Prop :=
  Does c s (.rng :: .regs :: ps) (fun d => d.pair p = (s.dev.complete p h.id 0 0 res).pair p ∧ post d)

/-- From the first device to the second, every ring pair but one is as before. -/
def OtherPairs (p : Nat) (d e : Dev) : Prop := ∀ j, j ≠ p → e.pair j = d.pair j

/-- From the first device to the second, every function but one is as before. -/
def OtherFns (fix : Nat) (d e : Dev) : Prop := ∀ j, j ≠ fix → e.fnOf j = d.fnOf j

/-- From the first device to the second, every register but the listed offsets reads as before. -/
def KeepsRegs (offs : List Nat) (d e : Dev) : Prop := ∀ off, off ∉ offs → e.word off = d.word off

/-- RTYPE of a field-link record (R489); 256 and more for a type that is not defined. -/
def rtype : FlRec → Nat
  | .helloK _ _ => 0x01
  | .keyWrap _ _ => 0x02
  | .hello _ _ => 0x03
  | .welcome _ _ _ => 0x04
  | .heartbeat => 0x05
  | .meterUp .. => 0x10
  | .dataAck _ _ => 0x11
  | .order .. => 0x20
  | .orderDone .. => 0x21
  | .joinOk _ _ _ => 0x22
  | .release _ _ _ => 0x23
  | .time .. => 0x30
  | .delayReq _ => 0x31
  | .delayRsp _ _ => 0x32
  | .join .. => 0x40
  | .meterSts .. => 0x50
  | .portSts _ => 0x51
  | .checkRec _ _ => 0x60
  | .unknown t => 256 + t

/-- The device processes frames, and this is the oldest record of its type that waits: field device, port, receive timestamp, record. -/
def Dev.hears (d : Dev) (e : Nat × Nat × Nat × FlRec) : Prop :=
  d.serves = true ∧ d.fl.inbox.find? (fun x => decide (rtype x.2.2.2 = rtype e.2.2.2)) = some e

/-- The records of a frame that go to their commands: those of a defined type (R488). -/
def known (f : FlFrame) (p rx : Nat) : List (Nat × Nat × Nat × FlRec) :=
  (f.recs.filter (fun r => decide (rtype r < 256))).map (fun r => (f.fdx, p, rx, r))

/-- The parts that recording and reporting can change. -/
def reportParts : List Part := [.regs, .lne, .evr, .flt, .rng, .out, .freeCtr]

/-- The parts that a record on the field link can change besides: the link and its Ethernet ports. -/
def linkParts : List Part := [.fl, .eth] ++ reportParts

/-- The parts that a Fatal fault can change besides: the entry to the safe state, the commit, a power-cycle request (R42, R563, R564). -/
def fatalParts : List Part := [.glb, .tim, .ctx, .tar, .par, .nand, .sch, .lcp, .rad] ++ reportParts

/-- The parts that a change of the pair role can change: all but the grade, the store, the erase units, firmware packages (R545, R625). -/
def roleParts : List Part := [.regs, .dirty, .fn, .glb, .tim, .rng, .lne, .evr, .flt, .ctx, .tar, .par, .nand, .sec, .sch, .img, .lcp, .rad,
  .cals, .ldg, .met, .eth, .fl, .freeCtr, .out]

/-- What a report of a class leaves (R556): 4 the safe state, 3 the DEGRADED latch, 2 and 1 their count. -/
def Reported (cls : Nat) (d e : Dev) : Prop :=
  (cls = 4 → e.isSafe = true) ∧ (cls = 3 → e.on F.FLT_STS_DEGRADED = true)
    ∧ (cls = 2 → e.rd F.FLT_FUNCTION_CNT = min (d.rd F.FLT_FUNCTION_CNT + 1) (2 ^ F.FLT_FUNCTION_CNT.len - 1))
    ∧ (cls = 1 → e.rd F.FLT_NOTICE_CNT = min (d.rd F.FLT_NOTICE_CNT + 1) (2 ^ F.FLT_NOTICE_CNT.len - 1))

/-- The parts that a device reset starts afresh: all but the grade and the staged images. -/
def resetParts : List Part := [.regs, .store, .dirty, .fn, .glb, .tim, .rng, .lne, .evr, .flt, .ctx, .tar, .par, .ftl, .nand, .sec, .sch, .lcp,
  .rad, .cals, .ldg, .met, .eth, .fl, .upd, .freeCtr, .out]

/-- A device after a device reset of this cause (R583, R584, R615 to R618): it boots once every source is released; every function is OFF,
rings and queues are empty, every register but the counters that a reset keeps has its stored setting. A device that committed with the safe
state keeps store, media, records and fault history as they were. -/
def ResetWith (cause : Nat) (d e : Dev) : Prop :=
  e.glb.cause = cause ∧ e.glb.phase = (if e.released_ then .booting else .held) ∧ e.fn = [] ∧ e.rng = {} ∧ e.lne = {}
    ∧ (∀ off, off ∉ keptRegs false → e.word off = (match e.store.find off with | some w => w.toNat | none => resetVal e.grade off))
    ∧ (d.isSafe = true → e.store = d.store ∧ e.nand = d.nand ∧ e.evr.recs = d.evr.recs ∧ e.flt.hist = d.flt.hist)

/-- Base offsets of the registers whose write is a command of its own; a write to any other register follows the access codes alone. -/
def ownWrites : List Nat :=
  [0x34, 0x38, 0x10000, 0x10024, 0x14004, 0x21004, 0x40000, 0x40004, 0x40010, 0x40020, 0x40040, 0x40070, 0x50000, 0x50030, 0x50040, 0x60000,
   0x70000, 0x70200, 0x7020C, 0x73010, 0x80080, 0x80140, 0x80184, 0x90100, 0x90108, 0x9010C, 0x90118, 0x92000, 0x98000, 0xC0008, 0xC0100,
   0xE0008, 0xE0014, 0xF0004, 0xF0008, 0xF0020, 0x100004, 0x120000, 0x130014]

/-! ## Safe runs -/

/-- The state after `n` steps, while every step answers a next state. -/
def runSteps : Nat → State → Option State
  | 0, s => some s
  | n + 1, s => match step s with | .next t => runSteps n t | _ => none

/-- Every command that waits is one that a sender can form. -/
def State.formed (s : State) : Bool := s.pending.all Instr.wf

/-- The run of `n` steps meets no fault and no refusal. -/
def SafeFor (n : Nat) (s : State) : Prop := (runSteps n s).isSome = true

/-! ## What every step keeps -/

/-- Values that the governor's fuses can hold (R202, R205): a fused entry has both hard caps at 1 or more. -/
def FusesLegal (s : State) : Prop := ∀ p w, s.die.gov.find p = some w → 1 ≤ w.1 ∧ 1 ≤ w.2

/-- What the battery domain can hold of tamper: COUNT within 4,095 and SOURCE within its codes (R289), SEC_TAMPER_CFG with DEBOUNCE 1 to 255
and its reserved bits 0 (R313). -/
def BatteryLegal (s : State) : Prop :=
  s.bat.count ≤ 4095 ∧ s.bat.source ≤ 10 ∧ 1 ≤ bitsOf s.bat.cfg 24 8 ∧ bitsOf s.bat.cfg 20 4 = 0 ∧ bitsOf s.bat.cfg 5 11 = 0
    ∧ s.bat.cfg < 2 ^ 32

end Sys2Proof.Machine
end

