-- ==== Sys2Proof/Certificates/Slice0/Obligations.lean ====
section
/-! DEFINITION. Sys2Proof/Certificates/Slice0/Obligations.lean: the statements for the provers, family by family of the command table, then
those over every step. A statement of a command says that it runs, which parts of the device it may change, and what it leaves there. -/

open Sys2Proof Sys2Proof.Machine

/-- One step with a command at the front of the queue is that command on the state with the rest of the queue. -/
def Obligations.StepTakesTheFront : Prop :=
  ∀ (c : Instr) (rest : List Instr) (s : State), step { s with pending := c :: rest } = exec c { s with pending := rest }

/-- On an empty queue one CLK_FAB cycle passes (model's choice, log 1): the monotonic count rises by one, only time moves, no record is
written, and the queue stays empty. -/
def Obligations.IdleStepIsOneCycle : Prop :=
  ∀ s : State, s.pending = [] →
    ∃ d, step s = .next (s.withDev d) ∧ Keeps [.tim, .evr] s.dev d ∧ d.tim.mono = s.dev.tim.mono + 1 ∧ d.evr.recs = s.dev.evr.recs
      ∧ d.tim.ptp = s.dev.tim.ptp ∧ d.tim.htNext = s.dev.tim.htNext

/-- A command never touches the queue of the commands that wait behind it. -/
def Obligations.CommandsLeaveTheQueue : Prop :=
  ∀ (c : Instr) (s t : State), exec c s = .next t → t.pending = s.pending

/-- Every command that a sender can form runs in every state; one that no sender can form faults, and nothing refuses. -/
def Obligations.FormedCommandsRun : Prop :=
  ∀ (c : Instr) (s : State),
    (c.wf = true → ∃ t, exec c s = .next t) ∧ (c.wf = false → ∃ m, exec c s = .fault (.illFormedCommand m))

/-- The host's doorbells and the fetch engine of a live device. SUB_TAIL of a submission pair that is ON: the tail takes the value mod 65,536, held
under the ring size, unless that would move it backwards. CMP_HEAD of a pair that is ON: the head takes the value likewise. FETCH_GRANT:
the granted pair joins the round, and the one waiting descriptor whose SEQ is the expected one is read at base + 64 × head and held last with the next number. FETCH_FAILED: the
pair is FAILED, FETCH_ERR reads 1, and the error goes out by AER. RESERVED_OPCODE: the descriptor completes with BAD_OPCODE. DIAG_ECHO: words 3 to 6 come back. -/
def Obligations.DoorbellsAndFetch : Prop :=
  (∀ (s : State) (pair : Fin 64) (val : Word), s.dev.live = true → s.dev.pairState pair = .on → s.dev.isEventPair pair = false →
    ((s.dev.pair pair).tail + s.dev.subSize pair - (s.dev.pair pair).subHead) % s.dev.subSize pair
      ≤ (min (val.toNat % 65536) (s.dev.subSize pair - 1) + s.dev.subSize pair - (s.dev.pair pair).subHead) % s.dev.subSize pair →
    Does (.doorbellSubTail pair val) s [.rng] (fun d =>
      d.pair pair = { s.dev.pair pair with tail := min (val.toNat % 65536) (s.dev.subSize pair - 1) } ∧ OtherPairs pair s.dev d))
  ∧ (∀ (s : State) (pair : Fin 64) (val : Word), s.dev.live = true → s.dev.pairState pair = .on →
    Does (.doorbellCmpHead pair val) s [.rng] (fun d =>
      (d.pair pair).cmpHead = min (val.toNat % 65536) (s.dev.cmpSize pair - 1) ∧ (d.pair pair).cmpTail = (s.dev.pair pair).cmpTail
        ∧ (d.pair pair).waiting = (s.dev.pair pair).waiting ∧ OtherPairs pair s.dev d))
  ∧ (∀ (s : State) (x : Desc) (lat p : Nat) (round : List Nat), s.dev.live = true → s.dev.grant = some (p, round) → s.dev.waitingCount p = 1 →
    grantOk [x] = true → x.word 1 % 65536 = (s.dev.pair p).expSeq →
    Does (.fetchGrant [x] lat) s [.rng, .regs, .out] (fun d =>
      d.out = .hostRead (s.dev.subAddr p ((s.dev.pair p).subHead % s.dev.subSize p)) 64 :: s.dev.out ∧ d.rng.granted = p :: round ∧ d.rng.nextId = s.dev.rng.nextId + 1
        ∧ (d.pair p).held = (s.dev.pair p).held ++ [{ id := s.dev.rng.nextId, desc := x, started := false, result := none, mute := 0 }]
        ∧ (d.pair p).subHead = ((s.dev.pair p).subHead + 1) % s.dev.subSize p ∧ (d.pair p).expSeq = ((s.dev.pair p).expSeq + 1) % 65536))
  ∧ (∀ (s : State) (pair : Fin 64) (err : AerErr), s.dev.live = true → s.dev.fetchable pair = true →
    Does (.fetchFailed (pair, err)) s (.fn :: reportParts) (fun d =>
      d.pairState pair = .failed ∧ d.on F.RNG_PAIR_STS_FETCH_ERR pair = true ∧ .aer err ∈ d.out))
  ∧ (∀ (s : State) (pair : Fin 64) (h : Held), s.dev.live = true →
    s.dev.startable pair (fun x => !opKnown s.dev.grade (descOp x)) = some h →
    Runs (.reservedOpcode pair) s (s.dev.complete pair h.id 1 0))
  ∧ (∀ (s : State) (pair : Fin 64) (h : Held), s.takes pair 0xB0 h →
    Runs (.diagEcho pair) s (s.dev.complete pair h.id 0 0 [h.desc.word 3, h.desc.word 4, h.desc.word 5, h.desc.word 6]))

/-- Completions, events and interrupts. COMPLETION_WRITE: the oldest waiting completion of a pair whose ring has room leaves the waiting list and
is written at the ring's tail with TIME and PHASE. EVENT_POST: the event at the head of the event-post queue is written to the pair that
carries its class. IRQ_MOD_TIMER: the vector fires and no entry is left unsignalled. MSIX_UNMASK: the vector is unmasked, and its pending bit is
0. STOPPING_PAIR_TIMEOUT: the pair leaves STOPPING for OFF and no completion waits. RNG_LAT_CLR and RNG_PAIR_CNT_CLEAR: what they name reads 0. -/
def Obligations.EntriesAndInterrupts : Prop :=
  (∀ (s : State) (pair : Fin 64) (c : Cmpl) (t : List Cmpl), s.dev.live = true → s.dev.posts pair = true → s.dev.cmpFull pair = false →
    (s.dev.pair pair).waiting = c :: t →
    Does (.completionWrite pair) s [.rng, .out] (fun d =>
      (d.pair pair).waiting = t ∧ (d.pair pair).cmpTail = ((s.dev.pair pair).cmpTail + 1) % s.dev.cmpSize pair
        ∧ Out.entry pair (s.dev.pair pair).cmpTail (s.dev.cmpAddr pair (s.dev.pair pair).cmpTail) ([c.tagSeq, c.st + 256 * c.op + 65536 * c.sub, c.target] ++ c.res
            ++ [s.dev.time31 % 2 ^ 31 + b2n (s.dev.pair pair).phase * 2 ^ 31]) ∈ d.out))
  ∧ (∀ (s : State) (n p : Nat) (i : Item) (e : Event), s.dev.live = true → s.dev.laneHead 13 = some (n, i) → i.payload = .event e → e.cls ≠ 0 →
    s.dev.eventPair e.cls = some p → s.dev.cmpFull p = false →
    Does .eventPost s [.lne, .rng, .out] (fun d => (d.lane 13).cells = (s.dev.lane 13).cells.eraseIdx n
      ∧ Out.entry p (s.dev.pair p).cmpTail (s.dev.cmpAddr p (s.dev.pair p).cmpTail) (e.words ++ [65536 * e.merged % 2 ^ 31 + b2n (s.dev.pair p).phase * 2 ^ 31]) ∈ d.out))
  ∧ (∀ (s : State) (pair : Fin 64) (t : Nat), s.dev.live = true → (s.dev.pair pair).oldest = some t → s.dev.rd F.RNG_IRQ_MOD_TIME pair ≠ 0 →
    Does (.irqModTimer pair) s [.rng, .out, .tim, .evr] (fun d =>
      (d.pair pair).unsig = 0 ∧ (d.pair pair).oldest = none ∧ t + 500 * s.dev.rd F.RNG_IRQ_MOD_TIME pair ≤ d.tim.mono))
  ∧ (∀ (s : State) (vec : Fin 128), s.dev.live = true →
    Does (.msixUnmask vec) s [.rng, .out] (fun d =>
      d.vec vec = { s.dev.vec vec with masked := false, pend := false }
        ∧ d.out = if (s.dev.vec vec).pend then Out.msix vec :: s.dev.out else s.dev.out))
  ∧ (∀ (s : State) (pair : Fin 64) (t : Nat), s.dev.live = true → (s.dev.pair pair).fullSince = some t → s.dev.pairState pair = .stopping →
    (s.dev.fnOf (64 + pair)).pending = false →
    Does (.stoppingPairTimeout pair) s [.rng, .regs, .fn, .tim, .evr] (fun d =>
      d.pairState pair = .off ∧ (d.pair pair).waiting = [] ∧ t + 500000000 ≤ d.tim.mono))
  ∧ (∀ (s : State) (val : Word), s.dev.live = true →
    Does (.rngLatClr val) s [.regs] (fun d => d.rd F.RNG_LAT_MEAS_MAX = 0 ∧ d.rd F.RNG_LAT_MEAS_AVG = s.dev.rd F.RNG_LAT_MEAS_AVG))
  ∧ (∀ (s : State) (pair : Fin 64) (val : Word), s.dev.live = true →
    Does (.rngPairCntClear pair val) s [.regs] (fun d =>
      d.rd F.RNG_PAIR_CNT_DB_IGNORED pair = 0 ∧ d.rd F.RNG_PAIR_CNT_TAIL_BACKS pair = 0 ∧ d.rd F.RNG_PAIR_CNT_CMP_DROP pair = 0
        ∧ KeepsRegs [0x10024 + 0x40 * pair.val] s.dev d))

/-- Accesses of the host to BAR0 of a live device. REGISTER_WRITE to a register without a command of its own: the register takes the word
that the access codes and clamps give, and no other register changes. CFG_LOCK_SET with bit 0: GLB_CFG_LOCK.LOCK reads 1. UNALIGNED_ACCESS:
a write changes nothing at all, a read returns 0. -/
def Obligations.RegisterAccesses : Prop :=
  (∀ (s : State) (off : BitVec 24) (val : Word) (r : RegDef) (i : Nat), s.dev.live = true → off.toNat % 4 = 0 →
    absentOff s.dev.grade off.toNat = false → winAt off.toNat = none → findReg off.toNat = some (r, i) → r.off ∉ ownWrites →
    Does (.registerWrite off val) s [.regs, .dirty] (fun d =>
      d.word off.toNat = s.dev.nextWord r i off.toNat val.toNat % 2 ^ 32 ∧ KeepsRegs [off.toNat] s.dev d))
  ∧ (∀ (s : State) (val : Word), s.dev.live = true → val.toNat % 2 = 1 →
    Does (.cfgLockSet val) s [.regs] (fun d => d.on F.GLB_CFG_LOCK_LOCK = true ∧ KeepsRegs [0x18] s.dev d))
  ∧ (∀ (s : State) (off : BitVec 24) (bytes : Nat), unalignedOk off bytes = true → Runs (.unalignedAccess true off bytes) s s.dev)
  ∧ (∀ (s : State) (off : BitVec 24) (bytes : Nat), unalignedOk off bytes = true →
    Does (.unalignedAccess false off bytes) s [.out] (fun d => d.out = .readData 0 :: s.dev.out))

/-- The configuration store and the opcodes CFG and DIAG on a descriptor that passes its checks. CONFIG_STORE_WRITE and CFG_COMMIT: no change is
left outside the store; CFG_COMMIT answers how many were. CFG_SET of a plain register while the lock is open: the register takes the word of the
access codes, and its read-back is answered. CFG_GET: the register's word is answered, nothing else changes. DIAG_COUNTERS: header and as
many 16-byte entries as fit go to the buffer. DIAG_LOOP: a loop holds the function. DIAG_LOOP_END: the loop is gone and its descriptor
completes with PASS, part and errors. -/
def Obligations.ConfigurationAndDiagnostics : Prop :=
  (∀ (s : State), s.dev.live = true → Does .configStoreWrite s [.store, .dirty] (fun d => d.dirty = [] ∧ d.unstored = []))
  ∧ (∀ (s : State) (pair : Fin 64) (h : Held), s.takes pair 0x02 h →
    Completes (.cfgCommit pair) s pair h [s.dev.unstored.length, 0, 0, 0] [.store, .dirty] (fun d => d.dirty = []))
  ∧ (∀ (s : State) (pair : Fin 64) (h : Held) (off i : Nat) (r : RegDef), s.takes pair 0x00 h → s.dev.cfgItem h.desc = .ok (.reg off) →
    absentOff s.dev.grade off = false → s.dev.on F.GLB_CFG_LOCK_LOCK = false → winAt off = none → findReg off = some (r, i) → r.off ∉ ownWrites →
    readEffect off = none →
    Completes (.cfgSet pair) s pair h [(s.dev.plainWrite off (h.desc.word 4)).readWord s.bat.ktk off, 0, 0, 0] [.dirty] (fun d =>
      d.word off = s.dev.nextWord r i off (h.desc.word 4) % 2 ^ 32))
  ∧ (∀ (s : State) (pair : Fin 64) (h : Held) (off : Nat), s.takes pair 0x01 h → s.dev.cfgItem h.desc = .ok (.reg off) →
    absentOff s.dev.grade off = false → readEffect off = none →
    Completes (.cfgGet pair) s pair h [s.dev.readWord s.bat.ktk off, 0, 0, 0] [] (fun _ => True))
  ∧ (∀ (s : State) (pair : Fin 64) (h : Held), s.takes pair 0xB1 h →
    Completes (.diagCounters pair) s pair h
      [16 + 16 * min ((bufLen h.desc - 16) / 16) (s.dev.fnCounters s.bat.ktk (bitsOf (h.desc.word 2) 20 8) (h.desc.word 2 % 256)).length,
       b2n (decide ((bufLen h.desc - 16) / 16 < (s.dev.fnCounters s.bat.ktk (bitsOf (h.desc.word 2) 20 8) (h.desc.word 2 % 256)).length)), 0, 0]
      [.out] (fun d => d.out.length = s.dev.out.length + 1))
  ∧ (∀ (s : State) (pair : Fin 64) (h : Held) (fix : Nat), s.takes pair 0xB2 h →
    fix = funcFix (bitsOf (h.desc.word 2) 20 8) (h.desc.word 2 % 2 ^ 20) → (loopKinds (bitsOf (h.desc.word 2) 20 8)).contains (h.desc.word 3) = true →
    s.dev.isOn fix = true → s.dev.loopMayStart fix = true →
    Does (.diagLoop pair) s [.rng, .sch] (fun d => d.rng.loops = s.dev.rng.loops ++ [(fix, h.desc.word 3, pair.val, h.id)] ∧ d.inLoop fix = true))
  ∧ (∀ (s : State) (n fix k p id : Nat) (pass : Bool) (part : BitVec 8) (errors : BitVec 16), s.dev.live = true →
    s.dev.rng.loops[n]? = some (fix, k, p, id) → ¬ (14 ≤ fix ∧ fix < 18) →
    Does (.diagLoopEnd n pass part errors) s [.rng, .regs, .sch] (fun d => d.rng.loops = s.dev.rng.loops.eraseIdx n
      ∧ d.pair p = (s.dev.complete p id 0 0
          [b2n pass + 256 * (if pass then 0xFF else part.toNat) + 65536 * errors.toNat, 0, 0, 0]).pair p))

/-- Policies and readings asked for by descriptors that pass their checks. POLICY_LOAD of a well-formed table: the group holds its clamped content, the load
count rises and is answered. POLICY_GET: a buffer of 128 bytes or more takes the table. POLICY_HOLD: the group's hold is what w3 says. READ_NOW,
WRITE_OBJ, WRITE_ACTION and WRITE_TIME of a meter that can be reached: the descriptor is started and its transaction joins those that wait. -/
def Obligations.PoliciesAndOnDemandWork : Prop :=
  (∀ (s : State) (pair : Fin 64) (bs : List Byte) (h : Held) (pol : Policy), s.takes pair 0x10 h → 128 ≤ bufLen h.desc →
    Policy.parse (padTo (bufLen h.desc) (bs.take (bufLen h.desc))) = .ok pol →
    Completes (.policyLoad pair (.data bs)) s pair h [((s.dev.grpSch (tGrp h.desc)).loads + 1) % 65536] [.sch] (fun d =>
      d.grpSch (tGrp h.desc) = { s.dev.grpSch (tGrp h.desc) with pol := pol, loads := ((s.dev.grpSch (tGrp h.desc)).loads + 1) % 65536 }))
  ∧ (∀ (s : State) (pair : Fin 64) (h : Held), s.takes pair 0x11 h → 128 ≤ bufLen h.desc → (s.dev.grpSch (tGrp h.desc)).pol.sels.length ≤ 8 →
    Completes (.policyGet pair) s pair h [128, 0] [.out] (fun d =>
      d.out = .hostWrite (bufAddr h.desc) ((s.dev.grpSch (tGrp h.desc)).pol.image (s.dev.grpSch (tGrp h.desc)).loads) :: s.dev.out))
  ∧ (∀ (s : State) (pair : Fin 64) (h : Held), s.takes pair 0x12 h →
    Completes (.policyHold pair) s pair h [] [.sch, .ctx] (fun d => (d.grpSch (tGrp h.desc)).held = decide (h.desc.word 3 % 2 = 1)))
  ∧ (∀ (s : State) (pair : Fin 64) (h : Held) (c : Ctx) (pk : Nat), s.takes pair 0x20 h → s.dev.ctxNamed (tMix h.desc) = some c → c.owned = true →
    c.port = some pk → s.dev.portOn pk = true → s.dev.on F.SEC_STS_ROOT_VALID = true → s.dev.canSend c = true → s.dev.entry (tMix h.desc) = none →
    Does (.readNow pair) s [.rng, .sch] (fun d => d.sch.wait = s.dev.sch.wait ++ [s.dev.odRead (tMix h.desc) pk c pair h]
      ∧ d.pair pair = (s.dev.markStarted pair h.id).pair pair))
  ∧ (∀ (s : State) (pair : Fin 64) (bs : List Byte) (h : Held) (c : Ctx) (pk : Nat), s.takes pair 0x30 h → s.dev.ctxNamed (tMix h.desc) = some c →
    c.owned = true → c.port = some pk → s.dev.portOn pk = true → s.dev.on F.SEC_STS_ROOT_VALID = true → s.dev.canSend c = true →
    s.dev.mute pk (tMix h.desc) = false →
    Does (.writeObj pair (.data bs)) s [.rng, .sch] (fun d =>
      d.sch.wait = s.dev.sch.wait ++ [{ s.dev.odRead (tMix h.desc) pk c pair h with
          ask := .write (h.desc.quad 8) (padTo (bufLen h.desc) (bs.take (bufLen h.desc))), sels := [] }]
        ∧ d.pair pair = (s.dev.markStarted pair h.id).pair pair))
  ∧ (∀ (s : State) (pair : Fin 64) (bs : List Byte) (h : Held) (c : Ctx) (pk : Nat), s.takes pair 0x31 h → s.dev.ctxNamed (tMix h.desc) = some c →
    c.owned = true → c.port = some pk → s.dev.portOn pk = true → s.dev.on F.SEC_STS_ROOT_VALID = true → s.dev.canSend c = true →
    s.dev.mute pk (tMix h.desc) = false →
    Does (.writeAction pair (.data bs)) s [.rng, .sch] (fun d =>
      d.sch.wait = s.dev.sch.wait ++ [{ s.dev.odRead (tMix h.desc) pk c pair h with
          ask := .action (h.desc.quad 8) (padTo (bufLen h.desc) (bs.take (bufLen h.desc))), sels := [] }]
        ∧ d.pair pair = (s.dev.markStarted pair h.id).pair pair))
  ∧ (∀ (s : State) (pair : Fin 64) (h : Held) (c : Ctx) (pk : Nat), s.takes pair 0x32 h → s.dev.ctxNamed (tMix h.desc) = some c → c.owned = true →
    c.port = some pk → s.dev.portOn pk = true → s.dev.on F.SEC_STS_ROOT_VALID = true → s.dev.canSend c = true → s.dev.mute pk (tMix h.desc) = false →
    Does (.writeTime pair) s [.rng, .sch] (fun d =>
      d.sch.wait = s.dev.sch.wait ++ [{ s.dev.odRead (tMix h.desc) pk c pair h with ask := .setTime, sels := [] }]
        ∧ d.pair pair = (s.dev.markStarted pair h.id).pair pair))

/-- Heats of a live device. HEAT_START of a group without an open heat: one is open, under the latest loaded policy, at or after the group's instant.
HEAT_END: the heat is over, not before its end. SCHED_ENTRY_DUE outside a storm: the entry waits for its port. PUSH_GRACE_EXPIRY: the entry is read
from now on. CENSUS_START: step h has ended and every group without an open heat opens one. STORM_WINDOW: the next window starts with no alarm
counted. -/
def Obligations.Heats : Prop :=
  (∀ (s : State) (grp : Fin 4096), s.dev.live = true → s.dev.glb.stepH = true → (s.dev.grpSch grp).heat = none →
    Does (.heatStart grp) s [.tim, .evr, .sch, .ctx, .regs] (fun d =>
      ((d.grpSch grp).heat.map (fun x => (x.pol, x.census))) = some ((s.dev.grpSch grp).pol, false) ∧ (d.grpSch grp).cur = (s.dev.grpSch grp).pol))
  ∧ (∀ (s : State) (grp : Fin 4096) (x : Heat), s.dev.live = true → (s.dev.grpSch grp).heat = some x → x.census = false →
    Does (.heatEnd grp) s [.tim, .evr, .sch, .ctx, .lcp] (fun d => (d.grpSch grp).heat = none ∧ x.until_ ≤ d.tim.mono))
  ∧ (∀ (s : State) (mix : BitVec 20) (e : Entry), s.dev.serves = true → s.dev.entry mix.toNat = some e → e.push = false → e.fallen = false →
    s.dev.heatState mix.toNat = 1 ∨ s.dev.heatState mix.toNat = 3 → s.dev.storm = false →
    Does (.schedEntryDue mix) s [.tim, .evr, .sch] (fun d => d.entry mix.toNat = some { e with fallen := true } ∧ e.due ≤ d.tim.mono))
  ∧ (∀ (s : State) (mix : BitVec 20) (e : Entry) (c : Ctx) (x : Heat), s.dev.serves = true → s.dev.entry mix.toNat = some e →
    s.dev.ctxAt mix.toNat = some c → (s.dev.grpSch e.grp).heat = some x → e.push = true → x.pol.method = 1 →
    (s.dev.toNs ((c.firstEnd + x.pol.pushGrace) * 1000000000)).tim.mono < x.until_ → s.dev.mute e.port mix.toNat = false →
    Does (.pushGraceExpiry mix) s [.tim, .evr, .sch, .ctx, .regs] (fun d => (d.entry mix.toNat).map (fun y => y.push) = some false))
  ∧ (∀ (s : State), s.dev.live = true → s.dev.glb.stepG = true → s.dev.glb.stepC = true → s.dev.glb.stepH = false → s.dev.mustered = true →
    s.dev.portsServe = true →
    Does .censusStart s [.glb, .sch, .ctx, .regs] (fun d => d.glb.stepH = true ∧ d.glb.censusOn = true ∧ d.glb.censusOpen = 4096
      ∧ ∀ g : Fin 4096, (d.grpSch g).heat.isSome = true))
  ∧ (∀ (s : State), s.dev.live = true →
    Does .stormWindow s (.tim :: .sch :: .ctx :: reportParts) (fun d =>
      d.sch.alarms = 0 ∧ d.sch.window = d.tim.mono ∧ s.dev.sch.window + 500000000 ≤ d.tim.mono))

/-- The context engine. CTX_GET of a context in use: its image goes to the buffer, its state is answered. CTX_ADMIT of an unknown key where the table
and the lookup have room: the lowest free MIX is in use with that key, and is answered. CTX_RETIRE of a meter whose booking waits: the context is
RETIRING, its heat entry is gone, its retirement waits. CTX_OWNER of a meter that nothing else works for: the owner is the one given. JOIN_TIMEOUT
of a join from FREE: the context is FREE again. LOOKUP_REHASH_DONE: the rebuild is over, and every key still leads where it led. CACHE_SET_UNPIN: a waiting fetch takes a way of its set. -/
def Obligations.ContextDescriptors : Prop :=
  (∀ (s : State) (pair : Fin 64) (h : Held) (c : Ctx), s.takes pair 0x70 h → s.dev.ctxAt (tMix h.desc) = some c → c.st ≠ 5 → 256 ≤ bufLen h.desc →
    Completes (.ctxGet pair) s pair h [c.st] [.out] (fun d =>
      d.out = .hostWrite (bufAddr h.desc) ((c.authImage (tMix h.desc)).take (bufLen h.desc)) :: s.dev.out))
  ∧ (∀ (s : State) (pair : Fin 64) (moves : List (Fin 4)) (h : Held), s.takes pair 0x71 h → h.desc.word 8 ≤ 4095 →
    s.dev.ownerOk (h.desc.word 9) = true → s.dev.lookup (bitsOf (h.desc.word 10) 4 1) (h.desc.quad 6) = none → s.dev.ctxUsed < s.dev.ctxLimit →
    s.dev.ctx.rehash = false → s.dev.stashUsed < 1024 → s.dev.par.en = false →
    Completes (.ctxAdmit pair moves) s pair h [s.dev.freeMix] (.ctx :: .tar :: .ldg :: .img :: reportParts) (fun d =>
      (d.ctxAt s.dev.freeMix).isSome = true ∧ d.lookup (bitsOf (h.desc.word 10) 4 1) (h.desc.quad 6) = some s.dev.freeMix))
  ∧ (∀ (s : State) (pair : Fin 64) (h : Held) (c : Ctx), s.takes pair 0x72 h → s.dev.ctxNamed (tMix h.desc) = some c → c.owned = true →
    s.dev.ctx.owners = [] → s.dev.ctx.retire = [] → s.dev.bookingDue (tMix h.desc) = true →
    Does (.ctxRetire pair) s (.sch :: .lcp :: .ctx :: .img :: reportParts) (fun d =>
      (d.ctxAt (tMix h.desc)).map (fun x => x.st % 16) = some 5 ∧ d.entry (tMix h.desc) = none
        ∧ d.ctx.retire = [(tMix h.desc, some (pair.val, h.id), none)]))
  ∧ (∀ (s : State) (pair : Fin 64) (h : Held) (c : Ctx), s.takes pair 0x73 h → s.dev.ctxNamed (tMix h.desc) = some c → c.owner = 0xFFFF →
    s.dev.ownerOk (h.desc.word 6) = true → s.dev.ctx.owners = [] → s.dev.ctx.retire = [] →
    s.dev.busyMix (tMix h.desc) = false →
    Does (.ctxOwner pair) s [.rng, .regs, .ctx] (fun d =>
      (d.ctxAt (tMix h.desc)).map (fun x => x.owner % 65536) = some (h.desc.word 6) ∧ d.ctx.owners = []))
  ∧ (∀ (s : State) (mix : BitVec 20) (t : Nat), s.dev.live = true → s.dev.ctx.joins.find mix.toNat = some (0, t, none) →
    Does (.joinTimeout mix) s [.tim, .evr, .ctx, .sec, .sch, .lcp, .cals, .img] (fun d =>
      d.ctxAt mix.toNat = none ∧ d.ctx.joins.find mix.toNat = none ∧ t + s.dev.rd F.CTX_STATE_CFG_JOIN_TIMEOUT * 500000000 ≤ d.tim.mono))
  ∧ (∀ (s : State) (moves : List (List (Fin 4))), s.dev.live = true → s.dev.ctx.rehash = true →
    Does (.lookupRehashDone moves) s [.ctx] (fun d => d.ctx.rehash = false
      ∧ d.ctx.index.map (fun e => (e.kind, e.addr, e.mix)) = s.dev.ctx.index.map (fun e => (e.kind, e.addr, e.mix))))
  ∧ (∀ (s : State) (set : Fin 2048) (m : Nat), s.dev.live = true → s.dev.ctx.waits.find? (fun x => x % 2048 = set.val) = some m →
    (s.dev.ctx.cache.getD set.val []).any (fun w => !s.dev.pinned w) = true →
    Does (.cacheSetUnpin set) s [.ctx, .regs] (fun d => d.ctx.waits = s.dev.ctx.waits.filter (fun x => x ≠ m) ∧ m ∈ d.ctx.cache.getD set.val []))

/-- Tariff tables and device time by descriptor. TARIFF_LOAD of a well-formed table on a single device: it is staged, without an activation, and the
descriptor waits for NAND. TARIFF_ACTIVATE of a staged table: its instant is the given one, not before now, and is journalled. TARIFF_GET without a staged table: the table in
force goes to the buffer. TIME_CONFIRM of the pending step: no step is pending. -/
def Obligations.TariffDescriptors : Prop :=
  (∀ (s : State) (pair : Fin 64) (bs : List Byte) (h : Held) (t : TarTable), s.takes pair 0x40 h → 2240 ≤ bufLen h.desc →
    TarTable.parse (padTo (bufLen h.desc) (bs.take (bufLen h.desc))) = .ok t → s.dev.par.en = false →
    (s.dev.setGrpTar (tGrp h.desc) { s.dev.grpTar (tGrp h.desc) with staged := none, actAt := none }).slotTables.length < 96 →
    Does (.tariffLoad pair (.data bs)) s (.tar :: reportParts) (fun d =>
      d.grpTar (tGrp h.desc) = { s.dev.grpTar (tGrp h.desc) with staged := some t, actAt := none }
        ∧ d.tar.loads = s.dev.tar.loads ++ [{ pair := pair.val, id := h.id, seq := s.dev.tar.jseq + 1, crc := crc32 t.image }] ∧ d.pair pair = (s.dev.markStarted pair h.id).pair pair))
  ∧ (∀ (s : State) (pair : Fin 64) (h : Held), s.takes pair 0x41 h → (s.dev.grpTar (tGrp h.desc)).staged.isSome = true → s.dev.par.en = false →
    Completes (.tariffActivate pair) s pair h [] (.tar :: reportParts) (fun d => d.tar.jseq = s.dev.tar.jseq + 1
      ∧ d.grpTar (tGrp h.desc) = { s.dev.grpTar (tGrp h.desc) with actAt := some (max s.dev.nowNs (h.desc.quad 3)) }))
  ∧ (∀ (s : State) (pair : Fin 64) (h : Held), s.takes pair 0x42 h → (s.dev.grpTar (tGrp h.desc)).staged = none → 2208 ≤ bufLen h.desc →
    Completes (.tariffGet pair) s pair h [(s.dev.grpTar (tGrp h.desc)).table.image.length] [.out] (fun d =>
      d.out = .hostWrite (bufAddr h.desc) ((s.dev.grpTar (tGrp h.desc)).table.image.take (bufLen h.desc)) :: s.dev.out))
  ∧ (∀ (s : State) (pair : Fin 64) (h : Held), s.takes pair 0x43 h → s.dev.tar.stepPend ≠ 0 →
    (signed 64 (h.desc.quad 3) - s.dev.tar.stepPend).natAbs ≤ 1000000000 →
    Completes (.timeConfirm pair) s pair h [] (.tar :: .tim :: reportParts) (fun d => d.tar.stepPend = 0 ∧ d.tim.freeStep = (s.dev.tim.freeStep || s.dev.noTime)))

/-- The Weigh-in core of a single device. BOOKING under a standing check value: the entry at the head of the booking queue is taken and booked, with one
journal entry. TARIFF_ACTIVATION under valid time: the staged table is in force. DEMAND_BOUNDARY: one marker is journalled. CLOSE_INSTANT: the
sweep of the group runs. CLOSE_SWEEP_END: the sweep is over and CLOSE_AT holds its instant. DISPLAY_FRAME: the frame goes out, the types alternate.
BAR4_WRITE: counted, nothing else. CHECK_VALUE_RECOMPUTE: a digest that matches changes nothing but its time; one that does not withdraws CHECK_OK;
behind other work of the Security engine it waits, for 60 s at most. -/
def Obligations.WeighInCore : Prop :=
  (∀ (s : State) (n pr by_ : Nat) (b : BookEntry) (e : Ext) (c : Ctx), s.dev.tarWorks = true → s.dev.tar.checkOk = true → s.dev.journalFull = false →
    s.dev.laneHead 10 = some (n, ⟨pr, by_, .booking b⟩) → s.dev.ext b.mix = some e → e.st = 1 → s.dev.ctxAt b.mix = some c → s.dev.books b e = true →
    s.dev.sweepOf c.grp = none → s.dev.ctx.owners = [] → s.dev.ctx.retire = [] → s.dev.par.en = false →
    Does .booking s (.tar :: .ldg :: reportParts) (fun d => (d.lane 10).cells = (s.dev.lane 10).cells.eraseIdx n
      ∧ d.tar.jseq = s.dev.tar.jseq + 1 ∧ (d.ext b.mix).isSome = true))
  ∧ (∀ (s : State) (grp : Fin 4096) (t : Nat) (tab : TarTable), s.dev.tarWorks = true → s.dev.timeValid = true →
    (s.dev.grpTar grp).actAt = some t → (s.dev.grpTar grp).staged = some tab → s.dev.par.en = false →
    Does (.tariffActivation grp) s (.tim :: .tar :: reportParts) (fun d =>
      (d.grpTar grp).inForce = some tab ∧ (d.grpTar grp).staged = none ∧ (d.grpTar grp).actAt = none ∧ d.tar.jseq = s.dev.tar.jseq + 1))
  ∧ (∀ (s : State) (minutes : Nat), demandOk minutes = true → s.dev.tarWorks = true → s.dev.par.en = false →
    Does (.demandBoundary minutes) s (.tim :: .tar :: reportParts) (fun d => d.tar.jseq = s.dev.tar.jseq + 1 ∧ d.tar.ext = s.dev.tar.ext))
  ∧ (∀ (s : State) (grp : Fin 4096) (i : Nat), s.dev.tarWorks = true → s.dev.timeValid = true → s.dev.sweepOf grp = none →
    (s.dev.grpTar grp).staged = none → (s.dev.grpTar grp).closeDue = some i →
    Does (.closeInstant grp) s [.tim, .evr, .tar, .regs] (fun d => (d.sweepOf grp).map (fun w => w.instant) = some i
      ∧ (d.grpTar grp).lastClose = i ∧ d.on F.TAR_STS_CLOSING = true))
  ∧ (∀ (s : State) (grp : Fin 4096) (w : Sweep), s.dev.sweepOf grp = some w → s.dev.tarWorks = true → s.dev.par.en = false →
    Does (.closeSweepEnd grp) s (.tar :: reportParts) (fun d => d.sweepOf grp = none ∧ (d.grpTar grp).closeAt = w.instant))
  ∧ (∀ (s : State), s.dev.live = true → s.dev.glb.tarRuns = true →
    Does .displayFrame s [.tim, .evr, .tar, .out] (fun d => d.tar.dspType = 3 - s.dev.tar.dspType ∧ d.tar.dspSeq = (s.dev.tar.dspSeq + 1) % 16
      ∧ d.out = .display (BitVec.ofNat 64 ((s.dev.toMono s.dev.tar.dspDue).dspBody * 256
          + crc8 (beBytes 7 (s.dev.toMono s.dev.tar.dspDue).dspBody))) :: s.dev.out
      ∧ d.tar.ext = s.dev.tar.ext ∧ d.tar.jseq = s.dev.tar.jseq))
  ∧ (∀ (s : State) (off : BitVec 20) (val : Word), s.dev.live = true →
    Does (.bar4Write off val) s [.regs] (fun d => d.rd F.TAR_BAR4_WR = min (s.dev.rd F.TAR_BAR4_WR + 1) (2 ^ 32 - 1) ∧ KeepsRegs [0xB0054] s.dev d))
  ∧ (∀ (s : State) (digest : BitVec 256), s.dev.live = true → s.dev.secAhead 5 = false → beBytes 32 digest.toNat = s.dev.tar.check →
    Does (.checkValueRecompute digest) s [.tim, .evr, .tar] (fun d => d.tar.checkOk = s.dev.tar.checkOk ∧ d.tar.checkFrom = d.tim.mono))
  ∧ (∀ (s : State) (digest : BitVec 256), s.dev.live = true → s.dev.secAhead 5 = false → beBytes 32 digest.toNat ≠ s.dev.tar.check → s.dev.tar.checkOk = true →
    s.dev.par.en = false →
    Does (.checkValueRecompute digest) s (.tim :: .tar :: reportParts) (fun d => d.tar.checkOk = false))
  ∧ (∀ (s : State) (digest : BitVec 256), s.dev.live = true → s.dev.secAhead 5 = true → s.dev.tim.mono < s.dev.tar.checkFrom + 1830000000000 →
    Does (.checkValueRecompute digest) s [.tim, .evr] (fun d => d.tim.mono < s.dev.tar.checkFrom + 1830000000000))

/-- The Lane manager. QUEUE_REFILL of a queue below 7/8 of its quota whose oldest ring entry fits: that entry is in cells. HOLD_RELEASE with room and an
empty chain: the oldest held item is in cells. QUEUE_FLUSH of a queue that the host may flush: it is empty, and counted. FLUSH_DONE: FLUSH reads 0.
CELL_ECC_ERROR in an item: a payload error loses that item, a header error the chain from it on;
so too of a pair's waiting completions. The error's own report is in the queues by then. POOL_SCAN_DONE: the lost cells are free. -/
def Obligations.LaneManager : Prop :=
  (∀ (s : State) (queue : Fin 256) (i : Item) (t : List Item), s.dev.live = true → 8 * s.dev.laneCells queue < 7 * s.dev.quota queue →
    (s.dev.lane queue).ring = i :: t → s.dev.fits queue i.cellCount = true →
    Does (.queueRefill queue) s [.lne] (fun d => i ∈ (d.lane queue).cells ∧ (d.lane queue).ring.length ≤ t.length
      ∧ (d.lane queue).waits = (s.dev.lane queue).waits))
  ∧ (∀ (s : State) (queue : Fin 256) (i : Item) (t : List Item), s.dev.live = true → (s.dev.lane queue).waits = i :: t →
    (s.dev.lane queue).ring = [] → s.dev.fits queue i.cellCount = true →
    Does (.holdRelease queue) s [.lne, .regs] (fun d => i ∈ (d.lane queue).cells ∧ (d.lane queue).waits.length ≤ t.length))
  ∧ (∀ (s : State) (queue : Fin 256) (val : Word), s.dev.live = true → val.toNat % 2 = 1 → laneFlushable queue = true →
    (s.dev.lane queue).flushing = false →
    Does (.queueFlush queue val) s [.lne, .regs] (fun d => (d.lane queue).cells = [] ∧ (d.lane queue).ring = [] ∧ (d.lane queue).flushing = true
      ∧ (d.lane queue).waits = (s.dev.lane queue).waits
      ∧ d.rd F.LNE_FLUSHED = min (s.dev.rd F.LNE_FLUSHED + ((s.dev.lane queue).cells.length + (s.dev.lane queue).ring.length)) (2 ^ 32 - 1)))
  ∧ (∀ (s : State) (queue : Fin 256), (s.dev.lane queue).flushing = true →
    Does (.flushDone queue) s [.lne] (fun d => d.lane queue = { s.dev.lane queue with flushing := false, freeing := 0, freeingSegs := 0 }))
  ∧ (∀ (s : State) (queue : Fin 256) (n : Nat) (i : Item) (header : Bool), s.dev.live = true → queue.val < 32 ∨ 159 < queue.val →
    ((s.dev.fault 0x0F13 2 1 1).lane queue).cells[n]? = some i →
    Does (.cellEccError (some queue) n header) s reportParts (fun d =>
      (d.lane queue).cells = (if header then ((s.dev.fault 0x0F13 2 1 1).lane queue).cells.take n
        else ((s.dev.fault 0x0F13 2 1 1).lane queue).cells.eraseIdx n) ∧ Reported 1 s.dev d))
  ∧ (∀ (s : State) (queue : Fin 256) (p n : Nat) (c : Cmpl) (header : Bool), s.dev.live = true → p < 64 → queue.val = 96 + p →
    (s.dev.pair p).waiting[n]? = some c →
    Does (.cellEccError (some queue) n header) s reportParts (fun d =>
      (d.pair p).waiting = (if header then (s.dev.pair p).waiting.take n else (s.dev.pair p).waiting.eraseIdx n) ∧ Reported 1 s.dev d))
  ∧ (∀ (s : State) (queue : Fin 256), s.dev.live = true →
    Does (.poolScanDone queue) s [.lne, .regs] (fun d => d.lane queue = { s.dev.lane queue with lostCells := 0, lostItems := 0 }
      ∧ d.rd F.LNE_ECC_DROP = min (s.dev.rd F.LNE_ECC_DROP + (s.dev.lane queue).lostItems) (2 ^ 32 - 1)))

/-- Where errors of R558 are reported from on a live device: the class that the source has is what the report leaves (R556); a Fatal one ends in the safe
state. CORE_WATCHDOG_EXPIRY of core 4 also stops the Weigh-in core. -/
def Obligations.ErrorSources : Prop :=
  (∀ (s : State) (core : Fin 5), s.dev.live = true →
    Does (.coreWatchdogExpiry core) s fatalParts (fun d => Reported 4 s.dev d ∧ (core.val = 4 → d.glb.tarRuns = false)))
  ∧ (∀ (s : State) (array : Fin 6), s.dev.live = true →
    Does (.sramEccUncorrected array) s fatalParts (fun d => Reported (sramSource (array.val + 1)).1 s.dev d ∧ (array.val = 5 → d.glb.tarRuns = false)))
  ∧ (∀ (s : State) (region : Fin 7) (item : Option (Fin 256 × Nat)), s.dev.live = true →
    Does (.lpddr5EccUncorrected region item) s fatalParts (fun d => Reported (if region.val = 1 then 4 else 3) s.dev d))
  ∧ (∀ (s : State) (area : Fin 5), s.dev.live = true → Does (.emramEccUncorrected area) s reportParts (fun d => Reported 3 s.dev d))
  ∧ (∀ (s : State) (initiator : Fin 3), s.dev.live = true →
    Does (.billingAccessRefused initiator) s fatalParts (fun d => Reported 4 s.dev d))
  ∧ (∀ (s : State) (tj : Int), s.dev.live = true →
    Does (.junctionOvertemp tj) s fatalParts (fun d => d.glb.temp = tj
      ∧ (s.dev.glb.temp ≤ 125 ∧ 125 < tj → Reported 3 s.dev d) ∧ (s.dev.glb.temp ≤ 135 ∧ 135 < tj → Reported 4 s.dev d)))
  ∧ (∀ (s : State) (mem : Bool), s.dev.live = true →
    Does (.pllLockLoss mem) s fatalParts (fun d => Reported 4 s.dev d ∧ d.on F.GLB_CLK_STS_LOSS_SEEN = true))
  ∧ (∀ (s : State) (reg : BitVec 16), s.dev.live = true →
    Does (.fltSelfFault reg) s fatalParts (fun d => Reported 4 s.dev d ∧ d.glb.faultHeld = true ∧ d.on F.FLT_STS_SELF = true))

/-- The Fault collector's pins and latches. FAULT_PULSE_END: the pulse is over, not before its end. PWR_CYCLE_REQUEST with the key: the safe state, and
the request stands. FAULT_N_DRIVE without it: DRIVE takes bit 0, nothing else. DEGRADED_CLEAR with nothing Degraded: the latch reads 0.
FLT_COUNTER_CLEAR: the counter reads 0. FAULT_HIST: the history goes to the buffer. FAULT_HIST_SNAPSHOT_READ: the selected entry is copied and its
first word answered. -/
def Obligations.FaultCollector : Prop :=
  (∀ (s : State) (t : Nat), s.dev.flt.pulseEnd = some t →
    Does .faultPulseEnd s [.tim, .evr, .flt, .regs] (fun d => d.on F.FLT_STS_PULSE = false ∧ d.flt.pulseEnd = none ∧ t ≤ d.tim.mono))
  ∧ (∀ (s : State) (val : Word), s.dev.live = true → s.dev.on F.FLT_STS_SELF = false → F.FLT_PIN_CTRL_KEY.get val.toNat = 0xF1C7 →
    F.FLT_PIN_CTRL_CYC_REQ.get val.toNat = 1 →
    Does (.pwrCycleRequest val) s fatalParts (fun d => d.isSafe = true ∧ d.on F.FLT_STS_CYC_REQ = true))
  ∧ (∀ (s : State) (val : Word), s.dev.live = true → s.dev.on F.FLT_STS_SELF = false →
    ¬ (F.FLT_PIN_CTRL_KEY.get val.toNat = 0xF1C7 ∧ F.FLT_PIN_CTRL_CYC_REQ.get val.toNat = 1) →
    Does (.faultNDrive val) s [.regs] (fun d => d.rd F.FLT_PIN_CTRL_DRIVE = val.toNat % 2 ∧ KeepsRegs [0xF0008] s.dev d))
  ∧ (∀ (s : State) (val : Word), s.dev.live = true → F.FLT_STS_DEGRADED.get val.toNat = 1 → s.dev.degradedHolds = false →
    Does (.degradedClear val) s [.regs] (fun d => d.on F.FLT_STS_DEGRADED = false ∧ d.on F.FLT_STS_SAFE = s.dev.on F.FLT_STS_SAFE))
  ∧ (∀ (s : State) (counter : Fin 5) (val : Word), s.dev.live = true →
    Does (.fltCounterClear counter val) s [.regs] (fun d => d.word (0xF0020 + 4 * counter.val) = 0 ∧ KeepsRegs [0xF0020 + 4 * counter.val] s.dev d))
  ∧ (∀ (s : State) (pair : Fin 64) (h : Held), s.takes pair 0x92 h → 256 ≤ bufLen h.desc →
    Completes (.faultHist pair) s pair h [s.dev.flt.hist.length] [.out] (fun d =>
      d.out = .hostWrite (bufAddr h.desc) ((s.dev.flt.hist.flatMap (fun e => wordsBytes e.words)).take (bufLen h.desc)) :: s.dev.out))
  ∧ (∀ (s : State) (x : Hist), s.dev.live = true → s.dev.flt.hist[s.dev.rd F.FLT_HIST_SEL_INDEX]? = some x →
    Does .faultHistSnapshotRead s [.flt, .out] (fun d =>
      d.flt = { s.dev.flt with histCopy := x.words.map (BitVec.ofNat 32) } ∧ d.out = .readData (x.words.getD 0 0) :: s.dev.out))

/-- The event recorder. EVR_FREEZE and LOG_FREEZE: the recorder is frozen or not as told; LOG_FREEZE answers the staging fill. FREEZE_MAX_EXPIRY: a freeze
ends. LOG_READ: as many records as asked for, held and fitting go to the buffer. EVR_SNAPSHOT_READ: the selected record is copied and its first word
answered. OPTIME_SAVE: the operating time is saved, no record changes. -/
def Obligations.EventRecorder : Prop :=
  (∀ (s : State) (val : Word), s.dev.live = true →
    Does (.evrFreeze val) s (.dirty :: reportParts) (fun d => d.evr.frozen = decide (F.EVR_FREEZE_FREEZE.get val.toNat = 1)))
  ∧ (∀ (s : State), s.dev.live = true → s.dev.evr.frozen = true →
    Does .freezeMaxExpiry s (.tim :: reportParts) (fun d => d.evr.frozen = false ∧ d.on F.EVR_FREEZE_FREEZE = false))
  ∧ (∀ (s : State) (pair : Fin 64) (h : Held), s.takes pair 0x91 h →
    Completes (.logFreeze pair) s pair h [s.dev.evr.staged.length] reportParts (fun d => d.evr.frozen = decide (h.desc.word 3 % 2 = 1)))
  ∧ (∀ (s : State) (pair : Fin 64) (h : Held), s.takes pair 0x90 h →
    Completes (.logRead pair) s pair h
      [min (min (count4096 (h.desc.word 7)) (s.dev.evr.recs.length - h.desc.word 6)) (bufLen h.desc / 32), s.dev.evr.recs.length] [.out]
      (fun d => d.evr = s.dev.evr))
  ∧ (∀ (s : State) (r : Rec), s.dev.live = true → s.dev.recAt (s.dev.rd F.EVR_SEL_INDEX) = some r →
    Does .evrSnapshotRead s [.evr, .out] (fun d => d.evr = { s.dev.evr with copy := r.words } ∧ d.out = .readData (r.words.getD 0 0).toNat :: s.dev.out))
  ∧ (∀ (s : State), s.dev.live = true → Does .optimeSave s [.evr] (fun d => d.evr = { s.dev.evr with saved := s.dev.evr.optime }))

/-- What the Media manager writes, reads and moves. MEDIA_WRITE of bytes that fit the open LU of their stream: they are programmed and leave queue 14.
MEDIA_READ on a channel that is ON, decoding in the hard or soft reads: the unit's retention set is read, then the other seven nearest age
first, the bit errors are counted, and the unit is marked where they exceed the limit. FOLD_START: the oldest cached data
leaves the cache. GC_START, EU_REFRESH and WEAR_LEVEL_MOVE with a free unit: a copy starts. GC_SWITCH ahead of
queue 14 or with nothing in it: the copy is over and its source erased.
NAND_PROGRAM_FAIL of a user unit: it is retired. HISTORY_RELEASE: fewer LUs are in use. -/
def Obligations.MediaUnits : Prop :=
  (∀ (s : State) (n pr b st lu k : Nat) (bs : List Byte), s.dev.mediaRuns = true → s.dev.laneHead 14 = some (n, ⟨pr, b, .media st (.raw bs)⟩) →
    s.dev.ftl.state ≤ 1 → st = 0 ∨ (s.dev.ftl.openEu st).isSome = true → s.dev.ftl.heads.find st = some (lu, k) → max 1 b ≤ 4096 → k + max 1 b ≤ 4096 →
    s.dev.secAhead 4 = false → s.dev.gcAhead = false →
    Does .mediaWrite s (.ftl :: reportParts) (fun d => (d.lane 14).cells = (s.dev.lane 14).cells.eraseIdx n
      ∧ d.ftl.heads.find st = some (lu, k + max 1 b) ∧ d.ftl.map = s.dev.ftl.map))
  ∧ (∀ (s : State) (lu bits : Nat) (k : Fin 4) (over_ : Bool) (l : Lu), s.dev.mediaRuns = true → s.dev.ftl.state ≤ 2 →
    s.dev.secAhead 4 = false → s.dev.ftl.map.find lu = some l → s.dev.euUsable l.eu = true → k.val < 3 → bits ≠ 0 →
    Does (.mediaRead lu (some k) bits over_) s [.ftl, .regs, .out] (fun d => d.ftl.corrBits = s.dev.ftl.corrBits + bits ∧ d.ftl.map = s.dev.ftl.map
      ∧ (over_ = true → (d.ftl.eu l.eu).refresh = true) ∧ KeepsRegs [F.FTL_CORR_CW.off] s.dev d
      ∧ d.out = .nandRead lu (((readOrder (s.dev.retentionSet (s.dev.ftl.eu l.eu))).take (if k.val = 0 then 1 else 8)).map
          (fun j => (j, s.dev.setOffsets j))) :: s.dev.out))
  ∧ (∀ (s : State) (k : Nat), s.dev.mediaRuns = true → s.dev.ftl.state ≤ 1 → 3 * s.dev.ftl.slcLimit < 4 * s.dev.ftl.slc.length →
    s.dev.ftl.slc.find? (fun j => match s.dev.ftl.map.find j with | some l => l.stream ≠ 4 | none => false) = some k → (s.dev.foldOne k).isSome = true →
    Does .foldStart s (.ftl :: reportParts) (fun d => k ∉ d.ftl.slc))
  ∧ (∀ (s : State) (e dst : Nat), s.dev.mediaRuns = true → s.dev.ftl.state ≤ 1 → s.dev.ftl.gcActive = true → s.dev.gcVictim = some e →
    s.dev.ftl.freeEu (fun i => s.dev.euUsable i && i ≠ e) false = some dst →
    Does .gcStart s [.ftl] (fun d => d.ftl.gcActive = true
      ∧ d.ftl.copies = s.dev.ftl.copies ++ [{ src := e, dst := dst, left := (s.dev.ftl.eu e).lus, done := [] }]))
  ∧ (∀ (s : State) (c : Copy) (rest : List Copy), s.dev.mediaRuns = true → s.dev.ftl.state ≤ 1 → s.dev.ftl.copies = c :: rest →
    (s.dev.ftl.eu c.src).failedCw = false → s.dev.gcAhead = true ∨ s.dev.laneHead 14 = none →
    Does .gcSwitch s [.ftl] (fun d => d.ftl.copies = rest ∧ (d.ftl.eu c.src).lus = [] ∧ (d.ftl.eu c.src).pe = (s.dev.ftl.eu c.src).pe + 1))
  ∧ (∀ (s : State) (eu : Nat) (what : Fin 3), s.dev.live = true → s.dev.ftl.state ≤ 2 → eu < s.dev.ftl.total → (s.dev.ftl.eu eu).st ≠ 4 →
    (s.dev.ftl.eu eu).st ≠ 5 → (s.dev.ftl.eu eu).st ≠ 6 → s.dev.ftl.copies.find? (fun c => c.dst = eu) = none →
    Does (.nandProgramFail eu what) s (.ftl :: reportParts) (fun d => (d.ftl.eu eu).st = 4 ∧ d.ftl.spareLeft = s.dev.ftl.spareLeft - 1
      ∧ d.rd F.FTL_RETIRED = min (s.dev.rd F.FTL_RETIRED + 1) (2 ^ F.FTL_RETIRED.len - 1)))
  ∧ (∀ (s : State) (eu dst : Nat), s.dev.mediaRuns = true → s.dev.ftl.state ≤ 1 → (s.dev.ftl.eu eu).refresh = true → (s.dev.ftl.eu eu).st = 3 →
    s.dev.ftl.copies.any (fun c => c.src = eu) = false → s.dev.ftl.freeEu (fun i => s.dev.euUsable i && i ≠ eu) false = some dst →
    Does (.euRefresh eu) s [.ftl, .regs] (fun d =>
      d.ftl.copies = s.dev.ftl.copies ++ [{ src := eu, dst := dst, left := (s.dev.ftl.eu eu).lus, done := [] }] ∧ KeepsRegs [F.FTL_REFRESH.off] s.dev d))
  ∧ (∀ (s : State) (e : Nat × Eu) (dst : Nat), s.dev.mediaRuns = true → s.dev.ftl.state ≤ 1 → s.dev.wearSource = some e →
    s.dev.rd F.FTL_GC_CFG_WL_GAP * s.dev.ratedPe < 100 * (s.dev.ftl.peMax - e.2.pe) →
    s.dev.ftl.freeEu (fun i => s.dev.euUsable i && i ≠ e.1) false = some dst →
    Does .wearLevelMove s [.ftl] (fun d =>
      d.ftl.copies = s.dev.ftl.copies ++ [{ src := e.1, dst := dst, left := (s.dev.ftl.eu e.1).lus, done := [] }]))
  ∧ (∀ (s : State), s.dev.live = true → s.dev.ftl.state ≤ 1 → s.dev.rd F.FTL_CFG_HIST_FILL * s.dev.ftl.userLu < 100 * s.dev.ftl.used →
    s.dev.oldestLog.isSome = true →
    Does .historyRelease s (.ftl :: reportParts) (fun d => d.ftl.used < s.dev.ftl.used))

/-- Snapshots, channels and the media's descriptors. BILLING_SNAPSHOT and CONTEXT_SNAPSHOT_START: the snapshot runs from the next LU. SNAPSHOT_COMPLETE: it is
over, a restore finds it with the journals since it began, and older journals and snapshots are released. NAND_CHANNEL_FAIL: the channel is FAILED, reported as a Function fault. FTL_FORMAT_REQUEST and
FTL_FORMAT_CANCEL with the key while the lock is open: a format is pending or not. MEDIA_HEALTH: the record goes to the buffer. MEDIA_DRAIN: the items at
the head of the drain go to the buffer; with the acknowledgement they leave the drain. -/
def Obligations.MediaSnapshotsAndDescriptors : Prop :=
  (∀ (s : State), s.dev.live = true → s.dev.ftl.state ≤ 2 → s.dev.ftl.billRunning = false → s.dev.billTrigger ≤ s.dev.ftl.billLu →
    Does .billingSnapshot s (.ftl :: reportParts) (fun d => d.ftl = { s.dev.ftl with billLu := 0, billCur := s.dev.ftl.nextLu, billRunning := true }))
  ∧ (∀ (s : State), s.dev.live = true → s.dev.ftl.state ≤ 1 → s.dev.ftl.snapRunning = false → 3600 ≤ s.dev.ftl.cyclesSinceSnap →
    Does .contextSnapshotStart s (.ftl :: .nand :: reportParts) (fun d => d.ftl.snapRunning = true ∧ d.ftl.cyclesSinceSnap = 0
      ∧ d.ftl.snapFrom = s.dev.ftl.nextLu ∧ d.ftl.billRunning = true ∧ d.ftl.map = s.dev.ftl.map))
  ∧ (∀ (s : State), s.dev.live = true → s.dev.ftl.snapRunning = true → s.dev.snapWaits = false →
    Does .snapshotComplete s (.ftl :: .nand :: reportParts) (fun d => d.ftl.snapRunning = false ∧ d.nand = { s.dev.nand with
        ctx := s.dev.nand.replayed, snapPrev := s.dev.nand.snap, snap := s.dev.nand.snapNew, snapNew := [], snapSince := [] }
      ∧ d.ftl.map.all (fun l => !((l.2.stream = 1 || l.2.stream = 2) && decide (l.1 < s.dev.ftl.snapFrom))) = true))
  ∧ (∀ (s : State) (n : Fin 4), s.dev.live = true → s.dev.isOn (10 + n) = true →
    Does (.nandChannelFail n) s (.fn :: reportParts) (fun d => (d.fnOf (10 + n)).st = .failed ∧ OtherFns (10 + n) s.dev d ∧ Reported 2 s.dev d))
  ∧ (∀ (s : State) (val : Word), s.dev.live = true → F.FTL_CTL_KEY.get val.toNat = 0x46D7 → s.dev.on F.GLB_CFG_LOCK_LOCK = false →
    F.FTL_CTL_CANCEL.get val.toNat ≠ 1 → F.FTL_CTL_FORMAT.get val.toNat = 1 →
    Does (.ftlFormatRequest val) s [.ftl] (fun d => d.ftl = { s.dev.ftl with fmtPend := true }))
  ∧ (∀ (s : State) (val : Word), s.dev.live = true → F.FTL_CTL_KEY.get val.toNat = 0x46D7 → s.dev.on F.GLB_CFG_LOCK_LOCK = false →
    F.FTL_CTL_CANCEL.get val.toNat = 1 →
    Does (.ftlFormatCancel val) s [.ftl] (fun d => d.ftl = { s.dev.ftl with fmtPend := false }))
  ∧ (∀ (s : State) (pair : Fin 64) (h : Held), s.takes pair 0x80 h → bitsOf (h.desc.word 2) 20 8 = 4 → 128 ≤ bufLen h.desc →
    Completes (.mediaHealth pair) s pair h [128] [.out] (fun d =>
      d.out = .hostWrite (bufAddr h.desc) ((s.dev.health (tMix h.desc)).take (bufLen h.desc)) :: s.dev.out))
  ∧ (∀ (s : State) (pair : Fin 64) (h : Held), s.takes pair 0x81 h → h.desc.word 8 % 2 = 0 →
    Completes (.mediaDrain pair) s pair h
      [((drainTake (count4096 (h.desc.word 6)) (bufLen h.desc) s.dev.ftl.drain).flatMap DrainItem.rec_).length,
       s.dev.ftl.drain.length - (drainTake (count4096 (h.desc.word 6)) (bufLen h.desc) s.dev.ftl.drain).length] [.out] (fun _ => True))
  ∧ (∀ (s : State) (pair : Fin 64) (h : Held), s.takes pair 0x81 h → h.desc.word 8 % 2 = 1 →
    Does (.mediaDrain pair) s [.rng, .regs, .ftl, .out] (fun d =>
      d.ftl.drain = s.dev.ftl.drain.filter (fun i => 2 ^ 31 ≤ (h.desc.word 7 + 2 ^ 32 - i.seq) % 2 ^ 32)))

/-- Keys and attestation by descriptor. KEY_STAGE of one meter without a key: the next derived generation is staged, and the descriptor waits for the
end of the stroke cycle. KEY_COMMIT of a complete import set whose check value fits: the staged key is in force. KEY_DISCARD of a staged set: nothing is
staged. ATTEST: the 208-byte response goes to the buffer; behind other work of the Security engine it waits. -/
def Obligations.KeysAndAttestation : Prop :=
  (∀ (s : State) (pair : Fin 64) (h : Held) (c : Ctx) (g : Nat), s.takes pair 0x60 h → tKind h.desc = 1 → s.dev.ctxNamed (tMix h.desc) = some c →
    c.owned = true → s.dev.keyed = true → bitsOf (h.desc.word 3) 0 4 < 4 → (stageKey h.desc).all (fun b => b = 0) = true →
    s.dev.nextGen (tMix h.desc) c = some g → s.dev.shadow (tMix h.desc) = none →
    Does (.keyStage pair) s [.rng, .sec, .ctx] (fun d =>
      (d.shadow (tMix h.desc)).map (fun x => (x.imported, x.gen)) = some (false, g) ∧ d.pair pair = (s.dev.markStarted pair h.id).pair pair
        ∧ d.sec.waits = s.dev.sec.waits ++ [{ pair := pair, id := h.id, cycle := s.dev.openCycle, res := [] }]))
  ∧ (∀ (s : State) (pair : Fin 64) (h : Held) (c : Ctx), s.takes pair 0x61 h → tKind h.desc = 1 → s.dev.ctxNamed (tMix h.desc) = some c →
    c.owned = true → s.dev.keyed = true → s.dev.commitFits (tMix h.desc) c h.desc = true →
    Does (.keyCommit pair) s [.rng, .sec, .ctx] (fun d =>
      (d.import_ (tMix h.desc)).ek = (s.dev.import_ (tMix h.desc)).shEk ∧ d.pair pair = (s.dev.markStarted pair h.id).pair pair
        ∧ d.sec.waits = s.dev.sec.waits ++ [{ pair := pair, id := h.id, cycle := s.dev.openCycle, res := [] }]))
  ∧ (∀ (s : State) (pair : Fin 64) (h : Held) (c : Ctx), s.takes pair 0x62 h → tKind h.desc = 1 → s.dev.ctxNamed (tMix h.desc) = some c →
    c.owned = true → (s.dev.shadow (tMix h.desc)).isSome = true →
    Does (.keyDiscard pair) s [.rng, .sec, .ctx] (fun d => d.shadow (tMix h.desc) = none ∧ d.pair pair = (s.dev.markStarted pair h.id).pair pair
      ∧ d.sec.waits = s.dev.sec.waits ++ [{ pair := pair, id := h.id, cycle := s.dev.openCycle, res := [] }]))
  ∧ (∀ (s : State) (pair : Fin 64) (h : Held), s.takes pair 0x63 h → 256 ≤ bufLen h.desc → s.dev.secAhead 5 = false →
    Completes (.attest pair) s pair h [208] [.out] (fun d => d.out = .hostWrite (bufAddr h.desc)
      ((s.dev.attest (wordsBytes ((List.range 8).map (fun i => h.desc.word (6 + i))))).take (bufLen h.desc)) :: s.dev.out))
  ∧ (∀ (s : State) (pair : Fin 64) (h : Held), s.takes pair 0x63 h → 256 ≤ bufLen h.desc → s.dev.secAhead 5 = true →
    Runs (.attest pair) s s.dev)

/-- The root and its clone, on a live device and with the key where one is asked for. ROOT_GENERATE without a root: a root drawn from the generator is held
and the key registers are loaded. ROOT_CLONE_SEND and ROOT_CLONE_RECV with a code: SEC_STS.CLONE shows the side, and the receiver's nonce is drawn.
ROOT_ZEROISE: root and transport key are gone, the latch is set with source 10. CLONE_FRAME_RX of a nonce: it is kept. CLONE_CODE_WRITE: four bytes of the
code are taken. CLONE_CODE_VOID: the code is gone, 600 s after its write. -/
def Obligations.RootAndClone : Prop :=
  (∀ (s : State) (val : Word), s.dev.live = true → F.SEC_ROOT_CTL_OP.get val.toNat = 1 → F.SEC_ROOT_CTL_KEY.get val.toNat = 0x5EC0 →
    s.bat.root = none → s.dev.on F.SEC_STS_TRNG_OK = true →
    DoesBat (.rootGenerate val) s { s.bat with root := some (beBytes 32 (Config.random s.dev.freeCtr).toNat) } [.regs, .sec, .freeCtr] (fun d =>
      d.on F.SEC_STS_ROOT_VALID = true ∧ d.sec.kdev.isSome = true ∧ d.freeCtr = s.dev.freeCtr + 1))
  ∧ (∀ (s : State) (val : Word), s.dev.live = true → F.SEC_ROOT_CTL_OP.get val.toNat = 2 → F.SEC_ROOT_CTL_KEY.get val.toNat = 0x5EC0 →
    s.bat.root.isSome = true → s.dev.grade = .x → s.dev.sec.codeAt.isSome = true → s.dev.sec.peerNonce = none →
    Does (.rootCloneSend val) s [.regs, .sec] (fun d => d.sec = { s.dev.sec with clone := .sending } ∧ d.rd F.SEC_STS_CLONE = 2
      ∧ KeepsRegs [0x40000] s.dev d))
  ∧ (∀ (s : State) (val : Word), s.dev.live = true → F.SEC_ROOT_CTL_OP.get val.toNat = 3 → F.SEC_ROOT_CTL_KEY.get val.toNat = 0x5EC0 →
    s.bat.root = none → s.dev.grade = .x → s.dev.sec.codeAt.isSome = true →
    Does (.rootCloneRecv val) s (.sec :: .par :: reportParts) (fun d =>
      d.sec = { s.dev.sec with clone := .receiving (beBytes 16 ((Config.random s.dev.freeCtr).toNat % 2 ^ 128)) } ∧ d.rd F.SEC_STS_CLONE = 3))
  ∧ (∀ (s : State) (val : Word), s.dev.live = true → F.SEC_ROOT_CTL_OP.get val.toNat = 4 → F.SEC_ROOT_CTL_KEY.get val.toNat = 0x5EC0 →
    DoesBat (.rootZeroise val) s (s.bat.zeroised 10 (s.dev.tim.rtcNs / 1000000000 % 2 ^ 32)) (.sec :: reportParts) (fun d =>
      d.sec.kdev = none ∧ d.sec.cache = [] ∧ d.on F.SEC_STS_ROOT_VALID = false))
  ∧ (∀ (s : State) (n : List Byte), s.dev.live = true → s.dev.pairUp = true → s.dev.sec.clone = .idle →
    Does (.cloneFrameRx (.cloneNonce n)) s [.sec] (fun d => d.sec = { s.dev.sec with peerNonce := some n }))
  ∧ (∀ (s : State) (n : Fin 4) (val : Word), s.dev.live = true →
    Does (.cloneCodeWrite n val) s [.regs, .sec] (fun d =>
      d.sec = { s.dev.sec with code := s.dev.sec.code.set n val, codeAt := some s.dev.tim.mono, codeFails := 0 }
        ∧ (s.dev.sec.clone = .idle → d.rd F.SEC_STS_CLONE = 1) ∧ KeepsRegs [0x40000] s.dev d))
  ∧ (∀ (s : State) (t : Nat), s.dev.live = true → s.dev.sec.codeAt = some t →
    Does .cloneCodeVoid s [.regs, .sec, .tim, .evr] (fun d => d.sec = { s.dev.sec with code := [0, 0, 0, 0], codeAt := none, codeFails := 0 }
      ∧ t + 300000000000 ≤ d.tim.mono ∧ KeepsRegs [0x40000] s.dev d))

/-- The key transport key and tamper. KTK_CLEAR_LOAD while the lock is open and none is held, KTK_WRAPPED_LOAD over one that is held, KTK_ERASE: the key is
the data words, what they unwrap to, none; the data words read 0. TAMPER_LATCH_CLEAR while a root is held: the latch is clear. A trip of an armed source
while powered: root and transport key are gone, the latch is set, SOURCE names it; without main supplies a low battery does so too. AUTH_RATE_WINDOW:
the next window starts with no failure counted. -/
def Obligations.TransportKeyAndTamper : Prop :=
  (∀ (s : State) (val : Word), s.dev.live = true → F.SEC_KTK_CTL_OP.get val.toNat = 1 → F.SEC_KTK_CTL_KEY.get val.toNat = 0x5EC0 →
    s.dev.rd F.GLB_CFG_LOCK_LOCK = 0 → s.bat.ktk = none →
    DoesBat (.ktkClearLoad val) s { s.bat with ktk := some (s.dev.ktkBytes 8) } [.regs, .sec] (fun d =>
      d.sec = { s.dev.sec with ktkData := List.replicate 10 0 } ∧ d.on F.SEC_STS_KTK_VALID = true))
  ∧ (∀ (s : State) (val : Word) (k : List Byte), s.dev.live = true → F.SEC_KTK_CTL_OP.get val.toNat = 2 →
    F.SEC_KTK_CTL_KEY.get val.toNat = 0x5EC0 → s.bat.ktk = some k →
    DoesBat (.ktkWrappedLoad val) s { s.bat with ktk := some ((kwUnwrap k (s.dev.ktkBytes 10)).getD k) } [.regs, .sec] (fun d =>
      d.sec = { s.dev.sec with ktkData := List.replicate 10 0 } ∧ d.on F.SEC_STS_KTK_VALID = true))
  ∧ (∀ (s : State) (val : Word), s.dev.live = true → F.SEC_KTK_CTL_OP.get val.toNat = 3 → F.SEC_KTK_CTL_KEY.get val.toNat = 0x5EC0 →
    DoesBat (.ktkErase val) s { s.bat with ktk := none } [.regs, .sec] (fun d =>
      d.sec = { s.dev.sec with ktkData := List.replicate 10 0 } ∧ d.on F.SEC_STS_KTK_VALID = false))
  ∧ (∀ (s : State) (val : Word), s.dev.live = true → F.SEC_STS_TAMPER_LATCH.get val.toNat = 1 → s.bat.root.isSome = true →
    DoesBat (.tamperLatchClear val) s { s.bat with latch := false } [.regs] (fun d => d.on F.SEC_STS_TAMPER_LATCH = false))
  ∧ (∀ (s : State) (n : Fin 4), s.dev.powered = true → bitAt s.bat.cfg n = true →
    DoesBat (.tamperInputTrip n) s (s.bat.zeroised (n.val + 1) (s.dev.tim.rtcNs / 1000000000 % 2 ^ 32)) (.sec :: reportParts) (fun d =>
      d.sec.kdev = none ∧ d.on F.SEC_STS_ROOT_VALID = false))
  ∧ (∀ (s : State), s.dev.powered = true → bitAt s.bat.cfg 4 = true →
    DoesBat .tamperMeshTrip s (s.bat.zeroised 5 (s.dev.tim.rtcNs / 1000000000 % 2 ^ 32)) (.sec :: reportParts) (fun d =>
      d.sec.kdev = none ∧ d.on F.SEC_STS_ROOT_VALID = false))
  ∧ (∀ (s : State) (temp : Int), s.dev.powered = true → temp < -55 ∨ 140 < temp →
    DoesBat (.tamperTempTrip temp) s (s.bat.zeroised 6 (s.dev.tim.rtcNs / 1000000000 % 2 ^ 32)) (.glb :: .sec :: reportParts) (fun d =>
      d.sec.kdev = none ∧ d.on F.SEC_STS_ROOT_VALID = false ∧ d.glb.temp = temp))
  ∧ (∀ (s : State) (core sram : Nat), s.dev.powered = true → s.dev.sec.armed = true → core < 700 ∨ 920 < core ∨ sram < 750 ∨ 970 < sram →
    DoesBat (.tamperVoltageTrip core sram) s (s.bat.zeroised 7 (s.dev.tim.rtcNs / 1000000000 % 2 ^ 32)) (.sec :: reportParts) (fun d =>
      d.sec.kdev = none ∧ d.on F.SEC_STS_ROOT_VALID = false))
  ∧ (∀ (s : State) (vbat : Nat), s.dev.powered = false → vbat < 190 →
    DoesBat (.tamperBatteryTrip vbat) s
      { (({ s.bat with vbat := vbat } : Bat).zeroised 8 (s.dev.tim.rtcNs / 1000000000 % 2 ^ 32)) with owed := s.bat.owed || !s.bat.latch } []
      (fun d => d = s.dev))
  ∧ (∀ (s : State) (khz : Nat), s.dev.powered = true → s.dev.sec.armed = true → khz < 22500 ∨ 27500 < khz →
    DoesBat (.tamperRootClockTrip khz) s (s.bat.zeroised 9 (s.dev.tim.rtcNs / 1000000000 % 2 ^ 32)) (.sec :: reportParts) (fun d =>
      d.sec.kdev = none ∧ d.on F.SEC_STS_ROOT_VALID = false))
  ∧ (∀ (s : State), s.dev.live = true →
    Does .authRateWindow s (.tim :: .sec :: reportParts) (fun d => d.sec.winFails = 0 ∧ d.sec.winStart = s.dev.sec.winStart + 30000000000
      ∧ d.sec.kdev = s.dev.sec.kdev))

/-- Device resets (R583, R584, R615 to R618). SOFT_RESET with key and GO, RESET_N_ASSERT, PERST_N_ASSERT, PCIE_HOT_RESET and FLR of a device that
makes no power-fail commit, and AUTO_RESET_EXPIRY in the safe state: a device reset of that cause. RESET_RELEASE of the last source: the boot
begins. -/
def Obligations.DeviceResets : Prop :=
  (∀ (s : State) (val : Word), s.dev.live = true → F.GLB_SOFT_RESET_KEY.get val.toNat = 0xC0DE → F.GLB_SOFT_RESET_GO.get val.toNat = 1 →
    Does (.softReset val) s resetParts (ResetWith 6 s.dev))
  ∧ (∀ (s : State), s.dev.glb.phase ≠ .unpowered → s.dev.glb.phase ≠ .failing → s.dev.glb.phase ≠ .failed →
    Does .resetNAssert s resetParts (fun d => ResetWith 2 s.dev d ∧ d.glb.resetN = false ∧ d.sec.armed = false))
  ∧ (∀ (s : State), s.dev.glb.phase ≠ .unpowered → s.dev.glb.phase ≠ .failing → s.dev.glb.phase ≠ .failed →
    Does .perstNAssert s resetParts (fun d => ResetWith 3 s.dev d ∧ d.glb.perstN = false))
  ∧ (∀ (s : State), s.dev.glb.phase ≠ .unpowered → s.dev.glb.phase ≠ .failing → s.dev.glb.phase ≠ .failed →
    Does .pcieHotReset s resetParts (ResetWith 4 s.dev))
  ∧ (∀ (s : State), s.dev.glb.phase ≠ .unpowered → s.dev.glb.phase ≠ .failing → s.dev.glb.phase ≠ .failed →
    Does .flr s resetParts (ResetWith 5 s.dev))
  ∧ (∀ (s : State) (t : Nat), s.dev.flt.safeAt = some t → s.dev.live = true → s.dev.isSafe = true → s.dev.flt.autoRst ≠ 0 →
    Does .autoResetExpiry s resetParts (ResetWith 7 s.dev))
  ∧ (∀ (s : State) (resetN perstN : Bool), s.dev.glb.phase = .held → (s.dev.glb.resetN || resetN) = true → (s.dev.glb.perstN || perstN) = true →
    s.dev.glb.pwrFailN = true →
    Does (.resetRelease resetN perstN) s [.glb] (fun d => d.glb.phase = .booting))

/-- Supplies and boot (R616, R620 to R626, R663, R664). POWER_UP of a device without main supplies: cause 1, one power cycle more, the boot begins
where every source is released, and a battery domain that lost all power holds nothing. MAIN_SUPPLY_LOSS: what LPDDR5 and the registers held is gone.
BOOT: the device is READY with the cause of its reset, and nothing is owed from the battery domain; a boot that halts shows the halt code.
BOOT_RETRY: a halted boot starts again. RESTORE_DONE: step g is over and what the media or retained LPDDR5 holds is in force.
SPARE_INIT_DONE: the spare region is ready. -/
def Obligations.PowerAndBoot : Prop :=
  (∀ (s : State) (offS : Nat) (cold resetN perstN pwrFailN : Bool), s.dev.glb.phase = .unpowered →
    DoesBat (.powerUp offS cold resetN perstN pwrFailN) s (if cold then { vbat := 0, cold := true } else s.bat) [.glb, .tim, .evr] (fun d =>
      d.glb.cause = 1 ∧ d.evr.powerCycles = s.dev.evr.powerCycles + 1 ∧ d.tim.rtcValid = (s.dev.tim.rtcValid && !cold)
        ∧ d.glb.phase = (if resetN && perstN && pwrFailN then .booting else .held)))
  ∧ (∀ (s : State), s.dev.glb.phase ≠ .unpowered →
    Does .mainSupplyLoss s resetParts (fun d => d.glb.phase = .unpowered ∧ d.glb.pwrCycleReq = false ∧ d.fn = [] ∧ d.rng = {} ∧ d.lne = {} ∧ d.flt = {}
      ∧ d.store = s.dev.store ∧ d.nand = s.dev.nand ∧ d.evr.recs = s.dev.evr.recs))
  ∧ (∀ (s : State) (env : BootEnv), s.dev.glb.phase = .booting → env.halt = 0 →
    DoesBat (.boot env) s { s.bat with cold := false, owed := false }
      [.regs, .store, .fn, .glb, .tim, .rng, .lne, .evr, .flt, .ctx, .tar, .par, .nand, .sec, .sch, .lcp, .rad, .ldg, .met, .eth, .fl, .upd, .freeCtr, .out]
      (fun d => d.glb.phase = .ready ∧ d.on F.GLB_BOOT_STS_READY = true))
  ∧ (∀ (s : State) (env : BootEnv), s.dev.glb.phase = .booting → env.halt ≠ 0 → env.halt ≤ 4 →
    Does (.boot env) s [.regs, .glb, .tim, .evr] (fun d => d.glb.phase = .halted ∧ d.on F.GLB_BOOT_STS_HALT = true
      ∧ d.rd F.GLB_BOOT_STS_HALT_CODE = env.halt ∧ d.glb.halts = s.dev.glb.halts + 1 ∧ KeepsRegs [F.GLB_BOOT_STS_HALT.off] s.dev d
      ∧ (2 ≤ s.dev.glb.halts → d.glb.pwrCycleReq = true)))
  ∧ (∀ (s : State), s.dev.glb.phase = .halted →
    Does .bootRetry s [.regs, .glb, .tim, .evr] (fun d => d.glb.phase = .booting ∧ d.on F.GLB_BOOT_STS_HALT = false
      ∧ d.rd F.GLB_BOOT_STS_HALT_CODE = 0 ∧ KeepsRegs [F.GLB_BOOT_STS_HALT.off] s.dev d))
  ∧ (∀ (s : State), s.dev.live = true → s.dev.glb.stepG = false → s.dev.upd.recovery = false →
    (List.range 4).all (fun n => decide ((s.dev.fnOf (10 + n)).st ≠ .starting)) = true →
    Does .restoreDone s
      [.regs, .fn, .glb, .tim, .rng, .lne, .evr, .flt, .ctx, .tar, .par, .nand, .sec, .sch, .lcp, .rad, .cals, .ldg, .met, .eth, .fl, .upd, .freeCtr, .out]
      (fun d => d.glb.stepG = true ∧ d.cals = s.dev.restoreSource.cop.cals ∧ d.upd = { s.dev.upd with kept := none }))
  ∧ (∀ (s : State), s.dev.live = true → Does .spareInitDone s [.glb] (fun d => d.glb = { s.dev.glb with spareReady := true }))

/-- Power failure and board monitors (R42, R619, R665 to R672, R429). PWR_FAIL_FALL and RAIL_TRIP of a READY device: the power-fail commit starts.
POWER_FAIL_COMMIT_DONE: the commit has ended; outside the safe state the media is marked clean and operating time is saved. PWR_FAIL_RISE after a
commit: the device boots with cause 1 once every source is released. HOLDUP_SAMPLE: the monitor shows the sample and its energy; the sixteenth
sample the other way changes HOLD_LOW. PWR_TEMP_CLEAR: both extremes are the present temperature. RTC_OSCILLATOR_STOP: the RTC is not valid. -/
def Obligations.PowerFailureAndMonitors : Prop :=
  (∀ (s : State), s.dev.glb.phase = .ready →
    Does .pwrFailFall s [.regs, .glb, .tim, .rng, .lne, .evr, .flt, .ctx, .par, .sec, .sch, .lcp, .rad, .upd, .freeCtr, .out] (fun d =>
      d.glb.phase = .failing ∧ d.glb.pwrFailN = false ∧ d.glb.stagedAt = s.dev.evr.staged.length ∧ d.sec = { s.dev.sec with armed := false }))
  ∧ (∀ (s : State) (rails : BitVec 10), s.dev.glb.phase = .ready → s.dev.glb.pwrFailN = true → rails ≠ 0 →
    Does (.railTrip rails) s [.regs, .glb, .tim, .rng, .lne, .evr, .flt, .ctx, .par, .sec, .sch, .lcp, .rad, .upd, .freeCtr, .out] (fun d =>
      d.glb.phase = .failing ∧ d.sec = { s.dev.sec with armed := false }))
  ∧ (∀ (s : State) (us : Nat), s.dev.glb.phase = .failing →
    Does (.powerFailCommitDone us) s [.regs, .store, .glb, .tim, .rng, .lne, .evr, .flt, .tar, .nand, .freeCtr, .out] (fun d =>
      d.glb.phase = .failed ∧ (s.dev.isSafe = false → d.nand.clean = true ∧ d.evr.saved = d.evr.optime)))
  ∧ (∀ (s : State), s.dev.glb.phase = .failed →
    Does .pwrFailRise s resetParts (fun d => d.glb.phase = (if s.dev.glb.resetN && s.dev.glb.perstN then .booting else .held) ∧ d.glb.cause = 1
      ∧ d.evr.powerCycles = s.dev.evr.powerCycles + 1 ∧ d.store = s.dev.store ∧ d.nand = s.dev.nand ∧ d.evr.recs = s.dev.evr.recs ∧ d.fn = [] ∧ d.rng = {}))
  ∧ (∀ (s : State) (mv : BitVec 12), s.dev.glb.phase = .ready ∨ s.dev.glb.phase = .failing →
    Does (.holdupSample mv) s (.glb :: reportParts) (fun d =>
      d.rd F.PWR_HOLD_STS_VHOLD = holdQuot (mv.toNat * s.dev.rd F.PWR_HOLD_RSV_DIV) 2560
        ∧ d.rd F.PWR_HOLD_STS_E_AVAIL = holdQuot (s.dev.holdNum (mv.toNat * s.dev.rd F.PWR_HOLD_RSV_DIV)) 6553600000000000
        ∧ (s.dev.glb.holdRun = 15 → d.on F.PWR_SUP_STS_HOLD_LOW = s.dev.holdLow (mv.toNat * s.dev.rd F.PWR_HOLD_RSV_DIV))))
  ∧ (∀ (s : State) (val : Word), s.dev.live = true →
    Does (.pwrTempClear val) s [.regs] (fun d => d.rd F.PWR_TEMP_TJ_MAX = s.dev.rd F.PWR_TEMP_TJ ∧ d.rd F.PWR_TEMP_TJ_MIN = s.dev.rd F.PWR_TEMP_TJ
      ∧ d.rd F.PWR_TEMP_TJ = s.dev.rd F.PWR_TEMP_TJ ∧ KeepsRegs [F.PWR_TEMP_TJ.off] s.dev d))
  ∧ (∀ (s : State), s.dev.live = true →
    Does .rtcOscillatorStop s (.tim :: reportParts) (fun d => d.tim.rtcValid = false ∧ d.on F.GLB_CLK_STS_RTC_RUN = false
      ∧ d.on F.TIM_STS_RTC_VALID = false))

/-- Ethernet ports (R479 to R483, R496). ETH_FRAME_RX on a port that is ON with its link up: a frame with an error, or one that is filtered, counts as
that; an accepted frame counts as received, and a management frame joins the store with its
receive time in quarter ns; PAUSE stops transmission. ETH_FRAME_TX: the first frame of the lowest class that may be sent (R43) leaves. PAUSE_EXPIRY: transmission goes on. ETH_LINK_DOWN: the link is down and waiting frames are gone. MGT_TX_GO: the frame waits, BUSY
is set. MGT_RX_POP: the oldest frame of the store leaves. ETH_COUNTER_SNAPSHOT_READ: the low word is read, the high word latched. -/
def Obligations.EthernetPorts : Prop :=
  (∀ (s : State) (port : Fin 4) (frame : EthRx) (i : Nat), s.dev.epOn port = true → s.dev.on F.ETH_STS_LINK port = true →
    s.dev.ethDrop port frame = some i →
    Does (.ethFrameRx port frame) s (.eth :: reportParts) (fun d =>
      d.ep port = { s.dev.ep port with cnt := (s.dev.ep port).cnt.put i (((s.dev.ep port).cnt.getD i 0 + 1) % 2 ^ 64) }))
  ∧ (∀ (s : State) (port : Fin 4) (frame : EthRx) (b : List Byte), s.dev.epOn port = true → s.dev.on F.ETH_STS_LINK port = true →
    s.dev.ethDrop port frame = none → frame.body = .other b → (s.dev.ep port).mgtRx.length < 8 →
    Does (.ethFrameRx port frame) s (.eth :: reportParts) (fun d =>
      (∃ k : Fin 8, (d.ep port).mgtRx = (s.dev.ep port).mgtRx ++ [(4 * (s.dev.rxStamp port).toNat + k.val, b)])
        ∧ (d.ep port).cnt.getD 0 0 = ((s.dev.ep port).cnt.getD 0 0 + 1) % 2 ^ 64))
  ∧ (∀ (s : State) (port : Fin 4) (frame : EthRx) (q : Nat), s.dev.epOn port = true → s.dev.on F.ETH_STS_LINK port = true →
    s.dev.ethDrop port frame = none → frame.body = .pause q → q ≠ 0 → s.dev.on F.ETH_CFG_PAUSE_RX port = true →
    Does (.ethFrameRx port frame) s (.eth :: reportParts) (fun d =>
      (d.ep port).pauseUntil = some (s.dev.tim.mono + q * 512 * 500000000 / s.dev.ethRate port) ∧ d.on F.ETH_STS_PAUSED port = true))
  ∧ (∀ (s : State) (port : Fin 4) (i : Nat) (t : EthTx), s.dev.epOn port = true → s.dev.inLoop (6 + port) = false → s.dev.linkUp port = true →
    (s.dev.ep port).pauseUntil = none → nextTx s.dev.ethMay (s.dev.ep port).wait = some (i, t) →
    Does (.ethFrameTx port) s (.eth :: .tim :: .fl :: reportParts) (fun d =>
      (d.ep port).wait = (s.dev.ep port).wait.eraseIdx i ∧ Out.ethTx port t.cls t.bytes t.dest t.fl t.mgt ∈ d.out
        ∧ (d.ep port).cnt.getD 12 0 = ((s.dev.ep port).cnt.getD 12 0 + 1) % 2 ^ 64))
  ∧ (∀ (s : State) (port : Fin 4) (t : Nat), s.dev.live = true → (s.dev.ep port).pauseUntil = some t →
    Does (.pauseExpiry port) s (.eth :: .tim :: reportParts) (fun d => (d.ep port).pauseUntil = none ∧ d.on F.ETH_STS_PAUSED port = false))
  ∧ (∀ (s : State) (port : Fin 4), s.dev.epOn port = true → s.dev.on F.ETH_STS_LINK port = true →
    Does (.ethLinkDown port) s (.eth :: reportParts) (fun d =>
      d.on F.ETH_STS_LINK port = false ∧ (d.ep port).wait = [] ∧ d.on F.ETH_MGT_TX_CTL_BUSY port = false
        ∧ (d.ep port).cnt.getD 17 0 = ((s.dev.ep port).cnt.getD 17 0 + 1) % 2 ^ 64))
  ∧ (∀ (s : State) (port : Fin 4) (val : Word), s.dev.epOn port = true → s.dev.on F.ETH_STS_LINK port = true → s.dev.isBow = false →
    s.dev.on F.ETH_CFG_MGT_EN port = true → s.dev.on F.ETH_MGT_TX_CTL_BUSY port = false → bitAt val.toNat 28 = true →
    Does (.mgtTxGo port val) s [.eth, .regs, .dirty] (fun d =>
      d.on F.ETH_MGT_TX_CTL_BUSY port = true ∧ (d.ep port).wait.length = (s.dev.ep port).wait.length + 1))
  ∧ (∀ (s : State) (port : Fin 4) (val : Word), s.dev.live = true → fixAbsent s.dev.grade (6 + port) = false → bitAt val.toNat 0 = true →
    Does (.mgtRxPop port val) s [.eth, .regs] (fun d => d.ep port = { s.dev.ep port with mgtRx := (s.dev.ep port).mgtRx.drop 1 }
      ∧ d.rd F.ETH_MGT_PAGE_RX_PAGE port = 0 ∧ KeepsRegs [F.ETH_MGT_PAGE_RX_PAGE.at port] s.dev d))
  ∧ (∀ (s : State) (port : Fin 4) (counter : Fin 18), s.dev.live = true → fixAbsent s.dev.grade (6 + port) = false →
    Does (.ethCounterSnapshotRead port counter) s [.eth, .out] (fun d =>
      d.ep port = { s.dev.ep port with hi := (s.dev.ep port).hi.put counter ((s.dev.ep port).cnt.getD counter 0 / 2 ^ 32) }
        ∧ d.out = .readData ((s.dev.ep port).cnt.getD counter 0 % 2 ^ 32) :: s.dev.out))

/-- The lifecycle of functions (R582, R630 to R637). FUNCTION_ENABLE of a function that is OFF: it is STARTING; a radio port whose turnaround is too
long has FAILED. FUNCTION_DISABLE of one that is ON: it is STOPPING. FUNCTION_STARTED: it is ON. FUNCTION_STOPPED of an idle one: it is OFF.
FUNCTION_START_TIMEOUT: it has FAILED. FUNCTION_RESET of one that is ON: it stops and starts again. SERDES_LOCK_LOSS: the port, or the pair unit, has
FAILED. -/
def Obligations.FunctionLifecycle : Prop :=
  (∀ (s : State) (fix : Fin 128) (val : Word) (e : F × Nat), s.dev.live = true → fixAbsent s.dev.grade fix = false → enableOf fix = some e →
    s.dev.enableHeld fix = false → (s.dev.fnOf fix).st = .off → fix.val < 2 ∨ 6 ≤ fix.val →
    Does (.functionEnable fix val) s (.dirty :: .fn :: .tim :: .lcp :: .met :: .eth :: reportParts) (fun d => (d.fnOf fix).st = .starting))
  ∧ (∀ (s : State) (fix : Fin 128) (val : Word), s.dev.live = true → fixAbsent s.dev.grade fix = false → 2 ≤ fix.val → fix.val < 6 →
    (s.dev.fnOf fix).st = .off →
    Does (.functionEnable fix val) s (.dirty :: .fn :: .tim :: .rad :: reportParts) (fun d =>
      ((d.fnOf fix).st = .starting ∨ (d.fnOf fix).st = .failed) ∧ OtherFns fix s.dev d))
  ∧ (∀ (s : State) (fix : Fin 128) (val : Word) (e : F × Nat), s.dev.live = true → fixAbsent s.dev.grade fix = false → enableOf fix = some e →
    s.dev.enableHeld fix = false → (s.dev.fnOf fix).st = .on →
    Does (.functionDisable fix val) s [.regs, .dirty, .fn, .rng, .lcp, .sch] (fun d =>
      d.fnOf fix = { s.dev.fnOf fix with st := .stopping, pending := false, thenStop := false } ∧ OtherFns fix s.dev d))
  ∧ (∀ (s : State) (fix : Fin 128) (nand : NandPart), s.dev.live = true → (s.dev.fnOf fix).st = .starting → (s.dev.fnOf fix).blocked = false →
    s.dev.startable_ fix = true → (s.dev.fnOf fix).thenStop = false → fix.val < 10 ∨ 14 ≤ fix.val →
    Does (.functionStarted fix nand) s [.regs, .fn, .tim, .met, .par] (fun d =>
      d.fnOf fix = { st := .on, pending := (s.dev.fnOf fix).pending } ∧ OtherFns fix s.dev d))
  ∧ (∀ (s : State) (n : Fin 4) (nand : NandPart) (fix : Fin 128), s.dev.live = true → fix.val = 10 + n.val → (s.dev.fnOf fix).st = .starting →
    (s.dev.fnOf fix).blocked = false → (s.dev.fnOf fix).thenStop = false → nand.slow = false →
    Does (.functionStarted fix nand) s (.fn :: .ftl :: .nand :: reportParts) (fun d =>
      d.fnOf fix = { st := .on, pending := (s.dev.fnOf fix).pending } ∧ OtherFns fix s.dev d))
  ∧ (∀ (s : State) (fix : Fin 128), s.dev.live = true → (s.dev.fnOf fix).st = .stopping → (s.dev.fnOf fix).pending = false → s.dev.fnIdle fix = true →
    (10 ≤ fix.val ∧ fix.val < 14) ∨ fix.val = 18 ∨ 64 ≤ fix.val →
    Does (.functionStopped fix) s [.regs, .fn] (fun d => d.fnOf fix = {} ∧ OtherFns fix s.dev d))
  ∧ (∀ (s : State) (fix : Fin 128), s.dev.live = true → (s.dev.fnOf fix).st = .stopping → (s.dev.fnOf fix).pending = false → s.dev.fnIdle fix = true →
    Does (.functionStopped fix) s (.fn :: .tim :: .ctx :: .tar :: .par :: .sec :: .sch :: .lcp :: .rad :: .cals :: .ldg :: .met :: .eth :: .fl :: reportParts) (fun d =>
      d.fnOf fix = {}))
  ∧ (∀ (s : State) (fix : Fin 128), s.dev.live = true → (s.dev.fnOf fix).st = .starting → (s.dev.fnOf fix).blocked = false →
    Does (.functionStartTimeout fix) s (.fn :: .tim :: .ctx :: .tar :: .par :: .sec :: .sch :: .lcp :: .rad :: .cals :: .ldg :: .met :: .eth :: .fl :: reportParts) (fun d =>
      (d.fnOf fix).st = .failed))
  ∧ (∀ (s : State) (val : Word) (fix : Nat), s.dev.live = true → F.GLB_FUNC_RESET_GO.get val.toNat = 1 → F.GLB_FUNC_RESET_FIX.get val.toNat = fix →
    fixAbsent s.dev.grade fix = false → (s.dev.fnOf fix).st = .on →
    Does (.functionReset val) s (.fn :: .tim :: .ctx :: .par :: .sch :: .lcp :: .rad :: reportParts) (fun d =>
      (d.fnOf fix).st = .stopping ∧ (d.fnOf fix).pending = true ∧ OtherFns fix s.dev d))
  ∧ (∀ (s : State) (port : Fin 5), s.dev.live = true → port.val < 4 → s.dev.isOn (6 + port.val) = true →
    Does (.serdesLockLoss port) s (.fn :: .eth :: reportParts) (fun d =>
      (d.fnOf (6 + port.val)).st = .failed ∧ OtherFns (6 + port.val) s.dev d ∧ d.on F.ETH_STS_LINK port = false))
  ∧ (∀ (s : State), s.dev.live = true → s.dev.isOn 18 = true →
    Does (.serdesLockLoss 4) s (.fn :: .par :: reportParts) (fun d =>
      (d.fnOf 18).st = .failed ∧ OtherFns 18 s.dev d ∧ d.par.lanes = [false, false] ∧ d.on F.GLB_CLK_STS_PAIR_LOCK = false
        ∧ d.on F.GLB_CLK_STS_LOSS_SEEN = (s.dev.on F.GLB_CLK_STS_LOSS_SEEN || s.dev.on F.GLB_CLK_STS_PAIR_LOCK)))

/-- Field-link frames and muster (R485 to R493). FL_FRAME_RX takes the frame; one that is well formed and passes its checks brings its records of defined
types, and a keyed one moves the receive window. HELLO_K_RX with the muster code, when nothing else musters: KEYWRAP goes out. KEYWRAP_RX with the code
that fits: the key is taken. HELLO_RX: WELCOME goes out and the field device is up; of another serial while up: a conflict is counted. WELCOME_RX: the link
is up and what it covers is freed. FL_HEARTBEAT_RX: nothing but the record. HELLO_RESEND, FL_CODE_VOID. -/
def Obligations.FieldLinkMuster : Prop :=
  (∀ (s : State) (port : Fin 4) (n pr b rx et : Nat) (udp loc : Bool) (f : EthRx) (x : FlFrame),
    s.dev.ingestHead (6 + port) = some (n, ⟨pr, b, .eth f rx⟩) → s.dev.serves = true → s.dev.fl.muster = [] →
    f.body = (if udp then .flUdp et loc x else .fl et x) → s.dev.flHeadOk udp x = true → x.keyless = true → keylessOk x = true →
    Does (.flFrameRx port) s [.fl, .lne] (fun d => d.fl.inbox = s.dev.fl.inbox ++ known x port rx
      ∧ (d.lane (6 + port)).cells = (s.dev.lane (6 + port)).cells.eraseIdx n))
  ∧ (∀ (s : State) (port : Fin 4) (n pr b rx et : Nat) (udp loc : Bool) (f : EthRx) (x : FlFrame) (w : SeqWin),
    s.dev.ingestHead (6 + port) = some (n, ⟨pr, b, .eth f rx⟩) → s.dev.serves = true → s.dev.fl.muster = [] →
    f.body = (if udp then .flUdp et loc x else .fl et x) → s.dev.flHeadOk udp x = true → x.keyless = false → s.dev.flKey x.fdx = some x.key →
    x.recs.any flKeyless = false → (s.dev.flEnd x.fdx).win.take x.epoch x.count = some w →
    Does (.flFrameRx port) s [.fl, .lne] (fun d => d.fl.inbox = s.dev.fl.inbox ++ known x port rx
      ∧ (d.flEnd x.fdx).win = w ∧ (d.flEnd x.fdx).heardAt = s.dev.tim.mono
      ∧ (d.lane (6 + port)).cells = (s.dev.lane (6 + port)).cells.eraseIdx n))
  ∧ (∀ (s : State) (fdx p rx serial : Nat) (nf code key : List Byte), s.dev.hears (fdx, p, rx, .helloK serial nf) → s.dev.flCode = some code →
    s.dev.flKeyOf fdx = some key → s.dev.fl.muster = [] → s.dev.fl.musterSec ≠ s.dev.tim.mono / 500000000 →
    Does .helloKRx s linkParts (fun d => (d.fd fdx).st = (if (s.dev.fd fdx).st = 2 then 2 else 1) ∧ d.fl.muster = [] ∧ d.fl.musterSent = 1
      ∧ d.rd F.FL_KEYWRAP = min (s.dev.rd F.FL_KEYWRAP + 1) (2 ^ F.FL_KEYWRAP.len - 1)))
  ∧ (∀ (s : State) (fdx p rx : Nat) (nh w code kw key : List Byte), s.dev.hears (fdx, p, rx, .keyWrap nh w) → s.dev.flCode = some code →
    s.dev.purposeKey "WRP" = some kw → s.dev.fl.st = 1 →
    kwUnwrap (musterKey code fdx (Config.serial 0).toNat s.dev.fl.nonce nh) w = some key →
    Does .keywrapRx s linkParts (fun d => d.fl.key = some (kwWrap kw key)))
  ∧ (∀ (s : State) (fdx p rx serial ds : Nat), s.dev.hears (fdx, p, rx, .hello serial ds) → (s.dev.fd fdx).st ≠ 2 ∨ (s.dev.fd fdx).serial = serial →
    s.dev.fl.muster = [] → s.dev.fl.musterSec ≠ s.dev.tim.mono / 500000000 →
    Does .helloRx s linkParts (fun d => (d.fd fdx).st = 2 ∧ (d.fd fdx).serial = serial
      ∧ (d.fd fdx).dseq = (if (s.dev.fd fdx).serial = serial then (s.dev.fd fdx).dseq else 0)))
  ∧ (∀ (s : State) (fdx p rx serial ds : Nat), s.dev.hears (fdx, p, rx, .hello serial ds) → (s.dev.fd fdx).st = 2 → (s.dev.fd fdx).serial ≠ serial →
    Does .helloRx s (.fl :: reportParts) (fun d => d.fl.fds = s.dev.fl.fds
      ∧ d.rd F.FL_FDX_CONFLICT = min (s.dev.rd F.FL_FDX_CONFLICT + 1) (2 ^ F.FL_FDX_CONFLICT.len - 1)))
  ∧ (∀ (s : State) (fdx p rx serial n hb : Nat), s.dev.hears (fdx, p, rx, .welcome serial n hb) → s.dev.fl.st = 2 →
    Does .welcomeRx s (.ftl :: linkParts) (fun d => d.fl.st = 3 ∧ d.fl.hbMs = clampNat 100 10000 hb
      ∧ d.fl.held.map FlHeld.num = ((s.dev.fl.held.filter (fun h => !seqLe h.num n)).map FlHeld.num)))
  ∧ (∀ (s : State) (fdx p rx : Nat), s.dev.hears (fdx, p, rx, .heartbeat) →
    Does .flHeartbeatRx s [.fl] (fun d => d.fl = { s.dev.fl with inbox := s.dev.fl.inbox.erase (fdx, p, rx, .heartbeat) }))
  ∧ (∀ (s : State), s.dev.serves = true → s.dev.isField = true → s.dev.fl.st = 1 ∨ (s.dev.fl.st = 2 ∧ 3 ≤ s.dev.fl.tries) →
    Does .helloResend s (.tim :: linkParts) (fun d => d.fl.st = 1 ∧ d.fl.tries = 0 ∧ d.fl.helloAt = d.tim.mono))
  ∧ (∀ (s : State), s.dev.serves = true → s.dev.isField = true → s.dev.fl.st = 2 → s.dev.fl.tries < 3 → s.dev.flKeyHeld.isSome = true →
    Does .helloResend s (.tim :: linkParts) (fun d => d.fl.st = 2 ∧ d.fl.tries = s.dev.fl.tries + 1 ∧ d.fl.helloAt = d.tim.mono))
  ∧ (∀ (s : State) (t : Nat), s.dev.fl.codeAt = some t → s.dev.live = true →
    Does .flCodeVoid s [.fl, .tim, .evr] (fun d => d.fl = { s.dev.fl with codeAt := none, code := [0, 0, 0, 0] }))

/-- Records that a field device holds until they are covered, and status (R111, R121, R161, R225, R380, R489, R490). METER_UP_RX, JOIN_RECORD_RX,
METER_STS_RX, CHECK_REC_RX and ORDER_DONE_RX of a DSEQ not seen: the highest contiguous DSEQ moves over it; of one seen: it counts as a duplicate.
METER_STS_RX of a meter of that field device: its hops. PORT_STS_RX: the exchange times. DATA_ACK_RX: what it covers is freed. ORDER_DONE_RX ends the
order. JOIN_OK_RX: the field device has the meter's context. RELEASE_RX: it has not. -/
def Obligations.FieldLinkRecords : Prop :=
  (∀ (s : State) (fdx p rx n port hops snr rt : Nat) (f : MFrame), s.dev.hears (fdx, p, rx, .meterUp n port hops snr rt f) →
    seqLe n (s.dev.fd fdx).dseq = false → (s.dev.fd fdx).above.contains n = false →
    Does .meterUpRx s (.ctx :: .ldg :: linkParts) (fun d =>
      ((d.fd fdx).dseq, (d.fd fdx).above) = seqRun ((s.dev.fd fdx).above.length + 1) (s.dev.fd fdx).dseq (n :: (s.dev.fd fdx).above)))
  ∧ (∀ (s : State) (fdx p rx n port hops snr rt : Nat) (f : MFrame), s.dev.hears (fdx, p, rx, .meterUp n port hops snr rt f) →
    (seqLe n (s.dev.fd fdx).dseq || (s.dev.fd fdx).above.contains n) = true →
    Does .meterUpRx s linkParts (fun d => ((d.fd fdx).dseq, (d.fd fdx).above) = ((s.dev.fd fdx).dseq, (s.dev.fd fdx).above)
      ∧ d.rd F.FL_DUP = min (s.dev.rd F.FL_DUP + 1) (2 ^ F.FL_DUP.len - 1)))
  ∧ (∀ (s : State) (fdx p rx n port : Nat) (j : JoinReq), s.dev.hears (fdx, p, rx, .join n port j) →
    seqLe n (s.dev.fd fdx).dseq = false → (s.dev.fd fdx).above.contains n = false →
    Does .joinRecordRx s linkParts (fun d =>
      ((d.fd fdx).dseq, (d.fd fdx).above) = seqRun ((s.dev.fd fdx).above.length + 1) (s.dev.fd fdx).dseq (n :: (s.dev.fd fdx).above)))
  ∧ (∀ (s : State) (fdx p rx n kind attach hops cost addr m : Nat) (c : Ctx), s.dev.hears (fdx, p, rx, .meterSts n kind attach hops cost addr) →
    seqLe n (s.dev.fd fdx).dseq = false → (s.dev.fd fdx).above.contains n = false → s.dev.lookup kind addr = some m → s.dev.ctxAt m = some c →
    c.owner = fdx →
    Does .meterStsRx s (.ctx :: .ldg :: linkParts) (fun d => (d.ctxAt m).map (fun x => (x.attach % 256, x.hops % 256, x.linkCost % 256))
        = some (7, min 255 hops, min 255 cost)
      ∧ ((d.fd fdx).dseq, (d.fd fdx).above) = seqRun ((s.dev.fd fdx).above.length + 1) (s.dev.fd fdx).dseq (n :: (s.dev.fd fdx).above)))
  ∧ (∀ (s : State) (fdx p rx : Nat) (ttx : List Nat), s.dev.hears (fdx, p, rx, .portSts ttx) →
    Does .portStsRx s [.fl] (fun d => d.fd fdx = { s.dev.fd fdx with ttx := (List.range 6).map (fun i => clampNat 1 65535 (ttx.getD i 1000)) }))
  ∧ (∀ (s : State) (fdx p rx n : Nat) (b : List Byte), s.dev.hears (fdx, p, rx, .checkRec n b) →
    seqLe n (s.dev.fd fdx).dseq = false → (s.dev.fd fdx).above.contains n = false →
    Does .checkRecRx s (.ldg :: linkParts) (fun d =>
      ((d.fd fdx).dseq, (d.fd fdx).above) = seqRun ((s.dev.fd fdx).above.length + 1) (s.dev.fd fdx).dseq (n :: (s.dev.fd fdx).above)))
  ∧ (∀ (s : State) (fdx p rx n : Nat) (auth : List Nat), s.dev.hears (fdx, p, rx, .dataAck n auth) →
    Does .dataAckRx s (.ftl :: .lcp :: .ldg :: linkParts) (fun d => d.fl.held.map FlHeld.num = ((s.dev.fl.held.filter (fun h => !seqLe h.num n)).map FlHeld.num)
      ∧ d.fl.learns = s.dev.fl.learns.filter (fun l => !auth.contains l.dseq)))
  ∧ (∀ (s : State) (fdx p rx n id result attempts answer : Nat) (polling : Bool), s.dev.hears (fdx, p, rx, .orderDone n id result attempts answer polling) →
    seqLe n (s.dev.fd fdx).dseq = false → (s.dev.fd fdx).above.contains n = false → s.dev.curOf (16 + fdx) = none →
    Does .orderDoneRx s linkParts (fun d => d.fl.orders = s.dev.fl.orders.filter (fun o => o.num ≠ id)
      ∧ ((d.fd fdx).dseq, (d.fd fdx).above) = seqRun ((s.dev.fd fdx).above.length + 1) (s.dev.fd fdx).dseq (n :: (s.dev.fd fdx).above)))
  ∧ (∀ (s : State) (moves : List (Fin 4)) (fdx p rx id kind addr : Nat), s.dev.hears (fdx, p, rx, .joinOk id kind addr) →
    s.dev.fl.done.find? (fun e => decide (e.1 = id)) = none → s.dev.fl.taken.contains id = false → s.dev.lookup kind addr = none →
    s.dev.ctxUsed < s.dev.ctxLimit → s.dev.directFull = false → s.dev.ctx.rehash = false → s.dev.stashUsed < 1024 →
    Does (.joinOkRx moves) s (.ctx :: .cals :: .ldg :: .lcp :: linkParts) (fun d => (d.ctxAt s.dev.freeMix).isSome = true
      ∧ (d.fl.done.find? (fun e => decide (e.1 = id))).isSome = true))
  ∧ (∀ (s : State) (fdx p rx id kind addr m : Nat) (c : Ctx), s.dev.hears (fdx, p, rx, .release id kind addr) →
    s.dev.fl.done.find? (fun e => decide (e.1 = id)) = none → s.dev.fl.taken.contains id = false → s.dev.lookup kind addr = some m →
    s.dev.ctxAt m = some c → c.owner = 0xFFFE →
    Does .releaseRx s (.ctx :: .sec :: .sch :: .img :: .lcp :: .cals :: linkParts) (fun d => d.ctxAt m = none
      ∧ (d.fl.done.find? (fun e => decide (e.1 = id))).isSome = true))

/-- Orders, time and timers of the field link (R442, R480, R489 to R494, R548). ORDER_RX of a meter that a port reaches: the order waits on that port; of a
meter that is not known: it is answered at once. ORDER_DEADLINE: the order is answered and waits no more. TIME_RECORD_RX, DELAY_REQ_RX, DELAY_RSP_RX,
FL_TIME_SEND, FL_TIME_MISS. FL_HEARTBEAT_SEND, PORT_STS_SEND, DATA_ACK_DUE and FL_RTO_EXPIRY: what is due is sent. FL_LINK_LOST and
FL_PORT_FAILBACK: the field device musters on another port. FDX_LOST: the field device is lost. ETH_LINK_UP: the link of a port is up. -/
def Obligations.FieldLinkOrdersAndTimers : Prop :=
  (∀ (s : State) (fdx p rx id kind addr cls due bytes m pk : Nat) (poll : Bool) (c : Ctx), s.dev.hears (fdx, p, rx, .order id kind addr cls due bytes poll) →
    s.dev.fl.done.find? (fun e => decide (e.1 = id)) = none → s.dev.fl.taken.contains id = false → cls ≠ 2 → s.dev.lookup kind addr = some m →
    s.dev.ctxAt m = some c → c.port = some pk → pk < 16 → s.dev.isOn pk = true →
    Does .orderRx s (.sch :: .lcp :: .ctx :: linkParts) (fun d => d.fl.taken = id :: s.dev.fl.taken ∧ (d.sch.wait.any (fun x => x.order = some id && x.mix = m)) = true))
  ∧ (∀ (s : State) (fdx p rx id kind addr cls due bytes : Nat) (poll : Bool), s.dev.hears (fdx, p, rx, .order id kind addr cls due bytes poll) →
    s.dev.fl.done.find? (fun e => decide (e.1 = id)) = none → s.dev.fl.taken.contains id = false → cls ≠ 2 → s.dev.lookup kind addr = none →
    Does .orderRx s linkParts (fun d => (d.fl.done.find? (fun e => decide (e.1 = id))).isSome = true))
  ∧ (∀ (s : State) (order : Word) (x : Xfer), s.dev.sch.wait.find? (fun x => x.order = some order.toNat && x.due.isSome) = some x → s.dev.serves = true →
    Does (.orderDeadline order) s (.sch :: .tim :: linkParts) (fun d =>
      d.sch.wait = s.dev.sch.wait.filter (fun x => !(x.order = some order.toNat && x.due.isSome))
        ∧ (d.fl.done.find? (fun e => decide (e.1 = order.toNat))).isSome = true))
  ∧ (∀ (s : State) (fdx p rx tseq : Nat) (hold valid : Bool) (prev : Int), s.dev.hears (fdx, p, rx, .time hold valid tseq prev) →
    Does .timeRecordRx s (.tim :: .ctx :: .tar :: .met :: .cals :: linkParts) (fun d => d.tim.headHold = hold ∧ d.tim.flMissRun = 0 ∧ d.tim.flMsgs = s.dev.tim.flMsgs + 1
      ∧ d.tim.flT1 = some (tseq, (rx : Int))))
  ∧ (∀ (s : State) (fdx p rx i : Nat), s.dev.hears (fdx, p, rx, .delayReq i) → s.dev.isHead = true → s.dev.fl.mode ≠ 0 →
    (s.dev.fd fdx).link.count < 2 ^ 40 → (s.dev.fd fdx).link.epoch < 2 ^ 24 →
    Does .delayReqRx s linkParts (fun d => (d.fd fdx).link.count = (s.dev.fd fdx).link.count + 1))
  ∧ (∀ (s : State) (fdx p rx i : Nat) (t t3 raw : Int), s.dev.hears (fdx, p, rx, .delayRsp i t) → s.dev.tim.flT3 = some (i, t3) → s.dev.tim.flRaw = some raw →
    Does .delayRspRx s [.fl, .tim] (fun d => d.tim = { s.dev.tim with flT3 := none, flDelay := some ((raw + (t - t3)) / 2) }))
  ∧ (∀ (s : State) (fdx : Fin 1024), s.dev.serves = true → s.dev.isHead = true → (s.dev.fd fdx).st = 2 →
    Does (.flTimeSend fdx) s (.tim :: linkParts) (fun d => (d.fd fdx).tseq = ((s.dev.fd fdx).tseq + 1) % 2 ^ 32 ∧ (s.dev.fd fdx).timeDue ≤ (d.fd fdx).timeDue))
  ∧ (∀ (s : State) (t : Nat), s.dev.tim.flDue = some t → s.dev.live = true → s.dev.isField = true →
    Does .flTimeMiss s (.tim :: reportParts) (fun d => d.tim.flMissRun = s.dev.tim.flMissRun + 1
      ∧ d.rd F.TIM_FL_MISS = min (s.dev.rd F.TIM_FL_MISS + 1) (2 ^ F.TIM_FL_MISS.len - 1)))
  ∧ (∀ (s : State) (fdx : Fin 1024), s.dev.flMustered fdx = true → s.dev.fl.muster = [] → (s.dev.flEnd fdx).count < 2 ^ 40 → (s.dev.flEnd fdx).epoch < 2 ^ 24 →
    Does (.flHeartbeatSend fdx) s (.tim :: linkParts) (fun d => (d.flEnd fdx).count = (s.dev.flEnd fdx).count + 1 ∧ (d.flEnd fdx).sentAt = d.tim.mono))
  ∧ (∀ (s : State), s.dev.serves = true → s.dev.isField = true → s.dev.fl.st = 3 → s.dev.flPorts = [] →
    Does .flLinkLost s [.fl, .tim, .evr] (fun d => d.fl = { s.dev.fl with st := 4 }))
  ∧ (∀ (s : State) (p : Nat), s.dev.serves = true → s.dev.isField = true → s.dev.fl.st = 3 →
    (s.dev.flPorts.find? (fun q => s.dev.fl.port < q)).or s.dev.flPorts.head? = some p →
    Does .flLinkLost s (.tim :: linkParts) (fun d => d.fl.port = p ∧ (d.fl.st = 1 ∨ d.fl.st = 2)))
  ∧ (∀ (s : State) (port : Fin 4) (speed : Fin 3), s.dev.epOn port = true → s.dev.on F.ETH_STS_LINK port = false →
    Does (.ethLinkUp port speed) s linkParts (fun d => d.on F.ETH_STS_LINK port = true ∧ (d.ep port).linkAt = some s.dev.tim.mono))
  ∧ (∀ (s : State) (fdx : Fin 1024), s.dev.isHead = true → s.dev.flMustered fdx = true →
    Does (.fdxLost fdx) s (.fl :: .tim :: .par :: reportParts) (fun d => d.fd fdx = { s.dev.fd fdx with st := 3 }))
  ∧ (∀ (s : State) (h : FlHeld), s.dev.serves = true → s.dev.isField = true → s.dev.flIsUp = true → oldestSent s.dev.fl.held = some h →
    Does .flRtoExpiry s (.tim :: linkParts) (fun d => d.fl.held = s.dev.fl.held.map (fun y => if y = h then { y with sentAt := some d.tim.mono } else y)))
  ∧ (∀ (s : State) (h : FlHeld), s.dev.serves = true → s.dev.isField = false → oldestSent (s.dev.fl.orders.filter (fun o => (s.dev.fd o.fdx).st = 2)) = some h →
    Does .flRtoExpiry s (.tim :: linkParts) (fun d => d.fl.orders = s.dev.fl.orders.map (fun y => if y = h then { y with sentAt := some d.tim.mono } else y)))
  ∧ (∀ (s : State) (fdx : Fin 1024) (t : Nat), (s.dev.fd fdx).ackFrom = some t → s.dev.serves = true → s.dev.isHead = true →
    Does (.dataAckDue fdx) s (.tim :: linkParts) (fun d => (d.fd fdx).ackFrom = none ∧ (d.fd fdx).ackCount = 0 ∧ t + 25000000 ≤ d.tim.mono))
  ∧ (∀ (s : State), s.dev.serves = true → s.dev.isField = true → s.dev.flIsUp = true →
    Does .portStsSend s (.tim :: linkParts) (fun d => d.fl.stsAt = d.tim.mono ∧ s.dev.fl.stsAt + 30000000000 ≤ d.tim.mono))
  ∧ (∀ (s : State) (p t : Nat), s.dev.serves = true → s.dev.isField = true → s.dev.fl.mode ≠ 0 → s.dev.fl.st ≠ 0 →
    (s.dev.flPorts.filter (fun q => q < s.dev.fl.port)).head? = some p → (s.dev.ep p).linkAt = some t →
    Does .flPortFailback s (.tim :: linkParts) (fun d => d.fl.port = p ∧ (d.fl.st = 1 ∨ d.fl.st = 2)))

/-- Meter images (R605 to R611). IMAGE_STAGE of more bytes of an image, or of a header and first bytes: the slot holds them, and the answer counts whole
blocks. IMAGE_START with a complete image in a group where none runs: the campaign has its slot and window. IMAGE_STATUS of a meter and of a group.
IMAGE_ABORT of an image that no campaign uses: the slot is free; of the group's campaign: it is ended. IMAGE_WINDOW_OPEN and IMAGE_WINDOW_CLOSE: the
campaign runs or waits. IMAGE_PASS_START on a port with members to serve: a pass more runs, from the lowest missing block. -/
def Obligations.MeterImages : Prop :=
  (∀ (s : State) (pair : Fin 64) (bs : List Byte) (h : Held) (sl : ImgSlot), s.takes pair 0x50 h → s.dev.ftl.state ≠ 2 → h.desc.word 6 ≤ 15 →
    s.dev.imgUsed (h.desc.word 6) = false → s.dev.img.slots.find (h.desc.word 6) = some sl → sl.bytes.length + bufLen h.desc ≤ sl.size →
    Completes (.imageStage pair (.data bs)) s pair h [(sl.bytes.length + bufLen h.desc) / sl.block] (.img :: reportParts) (fun d =>
      d.img.slots.find (h.desc.word 6) = some { sl with bytes := sl.bytes ++ padTo (bufLen h.desc) (bs.take (bufLen h.desc)) }))
  ∧ (∀ (s : State) (pair : Fin 64) (bs : List Byte) (h : Held) (sl : ImgSlot), s.takes pair 0x50 h → s.dev.ftl.state ≠ 2 → h.desc.word 6 ≤ 15 →
    s.dev.imgUsed (h.desc.word 6) = false → s.dev.img.slots.find (h.desc.word 6) = none →
    ImgSlot.parse (padTo (bufLen h.desc) (bs.take (bufLen h.desc))) = .ok sl → 64 ≤ bufLen h.desc → bufLen h.desc - 64 ≤ sl.size →
    Completes (.imageStage pair (.data bs)) s pair h [(bufLen h.desc - 64) / sl.block] (.img :: reportParts) (fun d =>
      d.img.slots.find (h.desc.word 6) = some { sl with bytes := (padTo (bufLen h.desc) (bs.take (bufLen h.desc))).drop 64 }))
  ∧ (∀ (s : State) (pair : Fin 64) (h : Held) (sl : ImgSlot), s.takes pair 0x51 h → s.dev.img.slots.find (h.desc.word 6) = some sl → sl.complete = true →
    s.dev.campOf (tGrp h.desc) = none →
    Completes (.imageStart pair) s pair h [] (.img :: .ctx :: reportParts) (fun d =>
      (d.img.camps.find (tGrp h.desc)).map (fun c => (c.slot, c.open_, c.close_))
        = some (h.desc.word 6, minute1439 (h.desc.word 7), minute1439 (h.desc.word 8))))
  ∧ (∀ (s : State) (pair : Fin 64) (h : Held) (c : Ctx), s.takes pair 0x52 h → tKind h.desc = 1 → s.dev.ctxNamed (tMix h.desc) = some c → c.owned = true →
    Completes (.imageStatus pair) s pair h [c.imgFirst, c.imgMiss, c.imgState] [] (fun _ => True))
  ∧ (∀ (s : State) (pair : Fin 64) (h : Held), s.takes pair 0x52 h → tKind h.desc ≠ 1 →
    Completes (.imageStatus pair) s pair h [s.dev.imgLowest (tGrp h.desc), (s.dev.imgOpen (tGrp h.desc)).length, s.dev.campSt (tGrp h.desc)] [] (fun _ => True))
  ∧ (∀ (s : State) (pair : Fin 64) (h : Held), s.takes pair 0x53 h → h.desc.word 6 ≤ 15 → s.dev.imgUsed (h.desc.word 6) = false →
    Completes (.imageAbort pair) s pair h [] (.img :: reportParts) (fun d => d.img.slots.find (h.desc.word 6) = none))
  ∧ (∀ (s : State) (pair : Fin 64) (h : Held), s.takes pair 0x53 h → h.desc.word 6 ≤ 15 → s.dev.imgUsed (h.desc.word 6) = true →
    (s.dev.campOf (tGrp h.desc)).isSome = true →
    Completes (.imageAbort pair) s pair h [] (.img :: .ctx :: .sch :: reportParts) (fun d => d.campSt (tGrp h.desc) = 5))
  ∧ (∀ (s : State) (grp : Fin 4096) (c : Campaign) (sl : ImgSlot), s.dev.campOf grp.val = some (c, sl) → s.dev.serves = true → c.st = 3 →
    Does (.imageWindowOpen grp) s (.img :: .tim :: reportParts) (fun d => d.img.camps.find grp.val = some { c with st := 2 }))
  ∧ (∀ (s : State) (grp : Fin 4096) (c : Campaign) (sl : ImgSlot), s.dev.campOf grp.val = some (c, sl) → s.dev.serves = true → c.st = 2 → c.open_ ≠ c.close_ →
    Does (.imageWindowClose grp) s (.img :: .tim :: reportParts) (fun d => d.img.camps.find grp.val = some { c with st := 3 }))
  ∧ (∀ (s : State) (grp : Fin 4096) (port : Fin 7) (fdx : Fin 1024) (pk : Nat) (c : Campaign) (sl : ImgSlot) (a : Nat × Ctx) (t : List (Nat × Ctx)),
    pk = (if port.val = 6 then 16 + fdx.val else port.val) → s.dev.campOf grp.val = some (c, sl) → s.dev.serves = true →
    (c.passes.getD pk {}).next = none → s.dev.passesSpent c pk = false → (c.passes.getD pk {}).endedAt = none → s.dev.campSends grp.val = true →
    s.dev.passFor grp.val pk = a :: t →
    Does (.imagePassStart grp port fdx) s [.img, .regs] (fun d => (d.img.camps.find grp.val).map (fun x => x.passes.find pk) = some (some
        { c.passes.getD pk {} with run := (c.passes.getD pk {}).run + 1, next := some (t.foldl (fun k e => min k e.2.imgFirst) a.2.imgFirst) })
      ∧ KeepsRegs [F.UPD_PASSES.off] s.dev d))

/-- Frames and joins from their ingest queues (R35, R121 to R126, R302). FRAME_PROCESS of a frame of no known meter: it counts. FRAME_PROCESS of a frame
that a meter sends by itself and that authenticates: the context counts it and has its time. JOIN_RX of an unknown meter under MODE 0: it counts; under
another mode with room: the meter has a context in JOINING. JOIN_RX of a known meter with room: its context goes to JOINING. -/
def Obligations.FramesAndJoins : Prop :=
  (∀ (s : State) (queue : Fin 10) (n pr b : Nat) (f : MFrame) (v : Via), s.dev.ingestHead queue = some (n, ⟨pr, b, .frame f v⟩) → s.dev.serves = true →
    s.dev.resolve f v = none →
    Does (.frameProcess queue) s [.lne, .regs] (fun d => (d.lane queue).cells = (s.dev.lane queue).cells.eraseIdx n
      ∧ d.rd F.CTX_UNKNOWN_RX = min (s.dev.rd F.CTX_UNKNOWN_RX + 1) (2 ^ F.CTX_UNKNOWN_RX.len - 1) ∧ KeepsRegs [F.CTX_UNKNOWN_RX.off] s.dev d))
  ∧ (∀ (s : State) (queue : Fin 10) (n pr b m : Nat) (f : MFrame) (v : Via) (c : Ctx), s.dev.ingestHead queue = some (n, ⟨pr, b, .frame f v⟩) →
    s.dev.serves = true → s.dev.resolve f v = some m → s.dev.ctxAt m = some c → c.st = 3 ∨ c.st = 4 → c.owner ≠ 0xFFFE → f.data.alarms = 0 →
    v.fdx = none → v.reply = false → (s.dev.fetchCtx m).1 = true →
    ((((s.dev.fetchCtx m).2.laneDrop queue n).stormCheck).authenticate m c f).1 = .ok →
    Does (.frameProcess queue) s (.ctx :: .tar :: .par :: .sec :: .sch :: .lcp :: .cals :: .ldg :: reportParts) (fun d =>
      (d.ctxAt m).map (fun x => (x.framesRx, x.lastRx % 2 ^ 32)) = some ((c.framesRx + 1) % 2 ^ 32, (v.rx / 1000000000) % 2 ^ 32)))
  ∧ (∀ (s : State) (queue : Fin 10) (n pr b m : Nat) (f : MFrame) (v : Via) (c : Ctx), s.dev.ingestHead queue = some (n, ⟨pr, b, .frame f v⟩) →
    s.dev.serves = true → s.dev.resolve f v = some m → s.dev.ctxAt m = some c → c.st = 3 ∨ c.st = 4 → c.owner ≠ 0xFFFE → (s.dev.fetchCtx m).1 = false →
    Does (.frameProcess queue) s [.ctx, .regs] (fun d => (d.ctx.waits.contains m) = true ∧ KeepsRegs [F.CTX_CACHE_STS_SET_WAIT.off] s.dev d))
  ∧ (∀ (s : State) (queue : Fin 10) (moves : List (Fin 4)) (n pr b : Nat) (j : JoinReq) (v : Via), s.dev.ingestHead queue = some (n, ⟨pr, b, .join j v⟩) →
    s.dev.serves = true → s.dev.lookup j.kind j.addr = none → s.dev.isField = false → s.dev.ctx.rehash = false → j.kind = 0 →
    s.dev.rd F.CTX_ADMIT_CFG_MODE = 0 →
    Does (.joinRx queue moves) s [.lne, .regs] (fun d => (d.lane queue).cells = (s.dev.lane queue).cells.eraseIdx n
      ∧ d.rd F.CTX_UNKNOWN_RX = min (s.dev.rd F.CTX_UNKNOWN_RX + 1) (2 ^ F.CTX_UNKNOWN_RX.len - 1) ∧ KeepsRegs [F.CTX_UNKNOWN_RX.off] s.dev d))
  ∧ (∀ (s : State) (queue : Fin 10) (moves : List (Fin 4)) (n pr b : Nat) (j : JoinReq) (v : Via), s.dev.ingestHead queue = some (n, ⟨pr, b, .join j v⟩) →
    s.dev.serves = true → s.dev.lookup j.kind j.addr = none → s.dev.isField = false → j.kind = 0 → s.dev.rd F.CTX_ADMIT_CFG_MODE ≠ 0 →
    s.dev.ctxUsed < s.dev.ctxLimit → s.dev.attachFull v false = false → s.dev.joining < 1024 → s.dev.ctx.rehash = false → s.dev.ctx.index.length < 1024 →
    Does (.joinRx queue moves) s (.ctx :: .img :: .cals :: .ldg :: .lcp :: linkParts) (fun d => d.lookup j.kind j.addr = some s.dev.freeMix
      ∧ (d.ctxAt s.dev.freeMix).map (fun c => c.st % 16) = some 2))
  ∧ (∀ (s : State) (queue : Fin 10) (moves : List (Fin 4)) (n pr b m : Nat) (j : JoinReq) (v : Via) (c : Ctx), s.dev.ingestHead queue = some (n, ⟨pr, b, .join j v⟩) →
    s.dev.serves = true → s.dev.lookup j.kind j.addr = some m → s.dev.ctxAt m = some c → c.owner ≠ 0xFFFE → c.st ≠ 5 → c.st ≠ 2 →
    s.dev.isQuiet j = false → s.dev.ctx.rehash = false →
    s.dev.attachFull v (decide (1 ≤ c.attach ∧ c.attach ≤ 6)) = false → s.dev.joining < 1024 →
    Does (.joinRx queue moves) s (.ctx :: .cals :: .ldg :: .lcp :: linkParts) (fun d =>
      (d.ctxAt m).map (fun c => c.st % 16) = some 2 ∧ (d.ctx.joins.find m).map (·.1) = some c.st))

/-- The Ledger's reading and times (R322, R324, R332 to R334, R339, R341, R352, R355). READ_LOG of a meter: the whole records that fit are counted, and
whether more remain. GAP_FILL of a run that can be filled: each missing start has a class R entry. VEE_FLAGS_CLEAR: no context has flags of the day.
INTERVAL_EVENT_WINDOW: the window is over. BALANCE_FORM and LEDGER_EVALUATION: the interval, or the day, is handled. LEDGER_RECOMPUTE_DONE: the
recomputation is over. NODE_DATA_SNAPSHOT_READ: the words of the selected node are copied. -/
def Obligations.LedgerTimes : Prop :=
  (∀ (s : State) (pair : Fin 64) (h : Held) (c : Ctx) (ok : List (List Byte) × Bool), s.takes pair 0x21 h → tKind h.desc = 1 →
    s.dev.ctxNamed (tMix h.desc) = some c → c.owned = true →
    fitting (bufLen h.desc) (s.dev.logOf (h.desc.quad 6) (count4096 (h.desc.word 8)) (bitAt (h.desc.word 9) 0) (tMix h.desc)).1 = ok →
    Completes (.readLog pair) s pair h
      [ok.1.length, b2n (ok.2 || (s.dev.logOf (h.desc.quad 6) (count4096 (h.desc.word 8)) (bitAt (h.desc.word 9) 0) (tMix h.desc)).2)] [.out] (fun d =>
      d.out = if ok.1.isEmpty then s.dev.out else .hostWrite (bufAddr h.desc) (ok.1.flatten.take (bufLen h.desc)) :: s.dev.out))
  ∧ (∀ (s : State) (mix : BitVec 20) (r : List Nat × Nat × Nat), (sortBy (fun r => r.2.2) (s.dev.fillable mix.toNat)).head? = some r → s.dev.ldgRuns = true →
    Does (.gapFill mix) s (.tim :: .ctx :: .ldg :: reportParts) (fun d =>
      r.1.all (fun st => (d.ldgM mix.toNat).log.any (fun e => e.isInt && e.cls = 2 && e.start = st)) = true))
  ∧ (∀ (s : State), s.dev.ldgRuns = true →
    Does .veeFlagsClear s [.ctx, .tim, .evr] (fun d => d.ctx.tab.keys.all (fun m => match d.ctxAt m with | some c => c.vee % 256 = 0 | none => true) = true))
  ∧ (∀ (s : State), s.dev.ldgRuns = true → s.dev.ldg.winMixes ≠ [] →
    Does .intervalEventWindow s (.ldg :: .tim :: reportParts) (fun d => d.ldg = { s.dev.ldg with winEnd := 0, winMixes := [] }))
  ∧ (∀ (s : State), s.dev.ldgRuns = true →
    Does .balanceForm s [.ldg, .regs, .tim, .evr] (fun d => d.ldg.balTo = s.dev.balNext))
  ∧ (∀ (s : State), s.dev.live = true →
    Does .ledgerEvaluation s (.ldg :: .tim :: .ctx :: .tar :: .par :: reportParts) (fun d => d.ldg.evalDay = s.dev.evalNext))
  ∧ (∀ (s : State), s.dev.ldgRuns = true → s.dev.ldg.recompute = true →
    Does .ledgerRecomputeDone s (.ldg :: .ctx :: .tar :: .par :: reportParts) (fun d => d.ldg.recompute = false))
  ∧ (∀ (s : State), s.dev.live = true →
    Does .nodeDataSnapshotRead s [.ldg, .out] (fun d =>
      d.ldg = { s.dev.ldg with nodeCopy := (s.dev.nodeWords (s.dev.rd F.LDG_NODE_SEL_NODE)).map (BitVec.ofNat 32) }
        ∧ d.out = .readData ((s.dev.nodeWords (s.dev.rd F.LDG_NODE_SEL_NODE)).getD 0 0) :: s.dev.out))

/-- Line-port frames (R171, R172, R184 to R187, R194, R199, R212, R214). LINE_FRAME_RX of a frame whose checks pass counts as received; of one whose frame
check fails, as that. SEGMENT_TIMEOUT: the frame is void. BACKOFF_EXPIRY with the gate open and the governor's leave: the frame is sent; with the gate
closed: the request is held. LINE_TX_END: the port sends no more and blanks its chains. BLANK_END: they are released. -/
def Obligations.LinePortFrames : Prop :=
  (∀ (s : State) (port : Fin 2) (rx : LineRx), s.dev.portRuns port = true → (s.dev.plans port).contains rx.plan = true →
    (s.dev.lp port).blanked.contains rx.plan = false → (LineRx.fcPass rx) = true → rx.ok = true →
    Does (.lineFrameRx port rx) s (.ctx :: .lcp :: .ldg :: .sch :: reportParts) (fun d =>
      d.rd F.LCP_RX_OK port = min (s.dev.rd F.LCP_RX_OK port + 1) (2 ^ F.LCP_RX_OK.len - 1)))
  ∧ (∀ (s : State) (port : Fin 2) (rx : LineRx), s.dev.portRuns port = true → (s.dev.plans port).contains rx.plan = true →
    (s.dev.lp port).blanked.contains rx.plan = false → ((LineRx.fcPass rx) && rx.ok) = false →
    Does (.lineFrameRx port rx) s [.lcp, .regs] (fun d =>
      d.rd F.LCP_RX_FCS port = min (s.dev.rd F.LCP_RX_FCS port + 1) (2 ^ F.LCP_RX_FCS.len - 1)
        ∧ KeepsRegs [F.LCP_RX_FCS.at port, F.LCP_IMP_SYM.at port] s.dev d))
  ∧ (∀ (s : State) (port : Fin 2), s.dev.portRuns port = true → (s.dev.lp port).seg.isSome = true →
    Does (.segmentTimeout port) s [.lcp, .regs, .tim, .evr] (fun d => (d.lp port).seg = none
      ∧ d.rd F.LCP_SEG_DROP port = min (s.dev.rd F.LCP_SEG_DROP port + 1) (2 ^ F.LCP_SEG_DROP.len - 1) ∧ KeepsRegs [F.LCP_SEG_DROP.at port] s.dev d))
  ∧ (∀ (s : State) (port : Fin 2) (plan bps bytes : Nat), s.dev.portRuns port = true → (s.dev.lp port).phase = .contend →
    s.dev.contends port = some (plan, bps, bytes) → s.dev.gateOpen = true → (s.dev.toMono (s.dev.sendAt port plan)).govStarts port plan = true →
    Does (.backoffExpiry port) s [.lcp, .regs, .tim, .evr, .out] (fun d => d.on F.LCP_STS_GATED port = false
      ∧ (d.lp port).tx = some
        { plan := plan, start := d.tim.mono, beacon := (s.dev.psch port).beacon, seg := (s.dev.lp port).segNext,
          segLast := if plan = 2 then scSegments bytes bps - 1 else 0,
          symbols := frameSymbols plan (if (if plan = 2 then scSegments bytes bps - 1 else 0) = 0 then bytes else segBytes bytes bps (s.dev.lp port).segNext) bps }))
  ∧ (∀ (s : State) (port : Fin 2) (plan bps bytes : Nat), s.dev.portRuns port = true → (s.dev.lp port).phase = .contend →
    s.dev.contends port = some (plan, bps, bytes) → s.dev.gateOpen = false →
    Does (.backoffExpiry port) s [.regs, .tim, .evr] (fun d => d.on F.LCP_STS_GATED port = true ∧ KeepsRegs [F.LCP_STS_GATED.at port] s.dev d))
  ∧ (∀ (s : State) (port : Fin 2) (gain : Fin 8) (t : LineTx), s.dev.portRuns port = true → (s.dev.lp port).tx = some t →
    Does (.lineTxEnd port gain) s (.tim :: .lcp :: .sch :: .img :: linkParts) (fun d => (d.lp port).tx = none
      ∧ (d.lp port).blankUntil = some (s.dev.txLast port t + usC (s.dev.rd F.LCP_AFE_CFG_BLANK port))))
  ∧ (∀ (s : State) (port : Fin 2) (t : Nat), (s.dev.lp port).blankUntil = some t →
    Does (.blankEnd port) s [.lcp, .tim, .evr] (fun d => d.lp port = { s.dev.lp port with blanked := [], blankUntil := none }))

/-- The transmit-energy governor and its fuses (R196 to R202, R205, R580). GOV_SAMPLE: the sample joins both sums. GOV_CAP_WRITE: the register takes what
its access code lets it. GOV_FUSE_GO: fusing starts, or is refused with one record. GOV_FUSE_DONE: the die holds the values, for good.
LCP_COUNTER_CLEAR: the counter is 0. -/
def Obligations.Governor : Prop :=
  (∀ (s : State) (port : Fin 2) (v i : BitVec 14), s.dev.live = true → absentOff s.dev.grade (F.LCP_STS_STATE.at port) = false →
    (∀ t, (s.dev.lp port).tx = some t → 125 * max ((s.dev.lp port).sample + 1) s.dev.sampleNo ≤ s.dev.txDown port t) →
    Does (.govSample port v i) s (.lcp :: .tim :: reportParts) (fun d =>
      (d.lp port).sample = max ((s.dev.lp port).sample + 1) s.dev.sampleNo
        ∧ (d.lp port).win = (if s.dev.samplePower port v.toNat i.toNat = 0 then []
              else [(max ((s.dev.lp port).sample + 1) s.dev.sampleNo, s.dev.samplePower port v.toNat i.toNat)])
            ++ (s.dev.lp port).win.filter (fun e => decide (max ((s.dev.lp port).sample + 1) s.dev.sampleNo < e.1 + 40000))
        ∧ (d.lp port).tx.map (·.energy) = (s.dev.lp port).tx.map (fun t => t.energy + s.dev.samplePower port v.toNat i.toNat)))
  ∧ (∀ (s : State) (port : Fin 2) (val : Word), s.dev.live = true →
    Does (.govCapWrite port val) s (.lcp :: .dirty :: reportParts) (fun d => d.word (F.LCP_GOV_CAP_WIN_CAP.at port)
      = (s.dev.plainWrite (F.LCP_GOV_CAP_WIN_CAP.at port) val.toNat).word (F.LCP_GOV_CAP_WIN_CAP.at port)))
  ∧ (∀ (s : State) (port : Fin 2) (val : Word), s.dev.live = true → F.LCP_GOV_PROG_GO.get val.toNat ≠ 0 →
    absentOff s.dev.grade (F.LCP_GOV_PROG_GO.at port) = false → s.dev.fuseRefused port val.toNat = none →
    Does (.govFuseGo port val) s [.lcp, .regs] (fun d => (d.lp port).fuseUntil = some (s.dev.tim.mono + 10000000) ∧ d.on F.LCP_STS_FUSING port = true
      ∧ KeepsRegs [F.LCP_STS_FUSING.at port] s.dev d))
  ∧ (∀ (s : State) (port : Fin 2) (val : Word) (why : Nat), s.dev.live = true → F.LCP_GOV_PROG_GO.get val.toNat ≠ 0 →
    absentOff s.dev.grade (F.LCP_GOV_PROG_GO.at port) = false → s.dev.fuseRefused port val.toNat = some why →
    Runs (.govFuseGo port val) s (s.dev.record 0x0503 5 1 port why))
  ∧ (∀ (s : State) (port : Fin 2), (s.dev.lp port).fuseUntil.isSome = true → s.die.gov.find port = none →
    DoesDie (.govFuseDone port) s { s.die with gov := s.die.gov.put port (max 1 (s.dev.rd F.LCP_GOV_FUSE_WIN port), max 1 (s.dev.rd F.LCP_GOV_FUSE_FRAME port)) }
      (.lcp :: reportParts) (fun d => d.on F.LCP_STS_OTP_FUSED port = true ∧ d.on F.LCP_STS_FUSING port = false
        ∧ d.rd F.LCP_GOV_OTP_WIN_HARD port = max 1 (s.dev.rd F.LCP_GOV_FUSE_WIN port)
        ∧ d.rd F.LCP_GOV_OTP_FRAME_HARD port = max 1 (s.dev.rd F.LCP_GOV_FUSE_FRAME port)))
  ∧ (∀ (s : State) (port : Fin 2) (counter : Fin 12) (val : Word), s.dev.live = true →
    Does (.lcpCounterClear port counter val) s [.regs] (fun d => d.word (lcpCounters.getD counter.val 0 + 0x8000 * port.val) = 0
      ∧ KeepsRegs [lcpCounters.getD counter.val 0 + 0x8000 * port.val] s.dev d))

/-- Neighbours, phases and windows of a line port (R190, R192, R218, R226, R229, R237). TM_REFRESH_DUE: the neighbour's tone map is asked for.
TM_TTL_EXPIRY: its transmit tone map is not valid. NEIGHBOUR_AGE_EXPIRY: it is stale. ZERO_CROSS_EDGE on an enabled phase: the crossing joins the latest 65.
PORT_POLL_WINDOW: the counts start again and the share of failures is shown. NB_SNAPSHOT_READ: the entry is copied and its first word read. -/
def Obligations.LineNeighboursAndWindows : Prop :=
  (∀ (s : State) (port : Fin 2) (nb : Fin 2048) (n : Nb), s.dev.live = true → (s.dev.lp port).nbs.find nb = some n →
    Does (.tmRefreshDue port nb) s [.lcp, .tim, .evr] (fun d => (d.lp port).nbs = (s.dev.lp port).nbs.put nb { n with reqDue := true }))
  ∧ (∀ (s : State) (port : Fin 2) (nb : Fin 2048) (n : Nb), s.dev.live = true → (s.dev.lp port).nbs.find nb = some n →
    Does (.tmTtlExpiry port nb) s [.lcp, .tim, .evr] (fun d => (d.lp port).nbs = (s.dev.lp port).nbs.put nb { n with txValid := false, reqDue := true }))
  ∧ (∀ (s : State) (port : Fin 2) (nb : Fin 2048) (n : Nb), s.dev.live = true → (s.dev.lp port).nbs.find nb = some n →
    Does (.neighbourAgeExpiry port nb) s [.lcp, .tim, .evr] (fun d => (d.lp port).nbs = (s.dev.lp port).nbs.put nb { n with stale := true }))
  ∧ (∀ (s : State) (port : Fin 2) (phase : Fin 3) (rising : Bool), s.dev.portRuns port = true → bitAt (s.dev.rd F.LCP_ZC_CFG_EN port) phase = true →
    rising = !bitAt (s.dev.rd F.LCP_ZC_CFG_POL port) phase → (s.dev.lp port).zc.length = 3 →
    Does (.zeroCrossEdge port (phase, rising)) s [.lcp] (fun d => (d.lp port).zc.getD phase []
      = ((s.dev.nowNs - 1000 * s.dev.rd F.LCP_ZC_CFG_DEBOUNCE port) :: (s.dev.lp port).zc.getD phase []).take 65))
  ∧ (∀ (s : State) (port : Fin 2), s.dev.portRuns port = true → s.dev.isBow = false → (s.dev.lp port).winFail ≤ (s.dev.lp port).winEx →
    Does (.portPollWindow port) s (.lcp :: .tim :: reportParts) (fun d => (d.lp port).winEx = 0 ∧ (d.lp port).winFail = 0 ∧ (d.lp port).winStart = d.tim.mono
      ∧ d.rd F.LCP_MAC_STS_FAIL_PCT port = (if (s.dev.lp port).winEx = 0 then 0 else 100 * (s.dev.lp port).winFail / (s.dev.lp port).winEx)))
  ∧ (∀ (s : State) (port : Fin 2) (n : Nb), s.dev.live = true → (s.dev.lp port).nbs.find (s.dev.rd F.LCP_NB_SEL_INDEX port) = some n →
    Does (.nbSnapshotRead port false) s [.lcp, .out] (fun d => d.lp port = { s.dev.lp port with nbCopy := toWords (s.dev.nbBytes port n) }
      ∧ d.out = .readData ((toWords (s.dev.nbBytes port n)).getD 0 0).toNat :: s.dev.out))
  ∧ (∀ (s : State) (port : Fin 2) (r : Route), s.dev.live = true → (s.dev.lp port).routes.find (s.dev.rd F.LCP_RT_SEL_MIX port) = some r →
    Does (.nbSnapshotRead port true) s [.lcp, .out] (fun d => d.lp port = { s.dev.lp port with rtCopy := toWords (r.bytes (s.dev.rd F.LCP_RT_SEL_MIX port)) }
      ∧ d.out = .readData ((toWords (r.bytes (s.dev.rd F.LCP_RT_SEL_MIX port))).getD 0 0).toNat :: s.dev.out))

/-- The Catch chain (R359, R368 to R373, R377 to R380, R391). MET_CH_OUTPUT: the channel has its next sample. SWAP_ARM: armed at the index, or not.
MET_TRIM_GAIN_WRITE: in force at once while the channel is OFF, pending otherwise. BANK_ACTIVE_WRITE: flagged only. BITSTREAM_STUCK and
BITSTREAM_RECOVER. CM_SECOND: the second's measurements are shown and it is over. CM_INTERVAL_CLOSE: the interval has its record.
MET_SAMPLE_SNAPSHOT_READ and CM_LAST_SNAPSHOT_READ: the sample, or the record, is copied. -/
def Obligations.CatchChain : Prop :=
  (∀ (s : State) (ch : Fin 24) (bits : Nat) (overload : Bool), s.dev.hasCh ch = true → s.dev.isOn (19 + ch) = true → s.dev.chMayRun ch = true →
    ch.val < 12 ∨ s.dev.on F.MET_CFG_BSCLK_EN = true →
    Does (.metChOutput ch bits overload) s [.met, .regs, .dirty, .tim, .evr, .freeCtr] (fun d =>
      (d.mch ch).idx = some ((match (s.dev.mch ch).idx with | some i => i + 1 | none => 0) % 2 ^ 64)))
  ∧ (∀ (s : State) (ch : Fin 24) (val : Word), s.dev.hasCh ch = true →
    Does (.swapArm ch val) s [.met, .regs, .dirty] (fun d => (d.mch ch).armed = (if d.on F.MET_CH_SWAP_CTL_ARM ch then
        some (s.dev.rd F.MET_CH_SWAP_AT_LO_AT ch + 2 ^ 32 * s.dev.rd F.MET_CH_SWAP_AT_HI_AT ch, d.on F.MET_CH_SWAP_CTL_BANK ch) else none)))
  ∧ (∀ (s : State) (ch : Fin 24) (gain : Bool) (val : Word), s.dev.hasCh ch = true → s.dev.isOff (19 + ch) = true →
    Runs (.metTrimGainWrite ch gain val) s (s.dev.plainWrite (if gain then F.MET_CH_GAIN_GAIN.at ch else F.MET_CH_TRIM_COARSE.at ch) val.toNat))
  ∧ (∀ (s : State) (ch : Fin 24) (gain : Bool) (val : Word), s.dev.hasCh ch = true → s.dev.isOff (19 + ch) = false →
    Does (.metTrimGainWrite ch gain val) s [.met, .regs] (fun d => d.on F.MET_CH_STS_PENDING ch = true
      ∧ (if gain then (d.mch ch).pendGain else (d.mch ch).pendTrim).isSome = true ∧ KeepsRegs [F.MET_CH_STS_PENDING.at ch] s.dev d))
  ∧ (∀ (s : State) (ch : Fin 24) (word : Fin 97) (val : Word), s.dev.hasCh ch = true →
    Does (.bankActiveWrite ch word val) s [.regs] (fun d => d.on F.MET_CH_STS_ACT_WR ch = true ∧ KeepsRegs [F.MET_CH_STS_ACT_WR.at ch] s.dev d))
  ∧ (∀ (s : State) (ch : Fin 24), s.dev.hasCh ch = true → 12 ≤ ch.val → s.dev.isOn (19 + ch) = true → s.dev.on F.MET_CFG_BSCLK_EN = true →
    s.dev.on F.MET_CH_STS_STUCK ch = false →
    Does (.bitstreamStuck ch) s reportParts (fun d => d.on F.MET_CH_STS_STUCK ch = true ∧ Reported 1 s.dev d))
  ∧ (∀ (s : State) (ch : Fin 24), s.dev.hasCh ch = true → s.dev.on F.MET_CH_STS_STUCK ch = true →
    Does (.bitstreamRecover ch) s [.regs] (fun d => d.on F.MET_CH_STS_STUCK ch = false ∧ KeepsRegs [F.MET_CH_STS_STUCK.at ch] s.dev d))
  ∧ (∀ (s : State) (cm : Fin 4) (a : CmSec), (s.dev.mcm cm).secs.head? = some a → s.dev.live = true → s.dev.isOn (14 + cm) = true →
    (a.sec + 1) * 1000000000 ≤ (s.dev.mcm cm).at_ →
    Does (.cmSecond cm) s [.met, .regs, .freeCtr] (fun d => (d.mcm cm).secs = (s.dev.mcm cm).secs.filter (fun b => b.sec ≠ a.sec)
      ∧ d.word (F.MET_CM_VRMS1_V_RMS1_to_3.at cm) = rootNear (a.v2.getD 0 0 / (max 1 a.n : Nat) * 10000) % 2 ^ 32
      ∧ d.word (F.MET_CM_P1_P1_to_P3.at cm + 8) = unsigned 32 (nearest (a.p.getD 2 0 / (max 1 a.n : Nat))) % 2 ^ 32))
  ∧ (∀ (s : State) (cm : Fin 4) (a : CmAcc), (s.dev.mcm cm).accs.head? = some a → s.dev.live = true → s.dev.isOn (14 + cm) = true →
    (a.start + 900) * 1000000000 ≤ (s.dev.mcm cm).at_ →
    Does (.cmIntervalClose cm) s (.met :: .ldg :: linkParts) (fun d => (d.mcm cm).accs = (s.dev.mcm cm).accs.filter (fun b => b.start ≠ a.start)
      ∧ (d.mcm cm).last = a.image cm))
  ∧ (∀ (s : State) (ch : Fin 24), s.dev.hasCh ch = true →
    Does (.metSampleSnapshotRead ch) s [.met, .out] (fun d =>
      d.mch ch = { s.dev.mch ch with copyIdx := (s.dev.mch ch).idx.getD 0, copyStamp := (s.dev.mch ch).stamp }
        ∧ d.out = .readData ((s.dev.mch ch).idx.getD 0 % 2 ^ 32) :: s.dev.out))
  ∧ (∀ (s : State) (cm : Fin 4), s.dev.live = true → fixAbsent s.dev.grade (14 + cm) = false →
    Does (.cmLastSnapshotRead cm) s [.met, .out] (fun d => d.mcm cm = { s.dev.mcm cm with copy := (s.dev.mcm cm).last }
      ∧ d.out = .readData (getLe (s.dev.mcm cm).last 0 4) :: s.dev.out))

/-- Roles and claims (R530 to R534, R544, R547, R565). ARB_LISTEN_END: with CLAIM_IN high the device becomes bow; else it says what it is.
ARB_RX: the comparison is kept. ARB_CLAIM_INSTANT: without a comparison, the device claims; with one, it takes the role that it gives.
CLAIM_IN_CHANGE to high: the transmit gate shuts at once. CLAIM_LOW_TIMEOUT, PAIR_FORCE and YIELD_RX at a bow that may claim: it takes over.
CLAIM_TIMER_EXPIRY: the claim is down. -/
def Obligations.PairRolesAndClaims : Prop :=
  (∀ (s : State), s.dev.arbitrates = true → (s.dev.toMono (s.dev.par.arbFrom + msC 100)).claimIn = true →
    Does .arbListenEnd s roleParts (fun d => d.par.role = .bow ∧ d.par.claim = false ∧ d.par.ready = false))
  ∧ (∀ (s : State), s.dev.arbitrates = true → (s.dev.toMono (s.dev.par.arbFrom + msC 100)).claimIn = false →
    Does .arbListenEnd s (.par :: .tim :: reportParts) (fun d => d.par.role = .arb ∧ d.par.claim = s.dev.par.claim))
  ∧ (∀ (s : State) (hdr : PairHdr) (root last side : Bool) (serial : Nat), (s.dev.pairTake hdr (.arb root last side serial)).1 = true →
    s.dev.arbitrates = true →
    Does (.arbRx hdr root last side serial) s [.par] (fun d => d.par.role = .arb ∧ d.par.peerSerial = serial
      ∧ d.par.won = some (arbWins (s.dev.rootValid, s.dev.par.wasStroke, s.dev.par.side) (root, last, side))))
  ∧ (∀ (s : State), s.dev.arbitrates = true → (s.dev.pairUp && s.dev.par.won.isSome) = false →
    (s.dev.toMono (s.dev.par.arbFrom + msC (if s.dev.par.side then 250 else 150))).claimIn = false →
    Does .arbClaimInstant s roleParts (fun d => d.par.role = .stroke ∧ d.par.claim = true ∧ d.par.wasStroke = true))
  ∧ (∀ (s : State) (won : Bool), s.dev.arbitrates = true → s.dev.pairUp = true → s.dev.par.won = some won →
    (s.dev.toMono (s.dev.par.arbFrom + msC 150)).claimIn = false →
    Does .arbClaimInstant s roleParts (fun d => d.par.role = (if won then Role.stroke else Role.bow) ∧ d.par.claim = won))
  ∧ (∀ (s : State), s.dev.par.claimInRaw = false →
    Does (.claimInChange true false) s [.par, .regs, .sch, .lcp, .rad, .out] (fun d => d.par.claimInRaw = true ∧ d.par.claimInAt = s.dev.tim.mono
      ∧ d.par.claimInOld = s.dev.claimIn ∧ (s.dev.grade = .x → d.gateOpen = false)))
  ∧ (∀ (s : State), s.dev.live = true → s.dev.isBow = true → s.dev.par.claimInRaw = false →
    (s.dev.toMono (s.dev.par.claimInAt + 5000 + 3 * s.dev.hbC)).mayClaim = true →
    Does .claimLowTimeout s roleParts (fun d => d.par.role = .stroke ∧ d.par.claim = true))
  ∧ (∀ (s : State) (t : Nat), s.dev.par.claimExp = some t → s.dev.live = true →
    Does .claimTimerExpiry s [.par, .tim, .evr, .regs, .rng, .ctx, .sch, .lcp, .rad, .out] (fun d => d.par = { s.dev.par with claim := false, claimExp := none }))
  ∧ (∀ (s : State) (val : Word), s.dev.live = true → F.PAR_CTL_KEY.get val.toNat = 0x9A1E → F.PAR_CTL_FORCE.get val.toNat = 1 →
    s.dev.isBow = true → s.dev.par.ready = false → s.dev.claimIn = false → s.dev.rootValid = true → s.dev.isSafe = false →
    Does (.pairForce val) s roleParts (fun d => d.par.role = .stroke ∧ d.par.claim = true))
  ∧ (∀ (s : State) (hdr : PairHdr), (s.dev.pairTake hdr .yield).1 = true → s.dev.mayClaim = true →
    Does (.yieldRx hdr) s roleParts (fun d => d.par.role = .stroke ∧ d.par.claim = true))
  ∧ (∀ (s : State) (hdr : PairHdr), (s.dev.pairTake hdr .yield).1 = true → s.dev.isBow = true → s.dev.claimIn = true →
    Does (.yieldRx hdr) s [.par] (fun d => d.par.yielded = true ∧ d.par.role = .bow ∧ d.par.claim = s.dev.par.claim))

/-- Heartbeats, lanes, credits of a pair (R531, R535, R538 to R540, R546, R554). PAIR_HEARTBEAT_SEND: a stroke whose claim stands reloads its
timer; any other device leaves its claim. PAIR_HEARTBEAT_RX: what the partner says is kept. PAIR_HEARTBEAT_MISS: counted; the third in a row
makes a stroke solo, a bow that sees the claim not READY. PAIR_LANE_LOSS: the lane is down; with no lane left, credits start again.
PAIR_LANE_RETURN: the lane is up. CREDIT_RX and CREDIT_SEND. PAR_DELTA_CLEAR. -/
def Obligations.PairHeartbeatsAndLanes : Prop :=
  (∀ (s : State), s.dev.beats = true → s.dev.par.swap = none → (s.dev.toMono s.dev.par.hbDue).claimStands = true →
    Does .pairHeartbeatSend s (.par :: .tim :: reportParts) (fun d => d.par.claim = true ∧ d.par.claimExp = some (d.tim.mono + 2 * s.dev.hbC)
      ∧ d.par.hbDue = d.tim.mono + s.dev.hbC ∧ d.par.role = s.dev.par.role))
  ∧ (∀ (s : State), s.dev.beats = true → s.dev.par.swap = none → (s.dev.toMono s.dev.par.hbDue).claimStands = false →
    Does .pairHeartbeatSend s (.par :: .tim :: reportParts) (fun d => d.par.claim = s.dev.par.claim ∧ d.par.claimExp = s.dev.par.claimExp
      ∧ d.par.hbDue = d.tim.mono + s.dev.hbC ∧ d.par.role = s.dev.par.role))
  ∧ (∀ (s : State) (hdr : PairHdr) (peer : PairPeer), (s.dev.pairTake hdr (.heartbeat peer)).1 = true →
    Does (.pairHeartbeatRx hdr peer) s (.par :: reportParts) (fun d => d.par.peer = peer ∧ d.par.hbMisses = 0 ∧ d.par.hbLost = false
      ∧ d.par.lastHb = some s.dev.tim.mono ∧ d.par.role = s.dev.par.role ∧ d.par.claim = s.dev.par.claim))
  ∧ (∀ (s : State) (t : Nat), s.dev.par.lastHb = some t → s.dev.beats = true → s.dev.par.hbLost = false → s.dev.par.hbMisses < 2 →
    Does .pairHeartbeatMiss s [.par, .tim, .evr, .regs] (fun d => d.par = { s.dev.par with hbMisses := s.dev.par.hbMisses + 1, lastHb := some (t + s.dev.hbC) }
      ∧ d.rd F.PAR_HB_MISS = min (s.dev.rd F.PAR_HB_MISS + 1) (2 ^ F.PAR_HB_MISS.len - 1) ∧ KeepsRegs [F.PAR_HB_MISS.at 0] s.dev d))
  ∧ (∀ (s : State) (t : Nat), s.dev.par.lastHb = some t → s.dev.beats = true → s.dev.par.hbLost = false → 2 ≤ s.dev.par.hbMisses →
    s.dev.par.role = .stroke →
    Does .pairHeartbeatMiss s (.par :: .tim :: .ctx :: .tar :: .ldg :: reportParts) (fun d => d.par.hbLost = true ∧ d.par.solo = true ∧ d.par.role = .stroke))
  ∧ (∀ (s : State) (t : Nat), s.dev.par.lastHb = some t → s.dev.beats = true → s.dev.par.hbLost = false → 2 ≤ s.dev.par.hbMisses →
    s.dev.isBow = true → (s.dev.toMono (t + s.dev.hbC + 10000)).claimIn = true →
    Does .pairHeartbeatMiss s (.par :: .tim :: reportParts) (fun d => d.par.hbLost = true ∧ d.par.ready = false ∧ d.par.role = .bow
      ∧ d.par.claim = s.dev.par.claim))
  ∧ (∀ (s : State) (lane : Fin 2), s.dev.live = true → s.dev.par.lanes.getD lane false = true → (s.dev.par.lanes.set lane false).any id = true →
    Does (.pairLaneLoss lane) s (.par :: reportParts) (fun d => d.par = { s.dev.par with lanes := s.dev.par.lanes.set lane false, health := d.par.health }))
  ∧ (∀ (s : State) (lane : Fin 2), s.dev.live = true → s.dev.par.lanes.getD lane false = true → (s.dev.par.lanes.set lane false).any id = false →
    Does (.pairLaneLoss lane) s (.par :: reportParts) (fun d =>
      d.par = { s.dev.par with lanes := s.dev.par.lanes.set lane false, credit := 0, freed := 4096, staged := [], health := d.par.health }
        ∧ d.rd F.PAR_LINK_DOWN = min (s.dev.rd F.PAR_LINK_DOWN + 1) (2 ^ F.PAR_LINK_DOWN.len - 1)))
  ∧ (∀ (s : State) (lane : Fin 2), s.dev.live = true → s.dev.par.en = true →
    Does (.pairLaneReturn lane) s (.par :: reportParts) (fun d => d.par = { s.dev.par with lanes := s.dev.par.lanes.set lane true, health := d.par.health }))
  ∧ (∀ (s : State) (hdr : PairHdr) (cells : Nat), (s.dev.pairTake hdr (.credit cells)).1 = true → (s.dev.lane 16).cells = [] →
    Does (.creditRx hdr cells) s [.par] (fun d => d.par.credit = s.dev.par.credit + cells ∧ d.par.role = s.dev.par.role ∧ d.par.claim = s.dev.par.claim))
  ∧ (∀ (s : State), s.dev.live = true → s.dev.par.en = true → s.dev.pairUp = true → 0 < s.dev.par.freed →
    Does .creditSend s [.par, .out] (fun d => d.par = { s.dev.par with freed := 0, txCount := s.dev.par.txCount + 1 }
      ∧ d.out = .pairTx 0 s.dev.par.epoch s.dev.par.txCount (.credit s.dev.par.freed) :: s.dev.out))
  ∧ (∀ (s : State) (val : Word), s.dev.live = true → s.dev.grade = .x →
    Does (.parDeltaClear val) s [.regs] (fun d => d.rd F.PAR_DELTA_PEAK = 0 ∧ KeepsRegs [F.PAR_DELTA_PEAK.at 0] s.dev d))

/-- The stroke cycle and the billing mirror (R541 to R543). STROKE_CYCLE_CLOSE: the next cycle closes, and awaits its ACK where the device is
mirrored. ACK_RX: it has arrived. STROKE_CYCLE_END: the cycle is the latest that ended. DELTA_RX: the bow stages. END_RX: it applies the delta,
or, where the delta is not whole, asks for a catch-up. JMIR_RX: the entries are in its journal. JACK_RX: acknowledged at the stroke. -/
def Obligations.StrokeCycles : Prop :=
  (∀ (s : State), s.dev.cycles = true → s.dev.par.closing = none → sumNat (s.dev.delta.map deltaLen) < 67108864 →
    Does .strokeCycleClose s (.par :: .tim :: .ctx :: .tar :: reportParts) (fun d => d.par.closing = some (s.dev.par.cycle + 1, !s.dev.mirrored)
      ∧ d.ctx.dirty = [] ∧ d.par.cycle = s.dev.par.cycle
      ∧ d.par.cycleDue = seriesNext s.dev.par.cycleDue (msC (s.dev.rd F.PAR_CFG_STROKE_MS)) d.tim.mono))
  ∧ (∀ (s : State), s.dev.cycles = true → s.dev.par.closing = none → 67108864 ≤ sumNat (s.dev.delta.map deltaLen) →
    Does .strokeCycleClose s (.par :: .ctx :: .tar :: reportParts) (fun d => d.par.closing = some (s.dev.par.cycle + 1, !s.dev.mirrored)
      ∧ d.ctx.dirty = [] ∧ d.par.cycle = s.dev.par.cycle ∧ d.par.cycleDue = s.dev.par.cycleDue))
  ∧ (∀ (s : State) (n : Nat) (acked : Bool), s.dev.par.closing = some (n, acked) → s.dev.live = true → (acked || !s.dev.mirrored) = true →
    s.dev.tar.closedHalves = [] → s.dev.par.swap = none →
    Does .strokeCycleEnd s (.par :: .ftl :: .tim :: .ctx :: .tar :: .sec :: .sch :: .img :: .lcp :: .rad :: .cals :: .ldg :: reportParts) (fun d => d.par.cycle = n
      ∧ d.par.closing = none ∧ d.ftl = { s.dev.ftl with cyclesSinceSnap := s.dev.ftl.cyclesSinceSnap + 1 }))
  ∧ (∀ (s : State) (hdr : PairHdr) (recs : List DeltaRec), (s.dev.pairTake hdr (.delta recs)).1 = true → s.dev.isBow = true →
    Does (.deltaRx hdr recs) s [.par] (fun d => d.par.staged = s.dev.par.staged ++ recs ∧ d.par.cycle = s.dev.par.cycle ∧ d.par.role = .bow))
  ∧ (∀ (s : State) (hdr : PairHdr), (s.dev.pairTake hdr (.fin s.dev.par.staged.length)).1 = true → s.dev.isBow = true →
    s.dev.par.catchup = false →
    Does (.endRx hdr s.dev.par.staged.length true) s (.dirty :: .par :: .ctx :: .tar :: .sec :: .sch :: .img :: .lcp :: .cals :: .ldg :: .fl :: reportParts)
      (fun d => d.par.cycle = max s.dev.par.cycle hdr.cycle ∧ d.par.staged = [] ∧ d.par.base = d.copied))
  ∧ (∀ (s : State) (hdr : PairHdr) (count : Nat) (hashOk : Bool), (s.dev.pairTake hdr (.fin count)).1 = true → s.dev.isBow = true →
    (s.dev.par.staged.length ≠ count ∨ hashOk = false) →
    Does (.endRx hdr count hashOk) s (.par :: reportParts) (fun d => d.par.ready = false ∧ d.par.catchup = true ∧ d.par.staged = []
      ∧ d.par.cycle = s.dev.par.cycle))
  ∧ (∀ (s : State) (hdr : PairHdr) (n : Nat) (a : Bool), (s.dev.pairTake hdr .ack).1 = true → s.dev.par.closing = some (n, a) → n ≤ hdr.cycle →
    Does (.ackRx hdr) s [.par] (fun d => d.par.closing = some (n, true) ∧ d.par.cycle = s.dev.par.cycle))
  ∧ (∀ (s : State) (hdr : PairHdr) (entries : List (Nat × JWhat)), (s.dev.pairTake hdr (.jmir entries)).1 = true → s.dev.isBow = true →
    Does (.jmirRx hdr entries) s (.par :: .tar :: reportParts) (fun d => s.dev.tar.jseq ≤ d.tar.jseq ∧ ∀ e ∈ entries, e.1 ≤ d.tar.jseq))
  ∧ (∀ (s : State) (hdr : PairHdr) (seq : Nat), (s.dev.pairTake hdr (.jack seq)).1 = true → s.dev.isBow = false →
    Does (.jackRx hdr seq) s (.par :: .tar :: .ctx :: .ldg :: reportParts) (fun d => d.tar.acked = max s.dev.tar.acked seq))

/-- Swaps, catch-ups and drills of a pair (R540, R546, R549, R551, R552). PAIR_STATUS: role, claims, cycle, health. PAIR_SWAP: at a bow the stroke is asked; at a stroke whose sweeps run, they end
first. SWAP_RX at a bow that sees no claim: it is the stroke. SWAP_TIMEOUT: the old stroke claims again, the swap is over. CATCHUP_REQUEST of a bow,
and the stroke's answer; CATCHUP_RX: the records are taken, an empty frame ends it (the model's choice: log entry 41); CATCHUP_DONE: the bow is READY,
the stroke leaves solo. PAIR_DRILL: a drill runs. DRILL_RX of a SWAP step at the bow. DRILL_WINDOW and DRILL_HOLD_END of a drill that holds. -/
def Obligations.SwapsCatchUpsAndDrills : Prop :=
  (∀ (s : State) (p : Fin 64) (h : Held), s.takes p 0xA0 h →
    Completes (.pairStatus p) s p h [s.dev.par.role.code + 4 * b2n s.dev.par.claim + 8 * b2n s.dev.claimIn + 16 * b2n s.dev.par.solo,
      s.dev.par.cycle % 2 ^ 32, s.dev.par.health] [] (fun d => d.par = s.dev.par))
  ∧ (∀ (s : State) (p : Fin 64) (h : Held), s.takes p 0xA1 h → s.dev.swapRefusal = none → s.dev.isBow = true →
    Does (.pairSwap p) s (.rng :: .par :: reportParts) (fun d => d.par.swap = some { phase := .sweep, desc := some (p.val, h.id) } ∧ d.par.role = .bow))
  ∧ (∀ (s : State) (p : Fin 64) (h : Held), s.takes p 0xA1 h → s.dev.swapRefusal = none → s.dev.par.role = .stroke → s.dev.tar.sweeps ≠ [] →
    Does (.pairSwap p) s [.rng, .par] (fun d => d.par = { s.dev.par with swap := some { phase := .sweep, desc := some (p.val, h.id) } }))
  ∧ (∀ (s : State) (hdr : PairHdr), (s.dev.pairTake hdr .swap).1 = true → s.dev.isBow = true → s.dev.claimIn = false → s.dev.rootValid = true →
    s.dev.isSafe = false →
    Does (.swapRx hdr) s roleParts (fun d => d.par.role = .stroke ∧ d.par.claim = true))
  ∧ (∀ (s : State) (hdr : PairHdr), (s.dev.pairTake hdr .swap).1 = true → s.dev.isBow = true → s.dev.claimIn = true →
    Does (.swapRx hdr) s [.par] (fun d => d.par.role = .bow ∧ d.par.swapRx = true ∧ d.par.claim = s.dev.par.claim))
  ∧ (∀ (s : State) (x : Swap), s.dev.par.swap = some x → x.phase = .sent → s.dev.live = true → s.dev.par.role = .stroke → s.dev.isSafe = false →
    s.dev.par.drill = none →
    Does .swapTimeout s [.par, .rng, .regs, .tim, .evr] (fun d => d.par.claim = true ∧ d.par.swap = none ∧ d.par.role = .stroke))
  ∧ (∀ (s : State), s.dev.live = true → s.dev.par.en = true → s.dev.isBow = true → s.dev.pairUp = true → s.dev.par.ready = false →
    s.dev.par.catchup = false →
    Does (.catchupRequest none) s (.par :: reportParts) (fun d => d.par.catchup = true ∧ d.par.held = [] ∧ d.par.stale = none ∧ d.par.caughtAt = none))
  ∧ (∀ (s : State) (hdr : PairHdr), (s.dev.pairTake hdr .catchupAsk).1 = true → s.dev.par.role = .stroke → s.dev.par.claim = true →
    Does (.catchupRequest (some hdr)) s (.par :: reportParts) (fun d => d.par.catchup = false ∧ d.par.caughtAt = some s.dev.openCycle
      ∧ d.par.base = s.dev.copied))
  ∧ (∀ (s : State) (hdr : PairHdr) (recs : List DeltaRec), (s.dev.pairTake hdr (.catchup recs)).1 = true → s.dev.isBow = true →
    s.dev.par.catchup = true → recs ≠ [] →
    Does (.catchupRx hdr recs) s (.dirty :: .par :: .ctx :: .tar :: .sec :: .sch :: .img :: .lcp :: .cals :: .ldg :: .fl :: reportParts) (fun d =>
      d.par.catchup = true ∧ d.par.stale.isSome = true ∧ d.par.ready = s.dev.par.ready))
  ∧ (∀ (s : State) (hdr : PairHdr), (s.dev.pairTake hdr (.catchup [])).1 = true → s.dev.isBow = true → s.dev.par.catchup = true →
    Does (.catchupRx hdr []) s (.dirty :: .par :: .ctx :: .tar :: .sec :: .sch :: .img :: .lcp :: .cals :: .ldg :: .fl :: reportParts) (fun d =>
      d.par.catchup = false ∧ d.par.held = [] ∧ d.par.stale = none ∧ d.par.caughtAt = some hdr.cycle ∧ d.par.ready = s.dev.par.ready))
  ∧ (∀ (s : State) (n : Nat), s.dev.par.caughtAt = some n → s.dev.live = true → s.dev.par.en = true → n ≤ s.dev.par.cycle → s.dev.isBow = true →
    Does .catchupDone s (.par :: reportParts) (fun d => d.par = { s.dev.par with ready := true, caughtAt := none, health := d.par.health }))
  ∧ (∀ (s : State) (n : Nat), s.dev.par.caughtAt = some n → s.dev.live = true → s.dev.par.en = true → n ≤ s.dev.par.cycle → s.dev.isBow = false →
    Does .catchupDone s (.par :: reportParts) (fun d => d.par = { s.dev.par with solo := false, caughtAt := none }))
  ∧ (∀ (s : State) (p : Fin 64) (h : Held) (results : BitVec 4), s.takes p 0xA2 h → s.dev.swapRefusal = none → s.dev.isBow = false →
    h.desc.word 3 % 16 ≠ 0 →
    Does (.pairDrill p results) s (.rng :: .par :: reportParts) (fun d =>
      d.par.drill = some { own := true, desc := some (p.val, h.id), mask := h.desc.word 3 % 32, left := h.desc.word 3 % 32, results := results.toNat }))
  ∧ (∀ (s : State) (p : Fin 64) (h : Held) (results : BitVec 4), s.takes p 0xA2 h → s.dev.swapRefusal = none → s.dev.isBow = true →
    h.desc.word 3 % 32 < 16 →
    Does (.pairDrill p results) s (.rng :: .par :: .dirty :: reportParts) (fun d => d.par.drill = none ∧ d.par.swap = s.dev.par.swap))
  ∧ (∀ (s : State) (hdr : PairHdr) (means : List (Nat × Nat × Nat)) (finds : Bool), (s.dev.pairTake hdr (.drill 4 means)).1 = true →
    s.dev.isBow = true → s.dev.par.drill = none →
    Does (.drillRx hdr 4 means none finds) s [.par, .regs] (fun d => d.on F.PAR_DRILL_STS_RUNNING = true
      ∧ d.par.drill = some { own := false, desc := none, mask := 16, left := 16, means := means } ∧ KeepsRegs [F.PAR_DRILL_STS_RUNNING.at 0] s.dev d))
  ∧ (∀ (s : State) (x : Drill) (t : Nat), s.dev.par.drill = some x → x.holdFrom = some t → s.dev.live = true → s.dev.par.role = .stroke →
    bitAt x.left 4 = true → x.runs = [] → s.dev.par.exLog = [] → s.dev.drillPort = none →
    Does .drillWindow s [.par, .tim, .evr] (fun d => d.par = { s.dev.par with drill := some { x with windows := x.windows + 1 } }))
  ∧ (∀ (s : State) (x : Drill) (t p : Nat), s.dev.par.drill = some x → x.holdFrom = some t → s.dev.live = true → s.dev.par.role = .stroke →
    bitAt x.left 4 = true → s.dev.drillPort = some p → s.dev.tar.sweeps ≠ [] →
    Does .drillHoldEnd s (.par :: reportParts) (fun d => d.par.swap = some { phase := .sweep, desc := none }
      ∧ d.par.drill = some { x with left := x.left - 16, failed := true, failPort := if x.failPort = 0 then p else x.failPort }))
  ∧ (∀ (s : State) (x : Drill) (t : Nat), s.dev.par.drill = some x → x.holdFrom = some t → s.dev.live = true → s.dev.par.role = .stroke →
    bitAt x.left 4 = true → s.dev.drillPort = none → s.dev.tar.sweeps ≠ [] →
    Does .drillHoldEnd s (.par :: .tim :: reportParts) (fun d => d.par.swap = some { phase := .sweep, desc := none }
      ∧ d.par.drill = some { x with left := x.left - 16, passed := x.passed ||| (if bitAt x.mask 4 then 16 else 0) }))

/-- Ports at their boundaries and at the end of exchanges (R88, R151, R152, R161, R206 to R209, R214, R262, R451). PORT_BOUNDARY of an idle port: a due beacon
starts first; else what the port picks; with nothing to pick, nothing. EXCHANGE_TIMEOUT: the exchange has failed, unless segments of its answer are on their way. EXCHANGE_END of an answered one:
the port is idle, the transaction waits to be processed; of a failed one on a radio port: the next attempt, while one is left; on a line port with none
left: the transaction is lost. TRANSACTION_DEADLINE: no transaction waits past its deadline. -/
def Obligations.PortsAndExchanges : Prop :=
  (∀ (s : State) (port : Fin 7) (fdx : Fin 1024) (bytes : Nat), port.val < 2 → s.dev.serves = true → s.dev.portOn port = true → s.dev.portIdle port = true →
    s.dev.draining = false → s.dev.capLowAll port = false → (s.dev.lp port).bcnLeft = [] → s.dev.tim.beaconDue.contains port.val = true →
    Does (.portBoundary port fdx bytes) s [.tim, .sch, .lcp, .freeCtr] (fun d => (d.lp port).phase = .contend ∧ (d.lp port).bcnLeft = s.dev.plans port
      ∧ (d.psch port).beacon = true ∧ d.tim.beaconDue.contains port.val = false))
  ∧ (∀ (s : State) (port : Fin 7) (fdx : Fin 1024) (bytes : Nat), 2 ≤ port.val → port.val < 6 → s.dev.serves = true → s.dev.portOn port = true →
    s.dev.portIdle port = true → s.dev.draining = false → s.dev.tim.beaconDue.contains port.val = true →
    Does (.portBoundary port fdx bytes) s [.tim, .sch, .rad, .freeCtr] (fun d => (d.rp (port - 2)).phase = .listen ∧ (d.psch port).beacon = true
      ∧ d.tim.beaconDue.contains port.val = false))
  ∧ (∀ (s : State) (port : Fin 7) (fdx : Fin 1024) (bytes : Nat) (x : Xfer), 2 ≤ port.val → port.val < 6 → s.dev.serves = true →
    s.dev.portOn port = true → s.dev.portIdle port = true → s.dev.draining = false → s.dev.tim.beaconDue.contains port.val = false →
    s.dev.rdvOpen port = false → s.dev.pickOn port = some x → x.port = port →
    Does (.portBoundary port fdx bytes) s (.sch :: .rad :: .ctx :: .sec :: .img :: reportParts) (fun d => (d.rp (port - 2)).phase = .listen
      ∧ (d.curOf port).map (fun y => (y.mix, y.made, y.bytes)) = some (x.mix, x.made + 1, bytes)))
  ∧ (∀ (s : State) (fdx : Fin 1024) (bytes : Nat) (x : Xfer), s.dev.serves = true → s.dev.portOn (16 + fdx) = true →
    s.dev.portIdle (16 + fdx) = true → s.dev.draining = false → s.dev.tim.beaconDue.contains (16 + fdx.val) = false → s.dev.pickOn (16 + fdx) = some x →
    x.port = 16 + fdx.val →
    Does (.portBoundary 6 fdx bytes) s (.sch :: .ctx :: .sec :: .img :: linkParts) (fun d =>
      (d.curOf (16 + fdx)).map (fun y => (y.mix, y.made, y.bytes, y.order)) = some (x.mix, x.made + 1, bytes, some d.fl.orderId)))
  ∧ (∀ (s : State) (port : Fin 7) (fdx : Fin 1024) (bytes : Nat), port.val < 6 → s.dev.serves = true → s.dev.portOn port = true → s.dev.portIdle port = true →
    s.dev.draining = false → (port.val < 2 → s.dev.capLowAll port = false ∧ (s.dev.lp port).bcnLeft = []) → s.dev.tim.beaconDue.contains port.val = false → s.dev.rdvOpen port = false →
    s.dev.pickOn port = none →
    Runs (.portBoundary port fdx bytes) s s.dev)
  ∧ (∀ (s : State) (port : Fin 7) (fdx : Fin 1024) (bytes : Nat) (x : Xfer), port.val < 2 → s.dev.serves = true → s.dev.portOn port = true →
    s.dev.portIdle port = true → s.dev.draining = false → s.dev.capLowAll port = false → (s.dev.lp port).bcnLeft = [] → s.dev.tim.beaconDue.contains port.val = false →
    s.dev.pickOn port = some x → x.port = port → s.dev.isOn port = true →
    Does (.portBoundary port fdx bytes) s (.tar :: .par :: .sch :: .lcp :: .ctx :: .sec :: .img :: .cals :: .ldg :: linkParts) (fun d =>
      ((d.lp port).phase = .contend ∧ (d.curOf port).map (fun y => (y.mix, y.made, y.bytes)) = some (x.mix, x.made + 1, bytes))
        ∨ ((d.lp port).phase = .idle ∧ d.curOf port = none)))
  ∧ (∀ (s : State) (port : Fin 6) (t : Nat) (x : Xfer), s.dev.portRuns port = true → port.val < 2 → (s.dev.lp port).phase = .awaiting t →
    s.dev.curOf port = some x → ((s.dev.lp port).ackBy = none → s.dev.replyBegun port t = false) →
    Does (.exchangeTimeout port) s [.lcp, .tim, .evr] (fun d => d.lp port = { s.dev.lp port with phase := .failed, seg := none, ackBy := none }
      ∧ (s.dev.lp port).ackBy.getD (t + (if x.plan = 2 then usC 864 else 0)) ≤ d.tim.mono))
  ∧ (∀ (s : State) (port : Fin 6) (t : Nat) (x : Xfer), port.val < 2 → (s.dev.lp port).phase = .awaiting t → s.dev.curOf port = some x →
    (s.dev.lp port).ackBy = none → s.dev.replyBegun port t = true →
    Runs (.exchangeTimeout port) s s.dev)
  ∧ (∀ (s : State) (port : Fin 6) (t : Nat) (x : Xfer), s.dev.portRuns port = true → 2 ≤ port.val → (s.dev.rp (port - 2)).phase = .awaiting t →
    s.dev.curOf port = some x → (s.dev.rp (port - 2)).agreed = false →
    Does (.exchangeTimeout port) s [.rad, .tim, .evr] (fun d => d.rp (port - 2) = { s.dev.rp (port - 2) with phase := .failed } ∧ t ≤ d.tim.mono))
  ∧ (∀ (s : State) (port : Fin 6) (x : Xfer), s.dev.portRuns port = true → port.val < 2 → (s.dev.lp port).phase = .answered → s.dev.curOf port = some x → x.isCast = false →
    Does (.exchangeEnd port) s (.lcp :: .par :: .sch :: .ctx :: .ldg :: reportParts) (fun d => (d.lp port).phase = .idle ∧ d.curOf port = none
      ∧ (d.psch port).answered = (s.dev.psch port).answered ++ [x]))
  ∧ (∀ (s : State) (port : Fin 6) (x : Xfer), s.dev.portRuns port = true → 2 ≤ port.val → (s.dev.rp (port - 2)).phase = .answered →
    s.dev.curOf port = some x →
    Does (.exchangeEnd port) s [.rad, .par, .sch, .regs] (fun d => (d.rp (port - 2)).phase = .idle ∧ (d.rp (port - 2)).mix = none ∧ d.curOf port = none
      ∧ (d.psch port).answered = (s.dev.psch port).answered ++ [x]))
  ∧ (∀ (s : State) (port : Fin 6) (x : Xfer), s.dev.portRuns port = true → 2 ≤ port.val → (s.dev.rp (port - 2)).phase = .failed →
    s.dev.curOf port = some x → s.dev.isOn port = true → x.slot = false → x.made < x.limit →
    Does (.exchangeEnd port) s [.rad, .par, .sch, .sec, .freeCtr] (fun d => (d.rp (port - 2)).phase = .listen ∧ (d.rp (port - 2)).mix = some x.mix
      ∧ d.curOf port = some { x with made := x.made + 1 }))
  ∧ (∀ (s : State) (port : Fin 6) (x : Xfer), s.dev.portRuns port = true → port.val < 2 → (s.dev.lp port).phase = .failed → s.dev.curOf port = some x →
    x.limit ≤ x.made →
    Does (.exchangeEnd port) s (.tar :: .par :: .sch :: .lcp :: .ctx :: .sec :: .cals :: .ldg :: linkParts) (fun d => (d.lp port).phase = .idle ∧ d.curOf port = none))
  ∧ (∀ (s : State) (pair : Fin 64) (t : Nat), s.dev.nextDeadline pair = some t → s.dev.live = true →
    Does (.transactionDeadline pair) s (.tim :: .sch :: .tar :: .par :: .ctx :: .sec :: .lcp :: .cals :: .ldg :: linkParts) (fun d => t ≤ d.tim.mono
      ∧ ∀ x ∈ d.sch.wait, x.deadline = none ∨ d.tim.mono < x.deadline.getD 0))

/-- Sources of device time (R413, R427, R429, R430, R431, R435, R436, R439, R440). HOLDOVER_24H: the validity is judged again. PTP_MESSAGE_RX: an Announce becomes the
port's best; an Announce of another domain and a message of another kind change nothing; a two-step Sync is kept, its Follow_Up and a one-step
Sync give the origin; a delay response gives the delay; a delay request at a master is answered. PTP_MESSAGE_TX. PTP_SOURCE_LOST: the source is not available.
LEAP_SECOND: one step, none pending, not locked. RTC_SET, RATE_STORE, TIME_SNAPSHOT_READ. -/
def Obligations.TimeSources : Prop :=
  (∀ (s : State) (m : Nat), s.dev.tim.holdSince = some m → s.dev.live = true →
    Does .holdover24h s (.tim :: reportParts) (fun d => d.tim.valid = (s.dev.toMono (m + (86401 - s.dev.tim.holdOfs) * 500000000)).timeValid
      ∧ m + (86401 - s.dev.tim.holdOfs) * 500000000 ≤ d.tim.mono))
  ∧ (∀ (s : State) (port : Fin 4) (dm who p1 cls acc var p2 gm steps leap : Nat) (utc : Option Nat), s.dev.ptpOn port = true → dm = s.dev.rd F.TIM_PTP_CFG_DOMAIN →
    (s.dev.ptpPort port).best = none → s.dev.tim.ptp.length = 4 →
    Does (.ptpMessageRx port (.announce dm who p1 cls acc var p2 gm steps utc leap)) s [.tim, .regs] (fun d =>
      (d.ptpPort port).best = some [p1, cls, acc, var, p2, gm, steps, who]
        ∧ KeepsRegs [F.TIM_PTP_STS_STATE.at 0, F.TIM_STS_LEAP_PEND.at 0] s.dev d))
  ∧ (∀ (s : State) (port : Fin 4) (dm who p1 cls acc var p2 gm steps leap : Nat) (utc : Option Nat), s.dev.ptpOn port = true → dm ≠ s.dev.rd F.TIM_PTP_CFG_DOMAIN →
    Runs (.ptpMessageRx port (.announce dm who p1 cls acc var p2 gm steps utc leap)) s s.dev)
  ∧ (∀ (s : State) (port : Fin 4), Runs (.ptpMessageRx port .other) s s.dev)
  ∧ (∀ (s : State) (port : Fin 4) (who seq : Nat) (origin corr : Int), s.dev.ptpOn port = true → s.dev.tim.ptp.length = 4 →
    ((s.dev.ptpPort port).st = 2 ∨ (s.dev.ptpPort port).st = 3) → (s.dev.ptpPort port).parent = who →
    Does (.ptpMessageRx port (.sync (s.dev.rd F.TIM_PTP_CFG_DOMAIN) who seq true origin corr)) s [.tim, .regs] (fun d =>
      d.ptpPort port = { s.dev.ptpPort port with sync := some (seq, s.dev.rxStamp port - corr) } ∧ KeepsRegs [F.TIM_PTP_STS_STATE.at 0] s.dev d))
  ∧ (∀ (s : State) (port : Fin 4) (who seq : Nat) (origin corr : Int), s.dev.ptpOn port = true → s.dev.tim.ptp.length = 4 →
    ((s.dev.ptpPort port).st = 2 ∨ (s.dev.ptpPort port).st = 3) → (s.dev.ptpPort port).parent = who → (s.dev.ptpPort port).delay = none →
    Does (.ptpMessageRx port (.sync (s.dev.rd F.TIM_PTP_CFG_DOMAIN) who seq false origin corr)) s [.tim, .regs] (fun d =>
      d.ptpPort port = { s.dev.ptpPort port with raw := some (s.dev.rxStamp port - corr - s.dev.toUtc origin), sync := none }))
  ∧ (∀ (s : State) (port : Fin 4) (who seq : Nat) (rx origin corr : Int), s.dev.ptpOn port = true → s.dev.tim.ptp.length = 4 →
    ((s.dev.ptpPort port).st = 2 ∨ (s.dev.ptpPort port).st = 3) → (s.dev.ptpPort port).parent = who → (s.dev.ptpPort port).sync = some (seq, rx) →
    (s.dev.ptpPort port).delay = none →
    Does (.ptpMessageRx port (.followUp (s.dev.rd F.TIM_PTP_CFG_DOMAIN) who seq origin corr)) s [.tim, .regs] (fun d =>
      d.ptpPort port = { s.dev.ptpPort port with raw := some (rx - corr - s.dev.toUtc origin), sync := none }))
  ∧ (∀ (s : State) (port : Fin 4) (who seq : Nat) (rx turn t3 raw : Int), s.dev.ptpOn port = true → s.dev.tim.ptp.length = 4 →
    ((s.dev.ptpPort port).st = 2 ∨ (s.dev.ptpPort port).st = 3) → (s.dev.ptpPort port).t3 = some (seq, t3) → (s.dev.ptpPort port).raw = some raw →
    s.dev.rd F.TIM_PTP_CFG_PROFILE ≠ 1 →
    Does (.ptpMessageRx port (.delayResp (s.dev.rd F.TIM_PTP_CFG_DOMAIN) who seq rx turn)) s [.tim, .regs] (fun d =>
      d.ptpPort port = { s.dev.ptpPort port with t3 := none, delay := some ((raw + (s.dev.toUtc rx - t3)) / 2) }))
  ∧ (∀ (s : State) (port : Fin 4) (who seq : Nat), s.dev.ptpOn port = true → (s.dev.ptpPort port).st = 4 → s.dev.linkUp port = true →
    Does (.ptpMessageRx port (.delayReq (s.dev.rd F.TIM_PTP_CFG_DOMAIN) who seq)) s (.eth :: reportParts) (fun d =>
      .ptpTx port 3 seq (s.dev.toTai (s.dev.rxStamp port)) ∈ d.out))
  ∧ (∀ (s : State) (port : Fin 4) (kind : Fin 3), s.dev.ptpOn port = true → kind.val ≠ 2 → (s.dev.bmca.ptpPort port).st = 4 → s.dev.isBow = false →
    s.dev.linkUp port = true → (s.dev.ep port).pauseUntil = none →
    Does (.ptpMessageTx port kind) s (.tim :: .eth :: reportParts) (fun d =>
      .ptpTx port kind (s.dev.bmca.ptpPort port).txSeq (s.dev.toTai (s.dev.nowNs + s.dev.rd F.TIM_ETH_DLY_TX_DLY port : Nat)) ∈ d.out))
  ∧ (∀ (s : State) (port : Fin 4), s.dev.ptpOn port = true → ((s.dev.bmca.ptpPort port).st = 2 ∨ (s.dev.bmca.ptpPort port).st = 3) →
    s.dev.linkUp port = true → (s.dev.ep port).pauseUntil = none →
    Does (.ptpMessageTx port 2) s (.tim :: .eth :: reportParts) (fun d =>
      .ptpTx port 2 (s.dev.bmca.ptpPort port).txSeq (s.dev.toTai (s.dev.nowNs + s.dev.rd F.TIM_ETH_DLY_TX_DLY port : Nat)) ∈ d.out
        ∧ (d.ptpPort port).t3 = some ((s.dev.bmca.ptpPort port).txSeq, ((s.dev.nowNs + s.dev.rd F.TIM_ETH_DLY_TX_DLY port : Nat) : Int))))
  ∧ (∀ (s : State) (port : Fin 4), s.dev.live = true → ((s.dev.ptpPort port).st = 3 ∨ (s.dev.ptpPort port).st = 2) → s.dev.tim.ptp.length = 4 →
    Does (.ptpSourceLost port) s (.tim :: reportParts) (fun d => (d.ptpPort port).best = none ∧ (d.ptpPort port).delay = none ∧ d.tim.ptpAvail = false
      ∧ d.tim.flAvail = s.dev.tim.flAvail))
  ∧ (∀ (s : State), s.dev.live = true → s.dev.tim.leap ≠ 0 →
    Does .leapSecond s (.tim :: .ctx :: .met :: .tar :: .cals :: reportParts) (fun d => d.tim.leap = 0 ∧ d.tim.steps = s.dev.tim.steps + 1 ∧ d.rd F.TIM_STS_LOCK = 0
      ∧ d.tim.coarseRun = 0 ∧ d.tim.fineRun = 0))
  ∧ (∀ (s : State), s.dev.live = true → s.dev.rd F.TIM_STS_SRC ≠ 0 → s.dev.tim.holdSince = none → s.dev.rd F.TIM_STS_LOCK ≠ 0 →
    s.dev.on F.GLB_CLK_STS_RTC_RUN = true →
    Does .rtcSet s (.tim :: reportParts) (fun d => d.tim.rtcNs = s.dev.nowNs ∧ d.tim.rtcSet = s.dev.nowNs ∧ d.tim.rtcValid = true))
  ∧ (∀ (s : State), s.dev.live = true → s.dev.rd F.TIM_STS_LOCK = 2 →
    Does .rateStore s [.tim] (fun d => d.tim = { s.dev.tim with rateStored := s.dev.tim.rate }))
  ∧ (∀ (s : State), s.dev.live = true →
    Does .timeSnapshotRead s [.tim, .out] (fun d => d.tim = { s.dev.tim with snapTime := s.dev.tim.time, snapMono := s.dev.tim.mono }
      ∧ d.out = .readData (s.dev.tim.time % 2 ^ 32) :: s.dev.out))

/-- Comparators, pulses, captures, timestamps, beacons (R444, R445 to R451, R456, R564). HOST_TIMER_ENABLE with ENABLE 1: the timer or the pulse output takes a
comparator and waits for its instant; with none free it is refused; a timer whose instant has passed is LATE. With ENABLE 0: it waits no more.
HOST_TIMER_FIRE: the next firing, if the timer has a period. PPS_EDGE: the pin rises, but not in the safe state. PPS_WIDTH_END: it falls. CAPTURE_EDGE: the instant
is queued; with four held, OVF. CAPTURE_POP and TXQ_POP: the oldest leaves. BEACON_DUE: the port has a beacon to send, and the series goes on. -/
def Obligations.ComparatorsAndCaptures : Prop :=
  (∀ (s : State) (u : Fin 8) (val : Word), u.val < 4 → s.dev.live = true → F.TIM_HT_CFG_ENABLE.get val.toNat = 1 →
    s.dev.on F.TIM_HT_CFG_ENABLE u = false → (s.dev.takeCmp (8 + u)).isSome = true → s.dev.nowNs < s.dev.htAt u →
    Does (.hostTimerEnable u val) s [.tim, .regs] (fun d => d.on F.TIM_HT_CFG_ENABLE u = true ∧ d.tim.htNext.find u = some (s.dev.htAt u)
      ∧ (8 + u.val) ∈ d.tim.pool ∧ KeepsRegs [F.TIM_HT_CFG_ENABLE.at u] s.dev d))
  ∧ (∀ (s : State) (u : Fin 8) (val : Word), u.val < 4 → s.dev.live = true → F.TIM_HT_CFG_ENABLE.get val.toNat = 1 →
    s.dev.on F.TIM_HT_CFG_ENABLE u = false → (s.dev.takeCmp (8 + u)).isSome = true → s.dev.htAt u ≤ s.dev.nowNs →
    Does (.hostTimerEnable u val) s (.tim :: reportParts) (fun d => d.on F.TIM_HT_CFG_ENABLE u = true ∧ d.on F.TIM_HT_CFG_LATE u = true
      ∧ (8 + u.val) ∈ d.tim.pool))
  ∧ (∀ (s : State) (u : Fin 8) (val : Word), u.val < 4 → s.dev.live = true → F.TIM_HT_CFG_ENABLE.get val.toNat = 1 →
    s.dev.on F.TIM_HT_CFG_ENABLE u = false → s.dev.takeCmp (8 + u) = none →
    Does (.hostTimerEnable u val) s [.regs] (fun d => d.on F.TIM_STS_CMP_REFUSED = true ∧ d.on F.TIM_HT_CFG_ENABLE u = false
      ∧ d.rd F.TIM_CMP_REFUSED = min (s.dev.rd F.TIM_CMP_REFUSED + 1) (2 ^ F.TIM_CMP_REFUSED.len - 1)))
  ∧ (∀ (s : State) (u : Fin 8) (val : Word), u.val < 4 → s.dev.live = true → F.TIM_HT_CFG_ENABLE.get val.toNat = 0 →
    Does (.hostTimerEnable u val) s [.tim, .regs, .fn] (fun d => d.on F.TIM_HT_CFG_ENABLE u = false ∧ d.tim.htNext.find u = none))
  ∧ (∀ (s : State) (u : Fin 8) (val : Word), 4 ≤ u.val → s.dev.live = true → F.TIM_PPS_CFG_ENABLE.get val.toNat = 1 →
    s.dev.on F.TIM_PPS_CFG_ENABLE (u - 4) = false → (s.dev.takeCmp (1 + (u - 4))).isSome = true → s.dev.nowNs < s.dev.ppsStart (u - 4) →
    Does (.hostTimerEnable u val) s [.tim, .regs, .dirty] (fun d => d.on F.TIM_PPS_CFG_ENABLE (u - 4) = true
      ∧ d.rd F.TIM_PPS_CFG_POL (u - 4) = F.TIM_PPS_CFG_POL.get val.toNat ∧ d.tim.ppsNext.find (u - 4) = some (s.dev.ppsStart (u - 4))))
  ∧ (∀ (s : State) (u : Fin 8) (val : Word), 4 ≤ u.val → s.dev.live = true → F.TIM_PPS_CFG_ENABLE.get val.toNat = 0 →
    Does (.hostTimerEnable u val) s [.tim, .regs, .dirty, .fn] (fun d => d.on F.TIM_PPS_CFG_ENABLE (u - 4) = false ∧ d.tim.ppsNext.find (u - 4) = none))
  ∧ (∀ (s : State) (h : Fin 4) (t : Nat), s.dev.tim.htNext.find h = some t → s.dev.live = true →
    Does (.hostTimerFire h) s (.tim :: reportParts) (fun d => (s.dev.toNs t).tim.mono = d.tim.mono
      ∧ d.tim.htNext.find h = (if s.dev.htPeriod h = 0 then none else some (seriesNext (s.dev.htAt h) (s.dev.htPeriod h) (s.dev.toNs t).nowNs))))
  ∧ (∀ (s : State) (n : Fin 4) (t : Nat), s.dev.tim.ppsNext.find n = some t → s.dev.live = true → s.dev.isSafe = false →
    s.dev.on F.TIM_CFG_PPS_VALID_ONLY = false →
    Does (.ppsEdge n) s [.tim, .evr, .out] (fun d => d.tim.ppsPin = s.dev.tim.ppsPin.set n true ∧ d.out = .pps n true :: s.dev.out
      ∧ d.tim.ppsEnd.find n = some (d.tim.mono + s.dev.rd F.TIM_PPS_WIDTH_WIDTH n / 2)))
  ∧ (∀ (s : State) (n : Fin 4) (t : Nat), s.dev.tim.ppsNext.find n = some t → s.dev.live = true → s.dev.isSafe = true →
    Does (.ppsEdge n) s [.tim, .evr] (fun d => d.tim.ppsPin = s.dev.tim.ppsPin ∧ d.tim.ppsEnd = s.dev.tim.ppsEnd))
  ∧ (∀ (s : State) (n : Fin 4) (t : Nat), s.dev.tim.ppsEnd.find n = some t →
    Does (.ppsWidthEnd n) s [.tim, .evr, .out] (fun d => d.tim.ppsPin = s.dev.tim.ppsPin.set n false ∧ d.out = .pps n false :: s.dev.out
      ∧ d.tim.ppsEnd.find n = none))
  ∧ (∀ (s : State) (n : Fin 4) (rising : Bool), s.dev.live = true → s.dev.on F.TIM_CAP_CFG_ENABLE n = true →
    s.dev.rd F.TIM_CAP_CFG_EDGE n ≠ (if rising then 2 else 1) → (s.dev.tim.caps.getD n []).length < 4 →
    Does (.captureEdge n rising) s [.tim] (fun d => d.tim.caps.find n = some (s.dev.tim.caps.getD n [] ++ [s.dev.nowNs])))
  ∧ (∀ (s : State) (n : Fin 4) (rising : Bool), s.dev.live = true → s.dev.on F.TIM_CAP_CFG_ENABLE n = true →
    s.dev.rd F.TIM_CAP_CFG_EDGE n ≠ (if rising then 2 else 1) → 4 ≤ (s.dev.tim.caps.getD n []).length →
    Does (.captureEdge n rising) s [.regs] (fun d => d.on F.TIM_CAP_STS_OVF n = true ∧ KeepsRegs [F.TIM_CAP_STS_OVF.at n] s.dev d))
  ∧ (∀ (s : State) (n : Fin 4) (t : Nat) (l : List Nat), s.dev.live = true → s.dev.tim.caps.getD n [] = t :: l →
    Does (.capturePop n) s [.tim, .out] (fun d => d.tim.caps.getD n [] = l ∧ d.tim.capHi.find n = some (t / 2 ^ 32 % 2 ^ 32)
      ∧ d.out = .readData (t % 2 ^ 32) :: s.dev.out))
  ∧ (∀ (s : State) (n : Fin 4), s.dev.live = true → s.dev.tim.caps.getD n [] = [] → Runs (.capturePop n) s (s.dev.emit (.readData 0)))
  ∧ (∀ (s : State) (p : Fin 4) (val : Word) (id : Nat) (st : Stamp) (l : List (Nat × Stamp)), s.dev.live = true → val.toNat % 2 = 1 →
    s.dev.tim.txq.getD p [] = (id, st) :: l →
    Does (.txqPop p val) s [.tim, .regs] (fun d => d.tim.txq.getD p [] = l ∧ d.on F.TIM_TXQ_ID_VALID p = true ∧ d.rd F.TIM_TXQ_ID_ID p = id % 65536
      ∧ d.rd F.TIM_TXQ_SEC_SEC p = st.sec % 2 ^ 32 ∧ KeepsRegs [F.TIM_TXQ_ID_ID.at p, F.TIM_TXQ_SEC_SEC.at p, F.TIM_TXQ_NS_NS.at p] s.dev d))
  ∧ (∀ (s : State) (p : Fin 4) (val : Word), s.dev.live = true → val.toNat % 2 = 1 → s.dev.tim.txq.getD p [] = [] →
    Does (.txqPop p val) s [.regs] (fun d => d.on F.TIM_TXQ_ID_VALID p = false ∧ KeepsRegs [F.TIM_TXQ_ID_VALID.at p] s.dev d))
  ∧ (∀ (s : State) (p : Fin 6) (t : Nat), s.dev.tim.beacons.find p = some t → s.dev.live = true → s.dev.isOn p = true → s.dev.beaconPort p = true →
    s.dev.isBow = false →
    Does (.beaconDue p) s [.tim, .evr] (fun d => p.val ∈ d.tim.beaconDue
      ∧ d.tim.beacons.find p = some (seriesNext t (s.dev.beaconPer p) (s.dev.toNs t).nowNs)))

/-- Radio ports (R240 to R243, R247, R248, R250, R268). RADIO_FRAME_RX: a good frame counts as received, one whose check failed as that. SEEN_KEY_EXPIRY: the
oldest key is gone. IQ_LANE_TRAINED: locked, the delays shown. IQ_LOCK_TIMEOUT: the port has failed. IQ_LOCK_LOST: not locked, the port trains again.
SPI_IRQ_EDGE: counted. LBT_LISTEN_END on a quiet channel: the frame is sent, or with the gate closed held; on a busy one: the next try, or the
request fails. DUTY_WAIT_END: the frame is sent. RADIO_TX_END of a request: its answer is awaited; of a beacon: the port is idle. -/
def Obligations.RadioPorts : Prop :=
  (∀ (s : State) (n : Fin 4) (rx : RadioRx) (answer us : Nat), s.dev.portRuns (2 + n) = true → s.dev.on F.RAD_STS_IQ_LOCK n = true →
    rx.ok = true →
    Does (.radioFrameRx n rx answer us) s (.rad :: .cals :: .sch :: .ctx :: .sec :: .tim :: reportParts) (fun d =>
      d.rd F.RAD_RX_OK n = min (s.dev.rd F.RAD_RX_OK n + 1) (2 ^ F.RAD_RX_OK.len - 1)))
  ∧ (∀ (s : State) (n : Fin 4) (rx : RadioRx) (answer us : Nat), s.dev.portRuns (2 + n) = true → s.dev.on F.RAD_STS_IQ_LOCK n = true →
    rx.ok = false →
    Does (.radioFrameRx n rx answer us) s [.regs] (fun d => d.rd F.RAD_RX_FCS n = min (s.dev.rd F.RAD_RX_FCS n + 1) (2 ^ F.RAD_RX_FCS.len - 1)
      ∧ KeepsRegs [F.RAD_RX_FCS.at n, F.RAD_STS_RSSI.at n, F.RAD_IQ_STS_BAD.at n] s.dev d))
  ∧ (∀ (s : State) (n : Fin 4) (e : Nat × Nat × Bool × Nat) (l : List (Nat × Nat × Bool × Nat)), s.dev.live = true → (s.dev.rp n).seen = e :: l →
    Does (.seenKeyExpiry n) s [.rad, .tim, .evr] (fun d => d.rp n = { s.dev.rp n with seen := l }
      ∧ e.2.2.2 + s.dev.rd F.RAD_FLOOD_CFG_SEEN_AGE n * 500000000 ≤ d.tim.mono))
  ∧ (∀ (s : State) (n : Fin 4) (i q : BitVec 6) (bad : Nat), s.dev.trains n = true →
    Does (.iqLaneTrained n (i, q) bad) s [.rad, .regs, .out] (fun d => d.rp n = { s.dev.rp n with training := false } ∧ d.on F.RAD_STS_IQ_LOCK n = true
      ∧ d.rd F.RAD_IQ_CFG_DLY_I n = i.toNat ∧ d.rd F.RAD_IQ_CFG_DLY_Q n = q.toNat
      ∧ KeepsRegs [F.RAD_STS_IQ_LOCK.at n, F.RAD_IQ_CFG_DLY_I.at n, F.RAD_IQ_STS_BAD.at n] s.dev d))
  ∧ (∀ (s : State) (n : Fin 4), s.dev.trains n = true → s.dev.curOf (2 + n) = none →
    Does (.iqLockTimeout n) s (.fn :: .rad :: .sch :: .tim :: reportParts) (fun d => (d.fnOf (2 + n)).st = .failed ∧ (d.rp n).training = false
      ∧ (d.rp n).phase = .idle ∧ OtherFns (2 + n) s.dev d))
  ∧ (∀ (s : State) (n : Fin 4) (stray : Nat), s.dev.live = true → s.dev.on F.RAD_STS_IQ_LOCK n = true →
    Does (.iqLockLost (n, stray)) s [.rad, .regs] (fun d => d.rp n = { s.dev.rp n with training := true, trainFrom := s.dev.tim.mono }
      ∧ d.on F.RAD_STS_IQ_LOCK n = false ∧ d.rd F.RAD_IQ_STS_BAD n = min (s.dev.rd F.RAD_IQ_STS_BAD n + (16 + stray)) (2 ^ F.RAD_IQ_STS_BAD.len - 1)))
  ∧ (∀ (s : State) (n : Fin 4), s.dev.live = true → absentOff s.dev.grade (F.RAD_XCVR_STS_IRQS.at n) = false →
    Does (.spiIrqEdge n) s [.regs] (fun d => d.rd F.RAD_XCVR_STS_IRQS n = min (s.dev.rd F.RAD_XCVR_STS_IRQS n + 1) (2 ^ F.RAD_XCVR_STS_IRQS.len - 1)
      ∧ KeepsRegs [F.RAD_XCVR_STS_IRQS.at n] s.dev d))
  ∧ (∀ (s : State) (n : Fin 4) (rssi : Int) (us : Nat), s.dev.portRuns (2 + n) = true → (s.dev.rp n).phase = .listen →
    s.dev.chanBusy n rssi = false → s.dev.gateOpen = true → s.dev.rdvHolds n = false →
    (s.dev.toMono (s.dev.rp n).listenUntil).dutyFits n (s.dev.radFrm n (s.dev.rp n).bytes us (s.dev.rp n).fec) = true →
    Does (.lbtListenEnd n rssi us) s [.rad, .regs, .tim, .evr, .out] (fun d => (d.rp n).phase = .sending ∧ (d.rp n).txFrom = d.tim.mono
      ∧ (s.dev.rp n).listenUntil ≤ d.tim.mono ∧ (d.rp n).txLen = s.dev.radFrm n (s.dev.rp n).bytes us (s.dev.rp n).fec))
  ∧ (∀ (s : State) (n : Fin 4) (rssi : Int) (us : Nat), s.dev.portRuns (2 + n) = true → (s.dev.rp n).phase = .listen →
    s.dev.chanBusy n rssi = false → s.dev.gateOpen = false →
    Does (.lbtListenEnd n rssi us) s [.rad, .regs, .tim, .evr] (fun d => (d.rp n).phase = .duty none ∧ d.on F.RAD_STS_GATED n = true))
  ∧ (∀ (s : State) (n : Fin 4) (rssi : Int) (us : Nat), s.dev.portRuns (2 + n) = true → (s.dev.rp n).phase = .listen →
    s.dev.chanBusy n rssi = true → (s.dev.rp n).tries + 1 < s.dev.rd F.RAD_LBT_CFG_TRIES n →
    Does (.lbtListenEnd n rssi us) s [.rad, .regs, .tim, .evr, .freeCtr] (fun d =>
      d.rp n = { s.dev.rp n with tries := (s.dev.rp n).tries + 1, be := min 5 ((s.dev.rp n).be + 1), listenUntil := (d.rp n).listenUntil }
        ∧ d.tim.mono + msC (s.dev.rd F.RAD_LBT_CFG_UNIT n) + msC (s.dev.rd F.RAD_LBT_CFG_LISTEN n) ≤ (d.rp n).listenUntil
        ∧ (d.rp n).listenUntil ≤ d.tim.mono + 2 ^ (s.dev.rp n).be * msC (s.dev.rd F.RAD_LBT_CFG_UNIT n) + msC (s.dev.rd F.RAD_LBT_CFG_LISTEN n) + 2500000
        ∧ KeepsRegs [F.RAD_STS_RSSI.at n] s.dev d))
  ∧ (∀ (s : State) (n : Fin 4) (rssi : Int) (us : Nat), s.dev.portRuns (2 + n) = true → (s.dev.rp n).phase = .listen →
    s.dev.chanBusy n rssi = true → s.dev.rd F.RAD_LBT_CFG_TRIES n ≤ (s.dev.rp n).tries + 1 →
    (s.dev.rp n).kind = 0 → (s.dev.curOf (2 + n)).isSome = true →
    Does (.lbtListenEnd n rssi us) s [.rad, .regs, .tim, .evr] (fun d => d.rp n = { s.dev.rp n with phase := .failed }
      ∧ d.rd F.RAD_LBT_BUSY n = min (s.dev.rd F.RAD_LBT_BUSY n + 1) (2 ^ F.RAD_LBT_BUSY.len - 1)))
  ∧ (∀ (s : State) (n : Fin 4) (t : Nat), s.dev.portRuns (2 + n) = true → (s.dev.rp n).phase = .duty none → s.dev.gateOpen = true → s.dev.rdvHolds n = false →
    s.dev.dutyAt n (s.dev.rp n).txLen = some t → (s.dev.toMono t).dutyFits n (s.dev.rp n).txLen = true →
    Does (.dutyWaitEnd n) s [.rad, .regs, .tim, .evr, .out] (fun d => (d.rp n).phase = .sending ∧ (d.rp n).txFrom = d.tim.mono
      ∧ (d.rp n).txLen = (s.dev.rp n).txLen))
  ∧ (∀ (s : State) (n : Fin 4) (x : Xfer), s.dev.portRuns (2 + n) = true → (s.dev.rp n).phase = .sending → s.dev.curOf (2 + n) = some x →
    (s.dev.rp n).kind ≠ 1 → (s.dev.rp n).kind ≠ 5 →
    Does (.radioTxEnd n) s [.rad, .tim, .evr, .out] (fun d => (d.rp n).phase = .awaiting (d.tim.mono + s.dev.radWait n)
      ∧ (d.rp n).txLog.head? = some ((s.dev.rp n).txFrom, d.tim.mono)))
  ∧ (∀ (s : State) (n : Fin 4), s.dev.portRuns (2 + n) = true → (s.dev.rp n).phase = .sending → (s.dev.rp n).kind = 1 →
    Does (.radioTxEnd n) s [.rad, .sch, .tim, .evr, .out] (fun d => (d.rp n).phase = .idle ∧ (d.psch (2 + n)).beacon = false
      ∧ (d.rp n).txLog.head? = some ((s.dev.rp n).txFrom, d.tim.mono)))

/-- Agreed slots, answer windows and rendezvous windows (R253, R257 to R259, R262). AGREED_SLOT: yielded to a beacon, busy where the port does something else;
else, after a listen span on a quiet channel, the request of the slot is sent at SLOT + GUARD. SLOT_ANSWER_TIMEOUT: the exchange is over. WMB_FRAME_LATE: a miss. RENDEZVOUS_WINDOW_OPEN and
RENDEZVOUS_WINDOW_CLOSE: the window opens, and is no more. -/
def Obligations.SlotsAndWindows : Prop :=
  (∀ (s : State) (mix : BitVec 20) (rssi : List Int) (bytes us : Nat) (c : Ctx) (n : Nat), s.dev.ctxAt mix.toNat = some c → c.radPort = some n → s.dev.serves = true →
    s.dev.isOn (2 + n) = true → s.dev.radSun n = true → c.calendar = true → c.nextSlot ≠ 0 → c.st ≠ 5 → s.dev.tim.beaconDue.contains (2 + n) = true →
    Does (.agreedSlot mix rssi bytes us) s [.tim, .evr, .ctx, .sch, .regs] (fun d =>
      d.rd F.RAD_SLOT_YIELD n = min (s.dev.rd F.RAD_SLOT_YIELD n + 1) (2 ^ F.RAD_SLOT_YIELD.len - 1) ∧ KeepsRegs [F.RAD_SLOT_YIELD.at n] s.dev d))
  ∧ (∀ (s : State) (mix : BitVec 20) (rssi : List Int) (bytes us : Nat) (c : Ctx) (n : Nat), s.dev.ctxAt mix.toNat = some c → c.radPort = some n → s.dev.serves = true →
    s.dev.isOn (2 + n) = true → s.dev.radSun n = true → c.calendar = true → c.nextSlot ≠ 0 → c.st ≠ 5 → s.dev.tim.beaconDue.contains (2 + n) = false →
    (s.dev.psch (2 + n)).beacon = false → (s.dev.rp n).slot = false → (s.dev.rp n).phase ≠ .idle →
    (s.dev.rp n).airUntil ≤ s.dev.tim.mono →
    Does (.agreedSlot mix rssi bytes us) s [.tim, .evr, .ctx, .sch, .regs] (fun d =>
      d.rd F.RAD_SLOT_BUSY n = min (s.dev.rd F.RAD_SLOT_BUSY n + 1) (2 ^ F.RAD_SLOT_BUSY.len - 1) ∧ KeepsRegs [F.RAD_SLOT_BUSY.at n] s.dev d))
  ∧ (∀ (s : State) (mix : BitVec 20) (rssi : List Int) (bytes us : Nat) (c : Ctx) (n : Nat), s.dev.ctxAt mix.toNat = some c → c.radPort = some n → s.dev.serves = true →
    s.dev.isOn (2 + n) = true → s.dev.radSun n = true → c.calendar = true → c.nextSlot ≠ 0 → c.st ≠ 5 → s.dev.tim.beaconDue.contains (2 + n) = false →
    (s.dev.psch (2 + n)).beacon = false → (s.dev.psch (2 + n)).looped = false → (s.dev.rp n).phase = .idle →
    (s.dev.rp n).airUntil ≤ s.dev.tim.mono → rssi.head?.any (s.dev.chanBusy n) = false → s.dev.gateOpen = true →
    ((s.dev.toNs (c.nextSlot + 1000000 * c.guard - 1000000 * (s.dev.rd F.RAD_LBT_CFG_LISTEN n + 5))).toNs (c.nextSlot + 1000000 * c.guard)).dutyFits n
      (s.dev.radFrm n bytes us (s.dev.cal mix.toNat).fec) = true →
    Does (.agreedSlot mix rssi bytes us) s [.tim, .evr, .rng, .ctx, .sec, .sch, .rad, .cals, .regs, .out] (fun d =>
      (d.rp n).mix = some mix.toNat ∧ (d.rp n).agreed = true ∧ (d.rp n).bytes = bytes ∧ (d.curOf (2 + n)).isSome = true
        ∧ (d.rp n).phase = .sending ∧ (d.rp n).txFrom = d.tim.mono
        ∧ d.tim.mono = ((s.dev.toNs (c.nextSlot + 1000000 * c.guard - 1000000 * (s.dev.rd F.RAD_LBT_CFG_LISTEN n + 5))).toNs (c.nextSlot + 1000000 * c.guard)).tim.mono))
  ∧ (∀ (s : State) (mix : BitVec 20) (c : Ctx) (n t : Nat) (x : Xfer), s.dev.ctxAt mix.toNat = some c → c.radPort = some n →
    (s.dev.rp n).phase = .awaiting t → s.dev.curOf (2 + n) = some x → x.mix = mix.toNat → (s.dev.rp n).agreed = true →
    Does (.slotAnswerTimeout mix) s (.tar :: .par :: .ctx :: .sec :: .sch :: .lcp :: .rad :: .cals :: .ldg :: .tim :: linkParts) (fun d =>
      d.rp n = { s.dev.rp n with phase := .idle, mix := none, slot := false, agreed := false } ∧ d.curOf (2 + n) = none))
  ∧ (∀ (s : State) (mix : BitVec 20) (c : Ctx) (n : Nat), s.dev.ctxAt mix.toNat = some c → c.radPort = some n → s.dev.serves = true → c.wake = 0xFF →
    c.nextSlot ≠ 0 →
    Does (.wmbFrameLate mix) s [.tim, .evr, .ctx, .cals, .sch, .regs] (fun d =>
      d.rd F.RAD_SLOT_MISS n = min (s.dev.rd F.RAD_SLOT_MISS n + 1) (2 ^ F.RAD_SLOT_MISS.len - 1)))
  ∧ (∀ (s : State) (mix : BitVec 20) (c : Ctx) (n : Nat), s.dev.ctxAt mix.toNat = some c → c.radPort = some n → s.dev.serves = true →
    s.dev.isOn (2 + n) = true → s.dev.radSun n = true → c.calendar = true → (c.rsync % 4 = 2 ∨ c.rsync % 4 = 3 ∨ c.nextSlot = 0) → (s.dev.rp n).rdv.any (fun e => e.1 = mix.toNat) = false →
    Does (.rendezvousWindowOpen mix) s [.rad, .tim, .evr] (fun d =>
      d.rp n = { s.dev.rp n with rdv := (s.dev.rp n).rdv ++ [(mix.toNat, (s.dev.nextWake c + s.dev.rdvHalf n (s.dev.nextWake c) c) * 1000000000)] }))
  ∧ (∀ (s : State) (mix : BitVec 20) (c : Ctx) (n : Nat) (e : Nat × Nat), s.dev.ctxAt mix.toNat = some c → c.radPort = some n →
    (s.dev.rp n).rdv.find? (fun e => e.1 = mix.toNat) = some e → s.dev.live = true →
    Does (.rendezvousWindowClose mix) s [.rad, .tim, .evr] (fun d => d.rp n = { s.dev.rp n with rdv := (s.dev.rp n).rdv.filter (fun x => x ≠ e) }))

/-- The device's own firmware (R589 to R602). FW_WRITE: the bytes are staged at their offset. FW_ACTIVATE of a good package: with a pause, the running
region holds it and the rings are reset; hitless, step 1 begins; in recovery, what the signature check answers decides. ACTIVATION_RESET: the device
restarts with a retention mark. HITLESS_STEP: the next step. HITLESS_STOP: the activation is over. PAIR_IMAGE_RX: a part is kept, the whole package of a
paused activation is written. TFTP_RECOVERY_READ: the block joins the file; a stall counts, the third rests the source. RECOVERY_INSTALL: an
accepted package restarts the device, another is discarded. -/
def Obligations.FirmwareUpdates : Prop :=
  (∀ (s : State) (p : Fin 64) (h : Held) (bs : List Byte), s.takes p 0x58 h → s.dev.on F.UPD_CFG_OWNER_LOCK = false → s.dev.activating = false →
    h.desc.word 6 = 0 →
    Completes (.fwWrite p (.data bs)) s p h
      [((padTo (bufLen h.desc) (bs.take (bufLen h.desc))).take (stageCap (padTo (bufLen h.desc) (bs.take (bufLen h.desc))))).length] [.upd] (fun d =>
        d.upd = { s.dev.upd with staged := (padTo (bufLen h.desc) (bs.take (bufLen h.desc))).take (stageCap (padTo (bufLen h.desc) (bs.take (bufLen h.desc)))) }))
  ∧ (∀ (s : State) (p : Fin 64) (h : Held) (bs : List Byte), s.takes p 0x58 h → s.dev.on F.UPD_CFG_OWNER_LOCK = false → s.dev.activating = false →
    h.desc.word 6 ≠ 0 → h.desc.word 6 = s.dev.upd.staged.length → s.dev.upd.staged.length < stageCap s.dev.upd.staged →
    Does (.fwWrite p (.data bs)) s [.rng, .regs, .upd] (fun d => d.upd = { s.dev.upd with
      staged := (s.dev.upd.staged ++ padTo (bufLen h.desc) (bs.take (bufLen h.desc))).take
        (stageCap (s.dev.upd.staged ++ padTo (bufLen h.desc) (bs.take (bufLen h.desc)))) }))
  ∧ (∀ (s : State) (p : Fin 64) (h : Held), s.takes p 0x59 h → s.dev.activating = false → s.dev.updRefuse = 0 → s.dev.upd.recovery = false →
    (s.dev.par.en = false ∨ bitAt (h.desc.word 3) 0 = true) → s.dev.pkgFault false = none →
    Does (.fwActivate p) s (.upd :: .fn :: .par :: .ctx :: reportParts) (fun d => d.upd = { s.dev.upd with st := 3, paused := true, fresh := true, run := pkgInfo s.dev.upd.staged }
      ∧ d.rng.pairs = [] ∧ d.rng.granted = []))
  ∧ (∀ (s : State) (p : Fin 64) (h : Held), s.takes p 0x59 h → s.dev.activating = false → s.dev.updRefuse = 0 → s.dev.upd.recovery = false →
    s.dev.par.en = true → bitAt (h.desc.word 3) 0 = false → s.dev.pkgFault true = none →
    Does (.fwActivate p) s (.upd :: .par :: reportParts) (fun d => d.upd = { s.dev.upd with
      st := 4, hstep := 1, target := (pkgInfo s.dev.upd.staged).version, resetAt := none, readyAt := none }))
  ∧ (∀ (s : State) (p : Fin 64) (h : Held), s.takes p 0x59 h → s.dev.activating = false → s.dev.updRefuse = 0 → s.dev.upd.recovery = true →
    s.dev.pkgFault false = none →
    Does (.fwActivate p) s (.upd :: reportParts) (fun d =>
      d.upd = (if s.dev.accepts s.dev.upd.staged then { s.dev.upd with hostOk := true } else { s.dev.upd with staged := [] })))
  ∧ (∀ (s : State), s.dev.live = true → s.dev.upd.install = false → s.dev.upd.st = 3 → s.dev.portsQuiet = true → s.dev.imageWaits = false →
    s.dev.updMayReset = true →
    Does .activationReset s resetParts (fun d => d.glb.cause = 6 ∧ d.glb.phase = (if d.released_ then .booting else .held) ∧ d.fn = [] ∧ d.rng = {}
      ∧ d.upd.mark = some s.dev.par.cycle ∧ d.upd.weigh = s.dev.upd.run.check ∧ d.upd.kept.isSome = true ∧ d.upd.st = 0))
  ∧ (∀ (s : State), s.dev.live = true → s.dev.upd.st = 4 → s.dev.upd.hstep = 1 → s.dev.imageWaits = false →
    Does .hitlessStep s (.upd :: reportParts) (fun d => d.upd = { s.dev.upd with hstep := 2 }))
  ∧ (∀ (s : State), s.dev.live = true → s.dev.upd.st = 4 → s.dev.upd.hstep = 2 → s.dev.par.hbLost = true →
    Does .hitlessStep s (.upd :: reportParts) (fun d => d.upd = { s.dev.upd with hstep := 3, resetAt := some s.dev.tim.mono }))
  ∧ (∀ (s : State), s.dev.live = true → s.dev.upd.st = 4 → s.dev.upd.hstep = 3 → s.dev.par.hbLost = false → s.dev.par.peer.ready = true →
    s.dev.par.peer.version = s.dev.upd.target → s.dev.tar.sweeps ≠ [] → s.dev.par.role = .stroke →
    Does .hitlessStep s (.upd :: .par :: reportParts) (fun d => d.upd = { s.dev.upd with hstep := 4, readyAt := some s.dev.tim.mono }
      ∧ d.par = { s.dev.par with swap := some { phase := .sweep, desc := none } }))
  ∧ (∀ (s : State), s.dev.live = true → s.dev.upd.st = 4 → s.dev.upd.hstep = 5 → s.dev.isBow = true → s.dev.par.ready = true → s.dev.upd.install = false →
    Does .hitlessStep s (.upd :: reportParts) (fun d => d.upd = { s.dev.upd with hstep := 6, st := 0 }))
  ∧ (∀ (s : State), s.dev.live = true → s.dev.upd.st = 4 → s.dev.upd.install = false → s.dev.pairFatal = true →
    Does .hitlessStop s (.upd :: reportParts) (fun d => d.upd = { s.dev.upd with st := 0 }))
  ∧ (∀ (s : State) (t : Nat), s.dev.live = true → s.dev.upd.st = 4 → s.dev.upd.install = false → s.dev.pairFatal = false → s.dev.upd.hstep = 3 →
    s.dev.par.peer.ready = false → s.dev.upd.resetAt = some t →
    Does .hitlessStop s (.upd :: .tim :: reportParts) (fun d => d.upd = { s.dev.upd with st := 0 } ∧ t + msC 60000 ≤ d.tim.mono))
  ∧ (∀ (s : State) (pause : Bool) (total : Nat) (bytes : List Byte), s.dev.live = true → s.dev.par.en = true → s.dev.pairUp = true →
    (s.dev.upd.recovery || (s.dev.isBow && !s.dev.activating)) = true → bytes.length < total →
    Does (.pairImageRx pause 0 total bytes) s [.par, .upd] (fun d => d.upd = { s.dev.upd with imgRx := bytes, imgLen := total }
      ∧ d.par = { s.dev.par with freed := s.dev.par.freed + pairCells (.image pause 0 total bytes) }))
  ∧ (∀ (s : State) (bytes : List Byte), s.dev.live = true → s.dev.par.en = true → s.dev.pairUp = true → s.dev.upd.recovery = false → s.dev.isBow = true →
    s.dev.activating = false → bytes ≠ [] →
    Does (.pairImageRx true s.dev.upd.imgRx.length (s.dev.upd.imgRx.length + bytes.length) bytes) s [.par, .upd, .rng, .fn, .regs] (fun d =>
      d.upd = { s.dev.upd with imgRx := [], imgLen := 0, run := pkgInfo ((if s.dev.upd.imgRx.length = 0 then [] else s.dev.upd.imgRx) ++ bytes), fresh := true, st := 3, paused := true }
        ∧ d.rng.pairs = []))
  ∧ (∀ (s : State) (b : List Byte), tftpOk (some b) = true → s.dev.live = true → s.dev.upd.recovery = true → s.dev.rcvIp = true → s.dev.flPorts ≠ [] →
    s.dev.upd.tftpDone = false → s.dev.upd.tftpRest = none →
    Does (.tftpRecoveryRead (some b)) s [.upd] (fun d =>
      d.upd = { s.dev.upd with tftp := s.dev.upd.tftp ++ b, tftpFails := 0, tftpDone := decide (b.length < 1428) }))
  ∧ (∀ (s : State), s.dev.live = true → s.dev.upd.recovery = true → s.dev.rcvIp = true → s.dev.flPorts ≠ [] → s.dev.upd.tftpDone = false →
    s.dev.upd.tftpRest = none → s.dev.upd.tftpFails < 2 →
    Does (.tftpRecoveryRead none) s [.upd, .tim, .evr] (fun d => d.upd = { s.dev.upd with tftpFails := s.dev.upd.tftpFails + 1 }
      ∧ s.dev.tim.mono + msC 5000 ≤ d.tim.mono))
  ∧ (∀ (s : State), s.dev.live = true → s.dev.upd.recovery = true → s.dev.rcvIp = true → s.dev.flPorts ≠ [] → s.dev.upd.tftpDone = false →
    s.dev.upd.tftpRest = none → 2 ≤ s.dev.upd.tftpFails →
    Does (.tftpRecoveryRead none) s [.upd] (fun d => d.upd = { s.dev.upd with tftp := [], tftpFails := 0, tftpRest := some (s.dev.tim.mono + msC 60000) }))
  ∧ (∀ (s : State) (source : Nat) (b : List Byte), s.dev.live = true → s.dev.upd.recovery = true → s.dev.recoveryPackage = some (source, b) →
    Does .recoveryInstall s resetParts (fun d => if s.dev.accepts b then
        d.glb.cause = 6 ∧ d.fn = [] ∧ d.rng = {} ∧ d.upd.run = pkgInfo b ∧ d.upd.weigh = (pkgInfo b).check
      else d = s.dev.discard source))

/-- The machine right after reset (R19, R288, R571, R616; the values of registers and of the battery domain for which the spec gives no reset value are the
model's choice, log entries 2 and 3): nothing waits, every register reads its reset word, every function is OFF, rings, queues and recorder hold nothing,
no root, no fuse; and the fuses and the battery domain hold legal values. -/
def Obligations.ResetState : Prop :=
  State.reset.pending = [] ∧ (∀ off, State.reset.dev.word off = resetVal .x off) ∧ (∀ fix, (State.reset.dev.fnOf fix).st = .off)
    ∧ State.reset.dev.rng = {} ∧ State.reset.dev.lne = {} ∧ State.reset.dev.evr.recs = [] ∧ State.reset.dev.ctx.tab = []
    ∧ State.reset.bat.root = none ∧ State.reset.bat.latch = false ∧ State.reset.dev.glb.phase = .booting ∧ State.reset.dev.glb.cause = 1
    ∧ FusesLegal State.reset ∧ BatteryLegal State.reset

/-- The fuses are one-time programmable (R202): what a line port's fuses hold, every step leaves. -/
def Obligations.FusesAreWrittenOnce : Prop :=
  ∀ (s t : State) (p : Nat) (w : Nat × Nat), step s = .next t → s.die.gov.find p = some w → t.die.gov.find p = some w

/-- A fused entry has both hard caps at 1 or more (R202, R205); every step keeps it so. -/
def Obligations.FusesStayLegal : Prop :=
  ∀ (s t : State), FusesLegal s → step s = .next t → FusesLegal t

/-- The battery domain's tamper words stay within their fields, and SEC_TAMPER_CFG within its legal range with its reserved bits 0 (R17, R20, R289,
R313): every step keeps it so. -/
def Obligations.BatteryStaysLegal : Prop :=
  ∀ (s t : State), BatteryLegal s → step s = .next t → BatteryLegal t

/-- Only the end of a fusing writes the die (R202): any other command leaves it as it was. -/
def Obligations.OnlyFusingWritesTheDie : Prop :=
  ∀ (c : Instr) (s t : State), (∀ port, c ≠ .govFuseDone port) → exec c s = .next t → t.die = s.die

/-- The tamper latch clears only with a valid root (R290): without a root no command but a power-up of a domain that has lost all power clears it. -/
def Obligations.TamperLatchHolds : Prop :=
  ∀ (c : Instr) (s t : State), s.bat.latch = true → s.bat.root = none → (∀ offS cold resetN perstN pwrFailN, c ≠ .powerUp offS cold resetN perstN pwrFailN) →
    exec c s = .next t → t.bat.latch = true

/-- Nothing clears, rewrites or reorders the recorder (R576): after any command its records are those it held, newest first, behind those that the
command wrote, and it never holds more than 65,536. -/
def Obligations.RecorderOnlyGrows : Prop :=
  ∀ (c : Instr) (s t : State), exec c s = .next t →
    (∃ l, t.dev.evr.recs = l ++ s.dev.evr.recs) ∧ (s.dev.evr.recs.length ≤ 65536 → t.dev.evr.recs.length ≤ 65536)

/-- A write changes each field of a register as its access code and its legal range say, whatever the other fields take, and the bits of no field
read 0 after it (R17, R19, R20). -/
def Obligations.FieldsFollowTheirAccessCodes : Prop :=
  (∀ (off : Nat) (r : RegDef) (i : Nat) (f : Fld) (lock o : Bool) (cur v : Nat), findReg off = some (r, i) → f ∈ r.flds →
    bitsOf (r.next lock o cur v) f.lo f.len = f.next lock o cur v)
  ∧ (∀ (off : Nat) (r : RegDef) (i k : Nat) (lock o : Bool) (cur v : Nat), findReg off = some (r, i) →
    (∀ f ∈ r.flds, k < f.lo ∨ f.lo + f.len ≤ k) → (r.next lock o cur v).testBit k = false)

/-- On the F grade the ROLE codes 0b01 and 0b10 clamp to 0b00, and readback shows it (R5). -/
def Obligations.RoleClampsOnTheFGrade : Prop :=
  ∀ (s : State) (val : Word), s.dev.live = true → s.dev.grade = .f → s.dev.on F.GLB_CFG_LOCK_LOCK = false →
    (F.GLB_ROLE_CFG_ROLE.get val.toNat = 1 ∨ F.GLB_ROLE_CFG_ROLE.get val.toNat = 2) →
    ∃ d, Runs (.registerWrite 0x10 val) s d ∧ Keeps [.regs, .dirty] s.dev d ∧ KeepsRegs [0x10] s.dev d ∧ d.rd F.GLB_ROLE_CFG_ROLE = 0
      ∧ ((s.withDev d).busRead 0x10).1 = 0

/-- CTX_GET (R107): the buffer takes the image of the context, 256 bytes, and w3 is its STATE code; an effective length below 256 B completes with
BAD_BUFFER, sub-status 20. -/
def Obligations.ContextGetCopiesTheImage : Prop :=
  ∀ (s : State) (pair : Fin 64) (h : Held) (c : Ctx), s.takes pair 0x70 h → s.dev.ctxAt (tMix h.desc) = some c → c.st ≤ 4 →
    (c.authImage (tMix h.desc)).length = 256
      ∧ (256 ≤ bufLen h.desc → Completes (.ctxGet pair) s pair h [c.st] [.out] (fun d =>
          d.out = .hostWrite (bufAddr h.desc) (c.authImage (tMix h.desc)) :: s.dev.out))
      ∧ (bufLen h.desc < 256 → Does (.ctxGet pair) s [.rng, .regs] (fun d => d.pair pair = (s.dev.complete pair h.id 4 20).pair pair))

/-- Descriptors of one pair that name the same MIX complete in the order of their submission (R81): while an earlier one is not finished, every later one
that names its MIX is still held. -/
def Obligations.OneMeterCompletesInOrder : Prop :=
  ∀ (d : Dev) (p k : Nat) (a b : List Held) (x : Held), (d.pair p).held = a ++ x :: b → x.result = none → descMix x.desc = some k →
    x ∈ ((d.settle p).pair p).held ∧ ∀ h ∈ b, descMix h.desc = some k → h ∈ ((d.settle p).pair p).held

/-- The physical layer of Sculler mode (R178 to R180, R182, R183), with the choices of log entry 123 where the rules leave a point open: scrambling
twice gives the data back; the code doubles data and tail; a frame-control word passes its check with the fields that made it, and with any one bit
flipped it fails; the samples of a frame last (8 + N) times 144 µs; the coded bits of a ROBUST frame of N_sym symbols, padded, fill N_sym times the
bits_per_symbol eight times over, and no symbol takes more than its carriers hold. -/
def Obligations.ScullerPhysicalLayer : Prop :=
  (∀ (l : List Bool), scramble (scramble l) = l)
  ∧ (∀ (l : List Bool), (convCode l).length = 2 * (l.length + 6))
  ∧ (∀ (tmi rate nsym : Nat), tmi < 16 → rate < 4 → nsym < 1024 →
    fcGood (fcWord tmi rate nsym) = true ∧ bitsOf (fcWord tmi rate nsym) 0 4 = tmi ∧ bitsOf (fcWord tmi rate nsym) 4 2 = rate
      ∧ fcSyms (fcWord tmi rate nsym) = nsym ∧ fcWord tmi rate nsym < 2 ^ 24)
  ∧ (∀ (w i : Nat), w < 2 ^ 24 → i < 24 → fcGood w = true → fcGood (w ^^^ 2 ^ i) = false)
  ∧ (∀ (mask tmi rate : Nat) (map : List Nat) (nsym hdr pad : Nat) (bytes : List Byte),
    (frameWave mask (frameSyms mask tmi rate map nsym hdr pad bytes)).length = (8 + nsym) * 144 * 4)
  ∧ (∀ (mask hdr : Nat) (bytes : List Byte) (bps n : Nat), bps = popBits 58 mask / 8 → n = scSymbols bytes.length bps → 0 < bps →
    (codedBits 0 0 (infoBits hdr (n * bps - (8 * bytes.length + 64)) bytes)).length = 8 * (n * bps)
      ∧ 8 * (n * bps) ≤ n * sumNat (loadsOn mask 0 []))

/-- The normaliser of the CIC (R364): from every D_CIC it forms a mantissa of 24 bits and a shift for which the DC gain of both, the cube of D_CIC
times the mantissa over 2 to the 23 and the shift, is 1 within 0.1 ppm. -/
def Obligations.NormaliserGainIsOne : Prop :=
  ∀ (dc : Nat), 2 ≤ dc → dc ≤ 65536 →
    2 ^ 23 ≤ normMant dc ∧ normMant dc < 2 ^ 24
      ∧ normMant dc * dc ^ 3 * 10000000 ≤ 2 ^ (23 + normShift dc) * 10000001
      ∧ 2 ^ (23 + normShift dc) * 9999999 ≤ normMant dc * dc ^ 3 * 10000000
end

