-- ==== Sys2Proof/Laws/Word.lean ====
section
/-! SUPPORT. Sys2Proof/Laws/Word.lean: laws of sparse tables and of bit fields. -/

namespace Sys2Proof

/-! ## Tables: what is put is found, and nothing else changes -/

@[simp] theorem Tab.find_nil {α : Type} (q : Nat) : Tab.find ([] : Tab α) q = none := rfl

@[simp] theorem Tab.find_put_self {α : Type} (t : Tab α) (q : Nat) (w : α) : Tab.find (Tab.put t q w) q = some w := by
  induction t with
  | nil => simp [Tab.put, Tab.find]
  | cons e t ih =>
    obtain ⟨k, v⟩ := e
    simp only [Tab.put]
    split
    · simp [Tab.find]
    · split
      · simp [Tab.find]
      · rename_i h1 h2
        simp [Tab.find, h2, ih]

theorem Tab.find_put_other {α : Type} (t : Tab α) (q p : Nat) (w : α) (h : p ≠ q) : Tab.find (Tab.put t q w) p = Tab.find t p := by
  induction t with
  | nil => simp [Tab.put, Tab.find, h]
  | cons e t ih =>
    obtain ⟨k, v⟩ := e
    simp only [Tab.put]
    split
    · simp [Tab.find, h]
    · split
      · rename_i h1 h2
        subst h2
        simp [Tab.find, h]
      · simp [Tab.find, ih]

@[simp] theorem Tab.find_del_self {α : Type} (t : Tab α) (q : Nat) : Tab.find (Tab.del t q) q = none := by
  induction t with
  | nil => rfl
  | cons e t ih =>
    obtain ⟨k, v⟩ := e
    simp only [Tab.del, List.filter_cons, ne_eq, decide_not] at ih ⊢
    by_cases h : k = q
    · simp [h, ih]
    · have h' : q ≠ k := fun x => h x.symm
      simp [h, h', Tab.find, ih]

theorem Tab.find_del_other {α : Type} (t : Tab α) (q p : Nat) (h : p ≠ q) : Tab.find (Tab.del t q) p = Tab.find t p := by
  induction t with
  | nil => rfl
  | cons e t ih =>
    obtain ⟨k, v⟩ := e
    simp only [Tab.del, List.filter_cons, ne_eq, decide_not] at ih ⊢
    by_cases hk : k = q
    · have : p ≠ k := fun x => h (x.trans hk)
      simp [hk, Tab.find, ih, h]
    · simp [hk, Tab.find, ih]

/-- A table in canonical form stays so when an entry is put. -/
theorem Tab.put_wf {α : Type} (t : Tab α) (q : Nat) (w : α) (h : t.wf = true) : (Tab.put t q w).wf = true := by
  simp only [Tab.wf, decide_eq_true_eq] at h ⊢
  induction t with
  | nil => simp [Tab.put]
  | cons e t ih =>
    obtain ⟨k, v⟩ := e
    rw [List.pairwise_cons] at h
    simp only [Tab.put]
    split
    · rename_i h1
      refine List.pairwise_cons.2 ⟨?_, List.pairwise_cons.2 h⟩
      intro x hx
      rcases List.mem_cons.1 hx with rfl | hx
      · exact h1
      · exact lt_trans h1 (h.1 x hx)
    · split
      · rename_i h1 h2
        subst h2
        exact List.pairwise_cons.2 ⟨h.1, h.2⟩
      · rename_i h1 h2
        refine List.pairwise_cons.2 ⟨?_, ih h.2⟩
        intro x hx
        have hm : x = (q, w) ∨ x ∈ t := by
          clear ih h
          induction t with
          | nil => simpa [Tab.put] using hx
          | cons e t ih2 =>
            obtain ⟨k', v'⟩ := e
            simp only [Tab.put] at hx
            split at hx
            · simp only [List.mem_cons] at hx ⊢; tauto
            · split at hx
              · simp only [List.mem_cons] at hx ⊢; tauto
              · simp only [List.mem_cons] at hx ⊢
                rcases hx with hx | hx
                · exact .inr (.inl hx)
                · rcases ih2 hx with hx | hx
                  · exact .inl hx
                  · exact .inr (.inr hx)
        rcases hm with rfl | hm
        · show k < q
          omega
        · exact h.1 x hm

/-- A table in canonical form stays so when an entry is removed. -/
theorem Tab.del_wf {α : Type} (t : Tab α) (q : Nat) (h : t.wf = true) : (Tab.del t q).wf = true := by
  unfold Tab.wf Tab.del at *
  exact decide_eq_true ((of_decide_eq_true h).sublist List.filter_sublist)

/-! ## Bit fields -/

theorem bitsOf_lt (w lo len : Nat) : bitsOf w lo len < 2 ^ len := Nat.mod_lt _ (by positivity)

theorem bitsOf_mod (w lo len n : Nat) (h : lo + len ≤ n) : bitsOf (w % 2 ^ n) lo len = bitsOf w lo len := by
  unfold bitsOf
  simp only [Nat.shiftRight_eq_div_pow]
  obtain ⟨k, rfl⟩ := Nat.exists_eq_add_of_le h
  have h1 : w % 2 ^ (lo + len + k) / 2 ^ lo = w / 2 ^ lo % 2 ^ (len + k) := by
    rw [show lo + len + k = lo + (len + k) by ring, pow_add, Nat.mod_mul_right_div_self]
  rw [h1, pow_add, Nat.mod_mul_right_mod]

theorem withBits_split (w lo len v : Nat) :
    withBits w lo len v = w % 2 ^ lo + 2 ^ lo * (v % 2 ^ len + 2 ^ len * (w / 2 ^ (lo + len))) := by
  unfold withBits bitsOf
  simp only [Nat.shiftRight_eq_div_pow]
  have h0 := Nat.div_add_mod w (2 ^ lo)
  have h1 := Nat.div_add_mod (w / 2 ^ lo) (2 ^ len)
  rw [Nat.div_div_eq_div_mul, ← pow_add] at h1
  have h2 : w = 2 ^ lo * (2 ^ len * (w / 2 ^ (lo + len)) + w / 2 ^ lo % 2 ^ len) + w % 2 ^ lo := by rw [h1, h0]
  have h3 : w - w / 2 ^ lo % 2 ^ len * 2 ^ lo = 2 ^ lo * (2 ^ len * (w / 2 ^ (lo + len))) + w % 2 ^ lo := by
    have : w / 2 ^ lo % 2 ^ len * 2 ^ lo ≤ w := by
      calc w / 2 ^ lo % 2 ^ len * 2 ^ lo ≤ w / 2 ^ lo * 2 ^ lo := Nat.mul_le_mul_right _ (Nat.mod_le _ _)
        _ ≤ w := Nat.div_mul_le_self _ _
    have h4 : w = (2 ^ lo * (2 ^ len * (w / 2 ^ (lo + len))) + w % 2 ^ lo) + w / 2 ^ lo % 2 ^ len * 2 ^ lo := by
      conv_lhs => rw [h2]
      ring
    exact Nat.sub_eq_of_eq_add h4
  rw [h3]
  ring

/-- A field set reads back what was put, cut to its width. -/
@[simp] theorem bitsOf_withBits (w lo len v : Nat) : bitsOf (withBits w lo len v) lo len = v % 2 ^ len := by
  rw [withBits_split]
  unfold bitsOf
  simp only [Nat.shiftRight_eq_div_pow]
  rw [Nat.add_mul_div_left _ _ (by positivity : 0 < 2 ^ lo), Nat.div_eq_of_lt (Nat.mod_lt _ (by positivity)), zero_add,
    Nat.add_mul_mod_self_left, Nat.mod_mod]

/-- Setting a field leaves the fields below it. -/
theorem bitsOf_withBits_below (w lo len v lo' len' : Nat) (h : lo' + len' ≤ lo) :
    bitsOf (withBits w lo len v) lo' len' = bitsOf w lo' len' := by
  have key : withBits w lo len v % 2 ^ lo = w % 2 ^ lo := by
    rw [withBits_split, Nat.add_mul_mod_self_left, Nat.mod_mod]
  rw [← bitsOf_mod _ lo' len' lo h, key, bitsOf_mod _ lo' len' lo h]

/-- Setting a field leaves the fields above it. -/
theorem bitsOf_withBits_above (w lo len v lo' len' : Nat) (h : lo + len ≤ lo') :
    bitsOf (withBits w lo len v) lo' len' = bitsOf w lo' len' := by
  have key : withBits w lo len v / 2 ^ (lo + len) = w / 2 ^ (lo + len) := by
    rw [withBits_split, pow_add, ← Nat.div_div_eq_div_mul]
    rw [Nat.add_mul_div_left _ _ (by positivity : 0 < 2 ^ lo), Nat.div_eq_of_lt (Nat.mod_lt _ (by positivity)), zero_add,
      Nat.add_mul_div_left _ _ (by positivity : 0 < 2 ^ len), Nat.div_eq_of_lt (Nat.mod_lt _ (by positivity)), zero_add]
  obtain ⟨k, rfl⟩ := Nat.exists_eq_add_of_le h
  unfold bitsOf
  simp only [Nat.shiftRight_eq_div_pow]
  rw [show (2 : Nat) ^ (lo + len + k) = 2 ^ (lo + len) * 2 ^ k from pow_add _ _ _, ← Nat.div_div_eq_div_mul, ← Nat.div_div_eq_div_mul, key]

theorem b2n_le (b : Bool) : b2n b ≤ 1 := by cases b <;> simp [b2n]

@[simp] theorem b2n_true : b2n true = 1 := rfl

@[simp] theorem b2n_false : b2n false = 0 := rfl

theorem clampNat_mem (lo hi n : Nat) (h : lo ≤ hi) : lo ≤ clampNat lo hi n ∧ clampNat lo hi n ≤ hi := by
  unfold clampNat; omega

theorem clampNat_id (lo hi n : Nat) (h1 : lo ≤ n) (h2 : n ≤ hi) : clampNat lo hi n = n := by
  unfold clampNat; omega

end Sys2Proof
end

