-- ==== Sys2Proof/Laws/State.lean ====
section
/-! SUPPORT. Sys2Proof/Laws/State.lean: what each update of the device leaves, a lemma a field, and what it sets. -/

namespace Sys2Proof.Machine

/-! ## emit -/

@[simp] theorem Dev.emit_grade (d : Dev) (o : Out) : (d.emit o).grade = d.grade := rfl
@[simp] theorem Dev.emit_regs (d : Dev) (o : Out) : (d.emit o).regs = d.regs := rfl
@[simp] theorem Dev.emit_store (d : Dev) (o : Out) : (d.emit o).store = d.store := rfl
@[simp] theorem Dev.emit_dirty (d : Dev) (o : Out) : (d.emit o).dirty = d.dirty := rfl
@[simp] theorem Dev.emit_fn (d : Dev) (o : Out) : (d.emit o).fn = d.fn := rfl
@[simp] theorem Dev.emit_glb (d : Dev) (o : Out) : (d.emit o).glb = d.glb := rfl
@[simp] theorem Dev.emit_tim (d : Dev) (o : Out) : (d.emit o).tim = d.tim := rfl
@[simp] theorem Dev.emit_rng (d : Dev) (o : Out) : (d.emit o).rng = d.rng := rfl
@[simp] theorem Dev.emit_lne (d : Dev) (o : Out) : (d.emit o).lne = d.lne := rfl
@[simp] theorem Dev.emit_evr (d : Dev) (o : Out) : (d.emit o).evr = d.evr := rfl
@[simp] theorem Dev.emit_flt (d : Dev) (o : Out) : (d.emit o).flt = d.flt := rfl
@[simp] theorem Dev.emit_ctx (d : Dev) (o : Out) : (d.emit o).ctx = d.ctx := rfl
@[simp] theorem Dev.emit_tar (d : Dev) (o : Out) : (d.emit o).tar = d.tar := rfl
@[simp] theorem Dev.emit_par (d : Dev) (o : Out) : (d.emit o).par = d.par := rfl
@[simp] theorem Dev.emit_ftl (d : Dev) (o : Out) : (d.emit o).ftl = d.ftl := rfl
@[simp] theorem Dev.emit_nand (d : Dev) (o : Out) : (d.emit o).nand = d.nand := rfl
@[simp] theorem Dev.emit_sec (d : Dev) (o : Out) : (d.emit o).sec = d.sec := rfl
@[simp] theorem Dev.emit_sch (d : Dev) (o : Out) : (d.emit o).sch = d.sch := rfl
@[simp] theorem Dev.emit_img (d : Dev) (o : Out) : (d.emit o).img = d.img := rfl
@[simp] theorem Dev.emit_lcp (d : Dev) (o : Out) : (d.emit o).lcp = d.lcp := rfl
@[simp] theorem Dev.emit_rad (d : Dev) (o : Out) : (d.emit o).rad = d.rad := rfl
@[simp] theorem Dev.emit_cals (d : Dev) (o : Out) : (d.emit o).cals = d.cals := rfl
@[simp] theorem Dev.emit_ldg (d : Dev) (o : Out) : (d.emit o).ldg = d.ldg := rfl
@[simp] theorem Dev.emit_met (d : Dev) (o : Out) : (d.emit o).met = d.met := rfl
@[simp] theorem Dev.emit_eth (d : Dev) (o : Out) : (d.emit o).eth = d.eth := rfl
@[simp] theorem Dev.emit_fl (d : Dev) (o : Out) : (d.emit o).fl = d.fl := rfl
@[simp] theorem Dev.emit_upd (d : Dev) (o : Out) : (d.emit o).upd = d.upd := rfl
@[simp] theorem Dev.emit_freeCtr (d : Dev) (o : Out) : (d.emit o).freeCtr = d.freeCtr := rfl

/-! ## setWord -/

@[simp] theorem Dev.setWord_grade (d : Dev) (off v : Nat) : (d.setWord off v).grade = d.grade := rfl
@[simp] theorem Dev.setWord_store (d : Dev) (off v : Nat) : (d.setWord off v).store = d.store := rfl
@[simp] theorem Dev.setWord_dirty (d : Dev) (off v : Nat) : (d.setWord off v).dirty = d.dirty := rfl
@[simp] theorem Dev.setWord_fn (d : Dev) (off v : Nat) : (d.setWord off v).fn = d.fn := rfl
@[simp] theorem Dev.setWord_glb (d : Dev) (off v : Nat) : (d.setWord off v).glb = d.glb := rfl
@[simp] theorem Dev.setWord_tim (d : Dev) (off v : Nat) : (d.setWord off v).tim = d.tim := rfl
@[simp] theorem Dev.setWord_rng (d : Dev) (off v : Nat) : (d.setWord off v).rng = d.rng := rfl
@[simp] theorem Dev.setWord_lne (d : Dev) (off v : Nat) : (d.setWord off v).lne = d.lne := rfl
@[simp] theorem Dev.setWord_evr (d : Dev) (off v : Nat) : (d.setWord off v).evr = d.evr := rfl
@[simp] theorem Dev.setWord_flt (d : Dev) (off v : Nat) : (d.setWord off v).flt = d.flt := rfl
@[simp] theorem Dev.setWord_ctx (d : Dev) (off v : Nat) : (d.setWord off v).ctx = d.ctx := rfl
@[simp] theorem Dev.setWord_tar (d : Dev) (off v : Nat) : (d.setWord off v).tar = d.tar := rfl
@[simp] theorem Dev.setWord_par (d : Dev) (off v : Nat) : (d.setWord off v).par = d.par := rfl
@[simp] theorem Dev.setWord_ftl (d : Dev) (off v : Nat) : (d.setWord off v).ftl = d.ftl := rfl
@[simp] theorem Dev.setWord_nand (d : Dev) (off v : Nat) : (d.setWord off v).nand = d.nand := rfl
@[simp] theorem Dev.setWord_sec (d : Dev) (off v : Nat) : (d.setWord off v).sec = d.sec := rfl
@[simp] theorem Dev.setWord_sch (d : Dev) (off v : Nat) : (d.setWord off v).sch = d.sch := rfl
@[simp] theorem Dev.setWord_img (d : Dev) (off v : Nat) : (d.setWord off v).img = d.img := rfl
@[simp] theorem Dev.setWord_lcp (d : Dev) (off v : Nat) : (d.setWord off v).lcp = d.lcp := rfl
@[simp] theorem Dev.setWord_rad (d : Dev) (off v : Nat) : (d.setWord off v).rad = d.rad := rfl
@[simp] theorem Dev.setWord_cals (d : Dev) (off v : Nat) : (d.setWord off v).cals = d.cals := rfl
@[simp] theorem Dev.setWord_ldg (d : Dev) (off v : Nat) : (d.setWord off v).ldg = d.ldg := rfl
@[simp] theorem Dev.setWord_met (d : Dev) (off v : Nat) : (d.setWord off v).met = d.met := rfl
@[simp] theorem Dev.setWord_eth (d : Dev) (off v : Nat) : (d.setWord off v).eth = d.eth := rfl
@[simp] theorem Dev.setWord_fl (d : Dev) (off v : Nat) : (d.setWord off v).fl = d.fl := rfl
@[simp] theorem Dev.setWord_upd (d : Dev) (off v : Nat) : (d.setWord off v).upd = d.upd := rfl
@[simp] theorem Dev.setWord_freeCtr (d : Dev) (off v : Nat) : (d.setWord off v).freeCtr = d.freeCtr := rfl
@[simp] theorem Dev.setWord_out (d : Dev) (off v : Nat) : (d.setWord off v).out = d.out := rfl

/-! ## wr -/

@[simp] theorem Dev.wr_grade (d : Dev) (f : F) (i v : Nat) : (d.wr f i v).grade = d.grade := rfl
@[simp] theorem Dev.wr_store (d : Dev) (f : F) (i v : Nat) : (d.wr f i v).store = d.store := rfl
@[simp] theorem Dev.wr_dirty (d : Dev) (f : F) (i v : Nat) : (d.wr f i v).dirty = d.dirty := rfl
@[simp] theorem Dev.wr_fn (d : Dev) (f : F) (i v : Nat) : (d.wr f i v).fn = d.fn := rfl
@[simp] theorem Dev.wr_glb (d : Dev) (f : F) (i v : Nat) : (d.wr f i v).glb = d.glb := rfl
@[simp] theorem Dev.wr_tim (d : Dev) (f : F) (i v : Nat) : (d.wr f i v).tim = d.tim := rfl
@[simp] theorem Dev.wr_rng (d : Dev) (f : F) (i v : Nat) : (d.wr f i v).rng = d.rng := rfl
@[simp] theorem Dev.wr_lne (d : Dev) (f : F) (i v : Nat) : (d.wr f i v).lne = d.lne := rfl
@[simp] theorem Dev.wr_evr (d : Dev) (f : F) (i v : Nat) : (d.wr f i v).evr = d.evr := rfl
@[simp] theorem Dev.wr_flt (d : Dev) (f : F) (i v : Nat) : (d.wr f i v).flt = d.flt := rfl
@[simp] theorem Dev.wr_ctx (d : Dev) (f : F) (i v : Nat) : (d.wr f i v).ctx = d.ctx := rfl
@[simp] theorem Dev.wr_tar (d : Dev) (f : F) (i v : Nat) : (d.wr f i v).tar = d.tar := rfl
@[simp] theorem Dev.wr_par (d : Dev) (f : F) (i v : Nat) : (d.wr f i v).par = d.par := rfl
@[simp] theorem Dev.wr_ftl (d : Dev) (f : F) (i v : Nat) : (d.wr f i v).ftl = d.ftl := rfl
@[simp] theorem Dev.wr_nand (d : Dev) (f : F) (i v : Nat) : (d.wr f i v).nand = d.nand := rfl
@[simp] theorem Dev.wr_sec (d : Dev) (f : F) (i v : Nat) : (d.wr f i v).sec = d.sec := rfl
@[simp] theorem Dev.wr_sch (d : Dev) (f : F) (i v : Nat) : (d.wr f i v).sch = d.sch := rfl
@[simp] theorem Dev.wr_img (d : Dev) (f : F) (i v : Nat) : (d.wr f i v).img = d.img := rfl
@[simp] theorem Dev.wr_lcp (d : Dev) (f : F) (i v : Nat) : (d.wr f i v).lcp = d.lcp := rfl
@[simp] theorem Dev.wr_rad (d : Dev) (f : F) (i v : Nat) : (d.wr f i v).rad = d.rad := rfl
@[simp] theorem Dev.wr_cals (d : Dev) (f : F) (i v : Nat) : (d.wr f i v).cals = d.cals := rfl
@[simp] theorem Dev.wr_ldg (d : Dev) (f : F) (i v : Nat) : (d.wr f i v).ldg = d.ldg := rfl
@[simp] theorem Dev.wr_met (d : Dev) (f : F) (i v : Nat) : (d.wr f i v).met = d.met := rfl
@[simp] theorem Dev.wr_eth (d : Dev) (f : F) (i v : Nat) : (d.wr f i v).eth = d.eth := rfl
@[simp] theorem Dev.wr_fl (d : Dev) (f : F) (i v : Nat) : (d.wr f i v).fl = d.fl := rfl
@[simp] theorem Dev.wr_upd (d : Dev) (f : F) (i v : Nat) : (d.wr f i v).upd = d.upd := rfl
@[simp] theorem Dev.wr_freeCtr (d : Dev) (f : F) (i v : Nat) : (d.wr f i v).freeCtr = d.freeCtr := rfl
@[simp] theorem Dev.wr_out (d : Dev) (f : F) (i v : Nat) : (d.wr f i v).out = d.out := rfl

/-! ## wrb -/

@[simp] theorem Dev.wrb_grade (d : Dev) (f : F) (i : Nat) (b : Bool) : (d.wrb f i b).grade = d.grade := rfl
@[simp] theorem Dev.wrb_store (d : Dev) (f : F) (i : Nat) (b : Bool) : (d.wrb f i b).store = d.store := rfl
@[simp] theorem Dev.wrb_dirty (d : Dev) (f : F) (i : Nat) (b : Bool) : (d.wrb f i b).dirty = d.dirty := rfl
@[simp] theorem Dev.wrb_fn (d : Dev) (f : F) (i : Nat) (b : Bool) : (d.wrb f i b).fn = d.fn := rfl
@[simp] theorem Dev.wrb_glb (d : Dev) (f : F) (i : Nat) (b : Bool) : (d.wrb f i b).glb = d.glb := rfl
@[simp] theorem Dev.wrb_tim (d : Dev) (f : F) (i : Nat) (b : Bool) : (d.wrb f i b).tim = d.tim := rfl
@[simp] theorem Dev.wrb_rng (d : Dev) (f : F) (i : Nat) (b : Bool) : (d.wrb f i b).rng = d.rng := rfl
@[simp] theorem Dev.wrb_lne (d : Dev) (f : F) (i : Nat) (b : Bool) : (d.wrb f i b).lne = d.lne := rfl
@[simp] theorem Dev.wrb_evr (d : Dev) (f : F) (i : Nat) (b : Bool) : (d.wrb f i b).evr = d.evr := rfl
@[simp] theorem Dev.wrb_flt (d : Dev) (f : F) (i : Nat) (b : Bool) : (d.wrb f i b).flt = d.flt := rfl
@[simp] theorem Dev.wrb_ctx (d : Dev) (f : F) (i : Nat) (b : Bool) : (d.wrb f i b).ctx = d.ctx := rfl
@[simp] theorem Dev.wrb_tar (d : Dev) (f : F) (i : Nat) (b : Bool) : (d.wrb f i b).tar = d.tar := rfl
@[simp] theorem Dev.wrb_par (d : Dev) (f : F) (i : Nat) (b : Bool) : (d.wrb f i b).par = d.par := rfl
@[simp] theorem Dev.wrb_ftl (d : Dev) (f : F) (i : Nat) (b : Bool) : (d.wrb f i b).ftl = d.ftl := rfl
@[simp] theorem Dev.wrb_nand (d : Dev) (f : F) (i : Nat) (b : Bool) : (d.wrb f i b).nand = d.nand := rfl
@[simp] theorem Dev.wrb_sec (d : Dev) (f : F) (i : Nat) (b : Bool) : (d.wrb f i b).sec = d.sec := rfl
@[simp] theorem Dev.wrb_sch (d : Dev) (f : F) (i : Nat) (b : Bool) : (d.wrb f i b).sch = d.sch := rfl
@[simp] theorem Dev.wrb_img (d : Dev) (f : F) (i : Nat) (b : Bool) : (d.wrb f i b).img = d.img := rfl
@[simp] theorem Dev.wrb_lcp (d : Dev) (f : F) (i : Nat) (b : Bool) : (d.wrb f i b).lcp = d.lcp := rfl
@[simp] theorem Dev.wrb_rad (d : Dev) (f : F) (i : Nat) (b : Bool) : (d.wrb f i b).rad = d.rad := rfl
@[simp] theorem Dev.wrb_cals (d : Dev) (f : F) (i : Nat) (b : Bool) : (d.wrb f i b).cals = d.cals := rfl
@[simp] theorem Dev.wrb_ldg (d : Dev) (f : F) (i : Nat) (b : Bool) : (d.wrb f i b).ldg = d.ldg := rfl
@[simp] theorem Dev.wrb_met (d : Dev) (f : F) (i : Nat) (b : Bool) : (d.wrb f i b).met = d.met := rfl
@[simp] theorem Dev.wrb_eth (d : Dev) (f : F) (i : Nat) (b : Bool) : (d.wrb f i b).eth = d.eth := rfl
@[simp] theorem Dev.wrb_fl (d : Dev) (f : F) (i : Nat) (b : Bool) : (d.wrb f i b).fl = d.fl := rfl
@[simp] theorem Dev.wrb_upd (d : Dev) (f : F) (i : Nat) (b : Bool) : (d.wrb f i b).upd = d.upd := rfl
@[simp] theorem Dev.wrb_freeCtr (d : Dev) (f : F) (i : Nat) (b : Bool) : (d.wrb f i b).freeCtr = d.freeCtr := rfl
@[simp] theorem Dev.wrb_out (d : Dev) (f : F) (i : Nat) (b : Bool) : (d.wrb f i b).out = d.out := rfl

/-! ## bump -/

@[simp] theorem Dev.bump_grade (d : Dev) (f : F) (i n : Nat) : (d.bump f i n).grade = d.grade := rfl
@[simp] theorem Dev.bump_store (d : Dev) (f : F) (i n : Nat) : (d.bump f i n).store = d.store := rfl
@[simp] theorem Dev.bump_dirty (d : Dev) (f : F) (i n : Nat) : (d.bump f i n).dirty = d.dirty := rfl
@[simp] theorem Dev.bump_fn (d : Dev) (f : F) (i n : Nat) : (d.bump f i n).fn = d.fn := rfl
@[simp] theorem Dev.bump_glb (d : Dev) (f : F) (i n : Nat) : (d.bump f i n).glb = d.glb := rfl
@[simp] theorem Dev.bump_tim (d : Dev) (f : F) (i n : Nat) : (d.bump f i n).tim = d.tim := rfl
@[simp] theorem Dev.bump_rng (d : Dev) (f : F) (i n : Nat) : (d.bump f i n).rng = d.rng := rfl
@[simp] theorem Dev.bump_lne (d : Dev) (f : F) (i n : Nat) : (d.bump f i n).lne = d.lne := rfl
@[simp] theorem Dev.bump_evr (d : Dev) (f : F) (i n : Nat) : (d.bump f i n).evr = d.evr := rfl
@[simp] theorem Dev.bump_flt (d : Dev) (f : F) (i n : Nat) : (d.bump f i n).flt = d.flt := rfl
@[simp] theorem Dev.bump_ctx (d : Dev) (f : F) (i n : Nat) : (d.bump f i n).ctx = d.ctx := rfl
@[simp] theorem Dev.bump_tar (d : Dev) (f : F) (i n : Nat) : (d.bump f i n).tar = d.tar := rfl
@[simp] theorem Dev.bump_par (d : Dev) (f : F) (i n : Nat) : (d.bump f i n).par = d.par := rfl
@[simp] theorem Dev.bump_ftl (d : Dev) (f : F) (i n : Nat) : (d.bump f i n).ftl = d.ftl := rfl
@[simp] theorem Dev.bump_nand (d : Dev) (f : F) (i n : Nat) : (d.bump f i n).nand = d.nand := rfl
@[simp] theorem Dev.bump_sec (d : Dev) (f : F) (i n : Nat) : (d.bump f i n).sec = d.sec := rfl
@[simp] theorem Dev.bump_sch (d : Dev) (f : F) (i n : Nat) : (d.bump f i n).sch = d.sch := rfl
@[simp] theorem Dev.bump_img (d : Dev) (f : F) (i n : Nat) : (d.bump f i n).img = d.img := rfl
@[simp] theorem Dev.bump_lcp (d : Dev) (f : F) (i n : Nat) : (d.bump f i n).lcp = d.lcp := rfl
@[simp] theorem Dev.bump_rad (d : Dev) (f : F) (i n : Nat) : (d.bump f i n).rad = d.rad := rfl
@[simp] theorem Dev.bump_cals (d : Dev) (f : F) (i n : Nat) : (d.bump f i n).cals = d.cals := rfl
@[simp] theorem Dev.bump_ldg (d : Dev) (f : F) (i n : Nat) : (d.bump f i n).ldg = d.ldg := rfl
@[simp] theorem Dev.bump_met (d : Dev) (f : F) (i n : Nat) : (d.bump f i n).met = d.met := rfl
@[simp] theorem Dev.bump_eth (d : Dev) (f : F) (i n : Nat) : (d.bump f i n).eth = d.eth := rfl
@[simp] theorem Dev.bump_fl (d : Dev) (f : F) (i n : Nat) : (d.bump f i n).fl = d.fl := rfl
@[simp] theorem Dev.bump_upd (d : Dev) (f : F) (i n : Nat) : (d.bump f i n).upd = d.upd := rfl
@[simp] theorem Dev.bump_freeCtr (d : Dev) (f : F) (i n : Nat) : (d.bump f i n).freeCtr = d.freeCtr := rfl
@[simp] theorem Dev.bump_out (d : Dev) (f : F) (i n : Nat) : (d.bump f i n).out = d.out := rfl

/-! ## bumpW -/

@[simp] theorem Dev.bumpW_grade (d : Dev) (f : F) (i n : Nat) : (d.bumpW f i n).grade = d.grade := rfl
@[simp] theorem Dev.bumpW_store (d : Dev) (f : F) (i n : Nat) : (d.bumpW f i n).store = d.store := rfl
@[simp] theorem Dev.bumpW_dirty (d : Dev) (f : F) (i n : Nat) : (d.bumpW f i n).dirty = d.dirty := rfl
@[simp] theorem Dev.bumpW_fn (d : Dev) (f : F) (i n : Nat) : (d.bumpW f i n).fn = d.fn := rfl
@[simp] theorem Dev.bumpW_glb (d : Dev) (f : F) (i n : Nat) : (d.bumpW f i n).glb = d.glb := rfl
@[simp] theorem Dev.bumpW_tim (d : Dev) (f : F) (i n : Nat) : (d.bumpW f i n).tim = d.tim := rfl
@[simp] theorem Dev.bumpW_rng (d : Dev) (f : F) (i n : Nat) : (d.bumpW f i n).rng = d.rng := rfl
@[simp] theorem Dev.bumpW_lne (d : Dev) (f : F) (i n : Nat) : (d.bumpW f i n).lne = d.lne := rfl
@[simp] theorem Dev.bumpW_evr (d : Dev) (f : F) (i n : Nat) : (d.bumpW f i n).evr = d.evr := rfl
@[simp] theorem Dev.bumpW_flt (d : Dev) (f : F) (i n : Nat) : (d.bumpW f i n).flt = d.flt := rfl
@[simp] theorem Dev.bumpW_ctx (d : Dev) (f : F) (i n : Nat) : (d.bumpW f i n).ctx = d.ctx := rfl
@[simp] theorem Dev.bumpW_tar (d : Dev) (f : F) (i n : Nat) : (d.bumpW f i n).tar = d.tar := rfl
@[simp] theorem Dev.bumpW_par (d : Dev) (f : F) (i n : Nat) : (d.bumpW f i n).par = d.par := rfl
@[simp] theorem Dev.bumpW_ftl (d : Dev) (f : F) (i n : Nat) : (d.bumpW f i n).ftl = d.ftl := rfl
@[simp] theorem Dev.bumpW_nand (d : Dev) (f : F) (i n : Nat) : (d.bumpW f i n).nand = d.nand := rfl
@[simp] theorem Dev.bumpW_sec (d : Dev) (f : F) (i n : Nat) : (d.bumpW f i n).sec = d.sec := rfl
@[simp] theorem Dev.bumpW_sch (d : Dev) (f : F) (i n : Nat) : (d.bumpW f i n).sch = d.sch := rfl
@[simp] theorem Dev.bumpW_img (d : Dev) (f : F) (i n : Nat) : (d.bumpW f i n).img = d.img := rfl
@[simp] theorem Dev.bumpW_lcp (d : Dev) (f : F) (i n : Nat) : (d.bumpW f i n).lcp = d.lcp := rfl
@[simp] theorem Dev.bumpW_rad (d : Dev) (f : F) (i n : Nat) : (d.bumpW f i n).rad = d.rad := rfl
@[simp] theorem Dev.bumpW_cals (d : Dev) (f : F) (i n : Nat) : (d.bumpW f i n).cals = d.cals := rfl
@[simp] theorem Dev.bumpW_ldg (d : Dev) (f : F) (i n : Nat) : (d.bumpW f i n).ldg = d.ldg := rfl
@[simp] theorem Dev.bumpW_met (d : Dev) (f : F) (i n : Nat) : (d.bumpW f i n).met = d.met := rfl
@[simp] theorem Dev.bumpW_eth (d : Dev) (f : F) (i n : Nat) : (d.bumpW f i n).eth = d.eth := rfl
@[simp] theorem Dev.bumpW_fl (d : Dev) (f : F) (i n : Nat) : (d.bumpW f i n).fl = d.fl := rfl
@[simp] theorem Dev.bumpW_upd (d : Dev) (f : F) (i n : Nat) : (d.bumpW f i n).upd = d.upd := rfl
@[simp] theorem Dev.bumpW_freeCtr (d : Dev) (f : F) (i n : Nat) : (d.bumpW f i n).freeCtr = d.freeCtr := rfl
@[simp] theorem Dev.bumpW_out (d : Dev) (f : F) (i n : Nat) : (d.bumpW f i n).out = d.out := rfl

/-! ## touch -/

@[simp] theorem Dev.touch_grade (d : Dev) (off : Nat) : (d.touch off).grade = d.grade := rfl
@[simp] theorem Dev.touch_regs (d : Dev) (off : Nat) : (d.touch off).regs = d.regs := rfl
@[simp] theorem Dev.touch_store (d : Dev) (off : Nat) : (d.touch off).store = d.store := rfl
@[simp] theorem Dev.touch_fn (d : Dev) (off : Nat) : (d.touch off).fn = d.fn := rfl
@[simp] theorem Dev.touch_glb (d : Dev) (off : Nat) : (d.touch off).glb = d.glb := rfl
@[simp] theorem Dev.touch_tim (d : Dev) (off : Nat) : (d.touch off).tim = d.tim := rfl
@[simp] theorem Dev.touch_rng (d : Dev) (off : Nat) : (d.touch off).rng = d.rng := rfl
@[simp] theorem Dev.touch_lne (d : Dev) (off : Nat) : (d.touch off).lne = d.lne := rfl
@[simp] theorem Dev.touch_evr (d : Dev) (off : Nat) : (d.touch off).evr = d.evr := rfl
@[simp] theorem Dev.touch_flt (d : Dev) (off : Nat) : (d.touch off).flt = d.flt := rfl
@[simp] theorem Dev.touch_ctx (d : Dev) (off : Nat) : (d.touch off).ctx = d.ctx := rfl
@[simp] theorem Dev.touch_tar (d : Dev) (off : Nat) : (d.touch off).tar = d.tar := rfl
@[simp] theorem Dev.touch_par (d : Dev) (off : Nat) : (d.touch off).par = d.par := rfl
@[simp] theorem Dev.touch_ftl (d : Dev) (off : Nat) : (d.touch off).ftl = d.ftl := rfl
@[simp] theorem Dev.touch_nand (d : Dev) (off : Nat) : (d.touch off).nand = d.nand := rfl
@[simp] theorem Dev.touch_sec (d : Dev) (off : Nat) : (d.touch off).sec = d.sec := rfl
@[simp] theorem Dev.touch_sch (d : Dev) (off : Nat) : (d.touch off).sch = d.sch := rfl
@[simp] theorem Dev.touch_img (d : Dev) (off : Nat) : (d.touch off).img = d.img := rfl
@[simp] theorem Dev.touch_lcp (d : Dev) (off : Nat) : (d.touch off).lcp = d.lcp := rfl
@[simp] theorem Dev.touch_rad (d : Dev) (off : Nat) : (d.touch off).rad = d.rad := rfl
@[simp] theorem Dev.touch_cals (d : Dev) (off : Nat) : (d.touch off).cals = d.cals := rfl
@[simp] theorem Dev.touch_ldg (d : Dev) (off : Nat) : (d.touch off).ldg = d.ldg := rfl
@[simp] theorem Dev.touch_met (d : Dev) (off : Nat) : (d.touch off).met = d.met := rfl
@[simp] theorem Dev.touch_eth (d : Dev) (off : Nat) : (d.touch off).eth = d.eth := rfl
@[simp] theorem Dev.touch_fl (d : Dev) (off : Nat) : (d.touch off).fl = d.fl := rfl
@[simp] theorem Dev.touch_upd (d : Dev) (off : Nat) : (d.touch off).upd = d.upd := rfl
@[simp] theorem Dev.touch_freeCtr (d : Dev) (off : Nat) : (d.touch off).freeCtr = d.freeCtr := rfl
@[simp] theorem Dev.touch_out (d : Dev) (off : Nat) : (d.touch off).out = d.out := rfl

/-! ## setFn -/

@[simp] theorem Dev.setFn_grade (d : Dev) (fix : Nat) (f : Fn) : (d.setFn fix f).grade = d.grade := rfl
@[simp] theorem Dev.setFn_regs (d : Dev) (fix : Nat) (f : Fn) : (d.setFn fix f).regs = d.regs := rfl
@[simp] theorem Dev.setFn_store (d : Dev) (fix : Nat) (f : Fn) : (d.setFn fix f).store = d.store := rfl
@[simp] theorem Dev.setFn_dirty (d : Dev) (fix : Nat) (f : Fn) : (d.setFn fix f).dirty = d.dirty := rfl
@[simp] theorem Dev.setFn_glb (d : Dev) (fix : Nat) (f : Fn) : (d.setFn fix f).glb = d.glb := rfl
@[simp] theorem Dev.setFn_tim (d : Dev) (fix : Nat) (f : Fn) : (d.setFn fix f).tim = d.tim := rfl
@[simp] theorem Dev.setFn_rng (d : Dev) (fix : Nat) (f : Fn) : (d.setFn fix f).rng = d.rng := rfl
@[simp] theorem Dev.setFn_lne (d : Dev) (fix : Nat) (f : Fn) : (d.setFn fix f).lne = d.lne := rfl
@[simp] theorem Dev.setFn_evr (d : Dev) (fix : Nat) (f : Fn) : (d.setFn fix f).evr = d.evr := rfl
@[simp] theorem Dev.setFn_flt (d : Dev) (fix : Nat) (f : Fn) : (d.setFn fix f).flt = d.flt := rfl
@[simp] theorem Dev.setFn_ctx (d : Dev) (fix : Nat) (f : Fn) : (d.setFn fix f).ctx = d.ctx := rfl
@[simp] theorem Dev.setFn_tar (d : Dev) (fix : Nat) (f : Fn) : (d.setFn fix f).tar = d.tar := rfl
@[simp] theorem Dev.setFn_par (d : Dev) (fix : Nat) (f : Fn) : (d.setFn fix f).par = d.par := rfl
@[simp] theorem Dev.setFn_ftl (d : Dev) (fix : Nat) (f : Fn) : (d.setFn fix f).ftl = d.ftl := rfl
@[simp] theorem Dev.setFn_nand (d : Dev) (fix : Nat) (f : Fn) : (d.setFn fix f).nand = d.nand := rfl
@[simp] theorem Dev.setFn_sec (d : Dev) (fix : Nat) (f : Fn) : (d.setFn fix f).sec = d.sec := rfl
@[simp] theorem Dev.setFn_sch (d : Dev) (fix : Nat) (f : Fn) : (d.setFn fix f).sch = d.sch := rfl
@[simp] theorem Dev.setFn_img (d : Dev) (fix : Nat) (f : Fn) : (d.setFn fix f).img = d.img := rfl
@[simp] theorem Dev.setFn_lcp (d : Dev) (fix : Nat) (f : Fn) : (d.setFn fix f).lcp = d.lcp := rfl
@[simp] theorem Dev.setFn_rad (d : Dev) (fix : Nat) (f : Fn) : (d.setFn fix f).rad = d.rad := rfl
@[simp] theorem Dev.setFn_cals (d : Dev) (fix : Nat) (f : Fn) : (d.setFn fix f).cals = d.cals := rfl
@[simp] theorem Dev.setFn_ldg (d : Dev) (fix : Nat) (f : Fn) : (d.setFn fix f).ldg = d.ldg := rfl
@[simp] theorem Dev.setFn_met (d : Dev) (fix : Nat) (f : Fn) : (d.setFn fix f).met = d.met := rfl
@[simp] theorem Dev.setFn_eth (d : Dev) (fix : Nat) (f : Fn) : (d.setFn fix f).eth = d.eth := rfl
@[simp] theorem Dev.setFn_fl (d : Dev) (fix : Nat) (f : Fn) : (d.setFn fix f).fl = d.fl := rfl
@[simp] theorem Dev.setFn_upd (d : Dev) (fix : Nat) (f : Fn) : (d.setFn fix f).upd = d.upd := rfl
@[simp] theorem Dev.setFn_freeCtr (d : Dev) (fix : Nat) (f : Fn) : (d.setFn fix f).freeCtr = d.freeCtr := rfl
@[simp] theorem Dev.setFn_out (d : Dev) (fix : Nat) (f : Fn) : (d.setFn fix f).out = d.out := rfl

/-! ## setLane -/

@[simp] theorem Dev.setLane_grade (d : Dev) (q : Nat) (l : Lane) : (d.setLane q l).grade = d.grade := rfl
@[simp] theorem Dev.setLane_regs (d : Dev) (q : Nat) (l : Lane) : (d.setLane q l).regs = d.regs := rfl
@[simp] theorem Dev.setLane_store (d : Dev) (q : Nat) (l : Lane) : (d.setLane q l).store = d.store := rfl
@[simp] theorem Dev.setLane_dirty (d : Dev) (q : Nat) (l : Lane) : (d.setLane q l).dirty = d.dirty := rfl
@[simp] theorem Dev.setLane_fn (d : Dev) (q : Nat) (l : Lane) : (d.setLane q l).fn = d.fn := rfl
@[simp] theorem Dev.setLane_glb (d : Dev) (q : Nat) (l : Lane) : (d.setLane q l).glb = d.glb := rfl
@[simp] theorem Dev.setLane_tim (d : Dev) (q : Nat) (l : Lane) : (d.setLane q l).tim = d.tim := rfl
@[simp] theorem Dev.setLane_rng (d : Dev) (q : Nat) (l : Lane) : (d.setLane q l).rng = d.rng := rfl
@[simp] theorem Dev.setLane_evr (d : Dev) (q : Nat) (l : Lane) : (d.setLane q l).evr = d.evr := rfl
@[simp] theorem Dev.setLane_flt (d : Dev) (q : Nat) (l : Lane) : (d.setLane q l).flt = d.flt := rfl
@[simp] theorem Dev.setLane_ctx (d : Dev) (q : Nat) (l : Lane) : (d.setLane q l).ctx = d.ctx := rfl
@[simp] theorem Dev.setLane_tar (d : Dev) (q : Nat) (l : Lane) : (d.setLane q l).tar = d.tar := rfl
@[simp] theorem Dev.setLane_par (d : Dev) (q : Nat) (l : Lane) : (d.setLane q l).par = d.par := rfl
@[simp] theorem Dev.setLane_ftl (d : Dev) (q : Nat) (l : Lane) : (d.setLane q l).ftl = d.ftl := rfl
@[simp] theorem Dev.setLane_nand (d : Dev) (q : Nat) (l : Lane) : (d.setLane q l).nand = d.nand := rfl
@[simp] theorem Dev.setLane_sec (d : Dev) (q : Nat) (l : Lane) : (d.setLane q l).sec = d.sec := rfl
@[simp] theorem Dev.setLane_sch (d : Dev) (q : Nat) (l : Lane) : (d.setLane q l).sch = d.sch := rfl
@[simp] theorem Dev.setLane_img (d : Dev) (q : Nat) (l : Lane) : (d.setLane q l).img = d.img := rfl
@[simp] theorem Dev.setLane_lcp (d : Dev) (q : Nat) (l : Lane) : (d.setLane q l).lcp = d.lcp := rfl
@[simp] theorem Dev.setLane_rad (d : Dev) (q : Nat) (l : Lane) : (d.setLane q l).rad = d.rad := rfl
@[simp] theorem Dev.setLane_cals (d : Dev) (q : Nat) (l : Lane) : (d.setLane q l).cals = d.cals := rfl
@[simp] theorem Dev.setLane_ldg (d : Dev) (q : Nat) (l : Lane) : (d.setLane q l).ldg = d.ldg := rfl
@[simp] theorem Dev.setLane_met (d : Dev) (q : Nat) (l : Lane) : (d.setLane q l).met = d.met := rfl
@[simp] theorem Dev.setLane_eth (d : Dev) (q : Nat) (l : Lane) : (d.setLane q l).eth = d.eth := rfl
@[simp] theorem Dev.setLane_fl (d : Dev) (q : Nat) (l : Lane) : (d.setLane q l).fl = d.fl := rfl
@[simp] theorem Dev.setLane_upd (d : Dev) (q : Nat) (l : Lane) : (d.setLane q l).upd = d.upd := rfl
@[simp] theorem Dev.setLane_freeCtr (d : Dev) (q : Nat) (l : Lane) : (d.setLane q l).freeCtr = d.freeCtr := rfl
@[simp] theorem Dev.setLane_out (d : Dev) (q : Nat) (l : Lane) : (d.setLane q l).out = d.out := rfl

/-! ## setPair -/

@[simp] theorem Dev.setPair_grade (d : Dev) (p : Nat) (x : Pair) : (d.setPair p x).grade = d.grade := rfl
@[simp] theorem Dev.setPair_regs (d : Dev) (p : Nat) (x : Pair) : (d.setPair p x).regs = d.regs := rfl
@[simp] theorem Dev.setPair_store (d : Dev) (p : Nat) (x : Pair) : (d.setPair p x).store = d.store := rfl
@[simp] theorem Dev.setPair_dirty (d : Dev) (p : Nat) (x : Pair) : (d.setPair p x).dirty = d.dirty := rfl
@[simp] theorem Dev.setPair_fn (d : Dev) (p : Nat) (x : Pair) : (d.setPair p x).fn = d.fn := rfl
@[simp] theorem Dev.setPair_glb (d : Dev) (p : Nat) (x : Pair) : (d.setPair p x).glb = d.glb := rfl
@[simp] theorem Dev.setPair_tim (d : Dev) (p : Nat) (x : Pair) : (d.setPair p x).tim = d.tim := rfl
@[simp] theorem Dev.setPair_lne (d : Dev) (p : Nat) (x : Pair) : (d.setPair p x).lne = d.lne := rfl
@[simp] theorem Dev.setPair_evr (d : Dev) (p : Nat) (x : Pair) : (d.setPair p x).evr = d.evr := rfl
@[simp] theorem Dev.setPair_flt (d : Dev) (p : Nat) (x : Pair) : (d.setPair p x).flt = d.flt := rfl
@[simp] theorem Dev.setPair_ctx (d : Dev) (p : Nat) (x : Pair) : (d.setPair p x).ctx = d.ctx := rfl
@[simp] theorem Dev.setPair_tar (d : Dev) (p : Nat) (x : Pair) : (d.setPair p x).tar = d.tar := rfl
@[simp] theorem Dev.setPair_par (d : Dev) (p : Nat) (x : Pair) : (d.setPair p x).par = d.par := rfl
@[simp] theorem Dev.setPair_ftl (d : Dev) (p : Nat) (x : Pair) : (d.setPair p x).ftl = d.ftl := rfl
@[simp] theorem Dev.setPair_nand (d : Dev) (p : Nat) (x : Pair) : (d.setPair p x).nand = d.nand := rfl
@[simp] theorem Dev.setPair_sec (d : Dev) (p : Nat) (x : Pair) : (d.setPair p x).sec = d.sec := rfl
@[simp] theorem Dev.setPair_sch (d : Dev) (p : Nat) (x : Pair) : (d.setPair p x).sch = d.sch := rfl
@[simp] theorem Dev.setPair_img (d : Dev) (p : Nat) (x : Pair) : (d.setPair p x).img = d.img := rfl
@[simp] theorem Dev.setPair_lcp (d : Dev) (p : Nat) (x : Pair) : (d.setPair p x).lcp = d.lcp := rfl
@[simp] theorem Dev.setPair_rad (d : Dev) (p : Nat) (x : Pair) : (d.setPair p x).rad = d.rad := rfl
@[simp] theorem Dev.setPair_cals (d : Dev) (p : Nat) (x : Pair) : (d.setPair p x).cals = d.cals := rfl
@[simp] theorem Dev.setPair_ldg (d : Dev) (p : Nat) (x : Pair) : (d.setPair p x).ldg = d.ldg := rfl
@[simp] theorem Dev.setPair_met (d : Dev) (p : Nat) (x : Pair) : (d.setPair p x).met = d.met := rfl
@[simp] theorem Dev.setPair_eth (d : Dev) (p : Nat) (x : Pair) : (d.setPair p x).eth = d.eth := rfl
@[simp] theorem Dev.setPair_fl (d : Dev) (p : Nat) (x : Pair) : (d.setPair p x).fl = d.fl := rfl
@[simp] theorem Dev.setPair_upd (d : Dev) (p : Nat) (x : Pair) : (d.setPair p x).upd = d.upd := rfl
@[simp] theorem Dev.setPair_freeCtr (d : Dev) (p : Nat) (x : Pair) : (d.setPair p x).freeCtr = d.freeCtr := rfl
@[simp] theorem Dev.setPair_out (d : Dev) (p : Nat) (x : Pair) : (d.setPair p x).out = d.out := rfl

/-! ## updPair -/

@[simp] theorem Dev.updPair_grade (d : Dev) (p : Nat) (f : Pair → Pair) : (d.updPair p f).grade = d.grade := rfl
@[simp] theorem Dev.updPair_regs (d : Dev) (p : Nat) (f : Pair → Pair) : (d.updPair p f).regs = d.regs := rfl
@[simp] theorem Dev.updPair_store (d : Dev) (p : Nat) (f : Pair → Pair) : (d.updPair p f).store = d.store := rfl
@[simp] theorem Dev.updPair_dirty (d : Dev) (p : Nat) (f : Pair → Pair) : (d.updPair p f).dirty = d.dirty := rfl
@[simp] theorem Dev.updPair_fn (d : Dev) (p : Nat) (f : Pair → Pair) : (d.updPair p f).fn = d.fn := rfl
@[simp] theorem Dev.updPair_glb (d : Dev) (p : Nat) (f : Pair → Pair) : (d.updPair p f).glb = d.glb := rfl
@[simp] theorem Dev.updPair_tim (d : Dev) (p : Nat) (f : Pair → Pair) : (d.updPair p f).tim = d.tim := rfl
@[simp] theorem Dev.updPair_lne (d : Dev) (p : Nat) (f : Pair → Pair) : (d.updPair p f).lne = d.lne := rfl
@[simp] theorem Dev.updPair_evr (d : Dev) (p : Nat) (f : Pair → Pair) : (d.updPair p f).evr = d.evr := rfl
@[simp] theorem Dev.updPair_flt (d : Dev) (p : Nat) (f : Pair → Pair) : (d.updPair p f).flt = d.flt := rfl
@[simp] theorem Dev.updPair_ctx (d : Dev) (p : Nat) (f : Pair → Pair) : (d.updPair p f).ctx = d.ctx := rfl
@[simp] theorem Dev.updPair_tar (d : Dev) (p : Nat) (f : Pair → Pair) : (d.updPair p f).tar = d.tar := rfl
@[simp] theorem Dev.updPair_par (d : Dev) (p : Nat) (f : Pair → Pair) : (d.updPair p f).par = d.par := rfl
@[simp] theorem Dev.updPair_ftl (d : Dev) (p : Nat) (f : Pair → Pair) : (d.updPair p f).ftl = d.ftl := rfl
@[simp] theorem Dev.updPair_nand (d : Dev) (p : Nat) (f : Pair → Pair) : (d.updPair p f).nand = d.nand := rfl
@[simp] theorem Dev.updPair_sec (d : Dev) (p : Nat) (f : Pair → Pair) : (d.updPair p f).sec = d.sec := rfl
@[simp] theorem Dev.updPair_sch (d : Dev) (p : Nat) (f : Pair → Pair) : (d.updPair p f).sch = d.sch := rfl
@[simp] theorem Dev.updPair_img (d : Dev) (p : Nat) (f : Pair → Pair) : (d.updPair p f).img = d.img := rfl
@[simp] theorem Dev.updPair_lcp (d : Dev) (p : Nat) (f : Pair → Pair) : (d.updPair p f).lcp = d.lcp := rfl
@[simp] theorem Dev.updPair_rad (d : Dev) (p : Nat) (f : Pair → Pair) : (d.updPair p f).rad = d.rad := rfl
@[simp] theorem Dev.updPair_cals (d : Dev) (p : Nat) (f : Pair → Pair) : (d.updPair p f).cals = d.cals := rfl
@[simp] theorem Dev.updPair_ldg (d : Dev) (p : Nat) (f : Pair → Pair) : (d.updPair p f).ldg = d.ldg := rfl
@[simp] theorem Dev.updPair_met (d : Dev) (p : Nat) (f : Pair → Pair) : (d.updPair p f).met = d.met := rfl
@[simp] theorem Dev.updPair_eth (d : Dev) (p : Nat) (f : Pair → Pair) : (d.updPair p f).eth = d.eth := rfl
@[simp] theorem Dev.updPair_fl (d : Dev) (p : Nat) (f : Pair → Pair) : (d.updPair p f).fl = d.fl := rfl
@[simp] theorem Dev.updPair_upd (d : Dev) (p : Nat) (f : Pair → Pair) : (d.updPair p f).upd = d.upd := rfl
@[simp] theorem Dev.updPair_freeCtr (d : Dev) (p : Nat) (f : Pair → Pair) : (d.updPair p f).freeCtr = d.freeCtr := rfl
@[simp] theorem Dev.updPair_out (d : Dev) (p : Nat) (f : Pair → Pair) : (d.updPair p f).out = d.out := rfl

/-! ## setVec -/

@[simp] theorem Dev.setVec_grade (d : Dev) (v : Nat) (x : MsixVec) : (d.setVec v x).grade = d.grade := rfl
@[simp] theorem Dev.setVec_regs (d : Dev) (v : Nat) (x : MsixVec) : (d.setVec v x).regs = d.regs := rfl
@[simp] theorem Dev.setVec_store (d : Dev) (v : Nat) (x : MsixVec) : (d.setVec v x).store = d.store := rfl
@[simp] theorem Dev.setVec_dirty (d : Dev) (v : Nat) (x : MsixVec) : (d.setVec v x).dirty = d.dirty := rfl
@[simp] theorem Dev.setVec_fn (d : Dev) (v : Nat) (x : MsixVec) : (d.setVec v x).fn = d.fn := rfl
@[simp] theorem Dev.setVec_glb (d : Dev) (v : Nat) (x : MsixVec) : (d.setVec v x).glb = d.glb := rfl
@[simp] theorem Dev.setVec_tim (d : Dev) (v : Nat) (x : MsixVec) : (d.setVec v x).tim = d.tim := rfl
@[simp] theorem Dev.setVec_lne (d : Dev) (v : Nat) (x : MsixVec) : (d.setVec v x).lne = d.lne := rfl
@[simp] theorem Dev.setVec_evr (d : Dev) (v : Nat) (x : MsixVec) : (d.setVec v x).evr = d.evr := rfl
@[simp] theorem Dev.setVec_flt (d : Dev) (v : Nat) (x : MsixVec) : (d.setVec v x).flt = d.flt := rfl
@[simp] theorem Dev.setVec_ctx (d : Dev) (v : Nat) (x : MsixVec) : (d.setVec v x).ctx = d.ctx := rfl
@[simp] theorem Dev.setVec_tar (d : Dev) (v : Nat) (x : MsixVec) : (d.setVec v x).tar = d.tar := rfl
@[simp] theorem Dev.setVec_par (d : Dev) (v : Nat) (x : MsixVec) : (d.setVec v x).par = d.par := rfl
@[simp] theorem Dev.setVec_ftl (d : Dev) (v : Nat) (x : MsixVec) : (d.setVec v x).ftl = d.ftl := rfl
@[simp] theorem Dev.setVec_nand (d : Dev) (v : Nat) (x : MsixVec) : (d.setVec v x).nand = d.nand := rfl
@[simp] theorem Dev.setVec_sec (d : Dev) (v : Nat) (x : MsixVec) : (d.setVec v x).sec = d.sec := rfl
@[simp] theorem Dev.setVec_sch (d : Dev) (v : Nat) (x : MsixVec) : (d.setVec v x).sch = d.sch := rfl
@[simp] theorem Dev.setVec_img (d : Dev) (v : Nat) (x : MsixVec) : (d.setVec v x).img = d.img := rfl
@[simp] theorem Dev.setVec_lcp (d : Dev) (v : Nat) (x : MsixVec) : (d.setVec v x).lcp = d.lcp := rfl
@[simp] theorem Dev.setVec_rad (d : Dev) (v : Nat) (x : MsixVec) : (d.setVec v x).rad = d.rad := rfl
@[simp] theorem Dev.setVec_cals (d : Dev) (v : Nat) (x : MsixVec) : (d.setVec v x).cals = d.cals := rfl
@[simp] theorem Dev.setVec_ldg (d : Dev) (v : Nat) (x : MsixVec) : (d.setVec v x).ldg = d.ldg := rfl
@[simp] theorem Dev.setVec_met (d : Dev) (v : Nat) (x : MsixVec) : (d.setVec v x).met = d.met := rfl
@[simp] theorem Dev.setVec_eth (d : Dev) (v : Nat) (x : MsixVec) : (d.setVec v x).eth = d.eth := rfl
@[simp] theorem Dev.setVec_fl (d : Dev) (v : Nat) (x : MsixVec) : (d.setVec v x).fl = d.fl := rfl
@[simp] theorem Dev.setVec_upd (d : Dev) (v : Nat) (x : MsixVec) : (d.setVec v x).upd = d.upd := rfl
@[simp] theorem Dev.setVec_freeCtr (d : Dev) (v : Nat) (x : MsixVec) : (d.setVec v x).freeCtr = d.freeCtr := rfl
@[simp] theorem Dev.setVec_out (d : Dev) (v : Nat) (x : MsixVec) : (d.setVec v x).out = d.out := rfl

/-! ## noteRecord -/

@[simp] theorem Dev.noteRecord_grade (d : Dev) (k : Nat × Nat × Nat) : (d.noteRecord k).grade = d.grade := rfl
@[simp] theorem Dev.noteRecord_regs (d : Dev) (k : Nat × Nat × Nat) : (d.noteRecord k).regs = d.regs := rfl
@[simp] theorem Dev.noteRecord_store (d : Dev) (k : Nat × Nat × Nat) : (d.noteRecord k).store = d.store := rfl
@[simp] theorem Dev.noteRecord_dirty (d : Dev) (k : Nat × Nat × Nat) : (d.noteRecord k).dirty = d.dirty := rfl
@[simp] theorem Dev.noteRecord_fn (d : Dev) (k : Nat × Nat × Nat) : (d.noteRecord k).fn = d.fn := rfl
@[simp] theorem Dev.noteRecord_glb (d : Dev) (k : Nat × Nat × Nat) : (d.noteRecord k).glb = d.glb := rfl
@[simp] theorem Dev.noteRecord_tim (d : Dev) (k : Nat × Nat × Nat) : (d.noteRecord k).tim = d.tim := rfl
@[simp] theorem Dev.noteRecord_rng (d : Dev) (k : Nat × Nat × Nat) : (d.noteRecord k).rng = d.rng := rfl
@[simp] theorem Dev.noteRecord_lne (d : Dev) (k : Nat × Nat × Nat) : (d.noteRecord k).lne = d.lne := rfl
@[simp] theorem Dev.noteRecord_evr (d : Dev) (k : Nat × Nat × Nat) : (d.noteRecord k).evr = d.evr := rfl
@[simp] theorem Dev.noteRecord_ctx (d : Dev) (k : Nat × Nat × Nat) : (d.noteRecord k).ctx = d.ctx := rfl
@[simp] theorem Dev.noteRecord_tar (d : Dev) (k : Nat × Nat × Nat) : (d.noteRecord k).tar = d.tar := rfl
@[simp] theorem Dev.noteRecord_par (d : Dev) (k : Nat × Nat × Nat) : (d.noteRecord k).par = d.par := rfl
@[simp] theorem Dev.noteRecord_ftl (d : Dev) (k : Nat × Nat × Nat) : (d.noteRecord k).ftl = d.ftl := rfl
@[simp] theorem Dev.noteRecord_nand (d : Dev) (k : Nat × Nat × Nat) : (d.noteRecord k).nand = d.nand := rfl
@[simp] theorem Dev.noteRecord_sec (d : Dev) (k : Nat × Nat × Nat) : (d.noteRecord k).sec = d.sec := rfl
@[simp] theorem Dev.noteRecord_sch (d : Dev) (k : Nat × Nat × Nat) : (d.noteRecord k).sch = d.sch := rfl
@[simp] theorem Dev.noteRecord_img (d : Dev) (k : Nat × Nat × Nat) : (d.noteRecord k).img = d.img := rfl
@[simp] theorem Dev.noteRecord_lcp (d : Dev) (k : Nat × Nat × Nat) : (d.noteRecord k).lcp = d.lcp := rfl
@[simp] theorem Dev.noteRecord_rad (d : Dev) (k : Nat × Nat × Nat) : (d.noteRecord k).rad = d.rad := rfl
@[simp] theorem Dev.noteRecord_cals (d : Dev) (k : Nat × Nat × Nat) : (d.noteRecord k).cals = d.cals := rfl
@[simp] theorem Dev.noteRecord_ldg (d : Dev) (k : Nat × Nat × Nat) : (d.noteRecord k).ldg = d.ldg := rfl
@[simp] theorem Dev.noteRecord_met (d : Dev) (k : Nat × Nat × Nat) : (d.noteRecord k).met = d.met := rfl
@[simp] theorem Dev.noteRecord_eth (d : Dev) (k : Nat × Nat × Nat) : (d.noteRecord k).eth = d.eth := rfl
@[simp] theorem Dev.noteRecord_fl (d : Dev) (k : Nat × Nat × Nat) : (d.noteRecord k).fl = d.fl := rfl
@[simp] theorem Dev.noteRecord_upd (d : Dev) (k : Nat × Nat × Nat) : (d.noteRecord k).upd = d.upd := rfl
@[simp] theorem Dev.noteRecord_freeCtr (d : Dev) (k : Nat × Nat × Nat) : (d.noteRecord k).freeCtr = d.freeCtr := rfl
@[simp] theorem Dev.noteRecord_out (d : Dev) (k : Nat × Nat × Nat) : (d.noteRecord k).out = d.out := rfl

/-! ## passCycles -/

@[simp] theorem Dev.passCycles_grade (d : Dev) (n : Nat) : (d.passCycles n).grade = d.grade := rfl
@[simp] theorem Dev.passCycles_regs (d : Dev) (n : Nat) : (d.passCycles n).regs = d.regs := rfl
@[simp] theorem Dev.passCycles_store (d : Dev) (n : Nat) : (d.passCycles n).store = d.store := rfl
@[simp] theorem Dev.passCycles_dirty (d : Dev) (n : Nat) : (d.passCycles n).dirty = d.dirty := rfl
@[simp] theorem Dev.passCycles_fn (d : Dev) (n : Nat) : (d.passCycles n).fn = d.fn := rfl
@[simp] theorem Dev.passCycles_glb (d : Dev) (n : Nat) : (d.passCycles n).glb = d.glb := rfl
@[simp] theorem Dev.passCycles_rng (d : Dev) (n : Nat) : (d.passCycles n).rng = d.rng := rfl
@[simp] theorem Dev.passCycles_lne (d : Dev) (n : Nat) : (d.passCycles n).lne = d.lne := rfl
@[simp] theorem Dev.passCycles_flt (d : Dev) (n : Nat) : (d.passCycles n).flt = d.flt := rfl
@[simp] theorem Dev.passCycles_ctx (d : Dev) (n : Nat) : (d.passCycles n).ctx = d.ctx := rfl
@[simp] theorem Dev.passCycles_tar (d : Dev) (n : Nat) : (d.passCycles n).tar = d.tar := rfl
@[simp] theorem Dev.passCycles_par (d : Dev) (n : Nat) : (d.passCycles n).par = d.par := rfl
@[simp] theorem Dev.passCycles_ftl (d : Dev) (n : Nat) : (d.passCycles n).ftl = d.ftl := rfl
@[simp] theorem Dev.passCycles_nand (d : Dev) (n : Nat) : (d.passCycles n).nand = d.nand := rfl
@[simp] theorem Dev.passCycles_sec (d : Dev) (n : Nat) : (d.passCycles n).sec = d.sec := rfl
@[simp] theorem Dev.passCycles_sch (d : Dev) (n : Nat) : (d.passCycles n).sch = d.sch := rfl
@[simp] theorem Dev.passCycles_img (d : Dev) (n : Nat) : (d.passCycles n).img = d.img := rfl
@[simp] theorem Dev.passCycles_lcp (d : Dev) (n : Nat) : (d.passCycles n).lcp = d.lcp := rfl
@[simp] theorem Dev.passCycles_rad (d : Dev) (n : Nat) : (d.passCycles n).rad = d.rad := rfl
@[simp] theorem Dev.passCycles_cals (d : Dev) (n : Nat) : (d.passCycles n).cals = d.cals := rfl
@[simp] theorem Dev.passCycles_ldg (d : Dev) (n : Nat) : (d.passCycles n).ldg = d.ldg := rfl
@[simp] theorem Dev.passCycles_met (d : Dev) (n : Nat) : (d.passCycles n).met = d.met := rfl
@[simp] theorem Dev.passCycles_eth (d : Dev) (n : Nat) : (d.passCycles n).eth = d.eth := rfl
@[simp] theorem Dev.passCycles_fl (d : Dev) (n : Nat) : (d.passCycles n).fl = d.fl := rfl
@[simp] theorem Dev.passCycles_upd (d : Dev) (n : Nat) : (d.passCycles n).upd = d.upd := rfl
@[simp] theorem Dev.passCycles_freeCtr (d : Dev) (n : Nat) : (d.passCycles n).freeCtr = d.freeCtr := rfl
@[simp] theorem Dev.passCycles_out (d : Dev) (n : Nat) : (d.passCycles n).out = d.out := rfl

/-! ## Time that passes -/

@[simp] theorem Dev.passCycles_mono (d : Dev) (n : Nat) : (d.passCycles n).tim.mono = d.tim.mono + n := rfl

@[simp] theorem Dev.toMono_grade (d : Dev) (m : Nat) : (d.toMono m).grade = d.grade := rfl
@[simp] theorem Dev.toNs_grade (d : Dev) (m : Nat) : (d.toNs m).grade = d.grade := by unfold Dev.toNs; split <;> rfl
@[simp] theorem Dev.toMono_regs (d : Dev) (m : Nat) : (d.toMono m).regs = d.regs := rfl
@[simp] theorem Dev.toNs_regs (d : Dev) (m : Nat) : (d.toNs m).regs = d.regs := by unfold Dev.toNs; split <;> rfl
@[simp] theorem Dev.toMono_store (d : Dev) (m : Nat) : (d.toMono m).store = d.store := rfl
@[simp] theorem Dev.toNs_store (d : Dev) (m : Nat) : (d.toNs m).store = d.store := by unfold Dev.toNs; split <;> rfl
@[simp] theorem Dev.toMono_dirty (d : Dev) (m : Nat) : (d.toMono m).dirty = d.dirty := rfl
@[simp] theorem Dev.toNs_dirty (d : Dev) (m : Nat) : (d.toNs m).dirty = d.dirty := by unfold Dev.toNs; split <;> rfl
@[simp] theorem Dev.toMono_fn (d : Dev) (m : Nat) : (d.toMono m).fn = d.fn := rfl
@[simp] theorem Dev.toNs_fn (d : Dev) (m : Nat) : (d.toNs m).fn = d.fn := by unfold Dev.toNs; split <;> rfl
@[simp] theorem Dev.toMono_glb (d : Dev) (m : Nat) : (d.toMono m).glb = d.glb := rfl
@[simp] theorem Dev.toNs_glb (d : Dev) (m : Nat) : (d.toNs m).glb = d.glb := by unfold Dev.toNs; split <;> rfl
@[simp] theorem Dev.toMono_rng (d : Dev) (m : Nat) : (d.toMono m).rng = d.rng := rfl
@[simp] theorem Dev.toNs_rng (d : Dev) (m : Nat) : (d.toNs m).rng = d.rng := by unfold Dev.toNs; split <;> rfl
@[simp] theorem Dev.toMono_lne (d : Dev) (m : Nat) : (d.toMono m).lne = d.lne := rfl
@[simp] theorem Dev.toNs_lne (d : Dev) (m : Nat) : (d.toNs m).lne = d.lne := by unfold Dev.toNs; split <;> rfl
@[simp] theorem Dev.toMono_flt (d : Dev) (m : Nat) : (d.toMono m).flt = d.flt := rfl
@[simp] theorem Dev.toNs_flt (d : Dev) (m : Nat) : (d.toNs m).flt = d.flt := by unfold Dev.toNs; split <;> rfl
@[simp] theorem Dev.toMono_ctx (d : Dev) (m : Nat) : (d.toMono m).ctx = d.ctx := rfl
@[simp] theorem Dev.toNs_ctx (d : Dev) (m : Nat) : (d.toNs m).ctx = d.ctx := by unfold Dev.toNs; split <;> rfl
@[simp] theorem Dev.toMono_tar (d : Dev) (m : Nat) : (d.toMono m).tar = d.tar := rfl
@[simp] theorem Dev.toNs_tar (d : Dev) (m : Nat) : (d.toNs m).tar = d.tar := by unfold Dev.toNs; split <;> rfl
@[simp] theorem Dev.toMono_par (d : Dev) (m : Nat) : (d.toMono m).par = d.par := rfl
@[simp] theorem Dev.toNs_par (d : Dev) (m : Nat) : (d.toNs m).par = d.par := by unfold Dev.toNs; split <;> rfl
@[simp] theorem Dev.toMono_ftl (d : Dev) (m : Nat) : (d.toMono m).ftl = d.ftl := rfl
@[simp] theorem Dev.toNs_ftl (d : Dev) (m : Nat) : (d.toNs m).ftl = d.ftl := by unfold Dev.toNs; split <;> rfl
@[simp] theorem Dev.toMono_nand (d : Dev) (m : Nat) : (d.toMono m).nand = d.nand := rfl
@[simp] theorem Dev.toNs_nand (d : Dev) (m : Nat) : (d.toNs m).nand = d.nand := by unfold Dev.toNs; split <;> rfl
@[simp] theorem Dev.toMono_sec (d : Dev) (m : Nat) : (d.toMono m).sec = d.sec := rfl
@[simp] theorem Dev.toNs_sec (d : Dev) (m : Nat) : (d.toNs m).sec = d.sec := by unfold Dev.toNs; split <;> rfl
@[simp] theorem Dev.toMono_sch (d : Dev) (m : Nat) : (d.toMono m).sch = d.sch := rfl
@[simp] theorem Dev.toNs_sch (d : Dev) (m : Nat) : (d.toNs m).sch = d.sch := by unfold Dev.toNs; split <;> rfl
@[simp] theorem Dev.toMono_img (d : Dev) (m : Nat) : (d.toMono m).img = d.img := rfl
@[simp] theorem Dev.toNs_img (d : Dev) (m : Nat) : (d.toNs m).img = d.img := by unfold Dev.toNs; split <;> rfl
@[simp] theorem Dev.toMono_lcp (d : Dev) (m : Nat) : (d.toMono m).lcp = d.lcp := rfl
@[simp] theorem Dev.toNs_lcp (d : Dev) (m : Nat) : (d.toNs m).lcp = d.lcp := by unfold Dev.toNs; split <;> rfl
@[simp] theorem Dev.toMono_rad (d : Dev) (m : Nat) : (d.toMono m).rad = d.rad := rfl
@[simp] theorem Dev.toNs_rad (d : Dev) (m : Nat) : (d.toNs m).rad = d.rad := by unfold Dev.toNs; split <;> rfl
@[simp] theorem Dev.toMono_cals (d : Dev) (m : Nat) : (d.toMono m).cals = d.cals := rfl
@[simp] theorem Dev.toNs_cals (d : Dev) (m : Nat) : (d.toNs m).cals = d.cals := by unfold Dev.toNs; split <;> rfl
@[simp] theorem Dev.toMono_ldg (d : Dev) (m : Nat) : (d.toMono m).ldg = d.ldg := rfl
@[simp] theorem Dev.toNs_ldg (d : Dev) (m : Nat) : (d.toNs m).ldg = d.ldg := by unfold Dev.toNs; split <;> rfl
@[simp] theorem Dev.toMono_met (d : Dev) (m : Nat) : (d.toMono m).met = d.met := rfl
@[simp] theorem Dev.toNs_met (d : Dev) (m : Nat) : (d.toNs m).met = d.met := by unfold Dev.toNs; split <;> rfl
@[simp] theorem Dev.toMono_eth (d : Dev) (m : Nat) : (d.toMono m).eth = d.eth := rfl
@[simp] theorem Dev.toNs_eth (d : Dev) (m : Nat) : (d.toNs m).eth = d.eth := by unfold Dev.toNs; split <;> rfl
@[simp] theorem Dev.toMono_fl (d : Dev) (m : Nat) : (d.toMono m).fl = d.fl := rfl
@[simp] theorem Dev.toNs_fl (d : Dev) (m : Nat) : (d.toNs m).fl = d.fl := by unfold Dev.toNs; split <;> rfl
@[simp] theorem Dev.toMono_upd (d : Dev) (m : Nat) : (d.toMono m).upd = d.upd := rfl
@[simp] theorem Dev.toNs_upd (d : Dev) (m : Nat) : (d.toNs m).upd = d.upd := by unfold Dev.toNs; split <;> rfl
@[simp] theorem Dev.toMono_freeCtr (d : Dev) (m : Nat) : (d.toMono m).freeCtr = d.freeCtr := rfl
@[simp] theorem Dev.toNs_freeCtr (d : Dev) (m : Nat) : (d.toNs m).freeCtr = d.freeCtr := by unfold Dev.toNs; split <;> rfl
@[simp] theorem Dev.toMono_out (d : Dev) (m : Nat) : (d.toMono m).out = d.out := rfl
@[simp] theorem Dev.toNs_out (d : Dev) (m : Nat) : (d.toNs m).out = d.out := by unfold Dev.toNs; split <;> rfl

@[simp] theorem Dev.toMono_mono (d : Dev) (m : Nat) : (d.toMono m).tim.mono = max d.tim.mono m := by
  unfold Dev.toMono
  rw [Dev.passCycles_mono]
  omega

theorem Dev.le_toNs_mono (d : Dev) (m : Nat) : d.tim.mono ≤ (d.toNs m).tim.mono := by
  unfold Dev.toNs
  split
  · simp only [Dev.passCycles_mono]; omega
  · exact Nat.le_refl _

/-! ## What is set reads back -/

theorem Tab.getD_set {α : Type} [DecidableEq α] (t : Tab α) (k : Nat) (x y : α) :
    Tab.getD (if x = y then t.del k else t.put k x) k y = x := by
  unfold Tab.getD
  split
  · rename_i h; simp [h]
  · simp

theorem Tab.getD_set_other {α : Type} [DecidableEq α] (t : Tab α) (k j : Nat) (x y : α) (h : j ≠ k) :
    Tab.getD (if x = y then t.del k else t.put k x) j y = t.getD j y := by
  unfold Tab.getD
  split
  · rw [Tab.find_del_other _ _ _ h]
  · rw [Tab.find_put_other _ _ _ _ h]

@[simp] theorem Dev.fnOf_setFn (d : Dev) (fix : Nat) (f : Fn) : (d.setFn fix f).fnOf fix = f := Tab.getD_set _ _ _ _

theorem Dev.fnOf_setFn_other (d : Dev) (fix j : Nat) (f : Fn) (h : j ≠ fix) : (d.setFn fix f).fnOf j = d.fnOf j :=
  Tab.getD_set_other _ _ _ _ _ h

@[simp] theorem Dev.lane_setLane (d : Dev) (q : Nat) (l : Lane) : (d.setLane q l).lane q = l := Tab.getD_set _ _ _ _

theorem Dev.lane_setLane_other (d : Dev) (q j : Nat) (l : Lane) (h : j ≠ q) : (d.setLane q l).lane j = d.lane j :=
  Tab.getD_set_other _ _ _ _ _ h

@[simp] theorem Dev.pair_setPair (d : Dev) (p : Nat) (x : Pair) : (d.setPair p x).pair p = x := Tab.getD_set _ _ _ _

theorem Dev.pair_setPair_other (d : Dev) (p j : Nat) (x : Pair) (h : j ≠ p) : (d.setPair p x).pair j = d.pair j :=
  Tab.getD_set_other _ _ _ _ _ h

@[simp] theorem Dev.pair_updPair (d : Dev) (p : Nat) (f : Pair → Pair) : (d.updPair p f).pair p = f (d.pair p) :=
  Dev.pair_setPair _ _ _

@[simp] theorem Dev.vec_setVec (d : Dev) (v : Nat) (x : MsixVec) : (d.setVec v x).vec v = x := Tab.getD_set _ _ _ _

theorem Dev.vec_setVec_other (d : Dev) (v j : Nat) (x : MsixVec) (h : j ≠ v) : (d.setVec v x).vec j = d.vec j :=
  Tab.getD_set_other _ _ _ _ _ h

/-! ## Registers -/

/-- A word set reads back, cut to 32 bits. -/
@[simp] theorem Dev.word_setWord (d : Dev) (off v : Nat) : (d.setWord off v).word off = v % 2 ^ 32 := by
  by_cases h : v % 2 ^ 32 = resetVal d.grade off
  · simp only [Dev.word, Dev.setWord, if_pos h, Tab.find_del_self]; exact h.symm
  · simp only [Dev.word, Dev.setWord, if_neg h, Tab.find_put_self]; exact BitVec.toNat_ofNat _ _

/-- Setting a word leaves every other. -/
theorem Dev.word_setWord_other (d : Dev) (off j v : Nat) (h : j ≠ off) : (d.setWord off v).word j = d.word j := by
  by_cases h' : v % 2 ^ 32 = resetVal d.grade off
  · simp only [Dev.word, Dev.setWord, if_pos h', Tab.find_del_other _ _ _ h]
  · simp only [Dev.word, Dev.setWord, if_neg h', Tab.find_put_other _ _ _ _ h]

/-- A field set reads back, cut to its width. -/
theorem Dev.rd_wr (d : Dev) (f : F) (i v : Nat) (h : f.lo + f.len ≤ 32) : (d.wr f i v).rd f i = v % 2 ^ f.len := by
  unfold Dev.rd Dev.wr
  rw [Dev.word_setWord, bitsOf_mod _ _ _ _ h, bitsOf_withBits]

/-- Setting a field leaves a field of another register. -/
theorem Dev.rd_wr_other (d : Dev) (f g : F) (i j v : Nat) (h : g.at j ≠ f.at i) : (d.wr f i v).rd g j = d.rd g j := by
  unfold Dev.rd Dev.wr
  rw [Dev.word_setWord_other _ _ _ _ h]

/-- Setting a field leaves a field of the same register that lies below it. -/
theorem Dev.rd_wr_below (d : Dev) (f g : F) (i j v : Nat) (h : g.at j = f.at i) (hb : g.lo + g.len ≤ f.lo) (hw : f.lo + f.len ≤ 32) :
    (d.wr f i v).rd g j = d.rd g j := by
  unfold Dev.rd Dev.wr
  rw [h, Dev.word_setWord, bitsOf_mod _ _ _ _ (by omega), bitsOf_withBits_below _ _ _ _ _ _ hb]

/-- Setting a field leaves a field of the same register that lies above it. -/
theorem Dev.rd_wr_above (d : Dev) (f g : F) (i j v : Nat) (h : g.at j = f.at i) (hb : f.lo + f.len ≤ g.lo) (hw : g.lo + g.len ≤ 32) :
    (d.wr f i v).rd g j = d.rd g j := by
  unfold Dev.rd Dev.wr
  rw [h, Dev.word_setWord, bitsOf_mod _ _ _ _ hw, bitsOf_withBits_above _ _ _ _ _ _ hb]

/-- A bit set reads back. -/
theorem Dev.on_wrb (d : Dev) (f : F) (i : Nat) (b : Bool) (h : f.lo + f.len ≤ 32) (hl : f.len = 1) : (d.wrb f i b).on f i = b := by
  unfold Dev.on Dev.wrb
  rw [Dev.rd_wr _ _ _ _ h, hl]
  cases b <;> rfl

/-- A counter that counts saturates at its width (R137). -/
theorem Dev.rd_bump (d : Dev) (f : F) (i n : Nat) (h : f.lo + f.len ≤ 32) :
    (d.bump f i n).rd f i = min (d.rd f i + n) (2 ^ f.len - 1) := by
  unfold Dev.bump
  rw [Dev.rd_wr _ _ _ _ h, Nat.mod_eq_of_lt]
  have : 0 < 2 ^ f.len := by positivity
  omega

/-- Registers stay a table in canonical form. -/
theorem Dev.setWord_wf (d : Dev) (off v : Nat) (h : d.regs.wf = true) : (d.setWord off v).regs.wf = true := by
  unfold Dev.setWord
  dsimp only
  split
  · exact Tab.del_wf _ _ h
  · exact Tab.put_wf _ _ _ h

end Sys2Proof.Machine
end

