-- ==== Sys2Proof/Laws/Frames.lean ====
section
/-! SUPPORT. Sys2Proof/Laws/Frames.lean: which parts of the device each shared operation can change. -/

namespace Sys2Proof.Machine

/-! ## Frames compose -/

theorem Keeps.refl (ps : List Part) (d : Dev) : Keeps ps d d := by
  intro p _
  cases p <;> rfl

theorem Part.same_trans (p : Part) (d e f : Dev) (h1 : p.same d e) (h2 : p.same e f) : p.same d f := by
  cases p <;> exact Eq.trans h2 h1

/-- A change within some parts, after a change within more. -/
theorem Keeps.step {ps qs : List Part} {d e f : Dev} (h2 : Keeps ps e f) (hs : ps ⊆ qs) (h1 : Keeps qs d e) : Keeps qs d f :=
  fun p hp => p.same_trans d e f (h1 p hp) (h2 p (fun h => hp (hs h)))

theorem Keeps.mono {ps qs : List Part} {d e : Dev} (h : Keeps ps d e) (hs : ps ⊆ qs) : Keeps qs d e := fun p hp => h p (fun x => hp (hs x))

theorem Keeps.trans {ps : List Part} {d e f : Dev} (h1 : Keeps ps d e) (h2 : Keeps ps e f) : Keeps ps d f := h2.step (fun _ h => h) h1

theorem Keeps.ite {ps : List Part} {d e f : Dev} {c : Prop} [Decidable c] (h1 : Keeps ps d e) (h2 : Keeps ps d f) :
    Keeps ps d (if c then e else f) := by split <;> assumption

/-! ## A part set anew -/

theorem Keeps.regs (d : Dev) (x : Tab Word) : Keeps [.regs] d { d with regs := x } := by
  intro p hp; cases p <;> first | exact absurd (by decide) hp | rfl

theorem Keeps.store (d : Dev) (x : Tab Word) : Keeps [.store] d { d with store := x } := by
  intro p hp; cases p <;> first | exact absurd (by decide) hp | rfl

theorem Keeps.dirty (d : Dev) (x : List Nat) : Keeps [.dirty] d { d with dirty := x } := by
  intro p hp; cases p <;> first | exact absurd (by decide) hp | rfl

theorem Keeps.fn (d : Dev) (x : Tab Fn) : Keeps [.fn] d { d with fn := x } := by
  intro p hp; cases p <;> first | exact absurd (by decide) hp | rfl

theorem Keeps.glb (d : Dev) (x : Glb) : Keeps [.glb] d { d with glb := x } := by
  intro p hp; cases p <;> first | exact absurd (by decide) hp | rfl

theorem Keeps.tim (d : Dev) (x : Tim) : Keeps [.tim] d { d with tim := x } := by
  intro p hp; cases p <;> first | exact absurd (by decide) hp | rfl

theorem Keeps.rng (d : Dev) (x : Rng) : Keeps [.rng] d { d with rng := x } := by
  intro p hp; cases p <;> first | exact absurd (by decide) hp | rfl

theorem Keeps.lne (d : Dev) (x : Lne) : Keeps [.lne] d { d with lne := x } := by
  intro p hp; cases p <;> first | exact absurd (by decide) hp | rfl

theorem Keeps.evr (d : Dev) (x : Evr) : Keeps [.evr] d { d with evr := x } := by
  intro p hp; cases p <;> first | exact absurd (by decide) hp | rfl

theorem Keeps.flt (d : Dev) (x : Flt) : Keeps [.flt] d { d with flt := x } := by
  intro p hp; cases p <;> first | exact absurd (by decide) hp | rfl

theorem Keeps.ctx (d : Dev) (x : CtxEng) : Keeps [.ctx] d { d with ctx := x } := by
  intro p hp; cases p <;> first | exact absurd (by decide) hp | rfl

theorem Keeps.tar (d : Dev) (x : Tar) : Keeps [.tar] d { d with tar := x } := by
  intro p hp; cases p <;> first | exact absurd (by decide) hp | rfl

theorem Keeps.par (d : Dev) (x : Par) : Keeps [.par] d { d with par := x } := by
  intro p hp; cases p <;> first | exact absurd (by decide) hp | rfl

theorem Keeps.ftl (d : Dev) (x : Ftl) : Keeps [.ftl] d { d with ftl := x } := by
  intro p hp; cases p <;> first | exact absurd (by decide) hp | rfl

theorem Keeps.nand (d : Dev) (x : Nand) : Keeps [.nand] d { d with nand := x } := by
  intro p hp; cases p <;> first | exact absurd (by decide) hp | rfl

theorem Keeps.sec (d : Dev) (x : Sec) : Keeps [.sec] d { d with sec := x } := by
  intro p hp; cases p <;> first | exact absurd (by decide) hp | rfl

theorem Keeps.sch (d : Dev) (x : Sch) : Keeps [.sch] d { d with sch := x } := by
  intro p hp; cases p <;> first | exact absurd (by decide) hp | rfl

theorem Keeps.img (d : Dev) (x : Img) : Keeps [.img] d { d with img := x } := by
  intro p hp; cases p <;> first | exact absurd (by decide) hp | rfl

theorem Keeps.lcp (d : Dev) (x : Tab Lcp) : Keeps [.lcp] d { d with lcp := x } := by
  intro p hp; cases p <;> first | exact absurd (by decide) hp | rfl

theorem Keeps.rad (d : Dev) (x : Tab Rad) : Keeps [.rad] d { d with rad := x } := by
  intro p hp; cases p <;> first | exact absurd (by decide) hp | rfl

theorem Keeps.cals (d : Dev) (x : Tab Cal) : Keeps [.cals] d { d with cals := x } := by
  intro p hp; cases p <;> first | exact absurd (by decide) hp | rfl

theorem Keeps.ldg (d : Dev) (x : Ldg) : Keeps [.ldg] d { d with ldg := x } := by
  intro p hp; cases p <;> first | exact absurd (by decide) hp | rfl

theorem Keeps.met (d : Dev) (x : Met) : Keeps [.met] d { d with met := x } := by
  intro p hp; cases p <;> first | exact absurd (by decide) hp | rfl

theorem Keeps.eth (d : Dev) (x : Tab Eth) : Keeps [.eth] d { d with eth := x } := by
  intro p hp; cases p <;> first | exact absurd (by decide) hp | rfl

theorem Keeps.fl (d : Dev) (x : Fl) : Keeps [.fl] d { d with fl := x } := by
  intro p hp; cases p <;> first | exact absurd (by decide) hp | rfl

theorem Keeps.upd (d : Dev) (x : Upd) : Keeps [.upd] d { d with upd := x } := by
  intro p hp; cases p <;> first | exact absurd (by decide) hp | rfl

theorem Keeps.freeCtr (d : Dev) (x : Nat) : Keeps [.freeCtr] d { d with freeCtr := x } := by
  intro p hp; cases p <;> first | exact absurd (by decide) hp | rfl

theorem Keeps.out (d : Dev) (x : List Out) : Keeps [.out] d { d with out := x } := by
  intro p hp; cases p <;> first | exact absurd (by decide) hp | rfl

/-! ## Single updates -/

theorem Dev.emit_keeps (d : Dev) (o : Out) : Keeps [.out] d (d.emit o) := by
  intro p hp; cases p <;> first | exact absurd (by decide) hp | rfl

theorem Dev.setWord_keeps (d : Dev) (off v : Nat) : Keeps [.regs] d (d.setWord off v) := by
  intro p hp; cases p <;> first | exact absurd (by decide) hp | rfl

theorem Dev.wr_keeps (d : Dev) (f : F) (i v : Nat) : Keeps [.regs] d (d.wr f i v) := d.setWord_keeps _ _

theorem Dev.wrb_keeps (d : Dev) (f : F) (i : Nat) (b : Bool) : Keeps [.regs] d (d.wrb f i b) := d.setWord_keeps _ _

theorem Dev.bump_keeps (d : Dev) (f : F) (i n : Nat) : Keeps [.regs] d (d.bump f i n) := d.setWord_keeps _ _

theorem Dev.bumpW_keeps (d : Dev) (f : F) (i n : Nat) : Keeps [.regs] d (d.bumpW f i n) := d.setWord_keeps _ _

theorem Dev.touch_keeps (d : Dev) (off : Nat) : Keeps [.dirty] d (d.touch off) := by
  intro p hp; cases p <;> first | exact absurd (by decide) hp | rfl

theorem Dev.setFn_keeps (d : Dev) (i : Nat) (f : Fn) : Keeps [.fn] d (d.setFn i f) := by
  intro p hp; cases p <;> first | exact absurd (by decide) hp | rfl

theorem Dev.setLane_keeps (d : Dev) (q : Nat) (l : Lane) : Keeps [.lne] d (d.setLane q l) := by
  intro p hp; cases p <;> first | exact absurd (by decide) hp | rfl

theorem Dev.setPair_keeps (d : Dev) (q : Nat) (x : Pair) : Keeps [.rng] d (d.setPair q x) := by
  intro p hp; cases p <;> first | exact absurd (by decide) hp | rfl

theorem Dev.updPair_keeps (d : Dev) (q : Nat) (f : Pair → Pair) : Keeps [.rng] d (d.updPair q f) := d.setPair_keeps _ _

theorem Dev.setVec_keeps (d : Dev) (q : Nat) (x : MsixVec) : Keeps [.rng] d (d.setVec q x) := by
  intro p hp; cases p <;> first | exact absurd (by decide) hp | rfl

theorem Dev.noteRecord_keeps (d : Dev) (k : Nat × Nat × Nat) : Keeps [.flt] d (d.noteRecord k) := by
  intro p hp; cases p <;> first | exact absurd (by decide) hp | rfl

theorem Dev.passCycles_keeps (d : Dev) (n : Nat) : Keeps [.tim, .evr] d (d.passCycles n) := by
  intro p hp; cases p <;> first | exact absurd (by decide) hp | rfl

theorem Dev.toMono_keeps (d : Dev) (m : Nat) : Keeps [.tim, .evr] d (d.toMono m) := d.passCycles_keeps _

theorem Dev.toNs_keeps (d : Dev) (m : Nat) : Keeps [.tim, .evr] d (d.toNs m) :=
  Keeps.ite (d.passCycles_keeps _) (Keeps.refl _ _)

/-! ## Recorder, queues, events -/

theorem Dev.evrPush_keeps (d : Dev) (w : List Nat) : Keeps [.evr] d (d.evrPush w) := by
  unfold Dev.evrPush
  split <;> (intro p hp; cases p <;> first | exact absurd (by decide) hp | rfl)

theorem Dev.evrCommit_keeps (d : Dev) (w : List Nat) : Keeps [.evr, .regs] d (d.evrCommit w) := by
  unfold Dev.evrCommit
  split
  · split <;> (intro p hp; cases p <;> first | exact absurd (by decide) hp | rfl)
  · exact (d.evrPush_keeps w).mono (by decide)

theorem Dev.ringPut_keeps (d e : Dev) (q : Nat) (i : Item) (h : d.ringPut q i = some e) : Keeps [.lne, .regs] d e := by
  unfold Dev.ringPut at h
  dsimp only at h
  split at h
  · obtain rfl := Option.some.inj h
    exact (Dev.wr_keeps _ _ _ _).step (by decide) ((Dev.bump_keeps _ _ _ _).step (by decide) ((Dev.setLane_keeps _ _ _).mono (by decide)))
  · cases h

/-- An event routed to queue 13 by an offer changes what the offer does, the lanes and the drop counter. -/
theorem Dev.routeEvent_keeps (put : Dev → Item → Dev) (hp : ∀ d i, Keeps [.lne, .regs, .evr] d (put d i)) (d : Dev) (e : Event) :
    Keeps [.lne, .regs, .evr] d (d.routeEvent put e) := by
  unfold Dev.routeEvent
  dsimp only
  split
  · exact (Dev.bump_keeps _ _ _ _).mono (by decide)
  · split
    · exact (Dev.setLane_keeps _ _ _).mono (by decide)
    · split
      · exact (Dev.setLane_keeps _ _ _).mono (by decide)
      · exact hp _ _

theorem Dev.offerRaw_keeps (fuel : Nat) (d : Dev) (q : Nat) (i : Item) : Keeps [.lne, .regs, .evr] d (Dev.offerRaw fuel d q i) := by
  induction fuel generalizing d q i with
  | zero =>
    unfold Dev.offerRaw
    dsimp only
    split
    · exact (Dev.setLane_keeps _ _ _).mono (by decide)
    · split
      · split
        · rename_i e he
          have hk : Keeps [.lne, .regs, .evr] d e := (Dev.ringPut_keeps _ _ _ _ he).mono (by decide)
          split
          · intro p hp; cases p <;> first | exact absurd (by decide) hp | exact hk _ hp
          · exact hk
        · split
          · exact (Dev.bump_keeps _ _ _ _).step (by decide) ((Dev.setLane_keeps _ _ _).mono (by decide))
          · have hb : Keeps [.lne, .regs, .evr] d (d.bump F.LNE_DROP) := (Dev.bump_keeps _ _ _ _).mono (by decide)
            split
            · refine (Dev.evrCommit_keeps _ _).step (by decide) ?_
              intro p hp; cases p <;> first | exact absurd (by decide) hp | exact hb _ hp
            · exact hb
      · exact (Dev.bump_keeps _ _ _ _).step (by decide) ((Dev.setLane_keeps _ _ _).mono (by decide))
  | succ n ih =>
    unfold Dev.offerRaw
    dsimp only
    split
    · exact (Dev.setLane_keeps _ _ _).mono (by decide)
    · split
      · split
        · rename_i e he
          have hk : Keeps [.lne, .regs, .evr] d e := (Dev.ringPut_keeps _ _ _ _ he).mono (by decide)
          split
          · refine (Dev.routeEvent_keeps _ (fun x i => ih x _ i) _ _).step (fun _ h => h) ?_
            intro p hp; cases p <;> first | exact absurd (by decide) hp | exact hk _ hp
          · exact hk
        · split
          · exact (Dev.bump_keeps _ _ _ _).step (by decide) ((Dev.setLane_keeps _ _ _).mono (by decide))
          · have hb : Keeps [.lne, .regs, .evr] d (d.bump F.LNE_DROP) := (Dev.bump_keeps _ _ _ _).mono (by decide)
            split
            · refine (Dev.routeEvent_keeps _ (fun x i => ih x _ i) _ _).step (fun _ h => h) ((Dev.evrCommit_keeps _ _).step (by decide) ?_)
              intro p hp; cases p <;> first | exact absurd (by decide) hp | exact hb _ hp
            · exact hb
      · exact (Dev.bump_keeps _ _ _ _).step (by decide) ((Dev.setLane_keeps _ _ _).mono (by decide))

theorem Dev.stormStart_keeps (d : Dev) : Keeps [.lne, .regs, .evr] d d.stormStart := by
  unfold Dev.stormStart
  dsimp only
  refine (Dev.routeEvent_keeps _ (fun x i => Dev.offerRaw_keeps _ x _ i) _ _).step (fun _ h => h) ((Dev.evrCommit_keeps _ _).step (by decide) ?_)
  exact (Keeps.lne _ _).step (by decide) ((Dev.bump_keeps _ _ _ _).step (by decide) ((Dev.wrb_keeps _ _ _ _).mono (by decide)))

theorem Dev.postRaw_keeps (d : Dev) (e : Event) : Keeps [.lne, .regs, .evr] d (d.postRaw e) := by
  have h := Dev.routeEvent_keeps (fun x i => Dev.offerRaw 2 x 13 i) (fun x i => Dev.offerRaw_keeps _ x _ i) d e
  exact Keeps.ite (h.trans (Dev.stormStart_keeps _)) h

theorem Dev.fire_keeps (d : Dev) (v : Nat) : Keeps [.rng, .out] d (d.fire v) := by
  unfold Dev.fire
  split
  · exact (Dev.setVec_keeps _ _ _).mono (by decide)
  · exact (Dev.emit_keeps _ _).mono (by decide)

theorem Dev.signal_keeps (d : Dev) (p : Nat) : Keeps [.rng, .out] d (d.signal p) :=
  (Dev.updPair_keeps _ _ _).step (by decide) (Dev.fire_keeps _ _)

theorem Dev.entryWritten_keeps (d : Dev) (p : Nat) (irq : Bool) : Keeps [.rng, .out] d (d.entryWritten p irq) := by
  unfold Dev.entryWritten
  dsimp only
  have h : ∀ f, Keeps [.rng, .out] d (d.updPair p f) := fun f => (Dev.updPair_keeps _ _ _).mono (by decide)
  split
  · exact (Dev.signal_keeps _ _).step (by decide) (h _)
  · exact h _

theorem Dev.history_keeps (d : Dev) (code src cls detail : Nat) (safe : Bool) : Keeps [.flt, .regs] d (d.history code src cls detail safe) := by
  unfold Dev.history
  split
  · intro p hp; cases p <;> first | exact absurd (by decide) hp | rfl
  · dsimp only
    split <;> (intro p hp; cases p <;> first | exact absurd (by decide) hp | rfl)

theorem Dev.pulse_keeps (d : Dev) : Keeps [.flt, .regs] d d.pulse :=
  (Keeps.flt (d.wrb F.FLT_STS_PULSE 0 true) _).step (by decide) ((Dev.wrb_keeps _ _ _ _).mono (by decide))

theorem Dev.faultCore_keeps (d : Dev) (code src cls detail : Nat) (safe : Bool) : Keeps reportParts d (d.faultCore code src cls detail safe) := by
  unfold Dev.faultCore
  dsimp only
  have h1 : ∀ f : F, Keeps reportParts d (d.bump f) := fun f => (Dev.bump_keeps _ _ _ _).mono (by decide)
  have h2 : ∀ f : F, Keeps reportParts d (if cls ≥ 2 then (d.bump f).history code src cls detail safe else d.bump f) := fun f =>
    Keeps.ite ((Dev.history_keeps _ _ _ _ _ _).step (by decide) (h1 f)) (h1 f)
  have h3 := fun (f : F) (e : Event) => (Dev.postRaw_keeps (if cls ≥ 2 then (d.bump f).history code src cls detail safe else d.bump f) e).step
    (by decide : [Part.lne, .regs, .evr] ⊆ reportParts) (h2 f)
  have h4 : ∀ e : Dev, Keeps reportParts d e → Keeps reportParts d (if cls = 4 then e.wrb F.FLT_STS_FATAL 0 true else e.wrb F.FLT_STS_DEGRADED 0 true) :=
    fun e he => Keeps.ite ((Dev.wrb_keeps _ _ _ _).step (by decide) he) ((Dev.wrb_keeps _ _ _ _).step (by decide) he)
  have h5 := fun (e : Dev) (he : Keeps reportParts d e) => (Dev.pulse_keeps _).step (by decide : [Part.flt, .regs] ⊆ reportParts) (h4 e he)
  exact Keeps.ite (Keeps.ite ((Dev.fire_keeps _ _).step (by decide) (h5 _ (h3 _ _))) (h5 _ (h3 _ _))) (h3 _ _)

theorem Dev.faultCoreF_keeps (d : Dev) (code src cls detail : Nat) (safe : Bool) : Keeps reportParts d (d.faultCoreF code src cls detail safe) := by
  have h := d.faultCore_keeps code src cls detail safe
  intro p hp
  cases p <;> first | exact absurd (by decide) hp | exact h _ hp

theorem Dev.fullCheck_keeps (d : Dev) : Keeps reportParts d d.fullCheck := by
  have h1 : Keeps reportParts d (if 61440 ≤ d.evr.recs.length ∧ ¬ d.evr.nearPosted then
      ({ d with evr := { d.evr with nearPosted := true } } : Dev).postRaw (d.mkEvent 6 0x1003 1 0x10 0 d.evr.recs.length 0 0) else d) :=
    Keeps.ite ((Dev.postRaw_keeps _ _).step (by decide) ((Keeps.evr d _).mono (by decide))) (Keeps.refl _ _)
  have h2 : ∀ e : Dev, Keeps reportParts d e → Keeps reportParts d (if 65536 ≤ d.evr.recs.length ∧ ¬ e.evr.fullPosted then
      ({ e with evr := { e.evr with fullPosted := true }, flt := { e.flt with conds := 0x0F1F :: e.flt.conds } } : Dev).faultCoreF 0x0F1F 0x10 3 0 false
      else e) := fun e he =>
    Keeps.ite ((Dev.faultCoreF_keeps _ _ _ _ _ _).step (fun _ h => h)
      ((Keeps.flt ({ e with evr := { e.evr with fullPosted := true } } : Dev) _).step (by decide) ((Keeps.evr e _).step (by decide) he))) he
  exact h2 _ h1

theorem Dev.record_keeps (d : Dev) (code src sev w3 w4 w5 w6 : Nat) (df : Bool) :
    Keeps reportParts d (d.record code src sev w3 w4 w5 w6 df) :=
  (Dev.fullCheck_keeps _).step (fun _ h => h) ((Dev.evrCommit_keeps _ _).mono (by decide))

theorem Dev.post_keeps (d : Dev) (cls code sev src target w4 w5 w6 : Nat) : Keeps reportParts d (d.post cls code sev src target w4 w5 w6) :=
  (Dev.fullCheck_keeps _).step (fun _ h => h) ((Dev.postRaw_keeps _ _).mono (by decide))

theorem Dev.recordPost_keeps (d : Dev) (cls code sev src target w3 w4 w5 w6 : Nat) :
    Keeps reportParts d (d.recordPost cls code sev src target w3 w4 w5 w6) :=
  (Dev.post_keeps _ _ _ _ _ _ _ _ _).step (fun _ h => h) (Dev.record_keeps _ _ _ _ _ _ _ _ _)

theorem Dev.offer_keeps (d : Dev) (q : Nat) (i : Item) : Keeps reportParts d (d.offer q i) :=
  (Dev.fullCheck_keeps _).step (fun _ h => h) ((Dev.offerRaw_keeps _ _ _ _).mono (by decide))

theorem Dev.laneDrop_keeps (d : Dev) (q n : Nat) : Keeps [.lne] d (d.laneDrop q n) := Dev.setLane_keeps _ _ _

theorem Dev.flushNow_keeps (d : Dev) (q : Nat) : Keeps [.lne, .regs] d (d.flushNow q) := by
  unfold Dev.flushNow
  dsimp only
  split
  · exact Keeps.refl _ _
  · exact (Dev.bump_keeps _ _ _ _).step (by decide) ((Dev.setLane_keeps _ _ _).mono (by decide))

theorem Dev.refill_keeps (n : Nat) (d : Dev) (q : Nat) : Keeps [.lne] d (Dev.refill n d q) := by
  induction n generalizing d with
  | zero => exact Keeps.refl _ _
  | succ n ih =>
    unfold Dev.refill
    split
    · exact Keeps.refl _ _
    · split
      · exact (ih _).step (by decide) (Dev.setLane_keeps _ _ _)
      · exact Keeps.refl _ _

theorem Dev.release_keeps (n : Nat) (d : Dev) (q : Nat) : Keeps [.lne, .regs] d (Dev.release n d q) := by
  induction n generalizing d with
  | zero => exact Keeps.refl _ _
  | succ n ih =>
    unfold Dev.release
    split
    · exact Keeps.refl _ _
    · dsimp only
      split
      · exact (ih _).step (by decide) ((Dev.setLane_keeps _ _ _).mono (by decide))
      · split
        · split
          · rename_i e he
            exact (ih _).step (by decide) ((Dev.ringPut_keeps _ _ _ _ he).step (by decide) ((Dev.setLane_keeps _ _ _).mono (by decide)))
          · exact Keeps.refl _ _
        · exact Keeps.refl _ _

/-! ## Completions -/

theorem Dev.watchFull_keeps (d : Dev) (p : Nat) : Keeps [.rng] d (d.watchFull p) :=
  Keeps.ite (Dev.updPair_keeps _ _ _) (Dev.updPair_keeps _ _ _)

theorem Dev.settle_keeps (d : Dev) (p : Nat) : Keeps [.rng, .regs] d (d.settle p) :=
  (Dev.watchFull_keeps _ _).step (by decide) ((Dev.bump_keeps _ _ _ _).step (by decide) ((Dev.setPair_keeps _ _ _).mono (by decide)))

theorem Dev.complete_keeps (d : Dev) (p id st sub : Nat) (res : List Nat) : Keeps [.rng, .regs] d (d.complete p id st sub res) :=
  (Dev.settle_keeps _ _).step (fun _ h => h) ((Dev.updPair_keeps _ _ _).mono (by decide))

theorem Keeps.foldl {α : Type} {ps : List Part} (f : Dev → α → Dev) (h : ∀ d a, Keeps ps d (f d a)) (l : List α) (d : Dev) :
    Keeps ps d (l.foldl f d) := by
  induction l generalizing d with
  | nil => exact Keeps.refl _ _
  | cons a t ih => exact (ih _).step (fun _ h => h) (h d a)

theorem Dev.completeAll_keeps (d : Dev) (pick : Nat → Held → Option (Nat × Nat)) : Keeps [.rng, .regs] d (d.completeAll pick) :=
  Keeps.foldl _ (fun _ _ => (Dev.settle_keeps _ _).step (fun _ h => h) ((Dev.updPair_keeps _ _ _).mono (by decide))) _ _

theorem Dev.markStarted_keeps (d : Dev) (p id : Nat) : Keeps [.rng] d (d.markStarted p id) := Dev.updPair_keeps _ _ _

theorem Dev.stepDone_keeps (d : Dev) (i : Nat) : Keeps [.regs] d (d.stepDone i) := by
  unfold Dev.stepDone
  split
  · exact Keeps.refl _ _
  · exact (Dev.wr_keeps _ _ _ _).step (fun _ h => h) (Dev.wr_keeps _ _ _ _)

end Sys2Proof.Machine
end

