-- ==== Sys2Proof/Laws/Faults.lean ====
section
/-! SUPPORT. Sys2Proof/Laws/Faults.lean: what a report to the Fault collector and the failure of a function can change. -/

namespace Sys2Proof.Machine

/-- The watch of a full ring changes that pair's own clock alone. -/
theorem Dev.watchFull_eq (d : Dev) (p : Nat) : ∃ f, d.watchFull p = d.setPair p { d.pair p with fullSince := f } := by
  unfold Dev.watchFull
  split
  · exact ⟨_, rfl⟩
  · exact ⟨none, rfl⟩

/-- A report short of Fatal changes what recording and reporting change. -/
theorem Dev.fault_keeps (d : Dev) (code src cls detail : Nat) (own : Bool) (h : cls < 4) :
    Keeps reportParts d (d.fault code src cls detail own) := by
  have h4 : ¬ cls = 4 := by omega
  have e : ∀ e : Dev, ∀ b : Bool, Keeps reportParts d e → ∀ a c w3 w4 w5 w6 : Nat, ∀ k, Keeps reportParts d (if b = true then e else (e.record a c cls w3 w4 w5 w6).noteRecord k) := by
    intro e b he a c w3 w4 w5 w6 k
    exact Keeps.ite he ((Dev.noteRecord_keeps _ _).step (by decide) ((Dev.record_keeps _ _ _ _ _ _ _ _ _).step (fun _ h => h) he))
  simp only [Dev.fault, h4, false_and, if_false, decide_false, Bool.false_and, Bool.false_or]
  exact e _ _ (Dev.faultCoreF_keeps _ _ _ _ _ _) _ _ _ _ _ _ _

theorem Dev.failFn_keeps (d : Dev) (fix : Nat) : Keeps (.fn :: reportParts) d (d.failFn fix) := by
  unfold Dev.failFn
  exact Keeps.ite ((Dev.setFn_keeps _ _ _).mono (by decide)) ((Dev.fault_keeps _ _ _ _ _ _ (by omega)).step (by decide) ((Dev.setFn_keeps _ _ _).mono (by decide)))

theorem Dev.failFn_fn (d : Dev) (fix : Nat) : (d.failFn fix).fn = (d.setFn fix { st := .failed }).fn := by
  unfold Dev.failFn
  dsimp only
  split
  · rfl
  · exact (Dev.fault_keeps (d.setFn fix { st := .failed }) 0x0F1E (fixBlock fix) 2 fix false (by omega)) .fn (by decide)

theorem Dev.failFn_fnOf (d : Dev) (fix : Nat) : (d.failFn fix).fnOf fix = { st := .failed } := by
  have h := d.failFn_fn fix
  simp only [Dev.fnOf, h]
  exact Dev.fnOf_setFn d fix _
end Sys2Proof.Machine
end

