-- ==== Sys2Proof/Laws/Lookup.lean ====
section
/-! SUPPORT. Sys2Proof/Laws/Lookup.lean: what an insertion into the lookup table does (R114 to R116), said once. -/

namespace Sys2Proof.Machine

/-- What a slot resolves: key and MIX, without its place. -/
def Slot.entry (e : Slot) : Nat × Nat × Nat := (e.kind, e.addr, e.mix)

/-- A move changes an entry's bucket alone. -/
theorem move_entry (ix : List Slot) (e : Slot) (o : Nat) :
    (ix.map (fun x => if x = e then { x with bucket := some o } else x)).map Slot.entry = ix.map Slot.entry := by
  rw [List.map_map]
  refine List.map_congr_left (fun x _ => ?_)
  by_cases h : x = e <;> simp [h, Slot.entry]

/-- The moves of R116 lose, add and change no key. -/
theorem moveOut_entry (g : Grade) (seed : BitVec 128) (f : Nat) (moves : List (Fin 4)) (ix l : List Slot) (b : Nat)
    (h : moveOut g seed f moves ix b = some l) : l.map Slot.entry = ix.map Slot.entry := by
  induction f generalizing moves b l with
  | zero => simp [moveOut] at h
  | succ f ih =>
    unfold moveOut at h
    split at h
    · cases h
    · dsimp only at h
      split at h
      · cases h; exact move_entry _ _ _
      · split at h
        · rename_i t ht
          split at h
          · cases h; rw [move_entry]; exact ih _ _ _ ht
          · cases h
        · cases h

/-- An insertion adds its key and keeps every other, whichever places they take. -/
theorem insertKey_entry (g : Grade) (seed : BitVec 128) (moves : List (Fin 4)) (ix : List Slot) (kind addr m : Nat) :
    (insertKey g seed moves ix kind addr m).map Slot.entry = (kind, addr, m) :: ix.map Slot.entry := by
  have h : (match moveOut g seed 16 moves ix (keyBucket g seed kind addr false) with
      | some l => (⟨kind, addr, m, some (keyBucket g seed kind addr false)⟩ : Slot) :: l
      | none => (⟨kind, addr, m, none⟩ : Slot) :: ix).map Slot.entry = (kind, addr, m) :: ix.map Slot.entry := by
    split
    · rename_i l hl
      rw [List.map_cons, moveOut_entry _ _ _ _ _ _ _ hl]; rfl
    · rfl
  unfold insertKey
  dsimp only
  split_ifs <;> first | rfl | exact h

/-- A table built anew resolves the same keys, whatever the seed and the moves. -/
theorem Dev.buildIndex_entry (d : Dev) (keys : List ((Nat × Nat × Nat) × List (Fin 4))) :
    (d.buildIndex keys).map Slot.entry = (keys.map Prod.fst).reverse := by
  have h : ∀ ix : List Slot, (keys.foldl (fun ix k => d.withKey k.2 ix k.1.1 k.1.2.1 k.1.2.2) ix).map Slot.entry
      = (keys.map Prod.fst).reverse ++ ix.map Slot.entry := by
    induction keys with
    | nil => intro ix; rfl
    | cons k t ih =>
      intro ix
      rw [List.foldl_cons, ih, Dev.withKey, insertKey_entry, List.map_cons, List.reverse_cons, List.append_assoc]
      rfl
  simpa [Dev.buildIndex] using h []

/-- An insertion touches the Context engine, and the free values where it starts a rebuild. -/
theorem Dev.indexPut_keeps (d : Dev) (moves : List (Fin 4)) (kind addr m : Nat) :
    Keeps [.ctx, .freeCtr] d (d.indexPut moves kind addr m).2 := by
  unfold Dev.indexPut
  split
  · exact Keeps.refl _ _
  · dsimp only
    split
    · exact (Keeps.ctx _ _).mono (by decide)
    · split
      · exact (Keeps.ctx _ _).step (by decide) ((Keeps.ctx _ _).step (by decide) ((Keeps.freeCtr _ _).mono (by decide)))
      · exact (Keeps.ctx _ _).mono (by decide)

/-- An insertion that is taken adds its key. -/
theorem Dev.indexPut_entry (d : Dev) (moves : List (Fin 4)) (kind addr m : Nat) (h : (d.indexPut moves kind addr m).1 = true) :
    (d.indexPut moves kind addr m).2.ctx.index.map Slot.entry = (kind, addr, m) :: d.ctx.index.map Slot.entry := by
  unfold Dev.indexPut at h ⊢
  split at h
  · cases h
  · rename_i hr
    rw [if_neg hr]
    dsimp only at h ⊢
    split at h
    · rename_i hl; rw [if_pos hl]; exact insertKey_entry _ _ _ _ _ _ _
    · rename_i hl
      rw [if_neg hl]
      split at h
      · cases h
      · rename_i hs; rw [if_neg hs]; exact insertKey_entry _ _ _ _ _ _ _

/-- The report of R221 touches the field link alone. -/
theorem Dev.fdAuth_keeps (d : Dev) (fdx dseq : Nat) : Keeps [.fl] d (d.fdAuth fdx dseq) := Keeps.fl _ _

end Sys2Proof.Machine
end

