-- ==== Sys2Proof/Laws/PerInstr.lean ====
section
/-! SUPPORT. Sys2Proof/Laws/PerInstr.lean: what each command asks of its operands, one lemma for each constructor. -/

namespace Sys2Proof.Laws.Operands

/-- The operands of a command are well formed exactly if the check of its constructor holds. -/
def Statement (i : Instr) : Prop :=
  (i.wf = true ↔ match i with
    | .fetchGrant descs _ => grantOk descs = true
    | .unalignedAccess _ off bytes => unalignedOk off bytes = true
    | .boot env => bootOk env = true
    | .demandBoundary minutes => demandOk minutes = true
    | .tftpRecoveryRead block => tftpOk block = true
    | _ => True)

theorem registerWrite (off : BitVec 24) (val : Word) : Statement (.registerWrite off val) := iff_of_true rfl trivial
theorem unalignedAccess (isWrite : Bool) (off : BitVec 24) (bytes : Nat) : Statement (.unalignedAccess isWrite off bytes) := Iff.rfl
theorem cfgLockSet (val : Word) : Statement (.cfgLockSet val) := iff_of_true rfl trivial
theorem configStoreWrite : Statement (.configStoreWrite) := iff_of_true rfl trivial
theorem doorbellSubTail (pair : Fin 64) (val : Word) : Statement (.doorbellSubTail pair val) := iff_of_true rfl trivial
theorem doorbellCmpHead (pair : Fin 64) (val : Word) : Statement (.doorbellCmpHead pair val) := iff_of_true rfl trivial
theorem fetchGrant (descs : List Desc) (latNs : Nat) : Statement (.fetchGrant descs latNs) := Iff.rfl
theorem fetchFailed (req : Fin 64 × AerErr) : Statement (.fetchFailed req) := iff_of_true rfl trivial
theorem completionWrite (pair : Fin 64) : Statement (.completionWrite pair) := iff_of_true rfl trivial
theorem eventPost : Statement (.eventPost) := iff_of_true rfl trivial
theorem irqModTimer (pair : Fin 64) : Statement (.irqModTimer pair) := iff_of_true rfl trivial
theorem msixUnmask (vec : Fin 128) : Statement (.msixUnmask vec) := iff_of_true rfl trivial
theorem stoppingPairTimeout (pair : Fin 64) : Statement (.stoppingPairTimeout pair) := iff_of_true rfl trivial
theorem rngLatClr (val : Word) : Statement (.rngLatClr val) := iff_of_true rfl trivial
theorem rngPairCntClear (pair : Fin 64) (val : Word) : Statement (.rngPairCntClear pair val) := iff_of_true rfl trivial
theorem reservedOpcode (pair : Fin 64) : Statement (.reservedOpcode pair) := iff_of_true rfl trivial
theorem cfgSet (pair : Fin 64) : Statement (.cfgSet pair) := iff_of_true rfl trivial
theorem cfgGet (pair : Fin 64) : Statement (.cfgGet pair) := iff_of_true rfl trivial
theorem cfgCommit (pair : Fin 64) : Statement (.cfgCommit pair) := iff_of_true rfl trivial
theorem policyLoad (pair : Fin 64) (buf : HostRead) : Statement (.policyLoad pair buf) := iff_of_true rfl trivial
theorem policyGet (pair : Fin 64) : Statement (.policyGet pair) := iff_of_true rfl trivial
theorem policyHold (pair : Fin 64) : Statement (.policyHold pair) := iff_of_true rfl trivial
theorem readNow (pair : Fin 64) : Statement (.readNow pair) := iff_of_true rfl trivial
theorem readLog (pair : Fin 64) : Statement (.readLog pair) := iff_of_true rfl trivial
theorem writeObj (pair : Fin 64) (buf : HostRead) : Statement (.writeObj pair buf) := iff_of_true rfl trivial
theorem writeAction (pair : Fin 64) (buf : HostRead) : Statement (.writeAction pair buf) := iff_of_true rfl trivial
theorem writeTime (pair : Fin 64) : Statement (.writeTime pair) := iff_of_true rfl trivial
theorem tariffLoad (pair : Fin 64) (buf : HostRead) : Statement (.tariffLoad pair buf) := iff_of_true rfl trivial
theorem tariffActivate (pair : Fin 64) : Statement (.tariffActivate pair) := iff_of_true rfl trivial
theorem tariffGet (pair : Fin 64) : Statement (.tariffGet pair) := iff_of_true rfl trivial
theorem timeConfirm (pair : Fin 64) : Statement (.timeConfirm pair) := iff_of_true rfl trivial
theorem imageStage (pair : Fin 64) (buf : HostRead) : Statement (.imageStage pair buf) := iff_of_true rfl trivial
theorem imageStart (pair : Fin 64) : Statement (.imageStart pair) := iff_of_true rfl trivial
theorem imageStatus (pair : Fin 64) : Statement (.imageStatus pair) := iff_of_true rfl trivial
theorem imageAbort (pair : Fin 64) : Statement (.imageAbort pair) := iff_of_true rfl trivial
theorem fwWrite (pair : Fin 64) (buf : HostRead) : Statement (.fwWrite pair buf) := iff_of_true rfl trivial
theorem fwActivate (pair : Fin 64) : Statement (.fwActivate pair) := iff_of_true rfl trivial
theorem keyStage (pair : Fin 64) : Statement (.keyStage pair) := iff_of_true rfl trivial
theorem keyCommit (pair : Fin 64) : Statement (.keyCommit pair) := iff_of_true rfl trivial
theorem keyDiscard (pair : Fin 64) : Statement (.keyDiscard pair) := iff_of_true rfl trivial
theorem attest (pair : Fin 64) : Statement (.attest pair) := iff_of_true rfl trivial
theorem ctxGet (pair : Fin 64) : Statement (.ctxGet pair) := iff_of_true rfl trivial
theorem ctxAdmit (pair : Fin 64) (moves : List (Fin 4)) : Statement (.ctxAdmit pair moves) := iff_of_true rfl trivial
theorem ctxRetire (pair : Fin 64) : Statement (.ctxRetire pair) := iff_of_true rfl trivial
theorem ctxOwner (pair : Fin 64) : Statement (.ctxOwner pair) := iff_of_true rfl trivial
theorem mediaHealth (pair : Fin 64) : Statement (.mediaHealth pair) := iff_of_true rfl trivial
theorem mediaDrain (pair : Fin 64) : Statement (.mediaDrain pair) := iff_of_true rfl trivial
theorem logRead (pair : Fin 64) : Statement (.logRead pair) := iff_of_true rfl trivial
theorem logFreeze (pair : Fin 64) : Statement (.logFreeze pair) := iff_of_true rfl trivial
theorem faultHist (pair : Fin 64) : Statement (.faultHist pair) := iff_of_true rfl trivial
theorem pairStatus (pair : Fin 64) : Statement (.pairStatus pair) := iff_of_true rfl trivial
theorem pairSwap (pair : Fin 64) : Statement (.pairSwap pair) := iff_of_true rfl trivial
theorem pairDrill (pair : Fin 64) (results : BitVec 4) : Statement (.pairDrill pair results) := iff_of_true rfl trivial
theorem diagEcho (pair : Fin 64) : Statement (.diagEcho pair) := iff_of_true rfl trivial
theorem diagCounters (pair : Fin 64) : Statement (.diagCounters pair) := iff_of_true rfl trivial
theorem diagLoop (pair : Fin 64) : Statement (.diagLoop pair) := iff_of_true rfl trivial
theorem diagLoopEnd (loop : Nat) (pass : Bool) (part : BitVec 8) (errors : BitVec 16) : Statement (.diagLoopEnd loop pass part errors) := iff_of_true rfl trivial
theorem lineFrameRx (port : Fin 2) (rx : LineRx) : Statement (.lineFrameRx port rx) := iff_of_true rfl trivial
theorem segmentTimeout (port : Fin 2) : Statement (.segmentTimeout port) := iff_of_true rfl trivial
theorem portBoundary (port : Fin 7) (fdx : Fin 1024) (bytes : Nat) : Statement (.portBoundary port fdx bytes) := iff_of_true rfl trivial
theorem backoffExpiry (port : Fin 2) : Statement (.backoffExpiry port) := iff_of_true rfl trivial
theorem exchangeTimeout (port : Fin 6) : Statement (.exchangeTimeout port) := iff_of_true rfl trivial
theorem exchangeEnd (port : Fin 6) : Statement (.exchangeEnd port) := iff_of_true rfl trivial
theorem lineTxEnd (port : Fin 2) (gain : Fin 8) : Statement (.lineTxEnd port gain) := iff_of_true rfl trivial
theorem blankEnd (port : Fin 2) : Statement (.blankEnd port) := iff_of_true rfl trivial
theorem govSample (port : Fin 2) (vsns isns : BitVec 14) : Statement (.govSample port vsns isns) := iff_of_true rfl trivial
theorem govCapWrite (port : Fin 2) (val : Word) : Statement (.govCapWrite port val) := iff_of_true rfl trivial
theorem govFuseGo (port : Fin 2) (val : Word) : Statement (.govFuseGo port val) := iff_of_true rfl trivial
theorem govFuseDone (port : Fin 2) : Statement (.govFuseDone port) := iff_of_true rfl trivial
theorem lcpCounterClear (port : Fin 2) (counter : Fin 12) (val : Word) : Statement (.lcpCounterClear port counter val) := iff_of_true rfl trivial
theorem tmRefreshDue (port : Fin 2) (nb : Fin 2048) : Statement (.tmRefreshDue port nb) := iff_of_true rfl trivial
theorem tmTtlExpiry (port : Fin 2) (nb : Fin 2048) : Statement (.tmTtlExpiry port nb) := iff_of_true rfl trivial
theorem zeroCrossEdge (port : Fin 2) (edge : Fin 3 × Bool) : Statement (.zeroCrossEdge port edge) := iff_of_true rfl trivial
theorem portPollWindow (port : Fin 2) : Statement (.portPollWindow port) := iff_of_true rfl trivial
theorem neighbourAgeExpiry (port : Fin 2) (nb : Fin 2048) : Statement (.neighbourAgeExpiry port nb) := iff_of_true rfl trivial
theorem nbSnapshotRead (port : Fin 2) (route : Bool) : Statement (.nbSnapshotRead port route) := iff_of_true rfl trivial
theorem radioFrameRx (port : Fin 4) (rx : RadioRx) (answer us : Nat) : Statement (.radioFrameRx port rx answer us) := iff_of_true rfl trivial
theorem seenKeyExpiry (port : Fin 4) : Statement (.seenKeyExpiry port) := iff_of_true rfl trivial
theorem iqLaneTrained (port : Fin 4) (dly : BitVec 6 × BitVec 6) (bad : Nat) : Statement (.iqLaneTrained port dly bad) := iff_of_true rfl trivial
theorem iqLockTimeout (port : Fin 4) : Statement (.iqLockTimeout port) := iff_of_true rfl trivial
theorem iqLockLost (lost : Fin 4 × Nat) : Statement (.iqLockLost lost) := iff_of_true rfl trivial
theorem spiIrqEdge (port : Fin 4) : Statement (.spiIrqEdge port) := iff_of_true rfl trivial
theorem lbtListenEnd (port : Fin 4) (rssi : Int) (us : Nat) : Statement (.lbtListenEnd port rssi us) := iff_of_true rfl trivial
theorem dutyWaitEnd (port : Fin 4) : Statement (.dutyWaitEnd port) := iff_of_true rfl trivial
theorem agreedSlot (mix : BitVec 20) (rssi : List Int) (bytes us : Nat) : Statement (.agreedSlot mix rssi bytes us) := iff_of_true rfl trivial
theorem slotAnswerTimeout (mix : BitVec 20) : Statement (.slotAnswerTimeout mix) := iff_of_true rfl trivial
theorem wmbFrameLate (mix : BitVec 20) : Statement (.wmbFrameLate mix) := iff_of_true rfl trivial
theorem rendezvousWindowOpen (mix : BitVec 20) : Statement (.rendezvousWindowOpen mix) := iff_of_true rfl trivial
theorem rendezvousWindowClose (mix : BitVec 20) : Statement (.rendezvousWindowClose mix) := iff_of_true rfl trivial
theorem frameProcess (queue : Fin 10) : Statement (.frameProcess queue) := iff_of_true rfl trivial
theorem joinRx (queue : Fin 10) (moves : List (Fin 4)) : Statement (.joinRx queue moves) := iff_of_true rfl trivial
theorem joinTimeout (mix : BitVec 20) : Statement (.joinTimeout mix) := iff_of_true rfl trivial
theorem lookupRehashDone (moves : List (List (Fin 4))) : Statement (.lookupRehashDone moves) := iff_of_true rfl trivial
theorem contextSnapshotStart : Statement (.contextSnapshotStart) := iff_of_true rfl trivial
theorem cacheSetUnpin (set : Fin 2048) : Statement (.cacheSetUnpin set) := iff_of_true rfl trivial
theorem gapFill (mix : BitVec 20) : Statement (.gapFill mix) := iff_of_true rfl trivial
theorem veeFlagsClear : Statement (.veeFlagsClear) := iff_of_true rfl trivial
theorem intervalEventWindow : Statement (.intervalEventWindow) := iff_of_true rfl trivial
theorem balanceForm : Statement (.balanceForm) := iff_of_true rfl trivial
theorem ledgerEvaluation : Statement (.ledgerEvaluation) := iff_of_true rfl trivial
theorem ledgerRecomputeDone : Statement (.ledgerRecomputeDone) := iff_of_true rfl trivial
theorem booking : Statement (.booking) := iff_of_true rfl trivial
theorem tariffActivation (grp : Fin 4096) : Statement (.tariffActivation grp) := iff_of_true rfl trivial
theorem demandBoundary (minutes : Nat) : Statement (.demandBoundary minutes) := Iff.rfl
theorem closeInstant (grp : Fin 4096) : Statement (.closeInstant grp) := iff_of_true rfl trivial
theorem closeSweepEnd (grp : Fin 4096) : Statement (.closeSweepEnd grp) := iff_of_true rfl trivial
theorem displayFrame : Statement (.displayFrame) := iff_of_true rfl trivial
theorem bar4Write (off : BitVec 20) (val : Word) : Statement (.bar4Write off val) := iff_of_true rfl trivial
theorem checkValueRecompute (digest : BitVec 256) : Statement (.checkValueRecompute digest) := iff_of_true rfl trivial
theorem holdover24h : Statement (.holdover24h) := iff_of_true rfl trivial
theorem ptpMessageRx (port : Fin 4) (msg : PtpMsg) : Statement (.ptpMessageRx port msg) := iff_of_true rfl trivial
theorem ptpMessageTx (port : Fin 4) (kind : Fin 3) : Statement (.ptpMessageTx port kind) := iff_of_true rfl trivial
theorem ptpSourceLost (port : Fin 4) : Statement (.ptpSourceLost port) := iff_of_true rfl trivial
theorem leapSecond : Statement (.leapSecond) := iff_of_true rfl trivial
theorem rtcSet : Statement (.rtcSet) := iff_of_true rfl trivial
theorem rateStore : Statement (.rateStore) := iff_of_true rfl trivial
theorem timeSnapshotRead : Statement (.timeSnapshotRead) := iff_of_true rfl trivial
theorem hostTimerEnable (unit : Fin 8) (val : Word) : Statement (.hostTimerEnable unit val) := iff_of_true rfl trivial
theorem hostTimerFire (timer : Fin 4) : Statement (.hostTimerFire timer) := iff_of_true rfl trivial
theorem ppsEdge (n : Fin 4) : Statement (.ppsEdge n) := iff_of_true rfl trivial
theorem ppsWidthEnd (n : Fin 4) : Statement (.ppsWidthEnd n) := iff_of_true rfl trivial
theorem captureEdge (n : Fin 4) (rising : Bool) : Statement (.captureEdge n rising) := iff_of_true rfl trivial
theorem capturePop (n : Fin 4) : Statement (.capturePop n) := iff_of_true rfl trivial
theorem txqPop (port : Fin 4) (val : Word) : Statement (.txqPop port val) := iff_of_true rfl trivial
theorem beaconDue (port : Fin 6) : Statement (.beaconDue port) := iff_of_true rfl trivial
theorem queueRefill (queue : Fin 256) : Statement (.queueRefill queue) := iff_of_true rfl trivial
theorem holdRelease (queue : Fin 256) : Statement (.holdRelease queue) := iff_of_true rfl trivial
theorem queueFlush (queue : Fin 256) (val : Word) : Statement (.queueFlush queue val) := iff_of_true rfl trivial
theorem flushDone (queue : Fin 256) : Statement (.flushDone queue) := iff_of_true rfl trivial
theorem cellEccError (queue : Option (Fin 256)) (item : Nat) (header : Bool) : Statement (.cellEccError queue item header) := iff_of_true rfl trivial
theorem poolScanDone (queue : Fin 256) : Statement (.poolScanDone queue) := iff_of_true rfl trivial
theorem stormWindow : Statement (.stormWindow) := iff_of_true rfl trivial
theorem heatStart (grp : Fin 4096) : Statement (.heatStart grp) := iff_of_true rfl trivial
theorem heatEnd (grp : Fin 4096) : Statement (.heatEnd grp) := iff_of_true rfl trivial
theorem schedEntryDue (mix : BitVec 20) : Statement (.schedEntryDue mix) := iff_of_true rfl trivial
theorem pushGraceExpiry (mix : BitVec 20) : Statement (.pushGraceExpiry mix) := iff_of_true rfl trivial
theorem censusStart : Statement (.censusStart) := iff_of_true rfl trivial
theorem ethFrameRx (port : Fin 4) (frame : EthRx) : Statement (.ethFrameRx port frame) := iff_of_true rfl trivial
theorem ethFrameTx (port : Fin 4) : Statement (.ethFrameTx port) := iff_of_true rfl trivial
theorem pauseExpiry (port : Fin 4) : Statement (.pauseExpiry port) := iff_of_true rfl trivial
theorem ethLinkDown (port : Fin 4) : Statement (.ethLinkDown port) := iff_of_true rfl trivial
theorem ethLinkUp (port : Fin 4) (speed : Fin 3) : Statement (.ethLinkUp port speed) := iff_of_true rfl trivial
theorem serdesLockLoss (port : Fin 5) : Statement (.serdesLockLoss port) := iff_of_true rfl trivial
theorem mgtTxGo (port : Fin 4) (val : Word) : Statement (.mgtTxGo port val) := iff_of_true rfl trivial
theorem mgtRxPop (port : Fin 4) (val : Word) : Statement (.mgtRxPop port val) := iff_of_true rfl trivial
theorem ethCounterSnapshotRead (port : Fin 4) (counter : Fin 18) : Statement (.ethCounterSnapshotRead port counter) := iff_of_true rfl trivial
theorem flFrameRx (port : Fin 4) : Statement (.flFrameRx port) := iff_of_true rfl trivial
theorem helloKRx : Statement (.helloKRx) := iff_of_true rfl trivial
theorem keywrapRx : Statement (.keywrapRx) := iff_of_true rfl trivial
theorem helloRx : Statement (.helloRx) := iff_of_true rfl trivial
theorem welcomeRx : Statement (.welcomeRx) := iff_of_true rfl trivial
theorem flHeartbeatRx : Statement (.flHeartbeatRx) := iff_of_true rfl trivial
theorem meterUpRx : Statement (.meterUpRx) := iff_of_true rfl trivial
theorem dataAckRx : Statement (.dataAckRx) := iff_of_true rfl trivial
theorem orderRx : Statement (.orderRx) := iff_of_true rfl trivial
theorem orderDoneRx : Statement (.orderDoneRx) := iff_of_true rfl trivial
theorem joinOkRx (moves : List (Fin 4)) : Statement (.joinOkRx moves) := iff_of_true rfl trivial
theorem releaseRx : Statement (.releaseRx) := iff_of_true rfl trivial
theorem timeRecordRx : Statement (.timeRecordRx) := iff_of_true rfl trivial
theorem delayReqRx : Statement (.delayReqRx) := iff_of_true rfl trivial
theorem delayRspRx : Statement (.delayRspRx) := iff_of_true rfl trivial
theorem joinRecordRx : Statement (.joinRecordRx) := iff_of_true rfl trivial
theorem meterStsRx : Statement (.meterStsRx) := iff_of_true rfl trivial
theorem portStsRx : Statement (.portStsRx) := iff_of_true rfl trivial
theorem checkRecRx : Statement (.checkRecRx) := iff_of_true rfl trivial
theorem flTimeSend (fdx : Fin 1024) : Statement (.flTimeSend fdx) := iff_of_true rfl trivial
theorem flTimeMiss : Statement (.flTimeMiss) := iff_of_true rfl trivial
theorem flHeartbeatSend (fdx : Fin 1024) : Statement (.flHeartbeatSend fdx) := iff_of_true rfl trivial
theorem flLinkLost : Statement (.flLinkLost) := iff_of_true rfl trivial
theorem fdxLost (fdx : Fin 1024) : Statement (.fdxLost fdx) := iff_of_true rfl trivial
theorem flRtoExpiry : Statement (.flRtoExpiry) := iff_of_true rfl trivial
theorem dataAckDue (fdx : Fin 1024) : Statement (.dataAckDue fdx) := iff_of_true rfl trivial
theorem helloResend : Statement (.helloResend) := iff_of_true rfl trivial
theorem portStsSend : Statement (.portStsSend) := iff_of_true rfl trivial
theorem flCodeVoid : Statement (.flCodeVoid) := iff_of_true rfl trivial
theorem flPortFailback : Statement (.flPortFailback) := iff_of_true rfl trivial
theorem mediaWrite : Statement (.mediaWrite) := iff_of_true rfl trivial
theorem mediaRead (lu : Nat) (step : Option (Fin 4)) (bits : Nat) (overLimit : Bool) : Statement (.mediaRead lu step bits overLimit) := iff_of_true rfl trivial
theorem foldStart : Statement (.foldStart) := iff_of_true rfl trivial
theorem gcStart : Statement (.gcStart) := iff_of_true rfl trivial
theorem gcSwitch : Statement (.gcSwitch) := iff_of_true rfl trivial
theorem nandProgramFail (eu : Nat) (what : Fin 3) : Statement (.nandProgramFail eu what) := iff_of_true rfl trivial
theorem euRefresh (eu : Nat) : Statement (.euRefresh eu) := iff_of_true rfl trivial
theorem wearLevelMove : Statement (.wearLevelMove) := iff_of_true rfl trivial
theorem historyRelease : Statement (.historyRelease) := iff_of_true rfl trivial
theorem billingSnapshot : Statement (.billingSnapshot) := iff_of_true rfl trivial
theorem nandChannelFail (n : Fin 4) : Statement (.nandChannelFail n) := iff_of_true rfl trivial
theorem ftlFormatRequest (val : Word) : Statement (.ftlFormatRequest val) := iff_of_true rfl trivial
theorem ftlFormatCancel (val : Word) : Statement (.ftlFormatCancel val) := iff_of_true rfl trivial
theorem claimInChange (level stays : Bool) : Statement (.claimInChange level stays) := iff_of_true rfl trivial
theorem arbListenEnd : Statement (.arbListenEnd) := iff_of_true rfl trivial
theorem arbRx (hdr : PairHdr) (rootValid lastStroke side : Bool) (serial : Nat) : Statement (.arbRx hdr rootValid lastStroke side serial) := iff_of_true rfl trivial
theorem arbClaimInstant : Statement (.arbClaimInstant) := iff_of_true rfl trivial
theorem pairHeartbeatSend : Statement (.pairHeartbeatSend) := iff_of_true rfl trivial
theorem pairHeartbeatRx (hdr : PairHdr) (peer : PairPeer) : Statement (.pairHeartbeatRx hdr peer) := iff_of_true rfl trivial
theorem pairHeartbeatMiss : Statement (.pairHeartbeatMiss) := iff_of_true rfl trivial
theorem claimTimerExpiry : Statement (.claimTimerExpiry) := iff_of_true rfl trivial
theorem claimLowTimeout : Statement (.claimLowTimeout) := iff_of_true rfl trivial
theorem strokeCycleClose : Statement (.strokeCycleClose) := iff_of_true rfl trivial
theorem deltaRx (hdr : PairHdr) (recs : List DeltaRec) : Statement (.deltaRx hdr recs) := iff_of_true rfl trivial
theorem endRx (hdr : PairHdr) (count : Nat) (hashOk : Bool) : Statement (.endRx hdr count hashOk) := iff_of_true rfl trivial
theorem ackRx (hdr : PairHdr) : Statement (.ackRx hdr) := iff_of_true rfl trivial
theorem strokeCycleEnd : Statement (.strokeCycleEnd) := iff_of_true rfl trivial
theorem jmirRx (hdr : PairHdr) (entries : List (Nat × JWhat)) : Statement (.jmirRx hdr entries) := iff_of_true rfl trivial
theorem jackRx (hdr : PairHdr) (seq : Nat) : Statement (.jackRx hdr seq) := iff_of_true rfl trivial
theorem creditRx (hdr : PairHdr) (cells : Nat) : Statement (.creditRx hdr cells) := iff_of_true rfl trivial
theorem creditSend : Statement (.creditSend) := iff_of_true rfl trivial
theorem yieldRx (hdr : PairHdr) : Statement (.yieldRx hdr) := iff_of_true rfl trivial
theorem swapRx (hdr : PairHdr) : Statement (.swapRx hdr) := iff_of_true rfl trivial
theorem swapTimeout : Statement (.swapTimeout) := iff_of_true rfl trivial
theorem catchupRequest (hdr : Option PairHdr) : Statement (.catchupRequest hdr) := iff_of_true rfl trivial
theorem catchupRx (hdr : PairHdr) (recs : List DeltaRec) : Statement (.catchupRx hdr recs) := iff_of_true rfl trivial
theorem catchupDone : Statement (.catchupDone) := iff_of_true rfl trivial
theorem drillRx (hdr : PairHdr) (step : Fin 5) (means : List (Nat × Nat × Nat)) (result : Option (Bool × Nat)) (finds : Bool) : Statement (.drillRx hdr step means result finds) := iff_of_true rfl trivial
theorem drillWindow : Statement (.drillWindow) := iff_of_true rfl trivial
theorem drillHoldEnd : Statement (.drillHoldEnd) := iff_of_true rfl trivial
theorem pairLaneLoss (lane : Fin 2) : Statement (.pairLaneLoss lane) := iff_of_true rfl trivial
theorem pairLaneReturn (lane : Fin 2) : Statement (.pairLaneReturn lane) := iff_of_true rfl trivial
theorem pairForce (val : Word) : Statement (.pairForce val) := iff_of_true rfl trivial
theorem parDeltaClear (val : Word) : Statement (.parDeltaClear val) := iff_of_true rfl trivial
theorem rootGenerate (val : Word) : Statement (.rootGenerate val) := iff_of_true rfl trivial
theorem rootCloneSend (val : Word) : Statement (.rootCloneSend val) := iff_of_true rfl trivial
theorem rootCloneRecv (val : Word) : Statement (.rootCloneRecv val) := iff_of_true rfl trivial
theorem cloneFrameRx (body : PairBody) : Statement (.cloneFrameRx body) := iff_of_true rfl trivial
theorem rootZeroise (val : Word) : Statement (.rootZeroise val) := iff_of_true rfl trivial
theorem cloneCodeWrite (n : Fin 4) (val : Word) : Statement (.cloneCodeWrite n val) := iff_of_true rfl trivial
theorem cloneCodeVoid : Statement (.cloneCodeVoid) := iff_of_true rfl trivial
theorem ktkClearLoad (val : Word) : Statement (.ktkClearLoad val) := iff_of_true rfl trivial
theorem ktkWrappedLoad (val : Word) : Statement (.ktkWrappedLoad val) := iff_of_true rfl trivial
theorem ktkErase (val : Word) : Statement (.ktkErase val) := iff_of_true rfl trivial
theorem tamperLatchClear (val : Word) : Statement (.tamperLatchClear val) := iff_of_true rfl trivial
theorem tamperInputTrip (n : Fin 4) : Statement (.tamperInputTrip n) := iff_of_true rfl trivial
theorem tamperMeshTrip : Statement (.tamperMeshTrip) := iff_of_true rfl trivial
theorem tamperTempTrip (temp : Int) : Statement (.tamperTempTrip temp) := iff_of_true rfl trivial
theorem tamperVoltageTrip (core sram : Nat) : Statement (.tamperVoltageTrip core sram) := iff_of_true rfl trivial
theorem tamperBatteryTrip (vbat : Nat) : Statement (.tamperBatteryTrip vbat) := iff_of_true rfl trivial
theorem tamperRootClockTrip (khz : Nat) : Statement (.tamperRootClockTrip khz) := iff_of_true rfl trivial
theorem authRateWindow : Statement (.authRateWindow) := iff_of_true rfl trivial
theorem metChOutput (ch : Fin 24) (bits : Nat) (overload : Bool) : Statement (.metChOutput ch bits overload) := iff_of_true rfl trivial
theorem swapArm (ch : Fin 24) (val : Word) : Statement (.swapArm ch val) := iff_of_true rfl trivial
theorem metTrimGainWrite (ch : Fin 24) (gain : Bool) (val : Word) : Statement (.metTrimGainWrite ch gain val) := iff_of_true rfl trivial
theorem bankActiveWrite (ch : Fin 24) (word : Fin 97) (val : Word) : Statement (.bankActiveWrite ch word val) := iff_of_true rfl trivial
theorem bitstreamStuck (ch : Fin 24) : Statement (.bitstreamStuck ch) := iff_of_true rfl trivial
theorem bitstreamRecover (ch : Fin 24) : Statement (.bitstreamRecover ch) := iff_of_true rfl trivial
theorem cmSecond (cm : Fin 4) : Statement (.cmSecond cm) := iff_of_true rfl trivial
theorem cmIntervalClose (cm : Fin 4) : Statement (.cmIntervalClose cm) := iff_of_true rfl trivial
theorem functionEnable (fix : Fin 128) (val : Word) : Statement (.functionEnable fix val) := iff_of_true rfl trivial
theorem functionDisable (fix : Fin 128) (val : Word) : Statement (.functionDisable fix val) := iff_of_true rfl trivial
theorem functionStarted (fix : Fin 128) (nand : NandPart) : Statement (.functionStarted fix nand) := iff_of_true rfl trivial
theorem functionStopped (fix : Fin 128) : Statement (.functionStopped fix) := iff_of_true rfl trivial
theorem functionStartTimeout (fix : Fin 128) : Statement (.functionStartTimeout fix) := iff_of_true rfl trivial
theorem functionReset (val : Word) : Statement (.functionReset val) := iff_of_true rfl trivial
theorem softReset (val : Word) : Statement (.softReset val) := iff_of_true rfl trivial
theorem resetNAssert : Statement (.resetNAssert) := iff_of_true rfl trivial
theorem perstNAssert : Statement (.perstNAssert) := iff_of_true rfl trivial
theorem pcieHotReset : Statement (.pcieHotReset) := iff_of_true rfl trivial
theorem flr : Statement (.flr) := iff_of_true rfl trivial
theorem resetRelease (resetN perstN : Bool) : Statement (.resetRelease resetN perstN) := iff_of_true rfl trivial
theorem powerUp (offS : Nat) (cold resetN perstN pwrFailN : Bool) : Statement (.powerUp offS cold resetN perstN pwrFailN) := iff_of_true rfl trivial
theorem boot (env : BootEnv) : Statement (.boot env) := Iff.rfl
theorem bootRetry : Statement (.bootRetry) := iff_of_true rfl trivial
theorem restoreDone : Statement (.restoreDone) := iff_of_true rfl trivial
theorem spareInitDone : Statement (.spareInitDone) := iff_of_true rfl trivial
theorem pwrFailFall : Statement (.pwrFailFall) := iff_of_true rfl trivial
theorem powerFailCommitDone (us : Nat) : Statement (.powerFailCommitDone us) := iff_of_true rfl trivial
theorem pwrFailRise : Statement (.pwrFailRise) := iff_of_true rfl trivial
theorem railTrip (rails : BitVec 10) : Statement (.railTrip rails) := iff_of_true rfl trivial
theorem holdupSample (mv : BitVec 12) : Statement (.holdupSample mv) := iff_of_true rfl trivial
theorem pwrTempClear (val : Word) : Statement (.pwrTempClear val) := iff_of_true rfl trivial
theorem pllLockLoss (mem : Bool) : Statement (.pllLockLoss mem) := iff_of_true rfl trivial
theorem coreWatchdogExpiry (core : Fin 5) : Statement (.coreWatchdogExpiry core) := iff_of_true rfl trivial
theorem sramEccUncorrected (array : Fin 6) : Statement (.sramEccUncorrected array) := iff_of_true rfl trivial
theorem lpddr5EccUncorrected (region : Fin 7) (item : Option (Fin 256 × Nat)) : Statement (.lpddr5EccUncorrected region item) := iff_of_true rfl trivial
theorem emramEccUncorrected (area : Fin 5) : Statement (.emramEccUncorrected area) := iff_of_true rfl trivial
theorem billingAccessRefused (initiator : Fin 3) : Statement (.billingAccessRefused initiator) := iff_of_true rfl trivial
theorem junctionOvertemp (tj : Int) : Statement (.junctionOvertemp tj) := iff_of_true rfl trivial
theorem fltSelfFault (reg : BitVec 16) : Statement (.fltSelfFault reg) := iff_of_true rfl trivial
theorem faultPulseEnd : Statement (.faultPulseEnd) := iff_of_true rfl trivial
theorem autoResetExpiry : Statement (.autoResetExpiry) := iff_of_true rfl trivial
theorem pwrCycleRequest (val : Word) : Statement (.pwrCycleRequest val) := iff_of_true rfl trivial
theorem faultNDrive (val : Word) : Statement (.faultNDrive val) := iff_of_true rfl trivial
theorem degradedClear (val : Word) : Statement (.degradedClear val) := iff_of_true rfl trivial
theorem evrFreeze (val : Word) : Statement (.evrFreeze val) := iff_of_true rfl trivial
theorem freezeMaxExpiry : Statement (.freezeMaxExpiry) := iff_of_true rfl trivial
theorem evrSnapshotRead : Statement (.evrSnapshotRead) := iff_of_true rfl trivial
theorem optimeSave : Statement (.optimeSave) := iff_of_true rfl trivial
theorem fltCounterClear (counter : Fin 5) (val : Word) : Statement (.fltCounterClear counter val) := iff_of_true rfl trivial
theorem activationReset : Statement (.activationReset) := iff_of_true rfl trivial
theorem hitlessStep : Statement (.hitlessStep) := iff_of_true rfl trivial
theorem hitlessStop : Statement (.hitlessStop) := iff_of_true rfl trivial
theorem pairImageRx (pause : Bool) (offset total : Nat) (bytes : List Byte) : Statement (.pairImageRx pause offset total bytes) := iff_of_true rfl trivial
theorem tftpRecoveryRead (block : Option (List Byte)) : Statement (.tftpRecoveryRead block) := Iff.rfl
theorem recoveryInstall : Statement (.recoveryInstall) := iff_of_true rfl trivial
theorem imageWindowOpen (grp : Fin 4096) : Statement (.imageWindowOpen grp) := iff_of_true rfl trivial
theorem imageWindowClose (grp : Fin 4096) : Statement (.imageWindowClose grp) := iff_of_true rfl trivial
theorem imagePassStart (grp : Fin 4096) (port : Fin 7) (fdx : Fin 1024) : Statement (.imagePassStart grp port fdx) := iff_of_true rfl trivial
theorem mainSupplyLoss : Statement (.mainSupplyLoss) := iff_of_true rfl trivial
theorem rtcOscillatorStop : Statement (.rtcOscillatorStop) := iff_of_true rfl trivial
theorem radioTxEnd (port : Fin 4) : Statement (.radioTxEnd port) := iff_of_true rfl trivial
theorem transactionDeadline (pair : Fin 64) : Statement (.transactionDeadline pair) := iff_of_true rfl trivial
theorem orderDeadline (order : Word) : Statement (.orderDeadline order) := iff_of_true rfl trivial
theorem snapshotComplete : Statement (.snapshotComplete) := iff_of_true rfl trivial
theorem faultHistSnapshotRead : Statement (.faultHistSnapshotRead) := iff_of_true rfl trivial
theorem metSampleSnapshotRead (ch : Fin 24) : Statement (.metSampleSnapshotRead ch) := iff_of_true rfl trivial
theorem cmLastSnapshotRead (cm : Fin 4) : Statement (.cmLastSnapshotRead cm) := iff_of_true rfl trivial
theorem nodeDataSnapshotRead : Statement (.nodeDataSnapshotRead) := iff_of_true rfl trivial

end Sys2Proof.Laws.Operands
end

