-- ==== Sys2Proof/Tests/Slice0.lean ====
section
/-! SUPPORT. Sys2Proof/Tests/Slice0.lean: ill-formed commands, small tests, and for every statement states and operands that meet the
hypotheses of each of its clauses. -/

set_option linter.unusedVariables false
set_option Elab.async false
open Sys2Proof Sys2Proof.Machine
namespace Sys2Proof.Tests

/-- The machine after reset with a booted device. -/
def up (f : Dev → Dev) : State := { State.reset with dev := f { State.reset.dev with glb := { State.reset.dev.glb with phase := .ready } } }

/-- A descriptor of these words. -/
def dsc (w : List Nat) : Desc := ⟨(w ++ List.replicate (16 - w.length) 0).map (BitVec.ofNat 32)⟩

/-- It, held. -/
def hd (w : List Nat) : Held := { id := 7, desc := dsc w, started := false, result := none, mute := 0 }

/-- A booted device, pair 0 ON, which holds one descriptor of these words. -/
def held1 (w : List Nat) (f : Dev → Dev) : State := up (fun d => f ((d.setFn 64 { st := .on }).setPair 0 { held := [hd w] }))

namespace W02

def onPair (x : Pair) : State := up (fun d => (d.setFn 64 { st := .on }).setPair 0 x)

/-- Every clause of DoorbellsAndFetch with hypotheses is met by a state and operands. -/
theorem witness_DoorbellsAndFetch :
  (∃ (s : State) (pair : Fin 64) (val : Word), s.dev.live = true ∧ s.dev.pairState pair = .on ∧ s.dev.isEventPair pair = false ∧ ((s.dev.pair pair).tail + s.dev.subSize pair - (s.dev.pair pair).subHead) % s.dev.subSize pair ≤ (min (val.toNat % 65536) (s.dev.subSize pair - 1) + s.dev.subSize pair - (s.dev.pair pair).subHead) % s.dev.subSize pair)
  ∧ (∃ (s : State) (pair : Fin 64) (val : Word), s.dev.live = true ∧ s.dev.pairState pair = .on)
  ∧ (∃ (s : State) (x : Desc) (lat p : Nat) (round : List Nat), s.dev.live = true ∧ s.dev.grant = some (p, round) ∧ s.dev.waitingCount p = 1 ∧ grantOk [x] = true ∧ x.word 1 % 65536 = (s.dev.pair p).expSeq)
  ∧ (∃ (s : State) (pair : Fin 64) (err : AerErr), s.dev.live = true ∧ s.dev.fetchable pair = true)
  ∧ (∃ (s : State) (pair : Fin 64) (h : Held), s.dev.live = true ∧ s.dev.startable pair (fun x => !opKnown s.dev.grade (descOp x)) = some h)
  ∧ (∃ (s : State) (pair : Fin 64) (h : Held), s.takes pair 0xB0 h) :=
  ⟨⟨(onPair { tail := 2 }), 0, 5#32, by decide +kernel⟩,
   ⟨(onPair { cmpTail := 3 }), 0, 2#32, by decide +kernel⟩,
   ⟨(onPair { tail := 1 }), (dsc [0xB0, 0]), 100, 0, [], by decide +kernel⟩,
   ⟨(onPair { tail := 1 }), 0, .completionTimeout, by decide +kernel⟩,
   ⟨(held1 [0xFF] id), 0, (hd [0xFF]), by decide +kernel⟩,
   ⟨(held1 [0x500B0, 0, 0, 1, 2, 3, 4] id), 0, (hd [0x500B0, 0, 0, 1, 2, 3, 4]), by unfold State.takes; decide +kernel⟩⟩

end W02

namespace W03

def onPair (x : Pair) : State := up (fun d => (d.setFn 64 { st := .on }).setPair 0 x)
def cm : Cmpl := { tagSeq := 5, st := 0, op := 0xB0, sub := 0, target := 0, res := [1, 2, 3, 4], irq := false }
def ev : Event := { code := 0x0F1E, sev := 2, cls := 6, src := 1, target := 0, stamp := 99 }

/-- Every clause of EntriesAndInterrupts with hypotheses is met by a state and operands. -/
theorem witness_EntriesAndInterrupts :
  (∃ (s : State) (pair : Fin 64) (c : Cmpl) (t : List Cmpl), s.dev.live = true ∧ s.dev.posts pair = true ∧ s.dev.cmpFull pair = false ∧ (s.dev.pair pair).waiting = c :: t)
  ∧ (∃ (s : State) (n p : Nat) (i : Item) (e : Event), s.dev.live = true ∧ s.dev.laneHead 13 = some (n, i) ∧ i.payload = .event e ∧ e.cls ≠ 0 ∧ s.dev.eventPair e.cls = some p ∧ s.dev.cmpFull p = false)
  ∧ (∃ (s : State) (pair : Fin 64) (t : Nat), s.dev.live = true ∧ (s.dev.pair pair).oldest = some t ∧ s.dev.rd F.RNG_IRQ_MOD_TIME pair ≠ 0)
  ∧ (∃ (s : State) (vec : Fin 128), s.dev.live = true)
  ∧ (∃ (s : State) (pair : Fin 64) (t : Nat), s.dev.live = true ∧ (s.dev.pair pair).fullSince = some t ∧ s.dev.pairState pair = .stopping ∧ (s.dev.fnOf (64 + pair)).pending = false)
  ∧ (∃ (s : State) (val : Word), s.dev.live = true)
  ∧ (∃ (s : State) (pair : Fin 64) (val : Word), s.dev.live = true) :=
  ⟨⟨(onPair { waiting := [cm] }), 0, cm, [], by decide +kernel⟩,
   ⟨(up (fun d => ((((d.setFn 64 { st := .on }).wr F.RNG_PAIR_CFG_EVENT 0 1).setWord 0x10020 0xFFF).setLane 13 { cells := [⟨0, 32, .event ev⟩] }))), 0, 0, ⟨0, 32, .event ev⟩, ev, by decide +kernel⟩,
   ⟨(up (fun d => ((d.setPair 0 { unsig := 2, oldest := some 10 }).wr F.RNG_IRQ_MOD_TIME 0 4))), 0, 10, by decide +kernel⟩,
   ⟨(up (fun d => d.setVec 3 { pend := true })), 3, by decide +kernel⟩,
   ⟨(up (fun d => (d.setFn 64 { st := .stopping }).setPair 0 { waiting := [cm], fullSince := some 5 })), 0, 5, by decide +kernel⟩,
   ⟨(up (fun d => d.setWord 0x14000 0x00050006)), 1#32, by decide +kernel⟩,
   ⟨(up (fun d => d.setWord 0x10024 0x05006007)), 0, 1#32, by decide +kernel⟩⟩

end W03

namespace W04

/-- Every clause of RegisterAccesses with hypotheses is met by a state and operands. -/
theorem witness_RegisterAccesses :
  (∃ (s : State) (off : BitVec 24) (val : Word) (r : RegDef) (i : Nat), s.dev.live = true ∧ off.toNat % 4 = 0 ∧ absentOff s.dev.grade off.toNat = false ∧ winAt off.toNat = none ∧ findReg off.toNat = some (r, i) ∧ r.off ∉ ownWrites)
  ∧ (∃ (s : State) (val : Word), s.dev.live = true ∧ val.toNat % 2 = 1)
  ∧ (∃ (s : State) (off : BitVec 24) (bytes : Nat), unalignedOk off bytes = true)
  ∧ (∃ (s : State) (off : BitVec 24) (bytes : Nat), unalignedOk off bytes = true) :=
  ⟨⟨(up id), 0x20#24, 1#32, ((findReg 0x20).get (by decide)).1, 0, by decide +kernel⟩,
   ⟨(up id), 1#32, by decide +kernel⟩,
   ⟨(up id), 1#24, 4, by decide +kernel⟩,
   ⟨(up id), 4#24, 2, by decide +kernel⟩⟩

/-- Every clause of ConfigurationAndDiagnostics with hypotheses is met by a state and operands. -/
theorem witness_ConfigurationAndDiagnostics :
  (∃ (s : State), s.dev.live = true)
  ∧ (∃ (s : State) (pair : Fin 64) (h : Held), s.takes pair 0x02 h)
  ∧ (∃ (s : State) (pair : Fin 64) (h : Held) (off i : Nat) (r : RegDef), s.takes pair 0x00 h ∧ s.dev.cfgItem h.desc = .ok (.reg off) ∧ absentOff s.dev.grade off = false ∧ s.dev.on F.GLB_CFG_LOCK_LOCK = false ∧ winAt off = none ∧ findReg off = some (r, i) ∧ r.off ∉ ownWrites ∧ readEffect off = none)
  ∧ (∃ (s : State) (pair : Fin 64) (h : Held) (off : Nat), s.takes pair 0x01 h ∧ s.dev.cfgItem h.desc = .ok (.reg off) ∧ absentOff s.dev.grade off = false ∧ readEffect off = none)
  ∧ (∃ (s : State) (pair : Fin 64) (h : Held), s.takes pair 0xB1 h)
  ∧ (∃ (s : State) (pair : Fin 64) (h : Held) (fix : Nat), s.takes pair 0xB2 h ∧ fix = funcFix (bitsOf (h.desc.word 2) 20 8) (h.desc.word 2 % 2 ^ 20) ∧ (loopKinds (bitsOf (h.desc.word 2) 20 8)).contains (h.desc.word 3) = true ∧ s.dev.isOn fix = true ∧ s.dev.loopMayStart fix = true)
  ∧ (∃ (s : State) (n fix k p id : Nat) (pass : Bool) (part : BitVec 8) (errors : BitVec 16), s.dev.live = true ∧ s.dev.rng.loops[n]? = some (fix, k, p, id) ∧ ¬ (14 ≤ fix ∧ fix < 18)) :=
  ⟨⟨(up (fun d => (d.setWord 0x10 1).touch 0x10)), by decide +kernel⟩,
   ⟨(held1 [0x02] (fun d => (d.setWord 0x10 1).touch 0x10)), 0, (hd [0x02]), by unfold State.takes; decide +kernel⟩,
   ⟨(held1 [0x00, 0, 0, 0x80000010, 1] id), 0, (hd [0x00, 0, 0, 0x80000010, 1]), 0x10, 0, ((findReg 0x10).get (by decide)).1, by unfold State.takes; decide +kernel⟩,
   ⟨(held1 [0x01, 0, 0, 0x80000010, 1] id), 0, (hd [0x01, 0, 0, 0x80000010, 1]), 0x10, by unfold State.takes; decide +kernel⟩,
   ⟨(held1 [0x8B1, 0, 0x40100000, 0, 0, 64] id), 0, (hd [0x8B1, 0, 0x40100000, 0, 0, 64]), by unfold State.takes; decide +kernel⟩,
   ⟨(held1 [0xB2, 0, 0x40100000, 1] (fun d => d.setFn 0 { st := .on })), 0, (hd [0xB2, 0, 0x40100000, 1]), 0, by unfold State.takes; decide +kernel⟩,
   ⟨(held1 [0xB2, 0, 0x40100000, 1] (fun d => { d with rng := { d.rng with loops := [(0, 1, 0, 7)] } })), 0, 0, 1, 0, 7, true, 0#8, 3#16, by decide +kernel⟩⟩

end W04

namespace W05

def ptab : List Byte := leBytes 4 0x50484541 ++ leBytes 2 1 ++ List.replicate 122 0
def mc : Ctx := { addr := 5, kind := 0, st := 3, attach := 1, owner := 0xFFFF }
def reach (d : Dev) : Dev := ({ (d.setFn 0 { st := .on }) with ctx := { d.ctx with tab := [(3, mc)] }, sec := { d.sec with kdev := some [] } } : Dev).wrb F.SEC_STS_ROOT_VALID 0 true
def ent (push : Bool) : Entry := { grp := 0, port := 0, due := 5, ord := 0, push := push }
def hh : Heat := { start := 0, from_ := 0, until_ := 10000000000000, pol := { method := 1 }, census := false }

/-- Every clause of PoliciesAndOnDemandWork with hypotheses is met by a state and operands. -/
theorem witness_PoliciesAndOnDemandWork :
  (∃ (s : State) (pair : Fin 64) (bs : List Byte) (h : Held) (pol : Policy), s.takes pair 0x10 h ∧ 128 ≤ bufLen h.desc ∧ Policy.parse (padTo (bufLen h.desc) (bs.take (bufLen h.desc))) = .ok pol)
  ∧ (∃ (s : State) (pair : Fin 64) (h : Held), s.takes pair 0x11 h ∧ 128 ≤ bufLen h.desc ∧ (s.dev.grpSch (tGrp h.desc)).pol.sels.length ≤ 8)
  ∧ (∃ (s : State) (pair : Fin 64) (h : Held), s.takes pair 0x12 h)
  ∧ (∃ (s : State) (pair : Fin 64) (h : Held) (c : Ctx) (pk : Nat), s.takes pair 0x20 h ∧ s.dev.ctxNamed (tMix h.desc) = some c ∧ c.owned = true ∧ c.port = some pk ∧ s.dev.portOn pk = true ∧ s.dev.on F.SEC_STS_ROOT_VALID = true ∧ s.dev.canSend c = true ∧ s.dev.entry (tMix h.desc) = none)
  ∧ (∃ (s : State) (pair : Fin 64) (bs : List Byte) (h : Held) (c : Ctx) (pk : Nat), s.takes pair 0x30 h ∧ s.dev.ctxNamed (tMix h.desc) = some c ∧ c.owned = true ∧ c.port = some pk ∧ s.dev.portOn pk = true ∧ s.dev.on F.SEC_STS_ROOT_VALID = true ∧ s.dev.canSend c = true ∧ s.dev.mute pk (tMix h.desc) = false)
  ∧ (∃ (s : State) (pair : Fin 64) (bs : List Byte) (h : Held) (c : Ctx) (pk : Nat), s.takes pair 0x31 h ∧ s.dev.ctxNamed (tMix h.desc) = some c ∧ c.owned = true ∧ c.port = some pk ∧ s.dev.portOn pk = true ∧ s.dev.on F.SEC_STS_ROOT_VALID = true ∧ s.dev.canSend c = true ∧ s.dev.mute pk (tMix h.desc) = false)
  ∧ (∃ (s : State) (pair : Fin 64) (h : Held) (c : Ctx) (pk : Nat), s.takes pair 0x32 h ∧ s.dev.ctxNamed (tMix h.desc) = some c ∧ c.owned = true ∧ c.port = some pk ∧ s.dev.portOn pk = true ∧ s.dev.on F.SEC_STS_ROOT_VALID = true ∧ s.dev.canSend c = true ∧ s.dev.mute pk (tMix h.desc) = false) :=
  ⟨⟨(held1 [0x810, 0, 0x20000003, 0, 0, 128] id), 0, ptab, (hd [0x810, 0, 0x20000003, 0, 0, 128]), (match Policy.parse ptab with | .ok p => p | _ => {}), by unfold State.takes; decide +kernel⟩,
   ⟨(held1 [0x811, 0, 0x20000003, 0, 0, 128] id), 0, (hd [0x811, 0, 0x20000003, 0, 0, 128]), by unfold State.takes; decide +kernel⟩,
   ⟨(held1 [0x12, 0, 0x20000003, 1] id), 0, (hd [0x12, 0, 0x20000003, 1]), by unfold State.takes; decide +kernel⟩,
   ⟨(held1 [0x820, 0, 0x10000003, 0, 0, 64] reach), 0, (hd [0x820, 0, 0x10000003, 0, 0, 64]), mc, 0, by unfold State.takes; decide +kernel⟩,
   ⟨(held1 [0x830, 0, 0x10000003, 0, 0, 64] reach), 0, [1#8], (hd [0x830, 0, 0x10000003, 0, 0, 64]), mc, 0, by unfold State.takes; decide +kernel⟩,
   ⟨(held1 [0x831, 0, 0x10000003, 0, 0, 64] reach), 0, [1#8], (hd [0x831, 0, 0x10000003, 0, 0, 64]), mc, 0, by unfold State.takes; decide +kernel⟩,
   ⟨(held1 [0x32, 0, 0x10000003, 0, 0, 64] reach), 0, (hd [0x32, 0, 0x10000003, 0, 0, 64]), mc, 0, by unfold State.takes; decide +kernel⟩⟩

/-- Every clause of Heats with hypotheses is met by a state and operands. -/
theorem witness_Heats :
  (∃ (s : State) (grp : Fin 4096), s.dev.live = true ∧ s.dev.glb.stepH = true ∧ (s.dev.grpSch grp).heat = none)
  ∧ (∃ (s : State) (grp : Fin 4096) (x : Heat), s.dev.live = true ∧ (s.dev.grpSch grp).heat = some x ∧ x.census = false)
  ∧ (∃ (s : State) (mix : BitVec 20) (e : Entry), s.dev.serves = true ∧ s.dev.entry mix.toNat = some e ∧ e.push = false ∧ e.fallen = false ∧ (s.dev.heatState mix.toNat = 1 ∨ s.dev.heatState mix.toNat = 3) ∧ s.dev.storm = false)
  ∧ (∃ (s : State) (mix : BitVec 20) (e : Entry) (c : Ctx) (x : Heat), s.dev.serves = true ∧ s.dev.entry mix.toNat = some e ∧ s.dev.ctxAt mix.toNat = some c ∧ (s.dev.grpSch e.grp).heat = some x ∧ e.push = true ∧ x.pol.method = 1 ∧ (s.dev.toNs ((c.firstEnd + x.pol.pushGrace) * 1000000000)).tim.mono < x.until_ ∧ s.dev.mute e.port mix.toNat = false)
  ∧ (∃ (s : State), s.dev.live = true ∧ s.dev.glb.stepG = true ∧ s.dev.glb.stepC = true ∧ s.dev.glb.stepH = false ∧ s.dev.mustered = true ∧ s.dev.portsServe = true)
  ∧ (∃ (s : State), s.dev.live = true) :=
  ⟨⟨(up (fun d => { reach d with glb := { d.glb with stepH := true } })), 0, by decide +kernel⟩,
   ⟨(up (fun d => (reach d).setGrpSch 0 { heat := some hh })), 0, hh, by decide +kernel⟩,
   ⟨(up (fun d => { reach d with ctx := { d.ctx with tab := [(3, { mc with heat := 1 })] }, sch := { d.sch with entries := [(3, ent false)] } })), 3#20, (ent false), by decide +kernel⟩,
   ⟨(up (fun d => ({ reach d with ctx := { d.ctx with tab := [(3, { mc with heat := 1 })] }, sch := { d.sch with entries := [(3, ent true)] } } : Dev).setGrpSch 0 { heat := some hh })), 3#20, (ent true), { mc with heat := 1 }, hh, by decide +kernel⟩,
   ⟨(up (fun d => { d with glb := { d.glb with stepG := true, stepC := true } })), by decide +kernel⟩,
   ⟨(up id), by decide +kernel⟩⟩

end W05

namespace W06

def mc : Ctx := { addr := 5, kind := 0, st := 3, attach := 1, owner := 0xFFFF }
def tabd (d : Dev) : Dev := { d with ctx := { d.ctx with tab := [(3, mc)], index := [⟨0, 5, 3, none⟩] } }

/-- Every clause of ContextDescriptors with hypotheses is met by a state and operands. -/
theorem witness_ContextDescriptors :
  (∃ (s : State) (pair : Fin 64) (h : Held) (c : Ctx), s.takes pair 0x70 h ∧ s.dev.ctxAt (tMix h.desc) = some c ∧ c.st ≠ 5 ∧ 256 ≤ bufLen h.desc)
  ∧ (∃ (s : State) (pair : Fin 64) (moves : List (Fin 4)) (h : Held), s.takes pair 0x71 h ∧ h.desc.word 8 ≤ 4095 ∧ s.dev.ownerOk (h.desc.word 9) = true ∧ s.dev.lookup (bitsOf (h.desc.word 10) 4 1) (h.desc.quad 6) = none ∧ s.dev.ctxUsed < s.dev.ctxLimit ∧ s.dev.ctx.rehash = false ∧ s.dev.stashUsed < 1024 ∧ s.dev.par.en = false)
  ∧ (∃ (s : State) (pair : Fin 64) (h : Held) (c : Ctx), s.takes pair 0x72 h ∧ s.dev.ctxNamed (tMix h.desc) = some c ∧ c.owned = true ∧ s.dev.ctx.owners = [] ∧ s.dev.ctx.retire = [] ∧ s.dev.bookingDue (tMix h.desc) = true)
  ∧ (∃ (s : State) (pair : Fin 64) (h : Held) (c : Ctx), s.takes pair 0x73 h ∧ s.dev.ctxNamed (tMix h.desc) = some c ∧ c.owner = 0xFFFF ∧ s.dev.ownerOk (h.desc.word 6) = true ∧ s.dev.ctx.owners = [] ∧ s.dev.ctx.retire = [] ∧ s.dev.busyMix (tMix h.desc) = false)
  ∧ (∃ (s : State) (mix : BitVec 20) (t : Nat), s.dev.live = true ∧ s.dev.ctx.joins.find mix.toNat = some (0, t, none))
  ∧ (∃ (s : State) (moves : List (List (Fin 4))), s.dev.live = true ∧ s.dev.ctx.rehash = true)
  ∧ (∃ (s : State) (set : Fin 2048) (m : Nat), s.dev.live = true ∧ s.dev.ctx.waits.find? (fun x => x % 2048 = set.val) = some m ∧ (s.dev.ctx.cache.getD set.val []).any (fun w => !s.dev.pinned w) = true) :=
  ⟨⟨(held1 [0x870, 0, 0x10000003, 0, 0, 256] tabd), 0, (hd [0x870, 0, 0x10000003, 0, 0, 256]), mc, by unfold State.takes; decide +kernel⟩,
   ⟨(held1 [0x71, 0, 0, 0, 0, 0, 77, 0, 0, 0xFFFF] tabd), 0, [], (hd [0x71, 0, 0, 0, 0, 0, 77, 0, 0, 0xFFFF]), by unfold State.takes; decide +kernel⟩,
   ⟨(held1 [0x72, 0, 0x10000003] (fun d => (tabd d).setLane 10 { waits := [⟨0, 32, .booking { mix := 3, start := 0, value := 0, first := true, timeInvalid := false, seq := 1 }⟩] })), 0, (hd [0x72, 0, 0x10000003]), mc, by unfold State.takes; decide +kernel⟩,
   ⟨(held1 [0x73, 0, 0x10000003, 0, 0, 0, 0xFFFF] (fun d => { tabd d with ctx := { (tabd d).ctx with owners := [] } })), 0, (hd [0x73, 0, 0x10000003, 0, 0, 0, 0xFFFF]), mc, by unfold State.takes; decide +kernel⟩,
   ⟨(up (fun d => { tabd d with ctx := { (tabd d).ctx with joins := [(3, (0, 4, none))] } })), 3#20, 4, by decide +kernel⟩,
   ⟨(up (fun d => { tabd d with ctx := { (tabd d).ctx with rehash := true } })), [], by decide +kernel⟩,
   ⟨(up (fun d => { tabd d with ctx := { (tabd d).ctx with waits := [3], cache := [(3, [2051])] } })), 3, 3, by decide +kernel⟩⟩

end W06

namespace W07

def mc : Ctx := { addr := 5, kind := 0, st := 3, attach := 1, owner := 0xFFFF }
def ttab : List Byte := leBytes 4 0x46524154 ++ leBytes 2 1 ++ leBytes 2 9 ++ List.replicate 2232 0
def tt : TarTable := match TarTable.parse ttab with | .ok p => p | _ => {}
def wk (d : Dev) : Dev := { d with tar := { d.tar with checkOk := true, ext := [(3, { Ext.fresh 0 0 with st := 1 })] }, ctx := { d.ctx with tab := [(3, mc)] }, tim := { d.tim with rtcValid := true } }
def bk : BookEntry := { mix := 3, start := 900, value := 5, first := true, timeInvalid := false, seq := 1 }

/-- Every clause of TariffDescriptors with hypotheses is met by a state and operands. -/
theorem witness_TariffDescriptors :
  (∃ (s : State) (pair : Fin 64) (bs : List Byte) (h : Held) (t : TarTable), s.takes pair 0x40 h ∧ 2240 ≤ bufLen h.desc ∧ TarTable.parse (padTo (bufLen h.desc) (bs.take (bufLen h.desc))) = .ok t ∧ s.dev.par.en = false ∧ (s.dev.setGrpTar (tGrp h.desc) { s.dev.grpTar (tGrp h.desc) with staged := none, actAt := none }).slotTables.length < 96)
  ∧ (∃ (s : State) (pair : Fin 64) (h : Held), s.takes pair 0x41 h ∧ (s.dev.grpTar (tGrp h.desc)).staged.isSome = true ∧ s.dev.par.en = false)
  ∧ (∃ (s : State) (pair : Fin 64) (h : Held), s.takes pair 0x42 h ∧ (s.dev.grpTar (tGrp h.desc)).staged = none ∧ 2208 ≤ bufLen h.desc)
  ∧ (∃ (s : State) (pair : Fin 64) (h : Held), s.takes pair 0x43 h ∧ s.dev.tar.stepPend ≠ 0 ∧ (signed 64 (h.desc.quad 3) - s.dev.tar.stepPend).natAbs ≤ 1000000000) :=
  ⟨⟨(held1 [0x840, 0, 0x20000003, 0, 0, 2240] id), 0, ttab, (hd [0x840, 0, 0x20000003, 0, 0, 2240]), tt, by unfold State.takes; decide +kernel⟩,
   ⟨(held1 [0x41, 0, 0x20000003, 5] (fun d => d.setGrpTar 3 { staged := some tt })), 0, (hd [0x41, 0, 0x20000003, 5]), by unfold State.takes; decide +kernel⟩,
   ⟨(held1 [0x842, 0, 0x20000003, 0, 0, 4096] id), 0, (hd [0x842, 0, 0x20000003, 0, 0, 4096]), by unfold State.takes; decide +kernel⟩,
   ⟨(held1 [0x43, 0, 0, 5] (fun d => { d with tar := { d.tar with stepPend := 9 } })), 0, (hd [0x43, 0, 0, 5]), by unfold State.takes; decide +kernel⟩⟩

/-- Every clause of WeighInCore with hypotheses is met by a state and operands. -/
theorem witness_WeighInCore :
  (∃ (s : State) (n pr by_ : Nat) (b : BookEntry) (e : Ext) (c : Ctx), s.dev.tarWorks = true ∧ s.dev.tar.checkOk = true ∧ s.dev.journalFull = false ∧ s.dev.laneHead 10 = some (n, ⟨pr, by_, .booking b⟩) ∧ s.dev.ext b.mix = some e ∧ e.st = 1 ∧ s.dev.ctxAt b.mix = some c ∧ s.dev.books b e = true ∧ s.dev.sweepOf c.grp = none ∧ s.dev.ctx.owners = [] ∧ s.dev.ctx.retire = [] ∧ s.dev.par.en = false)
  ∧ (∃ (s : State) (grp : Fin 4096) (t : Nat) (tab : TarTable), s.dev.tarWorks = true ∧ s.dev.timeValid = true ∧ (s.dev.grpTar grp).actAt = some t ∧ (s.dev.grpTar grp).staged = some tab ∧ s.dev.par.en = false)
  ∧ (∃ (s : State) (minutes : Nat), demandOk minutes = true ∧ s.dev.tarWorks = true ∧ s.dev.par.en = false)
  ∧ (∃ (s : State) (grp : Fin 4096) (i : Nat), s.dev.tarWorks = true ∧ s.dev.timeValid = true ∧ s.dev.sweepOf grp = none ∧ (s.dev.grpTar grp).staged = none ∧ (s.dev.grpTar grp).closeDue = some i)
  ∧ (∃ (s : State) (grp : Fin 4096) (w : Sweep), s.dev.sweepOf grp = some w ∧ s.dev.tarWorks = true ∧ s.dev.par.en = false)
  ∧ (∃ (s : State), s.dev.live = true ∧ s.dev.glb.tarRuns = true)
  ∧ (∃ (s : State) (off : BitVec 20) (val : Word), s.dev.live = true)
  ∧ (∃ (s : State) (digest : BitVec 256), s.dev.live = true ∧ s.dev.secAhead 5 = false ∧ beBytes 32 digest.toNat = s.dev.tar.check)
  ∧ (∃ (s : State) (digest : BitVec 256), s.dev.live = true ∧ s.dev.secAhead 5 = false ∧ beBytes 32 digest.toNat ≠ s.dev.tar.check ∧ s.dev.tar.checkOk = true ∧ s.dev.par.en = false)
  ∧ (∃ (s : State) (digest : BitVec 256), s.dev.live = true ∧ s.dev.secAhead 5 = true ∧ s.dev.tim.mono < s.dev.tar.checkFrom + 1830000000000) :=
  ⟨⟨(up (fun d => (wk d).setLane 10 { cells := [⟨0, 32, .booking bk⟩] })), 0, 0, 32, bk, { Ext.fresh 0 0 with st := 1 }, mc, by decide +kernel⟩,
   ⟨(up (fun d => (wk d).setGrpTar 3 { staged := some tt, actAt := some 5 })), 3, 5, tt, by decide +kernel⟩,
   ⟨(up wk), 15, by decide +kernel⟩,
   ⟨(up (fun d => (wk d).setGrpTar 3 { inForce := some { tt with closeDay := 1 } })), 3, ((({ inForce := some { tt with closeDay := 1 } } : GrpTar).closeDue).getD 0), by decide +kernel⟩,
   ⟨(up (fun d => { wk d with tar := { (wk d).tar with sweeps := [{ grp := 3, instant := 7, left := [3] }] } })), 3, { grp := 3, instant := 7, left := [3] }, by decide +kernel⟩,
   ⟨(up wk), by decide +kernel⟩,
   ⟨(up wk), 5#20, 5#32, by decide +kernel⟩,
   ⟨(up (fun d => { wk d with tar := { (wk d).tar with check := List.replicate 32 1#8 } })), (BitVec.ofNat 256 (beNat (List.replicate 32 1#8))), by decide +kernel⟩,
   ⟨(up wk), 5#256, by decide +kernel⟩,
   ⟨(up (fun d => ({ wk d with ftl := { d.ftl with state := 0 } } : Dev).setLane 14 { cells := [⟨0, 32, .media 0 (.bill [] true)⟩] })), 5#256, by decide +kernel⟩⟩

end W07

namespace W08

def cm : Cmpl := { tagSeq := 5, st := 0, op := 0xB0, sub := 0, target := 0, res := [1, 2, 3, 4], irq := false }
def it : Item := ⟨0, 100, .event { code := 1, sev := 1, cls := 6, src := 1, target := 0, stamp := 0 }⟩
def hi : Hist := { code := 1, src := 2, cls := 3, safe := false, rep := 0, detail := 0, first := 0, last := 0 }

/-- Every clause of LaneManager with hypotheses is met by a state and operands. -/
theorem witness_LaneManager :
  (∃ (s : State) (queue : Fin 256) (i : Item) (t : List Item), s.dev.live = true ∧ 8 * s.dev.laneCells queue < 7 * s.dev.quota queue ∧ (s.dev.lane queue).ring = i :: t ∧ s.dev.fits queue i.cellCount = true)
  ∧ (∃ (s : State) (queue : Fin 256) (i : Item) (t : List Item), s.dev.live = true ∧ (s.dev.lane queue).waits = i :: t ∧ (s.dev.lane queue).ring = [] ∧ s.dev.fits queue i.cellCount = true)
  ∧ (∃ (s : State) (queue : Fin 256) (val : Word), s.dev.live = true ∧ val.toNat % 2 = 1 ∧ laneFlushable queue = true ∧ (s.dev.lane queue).flushing = false)
  ∧ (∃ (s : State) (queue : Fin 256), (s.dev.lane queue).flushing = true)
  ∧ (∃ (s : State) (queue : Fin 256) (n : Nat) (i : Item) (header : Bool), s.dev.live = true ∧ (queue.val < 32 ∨ 159 < queue.val) ∧ ((s.dev.fault 0x0F13 2 1 1).lane queue).cells[n]? = some i)
  ∧ (∃ (s : State) (queue : Fin 256) (p n : Nat) (c : Cmpl) (header : Bool), s.dev.live = true ∧ p < 64 ∧ queue.val = 96 + p ∧ (s.dev.pair p).waiting[n]? = some c)
  ∧ (∃ (s : State) (queue : Fin 256), s.dev.live = true) :=
  ⟨⟨(up (fun d => d.setLane 3 { ring := [it, it] })), 3, it, [it], by decide +kernel⟩,
   ⟨(up (fun d => d.setLane 20 { waits := [it, it] })), 20, it, [it], by decide +kernel⟩,
   ⟨(up (fun d => d.setLane 3 { cells := [it], ring := [it, it] })), 3, 1#32, by decide +kernel⟩,
   ⟨(up (fun d => d.setLane 3 { flushing := true, freeing := 2 })), 3, by decide +kernel⟩,
   ⟨(up (fun d => d.setLane 3 { cells := [it, it] })), 3, 1, it, true, by decide +kernel⟩,
   ⟨(up (fun d => d.setPair 2 { waiting := [cm, cm] })), 98, 2, 1, cm, false, by decide +kernel⟩,
   ⟨(up (fun d => d.setLane 3 { lostCells := 4, lostItems := 2 })), 3, by decide +kernel⟩⟩

/-- Every clause of ErrorSources with hypotheses is met by a state and operands. -/
theorem witness_ErrorSources :
  (∃ (s : State) (core : Fin 5), s.dev.live = true)
  ∧ (∃ (s : State) (array : Fin 6), s.dev.live = true)
  ∧ (∃ (s : State) (region : Fin 7) (item : Option (Fin 256 × Nat)), s.dev.live = true)
  ∧ (∃ (s : State) (area : Fin 5), s.dev.live = true)
  ∧ (∃ (s : State) (initiator : Fin 3), s.dev.live = true)
  ∧ (∃ (s : State) (tj : Int), s.dev.live = true)
  ∧ (∃ (s : State) (mem : Bool), s.dev.live = true)
  ∧ (∃ (s : State) (reg : BitVec 16), s.dev.live = true) :=
  ⟨⟨(up id), 4, by decide +kernel⟩,
   ⟨(up id), 3, by decide +kernel⟩,
   ⟨(up id), 1, (some (3, 0)), by decide +kernel⟩,
   ⟨(up id), 2, by decide +kernel⟩,
   ⟨(up id), 1, by decide +kernel⟩,
   ⟨(up id), 140, by decide +kernel⟩,
   ⟨(up id), true, by decide +kernel⟩,
   ⟨(up id), 3#16, by decide +kernel⟩⟩

/-- Every clause of FaultCollector with hypotheses is met by a state and operands. -/
theorem witness_FaultCollector :
  (∃ (s : State) (t : Nat), s.dev.flt.pulseEnd = some t)
  ∧ (∃ (s : State) (val : Word), s.dev.live = true ∧ s.dev.on F.FLT_STS_SELF = false ∧ F.FLT_PIN_CTRL_KEY.get val.toNat = 0xF1C7 ∧ F.FLT_PIN_CTRL_CYC_REQ.get val.toNat = 1)
  ∧ (∃ (s : State) (val : Word), s.dev.live = true ∧ s.dev.on F.FLT_STS_SELF = false ∧ ¬ (F.FLT_PIN_CTRL_KEY.get val.toNat = 0xF1C7 ∧ F.FLT_PIN_CTRL_CYC_REQ.get val.toNat = 1))
  ∧ (∃ (s : State) (val : Word), s.dev.live = true ∧ F.FLT_STS_DEGRADED.get val.toNat = 1 ∧ s.dev.degradedHolds = false)
  ∧ (∃ (s : State) (counter : Fin 5) (val : Word), s.dev.live = true)
  ∧ (∃ (s : State) (pair : Fin 64) (h : Held), s.takes pair 0x92 h ∧ 256 ≤ bufLen h.desc)
  ∧ (∃ (s : State) (x : Hist), s.dev.live = true ∧ s.dev.flt.hist[s.dev.rd F.FLT_HIST_SEL_INDEX]? = some x) :=
  ⟨⟨(up (fun d => { d.wrb F.FLT_STS_PULSE 0 true with flt := { d.flt with pulseEnd := some 9 } })), 9, by decide +kernel⟩,
   ⟨(up id), (BitVec.ofNat 32 ((List.range 32).foldl (fun a b => if F.FLT_PIN_CTRL_KEY.get (2 ^ b) ≠ 0 ∧ bitAt 0xF1C7 (b - F.FLT_PIN_CTRL_KEY.lo) then a + 2 ^ b else a) (2 ^ F.FLT_PIN_CTRL_CYC_REQ.lo))), by decide +kernel⟩,
   ⟨(up id), 1#32, by decide +kernel⟩,
   ⟨(up (fun d => { d.wrb F.FLT_STS_DEGRADED 0 true with tar := { d.tar with checkOk := true }, ftl := { d.ftl with state := 0 } })), (BitVec.ofNat 32 (2 ^ F.FLT_STS_DEGRADED.lo)), by decide +kernel⟩,
   ⟨(up (fun d => d.setWord 0xF0024 7)), 1, 5#32, by decide +kernel⟩,
   ⟨(held1 [0x892, 0, 0, 0, 0, 256] (fun d => { d with flt := { d.flt with hist := [hi] } })), 0, (hd [0x892, 0, 0, 0, 0, 256]), by unfold State.takes; decide +kernel⟩,
   ⟨(up (fun d => { d with flt := { d.flt with hist := [hi] } })), hi, by decide +kernel⟩⟩

/-- Every clause of EventRecorder with hypotheses is met by a state and operands. -/
theorem witness_EventRecorder :
  (∃ (s : State) (val : Word), s.dev.live = true)
  ∧ (∃ (s : State), s.dev.live = true ∧ s.dev.evr.frozen = true)
  ∧ (∃ (s : State) (pair : Fin 64) (h : Held), s.takes pair 0x91 h)
  ∧ (∃ (s : State) (pair : Fin 64) (h : Held), s.takes pair 0x90 h)
  ∧ (∃ (s : State) (r : Rec), s.dev.live = true ∧ s.dev.recAt (s.dev.rd F.EVR_SEL_INDEX) = some r)
  ∧ (∃ (s : State), s.dev.live = true) :=
  ⟨⟨(up id), (BitVec.ofNat 32 (2 ^ F.EVR_FREEZE_FREEZE.lo)), by decide +kernel⟩,
   ⟨(up (fun d => { d with evr := { d.evr with frozen := true, staged := [[1, 2, 3, 4, 5, 6, 7]] } })), by decide +kernel⟩,
   ⟨(held1 [0x91, 0, 0, 1] (fun d => { d with evr := { d.evr with frozen := true, staged := [[1, 2, 3, 4, 5, 6, 7]] } })), 0, (hd [0x91, 0, 0, 1]), by unfold State.takes; decide +kernel⟩,
   ⟨(held1 [0x890, 0, 0, 0, 0, 64, 0, 5] (fun d => d.evrPush [1, 2, 3, 4, 5, 6, 7])), 0, (hd [0x890, 0, 0, 0, 0, 64, 0, 5]), by unfold State.takes; decide +kernel⟩,
   ⟨(up (fun d => d.evrPush [1, 2, 3, 4, 5, 6, 7])), ⟨sealRec [1, 2, 3, 4, 5, 6, 7], false⟩, by decide +kernel⟩,
   ⟨(up (fun d => { d with evr := { d.evr with optime := 9 } })), by decide +kernel⟩⟩

end W08

namespace W09

def f0 : Ftl := { state := 0, formatted := true, total := 64, euLu := 8, bits := 1, legal := 8, userLu := 20, userEus := 40, spareLeft := 4, spareStart := 4 }
def onch (d : Dev) (f : Ftl) : Dev := { ((((d.setFn 10 { st := .on }).setFn 11 { st := .on }).setFn 12 { st := .on }).setFn 13 { st := .on }) with ftl := f }
def lu3 : Lu := { stream := 3, eu := 20, item := 0, start := 0 }
def eu3 : Eu := { st := 3, pe := 2, lus := [5], stream := 3, channel := 0, lun := 5 }
def luN : List Nat := List.range 8

/-- Every clause of MediaUnits with hypotheses is met by a state and operands. -/
theorem witness_MediaUnits :
  (∃ (s : State) (n pr b st lu k : Nat) (bs : List Byte), s.dev.mediaRuns = true ∧ s.dev.laneHead 14 = some (n, ⟨pr, b, .media st (.raw bs)⟩) ∧ s.dev.ftl.state ≤ 1 ∧ (st = 0 ∨ (s.dev.ftl.openEu st).isSome = true) ∧ s.dev.ftl.heads.find st = some (lu, k) ∧ max 1 b ≤ 4096 ∧ k + max 1 b ≤ 4096 ∧ s.dev.secAhead 4 = false ∧ s.dev.gcAhead = false)
  ∧ (∃ (s : State) (lu bits : Nat) (k : Fin 4) (over_ : Bool) (l : Lu), s.dev.mediaRuns = true ∧ s.dev.ftl.state ≤ 2 ∧ s.dev.secAhead 4 = false ∧ s.dev.ftl.map.find lu = some l ∧ s.dev.euUsable l.eu = true ∧ k.val < 3 ∧ bits ≠ 0)
  ∧ (∃ (s : State) (k : Nat), s.dev.mediaRuns = true ∧ s.dev.ftl.state ≤ 1 ∧ 3 * s.dev.ftl.slcLimit < 4 * s.dev.ftl.slc.length ∧ s.dev.ftl.slc.find? (fun j => match s.dev.ftl.map.find j with | some l => l.stream ≠ 4 | none => false) = some k ∧ (s.dev.foldOne k).isSome = true)
  ∧ (∃ (s : State) (e dst : Nat), s.dev.mediaRuns = true ∧ s.dev.ftl.state ≤ 1 ∧ s.dev.ftl.gcActive = true ∧ s.dev.gcVictim = some e ∧ s.dev.ftl.freeEu (fun i => s.dev.euUsable i && i ≠ e) false = some dst)
  ∧ (∃ (s : State) (c : Copy) (rest : List Copy), s.dev.mediaRuns = true ∧ s.dev.ftl.state ≤ 1 ∧ s.dev.ftl.copies = c :: rest ∧ (s.dev.ftl.eu c.src).failedCw = false ∧ (s.dev.gcAhead = true ∨ s.dev.laneHead 14 = none))
  ∧ (∃ (s : State) (eu : Nat) (what : Fin 3), s.dev.live = true ∧ s.dev.ftl.state ≤ 2 ∧ eu < s.dev.ftl.total ∧ (s.dev.ftl.eu eu).st ≠ 4 ∧ (s.dev.ftl.eu eu).st ≠ 5 ∧ (s.dev.ftl.eu eu).st ≠ 6 ∧ s.dev.ftl.copies.find? (fun c => c.dst = eu) = none)
  ∧ (∃ (s : State) (eu dst : Nat), s.dev.mediaRuns = true ∧ s.dev.ftl.state ≤ 1 ∧ (s.dev.ftl.eu eu).refresh = true ∧ (s.dev.ftl.eu eu).st = 3 ∧ s.dev.ftl.copies.any (fun c => c.src = eu) = false ∧ s.dev.ftl.freeEu (fun i => s.dev.euUsable i && i ≠ eu) false = some dst)
  ∧ (∃ (s : State) (e : Nat × Eu) (dst : Nat), s.dev.mediaRuns = true ∧ s.dev.ftl.state ≤ 1 ∧ s.dev.wearSource = some e ∧ s.dev.rd F.FTL_GC_CFG_WL_GAP * s.dev.ratedPe < 100 * (s.dev.ftl.peMax - e.2.pe) ∧ s.dev.ftl.freeEu (fun i => s.dev.euUsable i && i ≠ e.1) false = some dst)
  ∧ (∃ (s : State), s.dev.live = true ∧ s.dev.ftl.state ≤ 1 ∧ s.dev.rd F.FTL_CFG_HIST_FILL * s.dev.ftl.userLu < 100 * s.dev.ftl.used ∧ s.dev.oldestLog.isSome = true) :=
  ⟨⟨(up (fun d => (onch d { f0 with heads := [(3, (5, 100))], eus := [(20, { eu3 with st := 1 })], map := [(5, lu3)] }).setLane 14 { cells := [⟨0, 64, .media 3 (.raw [1#8])⟩] })), 0, 0, 64, 3, 5, 100, [1#8], by decide +kernel⟩,
   ⟨(up (fun d => onch d { f0 with eus := [(20, eu3)], map := [(5, lu3)] })), 5, 7, 1, true, lu3, by decide +kernel⟩,
   ⟨(up (fun d => onch d { f0 with userLu := 8, eus := [(20, { eu3 with lus := luN })], map := luN.map (fun i => (i, lu3)), slc := luN })), 0, by decide +kernel⟩,
   ⟨(up (fun d => onch d { f0 with eus := [(20, eu3)], map := [(5, lu3)], gcActive := true })), 20, 8, by decide +kernel⟩,
   ⟨(up (fun d => onch d { f0 with eus := [(20, eu3)], map := [(5, lu3)], copies := [{ src := 20, dst := 8, left := [5], done := [] }] })), { src := 20, dst := 8, left := [5], done := [] }, [], by decide +kernel⟩,
   ⟨(up (fun d => onch d { f0 with eus := [(20, eu3)] })), 20, 1, by decide +kernel⟩,
   ⟨(up (fun d => onch d { f0 with eus := [(20, { eu3 with refresh := true })] })), 20, 8, by decide +kernel⟩,
   ⟨(up (fun d => onch d { f0 with eus := [(20, eu3), (21, { eu3 with pe := 3000 })] })), (20, eu3), 8, by decide +kernel⟩,
   ⟨(up (fun d => { onch d { f0 with userLu := 1, eus := [(20, eu3)], map := [(5, lu3)] } with tim := { d.tim with time := 500000000 * 86400 * 4000 } })), by decide +kernel⟩⟩

/-- Every clause of MediaSnapshotsAndDescriptors with hypotheses is met by a state and operands. -/
theorem witness_MediaSnapshotsAndDescriptors :
  (∃ (s : State), s.dev.live = true ∧ s.dev.ftl.state ≤ 2 ∧ s.dev.ftl.billRunning = false ∧ s.dev.billTrigger ≤ s.dev.ftl.billLu)
  ∧ (∃ (s : State), s.dev.live = true ∧ s.dev.ftl.state ≤ 1 ∧ s.dev.ftl.snapRunning = false ∧ 3600 ≤ s.dev.ftl.cyclesSinceSnap)
  ∧ (∃ (s : State), s.dev.live = true ∧ s.dev.ftl.snapRunning = true ∧ s.dev.snapWaits = false)
  ∧ (∃ (s : State) (n : Fin 4), s.dev.live = true ∧ s.dev.isOn (10 + n) = true)
  ∧ (∃ (s : State) (val : Word), s.dev.live = true ∧ F.FTL_CTL_KEY.get val.toNat = 0x46D7 ∧ s.dev.on F.GLB_CFG_LOCK_LOCK = false ∧ F.FTL_CTL_CANCEL.get val.toNat ≠ 1 ∧ F.FTL_CTL_FORMAT.get val.toNat = 1)
  ∧ (∃ (s : State) (val : Word), s.dev.live = true ∧ F.FTL_CTL_KEY.get val.toNat = 0x46D7 ∧ s.dev.on F.GLB_CFG_LOCK_LOCK = false ∧ F.FTL_CTL_CANCEL.get val.toNat = 1)
  ∧ (∃ (s : State) (pair : Fin 64) (h : Held), s.takes pair 0x80 h ∧ bitsOf (h.desc.word 2) 20 8 = 4 ∧ 128 ≤ bufLen h.desc)
  ∧ (∃ (s : State) (pair : Fin 64) (h : Held), s.takes pair 0x81 h ∧ h.desc.word 8 % 2 = 0)
  ∧ (∃ (s : State) (pair : Fin 64) (h : Held), s.takes pair 0x81 h ∧ h.desc.word 8 % 2 = 1) :=
  ⟨⟨(up (fun d => onch d { f0 with billLu := 70000, nextLu := 9 })), by decide +kernel⟩,
   ⟨(up (fun d => onch d { f0 with cyclesSinceSnap := 3600, nextLu := 9 })), by decide +kernel⟩,
   ⟨(up (fun d => onch d { f0 with snapRunning := true, snapFrom := 9, map := [(5, { lu3 with stream := 1 })] })), by decide +kernel⟩,
   ⟨(up (fun d => onch d f0)), 2, by decide +kernel⟩,
   ⟨(up id), (BitVec.ofNat 32 (0x46D7 * 2 ^ F.FTL_CTL_KEY.lo + 2 ^ F.FTL_CTL_FORMAT.lo)), by decide +kernel⟩,
   ⟨(up id), (BitVec.ofNat 32 (0x46D7 * 2 ^ F.FTL_CTL_KEY.lo + 2 ^ F.FTL_CTL_CANCEL.lo)), by decide +kernel⟩,
   ⟨(held1 [0x880, 0, 0x40400001, 0, 0, 128] id), 0, (hd [0x880, 0, 0x40400001, 0, 0, 128]), by unfold State.takes; decide +kernel⟩,
   ⟨(held1 [0x881, 0, 0, 0, 0, 128, 2] (fun d => { d with ftl := { d.ftl with drain := [{ stream := 3, seq := 1, at_ := 0, bytes := [1#8] }] } })), 0, (hd [0x881, 0, 0, 0, 0, 128, 2]), by unfold State.takes; decide +kernel⟩,
   ⟨(held1 [0x881, 0, 0, 0, 0, 128, 2, 1, 1] (fun d => { d with ftl := { d.ftl with drain := [{ stream := 3, seq := 1, at_ := 0, bytes := [1#8] }, { stream := 3, seq := 2, at_ := 0, bytes := [1#8] }] } })), 0, (hd [0x881, 0, 0, 0, 0, 128, 2, 1, 1]), by unfold State.takes; decide +kernel⟩⟩

end W09

namespace W10

def mc : Ctx := { addr := 5, kind := 0, st := 3, attach := 1, owner := 0xFFFF, suite := 7 }
def kd (d : Dev) : Dev := ({ d with ctx := { d.ctx with tab := [(3, mc)] }, sec := { d.sec with kdev := some (List.replicate 4 1#8) } } : Dev).wrb F.SEC_STS_ROOT_VALID 0 true
def rc (op : Nat) : Word := BitVec.ofNat 32 (0x5EC00000 + op)
def wb (f : Bat → Bat) (g : Dev → Dev) : State := { up g with bat := f (up g).bat }

def wk0 : List Byte := [6, 248, 151, 193, 135, 203, 214, 158, 15, 140, 54, 76, 176, 13, 57, 172]
def im (d : Dev) : Dev := { kd d with sec := { (kd d).sec with shadows := [(3, { imported := true, gen := 0xFF })], imports := [(3, { shEk := some wk0 })] } }
def kc0 (i : Nat) : Nat := if i = 0 then 766279231 else 928653967

/-- Every clause of KeysAndAttestation with hypotheses is met by a state and operands. -/
theorem witness_KeysAndAttestation :
  (∃ (s : State) (pair : Fin 64) (h : Held) (c : Ctx) (g : Nat), s.takes pair 0x60 h ∧ tKind h.desc = 1 ∧ s.dev.ctxNamed (tMix h.desc) = some c ∧ c.owned = true ∧ s.dev.keyed = true ∧ bitsOf (h.desc.word 3) 0 4 < 4 ∧ (stageKey h.desc).all (fun b => b = 0) = true ∧ s.dev.nextGen (tMix h.desc) c = some g ∧ s.dev.shadow (tMix h.desc) = none)
  ∧ (∃ (s : State) (pair : Fin 64) (h : Held) (c : Ctx), s.takes pair 0x61 h ∧ tKind h.desc = 1 ∧ s.dev.ctxNamed (tMix h.desc) = some c ∧ c.owned = true ∧ s.dev.keyed = true ∧ s.dev.commitFits (tMix h.desc) c h.desc = true)
  ∧ (∃ (s : State) (pair : Fin 64) (h : Held) (c : Ctx), s.takes pair 0x62 h ∧ tKind h.desc = 1 ∧ s.dev.ctxNamed (tMix h.desc) = some c ∧ c.owned = true ∧ (s.dev.shadow (tMix h.desc)).isSome = true)
  ∧ (∃ (s : State) (pair : Fin 64) (h : Held), s.takes pair 0x63 h ∧ 256 ≤ bufLen h.desc ∧ s.dev.secAhead 5 = false)
  ∧ (∃ (s : State) (pair : Fin 64) (h : Held), s.takes pair 0x63 h ∧ 256 ≤ bufLen h.desc ∧ s.dev.secAhead 5 = true) :=
  ⟨⟨(held1 [0x60, 0, 0x10000003] kd), 0, (hd [0x60, 0, 0x10000003]), mc, 1, by unfold State.takes; decide +kernel⟩,
   ⟨(held1 [0x61, 0, 0x10000003, kc0 0, kc0 1] im), 0, (hd [0x61, 0, 0x10000003, kc0 0, kc0 1]), mc, by unfold State.takes; decide +kernel⟩,
   ⟨(held1 [0x62, 0, 0x10000003] im), 0, (hd [0x62, 0, 0x10000003]), mc, by unfold State.takes; decide +kernel⟩,
   ⟨(held1 [0x863, 0, 0, 0, 0, 256] kd), 0, (hd [0x863, 0, 0, 0, 0, 256]), by unfold State.takes; decide +kernel⟩,
   ⟨(held1 [0x863, 0, 0, 0, 0, 256] (fun d => ({ kd d with ftl := { d.ftl with state := 0 } } : Dev).setLane 14 { cells := [⟨0, 64, .media 3 (.raw [1#8])⟩] })), 0, (hd [0x863, 0, 0, 0, 0, 256]), by unfold State.takes; decide +kernel⟩⟩

/-- Every clause of RootAndClone with hypotheses is met by a state and operands. -/
theorem witness_RootAndClone :
  (∃ (s : State) (val : Word), s.dev.live = true ∧ F.SEC_ROOT_CTL_OP.get val.toNat = 1 ∧ F.SEC_ROOT_CTL_KEY.get val.toNat = 0x5EC0 ∧ s.bat.root = none ∧ s.dev.on F.SEC_STS_TRNG_OK = true)
  ∧ (∃ (s : State) (val : Word), s.dev.live = true ∧ F.SEC_ROOT_CTL_OP.get val.toNat = 2 ∧ F.SEC_ROOT_CTL_KEY.get val.toNat = 0x5EC0 ∧ s.bat.root.isSome = true ∧ s.dev.grade = .x ∧ s.dev.sec.codeAt.isSome = true ∧ s.dev.sec.peerNonce = none)
  ∧ (∃ (s : State) (val : Word), s.dev.live = true ∧ F.SEC_ROOT_CTL_OP.get val.toNat = 3 ∧ F.SEC_ROOT_CTL_KEY.get val.toNat = 0x5EC0 ∧ s.bat.root = none ∧ s.dev.grade = .x ∧ s.dev.sec.codeAt.isSome = true)
  ∧ (∃ (s : State) (val : Word), s.dev.live = true ∧ F.SEC_ROOT_CTL_OP.get val.toNat = 4 ∧ F.SEC_ROOT_CTL_KEY.get val.toNat = 0x5EC0)
  ∧ (∃ (s : State) (n : List Byte), s.dev.live = true ∧ s.dev.pairUp = true ∧ s.dev.sec.clone = .idle)
  ∧ (∃ (s : State) (n : Fin 4) (val : Word), s.dev.live = true)
  ∧ (∃ (s : State) (t : Nat), s.dev.live = true ∧ s.dev.sec.codeAt = some t) :=
  ⟨⟨(wb id (fun d => d.wrb F.SEC_STS_TRNG_OK 0 true)), (rc 1), by decide +kernel⟩,
   ⟨(wb (fun b => { b with root := some [] }) (fun d => { d with sec := { d.sec with codeAt := some 0 } })), (rc 2), by decide +kernel⟩,
   ⟨(wb id (fun d => { d with sec := { d.sec with codeAt := some 0 } })), (rc 3), by decide +kernel⟩,
   ⟨(wb (fun b => { b with root := some [] }) kd), (rc 4), by decide +kernel⟩,
   ⟨(up (fun d => { d with par := { d.par with lanes := [true, true] } })), [1#8], by decide +kernel⟩,
   ⟨(up id), 2, 5#32, by decide +kernel⟩,
   ⟨(up (fun d => { d with sec := { d.sec with codeAt := some 0, code := [1, 2, 3, 4] } })), 0, by decide +kernel⟩⟩

/-- Every clause of TransportKeyAndTamper with hypotheses is met by a state and operands. -/
theorem witness_TransportKeyAndTamper :
  (∃ (s : State) (val : Word), s.dev.live = true ∧ F.SEC_KTK_CTL_OP.get val.toNat = 1 ∧ F.SEC_KTK_CTL_KEY.get val.toNat = 0x5EC0 ∧ s.dev.rd F.GLB_CFG_LOCK_LOCK = 0 ∧ s.bat.ktk = none)
  ∧ (∃ (s : State) (val : Word) (k : List Byte), s.dev.live = true ∧ F.SEC_KTK_CTL_OP.get val.toNat = 2 ∧ F.SEC_KTK_CTL_KEY.get val.toNat = 0x5EC0 ∧ s.bat.ktk = some k)
  ∧ (∃ (s : State) (val : Word), s.dev.live = true ∧ F.SEC_KTK_CTL_OP.get val.toNat = 3 ∧ F.SEC_KTK_CTL_KEY.get val.toNat = 0x5EC0)
  ∧ (∃ (s : State) (val : Word), s.dev.live = true ∧ F.SEC_STS_TAMPER_LATCH.get val.toNat = 1 ∧ s.bat.root.isSome = true)
  ∧ (∃ (s : State) (n : Fin 4), s.dev.powered = true ∧ bitAt s.bat.cfg n = true)
  ∧ (∃ (s : State), s.dev.powered = true ∧ bitAt s.bat.cfg 4 = true)
  ∧ (∃ (s : State) (temp : Int), s.dev.powered = true ∧ (temp < -55 ∨ 140 < temp))
  ∧ (∃ (s : State) (core sram : Nat), s.dev.powered = true ∧ s.dev.sec.armed = true ∧ (core < 700 ∨ 920 < core ∨ sram < 750 ∨ 970 < sram))
  ∧ (∃ (s : State) (vbat : Nat), s.dev.powered = false ∧ vbat < 190)
  ∧ (∃ (s : State) (khz : Nat), s.dev.powered = true ∧ s.dev.sec.armed = true ∧ (khz < 22500 ∨ 27500 < khz))
  ∧ (∃ (s : State), s.dev.live = true) :=
  ⟨⟨(up id), (rc 1), by decide +kernel⟩,
   ⟨(wb (fun b => { b with ktk := some (List.replicate 32 1#8) }) id), (rc 2), (List.replicate 32 1#8), by decide +kernel⟩,
   ⟨(wb (fun b => { b with ktk := some (List.replicate 32 1#8) }) id), (rc 3), by decide +kernel⟩,
   ⟨(wb (fun b => { b with root := some [], latch := true }) id), (BitVec.ofNat 32 (2 ^ 30)), by decide +kernel⟩,
   ⟨(wb (fun b => { b with root := some [], cfg := 0x0300001F }) kd), 2, by decide +kernel⟩,
   ⟨(wb (fun b => { b with root := some [], cfg := 0x0300001F }) kd), by decide +kernel⟩,
   ⟨(wb (fun b => { b with root := some [] }) kd), 150, by decide +kernel⟩,
   ⟨(wb (fun b => { b with root := some [] }) (fun d => { kd d with sec := { (kd d).sec with armed := true } })), 600, 800, by decide +kernel⟩,
   ⟨(let s := wb (fun b => { b with root := some [] }) kd; { s with dev := { s.dev with glb := { s.dev.glb with phase := .unpowered } } }), 100, by decide +kernel⟩,
   ⟨(wb (fun b => { b with root := some [] }) (fun d => { kd d with sec := { (kd d).sec with armed := true } })), 100, by decide +kernel⟩,
   ⟨(up (fun d => { d with sec := { d.sec with winFails := 2 } })), by decide +kernel⟩⟩

end W10

namespace W11

def ph (p : Phase) (f : Dev → Dev) : State := up (fun d => let x := f d; { x with glb := { x.glb with phase := p } })

/-- Every clause of DeviceResets with hypotheses is met by a state and operands. -/
theorem witness_DeviceResets :
  (∃ (s : State) (val : Word), s.dev.live = true ∧ F.GLB_SOFT_RESET_KEY.get val.toNat = 0xC0DE ∧ F.GLB_SOFT_RESET_GO.get val.toNat = 1)
  ∧ (∃ (s : State), s.dev.glb.phase ≠ .unpowered ∧ s.dev.glb.phase ≠ .failing ∧ s.dev.glb.phase ≠ .failed)
  ∧ (∃ (s : State), s.dev.glb.phase ≠ .unpowered ∧ s.dev.glb.phase ≠ .failing ∧ s.dev.glb.phase ≠ .failed)
  ∧ (∃ (s : State), s.dev.glb.phase ≠ .unpowered ∧ s.dev.glb.phase ≠ .failing ∧ s.dev.glb.phase ≠ .failed)
  ∧ (∃ (s : State), s.dev.glb.phase ≠ .unpowered ∧ s.dev.glb.phase ≠ .failing ∧ s.dev.glb.phase ≠ .failed)
  ∧ (∃ (s : State) (t : Nat), s.dev.flt.safeAt = some t ∧ s.dev.live = true ∧ s.dev.isSafe = true ∧ s.dev.flt.autoRst ≠ 0)
  ∧ (∃ (s : State) (resetN perstN : Bool), s.dev.glb.phase = .held ∧ (s.dev.glb.resetN || resetN) = true ∧ (s.dev.glb.perstN || perstN) = true ∧ s.dev.glb.pwrFailN = true) :=
  ⟨⟨(held1 [0x40] (fun d => d.wr F.PAR_CFG_STROKE_MS 0 77)), (BitVec.ofNat 32 (0xC0DE * 2 ^ F.GLB_SOFT_RESET_KEY.lo + 2 ^ F.GLB_SOFT_RESET_GO.lo)), by decide +kernel⟩,
   ⟨(held1 [0x40] (fun d => d.wrb F.FLT_STS_SAFE 0 true)), by decide +kernel⟩,
   ⟨(up id), by decide +kernel⟩,
   ⟨(ph .halted id), by decide +kernel⟩,
   ⟨(held1 [0x40] id), by decide +kernel⟩,
   ⟨(up (fun d => { d.wrb F.FLT_STS_SAFE 0 true with flt := { d.flt with safeAt := some 5, autoRst := 1 } })), 5, by decide +kernel⟩,
   ⟨(ph .held (fun d => { d with glb := { d.glb with resetN := false, perstN := true, pwrFailN := true } })), true, false, by decide +kernel⟩⟩

/-- Every clause of PowerAndBoot with hypotheses is met by a state and operands. -/
theorem witness_PowerAndBoot :
  (∃ (s : State) (offS : Nat) (cold resetN perstN pwrFailN : Bool), s.dev.glb.phase = .unpowered)
  ∧ (∃ (s : State), s.dev.glb.phase ≠ .unpowered)
  ∧ (∃ (s : State) (env : BootEnv), s.dev.glb.phase = .booting ∧ env.halt = 0)
  ∧ (∃ (s : State) (env : BootEnv), s.dev.glb.phase = .booting ∧ env.halt ≠ 0 ∧ env.halt ≤ 4)
  ∧ (∃ (s : State), s.dev.glb.phase = .halted)
  ∧ (∃ (s : State), s.dev.live = true ∧ s.dev.glb.stepG = false ∧ s.dev.upd.recovery = false ∧ (List.range 4).all (fun n => decide ((s.dev.fnOf (10 + n)).st ≠ .starting)) = true)
  ∧ (∃ (s : State), s.dev.live = true) :=
  ⟨⟨(ph .unpowered id), 100, true, true, true, true, by decide +kernel⟩,
   ⟨(held1 [0x40] id), by decide +kernel⟩,
   ⟨(ph .booting id), {}, by decide +kernel⟩,
   ⟨(ph .booting (fun d => { d with glb := { d.glb with halts := 2 } })), { halt := 3 }, by decide +kernel⟩,
   ⟨(ph .halted (fun d => d.wrb F.GLB_BOOT_STS_HALT 0 true)), by decide +kernel⟩,
   ⟨(up id), by decide +kernel⟩,
   ⟨(up id), by decide +kernel⟩⟩

/-- Every clause of PowerFailureAndMonitors with hypotheses is met by a state and operands. -/
theorem witness_PowerFailureAndMonitors :
  (∃ (s : State), s.dev.glb.phase = .ready)
  ∧ (∃ (s : State) (rails : BitVec 10), s.dev.glb.phase = .ready ∧ s.dev.glb.pwrFailN = true ∧ rails ≠ 0)
  ∧ (∃ (s : State) (us : Nat), s.dev.glb.phase = .failing)
  ∧ (∃ (s : State), s.dev.glb.phase = .failed)
  ∧ (∃ (s : State) (mv : BitVec 12), (s.dev.glb.phase = .ready ∨ s.dev.glb.phase = .failing))
  ∧ (∃ (s : State) (val : Word), s.dev.live = true)
  ∧ (∃ (s : State), s.dev.live = true) :=
  ⟨⟨(held1 [0x40] id), by decide +kernel⟩,
   ⟨(held1 [0x40] (fun d => { d with glb := { d.glb with pwrFailN := true } })), 3, by decide +kernel⟩,
   ⟨(ph .failing id), 700, by decide +kernel⟩,
   ⟨(ph .failed id), by decide +kernel⟩,
   ⟨(up (fun d => { d.wrb F.PWR_SUP_STS_HOLD_LOW 0 true with glb := { d.glb with holdRun := 15 } })), 1000, by decide +kernel⟩,
   ⟨(up (fun d => d.wr F.PWR_TEMP_TJ 0 45)), 0, by decide +kernel⟩,
   ⟨(up (fun d => d.wrb F.GLB_CLK_STS_RTC_RUN 0 true)), by decide +kernel⟩⟩

end W11

namespace W12

def ep (f : Eth → Eth) (g : Dev → Dev) : State := up (fun d => g (((d.setFn 6 { st := .on }).wrb F.ETH_STS_LINK 0 true).setEp 0 (f {})))
def fn (k : Nat) (x : Fn) (g : Dev → Dev := id) : State := up (fun d => g (d.setFn k x))

/-- Every clause of EthernetPorts with hypotheses is met by a state and operands. -/
theorem witness_EthernetPorts :
  (∃ (s : State) (port : Fin 4) (frame : EthRx) (i : Nat), s.dev.epOn port = true ∧ s.dev.on F.ETH_STS_LINK port = true ∧ s.dev.ethDrop port frame = some i)
  ∧ (∃ (s : State) (port : Fin 4) (frame : EthRx) (b : List Byte), s.dev.epOn port = true ∧ s.dev.on F.ETH_STS_LINK port = true ∧ s.dev.ethDrop port frame = none ∧ frame.body = .other b ∧ (s.dev.ep port).mgtRx.length < 8)
  ∧ (∃ (s : State) (port : Fin 4) (frame : EthRx) (q : Nat), s.dev.epOn port = true ∧ s.dev.on F.ETH_STS_LINK port = true ∧ s.dev.ethDrop port frame = none ∧ frame.body = .pause q ∧ q ≠ 0 ∧ s.dev.on F.ETH_CFG_PAUSE_RX port = true)
  ∧ (∃ (s : State) (port : Fin 4) (i : Nat) (t : EthTx), s.dev.epOn port = true ∧ s.dev.inLoop (6 + port) = false ∧ s.dev.linkUp port = true ∧ (s.dev.ep port).pauseUntil = none ∧ nextTx s.dev.ethMay (s.dev.ep port).wait = some (i, t))
  ∧ (∃ (s : State) (port : Fin 4) (t : Nat), s.dev.live = true ∧ (s.dev.ep port).pauseUntil = some t)
  ∧ (∃ (s : State) (port : Fin 4), s.dev.epOn port = true ∧ s.dev.on F.ETH_STS_LINK port = true)
  ∧ (∃ (s : State) (port : Fin 4) (val : Word), s.dev.epOn port = true ∧ s.dev.on F.ETH_STS_LINK port = true ∧ s.dev.isBow = false ∧ s.dev.on F.ETH_CFG_MGT_EN port = true ∧ s.dev.on F.ETH_MGT_TX_CTL_BUSY port = false ∧ bitAt val.toNat 28 = true)
  ∧ (∃ (s : State) (port : Fin 4) (val : Word), s.dev.live = true ∧ fixAbsent s.dev.grade (6 + port) = false ∧ bitAt val.toNat 0 = true)
  ∧ (∃ (s : State) (port : Fin 4) (counter : Fin 18), s.dev.live = true ∧ fixAbsent s.dev.grade (6 + port) = false) :=
  ⟨⟨(ep id id), 0, { body := .other [1#8], fcsOk := false }, 3, by decide +kernel⟩,
   ⟨(ep id (fun d => d.wrb F.ETH_CFG_MGT_EN 0 true)), 0, { body := .other [1#8] }, [1#8], by decide +kernel⟩,
   ⟨(ep id (fun d => d.wrb F.ETH_CFG_PAUSE_RX 0 true)), 0, { body := .pause 7 }, 7, by decide +kernel⟩,
   ⟨(ep (fun e => { e with wait := [{ cls := 2, bytes := 64 }, { cls := 1, bytes := 99 }] }) id), 0, 1, { cls := 1, bytes := 99 }, by decide +kernel⟩,
   ⟨(ep (fun e => { e with pauseUntil := some 900 }) id), 0, 900, by decide +kernel⟩,
   ⟨(ep (fun e => { e with wait := [{ cls := 2, bytes := 64 }] }) id), 0, by decide +kernel⟩,
   ⟨(ep id (fun d => d.wrb F.ETH_CFG_MGT_EN 0 true)), 0, (BitVec.ofNat 32 (2 ^ 28 + 64)), by decide +kernel⟩,
   ⟨(ep (fun e => { e with mgtRx := [(1, [1#8]), (2, [])] }) id), 0, 1, by decide +kernel⟩,
   ⟨(ep (fun e => { e with cnt := [(3, 2 ^ 40 + 7)] }) id), 0, 3, by decide +kernel⟩⟩

/-- Every clause of FunctionLifecycle with hypotheses is met by a state and operands. -/
theorem witness_FunctionLifecycle :
  (∃ (s : State) (fix : Fin 128) (val : Word) (e : F × Nat), s.dev.live = true ∧ fixAbsent s.dev.grade fix = false ∧ enableOf fix = some e ∧ s.dev.enableHeld fix = false ∧ (s.dev.fnOf fix).st = .off ∧ (fix.val < 2 ∨ 6 ≤ fix.val))
  ∧ (∃ (s : State) (fix : Fin 128) (val : Word), s.dev.live = true ∧ fixAbsent s.dev.grade fix = false ∧ 2 ≤ fix.val ∧ fix.val < 6 ∧ (s.dev.fnOf fix).st = .off)
  ∧ (∃ (s : State) (fix : Fin 128) (val : Word) (e : F × Nat), s.dev.live = true ∧ fixAbsent s.dev.grade fix = false ∧ enableOf fix = some e ∧ s.dev.enableHeld fix = false ∧ (s.dev.fnOf fix).st = .on)
  ∧ (∃ (s : State) (fix : Fin 128) (nand : NandPart), s.dev.live = true ∧ (s.dev.fnOf fix).st = .starting ∧ (s.dev.fnOf fix).blocked = false ∧ s.dev.startable_ fix = true ∧ (s.dev.fnOf fix).thenStop = false ∧ (fix.val < 10 ∨ 14 ≤ fix.val))
  ∧ (∃ (s : State) (n : Fin 4) (nand : NandPart) (fix : Fin 128), s.dev.live = true ∧ fix.val = 10 + n.val ∧ (s.dev.fnOf fix).st = .starting ∧ (s.dev.fnOf fix).blocked = false ∧ (s.dev.fnOf fix).thenStop = false ∧ nand.slow = false)
  ∧ (∃ (s : State) (fix : Fin 128), s.dev.live = true ∧ (s.dev.fnOf fix).st = .stopping ∧ (s.dev.fnOf fix).pending = false ∧ s.dev.fnIdle fix = true ∧ (10 ≤ fix.val ∧ fix.val < 14) ∨ fix.val = 18 ∨ 64 ≤ fix.val)
  ∧ (∃ (s : State) (fix : Fin 128), s.dev.live = true ∧ (s.dev.fnOf fix).st = .stopping ∧ (s.dev.fnOf fix).pending = false ∧ s.dev.fnIdle fix = true)
  ∧ (∃ (s : State) (fix : Fin 128), s.dev.live = true ∧ (s.dev.fnOf fix).st = .starting ∧ (s.dev.fnOf fix).blocked = false)
  ∧ (∃ (s : State) (val : Word) (fix : Nat), s.dev.live = true ∧ F.GLB_FUNC_RESET_GO.get val.toNat = 1 ∧ F.GLB_FUNC_RESET_FIX.get val.toNat = fix ∧ fixAbsent s.dev.grade fix = false ∧ (s.dev.fnOf fix).st = .on)
  ∧ (∃ (s : State) (port : Fin 5), s.dev.live = true ∧ port.val < 4 ∧ s.dev.isOn (6 + port.val) = true)
  ∧ (∃ (s : State), s.dev.live = true ∧ s.dev.isOn 18 = true) :=
  ⟨⟨(up id), 64, 5, (F.RNG_PAIR_CFG_ENABLE, 0), by decide +kernel⟩,
   ⟨(up id), 3, 5, by decide +kernel⟩,
   ⟨(fn 1 { st := .on }), 1, 5, (F.LCP_CFG_ENABLE, 1), by decide +kernel⟩,
   ⟨(fn 1 { st := .starting, pending := true }), 1, {}, by decide +kernel⟩,
   ⟨(fn 11 { st := .starting }), 1, {}, 11, by decide +kernel⟩,
   ⟨(fn 70 { st := .stopping }), 70, by decide +kernel⟩,
   ⟨(fn 3 { st := .stopping }), 3, by decide +kernel⟩,
   ⟨(fn 3 { st := .starting }), 3, by decide +kernel⟩,
   ⟨(held1 [0x40] id), (BitVec.ofNat 32 (256 + 64)), 64, by decide +kernel⟩,
   ⟨(fn 6 { st := .on } (fun d => d.wrb F.ETH_STS_LINK 0 true)), 0, by decide +kernel⟩,
   ⟨(fn 18 { st := .on } (fun d => d.wrb F.GLB_CLK_STS_PAIR_LOCK 0 true)), by decide +kernel⟩⟩

end W12

namespace W13

def fld (f : Fl → Fl) (g : Dev → Dev := id) : State := up (fun d => g { (d.wr F.GLB_ROLE_STS_ROLE 0 0) with fl := f { d.fl with mode := 1 } })
def hdd (f : Fl → Fl) (g : Dev → Dev := id) : State := up (fun d => g { (d.wr F.GLB_ROLE_STS_ROLE 0 1) with fl := f { d.fl with mode := 1 } })
def ib (r : FlRec) (f : Fl) : Fl := { f with inbox := [(3, 1, 5, r)] }
def mf : MFrame := { kind := 0, addr := 5, raw := [1#8] }
def fd3 (x : Fd) (f : Fl) : Fl := { f with fds := [(3, x)] }
def kk (d : Dev) : Dev := { d with sec := { d.sec with kdev := some [] } }
def code0 (f : Fl) : Fl := { f with codeAt := some 0 }
def mc : Ctx := { addr := 5, kind := 0, st := 3, attach := 1, owner := 3 }
def wctx (o : Nat) (d : Dev) : Dev := { (d.setFn 0 { st := .on }) with ctx := { d.ctx with tab := [(9, { mc with owner := o })], index := [⟨0, 5, 9, none⟩] } }
def fr0 : FlFrame := { up := true, keyless := true, fdx := 3, recs := [.helloK 9 []] }
def ky : List Byte := kdf (kdf [] "FLK" [] 256) "FLK" (beBytes 2 3) 256
def frk : FlFrame := { up := true, fdx := 3, epoch := 1, count := 4, key := ky, recs := [.heartbeat, .unknown 7] }
def onq (x : FlFrame) (d : Dev) : Dev := kk ((d.wr F.FL_FD_EN_EN 0 8).setLane 7 { cells := [⟨0, 64, .eth { body := .fl 5 x } 9⟩] })
def hx : FlHeld := { num := 4, fdx := 3, rec_ := .release 4 0 5, sentAt := some 7 }
def oq (d : Dev) : Dev := { d with sch := { d.sch with wait := [{ mix := 1, port := 0, order := some 6, due := some 100 }] } }
def links (d : Dev) : Dev := (((((d.setFn 6 { st := .on }).wrb F.ETH_STS_LINK 0 true).setFn 7 { st := .on }).wrb F.ETH_STS_LINK 1 true).wr F.FL_CFG_PORTS 0 3).setEp 0 { linkAt := some 3 }

/-- Every clause of FieldLinkMuster with hypotheses is met by a state and operands. -/
theorem witness_FieldLinkMuster :
  (∃ (s : State) (port : Fin 4) (n pr b rx et : Nat) (udp loc : Bool) (f : EthRx) (x : FlFrame), s.dev.ingestHead (6 + port) = some (n, ⟨pr, b, .eth f rx⟩) ∧ s.dev.serves = true ∧ s.dev.fl.muster = [] ∧ f.body = (if udp then .flUdp et loc x else .fl et x) ∧ s.dev.flHeadOk udp x = true ∧ x.keyless = true ∧ keylessOk x = true)
  ∧ (∃ (s : State) (port : Fin 4) (n pr b rx et : Nat) (udp loc : Bool) (f : EthRx) (x : FlFrame) (w : SeqWin), s.dev.ingestHead (6 + port) = some (n, ⟨pr, b, .eth f rx⟩) ∧ s.dev.serves = true ∧ s.dev.fl.muster = [] ∧ f.body = (if udp then .flUdp et loc x else .fl et x) ∧ s.dev.flHeadOk udp x = true ∧ x.keyless = false ∧ s.dev.flKey x.fdx = some x.key ∧ x.recs.any flKeyless = false ∧ (s.dev.flEnd x.fdx).win.take x.epoch x.count = some w)
  ∧ (∃ (s : State) (fdx p rx serial : Nat) (nf code key : List Byte), s.dev.hears (fdx, p, rx, .helloK serial nf) ∧ s.dev.flCode = some code ∧ s.dev.flKeyOf fdx = some key ∧ s.dev.fl.muster = [] ∧ s.dev.fl.musterSec ≠ s.dev.tim.mono / 500000000)
  ∧ (∃ (s : State) (fdx p rx : Nat) (nh w code kw key : List Byte), s.dev.hears (fdx, p, rx, .keyWrap nh w) ∧ s.dev.flCode = some code ∧ s.dev.purposeKey "WRP" = some kw ∧ s.dev.fl.st = 1 ∧ kwUnwrap (musterKey code fdx (Config.serial 0).toNat s.dev.fl.nonce nh) w = some key)
  ∧ (∃ (s : State) (fdx p rx serial ds : Nat), s.dev.hears (fdx, p, rx, .hello serial ds) ∧ (s.dev.fd fdx).st ≠ 2 ∨ (s.dev.fd fdx).serial = serial ∧ s.dev.fl.muster = [] ∧ s.dev.fl.musterSec ≠ s.dev.tim.mono / 500000000)
  ∧ (∃ (s : State) (fdx p rx serial ds : Nat), s.dev.hears (fdx, p, rx, .hello serial ds) ∧ (s.dev.fd fdx).st = 2 ∧ (s.dev.fd fdx).serial ≠ serial)
  ∧ (∃ (s : State) (fdx p rx serial n hb : Nat), s.dev.hears (fdx, p, rx, .welcome serial n hb) ∧ s.dev.fl.st = 2)
  ∧ (∃ (s : State) (fdx p rx : Nat), s.dev.hears (fdx, p, rx, .heartbeat))
  ∧ (∃ (s : State), s.dev.serves = true ∧ s.dev.isField = true ∧ (s.dev.fl.st = 1 ∨ (s.dev.fl.st = 2 ∧ 3 ≤ s.dev.fl.tries)))
  ∧ (∃ (s : State), s.dev.serves = true ∧ s.dev.isField = true ∧ s.dev.fl.st = 2 ∧ s.dev.fl.tries < 3 ∧ s.dev.flKeyHeld.isSome = true)
  ∧ (∃ (s : State) (t : Nat), s.dev.fl.codeAt = some t ∧ s.dev.live = true) :=
  ⟨⟨(hdd id (onq fr0)), 1, 0, 0, 64, 9, 5, false, false, { body := .fl 5 fr0 }, fr0, by decide +kernel⟩,
   ⟨(hdd id (onq frk)), 1, 0, 0, 64, 9, 5, false, false, { body := .fl 5 frk }, frk, { epoch := 1, top := some 4, seen := [4] }, by decide +kernel⟩,
   ⟨(hdd (fun f => code0 (ib (.helloK 9 []) { f with musterSec := 5 })) kk), 3, 1, 5, 9, [], ((hdd code0).dev.flCode.getD []), (((hdd id kk).dev.flKeyOf 3).getD []), by unfold Dev.hears; decide +kernel⟩,
   ⟨(fld (fun f => code0 (ib (.keyWrap [] kwIv) { f with st := 1 })) kk), 3, 1, 5, [], kwIv, ((hdd code0).dev.flCode.getD []), (((hdd id kk).dev.purposeKey "WRP").getD []), [], by unfold Dev.hears; decide +kernel⟩,
   ⟨(hdd (fun f => ib (.hello 9 4) { f with musterSec := 5 })), 3, 1, 5, 9, 4, by unfold Dev.hears; decide +kernel⟩,
   ⟨(hdd (fun f => ib (.hello 9 4) (fd3 { st := 2, serial := 8 } f))), 3, 1, 5, 9, 4, by unfold Dev.hears; decide +kernel⟩,
   ⟨(fld (fun f => ib (.welcome 9 4 500) { f with st := 2, held := [hx, { hx with num := 6 }] })), 3, 1, 5, 9, 4, 500, by unfold Dev.hears; decide +kernel⟩,
   ⟨(fld (ib .heartbeat)), 3, 1, 5, by unfold Dev.hears; decide +kernel⟩,
   ⟨(fld (fun f => { f with st := 2, tries := 3 })), by decide +kernel⟩,
   ⟨(fld (fun f => { f with st := 2, tries := 1, key := some kwIv }) kk), by decide +kernel⟩,
   ⟨(fld code0), 0, by decide +kernel⟩⟩

/-- Every clause of FieldLinkRecords with hypotheses is met by a state and operands. -/
theorem witness_FieldLinkRecords :
  (∃ (s : State) (fdx p rx n port hops snr rt : Nat) (f : MFrame), s.dev.hears (fdx, p, rx, .meterUp n port hops snr rt f) ∧ seqLe n (s.dev.fd fdx).dseq = false ∧ (s.dev.fd fdx).above.contains n = false)
  ∧ (∃ (s : State) (fdx p rx n port hops snr rt : Nat) (f : MFrame), s.dev.hears (fdx, p, rx, .meterUp n port hops snr rt f) ∧ (seqLe n (s.dev.fd fdx).dseq || (s.dev.fd fdx).above.contains n) = true)
  ∧ (∃ (s : State) (fdx p rx n port : Nat) (j : JoinReq), s.dev.hears (fdx, p, rx, .join n port j) ∧ seqLe n (s.dev.fd fdx).dseq = false ∧ (s.dev.fd fdx).above.contains n = false)
  ∧ (∃ (s : State) (fdx p rx n kind attach hops cost addr m : Nat) (c : Ctx), s.dev.hears (fdx, p, rx, .meterSts n kind attach hops cost addr) ∧ seqLe n (s.dev.fd fdx).dseq = false ∧ (s.dev.fd fdx).above.contains n = false ∧ s.dev.lookup kind addr = some m ∧ s.dev.ctxAt m = some c ∧ c.owner = fdx)
  ∧ (∃ (s : State) (fdx p rx : Nat) (ttx : List Nat), s.dev.hears (fdx, p, rx, .portSts ttx))
  ∧ (∃ (s : State) (fdx p rx n : Nat) (b : List Byte), s.dev.hears (fdx, p, rx, .checkRec n b) ∧ seqLe n (s.dev.fd fdx).dseq = false ∧ (s.dev.fd fdx).above.contains n = false)
  ∧ (∃ (s : State) (fdx p rx n : Nat) (auth : List Nat), s.dev.hears (fdx, p, rx, .dataAck n auth))
  ∧ (∃ (s : State) (fdx p rx n id result attempts answer : Nat) (polling : Bool), s.dev.hears (fdx, p, rx, .orderDone n id result attempts answer polling) ∧ seqLe n (s.dev.fd fdx).dseq = false ∧ (s.dev.fd fdx).above.contains n = false ∧ s.dev.curOf (16 + fdx) = none)
  ∧ (∃ (s : State) (moves : List (Fin 4)) (fdx p rx id kind addr : Nat), s.dev.hears (fdx, p, rx, .joinOk id kind addr) ∧ s.dev.fl.done.find? (fun e => decide (e.1 = id)) = none ∧ s.dev.fl.taken.contains id = false ∧ s.dev.lookup kind addr = none ∧ s.dev.ctxUsed < s.dev.ctxLimit ∧ s.dev.directFull = false ∧ s.dev.ctx.rehash = false ∧ s.dev.stashUsed < 1024)
  ∧ (∃ (s : State) (fdx p rx id kind addr m : Nat) (c : Ctx), s.dev.hears (fdx, p, rx, .release id kind addr) ∧ s.dev.fl.done.find? (fun e => decide (e.1 = id)) = none ∧ s.dev.fl.taken.contains id = false ∧ s.dev.lookup kind addr = some m ∧ s.dev.ctxAt m = some c ∧ c.owner = 0xFFFE) :=
  ⟨⟨(hdd (ib (.meterUp 1 0 1 0 9 mf)) (wctx 3)), 3, 1, 5, 1, 0, 1, 0, 9, mf, by unfold Dev.hears; decide +kernel⟩,
   ⟨(hdd (fun f => ib (.meterUp 1 0 1 0 9 mf) (fd3 { dseq := 4 } f))), 3, 1, 5, 1, 0, 1, 0, 9, mf, by unfold Dev.hears; decide +kernel⟩,
   ⟨(hdd (ib (.join 1 0 { kind := 0, addr := 5 }))), 3, 1, 5, 1, 0, { kind := 0, addr := 5 }, by unfold Dev.hears; decide +kernel⟩,
   ⟨(hdd (ib (.meterSts 1 0 1 2 77 5)) (wctx 3)), 3, 1, 5, 1, 0, 1, 2, 77, 5, 9, mc, by unfold Dev.hears; decide +kernel⟩,
   ⟨(hdd (ib (.portSts [5, 6]))), 3, 1, 5, [5, 6], by unfold Dev.hears; decide +kernel⟩,
   ⟨(hdd (ib (.checkRec 1 []))), 3, 1, 5, 1, [], by unfold Dev.hears; decide +kernel⟩,
   ⟨(fld (fun f => ib (.dataAck 4 [2]) { f with held := [hx, { hx with num := 6 }] })), 3, 1, 5, 4, [2], by unfold Dev.hears; decide +kernel⟩,
   ⟨(hdd (fun f => ib (.orderDone 1 4 0 1 0 false) { f with orders := [hx] })), 3, 1, 5, 1, 4, 0, 1, 0, false, by unfold Dev.hears; decide +kernel⟩,
   ⟨(fld (ib (.joinOk 6 0 5))), [], 3, 1, 5, 6, 0, 5, by unfold Dev.hears; decide +kernel⟩,
   ⟨(fld (ib (.release 6 0 5)) (wctx 0xFFFE)), 3, 1, 5, 6, 0, 5, 9, { mc with owner := 0xFFFE }, by unfold Dev.hears; decide +kernel⟩⟩

/-- Every clause of FieldLinkOrdersAndTimers with hypotheses is met by a state and operands. -/
theorem witness_FieldLinkOrdersAndTimers :
  (∃ (s : State) (fdx p rx id kind addr cls due bytes m pk : Nat) (poll : Bool) (c : Ctx), s.dev.hears (fdx, p, rx, .order id kind addr cls due bytes poll) ∧ s.dev.fl.done.find? (fun e => decide (e.1 = id)) = none ∧ s.dev.fl.taken.contains id = false ∧ cls ≠ 2 ∧ s.dev.lookup kind addr = some m ∧ s.dev.ctxAt m = some c ∧ c.port = some pk ∧ pk < 16 ∧ s.dev.isOn pk = true)
  ∧ (∃ (s : State) (fdx p rx id kind addr cls due bytes : Nat) (poll : Bool), s.dev.hears (fdx, p, rx, .order id kind addr cls due bytes poll) ∧ s.dev.fl.done.find? (fun e => decide (e.1 = id)) = none ∧ s.dev.fl.taken.contains id = false ∧ cls ≠ 2 ∧ s.dev.lookup kind addr = none)
  ∧ (∃ (s : State) (order : Word) (x : Xfer), s.dev.sch.wait.find? (fun x => x.order = some order.toNat && x.due.isSome) = some x ∧ s.dev.serves = true)
  ∧ (∃ (s : State) (fdx p rx tseq : Nat) (hold valid : Bool) (prev : Int), s.dev.hears (fdx, p, rx, .time hold valid tseq prev))
  ∧ (∃ (s : State) (fdx p rx i : Nat), s.dev.hears (fdx, p, rx, .delayReq i) ∧ s.dev.isHead = true ∧ s.dev.fl.mode ≠ 0 ∧ (s.dev.fd fdx).link.count < 2 ^ 40 ∧ (s.dev.fd fdx).link.epoch < 2 ^ 24)
  ∧ (∃ (s : State) (fdx p rx i : Nat) (t t3 raw : Int), s.dev.hears (fdx, p, rx, .delayRsp i t) ∧ s.dev.tim.flT3 = some (i, t3) ∧ s.dev.tim.flRaw = some raw)
  ∧ (∃ (s : State) (fdx : Fin 1024), s.dev.serves = true ∧ s.dev.isHead = true ∧ (s.dev.fd fdx).st = 2)
  ∧ (∃ (s : State) (t : Nat), s.dev.tim.flDue = some t ∧ s.dev.live = true ∧ s.dev.isField = true)
  ∧ (∃ (s : State) (fdx : Fin 1024), s.dev.flMustered fdx = true ∧ s.dev.fl.muster = [] ∧ (s.dev.flEnd fdx).count < 2 ^ 40 ∧ (s.dev.flEnd fdx).epoch < 2 ^ 24)
  ∧ (∃ (s : State), s.dev.serves = true ∧ s.dev.isField = true ∧ s.dev.fl.st = 3 ∧ s.dev.flPorts = [])
  ∧ (∃ (s : State) (p : Nat), s.dev.serves = true ∧ s.dev.isField = true ∧ s.dev.fl.st = 3 ∧ (s.dev.flPorts.find? (fun q => s.dev.fl.port < q)).or s.dev.flPorts.head? = some p)
  ∧ (∃ (s : State) (port : Fin 4) (speed : Fin 3), s.dev.epOn port = true ∧ s.dev.on F.ETH_STS_LINK port = false)
  ∧ (∃ (s : State) (fdx : Fin 1024), s.dev.isHead = true ∧ s.dev.flMustered fdx = true)
  ∧ (∃ (s : State) (h : FlHeld), s.dev.serves = true ∧ s.dev.isField = true ∧ s.dev.flIsUp = true ∧ oldestSent s.dev.fl.held = some h)
  ∧ (∃ (s : State) (h : FlHeld), s.dev.serves = true ∧ s.dev.isField = false ∧ oldestSent (s.dev.fl.orders.filter (fun o => (s.dev.fd o.fdx).st = 2)) = some h)
  ∧ (∃ (s : State) (fdx : Fin 1024) (t : Nat), (s.dev.fd fdx).ackFrom = some t ∧ s.dev.serves = true ∧ s.dev.isHead = true)
  ∧ (∃ (s : State), s.dev.serves = true ∧ s.dev.isField = true ∧ s.dev.flIsUp = true)
  ∧ (∃ (s : State) (p t : Nat), s.dev.serves = true ∧ s.dev.isField = true ∧ s.dev.fl.mode ≠ 0 ∧ s.dev.fl.st ≠ 0 ∧ (s.dev.flPorts.filter (fun q => q < s.dev.fl.port)).head? = some p ∧ (s.dev.ep p).linkAt = some t) :=
  ⟨⟨(fld (ib (.order 6 0 5 1 100 20 true)) (wctx 0xFFFF)), 3, 1, 5, 6, 0, 5, 1, 100, 20, 9, 0, true, { mc with owner := 0xFFFF }, by unfold Dev.hears; decide +kernel⟩,
   ⟨(fld (ib (.order 6 0 5 1 100 20 true))), 3, 1, 5, 6, 0, 5, 1, 100, 20, true, by unfold Dev.hears; decide +kernel⟩,
   ⟨(fld id oq), 6, { mix := 1, port := 0, order := some 6, due := some 100 }, by decide +kernel⟩,
   ⟨(fld (ib (.time true true 4 100))), 3, 1, 5, 4, true, true, 100, by unfold Dev.hears; decide +kernel⟩,
   ⟨(hdd (ib (.delayReq 4))), 3, 1, 5, 4, by unfold Dev.hears; decide +kernel⟩,
   ⟨(fld (ib (.delayRsp 4 90)) (fun d => { d with tim := { d.tim with flT3 := some (4, 70), flRaw := some 10 } })), 3, 1, 5, 4, 90, 70, 10, by unfold Dev.hears; decide +kernel⟩,
   ⟨(hdd (fd3 { st := 2, timeDue := 99 })), 3, by decide +kernel⟩,
   ⟨(fld id (fun d => { d with tim := { d.tim with flDue := some 7 } })), 7, by decide +kernel⟩,
   ⟨(hdd (fd3 { st := 2 })), 3, by decide +kernel⟩,
   ⟨(fld (fun f => { f with st := 3 })), by decide +kernel⟩,
   ⟨(fld (fun f => { f with st := 3 }) links), 1, by decide +kernel⟩,
   ⟨(up (fun d => d.setFn 6 { st := .on })), 0, 1, by decide +kernel⟩,
   ⟨(hdd (fd3 { st := 2 })), 3, by decide +kernel⟩,
   ⟨(fld (fun f => { f with st := 3, held := [hx] })), hx, by decide +kernel⟩,
   ⟨(hdd (fun f => fd3 { st := 2 } { f with orders := [hx] })), hx, by decide +kernel⟩,
   ⟨(hdd (fd3 { st := 2, ackFrom := some 4, ackCount := 2 })), 3, 4, by decide +kernel⟩,
   ⟨(fld (fun f => { f with st := 3 })), by decide +kernel⟩,
   ⟨(fld (fun f => { f with st := 3, port := 1 }) links), 0, 3, by decide +kernel⟩⟩

end W13

namespace W14

def sl0 : ImgSlot := { block := 64, size := 1000, ident := [1#8], bytes := List.replicate 80 1#8 }
def sim (f : Img → Img) (g : Dev → Dev := id) (d : Dev) : Dev := g { d with img := f { d.img with slots := [(2, sl0)] } }
def ihd : List Byte := leBytes 4 0x4D494D56 ++ leBytes 2 1 ++ leBytes 2 64 ++ leBytes 4 1000 ++ [1#8, 0, 0, 0] ++ List.replicate 48 7#8 ++ List.replicate 64 9#8
def cpn (st o c : Nat) : Campaign := { slot := 2, open_ := o, close_ := c, st := st }
def mc : Ctx := { addr := 5, kind := 0, st := 3, attach := 1, owner := 0xFFFF, imgState := 2, imgFirst := 4, imgMiss := 90, grp := 3, suite := 7, keyGen := 0xFF }
def wm (d : Dev) : Dev := { d with ctx := { d.ctx with tab := [(9, mc)], index := [⟨0, 5, 9, none⟩] } }
def via : Via := { attach := 1, rx := 3000000000 }
def mf : MFrame := { kind := 0, addr := 5, raw := [1#8] }
def jr : JoinReq := { kind := 0, addr := 5 }
def q0 (p : Payload) (d : Dev) : Dev := d.setLane 0 { cells := [⟨0, 64, p⟩] }
def key0 (d : Dev) : Dev := ({ d with sec := { d.sec with kdev := some [], imports := [(9, { ek := some kwIv })] } } : Dev).wrb F.SEC_STS_ROOT_VALID 0 true
def pinAll (d : Dev) : Dev := { d with ctx := { d.ctx with cache := d.ctx.cache.put 9 ((List.range 8).map (fun k => 9 + 2048 * (k + 1))), pins := (List.range 8).map (fun k => (9 + 2048 * (k + 1), 1)) } }
def le (st v : Nat) (r : Option Nat) : LogEnt := { prev := [], seq := st, typ := 3, cls := 1, start := st, value := v, reg := r, intLen := 15, book := some 0 }
def lgs (d : Dev) : Dev := let d1 := wm d; { d1 with ctx := { d1.ctx with tab := [(9, { mc with intLen := 15, vee := 3 })] }, ldg := { d1.ldg with meters := [(9, { log := [le 3600 5 (some 100), le 900 5 (some 20)] })], winMixes := [9], winEnd := 7 } }

/-- Every clause of MeterImages with hypotheses is met by a state and operands. -/
theorem witness_MeterImages :
  (∃ (s : State) (pair : Fin 64) (bs : List Byte) (h : Held) (sl : ImgSlot), s.takes pair 0x50 h ∧ s.dev.ftl.state ≠ 2 ∧ h.desc.word 6 ≤ 15 ∧ s.dev.imgUsed (h.desc.word 6) = false ∧ s.dev.img.slots.find (h.desc.word 6) = some sl ∧ sl.bytes.length + bufLen h.desc ≤ sl.size)
  ∧ (∃ (s : State) (pair : Fin 64) (bs : List Byte) (h : Held) (sl : ImgSlot), s.takes pair 0x50 h ∧ s.dev.ftl.state ≠ 2 ∧ h.desc.word 6 ≤ 15 ∧ s.dev.imgUsed (h.desc.word 6) = false ∧ s.dev.img.slots.find (h.desc.word 6) = none ∧ ImgSlot.parse (padTo (bufLen h.desc) (bs.take (bufLen h.desc))) = .ok sl ∧ 64 ≤ bufLen h.desc ∧ bufLen h.desc - 64 ≤ sl.size)
  ∧ (∃ (s : State) (pair : Fin 64) (h : Held) (sl : ImgSlot), s.takes pair 0x51 h ∧ s.dev.img.slots.find (h.desc.word 6) = some sl ∧ sl.complete = true ∧ s.dev.campOf (tGrp h.desc) = none)
  ∧ (∃ (s : State) (pair : Fin 64) (h : Held) (c : Ctx), s.takes pair 0x52 h ∧ tKind h.desc = 1 ∧ s.dev.ctxNamed (tMix h.desc) = some c ∧ c.owned = true)
  ∧ (∃ (s : State) (pair : Fin 64) (h : Held), s.takes pair 0x52 h ∧ tKind h.desc ≠ 1)
  ∧ (∃ (s : State) (pair : Fin 64) (h : Held), s.takes pair 0x53 h ∧ h.desc.word 6 ≤ 15 ∧ s.dev.imgUsed (h.desc.word 6) = false)
  ∧ (∃ (s : State) (pair : Fin 64) (h : Held), s.takes pair 0x53 h ∧ h.desc.word 6 ≤ 15 ∧ s.dev.imgUsed (h.desc.word 6) = true ∧ (s.dev.campOf (tGrp h.desc)).isSome = true)
  ∧ (∃ (s : State) (grp : Fin 4096) (c : Campaign) (sl : ImgSlot), s.dev.campOf grp.val = some (c, sl) ∧ s.dev.serves = true ∧ c.st = 3)
  ∧ (∃ (s : State) (grp : Fin 4096) (c : Campaign) (sl : ImgSlot), s.dev.campOf grp.val = some (c, sl) ∧ s.dev.serves = true ∧ c.st = 2 ∧ c.open_ ≠ c.close_)
  ∧ (∃ (s : State) (grp : Fin 4096) (port : Fin 7) (fdx : Fin 1024) (pk : Nat) (c : Campaign) (sl : ImgSlot) (a : Nat × Ctx) (t : List (Nat × Ctx)), pk = (if port.val = 6 then 16 + fdx.val else port.val) ∧ s.dev.campOf grp.val = some (c, sl) ∧ s.dev.serves = true ∧ (c.passes.getD pk {}).next = none ∧ s.dev.passesSpent c pk = false ∧ (c.passes.getD pk {}).endedAt = none ∧ s.dev.campSends grp.val = true ∧ s.dev.passFor grp.val pk = a :: t) :=
  ⟨⟨(held1 [0x850, 0, 0x20000003, 0, 0, 128, 2] (sim id)), 0, [1#8], (hd [0x850, 0, 0x20000003, 0, 0, 128, 2]), sl0, by unfold State.takes; decide +kernel⟩,
   ⟨(held1 [0x850, 0, 0x20000003, 0, 0, 128, 1] (sim id)), 0, ihd, (hd [0x850, 0, 0x20000003, 0, 0, 128, 1]), (match ImgSlot.parse ihd with | .ok x => x | _ => sl0), by unfold State.takes; decide +kernel⟩,
   ⟨(held1 [0x51, 0, 0x20000003, 0, 0, 0, 2, 60, 120] (fun d => wm { d with img := { d.img with slots := [(2, { sl0 with size := 80 })] } })), 0, (hd [0x51, 0, 0x20000003, 0, 0, 0, 2, 60, 120]), { sl0 with size := 80 }, by unfold State.takes; decide +kernel⟩,
   ⟨(held1 [0x52, 0, 0x10000009] wm), 0, (hd [0x52, 0, 0x10000009]), mc, by unfold State.takes; decide +kernel⟩,
   ⟨(held1 [0x52, 0, 0x20000003] wm), 0, (hd [0x52, 0, 0x20000003]), by unfold State.takes; decide +kernel⟩,
   ⟨(held1 [0x53, 0, 0x20000003, 0, 0, 0, 2] (sim (fun i => { i with camps := [(3, cpn 1 0 0)] }))), 0, (hd [0x53, 0, 0x20000003, 0, 0, 0, 2]), by unfold State.takes; decide +kernel⟩,
   ⟨(held1 [0x53, 0, 0x20000003, 0, 0, 0, 2] (sim (fun i => { i with camps := [(3, cpn 2 0 0)] }) wm)), 0, (hd [0x53, 0, 0x20000003, 0, 0, 0, 2]), by unfold State.takes; decide +kernel⟩,
   ⟨(up (sim (fun i => { i with camps := [(3, cpn 3 60 120)] }))), 3, (cpn 3 60 120), sl0, by decide +kernel⟩,
   ⟨(up (sim (fun i => { i with camps := [(3, cpn 2 60 120)] }))), 3, (cpn 2 60 120), sl0, by decide +kernel⟩,
   ⟨(up (sim (fun i => { i with camps := [(3, cpn 2 0 0)] }) wm)), 3, 0, 0, 0, (cpn 2 0 0), sl0, (9, mc), [], by decide +kernel⟩⟩

/-- Every clause of FramesAndJoins with hypotheses is met by a state and operands. -/
theorem witness_FramesAndJoins :
  (∃ (s : State) (queue : Fin 10) (n pr b : Nat) (f : MFrame) (v : Via), s.dev.ingestHead queue = some (n, ⟨pr, b, .frame f v⟩) ∧ s.dev.serves = true ∧ s.dev.resolve f v = none)
  ∧ (∃ (s : State) (queue : Fin 10) (n pr b m : Nat) (f : MFrame) (v : Via) (c : Ctx), s.dev.ingestHead queue = some (n, ⟨pr, b, .frame f v⟩) ∧ s.dev.serves = true ∧ s.dev.resolve f v = some m ∧ s.dev.ctxAt m = some c ∧ (c.st = 3 ∨ c.st = 4) ∧ c.owner ≠ 0xFFFE ∧ f.data.alarms = 0 ∧ v.fdx = none ∧ v.reply = false ∧ (s.dev.fetchCtx m).1 = true ∧ ((((s.dev.fetchCtx m).2.laneDrop queue n).stormCheck).authenticate m c f).1 = .ok)
  ∧ (∃ (s : State) (queue : Fin 10) (n pr b m : Nat) (f : MFrame) (v : Via) (c : Ctx), s.dev.ingestHead queue = some (n, ⟨pr, b, .frame f v⟩) ∧ s.dev.serves = true ∧ s.dev.resolve f v = some m ∧ s.dev.ctxAt m = some c ∧ (c.st = 3 ∨ c.st = 4) ∧ c.owner ≠ 0xFFFE ∧ (s.dev.fetchCtx m).1 = false)
  ∧ (∃ (s : State) (queue : Fin 10) (moves : List (Fin 4)) (n pr b : Nat) (j : JoinReq) (v : Via), s.dev.ingestHead queue = some (n, ⟨pr, b, .join j v⟩) ∧ s.dev.serves = true ∧ s.dev.lookup j.kind j.addr = none ∧ s.dev.isField = false ∧ s.dev.ctx.rehash = false ∧ j.kind = 0 ∧ s.dev.rd F.CTX_ADMIT_CFG_MODE = 0)
  ∧ (∃ (s : State) (queue : Fin 10) (moves : List (Fin 4)) (n pr b : Nat) (j : JoinReq) (v : Via), s.dev.ingestHead queue = some (n, ⟨pr, b, .join j v⟩) ∧ s.dev.serves = true ∧ s.dev.lookup j.kind j.addr = none ∧ s.dev.isField = false ∧ j.kind = 0 ∧ s.dev.rd F.CTX_ADMIT_CFG_MODE ≠ 0 ∧ s.dev.ctxUsed < s.dev.ctxLimit ∧ s.dev.attachFull v false = false ∧ s.dev.joining < 1024 ∧ s.dev.ctx.rehash = false ∧ s.dev.ctx.index.length < 1024)
  ∧ (∃ (s : State) (queue : Fin 10) (moves : List (Fin 4)) (n pr b m : Nat) (j : JoinReq) (v : Via) (c : Ctx), s.dev.ingestHead queue = some (n, ⟨pr, b, .join j v⟩) ∧ s.dev.serves = true ∧ s.dev.lookup j.kind j.addr = some m ∧ s.dev.ctxAt m = some c ∧ c.owner ≠ 0xFFFE ∧ c.st ≠ 5 ∧ c.st ≠ 2 ∧ s.dev.isQuiet j = false ∧ s.dev.ctx.rehash = false ∧ s.dev.attachFull v (decide (1 ≤ c.attach ∧ c.attach ≤ 6)) = false ∧ s.dev.joining < 1024) :=
  ⟨⟨(up (q0 (.frame mf via))), 0, 0, 0, 64, mf, via, by decide +kernel⟩,
   ⟨(up (fun d => key0 (wm (q0 (.frame { mf with counter := 4 } via) d)))), 0, 0, 0, 64, 9, { mf with counter := 4 }, via, mc, by decide +kernel⟩,
   ⟨(up (fun d => (pinAll (wm (q0 (.frame mf via) d))))), 0, 0, 0, 64, 9, mf, via, mc, by decide +kernel⟩,
   ⟨(up (fun d => (q0 (.join jr via) d).wr F.GLB_ROLE_STS_ROLE 0 1)), 0, [], 0, 0, 64, jr, via, by decide +kernel⟩,
   ⟨(up (fun d => ((q0 (.join jr via) d).wr F.GLB_ROLE_STS_ROLE 0 1).wr F.CTX_ADMIT_CFG_MODE 0 1)), 0, [], 0, 0, 64, jr, via, by decide +kernel⟩,
   ⟨(up (fun d => wm (q0 (.join jr via) d))), 0, [], 0, 0, 64, 9, jr, via, mc, by decide +kernel⟩⟩

/-- Every clause of LedgerTimes with hypotheses is met by a state and operands. -/
theorem witness_LedgerTimes :
  (∃ (s : State) (pair : Fin 64) (h : Held) (c : Ctx) (ok : List (List Byte) × Bool), s.takes pair 0x21 h ∧ tKind h.desc = 1 ∧ s.dev.ctxNamed (tMix h.desc) = some c ∧ c.owned = true ∧ fitting (bufLen h.desc) (s.dev.logOf (h.desc.quad 6) (count4096 (h.desc.word 8)) (bitAt (h.desc.word 9) 0) (tMix h.desc)).1 = ok)
  ∧ (∃ (s : State) (mix : BitVec 20) (r : List Nat × Nat × Nat), (sortBy (fun r => r.2.2) (s.dev.fillable mix.toNat)).head? = some r ∧ s.dev.ldgRuns = true)
  ∧ (∃ (s : State), s.dev.ldgRuns = true)
  ∧ (∃ (s : State), s.dev.ldgRuns = true ∧ s.dev.ldg.winMixes ≠ [])
  ∧ (∃ (s : State), s.dev.ldgRuns = true)
  ∧ (∃ (s : State), s.dev.live = true)
  ∧ (∃ (s : State), s.dev.ldgRuns = true ∧ s.dev.ldg.recompute = true)
  ∧ (∃ (s : State), s.dev.live = true) :=
  ⟨⟨(held1 [0x821, 0, 0x10000009, 0, 0, 256, 0, 0, 4] lgs), 0, (hd [0x821, 0, 0x10000009, 0, 0, 256, 0, 0, 4]), { mc with intLen := 15, vee := 3 }, (fitting 256 ((held1 [0x821, 0, 0x10000009, 0, 0, 256, 0, 0, 4] lgs).dev.logOf 0 4 false 9).1), by unfold State.takes; decide +kernel⟩,
   ⟨(up lgs), 9, (((up lgs).dev.fillable 9).headD ([], 0, 0)), by decide +kernel⟩,
   ⟨(up lgs), by decide +kernel⟩,
   ⟨(up lgs), by decide +kernel⟩,
   ⟨(up lgs), by decide +kernel⟩,
   ⟨(up lgs), by decide +kernel⟩,
   ⟨(up (fun d => { lgs d with ldg := { (lgs d).ldg with recompute := true } })), by decide +kernel⟩,
   ⟨(up lgs), by decide +kernel⟩⟩

end W14

namespace W15

def lpn (f : Lcp → Lcp) (g : Dev → Dev := id) : State := up (fun d => g (((d.setFn 0 { st := .on }).wr F.LCP_CFG_PLANS 0 4).setLp 0 (f {})))
def lrx : LineRx := { plan := 2, hdr := { typ := 1, src := 3 } }
def claim (d : Dev) : Dev := (({ d with par := { d.par with claim := true } } : Dev).wr F.LCP_GOV_CAP_WIN_CAP 0 65535).wr F.LCP_GOV_CAP_FRAME_CAP 0 65535 |>.wr F.LCP_GOV_OTP_WIN_HARD 0 65535 |>.wr F.LCP_GOV_OTP_FRAME_HARD 0 65535
def bcn (d : Dev) : Dev := d.setPsch 0 { d.psch 0 with beacon := true }
def ltx : LineTx := { plan := 2, symbols := 4, start := 0 }
def nb0 : Nb := { short := 3, plan := 2 }
def cmn (x : MetCm) (g : Dev → Dev := id) : State := up (fun d => g ((d.setFn 14 { st := .on }).setMcm 0 x))

/-- Every clause of LinePortFrames with hypotheses is met by a state and operands. -/
theorem witness_LinePortFrames :
  (∃ (s : State) (port : Fin 2) (rx : LineRx), s.dev.portRuns port = true ∧ (s.dev.plans port).contains rx.plan = true ∧ (s.dev.lp port).blanked.contains rx.plan = false ∧ (LineRx.fcPass rx) = true ∧ rx.ok = true)
  ∧ (∃ (s : State) (port : Fin 2) (rx : LineRx), s.dev.portRuns port = true ∧ (s.dev.plans port).contains rx.plan = true ∧ (s.dev.lp port).blanked.contains rx.plan = false ∧ ((LineRx.fcPass rx) && rx.ok) = false)
  ∧ (∃ (s : State) (port : Fin 2), s.dev.portRuns port = true ∧ (s.dev.lp port).seg.isSome = true)
  ∧ (∃ (s : State) (port : Fin 2) (plan bps bytes : Nat), s.dev.portRuns port = true ∧ (s.dev.lp port).phase = .contend ∧ s.dev.contends port = some (plan, bps, bytes) ∧ s.dev.gateOpen = true ∧ (s.dev.toMono (s.dev.sendAt port plan)).govStarts port plan = true)
  ∧ (∃ (s : State) (port : Fin 2) (plan bps bytes : Nat), s.dev.portRuns port = true ∧ (s.dev.lp port).phase = .contend ∧ s.dev.contends port = some (plan, bps, bytes) ∧ s.dev.gateOpen = false)
  ∧ (∃ (s : State) (port : Fin 2) (gain : Fin 8) (t : LineTx), s.dev.portRuns port = true ∧ (s.dev.lp port).tx = some t)
  ∧ (∃ (s : State) (port : Fin 2) (t : Nat), (s.dev.lp port).blankUntil = some t) :=
  ⟨⟨(lpn id), 0, lrx, by decide +kernel⟩,
   ⟨(lpn id), 0, { lrx with ok := false }, by decide +kernel⟩,
   ⟨(lpn (fun l => { l with seg := some { src := 1, seq := 0, next := 1, last := 2 } })), 0, by decide +kernel⟩,
   ⟨(lpn (fun l => { l with phase := .contend, bcnLeft := [2] }) (fun d => bcn (claim d))), 0, 2, ((lpn id).dev.robust 0), 32, by decide +kernel⟩,
   ⟨(lpn (fun l => { l with phase := .contend, bcnLeft := [2] }) bcn), 0, 2, ((lpn id).dev.robust 0), 32, by decide +kernel⟩,
   ⟨(lpn (fun l => { l with phase := .sending, tx := some ltx })), 0, 2, ltx, by decide +kernel⟩,
   ⟨(lpn (fun l => { l with blankUntil := some 9, blanked := [2] })), 0, 9, by decide +kernel⟩⟩

/-- Every clause of Governor with hypotheses is met by a state and operands. -/
theorem witness_Governor :
  (∃ (s : State) (port : Fin 2) (v i : BitVec 14), s.dev.live = true ∧ absentOff s.dev.grade (F.LCP_STS_STATE.at port) = false ∧ (∀ t, (s.dev.lp port).tx = some t → 125 * max ((s.dev.lp port).sample + 1) s.dev.sampleNo ≤ s.dev.txDown port t))
  ∧ (∃ (s : State) (port : Fin 2) (val : Word), s.dev.live = true)
  ∧ (∃ (s : State) (port : Fin 2) (val : Word), s.dev.live = true ∧ F.LCP_GOV_PROG_GO.get val.toNat ≠ 0 ∧ absentOff s.dev.grade (F.LCP_GOV_PROG_GO.at port) = false ∧ s.dev.fuseRefused port val.toNat = none)
  ∧ (∃ (s : State) (port : Fin 2) (val : Word) (why : Nat), s.dev.live = true ∧ F.LCP_GOV_PROG_GO.get val.toNat ≠ 0 ∧ absentOff s.dev.grade (F.LCP_GOV_PROG_GO.at port) = false ∧ s.dev.fuseRefused port val.toNat = some why)
  ∧ (∃ (s : State) (port : Fin 2), (s.dev.lp port).fuseUntil.isSome = true ∧ s.die.gov.find port = none)
  ∧ (∃ (s : State) (port : Fin 2) (counter : Fin 12) (val : Word), s.dev.live = true) :=
  ⟨⟨(lpn (fun l => { l with tx := some ltx, win := [(1, 5)] }) (fun d => (d.wr F.LCP_SNS_CAL_VSCALE 0 4).wr F.LCP_SNS_CAL_ISCALE 0 4)), 0, 9000, 9000, by decide +kernel⟩,
   ⟨(lpn id), 0, (BitVec.ofNat 32 0x00050007), by decide +kernel⟩,
   ⟨(up id), 0, (BitVec.ofNat 32 (0xF05E * 2 ^ F.LCP_GOV_PROG_KEY.lo + 2 ^ F.LCP_GOV_PROG_GO.lo)), by decide +kernel⟩,
   ⟨(lpn id), 0, (BitVec.ofNat 32 (0xF05E * 2 ^ F.LCP_GOV_PROG_KEY.lo + 2 ^ F.LCP_GOV_PROG_GO.lo)), 1, by decide +kernel⟩,
   ⟨(lpn (fun l => { l with fuseUntil := some 9 }) (fun d => d.wr F.LCP_GOV_FUSE_WIN 0 77)), 0, by decide +kernel⟩,
   ⟨(lpn id (fun d => d.wr F.LCP_RX_OK 0 9)), 0, 2, 5, by decide +kernel⟩⟩

/-- Every clause of LineNeighboursAndWindows with hypotheses is met by a state and operands. -/
theorem witness_LineNeighboursAndWindows :
  (∃ (s : State) (port : Fin 2) (nb : Fin 2048) (n : Nb), s.dev.live = true ∧ (s.dev.lp port).nbs.find nb = some n)
  ∧ (∃ (s : State) (port : Fin 2) (nb : Fin 2048) (n : Nb), s.dev.live = true ∧ (s.dev.lp port).nbs.find nb = some n)
  ∧ (∃ (s : State) (port : Fin 2) (nb : Fin 2048) (n : Nb), s.dev.live = true ∧ (s.dev.lp port).nbs.find nb = some n)
  ∧ (∃ (s : State) (port : Fin 2) (phase : Fin 3) (rising : Bool), s.dev.portRuns port = true ∧ bitAt (s.dev.rd F.LCP_ZC_CFG_EN port) phase = true ∧ rising = !bitAt (s.dev.rd F.LCP_ZC_CFG_POL port) phase ∧ (s.dev.lp port).zc.length = 3)
  ∧ (∃ (s : State) (port : Fin 2), s.dev.portRuns port = true ∧ s.dev.isBow = false ∧ (s.dev.lp port).winFail ≤ (s.dev.lp port).winEx)
  ∧ (∃ (s : State) (port : Fin 2) (n : Nb), s.dev.live = true ∧ (s.dev.lp port).nbs.find (s.dev.rd F.LCP_NB_SEL_INDEX port) = some n)
  ∧ (∃ (s : State) (port : Fin 2) (r : Route), s.dev.live = true ∧ (s.dev.lp port).routes.find (s.dev.rd F.LCP_RT_SEL_MIX port) = some r) :=
  ⟨⟨(lpn (fun l => { l with nbs := [(4, { nb0 with lastTm := some 0 })] })), 0, 4, { nb0 with lastTm := some 0 }, by decide +kernel⟩,
   ⟨(lpn (fun l => { l with nbs := [(4, { nb0 with txValid := true })] })), 0, 4, { nb0 with txValid := true }, by decide +kernel⟩,
   ⟨(lpn (fun l => { l with nbs := [(4, nb0)] })), 0, 4, nb0, by decide +kernel⟩,
   ⟨(lpn id (fun d => d.wr F.LCP_ZC_CFG_EN 0 7)), 0, 1, (!bitAt ((lpn id).dev.rd F.LCP_ZC_CFG_POL 0) 1), by decide +kernel⟩,
   ⟨(lpn (fun l => { l with winEx := 10, winFail := 3 })), 0, by decide +kernel⟩,
   ⟨(lpn (fun l => { l with nbs := [(0, nb0)] })), 0, nb0, by decide +kernel⟩,
   ⟨(lpn (fun l => { l with routes := [(0, { path := [(3, 4)], cost := 5 })] })), 0, { path := [(3, 4)], cost := 5 }, by decide +kernel⟩⟩

/-- Every clause of CatchChain with hypotheses is met by a state and operands. -/
theorem witness_CatchChain :
  (∃ (s : State) (ch : Fin 24) (bits : Nat) (overload : Bool), s.dev.hasCh ch = true ∧ s.dev.isOn (19 + ch) = true ∧ s.dev.chMayRun ch = true ∧ (ch.val < 12 ∨ s.dev.on F.MET_CFG_BSCLK_EN = true))
  ∧ (∃ (s : State) (ch : Fin 24) (val : Word), s.dev.hasCh ch = true)
  ∧ (∃ (s : State) (ch : Fin 24) (gain : Bool) (val : Word), s.dev.hasCh ch = true ∧ s.dev.isOff (19 + ch) = true)
  ∧ (∃ (s : State) (ch : Fin 24) (gain : Bool) (val : Word), s.dev.hasCh ch = true ∧ s.dev.isOff (19 + ch) = false)
  ∧ (∃ (s : State) (ch : Fin 24) (word : Fin 97) (val : Word), s.dev.hasCh ch = true)
  ∧ (∃ (s : State) (ch : Fin 24), s.dev.hasCh ch = true ∧ 12 ≤ ch.val ∧ s.dev.isOn (19 + ch) = true ∧ s.dev.on F.MET_CFG_BSCLK_EN = true ∧ s.dev.on F.MET_CH_STS_STUCK ch = false)
  ∧ (∃ (s : State) (ch : Fin 24), s.dev.hasCh ch = true ∧ s.dev.on F.MET_CH_STS_STUCK ch = true)
  ∧ (∃ (s : State) (cm : Fin 4) (a : CmSec), (s.dev.mcm cm).secs.head? = some a ∧ s.dev.live = true ∧ s.dev.isOn (14 + cm) = true ∧ (a.sec + 1) * 1000000000 ≤ (s.dev.mcm cm).at_)
  ∧ (∃ (s : State) (cm : Fin 4) (a : CmAcc), (s.dev.mcm cm).accs.head? = some a ∧ s.dev.live = true ∧ s.dev.isOn (14 + cm) = true ∧ (a.start + 900) * 1000000000 ≤ (s.dev.mcm cm).at_)
  ∧ (∃ (s : State) (ch : Fin 24), s.dev.hasCh ch = true)
  ∧ (∃ (s : State) (cm : Fin 4), s.dev.live = true ∧ fixAbsent s.dev.grade (14 + cm) = false) :=
  ⟨⟨(up (fun d => d.setFn 20 { st := .on })), 1, 5, true, by decide +kernel⟩,
   ⟨(up id), 1, (BitVec.ofNat 32 0xFFFFFFFF), by decide +kernel⟩,
   ⟨(up id), 1, true, 77, by decide +kernel⟩,
   ⟨(up (fun d => d.setFn 20 { st := .on })), 1, false, 77, by decide +kernel⟩,
   ⟨(up id), 1, 4, 5, by decide +kernel⟩,
   ⟨(up (fun d => (d.setFn 32 { st := .on }).wrb F.MET_CFG_BSCLK_EN 0 true)), 13, by decide +kernel⟩,
   ⟨(up (fun d => d.wrb F.MET_CH_STS_STUCK 13 true)), 13, by decide +kernel⟩,
   ⟨(cmn { at_ := 2000000000, secs := [{ sec := 1, n := 4, v2 := [40000, 9, 9], p := [4, 5, -6] }] }), 0, { sec := 1, n := 4, v2 := [40000, 9, 9], p := [4, 5, -6] }, by decide +kernel⟩,
   ⟨(cmn { at_ := 901000000000, accs := [{ start := 0, e := [36, 0, 0] }] }), 0, { start := 0, e := [36, 0, 0] }, by decide +kernel⟩,
   ⟨(up (fun d => d.setMch 1 { idx := some 9, stamp := 70 })), 1, by decide +kernel⟩,
   ⟨(cmn { last := [7#8] }), 0, by decide +kernel⟩⟩

end W15

namespace W16

def pr0 (f : Par → Par) (g : Dev → Dev := id) : State := up (fun d => g ({ d with sec := { d.sec with kdev := some [] }, par := f { d.par with en := true, lanes := [true, true] } } : Dev))
def pk : PairHdr := { cycle := 5, epoch := 1, count := 3, key := kdf [] "PLK" [] 256 }
def root (d : Dev) : Dev := d.wrb F.SEC_STS_ROOT_VALID 0 true
def prd (w : List Nat) (f : Par → Par) (g : Dev → Dev := id) : State := held1 w (fun d => g ({ d with fn := d.fn.put 18 { st := .on }, par := f { d.par with en := true, lanes := [true, true], health := 127 } } : Dev))
def bow (p : Par) : Par := { p with role := .bow }
def stk (p : Par) : Par := { p with role := .stroke, claim := true }
def arb (p : Par) : Par := { p with role := .arb }
def swp (d : Dev) : Dev := { d with tar := { d.tar with sweeps := [{ grp := 1, instant := 5, left := [7] }] } }
def bigSlot (n : Nat) : ImgSlot := { block := 512, size := 67108864, ident := [], bytes := List.replicate n 0 }
def big (n : Nat) : State := pr0 stk (fun d => { d with img := { d.img with slots := [(1, bigSlot n)] } })
theorem le_sumNat (l : List Nat) : ∀ (x a : Nat), x ∈ l ∨ x ≤ a → x ≤ l.foldl (· + ·) a := by
  induction l with
  | nil => intro x a h; simpa using h
  | cons y t ih =>
    intro x a h
    refine ih x (a + y) ?_
    rcases h with h | h
    · rcases List.mem_cons.1 h with h | h
      · exact Or.inr (by omega)
      · exact Or.inl h
    · exact Or.inr (by omega)
theorem big_sum (n : Nat) : 64 + n ≤ sumNat ((big n).dev.delta.map deltaLen) := by
  have h : DeltaRec.image 1 (some (bigSlot n)) ∈ (big n).dev.delta :=
    List.mem_append_right _ (List.mem_filter.2 ⟨List.mem_append_right _ (List.mem_map.2 ⟨(1, some (bigSlot n)), List.mem_cons_self, rfl⟩), rfl⟩)
  have e : deltaLen (.image 1 (some (bigSlot n))) = 64 + n := congrArg (64 + ·) (List.length_replicate)
  exact le_sumNat _ _ 0 (Or.inl (List.mem_map.2 ⟨_, h, e⟩))
def dr4 : Drill := { own := true, desc := none, mask := 16, left := 16, holdFrom := some 5 }

/-- Every clause of PairRolesAndClaims with hypotheses is met by a state and operands. -/
theorem witness_PairRolesAndClaims :
  (∃ (s : State), s.dev.arbitrates = true ∧ (s.dev.toMono (s.dev.par.arbFrom + msC 100)).claimIn = true)
  ∧ (∃ (s : State), s.dev.arbitrates = true ∧ (s.dev.toMono (s.dev.par.arbFrom + msC 100)).claimIn = false)
  ∧ (∃ (s : State) (hdr : PairHdr) (root last side : Bool) (serial : Nat), (s.dev.pairTake hdr (.arb root last side serial)).1 = true ∧ s.dev.arbitrates = true)
  ∧ (∃ (s : State), s.dev.arbitrates = true ∧ (s.dev.pairUp && s.dev.par.won.isSome) = false ∧ (s.dev.toMono (s.dev.par.arbFrom + msC (if s.dev.par.side then 250 else 150))).claimIn = false)
  ∧ (∃ (s : State) (won : Bool), s.dev.arbitrates = true ∧ s.dev.pairUp = true ∧ s.dev.par.won = some won ∧ (s.dev.toMono (s.dev.par.arbFrom + msC 150)).claimIn = false)
  ∧ (∃ (s : State), s.dev.par.claimInRaw = false)
  ∧ (∃ (s : State), s.dev.live = true ∧ s.dev.isBow = true ∧ s.dev.par.claimInRaw = false ∧ (s.dev.toMono (s.dev.par.claimInAt + 5000 + 3 * s.dev.hbC)).mayClaim = true)
  ∧ (∃ (s : State) (t : Nat), s.dev.par.claimExp = some t ∧ s.dev.live = true)
  ∧ (∃ (s : State) (val : Word), s.dev.live = true ∧ F.PAR_CTL_KEY.get val.toNat = 0x9A1E ∧ F.PAR_CTL_FORCE.get val.toNat = 1 ∧ s.dev.isBow = true ∧ s.dev.par.ready = false ∧ s.dev.claimIn = false ∧ s.dev.rootValid = true ∧ s.dev.isSafe = false)
  ∧ (∃ (s : State) (hdr : PairHdr), (s.dev.pairTake hdr .yield).1 = true ∧ s.dev.mayClaim = true)
  ∧ (∃ (s : State) (hdr : PairHdr), (s.dev.pairTake hdr .yield).1 = true ∧ s.dev.isBow = true ∧ s.dev.claimIn = true) :=
  ⟨⟨(pr0 (fun p => { arb p with claimInRaw := true, claimInOld := true })), by decide +kernel⟩,
   ⟨(pr0 arb), by decide +kernel⟩,
   ⟨(pr0 arb), pk, true, false, true, 9, by decide +kernel⟩,
   ⟨(pr0 (fun p => { arb p with side := true })), by decide +kernel⟩,
   ⟨(pr0 (fun p => { arb p with won := some true })), true, by decide +kernel⟩,
   ⟨(pr0 stk), by decide +kernel⟩,
   ⟨(pr0 (fun p => { bow p with ready := true }) root), by decide +kernel⟩,
   ⟨(pr0 (fun p => { stk p with claimExp := some 99 })), 99, by decide +kernel⟩,
   ⟨(pr0 bow root), (BitVec.ofNat 32 (0x9A1E * 2 ^ F.PAR_CTL_KEY.lo + 2 ^ F.PAR_CTL_FORCE.lo)), by decide +kernel⟩,
   ⟨(pr0 (fun p => { bow p with ready := true }) root), pk, by decide +kernel⟩,
   ⟨(pr0 (fun p => { bow p with claimInRaw := true, claimInOld := true })), pk, by decide +kernel⟩⟩

/-- Every clause of PairHeartbeatsAndLanes with hypotheses is met by a state and operands. -/
theorem witness_PairHeartbeatsAndLanes :
  (∃ (s : State), s.dev.beats = true ∧ s.dev.par.swap = none ∧ (s.dev.toMono s.dev.par.hbDue).claimStands = true)
  ∧ (∃ (s : State), s.dev.beats = true ∧ s.dev.par.swap = none ∧ (s.dev.toMono s.dev.par.hbDue).claimStands = false)
  ∧ (∃ (s : State) (hdr : PairHdr) (peer : PairPeer), (s.dev.pairTake hdr (.heartbeat peer)).1 = true)
  ∧ (∃ (s : State) (t : Nat), s.dev.par.lastHb = some t ∧ s.dev.beats = true ∧ s.dev.par.hbLost = false ∧ s.dev.par.hbMisses < 2)
  ∧ (∃ (s : State) (t : Nat), s.dev.par.lastHb = some t ∧ s.dev.beats = true ∧ s.dev.par.hbLost = false ∧ 2 ≤ s.dev.par.hbMisses ∧ s.dev.par.role = .stroke)
  ∧ (∃ (s : State) (t : Nat), s.dev.par.lastHb = some t ∧ s.dev.beats = true ∧ s.dev.par.hbLost = false ∧ 2 ≤ s.dev.par.hbMisses ∧ s.dev.isBow = true ∧ (s.dev.toMono (t + s.dev.hbC + 10000)).claimIn = true)
  ∧ (∃ (s : State) (lane : Fin 2), s.dev.live = true ∧ s.dev.par.lanes.getD lane false = true ∧ (s.dev.par.lanes.set lane false).any id = true)
  ∧ (∃ (s : State) (lane : Fin 2), s.dev.live = true ∧ s.dev.par.lanes.getD lane false = true ∧ (s.dev.par.lanes.set lane false).any id = false)
  ∧ (∃ (s : State) (lane : Fin 2), s.dev.live = true ∧ s.dev.par.en = true)
  ∧ (∃ (s : State) (hdr : PairHdr) (cells : Nat), (s.dev.pairTake hdr (.credit cells)).1 = true ∧ (s.dev.lane 16).cells = [])
  ∧ (∃ (s : State), s.dev.live = true ∧ s.dev.par.en = true ∧ s.dev.pairUp = true ∧ 0 < s.dev.par.freed)
  ∧ (∃ (s : State) (val : Word), s.dev.live = true ∧ s.dev.grade = .x) :=
  ⟨⟨(pr0 stk), by decide +kernel⟩,
   ⟨(pr0 bow), by decide +kernel⟩,
   ⟨(pr0 bow), pk, { role := 1, ready := true, mediaOk := true }, by decide +kernel⟩,
   ⟨(pr0 (fun p => { bow p with lastHb := some 7 })), 7, by decide +kernel⟩,
   ⟨(pr0 (fun p => { stk p with lastHb := some 7, hbMisses := 2 })), 7, by decide +kernel⟩,
   ⟨(pr0 (fun p => { bow p with lastHb := some 7, hbMisses := 2, claimInRaw := true, claimInOld := true, ready := true })), 7, by decide +kernel⟩,
   ⟨(pr0 stk), 1, by decide +kernel⟩,
   ⟨(pr0 (fun p => { stk p with lanes := [true, false], credit := 9 })), 0, by decide +kernel⟩,
   ⟨(pr0 (fun p => { stk p with lanes := [false, false] })), 0, by decide +kernel⟩,
   ⟨(pr0 stk), pk, 77, by decide +kernel⟩,
   ⟨(pr0 stk), by decide +kernel⟩,
   ⟨(pr0 stk (fun d => d.wr F.PAR_DELTA_PEAK 0 7)), 5, by decide +kernel⟩⟩

/-- Every clause of StrokeCycles with hypotheses is met by a state and operands. -/
theorem witness_StrokeCycles :
  (∃ (s : State), s.dev.cycles = true ∧ s.dev.par.closing = none ∧ sumNat (s.dev.delta.map deltaLen) < 67108864)
  ∧ (∃ (s : State), s.dev.cycles = true ∧ s.dev.par.closing = none ∧ 67108864 ≤ sumNat (s.dev.delta.map deltaLen))
  ∧ (∃ (s : State) (n : Nat) (acked : Bool), s.dev.par.closing = some (n, acked) ∧ s.dev.live = true ∧ (acked || !s.dev.mirrored) = true ∧ s.dev.tar.closedHalves = [] ∧ s.dev.par.swap = none)
  ∧ (∃ (s : State) (hdr : PairHdr) (recs : List DeltaRec), (s.dev.pairTake hdr (.delta recs)).1 = true ∧ s.dev.isBow = true)
  ∧ (∃ (s : State) (hdr : PairHdr), (s.dev.pairTake hdr (.fin s.dev.par.staged.length)).1 = true ∧ s.dev.isBow = true ∧ s.dev.par.catchup = false)
  ∧ (∃ (s : State) (hdr : PairHdr) (count : Nat) (hashOk : Bool), (s.dev.pairTake hdr (.fin count)).1 = true ∧ s.dev.isBow = true ∧ (s.dev.par.staged.length ≠ count ∨ hashOk = false))
  ∧ (∃ (s : State) (hdr : PairHdr) (n : Nat) (a : Bool), (s.dev.pairTake hdr .ack).1 = true ∧ s.dev.par.closing = some (n, a) ∧ n ≤ hdr.cycle)
  ∧ (∃ (s : State) (hdr : PairHdr) (entries : List (Nat × JWhat)), (s.dev.pairTake hdr (.jmir entries)).1 = true ∧ s.dev.isBow = true)
  ∧ (∃ (s : State) (hdr : PairHdr) (seq : Nat), (s.dev.pairTake hdr (.jack seq)).1 = true ∧ s.dev.isBow = false) :=
  ⟨⟨(pr0 stk (fun d => { d with ctx := { d.ctx with dirty := [(4, 1)] } })), by decide +kernel⟩,
   ⟨(big 67108864), by decide +kernel, rfl, le_trans (Nat.le_add_left _ 64) (big_sum 67108864)⟩,
   ⟨(pr0 (fun p => { stk p with closing := some (9, true) })), 9, true, by decide +kernel⟩,
   ⟨(pr0 bow), pk, [.cal 3 none], by decide +kernel⟩,
   ⟨(pr0 (fun p => { bow p with staged := [.cal 3 none] })), pk, by decide +kernel⟩,
   ⟨(pr0 (fun p => { bow p with staged := [.cal 3 none], ready := true })), pk, 2, true, by decide +kernel⟩,
   ⟨(pr0 (fun p => { stk p with closing := some (5, false) })), pk, 5, false, by decide +kernel⟩,
   ⟨(pr0 bow), pk, [(7, .marker 1), (6, .marker 2)], by decide +kernel⟩,
   ⟨(pr0 stk (fun d => { d with tar := { d.tar with unacked := [{ seq := 4, what := .marker 1, mix := none, ext := none }] } })), pk, 6, by decide +kernel⟩⟩

/-- Every clause of SwapsCatchUpsAndDrills with hypotheses is met by a state and operands. -/
theorem witness_SwapsCatchUpsAndDrills :
  (∃ (s : State) (p : Fin 64) (h : Held), s.takes p 0xA0 h)
  ∧ (∃ (s : State) (p : Fin 64) (h : Held), s.takes p 0xA1 h ∧ s.dev.swapRefusal = none ∧ s.dev.isBow = true)
  ∧ (∃ (s : State) (p : Fin 64) (h : Held), s.takes p 0xA1 h ∧ s.dev.swapRefusal = none ∧ s.dev.par.role = .stroke ∧ s.dev.tar.sweeps ≠ [])
  ∧ (∃ (s : State) (hdr : PairHdr), (s.dev.pairTake hdr .swap).1 = true ∧ s.dev.isBow = true ∧ s.dev.claimIn = false ∧ s.dev.rootValid = true ∧ s.dev.isSafe = false)
  ∧ (∃ (s : State) (hdr : PairHdr), (s.dev.pairTake hdr .swap).1 = true ∧ s.dev.isBow = true ∧ s.dev.claimIn = true)
  ∧ (∃ (s : State) (x : Swap), s.dev.par.swap = some x ∧ x.phase = .sent ∧ s.dev.live = true ∧ s.dev.par.role = .stroke ∧ s.dev.isSafe = false ∧ s.dev.par.drill = none)
  ∧ (∃ (s : State), s.dev.live = true ∧ s.dev.par.en = true ∧ s.dev.isBow = true ∧ s.dev.pairUp = true ∧ s.dev.par.ready = false ∧ s.dev.par.catchup = false)
  ∧ (∃ (s : State) (hdr : PairHdr), (s.dev.pairTake hdr .catchupAsk).1 = true ∧ s.dev.par.role = .stroke ∧ s.dev.par.claim = true)
  ∧ (∃ (s : State) (hdr : PairHdr) (recs : List DeltaRec), (s.dev.pairTake hdr (.catchup recs)).1 = true ∧ s.dev.isBow = true ∧ s.dev.par.catchup = true ∧ recs ≠ [])
  ∧ (∃ (s : State) (hdr : PairHdr), (s.dev.pairTake hdr (.catchup [])).1 = true ∧ s.dev.isBow = true ∧ s.dev.par.catchup = true)
  ∧ (∃ (s : State) (n : Nat), s.dev.par.caughtAt = some n ∧ s.dev.live = true ∧ s.dev.par.en = true ∧ n ≤ s.dev.par.cycle ∧ s.dev.isBow = true)
  ∧ (∃ (s : State) (n : Nat), s.dev.par.caughtAt = some n ∧ s.dev.live = true ∧ s.dev.par.en = true ∧ n ≤ s.dev.par.cycle ∧ s.dev.isBow = false)
  ∧ (∃ (s : State) (p : Fin 64) (h : Held) (results : BitVec 4), s.takes p 0xA2 h ∧ s.dev.swapRefusal = none ∧ s.dev.isBow = false ∧ h.desc.word 3 % 16 ≠ 0)
  ∧ (∃ (s : State) (p : Fin 64) (h : Held) (results : BitVec 4), s.takes p 0xA2 h ∧ s.dev.swapRefusal = none ∧ s.dev.isBow = true ∧ h.desc.word 3 % 32 < 16)
  ∧ (∃ (s : State) (hdr : PairHdr) (means : List (Nat × Nat × Nat)) (finds : Bool), (s.dev.pairTake hdr (.drill 4 means)).1 = true ∧ s.dev.isBow = true ∧ s.dev.par.drill = none)
  ∧ (∃ (s : State) (x : Drill) (t : Nat), s.dev.par.drill = some x ∧ x.holdFrom = some t ∧ s.dev.live = true ∧ s.dev.par.role = .stroke ∧ bitAt x.left 4 = true ∧ x.runs = [] ∧ s.dev.par.exLog = [] ∧ s.dev.drillPort = none)
  ∧ (∃ (s : State) (x : Drill) (t p : Nat), s.dev.par.drill = some x ∧ x.holdFrom = some t ∧ s.dev.live = true ∧ s.dev.par.role = .stroke ∧ bitAt x.left 4 = true ∧ s.dev.drillPort = some p ∧ s.dev.tar.sweeps ≠ [])
  ∧ (∃ (s : State) (x : Drill) (t : Nat), s.dev.par.drill = some x ∧ x.holdFrom = some t ∧ s.dev.live = true ∧ s.dev.par.role = .stroke ∧ bitAt x.left 4 = true ∧ s.dev.drillPort = none ∧ s.dev.tar.sweeps ≠ []) :=
  ⟨⟨(prd [0xA0] bow), 0, (hd [0xA0]), by unfold State.takes; decide +kernel⟩,
   ⟨(prd [0xA1] bow), 0, (hd [0xA1]), by unfold State.takes; decide +kernel⟩,
   ⟨(prd [0xA1] stk swp), 0, (hd [0xA1]), by unfold State.takes; decide +kernel⟩,
   ⟨(pr0 bow root), pk, by decide +kernel⟩,
   ⟨(pr0 (fun p => { bow p with claimInRaw := true, claimInOld := true })), pk, by decide +kernel⟩,
   ⟨(pr0 (fun p => { p with role := .stroke, swap := some { phase := .sent, desc := none, sentAt := 4 } })), { phase := .sent, desc := none, sentAt := 4 }, by decide +kernel⟩,
   ⟨(pr0 bow), by decide +kernel⟩,
   ⟨(pr0 stk), pk, by decide +kernel⟩,
   ⟨(pr0 (fun p => { bow p with catchup := true })), pk, [.cal 3 none], by decide +kernel⟩,
   ⟨(pr0 (fun p => { bow p with catchup := true, held := [(5, [.cal 4 none])] })), pk, by decide +kernel⟩,
   ⟨(pr0 (fun p => { bow p with caughtAt := some 3, cycle := 3 })), 3, by decide +kernel⟩,
   ⟨(pr0 (fun p => { stk p with caughtAt := some 3, cycle := 3, solo := true })), 3, by decide +kernel⟩,
   ⟨(prd [0xA2, 0, 0, 5] stk), 0, (hd [0xA2, 0, 0, 5]), 3, by unfold State.takes; decide +kernel⟩,
   ⟨(prd [0xA2, 0, 0, 5] bow), 0, (hd [0xA2, 0, 0, 5]), 4, by unfold State.takes; decide +kernel⟩,
   ⟨(pr0 bow), pk, [(0, 3, 40)], true, by decide +kernel⟩,
   ⟨(pr0 (fun p => { stk p with drill := some dr4 })), dr4, 5, by decide +kernel⟩,
   ⟨(pr0 (fun p => { stk p with drill := some dr4 }) (fun d => swp ((d.setFn 1 { st := .on }).wrb F.LCP_STS_DRV_OPEN 1 true))), dr4, 5, 2, by decide +kernel⟩,
   ⟨(pr0 (fun p => { stk p with drill := some dr4 }) swp), dr4, 5, by decide +kernel⟩⟩

end W16

namespace W17

def pt (f : Dev → Dev) : State := up (fun d => f ((((({ d with par := { d.par with claim := true, role := .single } } : Dev).setFn 1 { st := .on }).setFn 4 { st := .on }).wr F.LCP_CFG_PLANS 1 4).setLp 1 {}))
def xf (port : Nat) : Xfer := { mix := 3, port := port, descs := [] }
def waitX (x : Xfer) (d : Dev) : Dev := { d with sch := { d.sch with wait := [x] } }
def bdue (p : Nat) (d : Dev) : Dev := { d with tim := { d.tim with beaconDue := [p] } }
def cur (p : Nat) (x : Xfer) (d : Dev) : Dev := d.setPsch p { cur := some x }
def lpx (f : Lcp → Lcp) (d : Dev) : Dev := d.setLp 1 (f (d.lp 1))
def rpx (f : Rad → Rad) (d : Dev) : Dev := d.updRp 2 f
def fdl (d : Dev) : Dev := ({ d with fl := { d.fl with mode := 1, fds := [(5, { st := 2 })] } } : Dev)
def ctxd (d : Dev) : Dev := ({ d with sec := { d.sec with kdev := some [] }, ctx := { d.ctx with tab := [(3, { st := 3, kind := 1, addr := 9 })] } } : Dev).wrb F.SEC_STS_ROOT_VALID 0 true

/-- Every clause of PortsAndExchanges with hypotheses is met by a state and operands. -/
theorem witness_PortsAndExchanges :
  (∃ (s : State) (port : Fin 7) (fdx : Fin 1024) (bytes : Nat), port.val < 2 ∧ s.dev.serves = true ∧ s.dev.portOn port = true ∧ s.dev.portIdle port = true ∧ s.dev.draining = false ∧ s.dev.capLowAll port = false ∧ (s.dev.lp port).bcnLeft = [] ∧ s.dev.tim.beaconDue.contains port.val = true)
  ∧ (∃ (s : State) (port : Fin 7) (fdx : Fin 1024) (bytes : Nat), 2 ≤ port.val ∧ port.val < 6 ∧ s.dev.serves = true ∧ s.dev.portOn port = true ∧ s.dev.portIdle port = true ∧ s.dev.draining = false ∧ s.dev.tim.beaconDue.contains port.val = true)
  ∧ (∃ (s : State) (port : Fin 7) (fdx : Fin 1024) (bytes : Nat) (x : Xfer), 2 ≤ port.val ∧ port.val < 6 ∧ s.dev.serves = true ∧ s.dev.portOn port = true ∧ s.dev.portIdle port = true ∧ s.dev.draining = false ∧ s.dev.tim.beaconDue.contains port.val = false ∧ s.dev.rdvOpen port = false ∧ s.dev.pickOn port = some x ∧ x.port = port)
  ∧ (∃ (s : State) (fdx : Fin 1024) (bytes : Nat) (x : Xfer), s.dev.serves = true ∧ s.dev.portOn (16 + fdx) = true ∧ s.dev.portIdle (16 + fdx) = true ∧ s.dev.draining = false ∧ s.dev.tim.beaconDue.contains (16 + fdx.val) = false ∧ s.dev.pickOn (16 + fdx) = some x ∧ x.port = 16 + fdx.val)
  ∧ (∃ (s : State) (port : Fin 7) (fdx : Fin 1024) (bytes : Nat), port.val < 6 ∧ s.dev.serves = true ∧ s.dev.portOn port = true ∧ s.dev.portIdle port = true ∧ s.dev.draining = false ∧ (port.val < 2 → s.dev.capLowAll port = false ∧ (s.dev.lp port).bcnLeft = []) ∧ s.dev.tim.beaconDue.contains port.val = false ∧ s.dev.rdvOpen port = false ∧ s.dev.pickOn port = none)
  ∧ (∃ (s : State) (port : Fin 7) (fdx : Fin 1024) (bytes : Nat) (x : Xfer), port.val < 2 ∧ s.dev.serves = true ∧ s.dev.portOn port = true ∧ s.dev.portIdle port = true ∧ s.dev.draining = false ∧ s.dev.capLowAll port = false ∧ (s.dev.lp port).bcnLeft = [] ∧ s.dev.tim.beaconDue.contains port.val = false ∧ s.dev.pickOn port = some x ∧ x.port = port ∧ s.dev.isOn port = true)
  ∧ (∃ (s : State) (port : Fin 6) (t : Nat) (x : Xfer), s.dev.portRuns port = true ∧ port.val < 2 ∧ (s.dev.lp port).phase = .awaiting t ∧ s.dev.curOf port = some x ∧ ((s.dev.lp port).ackBy = none → s.dev.replyBegun port t = false))
  ∧ (∃ (s : State) (port : Fin 6) (t : Nat) (x : Xfer), port.val < 2 ∧ (s.dev.lp port).phase = .awaiting t ∧ s.dev.curOf port = some x ∧ (s.dev.lp port).ackBy = none ∧ s.dev.replyBegun port t = true)
  ∧ (∃ (s : State) (port : Fin 6) (t : Nat) (x : Xfer), s.dev.portRuns port = true ∧ 2 ≤ port.val ∧ (s.dev.rp (port - 2)).phase = .awaiting t ∧ s.dev.curOf port = some x ∧ (s.dev.rp (port - 2)).agreed = false)
  ∧ (∃ (s : State) (port : Fin 6) (x : Xfer), s.dev.portRuns port = true ∧ port.val < 2 ∧ (s.dev.lp port).phase = .answered ∧ s.dev.curOf port = some x ∧ x.isCast = false)
  ∧ (∃ (s : State) (port : Fin 6) (x : Xfer), s.dev.portRuns port = true ∧ 2 ≤ port.val ∧ (s.dev.rp (port - 2)).phase = .answered ∧ s.dev.curOf port = some x)
  ∧ (∃ (s : State) (port : Fin 6) (x : Xfer), s.dev.portRuns port = true ∧ 2 ≤ port.val ∧ (s.dev.rp (port - 2)).phase = .failed ∧ s.dev.curOf port = some x ∧ s.dev.isOn port = true ∧ x.slot = false ∧ x.made < x.limit)
  ∧ (∃ (s : State) (port : Fin 6) (x : Xfer), s.dev.portRuns port = true ∧ port.val < 2 ∧ (s.dev.lp port).phase = .failed ∧ s.dev.curOf port = some x ∧ x.limit ≤ x.made)
  ∧ (∃ (s : State) (pair : Fin 64) (t : Nat), s.dev.nextDeadline pair = some t ∧ s.dev.live = true) :=
  ⟨⟨(pt (bdue 1)), 1, 0, 32, by decide +kernel⟩,
   ⟨(pt (bdue 4)), 4, 0, 32, by decide +kernel⟩,
   ⟨(pt (fun d => ctxd (waitX (xf 4) d))), 4, 0, 32, (xf 4), by decide +kernel⟩,
   ⟨(pt (fun d => fdl (ctxd (waitX (xf 21) d)))), 5, 32, (xf 21), by decide +kernel⟩,
   ⟨(pt id), 4, 0, 32, by decide +kernel⟩,
   ⟨(pt (fun d => ctxd (waitX (xf 1) d))), 1, 0, 32, (xf 1), by decide +kernel⟩,
   ⟨(pt (fun d => cur 1 (xf 1) (lpx (fun l => { l with phase := .awaiting 90 }) d))), 1, 90, (xf 1), by decide +kernel⟩,
   ⟨(pt (fun d => cur 1 (xf 1) (lpx (fun l => { l with phase := .awaiting 90, seq := 3, seg := some { src := 1, seq := 3, next := 1, last := 2, start := 80 } }) d))), 1, 90, (xf 1), by decide +kernel⟩,
   ⟨(pt (fun d => cur 4 (xf 4) (rpx (fun l => { l with phase := .awaiting 90 }) d))), 4, 90, (xf 4), by decide +kernel⟩,
   ⟨(pt (fun d => cur 1 (xf 1) (lpx (fun l => { l with phase := .answered }) d))), 1, (xf 1), by decide +kernel⟩,
   ⟨(pt (fun d => cur 4 (xf 4) (rpx (fun l => { l with phase := .answered }) d))), 4, (xf 4), by decide +kernel⟩,
   ⟨(pt (fun d => cur 4 (xf 4) (rpx (fun l => { l with phase := .failed }) d))), 4, (xf 4), by decide +kernel⟩,
   ⟨(pt (fun d => cur 1 { xf 1 with made := 1 } (lpx (fun l => { l with phase := .failed }) d))), 1, { xf 1 with made := 1 }, by decide +kernel⟩,
   ⟨(pt (waitX { xf 1 with deadline := some 9, descs := [(3, 4)] })), 3, 9, by decide +kernel⟩⟩

end W17

namespace W18

def tmn (f : Tim → Tim) (g : Dev → Dev := id) : State := up (fun d => g { d with tim := f d.tim })
def ptpd (q : PtpPort) (g : Dev → Dev := id) : State := up (fun d => g (((({ d with tim := { d.tim with ptp := [q, {}, {}, {}] } } : Dev).setFn 6 { st := .on }).wrb F.TIM_PTP_CFG_EN 0 true).wr F.TIM_PTP_CFG_PORTS 0 1) |>.wrb F.ETH_STS_LINK 0 true)

/-- Every clause of TimeSources with hypotheses is met by a state and operands. -/
theorem witness_TimeSources :
  (∃ (s : State) (m : Nat), s.dev.tim.holdSince = some m ∧ s.dev.live = true)
  ∧ (∃ (s : State) (port : Fin 4) (dm who p1 cls acc var p2 gm steps leap : Nat) (utc : Option Nat), s.dev.ptpOn port = true ∧ dm = s.dev.rd F.TIM_PTP_CFG_DOMAIN ∧ (s.dev.ptpPort port).best = none ∧ s.dev.tim.ptp.length = 4)
  ∧ (∃ (s : State) (port : Fin 4) (dm who p1 cls acc var p2 gm steps leap : Nat) (utc : Option Nat), s.dev.ptpOn port = true ∧ dm ≠ s.dev.rd F.TIM_PTP_CFG_DOMAIN)
  ∧ (∃ (s : State) (port : Fin 4) (who seq : Nat) (origin corr : Int), s.dev.ptpOn port = true ∧ s.dev.tim.ptp.length = 4 ∧ ((s.dev.ptpPort port).st = 2 ∨ (s.dev.ptpPort port).st = 3) ∧ (s.dev.ptpPort port).parent = who)
  ∧ (∃ (s : State) (port : Fin 4) (who seq : Nat) (origin corr : Int), s.dev.ptpOn port = true ∧ s.dev.tim.ptp.length = 4 ∧ ((s.dev.ptpPort port).st = 2 ∨ (s.dev.ptpPort port).st = 3) ∧ (s.dev.ptpPort port).parent = who ∧ (s.dev.ptpPort port).delay = none)
  ∧ (∃ (s : State) (port : Fin 4) (who seq : Nat) (rx origin corr : Int), s.dev.ptpOn port = true ∧ s.dev.tim.ptp.length = 4 ∧ ((s.dev.ptpPort port).st = 2 ∨ (s.dev.ptpPort port).st = 3) ∧ (s.dev.ptpPort port).parent = who ∧ (s.dev.ptpPort port).sync = some (seq, rx) ∧ (s.dev.ptpPort port).delay = none)
  ∧ (∃ (s : State) (port : Fin 4) (who seq : Nat) (rx turn t3 raw : Int), s.dev.ptpOn port = true ∧ s.dev.tim.ptp.length = 4 ∧ ((s.dev.ptpPort port).st = 2 ∨ (s.dev.ptpPort port).st = 3) ∧ (s.dev.ptpPort port).t3 = some (seq, t3) ∧ (s.dev.ptpPort port).raw = some raw ∧ s.dev.rd F.TIM_PTP_CFG_PROFILE ≠ 1)
  ∧ (∃ (s : State) (port : Fin 4) (who seq : Nat), s.dev.ptpOn port = true ∧ (s.dev.ptpPort port).st = 4 ∧ s.dev.linkUp port = true)
  ∧ (∃ (s : State) (port : Fin 4) (kind : Fin 3), s.dev.ptpOn port = true ∧ kind.val ≠ 2 ∧ (s.dev.bmca.ptpPort port).st = 4 ∧ s.dev.isBow = false ∧ s.dev.linkUp port = true ∧ (s.dev.ep port).pauseUntil = none)
  ∧ (∃ (s : State) (port : Fin 4), s.dev.ptpOn port = true ∧ ((s.dev.bmca.ptpPort port).st = 2 ∨ (s.dev.bmca.ptpPort port).st = 3) ∧ s.dev.linkUp port = true ∧ (s.dev.ep port).pauseUntil = none)
  ∧ (∃ (s : State) (port : Fin 4), s.dev.live = true ∧ ((s.dev.ptpPort port).st = 3 ∨ (s.dev.ptpPort port).st = 2) ∧ s.dev.tim.ptp.length = 4)
  ∧ (∃ (s : State), s.dev.live = true ∧ s.dev.tim.leap ≠ 0)
  ∧ (∃ (s : State), s.dev.live = true ∧ s.dev.rd F.TIM_STS_SRC ≠ 0 ∧ s.dev.tim.holdSince = none ∧ s.dev.rd F.TIM_STS_LOCK ≠ 0 ∧ s.dev.on F.GLB_CLK_STS_RTC_RUN = true)
  ∧ (∃ (s : State), s.dev.live = true ∧ s.dev.rd F.TIM_STS_LOCK = 2)
  ∧ (∃ (s : State), s.dev.live = true) :=
  ⟨⟨(tmn (fun t => { t with holdSince := some 9, holdOfs := 86400 })), 9, by decide +kernel⟩,
   ⟨(ptpd {}), 0, ((up id).dev.rd F.TIM_PTP_CFG_DOMAIN), 77, 1, 2, 3, 4, 5, 6, 7, 0, (some 37), by decide +kernel⟩,
   ⟨(ptpd {}), 0, 99, 77, 1, 2, 3, 4, 5, 6, 7, 0, (some 37), by decide +kernel⟩,
   ⟨(ptpd { st := 2, parent := 77 }), 0, 77, 5, 1000, 3, by decide +kernel⟩,
   ⟨(ptpd { st := 2, parent := 77 }), 0, 77, 5, 1000, 3, by decide +kernel⟩,
   ⟨(ptpd { st := 2, parent := 77, sync := some (5, 2000) }), 0, 77, 5, 2000, 1000, 3, by decide +kernel⟩,
   ⟨(ptpd { st := 2, parent := 77, t3 := some (5, 2000), raw := some 6 }), 0, 77, 5, 3000, 0, 2000, 6, by decide +kernel⟩,
   ⟨(ptpd { st := 4 }), 0, 77, 5, by decide +kernel⟩,
   ⟨(ptpd { st := 4 } (fun d => d.wrb F.TIM_PTP_CFG_SLAVE_ONLY 0 false)), 0, 1, by decide +kernel⟩,
   ⟨(ptpd { st := 1, parent := 9, best := some [0, 0, 0, 0, 0, 0, 0, 9] }), 0, by decide +kernel⟩,
   ⟨(ptpd { st := 3, parent := 9 } (fun d => { d with tim := { d.tim with ptpAvail := true } })), 0, by decide +kernel⟩,
   ⟨(tmn (fun t => { t with leap := 61 })), by decide +kernel⟩,
   ⟨(up (fun d => ((d.wr F.TIM_STS_SRC 0 1).wr F.TIM_STS_LOCK 0 2).wrb F.GLB_CLK_STS_RTC_RUN 0 true)), by decide +kernel⟩,
   ⟨(up (fun d => (d.wr F.TIM_STS_LOCK 0 2))), by decide +kernel⟩,
   ⟨(up id), by decide +kernel⟩⟩

/-- Every clause of ComparatorsAndCaptures with hypotheses is met by a state and operands. -/
theorem witness_ComparatorsAndCaptures :
  (∃ (s : State) (u : Fin 8) (val : Word), u.val < 4 ∧ s.dev.live = true ∧ F.TIM_HT_CFG_ENABLE.get val.toNat = 1 ∧ s.dev.on F.TIM_HT_CFG_ENABLE u = false ∧ (s.dev.takeCmp (8 + u)).isSome = true ∧ s.dev.nowNs < s.dev.htAt u)
  ∧ (∃ (s : State) (u : Fin 8) (val : Word), u.val < 4 ∧ s.dev.live = true ∧ F.TIM_HT_CFG_ENABLE.get val.toNat = 1 ∧ s.dev.on F.TIM_HT_CFG_ENABLE u = false ∧ (s.dev.takeCmp (8 + u)).isSome = true ∧ s.dev.htAt u ≤ s.dev.nowNs)
  ∧ (∃ (s : State) (u : Fin 8) (val : Word), u.val < 4 ∧ s.dev.live = true ∧ F.TIM_HT_CFG_ENABLE.get val.toNat = 1 ∧ s.dev.on F.TIM_HT_CFG_ENABLE u = false ∧ s.dev.takeCmp (8 + u) = none)
  ∧ (∃ (s : State) (u : Fin 8) (val : Word), u.val < 4 ∧ s.dev.live = true ∧ F.TIM_HT_CFG_ENABLE.get val.toNat = 0)
  ∧ (∃ (s : State) (u : Fin 8) (val : Word), 4 ≤ u.val ∧ s.dev.live = true ∧ F.TIM_PPS_CFG_ENABLE.get val.toNat = 1 ∧ s.dev.on F.TIM_PPS_CFG_ENABLE (u - 4) = false ∧ (s.dev.takeCmp (1 + (u - 4))).isSome = true ∧ s.dev.nowNs < s.dev.ppsStart (u - 4))
  ∧ (∃ (s : State) (u : Fin 8) (val : Word), 4 ≤ u.val ∧ s.dev.live = true ∧ F.TIM_PPS_CFG_ENABLE.get val.toNat = 0)
  ∧ (∃ (s : State) (h : Fin 4) (t : Nat), s.dev.tim.htNext.find h = some t ∧ s.dev.live = true)
  ∧ (∃ (s : State) (n : Fin 4) (t : Nat), s.dev.tim.ppsNext.find n = some t ∧ s.dev.live = true ∧ s.dev.isSafe = false ∧ s.dev.on F.TIM_CFG_PPS_VALID_ONLY = false)
  ∧ (∃ (s : State) (n : Fin 4) (t : Nat), s.dev.tim.ppsNext.find n = some t ∧ s.dev.live = true ∧ s.dev.isSafe = true)
  ∧ (∃ (s : State) (n : Fin 4) (t : Nat), s.dev.tim.ppsEnd.find n = some t)
  ∧ (∃ (s : State) (n : Fin 4) (rising : Bool), s.dev.live = true ∧ s.dev.on F.TIM_CAP_CFG_ENABLE n = true ∧ s.dev.rd F.TIM_CAP_CFG_EDGE n ≠ (if rising then 2 else 1) ∧ (s.dev.tim.caps.getD n []).length < 4)
  ∧ (∃ (s : State) (n : Fin 4) (rising : Bool), s.dev.live = true ∧ s.dev.on F.TIM_CAP_CFG_ENABLE n = true ∧ s.dev.rd F.TIM_CAP_CFG_EDGE n ≠ (if rising then 2 else 1) ∧ 4 ≤ (s.dev.tim.caps.getD n []).length)
  ∧ (∃ (s : State) (n : Fin 4) (t : Nat) (l : List Nat), s.dev.live = true ∧ s.dev.tim.caps.getD n [] = t :: l)
  ∧ (∃ (s : State) (n : Fin 4), s.dev.live = true ∧ s.dev.tim.caps.getD n [] = [])
  ∧ (∃ (s : State) (p : Fin 4) (val : Word) (id : Nat) (st : Stamp) (l : List (Nat × Stamp)), s.dev.live = true ∧ val.toNat % 2 = 1 ∧ s.dev.tim.txq.getD p [] = (id, st) :: l)
  ∧ (∃ (s : State) (p : Fin 4) (val : Word), s.dev.live = true ∧ val.toNat % 2 = 1 ∧ s.dev.tim.txq.getD p [] = [])
  ∧ (∃ (s : State) (p : Fin 6) (t : Nat), s.dev.tim.beacons.find p = some t ∧ s.dev.live = true ∧ s.dev.isOn p = true ∧ s.dev.beaconPort p = true ∧ s.dev.isBow = false) :=
  ⟨⟨(up (fun d => d.wr F.TIM_HT_AT_LO_AT 2 500)), 2, (BitVec.ofNat 32 (2 ^ F.TIM_HT_CFG_ENABLE.lo)), by decide +kernel⟩,
   ⟨(up id), 2, (BitVec.ofNat 32 (2 ^ F.TIM_HT_CFG_ENABLE.lo)), by decide +kernel⟩,
   ⟨(tmn (fun t => { t with pool := [1, 2, 3, 4, 5, 8, 9, 11] })), 2, (BitVec.ofNat 32 (2 ^ F.TIM_HT_CFG_ENABLE.lo)), by decide +kernel⟩,
   ⟨(tmn (fun t => { t with htNext := [(2, 9)] }) (fun d => d.wrb F.TIM_HT_CFG_ENABLE 2 true)), 2, 0, by decide +kernel⟩,
   ⟨(up (fun d => d.wr F.TIM_PPS_START_LO_START 1 500)), 5, (BitVec.ofNat 32 (2 ^ F.TIM_PPS_CFG_ENABLE.lo + 2 ^ F.TIM_PPS_CFG_POL.lo)), by decide +kernel⟩,
   ⟨(tmn (fun t => { t with ppsNext := [(1, 9)] })), 5, 0, by decide +kernel⟩,
   ⟨(tmn (fun t => { t with htNext := [(2, 9)] }) (fun d => (d.wr F.TIM_HT_PERIOD_PERIOD 2 3))), 2, 9, by decide +kernel⟩,
   ⟨(tmn (fun t => { t with ppsNext := [(2, 9)] })), 2, 9, by decide +kernel⟩,
   ⟨(tmn (fun t => { t with ppsNext := [(2, 9)] }) (fun d => d.wrb F.FLT_STS_SAFE 0 true)), 2, 9, by decide +kernel⟩,
   ⟨(tmn (fun t => { t with ppsEnd := [(2, 9)], ppsPin := [false, false, true, false] })), 2, 9, by decide +kernel⟩,
   ⟨(tmn (fun t => { t with caps := [(1, [5])] }) (fun d => d.wrb F.TIM_CAP_CFG_ENABLE 1 true)), 1, true, by decide +kernel⟩,
   ⟨(tmn (fun t => { t with caps := [(1, [5, 6, 7, 8])] }) (fun d => d.wrb F.TIM_CAP_CFG_ENABLE 1 true)), 1, true, by decide +kernel⟩,
   ⟨(tmn (fun t => { t with caps := [(1, [5 + 2 ^ 33, 6])] })), 1, (5 + 2 ^ 33), [6], by decide +kernel⟩,
   ⟨(up id), 1, by decide +kernel⟩,
   ⟨(tmn (fun t => { t with txq := [(1, [(7, ⟨5, 6, 1⟩)])] })), 1, 1, 7, ⟨5, 6, 1⟩, [], by decide +kernel⟩,
   ⟨(up (fun d => d.wrb F.TIM_TXQ_ID_VALID 1 true)), 1, 1, by decide +kernel⟩,
   ⟨(tmn (fun t => { t with beacons := [(1, 9)] }) (fun d => d.setFn 1 { st := .on })), 1, 9, by decide +kernel⟩⟩

end W18

namespace W19

def rn (r : Rad) (g : Dev → Dev := id) : State := up (fun d => g ((((d.setFn 4 { st := .on }).wrb F.RAD_STS_IQ_LOCK 2 true).updRp 2 (fun _ => r)).wr F.RAD_DUTY_CFG_DUTY 2 10 |>.wr F.RAD_CFG_MODE 2 3))
def rrx : RadioRx := { pay := .none }
def claimd (d : Dev) : Dev := { d with par := { d.par with claim := true } }
def curd (x : Xfer) (d : Dev) : Dev := d.setPsch 4 { cur := some x }
def xr : Xfer := { mix := 3, port := 4, ask := .calendar }
def cc : Ctx := { st := 3, kind := 0, addr := 9, attach := 5, wake := 2, nextSlot := 7000 }
def ctx3 (c : Ctx) (d : Dev) : Dev := { d with ctx := { d.ctx with tab := [(3, c)] } }

/-- Every clause of RadioPorts with hypotheses is met by a state and operands. -/
theorem witness_RadioPorts :
  (∃ (s : State) (n : Fin 4) (rx : RadioRx) (answer us : Nat), s.dev.portRuns (2 + n) = true ∧ s.dev.on F.RAD_STS_IQ_LOCK n = true ∧ rx.ok = true)
  ∧ (∃ (s : State) (n : Fin 4) (rx : RadioRx) (answer us : Nat), s.dev.portRuns (2 + n) = true ∧ s.dev.on F.RAD_STS_IQ_LOCK n = true ∧ rx.ok = false)
  ∧ (∃ (s : State) (n : Fin 4) (e : Nat × Nat × Bool × Nat) (l : List (Nat × Nat × Bool × Nat)), s.dev.live = true ∧ (s.dev.rp n).seen = e :: l)
  ∧ (∃ (s : State) (n : Fin 4) (i q : BitVec 6) (bad : Nat), s.dev.trains n = true)
  ∧ (∃ (s : State) (n : Fin 4), s.dev.trains n = true ∧ s.dev.curOf (2 + n) = none)
  ∧ (∃ (s : State) (n : Fin 4) (stray : Nat), s.dev.live = true ∧ s.dev.on F.RAD_STS_IQ_LOCK n = true)
  ∧ (∃ (s : State) (n : Fin 4), s.dev.live = true ∧ absentOff s.dev.grade (F.RAD_XCVR_STS_IRQS.at n) = false)
  ∧ (∃ (s : State) (n : Fin 4) (rssi : Int) (us : Nat), s.dev.portRuns (2 + n) = true ∧ (s.dev.rp n).phase = .listen ∧ s.dev.chanBusy n rssi = false ∧ s.dev.gateOpen = true ∧ s.dev.rdvHolds n = false ∧ (s.dev.toMono (s.dev.rp n).listenUntil).dutyFits n (s.dev.radFrm n (s.dev.rp n).bytes us (s.dev.rp n).fec) = true)
  ∧ (∃ (s : State) (n : Fin 4) (rssi : Int) (us : Nat), s.dev.portRuns (2 + n) = true ∧ (s.dev.rp n).phase = .listen ∧ s.dev.chanBusy n rssi = false ∧ s.dev.gateOpen = false)
  ∧ (∃ (s : State) (n : Fin 4) (rssi : Int) (us : Nat), s.dev.portRuns (2 + n) = true ∧ (s.dev.rp n).phase = .listen ∧ s.dev.chanBusy n rssi = true ∧ (s.dev.rp n).tries + 1 < s.dev.rd F.RAD_LBT_CFG_TRIES n)
  ∧ (∃ (s : State) (n : Fin 4) (rssi : Int) (us : Nat), s.dev.portRuns (2 + n) = true ∧ (s.dev.rp n).phase = .listen ∧ s.dev.chanBusy n rssi = true ∧ s.dev.rd F.RAD_LBT_CFG_TRIES n ≤ (s.dev.rp n).tries + 1 ∧ (s.dev.rp n).kind = 0 ∧ (s.dev.curOf (2 + n)).isSome = true)
  ∧ (∃ (s : State) (n : Fin 4) (t : Nat), s.dev.portRuns (2 + n) = true ∧ (s.dev.rp n).phase = .duty none ∧ s.dev.gateOpen = true ∧ s.dev.rdvHolds n = false ∧ s.dev.dutyAt n (s.dev.rp n).txLen = some t ∧ (s.dev.toMono t).dutyFits n (s.dev.rp n).txLen = true)
  ∧ (∃ (s : State) (n : Fin 4) (x : Xfer), s.dev.portRuns (2 + n) = true ∧ (s.dev.rp n).phase = .sending ∧ s.dev.curOf (2 + n) = some x ∧ (s.dev.rp n).kind ≠ 1 ∧ (s.dev.rp n).kind ≠ 5)
  ∧ (∃ (s : State) (n : Fin 4), s.dev.portRuns (2 + n) = true ∧ (s.dev.rp n).phase = .sending ∧ (s.dev.rp n).kind = 1) :=
  ⟨⟨(rn {}), 2, rrx, 0, 0, by decide +kernel⟩,
   ⟨(rn {}), 2, { rrx with ok := false }, 0, 0, by decide +kernel⟩,
   ⟨(rn { seen := [(1, 2, true, 5)] }), 2, (1, 2, true, 5), [], by decide +kernel⟩,
   ⟨(rn { training := true }), 2, 5, 9, 3, by decide +kernel⟩,
   ⟨(rn { training := true }), 2, by decide +kernel⟩,
   ⟨(rn {}), 2, 3, by decide +kernel⟩,
   ⟨(rn {}), 2, by decide +kernel⟩,
   ⟨(rn { phase := .listen, bytes := 30 } claimd), 2, (-128), 700, by decide +kernel⟩,
   ⟨(rn { phase := .listen, bytes := 30 }), 2, (-128), 700, by decide +kernel⟩,
   ⟨(rn { phase := .listen, bytes := 30 }), 2, 0, 700, by decide +kernel⟩,
   ⟨(rn { phase := .listen, bytes := 30, tries := 20 } (curd xr)), 2, 0, 700, by decide +kernel⟩,
   ⟨(rn { phase := .duty none, txLen := 7 } claimd), 2, 0, by decide +kernel⟩,
   ⟨(rn { phase := .sending, txLen := 7 } (curd xr)), 2, xr, by decide +kernel⟩,
   ⟨(rn { phase := .sending, txLen := 7, kind := 1 }), 2, by decide +kernel⟩⟩

/-- Every clause of SlotsAndWindows with hypotheses is met by a state and operands. -/
theorem witness_SlotsAndWindows :
  (∃ (s : State) (mix : BitVec 20) (rssi : List Int) (bytes us : Nat) (c : Ctx) (n : Nat), s.dev.ctxAt mix.toNat = some c ∧ c.radPort = some n ∧ s.dev.serves = true ∧ s.dev.isOn (2 + n) = true ∧ s.dev.radSun n = true ∧ c.calendar = true ∧ c.nextSlot ≠ 0 ∧ c.st ≠ 5 ∧ s.dev.tim.beaconDue.contains (2 + n) = true)
  ∧ (∃ (s : State) (mix : BitVec 20) (rssi : List Int) (bytes us : Nat) (c : Ctx) (n : Nat), s.dev.ctxAt mix.toNat = some c ∧ c.radPort = some n ∧ s.dev.serves = true ∧ s.dev.isOn (2 + n) = true ∧ s.dev.radSun n = true ∧ c.calendar = true ∧ c.nextSlot ≠ 0 ∧ c.st ≠ 5 ∧ s.dev.tim.beaconDue.contains (2 + n) = false ∧ (s.dev.psch (2 + n)).beacon = false ∧ (s.dev.rp n).slot = false ∧ (s.dev.rp n).phase ≠ .idle ∧ (s.dev.rp n).airUntil ≤ s.dev.tim.mono)
  ∧ (∃ (s : State) (mix : BitVec 20) (rssi : List Int) (bytes us : Nat) (c : Ctx) (n : Nat), s.dev.ctxAt mix.toNat = some c ∧ c.radPort = some n ∧ s.dev.serves = true ∧ s.dev.isOn (2 + n) = true ∧ s.dev.radSun n = true ∧ c.calendar = true ∧ c.nextSlot ≠ 0 ∧ c.st ≠ 5 ∧ s.dev.tim.beaconDue.contains (2 + n) = false ∧ (s.dev.psch (2 + n)).beacon = false ∧ (s.dev.psch (2 + n)).looped = false ∧ (s.dev.rp n).phase = .idle ∧ (s.dev.rp n).airUntil ≤ s.dev.tim.mono ∧ rssi.head?.any (s.dev.chanBusy n) = false ∧ s.dev.gateOpen = true ∧ ((s.dev.toNs (c.nextSlot + 1000000 * c.guard - 1000000 * (s.dev.rd F.RAD_LBT_CFG_LISTEN n + 5))).toNs (c.nextSlot + 1000000 * c.guard)).dutyFits n (s.dev.radFrm n bytes us (s.dev.cal mix.toNat).fec) = true)
  ∧ (∃ (s : State) (mix : BitVec 20) (c : Ctx) (n t : Nat) (x : Xfer), s.dev.ctxAt mix.toNat = some c ∧ c.radPort = some n ∧ (s.dev.rp n).phase = .awaiting t ∧ s.dev.curOf (2 + n) = some x ∧ x.mix = mix.toNat ∧ (s.dev.rp n).agreed = true)
  ∧ (∃ (s : State) (mix : BitVec 20) (c : Ctx) (n : Nat), s.dev.ctxAt mix.toNat = some c ∧ c.radPort = some n ∧ s.dev.serves = true ∧ c.wake = 0xFF ∧ c.nextSlot ≠ 0)
  ∧ (∃ (s : State) (mix : BitVec 20) (c : Ctx) (n : Nat), s.dev.ctxAt mix.toNat = some c ∧ c.radPort = some n ∧ s.dev.serves = true ∧ s.dev.isOn (2 + n) = true ∧ s.dev.radSun n = true ∧ c.calendar = true ∧ (c.rsync % 4 = 2 ∨ c.rsync % 4 = 3 ∨ c.nextSlot = 0) ∧ (s.dev.rp n).rdv.any (fun e => e.1 = mix.toNat) = false)
  ∧ (∃ (s : State) (mix : BitVec 20) (c : Ctx) (n : Nat) (e : Nat × Nat), s.dev.ctxAt mix.toNat = some c ∧ c.radPort = some n ∧ (s.dev.rp n).rdv.find? (fun e => e.1 = mix.toNat) = some e ∧ s.dev.live = true) :=
  ⟨⟨(rn {} (fun d => ctx3 cc { d with tim := { d.tim with beaconDue := [4] } })), 3, [-128], 40, 700, cc, 2, by decide +kernel⟩,
   ⟨(rn { phase := .listen } (ctx3 cc)), 3, [-128], 40, 700, cc, 2, by decide +kernel⟩,
   ⟨(rn {} (fun d => claimd (ctx3 cc d))), 3, [-128], 40, 700, cc, 2, by decide +kernel⟩,
   ⟨(rn { phase := .awaiting 90, slot := true, agreed := true } (fun d => curd xr (ctx3 cc d))), 3, cc, 2, 90, xr, by decide +kernel⟩,
   ⟨(rn {} (ctx3 { cc with wake := 0xFF, kind := 1 })), 3, { cc with wake := 0xFF, kind := 1 }, 2, by decide +kernel⟩,
   ⟨(rn {} (ctx3 { cc with rsync := 2 })), 3, { cc with rsync := 2 }, 2, by decide +kernel⟩,
   ⟨(rn { rdv := [(3, 80)] } (ctx3 cc)), 3, cc, 2, (3, 80), by decide +kernel⟩⟩

end W19

namespace W20

/-- The four bytes of a word, least significant first. -/
def le4 (n : Nat) : List Byte := [BitVec.ofNat 8 n, BitVec.ofNat 8 (n / 256), BitVec.ofNat 8 (n / 65536), BitVec.ofNat 8 (n / 16777216)]
/-- The first 24 bytes of a package of version 7 with one byte of COX image. -/
def pkgA : List Byte := [0x4E, 0x44, 0x50, 0x4B, 1, 0, 0, 0, 7, 0, 0, 0, 1, 0, 0, 0, 0, 0, 8, 0, 0, 0, 0, 0]
/-- A package with these bytes behind its CRC field. -/
def pkgOf (r : List Byte) : List Byte := pkgA ++ (le4 (crc32 (pkgA ++ [0, 0, 0, 0] ++ r.take 524517)) ++ r)
/-- The rest of a package: zeros. -/
def zeros : List Byte := List.replicate 524613 0


theorem crc32_lt (bs : List Byte) : crc32 bs < 2 ^ 32 := by
  have step : ∀ (n : Nat) (b : Byte), n < 2 ^ 32 → crc32Byte n b < 2 ^ 32 := by
    intro n b hn
    have all : ∀ (l : List Nat) (a : Nat), a < 2 ^ 32 →
        l.foldl (fun a _ => if a % 2 = 1 then (a / 2) ^^^ 0xEDB88320 else a / 2) a < 2 ^ 32 := by
      intro l
      induction l with
      | nil => exact fun _ h => h
      | cons x t ih =>
        intro a h
        refine ih _ ?_
        show (if a % 2 = 1 then (a / 2) ^^^ 0xEDB88320 else a / 2) < 2 ^ 32
        split
        · exact Nat.xor_lt_two_pow (by omega) (by decide)
        · omega
    exact all _ _ (Nat.xor_lt_two_pow hn (by omega))
  have go : ∀ (bs : List Byte) (n : Nat), n < 2 ^ 32 → bs.foldl crc32Byte n < 2 ^ 32 := by
    intro bs
    induction bs with
    | nil => exact fun _ h => h
    | cons b t ih => exact fun n h => ih _ (step n b h)
  exact Nat.xor_lt_two_pow (go bs _ (by decide)) (by decide)

theorem leNat_le4 (c : Nat) (h : c < 2 ^ 32) : leNat (le4 c) = c := by
  simp only [le4, leNat, BitVec.toNat_ofNat]
  omega

theorem getLe_crc (r : List Byte) : getLe (pkgOf r) 0x18 4 = crc32 (pkgA ++ [0, 0, 0, 0] ++ r.take 524517) :=
  leNat_le4 _ (crc32_lt _)

theorem pkgCrc_pkgOf (r : List Byte) : pkgCrc (pkgOf r) = crc32 (pkgA ++ [0, 0, 0, 0] ++ r.take 524517) := by
  have hb : pkgBody (pkgOf r) = pkgA ++ (le4 (crc32 (pkgA ++ [0, 0, 0, 0] ++ r.take 524517)) ++ r.take 524517) := by
    have h : pkgLen (pkgOf r) - 96 = 524545 := by rw [pkgLen, show pkgCox (pkgOf r) = 1 from rfl]
    rw [pkgBody, h, pkgOf, List.take_append, List.take_append]
    rfl
  simp only [pkgCrc, hb]
  rfl

theorem pkgFault_pkgOf (d : Dev) (hitless : Bool) (r : List Byte) (hr : r.length = 524613) (h : d.upd.staged = pkgOf r)
    (hs : d.rd F.SEC_STS_SIGNER = 0) (hp : d.upd.run.pairFmt = 0) : d.pkgFault hitless = none := by
  have l : (pkgOf r).length = 524641 := by simp [pkgOf, pkgA, le4, hr]
  have a1 : getLe (pkgOf r) 0 4 = 0x4B50444E := by show leNat [0x4E, 0x44, 0x50, 0x4B] = 0x4B50444E; decide
  have a2 : getLe (pkgOf r) 4 2 = 1 := rfl
  have a3 : pkgLen (pkgOf r) = 524641 := by rw [pkgLen, show pkgCox (pkgOf r) = 1 from rfl]
  have a4 : pkgCoxOk (pkgOf r) = true := by rw [pkgCoxOk, show pkgCox (pkgOf r) = 1 from rfl]; decide
  have a5 : getLe (pkgOf r) 0x10 4 = 524288 := by show leNat [0, 0, 8, 0] = 524288; decide
  have a6 : getLe (pkgOf r) 6 1 = 0 := rfl
  have a7 : getLe (pkgOf r) 0x14 2 = 0 := rfl
  have c : pkgCrc (pkgOf r) = getLe (pkgOf r) 0x18 4 := (pkgCrc_pkgOf r).trans (getLe_crc r).symm
  have e : (pkgOf r).isEmpty = false := rfl
  simp [Dev.pkgFault, h, e, hs, hp, l, c, a1, a2, a3, a4, a5, a6, a7]
def upd (f : Upd → Upd) (g : Dev → Dev := id) : State := up (fun d => g ({ d with upd := f d.upd } : Dev))
def updp (f : Upd → Upd) (h : Par → Par) (g : Dev → Dev := id) : State := up (fun d => g ({ d with upd := f d.upd, par := h { d.par with en := true, lanes := [true, true] } } : Dev))
def upd1 (w : List Nat) (f : Upd → Upd) (h : Par → Par := id) (g : Dev → Dev := id) : State := held1 w (fun d => g ({ d with upd := f d.upd, par := h d.par } : Dev))
def swp2 (d : Dev) : Dev := { d with tar := { d.tar with sweeps := [{ grp := 1, instant := 5, left := [7] }] } }
def hold (d : Dev) : Dev := d.wrb F.PWR_SUP_STS_HOLD_LOW 0 false
def ipd (d : Dev) : Dev := (((d.wr F.UPD_RCV_IP_ADDR 0 5).wr F.FL_CFG_PORTS 0 1).setFn 6 { st := .on }).wrb F.ETH_STS_LINK 0 true

/-- Every clause of FirmwareUpdates with hypotheses is met by a state and operands. -/
theorem witness_FirmwareUpdates :
  (∃ (s : State) (p : Fin 64) (h : Held) (bs : List Byte), s.takes p 0x58 h ∧ s.dev.on F.UPD_CFG_OWNER_LOCK = false ∧ s.dev.activating = false ∧ h.desc.word 6 = 0)
  ∧ (∃ (s : State) (p : Fin 64) (h : Held) (bs : List Byte), s.takes p 0x58 h ∧ s.dev.on F.UPD_CFG_OWNER_LOCK = false ∧ s.dev.activating = false ∧ h.desc.word 6 ≠ 0 ∧ h.desc.word 6 = s.dev.upd.staged.length ∧ s.dev.upd.staged.length < stageCap s.dev.upd.staged)
  ∧ (∃ (s : State) (p : Fin 64) (h : Held), s.takes p 0x59 h ∧ s.dev.activating = false ∧ s.dev.updRefuse = 0 ∧ s.dev.upd.recovery = false ∧ (s.dev.par.en = false ∨ bitAt (h.desc.word 3) 0 = true) ∧ s.dev.pkgFault false = none)
  ∧ (∃ (s : State) (p : Fin 64) (h : Held), s.takes p 0x59 h ∧ s.dev.activating = false ∧ s.dev.updRefuse = 0 ∧ s.dev.upd.recovery = false ∧ s.dev.par.en = true ∧ bitAt (h.desc.word 3) 0 = false ∧ s.dev.pkgFault true = none)
  ∧ (∃ (s : State) (p : Fin 64) (h : Held), s.takes p 0x59 h ∧ s.dev.activating = false ∧ s.dev.updRefuse = 0 ∧ s.dev.upd.recovery = true ∧ s.dev.pkgFault false = none)
  ∧ (∃ (s : State), s.dev.live = true ∧ s.dev.upd.install = false ∧ s.dev.upd.st = 3 ∧ s.dev.portsQuiet = true ∧ s.dev.imageWaits = false ∧ s.dev.updMayReset = true)
  ∧ (∃ (s : State), s.dev.live = true ∧ s.dev.upd.st = 4 ∧ s.dev.upd.hstep = 1 ∧ s.dev.imageWaits = false)
  ∧ (∃ (s : State), s.dev.live = true ∧ s.dev.upd.st = 4 ∧ s.dev.upd.hstep = 2 ∧ s.dev.par.hbLost = true)
  ∧ (∃ (s : State), s.dev.live = true ∧ s.dev.upd.st = 4 ∧ s.dev.upd.hstep = 3 ∧ s.dev.par.hbLost = false ∧ s.dev.par.peer.ready = true ∧ s.dev.par.peer.version = s.dev.upd.target ∧ s.dev.tar.sweeps ≠ [] ∧ s.dev.par.role = .stroke)
  ∧ (∃ (s : State), s.dev.live = true ∧ s.dev.upd.st = 4 ∧ s.dev.upd.hstep = 5 ∧ s.dev.isBow = true ∧ s.dev.par.ready = true ∧ s.dev.upd.install = false)
  ∧ (∃ (s : State), s.dev.live = true ∧ s.dev.upd.st = 4 ∧ s.dev.upd.install = false ∧ s.dev.pairFatal = true)
  ∧ (∃ (s : State) (t : Nat), s.dev.live = true ∧ s.dev.upd.st = 4 ∧ s.dev.upd.install = false ∧ s.dev.pairFatal = false ∧ s.dev.upd.hstep = 3 ∧ s.dev.par.peer.ready = false ∧ s.dev.upd.resetAt = some t)
  ∧ (∃ (s : State) (pause : Bool) (total : Nat) (bytes : List Byte), s.dev.live = true ∧ s.dev.par.en = true ∧ s.dev.pairUp = true ∧ (s.dev.upd.recovery || (s.dev.isBow && !s.dev.activating)) = true ∧ bytes.length < total)
  ∧ (∃ (s : State) (bytes : List Byte), s.dev.live = true ∧ s.dev.par.en = true ∧ s.dev.pairUp = true ∧ s.dev.upd.recovery = false ∧ s.dev.isBow = true ∧ s.dev.activating = false ∧ bytes ≠ [])
  ∧ (∃ (s : State) (b : List Byte), tftpOk (some b) = true ∧ s.dev.live = true ∧ s.dev.upd.recovery = true ∧ s.dev.rcvIp = true ∧ s.dev.flPorts ≠ [] ∧ s.dev.upd.tftpDone = false ∧ s.dev.upd.tftpRest = none)
  ∧ (∃ (s : State), s.dev.live = true ∧ s.dev.upd.recovery = true ∧ s.dev.rcvIp = true ∧ s.dev.flPorts ≠ [] ∧ s.dev.upd.tftpDone = false ∧ s.dev.upd.tftpRest = none ∧ s.dev.upd.tftpFails < 2)
  ∧ (∃ (s : State), s.dev.live = true ∧ s.dev.upd.recovery = true ∧ s.dev.rcvIp = true ∧ s.dev.flPorts ≠ [] ∧ s.dev.upd.tftpDone = false ∧ s.dev.upd.tftpRest = none ∧ 2 ≤ s.dev.upd.tftpFails)
  ∧ (∃ (s : State) (source : Nat) (b : List Byte), s.dev.live = true ∧ s.dev.upd.recovery = true ∧ s.dev.recoveryPackage = some (source, b)) :=
  ⟨⟨(upd1 [0x858, 0, 0, 0, 0, 8] id), 0, (hd [0x858, 0, 0, 0, 0, 8]), [1, 2, 3], by unfold State.takes; decide +kernel⟩,
   ⟨(upd1 [0x858, 0, 0, 0, 0, 8, 2] (fun u => { u with staged := [8, 9] })), 0, (hd [0x858, 0, 0, 0, 0, 8, 2]), [1, 2, 3], by unfold State.takes; decide +kernel⟩,
   ⟨(upd1 [0x59] (fun u => { u with staged := pkgOf zeros }) id hold), 0, (hd [0x59]), ⟨by decide +kernel, by decide +kernel, by decide +kernel⟩, by decide +kernel, by decide +kernel, by decide +kernel, by decide +kernel, pkgFault_pkgOf _ _ zeros (by rw [zeros, List.length_replicate]) rfl (by decide +kernel) rfl⟩,
   ⟨(upd1 [0x59] (fun u => { u with staged := pkgOf zeros }) (fun p => { p with en := true, health := 127 }) hold), 0, (hd [0x59]), ⟨by decide +kernel, by decide +kernel, by decide +kernel⟩, by decide +kernel, by decide +kernel, by decide +kernel, by decide +kernel, by decide +kernel, pkgFault_pkgOf _ _ zeros (by rw [zeros, List.length_replicate]) rfl (by decide +kernel) rfl⟩,
   ⟨(upd1 [0x59] (fun u => { u with staged := pkgOf zeros, recovery := true }) id hold), 0, (hd [0x59]), ⟨by decide +kernel, by decide +kernel, by decide +kernel⟩, by decide +kernel, by decide +kernel, by decide +kernel, pkgFault_pkgOf _ _ zeros (by rw [zeros, List.length_replicate]) rfl (by decide +kernel) rfl⟩,
   ⟨(upd (fun u => { u with st := 3 }) hold), by decide +kernel⟩,
   ⟨(upd (fun u => { u with st := 4, hstep := 1 })), by decide +kernel⟩,
   ⟨(updp (fun u => { u with st := 4, hstep := 2 }) (fun p => { p with hbLost := true })), by decide +kernel⟩,
   ⟨(updp (fun u => { u with st := 4, hstep := 3, target := 7 }) (fun p => { p with role := .stroke, peer := { p.peer with ready := true, version := 7 } }) swp2), by decide +kernel⟩,
   ⟨(updp (fun u => { u with st := 4, hstep := 5 }) (fun p => { p with role := .bow, ready := true })), by decide +kernel⟩,
   ⟨(updp (fun u => { u with st := 4, hstep := 2 }) (fun p => { p with peer := { p.peer with fatal := true } })), by decide +kernel⟩,
   ⟨(updp (fun u => { u with st := 4, hstep := 3, resetAt := some 9 }) id), 9, by decide +kernel⟩,
   ⟨(updp id (fun p => { p with role := .bow })), true, 9, [1, 2], by decide +kernel⟩,
   ⟨(updp (fun u => { u with imgRx := [1, 2], imgLen := 3 }) (fun p => { p with role := .bow })), [3], by decide +kernel⟩,
   ⟨(upd (fun u => { u with recovery := true, tftp := [9] }) ipd), [1, 2, 3], by decide +kernel⟩,
   ⟨(upd (fun u => { u with recovery := true, tftp := [9] }) ipd), by decide +kernel⟩,
   ⟨(upd (fun u => { u with recovery := true, tftp := [9], tftpFails := 2 }) ipd), by decide +kernel⟩,
   ⟨(upd (fun u => { u with recovery := true, tftp := [9], tftpDone := true })), 2, [9], by decide +kernel⟩⟩

end W20


/-! ## Ill-formed commands -/

/-- Each check of WellFormed refuses a term, and its command faults. -/
theorem smoke_grant : (Instr.fetchGrant (List.replicate 5 (dsc [])) 0).wf = false ∧ (Instr.fetchGrant [⟨[1]⟩] 0).wf = false := by decide

theorem smoke_unaligned : (Instr.unalignedAccess true 8 4).wf = false ∧ (Instr.unalignedAccess true 9 4).wf = true := by decide

theorem smoke_boot : (Instr.boot { halt := 5 }).wf = false := by decide

theorem smoke_demand : (Instr.demandBoundary 7).wf = false ∧ (Instr.demandBoundary 0).wf = false ∧ (Instr.demandBoundary 15).wf = true := by decide

theorem smoke_tftp : (Instr.tftpRecoveryRead (some (List.replicate 1429 0))).wf = false := by decide +kernel

theorem smoke_fault : exec (.demandBoundary 7) State.reset = .fault (.illFormedCommand "DEMAND_BOUNDARY") := rfl

/-! ## Small tests -/

/-- The worked example of R20: GLB_ROLE_CFG takes 0b00 for the reserved code 0b11 on an X-grade device. -/
theorem test_role_reserved :
    (match exec (.registerWrite 0x10 3) (up id) with | .next t => some (t.dev.rd F.GLB_ROLE_CFG_ROLE) | _ => none) = some 0 := by decide +kernel

/-- Bits of no field of GLB_ROLE_CFG read 0 (R17). -/
theorem test_reserved_bits : ((up id).dev.nextWord ((findReg 0x10).get (by decide)).1 0 0x10 0xFFFFFFFC) = 0 := by decide +kernel

/-- On an empty queue one cycle passes. -/
theorem test_idle : (match step State.reset with | .next t => some t.dev.tim.mono | _ => none) = some 1 := by decide +kernel

/-- CRC-32 of the digits 1 to 9 is the published check value. -/
theorem test_crc32 : crc32 (ascii "123456789") = 0xCBF43926 := by decide +kernel

/-- AES-128 on the example vector of FIPS 197, appendix C.1. -/
theorem test_aes128 : aesEnc ((List.range 16).map (BitVec.ofNat 8)) ((List.range 16).map (fun i => BitVec.ofNat 8 (17 * i)))
    = [0x69, 0xC4, 0xE0, 0xD8, 0x6A, 0x7B, 0x04, 0x30, 0xD8, 0xCD, 0xB7, 0x80, 0x70, 0xB4, 0xC5, 0x5A] := by decide +kernel

/-! ## Hypotheses of the statements over every step -/

/-- A second LEAP_SECOND command at a device without one announced: it runs, and changes nothing. -/
theorem runs_leap (s : State) (h : s.dev.tim.leap = 0) : exec .leapSecond s = .next (s.withDev s.dev) := by
  show Host.Outcome.next (s.withDev _) = _
  simp [h]

theorem witness_IdleStepIsOneCycle : ∃ s : State, s.pending = [] := ⟨State.reset, rfl⟩

theorem witness_CommandsLeaveTheQueue : ∃ (c : Instr) (s t : State), exec c s = .next t := ⟨_, State.reset, _, runs_leap _ rfl⟩

theorem witness_FormedCommandsRun : ∃ c e : Instr, c.wf = true ∧ e.wf = false := ⟨.leapSecond, .demandBoundary 7, by decide⟩

/-- A part with a fused line port, waiting for one command. -/
def fused : State := { State.reset with die := { State.reset.die with gov := [(0, 5, 6)] }, pending := [.leapSecond] }

theorem witness_FusesAreWrittenOnce : ∃ (s t : State) (p : Nat) (w : Nat × Nat), step s = .next t ∧ s.die.gov.find p = some w :=
  ⟨fused, _, 0, (5, 6), runs_leap _ rfl, by decide +kernel⟩

theorem fused_legal : FusesLegal fused := by
  intro p w h
  have e : p = 0 ∧ (5, 6) = w := by simpa [fused, Tab.find] using h
  obtain ⟨-, rfl⟩ := e
  decide

theorem witness_FusesStayLegal : ∃ s t : State, FusesLegal s ∧ step s = .next t :=
  ⟨fused, _, fused_legal, runs_leap _ rfl⟩

theorem witness_BatteryStaysLegal : ∃ s t : State, BatteryLegal s ∧ step s = .next t :=
  ⟨fused, _, by unfold BatteryLegal; decide +kernel, runs_leap _ rfl⟩

theorem witness_OnlyFusingWritesTheDie : ∃ (c : Instr) (s t : State), (∀ port, c ≠ .govFuseDone port) ∧ exec c s = .next t :=
  ⟨.leapSecond, State.reset, _, (fun _ h => nomatch h), runs_leap _ rfl⟩

theorem witness_TamperLatchHolds : ∃ (c : Instr) (s t : State), s.bat.latch = true ∧ s.bat.root = none
    ∧ (∀ offS cold resetN perstN pwrFailN, c ≠ .powerUp offS cold resetN perstN pwrFailN) ∧ exec c s = .next t :=
  ⟨.leapSecond, { State.reset with bat := { State.reset.bat with latch := true } }, _, rfl, rfl, (fun _ _ _ _ _ h => nomatch h), runs_leap _ rfl⟩

theorem witness_RecorderOnlyGrows : ∃ (c : Instr) (s t : State), exec c s = .next t ∧ s.dev.evr.recs.length ≤ 65536 :=
  ⟨.leapSecond, State.reset, _, runs_leap _ rfl, by decide⟩

theorem witness_FieldsFollowTheirAccessCodes : ∃ (off : Nat) (r : RegDef) (i k : Nat) (f : Fld), findReg off = some (r, i) ∧ f ∈ r.flds
    ∧ ∀ f ∈ r.flds, k < f.lo ∨ f.lo + f.len ≤ k :=
  ⟨0x10, ((findReg 0x10).get (by decide)).1, 0, 31, (((findReg 0x10).get (by decide)).1.flds).head (by decide), by decide +kernel⟩

theorem witness_RoleClampsOnTheFGrade : ∃ (s : State) (val : Word), s.dev.live = true ∧ s.dev.grade = .f ∧ s.dev.on F.GLB_CFG_LOCK_LOCK = false
    ∧ (F.GLB_ROLE_CFG_ROLE.get val.toNat = 1 ∨ F.GLB_ROLE_CFG_ROLE.get val.toNat = 2) :=
  ⟨up (fun d => { d with grade := .f }), 2, by decide +kernel⟩

theorem witness_ContextGetCopiesTheImage : (∃ (s : State) (pair : Fin 64) (h : Held) (c : Ctx), s.takes pair 0x70 h ∧ s.dev.ctxAt (tMix h.desc) = some c
      ∧ c.st ≤ 4 ∧ 256 ≤ bufLen h.desc)
    ∧ (∃ (s : State) (pair : Fin 64) (h : Held) (c : Ctx), s.takes pair 0x70 h ∧ s.dev.ctxAt (tMix h.desc) = some c ∧ c.st ≤ 4 ∧ bufLen h.desc < 256) :=
  ⟨⟨held1 [0x870, 0, 0x10000009, 0, 0, 256] (fun d => { d with ctx := { d.ctx with tab := [(9, { st := 3, kind := 0, addr := 5 })] } }), 0,
     hd [0x870, 0, 0x10000009, 0, 0, 256], { st := 3, kind := 0, addr := 5 }, by unfold State.takes; decide +kernel⟩,
   ⟨held1 [0x870, 0, 0x10000009, 0, 0, 128] (fun d => { d with ctx := { d.ctx with tab := [(9, { st := 3, kind := 0, addr := 5 })] } }), 0,
     hd [0x870, 0, 0x10000009, 0, 0, 128], { st := 3, kind := 0, addr := 5 }, by unfold State.takes; decide +kernel⟩⟩

theorem witness_OneMeterCompletesInOrder : ∃ (d : Dev) (p k : Nat) (a b : List Held) (x : Held), (d.pair p).held = a ++ x :: b ∧ x.result = none
    ∧ descMix x.desc = some k :=
  ⟨(held1 [0x70, 0, 0x10000009] id).dev, 0, 9, [], [], hd [0x70, 0, 0x10000009], by decide +kernel⟩

theorem witness_ScullerPhysicalLayer : (∃ tmi rate nsym : Nat, tmi < 16 ∧ rate < 4 ∧ nsym < 1024) ∧ (∃ w i : Nat, w < 2 ^ 24 ∧ i < 24 ∧ fcGood w = true)
    ∧ ∃ (mask bps n : Nat) (bytes : List Byte), bps = popBits 58 mask / 8 ∧ n = scSymbols bytes.length bps ∧ 0 < bps :=
  ⟨⟨15, 3, 1023, by decide⟩, ⟨fcWord 15 3 1023, 23, by decide +kernel⟩, ⟨2 ^ 58 - 1, 7, 11, [1], by decide +kernel⟩⟩

theorem witness_NormaliserGainIsOne : ∃ dc : Nat, 2 ≤ dc ∧ dc ≤ 65536 := ⟨125, by decide⟩

/-! ## Words from the spec -/

/-- The CRC-8 of R180 on a word with bit 0 alone is its polynomial. -/
theorem test_fc_crc : fcCrc 1 = 7 := by decide +kernel

/-- All 58 carriers in ROBUST: 7 bits per symbol (R183), so a one-byte frame has 11 data symbols. -/
theorem test_robust : scSymbols 1 (popBits 58 (2 ^ 58 - 1) / 8) = 11 := by decide +kernel

/-- D_CIC 125: the shift 21, since 125³ is under 2^21, and a mantissa that brings the product within 0.1 ppm (R364). -/
theorem test_norm : normShift 125 = 21 ∧ normMant 125 = 9007199 := by decide +kernel

end Sys2Proof.Tests
end

section

namespace Sys2Proof.Machine

/-! ## A plain write of a register (R19, R20) -/

@[simp] theorem Dev.word_touch (d : Dev) (off j : Nat) : (d.touch off).word j = d.word j := rfl

theorem Dev.plainWrite_keeps (d : Dev) (off v : Nat) : Keeps [.regs, .dirty] d (d.plainWrite off v) := by
  have hset (w : Nat) : Keeps [.regs, .dirty] d (d.setWord off w) := (d.setWord_keeps off w).mono (by decide)
  unfold Dev.plainWrite
  split
  · exact Keeps.refl _ _
  · split
    · exact Keeps.refl _ _
    · exact Keeps.ite ((Dev.touch_keeps _ _).step (by decide) (hset _)) (hset _)

theorem Dev.plainWrite_keepsRegs (d : Dev) (off v : Nat) : KeepsRegs [off] d (d.plainWrite off v) := by
  intro j hj
  have hset (w : Nat) : (d.setWord off w).word j = d.word j := d.word_setWord_other off j w (by simpa using hj)
  unfold Dev.plainWrite
  split
  · rfl
  · split
    · rfl
    · dsimp only
      split <;> simp [hset]

/-- A register that the grade has takes the word that the access codes and clamps give. -/
theorem Dev.word_plainWrite {d : Dev} {off : Nat} {r : RegDef} {i : Nat} (habs : absentOff d.grade off = false)
    (hreg : findReg off = some (r, i)) (v : Nat) : (d.plainWrite off v).word off = d.nextWord r i off v % 2 ^ 32 := by
  simp only [Dev.plainWrite, habs, hreg, Bool.false_eq_true, if_false]
  split <;> simp

@[simp] theorem Dev.plainWrite_grade (d : Dev) (off v : Nat) : (d.plainWrite off v).grade = d.grade :=
  d.plainWrite_keeps off v .grade (by decide)

@[simp] theorem Dev.plainWrite_live (d : Dev) (off v : Nat) : (d.plainWrite off v).live = d.live := by
  have hglb : (d.plainWrite off v).glb = d.glb := d.plainWrite_keeps off v .glb (by decide)
  simp [Dev.live, hglb]

/-! ## Accesses of the host to a register without an effect of its own -/

theorem State.regWrite_of_not_own {base : Nat} (hown : base ∉ ownWrites) (s : State) (i off v : Nat) :
    s.regWrite base i off v = s.withDev (s.dev.plainWrite off v) := by
  unfold State.regWrite
  split
  case h_40 => rfl
  all_goals exact absurd (by decide) hown

/-- REGISTER_WRITE to a register without a command of its own is a plain write (R20). -/
theorem registerWrite_runs_plainWrite {s : State} {off : BitVec 24} {r : RegDef} {i : Nat} (hlive : s.dev.live = true)
    (halign : off.toNat % 4 = 0) (habs : absentOff s.dev.grade off.toNat = false) (hwin : winAt off.toNat = none)
    (hreg : findReg off.toNat = some (r, i)) (hown : r.off ∉ ownWrites) (val : Word) :
    Runs (.registerWrite off val) s (s.dev.plainWrite off.toNat val.toNat) := by
  have hbus : s.busWrite off.toNat val.toNat = s.withDev (s.dev.plainWrite off.toNat val.toNat) := by
    simp [State.busWrite, hlive, habs, hwin, hreg, State.regWrite_of_not_own hown]
  simp [Runs, exec, execRegisterWrite, halign, hbus]

/-- A read without an effect of its own answers the word as it is shown. -/
theorem State.busRead_of_no_effect {s : State} {off : Nat} {r : RegDef} {i : Nat} (hlive : s.dev.live = true)
    (habs : absentOff s.dev.grade off = false) (hwin : winAt off = none) (hreg : findReg off = some (r, i))
    (heff : readEffect off = none) :
    s.busRead off = (s.dev.shownWord s.bat.ktk r.off i (s.dev.word off) % 2 ^ 32, s) := by
  simp [State.busRead, Dev.readWord, hlive, habs, hwin, hreg, heff]

/-! ## GLB_ROLE_CFG (R5, R12) -/

theorem findReg_roleCfg : ∃ r, findReg 0x10 = some (r, 0) ∧ r.off = 0x10 := ⟨_, rfl, rfl⟩

theorem absentOff_roleCfg (g : Grade) : absentOff g 0x10 = false := by
  cases g <;> rfl

/-- The F grade knows no role but 0b00 (R5). -/
theorem Dev.crossClamp_roleCfg_fGrade {d : Dev} (hgrade : d.grade = .f) (i w : Nat) : d.crossClamp 0x10 i w = 0 := by
  simp [Dev.crossClamp, hgrade]

/-- On the F grade GLB_ROLE_CFG holds 0 after any write. -/
theorem Dev.word_plainWrite_roleCfg_fGrade {d : Dev} (hgrade : d.grade = .f) (v : Nat) :
    (d.plainWrite 0x10 v).word 0x10 = 0 := by
  obtain ⟨r, hreg, hoff⟩ := findReg_roleCfg
  rw [Dev.word_plainWrite (absentOff_roleCfg _) hreg, Dev.nextWord, hoff, Dev.crossClamp_roleCfg_fGrade hgrade, Nat.zero_mod]

/-- GLB_ROLE_CFG reads as it is stored. -/
theorem State.busRead_roleCfg {s : State} (hlive : s.dev.live = true) : (s.busRead 0x10).1 = s.dev.word 0x10 % 2 ^ 32 := by
  obtain ⟨r, hreg, hoff⟩ := findReg_roleCfg
  rw [State.busRead_of_no_effect hlive (absentOff_roleCfg _) rfl hreg rfl, hoff]
  rfl

/-- Settles O56: the clamp of R5 leaves 0 in GLB_ROLE_CFG, whatever is written, and the register reads as it is stored. -/
theorem roleClampsOnTheFGrade : Obligations.RoleClampsOnTheFGrade := by
  intro s val hlive hgrade _ _
  obtain ⟨r, hreg, hoff⟩ := findReg_roleCfg
  have hword : (s.dev.plainWrite 0x10 val.toNat).word 0x10 = 0 := Dev.word_plainWrite_roleCfg_fGrade hgrade _
  refine ⟨s.dev.plainWrite 0x10 val.toNat, ?runs, Dev.plainWrite_keeps _ _ _, Dev.plainWrite_keepsRegs _ _ _, ?role, ?readback⟩
  case runs => exact registerWrite_runs_plainWrite (off := 0x10) hlive rfl (absentOff_roleCfg _) rfl hreg (by rw [hoff]; decide) val
  case role =>
    change bitsOf ((s.dev.plainWrite 0x10 val.toNat).word 0x10) 0 2 = 0
    rw [hword]
    rfl
  case readback =>
    rw [State.busRead_roleCfg ((Dev.plainWrite_live _ _ _).trans hlive)]
    exact congrArg (· % 2 ^ 32) hword

end Sys2Proof.Machine
end

section

namespace Sys2Proof

/-! ## Lengths of byte strings -/

@[simp] theorem length_leBytes (n v : Nat) : (leBytes n v).length = n := by
  induction n generalizing v with
  | zero => rfl
  | succ n ih => simp [leBytes, ih]

theorem le_length_padTo (n : Nat) (bs : List Byte) : n ≤ (padTo n bs).length := by
  simp only [padTo, List.length_append, List.length_replicate]
  omega

end Sys2Proof

namespace Sys2Proof.Machine

theorem length_layBytes (fs : List (Nat × Nat)) : (layBytes fs).length = (fs.map Prod.fst).sum := by
  simp [layBytes, List.length_flatMap]

/-! ## The image of a context is 256 bytes (R105, R107) -/

theorem Ctx.length_layBytes_head (m : Nat) (c : Ctx) : (layBytes (c.head m)).length = 128 := by
  simp [length_layBytes, Ctx.head]

theorem Ctx.length_layBytes_tail (c : Ctx) : (layBytes c.tail).length = 96 := by
  simp [length_layBytes, Ctx.tail]

@[simp] theorem Ctx.length_image (m : Nat) (c : Ctx) : (c.image m).length = 256 := by
  have hchain : ((padTo 32 c.chainHead).take 32).length = 32 := List.length_take_of_le (le_length_padTo _ _)
  simp only [Ctx.image, List.length_append, Ctx.length_layBytes_head, Ctx.length_layBytes_tail, hchain]

@[simp] theorem Ctx.length_authImage (m : Nat) (c : Ctx) : (c.authImage m).length = 256 := Ctx.length_image _ _

/-! ## What goes out does not bear on a completion (R80) -/

@[simp] theorem Dev.out_emit (d : Dev) (o : Out) : (d.emit o).out = o :: d.out := rfl

@[simp] theorem Dev.pair_emit (d : Dev) (o : Out) (p : Nat) : (d.emit o).pair p = d.pair p := rfl

theorem Dev.updPair_emit (d : Dev) (o : Out) (p : Nat) (f : Pair → Pair) : (d.emit o).updPair p f = (d.updPair p f).emit o := rfl

theorem Dev.setPair_emit (d : Dev) (o : Out) (p : Nat) (x : Pair) : (d.emit o).setPair p x = (d.setPair p x).emit o := rfl

theorem Dev.setWord_emit (d : Dev) (o : Out) (off v : Nat) : (d.emit o).setWord off v = (d.setWord off v).emit o := rfl

theorem Dev.bump_emit (d : Dev) (o : Out) (f : F) (i n : Nat) : (d.emit o).bump f i n = (d.bump f i n).emit o :=
  Dev.setWord_emit _ _ _ _

theorem Dev.watchFull_emit (d : Dev) (o : Out) (p : Nat) : (d.emit o).watchFull p = (d.watchFull p).emit o := by
  simp only [Dev.watchFull, Dev.updPair_emit, apply_ite (Dev.emit · o)]
  rfl

theorem Dev.settle_emit (d : Dev) (o : Out) (p : Nat) : (d.emit o).settle p = (d.settle p).emit o := by
  simp only [Dev.settle, Dev.pair_emit, Dev.setPair_emit, Dev.bump_emit, Dev.watchFull_emit]

theorem Dev.complete_emit (d : Dev) (o : Out) (p id st sub : Nat) (res : List Nat) :
    (d.emit o).complete p id st sub res = (d.complete p id st sub res).emit o := by
  unfold Dev.complete
  rw [Dev.updPair_emit, Dev.settle_emit]

@[simp] theorem Dev.complete_out (d : Dev) (p id st sub : Nat) (res : List Nat) : (d.complete p id st sub res).out = d.out :=
  d.complete_keeps p id st sub res .out (by decide)

theorem Dev.writeBuf_of_length_le {x : Desc} {bs : List Byte} (hfits : bs.length ≤ bufLen x) (d : Dev) :
    d.writeBuf x bs = d.emit (.hostWrite (bufAddr x) bs) := by
  rw [Dev.writeBuf, List.take_of_length_le hfits]

/-! ## A command runs on the descriptor it takes (R76 to R79) -/

/-- An opcode acts on the descriptor that its command takes. -/
theorem State.takes.onDesc_eq {s : State} {p op : Nat} {h : Held} (htakes : s.takes p op h) (f : Dev → Held → Dev) :
    s.dev.onDesc p op f = f s.dev h := by
  obtain ⟨hlive, hstart, hpass⟩ := htakes
  simp [Dev.onDesc, hlive, hstart, hpass]

/-! ## CTX_GET (R107) -/

section
variable {s : State} {pair : Fin 64} {h : Held} {c : Ctx}

/-- CTX_GET of a context in use that is not RETIRING comes down to the length of the buffer. -/
theorem ctxGet_runs (htakes : s.takes pair 0x70 h) (hctx : s.dev.ctxAt (tMix h.desc) = some c) (hst : c.st ≠ 5) :
    Runs (.ctxGet pair) s (if bufLen h.desc < 256 then s.dev.complete pair h.id 4 20
      else (s.dev.writeBuf h.desc (c.authImage (tMix h.desc))).complete pair h.id 0 0 [c.st]) := by
  simp [Runs, exec, execCtxGet, State.go, State.withDev, htakes.onDesc_eq, hctx, hst]

theorem ctxGet_completes_image (htakes : s.takes pair 0x70 h) (hctx : s.dev.ctxAt (tMix h.desc) = some c) (hst : c.st ≠ 5)
    (hlen : 256 ≤ bufLen h.desc) :
    Completes (.ctxGet pair) s pair h [c.st] [.out] (fun d =>
      d.out = .hostWrite (bufAddr h.desc) (c.authImage (tMix h.desc)) :: s.dev.out) := by
  have hruns := ctxGet_runs htakes hctx hst
  rw [if_neg (by omega), Dev.writeBuf_of_length_le (by simpa using hlen), Dev.complete_emit] at hruns
  refine ⟨_, hruns, ?keeps, by simp, by simp⟩
  exact (Dev.emit_keeps _ _).step (by decide) ((Dev.complete_keeps _ _ _ _ _ _).mono (by decide))

theorem ctxGet_refuses_short_buffer (htakes : s.takes pair 0x70 h) (hctx : s.dev.ctxAt (tMix h.desc) = some c) (hst : c.st ≠ 5)
    (hlen : bufLen h.desc < 256) :
    Does (.ctxGet pair) s [.rng, .regs] (fun d => d.pair pair = (s.dev.complete pair h.id 4 20).pair pair) := by
  have hruns := ctxGet_runs htakes hctx hst
  rw [if_pos hlen] at hruns
  exact ⟨_, hruns, Dev.complete_keeps _ _ _ _ _ _, rfl⟩

end

/-- Settles O57: a STATE of at most 4 is not RETIRING, so the outcome of CTX_GET rests on the length of the buffer alone. -/
theorem contextGetCopiesTheImage : Obligations.ContextGetCopiesTheImage := by
  intro s pair h c htakes hctx hst
  have hnotRetiring : c.st ≠ 5 := by omega
  exact ⟨Ctx.length_authImage _ _, ctxGet_completes_image htakes hctx hnotRetiring, ctxGet_refuses_short_buffer htakes hctx hnotRetiring⟩

end Sys2Proof.Machine
end

section

-- one proof after the other: the check gives the text few threads
set_option Elab.async false

namespace Sys2Proof.Machine

/-! ## What a command can do outside the device -/

/-- The commands that reach beyond the device, to die or battery domain. -/
def beyondDev : Instr → Bool
  | .registerWrite .. | .cfgSet .. | .cfgGet .. | .diagCounters .. | .govFuseDone .. | .powerUp .. | .boot .. => true
  | .rootGenerate .. | .rootCloneSend .. | .rootCloneRecv .. | .rootZeroise .. | .cloneFrameRx .. => true
  | .ktkClearLoad .. | .ktkWrappedLoad .. | .ktkErase .. | .tamperLatchClear .. => true
  | .tamperInputTrip .. | .tamperMeshTrip .. | .tamperTempTrip .. | .tamperVoltageTrip .. | .tamperBatteryTrip .. => true
  | .tamperRootClockTrip .. => true
  | _ => false

/-- Every other command changes the device alone, and only ill-formed operands keep it from running. -/
theorem exec_inside {c : Instr} (hin : beyondDev c = false) (s : State) :
    (c.wf = true → ∃ d, exec c s = .next (s.withDev d)) ∧ (c.wf = false → ∃ m, exec c s = .fault (.illFormedCommand m)) := by
  cases c
  case fetchGrant descs lat => simp +contextual [Instr.wf, exec, execFetchGrant, State.go, State.withDev]
  case unalignedAccess w off n => simp +contextual [Instr.wf, exec, execUnalignedAccess, State.go, State.withDev]
  case demandBoundary n => simp +contextual [Instr.wf, exec, execDemandBoundary, State.go, State.withDev]
  case tftpRecoveryRead b => simp +contextual [Instr.wf, exec, execTftpRecoveryRead, State.go, State.withDev]
  case registerWrite | cfgSet | cfgGet | diagCounters | govFuseDone | powerUp | boot | rootGenerate | rootCloneSend | rootCloneRecv
    | rootZeroise | cloneFrameRx | ktkClearLoad | ktkWrappedLoad | ktkErase | tamperLatchClear | tamperInputTrip | tamperMeshTrip
    | tamperTempTrip | tamperVoltageTrip | tamperBatteryTrip | tamperRootClockTrip => cases hin
  all_goals exact ⟨fun _ => ⟨_, rfl⟩, fun h => nomatch h⟩

end Sys2Proof.Machine
end

section

-- one proof after the other: the check gives the text few threads
set_option Elab.async false

namespace Sys2Proof.Machine

/-! ## SEC_TAMPER_CFG (R313) -/

/-- DEBOUNCE is 1 or more and the reserved bits are 0. -/
def TamperCfgLegal (w : Nat) : Prop := 1 ≤ bitsOf w 24 8 ∧ bitsOf w 20 4 = 0 ∧ bitsOf w 5 11 = 0 ∧ w < 2 ^ 32

theorem batteryLegal_iff (s : State) : BatteryLegal s ↔ s.bat.count ≤ 4095 ∧ s.bat.source ≤ 10 ∧ TamperCfgLegal s.bat.cfg := Iff.rfl

/-- SEC_TAMPER_CFG in the register table. -/
def tamperCfgReg : RegDef := ⟨"SEC_TAMPER_CFG", 0x40070, 0, 1, none, [rwlF 24 8 3 (.near 1 255), rwlF 16 4 0, rwlF 4 1 0, rwlF 0 4 0]⟩

theorem blockRegs_tamperCfg {b : Nat} {r : RegDef} (hr : r ∈ blockRegs b) (hoff : r.off = 0x40070) : r = tamperCfgReg := by
  have hall : ∀ r ∈ (List.range 21).flatMap blockRegs ++ regsWin, r.off = 0x40070 → r = tamperCfgReg := by decide +kernel
  refine hall r (List.mem_append.2 ?_) hoff
  by_cases hb : b < 21
  · exact .inl (List.mem_flatMap.2 ⟨b, List.mem_range.2 hb, hr⟩)
  · unfold blockRegs at hr
    split at hr
    case h_22 =>
      split at hr
      · exact .inr hr
      · cases hr
    all_goals omega

/-- The register that an offset names is one of a bank or of the table of its block. -/
theorem findReg_cases {off : Nat} {r : RegDef} {i : Nat} (h : findReg off = some (r, i)) :
    r = bankGdDef ∨ r = bankDef ∨ (r ∈ blockRegs (off / 0x10000) ∧ r.inst off = some i) := by
  unfold findReg at h
  split at h
  · simp only [Option.some.injEq, Prod.mk.injEq] at h
    obtain ⟨rfl, -⟩ := h
    split <;> simp
  · obtain ⟨r', hmem, hr'⟩ := List.exists_of_findSome?_eq_some h
    obtain ⟨j, hj, he⟩ := Option.map_eq_some_iff.1 hr'
    simp only [Prod.mk.injEq] at he
    obtain ⟨rfl, rfl⟩ := he
    exact .inr (.inr ⟨hmem, hj⟩)

theorem findReg_tamperCfg {off : Nat} {r : RegDef} {i : Nat} (h : findReg off = some (r, i)) (hoff : r.off = 0x40070) : off = 0x40070 := by
  rcases findReg_cases h with rfl | rfl | ⟨hmem, hinst⟩
  · cases hoff
  · cases hoff
  · obtain rfl := blockRegs_tamperCfg hmem hoff
    by_contra hne
    simp [RegDef.inst, tamperCfgReg, hne] at hinst

theorem findReg_of_tamperCfg : findReg 0x40070 = some (tamperCfgReg, 0) := by decide +kernel

/-- Fields in their places make a legal word. -/
theorem tamperCfgLegal_of_fields {a p m e : Nat} (ha : 1 ≤ a ∧ a ≤ 255) (hp : p < 16) (hm : m < 2) (he : e < 16) :
    TamperCfgLegal (0 + a * 2 ^ 24 + p * 2 ^ 16 + m * 2 ^ 4 + e * 2 ^ 0) := by
  simp only [TamperCfgLegal, bitsOf, Nat.shiftRight_eq_div_pow]
  omega

theorem rwlF_next_lt (lo len reset : Nat) (lock off : Bool) (cur v : Nat) : (rwlF lo len reset).next lock off cur v < 2 ^ len := by
  cases lock <;> exact bitsOf_lt _ _ _

/-- A write to SEC_TAMPER_CFG leaves a legal word legal (R20). -/
theorem tamperCfg_next_legal {cur : Nat} (hcur : TamperCfgLegal cur) (lock off : Bool) (v : Nat) : TamperCfgLegal (tamperCfgReg.next lock off cur v) := by
  obtain ⟨hdeb, -, -, -⟩ := hcur
  have hcap := bitsOf_lt cur 24 8
  refine tamperCfgLegal_of_fields (a := (rwlF 24 8 3 (.near 1 255)).next lock off cur v) (p := (rwlF 16 4 0).next lock off cur v)
    (m := (rwlF 4 1 0).next lock off cur v) (e := (rwlF 0 4 0).next lock off cur v) ?_ ?_ ?_ ?_
  · cases lock
    · simpa [Fld.next, rwlF, Lim.clamp] using clampNat_mem 1 255 _ (by decide)
    · simp only [Fld.next, rwlF, if_true]
      omega
  all_goals exact rwlF_next_lt ..

theorem Dev.nextWord_tamperCfg (d : Dev) (i off v : Nat) :
    d.nextWord tamperCfgReg i off v = tamperCfgReg.next (d.on F.GLB_CFG_LOCK_LOCK) (d.regOff tamperCfgReg i) (d.word off) v := by
  simp [Dev.nextWord, Dev.crossClamp, tamperCfgReg]

theorem Dev.word_plainWrite_tamperCfg_legal {d : Dev} (hcur : TamperCfgLegal (d.word 0x40070)) (v : Nat) :
    TamperCfgLegal ((d.plainWrite 0x40070 v).word 0x40070) := by
  have habs : absentOff d.grade 0x40070 = false := by cases d.grade <;> rfl
  rw [Dev.word_plainWrite habs findReg_of_tamperCfg, Dev.nextWord_tamperCfg]
  have hnext := tamperCfg_next_legal hcur (d.on F.GLB_CFG_LOCK_LOCK) (d.regOff tamperCfgReg 0) v
  rwa [Nat.mod_eq_of_lt hnext.2.2.2]

/-! ## What a command can do to the battery domain -/

/-- The ways in which a command can change the battery domain while it keeps its power (R283, R284, R288 to R290, R293, R313, R664). -/
inductive BatMove (b : Bat) : Bat → Prop
  | same : BatMove b b
  | measured (v : Nat) : BatMove b { b with vbat := v }
  | rootTaken (r : List Byte) : BatMove b { b with root := some r }
  | ktkSet (k : Option (List Byte)) : BatMove b { b with ktk := k }
  | zeroised (v source time : Nat) (owed : Bool) (h : source ≤ 10) : BatMove b
      { b with vbat := v, root := none, ktk := none, latch := true, source := source, count := min 4095 (b.count + 1), time := time, owed := owed }
  | latchCleared (h : b.root.isSome = true) : BatMove b { b with latch := false }
  | configured (w : Nat) (h : TamperCfgLegal b.cfg → TamperCfgLegal w) : BatMove b { b with cfg := w }
  | reported : BatMove b { b with cold := false, owed := false }

/-- What a command leaves outside the device: die and queue as before, the battery domain moved. -/
def Moves (s t : State) : Prop := t.die = s.die ∧ t.pending = s.pending ∧ BatMove s.bat t.bat

theorem Moves.refl (s : State) : Moves s s := ⟨rfl, rfl, .same⟩

/-- A change of the device is none of what is outside it. -/
theorem Moves.dev (s : State) (d : Dev) : Moves s { s with dev := d } := ⟨rfl, rfl, .same⟩

theorem Moves.bat {s : State} {b : Bat} (h : BatMove s.bat b) (d : Dev) : Moves s { s with bat := b, dev := d } := ⟨rfl, rfl, h⟩

/-- Changes of the device before a move do not matter to it. -/
theorem Moves.of_dev {s t : State} {d : Dev} (h : Moves { s with dev := d } t) : Moves s t := h

theorem Moves.ite {s t u : State} {c : Prop} [Decidable c] (ht : Moves s t) (hu : Moves s u) : Moves s (if c then t else u) := by
  split <;> assumption

/-! ## Root, key transport key and trips -/

theorem State.takeRoot_moves (s : State) (r : List Byte) : Moves s (s.takeRoot r) := .bat (.rootTaken r) _

theorem State.zeroise_moves (s : State) {source : Nat} (h : source ≤ 10) : Moves s (s.zeroise source) := by
  have hmove (owed : Bool) (time : Nat) := BatMove.zeroised (b := s.bat) s.bat.vbat source time owed h
  simp only [State.zeroise]
  split
  · exact .bat (hmove _ _) s.dev
  · split <;> exact .bat (hmove _ _) _

/-- A battery that falls below 1.90 V without main supplies is measured and trips (R286). -/
theorem State.batteryTrip_moves (s : State) (v : Nat) : Moves s
    (let s1 : State := { s with bat := { s.bat with vbat := v } }
     if s1.dev.powered then s1.show_ else if v < 190 then s1.zeroise 8 else s1) := by
  have hmove (owed : Bool) (time : Nat) := BatMove.zeroised (b := s.bat) v 8 time owed (by decide)
  refine .ite (.bat (.measured v) _) (.ite ?_ (.bat (.measured v) s.dev))
  simp only [State.zeroise]
  split
  · exact .bat (hmove _ _) s.dev
  · split <;> exact .bat (hmove _ _) _

theorem State.cloneSend_moves (s : State) (n : List Byte) : Moves s (s.cloneSend n) := by
  unfold State.cloneSend
  split
  · exact .refl s
  · exact .dev s _

theorem State.rootCtl_moves (s : State) (v : Nat) : Moves s (s.rootCtl v) := by
  simp only [State.rootCtl]
  split_ifs
  · exact .refl s
  · exact .dev s _
  · exact s.zeroise_moves le_rfl
  · exact (State.takeRoot_moves _ _).of_dev
  · exact .dev s _
  · exact .dev s _
  · exact .dev s _
  · split
    · exact s.cloneSend_moves _
    · exact .dev s _
  · exact .dev s _

theorem State.cloneRx_moves (s : State) (b : PairBody) : Moves s (s.cloneRx b) := by
  unfold State.cloneRx
  dsimp only
  split
  · exact .refl s
  · split
    · exact s.cloneSend_moves _
    · exact .dev s _
    · split
      · exact (State.takeRoot_moves _ _).of_dev
      · exact .dev s _
    · exact .refl s

theorem State.ktkCtl_moves (s : State) (v : Nat) : Moves s (s.ktkCtl v) := by
  unfold State.ktkCtl
  dsimp only
  split
  · exact .refl s
  split
  · exact .dev s _
  · split
    · split
      · exact .bat (.ktkSet _) _
      · exact .dev s _
    · split
      · exact .bat (.ktkSet _) _
      · exact .dev s _
    · exact .bat (.ktkSet _) _

theorem execTamperLatchClear_moves (val : Word) (s : State) : ∃ t, execTamperLatchClear val s = .next t ∧ Moves s t := by
  unfold execTamperLatchClear
  split
  · next h => exact ⟨_, rfl, .bat (.latchCleared h.2.2) _⟩
  · exact ⟨s, rfl, .refl s⟩

/-! ## Accesses to BAR0 -/

theorem State.tamperCfg_moves {s : State} {off i : Nat} {r : RegDef} (hreg : findReg off = some (r, i)) (hr : r.off = 0x40070) (v : Nat) :
    Moves s (s.tamperCfg off v) := by
  obtain rfl := findReg_tamperCfg hreg hr
  refine .bat (.configured _ fun hcfg => ?_) _
  refine Dev.word_plainWrite_tamperCfg_legal ?_ v
  rwa [Dev.word_setWord, Nat.mod_eq_of_lt hcfg.2.2.2]

theorem State.regWrite_moves {s : State} {off i : Nat} {r : RegDef} (hreg : findReg off = some (r, i)) (v : Nat) :
    Moves s (s.regWrite r.off i off v) := by
  have hoff : ∀ base, base = r.off → Moves s (s.regWrite base i off v) := by
    intro base hbase
    unfold State.regWrite
    dsimp only
    split
    case h_7 =>
      obtain ⟨t, ht, hmoves⟩ := execTamperLatchClear_moves (BitVec.ofNat 32 v) s
      rw [ht]
      exact hmoves
    case h_8 => exact s.rootCtl_moves v
    case h_10 => exact s.ktkCtl_moves v
    case h_12 => exact State.tamperCfg_moves hreg hbase.symm v
    all_goals exact .dev s _
  exact hoff r.off rfl

theorem State.busWrite_moves (s : State) (off v : Nat) : Moves s (s.busWrite off v) := by
  unfold State.busWrite
  split
  · exact .refl s
  · split
    · exact .dev s _
    · split
      · next hreg => exact State.regWrite_moves hreg v
      · exact .refl s

/-- The effect of a read is one on the device. -/
theorem readEffect_inside {off : Nat} {f : State → Host.Outcome State Fault Refusal} (hf : readEffect off = some f) (s : State) :
    ∃ d, f s = .next { s with dev := d } := by
  unfold readEffect at hf
  split at hf
  case h_7 =>
    split at hf
    · cases hf
    · split at hf
      case h_6 => cases hf
      all_goals obtain rfl := Option.some.inj hf; exact ⟨_, rfl⟩
  case h_6 => cases hf
  all_goals obtain rfl := Option.some.inj hf; exact ⟨_, rfl⟩

theorem State.busRead_moves (s : State) (off : Nat) : ∃ d, (s.busRead off).2 = { s with dev := d } := by
  unfold State.busRead
  split
  · exact ⟨s.dev, rfl⟩
  split
  · exact ⟨s.dev, rfl⟩
  · split
    · next f hf =>
      obtain ⟨d, hd⟩ := readEffect_inside hf s
      simp only [hd, State.after]
      exact ⟨_, rfl⟩
    · exact ⟨s.dev, rfl⟩

theorem State.onDesc_moves (s : State) (p op : Nat) {f : State → Held → State} (hf : ∀ h, Moves s (f s h)) : Moves s (s.onDesc p op f) := by
  unfold State.onDesc
  split
  · exact .refl s
  · split
    · exact .refl s
    · split
      · exact .dev s _
      · exact hf _

theorem State.cfgSet_moves (s : State) (p : Nat) (h : Held) : Moves s (s.cfgSet p h) := by
  unfold State.cfgSet
  split
  · exact .dev s _
  · exact .dev s _
  · next off _ =>
    split_ifs
    · exact .dev s _
    · exact .dev s _
    all_goals
      obtain ⟨d, hd⟩ := (s.busWrite off (h.desc.word 4)).busRead_moves off
      obtain ⟨hdie, hqueue, hbat⟩ := s.busWrite_moves off (h.desc.word 4)
      simp only [hd, State.done]
      exact ⟨hdie, hqueue, hbat⟩

theorem State.cfgGet_moves (s : State) (p : Nat) (h : Held) : Moves s (s.cfgGet p h) := by
  unfold State.cfgGet
  split
  · exact .dev s _
  · exact .dev s _
  · next off _ =>
    obtain ⟨d, hd⟩ := s.busRead_moves off
    simp only [hd, State.done]
    exact .dev s _

theorem State.diagCounters_moves (s : State) (p : Nat) (h : Held) : Moves s (s.diagCounters p h) := by
  simp only [State.diagCounters]
  split <;> exact .dev s _

/-! ## The boot -/

theorem State.boot_moves (s : State) (e : BootEnv) : Moves s (s.boot e) := by
  simp only [State.boot]
  split_ifs
  · exact .refl s
  · exact .dev s _
  all_goals exact .bat .reported _

/-! ## Every command -/

/-- Every command but the end of a fusing and a power-up leaves die and queue, and moves the battery domain in one of these ways. -/
theorem exec_moves {c : Instr} {s t : State} (hfuse : ∀ port, c ≠ .govFuseDone port)
    (hpower : ∀ offS cold resetN perstN pwrFailN, c ≠ .powerUp offS cold resetN perstN pwrFailN) (h : exec c s = .next t) : Moves s t := by
  cases hin : beyondDev c
  case false =>
    obtain ⟨hrun, hfault⟩ := exec_inside hin s
    cases hwf : c.wf
    · obtain ⟨m, hm⟩ := hfault hwf
      rw [hm] at h
      cases h
    · obtain ⟨d, hd⟩ := hrun hwf
      rw [hd] at h
      obtain rfl := Host.Outcome.next.inj h
      exact .dev s d
  case true =>
    cases c
    case govFuseDone port => exact absurd rfl (hfuse port)
    case powerUp => exact absurd rfl (hpower _ _ _ _ _)
    case registerWrite off val =>
      obtain rfl := Host.Outcome.next.inj h
      exact .ite (s.busWrite_moves _ _) (.refl s)
    case cfgSet pair =>
      obtain rfl := Host.Outcome.next.inj h
      exact s.onDesc_moves _ _ fun _ => s.cfgSet_moves _ _
    case cfgGet pair =>
      obtain rfl := Host.Outcome.next.inj h
      exact s.onDesc_moves _ _ fun _ => s.cfgGet_moves _ _
    case diagCounters pair =>
      obtain rfl := Host.Outcome.next.inj h
      exact s.onDesc_moves _ _ fun _ => s.diagCounters_moves _ _
    case boot env =>
      by_cases hok : bootOk env <;> simp only [exec, execBoot, hok, if_true, if_false, reduceCtorEq] at h
      obtain rfl := Host.Outcome.next.inj h
      exact s.boot_moves env
    case rootGenerate | rootCloneSend | rootCloneRecv | rootZeroise =>
      obtain rfl := Host.Outcome.next.inj h
      exact s.rootCtl_moves _
    case ktkClearLoad | ktkWrappedLoad | ktkErase =>
      obtain rfl := Host.Outcome.next.inj h
      exact s.ktkCtl_moves _
    case cloneFrameRx =>
      obtain rfl := Host.Outcome.next.inj h
      exact s.cloneRx_moves _
    case tamperLatchClear val =>
      obtain ⟨u, hu, hmoves⟩ := execTamperLatchClear_moves val s
      obtain rfl := Host.Outcome.next.inj (hu.symm.trans h)
      exact hmoves
    case tamperInputTrip n =>
      obtain rfl := Host.Outcome.next.inj h
      exact .ite (s.zeroise_moves (by omega)) (.refl s)
    case tamperMeshTrip =>
      obtain rfl := Host.Outcome.next.inj h
      exact .ite (s.zeroise_moves (by decide)) (.refl s)
    case tamperTempTrip temp =>
      obtain rfl := Host.Outcome.next.inj h
      exact .ite (State.zeroise_moves _ (by decide)).of_dev (.dev s _)
    case tamperVoltageTrip =>
      obtain rfl := Host.Outcome.next.inj h
      exact .ite (s.zeroise_moves (by decide)) (.refl s)
    case tamperBatteryTrip vbat =>
      obtain rfl := Host.Outcome.next.inj h
      exact s.batteryTrip_moves vbat
    case tamperRootClockTrip khz =>
      obtain rfl := Host.Outcome.next.inj h
      exact .ite (Moves.of_dev (d := if s.dev.powered then s.dev.rootClock (!decide (khz < 22500 ∨ 27500 < khz)) else s.dev) (by split <;> exact State.zeroise_moves _ (by decide))) (by split <;> exact .dev s _)
    all_goals cases hin

end Sys2Proof.Machine
end

section

-- one proof after the other: the check gives the text few threads
set_option Elab.async false

namespace Sys2Proof.Machine

/-! ## The end of a fusing and a power-up -/

/-- The end of a fusing leaves the die, or adds to it an entry that it lacked, both caps at 1 or more (R202, R205). -/
theorem govFuseDone_leaves {port : Fin 2} {s t : State} (h : exec (.govFuseDone port) s = .next t) : t.bat = s.bat ∧ t.pending = s.pending
    ∧ (t.die = s.die ∨ s.die.gov.find port = none ∧ t.die.gov = s.die.gov.put port (s.dev.fuseValues port)) := by
  change execGovFuseDone port s = .next t at h
  unfold execGovFuseDone at h
  split at h
  · next hgo =>
    obtain rfl := Host.Outcome.next.inj h
    exact ⟨rfl, rfl, .inr ⟨by simpa using hgo.2, rfl⟩⟩
  · obtain rfl := Host.Outcome.next.inj h
    exact ⟨rfl, rfl, .inl rfl⟩

theorem Dev.one_le_fuseValues (d : Dev) (p : Nat) : 1 ≤ (d.fuseValues p).1 ∧ 1 ≤ (d.fuseValues p).2 :=
  ⟨le_max_left _ _, le_max_left _ _⟩

/-- A power-up leaves the battery domain, or finds it without anything (R664). -/
theorem powerUp_leaves {offS : Nat} {cold resetN perstN pwrFailN : Bool} {s t : State}
    (h : exec (.powerUp offS cold resetN perstN pwrFailN) s = .next t) :
    t.die = s.die ∧ t.pending = s.pending ∧ (t.bat = s.bat ∨ t.bat = { vbat := 0, cold := true }) := by
  obtain rfl := Host.Outcome.next.inj h
  unfold State.powerUp
  dsimp only
  split
  · exact ⟨rfl, rfl, .inl rfl⟩
  · cases cold
    · exact ⟨rfl, rfl, .inl rfl⟩
    · exact ⟨rfl, rfl, .inr rfl⟩

/-! ## The queue -/

theorem exec_pending {c : Instr} {s t : State} (h : exec c s = .next t) : t.pending = s.pending := by
  by_cases hfuse : ∃ port, c = .govFuseDone port
  · obtain ⟨port, rfl⟩ := hfuse
    exact (govFuseDone_leaves h).2.1
  by_cases hpower : ∃ offS cold resetN perstN pwrFailN, c = .powerUp offS cold resetN perstN pwrFailN
  · obtain ⟨_, _, _, _, _, rfl⟩ := hpower
    exact (powerUp_leaves h).2.1
  · exact (exec_moves (by simpa using hfuse) (by simpa using hpower) h).2.1

/-- Settles O3: every command leaves the queue, as it leaves what is outside the device. -/
theorem commandsLeaveTheQueue : Obligations.CommandsLeaveTheQueue := fun _ _ _ h => exec_pending h

/-- Settles O1: a step is defined by the front of the queue. -/
theorem stepTakesTheFront : Obligations.StepTakesTheFront := fun _ _ _ => rfl

/-- Settles O2: with nothing in front, a step passes one cycle, which moves time alone. -/
theorem idleStepIsOneCycle : Obligations.IdleStepIsOneCycle := by
  intro s hempty
  refine ⟨s.dev.passCycles 1, ?step, Dev.passCycles_keeps _ _, rfl, rfl, rfl, rfl⟩
  case step =>
    unfold step
    split
    · rfl
    · next hfront => cases hempty.symm.trans hfront

/-! ## Which commands run -/

theorem beyondDev_wf {c : Instr} (h : beyondDev c = true) (hboot : ∀ env, c ≠ .boot env) : c.wf = true := by
  cases c
  case boot env => exact absurd rfl (hboot env)
  case fetchGrant | unalignedAccess | demandBoundary | tftpRecoveryRead => cases h
  all_goals rfl

/-- A command that reaches beyond the device runs, but for a boot with a halt code that no source gives. -/
theorem exec_beyondDev {c : Instr} (h : beyondDev c = true) (hboot : ∀ env, c ≠ .boot env) (s : State) : ∃ t, exec c s = .next t := by
  cases c
  case boot env => exact absurd rfl (hboot env)
  case govFuseDone port =>
    change ∃ t, execGovFuseDone port s = .next t
    unfold execGovFuseDone
    split <;> exact ⟨_, rfl⟩
  case tamperLatchClear val =>
    obtain ⟨t, ht, -⟩ := execTamperLatchClear_moves val s
    exact ⟨t, ht⟩
  case registerWrite | cfgSet | cfgGet | diagCounters | powerUp | rootGenerate | rootCloneSend | rootCloneRecv | rootZeroise | cloneFrameRx
    | ktkClearLoad | ktkWrappedLoad | ktkErase | tamperInputTrip | tamperMeshTrip | tamperTempTrip | tamperVoltageTrip | tamperBatteryTrip
    | tamperRootClockTrip => exact ⟨_, rfl⟩
  all_goals cases h

/-- Settles O4: a command outside the device always runs but for BOOT, the others run on well-formed operands. -/
theorem formedCommandsRun : Obligations.FormedCommandsRun := by
  intro c s
  cases hin : beyondDev c
  case false =>
    obtain ⟨hrun, hfault⟩ := exec_inside hin s
    exact ⟨fun hwf => let ⟨d, hd⟩ := hrun hwf; ⟨s.withDev d, hd⟩, hfault⟩
  case true =>
    by_cases hboot : ∃ env, c = .boot env
    · obtain ⟨env, rfl⟩ := hboot
      by_cases hok : bootOk env <;> simp [Instr.wf, exec, execBoot, hok]
    · have hnotBoot : ∀ env, c ≠ .boot env := by simpa using hboot
      exact ⟨fun _ => exec_beyondDev hin hnotBoot s, fun hwf => by simp [beyondDev_wf hin hnotBoot] at hwf⟩

/-! ## The die -/

theorem exec_die {c : Instr} {s t : State} (hfuse : ∀ port, c ≠ .govFuseDone port) (h : exec c s = .next t) : t.die = s.die := by
  by_cases hpower : ∃ offS cold resetN perstN pwrFailN, c = .powerUp offS cold resetN perstN pwrFailN
  · obtain ⟨_, _, _, _, _, rfl⟩ := hpower
    exact (powerUp_leaves h).1
  · exact (exec_moves hfuse (by simpa using hpower) h).1

/-- A command leaves the die, or adds to it an entry that it lacked, both caps at 1 or more. -/
theorem exec_fuses {c : Instr} {s t : State} (h : exec c s = .next t) :
    t.die = s.die ∨ ∃ p w, s.die.gov.find p = none ∧ t.die.gov = s.die.gov.put p w ∧ 1 ≤ w.1 ∧ 1 ≤ w.2 := by
  by_cases hfuse : ∃ port, c = .govFuseDone port
  · obtain ⟨port, rfl⟩ := hfuse
    obtain ⟨-, -, hsame | ⟨hnone, hput⟩⟩ := govFuseDone_leaves h
    · exact .inl hsame
    · exact .inr ⟨port, _, hnone, hput, s.dev.one_le_fuseValues port⟩
  · exact .inl (exec_die (by simpa using hfuse) h)

/-- A step is a command on the state without it in the queue, or a cycle of the device. -/
theorem step_cases {s t : State} (h : step s = .next t) :
    (∃ c rest, exec c { s with pending := rest } = .next t) ∨ t = { s with dev := s.dev.passCycles 1 } := by
  unfold step at h
  split at h
  · exact .inr (Host.Outcome.next.inj h).symm
  · next c rest _ => exact .inl ⟨c, rest, h⟩

theorem step_fuses {s t : State} (h : step s = .next t) :
    t.die = s.die ∨ ∃ p w, s.die.gov.find p = none ∧ t.die.gov = s.die.gov.put p w ∧ 1 ≤ w.1 ∧ 1 ≤ w.2 := by
  obtain ⟨c, rest, hexec⟩ | rfl := step_cases h
  · exact exec_fuses (s := { s with pending := rest }) hexec
  · exact .inl rfl

/-- Settles O52: every command but GOV_FUSE_DONE leaves the die. -/
theorem onlyFusingWritesTheDie : Obligations.OnlyFusingWritesTheDie := fun _ _ _ hfuse h => exec_die hfuse h

/-- Settles O49: a step adds an entry only where the die has none. -/
theorem fusesAreWrittenOnce : Obligations.FusesAreWrittenOnce := by
  intro s t p w hstep hheld
  obtain hsame | ⟨q, x, hnone, hput, -⟩ := step_fuses hstep
  · rw [hsame]
    exact hheld
  · have hother : p ≠ q := by
      rintro rfl
      rw [hnone] at hheld
      cases hheld
    rw [hput, Tab.find_put_other _ _ _ _ hother]
    exact hheld

/-- Settles O50: the entry that a step adds is legal. -/
theorem fusesStayLegal : Obligations.FusesStayLegal := by
  intro s t hlegal hstep p w hheld
  obtain hsame | ⟨q, x, -, hput, hx⟩ := step_fuses hstep
  · rw [hsame] at hheld
    exact hlegal p w hheld
  · rw [hput] at hheld
    by_cases hpq : p = q
    · subst hpq
      rw [Tab.find_put_self] at hheld
      cases hheld
      exact hx
    · rw [Tab.find_put_other _ _ _ _ hpq] at hheld
      exact hlegal p w hheld

/-! ## The battery domain -/

theorem BatMove.legal {b c : Bat} (hmove : BatMove b c) (hcount : b.count ≤ 4095) (hsource : b.source ≤ 10) (hcfg : TamperCfgLegal b.cfg) :
    c.count ≤ 4095 ∧ c.source ≤ 10 ∧ TamperCfgLegal c.cfg := by
  cases hmove
  case zeroised hle => exact ⟨min_le_left _ _, hle, hcfg⟩
  case configured hw => exact ⟨hcount, hsource, hw hcfg⟩
  all_goals exact ⟨hcount, hsource, hcfg⟩

theorem tamperCfgLegal_reset : TamperCfgLegal 0x03000000 := by
  unfold TamperCfgLegal
  decide

/-- A domain that has lost all power holds legal words. -/
theorem batteryLegal_cold {s : State} (h : s.bat = { vbat := 0, cold := true }) : BatteryLegal s := by
  rw [batteryLegal_iff, h]
  exact ⟨by decide, by decide, tamperCfgLegal_reset⟩

theorem exec_batteryLegal {c : Instr} {s t : State} (hlegal : BatteryLegal s) (h : exec c s = .next t) : BatteryLegal t := by
  by_cases hfuse : ∃ port, c = .govFuseDone port
  · obtain ⟨port, rfl⟩ := hfuse
    rw [batteryLegal_iff, (govFuseDone_leaves h).1]
    exact hlegal
  by_cases hpower : ∃ offS cold resetN perstN pwrFailN, c = .powerUp offS cold resetN perstN pwrFailN
  · obtain ⟨_, _, _, _, _, rfl⟩ := hpower
    obtain ⟨-, -, hsame | hcold⟩ := powerUp_leaves h
    · rw [batteryLegal_iff, hsame]
      exact hlegal
    · exact batteryLegal_cold hcold
  · obtain ⟨-, -, hmove⟩ := exec_moves (by simpa using hfuse) (by simpa using hpower) h
    obtain ⟨hcount, hsource, hcfg⟩ := (batteryLegal_iff s).1 hlegal
    exact (batteryLegal_iff t).2 (hmove.legal hcount hsource hcfg)

/-- Settles O51: no way in which the battery domain moves leaves the legal ranges. -/
theorem batteryStaysLegal : Obligations.BatteryStaysLegal := by
  intro s t hlegal hstep
  obtain ⟨c, rest, hexec⟩ | rfl := step_cases hstep
  · exact exec_batteryLegal (s := { s with pending := rest }) hlegal hexec
  · exact hlegal

theorem BatMove.latch {b c : Bat} (hmove : BatMove b c) (hlatch : b.latch = true) (hroot : b.root = none) : c.latch = true := by
  cases hmove
  case zeroised => rfl
  case latchCleared hheld => simp [hroot] at hheld
  all_goals exact hlatch

/-- Settles O53: the one move that clears the latch asks for a root. -/
theorem tamperLatchHolds : Obligations.TamperLatchHolds := by
  intro c s t hlatch hroot hpower h
  by_cases hfuse : ∃ port, c = .govFuseDone port
  · obtain ⟨port, rfl⟩ := hfuse
    rw [(govFuseDone_leaves h).1]
    exact hlatch
  · exact (exec_moves (by simpa using hfuse) hpower h).2.2.latch hlatch hroot

/-! ## Reset -/

/-- Settles O48: each part of the reset state is a literal; an empty register table reads the reset words. -/
theorem resetState : Obligations.ResetState := by
  refine ⟨rfl, fun _ => rfl, fun _ => rfl, rfl, rfl, rfl, rfl, rfl, rfl, rfl, rfl, ?fuses, ?battery⟩
  case fuses => exact fun p w h => nomatch h
  case battery =>
    exact ⟨by decide, by decide, tamperCfgLegal_reset⟩

end Sys2Proof.Machine
end

section

-- one proof after the other: the check gives the text few threads
set_option Elab.async false

namespace Sys2Proof.Machine

/-! ## Completions in order (R81) -/

/-- An earlier unfinished descriptor names the MIX that this one names. -/
def Held.blockedBy (busy : List Nat) (h : Held) : Bool := match descMix h.desc with | some k => busy.contains k | none => false

/-- The MIXes that unfinished descriptors name, with this one among them. -/
def Held.busyWith (busy : List Nat) (h : Held) : List Nat := match descMix h.desc with | some k => k :: busy | none => busy

theorem settleHeld_cons (busy : List Nat) (h : Held) (t : List Held) :
    (settleHeld busy (h :: t)).1
      = if h.result.isSome && !h.blockedBy busy then (settleHeld busy t).1 else h :: (settleHeld (h.busyWith busy) t).1 := by
  rw [settleHeld]
  dsimp only
  change (if h.result.isSome && !h.blockedBy busy then _ else _ : List Held × List Held).1 = _
  split <;> rfl

theorem Held.blockedBy_of_mem {busy : List Nat} {h : Held} {k : Nat} (hmix : descMix h.desc = some k) (hk : k ∈ busy) : h.blockedBy busy = true := by
  simp [Held.blockedBy, hmix, hk]

theorem Held.mem_busyWith_of_mem {busy : List Nat} {k : Nat} (hk : k ∈ busy) (h : Held) : k ∈ h.busyWith busy := by
  unfold Held.busyWith
  split
  · exact List.mem_cons_of_mem _ hk
  · exact hk

theorem Held.mem_busyWith_self {h : Held} {k : Nat} (hmix : descMix h.desc = some k) (busy : List Nat) : k ∈ h.busyWith busy := by
  simp [Held.busyWith, hmix]

/-- A descriptor without a result is still held. -/
theorem unfinished_mem_settleHeld {l : List Held} {x : Held} (hx : x ∈ l) (hres : x.result = none) (busy : List Nat) :
    x ∈ (settleHeld busy l).1 := by
  induction l generalizing busy with
  | nil => cases hx
  | cons h t ih =>
    rw [settleHeld_cons]
    obtain rfl | hx := List.mem_cons.1 hx
    · simp [hres]
    · split
      · exact ih hx _
      · exact List.mem_cons_of_mem _ (ih hx _)

/-- A descriptor that names a busy MIX is still held. -/
theorem blocked_mem_settleHeld {l : List Held} {h : Held} {k : Nat} (hh : h ∈ l) (hmix : descMix h.desc = some k) {busy : List Nat} (hk : k ∈ busy) :
    h ∈ (settleHeld busy l).1 := by
  induction l generalizing busy with
  | nil => cases hh
  | cons g t ih =>
    rw [settleHeld_cons]
    obtain rfl | hh := List.mem_cons.1 hh
    · simp [Held.blockedBy_of_mem hmix hk]
    · split
      · exact ih hh hk
      · exact List.mem_cons_of_mem _ (ih hh (g.mem_busyWith_of_mem hk))

/-- Behind a descriptor without a result, every descriptor that names its MIX is still held. -/
theorem later_mem_settleHeld {a b : List Held} {x h : Held} {k : Nat} (hres : x.result = none) (hmix : descMix x.desc = some k) (hh : h ∈ b)
    (hsame : descMix h.desc = some k) (busy : List Nat) : h ∈ (settleHeld busy (a ++ x :: b)).1 := by
  induction a generalizing busy with
  | nil =>
    rw [List.nil_append, settleHeld_cons, hres]
    exact List.mem_cons_of_mem _ (blocked_mem_settleHeld hh hsame (x.mem_busyWith_self hmix busy))
  | cons g t ih =>
    rw [List.cons_append, settleHeld_cons]
    split
    · exact ih _
    · exact List.mem_cons_of_mem _ (ih _)

@[simp] theorem Dev.held_watchFull (d : Dev) (p : Nat) : ((d.watchFull p).pair p).held = (d.pair p).held := by
  obtain ⟨f, hf⟩ := d.watchFull_eq p
  simp [hf]

@[simp] theorem Dev.pair_bump (d : Dev) (f : F) (i n p : Nat) : (d.bump f i n).pair p = d.pair p := by
  simp only [Dev.pair, Dev.bump, Dev.wr_rng]

theorem Dev.held_settle (d : Dev) (p : Nat) : ((d.settle p).pair p).held = (settleHeld [] (d.pair p).held).1 := by
  simp only [Dev.settle, Dev.held_watchFull, Dev.pair_bump, Dev.pair_setPair]

/-- Settles O58: settling holds back what has no result and what an unfinished descriptor blocks. -/
theorem oneMeterCompletesInOrder : Obligations.OneMeterCompletesInOrder := by
  intro d p k a b x hheld hres hmix
  rw [Dev.held_settle, hheld]
  exact ⟨unfinished_mem_settleHeld (by simp) hres _, fun h hh hsame => later_mem_settleHeld hres hmix hh hsame _⟩

end Sys2Proof.Machine
end

section

-- one proof after the other: the check gives the text few threads
set_option Elab.async false

namespace Sys2Proof.Machine

/-! ## Scrambler and code (R182) -/

/-- The register of the scrambler runs by itself, so the same state takes the scrambling off again. -/
theorem scrambleFrom_scrambleFrom (st l : List Bool) : scrambleFrom st (scrambleFrom st l) = l := by
  induction l generalizing st with
  | nil => rfl
  | cons b t ih =>
    simp only [scrambleFrom, List.cons.injEq]
    exact ⟨by cases b <;> cases (st.getD 6 false != st.getD 3 false) <;> rfl, ih _⟩

@[simp] theorem length_scrambleFrom (st l : List Bool) : (scrambleFrom st l).length = l.length := by
  induction l generalizing st with
  | nil => rfl
  | cons b t ih => simp [scrambleFrom, ih]

@[simp] theorem length_convFrom (st l : List Bool) : (convFrom st l).length = 2 * l.length := by
  induction l generalizing st with
  | nil => rfl
  | cons b t ih => simp only [convFrom, List.length_cons, ih]; omega

theorem length_convCode (l : List Bool) : (convCode l).length = 2 * (l.length + 6) := by
  simp [convCode]

/-! ## The CRC of frame control (R180) -/

/-- One bit of the CRC: the register, before and after. -/
def crcStep (w c i : Nat) : Nat := if bitAt w i != bitAt c 7 then (2 * c % 256) ^^^ 7 else 2 * c % 256

theorem fcCrc_eq_foldl (w : Nat) : fcCrc w = (List.range 16).reverse.foldl (crcStep w) 0 := rfl

theorem bitAt_eq_testBit (w i : Nat) : bitAt w i = w.testBit i := by
  simp only [bitAt, Nat.testBit, Nat.one_and_eq_mod_two]
  rcases Nat.mod_two_eq_zero_or_one (w >>> i) with h | h <;> simp [h]

theorem bitAt_xor (a b i : Nat) : bitAt (a ^^^ b) i = (bitAt a i != bitAt b i) := by
  simp [bitAt_eq_testBit, Nat.testBit_xor]

theorem double_xor (a b : Nat) : 2 * (a ^^^ b) % 256 = (2 * a % 256) ^^^ (2 * b % 256) := by
  have hshift : (a ^^^ b) * 2 ^ 1 = (a * 2 ^ 1) ^^^ (b * 2 ^ 1) := by
    simpa only [Nat.shiftLeft_eq] using Nat.shiftLeft_xor_distrib (a := a) (b := b) (i := 1)
  rw [show (256 : Nat) = 2 ^ 8 from rfl, ← Nat.xor_mod_two_pow, Nat.mul_comm, Nat.mul_comm 2 a, Nat.mul_comm 2 b]
  exact congrArg (· % 2 ^ 8) hshift

/-- A step of the CRC is linear in word and register. -/
theorem crcStep_xor (v w c e i : Nat) : crcStep (v ^^^ w) (c ^^^ e) i = crcStep v c i ^^^ crcStep w e i := by
  simp only [crcStep, bitAt_xor, double_xor]
  cases bitAt v i <;> cases bitAt w i <;> cases bitAt c 7 <;> cases bitAt e 7 <;>
    simp [Nat.xor_assoc, Nat.xor_comm _ 7, Nat.xor_left_comm _ 7]

theorem foldl_crcStep_xor (l : List Nat) (v w c e : Nat) :
    l.foldl (crcStep (v ^^^ w)) (c ^^^ e) = l.foldl (crcStep v) c ^^^ l.foldl (crcStep w) e := by
  induction l generalizing c e with
  | nil => rfl
  | cons i t ih => rw [List.foldl_cons, crcStep_xor, ih, List.foldl_cons, List.foldl_cons]

theorem fcCrc_xor (v w : Nat) : fcCrc (v ^^^ w) = fcCrc v ^^^ fcCrc w := by
  exact foldl_crcStep_xor (List.range 16).reverse v w 0 0

theorem crcStep_lt (w c i : Nat) : crcStep w c i < 256 := by
  have hdouble : 2 * c % 256 < 2 ^ 8 := Nat.mod_lt _ (by decide)
  unfold crcStep
  split
  · exact Nat.xor_lt_two_pow hdouble (by decide)
  · exact hdouble

theorem fcCrc_lt (w : Nat) : fcCrc w < 256 := by
  rw [fcCrc_eq_foldl]
  exact List.foldlRecOn (motive := (· < 256)) _ _ (by decide) fun c _ i _ => crcStep_lt w c i

/-! ## Frame control (R180) -/

/-- A single bit has a CRC that is not 0. -/
theorem fcCrc_two_pow_ne_zero : ∀ i < 16, fcCrc (2 ^ i) ≠ 0 := by decide +kernel

theorem fcWord_eq {tmi rate nsym : Nat} (ht : tmi < 16) (hr : rate < 4) (hn : nsym < 1024) :
    fcWord tmi rate nsym = tmi + 16 * rate + 64 * nsym + 65536 * fcCrc (tmi + 16 * rate + 64 * nsym) := by
  rw [fcWord, Nat.mod_eq_of_lt ht, Nat.mod_eq_of_lt hr, Nat.mod_eq_of_lt hn]

/-- A frame-control word passes its check with the fields that made it. -/
theorem fcWord_spec {tmi rate nsym : Nat} (ht : tmi < 16) (hr : rate < 4) (hn : nsym < 1024) :
    fcGood (fcWord tmi rate nsym) = true ∧ bitsOf (fcWord tmi rate nsym) 0 4 = tmi ∧ bitsOf (fcWord tmi rate nsym) 4 2 = rate
      ∧ fcSyms (fcWord tmi rate nsym) = nsym ∧ fcWord tmi rate nsym < 2 ^ 24 := by
  rw [fcWord_eq ht hr hn]
  have hcrc := fcCrc_lt (tmi + 16 * rate + 64 * nsym)
  have hlow : (tmi + 16 * rate + 64 * nsym + 65536 * fcCrc (tmi + 16 * rate + 64 * nsym)) % 65536 = tmi + 16 * rate + 64 * nsym := by omega
  simp only [fcGood, fcSyms, bitsOf, Nat.shiftRight_eq_div_pow, hlow, decide_eq_true_eq]
  omega

theorem fcGood_iff {w : Nat} (hw : w < 2 ^ 24) : fcGood w = true ↔ w / 2 ^ 16 = fcCrc (w % 2 ^ 16) := by
  have hbyte : bitsOf w 16 8 = w / 2 ^ 16 := by
    simp only [bitsOf, Nat.shiftRight_eq_div_pow]
    omega
  simp [fcGood, hbyte]

/-- A frame-control word with one bit flipped fails its check: in the fields the CRC changes and its byte does not, in the byte the CRC stays. -/
theorem fcGood_flip {w i : Nat} (hw : w < 2 ^ 24) (hi : i < 24) (hgood : fcGood w = true) : fcGood (w ^^^ 2 ^ i) = false := by
  have hflip : w ^^^ 2 ^ i < 2 ^ 24 := Nat.xor_lt_two_pow hw (Nat.pow_lt_pow_right (by decide) hi)
  rw [fcGood_iff hw] at hgood
  rw [← Bool.not_eq_true, fcGood_iff hflip, Nat.xor_div_two_pow, Nat.xor_mod_two_pow, fcCrc_xor, hgood, Nat.xor_right_inj]
  by_cases hlow : i < 16
  · have hpow : 2 ^ i < 2 ^ 16 := Nat.pow_lt_pow_right (by decide) hlow
    rw [Nat.div_eq_of_lt hpow, Nat.mod_eq_of_lt hpow]
    exact (fcCrc_two_pow_ne_zero i hlow).symm
  · obtain ⟨k, rfl⟩ := Nat.exists_eq_add_of_le (Nat.le_of_not_lt hlow)
    rw [pow_add, Nat.mul_mod_right, Nat.mul_div_cancel_left _ (by decide)]
    rw [show fcCrc 0 = 0 by decide +kernel]
    exact (Nat.two_pow_pos k).ne'

/-! ## Symbols of a frame (R178, R179) -/

theorem length_symWave (mask : Nat) (pts : List Pt) : (symWave mask pts).length = 144 * 4 := by
  simp [symWave, symBody, symPrefix]

theorem length_frameSyms (mask tmi rate : Nat) (map : List Nat) (nsym hdr pad : Nat) (bytes : List Byte) :
    (frameSyms mask tmi rate map nsym hdr pad bytes).length = 8 + nsym := by
  simp only [frameSyms, fcSym, dataSyms, List.length_append, List.length_map, List.length_range, List.length_cons, List.length_nil]

theorem length_frameWave (mask : Nat) (syms : List (List Pt)) : (frameWave mask syms).length = syms.length * 144 * 4 := by
  rw [frameWave, List.length_flatMap, List.map_congr_left (fun pts _ => length_symWave mask pts)]
  simp [Nat.mul_assoc]

/-! ## ROBUST frames fill their symbols (R183) -/

theorem length_bitsList (n w : Nat) : (bitsList n w).length = n := by simp [bitsList]

theorem length_infoBits (hdr pad : Nat) (bytes : List Byte) : (infoBits hdr pad bytes).length = 58 + 8 * bytes.length + pad := by
  simp only [infoBits, List.length_append, List.length_flatMap, length_bitsList, List.length_replicate, List.map_const', List.sum_replicate,
    smul_eq_mul]
  omega

theorem length_codedBits_robust (rate : Nat) (info : List Bool) : (codedBits 0 rate info).length = 8 * (info.length + 6) := by
  simp only [codedBits, if_true, List.length_flatMap, List.length_replicate, List.map_const', List.sum_replicate, smul_eq_mul, length_convCode,
    scramble, length_scrambleFrom]
  omega

/-- The carriers of a mask are its bits. -/
theorem length_filter_bitAt (n w : Nat) : ((List.range n).filter (bitAt w)).length = popBits n w := by
  induction n generalizing w with
  | zero => rfl
  | succ n ih =>
    have htail : (bitAt w ∘ Nat.succ) = bitAt (w / 2) := by
      funext i
      simp [bitAt_eq_testBit, Nat.testBit_succ]
    rw [List.range_succ_eq_map, List.filter_cons, List.filter_map, htail, popBits, ← ih (w / 2)]
    rcases Nat.mod_two_eq_zero_or_one w with h | h <;> simp [bitAt, h, Nat.add_comm]

theorem sumNat_eq_sum (l : List Nat) : sumNat l = l.sum := by
  rw [sumNat, List.sum_eq_foldl]

theorem sumNat_loadsOn_robust (mask : Nat) (map : List Nat) : sumNat (loadsOn mask 0 map) = popBits 58 mask := by
  simp [sumNat_eq_sum, loadsOn, carriersOf, length_filter_bitAt]

theorem le_scSymbols_mul {bytes bps : Nat} (hbps : 0 < bps) : 8 * bytes + 64 ≤ scSymbols bytes bps * bps := by
  have h := Nat.div_add_mod (8 * bytes + 64 + bps - 1) bps
  have hmod := Nat.mod_lt (8 * bytes + 64 + bps - 1) hbps
  have hcomm : scSymbols bytes bps * bps = bps * ((8 * bytes + 64 + bps - 1) / bps) := Nat.mul_comm _ _
  omega

/-- Settles O59, part by part. -/
theorem scullerPhysicalLayer : Obligations.ScullerPhysicalLayer := by
  refine ⟨fun l => scrambleFrom_scrambleFrom _ l, length_convCode, fun _ _ _ => fcWord_spec, fun _ _ => fcGood_flip, ?samples, ?robust⟩
  case samples =>
    intro mask tmi rate map nsym hdr pad bytes
    rw [length_frameWave, length_frameSyms]
  case robust =>
    rintro mask hdr bytes bps n rfl rfl hbps
    have hfits := le_scSymbols_mul (bytes := bytes.length) hbps
    rw [length_codedBits_robust, length_infoBits, sumNat_loadsOn_robust]
    refine ⟨by omega, ?_⟩
    calc 8 * (scSymbols bytes.length (popBits 58 mask / 8) * (popBits 58 mask / 8))
        = scSymbols bytes.length (popBits 58 mask / 8) * (8 * (popBits 58 mask / 8)) := by ring
      _ ≤ scSymbols bytes.length (popBits 58 mask / 8) * popBits 58 mask := Nat.mul_le_mul_left _ (Nat.mul_div_le _ _)

end Sys2Proof.Machine
end

section

-- one proof after the other: the check gives the text few threads
set_option Elab.async false

namespace Sys2Proof.Machine

/-! ## The normaliser (R364) -/

/-- The shift is that of the least power of two that a cube does not exceed. -/
theorem least_pow_spec {C : Nat} (hC : 2 ≤ C) : C ≤ 2 ^ (Nat.log2 (C - 1) + 1) ∧ 2 ^ (Nat.log2 (C - 1) + 1) < 2 * C := by
  have hlow := Nat.log2_self_le (show C - 1 ≠ 0 by omega)
  have hhigh := Nat.lt_log2_self (n := C - 1)
  have hsucc : 2 ^ (Nat.log2 (C - 1) + 1) = 2 ^ Nat.log2 (C - 1) * 2 := Nat.pow_succ ..
  omega

theorem normShift_spec {dc : Nat} (hdc : 2 ≤ dc) : dc ^ 3 ≤ 2 ^ normShift dc ∧ 2 ^ normShift dc < 2 * dc ^ 3 :=
  least_pow_spec (hdc.trans (Nat.le_self_pow (by decide) dc))

/-- A mantissa to the nearest, held under 24 bits: with X = 2^L and the cube C between X / 2 and X. -/
theorem mantissa_spec {C X : Nat} (hC : 0 < C) (hlow : C ≤ X) (hhigh : X < 2 * C) :
    2 ^ 23 ≤ min (2 ^ 24 - 1) ((2 ^ 24 * X + C) / (2 * C)) ∧ min (2 ^ 24 - 1) ((2 ^ 24 * X + C) / (2 * C)) < 2 ^ 24
      ∧ min (2 ^ 24 - 1) ((2 ^ 24 * X + C) / (2 * C)) * C * 10000000 ≤ 2 ^ 23 * X * 10000001
      ∧ 2 ^ 23 * X * 9999999 ≤ min (2 ^ 24 - 1) ((2 ^ 24 * X + C) / (2 * C)) * C * 10000000 := by
  have hdiv := Nat.div_add_mod (2 ^ 24 * X + C) (2 * C)
  have hmod := Nat.mod_lt (2 ^ 24 * X + C) (show 0 < 2 * C by omega)
  generalize (2 ^ 24 * X + C) / (2 * C) = q at hdiv ⊢
  generalize (2 ^ 24 * X + C) % (2 * C) = r at hdiv hmod
  have hprod : 2 * C * q = 2 * (q * C) := by ring
  have hge : 2 ^ 23 ≤ q := by
    by_contra hlt
    have : q * C ≤ (2 ^ 23 - 1) * C := Nat.mul_le_mul_right C (by omega)
    omega
  rcases Nat.lt_or_ge q (2 ^ 24) with hq | hq
  · rw [min_eq_right (by omega)]
    refine ⟨hge, hq, ?_, ?_⟩ <;> omega
  · have : 2 ^ 24 * C ≤ q * C := Nat.mul_le_mul_right C hq
    rw [min_eq_left (by omega)]
    refine ⟨by decide, by decide, ?_, ?_⟩ <;> omega

/-- Settles O60: the cube lies within a factor of two under the power, so a mantissa to the nearest is off by half of 2^-23 at most. -/
theorem normaliserGainIsOne : Obligations.NormaliserGainIsOne := by
  intro dc hdc _
  obtain ⟨hlow, hhigh⟩ := normShift_spec hdc
  have h := mantissa_spec (Nat.pow_pos (by omega)) hlow hhigh
  rw [← pow_add, ← pow_add] at h
  exact h

end Sys2Proof.Machine
end

section

-- hundreds of short proofs by kernel evaluation follow: one after the other they need no more threads than the check allows
set_option Elab.async false

namespace Sys2Proof.Machine

/-! ## How the device evolves: the parts that change, and a recorder that only grows -/

/-- Records join the recorder in front of those it held, up to its size (R574, R576). -/
structure RecsGrow (d e : Dev) : Prop where
  suffix : ∃ l, e.evr.recs = l ++ d.evr.recs
  bound : d.evr.recs.length ≤ 65536 → e.evr.recs.length ≤ 65536

/-- From the first device to the second at most the listed parts change, and the recorder only grows. -/
structure Evolves (ps : List Part) (d e : Dev) : Prop where
  keeps : Keeps ps d e
  grows : RecsGrow d e

theorem RecsGrow.of_eq {d e : Dev} (h : e.evr.recs = d.evr.recs) : RecsGrow d e := ⟨⟨[], h⟩, fun hd => h ▸ hd⟩

theorem RecsGrow.trans {d e f : Dev} (h1 : RecsGrow d e) (h2 : RecsGrow e f) : RecsGrow d f := by
  obtain ⟨⟨l1, hl1⟩, hb1⟩ := h1
  obtain ⟨⟨l2, hl2⟩, hb2⟩ := h2
  exact ⟨⟨l2 ++ l1, by rw [hl2, hl1, List.append_assoc]⟩, fun hd => hb2 (hb1 hd)⟩

/-- A change that leaves the recorder as it is. -/
theorem Keeps.evolves {ps : List Part} {d e : Dev} (h : Keeps ps d e) (hevr : Part.evr ∉ ps := by decide) : Evolves ps d e :=
  ⟨h, .of_eq (congrArg Evr.recs (h .evr hevr))⟩

theorem Evolves.refl {ps : List Part} {d : Dev} : Evolves ps d d := ⟨Keeps.refl ps d, .of_eq rfl⟩

theorem Evolves.mono {ps qs : List Part} {d e : Dev} (h : Evolves ps d e) (hs : ps ⊆ qs := by decide) : Evolves qs d e :=
  ⟨h.keeps.mono hs, h.grows⟩

theorem Evolves.trans {ps : List Part} {d e f : Dev} (h1 : Evolves ps d e) (h2 : Evolves ps e f) : Evolves ps d f :=
  ⟨h1.keeps.trans h2.keeps, h1.grows.trans h2.grows⟩

/-- A change within some parts, after a change within more. -/
theorem Evolves.after {ps qs : List Part} {d e f : Dev} (h2 : Evolves ps e f) (h1 : Evolves qs d e) (hs : ps ⊆ qs := by decide) : Evolves qs d f :=
  h1.trans (h2.mono hs)

theorem Evolves.ite {ps : List Part} {d e f : Dev} {c : Prop} [Decidable c] (h1 : Evolves ps d e) (h2 : Evolves ps d f) :
    Evolves ps d (if c then e else f) := by split <;> assumption

/-- A device that comes with something else. -/
theorem Evolves.of_snd {α : Type} {ps : List Part} {d e : Dev} {x : α × Dev} {a : α} (h : Evolves ps d x.2) (hx : x = (a, e)) : Evolves ps d e := by
  subst hx
  exact h

/-- What each element of a list does, the list does. -/
theorem Evolves.foldl {α : Type} {ps : List Part} {d e : Dev} {f : Dev → α → Dev} {l : List α} (hf : ∀ x a, Evolves ps x (f x a))
    (h : Evolves ps d e) : Evolves ps d (l.foldl f e) := by
  induction l generalizing e with
  | nil => exact h
  | cons a t ih => exact ih (h.trans (hf e a))

/-- What each element does to the device that a list is folded with, the list does. -/
theorem Evolves.foldl_via {α σ : Type} {ps : List Part} {d : Dev} (dev : σ → Dev) {f : σ → α → σ} {l : List α} {s : σ}
    (hf : ∀ x a, Evolves ps (dev x) (dev (f x a))) (h : Evolves ps d (dev s)) : Evolves ps d (dev (l.foldl f s)) := by
  induction l generalizing s with
  | nil => exact h
  | cons a t ih => exact ih (h.trans (hf s a))

/-- What each element of a list does, the list does, from its last element on. -/
theorem Evolves.foldr {α : Type} {ps : List Part} {d e : Dev} {f : α → Dev → Dev} {l : List α} (hf : ∀ x a, Evolves ps x (f a x))
    (h : Evolves ps d e) : Evolves ps d (l.foldr f e) := by
  induction l with
  | nil => exact h
  | cons a t ih => exact ih.trans (hf _ a)

/-- A device that differs in the listed parts alone. -/
def Dev.overlay (ps : List Part) (d e : Dev) : Dev where
  grade := if .grade ∈ ps then e.grade else d.grade
  regs := if .regs ∈ ps then e.regs else d.regs
  store := if .store ∈ ps then e.store else d.store
  dirty := if .dirty ∈ ps then e.dirty else d.dirty
  fn := if .fn ∈ ps then e.fn else d.fn
  glb := if .glb ∈ ps then e.glb else d.glb
  tim := if .tim ∈ ps then e.tim else d.tim
  rng := if .rng ∈ ps then e.rng else d.rng
  lne := if .lne ∈ ps then e.lne else d.lne
  evr := if .evr ∈ ps then e.evr else d.evr
  flt := if .flt ∈ ps then e.flt else d.flt
  ctx := if .ctx ∈ ps then e.ctx else d.ctx
  tar := if .tar ∈ ps then e.tar else d.tar
  par := if .par ∈ ps then e.par else d.par
  ftl := if .ftl ∈ ps then e.ftl else d.ftl
  nand := if .nand ∈ ps then e.nand else d.nand
  sec := if .sec ∈ ps then e.sec else d.sec
  sch := if .sch ∈ ps then e.sch else d.sch
  img := if .img ∈ ps then e.img else d.img
  lcp := if .lcp ∈ ps then e.lcp else d.lcp
  rad := if .rad ∈ ps then e.rad else d.rad
  cals := if .cals ∈ ps then e.cals else d.cals
  ldg := if .ldg ∈ ps then e.ldg else d.ldg
  met := if .met ∈ ps then e.met else d.met
  eth := if .eth ∈ ps then e.eth else d.eth
  fl := if .fl ∈ ps then e.fl else d.fl
  upd := if .upd ∈ ps then e.upd else d.upd
  freeCtr := if .freeCtr ∈ ps then e.freeCtr else d.freeCtr
  out := if .out ∈ ps then e.out else d.out

theorem Dev.overlay_keeps (ps : List Part) (d e : Dev) : Keeps ps d (d.overlay ps e) := by
  intro p hp
  cases p <;> exact if_neg hp

/-- Several parts set anew, the recorder as it was. -/
theorem Evolves.over (ps : List Part) {qs : List Part} {d e f : Dev} (h : Evolves qs d e) (hover : f = e.overlay ps f := by rfl)
    (hrecs : f.evr.recs = e.evr.recs := by rfl) (hs : ps ⊆ qs := by decide) : Evolves qs d f :=
  h.trans ⟨hover ▸ (Dev.overlay_keeps ps e f).mono hs, .of_eq hrecs⟩

/-! ## A part set anew -/

theorem Evolves.regs {d : Dev} {x : Tab Word} : Evolves [.regs] d { d with regs := x } := (Keeps.regs d x).evolves

theorem Evolves.store {d : Dev} {x : Tab Word} : Evolves [.store] d { d with store := x } := (Keeps.store d x).evolves

theorem Evolves.dirty {d : Dev} {x : List Nat} : Evolves [.dirty] d { d with dirty := x } := (Keeps.dirty d x).evolves

theorem Evolves.fn {d : Dev} {x : Tab Fn} : Evolves [.fn] d { d with fn := x } := (Keeps.fn d x).evolves

theorem Evolves.glb {d : Dev} {x : Glb} : Evolves [.glb] d { d with glb := x } := (Keeps.glb d x).evolves

theorem Evolves.tim {d : Dev} {x : Tim} : Evolves [.tim] d { d with tim := x } := (Keeps.tim d x).evolves

theorem Evolves.rng {d : Dev} {x : Rng} : Evolves [.rng] d { d with rng := x } := (Keeps.rng d x).evolves

theorem Evolves.lne {d : Dev} {x : Lne} : Evolves [.lne] d { d with lne := x } := (Keeps.lne d x).evolves

theorem Evolves.flt {d : Dev} {x : Flt} : Evolves [.flt] d { d with flt := x } := (Keeps.flt d x).evolves

theorem Evolves.ctx {d : Dev} {x : CtxEng} : Evolves [.ctx] d { d with ctx := x } := (Keeps.ctx d x).evolves

theorem Evolves.tar {d : Dev} {x : Tar} : Evolves [.tar] d { d with tar := x } := (Keeps.tar d x).evolves

theorem Evolves.par {d : Dev} {x : Par} : Evolves [.par] d { d with par := x } := (Keeps.par d x).evolves

theorem Evolves.ftl {d : Dev} {x : Ftl} : Evolves [.ftl] d { d with ftl := x } := (Keeps.ftl d x).evolves

theorem Evolves.nand {d : Dev} {x : Nand} : Evolves [.nand] d { d with nand := x } := (Keeps.nand d x).evolves

theorem Evolves.sec {d : Dev} {x : Sec} : Evolves [.sec] d { d with sec := x } := (Keeps.sec d x).evolves

theorem Evolves.sch {d : Dev} {x : Sch} : Evolves [.sch] d { d with sch := x } := (Keeps.sch d x).evolves

theorem Evolves.img {d : Dev} {x : Img} : Evolves [.img] d { d with img := x } := (Keeps.img d x).evolves

theorem Evolves.lcp {d : Dev} {x : Tab Lcp} : Evolves [.lcp] d { d with lcp := x } := (Keeps.lcp d x).evolves

theorem Evolves.rad {d : Dev} {x : Tab Rad} : Evolves [.rad] d { d with rad := x } := (Keeps.rad d x).evolves

theorem Evolves.cals {d : Dev} {x : Tab Cal} : Evolves [.cals] d { d with cals := x } := (Keeps.cals d x).evolves

theorem Evolves.ldg {d : Dev} {x : Ldg} : Evolves [.ldg] d { d with ldg := x } := (Keeps.ldg d x).evolves

theorem Evolves.met {d : Dev} {x : Met} : Evolves [.met] d { d with met := x } := (Keeps.met d x).evolves

theorem Evolves.eth {d : Dev} {x : Tab Eth} : Evolves [.eth] d { d with eth := x } := (Keeps.eth d x).evolves

theorem Evolves.fl {d : Dev} {x : Fl} : Evolves [.fl] d { d with fl := x } := (Keeps.fl d x).evolves

theorem Evolves.upd {d : Dev} {x : Upd} : Evolves [.upd] d { d with upd := x } := (Keeps.upd d x).evolves

theorem Evolves.freeCtr {d : Dev} {x : Nat} : Evolves [.freeCtr] d { d with freeCtr := x } := (Keeps.freeCtr d x).evolves

theorem Evolves.out {d : Dev} {x : List Out} : Evolves [.out] d { d with out := x } := (Keeps.out d x).evolves

/-- The recorder's own state set anew, its records as they were. -/
theorem Evolves.evr {d : Dev} {x : Evr} (h : x.recs = d.evr.recs := by rfl) : Evolves [.evr] d { d with evr := x } := ⟨Keeps.evr d x, .of_eq h⟩

/-- Every part of the device. -/
def everyPart : List Part := [.grade, .regs, .store, .dirty, .fn, .glb, .tim, .rng, .lne, .evr, .flt, .ctx, .tar, .par, .ftl, .nand, .sec, .sch, .img,
  .lcp, .rad, .cals, .ldg, .met, .eth, .fl, .upd, .freeCtr, .out]

/-! ## What a command leaves -/

/-- Where an outcome is a next state, its device has evolved from the one before. -/
structure EvolvesTo (ps : List Part) (s : State) (o : Host.Outcome State Fault Refusal) : Prop where
  leaves : ∀ t, o = .next t → Evolves ps s.dev t.dev

/-- A command that acts on the device alone. -/
theorem EvolvesTo.go {ps : List Part} {s : State} {f : Dev → Dev} (h : ∀ d, Evolves ps d (f d)) : EvolvesTo ps s (s.go f) := by
  refine ⟨fun t ht => ?_⟩
  obtain rfl := Host.Outcome.next.inj ht
  exact h _

theorem EvolvesTo.next {ps : List Part} {s t : State} (h : Evolves ps s.dev t.dev) : EvolvesTo ps s (.next t) := by
  refine ⟨fun u hu => ?_⟩
  obtain rfl := Host.Outcome.next.inj hu
  exact h

/-- An ill-formed command leaves nothing. -/
theorem EvolvesTo.fault {ps : List Part} {s : State} {f : Fault} : EvolvesTo ps s (.fault f) := ⟨fun _ h => nomatch h⟩

theorem EvolvesTo.ite {ps : List Part} {s : State} {c : Prop} [Decidable c] {o o' : Host.Outcome State Fault Refusal}
    (h : EvolvesTo ps s o) (h' : EvolvesTo ps s o') : EvolvesTo ps s (if c then o else o') := by split <;> assumption

theorem EvolvesTo.mono {ps qs : List Part} {s : State} {o : Host.Outcome State Fault Refusal} (h : EvolvesTo ps s o) (hs : ps ⊆ qs := by decide) :
    EvolvesTo qs s o := ⟨fun t ht => (h.leaves t ht).mono hs⟩

/-- An effect that a command shares with an access. -/
theorem EvolvesTo.after {ps : List Part} {s : State} {o : Host.Outcome State Fault Refusal} (h : EvolvesTo ps s o) : Evolves ps s.dev (s.after o).dev := by
  unfold State.after
  split
  · exact h.leaves _ rfl
  · exact .refl

end Sys2Proof.Machine
end

section

-- hundreds of short proofs by kernel evaluation follow: one after the other they need no more threads than the check allows
set_option Elab.async false

namespace Sys2Proof.Machine

/-! ## RegFile -/

theorem Dev.setWord_evolves (d : Dev) (off : ℕ) (v : ℕ) : Evolves [.regs] d (d.setWord off v) := by
  unfold Dev.setWord
  exact Evolves.regs.mono

theorem Dev.wr_evolves (d : Dev) (f : F) (i : ℕ) (v : ℕ) : Evolves [.regs] d (d.wr f i v) := by
  unfold Dev.wr
  exact (Dev.setWord_evolves ..).mono

theorem Dev.wrb_evolves (d : Dev) (f : F) (i : ℕ) (b : Bool) : Evolves [.regs] d (d.wrb f i b) := by
  unfold Dev.wrb
  exact (Dev.wr_evolves ..).mono

theorem Dev.bump_evolves (d : Dev) (f : F) (i : ℕ) (n : ℕ) : Evolves [.regs] d (d.bump f i n) := by
  unfold Dev.bump
  exact (Dev.wr_evolves ..).mono

theorem Dev.bumpW_evolves (d : Dev) (f : F) (i : ℕ) (n : ℕ) : Evolves [.regs] d (d.bumpW f i n) := by
  unfold Dev.bumpW
  exact (Dev.wr_evolves ..).mono

theorem Dev.setFn_evolves (d : Dev) (fix : ℕ) (f : Fn) : Evolves [.fn] d (d.setFn fix f) := by
  unfold Dev.setFn
  exact Evolves.fn.mono

/-! ## Ops -/

theorem Dev.emit_evolves (d : Dev) (o : Out) : Evolves [.out] d (d.emit o) := by
  unfold Dev.emit
  exact Evolves.out.mono

theorem Dev.fresh_evolves (d : Dev) : Evolves [.freeCtr] d d.fresh.2 := by
  unfold Dev.fresh
  exact Evolves.freeCtr.mono

theorem Dev.setTemp_evolves (d : Dev) (t : ℤ) : Evolves [.glb] d (d.setTemp t) := by
  unfold Dev.setTemp
  exact Evolves.glb.mono

theorem Dev.passCycles_evolves (d : Dev) (n : ℕ) : Evolves [.tim, .evr] d (d.passCycles n) := by
  unfold Dev.passCycles
  extract_lets
  exact .over [.tim, .evr] .refl

theorem Dev.toMono_evolves (d : Dev) (m : ℕ) : Evolves [.tim, .evr] d (d.toMono m) := by
  unfold Dev.toMono
  exact (Dev.passCycles_evolves ..).mono

theorem Dev.drawOf_evolves (d : Dev) (n : ℕ) : Evolves [.freeCtr] d (d.drawOf n).2 := by
  unfold Dev.drawOf
  exact Evolves.freeCtr.mono

theorem Dev.toNs_evolves (d : Dev) (ns : ℕ) : Evolves [.tim, .evr] d (d.toNs ns) := by
  unfold Dev.toNs
  split
  · extract_lets
    exact (Dev.passCycles_evolves ..).mono
  · exact .refl

theorem Dev.touch_evolves (d : Dev) (off : ℕ) : Evolves [.dirty] d (d.touch off) := by
  unfold Dev.touch
  exact Evolves.dirty.mono

/-- A record that is stored joins the recorder in front, while there is room (R574). -/
theorem Dev.evrPush_evolves (d : Dev) (w : List Nat) : Evolves [.evr] d (d.evrPush w) := by
  refine ⟨d.evrPush_keeps w, ?_⟩
  unfold Dev.evrPush
  split
  · exact .of_eq rfl
  · next hroom => exact ⟨⟨[_], rfl⟩, fun _ => by simp only [List.length_cons]; omega⟩

theorem Dev.evrCommit_evolves (d : Dev) (w : List ℕ) : Evolves [.regs, .evr] d (d.evrCommit w) := by
  unfold Dev.evrCommit
  split
  · split
    · exact (Evolves.evr).mono
    · extract_lets _ y
      have hy : Evolves [.regs, .evr] d y := (Dev.bump_evolves ..).mono
      exact (Evolves.evr).after hy
  · exact (Dev.evrPush_evolves ..).mono

theorem Dev.setLane_evolves (d : Dev) (q : ℕ) (l : Lane) : Evolves [.lne] d (d.setLane q l) := by
  unfold Dev.setLane
  exact Evolves.lne.mono

theorem Dev.setPair_evolves (d : Dev) (p : ℕ) (x : Pair) : Evolves [.rng] d (d.setPair p x) := by
  unfold Dev.setPair
  exact Evolves.rng.mono

theorem Dev.updPair_evolves (d : Dev) (p : ℕ) (f : Pair → Pair) : Evolves [.rng] d (d.updPair p f) := by
  unfold Dev.updPair
  exact (Dev.setPair_evolves ..).mono

/-- An event that is routed changes what its place in the queue changes. -/
theorem Evolves.routeEvent {ps : List Part} {put : Dev → Item → Dev} {d e : Dev} {ev : Event} (hput : ∀ x i, Evolves ps x (put x i))
    (h : Evolves ps d e) (hs : [.lne, .regs] ⊆ ps := by decide) : Evolves ps d (e.routeEvent put ev) := by
  have hsub (p : Part) (hp : p ∈ [Part.lne, .regs]) : [p] ⊆ ps := fun q hq => hs (List.mem_singleton.1 hq ▸ hp)
  unfold Dev.routeEvent
  extract_lets ev' l
  split
  · exact (Dev.bump_evolves ..).after h (hsub _ (by decide))
  · split
    · exact (Dev.setLane_evolves ..).after h (hsub _ (by decide))
    · split
      · exact (Dev.setLane_evolves ..).after h (hsub _ (by decide))
      · exact h.trans (hput _ _)

theorem Dev.ringPut_evolves {d e : Dev} {q : Nat} {i : Item} (h : d.ringPut q i = some e) : Evolves [.regs, .lne] d e :=
  (Dev.ringPut_keeps d e q i h).evolves.mono

/-- An event that is put into its queue where fuel is left. -/
theorem Evolves.fuelled {ps : List Part} {put : Nat → Dev → Item → Dev} {fuel : Nat} (x : Dev) (e : Event)
    (hput : ∀ f, f < fuel → ∀ y i, Evolves ps y (put f y i)) (hs : [.lne, .regs] ⊆ ps := by decide) :
    Evolves ps x (match fuel with | 0 => x | f + 1 => x.routeEvent (fun y i => put f y i) e) := by
  cases fuel with
  | zero => exact .refl
  | succ f => exact .routeEvent (hput f (Nat.lt_succ_self f)) .refl hs

theorem Dev.offerRaw_evolves (fuel : Nat) (d : Dev) (q : Nat) (i : Item) : Evolves [.regs, .lne, .evr] d (Dev.offerRaw fuel d q i) := by
  induction fuel using Nat.strongRecOn generalizing d q i with
  | ind fuel ih =>
    have hnext (x : Dev) (e : Event) := Evolves.fuelled x e (put := fun f y j => Dev.offerRaw f y 13 j) (fun f hf y j => ih f hf y 13 j)
    unfold Dev.offerRaw
    extract_lets l d1 y d2 d3
    have h1 : Evolves [.regs, .lne, .evr] d d1 := (Dev.bump_evolves ..).mono
    have h2 : Evolves [.regs, .lne, .evr] d d2 := Evolves.lne.after h1
    have h3 : Evolves [.regs, .lne, .evr] d d3 := (Dev.evrCommit_evolves ..).after h2
    split
    · exact (Dev.setLane_evolves ..).mono
    · split
      · split
        · next e he =>
          have h : Evolves [.regs, .lne, .evr] d e := (Dev.ringPut_evolves he).mono
          split
          · exact (hnext _ _).after (Evolves.lne.after h)
          · exact h
        · refine .ite ((Dev.bump_evolves ..).after (Dev.setLane_evolves ..).mono) (.ite ?_ h1)
          exact (hnext _ _).after h3
      · exact (Dev.bump_evolves ..).after (Dev.setLane_evolves ..).mono

theorem Dev.stormStart_evolves (d : Dev) : Evolves [.regs, .lne, .evr] d d.stormStart := by
  unfold Dev.stormStart
  extract_lets d1 _ d2 d3
  have hd1 : Evolves [.regs, .lne, .evr] d d1 := (Dev.bump_evolves ..).after <| (Dev.wrb_evolves ..).mono
  have hd2 : Evolves [.regs, .lne, .evr] d d2 := Evolves.lne.after hd1
  have hd3 : Evolves [.regs, .lne, .evr] d d3 := (Dev.evrCommit_evolves ..).after hd2
  exact Evolves.routeEvent (fun _ _ => (Dev.offerRaw_evolves ..).mono) hd3

theorem Dev.postRaw_evolves (d : Dev) (e : Event) : Evolves [.regs, .lne, .evr] d (d.postRaw e) := by
  unfold Dev.postRaw
  extract_lets d1
  have hd1 : Evolves [.regs, .lne, .evr] d d1 := Evolves.routeEvent (fun _ _ => (Dev.offerRaw_evolves ..).mono) .refl
  exact .ite ((Dev.stormStart_evolves ..).after hd1) hd1

theorem Dev.setVec_evolves (d : Dev) (v : ℕ) (x : MsixVec) : Evolves [.rng] d (d.setVec v x) := by
  unfold Dev.setVec
  exact Evolves.rng.mono

theorem Dev.fire_evolves (d : Dev) (v : ℕ) : Evolves [.rng, .out] d (d.fire v) := by
  unfold Dev.fire
  exact .ite ((Dev.setVec_evolves ..).mono) ((Dev.emit_evolves ..).mono)

theorem Dev.signal_evolves (d : Dev) (p : ℕ) : Evolves [.rng, .out] d (d.signal p) := by
  unfold Dev.signal
  exact (Dev.updPair_evolves ..).after <| (Dev.fire_evolves ..).mono

theorem Dev.entryWritten_evolves (d : Dev) (p : ℕ) (irq : Bool) : Evolves [.rng, .out] d (d.entryWritten p irq) := by
  unfold Dev.entryWritten
  extract_lets d1
  have hd1 : Evolves [.rng, .out] d d1 := (Dev.updPair_evolves ..).mono
  exact .ite ((Dev.signal_evolves ..).after hd1) hd1

theorem Dev.noteRecord_evolves (d : Dev) (k : ℕ × ℕ × ℕ) : Evolves [.flt] d (d.noteRecord k) := by
  unfold Dev.noteRecord
  exact Evolves.flt.mono

theorem Dev.history_evolves (d : Dev) (code : ℕ) (src : ℕ) (cls : ℕ) (detail : ℕ) (safe : Bool) : Evolves [.regs, .flt] d (d.history code src cls detail safe) := by
  unfold Dev.history
  split
  · exact Evolves.flt.mono
  · extract_lets _ d1
    have hd1 : Evolves [.regs, .flt] d d1 := .ite ((Dev.bump_evolves ..).mono) .refl
    exact Evolves.flt.after hd1

theorem Dev.pulse_evolves (d : Dev) : Evolves [.regs, .flt] d d.pulse := by
  unfold Dev.pulse
  extract_lets y
  have hy : Evolves [.regs, .flt] d y := (Dev.wrb_evolves ..).mono
  exact Evolves.flt.after hy

theorem Dev.faultCore_evolves (d : Dev) (code : ℕ) (src : ℕ) (cls : ℕ) (detail : ℕ) (safe : Bool) : Evolves [.regs, .rng, .lne, .evr, .flt, .out] d (d.faultCore code src cls detail safe) := by
  unfold Dev.faultCore
  extract_lets d1 d2 d3 d4 d5
  have hd1 : Evolves [.regs, .rng, .lne, .evr, .flt, .out] d d1 := (Dev.bump_evolves ..).mono
  have hd2 : Evolves [.regs, .rng, .lne, .evr, .flt, .out] d d2 := .ite ((Dev.history_evolves ..).after hd1) hd1
  have hd3 : Evolves [.regs, .rng, .lne, .evr, .flt, .out] d d3 := (Dev.postRaw_evolves ..).after hd2
  have hd4 : Evolves [.regs, .rng, .lne, .evr, .flt, .out] d d4 := .ite ((Dev.wrb_evolves ..).after hd3) ((Dev.wrb_evolves ..).after hd3)
  have hd5 : Evolves [.regs, .rng, .lne, .evr, .flt, .out] d d5 := (Dev.pulse_evolves ..).after hd4
  exact .ite (.ite ((Dev.fire_evolves ..).after hd5) hd5) hd3

theorem Dev.faultCoreF_evolves (d : Dev) (code : ℕ) (src : ℕ) (cls : ℕ) (detail : ℕ) (safe : Bool) : Evolves reportParts d (d.faultCoreF code src cls detail safe) := by
  unfold Dev.faultCoreF
  extract_lets d1
  have hd1 : Evolves reportParts d d1 := (Dev.faultCore_evolves ..).mono
  exact Evolves.freeCtr.after hd1

theorem Dev.fullCheck_evolves (d : Dev) : Evolves reportParts d d.fullCheck := by
  unfold Dev.fullCheck
  extract_lets _ _ d1
  have hd1 : Evolves reportParts d d1 := .ite ((Dev.postRaw_evolves ..).after <| (Evolves.evr).mono) .refl
  exact .ite ((Dev.faultCoreF_evolves ..).after (.over [.evr, .flt] hd1)) hd1

theorem Dev.record_evolves (d : Dev) (code : ℕ) (src : ℕ) (sev : ℕ) (w3 : ℕ) (w4 : ℕ) (w5 : ℕ) (w6 : ℕ) (deferred : Bool) : Evolves reportParts d (d.record code src sev w3 w4 w5 w6 deferred) := by
  unfold Dev.record
  exact (Dev.fullCheck_evolves ..).after <| (Dev.evrCommit_evolves ..).mono

theorem Dev.post_evolves (d : Dev) (cls : ℕ) (code : ℕ) (sev : ℕ) (src : ℕ) (target : ℕ) (w4 : ℕ) (w5 : ℕ) (w6 : ℕ) : Evolves reportParts d (d.post cls code sev src target w4 w5 w6) := by
  unfold Dev.post
  exact (Dev.fullCheck_evolves ..).after <| (Dev.postRaw_evolves ..).mono

theorem Dev.recordPost_evolves (d : Dev) (cls : ℕ) (code : ℕ) (sev : ℕ) (src : ℕ) (target : ℕ) (w3 : ℕ) (w4 : ℕ) (w5 : ℕ) (w6 : ℕ) : Evolves reportParts d (d.recordPost cls code sev src target w3 w4 w5 w6) := by
  unfold Dev.recordPost
  exact (Dev.post_evolves ..).after <| (Dev.record_evolves ..).mono

theorem Dev.offer_evolves (d : Dev) (q : ℕ) (i : Item) : Evolves reportParts d (d.offer q i) := by
  unfold Dev.offer
  exact (Dev.fullCheck_evolves ..).after <| (Dev.offerRaw_evolves ..).mono

theorem Dev.laneDrop_evolves (d : Dev) (q : ℕ) (n : ℕ) : Evolves [.lne] d (d.laneDrop q n) := by
  unfold Dev.laneDrop
  extract_lets
  exact (Dev.setLane_evolves ..).mono

theorem Dev.refill_evolves (n : Nat) (d : Dev) (q : Nat) : Evolves [.lne] d (Dev.refill n d q) := (Dev.refill_keeps n d q).evolves

theorem Dev.release_evolves (n : Nat) (d : Dev) (q : Nat) : Evolves [.regs, .lne] d (Dev.release n d q) := (Dev.release_keeps n d q).evolves.mono

theorem Dev.flushNow_evolves (d : Dev) (q : ℕ) : Evolves [.regs, .lne] d (d.flushNow q) := by
  unfold Dev.flushNow
  extract_lets
  exact .ite .refl ((Dev.bump_evolves ..).after <| (Dev.setLane_evolves ..).mono)

theorem Dev.watchFull_evolves (d : Dev) (p : ℕ) : Evolves [.rng] d (d.watchFull p) := by
  unfold Dev.watchFull
  exact .ite ((Dev.updPair_evolves ..).mono) ((Dev.updPair_evolves ..).mono)

theorem Dev.settle_evolves (d : Dev) (p : ℕ) : Evolves [.regs, .rng] d (d.settle p) := by
  unfold Dev.settle
  extract_lets
  exact (Dev.watchFull_evolves ..).after <| (Dev.bump_evolves ..).after <| (Dev.setPair_evolves ..).mono

theorem Dev.complete_evolves (d : Dev) (p : ℕ) (id : ℕ) (st : ℕ) (sub : ℕ) (res : List ℕ) : Evolves [.regs, .rng] d (d.complete p id st sub res) := by
  unfold Dev.complete
  exact (Dev.settle_evolves ..).after <| (Dev.updPair_evolves ..).mono

theorem Dev.completeAll_evolves (d : Dev) (pick : ℕ → Held → Option (ℕ × ℕ)) : Evolves [.regs, .rng] d (d.completeAll pick) := by
  unfold Dev.completeAll
  exact .foldl (fun _ _ => (Dev.settle_evolves ..).after <| (Dev.updPair_evolves ..).mono) .refl

theorem Dev.markStarted_evolves (d : Dev) (p : ℕ) (id : ℕ) : Evolves [.rng] d (d.markStarted p id) := by
  unfold Dev.markStarted
  exact (Dev.updPair_evolves ..).mono

theorem Dev.stepDone_evolves (d : Dev) (i : ℕ) : Evolves [.regs] d (d.stepDone i) := by
  unfold Dev.stepDone
  exact .ite .refl ((Dev.wr_evolves ..).after <| (Dev.wr_evolves ..).mono)

/-! ## Operands -/

/-- An opcode that runs on a descriptor changes what its meaning changes, where that covers a completion. -/
theorem Evolves.onDesc {ps : List Part} {f : Dev → Held → Dev} {d e : Dev} {p op : Nat} (hf : ∀ x h, Evolves ps x (f x h))
    (h : Evolves ps d e) (hs : [.regs, .rng] ⊆ ps := by decide) : Evolves ps d (e.onDesc p op f) := by
  unfold Dev.onDesc
  split
  · exact h
  · split
    · exact h
    · split
      · exact (Dev.complete_evolves ..).after h hs
      · exact h.trans (hf _ _)

/-- An opcode that reads its buffer changes what its meaning changes, where that covers a completion and the report of an abort. -/
theorem Evolves.onDescRead {ps : List Part} {f : Dev → Held → List Byte → Dev} {d e : Dev} {p op : Nat} {r : HostRead}
    (hf : ∀ x h bs, Evolves ps x (f x h bs)) (h : Evolves ps d e) (hs : [.regs, .rng, .out] ⊆ ps := by decide) :
    Evolves ps d (e.onDescRead p op r f) := by
  refine .onDesc (fun x g => ?_) h (List.Subset.trans (by decide) hs)
  split
  · have habort (a : Out) (st : Nat) : Evolves [.regs, .rng, .out] x ((x.emit a).complete p g.id st 0) :=
      (Dev.complete_evolves ..).after (Dev.emit_evolves ..).mono
    exact (habort _ _).mono hs
  · exact hf _ _ _

theorem Dev.writeBuf_evolves (d : Dev) (x : Desc) (bs : List Byte) : Evolves [.out] d (d.writeBuf x bs) := by
  unfold Dev.writeBuf
  exact (Dev.emit_evolves ..).mono

/-! ## MediaOps -/

theorem Dev.persist_evolves (d : Dev) (m : MediaData) : Evolves [.nand] d (d.persist m) := by
  unfold Dev.persist
  split
  · exact Evolves.nand.mono
  · exact Evolves.nand.mono
  · exact Evolves.nand.mono
  · exact Evolves.nand.mono
  · exact Evolves.nand.mono
  · exact Evolves.nand.mono
  · exact Evolves.nand.mono
  · exact .refl

/-! ## PortRegs -/

theorem Dev.setLp_evolves (d : Dev) (p : ℕ) (l : Lcp) : Evolves [.lcp] d (d.setLp p l) := by
  unfold Dev.setLp
  exact Evolves.lcp.mono

theorem Dev.updLp_evolves (d : Dev) (p : ℕ) (f : Lcp → Lcp) : Evolves [.lcp] d (d.updLp p f) := by
  unfold Dev.updLp
  exact (Dev.setLp_evolves ..).mono

theorem Dev.latch_evolves (d : Dev) (p : ℕ) : Evolves [.lcp] d (d.latch p) := by
  unfold Dev.latch
  exact (Dev.updLp_evolves ..).mono

theorem Dev.setRp_evolves (d : Dev) (n : ℕ) (r : Rad) : Evolves [.rad] d (d.setRp n r) := by
  unfold Dev.setRp
  exact Evolves.rad.mono

theorem Dev.updRp_evolves (d : Dev) (n : ℕ) (f : Rad → Rad) : Evolves [.rad] d (d.updRp n f) := by
  unfold Dev.updRp
  exact (Dev.setRp_evolves ..).mono

theorem Dev.play_evolves (d : Dev) (n : ℕ) (k : ℕ) : Evolves [.out] d (d.play n k) := by
  unfold Dev.play
  refine .foldl (fun x a => ?_) .refl
  extract_lets
  exact .ite .refl ((Dev.emit_evolves ..).mono)

/-! ## Faults -/

theorem Dev.pairEmit_evolves (d : Dev) (cycle : ℕ) (b : PairBody) : Evolves [.par, .out] d (d.pairEmit cycle b) := by
  unfold Dev.pairEmit
  exact (Dev.emit_evolves ..).after <| Evolves.par.mono

theorem Dev.pairSend_evolves (d : Dev) (cycle : ℕ) (b : PairBody) : Evolves (.par :: reportParts) d (d.pairSend cycle b) := by
  unfold Dev.pairSend
  exact .ite .refl (.ite ((Dev.pairEmit_evolves ..).mono) (.ite ((Dev.pairEmit_evolves ..).after <| Evolves.par.mono) ((Dev.offer_evolves ..).mono)))

theorem Dev.dropClaim_evolves (d : Dev) : Evolves [.par] d d.dropClaim := by
  unfold Dev.dropClaim
  exact Evolves.par.mono

theorem Dev.unfreeze_evolves (d : Dev) : Evolves reportParts d d.unfreeze := by
  unfold Dev.unfreeze
  split
  · extract_lets _ d1 d2
    have hd1 : Evolves reportParts d d1 := (Evolves.evr).mono
    have hd2 : Evolves reportParts d d2 := .foldl (fun _ _ => (Dev.fullCheck_evolves ..).after <| (Dev.evrPush_evolves ..).mono) hd1
    exact .ite hd2 ((Dev.record_evolves ..).after hd2)
  · exact .refl

theorem Dev.commitHead_evolves (d : Dev) : Evolves [.lne, .nand] d d.commitHead := by
  unfold Dev.commitHead
  extract_lets _ d1
  have hd1 : Evolves [.lne, .nand] d d1 := by
    unfold d1
    refine .foldl (fun x a => ?_) .refl
    split
    · exact (Dev.persist_evolves ..).mono
    · exact .refl
  exact (Dev.setLane_evolves ..).after hd1

theorem Dev.commit_evolves (d : Dev) : Evolves (.tar :: .nand :: reportParts) d d.commit := by
  unfold Dev.commit
  extract_lets d1 d2 _ d3 d4
  have hd1 : Evolves (.tar :: .nand :: reportParts) d d1 := (Dev.unfreeze_evolves ..).mono
  have hd2 : Evolves (.tar :: .nand :: reportParts) d d2 := .ite ((Dev.persist_evolves ..).after hd1) hd1
  have hd3 : Evolves (.tar :: .nand :: reportParts) d d3 := Evolves.tar.after hd2
  have hd4 : Evolves (.tar :: .nand :: reportParts) d d4 := .ite ((Dev.commitHead_evolves ..).after hd3) hd3
  exact .over [.evr, .nand] hd4

theorem Dev.stopSwap_evolves (d : Dev) : Evolves [.regs, .rng, .par] d d.stopSwap := by
  unfold Dev.stopSwap
  extract_lets d1 d2 y
  have hd1 : Evolves [.regs, .rng, .par] d d1 := by
    unfold d1
    split
    · split
      · exact (Dev.complete_evolves ..).mono
      · exact .refl
    · exact .refl
  have hd2 : Evolves [.regs, .rng, .par] d d2 := by
    unfold d2
    split
    · split
      · exact (Dev.complete_evolves ..).after hd1
      · exact hd1
    · exact hd1
  have hy : Evolves [.regs, .rng, .par] d y := (Dev.wrb_evolves ..).after hd2
  exact Evolves.par.after hy

theorem Dev.claimCutLine_evolves (d : Dev) (p : ℕ) : Evolves [.regs, .lcp] d (d.claimCutLine p) := by
  unfold Dev.claimCutLine
  split
  · exact .refl
  · rename_i y0 y1 y2
    extract_lets _ _ _ d1
    have hd1 : Evolves [.regs, .lcp] d d1 := (Dev.updLp_evolves ..).mono
    exact .ite ((Dev.bump_evolves ..).after hd1) hd1

theorem Dev.claimCutRad_evolves (d : Dev) (n : ℕ) : Evolves [.rad, .out] d (d.claimCutRad n) := by
  unfold Dev.claimCutRad
  split
  · exact (Dev.play_evolves ..).after <| (Dev.updRp_evolves ..).mono
  · exact .refl

theorem Dev.dropXfers_evolves (d0 : Dev) : Evolves [.regs, .tim, .ctx, .sch, .lcp, .rad, .out] d0 d0.dropXfers := by
  unfold Dev.dropXfers
  extract_lets d
  have hd : Evolves [.regs, .tim, .ctx, .sch, .lcp, .rad, .out] d0 d := .foldl (fun _ _ => (Dev.claimCutRad_evolves ..).mono) (.foldl (fun _ _ => (Dev.claimCutLine_evolves ..).mono) .refl)
  exact .over [.tim, .ctx, .sch, .lcp, .rad] hd

theorem Dev.dropDescs_evolves (d : Dev) : Evolves [.regs, .tim, .rng, .ctx, .sch, .lcp, .rad, .out] d d.dropDescs := by
  unfold Dev.dropDescs
  exact (Dev.completeAll_evolves ..).after <| (Dev.dropXfers_evolves ..).mono

theorem Dev.yieldClaim_evolves (d : Dev) : Evolves (.par :: reportParts) d d.yieldClaim := by
  unfold Dev.yieldClaim
  extract_lets d1
  have hd1 : Evolves (.par :: reportParts) d d1 := (Dev.dropClaim_evolves ..).after <| (Dev.pairSend_evolves ..).mono
  exact Evolves.par.after hd1

theorem Dev.silence_evolves (d : Dev) : Evolves (.tim :: .ctx :: .par :: .sch :: .lcp :: .rad :: reportParts) d d.silence := by
  unfold Dev.silence
  extract_lets d1 d3 d4
  have hd1 : Evolves (.tim :: .ctx :: .par :: .sch :: .lcp :: .rad :: reportParts) d d1 := (Dev.unfreeze_evolves ..).mono
  have hd3 : Evolves (.tim :: .ctx :: .par :: .sch :: .lcp :: .rad :: reportParts) d d3 := .ite ((Dev.yieldClaim_evolves ..).after hd1) ((Dev.dropClaim_evolves ..).after hd1)
  have hd4 : Evolves (.tim :: .ctx :: .par :: .sch :: .lcp :: .rad :: reportParts) d d4 := (Dev.dropDescs_evolves ..).after <| (Dev.stopSwap_evolves ..).after hd3
  exact Evolves.tim.after hd4

theorem Dev.enterSafe_evolves (d : Dev) : Evolves (.tim :: .ctx :: .par :: .sch :: .lcp :: .rad :: reportParts) d d.enterSafe := by
  unfold Dev.enterSafe
  split
  · exact .refl
  · extract_lets d1 y
    have hd1 : Evolves (.tim :: .ctx :: .par :: .sch :: .lcp :: .rad :: reportParts) d d1 := (Dev.silence_evolves ..).mono
    have hy : Evolves (.tim :: .ctx :: .par :: .sch :: .lcp :: .rad :: reportParts) d y := (Dev.wrb_evolves ..).after hd1
    exact Evolves.flt.after hy

theorem Dev.cycleReq_evolves (d : Dev) (why : ℕ) : Evolves (.glb :: reportParts) d (d.cycleReq why) := by
  unfold Dev.cycleReq
  split
  · exact .refl
  · extract_lets d1 y
    have hd1 : Evolves (.glb :: reportParts) d d1 := (Dev.record_evolves ..).mono
    have hy : Evolves (.glb :: reportParts) d y := (Dev.wrb_evolves ..).after hd1
    exact Evolves.glb.after hy

theorem Dev.fault_evolves (d : Dev) (code : ℕ) (src : ℕ) (cls : ℕ) (detail : ℕ) (own : Bool) : Evolves fatalParts d (d.fault code src cls detail own) := by
  unfold Dev.fault
  extract_lets _ d1 _ d2 d3 _ _ d4 _ d5 d6
  have hd1 : Evolves fatalParts d d1 := .ite ((Dev.unfreeze_evolves ..).mono) .refl
  have hd2 : Evolves fatalParts d d2 := (Dev.faultCoreF_evolves ..).after hd1
  have hd3 : Evolves fatalParts d d3 := .ite ((Dev.enterSafe_evolves ..).after hd2) hd2
  have hd4 : Evolves fatalParts d d4 := .ite hd3 ((Dev.noteRecord_evolves ..).after <| (Dev.record_evolves ..).after hd3)
  have hd5 : Evolves fatalParts d d5 := Evolves.flt.after hd4
  have hd6 : Evolves fatalParts d d6 := .ite hd5 ((Dev.commit_evolves ..).after hd5)
  exact .ite (.ite ((Dev.cycleReq_evolves ..).after hd6) hd6) hd4

theorem Dev.failFn_evolves (d : Dev) (fix : ℕ) : Evolves (.fn :: fatalParts) d (d.failFn fix) := by
  unfold Dev.failFn
  extract_lets d1
  have hd1 : Evolves (.fn :: fatalParts) d d1 := (Dev.setFn_evolves ..).mono
  exact .ite hd1 ((Dev.fault_evolves ..).after hd1)

/-! ## CtxOps -/

theorem Dev.mark_evolves (d : Dev) (m : ℕ) (mask : ℕ) : Evolves [.ctx] d (d.mark m mask) := by
  unfold Dev.mark
  exact Evolves.ctx.mono

theorem Dev.putCtx_evolves (d : Dev) (m : ℕ) (c0 : Ctx) : Evolves [.ctx] d (d.putCtx m c0) := by
  unfold Dev.putCtx
  extract_lets
  exact .ite .refl ((Dev.mark_evolves ..).after <| Evolves.ctx.mono)

theorem Dev.editCtx_evolves (d : Dev) (m : ℕ) (f : Ctx → Ctx) : Evolves [.ctx] d (d.editCtx m f) := by
  unfold Dev.editCtx
  split
  · exact (Dev.putCtx_evolves ..).mono
  · exact .refl

theorem Dev.mapCtx_evolves (d : Dev) (f : ℕ → Ctx → Ctx) : Evolves [.ctx] d (d.mapCtx f) := by
  unfold Dev.mapCtx
  exact .foldl (fun _ _ => (Dev.editCtx_evolves ..).mono) .refl

theorem Dev.drawSeed_evolves (d : Dev) : Evolves [.ctx, .freeCtr] d d.drawSeed := by
  unfold Dev.drawSeed
  extract_lets f y
  have hf : Evolves [.ctx, .freeCtr] d f.2 := (Dev.fresh_evolves ..).mono
  have hy : Evolves [.ctx, .freeCtr] d y := hf
  exact Evolves.ctx.after hy

theorem Dev.indexPut_evolves (d : Dev) (moves : List (Fin 4)) (kind : ℕ) (addr : ℕ) (m : ℕ) : Evolves [.ctx, .freeCtr] d (d.indexPut moves kind addr m).2 := by
  unfold Dev.indexPut
  split
  · exact .refl
  · rename_i y0
    extract_lets _ _ y1
    have hy1 : Evolves [.ctx, .freeCtr] d y1 := (Dev.drawSeed_evolves ..).mono
    split
    · exact Evolves.ctx.mono
    · split
      · exact Evolves.ctx.after hy1
      · exact Evolves.ctx.mono

theorem Dev.giveShort_evolves (d : Dev) (port : ℕ) (m : ℕ) : Evolves [.ctx] d (d.giveShort port m).2 := by
  unfold Dev.giveShort
  extract_lets
  split
  · exact .refl
  · exact Evolves.ctx.mono

theorem Dev.unindex_evolves (d : Dev) (m : ℕ) : Evolves [.ctx] d (d.unindex m) := by
  unfold Dev.unindex
  exact Evolves.ctx.mono

theorem Dev.pin_evolves (d : Dev) (m : ℕ) : Evolves [.ctx] d (d.pin m) := by
  unfold Dev.pin
  exact Evolves.ctx.mono

theorem Dev.unpin_evolves (d : Dev) (m : ℕ) : Evolves [.ctx] d (d.unpin m) := by
  unfold Dev.unpin
  extract_lets
  exact Evolves.ctx.mono

theorem Dev.useWay_evolves (d : Dev) (m : ℕ) (ways : List ℕ) : Evolves [.ctx] d (d.useWay m ways) := by
  unfold Dev.useWay
  exact Evolves.ctx.mono

theorem Dev.fetchCtx_evolves (d : Dev) (m : ℕ) : Evolves [.regs, .ctx] d (d.fetchCtx m).2 := by
  unfold Dev.fetchCtx
  extract_lets
  split
  · exact (Dev.useWay_evolves ..).after <| Evolves.ctx.mono
  · split
    · exact (Dev.useWay_evolves ..).after <| (Dev.bumpW_evolves ..).mono
    · split
      · exact (Dev.useWay_evolves ..).after <| (Dev.bumpW_evolves ..).mono
      · split
        · exact (Dev.useWay_evolves ..).after <| (Dev.bumpW_evolves ..).mono
        · split
          · exact .refl
          · exact (Dev.bump_evolves ..).after <| Evolves.ctx.mono

theorem Dev.forget_evolves (d : Dev) (m : ℕ) : Evolves [.ctx, .sec, .sch, .img, .lcp, .cals] d (d.forget m) := by
  unfold Dev.forget
  exact .over [.ctx, .sec, .sch, .img, .lcp, .cals] .refl

theorem Dev.freeCtx_evolves (d : Dev) (m : ℕ) : Evolves [.ctx, .sec, .sch, .img, .lcp, .cals] d (d.freeCtx m) := by
  unfold Dev.freeCtx
  extract_lets d1
  have hd1 : Evolves [.ctx, .sec, .sch, .img, .lcp, .cals] d d1 := (Dev.forget_evolves ..).after <| (Dev.unindex_evolves ..).mono
  exact (Dev.mark_evolves ..).after <| Evolves.ctx.after hd1

/-! ## SecOps -/

theorem Dev.setImport_evolves (d : Dev) (m : ℕ) (i : Import) : Evolves [.sec] d (d.setImport m i) := by
  unfold Dev.setImport
  extract_lets
  exact Evolves.sec.mono

theorem Dev.kcUse_evolves (d : Dev) (e : ℕ × ℕ × ℕ) : Evolves [.sec] d (d.kcUse e) := by
  unfold Dev.kcUse
  extract_lets
  exact Evolves.sec.mono

theorem Dev.kcOne_evolves (d : Dev) (e : ℕ × ℕ × ℕ) (derive : Bool) : Evolves [.regs, .sec] d (d.kcOne e derive).2 := by
  unfold Dev.kcOne
  split
  · exact (Dev.kcUse_evolves ..).after <| (Dev.bumpW_evolves ..).mono
  · rename_i y0
    extract_lets d1
    have hd1 : Evolves [.regs, .sec] d d1 := (Dev.bumpW_evolves ..).mono
    exact (Dev.kcUse_evolves ..).after (.ite ((Dev.bumpW_evolves ..).after hd1) hd1)

theorem Dev.kcTake_evolves (d : Dev) (m : ℕ) (grp : ℕ) (gen : ℕ) : Evolves [.regs, .sec] d (d.kcTake m grp gen) := by
  unfold Dev.kcTake
  extract_lets r
  have hr : Evolves [.regs, .sec] d r.2 := (Dev.kcOne_evolves ..).mono
  exact .ite hr ((Dev.kcOne_evolves ..).after hr)

theorem Dev.kcDrop_evolves (d : Dev) (m : ℕ) (gen : ℕ) : Evolves [.sec] d (d.kcDrop m gen) := by
  unfold Dev.kcDrop
  exact Evolves.sec.mono

theorem Dev.setShadow_evolves (d : Dev) (m : ℕ) (s : Option Shadow) : Evolves [.ctx, .sec] d (d.setShadow m s) := by
  unfold Dev.setShadow
  extract_lets
  exact (Dev.editCtx_evolves ..).after <| Evolves.sec.mono

theorem Dev.dropShadow_evolves (d : Dev) (m : ℕ) : Evolves [.ctx, .sec] d (d.dropShadow m) := by
  unfold Dev.dropShadow
  split
  · exact .refl
  · rename_i y0 y1 y2
    extract_lets d1
    have hd1 : Evolves [.ctx, .sec] d d1 := (Dev.setShadow_evolves ..).after <| (Dev.kcDrop_evolves ..).mono
    exact .ite ((Dev.setImport_evolves ..).after hd1) hd1

theorem Dev.stageDerived_evolves (d : Dev) (m : ℕ) (gen : ℕ) : Evolves [.ctx, .sec] d (d.stageDerived m gen) := by
  unfold Dev.stageDerived
  exact (Dev.setShadow_evolves ..).after <| (Dev.dropShadow_evolves ..).mono

theorem Dev.commitKeys_evolves (d : Dev) (m : ℕ) (gen : ℕ) : Evolves [.ctx, .sec] d (d.commitKeys m gen) := by
  unfold Dev.commitKeys
  split
  · exact .refl
  · rename_i y0 y1 y2
    extract_lets d1 _ _ d2
    have hd1 : Evolves [.ctx, .sec] d d1 := (Dev.editCtx_evolves ..).after <| (Dev.setShadow_evolves ..).after <| (Dev.kcDrop_evolves ..).mono
    have hd2 : Evolves [.ctx, .sec] d d2 := (Dev.setImport_evolves ..).after hd1
    split
    · split
      · split
        · exact (Dev.stageDerived_evolves ..).after hd2
        · exact hd2
      · exact hd2
    · exact .ite ((Dev.setImport_evolves ..).after hd1) hd1

theorem Dev.authOk_evolves (d : Dev) (m : ℕ) (c : Ctx) (f : MFrame) : Evolves [.ctx, .sec] d (d.authOk m c f) := by
  unfold Dev.authOk
  extract_lets d1
  have hd1 : Evolves [.ctx, .sec] d d1 := (Dev.editCtx_evolves ..).mono
  exact Evolves.sec.after hd1

theorem Dev.authBad_evolves (d : Dev) (m : ℕ) (c : Ctx) : Evolves (.ctx :: .sec :: reportParts) d (d.authBad m c) := by
  unfold Dev.authBad
  extract_lets _ _ d1 _ d2
  have hd1 : Evolves (.ctx :: .sec :: reportParts) d d1 := (Dev.bump_evolves ..).after <| (Dev.editCtx_evolves ..).mono
  have hd2 : Evolves (.ctx :: .sec :: reportParts) d d2 := Evolves.sec.after hd1
  exact .ite ((Dev.post_evolves ..).after <| Evolves.sec.after hd2) hd2

theorem Dev.authenticate_evolves (d : Dev) (m : Nat) (c : Ctx) (f : MFrame) :
    Evolves (.ctx :: .sec :: reportParts) d (d.authenticate m c f).2 := by
  have hcount (x : F) : Evolves (.ctx :: .sec :: reportParts) d (d.bump x) := (Dev.bump_evolves ..).mono
  have h1 : Evolves (.ctx :: .sec :: reportParts) d (d.kcTake m c.grp c.keyGen) := (Dev.kcTake_evolves ..).mono
  unfold Dev.authenticate
  split
  · exact hcount _
  split
  · exact hcount _
  split
  · exact hcount _
  dsimp only
  generalize d.kcTake m c.grp c.keyGen = d1 at h1 ⊢
  split
  · exact (Dev.authOk_evolves ..).after h1
  split
  · exact (Dev.authBad_evolves ..).after h1
  · next g _ =>
    have h2 : Evolves (.ctx :: .sec :: reportParts) d (d1.kcTake m c.grp g) := (Dev.kcTake_evolves ..).after h1
    split
    · exact (Dev.authOk_evolves ..).after ((Dev.commitKeys_evolves ..).after h2)
    · exact (Dev.authBad_evolves ..).after h2

theorem Dev.secure_evolves (d : Dev) (m : ℕ) (c : Ctx) : Evolves [.regs, .ctx, .sec, .out] d (d.secure m c).2 := by
  unfold Dev.secure
  extract_lets _ _ _ _ d1
  have hd1 : Evolves [.regs, .ctx, .sec, .out] d d1 := (Dev.editCtx_evolves ..).after <| (Dev.kcTake_evolves ..).mono
  exact (Dev.emit_evolves ..).after hd1

theorem Dev.keyAck_evolves (d : Dev) (m : ℕ) (ack : ℕ) : Evolves [.ctx, .sec] d (d.keyAck m ack) := by
  unfold Dev.keyAck
  split
  · rename_i y0 y1 y2 y3 y4 y5
    split
    · exact .refl
    · extract_lets d1
      have hd1 : Evolves [.ctx, .sec] d d1 := (Dev.setShadow_evolves ..).mono
      split
      · split
        · exact .ite hd1 ((Dev.setImport_evolves ..).after hd1)
        · exact hd1
      · exact hd1
  · exact .refl

theorem Dev.shadowFail_evolves (d : Dev) (m : ℕ) : Evolves [.ctx, .sec] d (d.shadowFail m) := by
  unfold Dev.shadowFail
  split
  · exact .ite ((Dev.setShadow_evolves ..).mono) ((Dev.setShadow_evolves ..).mono)
  · exact .refl

theorem Dev.shadowOk_evolves (d : Dev) (m : ℕ) : Evolves [.ctx, .sec] d (d.shadowOk m) := by
  unfold Dev.shadowOk
  split
  · exact .ite .refl ((Dev.setShadow_evolves ..).mono)
  · exact .refl

/-! ## FlOps -/

theorem Dev.setEp_evolves (d : Dev) (p : ℕ) (e : Eth) : Evolves [.eth] d (d.setEp p e) := by
  unfold Dev.setEp
  exact Evolves.eth.mono

theorem Dev.ethCount_evolves (d : Dev) (p : ℕ) (i : ℕ) (n : ℕ) : Evolves (.eth :: reportParts) d (d.ethCount p i n) := by
  unfold Dev.ethCount
  extract_lets _ _ _ d1
  have hd1 : Evolves (.eth :: reportParts) d d1 := .ite .refl ((Dev.setEp_evolves ..).mono)
  exact .ite ((Dev.post_evolves ..).after hd1) hd1

theorem Dev.ethQueue_evolves (d : Dev) (p : ℕ) (t : EthTx) : Evolves (.eth :: reportParts) d (d.ethQueue p t) := by
  unfold Dev.ethQueue
  exact .ite ((Dev.setEp_evolves ..).mono) ((Dev.ethCount_evolves ..).mono)

theorem Dev.stepFEnd_evolves (d : Dev) : Evolves [.regs] d d.stepFEnd := by
  unfold Dev.stepFEnd
  exact .ite ((Dev.stepDone_evolves ..).mono) .refl

theorem Dev.setFd_evolves (d : Dev) (fdx : ℕ) (x : Fd) : Evolves [.fl] d (d.setFd fdx x) := by
  unfold Dev.setFd
  exact Evolves.fl.mono

theorem Dev.fdAuth_evolves (d : Dev) (fdx : ℕ) (dseq : ℕ) : Evolves [.fl] d (d.fdAuth fdx dseq) := by
  unfold Dev.fdAuth
  exact (Dev.setFd_evolves ..).mono

theorem Dev.setFlEnd_evolves (d : Dev) (fdx : ℕ) (e : FlEnd) : Evolves [.fl] d (d.setFlEnd fdx e) := by
  unfold Dev.setFlEnd
  exact .ite Evolves.fl.mono ((Dev.setFd_evolves ..).mono)

theorem Dev.flSendOn_evolves (d : Dev) (p : ℕ) (fdx : ℕ) (r : FlRec) (retx : Bool) : Evolves linkParts d (d.flSendOn p fdx r retx) := by
  unfold Dev.flSendOn
  extract_lets
  split
  · rename_i y0 y1 y2 y3
    split
    · exact .refl
    · extract_lets _ d1
      have hd1 : Evolves linkParts d d1 := (Dev.setFlEnd_evolves ..).mono
      exact (Dev.ethQueue_evolves ..).after hd1

theorem Dev.flSend_evolves (d : Dev) (fdx : ℕ) (r : FlRec) (retx : Bool) : Evolves linkParts d (d.flSend fdx r retx) := by
  unfold Dev.flSend
  exact (Dev.flSendOn_evolves ..).mono

theorem Dev.flUp_evolves (d : Dev) (r : FlRec) : Evolves linkParts d (d.flUp r) := by
  unfold Dev.flUp
  exact (Dev.flSend_evolves ..).mono

theorem Dev.flPush_evolves (d : Dev) : Evolves linkParts d d.flPush := by
  unfold Dev.flPush
  exact .ite .refl (.foldl (fun _ _ => (Dev.flUp_evolves ..).after <| Evolves.fl.mono) .refl)

theorem Dev.flHoldRec_evolves (d : Dev) (mk : ℕ → FlRec) : Evolves linkParts d (d.flHoldRec mk) := by
  unfold Dev.flHoldRec
  extract_lets _ kept d1
  have hkept : Evolves linkParts d kept := (Dev.offer_evolves ..).mono
  have hd1 : Evolves linkParts d d1 := hkept
  exact (Dev.flPush_evolves ..).after <| Evolves.fl.after hd1

theorem Dev.flOrder_evolves (d : Dev) (fdx : ℕ) (mk : ℕ → FlRec) : Evolves linkParts d (d.flOrder fdx mk) := by
  unfold Dev.flOrder
  extract_lets _ _ d1
  have hd1 : Evolves linkParts d d1 := Evolves.fl.mono
  exact (Dev.flSend_evolves ..).after hd1

theorem Dev.flRelease_evolves (d : Dev) (fdx : ℕ) (kind : ℕ) (addr : ℕ) : Evolves linkParts d (d.flRelease fdx kind addr) := by
  unfold Dev.flRelease
  exact (Dev.flOrder_evolves ..).mono

theorem Dev.flLeave_evolves (d : Dev) (c : Ctx) : Evolves linkParts d (d.flLeave c) := by
  unfold Dev.flLeave
  exact .ite ((Dev.flRelease_evolves ..).mono) .refl

/-! ## RegWrite -/

theorem Dev.plainWrite_evolves (d : Dev) (off : ℕ) (v : ℕ) : Evolves [.regs, .dirty] d (d.plainWrite off v) := by
  unfold Dev.plainWrite
  split
  · exact .refl
  · split
    · exact .refl
    · rename_i y0 y1 y2 y3
      extract_lets _ d1
      have hd1 : Evolves [.regs, .dirty] d d1 := (Dev.setWord_evolves ..).mono
      exact .ite ((Dev.touch_evolves ..).after hd1) hd1

/-! ## Rings -/

theorem Dev.subTail_evolves (d : Dev) (p : ℕ) (v : ℕ) : Evolves [.regs, .rng] d (d.subTail p v) := by
  unfold Dev.subTail
  split
  · exact .refl
  · split
    · exact (Dev.bump_evolves ..).mono
    · split
      · exact (Dev.wrb_evolves ..).mono
      · extract_lets
        exact .ite ((Dev.bump_evolves ..).after <| (Dev.wrb_evolves ..).mono) ((Dev.setPair_evolves ..).mono)

theorem Dev.cmpHeadWrite_evolves (d : Dev) (p : ℕ) (v : ℕ) : Evolves [.regs, .rng] d (d.cmpHeadWrite p v) := by
  unfold Dev.cmpHeadWrite
  split
  · exact .refl
  · split
    · exact (Dev.bump_evolves ..).mono
    · extract_lets
      exact (Dev.watchFull_evolves ..).after <| (Dev.setPair_evolves ..).mono

theorem Dev.bar2Write_evolves (d : Dev) (off : ℕ) (v : ℕ) : Evolves [.regs, .rng] d (d.bar2Write off v) := by
  unfold Dev.bar2Write
  extract_lets
  split
  · exact .refl
  · split
    · exact (Dev.subTail_evolves ..).mono
    · exact (Dev.cmpHeadWrite_evolves ..).mono
    · exact .refl

theorem Dev.takeDesc_evolves (d : Dev) (p : ℕ) (x : Desc) : Evolves [.regs, .rng] d (d.takeDesc p x) := by
  unfold Dev.takeDesc
  extract_lets _ _ _ _ d1 _ d2
  have hd1 : Evolves [.regs, .rng] d d1 := Evolves.rng.mono
  have hd2 : Evolves [.regs, .rng] d d2 := (Dev.setPair_evolves ..).after hd1
  exact .ite hd2 ((Dev.wrb_evolves ..).after <| (Dev.complete_evolves ..).after hd2)

theorem Dev.latency_evolves (d : Dev) (ns : ℕ) : Evolves [.regs, .rng] d (d.latency ns) := by
  unfold Dev.latency
  extract_lets _ _ d1 d2
  have hd1 : Evolves [.regs, .rng] d d1 := Evolves.rng.mono
  have hd2 : Evolves [.regs, .rng] d d2 := (Dev.wr_evolves ..).after hd1
  exact (Dev.wr_evolves ..).after hd2

theorem Dev.fetchGrant_evolves (d : Dev) (descs : List Desc) (ns : ℕ) : Evolves [.regs, .rng, .out] d (d.fetchGrant descs ns) := by
  unfold Dev.fetchGrant
  split
  · exact .refl
  · split
    · exact .refl
    · rename_i y0 y1 y2 y3
      extract_lets _ _ _ d1
      have hd1 : Evolves [.regs, .rng, .out] d d1 := .over [.rng, .out] .refl
      exact (Dev.latency_evolves ..).after (.foldl (fun _ _ => (Dev.takeDesc_evolves ..).mono) hd1)

theorem Dev.fetchFail_evolves (d : Dev) (p : ℕ) (e : AerErr) : Evolves (.fn :: fatalParts) d (d.fetchFail p e) := by
  unfold Dev.fetchFail
  exact .ite ((Dev.failFn_evolves ..).after <| (Dev.emit_evolves ..).after <| (Dev.wrb_evolves ..).mono) .refl

theorem Dev.putEntry_evolves (d : Dev) (p : ℕ) (w : List ℕ) (w7 : ℕ) (irq : Bool) : Evolves [.rng, .out] d (d.putEntry p w w7 irq) := by
  unfold Dev.putEntry
  extract_lets _ _ d1 d2
  have hd1 : Evolves [.rng, .out] d d1 := (Dev.emit_evolves ..).mono
  have hd2 : Evolves [.rng, .out] d d2 := (Dev.setPair_evolves ..).after hd1
  exact (Dev.entryWritten_evolves ..).after hd2

theorem Dev.completionWrite_evolves (d : Dev) (p : ℕ) : Evolves [.rng, .out] d (d.completionWrite p) := by
  unfold Dev.completionWrite
  split
  · split
    · exact .refl
    · rename_i y0 y1 y2 y3
      extract_lets d1
      have hd1 : Evolves [.rng, .out] d d1 := (Dev.updPair_evolves ..).mono
      exact (Dev.watchFull_evolves ..).after <| (Dev.putEntry_evolves ..).after hd1
  · exact (Dev.watchFull_evolves ..).mono

theorem Dev.eventPost_evolves (d : Dev) : Evolves [.regs, .rng, .lne, .ctx, .out] d d.eventPost := by
  unfold Dev.eventPost
  split
  · exact .refl
  · split
    · exact .refl
    · rename_i y0 y1 y2 y3
      split
      · exact .refl
      · rename_i y0 y1 y2
        split
        · exact (Dev.bump_evolves ..).after <| (Dev.laneDrop_evolves ..).mono
        · rename_i y0 y1 y2
          split
          · exact .refl
          · extract_lets d1
            have hd1 : Evolves [.regs, .rng, .lne, .ctx, .out] d d1 := (Dev.putEntry_evolves ..).after <| (Dev.laneDrop_evolves ..).mono
            exact .ite ((Dev.editCtx_evolves ..).after hd1) hd1

theorem Dev.modTimer_evolves (d : Dev) (p : ℕ) : Evolves [.tim, .rng, .evr, .out] d (d.modTimer p) := by
  unfold Dev.modTimer
  split
  · exact .refl
  · extract_lets
    exact .ite ((Dev.signal_evolves ..).after <| (Dev.toMono_evolves ..).mono) .refl

theorem Dev.unmask_evolves (d : Dev) (v : ℕ) : Evolves [.rng, .out] d (d.unmask v) := by
  unfold Dev.unmask
  split
  · exact .refl
  · extract_lets _ d1
    have hd1 : Evolves [.rng, .out] d d1 := (Dev.setVec_evolves ..).mono
    exact .ite ((Dev.emit_evolves ..).after hd1) hd1

theorem Dev.pairFresh_evolves (d : Dev) (p : ℕ) : Evolves [.rng] d (d.pairFresh p) := by
  unfold Dev.pairFresh
  exact (Dev.setPair_evolves ..).mono

theorem Dev.stopTimeout_evolves (d : Dev) (p : ℕ) : Evolves [.regs, .fn, .tim, .rng, .evr] d (d.stopTimeout p) := by
  unfold Dev.stopTimeout
  split
  · exact .refl
  · rename_i y0 y1 y2
    split
    · extract_lets d1 _ d2 d3 _ d4
      have hd1 : Evolves [.regs, .fn, .tim, .rng, .evr] d d1 := (Dev.toMono_evolves ..).mono
      have hd2 : Evolves [.regs, .fn, .tim, .rng, .evr] d d2 := (Dev.bump_evolves ..).after hd1
      have hd3 : Evolves [.regs, .fn, .tim, .rng, .evr] d d3 := (Dev.setPair_evolves ..).after hd2
      have hd4 : Evolves [.regs, .fn, .tim, .rng, .evr] d d4 := (Dev.setFn_evolves ..).after hd3
      exact .ite ((Dev.pairFresh_evolves ..).after hd4) hd4
    · exact .refl

/-! ## Events -/

theorem Dev.report_evolves (d : Dev) (code : ℕ) (src : ℕ) (cls : ℕ) (detail : ℕ) (own : Bool) : Evolves fatalParts d (d.report code src cls detail own) := by
  unfold Dev.report
  exact .ite ((Dev.fault_evolves ..).mono) .refl

theorem Dev.watchdog_evolves (d : Dev) (core : ℕ) : Evolves fatalParts d (d.watchdog core) := by
  unfold Dev.watchdog
  exact .ite .refl (.ite ((Dev.fault_evolves ..).after <| (Dev.wrb_evolves ..).after <| Evolves.glb.mono) ((Dev.fault_evolves ..).after <| (Dev.wr_evolves ..).mono))

theorem Dev.sramError_evolves (d : Dev) (array : ℕ) : Evolves fatalParts d (d.sramError array) := by
  unfold Dev.sramError
  extract_lets _ _ d1
  have hd1 : Evolves fatalParts d d1 := .ite ((Dev.wrb_evolves ..).after <| Evolves.glb.mono) .refl
  exact (Dev.report_evolves ..).after hd1

theorem Dev.ringLose_evolves (d : Dev) (q : ℕ) (n : ℕ) : Evolves [.regs, .lne] d (d.ringLose q n) := by
  unfold Dev.ringLose
  extract_lets
  exact .ite ((Dev.bump_evolves ..).after <| (Dev.setLane_evolves ..).mono) .refl

theorem Dev.dramError_evolves (d : Dev) (region : ℕ) (item : Option (ℕ × ℕ)) : Evolves fatalParts d (d.dramError region item) := by
  unfold Dev.dramError
  extract_lets d1
  have hd1 : Evolves fatalParts d d1 := by
    unfold d1
    split
    · exact .ite ((Dev.ringLose_evolves ..).mono) .refl
    · exact .refl
  exact (Dev.report_evolves ..).after hd1

theorem Dev.junction_evolves (d : Dev) (t : ℤ) : Evolves fatalParts d (d.junction t) := by
  unfold Dev.junction
  extract_lets d0 _ d1 d2
  have hd0 : Evolves fatalParts d d0 := (Dev.setTemp_evolves ..).mono
  have hd1 : Evolves fatalParts d d1 := (Dev.wr_evolves ..).after <| (Dev.wr_evolves ..).after <| (Dev.wr_evolves ..).after hd0
  have hd2 : Evolves fatalParts d d2 := .ite ((Dev.report_evolves ..).after hd1) hd1
  exact .ite ((Dev.report_evolves ..).after hd2) hd2

theorem Dev.pllLoss_evolves (d : Dev) (mem : Bool) : Evolves fatalParts d (d.pllLoss mem) := by
  unfold Dev.pllLoss
  split
  · exact .refl
  · extract_lets d1
    have hd1 : Evolves fatalParts d d1 := (Dev.wrb_evolves ..).mono
    exact (Dev.fault_evolves ..).after <| (Dev.wrb_evolves ..).after hd1

theorem Dev.selfFault_evolves (d : Dev) (reg : ℕ) : Evolves fatalParts d (d.selfFault reg) := by
  unfold Dev.selfFault
  split
  · exact .refl
  · extract_lets _ _ d0 d1 _ d2 _ d3 d4 d5
    have hd0 : Evolves fatalParts d d0 := .over [.glb, .freeCtr] .refl
    have hd1 : Evolves fatalParts d d1 := (Dev.wrb_evolves ..).after <| (Dev.wrb_evolves ..).after <| (Dev.enterSafe_evolves ..).after hd0
    have hd2 : Evolves fatalParts d d2 := Evolves.flt.after hd1
    have hd3 : Evolves fatalParts d d3 := (Dev.record_evolves ..).after hd2
    have hd4 : Evolves fatalParts d d4 := (Dev.post_evolves ..).after hd3
    have hd5 : Evolves fatalParts d d5 := .ite ((Dev.fire_evolves ..).after hd4) hd4
    exact .ite hd5 ((Dev.commit_evolves ..).after hd5)

theorem Dev.pinCtrl_evolves (d : Dev) (v : ℕ) : Evolves fatalParts d (d.pinCtrl v) := by
  unfold Dev.pinCtrl
  split
  · exact .refl
  · extract_lets d1 d2
    have hd1 : Evolves fatalParts d d1 := (Dev.wr_evolves ..).mono
    have hd2 : Evolves fatalParts d d2 := .ite hd1 ((Dev.commit_evolves ..).after <| (Dev.enterSafe_evolves ..).after hd1)
    exact .ite ((Dev.cycleReq_evolves ..).after hd2) hd1

theorem Dev.degradedClear_evolves (d : Dev) (v : ℕ) : Evolves [.regs] d (d.degradedClear v) := by
  unfold Dev.degradedClear
  exact .ite ((Dev.wrb_evolves ..).mono) .refl

theorem Dev.freeze_evolves (d : Dev) : Evolves [.evr] d d.freeze := by
  unfold Dev.freeze
  exact .ite .refl ((Evolves.evr).mono)

theorem Dev.freezeWrite_evolves (d : Dev) (v : ℕ) : Evolves reportParts d (d.freezeWrite v) := by
  unfold Dev.freezeWrite
  split
  · exact .refl
  · extract_lets d1
    have hd1 : Evolves reportParts d d1 := (Dev.wr_evolves ..).mono
    exact .ite ((Dev.wrb_evolves ..).after <| (Dev.freeze_evolves ..).after hd1) ((Dev.wrb_evolves ..).after <| (Dev.unfreeze_evolves ..).after hd1)

/-! ## Lanes -/

theorem Dev.ringCheck_evolves (d : Dev) : Evolves [.lne] d d.ringCheck := by
  unfold Dev.ringCheck
  exact .ite Evolves.lne.mono .refl

theorem Dev.queueRefill_evolves (d : Dev) (q : ℕ) : Evolves [.lne] d (d.queueRefill q) := by
  unfold Dev.queueRefill
  exact .ite ((Dev.ringCheck_evolves ..).after <| (Dev.refill_evolves ..).mono) .refl

theorem Dev.queueFlush_evolves (d : Dev) (q : ℕ) (v : ℕ) : Evolves [.regs, .lne] d (d.queueFlush q v) := by
  unfold Dev.queueFlush
  exact .ite .refl (.ite ((Dev.flushNow_evolves ..).mono) ((Dev.bump_evolves ..).mono))

theorem Dev.flushDone_evolves (d : Dev) (q : ℕ) : Evolves [.lne] d (d.flushDone q) := by
  unfold Dev.flushDone
  extract_lets
  exact .ite ((Dev.ringCheck_evolves ..).after <| (Dev.setLane_evolves ..).mono) .refl

theorem Dev.pairCellError_evolves (d : Dev) (k : ℕ) (n : ℕ) (header : Bool) : Evolves [.regs, .rng, .lne] d (d.pairCellError k n header) := by
  unfold Dev.pairCellError
  extract_lets
  exact .ite .refl ((Dev.bump_evolves ..).after <| (Dev.setLane_evolves ..).after <| (Dev.updPair_evolves ..).mono)

theorem Dev.cellError_evolves (d : Dev) (q : Option ℕ) (n : ℕ) (header : Bool) : Evolves fatalParts d (d.cellError q n header) := by
  unfold Dev.cellError
  split
  · exact .refl
  · extract_lets d1
    have hd1 : Evolves fatalParts d d1 := (Dev.fault_evolves ..).mono
    split
    · exact hd1
    · split
      · exact (Dev.pairCellError_evolves ..).after hd1
      · extract_lets
        split
        · exact hd1
        · exact .ite ((Dev.bump_evolves ..).after <| (Dev.setLane_evolves ..).after hd1) ((Dev.bump_evolves ..).after <| (Dev.setLane_evolves ..).after hd1)

theorem Dev.scanDone_evolves (d : Dev) (q : ℕ) : Evolves [.regs, .lne] d (d.scanDone q) := by
  unfold Dev.scanDone
  extract_lets
  exact (Dev.bump_evolves ..).after <| (Dev.setLane_evolves ..).mono

/-! ## TimeEng -/

theorem Dev.timeCheck_evolves (d : Dev) : Evolves (.tim :: reportParts) d d.timeCheck := by
  unfold Dev.timeCheck
  extract_lets _ _ d0 _ d1
  have hd0 : Evolves (.tim :: reportParts) d d0 := Evolves.tim.mono
  have hd1 : Evolves (.tim :: reportParts) d d1 := Evolves.tim.after hd0
  exact .ite hd0 ((Dev.recordPost_evolves ..).after hd1)

theorem Dev.realign_evolves (d : Dev) (back : Bool) : Evolves [.tim] d (d.realign back) := by
  unfold Dev.realign
  extract_lets
  exact Evolves.tim.mono

theorem Dev.stepTime_evolves (d : Dev) (by_ : ℤ) : Evolves (.tim :: .ctx :: .tar :: .cals :: .met :: reportParts) d (d.stepTime by_) := by
  unfold Dev.stepTime
  extract_lets _ _ _ _ _ _ _ _ d1 d2 d3 _ d4 d5
  have hd1 : Evolves (.tim :: .ctx :: .tar :: .cals :: .met :: reportParts) d d1 := .over [.tim, .tar, .cals, .met] .refl
  have hd2 : Evolves (.tim :: .ctx :: .tar :: .cals :: .met :: reportParts) d d2 := (Dev.realign_evolves ..).after <| (Dev.bump_evolves ..).after <| (Dev.wrb_evolves ..).after <| (Dev.mapCtx_evolves ..).after hd1
  have hd3 : Evolves (.tim :: .ctx :: .tar :: .cals :: .met :: reportParts) d d3 := (Dev.record_evolves ..).after hd2
  have hd4 : Evolves (.tim :: .ctx :: .tar :: .cals :: .met :: reportParts) d d4 := .ite ((Dev.record_evolves ..).after hd3) hd3
  have hd5 : Evolves (.tim :: .ctx :: .tar :: .cals :: .met :: reportParts) d d5 := .ite ((Dev.post_evolves ..).after hd4) hd4
  exact (Dev.timeCheck_evolves ..).after hd5

theorem Dev.setRate_evolves (d : Dev) (r : ℤ) : Evolves [.regs, .tim] d (d.setRate r) := by
  unfold Dev.setRate
  extract_lets y
  have hy : Evolves [.regs, .tim] d y := (Dev.wr_evolves ..).mono
  exact Evolves.tim.after hy

theorem Dev.lockCount_evolves (d : Dev) (o : ℤ) : Evolves [.regs, .tim] d (d.lockCount o) := by
  unfold Dev.lockCount
  extract_lets _ _ _ _ _ _ d1 y
  have hd1 : Evolves [.regs, .tim] d d1 := (Dev.wr_evolves ..).mono
  have hy : Evolves [.regs, .tim] d y := .ite hd1 ((Dev.stepDone_evolves ..).after hd1)
  exact Evolves.tim.after hy

theorem Dev.servo_evolves (d : Dev) (o : ℤ) : Evolves [.regs, .tim] d (d.servo o) := by
  unfold Dev.servo
  extract_lets _ _ _ d1
  have hd1 : Evolves [.regs, .tim] d d1 := (Dev.setRate_evolves ..).mono
  exact (Dev.lockCount_evolves ..).after <| Evolves.tim.after hd1

theorem Dev.endHoldover_evolves (d : Dev) : Evolves (.tim :: reportParts) d d.endHoldover := by
  unfold Dev.endHoldover
  split
  · exact .refl
  · rename_i y0 y1 y2
    extract_lets _ d1
    have hd1 : Evolves (.tim :: reportParts) d d1 := Evolves.tim.mono
    exact (Dev.recordPost_evolves ..).after <| (Dev.wrb_evolves ..).after hd1

theorem Dev.measure_evolves (d : Dev) (src : ℕ) (o : ℤ) : Evolves (.tim :: .ctx :: .tar :: .cals :: .met :: reportParts) d (d.measure src o) := by
  unfold Dev.measure
  split
  · exact .refl
  · extract_lets _ d0 _ d1 d2 _ s _ s1 d3 _ d4
    have hd0 : Evolves (.tim :: .ctx :: .tar :: .cals :: .met :: reportParts) d d0 := Evolves.tim.mono
    have hd1 : Evolves (.tim :: .ctx :: .tar :: .cals :: .met :: reportParts) d d1 := .ite hd0 ((Dev.post_evolves ..).after <| (Dev.wr_evolves ..).after hd0)
    have hd2 : Evolves (.tim :: .ctx :: .tar :: .cals :: .met :: reportParts) d d2 := (Dev.wr_evolves ..).after hd1
    have hs : Evolves (.tim :: .ctx :: .tar :: .cals :: .met :: reportParts) d s := (Dev.stepTime_evolves ..).after hd2
    have hs1 : Evolves (.tim :: .ctx :: .tar :: .cals :: .met :: reportParts) d s1 := Evolves.tim.after hs
    have hd3 : Evolves (.tim :: .ctx :: .tar :: .cals :: .met :: reportParts) d d3 := .ite ((Dev.wr_evolves ..).after hs1) ((Dev.servo_evolves ..).after hd2)
    have hd4 : Evolves (.tim :: .ctx :: .tar :: .cals :: .met :: reportParts) d d4 := Evolves.tim.after hd3
    exact (Dev.timeCheck_evolves ..).after <| (Dev.endHoldover_evolves ..).after hd4

theorem Dev.enterHoldover_evolves (d : Dev) (why : ℕ) : Evolves (.tim :: reportParts) d (d.enterHoldover why) := by
  unfold Dev.enterHoldover
  split
  · exact .refl
  · rename_i y0 y1
    extract_lets d1 _ d2 d3
    have hd1 : Evolves (.tim :: reportParts) d d1 := (Dev.setRate_evolves ..).mono
    have hd2 : Evolves (.tim :: reportParts) d d2 := Evolves.tim.after hd1
    have hd3 : Evolves (.tim :: reportParts) d d3 := (Dev.bump_evolves ..).after <| (Dev.wrb_evolves ..).after hd2
    exact (Dev.recordPost_evolves ..).after hd3

theorem Dev.sourceLost_evolves (d : Dev) (src : ℕ) : Evolves (.tim :: reportParts) d (d.sourceLost src) := by
  unfold Dev.sourceLost
  extract_lets _ _ d1 d2
  have hd1 : Evolves (.tim :: reportParts) d d1 := Evolves.tim.mono
  have hd2 : Evolves (.tim :: reportParts) d d2 := .ite hd1 ((Dev.enterHoldover_evolves ..).after hd1)
  exact .ite .refl ((Dev.timeCheck_evolves ..).after hd2)

theorem Dev.setPtp_evolves (d : Dev) (p : ℕ) (x : PtpPort) : Evolves [.regs, .tim] d (d.setPtp p x) := by
  unfold Dev.setPtp
  extract_lets y
  have hy : Evolves [.regs, .tim] d y := (Dev.wr_evolves ..).mono
  exact Evolves.tim.after hy

theorem Dev.bmca_evolves (d : Dev) : Evolves [.regs, .tim] d d.bmca := by
  unfold Dev.bmca
  extract_lets
  refine .foldl (fun x a => ?_) .refl
  extract_lets
  exact (Dev.setPtp_evolves ..).mono

theorem Dev.ptpOrigin_evolves (d : Dev) (p : ℕ) (rx : ℤ) (origin : ℤ) : Evolves (.tim :: .ctx :: .tar :: .cals :: .met :: reportParts) d (d.ptpOrigin p rx origin) := by
  unfold Dev.ptpOrigin
  extract_lets _ _ d1
  have hd1 : Evolves (.tim :: .ctx :: .tar :: .cals :: .met :: reportParts) d d1 := (Dev.setPtp_evolves ..).mono
  split
  · exact hd1
  · exact (Dev.measure_evolves ..).after <| (Dev.setPtp_evolves ..).after hd1

theorem Dev.takeCmp_evolves {d e : Dev} {owner : Nat} (h : d.takeCmp owner = some e) : Evolves [.tim] d e := by
  unfold Dev.takeCmp at h
  split at h
  · cases h; exact .refl
  · split at h
    · cases h; exact Evolves.tim
    · cases h

theorem Dev.dropCmp_evolves (d : Dev) (owner : ℕ) : Evolves [.tim] d (d.dropCmp owner) := by
  unfold Dev.dropCmp
  exact Evolves.tim.mono

theorem Dev.freeCmp_evolves (d : Dev) (owner : ℕ) : Evolves [.fn, .tim] d (d.freeCmp owner) := by
  unfold Dev.freeCmp
  extract_lets d1
  have hd1 : Evolves [.fn, .tim] d d1 := (Dev.dropCmp_evolves ..).mono
  split
  · exact hd1
  · split
    · rename_i y0 y1 y2
      exact .foldl (fun _ _ => (Dev.setFn_evolves ..).mono) ((Dev.takeCmp_evolves y2).after hd1)
    · exact hd1

theorem Dev.cmpRefused_evolves (d : Dev) : Evolves [.regs] d d.cmpRefused := by
  unfold Dev.cmpRefused
  exact (Dev.bump_evolves ..).after <| (Dev.wrb_evolves ..).mono

theorem Dev.htFire_evolves (d : Dev) (h : ℕ) : Evolves reportParts d (d.htFire h) := by
  unfold Dev.htFire
  exact (Dev.post_evolves ..).mono

theorem Dev.htAfter_evolves (d : Dev) (h : ℕ) : Evolves [.tim] d (d.htAfter h) := by
  unfold Dev.htAfter
  extract_lets
  exact Evolves.tim.mono

theorem Dev.htEnable_evolves (d : Dev) (h : ℕ) (on : Bool) : Evolves (.fn :: .tim :: reportParts) d (d.htEnable h on) := by
  unfold Dev.htEnable
  split
  · split
    · exact .refl
    · split
      · exact (Dev.cmpRefused_evolves ..).mono
      · rename_i y0 y1 y2
        extract_lets d2
        have hd2 : Evolves (.fn :: .tim :: reportParts) d d2 := (Dev.wrb_evolves ..).after <| (Dev.takeCmp_evolves y2).mono
        exact .ite ((Dev.htAfter_evolves ..).after <| (Dev.htFire_evolves ..).after <| (Dev.wrb_evolves ..).after hd2) (Evolves.tim.after hd2)
  · extract_lets d1
    have hd1 : Evolves (.fn :: .tim :: reportParts) d d1 := (Dev.freeCmp_evolves ..).after <| (Dev.wrb_evolves ..).mono
    exact Evolves.tim.after hd1

theorem Dev.ppsEnable_evolves (d : Dev) (n : ℕ) (on : Bool) : Evolves [.regs, .fn, .tim] d (d.ppsEnable n on) := by
  unfold Dev.ppsEnable
  split
  · split
    · exact .refl
    · split
      · exact (Dev.cmpRefused_evolves ..).mono
      · rename_i y0 y1 y2
        extract_lets d2
        have hd2 : Evolves [.regs, .fn, .tim] d d2 := (Dev.wrb_evolves ..).after <| (Dev.takeCmp_evolves y2).mono
        exact .ite ((Dev.wrb_evolves ..).after hd2) (Evolves.tim.after hd2)
  · extract_lets d1
    have hd1 : Evolves [.regs, .fn, .tim] d d1 := (Dev.freeCmp_evolves ..).after <| (Dev.wrb_evolves ..).mono
    exact Evolves.tim.after hd1

theorem Dev.htCfgWrite_evolves (d : Dev) (h : ℕ) (v : ℕ) : Evolves (.fn :: .tim :: reportParts) d (d.htCfgWrite h v) := by
  unfold Dev.htCfgWrite
  extract_lets d1
  have hd1 : Evolves (.fn :: .tim :: reportParts) d d1 := .ite ((Dev.wrb_evolves ..).mono) .refl
  exact (Dev.htEnable_evolves ..).after hd1

theorem Dev.ppsCfgWrite_evolves (d : Dev) (n : ℕ) (v : ℕ) : Evolves [.regs, .dirty, .fn, .tim] d (d.ppsCfgWrite n v) := by
  unfold Dev.ppsCfgWrite
  extract_lets d1 d2
  have hd1 : Evolves [.regs, .dirty, .fn, .tim] d d1 := .ite ((Dev.wrb_evolves ..).mono) .refl
  have hd2 : Evolves [.regs, .dirty, .fn, .tim] d d2 := (Dev.touch_evolves ..).after <| (Dev.wr_evolves ..).after hd1
  exact (Dev.ppsEnable_evolves ..).after hd2

theorem Dev.ppsEdge_evolves (d : Dev) (n : ℕ) (t : ℕ) : Evolves [.tim, .evr, .out] d (d.ppsEdge n t) := by
  unfold Dev.ppsEdge
  extract_lets d1 _ _ _ d2
  have hd1 : Evolves [.tim, .evr, .out] d d1 := (Dev.toNs_evolves ..).mono
  have hd2 : Evolves [.tim, .evr, .out] d d2 := Evolves.tim.after hd1
  exact .ite hd2 ((Dev.emit_evolves ..).after <| Evolves.tim.after hd2)

theorem Dev.capture_evolves (d : Dev) (n : ℕ) (rising : Bool) : Evolves [.regs, .tim] d (d.capture n rising) := by
  unfold Dev.capture
  extract_lets
  exact .ite (.ite Evolves.tim.mono ((Dev.wrb_evolves ..).mono)) .refl

theorem Dev.capPop_evolves (d : Dev) (n : ℕ) : Evolves [.tim, .out] d (d.capPop n) := by
  unfold Dev.capPop
  split
  · exact (Dev.emit_evolves ..).mono
  · exact (Dev.emit_evolves ..).after <| Evolves.tim.mono

theorem Dev.txStamp_evolves (d0 : Dev) (p : ℕ) (id : ℕ) : Evolves [.regs, .tim, .freeCtr] d0 (d0.txStamp p id) := by
  unfold Dev.txStamp
  split
  · rename_i y0 y1 y2 y3
    extract_lets
    exact .ite (Evolves.tim.after <| ((Dev.fresh_evolves ..).of_snd y3).mono) ((Dev.bump_evolves ..).after <| (Dev.wrb_evolves ..).after <| ((Dev.fresh_evolves ..).of_snd y3).mono)

theorem Dev.txqPop_evolves (d : Dev) (p : ℕ) (v : ℕ) : Evolves [.regs, .tim] d (d.txqPop p v) := by
  unfold Dev.txqPop
  split
  · exact .refl
  · split
    · exact (Dev.wrb_evolves ..).mono
    · rename_i y0 y1 y2 y3 y4
      extract_lets _ d1
      have hd1 : Evolves [.regs, .tim] d d1 := Evolves.tim.mono
      exact (Dev.setWord_evolves ..).after <| (Dev.setWord_evolves ..).after <| (Dev.setWord_evolves ..).after hd1

theorem Dev.beaconDue_evolves (d : Dev) (p : ℕ) : Evolves [.tim, .evr] d (d.beaconDue p) := by
  unfold Dev.beaconDue
  split
  · exact .refl
  · rename_i y0 y1 y2
    split
    · extract_lets d1
      have hd1 : Evolves [.tim, .evr] d d1 := (Dev.toNs_evolves ..).mono
      exact Evolves.tim.after hd1
    · exact .refl

/-! ## EthPort -/

theorem Dev.pauseEnd_evolves (d : Dev) (p : ℕ) : Evolves (.eth :: reportParts) d (d.pauseEnd p) := by
  unfold Dev.pauseEnd
  extract_lets
  split
  · exact .refl
  · exact (Dev.ethCount_evolves ..).after <| (Dev.wrb_evolves ..).after <| (Dev.setEp_evolves ..).mono

theorem Dev.pauseRx_evolves (d : Dev) (p : ℕ) (quanta : ℕ) : Evolves (.eth :: reportParts) d (d.pauseRx p quanta) := by
  unfold Dev.pauseRx
  extract_lets d1
  have hd1 : Evolves (.eth :: reportParts) d d1 := (Dev.ethCount_evolves ..).mono
  exact .ite hd1 (.ite ((Dev.pauseEnd_evolves ..).after hd1) ((Dev.wrb_evolves ..).after <| (Dev.setEp_evolves ..).after hd1))

theorem Dev.mgtRx_evolves (d : Dev) (p : ℕ) (f : EthRx) : Evolves (.eth :: reportParts) d (d.mgtRx p f) := by
  unfold Dev.mgtRx
  extract_lets
  split
  · exact (Dev.ethCount_evolves ..).mono
  · split
    · rename_i y0 y1 y2 y3
      exact (Dev.setEp_evolves ..).after <| ((Dev.fresh_evolves ..).of_snd y3).mono

theorem Dev.ethAccept_evolves (d : Dev) (p : ℕ) (f : EthRx) : Evolves (.eth :: reportParts) d (d.ethAccept p f) := by
  unfold Dev.ethAccept
  extract_lets d1 d2
  have hd1 : Evolves (.eth :: reportParts) d d1 := (Dev.ethCount_evolves ..).after <| (Dev.ethCount_evolves ..).mono
  have hd2 : Evolves (.eth :: reportParts) d d2 := by
    unfold d2
    split
    · exact hd1
    · exact hd1
    · exact (Dev.ethCount_evolves ..).after hd1
  split
  · exact (Dev.offer_evolves ..).after hd2
  · exact .ite hd2 ((Dev.ethQueue_evolves ..).after hd2)
  · exact (Dev.mgtRx_evolves ..).after hd2
  · exact hd2

theorem Dev.ptpOut_evolves (d : Dev) (p : ℕ) (kind : ℕ) (seq : ℕ) (t : ℤ) : Evolves (.eth :: reportParts) d (d.ptpOut p kind seq t) := by
  unfold Dev.ptpOut
  exact .ite ((Dev.ethCount_evolves ..).after <| (Dev.ethCount_evolves ..).after <| (Dev.emit_evolves ..).mono) ((Dev.ethCount_evolves ..).mono)

theorem Dev.ptpRx_evolves (d : Dev) (p : ℕ) (m : PtpMsg) : Evolves (.tim :: .ctx :: .tar :: .cals :: .met :: .eth :: reportParts) d (d.ptpRx p m) := by
  unfold Dev.ptpRx
  split
  · exact .refl
  · extract_lets
    split
    · rename_i y0 y1 y2 y3 y4 y5 y6 y7 y8 y9 y10 y11
      split
      · exact .refl
      · extract_lets _ _ d1
        have hd1 : Evolves (.tim :: .ctx :: .tar :: .cals :: .met :: .eth :: reportParts) d d1 := (Dev.bmca_evolves ..).after (.ite ((Dev.setPtp_evolves ..).mono) .refl)
        exact .ite ((Dev.wrb_evolves ..).after <| Evolves.tim.after hd1) hd1
    · split
      · exact .refl
      · extract_lets
        exact .ite ((Dev.setPtp_evolves ..).mono) ((Dev.ptpOrigin_evolves ..).mono)
    · split
      · exact .refl
      · split
        · exact .ite ((Dev.ptpOrigin_evolves ..).mono) .refl
        · exact .refl
    · split
      · exact .refl
      · split
        · exact .ite (.ite ((Dev.setPtp_evolves ..).mono) ((Dev.setPtp_evolves ..).mono)) .refl
        · exact .ite ((Dev.setPtp_evolves ..).mono) .refl
        · exact .refl
    · exact .ite .refl ((Dev.ptpOut_evolves ..).mono)
    · exact .refl

theorem Dev.ptpFollow_evolves (d : Dev) (p : ℕ) (kind : ℕ) (seq : ℕ) (t : ℤ) : Evolves (.eth :: reportParts) d (d.ptpFollow p kind seq t) := by
  unfold Dev.ptpFollow
  exact .ite ((Dev.ptpOut_evolves ..).mono) .refl

theorem Dev.ptpSend_evolves (d : Dev) (p : ℕ) (kind : ℕ) : Evolves (.tim :: .eth :: reportParts) d (d.ptpSend p kind) := by
  unfold Dev.ptpSend
  split
  · exact .refl
  · extract_lets d0
    have hd0 : Evolves (.tim :: .eth :: reportParts) d d0 := (Dev.bmca_evolves ..).mono
    exact .ite ((Dev.ptpFollow_evolves ..).after <| (Dev.ptpOut_evolves ..).after <| (Dev.setPtp_evolves ..).after hd0) hd0

theorem Dev.txStamped_evolves (d : Dev) (p : ℕ) (t : EthTx) : Evolves [.regs, .tim, .fl, .freeCtr] d (d.txStamped p t) := by
  unfold Dev.txStamped
  extract_lets
  split
  · refine .foldl (fun x a => ?_) .refl
    split
    · exact (Dev.setFd_evolves ..).mono
    · exact Evolves.tim.mono
    · exact .refl
  · split
    · exact (Dev.txStamp_evolves ..).mono
    · exact .refl

theorem Dev.ethSend_evolves (d : Dev) (p : ℕ) : Evolves (.tim :: .eth :: .fl :: reportParts) d (d.ethSend p) := by
  unfold Dev.ethSend
  split
  · exact .refl
  · rename_i y0 y1 y2 y3
    extract_lets _ d1 d2 d3
    have hd1 : Evolves (.tim :: .eth :: .fl :: reportParts) d d1 := (Dev.emit_evolves ..).after <| (Dev.setEp_evolves ..).mono
    have hd2 : Evolves (.tim :: .eth :: .fl :: reportParts) d d2 := (Dev.ethCount_evolves ..).after <| (Dev.ethCount_evolves ..).after <| (Dev.ethCount_evolves ..).after hd1
    have hd3 : Evolves (.tim :: .eth :: .fl :: reportParts) d d3 := .ite hd2 ((Dev.wrb_evolves ..).after hd2)
    exact (Dev.txStamped_evolves ..).after hd3

theorem Dev.ethDiscard_evolves (d : Dev) (p : ℕ) : Evolves (.eth :: reportParts) d (d.ethDiscard p) := by
  unfold Dev.ethDiscard
  extract_lets
  exact (Dev.wrb_evolves ..).after <| (Dev.ethCount_evolves ..).after <| (Dev.setEp_evolves ..).mono

theorem Dev.ethDown_evolves (d : Dev) (p : ℕ) : Evolves (.eth :: reportParts) d (d.ethDown p) := by
  unfold Dev.ethDown
  split
  · exact .refl
  · extract_lets d1
    have hd1 : Evolves (.eth :: reportParts) d d1 := (Dev.ethDiscard_evolves ..).after <| (Dev.ethCount_evolves ..).after <| (Dev.wrb_evolves ..).mono
    exact (Dev.setEp_evolves ..).after hd1

theorem Dev.mgtGo_evolves (d : Dev) (p : ℕ) (v : ℕ) : Evolves (.dirty :: .eth :: reportParts) d (d.mgtGo p v) := by
  unfold Dev.mgtGo
  extract_lets _ d1
  have hd1 : Evolves (.dirty :: .eth :: reportParts) d d1 := (Dev.plainWrite_evolves ..).mono
  exact .ite hd1 (.ite ((Dev.wrb_evolves ..).after hd1) (.ite hd1 (.ite ((Dev.wrb_evolves ..).after <| (Dev.ethQueue_evolves ..).after hd1) ((Dev.ethQueue_evolves ..).after hd1))))

/-! ## ImgOps -/

theorem Dev.campState_evolves (d : Dev) (g : ℕ) (st : ℕ) : Evolves (.img :: reportParts) d (d.campState g st) := by
  unfold Dev.campState
  split
  · exact .refl
  · exact .ite .refl ((Dev.post_evolves ..).after <| Evolves.img.mono)

theorem Dev.campCheck_evolves (d : Dev) (g : ℕ) : Evolves (.img :: reportParts) d (d.campCheck g) := by
  unfold Dev.campCheck
  split
  · exact .ite ((Dev.campState_evolves ..).mono) .refl
  · exact .refl

theorem Dev.imgSet_evolves (d : Dev) (m : ℕ) (st : ℕ) : Evolves (.ctx :: .img :: reportParts) d (d.imgSet m st) := by
  unfold Dev.imgSet
  split
  · exact .refl
  · rename_i y0 y1 y2
    extract_lets d1 _ d2 d3 d4
    have hd1 : Evolves (.ctx :: .img :: reportParts) d d1 := (Dev.editCtx_evolves ..).mono
    have hd2 : Evolves (.ctx :: .img :: reportParts) d d2 := Evolves.img.after hd1
    have hd3 : Evolves (.ctx :: .img :: reportParts) d d3 := (Dev.post_evolves ..).after hd2
    have hd4 : Evolves (.ctx :: .img :: reportParts) d d4 := .ite ((Dev.bump_evolves ..).after hd3) (.ite ((Dev.bump_evolves ..).after hd3) hd3)
    exact .ite ((Dev.campCheck_evolves ..).after hd4) hd2

theorem Dev.imgWait_evolves (d : Dev) (m : ℕ) (c : Ctx) (blocks : ℕ) : Evolves (.ctx :: .img :: reportParts) d (d.imgWait m c blocks) := by
  unfold Dev.imgWait
  extract_lets d1 _ d2
  have hd1 : Evolves (.ctx :: .img :: reportParts) d d1 := (Dev.editCtx_evolves ..).mono
  have hd2 : Evolves (.ctx :: .img :: reportParts) d d2 := Evolves.img.after hd1
  exact .ite hd2 ((Dev.imgSet_evolves ..).after hd2)

theorem Dev.imgJoin_evolves (d : Dev) (m : ℕ) : Evolves (.ctx :: .img :: reportParts) d (d.imgJoin m) := by
  unfold Dev.imgJoin
  split
  · exact .refl
  · split
    · exact (Dev.imgWait_evolves ..).mono
    · exact .refl

theorem Dev.imgCount_evolves (d : Dev) (m : ℕ) (miss : ℕ × ℕ) (carried : Bool) : Evolves (.ctx :: .img :: reportParts) d (d.imgCount m miss carried) := by
  unfold Dev.imgCount
  split
  · exact .refl
  · rename_i y0 y1 y2
    extract_lets _ d1
    have hd1 : Evolves (.ctx :: .img :: reportParts) d d1 := (Dev.editCtx_evolves ..).mono
    exact .ite ((Dev.imgSet_evolves ..).after hd1) (.ite (.ite ((Dev.imgSet_evolves ..).after hd1) (Evolves.img.after hd1)) (Evolves.img.after hd1))

theorem Dev.imgAnswer_evolves (d : Dev) (m : ℕ) (data : MData) (carried : Bool) : Evolves (.ctx :: .img :: reportParts) d (d.imgAnswer m data carried) := by
  unfold Dev.imgAnswer
  split
  · exact .refl
  · split
    · exact .refl
    · split
      · exact .ite ((Dev.imgSet_evolves ..).mono) (.ite ((Dev.imgSet_evolves ..).mono) ((Dev.imgCount_evolves ..).after <| (Dev.imgSet_evolves ..).mono))
      · split
        · split
          · exact (Dev.imgSet_evolves ..).mono
          · split
            · exact (Dev.imgCount_evolves ..).mono
            · exact .refl
        · exact .ite (.ite ((Dev.imgSet_evolves ..).mono) ((Dev.imgSet_evolves ..).mono)) (.ite (.ite ((Dev.imgSet_evolves ..).mono) (.ite (.ite ((Dev.imgSet_evolves ..).mono) ((Dev.imgSet_evolves ..).mono)) Evolves.img.mono)) .refl)

/-! ## TarTables -/

theorem Dev.setGrpTar_evolves (d : Dev) (g : ℕ) (t : GrpTar) : Evolves [.tar] d (d.setGrpTar g t) := by
  unfold Dev.setGrpTar
  exact Evolves.tar.mono

/-! ## TarOps -/

theorem Dev.setExt_evolves (d : Dev) (m : ℕ) (e : Ext) : Evolves [.tar] d (d.setExt m e) := by
  unfold Dev.setExt
  exact Evolves.tar.mono

theorem Dev.setBook_evolves (d : Dev) (m : ℕ) (seq : ℕ) (code : ℕ) : Evolves [.ldg] d (d.setBook m seq code) := by
  unfold Dev.setBook
  split
  · exact .refl
  · extract_lets
    exact Evolves.ldg.mono

theorem Dev.effective_evolves (d : Dev) (e : JEntry) : Evolves [.tar, .ldg] d (d.effective e) := by
  unfold Dev.effective
  extract_lets _ d1
  have hd1 : Evolves [.tar, .ldg] d d1 := by
    unfold d1
    split
    · exact Evolves.tar.mono
    · exact .refl
  split
  · exact (Dev.setBook_evolves ..).after hd1
  · exact hd1

theorem Dev.closeHalf_evolves (d : Dev) : Evolves (.tar :: reportParts) d d.closeHalf := by
  unfold Dev.closeHalf
  extract_lets _ _ d1
  have hd1 : Evolves (.tar :: reportParts) d d1 := Evolves.tar.mono
  exact (Dev.offer_evolves ..).after hd1

theorem Dev.journal_evolves (d : Dev) (what : JWhat) (mix : Option ℕ) (ext : Option Ext) (out : Option (ℕ × ℕ × ℕ)) : Evolves (.tar :: .par :: .ldg :: reportParts) d (d.journal what mix ext out) := by
  unfold Dev.journal
  extract_lets _ _ d1 _ d2
  have hd1 : Evolves (.tar :: .par :: .ldg :: reportParts) d d1 := Evolves.tar.mono
  have hd2 : Evolves (.tar :: .par :: .ldg :: reportParts) d d2 := .ite ((Dev.pairSend_evolves ..).after <| Evolves.tar.after hd1) ((Dev.effective_evolves ..).after hd1)
  exact .ite ((Dev.closeHalf_evolves ..).after hd2) hd2

theorem Dev.journalExt_evolves (d : Dev) (m : ℕ) (what : JWhat) (f : ℕ → Ext → Ext) (out : Option (ℕ × ℕ × ℕ)) : Evolves (.tar :: .par :: .ldg :: reportParts) d (d.journalExt m what f out) := by
  unfold Dev.journalExt
  split
  · exact .refl
  · extract_lets
    exact (Dev.journal_evolves ..).after <| (Dev.setExt_evolves ..).mono

theorem Dev.loadsDone_evolves (d : Dev) : Evolves [.regs, .rng, .tar] d d.loadsDone := by
  unfold Dev.loadsDone
  extract_lets _ _ d1
  have hd1 : Evolves [.regs, .rng, .tar] d d1 := Evolves.tar.mono
  exact .foldl (fun _ _ => (Dev.complete_evolves ..).mono) hd1

theorem Dev.acknowledge_evolves (d : Dev) (seq : ℕ) : Evolves [.regs, .rng, .tar, .ldg] d (d.acknowledge seq) := by
  unfold Dev.acknowledge
  extract_lets _ _ d1
  have hd1 : Evolves [.regs, .rng, .tar, .ldg] d d1 := Evolves.tar.mono
  exact (Dev.loadsDone_evolves ..).after (.foldl (fun _ _ => (Dev.effective_evolves ..).mono) hd1)

theorem Dev.openExt_evolves (d : Dev) (m : ℕ) : Evolves (.tar :: .par :: .ldg :: reportParts) d (d.openExt m) := by
  unfold Dev.openExt
  split
  · exact .refl
  · rename_i y0 y1 y2
    extract_lets d1
    have hd1 : Evolves (.tar :: .par :: .ldg :: reportParts) d d1 := (Dev.setExt_evolves ..).mono
    exact (Dev.journalExt_evolves ..).after hd1

theorem Dev.finalExt_evolves (d : Dev) (m : ℕ) : Evolves (.tar :: .par :: .ldg :: reportParts) d (d.finalExt m) := by
  unfold Dev.finalExt
  exact (Dev.journalExt_evolves ..).mono

theorem Dev.setTamper_evolves (d : Dev) (m : ℕ) (bits : ℕ) : Evolves (.tar :: .par :: .ldg :: reportParts) d (d.setTamper m bits) := by
  unfold Dev.setTamper
  split
  · exact .refl
  · extract_lets
    exact .ite .refl ((Dev.post_evolves ..).after <| (Dev.journalExt_evolves ..).mono)

theorem Dev.sweepMeter_evolves (d : Dev) (m : ℕ) (instant : ℕ) : Evolves (.tar :: .par :: .ldg :: reportParts) d (d.sweepMeter m instant) := by
  unfold Dev.sweepMeter
  split
  · exact .refl
  · rename_i y0 y1 y2
    split
    · exact .refl
    · extract_lets _ _ _ _ _ d1
      have hd1 : Evolves (.tar :: .par :: .ldg :: reportParts) d d1 := Evolves.tar.mono
      exact (Dev.journalExt_evolves ..).after <| (Dev.offer_evolves ..).after hd1

theorem Dev.sweepTake_evolves (d : Dev) (s : Sweep) (m : ℕ) : Evolves (.tar :: .par :: .ldg :: reportParts) d (d.sweepTake s m) := by
  unfold Dev.sweepTake
  extract_lets d1
  have hd1 : Evolves (.tar :: .par :: .ldg :: reportParts) d d1 := (Dev.sweepMeter_evolves ..).mono
  exact Evolves.tar.after hd1

theorem Dev.startSweep_evolves (d : Dev) (g : ℕ) (instant : ℕ) : Evolves [.regs, .tar] d (d.startSweep g instant) := by
  unfold Dev.startSweep
  extract_lets
  exact (Dev.wrb_evolves ..).after <| Evolves.tar.mono

theorem Dev.endSweep_evolves (d : Dev) (s : Sweep) : Evolves (.tar :: .par :: .ldg :: reportParts) d (d.endSweep s) := by
  unfold Dev.endSweep
  extract_lets d1 _ d2
  have hd1 : Evolves (.tar :: .par :: .ldg :: reportParts) d d1 := .foldl (fun _ _ => (Dev.sweepTake_evolves ..).mono) .refl
  have hd2 : Evolves (.tar :: .par :: .ldg :: reportParts) d d2 := (Dev.setGrpTar_evolves ..).after hd1
  exact (Dev.wrb_evolves ..).after <| Evolves.tar.after hd2

theorem Dev.activate_evolves (d : Dev) (g : ℕ) : Evolves (.tar :: .par :: .ldg :: reportParts) d (d.activate g) := by
  unfold Dev.activate
  extract_lets
  split
  · extract_lets
    exact (Dev.offer_evolves ..).after <| (Dev.journal_evolves ..).after <| (Dev.setGrpTar_evolves ..).mono
  · exact .refl

theorem Dev.book_evolves (d : Dev) (b : BookEntry) : Evolves (.tar :: .par :: .ldg :: reportParts) d (d.book b) := by
  unfold Dev.book
  split
  · rename_i y0 y1 y2 y3 y4 y5
    split
    · exact (Dev.setBook_evolves ..).mono
    · split
      · exact (Dev.setBook_evolves ..).after <| (Dev.bump_evolves ..).mono
      · extract_lets d1 _ _ _ _ _ _ _ _ d2 d3 d4 y _ d5
        have hd1 : Evolves (.tar :: .par :: .ldg :: reportParts) d d1 := by
          unfold d1
          split
          · exact .ite ((Dev.sweepTake_evolves ..).mono) .refl
          · exact .refl
        have hd2 : Evolves (.tar :: .par :: .ldg :: reportParts) d d2 := (Dev.bumpW_evolves ..).after hd1
        have hd3 : Evolves (.tar :: .par :: .ldg :: reportParts) d d3 := .ite ((Dev.bump_evolves ..).after hd2) hd2
        have hd4 : Evolves (.tar :: .par :: .ldg :: reportParts) d d4 := .ite ((Dev.bump_evolves ..).after hd3) hd3
        have hy : Evolves (.tar :: .par :: .ldg :: reportParts) d y := (Dev.bump_evolves ..).after hd4
        have hd5 : Evolves (.tar :: .par :: .ldg :: reportParts) d d5 := .ite hd4 (Evolves.tar.after hy)
        exact (Dev.journalExt_evolves ..).after hd5
  · exact (Dev.setBook_evolves ..).mono

theorem Dev.applyMirror_evolves (d : Dev) (seq : Nat) (w : JWhat) : Evolves (.tar :: reportParts) d (d.applyMirror seq w) := by
  unfold Dev.applyMirror
  extract_lets upd _ r e _ _ d1
  have hupd (x : Dev) (m : Nat) (f : Ext → Ext) : Evolves [.tar] x (upd x m f).1 := by
    unfold upd
    split
    · exact Evolves.tar.after (Dev.setExt_evolves ..)
    · exact .refl
  have hr : Evolves (.tar :: reportParts) d r.1 := by
    clear_value upd
    cases w with
    | booking => exact (hupd ..).mono
    | marker => exact .refl
    | activation =>
      unfold r
      dsimp only
      split
      · exact (Dev.setGrpTar_evolves ..).mono
      · exact .refl
    | closed =>
      unfold r
      dsimp only
      split
      · exact (hupd ..).after <| (Dev.offer_evolves ..).after Evolves.tar.mono
      · exact .refl
    | tamper => exact (hupd ..).mono
    | opened => exact Evolves.tar.after (Dev.setExt_evolves ..).mono
    | final => exact (hupd ..).mono
    | armed => exact (Dev.setGrpTar_evolves ..).mono
    | loaded =>
      unfold r
      dsimp only
      split
      · exact (Dev.setGrpTar_evolves ..).mono
      · exact .refl
  have h1 : Evolves (.tar :: reportParts) d d1 := Evolves.tar.after hr
  exact .ite ((Dev.closeHalf_evolves ..).after h1) h1

/-! ## LdgOps -/

theorem Dev.setLdgM_evolves (d : Dev) (m : ℕ) (x : LdgMeter) : Evolves [.ldg] d (d.setLdgM m x) := by
  unfold Dev.setLdgM
  exact Evolves.ldg.mono

theorem Dev.appendLog_evolves (d : Dev) (m : ℕ) (e0 : LogEnt) : Evolves [.ctx, .ldg] d (d.appendLog m e0) := by
  unfold Dev.appendLog
  split
  · exact .refl
  · extract_lets
    exact (Dev.editCtx_evolves ..).after <| (Dev.setLdgM_evolves ..).mono

theorem Dev.genesis_evolves (d : Dev) (m : ℕ) : Evolves [.ctx, .ldg] d (d.genesis m) := by
  unfold Dev.genesis
  split
  · exact .refl
  · exact (Dev.appendLog_evolves ..).after <| (Dev.setLdgM_evolves ..).mono

theorem Dev.sealLog_evolves (d : Dev) (m : ℕ) : Evolves [.ctx, .ldg] d (d.sealLog m) := by
  unfold Dev.sealLog
  exact (Dev.appendLog_evolves ..).mono

theorem Dev.handOver_evolves (d : Dev) (m : ℕ) (start : ℕ) (value : ℕ) (first : Bool) (timeInvalid : Bool) (seq : ℕ) : Evolves reportParts d (d.handOver m start value first timeInvalid seq) := by
  unfold Dev.handOver
  exact (Dev.offer_evolves ..).mono

theorem Dev.logInterval_evolves (d : Dev) (m : ℕ) (cls : ℕ) (start : ℕ) (value : ℕ) (reg : Option ℕ) (vee : ℕ) (ref : ℕ) (rx : ℕ) : Evolves (.ctx :: .ldg :: reportParts) d (d.logInterval m cls start value reg vee ref rx) := by
  unfold Dev.logInterval
  split
  · exact .refl
  · rename_i y0 y1 y2
    extract_lets _ _ _ _ d1 _ d2 d3 d4
    have hd1 : Evolves (.ctx :: .ldg :: reportParts) d d1 := (Dev.appendLog_evolves ..).mono
    have hd2 : Evolves (.ctx :: .ldg :: reportParts) d d2 := (Dev.editCtx_evolves ..).after <| (Dev.setLdgM_evolves ..).after hd1
    have hd3 : Evolves (.ctx :: .ldg :: reportParts) d d3 := (Dev.bumpW_evolves ..).after hd2
    have hd4 : Evolves (.ctx :: .ldg :: reportParts) d d4 := .ite ((Dev.bump_evolves ..).after hd3) hd3
    exact .ite ((Dev.handOver_evolves ..).after hd4) hd4

theorem Dev.logFrame_evolves (d : Dev) (m : Nat) (raw : List Byte) (counter rx suite : Nat) :
    Evolves [.ctx, .ldg] d (d.logFrame m raw counter rx suite) :=
  .foldl_via (fun s : Nat × Dev => s.2) (fun _ _ => Dev.appendLog_evolves ..) .refl

theorem Dev.clockFresh_evolves (d : Dev) (m : ℕ) : Evolves [.ldg] d (d.clockFresh m) := by
  unfold Dev.clockFresh
  exact (Dev.setLdgM_evolves ..).mono

theorem Dev.setClass_evolves (d : Dev) (m : ℕ) (cls : ℕ) : Evolves (.ctx :: .ldg :: reportParts) d (d.setClass m cls) := by
  unfold Dev.setClass
  split
  · exact .refl
  · rename_i y0 y1 y2
    split
    · exact .refl
    · extract_lets d1
      have hd1 : Evolves (.ctx :: .ldg :: reportParts) d d1 := (Dev.post_evolves ..).after <| (Dev.editCtx_evolves ..).mono
      exact .ite ((Dev.setLdgM_evolves ..).after hd1) hd1

theorem Dev.clockMeasure_evolves (d : Dev) (m : ℕ) (data : MData) (rx : ℕ) : Evolves (.ctx :: .ldg :: reportParts) d (d.clockMeasure m data rx) := by
  unfold Dev.clockMeasure
  extract_lets d1
  have hd1 : Evolves (.ctx :: .ldg :: reportParts) d d1 := .ite ((Dev.clockFresh_evolves ..).mono) .refl
  split
  · exact .ite ((Dev.setClass_evolves ..).after hd1) hd1
  · rename_i y0 y1 y2
    extract_lets _ _ d2
    have hd2 : Evolves (.ctx :: .ldg :: reportParts) d d2 := (Dev.editCtx_evolves ..).after <| (Dev.setLdgM_evolves ..).after hd1
    exact (Dev.setClass_evolves ..).after hd2

theorem Dev.item_evolves (d : Dev) (m : ℕ) (data : MData) (rx : ℕ) (ref : ℕ) (it : MItem) : Evolves (.ctx :: .ldg :: reportParts) d (d.item m data rx ref it) := by
  unfold Dev.item
  split
  · exact .refl
  · rename_i y0 y1 y2
    extract_lets _ _ _ _ _ _ _ _ _ _ _ _ _ _ _ _ _ _ _ _ _ _ _ _ d1 d2 d3 d4
    have hd1 : Evolves (.ctx :: .ldg :: reportParts) d d1 := (Dev.setLdgM_evolves ..).mono
    have hd2 : Evolves (.ctx :: .ldg :: reportParts) d d2 := (Dev.logInterval_evolves ..).after hd1
    have hd3 : Evolves (.ctx :: .ldg :: reportParts) d d3 := .ite ((Dev.bump_evolves ..).after <| (Dev.editCtx_evolves ..).after hd2) ((Dev.editCtx_evolves ..).after hd2)
    have hd4 : Evolves (.ctx :: .ldg :: reportParts) d d4 := .ite ((Dev.post_evolves ..).after <| (Dev.bump_evolves ..).after hd3) hd3
    exact .ite ((Dev.bump_evolves ..).mono) (.ite ((Dev.post_evolves ..).after <| (Dev.setLdgM_evolves ..).after hd4) hd4)

theorem Dev.reading_evolves (d : Dev) (m : ℕ) (rx : ℕ) (reg : ℕ) : Evolves (.ctx :: .ldg :: reportParts) d (d.reading m rx reg) := by
  unfold Dev.reading
  split
  · exact .refl
  · rename_i y0 y1 y2
    extract_lets x _ _ _ d1
    have hd1 : Evolves (.ctx :: .ldg :: reportParts) d d1 := (Dev.setLdgM_evolves ..).mono
    refine .foldl (fun x a => ?_) hd1
    extract_lets
    split
    · exact (Dev.editCtx_evolves ..).after <| (Dev.logInterval_evolves ..).mono
    · exact .refl

theorem Dev.ledger_evolves (d : Dev) (m : ℕ) (f : MFrame) (rx : ℕ) : Evolves (.ctx :: .ldg :: reportParts) d (d.ledger m f rx) := by
  unfold Dev.ledger
  extract_lets d1
  have hd1 : Evolves (.ctx :: .ldg :: reportParts) d d1 := (Dev.clockMeasure_evolves ..).mono
  split
  · exact hd1
  · rename_i y0 y1 y2
    extract_lets _ d2 d3
    have hd2 : Evolves (.ctx :: .ldg :: reportParts) d d2 := .ite ((Dev.logFrame_evolves ..).after hd1) hd1
    have hd3 : Evolves (.ctx :: .ldg :: reportParts) d d3 := .foldl (fun _ _ => (Dev.item_evolves ..).mono) hd2
    exact .ite (.foldl (fun _ _ => (Dev.editCtx_evolves ..).after <| (Dev.reading_evolves ..).mono) hd3) hd3

theorem Dev.fillRun_evolves (d : Dev) (m : ℕ) (starts : List ℕ) (growth : ℕ) : Evolves (.ctx :: .ldg :: reportParts) d (d.fillRun m starts growth) := by
  unfold Dev.fillRun
  extract_lets
  exact .foldl (fun _ _ => (Dev.logInterval_evolves ..).mono) .refl

/-! ## Contexts -/

/-- A descriptor that names a MIX changes what its meaning changes, where that covers a completion. -/
theorem Evolves.withCtx {ps : List Part} {f : Nat → Ctx → Dev} {d e : Dev} {p : Nat} {g : Held} (hf : ∀ m c, Evolves ps d (f m c))
    (h : Evolves ps d e) (hs : [.regs, .rng] ⊆ ps := by decide) : Evolves ps d (e.withCtx p g f) := by
  have hdone (st : Nat) : Evolves ps d (e.complete p g.id st 0) := (Dev.complete_evolves ..).after h hs
  unfold Dev.withCtx
  split
  · exact hdone _
  · split
    · exact hf _ _
    · exact hdone _

theorem Dev.newCtx_evolves (d : Dev) (m : ℕ) (c : Ctx) (admitted : Bool) : Evolves (.ctx :: .tar :: .par :: .ldg :: reportParts) d (d.newCtx m c admitted) := by
  unfold Dev.newCtx
  extract_lets d1
  have hd1 : Evolves (.ctx :: .tar :: .par :: .ldg :: reportParts) d d1 := (Dev.putCtx_evolves ..).mono
  exact .ite ((Dev.genesis_evolves ..).after <| (Dev.openExt_evolves ..).after hd1) hd1

theorem Dev.ctxAdmit_evolves (d : Dev) (p : ℕ) (moves : List (Fin 4)) (h : Held) : Evolves (.ctx :: .tar :: .par :: .img :: .ldg :: reportParts) d (d.ctxAdmit p moves h) := by
  unfold Dev.ctxAdmit
  extract_lets _ _ _ _ _ _ r
  have hr : Evolves (.ctx :: .tar :: .par :: .img :: .ldg :: reportParts) d r.2 := (Dev.indexPut_evolves ..).mono
  split
  · exact (Dev.complete_evolves ..).mono
  · split
    · exact (Dev.complete_evolves ..).mono
    · split
      · exact (Dev.complete_evolves ..).mono
      · exact .ite ((Dev.complete_evolves ..).mono) (.ite ((Dev.complete_evolves ..).after hr) ((Dev.complete_evolves ..).after <| (Dev.imgJoin_evolves ..).after <| (Dev.newCtx_evolves ..).after hr))

theorem Dev.retireStep_evolves (d : Dev) (r : ℕ × Option (ℕ × ℕ) × Option ℕ) : Evolves (.ctx :: .tar :: .par :: .ldg :: .eth :: .fl :: reportParts) d (d.retireStep r) := by
  unfold Dev.retireStep
  extract_lets _ d1 d2 d3 d4
  have hd1 : Evolves (.ctx :: .tar :: .par :: .ldg :: .eth :: .fl :: reportParts) d d1 := (Dev.finalExt_evolves ..).mono
  have hd2 : Evolves (.ctx :: .tar :: .par :: .ldg :: .eth :: .fl :: reportParts) d d2 := .ite ((Dev.sealLog_evolves ..).after hd1) hd1
  have hd3 : Evolves (.ctx :: .tar :: .par :: .ldg :: .eth :: .fl :: reportParts) d d3 := by
    unfold d3
    split
    · exact (Dev.flLeave_evolves ..).after hd2
    · exact hd2
  have hd4 : Evolves (.ctx :: .tar :: .par :: .ldg :: .eth :: .fl :: reportParts) d d4 := (Dev.unindex_evolves ..).after hd3
  exact .ite .refl (Evolves.ctx.after hd4)

theorem Dev.ownerStep_evolves (d : Dev) (o : ℕ × ℕ × ℕ × ℕ) : Evolves (.ctx :: .eth :: .fl :: reportParts) d (d.ownerStep o) := by
  unfold Dev.ownerStep
  extract_lets _ d1 d2
  have hd1 : Evolves (.ctx :: .eth :: .fl :: reportParts) d d1 := by
    unfold d1
    split
    · exact .ite ((Dev.flLeave_evolves ..).mono) .refl
    · exact .refl
  have hd2 : Evolves (.ctx :: .eth :: .fl :: reportParts) d d2 := (Dev.editCtx_evolves ..).after hd1
  exact .ite .refl ((Dev.complete_evolves ..).after <| Evolves.ctx.after hd2)

theorem Dev.ctxTry_evolves (d : Dev) : Evolves (.ctx :: .tar :: .par :: .ldg :: .eth :: .fl :: reportParts) d d.ctxTry := by
  unfold Dev.ctxTry
  extract_lets d1
  have hd1 : Evolves (.ctx :: .tar :: .par :: .ldg :: .eth :: .fl :: reportParts) d d1 := .foldl (fun _ _ => (Dev.ownerStep_evolves ..).mono) .refl
  exact .foldl (fun _ _ => (Dev.retireStep_evolves ..).mono) hd1

theorem Dev.retireEnd_evolves (d : Dev) (cycle : ℕ) : Evolves [.regs, .rng, .ctx, .sec, .sch, .img, .lcp, .cals] d (d.retireEnd cycle) := by
  unfold Dev.retireEnd
  extract_lets _ y d1
  have hd1 : Evolves [.regs, .rng, .ctx, .sec, .sch, .img, .lcp, .cals] d d1 := Evolves.ctx.mono
  refine .foldl (fun x a => ?_) hd1
  extract_lets y
  have hy : Evolves [.regs, .rng, .ctx, .sec, .sch, .img, .lcp, .cals] x y := (Dev.freeCtx_evolves ..).mono
  split
  · exact (Dev.complete_evolves ..).after hy
  · exact hy

theorem Dev.dropWaiting_evolves (d : Dev) (m : ℕ) : Evolves [.sch] d (d.dropWaiting m) := by
  unfold Dev.dropWaiting
  exact Evolves.sch.mono

theorem Dev.setRetiring_evolves (d0 : Dev) (m : ℕ) (desc : Option (ℕ × ℕ)) : Evolves (.ctx :: .sch :: .img :: .lcp :: reportParts) d0 (d0.setRetiring m desc) := by
  unfold Dev.setRetiring
  extract_lets d _ d1
  have hd : Evolves (.ctx :: .sch :: .img :: .lcp :: reportParts) d0 d := (Dev.dropWaiting_evolves ..).mono
  have hd1 : Evolves (.ctx :: .sch :: .img :: .lcp :: reportParts) d0 d1 := (Dev.campCheck_evolves ..).after <| (Dev.editCtx_evolves ..).after hd
  exact .over [.ctx, .sch, .lcp] hd1

theorem Dev.joinFails_evolves (d : Dev) (m : ℕ) : Evolves (.ctx :: .sec :: .sch :: .img :: .lcp :: .cals :: linkParts) d (d.joinFails m) := by
  unfold Dev.joinFails
  split
  · exact .refl
  · rename_i y0 y1 y2 y3 y4
    extract_lets _ d0 d1
    have hd0 : Evolves (.ctx :: .sec :: .sch :: .img :: .lcp :: .cals :: linkParts) d d0 := Evolves.ctx.mono
    have hd1 : Evolves (.ctx :: .sec :: .sch :: .img :: .lcp :: .cals :: linkParts) d d1 := by
      unfold d1
      split
      · exact .ite ((Dev.flRelease_evolves ..).after hd0) hd0
      · exact hd0
    exact .ite ((Dev.freeCtx_evolves ..).after hd1) ((Dev.unpin_evolves ..).after <| (Dev.editCtx_evolves ..).after hd1)

/-! ## Media -/

theorem Dev.mediaState_evolves (d : Dev) : Evolves (.ftl :: reportParts) d d.mediaState := by
  unfold Dev.mediaState
  extract_lets
  exact .ite ((Dev.recordPost_evolves ..).after <| Evolves.ftl.mono) (.ite Evolves.ftl.mono .refl)

theorem Dev.retireEu_evolves (d : Dev) (e : ℕ) (reason : ℕ) : Evolves (.ftl :: fatalParts) d (d.retireEu e reason) := by
  unfold Dev.retireEu
  extract_lets _ _ _ _ d1 _ _ d2 d3
  have hd1 : Evolves (.ftl :: fatalParts) d d1 := (Dev.bump_evolves ..).after <| Evolves.ftl.mono
  have hd2 : Evolves (.ftl :: fatalParts) d d2 := .ite hd1 ((Dev.record_evolves ..).after <| Evolves.ftl.after hd1)
  have hd3 : Evolves (.ftl :: fatalParts) d d3 := by
    unfold d3
    split
    · split
      · exact Evolves.ftl.after hd2
      · exact hd2
    · exact hd2
  exact .ite ((Dev.mediaState_evolves ..).after <| (Dev.fault_evolves ..).after hd3) ((Dev.mediaState_evolves ..).after hd3)

theorem Dev.eraseEu_evolves (d : Dev) (e : ℕ) : Evolves (.ftl :: fatalParts) d (d.eraseEu e) := by
  unfold Dev.eraseEu
  extract_lets
  exact .ite ((Dev.retireEu_evolves ..).after <| Evolves.ftl.mono) Evolves.ftl.mono

theorem Dev.eraseEmpty_evolves (d : Dev) : Evolves (.ftl :: fatalParts) d d.eraseEmpty := by
  unfold Dev.eraseEmpty
  exact .foldl (fun _ _ => (Dev.eraseEu_evolves ..).mono) .refl

theorem Dev.releaseLus_evolves (d : Dev) (p : ℕ → Lu → Bool) : Evolves (.ftl :: fatalParts) d (d.releaseLus p) := by
  unfold Dev.releaseLus
  extract_lets
  exact (Dev.eraseEmpty_evolves ..).after <| Evolves.ftl.mono

theorem Dev.euTake_evolves (d : Dev) (e stream lu cap : Nat) : Evolves [.ftl] d (d.euTake e stream lu cap) := Evolves.ftl

theorem Dev.placeNew_evolves {d e : Dev} {stream bytes item start : Nat} (h : d.placeNew stream bytes item start = some e) :
    Evolves [.ftl, .out] d e := by
  unfold Dev.placeNew at h
  split at h
  · cases h
  · next u _ =>
    extract_lets lu d1 e2 d2 f at h
    have hd1 : Evolves [.ftl, .out] d d1 := (Dev.euTake_evolves ..).mono
    have hd2 : Evolves [.ftl, .out] d d2 := by
      clear_value e2
      cases e2 with
      | some x => exact (Dev.euTake_evolves ..).after hd1
      | none => exact hd1
    cases h
    clear_value d2
    exact (Dev.emit_evolves ..).after (Evolves.ftl.after hd2)

theorem Dev.placeItem_evolves {d e : Dev} {stream bytes item start : Nat} (h : d.placeItem stream bytes item start = some e) :
    Evolves [.ftl, .out] d e := by
  unfold Dev.placeItem at h
  split at h
  · split at h
    · cases h
      exact (Dev.emit_evolves ..).after Evolves.ftl.mono
    · exact Dev.placeNew_evolves h
  · exact Dev.placeNew_evolves h

theorem Dev.releaseOldest_evolves {d e : Dev} (h : d.releaseOldest = some e) : Evolves (.ftl :: .sec :: fatalParts) d e := by
  obtain ⟨l, _, rfl⟩ := Option.map_eq_some_iff.1 h
  exact Evolves.ftl.after (Dev.releaseLus_evolves ..).mono

theorem Dev.makeRoom_evolves {d e : Dev} (h : d.makeRoom = some e) : Evolves (.ftl :: .sec :: fatalParts) d e := by
  have herase : Evolves (.ftl :: .sec :: fatalParts) d d.eraseEmpty := (Dev.eraseEmpty_evolves ..).mono
  unfold Dev.makeRoom at h
  split at h
  · cases h; exact .refl
  dsimp only at h
  split at h
  · cases h; exact herase
  split at h
  · next hold =>
    cases h
    exact (Dev.releaseOldest_evolves hold).after herase
  · split at h
    · cases h; exact Evolves.ftl.after herase
    · cases h

theorem Dev.placeBytes_evolves {fuel : Nat} {d e : Dev} {stream bytes item start : Nat}
    (h : Dev.placeBytes fuel d stream bytes item start = some e) : Evolves (.ftl :: .sec :: fatalParts) d e := by
  induction fuel generalizing d bytes with
  | zero => cases h
  | succ f ih =>
    unfold Dev.placeBytes at h
    dsimp only at h
    split at h
    · cases h
    · next d1 hroom =>
      have hd1 : Evolves (.ftl :: .sec :: fatalParts) d d1 := by
        split at hroom
        · cases hroom; exact .refl
        · exact Dev.makeRoom_evolves hroom
      split at h
      · cases h
      · next d2 hplace =>
        have hd2 : Evolves (.ftl :: .sec :: fatalParts) d d2 := (Dev.placeItem_evolves hplace).after hd1
        split at h
        · cases h; exact hd2
        · exact (ih h).after hd2

theorem Dev.programmed_evolves (d : Dev) (m : MediaData) : Evolves (.ftl :: fatalParts) d (d.programmed m) := by
  unfold Dev.programmed
  extract_lets d1 _ d2
  have hd1 : Evolves (.ftl :: fatalParts) d d1 := (Dev.persist_evolves ..).mono
  have hd2 : Evolves (.ftl :: fatalParts) d d2 := (Dev.releaseLus_evolves ..).after hd1
  split
  · exact .ite (Evolves.tar.after hd1) hd1
  · exact (Dev.loadsDone_evolves ..).after <| Evolves.tar.after hd1
  · exact .ite (Evolves.ftl.after hd2) hd1
  · extract_lets
    exact (Dev.editCtx_evolves ..).after <| Evolves.ftl.after hd1
  · exact hd1

theorem Dev.drainPut_evolves (d : Dev) (n : ℕ) (stream : ℕ) (m : MediaData) : Evolves [.regs, .lne, .ftl, .freeCtr] d (d.drainPut n stream m) := by
  unfold Dev.drainPut
  extract_lets _ _ _ d1
  have hd1 : Evolves [.regs, .lne, .ftl, .freeCtr] d d1 := .over [.ftl, .freeCtr] .refl
  exact .ite ((Dev.bump_evolves ..).after <| (Dev.laneDrop_evolves ..).after hd1) .refl

theorem Dev.goReadOnly_evolves (d : Dev) : Evolves (.ftl :: fatalParts) d d.goReadOnly := by
  unfold Dev.goReadOnly
  extract_lets _ d1
  have hd1 : Evolves (.ftl :: fatalParts) d d1 := Evolves.ftl.mono
  exact (Dev.fault_evolves ..).after <| (Dev.recordPost_evolves ..).after hd1

theorem Dev.mediaWrite_evolves (d : Dev) : Evolves (.ftl :: .sec :: fatalParts) d d.mediaWrite := by
  unfold Dev.mediaWrite
  split
  · split
    · exact .refl
    · split
      · exact (Dev.drainPut_evolves ..).mono
      · split
        · exact (Dev.bump_evolves ..).after <| (Dev.laneDrop_evolves ..).mono
        · split
          · exact (Dev.drainPut_evolves ..).mono
          · split
            · exact .refl
            · split
              · rename_i y0 y1 y2
                exact (Dev.mediaState_evolves ..).after <| (Dev.programmed_evolves ..).after <| (Dev.laneDrop_evolves ..).after <| (Dev.placeBytes_evolves y2).mono
              · exact .ite .refl ((Dev.drainPut_evolves ..).after <| (Dev.goReadOnly_evolves ..).mono)
  · exact .refl

theorem Dev.loseLogs_evolves (d : Dev) (es : List (ℕ × ℕ)) : Evolves [.ldg] d (d.loseLogs es) := by
  unfold Dev.loseLogs
  exact .foldl (fun _ _ => (Dev.setLdgM_evolves ..).mono) .refl

theorem Dev.loseLu_evolves (d : Dev) (lu : ℕ) (l : Lu) : Evolves [.ftl, .nand, .ldg] d (d.loseLu lu l) := by
  unfold Dev.loseLu
  exact .ite ((Dev.loseLogs_evolves ..).mono) (.ite Evolves.nand.mono (.ite (.ite (.over [.ftl, .nand] .refl) Evolves.nand.mono) .refl))

theorem Dev.mediaRead_evolves (d : Dev) (lu : ℕ) (step : Option ℕ) (bits : ℕ) (overLimit : Bool) : Evolves (.ftl :: .nand :: .ldg :: reportParts) d (d.mediaRead lu step bits overLimit) := by
  unfold Dev.mediaRead
  split
  · exact .refl
  · rename_i y0 y1 y2
    extract_lets _ _ _ d1 _ d2 d3
    have hd1 : Evolves (.ftl :: .nand :: .ldg :: reportParts) d d1 := .ite Evolves.ftl.mono (.ite Evolves.ftl.mono .refl)
    have hd2 : Evolves (.ftl :: .nand :: .ldg :: reportParts) d d2 := (Dev.bump_evolves ..).after hd1
    have hd3 : Evolves (.ftl :: .nand :: .ldg :: reportParts) d d3 := (Dev.post_evolves ..).after <| (Dev.bump_evolves ..).after hd2
    split
    · exact .ite ((Dev.bump_evolves ..).after <| Evolves.ftl.after hd1) (.ite hd1 ((Dev.bumpW_evolves ..).after <| Evolves.ftl.after hd1))
    · exact .ite hd2 ((Dev.loseLu_evolves ..).after <| Evolves.ftl.after hd3)

theorem Dev.readOut_evolves (d : Dev) (lu : ℕ) (step : Option ℕ) : Evolves [.out] d (d.readOut lu step) := by
  unfold Dev.readOut
  split
  · exact .refl
  · extract_lets
    exact (Dev.emit_evolves ..).mono

theorem Dev.foldOne_evolves {d e : Dev} {lu : Nat} (h : d.foldOne lu = some e) : Evolves [.ftl] d e := by
  unfold Dev.foldOne at h
  split at h
  · cases h
    exact Evolves.ftl.after (Dev.euTake_evolves ..)
  · cases h

theorem Dev.foldAll_evolves (fuel : Nat) (d : Dev) : Evolves [.ftl] d (Dev.foldAll fuel d) := by
  induction fuel generalizing d with
  | zero => exact .refl
  | succ n ih =>
    unfold Dev.foldAll
    split
    · exact .refl
    split
    · exact .refl
    split
    · next h => exact (ih _).after (Dev.foldOne_evolves h)
    · exact .refl

theorem Dev.copyStart_evolves (d : Dev) (src : ℕ) : Evolves [.ftl] d (d.copyStart src) := by
  unfold Dev.copyStart
  split
  · exact .refl
  · exact Evolves.ftl.mono

theorem Dev.gcSwitch_evolves (d : Dev) : Evolves (.ftl :: fatalParts) d d.gcSwitch := by
  unfold Dev.gcSwitch
  split
  · exact .refl
  · rename_i y0 y1 y2 y3
    extract_lets _ _ _ _ _ _ d1
    have hd1 : Evolves (.ftl :: fatalParts) d d1 := (Dev.eraseEu_evolves ..).after <| Evolves.ftl.mono
    exact Evolves.ftl.after hd1

theorem Dev.nandFail_evolves (d : Dev) (e : ℕ) (reason : ℕ) : Evolves (.ftl :: fatalParts) d (d.nandFail e reason) := by
  unfold Dev.nandFail
  extract_lets _ d1
  have hd1 : Evolves (.ftl :: fatalParts) d d1 := (Dev.retireEu_evolves ..).mono
  split
  · exact .refl
  · split
    · exact hd1
    · extract_lets
      exact (Dev.bump_evolves ..).after <| (Dev.copyStart_evolves ..).after <| Evolves.ftl.after hd1

theorem Dev.histAll_evolves (fuel : Nat) (d : Dev) : Evolves (.ftl :: .sec :: fatalParts) d (Dev.histAll fuel d) := by
  induction fuel generalizing d with
  | zero => exact .refl
  | succ n ih =>
    unfold Dev.histAll
    split
    · exact .refl
    split
    · next h => exact (ih _).after (Dev.releaseOldest_evolves h)
    · exact .refl

theorem Dev.billSnapshot_evolves (d : Dev) : Evolves (.ftl :: reportParts) d d.billSnapshot := by
  unfold Dev.billSnapshot
  extract_lets _ d1
  have hd1 : Evolves (.ftl :: reportParts) d d1 := Evolves.ftl.mono
  exact .foldl (fun _ _ => (Dev.offer_evolves ..).mono) hd1

theorem Dev.ftlCtl_evolves (d : Dev) (v : ℕ) : Evolves [.ftl] d (d.ftlCtl v) := by
  unfold Dev.ftlCtl
  exact .ite .refl (.ite Evolves.ftl.mono (.ite Evolves.ftl.mono .refl))

/-! ## NodeOps -/

theorem Dev.setNode_evolves (d : Dev) (n : ℕ) (x : Node) : Evolves [.ldg] d (d.setNode n x) := by
  unfold Dev.setNode
  exact Evolves.ldg.mono

theorem Dev.rebalAll_evolves (d : Dev) : Evolves [.ctx] d d.rebalAll := by
  unfold Dev.rebalAll
  exact .foldl (fun _ _ => (Dev.editCtx_evolves ..).mono) .refl

theorem Dev.nodeChanged_evolves (d : Dev) (n : ℕ) (w0 : ℕ) (w1 : ℕ) : Evolves [.ctx, .ldg] d (d.nodeChanged n w0 w1) := by
  unfold Dev.nodeChanged
  extract_lets _ _ _ _ _ _ _ d1
  have hd1 : Evolves [.ctx, .ldg] d d1 := by
    unfold d1
    split
    · exact Evolves.ldg.mono
    · split
      · exact (Dev.setNode_evolves ..).mono
      · extract_lets
        exact .ite ((Dev.setNode_evolves ..).mono) ((Dev.setNode_evolves ..).mono)
  exact (Dev.rebalAll_evolves ..).after hd1

theorem Dev.formRow_evolves (d : Dev) (n : ℕ) (b : ℕ) : Evolves [.regs, .ldg] d (d.formRow n b) := by
  unfold Dev.formRow
  extract_lets
  split
  · exact .refl
  · split
    · exact .refl
    · exact .ite .refl (.ite ((Dev.bump_evolves ..).after <| (Dev.setNode_evolves ..).mono) ((Dev.bumpW_evolves ..).after <| (Dev.setNode_evolves ..).mono))

theorem Dev.nodeLogAdd_evolves (d : Dev) (n : ℕ) (start : ℕ) (mWh : List ℤ) : Evolves [.ldg] d (d.nodeLogAdd n start mWh) := by
  unfold Dev.nodeLogAdd
  extract_lets
  exact .ite .refl ((Dev.setNode_evolves ..).mono)

theorem Dev.nodeLogs_evolves (d : Dev) (fdx : Option ℕ) (cm : ℕ) (start : ℕ) (mWh : List ℤ) : Evolves [.ldg] d (d.nodeLogs fdx cm start mWh) := by
  unfold Dev.nodeLogs
  refine .foldl (fun x a => ?_) .refl
  extract_lets
  exact .ite ((Dev.nodeLogAdd_evolves ..).mono) .refl

theorem Dev.learn_evolves (d : Dev) (n : ℕ) (today : ℕ) : Evolves [.ldg] d (d.learn n today) := by
  unfold Dev.learn
  extract_lets
  exact .ite .refl (.ite .refl ((Dev.setNode_evolves ..).mono))

theorem Dev.testPhase_evolves (d : Dev) (n : ℕ) (today : ℕ) (k : ℕ) : Evolves (.ldg :: reportParts) d (d.testPhase n today k) := by
  unfold Dev.testPhase
  extract_lets _ _ _ _ _ _ _ d1
  have hd1 : Evolves (.ldg :: reportParts) d d1 := (Dev.setNode_evolves ..).mono
  exact .ite ((Dev.setNode_evolves ..).mono) (.ite ((Dev.recordPost_evolves ..).after <| (Dev.setNode_evolves ..).after hd1) (.ite ((Dev.recordPost_evolves ..).after <| (Dev.setNode_evolves ..).after hd1) hd1))

theorem Dev.suspectFinding_evolves (d : Dev) (n : ℕ) (f : Fit) : Evolves (.tar :: .par :: .ldg :: reportParts) d (d.suspectFinding n f) := by
  unfold Dev.suspectFinding
  extract_lets _ _ d1
  have hd1 : Evolves (.tar :: .par :: .ldg :: reportParts) d d1 := (Dev.post_evolves ..).after <| (Dev.setLdgM_evolves ..).mono
  exact .ite ((Dev.setTamper_evolves ..).after hd1) hd1

theorem Dev.evaluate_evolves (d : Dev) (today : ℕ) : Evolves (.ctx :: .tar :: .par :: .ldg :: reportParts) d (d.evaluate today) := by
  unfold Dev.evaluate
  extract_lets y d0 d1
  have hd0 : Evolves (.ctx :: .tar :: .par :: .ldg :: reportParts) d d0 := Evolves.ldg.mono
  have hd1 : Evolves (.ctx :: .tar :: .par :: .ldg :: reportParts) d d1 := by
    unfold d1
    refine .foldl (fun x a => ?_) hd0
    extract_lets y w
    have hy : Evolves (.ctx :: .tar :: .par :: .ldg :: reportParts) x y := .foldl (fun _ _ => (Dev.testPhase_evolves ..).mono) ((Dev.learn_evolves ..).mono)
    have hlaid : Evolves (.ctx :: .tar :: .par :: .ldg :: reportParts) y w := by
      refine .ite .refl (.ite (Dev.setNode_evolves ..).mono (.ite (Dev.setNode_evolves ..).mono (.foldl (fun z f => ?_) (.foldl (fun z e => ?_) ?_))))
      · have hscore : Evolves (.ctx :: .tar :: .par :: .ldg :: reportParts) z (z.editCtx f.m (fun c => { c with suspect := f.score })) :=
          (Dev.editCtx_evolves ..).mono
        exact .ite ((Dev.suspectFinding_evolves ..).after hscore) hscore
      · exact .ite .refl (Dev.setLdgM_evolves ..).mono
      · exact (Dev.setNode_evolves ..).mono
    exact Evolves.freeCtr.after (hlaid.after hy)
  exact .ite hd0 (.ite hd1 ((Dev.offer_evolves ..).after hd1))

/-! ## CmOps -/

theorem Dev.setMch_evolves (d : Dev) (n : ℕ) (x : MetCh) : Evolves [.met] d (d.setMch n x) := by
  unfold Dev.setMch
  exact Evolves.met.mono

theorem Dev.setMcm_evolves (d : Dev) (k : ℕ) (x : MetCm) : Evolves [.met] d (d.setMcm k x) := by
  unfold Dev.setMcm
  exact Evolves.met.mono

theorem Dev.chSwap_evolves (d : Dev) (ch : ℕ) (exchange : Bool) : Evolves [.regs, .dirty, .met] d (d.chSwap ch exchange) := by
  unfold Dev.chSwap
  extract_lets _ d1 d2 d3 _ d4
  have hd1 : Evolves [.regs, .dirty, .met] d d1 := .ite ((Dev.touch_evolves ..).after <| (Dev.wrb_evolves ..).mono) .refl
  have hd2 : Evolves [.regs, .dirty, .met] d d2 := by
    unfold d2
    split
    · exact (Dev.touch_evolves ..).after <| (Dev.setWord_evolves ..).after hd1
    · exact hd1
  have hd3 : Evolves [.regs, .dirty, .met] d d3 := by
    unfold d3
    split
    · exact (Dev.touch_evolves ..).after <| (Dev.setWord_evolves ..).after hd2
    · exact hd2
  have hd4 : Evolves [.regs, .dirty, .met] d d4 := (Dev.wrb_evolves ..).after <| (Dev.wrb_evolves ..).after <| (Dev.setMch_evolves ..).after hd3
  exact Evolves.met.after hd4

theorem Dev.chOutput_evolves (d : Dev) (ch : ℕ) (bits : ℕ) (ovl : Bool) : Evolves [.regs, .dirty, .tim, .evr, .met] d (d.chOutput ch bits ovl) := by
  unfold Dev.chOutput
  extract_lets _ _ d0 d1 _ _ _ _ _ _ _ _ _ _ d2
  have hd0 : Evolves [.regs, .dirty, .tim, .evr, .met] d d0 := by
    unfold d0
    split
    · exact (Dev.toMono_evolves ..).mono
    · exact .refl
  have hd1 : Evolves [.regs, .dirty, .tim, .evr, .met] d d1 := by
    unfold d1
    split
    · exact .ite ((Dev.chSwap_evolves ..).after hd0) hd0
    · exact hd0
  have hd2 : Evolves [.regs, .dirty, .tim, .evr, .met] d d2 := (Dev.setMch_evolves ..).after hd1
  exact .ite ((Dev.wrb_evolves ..).after hd2) hd2

theorem Dev.cmSample_evolves (d : Dev) (k : ℕ) : Evolves [.met, .freeCtr] d (d.cmSample k) := by
  unfold Dev.cmSample
  extract_lets _ _ _ _ _ _ _ _ _ _ _ _ _ _ _ _ _ _ _ _ _ _ _ _ _ _ _ _ _ _ d1
  have hd1 : Evolves [.met, .freeCtr] d d1 := (Dev.setMcm_evolves ..).mono
  exact Evolves.freeCtr.after hd1

theorem Dev.cmClose_evolves (d : Dev) (k : ℕ) (a : CmAcc) : Evolves (.ldg :: .met :: .eth :: .fl :: reportParts) d (d.cmClose k a) := by
  unfold Dev.cmClose
  extract_lets _ d1 _ d2
  have hd1 : Evolves (.ldg :: .met :: .eth :: .fl :: reportParts) d d1 := (Dev.setMcm_evolves ..).mono
  have hd2 : Evolves (.ldg :: .met :: .eth :: .fl :: reportParts) d d2 := (Dev.nodeLogs_evolves ..).after hd1
  exact .ite ((Dev.bump_evolves ..).after hd1) (.ite ((Dev.setMcm_evolves ..).after hd1) (.ite ((Dev.flHoldRec_evolves ..).after hd2) hd2))

theorem Dev.cmTakeover_evolves (d : Dev) : Evolves [.ldg, .met] d d.cmTakeover := by
  unfold Dev.cmTakeover
  extract_lets d1
  have h1 : Evolves [.ldg, .met] d d1 := by
    refine .foldl (fun y k => ?_) .refl
    refine .ite .refl ((Dev.setMcm_evolves ..).after ?_)
    exact .foldr (fun _ _ => (Dev.nodeLogs_evolves ..).mono) .refl
  exact Evolves.ldg.after h1

theorem Dev.cmStopped_evolves (d : Dev) (k : ℕ) : Evolves [.met] d (d.cmStopped k) := by
  unfold Dev.cmStopped
  extract_lets
  exact (Dev.setMcm_evolves ..).mono

/-! ## Security -/

theorem Dev.keyWait_evolves (d : Dev) (p : ℕ) (id : ℕ) (res : List ℕ) : Evolves [.rng, .sec] d (d.keyWait p id res) := by
  unfold Dev.keyWait
  extract_lets d1
  have hd1 : Evolves [.rng, .sec] d d1 := (Dev.markStarted_evolves ..).mono
  exact Evolves.sec.after hd1

theorem Dev.keyEnd_evolves (d : Dev) (cycle : ℕ) : Evolves [.regs, .rng, .sec] d (d.keyEnd cycle) := by
  unfold Dev.keyEnd
  extract_lets _ d1
  have hd1 : Evolves [.regs, .rng, .sec] d d1 := Evolves.sec.mono
  exact .foldl (fun _ _ => (Dev.complete_evolves ..).mono) hd1

theorem Dev.stageNext_evolves {d e : Dev} {m : Nat} {c : Ctx} {b : Bool} (h : d.stageNext m c = some (b, e)) : Evolves [.ctx, .sec] d e := by
  unfold Dev.stageNext at h
  split at h
  · cases h
  · split at h
    · split at h
      · cases h; exact Dev.stageDerived_evolves ..
      · cases h; exact .refl
    · cases h; exact Dev.stageDerived_evolves ..

theorem Dev.stageImport_evolves (d : Dev) (m : ℕ) (id : ℕ) (key : List Byte) : Evolves [.ctx, .sec] d (d.stageImport m id key) := by
  unfold Dev.stageImport
  extract_lets _ _ d1
  have hd1 : Evolves [.ctx, .sec] d d1 := by
    unfold d1
    split
    · exact .ite .refl ((Dev.dropShadow_evolves ..).mono)
    · exact .refl
  exact .ite ((Dev.setImport_evolves ..).mono) ((Dev.setShadow_evolves ..).after <| (Dev.setImport_evolves ..).after hd1)

theorem Dev.keyStageOne_evolves (d : Dev) (p : Nat) (h : Held) (ktk : Option (List Byte)) (m : Nat) (c : Ctx) :
    Evolves [.regs, .rng, .ctx, .sec] d (d.keyStageOne p h ktk m c) := by
  have hdone {e : Dev} (he : Evolves [.regs, .rng, .ctx, .sec] d e) (st sub : Nat) :
      Evolves [.regs, .rng, .ctx, .sec] d (e.complete p h.id st sub) := (Dev.complete_evolves ..).after he
  unfold Dev.keyStageOne
  extract_lets
  split
  · exact hdone .refl _ _
  split
  · split
    · exact hdone .refl _ _
    · next hst => exact (Dev.keyWait_evolves ..).after (Dev.stageNext_evolves hst).mono
    · next hst => exact hdone (Dev.stageNext_evolves hst).mono _ _
  · split
    · exact hdone .refl _ _
    · refine .ite (hdone .refl _ _) (.ite (hdone .refl _ _) ?_)
      exact (Dev.keyWait_evolves ..).after (Dev.stageImport_evolves ..).mono

theorem Dev.keyStageGroup_evolves (d : Dev) (p : Nat) (h : Held) : Evolves [.regs, .rng, .ctx, .sec] d (d.keyStageGroup p h) := by
  unfold Dev.keyStageGroup
  split
  · exact (Dev.complete_evolves ..).mono
  split
  · exact (Dev.complete_evolves ..).mono
  extract_lets ms r
  have hr : Evolves [.regs, .rng, .ctx, .sec] d r.2.2.2 := by
    refine .foldl_via (fun a : Nat × Nat × Bool × Dev => a.2.2.2) (fun a m => ?_) .refl
    split
    · exact .refl
    · split
      · exact .refl
      · next hst => exact (Dev.stageNext_evolves hst).mono
  exact .ite ((Dev.keyWait_evolves ..).after hr) ((Dev.complete_evolves ..).after hr)

theorem Dev.showBat_evolves (d : Dev) (b : Bat) : Evolves [.regs] d (d.showBat b) := by
  unfold Dev.showBat
  extract_lets _ _ _ d1 d2 d3 d4
  have hd1 : Evolves [.regs] d d1 := (Dev.wrb_evolves ..).after <| (Dev.wrb_evolves ..).after <| (Dev.wrb_evolves ..).mono
  have hd2 : Evolves [.regs] d d2 := (Dev.setWord_evolves ..).after <| (Dev.wr_evolves ..).after <| (Dev.wrb_evolves ..).after hd1
  have hd3 : Evolves [.regs] d d3 := (Dev.setWord_evolves ..).after <| (Dev.setWord_evolves ..).after <| (Dev.setWord_evolves ..).after hd2
  have hd4 : Evolves [.regs] d d4 := (Dev.wr_evolves ..).after <| (Dev.setWord_evolves ..).after hd3
  exact (Dev.setWord_evolves ..).after <| (Dev.wr_evolves ..).after hd4

theorem Dev.seed_evolves (d : Dev) (root : Option (List Byte)) : Evolves [.sec] d (d.seed root) := by
  unfold Dev.seed
  exact Evolves.sec.mono

theorem Dev.rootRefused_evolves (d : Dev) : Evolves [.regs] d d.rootRefused := by
  unfold Dev.rootRefused
  exact (Dev.bump_evolves ..).mono

theorem Dev.codeVoid_evolves (d : Dev) : Evolves [.regs, .sec] d d.codeVoid := by
  unfold Dev.codeVoid
  extract_lets _ d1
  have hd1 : Evolves [.regs, .sec] d d1 := Evolves.sec.mono
  exact .ite ((Dev.wr_evolves ..).after hd1) hd1

theorem Dev.rootClock_evolves (d : Dev) (ok : Bool) : Evolves [.regs] d (d.rootClock ok) := by
  unfold Dev.rootClock
  exact (Dev.wrb_evolves ..).after (.ite ((Dev.wrb_evolves ..).mono) .refl)

/-! ## Tariff -/

theorem Dev.tariffLoad_evolves (d : Dev) (p : ℕ) (h : Held) (bs : List Byte) : Evolves (.tar :: .par :: .ldg :: reportParts) d (d.tariffLoad p h bs) := by
  unfold Dev.tariffLoad
  split
  · exact (Dev.complete_evolves ..).mono
  · rename_i y0 y1 y2
    extract_lets _ _ _ _ _ d1
    have hd1 : Evolves (.tar :: .par :: .ldg :: reportParts) d d1 := (Dev.journal_evolves ..).after <| (Dev.setGrpTar_evolves ..).after <| (Dev.markStarted_evolves ..).mono
    exact .ite ((Dev.complete_evolves ..).mono) ((Dev.offer_evolves ..).after <| Evolves.tar.after hd1)

theorem Dev.closeInstant_evolves (d : Dev) (g : Nat) : Evolves (.tim :: .tar :: .par :: .ldg :: reportParts) d (d.closeInstant g) := by
  have hact {e : Dev} (he : Evolves (.tim :: .tar :: .par :: .ldg :: reportParts) d e) :
      Evolves (.tim :: .tar :: .par :: .ldg :: reportParts) d (if e.actDue g then e.activate g else e) :=
    .ite ((Dev.activate_evolves ..).after he) he
  -- the device at the instant stays opaque, or the kernel counts the instant's nanoseconds
  have hsweep (e : Dev) (he : Evolves (.tim :: .tar :: .par :: .ldg :: reportParts) d e) (later : Nat → Dev)
      (hlater : ∀ n, Evolves (.tim :: .tar :: .par :: .ldg :: reportParts) d (later n)) :
      Evolves (.tim :: .tar :: .par :: .ldg :: reportParts) d
        (match (e.grpTar g).closeDue with
        | none => e
        | some i =>
          let d1 := later (i * 1000000000)
          let d2 := if d1.actDue g then d1.activate g else d1
          match (d2.grpTar g).closeDue with
          | some j => if j = i then (d2.setGrpTar g { d2.grpTar g with lastClose := i }).startSweep g i else d2
          | none => d2) := by
    split
    · exact he
    · extract_lets d1 d2
      have h2 : Evolves (.tim :: .tar :: .par :: .ldg :: reportParts) d d2 := hact (hlater _)
      split
      · exact .ite ((Dev.startSweep_evolves ..).after <| (Dev.setGrpTar_evolves ..).after h2) h2
      · exact h2
  have hfirst : Evolves (.tim :: .tar :: .par :: .ldg :: reportParts) d (if d.actDue g then d.activate g else d) := hact .refl
  unfold Dev.closeInstant
  split
  · exact .refl
  · exact hsweep _ hfirst _ (fun _ => (Dev.toNs_evolves ..).after hfirst)

/-! ## PairOps -/

theorem Dev.applyRec_evolves (d : Dev) (r : DeltaRec) : Evolves [.regs, .dirty, .ctx, .tar, .sec, .sch, .img, .lcp, .cals, .ldg, .fl] d (d.applyRec r) := by
  unfold Dev.applyRec
  split
  · extract_lets
    exact Evolves.ctx.mono
  · rename_i y0 y1
    extract_lets x
    have hx : Evolves [.regs, .dirty, .ctx, .tar, .sec, .sch, .img, .lcp, .cals, .ldg, .fl] d x := (Dev.freeCtx_evolves ..).mono
    exact Evolves.ctx.after hx
  · exact .ite .refl Evolves.tar.mono
  · exact Evolves.tar.mono
  · exact Evolves.sec.mono
  · exact Evolves.sec.mono
  · exact Evolves.sch.mono
  · exact Evolves.ctx.mono
  · exact Evolves.ctx.mono
  · exact (Dev.setGrpTar_evolves ..).mono
  · exact Evolves.ldg.mono
  · exact Evolves.ldg.mono
  · exact Evolves.sch.mono
  · exact Evolves.cals.mono
  · split
    · exact .ite ((Dev.touch_evolves ..).after <| (Dev.setWord_evolves ..).mono) .refl
    · exact .refl
  · exact Evolves.fl.mono
  · exact Evolves.img.mono
  · exact Evolves.img.mono

theorem Dev.catchupClear_evolves (d : Dev) : Evolves [.regs, .ctx, .par, .sec, .sch, .img, .cals, .ldg, .fl] d d.catchupClear := by
  unfold Dev.catchupClear
  split
  · exact .refl
  · extract_lets
    exact .over [.regs, .ctx, .par, .sec, .sch, .img, .cals, .ldg, .fl] .refl

theorem Dev.catchupEnd_evolves (d : Dev) : Evolves [.ctx, .tar, .par, .sec, .sch, .img, .lcp, .cals] d d.catchupEnd := by
  unfold Dev.catchupEnd
  extract_lets _ d1
  have hd1 : Evolves [.ctx, .tar, .par, .sec, .sch, .img, .lcp, .cals] d d1 := .foldl (fun _ _ => (Dev.forget_evolves ..).mono) .refl
  exact .over [.tar, .par] hd1

theorem Dev.journalCycle_evolves (d : Dev) (chg : List (ℕ × Option Ctx)) (logs : List (ℕ × LogEnt)) : Evolves reportParts d (d.journalCycle chg logs) := by
  unfold Dev.journalCycle
  extract_lets d1 d2
  have hd1 : Evolves reportParts d d1 := .ite .refl ((Dev.offer_evolves ..).mono)
  have hd2 : Evolves reportParts d d2 := .foldl (fun _ _ => (Dev.offer_evolves ..).mono) hd1
  exact .ite hd2 ((Dev.offer_evolves ..).after hd2)

theorem Dev.applyDelta_evolves (d : Dev) (cycle : ℕ) (rs : List DeltaRec) : Evolves [.regs, .dirty, .rng, .lne, .evr, .flt, .ctx, .tar, .par, .sec, .sch, .img, .lcp, .cals, .ldg, .fl, .freeCtr, .out] d (d.applyDelta cycle rs) := by
  unfold Dev.applyDelta
  extract_lets d1 d2 d3
  have hd1 : Evolves [.regs, .dirty, .rng, .lne, .evr, .flt, .ctx, .tar, .par, .sec, .sch, .img, .lcp, .cals, .ldg, .fl, .freeCtr, .out] d d1 := .foldl (fun _ _ => (Dev.applyRec_evolves ..).mono) .refl
  have hd2 : Evolves [.regs, .dirty, .rng, .lne, .evr, .flt, .ctx, .tar, .par, .sec, .sch, .img, .lcp, .cals, .ldg, .fl, .freeCtr, .out] d d2 := (Dev.journalCycle_evolves ..).after hd1
  have hd3 : Evolves [.regs, .dirty, .rng, .lne, .evr, .flt, .ctx, .tar, .par, .sec, .sch, .img, .lcp, .cals, .ldg, .fl, .freeCtr, .out] d d3 := .ite hd2 ((Dev.closeHalf_evolves ..).after hd2)
  exact (Dev.pairSend_evolves ..).after <| Evolves.par.after hd3

theorem Dev.healthCheck_evolves (d : Dev) : Evolves (.par :: reportParts) d d.healthCheck := by
  unfold Dev.healthCheck
  extract_lets
  exact .ite .refl ((Dev.post_evolves ..).after <| Evolves.par.mono)

theorem Dev.setClaim_evolves (d : Dev) : Evolves [.par] d d.setClaim := by
  unfold Dev.setClaim
  exact Evolves.par.mono

theorem Dev.bowEth_evolves (d : Dev) (p : ℕ) : Evolves (.eth :: reportParts) d (d.bowEth p) := by
  unfold Dev.bowEth
  extract_lets
  exact .ite .refl ((Dev.wrb_evolves ..).after <| (Dev.ethCount_evolves ..).after <| (Dev.setEp_evolves ..).mono)

theorem Dev.bowLine_evolves (d : Dev) (p : ℕ) : Evolves [.regs, .lcp] d (d.bowLine p) := by
  unfold Dev.bowLine
  exact .foldl (fun _ _ => (Dev.wr_evolves ..).mono) ((Dev.updLp_evolves ..).mono)

theorem Dev.bowRad_evolves (d : Dev) (n : ℕ) : Evolves [.regs] d (d.bowRad n) := by
  unfold Dev.bowRad
  exact .foldl (fun _ _ => (Dev.wr_evolves ..).mono) .refl

theorem Dev.bowCounts_evolves (d : Dev) : Evolves [.regs] d d.bowCounts := by
  unfold Dev.bowCounts
  exact .foldl (fun _ _ => (Dev.wr_evolves ..).mono) .refl

theorem Dev.becomeBow_evolves (d : Dev) : Evolves (.tim :: .par :: .ctx :: .sch :: .lcp :: .rad :: .eth :: reportParts) d d.becomeBow := by
  unfold Dev.becomeBow
  extract_lets d0 d1
  have h0 : Evolves (.tim :: .par :: .ctx :: .sch :: .lcp :: .rad :: .eth :: reportParts) d d0 := by
    refine (Dev.bowCounts_evolves ..).after (.foldl (fun _ _ => (Dev.bowRad_evolves ..).mono) (.foldl (fun _ _ => (Dev.bowLine_evolves ..).mono) ?_))
    exact (Dev.dropDescs_evolves ..).after (Dev.dropClaim_evolves ..).mono
  have h1 : Evolves (.tim :: .par :: .ctx :: .sch :: .lcp :: .rad :: .eth :: reportParts) d d1 :=
    .foldl (fun _ _ => (Dev.bowEth_evolves ..).mono) h0
  clear_value d1
  exact (Dev.bmca_evolves ..).after (.over [.tim, .par] h1)

theorem Dev.protect_evolves (d : Dev) : Evolves [.tar] d d.protect := by
  unfold Dev.protect
  exact Evolves.tar.mono

theorem Dev.pollingKept_evolves (d : Dev) (m : ℕ) (c : Ctx) : Evolves [.lcp] d (d.pollingKept m c) := by
  unfold Dev.pollingKept
  exact .ite ((Dev.updLp_evolves ..).mono) .refl

theorem Dev.adopt_evolves (d : Dev) : Evolves [.regs, .tim, .rng, .lne, .evr, .flt, .ctx, .sec, .sch, .lcp, .cals, .ldg, .met, .eth, .fl, .freeCtr, .out] d d.adopt := by
  unfold Dev.adopt
  extract_lets _ _ _ _ _ d1 d1' d1'' d2
  have hd1 : Evolves [.regs, .tim, .rng, .lne, .evr, .flt, .ctx, .sec, .sch, .lcp, .cals, .ldg, .met, .eth, .fl, .freeCtr, .out] d d1 := .over [.ctx, .sec, .sch, .lcp, .cals, .fl] .refl
  have hd1' : Evolves [.regs, .tim, .rng, .lne, .evr, .flt, .ctx, .sec, .sch, .lcp, .cals, .ldg, .met, .eth, .fl, .freeCtr, .out] d d1' := (Dev.mapCtx_evolves ..).after hd1
  have hd1'' : Evolves [.regs, .tim, .rng, .lne, .evr, .flt, .ctx, .sec, .sch, .lcp, .cals, .ldg, .met, .eth, .fl, .freeCtr, .out] d d1'' := .foldl (fun _ _ => (Dev.pollingKept_evolves ..).mono) hd1'
  have hd2 : Evolves [.regs, .tim, .rng, .lne, .evr, .flt, .ctx, .sec, .sch, .lcp, .cals, .ldg, .met, .eth, .fl, .freeCtr, .out] d d2 := .foldl (fun _ _ => (Dev.flSend_evolves ..).mono) hd1''
  exact (Dev.cmTakeover_evolves ..).after <| (Dev.bmca_evolves ..).after hd2

theorem Dev.becomeStroke_evolves (d : Dev) : Evolves [.regs, .tim, .rng, .lne, .evr, .flt, .ctx, .tar, .par, .sec, .sch, .lcp, .cals, .ldg, .met, .eth, .fl, .freeCtr, .out] d d.becomeStroke := by
  unfold Dev.becomeStroke
  extract_lets d1 _ d2
  have hd1 : Evolves [.regs, .tim, .rng, .lne, .evr, .flt, .ctx, .tar, .par, .sec, .sch, .lcp, .cals, .ldg, .met, .eth, .fl, .freeCtr, .out] d d1 := (Dev.setClaim_evolves ..).mono
  have hd2 : Evolves [.regs, .tim, .rng, .lne, .evr, .flt, .ctx, .tar, .par, .sec, .sch, .lcp, .cals, .ldg, .met, .eth, .fl, .freeCtr, .out] d d2 := Evolves.par.after hd1
  exact (Dev.adopt_evolves ..).after <| (Dev.protect_evolves ..).after hd2

theorem Dev.swapDesc_evolves (d : Dev) (st : ℕ) (sub : ℕ) (res : List ℕ) : Evolves [.regs, .rng, .par] d (d.swapDesc st sub res) := by
  unfold Dev.swapDesc
  split
  · rename_i y0 y1 y2
    extract_lets d1
    have hd1 : Evolves [.regs, .rng, .par] d d1 := by
      unfold d1
      split
      · exact (Dev.complete_evolves ..).mono
      · exact .refl
    exact Evolves.par.after hd1
  · exact .refl

theorem Dev.takeover_evolves (d : Dev) (cause : ℕ) : Evolves [.regs, .tim, .rng, .lne, .evr, .flt, .ctx, .tar, .par, .sec, .sch, .lcp, .cals, .ldg, .met, .eth, .fl, .freeCtr, .out] d (d.takeover cause) := by
  unfold Dev.takeover
  split
  · exact .refl
  · extract_lets d1
    have hd1 : Evolves [.regs, .tim, .rng, .lne, .evr, .flt, .ctx, .tar, .par, .sec, .sch, .lcp, .cals, .ldg, .met, .eth, .fl, .freeCtr, .out] d d1 := (Dev.bump_evolves ..).after <| (Dev.becomeStroke_evolves ..).after <| (Dev.swapDesc_evolves ..).mono
    exact (Dev.recordPost_evolves ..).after hd1

theorem Dev.noteEx_evolves (d : Dev) (port : ℕ) (failed : Bool) : Evolves [.par] d (d.noteEx port failed) := by
  unfold Dev.noteEx
  exact Evolves.par.mono

theorem Dev.drillEnd_evolves (d : Dev) : Evolves (.dirty :: .par :: reportParts) d d.drillEnd := by
  unfold Dev.drillEnd
  split
  · exact .refl
  · rename_i y0 y1 y2
    extract_lets _ d1 d2
    have hd1 : Evolves (.dirty :: .par :: reportParts) d d1 := (Dev.wrb_evolves ..).after <| Evolves.par.mono
    have hd2 : Evolves (.dirty :: .par :: reportParts) d d2 := (Dev.recordPost_evolves ..).after <| (Dev.touch_evolves ..).after <| (Dev.wr_evolves ..).after <| (Dev.wr_evolves ..).after hd1
    split
    · exact hd1
    · split
      · exact (Dev.complete_evolves ..).after hd2
      · exact hd2

theorem Dev.drillStep_evolves (d : Dev) (step : ℕ) (pass : Bool) (failPort : ℕ) : Evolves [.par] d (d.drillStep step pass failPort) := by
  unfold Dev.drillStep
  split
  · exact .refl
  · extract_lets
    exact Evolves.par.mono

theorem Dev.drillSwapped_evolves (d : Dev) : Evolves (.dirty :: .par :: reportParts) d d.drillSwapped := by
  unfold Dev.drillSwapped
  split
  · exact .refl
  · exact .ite Evolves.par.mono ((Dev.drillEnd_evolves ..).mono)

theorem Dev.drillLeft_evolves (d : Dev) : Evolves (.dirty :: .par :: reportParts) d d.drillLeft := by
  unfold Dev.drillLeft
  split
  · exact .refl
  · exact .ite .refl ((Dev.drillEnd_evolves ..).mono)

theorem Dev.swapCount_evolves (d : Dev) (at_ : ℕ) : Evolves reportParts d (d.swapCount at_) := by
  unfold Dev.swapCount
  exact (Dev.recordPost_evolves ..).after <| (Dev.bump_evolves ..).mono

theorem Dev.swapTake_evolves (d : Dev) : Evolves [.regs, .dirty, .tim, .rng, .lne, .evr, .flt, .ctx, .tar, .par, .sec, .sch, .lcp, .cals, .ldg, .met, .eth, .fl, .freeCtr, .out] d d.swapTake := by
  unfold Dev.swapTake
  split
  · extract_lets _ d1
    have hd1 : Evolves [.regs, .dirty, .tim, .rng, .lne, .evr, .flt, .ctx, .tar, .par, .sec, .sch, .lcp, .cals, .ldg, .met, .eth, .fl, .freeCtr, .out] d d1 := (Dev.swapCount_evolves ..).after <| (Dev.becomeStroke_evolves ..).mono
    exact (Dev.drillSwapped_evolves ..).after <| (Dev.swapDesc_evolves ..).after hd1
  · exact .refl

theorem Dev.swapDone_evolves (d : Dev) (t : ℕ) : Evolves [.regs, .dirty, .tim, .rng, .lne, .evr, .flt, .ctx, .par, .sch, .lcp, .rad, .eth, .freeCtr, .out] d (d.swapDone t) := by
  unfold Dev.swapDone
  exact (Dev.drillLeft_evolves ..).after <| (Dev.becomeBow_evolves ..).after <| (Dev.swapDesc_evolves ..).after <| (Dev.swapCount_evolves ..).mono

theorem Dev.cycleClose_evolves (d : Dev) (early : Bool) : Evolves (.ctx :: .tar :: .par :: reportParts) d (d.cycleClose early) := by
  unfold Dev.cycleClose
  split
  · exact .refl
  · extract_lets _ _ _ d1 d2 d3 d4 _ _ d5
    have hd1 : Evolves (.ctx :: .tar :: .par :: reportParts) d d1 := (Dev.wr_evolves ..).after <| (Dev.wr_evolves ..).mono
    have hd2 : Evolves (.ctx :: .tar :: .par :: reportParts) d d2 := .ite ((Dev.bump_evolves ..).after hd1) hd1
    have hd3 : Evolves (.ctx :: .tar :: .par :: reportParts) d d3 := .ite hd2 ((Dev.closeHalf_evolves ..).after hd2)
    have hd4 : Evolves (.ctx :: .tar :: .par :: reportParts) d d4 := (Dev.journalCycle_evolves ..).after hd3
    have hd5 : Evolves (.ctx :: .tar :: .par :: reportParts) d d5 := .over [.ctx, .par] hd4
    exact .ite ((Dev.pairSend_evolves ..).after (.foldl (fun _ _ => (Dev.pairSend_evolves ..).mono) hd5)) hd5

theorem Dev.swapTry_evolves (d : Dev) : Evolves [.regs, .tim, .rng, .lne, .evr, .flt, .ctx, .tar, .par, .sch, .lcp, .rad, .freeCtr, .out] d d.swapTry := by
  unfold Dev.swapTry
  split
  · exact .refl
  · split
    · exact .refl
    · rename_i y0 y1 y2
      extract_lets _ _ d1 _ d2
      have hd1 : Evolves [.regs, .tim, .rng, .lne, .evr, .flt, .ctx, .tar, .par, .sch, .lcp, .rad, .freeCtr, .out] d d1 := Evolves.par.mono
      have hd2 : Evolves [.regs, .tim, .rng, .lne, .evr, .flt, .ctx, .tar, .par, .sch, .lcp, .rad, .freeCtr, .out] d d2 := (Dev.dropDescs_evolves ..).after <| (Dev.dropClaim_evolves ..).after <| (Dev.pairSend_evolves ..).after hd1
      split
      · exact .ite ((Dev.cycleClose_evolves ..).after <| Evolves.par.after hd1) hd1
      · exact .ite (Evolves.par.after hd2) hd1
      · exact hd1

theorem Dev.swapStart_evolves (d : Dev) (desc : Option (ℕ × ℕ)) : Evolves [.regs, .tim, .rng, .lne, .evr, .flt, .ctx, .tar, .par, .sch, .lcp, .rad, .freeCtr, .out] d (d.swapStart desc) := by
  unfold Dev.swapStart
  exact (Dev.swapTry_evolves ..).after <| Evolves.par.mono

theorem Dev.drillOver_evolves (d : Dev) (pass : Bool) (failPort : ℕ) : Evolves [.regs, .tim, .rng, .lne, .evr, .flt, .ctx, .tar, .par, .sch, .lcp, .rad, .freeCtr, .out] d (d.drillOver pass failPort) := by
  unfold Dev.drillOver
  split
  · exact .refl
  · rename_i y0 y1 y2
    split
    · exact .refl
    · extract_lets d1 d2 d3
      have hd1 : Evolves [.regs, .tim, .rng, .lne, .evr, .flt, .ctx, .tar, .par, .sch, .lcp, .rad, .freeCtr, .out] d d1 := (Dev.drillStep_evolves ..).mono
      have hd2 : Evolves [.regs, .tim, .rng, .lne, .evr, .flt, .ctx, .tar, .par, .sch, .lcp, .rad, .freeCtr, .out] d d2 := .ite hd1 ((Dev.wr_evolves ..).after hd1)
      have hd3 : Evolves [.regs, .tim, .rng, .lne, .evr, .flt, .ctx, .tar, .par, .sch, .lcp, .rad, .freeCtr, .out] d d3 := .ite hd2 ((Dev.pairSend_evolves ..).after hd2)
      exact (Dev.swapStart_evolves ..).after hd3

/-! ## SchedOps -/

theorem Dev.setGrpSch_evolves (d : Dev) (g : ℕ) (x : GrpSch) : Evolves [.sch] d (d.setGrpSch g x) := by
  unfold Dev.setGrpSch
  exact Evolves.sch.mono

theorem Dev.setPsch_evolves (d : Dev) (pk : ℕ) (x : PortSch) : Evolves [.sch] d (d.setPsch pk x) := by
  unfold Dev.setPsch
  exact Evolves.sch.mono

theorem Dev.noteUse_evolves (d : Dev) (pk : ℕ) (x : Xfer) : Evolves [.regs, .sch] d (d.noteUse pk x) := by
  unfold Dev.noteUse
  extract_lets _ _ _ d1
  have hd1 : Evolves [.regs, .sch] d d1 := .ite ((Dev.setPsch_evolves ..).mono) .refl
  exact .ite ((Dev.wr_evolves ..).after <| (Dev.setPsch_evolves ..).after hd1) hd1

theorem Dev.markCatchup_evolves (d : Dev) (m : ℕ) : Evolves [.ctx] d (d.markCatchup m) := by
  unfold Dev.markCatchup
  exact (Dev.editCtx_evolves ..).mono

theorem Dev.expedite_evolves (d : Dev) (m : ℕ) : Evolves [.ctx] d (d.expedite m) := by
  unfold Dev.expedite
  exact (Dev.editCtx_evolves ..).mono

theorem Dev.unmerge_evolves (d : Dev) (m : ℕ) : Evolves [.ctx, .sch] d (d.unmerge m) := by
  unfold Dev.unmerge
  exact (Dev.expedite_evolves ..).after <| Evolves.sch.mono

theorem Dev.setEntry_evolves (d : Dev) (m : ℕ) (e0 : Entry) (st : ℕ) : Evolves [.ctx, .sch] d (d.setEntry m e0 st) := by
  unfold Dev.setEntry
  extract_lets _ _ d1 d2
  have hd1 : Evolves [.ctx, .sch] d d1 := Evolves.sch.mono
  have hd2 : Evolves [.ctx, .sch] d d2 := (Dev.editCtx_evolves ..).after hd1
  exact .ite hd1 (.ite ((Dev.unmerge_evolves ..).after hd2) hd2)

theorem Dev.planAt_evolves (d : Dev) (heat : Heat) (m : ℕ) (e : Entry) (due : ℕ) : Evolves [.regs, .ctx, .sch] d (d.planAt heat m e due) := by
  unfold Dev.planAt
  split
  · exact (Dev.bump_evolves ..).after <| (Dev.setEntry_evolves ..).mono
  · split <;> exact (Dev.setEntry_evolves ..).mono

theorem Dev.slotReplan_evolves (d : Dev) (m : ℕ) : Evolves [.regs, .ctx, .sch] d (d.slotReplan m) := by
  unfold Dev.slotReplan
  split
  · exact .refl
  · split
    · exact .refl
    · exact .ite ((Dev.planAt_evolves ..).mono) .refl

theorem Dev.spaceOut_evolves (d : Dev) (heat : Heat) (pk w1 : Nat) (es : List (Nat × Entry)) :
    Evolves [.regs, .ctx, .sch] d (d.spaceOut heat pk w1 es) :=
  .foldl_via (fun a : Dev × Nat × Nat => a.1) (fun _ _ => Dev.planAt_evolves ..) .refl

theorem Dev.spaceAll_evolves (d : Dev) (heat : Heat) (w1 : ℕ) (es : List (ℕ × Entry)) : Evolves [.regs, .ctx, .sch] d (d.spaceAll heat w1 es) := by
  unfold Dev.spaceAll
  extract_lets _ d1
  have hd1 : Evolves [.regs, .ctx, .sch] d d1 := .foldl (fun _ _ => (Dev.setEntry_evolves ..).mono) .refl
  exact .foldl (fun _ _ => (Dev.spaceOut_evolves ..).mono) hd1

theorem Dev.holdEntries_evolves (d : Dev) (g : ℕ) : Evolves [.ctx, .sch] d (d.holdEntries g) := by
  unfold Dev.holdEntries
  exact .foldl (fun _ _ => (Dev.setEntry_evolves ..).mono) .refl

theorem Dev.suspend_evolves (d : Dev) : Evolves [.ctx, .sch] d d.suspend := by
  unfold Dev.suspend
  exact .ite (.foldl (fun _ _ => (Dev.setEntry_evolves ..).mono) .refl) .refl

theorem Dev.respace_evolves (d : Dev) (g : ℕ) (st : ℕ) : Evolves [.regs, .ctx, .sch] d (d.respace g st) := by
  unfold Dev.respace
  split
  · exact .refl
  · exact (Dev.spaceAll_evolves ..).mono

theorem Dev.heatOpen_evolves (d : Dev) (g : ℕ) (census : Bool) : Evolves [.regs, .ctx, .sch] d (d.heatOpen g census) := by
  unfold Dev.heatOpen
  extract_lets _ _ d1 _ _ _ d2
  have hd1 : Evolves [.regs, .ctx, .sch] d d1 := (Dev.setGrpSch_evolves ..).mono
  have hd2 : Evolves [.regs, .ctx, .sch] d d2 := .ite hd1 (.foldl (fun _ _ => (Dev.markCatchup_evolves ..).mono) hd1)
  exact .ite .refl (.ite (.foldl (fun _ _ => (Dev.setEntry_evolves ..).mono) hd2) ((Dev.spaceAll_evolves ..).after hd2))

theorem Dev.enterPolling_evolves (d : Dev) (p : ℕ) (m : ℕ) : Evolves [.ctx, .lcp] d (d.enterPolling p m) := by
  unfold Dev.enterPolling
  extract_lets
  exact .ite .refl ((Dev.editCtx_evolves ..).after <| Evolves.lcp.mono)

theorem Dev.heatMissed_evolves (d : Dev) (m : ℕ) (pol : Policy) : Evolves [.ctx, .lcp] d (d.heatMissed m pol) := by
  unfold Dev.heatMissed
  split
  · exact .refl
  · rename_i y0 y1 y2
    extract_lets _ _ _ d1
    have hd1 : Evolves [.ctx, .lcp] d d1 := (Dev.editCtx_evolves ..).mono
    split
    · exact .ite ((Dev.enterPolling_evolves ..).after <| (Dev.editCtx_evolves ..).after hd1) (.ite ((Dev.editCtx_evolves ..).after hd1) hd1)
    · exact hd1

theorem Dev.settleEnd_evolves (d : Dev) (m : ℕ) (pol : Policy) : Evolves [.ctx, .sch, .lcp] d (d.settleEnd m pol) := by
  unfold Dev.settleEnd
  extract_lets _ _ d1 _ _ d2 d3
  have hd1 : Evolves [.ctx, .sch, .lcp] d d1 := Evolves.sch.mono
  have hd2 : Evolves [.ctx, .sch, .lcp] d d2 := Evolves.sch.after hd1
  have hd3 : Evolves [.ctx, .sch, .lcp] d d3 := .ite ((Dev.editCtx_evolves ..).after hd2) (.ite ((Dev.heatMissed_evolves ..).after hd2) hd2)
  exact .ite hd1 (.ite ((Dev.expedite_evolves ..).after <| Evolves.sch.after hd1) ((Dev.editCtx_evolves ..).after hd3))

theorem Dev.heatClose_evolves (d : Dev) (g : ℕ) : Evolves (.glb :: .ctx :: .sch :: .lcp :: reportParts) d (d.heatClose g) := by
  unfold Dev.heatClose
  split
  · exact .refl
  · rename_i y0 y1 y2
    extract_lets _ _ _ _ d1 _ d2 _ _ d3
    have hd1 : Evolves (.glb :: .ctx :: .sch :: .lcp :: reportParts) d d1 := .foldl (fun _ _ => (Dev.settleEnd_evolves ..).mono) .refl
    have hd2 : Evolves (.glb :: .ctx :: .sch :: .lcp :: reportParts) d d2 := (Dev.setGrpSch_evolves ..).after hd1
    have hd3 : Evolves (.glb :: .ctx :: .sch :: .lcp :: reportParts) d d3 := Evolves.glb.after hd2
    exact .ite hd2 (.ite ((Dev.record_evolves ..).after <| (Dev.stepDone_evolves ..).after <| Evolves.glb.after hd3) hd3)

theorem Dev.attemptFailed_evolves (d : Dev) (m : ℕ) : Evolves [.ctx, .sch] d (d.attemptFailed m) := by
  unfold Dev.attemptFailed
  split
  · exact .refl
  · split
    · exact .refl
    · split
      · extract_lets
        split <;> exact (Dev.setEntry_evolves ..).mono
      · exact (Dev.setEntry_evolves ..).mono

theorem Dev.heatFailed_evolves (d : Dev) (x : Xfer) : Evolves [.ctx, .sch, .lcp] d (d.heatFailed x) := by
  unfold Dev.heatFailed
  split
  · exact (Dev.attemptFailed_evolves ..).mono
  · extract_lets _ d1
    have hd1 : Evolves [.ctx, .sch, .lcp] d d1 := (Dev.heatMissed_evolves ..).mono
    exact .ite hd1 ((Dev.editCtx_evolves ..).after hd1)

theorem Dev.heatDone_evolves (d : Dev) (x : Xfer) : Evolves [.ctx, .sch] d (d.heatDone x) := by
  unfold Dev.heatDone
  split
  · extract_lets d1
    have hd1 : Evolves [.ctx, .sch] d d1 := (Dev.editCtx_evolves ..).mono
    exact .ite hd1 ((Dev.editCtx_evolves ..).after hd1)
  · split
    · exact (Dev.setEntry_evolves ..).mono
    · exact .refl

theorem Dev.pushArrived_evolves (d : Dev) (m : ℕ) : Evolves [.ctx, .sch] d (d.pushArrived m) := by
  unfold Dev.pushArrived
  split
  · exact .ite ((Dev.setEntry_evolves ..).mono) .refl
  · exact .refl

theorem Dev.orderDone_evolves (d : Dev) (id : ℕ) (result : ℕ) (attempts : ℕ) (answer : ℕ) (polling : Bool) : Evolves linkParts d (d.orderDone id result attempts answer polling) := by
  unfold Dev.orderDone
  extract_lets d1
  have hd1 : Evolves linkParts d d1 := (Dev.flHoldRec_evolves ..).mono
  split
  · exact hd1
  · exact Evolves.fl.after hd1

theorem Dev.enqueue_evolves (d : Dev) (x : Xfer) : Evolves [.sch] d (d.enqueue x) := by
  unfold Dev.enqueue
  exact Evolves.sch.mono

theorem Dev.answerDesc_evolves (d : Dev) (x : Xfer) (c : Ctx) (data : MData) (ofs : ℤ) (q : ℕ × ℕ) : Evolves [.regs, .rng, .out] d (d.answerDesc x c data ofs q) := by
  unfold Dev.answerDesc
  split
  · exact .refl
  · rename_i y0 y1 y2
    extract_lets _ _ _ d1
    have hd1 : Evolves [.regs, .rng, .out] d d1 := .ite .refl ((Dev.writeBuf_evolves ..).mono)
    exact .ite ((Dev.complete_evolves ..).after hd1) (.ite ((Dev.complete_evolves ..).mono) ((Dev.complete_evolves ..).mono))

theorem Dev.requeue_evolves (d : Dev) (x : Xfer) : Evolves [.regs, .rng, .sch] d (d.requeue x) := by
  unfold Dev.requeue
  split
  · exact .foldl (fun _ _ => (Dev.complete_evolves ..).mono) .refl
  · refine .foldl (fun x a => ?_) .refl
    split
    · exact (Dev.enqueue_evolves ..).mono
    · exact .refl

theorem Dev.xferFail_evolves (d : Dev) (x : Xfer) (st : ℕ) (sub : ℕ) : Evolves (.ctx :: .tar :: .par :: .sch :: .lcp :: .ldg :: linkParts) d (d.xferFail x st sub) := by
  unfold Dev.xferFail
  extract_lets d1 d2 d3
  have hd1 : Evolves (.ctx :: .tar :: .par :: .sch :: .lcp :: .ldg :: linkParts) d d1 := .ite ((Dev.requeue_evolves ..).mono) (.foldl (fun _ _ => (Dev.complete_evolves ..).mono) .refl)
  have hd2 : Evolves (.ctx :: .tar :: .par :: .sch :: .lcp :: .ldg :: linkParts) d d2 := .ite ((Dev.heatFailed_evolves ..).after hd1) hd1
  have hd3 : Evolves (.ctx :: .tar :: .par :: .sch :: .lcp :: .ldg :: linkParts) d d3 := by
    unfold d3
    split
    · exact (Dev.orderDone_evolves ..).after hd2
    · exact hd2
  exact (Dev.ctxTry_evolves ..).after <| (Dev.unpin_evolves ..).after hd3

theorem Dev.xferDone_evolves (d : Dev) (x : Xfer) (data : MData) (ofs : ℤ) : Evolves [.regs, .rng, .lne, .evr, .flt, .ctx, .tar, .par, .sec, .sch, .img, .ldg, .eth, .fl, .freeCtr, .out] d (d.xferDone x data ofs) := by
  unfold Dev.xferDone
  split
  · exact .foldl (fun _ _ => (Dev.complete_evolves ..).mono) .refl
  · rename_i y0 y1 y2
    extract_lets d1 d2 d3 d4 d5
    have hd1 : Evolves [.regs, .rng, .lne, .evr, .flt, .ctx, .tar, .par, .sec, .sch, .img, .ldg, .eth, .fl, .freeCtr, .out] d d1 := .foldl (fun _ _ => (Dev.answerDesc_evolves ..).mono) .refl
    have hd2 : Evolves [.regs, .rng, .lne, .evr, .flt, .ctx, .tar, .par, .sec, .sch, .img, .ldg, .eth, .fl, .freeCtr, .out] d d2 := .ite ((Dev.heatDone_evolves ..).after hd1) hd1
    have hd3 : Evolves [.regs, .rng, .lne, .evr, .flt, .ctx, .tar, .par, .sec, .sch, .img, .ldg, .eth, .fl, .freeCtr, .out] d d3 := .ite ((Dev.keyAck_evolves ..).after hd2) hd2
    have hd4 : Evolves [.regs, .rng, .lne, .evr, .flt, .ctx, .tar, .par, .sec, .sch, .img, .ldg, .eth, .fl, .freeCtr, .out] d d4 := .ite ((Dev.shadowOk_evolves ..).after hd3) hd3
    have hd5 : Evolves [.regs, .rng, .lne, .evr, .flt, .ctx, .tar, .par, .sec, .sch, .img, .ldg, .eth, .fl, .freeCtr, .out] d d5 := by
      unfold d5
      split
      · exact .ite hd4 ((Dev.clockFresh_evolves ..).after hd4)
      · exact (Dev.imgAnswer_evolves ..).after hd4
      · exact .ite ((Dev.imgAnswer_evolves ..).after hd4) hd4
    exact (Dev.ctxTry_evolves ..).after <| (Dev.unpin_evolves ..).after hd5

theorem Dev.xferStart_evolves (d : Dev) (x0 : Xfer) (bytes : ℕ) : Evolves [.regs, .rng, .ctx, .sec, .sch, .out] d (d.xferStart x0 bytes) := by
  unfold Dev.xferStart
  extract_lets _ d1 d2 r _ d3 _ d4 d5 d6
  have hd1 : Evolves [.regs, .rng, .ctx, .sec, .sch, .out] d d1 := .foldl (fun _ _ => (Dev.markStarted_evolves ..).mono) .refl
  have hd2 : Evolves [.regs, .rng, .ctx, .sec, .sch, .out] d d2 := by
    unfold d2
    split
    · split
      · exact (Dev.setEntry_evolves ..).after hd1
      · exact hd1
    · exact hd1
  have hr : Evolves [.regs, .rng, .ctx, .sec, .sch, .out] d r.2 := by
    unfold r
    split
    · split
      · exact (Dev.secure_evolves ..).after hd2
      · exact hd2
    · exact hd2
  have hd3 : Evolves [.regs, .rng, .ctx, .sec, .sch, .out] d d3 := .ite ((Dev.pin_evolves ..).after hr) hr
  have hd4 : Evolves [.regs, .rng, .ctx, .sec, .sch, .out] d d4 := Evolves.sch.after hd3
  have hd5 : Evolves [.regs, .rng, .ctx, .sec, .sch, .out] d d5 := by
    unfold d5
    split
    · exact (Dev.emit_evolves ..).after hd4
    · exact hd4
  have hd6 : Evolves [.regs, .rng, .ctx, .sec, .sch, .out] d d6 := .ite ((Dev.expedite_evolves ..).after hd5) hd5
  exact (Dev.setPsch_evolves ..).after hd6

theorem Dev.xferLeave_evolves (d : Dev) (pk : ℕ) (answered : Bool) : Evolves [.regs, .sch] d (d.xferLeave pk answered) := by
  unfold Dev.xferLeave
  extract_lets
  split
  · exact .refl
  · rename_i y0 y1 y2
    extract_lets d1
    have hd1 : Evolves [.regs, .sch] d d1 := (Dev.setPsch_evolves ..).mono
    exact (Dev.noteUse_evolves ..).after hd1

theorem Dev.xferLost_evolves (d : Dev) (pk : ℕ) (st : ℕ) : Evolves (.ctx :: .tar :: .par :: .sch :: .lcp :: .ldg :: linkParts) d (d.xferLost pk st) := by
  unfold Dev.xferLost
  split
  · exact .refl
  · exact (Dev.xferFail_evolves ..).after <| (Dev.xferLeave_evolves ..).mono

/-! ## LineOps -/

theorem Dev.updNb_evolves (d : Dev) (p : ℕ) (i : ℕ) (f : Nb → Nb) : Evolves [.lcp] d (d.updNb p i f) := by
  unfold Dev.updNb
  exact (Dev.updLp_evolves ..).mono

theorem Dev.hearNb_evolves (d : Dev) (p : Nat) (rx : LineRx) (snrs : List Int) (mix : Option Nat) :
    Evolves [.regs, .lcp] d (d.hearNb p rx snrs mix) := by
  have hupd (f : Lcp → Lcp) : Evolves [.regs, .lcp] d (d.updLp p f) := (Dev.updLp_evolves ..).mono
  unfold Dev.hearNb
  extract_lets l slot n r d1
  clear_value slot
  cases slot with
  | none => exact (Dev.bump_evolves ..).mono
  | some i =>
    dsimp only
    split
    · exact (Dev.bump_evolves ..).after (hupd _)
    · exact hupd _

theorem Dev.learnRoute_evolves (d : Dev) (p : ℕ) (m : ℕ) (path : List (ℕ × ℕ)) (cost : ℕ) (far : ℕ) : Evolves [.lcp] d (d.learnRoute p m path cost far) := by
  unfold Dev.learnRoute
  extract_lets
  split
  · exact (Dev.setLp_evolves ..).mono
  · exact .ite ((Dev.setLp_evolves ..).mono) .refl

theorem Dev.learnLine_evolves (d : Dev) (p : ℕ) (m : ℕ) (up : List (ℕ × ℕ)) (near : ℕ) (cost : ℕ) : Evolves [.lcp] d (d.learnLine p m up near cost) := by
  unfold Dev.learnLine
  extract_lets
  exact (Dev.learnRoute_evolves ..).mono

theorem Dev.routeError_evolves (d : Dev) (p : ℕ) (m : ℕ) : Evolves [.regs, .lcp] d (d.routeError p m) := by
  unfold Dev.routeError
  extract_lets
  split
  · exact .refl
  · refine (Dev.bump_evolves ..).after ?_
    split
    · extract_lets
      exact (Dev.setLp_evolves ..).mono
    · exact (Dev.setLp_evolves ..).mono

theorem Dev.failPath_evolves (d : Dev) (p : ℕ) (m : ℕ) (viaAlt : Bool) : Evolves [.regs, .lcp] d (d.failPath p m viaAlt) := by
  unfold Dev.failPath
  extract_lets
  split
  · exact .refl
  · extract_lets
    exact .ite ((Dev.bump_evolves ..).after <| (Dev.setLp_evolves ..).mono) (.ite ((Dev.routeError_evolves ..).mono) ((Dev.setLp_evolves ..).mono))

theorem Dev.phaseMoved_evolves (d : Dev) (m : ℕ) (old : ℕ) (new : ℕ) (t : ℕ) : Evolves (.ldg :: reportParts) d (d.phaseMoved m old new t) := by
  unfold Dev.phaseMoved
  extract_lets _ d1
  have hd1 : Evolves (.ldg :: reportParts) d d1 := (Dev.bump_evolves ..).after <| (Dev.setLdgM_evolves ..).mono
  exact (Dev.post_evolves ..).after hd1

theorem Dev.phSample_evolves (d : Dev) (p : ℕ) (m : ℕ) (rxNs : ℕ) (h : MacHdr) (plan : ℕ) : Evolves (.ctx :: .lcp :: .ldg :: reportParts) d (d.phSample p m rxNs h plan) := by
  unfold Dev.phSample
  split
  · exact .refl
  · rename_i y0 y1 y2
    extract_lets _ _ d1
    have hd1 : Evolves (.ctx :: .lcp :: .ldg :: reportParts) d d1 := (Dev.setLp_evolves ..).mono
    split
    · rename_i y0 y1 y2 y3 y4 y5
      extract_lets _ d2
      have hd2 : Evolves (.ctx :: .lcp :: .ldg :: reportParts) d d2 := (Dev.bump_evolves ..).after <| (Dev.updLp_evolves ..).after hd1
      exact .ite hd1 (.ite hd2 ((Dev.phaseMoved_evolves ..).after <| (Dev.editCtx_evolves ..).after hd2))
    · exact hd1

theorem Dev.phUnknown_evolves (d : Dev) (p : ℕ) (m : ℕ) : Evolves [.ctx, .lcp] d (d.phUnknown p m) := by
  unfold Dev.phUnknown
  split
  · exact .ite .refl ((Dev.editCtx_evolves ..).after <| (Dev.updLp_evolves ..).mono)
  · exact .refl

theorem Dev.truncate_evolves (d : Dev) (p : ℕ) : Evolves (.lcp :: reportParts) d (d.truncate p) := by
  unfold Dev.truncate
  split
  · exact .refl
  · rename_i y0 y1 y2
    split
    · exact .refl
    · extract_lets _ d1 d2
      have hd1 : Evolves (.lcp :: reportParts) d d1 := (Dev.wrb_evolves ..).after <| (Dev.bump_evolves ..).after <| (Dev.updLp_evolves ..).mono
      have hd2 : Evolves (.lcp :: reportParts) d d2 := .ite ((Dev.emit_evolves ..).after hd1) hd1
      exact .ite hd2 ((Dev.record_evolves ..).after hd2)

theorem Dev.govCheck_evolves (d : Dev) (p : ℕ) : Evolves (.lcp :: reportParts) d (d.govCheck p) := by
  unfold Dev.govCheck
  split
  · exact .ite ((Dev.truncate_evolves ..).mono) .refl
  · exact .refl

theorem Dev.ready_evolves (d : Dev) (p : ℕ) (plan : ℕ) (hi : Bool) (polled : Bool) : Evolves [.lcp, .freeCtr] d (d.ready p plan hi polled) := by
  unfold Dev.ready
  extract_lets _ r
  have hr : Evolves [.lcp, .freeCtr] d r.2 := (Dev.drawOf_evolves ..).mono
  exact (Dev.updLp_evolves ..).after hr

theorem Dev.mediumBusy_evolves (d : Dev) (p : ℕ) (plan : ℕ) (from_ : ℕ) (until_ : ℕ) : Evolves [.lcp] d (d.mediumBusy p plan from_ until_) := by
  unfold Dev.mediumBusy
  extract_lets
  exact (Dev.updLp_evolves ..).mono

theorem Dev.setCur_evolves (d : Dev) (pk : ℕ) (x : Xfer) : Evolves [.sch] d (d.setCur pk x) := by
  unfold Dev.setCur
  exact (Dev.setPsch_evolves ..).mono

theorem Dev.exchange_evolves (d : Dev) (p : ℕ) : Evolves (.ctx :: .tar :: .par :: .sch :: .lcp :: .ldg :: linkParts) d (d.exchange p) := by
  unfold Dev.exchange
  split
  · exact .refl
  · rename_i y0 y1 y2
    extract_lets d0 _ _ _ _ _ d1 d2 d3 d4
    have hd0 : Evolves (.ctx :: .tar :: .par :: .sch :: .lcp :: .ldg :: linkParts) d d0 := (Dev.latch_evolves ..).mono
    have hd1 : Evolves (.ctx :: .tar :: .par :: .sch :: .lcp :: .ldg :: linkParts) d d1 := (Dev.setCur_evolves ..).after hd0
    have hd2 : Evolves (.ctx :: .tar :: .par :: .sch :: .lcp :: .ldg :: linkParts) d d2 := (Dev.updLp_evolves ..).after hd1
    have hd3 : Evolves (.ctx :: .tar :: .par :: .sch :: .lcp :: .ldg :: linkParts) d d3 := (Dev.ready_evolves ..).after hd2
    have hd4 : Evolves (.ctx :: .tar :: .par :: .sch :: .lcp :: .ldg :: linkParts) d d4 := .ite hd3 ((Dev.bump_evolves ..).after hd3)
    exact .ite ((Dev.xferFail_evolves ..).after <| (Dev.xferLeave_evolves ..).after hd0) (.ite ((Dev.bump_evolves ..).after hd4) hd4)

theorem Dev.lineStart_evolves (d : Dev) (p : ℕ) (plan : ℕ) (symbols : ℕ) (beacon : Bool) (seg : ℕ) (last : ℕ) : Evolves [.lcp] d (d.lineStart p plan symbols beacon seg last) := by
  unfold Dev.lineStart
  exact (Dev.updLp_evolves ..).mono

theorem Dev.beaconOut_evolves (d : Dev) (pk : ℕ) (lead : ℕ) : Evolves [.regs, .tim, .out] d (d.beaconOut pk lead) := by
  unfold Dev.beaconOut
  extract_lets d1
  have hd1 : Evolves [.regs, .tim, .out] d d1 := (Dev.bumpW_evolves ..).after <| (Dev.emit_evolves ..).mono
  exact Evolves.tim.after hd1

theorem Dev.lineGated_evolves (d : Dev) (p : ℕ) : Evolves [.regs, .sch, .lcp] d (d.lineGated p) := by
  unfold Dev.lineGated
  split
  · exact .refl
  · rename_i y0 y1 y2
    extract_lets d1
    have hd1 : Evolves [.regs, .sch, .lcp] d d1 := (Dev.wrb_evolves ..).after <| (Dev.updLp_evolves ..).mono
    exact .ite ((Dev.setPsch_evolves ..).after <| (Dev.updLp_evolves ..).after hd1) ((Dev.updLp_evolves ..).after hd1)

theorem Dev.sendBeacon_evolves (d : Dev) (p : ℕ) (plan : ℕ) (bps : ℕ) (bytes : ℕ) : Evolves [.regs, .tim, .out] d (d.sendBeacon p plan bps bytes) := by
  unfold Dev.sendBeacon
  extract_lets _ _ _ d1
  have hd1 : Evolves [.regs, .tim, .out] d d1 := (Dev.emit_evolves ..).mono
  exact (Dev.beaconOut_evolves ..).after (.ite ((Dev.emit_evolves ..).after hd1) hd1)

theorem Dev.sendXfer_evolves (d : Dev) (p plan bps n seg last : Nat) (x : Xfer) :
    Evolves [.lcp, .out] d (d.sendXfer p plan bps n seg last x) := by
  unfold Dev.sendXfer
  extract_lets h nb d1
  have h1 : Evolves [.lcp, .out] d d1 := (Dev.emit_evolves ..).mono
  clear_value d1 nb
  cases nb with
  | none => exact h1
  | some e => exact (Dev.updNb_evolves ..).after h1

theorem Dev.lineSend_evolves (d : Dev) (p : ℕ) : Evolves [.regs, .tim, .evr, .lcp, .out] d (d.lineSend p) := by
  unfold Dev.lineSend
  split
  · rename_i y0 y1 y2 y3 y4 y5 y6
    extract_lets d0 _ _ _ _ d1
    have hd0 : Evolves [.regs, .tim, .evr, .lcp, .out] d d0 := (Dev.toMono_evolves ..).mono
    have hd1 : Evolves [.regs, .tim, .evr, .lcp, .out] d d1 := (Dev.lineStart_evolves ..).after <| (Dev.wrb_evolves ..).after hd0
    split
    · exact (Dev.wrb_evolves ..).after hd0
    · split
      · exact .ite hd0 ((Dev.bump_evolves ..).after <| (Dev.updLp_evolves ..).after hd0)
      · split
        · exact (Dev.sendBeacon_evolves ..).after hd1
        · split
          · exact hd1
          · exact (Dev.sendXfer_evolves ..).after hd1
  · exact .refl

theorem Dev.leavePolling_evolves (d : Dev) (p : ℕ) (m : ℕ) : Evolves [.ctx, .lcp] d (d.leavePolling p m) := by
  unfold Dev.leavePolling
  exact .ite .refl ((Dev.editCtx_evolves ..).after <| (Dev.updLp_evolves ..).mono)

theorem Dev.windowCount_evolves (d : Dev) (p : ℕ) (failed : Bool) : Evolves [.lcp] d (d.windowCount p failed) := by
  unfold Dev.windowCount
  exact .ite .refl ((Dev.updLp_evolves ..).mono)

theorem Dev.histFail_evolves (d : Dev) (p : ℕ) (go : LineGo) : Evolves [.lcp] d (d.histFail p go) := by
  unfold Dev.histFail
  split
  · exact .refl
  · split
    · exact (Dev.updNb_evolves ..).mono
    · exact .refl

theorem Dev.lineOk_evolves (d : Dev) (p : ℕ) (x : Xfer) : Evolves [.ctx, .lcp] d (d.lineOk p x) := by
  unfold Dev.lineOk
  extract_lets d1 d2 _ d3
  have hd1 : Evolves [.ctx, .lcp] d d1 := .ite .refl ((Dev.updLp_evolves ..).mono)
  have hd2 : Evolves [.ctx, .lcp] d d2 := by
    unfold d2
    split
    · exact .ite ((Dev.leavePolling_evolves ..).after hd1) (.ite ((Dev.updLp_evolves ..).after hd1) hd1)
    · exact hd1
  have hd3 : Evolves [.ctx, .lcp] d d3 := by
    unfold d3
    split
    · exact (Dev.setLp_evolves ..).after hd2
    · split
      · exact (Dev.learnRoute_evolves ..).after hd2
      · exact hd2
  exact (Dev.windowCount_evolves ..).after hd3

theorem Dev.lineFail_evolves (d : Dev) (p : ℕ) (x : Xfer) : Evolves [.regs, .ctx, .sec, .lcp] d (d.lineFail p x) := by
  unfold Dev.lineFail
  extract_lets d1 d2 d3 d4
  have hd1 : Evolves [.regs, .ctx, .sec, .lcp] d d1 := (Dev.bump_evolves ..).after (.ite .refl ((Dev.updLp_evolves ..).mono))
  have hd2 : Evolves [.regs, .ctx, .sec, .lcp] d d2 := by
    unfold d2
    split
    · exact (Dev.updLp_evolves ..).after hd1
    · exact hd1
  have hd3 : Evolves [.regs, .ctx, .sec, .lcp] d d3 := (Dev.windowCount_evolves ..).after <| (Dev.histFail_evolves ..).after hd2
  have hd4 : Evolves [.regs, .ctx, .sec, .lcp] d d4 := .ite hd3 ((Dev.failPath_evolves ..).after hd3)
  exact .ite ((Dev.shadowFail_evolves ..).after hd4) hd4

theorem Dev.castSent_evolves (d : Dev) (pk : ℕ) (g : ℕ) (b : ℕ) : Evolves [.regs, .img] d (d.castSent pk g b) := by
  unfold Dev.castSent
  split
  · exact .refl
  · extract_lets
    exact (Dev.bumpW_evolves ..).after <| Evolves.img.mono

theorem Dev.castEnd_evolves (d : Dev) (pk : ℕ) (x : Xfer) : Evolves (.sch :: .img :: .eth :: .fl :: reportParts) d (d.castEnd pk x) := by
  unfold Dev.castEnd
  extract_lets d1
  have hd1 : Evolves (.sch :: .img :: .eth :: .fl :: reportParts) d d1 := (Dev.xferLeave_evolves ..).mono
  split
  · split
    · exact (Dev.orderDone_evolves ..).after hd1
    · exact (Dev.castSent_evolves ..).after hd1
  · exact hd1

theorem Dev.castAgain_evolves (d : Dev) (x : Xfer) : Evolves [.sch] d (d.castAgain x) := by
  unfold Dev.castAgain
  exact .ite Evolves.sch.mono .refl

/-! ## Line -/

theorem Dev.routeMsg_evolves (d : Dev) (p : ℕ) (rx : LineRx) : Evolves [.regs, .sch, .lcp, .freeCtr] d (d.routeMsg p rx) := by
  unfold Dev.routeMsg
  split
  · exact .refl
  · rename_i y0 y1 y2
    split
    · exact (Dev.routeError_evolves ..).mono
    · split
      · extract_lets _ d1
        have hd1 : Evolves [.regs, .sch, .lcp, .freeCtr] d d1 := (Dev.learnRoute_evolves ..).mono
        split
        · exact .ite ((Dev.ready_evolves ..).after <| (Dev.setCur_evolves ..).after hd1) hd1
        · exact hd1
      · exact .refl

theorem Dev.lineAcked_evolves (d : Dev) (p : ℕ) (rx : LineRx) : Evolves [.lcp] d (d.lineAcked p rx) := by
  unfold Dev.lineAcked
  exact .ite ((Dev.updLp_evolves ..).mono) .refl

theorem Dev.ackSend_evolves (d : Dev) (p : ℕ) (rx : LineRx) : Evolves [.out] d (d.ackSend p rx) := by
  unfold Dev.ackSend
  exact .ite ((Dev.emit_evolves ..).mono) .refl

theorem Dev.lineMac_evolves (d : Dev) (p start rxNs : Nat) (rx : LineRx) (snrs : List Int) :
    Evolves (.ctx :: .sch :: .lcp :: .ldg :: reportParts) d (d.lineMac p start rxNs rx snrs) := by
  unfold Dev.lineMac
  extract_lets mix d1 d2 d3 own hops cost via d4
  have h1 : Evolves (.ctx :: .sch :: .lcp :: .ldg :: reportParts) d d1 := (Dev.lineAcked_evolves ..).after (Dev.hearNb_evolves ..).mono
  clear_value d1 own hops cost via mix
  have h2 : Evolves (.ctx :: .sch :: .lcp :: .ldg :: reportParts) d d2 := by
    unfold d2
    cases mix with
    | some m => exact (Dev.phSample_evolves ..).after h1
    | none => exact h1
  have h3 : Evolves (.ctx :: .sch :: .lcp :: .ldg :: reportParts) d d3 := (Dev.routeMsg_evolves ..).after <| (Dev.ackSend_evolves ..).after h2
  have h4 : Evolves (.ctx :: .sch :: .lcp :: .ldg :: reportParts) d d4 := by
    unfold d4
    cases mix with
    | some m => exact .ite ((Dev.learnLine_evolves ..).after h3) h3
    | none => exact h3
  clear_value d4
  split
  · exact h2
  split
  · exact h4
  · exact (Dev.offer_evolves ..).after h4
  · exact (Dev.offer_evolves ..).after (.ite ((Dev.updLp_evolves ..).after h4) h4)

theorem Dev.lineBad_evolves (d : Dev) (p : ℕ) (plan : ℕ) : Evolves [.lcp] d (d.lineBad p plan) := by
  unfold Dev.lineBad
  split
  · exact .ite ((Dev.updLp_evolves ..).mono) .refl
  · exact .refl

theorem Dev.lineSeg_evolves (d : Dev) (p : ℕ) (start : ℕ) (rxNs : ℕ) (rx : LineRx) (snrs : List ℤ) : Evolves (.ctx :: .sch :: .lcp :: .ldg :: reportParts) d (d.lineSeg p start rxNs rx snrs) := by
  unfold Dev.lineSeg
  extract_lets
  split
  · exact (Dev.lineMac_evolves ..).mono
  · split
    · exact .ite (.ite ((Dev.lineMac_evolves ..).after <| (Dev.updLp_evolves ..).mono) ((Dev.updLp_evolves ..).mono)) ((Dev.lineBad_evolves ..).after <| (Dev.bump_evolves ..).after <| (Dev.updLp_evolves ..).mono)
    · exact .ite ((Dev.updLp_evolves ..).mono) .refl

theorem Dev.lineHeard_evolves (d : Dev) (p : ℕ) (rx : LineRx) (imp : List Bool × List ℤ) : Evolves [.regs, .lcp] d (d.lineHeard p rx imp) := by
  unfold Dev.lineHeard
  extract_lets d1
  have hd1 : Evolves [.regs, .lcp] d d1 := (Dev.mediumBusy_evolves ..).mono
  exact (Dev.bump_evolves ..).after <| (Dev.updLp_evolves ..).after hd1

theorem Dev.lineRx_evolves (d : Dev) (p : ℕ) (rx : LineRx) : Evolves (.ctx :: .sch :: .lcp :: .ldg :: reportParts) d (d.lineRx p rx) := by
  unfold Dev.lineRx
  split
  · exact .refl
  · extract_lets _ d1 d2 d3
    have hd1 : Evolves (.ctx :: .sch :: .lcp :: .ldg :: reportParts) d d1 := (Dev.lineHeard_evolves ..).mono
    have hd2 : Evolves (.ctx :: .sch :: .lcp :: .ldg :: reportParts) d d2 := (Dev.bump_evolves ..).after hd1
    have hd3 : Evolves (.ctx :: .sch :: .lcp :: .ldg :: reportParts) d d3 := .ite ((Dev.updLp_evolves ..).after hd2) hd2
    exact .ite ((Dev.bump_evolves ..).after hd1) (.ite ((Dev.lineBad_evolves ..).after <| (Dev.bump_evolves ..).after hd1) (.ite hd2 ((Dev.lineSeg_evolves ..).after hd3)))

theorem Dev.drvOpen_evolves (d : Dev) (p : ℕ) (t : LineTx) : Evolves fatalParts d (d.drvOpen p t) := by
  unfold Dev.drvOpen
  extract_lets _ d1
  have hd1 : Evolves fatalParts d d1 := (Dev.updLp_evolves ..).mono
  exact .ite ((Dev.fault_evolves ..).after <| (Dev.wrb_evolves ..).after hd1) hd1

theorem Dev.lineAfter_evolves (d : Dev) (p : ℕ) (t : LineTx) (t4 : ℕ) : Evolves (.sch :: .img :: .lcp :: .eth :: .fl :: reportParts) d (d.lineAfter p t t4) := by
  unfold Dev.lineAfter
  split
  · extract_lets d1
    have hd1 : Evolves (.sch :: .img :: .lcp :: .eth :: .fl :: reportParts) d d1 := (Dev.updLp_evolves ..).mono
    exact (Dev.setPsch_evolves ..).after hd1
  · split
    · exact (Dev.updLp_evolves ..).mono
    · rename_i y0 y1 y2
      extract_lets _ d1
      have hd1 : Evolves (.sch :: .img :: .lcp :: .eth :: .fl :: reportParts) d d1 := (Dev.updLp_evolves ..).mono
      split
      · exact (Dev.updLp_evolves ..).mono
      · split
        · exact .ite ((Dev.castEnd_evolves ..).after hd1) ((Dev.castAgain_evolves ..).after <| (Dev.xferLeave_evolves ..).after hd1)
        · split
          · exact (Dev.updLp_evolves ..).mono
          · split
            · exact (Dev.ready_evolves ..).after <| (Dev.setCur_evolves ..).after <| (Dev.updLp_evolves ..).mono
            · exact (Dev.updLp_evolves ..).mono

theorem Dev.lineTxEnd_evolves (d : Dev) (p : ℕ) (gain : ℕ) : Evolves (.img :: .eth :: .fl :: fatalParts) d (d.lineTxEnd p gain) := by
  unfold Dev.lineTxEnd
  split
  · exact .refl
  · rename_i y0 y1 y2
    extract_lets _ d1 d2
    have hd1 : Evolves (.img :: .eth :: .fl :: fatalParts) d d1 := (Dev.toMono_evolves ..).mono
    have hd2 : Evolves (.img :: .eth :: .fl :: fatalParts) d d2 := (Dev.updLp_evolves ..).after <| (Dev.mediumBusy_evolves ..).after hd1
    exact (Dev.lineAfter_evolves ..).after <| (Dev.drvOpen_evolves ..).after <| (Dev.wr_evolves ..).after hd2

theorem Dev.closeBy_evolves (d : Dev) (p : ℕ) (n : ℕ) : Evolves (.img :: .eth :: .fl :: fatalParts) d (d.closeBy p n) := by
  unfold Dev.closeBy
  split
  · exact .ite ((Dev.lineTxEnd_evolves ..).mono) .refl
  · exact .refl

theorem Dev.govSample_evolves (d : Dev) (p : ℕ) (v : ℕ) (i : ℕ) : Evolves (.img :: .eth :: .fl :: fatalParts) d (d.govSample p v i) := by
  unfold Dev.govSample
  extract_lets _ d1
  have hd1 : Evolves (.img :: .eth :: .fl :: fatalParts) d d1 := (Dev.toMono_evolves ..).after <| (Dev.closeBy_evolves ..).mono
  exact (Dev.govCheck_evolves ..).after <| (Dev.updLp_evolves ..).after hd1

theorem Dev.fuseGo_evolves (d : Dev) (p : ℕ) (v : ℕ) : Evolves (.lcp :: reportParts) d (d.fuseGo p v) := by
  unfold Dev.fuseGo
  split
  · exact .refl
  · split
    · exact (Dev.record_evolves ..).mono
    · exact (Dev.updLp_evolves ..).after <| (Dev.wrb_evolves ..).mono

theorem Dev.fuseDone_evolves (d : Dev) (p : ℕ) (w : ℕ × ℕ) : Evolves (.lcp :: reportParts) d (d.fuseDone p w) := by
  unfold Dev.fuseDone
  extract_lets d1 d2
  have hd1 : Evolves (.lcp :: reportParts) d d1 := (Dev.wrb_evolves ..).after <| (Dev.updLp_evolves ..).mono
  have hd2 : Evolves (.lcp :: reportParts) d d2 := (Dev.wr_evolves ..).after <| (Dev.wr_evolves ..).after <| (Dev.wrb_evolves ..).after hd1
  exact (Dev.record_evolves ..).after hd2

theorem Dev.zeroCross_evolves (d : Dev) (p : ℕ) (k : ℕ) (rising : Bool) : Evolves [.lcp] d (d.zeroCross p k rising) := by
  unfold Dev.zeroCross
  split
  · exact .refl
  · extract_lets
    exact (Dev.updLp_evolves ..).mono

theorem Dev.pollWindow_evolves (d0 : Dev) (p : ℕ) : Evolves (.tim :: .lcp :: reportParts) d0 (d0.pollWindow p) := by
  unfold Dev.pollWindow
  extract_lets d _ _ _ _ d1
  have hd : Evolves (.tim :: .lcp :: reportParts) d0 d := (Dev.toMono_evolves ..).mono
  have hd1 : Evolves (.tim :: .lcp :: reportParts) d0 d1 := (Dev.wr_evolves ..).after <| (Dev.setLp_evolves ..).after hd
  exact .ite ((Dev.record_evolves ..).after <| (Dev.wrb_evolves ..).after hd1) (.ite ((Dev.record_evolves ..).after <| (Dev.wrb_evolves ..).after <| (Dev.updLp_evolves ..).after hd1) hd1)

theorem Dev.nbSnapshot_evolves (d : Dev) (p : ℕ) (route : Bool) : Evolves [.lcp, .out] d (d.nbSnapshot p route) := by
  unfold Dev.nbSnapshot
  extract_lets
  exact .ite ((Dev.emit_evolves ..).after <| (Dev.setLp_evolves ..).mono) ((Dev.emit_evolves ..).after <| (Dev.setLp_evolves ..).mono)

/-! ## RadioOps -/

theorem Dev.radLeavesOff_evolves (d : Dev) (n : ℕ) : Evolves (.fn :: fatalParts) d (d.radLeavesOff n) := by
  unfold Dev.radLeavesOff
  extract_lets d1
  have hd1 : Evolves (.fn :: fatalParts) d d1 := (Dev.wr_evolves ..).after <| (Dev.wr_evolves ..).after <| (Dev.play_evolves ..).mono
  exact .ite ((Dev.failFn_evolves ..).after <| (Dev.wrb_evolves ..).after hd1) ((Dev.updRp_evolves ..).after <| (Dev.wrb_evolves ..).after hd1)

theorem Dev.setCal_evolves (d : Dev) (m : ℕ) (c : Cal) : Evolves [.cals] d (d.setCal m c) := by
  unfold Dev.setCal
  exact Evolves.cals.mono

theorem Dev.slotOn_evolves (d : Dev) (n : ℕ) (m : ℕ) : Evolves [.ctx] d (d.slotOn n m) := by
  unfold Dev.slotOn
  exact (Dev.editCtx_evolves ..).mono

theorem Dev.longListen_evolves (d : Dev) (n : ℕ) (m : ℕ) : Evolves [.regs, .ctx, .sch, .cals] d (d.longListen n m) := by
  unfold Dev.longListen
  extract_lets d1
  have hd1 : Evolves [.regs, .ctx, .sch, .cals] d d1 := (Dev.editCtx_evolves ..).mono
  exact (Dev.slotReplan_evolves ..).after <| (Dev.bump_evolves ..).after <| (Dev.setCal_evolves ..).after hd1

theorem Dev.slotMiss_evolves (d : Dev) (n : ℕ) (m : ℕ) : Evolves [.regs, .ctx, .sch, .cals] d (d.slotMiss n m) := by
  unfold Dev.slotMiss
  split
  · exact .refl
  · rename_i y0 y1 y2
    extract_lets _ _ d1
    have hd1 : Evolves [.regs, .ctx, .sch, .cals] d d1 := (Dev.bump_evolves ..).after <| (Dev.editCtx_evolves ..).mono
    exact .ite (.ite ((Dev.bump_evolves ..).after <| (Dev.editCtx_evolves ..).after hd1) ((Dev.editCtx_evolves ..).after hd1)) (.ite (.ite ((Dev.editCtx_evolves ..).after hd1) (.ite ((Dev.editCtx_evolves ..).after hd1) ((Dev.longListen_evolves ..).after hd1))) hd1)

theorem Dev.pendElement_evolves (d : Dev) (n : ℕ) (m : ℕ) (c : Ctx) : Evolves [.cals] d (d.pendElement n m c).2 := by
  unfold Dev.pendElement
  extract_lets
  exact (Dev.setCal_evolves ..).mono

theorem Dev.sendElement_evolves (d : Dev) (n : ℕ) (m : ℕ) : Evolves [.rad, .cals] d (d.sendElement n m) := by
  unfold Dev.sendElement
  split
  · exact .refl
  · rename_i y0 y1 y2
    extract_lets r
    have hr : Evolves [.rad, .cals] d r.2 := (Dev.pendElement_evolves ..).mono
    exact (Dev.updRp_evolves ..).after hr

theorem Dev.joinElement_evolves (d : Dev) (m : ℕ) : Evolves [.cals, .out] d (d.joinElement m) := by
  unfold Dev.joinElement
  split
  · exact .refl
  · rename_i y0 y1 y2
    split
    · exact .refl
    · rename_i y0 y1 y2
      split
      · extract_lets r
        have hr : Evolves [.cals, .out] d r.2 := (Dev.pendElement_evolves ..).mono
        exact (Dev.emit_evolves ..).after hr
      · exact .refl

theorem Dev.calTouch_evolves (d : Dev) (n : ℕ) (m : ℕ) (c : Ctx) (relayed : Bool) (echo : Option Elem) : Evolves [.regs, .ctx, .sch, .cals] d (d.calTouch n m c relayed echo) := by
  unfold Dev.calTouch
  extract_lets _ _ _ d1
  have hd1 : Evolves [.regs, .ctx, .sch, .cals] d d1 := (Dev.setCal_evolves ..).mono
  split
  · exact (Dev.editCtx_evolves ..).after <| (Dev.setCal_evolves ..).after hd1
  · exact (Dev.slotReplan_evolves ..).after <| (Dev.editCtx_evolves ..).after <| (Dev.setCal_evolves ..).after hd1

theorem Dev.wmbTouch_evolves (d : Dev) (n : ℕ) (m : ℕ) (c : Ctx) (fin : ℕ) : Evolves [.ctx, .cals] d (d.wmbTouch n m c fin) := by
  unfold Dev.wmbTouch
  extract_lets
  exact (Dev.editCtx_evolves ..).after <| (Dev.setCal_evolves ..).mono

theorem Dev.radTouch_evolves (d : Dev) (n : ℕ) (m : ℕ) (fin : ℕ) (relayed : Bool) (gen : Option ℕ) : Evolves [.regs, .ctx, .sch, .cals] d (d.radTouch n m fin relayed gen) := by
  unfold Dev.radTouch
  split
  · exact .refl
  · exact .ite ((Dev.calTouch_evolves ..).mono) (.ite ((Dev.wmbTouch_evolves ..).mono) ((Dev.setCal_evolves ..).mono))

theorem Dev.listen_evolves (d : Dev) (n : ℕ) (wait : ℕ) : Evolves [.rad, .freeCtr] d (d.listen n wait) := by
  unfold Dev.listen
  extract_lets r
  have hr : Evolves [.rad, .freeCtr] d r.2 := (Dev.drawOf_evolves ..).mono
  exact (Dev.updRp_evolves ..).after hr

theorem Dev.busyWait_evolves (d : Dev) (n : ℕ) (be : ℕ) : Evolves [.freeCtr] d (d.busyWait n be).2 := by
  unfold Dev.busyWait
  extract_lets r
  have hr : Evolves [.freeCtr] d r.2 := (Dev.drawOf_evolves ..).mono
  exact hr

theorem Dev.radLost_evolves (d : Dev) (n : ℕ) : Evolves (.ctx :: .tar :: .par :: .sch :: .lcp :: .ldg :: linkParts) d (d.radLost n) := by
  unfold Dev.radLost
  split
  · exact .refl
  · exact .ite ((Dev.expedite_evolves ..).after <| (Dev.enqueue_evolves ..).after <| (Dev.xferLeave_evolves ..).mono) ((Dev.xferLost_evolves ..).mono)

theorem Dev.radFail_evolves (d : Dev) (n : ℕ) : Evolves [.regs, .sch, .rad] d (d.radFail n) := by
  unfold Dev.radFail
  split
  · exact (Dev.setPsch_evolves ..).after <| (Dev.updRp_evolves ..).mono
  · exact (Dev.xferLeave_evolves ..).after <| (Dev.updRp_evolves ..).mono
  · exact .ite ((Dev.updRp_evolves ..).mono) ((Dev.updRp_evolves ..).mono)

theorem Dev.radStart_evolves (d : Dev) (n : ℕ) : Evolves [.regs, .tim, .rad, .out] d (d.radStart n) := by
  unfold Dev.radStart
  extract_lets _ d0 d1 d2
  have hd0 : Evolves [.regs, .tim, .rad, .out] d d0 := (Dev.updRp_evolves ..).after <| (Dev.play_evolves ..).mono
  have hd1 : Evolves [.regs, .tim, .rad, .out] d d1 := by
    unfold d1
    split
    · exact (Dev.emit_evolves ..).after hd0
    · exact hd0
  have hd2 : Evolves [.regs, .tim, .rad, .out] d d2 := (Dev.emit_evolves ..).after hd1
  exact .ite ((Dev.beaconOut_evolves ..).after hd2) hd2

theorem Dev.radSend_evolves (d : Dev) (n : ℕ) (until_ : Option ℕ) : Evolves [.regs, .tim, .rad, .out] d (d.radSend n until_) := by
  unfold Dev.radSend
  split
  · exact (Dev.updRp_evolves ..).after <| (Dev.wrb_evolves ..).mono
  · extract_lets d1
    have hd1 : Evolves [.regs, .tim, .rad, .out] d d1 := (Dev.wrb_evolves ..).mono
    exact .ite ((Dev.updRp_evolves ..).after hd1) (.ite ((Dev.radStart_evolves ..).after hd1) ((Dev.bump_evolves ..).after <| (Dev.updRp_evolves ..).after hd1))

theorem Dev.radGated_evolves (d : Dev) (n : ℕ) : Evolves [.regs, .sch, .rad, .out] d (d.radGated n) := by
  unfold Dev.radGated
  split
  · exact (Dev.radFail_evolves ..).after <| (Dev.play_evolves ..).after <| (Dev.wrb_evolves ..).after <| (Dev.updRp_evolves ..).mono
  · exact .refl

theorem Dev.gateShut_evolves (d : Dev) : Evolves [.regs, .sch, .lcp, .rad, .out] d d.gateShut := by
  unfold Dev.gateShut
  exact .foldl (fun _ _ => (Dev.radGated_evolves ..).mono) (.foldl (fun _ _ => (Dev.lineGated_evolves ..).mono) .refl)

theorem Dev.radTake_evolves (d : Dev) (n : ℕ) (kind : ℕ) (mix : Option ℕ) (bytes : ℕ) (us : ℕ) (slot : Bool) : Evolves [.rad] d (d.radTake n kind mix bytes us slot) := by
  unfold Dev.radTake
  extract_lets
  exact (Dev.updRp_evolves ..).mono

/-! ## Radio -/

theorem Dev.floodRx_evolves (d : Dev) (n : Nat) (fl : Nat × Nat × Nat × Bool × Nat) : Evolves [.regs, .rad] d (d.floodRx n fl).2 := by
  have hseen (f : Rad → Rad) : Evolves [.regs, .rad] d (d.updRp n f) := (Dev.updRp_evolves ..).mono
  unfold Dev.floodRx
  dsimp only
  split
  · exact .refl
  split
  · exact (Dev.bump_evolves ..).mono
  split
  · exact (Dev.bump_evolves ..).after (hseen _)
  · dsimp only
    exact hseen _

theorem Dev.callAnswer_evolves (d0 : Dev) (n : ℕ) (m : ℕ) (answer : ℕ) (us : ℕ) : Evolves [.regs, .tim, .rng, .evr, .ctx, .sec, .sch, .rad, .cals, .out] d0 (d0.callAnswer n m answer us) := by
  unfold Dev.callAnswer
  extract_lets d x
  have hd : Evolves [.regs, .tim, .rng, .evr, .ctx, .sec, .sch, .rad, .cals, .out] d0 d := (Dev.toMono_evolves ..).mono
  have hx : Evolves [.regs, .tim, .rng, .evr, .ctx, .sec, .sch, .rad, .cals, .out] d0 x := by
    unfold x
    split
    · exact (Dev.xferStart_evolves ..).after hd
    · exact hd
  exact (Dev.radSend_evolves ..).after <| (Dev.sendElement_evolves ..).after <| (Dev.radTake_evolves ..).after hx

theorem Dev.wmbAnswer_evolves (d : Dev) (n : ℕ) (m : ℕ) (answer : ℕ) (us : ℕ) (c : Ctx) : Evolves [.regs, .tim, .rng, .ctx, .sec, .sch, .rad, .out] d (d.wmbAnswer n m answer us c) := by
  unfold Dev.wmbAnswer
  split
  · exact .refl
  · exact (Dev.radSend_evolves ..).after <| (Dev.radTake_evolves ..).after <| (Dev.xferStart_evolves ..).mono

theorem Dev.radAnswers_evolves (d : Dev) (n : ℕ) (m : ℕ) (gen : Option ℕ) (answer : ℕ) (us : ℕ) : Evolves [.regs, .tim, .rng, .evr, .ctx, .sec, .sch, .rad, .cals, .out] d (d.radAnswers n m gen answer us) := by
  unfold Dev.radAnswers
  split
  · exact .refl
  · exact .ite .refl (.ite ((Dev.callAnswer_evolves ..).mono) (.ite ((Dev.wmbAnswer_evolves ..).mono) .refl))

theorem Dev.radDeliver_evolves (d : Dev) (n : Nat) (rx : RadioRx) (answer us : Nat) :
    Evolves (.tim :: .ctx :: .sec :: .sch :: .rad :: .cals :: reportParts) d (d.radDeliver n rx answer us) := by
  unfold Dev.radDeliver
  extract_lets hops via pay mix reply d1
  clear_value hops via mix reply pay
  split
  · exact .refl
  · exact (Dev.offer_evolves ..).mono
  · extract_lets d2
    have h1 : Evolves (.tim :: .ctx :: .sec :: .sch :: .rad :: .cals :: reportParts) d d1 := .ite (Dev.updRp_evolves ..).mono .refl
    have h2 : Evolves (.tim :: .ctx :: .sec :: .sch :: .rad :: .cals :: reportParts) d d2 := (Dev.offer_evolves ..).after h1
    clear_value d2
    split
    · next m =>
      have h3 (c : Cal) : Evolves (.tim :: .ctx :: .sec :: .sch :: .rad :: .cals :: reportParts) d (d2.setCal m c) := (Dev.setCal_evolves ..).after h2
      exact .ite (h3 _) ((Dev.radAnswers_evolves ..).after (h3 _))
    · exact h2

theorem Dev.radRx_evolves (d : Dev) (n : Nat) (rx : RadioRx) (answer us : Nat) :
    Evolves (.tim :: .ctx :: .sec :: .sch :: .rad :: .cals :: reportParts) d (d.radRx n rx answer us) := by
  unfold Dev.radRx
  split
  · exact .refl
  extract_lets y d1 d2
  have h1 : Evolves (.tim :: .ctx :: .sec :: .sch :: .rad :: .cals :: reportParts) d d1 :=
    (Dev.wr_evolves ..).after (Dev.bump_evolves ..).mono
  split
  · exact (Dev.bump_evolves ..).after h1
  have h2 : Evolves (.tim :: .ctx :: .sec :: .sch :: .rad :: .cals :: reportParts) d d2 := (Dev.bump_evolves ..).after h1
  clear_value d2
  split
  · next f _ =>
    extract_lets r
    have hf : Evolves (.tim :: .ctx :: .sec :: .sch :: .rad :: .cals :: reportParts) d (d2.floodRx n f).2 := (Dev.floodRx_evolves ..).after h2
    exact .ite ((Dev.radDeliver_evolves ..).after hf) hf
  · exact (Dev.radDeliver_evolves ..).after h2

theorem Dev.laneTrained_evolves (d : Dev) (n : ℕ) (dlyI : ℕ) (dlyQ : ℕ) (bad : ℕ) : Evolves [.regs, .rad, .out] d (d.laneTrained n dlyI dlyQ bad) := by
  unfold Dev.laneTrained
  extract_lets d1
  have hd1 : Evolves [.regs, .rad, .out] d d1 := (Dev.wr_evolves ..).after <| (Dev.wr_evolves ..).after <| (Dev.wrb_evolves ..).after <| (Dev.bump_evolves ..).after <| (Dev.updRp_evolves ..).mono
  exact .ite ((Dev.play_evolves ..).after hd1) hd1

theorem Dev.radHalt_evolves (d : Dev) (n : ℕ) : Evolves [.regs, .rng, .lne, .evr, .flt, .ctx, .tar, .par, .sch, .lcp, .rad, .ldg, .eth, .fl, .freeCtr, .out] d (d.radHalt n) := by
  unfold Dev.radHalt
  extract_lets d1
  have hd1 : Evolves [.regs, .rng, .lne, .evr, .flt, .ctx, .tar, .par, .sch, .lcp, .rad, .ldg, .eth, .fl, .freeCtr, .out] d d1 := (Dev.xferLost_evolves ..).after <| (Dev.updRp_evolves ..).mono
  exact (Dev.setPsch_evolves ..).after hd1

theorem Dev.iqLost_evolves (d : Dev) (port : ℕ) (stray : ℕ) : Evolves [.regs, .rad] d (d.iqLost port stray) := by
  unfold Dev.iqLost
  exact .ite ((Dev.updRp_evolves ..).after <| (Dev.wrb_evolves ..).after <| (Dev.bump_evolves ..).mono) .refl

theorem Dev.seeRssi_evolves (d : Dev) (n : ℕ) (rssi : ℤ) : Evolves [.regs] d (d.seeRssi n rssi) := by
  unfold Dev.seeRssi
  exact (Dev.wr_evolves ..).mono

theorem Dev.listenEnd_evolves (d0 : Dev) (n : ℕ) (rssi : ℤ) (us : ℕ) : Evolves [.regs, .tim, .evr, .sch, .rad, .freeCtr, .out] d0 (d0.listenEnd n rssi us) := by
  unfold Dev.listenEnd
  split
  · exact .refl
  · extract_lets d d1 _ d2 w
    have hd : Evolves [.regs, .tim, .evr, .sch, .rad, .freeCtr, .out] d0 d := (Dev.toMono_evolves ..).mono
    have hd1 : Evolves [.regs, .tim, .evr, .sch, .rad, .freeCtr, .out] d0 d1 := (Dev.seeRssi_evolves ..).after hd
    have hd2 : Evolves [.regs, .tim, .evr, .sch, .rad, .freeCtr, .out] d0 d2 := (Dev.bump_evolves ..).after hd1
    have hw : Evolves [.regs, .tim, .evr, .sch, .rad, .freeCtr, .out] d0 w.2 := (Dev.busyWait_evolves ..).after hd1
    exact .ite (.ite ((Dev.radFail_evolves ..).after (.ite ((Dev.bump_evolves ..).after hd2) hd2)) ((Dev.listen_evolves ..).after <| (Dev.updRp_evolves ..).after hw)) ((Dev.radSend_evolves ..).after <| (Dev.updRp_evolves ..).after hd1)

theorem Dev.windowShut_evolves (d : Dev) (n : ℕ) : Evolves [.regs, .rng, .lne, .evr, .flt, .ctx, .tar, .par, .sch, .lcp, .rad, .ldg, .eth, .fl, .freeCtr, .out] d (d.windowShut n) := by
  unfold Dev.windowShut
  exact .ite ((Dev.radLost_evolves ..).after <| (Dev.updRp_evolves ..).after <| (Dev.bump_evolves ..).mono) ((Dev.radFail_evolves ..).mono)

theorem Dev.dutyEnd_evolves (d : Dev) (n : ℕ) : Evolves [.regs, .tim, .rng, .lne, .evr, .flt, .ctx, .tar, .par, .sch, .lcp, .rad, .ldg, .eth, .fl, .freeCtr, .out] d (d.dutyEnd n) := by
  unfold Dev.dutyEnd
  split
  · split
    · split
      · exact (Dev.windowShut_evolves ..).after <| (Dev.toMono_evolves ..).mono
      · exact .refl
    · split
      · exact .refl
      · split
        · exact .ite ((Dev.radSend_evolves ..).after <| (Dev.toMono_evolves ..).mono) ((Dev.windowShut_evolves ..).after <| (Dev.toMono_evolves ..).mono)
        · exact (Dev.radSend_evolves ..).after <| (Dev.toMono_evolves ..).mono
        · exact (Dev.windowShut_evolves ..).after <| (Dev.toMono_evolves ..).mono
        · exact .refl
  · exact .refl

theorem Dev.radAfter_evolves (d : Dev) (n : Nat) : Evolves (.sch :: .img :: .rad :: linkParts) d (d.radAfter n) := by
  have hrad (f : Rad → Rad) : Evolves (.sch :: .img :: .rad :: linkParts) d (d.updRp n f) := (Dev.updRp_evolves ..).mono
  unfold Dev.radAfter
  dsimp only
  split
  · exact (Dev.setPsch_evolves ..).after (hrad _)
  · exact (Dev.castEnd_evolves ..).after (hrad _)
  · exact hrad _
  · exact hrad _

theorem Dev.radTxEnd_evolves (d : Dev) (n : ℕ) : Evolves (.tim :: .sch :: .img :: .rad :: .eth :: .fl :: reportParts) d (d.radTxEnd n) := by
  unfold Dev.radTxEnd
  extract_lets _ d1 d2
  have hd1 : Evolves (.tim :: .sch :: .img :: .rad :: .eth :: .fl :: reportParts) d d1 := (Dev.toMono_evolves ..).mono
  have hd2 : Evolves (.tim :: .sch :: .img :: .rad :: .eth :: .fl :: reportParts) d d2 := (Dev.updRp_evolves ..).after hd1
  split
  · exact (Dev.radAfter_evolves ..).after <| (Dev.play_evolves ..).after hd2
  · exact .refl

theorem Dev.slotLost_evolves (d : Dev) (n : ℕ) (m : ℕ) (yielded : Bool) : Evolves [.regs, .ctx, .sch] d (d.slotLost n m yielded) := by
  unfold Dev.slotLost
  exact (Dev.slotReplan_evolves ..).after <| (Dev.slotOn_evolves ..).after <| (Dev.bump_evolves ..).mono

theorem Dev.slotSend_evolves (d : Dev) (n : ℕ) (m : ℕ) (bytes : ℕ) (us : ℕ) (until_ : ℕ) : Evolves [.regs, .tim, .rng, .ctx, .sec, .sch, .rad, .cals, .out] d (d.slotSend n m bytes us until_) := by
  unfold Dev.slotSend
  extract_lets _ _ d1 d2
  have hd1 : Evolves [.regs, .tim, .rng, .ctx, .sec, .sch, .rad, .cals, .out] d d1 := (Dev.radTake_evolves ..).after <| (Dev.slotOn_evolves ..).after <| (Dev.xferStart_evolves ..).mono
  have hd2 : Evolves [.regs, .tim, .rng, .ctx, .sec, .sch, .rad, .cals, .out] d d2 := (Dev.updRp_evolves ..).after hd1
  exact (Dev.radSend_evolves ..).after <| (Dev.sendElement_evolves ..).after hd2

theorem Dev.slotListen_evolves (d : Dev) (n limit be k delay : Nat) (rssi : List Int) :
    Evolves [.regs, .freeCtr] d (d.slotListen n limit be k delay rssi).2 := by
  induction rssi generalizing d be k delay with
  | nil => exact .refl
  | cons r t ih =>
    have h1 : Evolves [.regs, .freeCtr] d (d.seeRssi n r) := (Dev.seeRssi_evolves ..).mono
    unfold Dev.slotListen
    dsimp only
    split
    · exact h1
    split
    · exact (Dev.bump_evolves ..).after h1
    have h2 : Evolves [.regs, .freeCtr] d (((d.seeRssi n r).busyWait n be).2.drawOf 11).2 :=
      (Dev.drawOf_evolves ..).after ((Dev.busyWait_evolves ..).after h1)
    split
    · exact h2
    · exact (ih ..).after h2

theorem Dev.slotBusyFail_evolves (d : Dev) (n : ℕ) (m : ℕ) (bytes : ℕ) : Evolves [.regs, .rng, .lne, .evr, .flt, .ctx, .tar, .par, .sec, .sch, .lcp, .ldg, .eth, .fl, .freeCtr, .out] d (d.slotBusyFail n m bytes) := by
  unfold Dev.slotBusyFail
  split
  · exact (Dev.slotLost_evolves ..).mono
  · exact (Dev.radLost_evolves ..).after <| (Dev.slotOn_evolves ..).after <| (Dev.bump_evolves ..).after <| (Dev.xferStart_evolves ..).mono

theorem Dev.agreedSlot_evolves (d : Dev) (n m : Nat) (c : Ctx) (rssi : List Int) (bytes us : Nat) :
    Evolves ([.tim, .ctx, .tar, .par, .sec, .sch, .lcp, .rad, .cals, .ldg] ++ linkParts) d (d.agreedSlot n m c rssi bytes us) := by
  unfold Dev.agreedSlot
  extract_lets at_ x limit e r
  have hx : Evolves ([.tim, .ctx, .tar, .par, .sec, .sch, .lcp, .rad, .cals, .ldg] ++ linkParts) d x := (Dev.toNs_evolves ..).mono
  have hlost (b : Bool) : Evolves ([.tim, .ctx, .tar, .par, .sec, .sch, .lcp, .rad, .cals, .ldg] ++ linkParts) d ((x.toNs at_).slotLost n m b) :=
    (Dev.slotLost_evolves ..).after <| (Dev.toNs_evolves ..).after hx
  split
  · exact hlost _
  split
  · exact hlost _
  have hr : Evolves ([.tim, .ctx, .tar, .par, .sec, .sch, .lcp, .rad, .cals, .ldg] ++ linkParts) d r.2 :=
    (Dev.slotListen_evolves ..).after <| (Dev.toNs_evolves ..).after hx
  clear_value r
  split
  · exact (Dev.slotSend_evolves ..).after <| (Dev.toMono_evolves ..).after hr
  · exact (Dev.slotBusyFail_evolves ..).after hr
  · exact (Dev.slotLost_evolves ..).after <| (Dev.toMono_evolves ..).after hr

/-! ## Funcs -/

theorem Dev.mediaGeom_evolves (d : Dev) : Evolves [.ftl] d d.mediaGeom := by
  unfold Dev.mediaGeom
  split
  · exact .refl
  · exact Evolves.ftl.mono

theorem Dev.format_evolves (d : Dev) : Evolves [.regs, .ftl, .nand] d d.format := by
  unfold Dev.format
  split
  · exact .refl
  · extract_lets
    exact .foldl (fun _ _ => (Dev.setWord_evolves ..).mono) (.over [.ftl, .nand] .refl)

theorem Dev.mount_evolves (d : Dev) : Evolves (.ftl :: fatalParts) d d.mount := by
  unfold Dev.mount
  split
  · exact .refl
  · extract_lets d1
    have hd1 : Evolves (.ftl :: fatalParts) d d1 := (Dev.mediaGeom_evolves ..).mono
    split
    · exact hd1
    · split
      · exact (Dev.mediaState_evolves ..).after <| (Dev.format_evolves ..).after hd1
      · split
        · exact (Dev.mediaState_evolves ..).after <| Evolves.ftl.after hd1
        · rename_i y0 y1 y2
          extract_lets d2 _ _ d3
          have hd2 : Evolves (.ftl :: fatalParts) d d2 := Evolves.ftl.after hd1
          have hd3 : Evolves (.ftl :: fatalParts) d d3 := Evolves.ftl.after hd2
          exact .ite hd2 ((Dev.fault_evolves ..).after <| (Dev.recordPost_evolves ..).after hd3)

theorem Dev.nandOn_evolves (d : Dev) (n : ℕ) (p : NandPart) : Evolves (.ftl :: fatalParts) d (d.nandOn n p) := by
  unfold Dev.nandOn
  extract_lets d0 d1 _ d2
  have hd0 : Evolves (.ftl :: fatalParts) d d0 := (Dev.setWord_evolves ..).after <| (Dev.wr_evolves ..).after <| (Dev.wr_evolves ..).mono
  have hd1 : Evolves (.ftl :: fatalParts) d d1 := (Dev.wr_evolves ..).after <| (Dev.wr_evolves ..).after <| (Dev.setWord_evolves ..).after hd0
  have hd2 : Evolves (.ftl :: fatalParts) d d2 := Evolves.ftl.after hd1
  exact (Dev.mount_evolves ..).after (.ite ((Dev.fault_evolves ..).after hd2) hd2)

theorem Dev.needBeacon_evolves (d : Dev) (fix : ℕ) : Evolves [.fn, .tim] d (d.needBeacon fix) := by
  unfold Dev.needBeacon
  split
  · split
    · rename_i y0 y1 y2
      exact (Dev.takeCmp_evolves y2).mono
    · exact (Dev.setFn_evolves ..).mono
  · exact .refl

theorem Dev.leaveBeacon_evolves (d : Dev) : Evolves [.fn, .tim] d d.leaveBeacon := by
  unfold Dev.leaveBeacon
  exact .ite .refl ((Dev.freeCmp_evolves ..).mono)

theorem Dev.mxTake_evolves (d : Dev) : Evolves (.fn :: reportParts) d d.mxTake := by
  unfold Dev.mxTake
  extract_lets d1
  have hd1 : Evolves (.fn :: reportParts) d d1 := (Dev.wrb_evolves ..).mono
  exact .ite ((Dev.record_evolves ..).after <| (Dev.setFn_evolves ..).after hd1) hd1

theorem Dev.radEnable_evolves (d : Dev) (n : ℕ) : Evolves (.fn :: fatalParts) d (d.radEnable n) := by
  unfold Dev.radEnable
  split
  · exact (Dev.wrb_evolves ..).after <| (Dev.setFn_evolves ..).mono
  · extract_lets d1
    have hd1 : Evolves (.fn :: fatalParts) d d1 := (Dev.radLeavesOff_evolves ..).after <| (Dev.wrb_evolves ..).mono
    exact .ite ((Dev.needBeacon_evolves ..).after hd1) hd1

theorem Dev.cmTake_evolves (d : Dev) (k : ℕ) : Evolves (.fn :: .met :: reportParts) d (d.cmTake k) := by
  unfold Dev.cmTake
  extract_lets _ _ _ d1
  have hd1 : Evolves (.fn :: .met :: reportParts) d d1 := by
    unfold d1
    refine .foldl (fun x a => ?_) .refl
    extract_lets z
    have hz : Evolves (.fn :: .met :: reportParts) x z := (Dev.wrb_evolves ..).after <| (Dev.wr_evolves ..).after <| (Dev.setWord_evolves ..).mono
    exact (Dev.setFn_evolves ..).after <| (Dev.setMch_evolves ..).after hz
  exact .ite ((Dev.mxTake_evolves ..).after hd1) hd1

theorem Dev.cmStart_evolves (d : Dev) (k : ℕ) : Evolves (.fn :: .met :: reportParts) d (d.cmStart k) := by
  unfold Dev.cmStart
  exact .ite ((Dev.wrb_evolves ..).after <| (Dev.setFn_evolves ..).mono) ((Dev.cmTake_evolves ..).after <| (Dev.wrb_evolves ..).mono)

theorem Dev.scMaskMin_evolves (d : Dev) (p : ℕ) : Evolves [.regs] d (d.scMaskMin p) := by
  unfold Dev.scMaskMin
  extract_lets
  exact (Dev.wr_evolves ..).after <| (Dev.wr_evolves ..).mono

theorem Dev.lineLeavesOff_evolves (d : Dev) (p : ℕ) : Evolves [.regs, .fn, .tim, .lcp] d (d.lineLeavesOff p) := by
  unfold Dev.lineLeavesOff
  extract_lets d1
  have hd1 : Evolves [.regs, .fn, .tim, .lcp] d d1 := (Dev.updLp_evolves ..).after <| (Dev.scMaskMin_evolves ..).mono
  exact (Dev.needBeacon_evolves ..).after hd1

theorem Dev.fnStart_evolves (d : Dev) (fix : ℕ) : Evolves (.fn :: .met :: .eth :: fatalParts) d (d.fnStart fix) := by
  unfold Dev.fnStart
  split
  · exact .refl
  · extract_lets d1 d2
    have hd1 : Evolves (.fn :: .met :: .eth :: fatalParts) d d1 := (Dev.setFn_evolves ..).mono
    have hd2 : Evolves (.fn :: .met :: .eth :: fatalParts) d d2 := (Dev.setMch_evolves ..).after hd1
    exact .ite ((Dev.lineLeavesOff_evolves ..).after hd1) (.ite ((Dev.radEnable_evolves ..).after hd1) (.ite ((Dev.setEp_evolves ..).after hd1) (.ite hd1 (.ite ((Dev.cmStart_evolves ..).after hd1) (.ite hd1 (.ite (.ite ((Dev.mxTake_evolves ..).after hd2) hd2) ((Dev.pairFresh_evolves ..).after hd1)))))))

theorem Dev.mxRelease_evolves (d : Dev) : Evolves (.fn :: fatalParts) d d.mxRelease := by
  unfold Dev.mxRelease
  split
  · exact .refl
  · extract_lets d1
    have hd1 : Evolves (.fn :: fatalParts) d d1 := (Dev.wrb_evolves ..).mono
    exact .ite ((Dev.radEnable_evolves ..).after <| (Dev.setFn_evolves ..).after hd1) hd1

theorem Dev.cmUnblock_evolves (d : Dev) : Evolves (.fn :: .met :: reportParts) d d.cmUnblock := by
  unfold Dev.cmUnblock
  refine .foldl (fun x a => ?_) .refl
  extract_lets
  exact .ite ((Dev.cmStart_evolves ..).after <| (Dev.setFn_evolves ..).mono) .refl

theorem Dev.cmRelease_evolves (d : Dev) (k : ℕ) : Evolves (.fn :: .met :: fatalParts) d (d.cmRelease k) := by
  unfold Dev.cmRelease
  exact (Dev.mxRelease_evolves ..).after <| (Dev.cmStopped_evolves ..).after (.foldl (fun _ _ => (Dev.setFn_evolves ..).after <| (Dev.setMch_evolves ..).after <| (Dev.wrb_evolves ..).mono) .refl)

theorem Dev.ethLock_evolves (d : Dev) : Evolves [.regs] d d.ethLock := by
  unfold Dev.ethLock
  extract_lets _ d1
  have hd1 : Evolves [.regs] d d1 := .ite ((Dev.wrb_evolves ..).mono) .refl
  exact (Dev.wrb_evolves ..).after hd1

theorem Dev.fnRelease_evolves (d : Dev) (fix : ℕ) : Evolves (.fn :: .ldg :: .met :: .eth :: .fl :: fatalParts) d (d.fnRelease fix) := by
  unfold Dev.fnRelease
  split
  · refine (Dev.leaveBeacon_evolves ..).after ?_
    extract_lets y
    have hy : Evolves (.fn :: .ldg :: .met :: .eth :: .fl :: fatalParts) d y := (Dev.updLp_evolves ..).mono
    exact Evolves.tim.after hy
  · split
    · extract_lets d1
      have hd1 : Evolves (.fn :: .ldg :: .met :: .eth :: .fl :: fatalParts) d d1 := (Dev.wrb_evolves ..).after <| (Dev.wrb_evolves ..).after <| (Dev.radHalt_evolves ..).mono
      exact (Dev.leaveBeacon_evolves ..).after <| Evolves.tim.after hd1
    · split
      · extract_lets d1
        have hd1 : Evolves (.fn :: .ldg :: .met :: .eth :: .fl :: fatalParts) d d1 := (Dev.wrb_evolves ..).after <| (Dev.ethDiscard_evolves ..).mono
        exact (Dev.ethLock_evolves ..).after <| (Dev.setEp_evolves ..).after hd1
      · exact .ite .refl (.ite ((Dev.cmRelease_evolves ..).after <| (Dev.wrb_evolves ..).mono) (.ite ((Dev.wrb_evolves ..).after (.ite ((Dev.wrb_evolves ..).mono) .refl)) (.ite ((Dev.mxRelease_evolves ..).after <| (Dev.wrb_evolves ..).after <| (Dev.setMch_evolves ..).mono) .refl)))

theorem Dev.fnOff_evolves (d : Dev) (fix : ℕ) : Evolves (.fn :: .ldg :: .met :: .eth :: .fl :: fatalParts) d (d.fnOff fix) := by
  unfold Dev.fnOff
  extract_lets _ d0 _ d1 d2 d3
  have hd0 : Evolves (.fn :: .ldg :: .met :: .eth :: .fl :: fatalParts) d d0 := .ite ((Dev.play_evolves ..).mono) .refl
  have hd1 : Evolves (.fn :: .ldg :: .met :: .eth :: .fl :: fatalParts) d d1 := (Dev.setFn_evolves ..).after hd0
  have hd2 : Evolves (.fn :: .ldg :: .met :: .eth :: .fl :: fatalParts) d d2 := .ite ((Dev.wrb_evolves ..).after hd1) ((Dev.fnRelease_evolves ..).after hd1)
  have hd3 : Evolves (.fn :: .ldg :: .met :: .eth :: .fl :: fatalParts) d d3 := .ite ((Dev.cmUnblock_evolves ..).after hd2) hd2
  exact .ite ((Dev.fnStart_evolves ..).after hd3) hd3

theorem Dev.capDrop_evolves (d : Dev) (p : ℕ) : Evolves [.sch, .lcp] d (d.capDrop p) := by
  unfold Dev.capDrop
  exact .ite (.ite ((Dev.setPsch_evolves ..).after <| (Dev.updLp_evolves ..).mono) ((Dev.updLp_evolves ..).mono)) .refl

theorem Dev.fnStop_evolves (d : Dev) (fix : ℕ) (pending : Bool) : Evolves [.fn, .rng, .sch, .lcp] d (d.fnStop fix pending) := by
  unfold Dev.fnStop
  extract_lets _ d1
  have hd1 : Evolves [.fn, .rng, .sch, .lcp] d d1 := (Dev.setFn_evolves ..).mono
  exact .ite ((Dev.watchFull_evolves ..).after hd1) (.ite ((Dev.capDrop_evolves ..).after hd1) hd1)

theorem Dev.enable_evolves (d : Dev) (fix : ℕ) : Evolves (.fn :: .met :: .eth :: fatalParts) d (d.enable fix) := by
  unfold Dev.enable
  split
  · exact (Dev.fnStart_evolves ..).mono
  · exact (Dev.setFn_evolves ..).mono
  · exact .refl

theorem Dev.disable_evolves (d : Dev) (fix : ℕ) : Evolves (.fn :: .ldg :: .met :: .eth :: .fl :: fatalParts) d (d.disable fix) := by
  unfold Dev.disable
  extract_lets
  split
  · exact .refl
  · exact .ite ((Dev.fnOff_evolves ..).after <| (Dev.setFn_evolves ..).mono) ((Dev.setFn_evolves ..).mono)
  · exact (Dev.fnStop_evolves ..).mono
  · exact (Dev.setFn_evolves ..).mono
  · exact .ite ((Dev.fnOff_evolves ..).mono) ((Dev.setFn_evolves ..).mono)

theorem Dev.fnCfgWrite_evolves (d : Dev) (fix : ℕ) (v : ℕ) : Evolves (.dirty :: .fn :: .ldg :: .met :: .eth :: .fl :: fatalParts) d (d.fnCfgWrite fix v) := by
  unfold Dev.fnCfgWrite
  split
  · exact .refl
  · rename_i y0 y1 y2 y3
    split
    · exact .refl
    · split
      · exact (Dev.plainWrite_evolves ..).mono
      · extract_lets d1
        have hd1 : Evolves (.dirty :: .fn :: .ldg :: .met :: .eth :: .fl :: fatalParts) d d1 := (Dev.plainWrite_evolves ..).mono
        exact .ite ((Dev.enable_evolves ..).after hd1) ((Dev.disable_evolves ..).after hd1)

theorem Dev.beaconSeries_evolves (d : Dev) (fix : ℕ) : Evolves [.tim] d (d.beaconSeries fix) := by
  unfold Dev.beaconSeries
  exact .ite Evolves.tim.mono .refl

theorem Dev.fnOn_evolves (d : Dev) (fix : ℕ) (nand : NandPart) : Evolves (.ftl :: .met :: fatalParts) d (d.fnOn fix nand) := by
  unfold Dev.fnOn
  split
  · exact (Dev.beaconSeries_evolves ..).mono
  · split
    · exact (Dev.ethLock_evolves ..).mono
    · split
      · exact (Dev.nandOn_evolves ..).mono
      · split
        · exact (Dev.setMcm_evolves ..).mono
        · split
          · extract_lets y
            have hy : Evolves (.ftl :: .met :: fatalParts) d y := (Dev.wrb_evolves ..).mono
            exact Evolves.par.after hy
          · exact .ite .refl ((Dev.stepDone_evolves ..).mono)

theorem Dev.fnStarted_evolves (d : Dev) (fix : ℕ) (nand : NandPart) : Evolves (.fn :: .ftl :: .met :: fatalParts) d (d.fnStarted fix nand) := by
  unfold Dev.fnStarted
  extract_lets _ d1
  have hd1 : Evolves (.fn :: .ftl :: .met :: fatalParts) d d1 := (Dev.fnOn_evolves ..).after <| (Dev.setFn_evolves ..).mono
  exact .ite (.ite ((Dev.fnStop_evolves ..).after hd1) hd1) .refl

theorem Dev.portAbort_evolves (d : Dev) (fix : ℕ) : Evolves [.regs, .rng, .sch] d (d.portAbort fix) := by
  unfold Dev.portAbort
  split
  · exact .refl
  · exact .foldl (fun _ _ => (Dev.complete_evolves ..).mono) ((Dev.setPsch_evolves ..).mono)

theorem Dev.fnFlush_evolves (d : Dev) (fix : ℕ) : Evolves [.regs, .rng, .lne, .sch] d (d.fnFlush fix) := by
  unfold Dev.fnFlush
  extract_lets _ _ d0 d1 d2
  have hd0 : Evolves [.regs, .rng, .lne, .sch] d d0 := .over [.rng, .sch] .refl
  have hd1 : Evolves [.regs, .rng, .lne, .sch] d d1 := .foldl (fun _ _ => (Dev.flushNow_evolves ..).mono) hd0
  have hd2 : Evolves [.regs, .rng, .lne, .sch] d d2 := (Dev.completeAll_evolves ..).after hd1
  exact .ite ((Dev.portAbort_evolves ..).after hd2) (.ite ((Dev.updPair_evolves ..).after hd2) hd2)

theorem Dev.pairReset_evolves (d : Dev) : Evolves (.tim :: .ctx :: .par :: .sch :: .lcp :: .rad :: reportParts) d d.pairReset := by
  unfold Dev.pairReset
  extract_lets d1 d2
  have hd1 : Evolves (.tim :: .ctx :: .par :: .sch :: .lcp :: .rad :: reportParts) d d1 := .ite ((Dev.yieldClaim_evolves ..).mono) .refl
  have hd2 : Evolves (.tim :: .ctx :: .par :: .sch :: .lcp :: .rad :: reportParts) d d2 := (Dev.dropDescs_evolves ..).after <| (Dev.stopSwap_evolves ..).after hd1
  exact Evolves.par.after hd2

theorem Dev.fnReset_evolves (d : Dev) (fix : ℕ) : Evolves (.fn :: .met :: .eth :: fatalParts) d (d.fnReset fix) := by
  unfold Dev.fnReset
  split
  · exact .refl
  · extract_lets _ d0 d1
    have hd0 : Evolves (.fn :: .met :: .eth :: fatalParts) d d0 := by
      unfold d0
      split
      · exact .ite .refl ((Dev.wrb_evolves ..).mono)
      · exact .refl
    have hd1 : Evolves (.fn :: .met :: .eth :: fatalParts) d d1 := (Dev.fnStop_evolves ..).after <| (Dev.fnFlush_evolves ..).after hd0
    split
    · exact (Dev.fnStart_evolves ..).after hd0
    · exact .refl
    · exact (Dev.setFn_evolves ..).after hd0
    · exact .ite ((Dev.pairReset_evolves ..).after hd1) hd1

theorem Dev.autoStart_evolves (d : Dev) (fixes : List ℕ) : Evolves (.fn :: .met :: .eth :: fatalParts) d (d.autoStart fixes) := by
  unfold Dev.autoStart
  refine .foldl (fun x a => ?_) .refl
  split
  · refine (Dev.fnStart_evolves ..).after ?_
    split
    · exact (Dev.wrb_evolves ..).mono
    · exact .refl
  · exact .refl

theorem Dev.stepCEnd_evolves (d : Dev) : Evolves (.fn :: .met :: .eth :: fatalParts) d d.stepCEnd := by
  unfold Dev.stepCEnd
  split
  · exact .refl
  · extract_lets d1
    have hd1 : Evolves (.fn :: .met :: .eth :: fatalParts) d d1 := (Dev.stepDone_evolves ..).mono
    exact (Dev.autoStart_evolves ..).after <| Evolves.glb.after hd1

/-! ## Pair -/

theorem Dev.pairTake_evolves (d : Dev) (h : PairHdr) (b : PairBody) : Evolves [.regs, .par] d (d.pairTake h b).2 := by
  unfold Dev.pairTake
  split
  · exact .refl
  · split
    · exact (Dev.bump_evolves ..).mono
    · split
      · exact (Dev.bump_evolves ..).mono
      · exact Evolves.par.mono

/-- A frame of the pair link that is taken changes what its meaning changes, after what its taking changes. -/
theorem Evolves.onPair {ps : List Part} {f : Dev → Dev} {d e : Dev} {h : PairHdr} {b : PairBody} (hf : ∀ x, Evolves ps x (f x))
    (he : Evolves ps d e) (hs : [.regs, .par] ⊆ ps := by decide) : Evolves ps d (e.onPair h b f) := by
  have hr : Evolves ps d (e.pairTake h b).2 := (Dev.pairTake_evolves ..).after he hs
  exact .ite (hr.trans (hf _)) hr

theorem Dev.swapAsk_evolves (d : Dev) (desc : Option (ℕ × ℕ)) : Evolves [.regs, .tim, .rng, .lne, .evr, .flt, .ctx, .tar, .par, .sch, .lcp, .rad, .freeCtr, .out] d (d.swapAsk desc) := by
  unfold Dev.swapAsk
  exact .ite ((Dev.pairSend_evolves ..).after <| Evolves.par.mono) ((Dev.swapStart_evolves ..).mono)

theorem Dev.drillRun_evolves (fuel : Nat) (d : Dev) :
    Evolves ([.dirty, .tim, .ctx, .tar, .par, .sch, .lcp, .rad] ++ reportParts) d (Dev.drillRun fuel d) := by
  induction fuel generalizing d with
  | zero => exact .refl
  | succ f ih =>
    have hsend (c : Nat) (b : PairBody) : Evolves ([.dirty, .tim, .ctx, .tar, .par, .sch, .lcp, .rad] ++ reportParts) d (d.pairSend c b) :=
      (Dev.pairSend_evolves ..).mono
    unfold Dev.drillRun
    split
    · exact .refl
    split
    · exact (Dev.drillEnd_evolves ..).mono
    · split
      · exact hsend _ _
      · exact (Dev.swapStart_evolves ..).after (hsend _ _)
    · split
      · exact (ih _).after (Dev.drillStep_evolves ..).mono
      · exact hsend _ _

theorem Dev.arbEnd_evolves (d : Dev) (stroke : Bool) : Evolves [.regs, .fn, .glb, .tim, .rng, .lne, .evr, .flt, .ctx, .tar, .par, .nand, .sec, .sch, .lcp, .rad, .cals, .ldg, .met, .eth, .fl, .freeCtr, .out] d (d.arbEnd stroke) := by
  unfold Dev.arbEnd
  extract_lets d1
  have hd1 : Evolves [.regs, .fn, .glb, .tim, .rng, .lne, .evr, .flt, .ctx, .tar, .par, .nand, .sec, .sch, .lcp, .rad, .cals, .ldg, .met, .eth, .fl, .freeCtr, .out] d d1 := .ite ((Dev.becomeStroke_evolves ..).mono) ((Dev.becomeBow_evolves ..).mono)
  exact (Dev.stepCEnd_evolves ..).after <| Evolves.par.after hd1

theorem Dev.claimRose_evolves (d : Dev) (t : ℕ) : Evolves [.regs, .dirty, .tim, .rng, .lne, .evr, .flt, .ctx, .par, .sch, .lcp, .rad, .eth, .freeCtr, .out] d (d.claimRose t) := by
  unfold Dev.claimRose
  split
  · exact .refl
  · split
    · exact .ite ((Dev.becomeBow_evolves ..).mono) .refl
    · split
      · exact (Dev.swapDone_evolves ..).mono
      · extract_lets
        exact (Dev.post_evolves ..).after <| (Dev.becomeBow_evolves ..).after <| (Dev.swapDesc_evolves ..).mono

theorem Dev.claimFell_evolves (d : Dev) : Evolves [.regs, .dirty, .tim, .rng, .lne, .evr, .flt, .ctx, .tar, .par, .sec, .sch, .lcp, .cals, .ldg, .met, .eth, .fl, .freeCtr, .out] d d.claimFell := by
  unfold Dev.claimFell
  exact .ite ((Dev.swapTake_evolves ..).mono) (.ite ((Dev.takeover_evolves ..).mono) (.ite ((Dev.takeover_evolves ..).mono) .refl))

theorem Dev.enterSolo_evolves (d : Dev) : Evolves (.tar :: .par :: .ldg :: reportParts) d d.enterSolo := by
  unfold Dev.enterSolo
  split
  · exact .refl
  · extract_lets _ d1
    have hd1 : Evolves (.tar :: .par :: .ldg :: reportParts) d d1 := Evolves.par.mono
    exact (Dev.recordPost_evolves ..).after <| (Dev.acknowledge_evolves ..).after hd1

theorem Dev.heartbeatLost_evolves (d : Dev) : Evolves [.regs, .tim, .rng, .lne, .evr, .flt, .ctx, .tar, .par, .sec, .sch, .lcp, .cals, .ldg, .met, .eth, .fl, .freeCtr, .out] d d.heartbeatLost := by
  unfold Dev.heartbeatLost
  extract_lets _ d1
  have hd1 : Evolves [.regs, .tim, .rng, .lne, .evr, .flt, .ctx, .tar, .par, .sec, .sch, .lcp, .cals, .ldg, .met, .eth, .fl, .freeCtr, .out] d d1 := (Dev.healthCheck_evolves ..).after <| Evolves.par.mono
  exact .ite (.ite (Evolves.par.after hd1) ((Dev.takeover_evolves ..).after hd1)) ((Dev.enterSolo_evolves ..).after hd1)

theorem Dev.cycleEnd_evolves (d : Dev) (n : ℕ) : Evolves [.regs, .tim, .rng, .lne, .evr, .flt, .ctx, .tar, .par, .ftl, .sec, .sch, .img, .lcp, .rad, .cals, .freeCtr, .out] d (d.cycleEnd n) := by
  unfold Dev.cycleEnd
  extract_lets _ _ d1
  have hd1 : Evolves [.regs, .tim, .rng, .lne, .evr, .flt, .ctx, .tar, .par, .ftl, .sec, .sch, .img, .lcp, .rad, .cals, .freeCtr, .out] d d1 := .over [.par, .ftl] .refl
  exact (Dev.swapTry_evolves ..).after <| (Dev.retireEnd_evolves ..).after <| (Dev.keyEnd_evolves ..).after <| (Dev.wr_evolves ..).after hd1

theorem Dev.pairDrain_evolves (fuel : Nat) (d : Dev) : Evolves [.lne, .par, .out] d (Dev.pairDrain fuel d) := by
  induction fuel generalizing d with
  | zero => exact .refl
  | succ f ih =>
    unfold Dev.pairDrain
    split
    · split
      · exact (ih _).after <| (Dev.pairEmit_evolves ..).after <| Evolves.par.after (Dev.laneDrop_evolves ..).mono
      · exact .refl
    · exact .refl

theorem Dev.catchupSend_evolves (d : Dev) : Evolves (.par :: reportParts) d d.catchupSend := by
  unfold Dev.catchupSend
  extract_lets _ _ d1 d2
  have hd1 : Evolves (.par :: reportParts) d d1 := Evolves.par.mono
  have hd2 : Evolves (.par :: reportParts) d d2 := (Dev.pairSend_evolves ..).after (.foldl (fun _ _ => (Dev.pairSend_evolves ..).mono) hd1)
  exact Evolves.par.after hd2

/-! ## Pcie -/

theorem Dev.pciTrain_evolves (d : Dev) (gen : ℕ) (width : ℕ) : Evolves [.rng] d (d.pciTrain gen width) := by
  unfold Dev.pciTrain
  exact Evolves.rng.mono

/-! ## Ports -/

theorem Dev.nextBeacon_evolves (d : Dev) (p : ℕ) : Evolves [.sch, .lcp, .freeCtr] d (d.nextBeacon p) := by
  unfold Dev.nextBeacon
  exact (Dev.ready_evolves ..).after <| (Dev.setPsch_evolves ..).mono

theorem Dev.startBeacon_evolves (d : Dev) (pk : ℕ) (bytes : ℕ) : Evolves [.tim, .sch, .lcp, .rad, .freeCtr] d (d.startBeacon pk bytes) := by
  unfold Dev.startBeacon
  extract_lets _ d0
  have hd0 : Evolves [.tim, .sch, .lcp, .rad, .freeCtr] d d0 := Evolves.tim.mono
  exact .ite ((Dev.nextBeacon_evolves ..).after <| (Dev.updLp_evolves ..).after hd0) ((Dev.listen_evolves ..).after <| (Dev.radTake_evolves ..).after <| (Dev.setPsch_evolves ..).after hd0)

theorem Dev.sendOrder_evolves (d : Dev) (pk : ℕ) (bytes : ℕ) : Evolves (.sch :: .eth :: .fl :: reportParts) d (d.sendOrder pk bytes) := by
  unfold Dev.sendOrder
  split
  · exact .refl
  · rename_i y0 y1 y2
    extract_lets _ _ _ _ _ d1
    have hd1 : Evolves (.sch :: .eth :: .fl :: reportParts) d d1 := (Dev.flOrder_evolves ..).mono
    exact (Dev.setCur_evolves ..).after hd1

theorem Dev.portGo_evolves (d : Dev) (pk : ℕ) (bytes : ℕ) (x : Xfer) : Evolves [.regs, .rng, .lne, .evr, .flt, .ctx, .tar, .par, .sch, .lcp, .rad, .ldg, .eth, .fl, .freeCtr, .out] d (d.portGo pk bytes x) := by
  unfold Dev.portGo
  split
  · refine (Dev.exchange_evolves ..).after ?_
    split
    · exact .ite ((Dev.updLp_evolves ..).mono) .refl
    · exact .refl
  · split
    · extract_lets
      exact (Dev.listen_evolves ..).after <| (Dev.radTake_evolves ..).mono
    · exact (Dev.sendOrder_evolves ..).mono

theorem Dev.noteTurn_evolves (d : Dev) (pk : ℕ) (x : Xfer) : Evolves [.img] d (d.noteTurn pk x) := by
  unfold Dev.noteTurn
  split
  · exact Evolves.img.mono
  · exact .ite Evolves.img.mono .refl
  · exact .refl

theorem Dev.capWait_evolves (d : Dev) (p : ℕ) : Evolves [.regs, .lcp] d (d.capWait p) := by
  unfold Dev.capWait
  exact .ite ((Dev.updLp_evolves ..).mono) (.ite .refl ((Dev.bump_evolves ..).after <| (Dev.updLp_evolves ..).mono))

theorem Dev.boundary_evolves (d : Dev) (pk : ℕ) (bytes : ℕ) : Evolves [.regs, .tim, .rng, .lne, .evr, .flt, .ctx, .tar, .par, .sec, .sch, .img, .lcp, .rad, .ldg, .eth, .fl, .freeCtr, .out] d (d.boundary pk bytes) := by
  unfold Dev.boundary
  split
  · exact .refl
  · split
    · exact (Dev.capWait_evolves ..).mono
    · split
      · exact (Dev.nextBeacon_evolves ..).mono
      · split
        · exact (Dev.startBeacon_evolves ..).mono
        · split
          · exact .refl
          · split
            · exact .refl
            · exact (Dev.portGo_evolves ..).after <| (Dev.xferStart_evolves ..).after <| (Dev.noteTurn_evolves ..).mono

theorem Dev.lineTimeout_evolves (d : Dev) (p : Nat) : Evolves [.tim, .evr, .lcp] d (d.lineTimeout p) := by
  have hfail (t : Nat) : Evolves [.tim, .evr, .lcp] d
      ((d.toMono t).updLp p (fun l => { l with phase := .failed, seg := none, ackBy := none })) :=
    (Dev.updLp_evolves ..).after (Dev.toMono_evolves ..).mono
  unfold Dev.lineTimeout
  dsimp only
  split
  · split
    · exact hfail _
    · exact .ite .refl (hfail _)
  · exact .refl

theorem Dev.exTimeout_evolves (d : Dev) (pk : ℕ) : Evolves [.tim, .evr, .lcp, .rad] d (d.exTimeout pk) := by
  unfold Dev.exTimeout
  split
  · exact (Dev.lineTimeout_evolves ..).mono
  · split
    · exact .ite .refl ((Dev.updRp_evolves ..).after <| (Dev.toMono_evolves ..).mono)
    · exact .refl

theorem Dev.lineEnd_evolves (d : Dev) (p : ℕ) (x : Xfer) (ok : Bool) : Evolves [.regs, .rng, .lne, .evr, .flt, .ctx, .tar, .par, .sec, .sch, .lcp, .ldg, .eth, .fl, .freeCtr, .out] d (d.lineEnd p x ok) := by
  unfold Dev.lineEnd
  extract_lets d0 d1
  have hd0 : Evolves [.regs, .rng, .lne, .evr, .flt, .ctx, .tar, .par, .sec, .sch, .lcp, .ldg, .eth, .fl, .freeCtr, .out] d d0 := (Dev.updLp_evolves ..).mono
  have hd1 : Evolves [.regs, .rng, .lne, .evr, .flt, .ctx, .tar, .par, .sec, .sch, .lcp, .ldg, .eth, .fl, .freeCtr, .out] d d1 := (Dev.noteEx_evolves ..).after <| (Dev.lineFail_evolves ..).after hd0
  exact .ite ((Dev.castAgain_evolves ..).after <| (Dev.xferLeave_evolves ..).after <| (Dev.updLp_evolves ..).after hd0) (.ite ((Dev.xferLeave_evolves ..).after <| (Dev.noteEx_evolves ..).after <| (Dev.lineOk_evolves ..).after hd0) (.ite ((Dev.xferLost_evolves ..).after hd1) (.ite ((Dev.exchange_evolves ..).after <| (Dev.setCur_evolves ..).after hd1) ((Dev.xferLost_evolves ..).after hd1))))

theorem Dev.radEnd_evolves (d : Dev) (n : ℕ) (x : Xfer) (ok : Bool) : Evolves [.regs, .rng, .lne, .evr, .flt, .ctx, .tar, .par, .sec, .sch, .lcp, .rad, .ldg, .eth, .fl, .freeCtr, .out] d (d.radEnd n x ok) := by
  unfold Dev.radEnd
  extract_lets _ d0 d1
  have hd0 : Evolves [.regs, .rng, .lne, .evr, .flt, .ctx, .tar, .par, .sec, .sch, .lcp, .rad, .ldg, .eth, .fl, .freeCtr, .out] d d0 := (Dev.updRp_evolves ..).after <| (Dev.noteEx_evolves ..).mono
  have hd1 : Evolves [.regs, .rng, .lne, .evr, .flt, .ctx, .tar, .par, .sec, .sch, .lcp, .rad, .ldg, .eth, .fl, .freeCtr, .out] d d1 := .ite ((Dev.shadowFail_evolves ..).after hd0) hd0
  exact .ite ((Dev.xferLeave_evolves ..).after hd0) (.ite ((Dev.xferLost_evolves ..).after hd1) (.ite ((Dev.listen_evolves ..).after <| (Dev.updRp_evolves ..).after <| (Dev.setCur_evolves ..).after hd1) ((Dev.radLost_evolves ..).after hd1)))

theorem Dev.exEnd_evolves (d : Dev) (pk : ℕ) : Evolves [.regs, .rng, .lne, .evr, .flt, .ctx, .tar, .par, .sec, .sch, .lcp, .rad, .ldg, .eth, .fl, .freeCtr, .out] d (d.exEnd pk) := by
  unfold Dev.exEnd
  split
  · exact .refl
  · split
    · split
      · exact (Dev.lineEnd_evolves ..).mono
      · exact (Dev.lineEnd_evolves ..).mono
      · exact .refl
    · split
      · exact (Dev.radEnd_evolves ..).mono
      · exact (Dev.radEnd_evolves ..).mono
      · exact .refl

theorem Dev.countMerged_evolves (d : Dev) (x : Xfer) : Evolves [.sch] d (d.countMerged x) := by
  unfold Dev.countMerged
  split
  · exact .ite Evolves.sch.mono .refl
  · exact .refl

theorem Dev.dropLate_evolves (d : Dev) (x : Xfer) : Evolves [.regs, .rng, .ctx, .sch, .lcp] d (d.dropLate x) := by
  unfold Dev.dropLate
  extract_lets _ d0 d1 d2
  have hd0 : Evolves [.regs, .rng, .ctx, .sch, .lcp] d d0 := Evolves.sch.mono
  have hd1 : Evolves [.regs, .rng, .ctx, .sch, .lcp] d d1 := .ite ((Dev.updLp_evolves ..).after hd0) hd0
  have hd2 : Evolves [.regs, .rng, .ctx, .sch, .lcp] d d2 := .ite ((Dev.expedite_evolves ..).after <| (Dev.heatFailed_evolves ..).after <| (Dev.countMerged_evolves ..).after hd1) hd1
  exact .foldl (fun _ _ => (Dev.complete_evolves ..).mono) hd2

theorem Dev.lateInFlight_evolves (d : Dev) (pk : ℕ) : Evolves [.regs, .rng, .sch] d (d.lateInFlight pk) := by
  unfold Dev.lateInFlight
  split
  · exact .refl
  · exact .ite (.foldl (fun _ _ => (Dev.complete_evolves ..).mono) ((Dev.setCur_evolves ..).mono)) .refl

theorem Dev.expire_evolves (d : Dev) : Evolves [.regs, .rng, .ctx, .sch, .lcp] d d.expire := by
  unfold Dev.expire
  extract_lets _ d1
  have hd1 : Evolves [.regs, .rng, .ctx, .sch, .lcp] d d1 := .foldl (fun _ _ => (Dev.dropLate_evolves ..).mono) .refl
  exact .foldl (fun _ _ => (Dev.lateInFlight_evolves ..).mono) hd1

/-! ## Sched -/

theorem Dev.policyLoad_evolves (d : Dev) (p : ℕ) (h : Held) (b : List Byte) : Evolves [.regs, .rng, .sch] d (d.policyLoad p h b) := by
  unfold Dev.policyLoad
  split
  · exact (Dev.complete_evolves ..).mono
  · split
    · exact (Dev.complete_evolves ..).mono
    · extract_lets
      exact (Dev.complete_evolves ..).after <| (Dev.setGrpSch_evolves ..).mono

theorem Dev.holdGroup_evolves (d : Dev) (g : ℕ) (hold : Bool) : Evolves [.regs, .ctx, .sch] d (d.holdGroup g hold) := by
  unfold Dev.holdGroup
  extract_lets _ d1
  have hd1 : Evolves [.regs, .ctx, .sch] d d1 := (Dev.setGrpSch_evolves ..).mono
  exact .ite ((Dev.holdEntries_evolves ..).after hd1) (.ite hd1 ((Dev.respace_evolves ..).after hd1))

theorem Dev.enChanged_evolves (d : Dev) (was : Bool) : Evolves [.regs, .ctx, .sch] d (d.enChanged was) := by
  unfold Dev.enChanged
  extract_lets
  exact .ite .refl (.foldl (fun _ _ => .ite ((Dev.holdEntries_evolves ..).mono) (.ite .refl ((Dev.respace_evolves ..).mono))) .refl)

theorem Dev.joinFlight_evolves (d : Dev) (m : ℕ) (q : ℕ × ℕ) : Evolves [.regs, .sch] d (d.joinFlight m q) := by
  unfold Dev.joinFlight
  extract_lets
  exact (Dev.bump_evolves ..).after <| Evolves.sch.mono

theorem Dev.mergeRead_evolves (d : Dev) (m : ℕ) (pk : ℕ) (c : Ctx) (p : ℕ) (h : Held) : Evolves [.regs, .ctx, .sch] d (d.mergeRead m pk c p h) := by
  unfold Dev.mergeRead
  extract_lets
  split
  · exact (Dev.enqueue_evolves ..).mono
  · extract_lets
    split
    · exact .ite ((Dev.expedite_evolves ..).after <| (Dev.bump_evolves ..).after <| (Dev.enqueue_evolves ..).mono) ((Dev.enqueue_evolves ..).mono)
    · split
      · split
        · exact .ite ((Dev.joinFlight_evolves ..).mono) ((Dev.enqueue_evolves ..).mono)
        · exact (Dev.enqueue_evolves ..).mono
      · exact (Dev.enqueue_evolves ..).mono

/-- A descriptor that waits for a port changes what its meaning changes, where that covers a completion. -/
theorem Evolves.meterDesc {ps : List Part} {f : Nat → Nat → Ctx → Dev} {d e : Dev} {p : Nat} {g : Held} (hf : ∀ m k c, Evolves ps d (f m k c))
    (h : Evolves ps d e) (hs : [.regs, .rng] ⊆ ps := by decide) : Evolves ps d (e.meterDesc p g f) := by
  have hdone (st sub : Nat) : Evolves ps d (e.complete p g.id st sub) := (Dev.complete_evolves ..).after h hs
  unfold Dev.meterDesc
  split
  · exact hdone _ _
  · split
    · exact hdone _ _
    · split
      · exact hdone _ _
      · exact .ite (hdone _ _) (.ite (hdone _ _) (.ite (hdone _ _) (hf _ _ _)))

theorem Dev.writeDesc_evolves (d : Dev) (p : ℕ) (h : Held) (ask : Ask) : Evolves [.regs, .rng, .sch] d (d.writeDesc p h ask) := by
  unfold Dev.writeDesc
  exact Evolves.meterDesc (fun _ _ _ => .ite ((Dev.complete_evolves ..).mono) ((Dev.enqueue_evolves ..).after <| (Dev.markStarted_evolves ..).mono)) .refl

theorem Dev.stormLeave_evolves (d : Dev) : Evolves (.ctx :: .sch :: reportParts) d d.stormLeave := by
  unfold Dev.stormLeave
  extract_lets d1 d2
  have hd1 : Evolves (.ctx :: .sch :: reportParts) d d1 := (Dev.wrb_evolves ..).after <| (Dev.suspend_evolves ..).mono
  have hd2 : Evolves (.ctx :: .sch :: reportParts) d d2 := .ite hd1 (.foldl (fun _ _ => .ite .refl ((Dev.respace_evolves ..).mono)) hd1)
  exact (Dev.recordPost_evolves ..).after hd2

theorem Dev.stormCheck_evolves (d : Dev) : Evolves (.ctx :: .sch :: reportParts) d d.stormCheck := by
  unfold Dev.stormCheck
  exact (Dev.suspend_evolves ..).after (.ite ((Dev.fullCheck_evolves ..).after <| (Dev.stormStart_evolves ..).mono) .refl)

theorem Dev.stormWindow_evolves (d : Dev) : Evolves (.tim :: .ctx :: .sch :: reportParts) d d.stormWindow := by
  unfold Dev.stormWindow
  extract_lets d0 _ _ d1
  have hd0 : Evolves (.tim :: .ctx :: .sch :: reportParts) d d0 := (Dev.stormCheck_evolves ..).after <| (Dev.toMono_evolves ..).mono
  have hd1 : Evolves (.tim :: .ctx :: .sch :: reportParts) d d1 := Evolves.sch.after hd0
  exact .ite ((Dev.stormLeave_evolves ..).after hd1) hd1

theorem Dev.entryDue_evolves (d : Dev) (m : ℕ) : Evolves [.tim, .evr, .ctx, .sch] d (d.entryDue m) := by
  unfold Dev.entryDue
  split
  · rename_i y0 y1 y2
    split
    · extract_lets d1
      have hd1 : Evolves [.tim, .evr, .ctx, .sch] d d1 := (Dev.toMono_evolves ..).mono
      exact .ite ((Dev.setEntry_evolves ..).after hd1) (Evolves.sch.after hd1)
    · exact .refl
  · exact .refl

theorem Dev.pushLate_evolves (d : Dev) (m : ℕ) : Evolves [.regs, .tim, .evr, .ctx, .sch] d (d.pushLate m) := by
  unfold Dev.pushLate
  split
  · rename_i y0 y1 y2 y3 y4 y5
    split
    · rename_i y0 y1 y2
      extract_lets d1
      have hd1 : Evolves [.regs, .tim, .evr, .ctx, .sch] d d1 := (Dev.toNs_evolves ..).mono
      exact .ite (.ite ((Dev.planAt_evolves ..).after hd1) (Evolves.sch.after hd1)) .refl
    · exact .refl
  · exact .refl

theorem Dev.census_evolves (d : Dev) : Evolves [.regs, .glb, .ctx, .sch] d d.census := by
  unfold Dev.census
  extract_lets d0 _ d1
  have hd0 : Evolves [.regs, .glb, .ctx, .sch] d d0 := (Dev.stepDone_evolves ..).mono
  have hd1 : Evolves [.regs, .glb, .ctx, .sch] d d1 := Evolves.glb.after hd0
  exact .foldl (fun _ _ => (Dev.heatOpen_evolves ..).mono) hd1

/-! ## BootOps -/

theorem Dev.reborn_evolves (d : Dev) (power : Bool) : Evolves [.regs, .dirty, .fn, .glb, .tim, .rng, .lne, .evr, .flt, .ctx, .tar, .par, .ftl, .sec, .sch, .lcp, .rad, .cals, .ldg, .met, .eth, .fl, .upd] d (d.reborn power) := by
  unfold Dev.reborn
  extract_lets
  exact .over [.regs, .dirty, .fn, .glb, .tim, .rng, .lne, .evr, .flt, .ctx, .tar, .par, .ftl, .sec, .sch, .lcp, .rad, .cals, .ldg, .met, .eth, .fl, .upd] .refl

theorem Dev.restart_evolves (d : Dev) (cause : ℕ) : Evolves [.regs, .dirty, .fn, .glb, .tim, .rng, .lne, .evr, .flt, .ctx, .tar, .par, .ftl, .sec, .sch, .lcp, .rad, .cals, .ldg, .met, .eth, .fl, .upd] d (d.restart cause) := by
  unfold Dev.restart
  extract_lets x
  have hx : Evolves [.regs, .dirty, .fn, .glb, .tim, .rng, .lne, .evr, .flt, .ctx, .tar, .par, .ftl, .sec, .sch, .lcp, .rad, .cals, .ldg, .met, .eth, .fl, .upd] d x := (Dev.reborn_evolves ..).mono
  exact Evolves.glb.after hx

theorem Dev.latchReset_evolves (d : Dev) (cause : ℕ) : Evolves [.regs, .dirty, .fn, .glb, .tim, .rng, .lne, .evr, .flt, .ctx, .tar, .par, .ftl, .nand, .sec, .sch, .lcp, .rad, .cals, .ldg, .met, .eth, .fl, .upd, .freeCtr, .out] d (d.latchReset cause) := by
  unfold Dev.latchReset
  extract_lets _ d0
  have hd0 : Evolves [.regs, .dirty, .fn, .glb, .tim, .rng, .lne, .evr, .flt, .ctx, .tar, .par, .ftl, .nand, .sec, .sch, .lcp, .rad, .cals, .ldg, .met, .eth, .fl, .upd, .freeCtr, .out] d d0 := Evolves.upd.mono
  split
  · exact .refl
  · exact hd0
  · exact hd0
  · exact (Dev.restart_evolves ..).after (.ite hd0 ((Dev.commit_evolves ..).after <| (Dev.silence_evolves ..).after hd0))
  · exact (Dev.restart_evolves ..).after hd0

theorem Dev.haltBoot_evolves (d : Dev) (code : ℕ) : Evolves [.regs, .glb] d (d.haltBoot code) := by
  unfold Dev.haltBoot
  extract_lets d1
  have hd1 : Evolves [.regs, .glb] d d1 := (Dev.wr_evolves ..).after <| (Dev.wrb_evolves ..).mono
  exact Evolves.glb.after hd1

theorem Dev.bootClocks_evolves (d : Dev) (e : BootEnv) : Evolves [.regs, .glb, .tim, .rng, .evr, .sec] d (d.bootClocks e) := by
  unfold Dev.bootClocks
  extract_lets _ d0 d1 d2 d3 _ _ d4 d5 _ d6
  have hd0 : Evolves [.regs, .glb, .tim, .rng, .evr, .sec] d d0 := Evolves.glb.mono
  have hd1 : Evolves [.regs, .glb, .tim, .rng, .evr, .sec] d d1 := (Dev.stepDone_evolves ..).after <| (Dev.passCycles_evolves ..).after hd0
  have hd2 : Evolves [.regs, .glb, .tim, .rng, .evr, .sec] d d2 := (Dev.wrb_evolves ..).after <| (Dev.wrb_evolves ..).after <| (Dev.wrb_evolves ..).after hd1
  have hd3 : Evolves [.regs, .glb, .tim, .rng, .evr, .sec] d d3 := (Dev.wrb_evolves ..).after <| (Dev.wrb_evolves ..).after <| (Dev.wrb_evolves ..).after hd2
  have hd4 : Evolves [.regs, .glb, .tim, .rng, .evr, .sec] d d4 := .over [.tim, .sec] hd3
  have hd5 : Evolves [.regs, .glb, .tim, .rng, .evr, .sec] d d5 := (Dev.wr_evolves ..).after <| (Dev.wr_evolves ..).after <| (Dev.passCycles_evolves ..).after (.ite ((Dev.pciTrain_evolves ..).after hd4) hd4)
  have hd6 : Evolves [.regs, .glb, .tim, .rng, .evr, .sec] d d6 := (Dev.wr_evolves ..).after <| (Dev.wr_evolves ..).after hd5
  exact (Dev.wr_evolves ..).after <| (Dev.wr_evolves ..).after hd6

theorem Dev.showDigest_evolves (d : Dev) (f : F) (n : ℕ) (bs : List Byte) : Evolves [.regs] d (d.showDigest f n bs) := by
  unfold Dev.showDigest
  exact .foldl (fun _ _ => (Dev.setWord_evolves ..).mono) .refl

theorem Dev.bootFirmware_evolves (d : Dev) (e : BootEnv) : Evolves [.regs, .glb, .tar, .sec, .upd] d (d.bootFirmware e) := by
  unfold Dev.bootFirmware
  extract_lets _ _ _ _ _ _ _ _ d1 d2 d3 d4
  have hd1 : Evolves [.regs, .glb, .tar, .sec, .upd] d d1 := .over [.glb, .tar, .sec, .upd] .refl
  have hd2 : Evolves [.regs, .glb, .tar, .sec, .upd] d d2 := (Dev.showDigest_evolves ..).after <| (Dev.showDigest_evolves ..).after hd1
  have hd3 : Evolves [.regs, .glb, .tar, .sec, .upd] d d3 := (Dev.wrb_evolves ..).after <| (Dev.wr_evolves ..).after <| (Dev.wr_evolves ..).after hd2
  have hd4 : Evolves [.regs, .glb, .tar, .sec, .upd] d d4 := (Dev.wrb_evolves ..).after <| (Dev.wrb_evolves ..).after <| (Dev.showDigest_evolves ..).after hd3
  exact (Dev.setWord_evolves ..).after <| (Dev.wr_evolves ..).after <| (Dev.wr_evolves ..).after hd4

theorem Dev.bootCaps_evolves (d : Dev) (gov : Tab (ℕ × ℕ)) : Evolves [.regs] d (d.bootCaps gov) := by
  unfold Dev.bootCaps
  refine .foldl (fun x a => ?_) .refl
  extract_lets y
  have hy : Evolves [.regs] x y := by
    unfold y
    split
    · exact (Dev.wr_evolves ..).after <| (Dev.wr_evolves ..).after <| (Dev.wrb_evolves ..).mono
    · exact .refl
  exact (Dev.wr_evolves ..).after <| (Dev.wr_evolves ..).after hy

theorem Dev.bootModes_evolves (d : Dev) (e : BootEnv) : Evolves [.regs, .glb, .par, .nand, .fl] d (d.bootModes e) := by
  have hover (x : Dev) (hx : Evolves [.regs, .glb, .par, .nand, .fl] d x) (g : Glb) (n : Nand) (f : Fl) (p : Par) :
      Evolves [.regs, .glb, .par, .nand, .fl] d { x with glb := g, nand := n, fl := f, par := p } := .over [.glb, .par, .nand, .fl] hx
  unfold Dev.bootModes
  extract_lets d1 d2
  have h1 : Evolves [.regs, .glb, .par, .nand, .fl] d d1 :=
    (Dev.wrb_evolves ..).after <| (Dev.wr_evolves ..).after <| (Dev.wrb_evolves ..).after <| (Dev.stepDone_evolves ..).mono
  exact hover d2 ((Dev.wr_evolves ..).after h1) _ _ _ _

theorem Dev.bootTime_evolves (d : Dev) : Evolves (.tim :: reportParts) d d.bootTime := by
  unfold Dev.bootTime
  extract_lets d1 _ x _ d2
  have hd1 : Evolves (.tim :: reportParts) d d1 := (Dev.wrb_evolves ..).mono
  have hx : Evolves (.tim :: reportParts) d x := (Dev.enterHoldover_evolves ..).after <| (Dev.wr_evolves ..).after <| Evolves.tim.after hd1
  have hd2 : Evolves (.tim :: reportParts) d d2 := .ite (Evolves.tim.after hx) hd1
  exact (Dev.timeCheck_evolves ..).after <| Evolves.tim.after hd2

theorem Dev.resetBlocks_evolves (d : Dev) (mask : ℕ) : Evolves [.regs, .store] d (d.resetBlocks mask) := by
  unfold Dev.resetBlocks
  extract_lets
  exact .over [.regs, .store] .refl

theorem Dev.bootFormats_evolves (d : Dev) : Evolves [.regs, .store, .upd] d d.bootFormats.2 := by
  unfold Dev.bootFormats
  split
  · exact .refl
  · rename_i y0
    extract_lets _ y
    have hy : Evolves [.regs, .store, .upd] d y := (Dev.resetBlocks_evolves ..).mono
    exact Evolves.upd.after hy

theorem Dev.bootRetain_evolves (d : Dev) : Evolves (.glb :: .upd :: reportParts) d d.bootRetain := by
  unfold Dev.bootRetain
  extract_lets _ _ _ _ d1
  have hd1 : Evolves (.glb :: .upd :: reportParts) d d1 := .over [.glb, .upd] .refl
  exact .ite ((Dev.recordPost_evolves ..).after hd1) hd1

theorem Dev.bootImage_evolves (d : Dev) (mask : ℕ) : Evolves (.upd :: reportParts) d (d.bootImage mask) := by
  unfold Dev.bootImage
  split
  · exact (Dev.recordPost_evolves ..).after <| (Dev.bump_evolves ..).mono
  · extract_lets d1 d2
    have hd1 : Evolves (.upd :: reportParts) d d1 := .ite .refl ((Dev.recordPost_evolves ..).mono)
    have hd2 : Evolves (.upd :: reportParts) d d2 := .ite ((Dev.recordPost_evolves ..).after <| (Dev.bump_evolves ..).after hd1) hd1
    exact Evolves.upd.after hd2

theorem Dev.bootCheck_evolves (d : Dev) : Evolves (.tar :: reportParts) d d.bootCheck := by
  unfold Dev.bootCheck
  extract_lets
  split
  · exact Evolves.tar.mono
  · exact .ite .refl ((Dev.record_evolves ..).after <| Evolves.tar.mono)

theorem Dev.bootRecords_evolves (d : Dev) : Evolves (.glb :: reportParts) d d.bootRecords := by
  unfold Dev.bootRecords
  extract_lets d1 _ d2
  have hd1 : Evolves (.glb :: reportParts) d d1 := (Dev.record_evolves ..).mono
  have hd2 : Evolves (.glb :: reportParts) d d2 := .ite hd1 ((Dev.record_evolves ..).after <| Evolves.glb.after hd1)
  exact .ite hd2 ((Dev.record_evolves ..).after hd2)

theorem Dev.bootDegraded_evolves (d : Dev) : Evolves [.regs] d d.bootDegraded := by
  unfold Dev.bootDegraded
  exact .ite ((Dev.wrb_evolves ..).mono) .refl

theorem Dev.bootStart_evolves (d : Dev) : Evolves (.fn :: .met :: .eth :: fatalParts) d d.bootStart := by
  unfold Dev.bootStart
  extract_lets d1 d2
  have hd1 : Evolves (.fn :: .met :: .eth :: fatalParts) d d1 := (Dev.autoStart_evolves ..).mono
  have hd2 : Evolves (.fn :: .met :: .eth :: fatalParts) d d2 := .ite ((Dev.fnStart_evolves ..).after hd1) hd1
  exact .ite ((Dev.stepCEnd_evolves ..).after hd2) (.ite hd2 ((Dev.stepCEnd_evolves ..).after <| (Dev.setClaim_evolves ..).after hd2))

theorem Dev.restore_evolves (d0 : Dev) : Evolves [.regs, .ctx, .tar, .par, .sec, .sch, .cals, .ldg, .fl, .upd, .freeCtr] d0 d0.restore := by
  unfold Dev.restore
  extract_lets d _ _ _ _ _ _ _ _ _ d1 d2
  have hd : Evolves [.regs, .ctx, .tar, .par, .sec, .sch, .cals, .ldg, .fl, .upd, .freeCtr] d0 d := .ite ((Dev.drawSeed_evolves ..).mono) .refl
  have hd1 : Evolves [.regs, .ctx, .tar, .par, .sec, .sch, .cals, .ldg, .fl, .upd, .freeCtr] d0 d1 := .over [.ctx, .tar, .sec, .sch, .cals, .ldg, .fl, .upd] hd
  have hd2 : Evolves [.regs, .ctx, .tar, .par, .sec, .sch, .cals, .ldg, .fl, .upd, .freeCtr] d0 d2 := (Dev.protect_evolves ..).after <| (Dev.wrb_evolves ..).after <| (Dev.mapCtx_evolves ..).after hd1
  exact Evolves.par.after hd2

theorem Dev.stepGEnd_evolves (d : Dev) : Evolves [.regs, .fn, .glb, .tim, .rng, .lne, .evr, .flt, .ctx, .tar, .par, .nand, .sec, .sch, .lcp, .rad, .cals, .ldg, .met, .eth, .fl, .upd, .freeCtr, .out] d d.stepGEnd := by
  unfold Dev.stepGEnd
  extract_lets d1
  have hd1 : Evolves [.regs, .fn, .glb, .tim, .rng, .lne, .evr, .flt, .ctx, .tar, .par, .nand, .sec, .sch, .lcp, .rad, .cals, .ldg, .met, .eth, .fl, .upd, .freeCtr, .out] d d1 := (Dev.stepDone_evolves ..).after <| (Dev.restore_evolves ..).mono
  exact (Dev.autoStart_evolves ..).after <| Evolves.glb.after hd1

/-! ## Boot -/

theorem Dev.releasePins_evolves (d : Dev) (resetN : Bool) (perstN : Bool) (pwrFailN : Bool) : Evolves [.glb] d (d.releasePins resetN perstN pwrFailN) := by
  unfold Dev.releasePins
  extract_lets _ d1
  have hd1 : Evolves [.glb] d d1 := Evolves.glb.mono
  exact .ite (Evolves.glb.after hd1) hd1

theorem Dev.failStart_evolves (d : Dev) : Evolves [.regs, .dirty, .fn, .glb, .tim, .rng, .lne, .evr, .flt, .ctx, .tar, .par, .ftl, .sec, .sch, .lcp, .rad, .cals, .ldg, .met, .eth, .fl, .upd, .freeCtr, .out] d d.failStart := by
  unfold Dev.failStart
  extract_lets _ _ d0 d1 d2 _ y3
  have hd0 : Evolves [.regs, .dirty, .fn, .glb, .tim, .rng, .lne, .evr, .flt, .ctx, .tar, .par, .ftl, .sec, .sch, .lcp, .rad, .cals, .ldg, .met, .eth, .fl, .upd, .freeCtr, .out] d d0 := .over [.sec, .upd] .refl
  have hd1 : Evolves [.regs, .dirty, .fn, .glb, .tim, .rng, .lne, .evr, .flt, .ctx, .tar, .par, .ftl, .sec, .sch, .lcp, .rad, .cals, .ldg, .met, .eth, .fl, .upd, .freeCtr, .out] d d1 := (Dev.wr_evolves ..).after hd0
  have hd2 : Evolves [.regs, .dirty, .fn, .glb, .tim, .rng, .lne, .evr, .flt, .ctx, .tar, .par, .ftl, .sec, .sch, .lcp, .rad, .cals, .ldg, .met, .eth, .fl, .upd, .freeCtr, .out] d d2 := .ite hd1 ((Dev.silence_evolves ..).after hd1)
  have hy3 : Evolves [.regs, .dirty, .fn, .glb, .tim, .rng, .lne, .evr, .flt, .ctx, .tar, .par, .ftl, .sec, .sch, .lcp, .rad, .cals, .ldg, .met, .eth, .fl, .upd, .freeCtr, .out] d y3 := (Dev.restart_evolves ..).after hd0
  split
  · exact Evolves.glb.after hd2
  · exact Evolves.glb.after hy3
  · exact Evolves.glb.after hy3
  · exact hd0

theorem Dev.failDone_evolves (d : Dev) (us : ℕ) : Evolves (.store :: .glb :: .tim :: .tar :: .nand :: reportParts) d (d.failDone us) := by
  unfold Dev.failDone
  extract_lets d1 d2
  have hd1 : Evolves (.store :: .glb :: .tim :: .tar :: .nand :: reportParts) d d1 := (Dev.record_evolves ..).after <| (Dev.bump_evolves ..).after <| (Dev.passCycles_evolves ..).mono
  have hd2 : Evolves (.store :: .glb :: .tim :: .tar :: .nand :: reportParts) d d2 := (Dev.wr_evolves ..).after (.ite hd1 ((Dev.commit_evolves ..).after hd1))
  exact .over [.store, .glb] hd2

theorem Dev.holdFell_evolves (d : Dev) : Evolves (.glb :: reportParts) d d.holdFell := by
  unfold Dev.holdFell
  extract_lets d1
  have hd1 : Evolves (.glb :: reportParts) d d1 := (Dev.post_evolves ..).after <| (Dev.bump_evolves ..).mono
  exact .ite ((Dev.record_evolves ..).after <| Evolves.glb.after hd1) hd1

theorem Dev.holdSample_evolves (d : Dev) (mv : ℕ) : Evolves (.glb :: reportParts) d (d.holdSample mv) := by
  unfold Dev.holdSample
  extract_lets _ d1 _ _ d2
  have hd1 : Evolves (.glb :: reportParts) d d1 := (Dev.wr_evolves ..).after <| (Dev.wr_evolves ..).mono
  have hd2 : Evolves (.glb :: reportParts) d d2 := (Dev.wrb_evolves ..).after <| Evolves.glb.after hd1
  exact .ite (Evolves.glb.after hd1) (.ite (Evolves.glb.after hd1) (.ite ((Dev.holdFell_evolves ..).after hd2) hd2))

/-! ## Ingest -/

theorem Dev.takeAnswered_evolves {d e : Dev} {m : Nat} {v : Via} {x : Xfer} (h : d.takeAnswered m v = some (x, e)) : Evolves [.sch] d e := by
  obtain ⟨y, _, hy⟩ := Option.map_eq_some_iff.1 h
  cases hy
  exact Dev.setPsch_evolves ..

theorem Dev.keepAnswer_evolves (d : Dev) (m : ℕ) (v : Via) (data : Option MData) (ofs : ℤ) : Evolves [.fl] d (d.keepAnswer m v data ofs) := by
  unfold Dev.keepAnswer
  split
  · exact .ite Evolves.fl.mono .refl
  · exact .refl

theorem Dev.settleAnswer_evolves (d : Dev) (m : ℕ) (v : Via) (data : Option MData) (bad : Bool) (ofs : ℤ) : Evolves [.regs, .rng, .lne, .evr, .flt, .ctx, .tar, .par, .sec, .sch, .img, .lcp, .ldg, .eth, .fl, .freeCtr, .out] d (d.settleAnswer m v data bad ofs) := by
  unfold Dev.settleAnswer
  split
  · exact (Dev.keepAnswer_evolves ..).mono
  · rename_i y0 y1 y2 y3
    split
    · rename_i y0 y1
      exact (Dev.xferDone_evolves ..).after <| (Dev.takeAnswered_evolves y3).mono
    · rename_i y0
      exact .ite ((Dev.xferFail_evolves ..).after <| (Dev.takeAnswered_evolves y3).mono) ((Dev.xferFail_evolves ..).after <| (Dev.takeAnswered_evolves y3).mono)

theorem Dev.muteReads_evolves (d : Dev) (pk : ℕ) (m : ℕ) (data : MData) : Evolves [.regs, .rng, .ctx, .sch, .out] d (d.muteReads pk m data) := by
  unfold Dev.muteReads
  split
  · exact .refl
  · extract_lets _ _ d1
    have hd1 : Evolves [.regs, .rng, .ctx, .sch, .out] d d1 := Evolves.sch.mono
    refine .foldl (fun x a => ?_) hd1
    split
    · exact .refl
    · rename_i y0 y1 y2
      extract_lets y1
      have hy1 : Evolves [.regs, .rng, .ctx, .sch, .out] x y1 := .ite ((Dev.editCtx_evolves ..).mono) .refl
      exact .ite (.foldl (fun _ _ => (Dev.answerDesc_evolves ..).mono) hy1) (.foldl (fun _ _ => (Dev.complete_evolves ..).mono) hy1)

theorem Dev.alarm_evolves (d : Dev) (m : ℕ) (bits : ℕ) : Evolves (.ctx :: reportParts) d (d.alarm m bits) := by
  unfold Dev.alarm
  split
  · exact .refl
  · extract_lets _ d1
    have hd1 : Evolves (.ctx :: reportParts) d d1 := (Dev.editCtx_evolves ..).mono
    exact (Dev.post_evolves ..).after hd1

theorem Dev.moveOwner_evolves (d : Dev) (m : ℕ) (c : Ctx) (v : Via) : Evolves (.ctx :: .eth :: .fl :: reportParts) d (d.moveOwner m c v) := by
  unfold Dev.moveOwner
  split
  · exact .refl
  · extract_lets _ d1
    have hd1 : Evolves (.ctx :: .eth :: .fl :: reportParts) d d1 := (Dev.editCtx_evolves ..).after <| (Dev.flLeave_evolves ..).mono
    exact .ite .refl (.ite ((Dev.post_evolves ..).after hd1) hd1)

theorem Dev.associated_evolves (d : Dev) (m : ℕ) (v : Via) : Evolves (.ctx :: .tar :: .par :: .ldg :: .eth :: .fl :: reportParts) d (d.associated m v) := by
  unfold Dev.associated
  split
  · rename_i y0 y1 y2 y3 y4 y5 y6 y7
    extract_lets _ d1 d2
    have hd1 : Evolves (.ctx :: .tar :: .par :: .ldg :: .eth :: .fl :: reportParts) d d1 := Evolves.ctx.mono
    have hd2 : Evolves (.ctx :: .tar :: .par :: .ldg :: .eth :: .fl :: reportParts) d d2 := (Dev.moveOwner_evolves ..).after <| (Dev.editCtx_evolves ..).after <| (Dev.unpin_evolves ..).after hd1
    exact .ite ((Dev.genesis_evolves ..).after <| (Dev.openExt_evolves ..).after hd2) hd2
  · exact .refl

theorem Dev.netState_evolves (d : Dev) (m : ℕ) (v : Via) : Evolves [.ctx] d (d.netState m v) := by
  unfold Dev.netState
  exact (Dev.editCtx_evolves ..).mono

theorem Dev.learnVia_evolves (d : Dev) (m : ℕ) (v : Via) : Evolves [.regs, .ctx, .sch, .lcp, .cals, .fl] d (d.learnVia m v) := by
  unfold Dev.learnVia
  split
  · exact (Dev.fdAuth_evolves ..).mono
  · exact .ite (.ite (.ite ((Dev.phUnknown_evolves ..).mono) .refl) ((Dev.learnLine_evolves ..).mono)) (.ite ((Dev.radTouch_evolves ..).mono) .refl)

theorem Dev.timeAsked_evolves (d : Dev) (m : ℕ) (pk : ℕ) : Evolves [.sch, .ldg] d (d.timeAsked m pk) := by
  unfold Dev.timeAsked
  extract_lets
  exact .ite ((Dev.enqueue_evolves ..).after <| (Dev.setLdgM_evolves ..).mono) .refl

theorem Dev.acceptFrame_evolves (d : Dev) (m : ℕ) (f : MFrame) (v : Via) : Evolves [.regs, .rng, .lne, .evr, .flt, .ctx, .tar, .par, .sec, .sch, .img, .lcp, .cals, .ldg, .eth, .fl, .freeCtr, .out] d (d.acceptFrame m f v) := by
  unfold Dev.acceptFrame
  extract_lets _ d1 d2 d3 d4 d5 d6
  have hd1 : Evolves [.regs, .rng, .lne, .evr, .flt, .ctx, .tar, .par, .sec, .sch, .img, .lcp, .cals, .ldg, .eth, .fl, .freeCtr, .out] d d1 := .ite ((Dev.associated_evolves ..).mono) .refl
  have hd2 : Evolves [.regs, .rng, .lne, .evr, .flt, .ctx, .tar, .par, .sec, .sch, .img, .lcp, .cals, .ldg, .eth, .fl, .freeCtr, .out] d d2 := (Dev.editCtx_evolves ..).after hd1
  have hd3 : Evolves [.regs, .rng, .lne, .evr, .flt, .ctx, .tar, .par, .sec, .sch, .img, .lcp, .cals, .ldg, .eth, .fl, .freeCtr, .out] d d3 := (Dev.ledger_evolves ..).after <| (Dev.learnVia_evolves ..).after <| (Dev.netState_evolves ..).after hd2
  have hd4 : Evolves [.regs, .rng, .lne, .evr, .flt, .ctx, .tar, .par, .sec, .sch, .img, .lcp, .cals, .ldg, .eth, .fl, .freeCtr, .out] d d4 := by
    unfold d4
    refine (Dev.alarm_evolves ..).after ?_
    split
    · exact (Dev.setTamper_evolves ..).after hd3
    · exact hd3
  have hd5 : Evolves [.regs, .rng, .lne, .evr, .flt, .ctx, .tar, .par, .sec, .sch, .img, .lcp, .cals, .ldg, .eth, .fl, .freeCtr, .out] d d5 := (Dev.muteReads_evolves ..).after <| (Dev.pushArrived_evolves ..).after <| (Dev.markCatchup_evolves ..).after hd4
  have hd6 : Evolves [.regs, .rng, .lne, .evr, .flt, .ctx, .tar, .par, .sec, .sch, .img, .lcp, .cals, .ldg, .eth, .fl, .freeCtr, .out] d d6 := (Dev.settleAnswer_evolves ..).after hd5
  exact .ite ((Dev.timeAsked_evolves ..).after hd6) hd6

theorem Dev.ownFrame_evolves (d : Dev) (m : ℕ) (c : Ctx) (f : MFrame) (v : Via) : Evolves [.regs, .rng, .lne, .evr, .flt, .ctx, .tar, .par, .sec, .sch, .img, .lcp, .cals, .ldg, .eth, .fl, .freeCtr, .out] d (d.ownFrame m c f v) := by
  unfold Dev.ownFrame
  extract_lets r
  have hr : Evolves [.regs, .rng, .lne, .evr, .flt, .ctx, .tar, .par, .sec, .sch, .img, .lcp, .cals, .ldg, .eth, .fl, .freeCtr, .out] d r.2 := (Dev.authenticate_evolves ..).mono
  split
  · exact (Dev.acceptFrame_evolves ..).after hr
  · exact (Dev.joinFails_evolves ..).after <| (Dev.settleAnswer_evolves ..).after hr
  · exact (Dev.settleAnswer_evolves ..).after hr

theorem Dev.meterSts_evolves (d : Dev) (old : Ctx) (new : Ctx) : Evolves linkParts d (d.meterSts old new) := by
  unfold Dev.meterSts
  exact .ite .refl ((Dev.flHoldRec_evolves ..).mono)

theorem Dev.forwardFrame_evolves (d : Dev) (m : ℕ) (c : Ctx) (f : MFrame) (v : Via) : Evolves (.ctx :: .tar :: .par :: .sch :: .cals :: .ldg :: linkParts) d (d.forwardFrame m c f v) := by
  unfold Dev.forwardFrame
  extract_lets d1 d2 d3 d4 _ _ d5
  have hd1 : Evolves (.ctx :: .tar :: .par :: .sch :: .cals :: .ldg :: linkParts) d d1 := (Dev.netState_evolves ..).mono
  have hd2 : Evolves (.ctx :: .tar :: .par :: .sch :: .cals :: .ldg :: linkParts) d d2 := .ite ((Dev.radTouch_evolves ..).after hd1) hd1
  have hd3 : Evolves (.ctx :: .tar :: .par :: .sch :: .cals :: .ldg :: linkParts) d d3 := by
    unfold d3
    split
    · exact (Dev.meterSts_evolves ..).after hd2
    · exact hd2
  have hd4 : Evolves (.ctx :: .tar :: .par :: .sch :: .cals :: .ldg :: linkParts) d d4 := (Dev.flHoldRec_evolves ..).after hd3
  have hd5 : Evolves (.ctx :: .tar :: .par :: .sch :: .cals :: .ldg :: linkParts) d d5 := .ite (Evolves.fl.after hd4) hd4
  split
  · rename_i y0 y1 y2 y3
    split
    · rename_i y0 y1 y2
      exact (Dev.ctxTry_evolves ..).after <| (Dev.unpin_evolves ..).after <| (Dev.orderDone_evolves ..).after <| (Dev.takeAnswered_evolves y3).after hd5
    · rename_i y0 y1
      exact (Dev.ctxTry_evolves ..).after <| (Dev.unpin_evolves ..).after <| (Dev.takeAnswered_evolves y3).after hd5
  · exact hd5

theorem Dev.frameFetch_evolves (d : Dev) (f : MFrame) (v : Via) : Evolves [.regs, .ctx] d (d.frameFetch f v).2 := by
  unfold Dev.frameFetch
  split
  · exact .refl
  · split
    · exact .refl
    · split
      · exact .refl
      · exact (Dev.fetchCtx_evolves ..).mono

theorem Dev.processFrame_evolves (d : Dev) (f : MFrame) (v : Via) : Evolves [.regs, .rng, .lne, .evr, .flt, .ctx, .tar, .par, .sec, .sch, .img, .lcp, .cals, .ldg, .eth, .fl, .freeCtr, .out] d (d.processFrame f v) := by
  unfold Dev.processFrame
  split
  · exact (Dev.bump_evolves ..).mono
  · rename_i y0 y1 y2
    split
    · exact (Dev.bump_evolves ..).mono
    · rename_i y0 y1 y2
      split
      · exact (Dev.bump_evolves ..).mono
      · split
        · exact (Dev.forwardFrame_evolves ..).mono
        · extract_lets _ d1
          have hd1 : Evolves [.regs, .rng, .lne, .evr, .flt, .ctx, .tar, .par, .sec, .sch, .img, .lcp, .cals, .ldg, .eth, .fl, .freeCtr, .out] d d1 := .ite Evolves.sch.mono .refl
          exact (Dev.ownFrame_evolves ..).after <| (Dev.stormCheck_evolves ..).after hd1

theorem Dev.takeFrame_evolves (d : Dev) (q : ℕ) (n : ℕ) (f : MFrame) (v : Via) : Evolves [.regs, .rng, .lne, .evr, .flt, .ctx, .tar, .par, .sec, .sch, .img, .lcp, .cals, .ldg, .eth, .fl, .freeCtr, .out] d (d.takeFrame q n f v) := by
  unfold Dev.takeFrame
  extract_lets r
  have hr : Evolves [.regs, .rng, .lne, .evr, .flt, .ctx, .tar, .par, .sec, .sch, .img, .lcp, .cals, .ldg, .eth, .fl, .freeCtr, .out] d r.2 := (Dev.frameFetch_evolves ..).mono
  exact .ite ((Dev.processFrame_evolves ..).after <| (Dev.laneDrop_evolves ..).after hr) hr

theorem Dev.capacityRefused_evolves (d : Dev) : Evolves (.ctx :: reportParts) d d.capacityRefused := by
  unfold Dev.capacityRefused
  extract_lets d1
  have hd1 : Evolves (.ctx :: reportParts) d d1 := (Dev.bump_evolves ..).mono
  exact .ite ((Dev.recordPost_evolves ..).after <| Evolves.ctx.after hd1) hd1

theorem Dev.refuseJoin_evolves (d : Dev) (j : JoinReq) (v : Via) : Evolves [.ctx, .out] d (d.refuseJoin j v) := by
  unfold Dev.refuseJoin
  extract_lets
  exact .ite ((Dev.emit_evolves ..).mono) Evolves.ctx.mono

theorem Dev.joinNet_evolves (d : Dev) (m : ℕ) (j : JoinReq) (v : Via) : Evolves [.ctx, .lcp, .cals, .ldg] d (d.joinNet m j v) := by
  unfold Dev.joinNet
  extract_lets _ s _ _ d1 d2 _ d3
  have hs : Evolves [.ctx, .lcp, .cals, .ldg] d s.2 := by
    unfold s
    split
    · exact (Dev.giveShort_evolves ..).mono
    · exact .refl
  have hd1 : Evolves [.ctx, .lcp, .cals, .ldg] d d1 := (Dev.editCtx_evolves ..).after hs
  have hd2 : Evolves [.ctx, .lcp, .cals, .ldg] d d2 := Evolves.cals.after hd1
  have hd3 : Evolves [.ctx, .lcp, .cals, .ldg] d d3 := (Dev.setLdgM_evolves ..).after hd2
  exact Evolves.lcp.after hd3

theorem Dev.answerJoin_evolves (d : Dev) (m : ℕ) (j : JoinReq) (v : Via) : Evolves (.cals :: .eth :: .fl :: reportParts) d (d.answerJoin m j v) := by
  unfold Dev.answerJoin
  split
  · exact (Dev.flOrder_evolves ..).mono
  · exact (Dev.joinElement_evolves ..).after <| (Dev.emit_evolves ..).mono

theorem Dev.toJoining_evolves (d : Dev) (m : ℕ) (from_ : ℕ) (j : JoinReq) (v : Via) : Evolves (.ctx :: .lcp :: .cals :: .ldg :: .eth :: .fl :: reportParts) d (d.toJoining m from_ j v) := by
  unfold Dev.toJoining
  extract_lets _ d1 d2
  have hd1 : Evolves (.ctx :: .lcp :: .cals :: .ldg :: .eth :: .fl :: reportParts) d d1 := Evolves.ctx.mono
  have hd2 : Evolves (.ctx :: .lcp :: .cals :: .ldg :: .eth :: .fl :: reportParts) d d2 := (Dev.joinNet_evolves ..).after <| (Dev.editCtx_evolves ..).after hd1
  exact (Dev.answerJoin_evolves ..).after <| (Dev.pin_evolves ..).after hd2

theorem Dev.knownJoin_evolves (d : Dev) (m : ℕ) (c : Ctx) (j : JoinReq) (v : Via) : Evolves (.ctx :: .lcp :: .cals :: .ldg :: .eth :: .fl :: reportParts) d (d.knownJoin m c j v) := by
  unfold Dev.knownJoin
  exact .ite .refl (.ite ((Dev.bump_evolves ..).mono) (.ite ((Dev.answerJoin_evolves ..).mono) (.ite ((Dev.bump_evolves ..).after <| (Dev.refuseJoin_evolves ..).mono) (.ite .refl ((Dev.toJoining_evolves ..).mono)))))

theorem Dev.unknownJoin_evolves (d : Dev) (moves : List (Fin 4)) (j : JoinReq) (v : Via) : Evolves (.ctx :: .img :: .lcp :: .cals :: .ldg :: linkParts) d (d.unknownJoin moves j v) := by
  unfold Dev.unknownJoin
  split
  · exact .refl
  · split
    · exact (Dev.bump_evolves ..).mono
    · split
      · exact (Dev.capacityRefused_evolves ..).after <| (Dev.refuseJoin_evolves ..).mono
      · split
        · exact (Dev.bump_evolves ..).after <| (Dev.refuseJoin_evolves ..).mono
        · split
          · exact .refl
          · extract_lets _ r d1
            have hr : Evolves (.ctx :: .img :: .lcp :: .cals :: .ldg :: linkParts) d r.2 := (Dev.indexPut_evolves ..).mono
            have hd1 : Evolves (.ctx :: .img :: .lcp :: .cals :: .ldg :: linkParts) d d1 := (Dev.imgJoin_evolves ..).after <| (Dev.toJoining_evolves ..).after <| (Dev.putCtx_evolves ..).after hr
            exact .ite hr ((Dev.post_evolves ..).after hd1)

theorem Dev.forwardJoin_evolves (d : Dev) (j : JoinReq) (v : Via) : Evolves (.ctx :: .eth :: .fl :: reportParts) d (d.forwardJoin j v) := by
  unfold Dev.forwardJoin
  exact .ite .refl (.ite ((Dev.bump_evolves ..).after <| (Dev.refuseJoin_evolves ..).mono) (.ite ((Dev.flHoldRec_evolves ..).after <| Evolves.fl.mono) .refl))

theorem Dev.processJoin_evolves (d : Dev) (moves : List (Fin 4)) (j : JoinReq) (v : Via) :
    Evolves ([.ctx, .img, .lcp, .cals, .ldg] ++ linkParts) d (d.processJoin moves j v) := by
  have hforward : Evolves ([.ctx, .img, .lcp, .cals, .ldg] ++ linkParts) d (d.forwardJoin j v) := (Dev.forwardJoin_evolves ..).mono
  unfold Dev.processJoin
  extract_lets known
  clear_value known
  split
  · exact .refl
  cases known with
  | some e => exact .ite hforward (Dev.knownJoin_evolves ..).mono
  | none => exact .ite hforward (.ite .refl (Dev.unknownJoin_evolves ..).mono)

/-! ## FieldLink -/

theorem Dev.flDeliver_evolves (d : Dev) (p : ℕ) (rx : ℕ) (f : FlFrame) : Evolves [.fl] d (d.flDeliver p rx f) := by
  unfold Dev.flDeliver
  extract_lets
  exact Evolves.fl.mono

theorem Dev.flKeyed_evolves (d : Dev) (p : ℕ) (rx : ℕ) (src : ℕ) (f : FlFrame) : Evolves linkParts d (d.flKeyed p rx src f) := by
  unfold Dev.flKeyed
  split
  · exact (Dev.ethCount_evolves ..).mono
  · split
    · exact (Dev.ethCount_evolves ..).mono
    · rename_i y0 y1 y2
      extract_lets _ d1 _ d2
      have hd1 : Evolves linkParts d d1 := (Dev.setFlEnd_evolves ..).mono
      have hd2 : Evolves linkParts d d2 := .ite ((Dev.setFd_evolves ..).after hd1) hd1
      exact (Dev.flDeliver_evolves ..).after hd2

theorem Dev.musterSend_evolves (fuel : Nat) (d : Dev) : Evolves linkParts d (Dev.musterSend fuel d) := by
  induction fuel generalizing d with
  | zero => exact .refl
  | succ n ih =>
    unfold Dev.musterSend
    extract_lets sec sent
    clear_value sec sent
    split
    · exact .refl
    split
    · exact .refl
    extract_lets d1 d2 x d3
    have h2 : Evolves linkParts d d2 := (Dev.flSendOn_evolves ..).after Evolves.fl.mono
    have h3 : Evolves linkParts d d3 := by
      unfold d3
      split
      · exact (Dev.bump_evolves ..).after <| (Dev.setFd_evolves ..).after h2
      · exact (Dev.stepFEnd_evolves ..).after <| (Dev.setFd_evolves ..).after h2
    exact (ih _).after h3

theorem Dev.musterAdd_evolves (d : Dev) (fdx : ℕ) (p : ℕ) (r : FlRec) : Evolves linkParts d (d.musterAdd fdx p r) := by
  unfold Dev.musterAdd
  exact (Dev.musterSend_evolves ..).after <| Evolves.fl.mono

theorem Dev.flFrame_evolves (d : Dev) (p : Nat) : Evolves linkParts d (d.flFrame p) := by
  unfold Dev.flFrame
  split
  · next n _ _ f rx _ =>
    extract_lets d1 go
    have h1 : Evolves linkParts d d1 := (Dev.musterSend_evolves ..).after (Dev.laneDrop_evolves ..).mono
    have hbad : Evolves linkParts d (d1.ethCount p 9) := (Dev.ethCount_evolves ..).after h1
    have hgo (udp : Bool) (x : FlFrame) : Evolves linkParts d (go udp x) :=
      .ite h1 (.ite hbad (.ite (.ite ((Dev.flDeliver_evolves ..).after h1) hbad) ((Dev.flKeyed_evolves ..).after h1)))
    clear_value go
    split
    · exact hgo _ _
    · exact hgo _ _
    · exact h1
  · exact .refl

/-- A record that is taken changes what its meaning changes, and leaves the records that wait. -/
theorem Evolves.onRec {ps : List Part} {pick : FlRec → Bool} {f : Dev → Nat → Nat → Nat → FlRec → Dev} {d e : Dev}
    (hf : ∀ x fdx p rx r, Evolves ps x (f x fdx p rx r)) (h : Evolves ps d e) (hs : [.fl] ⊆ ps := by decide) : Evolves ps d (e.onRec pick f) := by
  unfold Dev.onRec
  split
  · exact h
  · split
    · exact h
    · exact (Evolves.fl.after h hs).trans (hf _ _ _ _ _)

theorem Dev.dataAck_evolves (d : Dev) (fdx : ℕ) : Evolves linkParts d (d.dataAck fdx) := by
  unfold Dev.dataAck
  extract_lets
  exact (Dev.flSend_evolves ..).after <| (Dev.setFd_evolves ..).mono

theorem Dev.heldRx_evolves (d : Dev) (fdx : ℕ) (n : ℕ) : Evolves linkParts d (d.heldRx fdx n).2 := by
  unfold Dev.heldRx
  extract_lets _ _ _ _ d1 d2
  have hd1 : Evolves linkParts d d1 := (Dev.setFd_evolves ..).mono
  have hd2 : Evolves linkParts d d2 := .ite ((Dev.bump_evolves ..).after hd1) hd1
  exact .ite ((Dev.dataAck_evolves ..).after hd2) hd2

theorem Dev.flCodeWrite_evolves (d : Dev) (i : ℕ) (v : ℕ) : Evolves [.fl] d (d.flCodeWrite i v) := by
  unfold Dev.flCodeWrite
  extract_lets
  exact Evolves.fl.mono

theorem Dev.draw16_evolves (d : Dev) : Evolves [.freeCtr] d d.draw16.2 := by
  unfold Dev.draw16
  extract_lets f
  have hf : Evolves [.freeCtr] d f.2 := (Dev.fresh_evolves ..).mono
  exact hf

theorem Dev.sendHelloK_evolves (d : Dev) : Evolves linkParts d d.sendHelloK := by
  unfold Dev.sendHelloK
  extract_lets n y _ d1
  have hn : Evolves linkParts d n.2 := (Dev.draw16_evolves ..).mono
  have hy : Evolves linkParts d y := hn
  have hd1 : Evolves linkParts d d1 := Evolves.fl.after hy
  exact (Dev.flUp_evolves ..).after hd1

theorem Dev.sendHello_evolves (d : Dev) : Evolves linkParts d d.sendHello := by
  unfold Dev.sendHello
  split
  · exact (Dev.sendHelloK_evolves ..).mono
  · extract_lets _ d1
    have hd1 : Evolves linkParts d d1 := Evolves.fl.mono
    exact (Dev.flUp_evolves ..).after hd1

theorem Dev.freeHeld_evolves (d : Dev) (n : ℕ) : Evolves (.ftl :: .fl :: fatalParts) d (d.freeHeld n) := by
  unfold Dev.freeHeld
  extract_lets _ d1
  have hd1 : Evolves (.ftl :: .fl :: fatalParts) d d1 := Evolves.fl.mono
  exact .ite ((Dev.releaseLus_evolves ..).after hd1) hd1

theorem Dev.noteFdPort_evolves (d : Dev) (fdx : ℕ) (kind : ℕ) (addr : ℕ) (port : ℕ) : Evolves [.ctx, .ldg] d (d.noteFdPort fdx kind addr port) := by
  unfold Dev.noteFdPort
  split
  · split
    · exact .ite ((Dev.editCtx_evolves ..).after <| (Dev.setLdgM_evolves ..).mono) .refl
    · exact .refl
  · exact .refl

theorem Dev.learnForwarded_evolves (d : Dev) (l : FlLearn) : Evolves [.lcp] d (d.learnForwarded l) := by
  unfold Dev.learnForwarded
  exact .ite ((Dev.learnLine_evolves ..).mono) .refl

theorem Dev.orderKnown_evolves {d e : Dev} {id : Nat} (h : d.orderKnown id = some e) : Evolves linkParts d e := by
  unfold Dev.orderKnown at h
  split at h
  · cases h; exact (Dev.flUp_evolves ..).mono
  · split at h
    · cases h; exact .refl
    · cases h

theorem Dev.orderTake_evolves (d : Dev) (id : ℕ) : Evolves [.fl] d (d.orderTake id) := by
  unfold Dev.orderTake
  exact Evolves.fl.mono

theorem Dev.castOrder_evolves (d : Dev) (id : ℕ) (due : ℕ) (bytes : ℕ) : Evolves (.sch :: .eth :: .fl :: reportParts) d (d.castOrder id due bytes) := by
  unfold Dev.castOrder
  extract_lets
  split
  · exact (Dev.orderDone_evolves ..).mono
  · exact .foldl (fun _ _ => (Dev.enqueue_evolves ..).mono) ((Dev.orderTake_evolves ..).mono)

theorem Dev.meterOrder_evolves (d : Dev) (id : ℕ) (kind : ℕ) (addr : ℕ) (cls : ℕ) (due : ℕ) (bytes : ℕ) (poll : Bool) : Evolves (.ctx :: .sch :: .lcp :: .eth :: .fl :: reportParts) d (d.meterOrder id kind addr cls due bytes poll) := by
  unfold Dev.meterOrder
  split
  · exact (Dev.orderDone_evolves ..).mono
  · rename_i y0 y1 y2 y3
    split
    · exact (Dev.orderDone_evolves ..).mono
    · rename_i y0 y1 y2
      split
      · exact (Dev.orderDone_evolves ..).mono
      · extract_lets d1
        have hd1 : Evolves (.ctx :: .sch :: .lcp :: .eth :: .fl :: reportParts) d d1 := .ite ((Dev.enterPolling_evolves ..).mono) .refl
        exact (Dev.enqueue_evolves ..).after <| (Dev.orderTake_evolves ..).after hd1

theorem Dev.joinOk_evolves (d : Dev) (moves : List (Fin 4)) (id kind addr : Nat) :
    Evolves ([.ctx, .lcp, .cals, .ldg] ++ linkParts) d (d.joinOk moves id kind addr) := by
  have hdone {e : Dev} (he : Evolves ([.ctx, .lcp, .cals, .ldg] ++ linkParts) d e) (a b c : Nat) (x : Bool) :
      Evolves ([.ctx, .lcp, .cals, .ldg] ++ linkParts) d (e.orderDone id a b c x) := (Dev.orderDone_evolves ..).after he
  unfold Dev.joinOk
  extract_lets j attach req v finish m r c
  have hfinish (x : Dev) (m : Nat) (hx : Evolves ([.ctx, .lcp, .cals, .ldg] ++ linkParts) d x) :
      Evolves ([.ctx, .lcp, .cals, .ldg] ++ linkParts) d (finish x m) :=
    hdone ((Dev.joinElement_evolves ..).after <| (Dev.emit_evolves ..).after <| (Dev.editCtx_evolves ..).after <|
      (Dev.joinNet_evolves ..).after hx) _ _ _ _
  clear_value finish
  split
  · split
    · exact .ite (hfinish _ _ .refl) (hdone .refl _ _ _ _)
    · exact .refl
  · split
    · exact hdone .refl _ _ _ _
    split
    · exact hdone (Dev.bump_evolves ..).mono _ _ _ _
    have hr : Evolves ([.ctx, .lcp, .cals, .ldg] ++ linkParts) d r.2 := (Dev.indexPut_evolves ..).mono
    clear_value r
    split
    · exact hdone hr _ _ _ _
    · exact hfinish _ _ ((Dev.putCtx_evolves ..).after hr)

theorem Dev.orderPolling_evolves (d : Dev) (m : ℕ) (polled : Bool) (polling : Bool) : Evolves [.ctx] d (d.orderPolling m polled polling) := by
  unfold Dev.orderPolling
  exact (Dev.editCtx_evolves ..).mono

theorem Dev.orderAgain_evolves (d : Dev) (pk : ℕ) (x : Xfer) : Evolves (.ctx :: .tar :: .par :: .sch :: .lcp :: .ldg :: linkParts) d (d.orderAgain pk x) := by
  unfold Dev.orderAgain
  split
  · extract_lets d1
    have hd1 : Evolves (.ctx :: .tar :: .par :: .sch :: .lcp :: .ldg :: linkParts) d d1 := (Dev.unpin_evolves ..).after <| (Dev.xferLeave_evolves ..).mono
    exact (Dev.expedite_evolves ..).after <| Evolves.sch.after hd1
  · exact (Dev.xferLost_evolves ..).mono

theorem Dev.memberDeferred_evolves (d : Dev) (x : Xfer) : Evolves [.regs, .ctx, .sch] d (d.memberDeferred x) := by
  unfold Dev.memberDeferred
  extract_lets d1
  have hd1 : Evolves [.regs, .ctx, .sch] d d1 := (Dev.bump_evolves ..).mono
  split
  · split
    · exact (Dev.setEntry_evolves ..).after hd1
    · exact hd1
  · split
    · exact hd1
    · rename_i y0 y1 y2
      extract_lets _ d2
      have hd2 : Evolves [.regs, .ctx, .sch] d d2 := (Dev.setGrpSch_evolves ..).after hd1
      exact .ite hd2 ((Dev.editCtx_evolves ..).after hd2)

theorem Dev.orderDeferred_evolves (d : Dev) (pk : ℕ) (x : Xfer) : Evolves (.ctx :: .tar :: .par :: .sch :: .ldg :: linkParts) d (d.orderDeferred pk x) := by
  unfold Dev.orderDeferred
  extract_lets d1 d2 d3
  have hd1 : Evolves (.ctx :: .tar :: .par :: .sch :: .ldg :: linkParts) d d1 := (Dev.xferLeave_evolves ..).mono
  have hd2 : Evolves (.ctx :: .tar :: .par :: .sch :: .ldg :: linkParts) d d2 := .foldl (fun _ _ => (Dev.complete_evolves ..).mono) hd1
  have hd3 : Evolves (.ctx :: .tar :: .par :: .sch :: .ldg :: linkParts) d d3 := .ite ((Dev.memberDeferred_evolves ..).after hd2) hd2
  exact (Dev.ctxTry_evolves ..).after <| (Dev.unpin_evolves ..).after hd3

theorem Dev.orderAnswered_evolves (d : Dev) (pk : ℕ) (fdx : ℕ) (answer : ℕ) (x : Xfer) : Evolves [.regs, .rng, .lne, .evr, .flt, .ctx, .tar, .par, .sec, .sch, .img, .lcp, .ldg, .eth, .fl, .freeCtr, .out] d (d.orderAnswered pk fdx answer x) := by
  unfold Dev.orderAnswered
  split
  · rename_i y0 y1 y2
    extract_lets _ d1
    have hd1 : Evolves [.regs, .rng, .lne, .evr, .flt, .ctx, .tar, .par, .sec, .sch, .img, .lcp, .ldg, .eth, .fl, .freeCtr, .out] d d1 := (Dev.xferLeave_evolves ..).after <| Evolves.fl.mono
    split
    · exact (Dev.xferDone_evolves ..).after hd1
    · exact (Dev.xferFail_evolves ..).after hd1
  · exact (Dev.xferLeave_evolves ..).after <| (Dev.setCur_evolves ..).mono

theorem Dev.orderResult_evolves (d : Dev) (fdx : ℕ) (id : ℕ) (result : ℕ) (answer : ℕ) (polling : Bool) : Evolves [.regs, .rng, .lne, .evr, .flt, .ctx, .tar, .par, .sec, .sch, .img, .lcp, .ldg, .eth, .fl, .freeCtr, .out] d (d.orderResult fdx id result answer polling) := by
  unfold Dev.orderResult
  extract_lets _ _ _ d1
  have hd1 : Evolves [.regs, .rng, .lne, .evr, .flt, .ctx, .tar, .par, .sec, .sch, .img, .lcp, .ldg, .eth, .fl, .freeCtr, .out] d d1 := Evolves.fl.mono
  split
  · exact hd1
  · rename_i y0 y1 y2
    split
    · exact hd1
    · split
      · exact (Dev.castSent_evolves ..).after <| (Dev.xferLeave_evolves ..).after hd1
      · rename_i y0 y1
        extract_lets d2
        have hd2 : Evolves [.regs, .rng, .lne, .evr, .flt, .ctx, .tar, .par, .sec, .sch, .img, .lcp, .ldg, .eth, .fl, .freeCtr, .out] d d2 := (Dev.orderPolling_evolves ..).after hd1
        exact .ite ((Dev.orderAnswered_evolves ..).after hd2) (.ite ((Dev.orderDeferred_evolves ..).after hd2) ((Dev.orderAgain_evolves ..).after hd2))

theorem Dev.timeRec_evolves (d : Dev) (rx : ℕ) (hold : Bool) (tseq : ℕ) (prev : ℤ) : Evolves (.tim :: .ctx :: .tar :: .cals :: .met :: linkParts) d (d.timeRec rx hold tseq prev) := by
  unfold Dev.timeRec
  extract_lets _ _ _ d1 d2
  have hd1 : Evolves (.tim :: .ctx :: .tar :: .cals :: .met :: linkParts) d d1 := Evolves.tim.mono
  have hd2 : Evolves (.tim :: .ctx :: .tar :: .cals :: .met :: linkParts) d d2 := by
    unfold d2
    split
    · exact (Dev.measure_evolves ..).after hd1
    · exact hd1
  exact .ite ((Dev.flUp_evolves ..).after <| Evolves.fl.after hd2) hd2

theorem Dev.flTake_evolves (d : Dev) (p : ℕ) : Evolves linkParts d (d.flTake p) := by
  unfold Dev.flTake
  exact (Dev.sendHello_evolves ..).after <| Evolves.fl.mono

theorem Dev.flStart_evolves (d : Dev) : Evolves linkParts d d.flStart := by
  unfold Dev.flStart
  split
  · exact .refl
  · split
    · exact (Dev.flTake_evolves ..).mono
    · exact .refl

theorem Dev.drillFd_evolves (d : Dev) : Evolves [.par] d d.drillFd := by
  unfold Dev.drillFd
  split
  · exact .ite Evolves.par.mono .refl
  · exact .refl

/-! ## Ledger -/

theorem Dev.readLog_evolves (d : Dev) (p : Nat) (h : Held) : Evolves [.regs, .rng, .out] d (d.readLog p h) := by
  unfold Dev.readLog
  extract_lets run
  have hrun (ms : List Nat) : Evolves [.regs, .rng, .out] d (run ms) :=
    (Dev.complete_evolves ..).after (.ite .refl (Dev.writeBuf_evolves ..).mono)
  clear_value run
  exact .ite (.withCtx (fun _ _ => hrun _) .refl) (hrun _)

/-! ## Metrology -/

theorem Dev.trimGain_evolves (d : Dev) (ch : ℕ) (gain : Bool) (val : ℕ) : Evolves [.regs, .dirty, .met] d (d.trimGain ch gain val) := by
  unfold Dev.trimGain
  extract_lets
  split
  · exact (Dev.wrb_evolves ..).after <| (Dev.setMch_evolves ..).after <| (Dev.plainWrite_evolves ..).mono
  · split
    · exact .refl
    · extract_lets
      exact (Dev.wrb_evolves ..).after <| (Dev.setMch_evolves ..).mono

theorem Dev.cmSecond_evolves (d : Dev) (k : ℕ) (a : CmSec) : Evolves [.regs, .met, .freeCtr] d (d.cmSecond k a) := by
  unfold Dev.cmSecond
  extract_lets _ _ d1 d2 _ y
  have hd1 : Evolves [.regs, .met, .freeCtr] d d1 := .foldl (fun _ _ => (Dev.setWord_evolves ..).after <| (Dev.setWord_evolves ..).after <| (Dev.setWord_evolves ..).mono) .refl
  have hd2 : Evolves [.regs, .met, .freeCtr] d d2 := (Dev.wr_evolves ..).after hd1
  have hy : Evolves [.regs, .met, .freeCtr] d y := (Dev.setMcm_evolves ..).after hd2
  exact Evolves.freeCtr.after hy

/-! ## Update -/

theorem Dev.fwWrite_evolves (d : Dev) (p : ℕ) (h : Held) (bs : List Byte) : Evolves [.regs, .rng, .upd] d (d.fwWrite p h bs) := by
  unfold Dev.fwWrite
  extract_lets
  exact .ite ((Dev.complete_evolves ..).mono) (.ite ((Dev.complete_evolves ..).mono) (.ite ((Dev.complete_evolves ..).mono) ((Dev.complete_evolves ..).after <| Evolves.upd.mono)))

theorem Dev.sendImage_evolves (d : Dev) (pause : Bool) (b : List Byte) : Evolves (.par :: reportParts) d (d.sendImage pause b) :=
  .foldl_via (fun x : Nat × Dev => x.2) (fun _ _ => Dev.pairSend_evolves ..) .refl

theorem Dev.drainRings_evolves (d : Dev) (p : ℕ) : Evolves [.regs, .rng, .lne, .ctx, .out] d (d.drainRings p) := by
  unfold Dev.drainRings
  extract_lets d1
  have hd1 : Evolves [.regs, .rng, .lne, .ctx, .out] d d1 := .foldl (fun _ _ => (Dev.completionWrite_evolves ..).mono) .refl
  exact .foldl (fun _ _ => (Dev.eventPost_evolves ..).mono) hd1

theorem Dev.ringsReset_evolves (d : Dev) : Evolves [.regs, .fn, .rng] d d.ringsReset := by
  unfold Dev.ringsReset
  extract_lets
  exact .over [.regs, .fn, .rng] .refl

theorem Dev.writeRun_evolves (d : Dev) (i : FwInfo) : Evolves [.upd] d (d.writeRun i) := by
  unfold Dev.writeRun
  exact Evolves.upd.mono

theorem Dev.pauseStart_evolves (d : Dev) (p : ℕ) (h : Held) : Evolves (.fn :: .ctx :: .par :: .upd :: reportParts) d (d.pauseStart p h) := by
  unfold Dev.pauseStart
  extract_lets _ d1 d2 d3
  have hd1 : Evolves (.fn :: .ctx :: .par :: .upd :: reportParts) d d1 := .ite ((Dev.sendImage_evolves ..).mono) .refl
  have hd2 : Evolves (.fn :: .ctx :: .par :: .upd :: reportParts) d d2 := (Dev.recordPost_evolves ..).after <| (Dev.complete_evolves ..).after <| (Dev.writeRun_evolves ..).after hd1
  have hd3 : Evolves (.fn :: .ctx :: .par :: .upd :: reportParts) d d3 := (Dev.ringsReset_evolves ..).after <| (Dev.drainRings_evolves ..).after hd2
  exact Evolves.upd.after hd3

theorem Dev.hstepTo_evolves (d : Dev) (n : ℕ) : Evolves (.upd :: reportParts) d (d.hstepTo n) := by
  unfold Dev.hstepTo
  exact (Dev.recordPost_evolves ..).after <| Evolves.upd.mono

theorem Dev.hitlessStart_evolves (d : Dev) (p : ℕ) (h : Held) : Evolves (.par :: .upd :: reportParts) d (d.hitlessStart p h) := by
  unfold Dev.hitlessStart
  extract_lets _ _ d1 d2
  have hd1 : Evolves (.par :: .upd :: reportParts) d d1 := Evolves.upd.mono
  have hd2 : Evolves (.par :: .upd :: reportParts) d d2 := (Dev.recordPost_evolves ..).after <| (Dev.complete_evolves ..).after hd1
  exact (Dev.sendImage_evolves ..).after <| (Dev.hstepTo_evolves ..).after hd2

theorem Dev.activateHost_evolves (d : Dev) (p : ℕ) (h : Held) : Evolves (.upd :: reportParts) d (d.activateHost p h) := by
  unfold Dev.activateHost
  split
  · exact (Dev.recordPost_evolves ..).after <| (Dev.complete_evolves ..).after <| Evolves.upd.mono
  · extract_lets f y
    have hf : Evolves (.upd :: reportParts) d f.2 := (Dev.fresh_evolves ..).mono
    have hy : Evolves (.upd :: reportParts) d y := hf
    exact (Dev.complete_evolves ..).after <| Evolves.upd.after hy

theorem Dev.fwActivate_evolves (d : Dev) (p : ℕ) (h : Held) : Evolves (.fn :: .ctx :: .par :: .upd :: reportParts) d (d.fwActivate p h) := by
  unfold Dev.fwActivate
  extract_lets
  split
  · exact (Dev.complete_evolves ..).mono
  · split
    · exact (Dev.complete_evolves ..).mono
    · split
      · exact (Dev.complete_evolves ..).mono
      · exact .ite ((Dev.activateHost_evolves ..).mono) (.ite ((Dev.hitlessStart_evolves ..).mono) ((Dev.pauseStart_evolves ..).mono))

theorem Dev.activationReset_evolves (d : Dev) : Evolves [.regs, .dirty, .fn, .glb, .tim, .rng, .lne, .evr, .flt, .ctx, .tar, .par, .ftl, .nand, .sec, .sch, .lcp, .rad, .cals, .ldg, .met, .eth, .fl, .upd, .freeCtr, .out] d d.activationReset := by
  unfold Dev.activationReset
  extract_lets d1 _ x
  have hd1 : Evolves [.regs, .dirty, .fn, .glb, .tim, .rng, .lne, .evr, .flt, .ctx, .tar, .par, .ftl, .nand, .sec, .sch, .lcp, .rad, .cals, .ldg, .met, .eth, .fl, .upd, .freeCtr, .out] d d1 := (Dev.commit_evolves ..).after <| (Dev.silence_evolves ..).mono
  have hx : Evolves [.regs, .dirty, .fn, .glb, .tim, .rng, .lne, .evr, .flt, .ctx, .tar, .par, .ftl, .nand, .sec, .sch, .lcp, .rad, .cals, .ldg, .met, .eth, .fl, .upd, .freeCtr, .out] d x := Evolves.upd.after hd1
  exact (Dev.restart_evolves ..).after hx

theorem Dev.installGo_evolves (d : Dev) : Evolves [.regs, .dirty, .fn, .glb, .tim, .rng, .lne, .evr, .flt, .ctx, .tar, .par, .ftl, .nand, .sec, .sch, .lcp, .rad, .cals, .ldg, .met, .eth, .fl, .upd, .freeCtr, .out] d d.installGo := by
  unfold Dev.installGo
  exact .ite ((Dev.latchReset_evolves ..).after <| Evolves.upd.mono) .refl

theorem Dev.installRun_evolves (d : Dev) (i : FwInfo) : Evolves [.regs, .dirty, .fn, .glb, .tim, .rng, .lne, .evr, .flt, .ctx, .tar, .par, .ftl, .nand, .sec, .sch, .lcp, .rad, .cals, .ldg, .met, .eth, .fl, .upd, .freeCtr, .out] d (d.installRun i) := by
  unfold Dev.installRun
  extract_lets d1
  have hd1 : Evolves [.regs, .dirty, .fn, .glb, .tim, .rng, .lne, .evr, .flt, .ctx, .tar, .par, .ftl, .nand, .sec, .sch, .lcp, .rad, .cals, .ldg, .met, .eth, .fl, .upd, .freeCtr, .out] d d1 := (Dev.writeRun_evolves ..).mono
  exact (Dev.installGo_evolves ..).after <| Evolves.upd.after hd1

theorem Dev.hitlessStep_evolves (d : Dev) : Evolves [.regs, .dirty, .fn, .glb, .tim, .rng, .lne, .evr, .flt, .ctx, .tar, .par, .ftl, .nand, .sec, .sch, .lcp, .rad, .cals, .ldg, .met, .eth, .fl, .upd, .freeCtr, .out] d d.hitlessStep := by
  unfold Dev.hitlessStep
  split
  · exact .ite .refl ((Dev.hstepTo_evolves ..).mono)
  · rename_i y0 y1
    split
    · extract_lets d1
      have hd1 : Evolves [.regs, .dirty, .fn, .glb, .tim, .rng, .lne, .evr, .flt, .ctx, .tar, .par, .ftl, .nand, .sec, .sch, .lcp, .rad, .cals, .ldg, .met, .eth, .fl, .upd, .freeCtr, .out] d d1 := (Dev.hstepTo_evolves ..).mono
      exact Evolves.upd.after hd1
    · exact .refl
  · rename_i y0 y1
    split
    · extract_lets d1
      have hd1 : Evolves [.regs, .dirty, .fn, .glb, .tim, .rng, .lne, .evr, .flt, .ctx, .tar, .par, .ftl, .nand, .sec, .sch, .lcp, .rad, .cals, .ldg, .met, .eth, .fl, .upd, .freeCtr, .out] d d1 := (Dev.hstepTo_evolves ..).mono
      exact (Dev.swapStart_evolves ..).after <| Evolves.upd.after hd1
    · exact .refl
  · rename_i y0 y1
    split
    · extract_lets d1
      have hd1 : Evolves [.regs, .dirty, .fn, .glb, .tim, .rng, .lne, .evr, .flt, .ctx, .tar, .par, .ftl, .nand, .sec, .sch, .lcp, .rad, .cals, .ldg, .met, .eth, .fl, .upd, .freeCtr, .out] d d1 := (Dev.hstepTo_evolves ..).mono
      exact (Dev.installRun_evolves ..).after <| Evolves.upd.after hd1
    · exact .refl
  · rename_i y0 y1
    split
    · extract_lets d1
      have hd1 : Evolves [.regs, .dirty, .fn, .glb, .tim, .rng, .lne, .evr, .flt, .ctx, .tar, .par, .ftl, .nand, .sec, .sch, .lcp, .rad, .cals, .ldg, .met, .eth, .fl, .upd, .freeCtr, .out] d d1 := (Dev.recordPost_evolves ..).after <| (Dev.hstepTo_evolves ..).mono
      exact Evolves.upd.after hd1
    · exact .refl
  · exact .refl

theorem Dev.hitlessEnd_evolves (d : Dev) (reason : ℕ) : Evolves (.upd :: reportParts) d (d.hitlessEnd reason) := by
  unfold Dev.hitlessEnd
  exact (Dev.recordPost_evolves ..).after <| Evolves.upd.mono

theorem Dev.hitlessStop_evolves (d : Dev) : Evolves (.tim :: .upd :: reportParts) d d.hitlessStop := by
  unfold Dev.hitlessStop
  extract_lets
  split
  · exact (Dev.hitlessEnd_evolves ..).mono
  · split
    · exact (Dev.hitlessEnd_evolves ..).mono
    · split
      · split
        · exact .refl
        · split
          · exact (Dev.hitlessEnd_evolves ..).mono
          · split
            · exact (Dev.hitlessEnd_evolves ..).after <| (Dev.toMono_evolves ..).mono
            · exact .refl
      · split
        · split
          · exact (Dev.hitlessEnd_evolves ..).after <| (Dev.toMono_evolves ..).mono
          · exact .refl
        · exact .refl

theorem Dev.imageWhole_evolves (d : Dev) (pause : Bool) (b : List Byte) : Evolves [.regs, .dirty, .fn, .glb, .tim, .rng, .lne, .evr, .flt, .ctx, .tar, .par, .ftl, .nand, .sec, .sch, .lcp, .rad, .cals, .ldg, .met, .eth, .fl, .upd, .freeCtr, .out] d (d.imageWhole pause b) := by
  unfold Dev.imageWhole
  extract_lets _ d1 d2
  have hd1 : Evolves [.regs, .dirty, .fn, .glb, .tim, .rng, .lne, .evr, .flt, .ctx, .tar, .par, .ftl, .nand, .sec, .sch, .lcp, .rad, .cals, .ldg, .met, .eth, .fl, .upd, .freeCtr, .out] d d1 := Evolves.upd.mono
  have hd2 : Evolves [.regs, .dirty, .fn, .glb, .tim, .rng, .lne, .evr, .flt, .ctx, .tar, .par, .ftl, .nand, .sec, .sch, .lcp, .rad, .cals, .ldg, .met, .eth, .fl, .upd, .freeCtr, .out] d d2 := (Dev.ringsReset_evolves ..).after <| (Dev.writeRun_evolves ..).after hd1
  exact .ite (Evolves.upd.after hd2) ((Dev.installRun_evolves ..).after hd1)

theorem Dev.tftpStall_evolves (d : Dev) : Evolves [.tim, .evr, .upd] d d.tftpStall := by
  unfold Dev.tftpStall
  split
  · exact Evolves.upd.mono
  · extract_lets d1
    have hd1 : Evolves [.tim, .evr, .upd] d d1 := (Dev.toMono_evolves ..).mono
    exact Evolves.upd.after hd1

theorem Dev.tftpRead_evolves (d : Dev) (block : Option (List Byte)) : Evolves [.tim, .evr, .upd] d (d.tftpRead block) := by
  unfold Dev.tftpRead
  extract_lets y d1 y1
  have hd1 : Evolves [.tim, .evr, .upd] d d1 := by
    unfold d1
    split
    · rename_i y0 y1 y2
      extract_lets y
      have hy : Evolves [.tim, .evr, .upd] d y := (Dev.toMono_evolves ..).mono
      exact Evolves.upd.after hy
    · exact .refl
  split
  · exact (Dev.tftpStall_evolves ..).after hd1
  · exact Evolves.upd.after hd1

theorem Dev.discard_evolves (d : Dev) (source : ℕ) : Evolves [.upd] d (d.discard source) := by
  unfold Dev.discard
  exact Evolves.upd.mono

/-! ## Bus -/

theorem Dev.winWrite_evolves (d : Dev) (w : Win) (val : ℕ) : Evolves [.regs, .dirty, .rng, .ctx, .ldg, .eth, .out] d (d.winWrite w val) := by
  unfold Dev.winWrite
  split
  · extract_lets
    split
    · exact (Dev.setVec_evolves ..).mono
    · exact (Dev.setVec_evolves ..).mono
    · exact (Dev.setVec_evolves ..).mono
    · exact .ite ((Dev.setVec_evolves ..).mono) (.ite ((Dev.unmask_evolves ..).mono) .refl)
  · extract_lets
    exact (Dev.setEp_evolves ..).mono
  · split
    · exact .refl
    · extract_lets
      exact (Dev.nodeChanged_evolves ..).after <| (Dev.plainWrite_evolves ..).mono
  · exact .refl

theorem Dev.took_evolves (d d1 : Dev) : Evolves [.out] d1 (d.took d1).2 := by
  unfold Dev.took
  split
  · exact Evolves.out
  · exact .refl

/-! ## CfgCmd -/

theorem Dev.storeAll_evolves (d : Dev) : Evolves [.store, .dirty] d d.storeAll := by
  unfold Dev.storeAll
  exact .over [.store, .dirty] .refl

theorem Dev.timerSet_evolves (d : Dev) (h : ℕ) (lo : ℕ) (hi : ℕ) (per : ℕ) (en : ℕ) : Evolves (.dirty :: .fn :: .tim :: reportParts) d (d.timerSet h lo hi per en) := by
  unfold Dev.timerSet
  extract_lets d1
  have hd1 : Evolves (.dirty :: .fn :: .tim :: reportParts) d d1 := (Dev.plainWrite_evolves ..).after <| (Dev.plainWrite_evolves ..).after <| (Dev.plainWrite_evolves ..).mono
  exact .ite (.ite ((Dev.htEnable_evolves ..).after <| (Dev.htEnable_evolves ..).after hd1) ((Dev.htEnable_evolves ..).after hd1)) ((Dev.htEnable_evolves ..).after hd1)

theorem Dev.diagLoop_evolves (d : Dev) (p : ℕ) (h : Held) : Evolves [.regs, .rng, .sch] d (d.diagLoop p h) := by
  unfold Dev.diagLoop
  extract_lets _ _ d1 _ d2
  have hd1 : Evolves [.regs, .rng, .sch] d d1 := (Dev.markStarted_evolves ..).mono
  have hd2 : Evolves [.regs, .rng, .sch] d d2 := Evolves.rng.after hd1
  exact .ite ((Dev.complete_evolves ..).mono) (.ite ((Dev.complete_evolves ..).mono) (.ite .refl (.ite ((Dev.setPsch_evolves ..).after hd2) hd2)))

theorem Dev.loopEnd_evolves (d : Dev) (n : ℕ) (pass : Bool) (part : ℕ) (errors : ℕ) : Evolves [.regs, .rng, .sch] d (d.loopEnd n pass part errors) := by
  unfold Dev.loopEnd
  split
  · exact .refl
  · rename_i y0 y1 y2 y3 y4 y5
    extract_lets _ _ d1 _ d2
    have hd1 : Evolves [.regs, .rng, .sch] d d1 := Evolves.rng.mono
    have hd2 : Evolves [.regs, .rng, .sch] d d2 := .ite ((Dev.setPsch_evolves ..).after hd1) hd1
    exact (Dev.complete_evolves ..).after hd2

/-! ## Images -/

theorem Dev.imgStaged_evolves (d : Dev) (g : ℕ) (n : ℕ) : Evolves (.img :: reportParts) d (d.imgStaged g n) := by
  unfold Dev.imgStaged
  exact .ite .refl ((Dev.campState_evolves ..).after <| Evolves.img.mono)

theorem Dev.imgAppend_evolves (d : Dev) (p : ℕ) (h : Held) (n : ℕ) (s : ImgSlot) (bs : List Byte) : Evolves (.img :: reportParts) d (d.imgAppend p h n s bs) := by
  unfold Dev.imgAppend
  extract_lets _ _ _ d1 d2 d3
  have hd1 : Evolves (.img :: reportParts) d d1 := Evolves.img.mono
  have hd2 : Evolves (.img :: reportParts) d d2 := .ite hd1 ((Dev.offer_evolves ..).after hd1)
  have hd3 : Evolves (.img :: reportParts) d d3 := .ite ((Dev.imgStaged_evolves ..).after hd2) hd2
  exact .ite ((Dev.complete_evolves ..).after hd3) ((Dev.complete_evolves ..).after hd3)

theorem Dev.imageStage_evolves (d : Dev) (p : ℕ) (h : Held) (bs : List Byte) : Evolves (.img :: reportParts) d (d.imageStage p h bs) := by
  unfold Dev.imageStage
  extract_lets
  split
  · exact (Dev.complete_evolves ..).mono
  · split
    · exact (Dev.complete_evolves ..).mono
    · split
      · exact (Dev.complete_evolves ..).mono
      · split
        · exact (Dev.imgAppend_evolves ..).mono
        · split
          · exact (Dev.complete_evolves ..).mono
          · exact (Dev.imgAppend_evolves ..).mono

theorem Dev.imageBegin_evolves (d : Dev) (g : ℕ) (n : ℕ) (o : ℕ) (c : ℕ) (blocks : ℕ) : Evolves (.ctx :: .img :: reportParts) d (d.imageBegin g n o c blocks) := by
  unfold Dev.imageBegin
  extract_lets _ _ _ d1 d2
  have hd1 : Evolves (.ctx :: .img :: reportParts) d d1 := Evolves.img.mono
  have hd2 : Evolves (.ctx :: .img :: reportParts) d d2 := (Dev.campState_evolves ..).after hd1
  exact (Dev.campCheck_evolves ..).after (.foldl (fun _ _ => (Dev.imgWait_evolves ..).mono) hd2)

theorem Dev.imgFree_evolves (d : Dev) (n : ℕ) : Evolves (.img :: reportParts) d (d.imgFree n) := by
  unfold Dev.imgFree
  extract_lets _ d1
  have hd1 : Evolves (.img :: reportParts) d d1 := .foldl (fun _ _ => (Dev.campState_evolves ..).mono) .refl
  exact Evolves.img.after hd1

theorem Dev.campAbort_evolves (d : Dev) (g : ℕ) : Evolves (.ctx :: .sch :: .img :: reportParts) d (d.campAbort g) := by
  unfold Dev.campAbort
  extract_lets _ d1 _ _ d2
  have hd1 : Evolves (.ctx :: .sch :: .img :: reportParts) d d1 := (Dev.campState_evolves ..).mono
  have hd2 : Evolves (.ctx :: .sch :: .img :: reportParts) d d2 := .over [.sch, .img] hd1
  exact .foldl (fun _ _ => (Dev.imgSet_evolves ..).mono) hd2

theorem Dev.passStart_evolves (d : Dev) (g : ℕ) (pk : ℕ) (c : Campaign) : Evolves [.regs, .img] d (d.passStart g pk c) := by
  unfold Dev.passStart
  extract_lets
  split
  · exact .refl
  · extract_lets
    exact (Dev.bump_evolves ..).after <| Evolves.img.mono

end Sys2Proof.Machine
end

section

-- hundreds of short proofs by kernel evaluation follow: one after the other they need no more threads than the check allows
set_option Elab.async false

namespace Sys2Proof.Machine

/-! ## Rings -/

theorem execDoorbellSubTail_evolves (pair : Fin 64) (val : Word) (s : State) : EvolvesTo [.regs, .rng] s (execDoorbellSubTail pair val s) :=
  .go fun _ => (Dev.bar2Write_evolves ..).mono

theorem execDoorbellCmpHead_evolves (pair : Fin 64) (val : Word) (s : State) : EvolvesTo [.regs, .rng] s (execDoorbellCmpHead pair val s) :=
  .go fun _ => (Dev.bar2Write_evolves ..).mono

theorem execFetchGrant_evolves (descs : List Desc) (latNs : Nat) (s : State) : EvolvesTo [.regs, .rng, .out] s (execFetchGrant descs latNs s) :=
  .ite (.go fun _ => Dev.fetchGrant_evolves ..) .fault

theorem execFetchFailed_evolves (req : Fin 64 × AerErr) (s : State) : EvolvesTo (.fn :: fatalParts) s (execFetchFailed req s) :=
  .go fun _ => (Dev.fetchFail_evolves ..).mono

theorem execCompletionWrite_evolves (pair : Fin 64) (s : State) : EvolvesTo [.rng, .out] s (execCompletionWrite pair s) :=
  .go fun _ => (Dev.completionWrite_evolves ..).mono

theorem execEventPost_evolves (s : State) : EvolvesTo [.regs, .rng, .lne, .ctx, .out] s (execEventPost s) := .go fun _ => (Dev.eventPost_evolves ..).mono

theorem execIrqModTimer_evolves (pair : Fin 64) (s : State) : EvolvesTo [.tim, .rng, .evr, .out] s (execIrqModTimer pair s) :=
  .go fun _ => (Dev.modTimer_evolves ..).mono

theorem execMsixUnmask_evolves (vec : Fin 128) (s : State) : EvolvesTo [.rng, .out] s (execMsixUnmask vec s) := .go fun _ => (Dev.unmask_evolves ..).mono

theorem execStoppingPairTimeout_evolves (pair : Fin 64) (s : State) : EvolvesTo [.regs, .fn, .tim, .rng, .evr] s (execStoppingPairTimeout pair s) :=
  .go fun _ => (Dev.stopTimeout_evolves ..).mono

theorem execRngLatClr_evolves (_val : Word) (s : State) : EvolvesTo [.regs] s (execRngLatClr _val s) :=
  .go fun _ => .ite ((Dev.wr_evolves ..).mono) .refl

theorem execRngPairCntClear_evolves (pair : Fin 64) (_val : Word) (s : State) : EvolvesTo [.regs] s (execRngPairCntClear pair _val s) :=
  .go fun _ => .ite ((Dev.setWord_evolves ..).mono) .refl

theorem execReservedOpcode_evolves (pair : Fin 64) (s : State) : EvolvesTo [.regs, .rng] s (execReservedOpcode pair s) := by
  refine .go fun d => ?_
  split
  · exact .refl
  · split
    · exact .refl
    · exact (Dev.complete_evolves ..).mono

theorem execDiagEcho_evolves (pair : Fin 64) (s : State) : EvolvesTo [.regs, .rng] s (execDiagEcho pair s) :=
  .go fun _ => Evolves.onDesc (fun _ _ => (Dev.complete_evolves ..).mono) .refl

/-! ## Events -/

theorem execCoreWatchdogExpiry_evolves (core : Fin 5) (s : State) : EvolvesTo fatalParts s (execCoreWatchdogExpiry core s) :=
  .go fun _ => (Dev.watchdog_evolves ..).mono

theorem execSramEccUncorrected_evolves (array : Fin 6) (s : State) : EvolvesTo fatalParts s (execSramEccUncorrected array s) :=
  .go fun _ => (Dev.sramError_evolves ..).mono

theorem execLpddr5EccUncorrected_evolves (region : Fin 7) (item : Option (Fin 256 × ℕ)) (s : State) : EvolvesTo fatalParts s (execLpddr5EccUncorrected region item s) :=
  .go fun _ => (Dev.dramError_evolves ..).mono

theorem execEmramEccUncorrected_evolves (area : Fin 5) (s : State) : EvolvesTo fatalParts s (execEmramEccUncorrected area s) :=
  .go fun _ => (Dev.report_evolves ..).mono

theorem execBillingAccessRefused_evolves (initiator : Fin 3) (s : State) : EvolvesTo fatalParts s (execBillingAccessRefused initiator s) :=
  .go fun _ => (Dev.report_evolves ..).mono

theorem execJunctionOvertemp_evolves (tj : ℤ) (s : State) : EvolvesTo fatalParts s (execJunctionOvertemp tj s) :=
  .go fun _ => (Dev.junction_evolves ..).mono

theorem execPllLockLoss_evolves (mem : Bool) (s : State) : EvolvesTo fatalParts s (execPllLockLoss mem s) := .go fun _ => (Dev.pllLoss_evolves ..).mono

theorem execFltSelfFault_evolves (reg : BitVec 16) (s : State) : EvolvesTo fatalParts s (execFltSelfFault reg s) :=
  .go fun _ => (Dev.selfFault_evolves ..).mono

theorem execFaultPulseEnd_evolves (s : State) : EvolvesTo [.regs, .tim, .evr, .flt] s (execFaultPulseEnd s) := by
  refine .go fun d => ?_
  split
  · exact .refl
  · rename_i y0 y1 y2
    extract_lets d1
    have hd1 : Evolves [.regs, .tim, .evr, .flt] d d1 := (Dev.wrb_evolves ..).after <| (Dev.toMono_evolves ..).mono
    exact Evolves.flt.after hd1

theorem execPwrCycleRequest_evolves (val : Word) (s : State) : EvolvesTo fatalParts s (execPwrCycleRequest val s) :=
  .go fun _ => (Dev.pinCtrl_evolves ..).mono

theorem execFaultNDrive_evolves (val : Word) (s : State) : EvolvesTo fatalParts s (execFaultNDrive val s) := .go fun _ => (Dev.pinCtrl_evolves ..).mono

theorem execDegradedClear_evolves (val : Word) (s : State) : EvolvesTo [.regs] s (execDegradedClear val s) :=
  .go fun _ => (Dev.degradedClear_evolves ..).mono

theorem execFltCounterClear_evolves (counter : Fin 5) (_val : Word) (s : State) : EvolvesTo [.regs] s (execFltCounterClear counter _val s) :=
  .go fun _ => .ite ((Dev.setWord_evolves ..).mono) .refl

theorem execEvrFreeze_evolves (val : Word) (s : State) : EvolvesTo (.dirty :: reportParts) s (execEvrFreeze val s) :=
  .go fun _ => .ite ((Dev.touch_evolves ..).after <| (Dev.freezeWrite_evolves ..).mono) .refl

theorem execFreezeMaxExpiry_evolves (s : State) : EvolvesTo (.tim :: reportParts) s (execFreezeMaxExpiry s) :=
  .go fun _ => .ite ((Dev.wrb_evolves ..).after <| (Dev.unfreeze_evolves ..).after <| (Dev.toMono_evolves ..).mono) .refl

theorem execLogFreeze_evolves (pair : Fin 64) (s : State) : EvolvesTo reportParts s (execLogFreeze pair s) := by
  refine .go fun d => ?_
  refine Evolves.onDesc (fun d h => ?_) .refl
  extract_lets _ d1
  have hd1 : Evolves reportParts d d1 := .ite ((Dev.wrb_evolves ..).after <| (Dev.freeze_evolves ..).mono) ((Dev.wrb_evolves ..).after <| (Dev.unfreeze_evolves ..).mono)
  exact (Dev.complete_evolves ..).after hd1

theorem execLogRead_evolves (pair : Fin 64) (s : State) : EvolvesTo [.regs, .rng, .out] s (execLogRead pair s) := by
  refine .go fun d => ?_
  refine Evolves.onDesc (fun d h => ?_) .refl
  extract_lets _ _ _ _ d1
  have hd1 : Evolves [.regs, .rng, .out] d d1 := .ite .refl ((Dev.writeBuf_evolves ..).mono)
  exact (Dev.complete_evolves ..).after hd1

theorem execEvrSnapshotRead_evolves (s : State) : EvolvesTo [.evr, .out] s (execEvrSnapshotRead s) := by
  refine .go fun d => ?_
  split
  · exact .refl
  · extract_lets
    exact (Dev.emit_evolves ..).after <| (Evolves.evr).mono

theorem execOptimeSave_evolves (s : State) : EvolvesTo [.evr] s (execOptimeSave s) := .go fun _ => .ite ((Evolves.evr).mono) .refl

theorem execFaultHist_evolves (pair : Fin 64) (s : State) : EvolvesTo [.regs, .rng, .out] s (execFaultHist pair s) :=
  .go fun _ => Evolves.onDesc (fun _ _ => .ite ((Dev.complete_evolves ..).mono) ((Dev.complete_evolves ..).after <| (Dev.writeBuf_evolves ..).mono)) .refl

theorem execFaultHistSnapshotRead_evolves (s : State) : EvolvesTo [.flt, .out] s (execFaultHistSnapshotRead s) := by
  refine .go fun d => ?_
  split
  · exact .refl
  · extract_lets
    exact (Dev.emit_evolves ..).after <| Evolves.flt.mono

/-! ## Lanes -/

theorem execQueueRefill_evolves (queue : Fin 256) (s : State) : EvolvesTo [.lne] s (execQueueRefill queue s) :=
  .go fun _ => .ite ((Dev.queueRefill_evolves ..).mono) .refl

theorem execHoldRelease_evolves (queue : Fin 256) (s : State) : EvolvesTo [.regs, .lne] s (execHoldRelease queue s) :=
  .go fun _ => .ite ((Dev.release_evolves ..).mono) .refl

theorem execQueueFlush_evolves (queue : Fin 256) (val : Word) (s : State) : EvolvesTo [.regs, .lne] s (execQueueFlush queue val s) :=
  .go fun _ => (Dev.queueFlush_evolves ..).mono

theorem execFlushDone_evolves (queue : Fin 256) (s : State) : EvolvesTo [.lne] s (execFlushDone queue s) := .go fun _ => (Dev.flushDone_evolves ..).mono

theorem execCellEccError_evolves (queue : Option (Fin 256)) (item : ℕ) (header : Bool) (s : State) : EvolvesTo fatalParts s (execCellEccError queue item header s) :=
  .go fun _ => (Dev.cellError_evolves ..).mono

theorem execPoolScanDone_evolves (queue : Fin 256) (s : State) : EvolvesTo [.regs, .lne] s (execPoolScanDone queue s) :=
  .go fun _ => .ite ((Dev.scanDone_evolves ..).mono) .refl

/-! ## TimeEng -/

theorem execHoldover24h_evolves (s : State) : EvolvesTo (.tim :: reportParts) s (execHoldover24h s) := by
  refine .go fun d => ?_
  split
  · exact .refl
  · exact .ite ((Dev.timeCheck_evolves ..).after <| (Dev.toMono_evolves ..).mono) .refl

theorem execPtpSourceLost_evolves (port : Fin 4) (s : State) : EvolvesTo (.tim :: reportParts) s (execPtpSourceLost port s) := by
  refine .go fun d => ?_
  extract_lets
  exact .ite ((Dev.bmca_evolves ..).after <| (Dev.sourceLost_evolves ..).after <| (Dev.setPtp_evolves ..).mono) .refl

theorem execLeapSecond_evolves (s : State) : EvolvesTo (.tim :: .ctx :: .tar :: .cals :: .met :: reportParts) s (execLeapSecond s) := by
  refine .go fun d => ?_
  split
  · exact .refl
  · extract_lets _ _ _ d1 _ d2 _ d3
    have hd1 : Evolves (.tim :: .ctx :: .tar :: .cals :: .met :: reportParts) d d1 := (Dev.toNs_evolves ..).mono
    have hd2 : Evolves (.tim :: .ctx :: .tar :: .cals :: .met :: reportParts) d d2 := (Dev.stepTime_evolves ..).after <| (Dev.wrb_evolves ..).after <| Evolves.tim.after hd1
    have hd3 : Evolves (.tim :: .ctx :: .tar :: .cals :: .met :: reportParts) d d3 := Evolves.tim.after hd2
    exact (Dev.wr_evolves ..).after hd3

theorem execRtcSet_evolves (s : State) : EvolvesTo (.tim :: reportParts) s (execRtcSet s) :=
  .go fun _ => .ite ((Dev.timeCheck_evolves ..).after <| (Dev.wrb_evolves ..).after <| Evolves.tim.mono) .refl

theorem execRateStore_evolves (s : State) : EvolvesTo [.tim] s (execRateStore s) := .go fun _ => .ite Evolves.tim.mono .refl

theorem execTimeSnapshotRead_evolves (s : State) : EvolvesTo [.tim, .out] s (execTimeSnapshotRead s) :=
  .go fun _ => .ite ((Dev.emit_evolves ..).after <| Evolves.tim.mono) .refl

theorem execHostTimerEnable_evolves (unit : Fin 8) (val : Word) (s : State) : EvolvesTo (.dirty :: .fn :: .tim :: reportParts) s (execHostTimerEnable unit val s) :=
  .go fun _ => .ite .refl (.ite ((Dev.htCfgWrite_evolves ..).mono) ((Dev.ppsCfgWrite_evolves ..).mono))

theorem execHostTimerFire_evolves (timer : Fin 4) (s : State) : EvolvesTo (.tim :: reportParts) s (execHostTimerFire timer s) := by
  refine .go fun d => ?_
  split
  · exact .refl
  · exact .ite ((Dev.htAfter_evolves ..).after <| (Dev.htFire_evolves ..).after <| (Dev.toNs_evolves ..).mono) .refl

theorem execPpsEdge_evolves (n : Fin 4) (s : State) : EvolvesTo [.tim, .evr, .out] s (execPpsEdge n s) := by
  refine .go fun d => ?_
  split
  · exact .refl
  · exact .ite ((Dev.ppsEdge_evolves ..).mono) .refl

theorem execPpsWidthEnd_evolves (n : Fin 4) (s : State) : EvolvesTo [.tim, .evr, .out] s (execPpsWidthEnd n s) := by
  refine .go fun d => ?_
  split
  · exact .refl
  · rename_i y0 y1 y2
    extract_lets d1
    have hd1 : Evolves [.tim, .evr, .out] d d1 := (Dev.toMono_evolves ..).mono
    exact (Dev.emit_evolves ..).after <| Evolves.tim.after hd1

theorem execCaptureEdge_evolves (n : Fin 4) (rising : Bool) (s : State) : EvolvesTo [.regs, .tim] s (execCaptureEdge n rising s) :=
  .go fun _ => (Dev.capture_evolves ..).mono

theorem execCapturePop_evolves (n : Fin 4) (s : State) : EvolvesTo [.tim, .out] s (execCapturePop n s) :=
  .go fun _ => .ite ((Dev.capPop_evolves ..).mono) .refl

theorem execTxqPop_evolves (port : Fin 4) (val : Word) (s : State) : EvolvesTo [.regs, .tim] s (execTxqPop port val s) :=
  .go fun _ => .ite ((Dev.txqPop_evolves ..).mono) .refl

theorem execBeaconDue_evolves (port : Fin 6) (s : State) : EvolvesTo [.tim, .evr] s (execBeaconDue port s) :=
  .go fun _ => (Dev.beaconDue_evolves ..).mono

/-! ## EthPort -/

theorem execEthFrameRx_evolves (port : Fin 4) (frame : EthRx) (s : State) : EvolvesTo (.eth :: reportParts) s (execEthFrameRx port frame s) := by
  refine .go fun d => ?_
  split
  · exact .refl
  · split
    · exact (Dev.ethCount_evolves ..).mono
    · split
      · exact (Dev.pauseRx_evolves ..).mono
      · exact (Dev.ethAccept_evolves ..).mono

theorem execPtpMessageRx_evolves (port : Fin 4) (msg : PtpMsg) (s : State) : EvolvesTo (.tim :: .ctx :: .tar :: .cals :: .met :: .eth :: reportParts) s (execPtpMessageRx port msg s) :=
  .go fun _ => (Dev.ptpRx_evolves ..).mono

theorem execPtpMessageTx_evolves (port : Fin 4) (kind : Fin 3) (s : State) : EvolvesTo (.tim :: .eth :: reportParts) s (execPtpMessageTx port kind s) :=
  .go fun _ => (Dev.ptpSend_evolves ..).mono

theorem execEthFrameTx_evolves (port : Fin 4) (s : State) : EvolvesTo (.tim :: .eth :: .fl :: reportParts) s (execEthFrameTx port s) :=
  .go fun _ => .ite ((Dev.ethSend_evolves ..).mono) .refl

theorem execPauseExpiry_evolves (port : Fin 4) (s : State) : EvolvesTo (.tim :: .eth :: reportParts) s (execPauseExpiry port s) := by
  refine .go fun d => ?_
  split
  · exact .ite ((Dev.pauseEnd_evolves ..).after <| (Dev.toMono_evolves ..).mono) .refl
  · exact .refl

theorem execEthLinkDown_evolves (port : Fin 4) (s : State) : EvolvesTo (.eth :: reportParts) s (execEthLinkDown port s) :=
  .go fun _ => .ite ((Dev.ethDown_evolves ..).mono) .refl

theorem execMgtTxGo_evolves (port : Fin 4) (val : Word) (s : State) : EvolvesTo (.dirty :: .eth :: reportParts) s (execMgtTxGo port val s) :=
  .go fun _ => .ite ((Dev.mgtGo_evolves ..).mono) .refl

theorem execMgtRxPop_evolves (port : Fin 4) (val : Word) (s : State) : EvolvesTo [.regs, .eth] s (execMgtRxPop port val s) :=
  .go fun _ => .ite ((Dev.wr_evolves ..).after <| (Dev.setEp_evolves ..).mono) .refl

theorem execEthCounterSnapshotRead_evolves (port : Fin 4) (counter : Fin 18) (s : State) : EvolvesTo [.eth, .out] s (execEthCounterSnapshotRead port counter s) := by
  refine .go fun d => ?_
  split
  · extract_lets
    exact (Dev.emit_evolves ..).after <| (Dev.setEp_evolves ..).mono
  · exact .refl

/-! ## Contexts -/

theorem execCtxGet_evolves (pair : Fin 64) (s : State) : EvolvesTo [.regs, .rng, .out] s (execCtxGet pair s) := by
  refine .go fun d => ?_
  refine Evolves.onDesc (fun d h => ?_) .refl
  split
  · exact (Dev.complete_evolves ..).mono
  · exact .ite ((Dev.complete_evolves ..).mono) (.ite ((Dev.complete_evolves ..).mono) ((Dev.complete_evolves ..).after <| (Dev.writeBuf_evolves ..).mono))

theorem execCtxAdmit_evolves (pair : Fin 64) (moves : List (Fin 4)) (s : State) : EvolvesTo (.ctx :: .tar :: .par :: .img :: .ldg :: reportParts) s (execCtxAdmit pair moves s) :=
  .go fun _ => Evolves.onDesc (fun _ _ => (Dev.ctxAdmit_evolves ..).mono) .refl

theorem execCtxRetire_evolves (pair : Fin 64) (s : State) : EvolvesTo [.regs, .rng, .lne, .evr, .flt, .ctx, .tar, .par, .sch, .img, .lcp, .ldg, .eth, .fl, .freeCtr, .out] s (execCtxRetire pair s) :=
  .go fun _ => Evolves.onDesc (fun _ _ => Evolves.withCtx (fun _ _ => (Dev.ctxTry_evolves ..).after <| (Dev.setRetiring_evolves ..).after <| (Dev.markStarted_evolves ..).mono) .refl) .refl

theorem execCtxOwner_evolves (pair : Fin 64) (s : State) : EvolvesTo (.ctx :: .tar :: .par :: .ldg :: .eth :: .fl :: reportParts) s (execCtxOwner pair s) := by
  refine .go fun d => ?_
  refine Evolves.onDesc (fun d h => ?_) .refl
  refine Evolves.withCtx (fun m x => ?_) .refl
  split
  · exact (Dev.complete_evolves ..).mono
  · extract_lets d1
    have hd1 : Evolves (.ctx :: .tar :: .par :: .ldg :: .eth :: .fl :: reportParts) d d1 := (Dev.markStarted_evolves ..).mono
    exact (Dev.ctxTry_evolves ..).after <| Evolves.ctx.after hd1

theorem execJoinTimeout_evolves (mix : BitVec 20) (s : State) : EvolvesTo [.regs, .tim, .rng, .lne, .evr, .flt, .ctx, .sec, .sch, .img, .lcp, .cals, .eth, .fl, .freeCtr, .out] s (execJoinTimeout mix s) := by
  refine .go fun d => ?_
  split
  · exact .ite ((Dev.joinFails_evolves ..).after <| (Dev.toMono_evolves ..).mono) .refl
  · exact .refl

theorem execLookupRehashDone_evolves (moves : List (List (Fin 4))) (s : State) : EvolvesTo [.ctx] s (execLookupRehashDone moves s) :=
  .go fun _ => .ite Evolves.ctx.mono .refl

theorem execCacheSetUnpin_evolves (set : Fin 2048) (s : State) : EvolvesTo [.regs, .ctx] s (execCacheSetUnpin set s) := by
  refine .go fun d => ?_
  split
  · exact .ite ((Dev.fetchCtx_evolves ..).after <| Evolves.ctx.mono) .refl
  · exact .refl

/-! ## Media -/

theorem execMediaWrite_evolves (s : State) : EvolvesTo (.ftl :: .sec :: fatalParts) s (execMediaWrite s) :=
  .go fun _ => .ite ((Dev.mediaWrite_evolves ..).mono) .refl

theorem execMediaRead_evolves (lu : Nat) (step : Option (Fin 4)) (bits : Nat) (overLimit : Bool) (s : State) :
    EvolvesTo (.ftl :: .nand :: .ldg :: reportParts) s (execMediaRead lu step bits overLimit s) := by
  unfold execMediaRead
  extract_lets k
  exact .go fun _ => .ite ((Dev.mediaRead_evolves ..).after (Dev.readOut_evolves ..).mono) .refl

theorem execFoldStart_evolves (s : State) : EvolvesTo (.ftl :: fatalParts) s (execFoldStart s) :=
  .go fun _ => .ite ((Dev.eraseEmpty_evolves ..).after <| (Dev.foldAll_evolves ..).mono) .refl

theorem execGcStart_evolves (s : State) : EvolvesTo [.ftl] s (execGcStart s) := by
  refine .go fun d => ?_
  extract_lets
  split
  · split
    · exact (Dev.copyStart_evolves ..).after <| Evolves.ftl.mono
    · exact .refl
  · exact .refl

theorem execGcSwitch_evolves (s : State) : EvolvesTo (.ftl :: fatalParts) s (execGcSwitch s) := .go fun _ => .ite ((Dev.gcSwitch_evolves ..).mono) .refl

theorem execNandProgramFail_evolves (eu : ℕ) (what : Fin 3) (s : State) : EvolvesTo (.ftl :: fatalParts) s (execNandProgramFail eu what s) :=
  .go fun _ => .ite ((Dev.nandFail_evolves ..).mono) .refl

theorem execEuRefresh_evolves (eu : ℕ) (s : State) : EvolvesTo [.regs, .ftl] s (execEuRefresh eu s) := by
  refine .go fun d => ?_
  extract_lets
  exact .ite ((Dev.bump_evolves ..).after <| (Dev.copyStart_evolves ..).mono) .refl

theorem execWearLevelMove_evolves (s : State) : EvolvesTo [.ftl] s (execWearLevelMove s) := by
  refine .go fun d => ?_
  split
  · exact .ite ((Dev.copyStart_evolves ..).mono) .refl
  · exact .refl

theorem execHistoryRelease_evolves (s : State) : EvolvesTo (.ftl :: .sec :: fatalParts) s (execHistoryRelease s) := by
  refine .go fun d => ?_
  split
  · extract_lets d1
    have hd1 : Evolves (.ftl :: .sec :: fatalParts) d d1 := (Dev.histAll_evolves ..).mono
    exact .ite hd1 ((Dev.post_evolves ..).after <| Evolves.ftl.after hd1)
  · exact .refl

theorem execBillingSnapshot_evolves (s : State) : EvolvesTo (.ftl :: reportParts) s (execBillingSnapshot s) :=
  .go fun _ => .ite ((Dev.billSnapshot_evolves ..).mono) .refl

theorem execContextSnapshotStart_evolves (s : State) : EvolvesTo (.ftl :: .nand :: reportParts) s (execContextSnapshotStart s) := by
  refine .go fun d => ?_
  extract_lets _ _ _ d1 d2
  have hd1 : Evolves (.ftl :: .nand :: reportParts) d d1 := .over [.ftl, .nand] .refl
  have hd2 : Evolves (.ftl :: .nand :: reportParts) d d2 := .foldl (fun _ _ => (Dev.offer_evolves ..).mono) hd1
  exact .ite ((Dev.billSnapshot_evolves ..).after hd2) .refl

theorem execSnapshotComplete_evolves (s : State) : EvolvesTo (.ftl :: fatalParts) s (execSnapshotComplete s) := by
  refine .go fun d => ?_
  split
  · extract_lets _ _ d1
    have hd1 : Evolves (.ftl :: fatalParts) d d1 := .over [.ftl, .nand] .refl
    exact (Dev.releaseLus_evolves ..).after hd1
  · exact .refl

theorem execNandChannelFail_evolves (n : Fin 4) (s : State) : EvolvesTo (.fn :: fatalParts) s (execNandChannelFail n s) :=
  .go fun _ => .ite ((Dev.fault_evolves ..).after <| (Dev.recordPost_evolves ..).after <| (Dev.failFn_evolves ..).mono) .refl

theorem execFtlFormatRequest_evolves (val : Word) (s : State) : EvolvesTo [.ftl] s (execFtlFormatRequest val s) :=
  .go fun _ => (Dev.ftlCtl_evolves ..).mono

theorem execFtlFormatCancel_evolves (val : Word) (s : State) : EvolvesTo [.ftl] s (execFtlFormatCancel val s) :=
  .go fun _ => (Dev.ftlCtl_evolves ..).mono

theorem execMediaHealth_evolves (pair : Fin 64) (s : State) : EvolvesTo [.regs, .rng, .out] s (execMediaHealth pair s) :=
  .go fun _ => Evolves.onDesc (fun _ _ => .ite ((Dev.complete_evolves ..).mono) (.ite ((Dev.complete_evolves ..).mono) ((Dev.complete_evolves ..).after <| (Dev.writeBuf_evolves ..).mono))) .refl

theorem execMediaDrain_evolves (pair : Fin 64) (s : State) : EvolvesTo [.regs, .rng, .ftl, .out] s (execMediaDrain pair s) := by
  refine .go fun d => ?_
  refine Evolves.onDesc (fun d h => ?_) .refl
  extract_lets _ _ _ d1
  have hd1 : Evolves [.regs, .rng, .ftl, .out] d d1 := Evolves.ftl.mono
  exact (Dev.complete_evolves ..).after (.ite hd1 ((Dev.writeBuf_evolves ..).after hd1))

/-! ## Security -/

theorem execKeyStage_evolves (pair : Fin 64) (s : State) : EvolvesTo [.regs, .rng, .ctx, .sec] s (execKeyStage pair s) :=
  .go fun _ => Evolves.onDesc (fun _ _ => .ite (.ite ((Dev.keyStageGroup_evolves ..).mono) ((Dev.complete_evolves ..).mono)) (Evolves.withCtx (fun _ _ => .ite ((Dev.keyStageOne_evolves ..).mono) ((Dev.complete_evolves ..).mono)) .refl)) .refl

theorem execKeyCommit_evolves (pair : Fin 64) (s : State) : EvolvesTo [.regs, .rng, .ctx, .sec] s (execKeyCommit pair s) :=
  .go fun _ => Evolves.onDesc (fun _ _ => .ite ((Dev.complete_evolves ..).mono) (Evolves.withCtx (fun _ _ => .ite ((Dev.complete_evolves ..).mono) (.ite ((Dev.keyWait_evolves ..).after <| (Dev.commitKeys_evolves ..).mono) ((Dev.complete_evolves ..).mono))) .refl)) .refl

theorem execKeyDiscard_evolves (pair : Fin 64) (s : State) : EvolvesTo [.regs, .rng, .ctx, .sec] s (execKeyDiscard pair s) := by
  refine .go fun d => ?_
  refine Evolves.onDesc (fun d h => ?_) .refl
  split
  · extract_lets
    exact .ite ((Dev.complete_evolves ..).mono) ((Dev.keyWait_evolves ..).after (.foldl (fun _ _ => (Dev.dropShadow_evolves ..).mono) .refl))
  · exact Evolves.withCtx (fun _ _ => .ite ((Dev.keyWait_evolves ..).after <| (Dev.dropShadow_evolves ..).mono) ((Dev.complete_evolves ..).mono)) .refl

theorem execAttest_evolves (pair : Fin 64) (s : State) : EvolvesTo [.regs, .rng, .out] s (execAttest pair s) := by
  refine .go fun d => ?_
  refine Evolves.onDesc (fun d h => ?_) .refl
  split
  · exact (Dev.complete_evolves ..).mono
  · split
    · exact .refl
    · extract_lets
      exact (Dev.complete_evolves ..).after <| (Dev.writeBuf_evolves ..).mono

theorem State.takeRoot_evolves (s : State) (r : List Byte) : Evolves [.regs, .sec] s.dev (s.takeRoot r).dev :=
  (Dev.showBat_evolves ..).after (Dev.seed_evolves ..).mono

theorem State.zeroise_evolves (s : State) (source : Nat) : Evolves (.sec :: fatalParts) s.dev (s.zeroise source).dev := by
  unfold State.zeroise
  extract_lets was d _ b _ d1 s1 x sd x1
  have h1 : Evolves (.sec :: fatalParts) s.dev s1.dev :=
    (Dev.showBat_evolves ..).after <| (Dev.wr_evolves ..).after Evolves.sec.mono
  have hx1 : Evolves (.sec :: fatalParts) s.dev x1 := (Dev.recordPost_evolves ..).after h1
  split
  · exact .refl
  split
  · exact h1
  · show Evolves _ _ (x1.fault 0x0F40 4 3 source true)
    exact (Dev.fault_evolves ..).after hx1

theorem State.cloneSend_evolves (s : State) (nonce : List Byte) : Evolves (.par :: .sec :: reportParts) s.dev (s.cloneSend nonce).dev := by
  unfold State.cloneSend
  split
  · exact .refl
  · exact (Dev.wr_evolves ..).after <| (Dev.codeVoid_evolves ..).after <| Evolves.sec.after (Dev.pairSend_evolves ..).mono

theorem State.rootCtl_evolves (s : State) (v : Nat) : Evolves (.sec :: fatalParts) s.dev (s.rootCtl v).dev := by
  have hrefused : Evolves (.sec :: fatalParts) s.dev s.dev.rootRefused := (Dev.rootRefused_evolves ..).mono
  have hfresh : Evolves (.sec :: fatalParts) s.dev s.dev.fresh.2 := (Dev.fresh_evolves ..).mono
  unfold State.rootCtl
  dsimp only
  split
  · exact .refl
  split
  · exact hrefused
  split
  · exact State.zeroise_evolves ..
  split
  · split
    · exact (State.takeRoot_evolves ..).after hfresh
    · exact hrefused
  split
  · exact hrefused
  split
  · exact (Dev.wr_evolves ..).mono
  split
  · split
    · exact (State.cloneSend_evolves ..).mono
    · exact (Dev.wr_evolves ..).after Evolves.sec.mono
  · exact (Dev.pairSend_evolves ..).after <| (Dev.wr_evolves ..).after <| Evolves.sec.after hfresh

theorem execRootGenerate_evolves (val : Word) (s : State) : EvolvesTo (.sec :: fatalParts) s (execRootGenerate val s) :=
  .next (State.rootCtl_evolves ..)

theorem execRootCloneSend_evolves (val : Word) (s : State) : EvolvesTo (.sec :: fatalParts) s (execRootCloneSend val s) :=
  .next (State.rootCtl_evolves ..)

theorem execRootCloneRecv_evolves (val : Word) (s : State) : EvolvesTo (.sec :: fatalParts) s (execRootCloneRecv val s) :=
  .next (State.rootCtl_evolves ..)

theorem execRootZeroise_evolves (val : Word) (s : State) : EvolvesTo (.sec :: fatalParts) s (execRootZeroise val s) :=
  .next (State.rootCtl_evolves ..)

theorem State.cloneRx_evolves (s : State) (b : PairBody) : Evolves (.par :: .sec :: reportParts) s.dev (s.cloneRx b).dev := by
  unfold State.cloneRx
  dsimp only
  split
  · exact .refl
  split
  · exact State.cloneSend_evolves ..
  · exact Evolves.sec.mono
  · split
    · exact (State.takeRoot_evolves ..).after <| (Dev.wr_evolves ..).after <| (Dev.codeVoid_evolves ..).after Evolves.sec.mono
    · have hfail (x : Sec) : Evolves (.par :: .sec :: reportParts) s.dev (({ s.dev with sec := x } : Dev).bump F.SEC_CLONE_FAIL) :=
        (Dev.bump_evolves ..).after Evolves.sec.mono
      exact (Dev.wr_evolves ..).after (.ite ((Dev.codeVoid_evolves ..).after (hfail _)) (hfail _))
  · exact .refl

theorem execCloneFrameRx_evolves (body : PairBody) (s : State) : EvolvesTo (.par :: .sec :: reportParts) s (execCloneFrameRx body s) :=
  .next (State.cloneRx_evolves ..)

theorem execCloneCodeWrite_evolves (n : Fin 4) (val : Word) (s : State) : EvolvesTo [.regs, .sec] s (execCloneCodeWrite n val s) := by
  refine .go fun d => ?_
  split
  · extract_lets _ d1
    have hd1 : Evolves [.regs, .sec] d d1 := Evolves.sec.mono
    exact .ite ((Dev.wr_evolves ..).after hd1) hd1
  · exact .refl

theorem execCloneCodeVoid_evolves (s : State) : EvolvesTo [.regs, .tim, .evr, .sec] s (execCloneCodeVoid s) := by
  refine .go fun d => ?_
  split
  · exact .ite ((Dev.codeVoid_evolves ..).after <| (Dev.toMono_evolves ..).mono) .refl
  · exact .refl

theorem State.ktkCtl_evolves (s : State) (v : Nat) : Evolves [.regs, .sec] s.dev (s.ktkCtl v).dev := by
  have hrefused : Evolves [.regs, .sec] s.dev s.dev.rootRefused := (Dev.rootRefused_evolves ..).mono
  have hwiped (b : Bat) (x : Sec) : Evolves [.regs, .sec] s.dev (({ s.dev with sec := x } : Dev).showBat b) :=
    (Dev.showBat_evolves ..).after Evolves.sec.mono
  unfold State.ktkCtl
  dsimp only
  split
  · exact .refl
  split
  · exact hrefused
  split
  · split
    · exact hwiped _ _
    · exact hrefused
  · split
    · exact hwiped _ _
    · exact hrefused
  · exact hwiped _ _

theorem execKtkClearLoad_evolves (val : Word) (s : State) : EvolvesTo [.regs, .sec] s (execKtkClearLoad val s) :=
  .next (State.ktkCtl_evolves ..)

theorem execKtkWrappedLoad_evolves (val : Word) (s : State) : EvolvesTo [.regs, .sec] s (execKtkWrappedLoad val s) :=
  .next (State.ktkCtl_evolves ..)

theorem execKtkErase_evolves (val : Word) (s : State) : EvolvesTo [.regs, .sec] s (execKtkErase val s) :=
  .next (State.ktkCtl_evolves ..)

theorem execTamperLatchClear_evolves (val : Word) (s : State) : EvolvesTo [.regs] s (execTamperLatchClear val s) :=
  .ite (.next (Dev.showBat_evolves ..)) (.next .refl)

/-- A trip zeroises where its source is armed. -/
theorem State.trip_evolves (s : State) (c : Prop) [Decidable c] (source : Nat) :
    Evolves (.sec :: fatalParts) s.dev (if c then s.zeroise source else s).dev := by
  split
  · exact State.zeroise_evolves ..
  · exact .refl

theorem execTamperInputTrip_evolves (n : Fin 4) (s : State) : EvolvesTo (.sec :: fatalParts) s (execTamperInputTrip n s) :=
  .next (State.trip_evolves ..)

theorem execTamperMeshTrip_evolves (s : State) : EvolvesTo (.sec :: fatalParts) s (execTamperMeshTrip s) :=
  .next (State.trip_evolves ..)

theorem execTamperTempTrip_evolves (temp : Int) (s : State) : EvolvesTo (.sec :: fatalParts) s (execTamperTempTrip temp s) := by
  refine .next ?_
  extract_lets d d1
  have h1 : Evolves (.sec :: fatalParts) d d1 := (Dev.wr_evolves ..).after (Dev.setTemp_evolves ..).mono
  split
  · exact (State.zeroise_evolves ..).after h1
  · exact h1

theorem execTamperVoltageTrip_evolves (core sram : Nat) (s : State) : EvolvesTo (.sec :: fatalParts) s (execTamperVoltageTrip core sram s) :=
  .next (State.trip_evolves ..)

theorem execTamperBatteryTrip_evolves (vbat : Nat) (s : State) : EvolvesTo (.sec :: fatalParts) s (execTamperBatteryTrip vbat s) := by
  refine .next ?_
  extract_lets _ s1
  split
  · exact (Dev.showBat_evolves ..).mono
  · exact State.trip_evolves s1 (vbat < 190) 8

theorem execTamperRootClockTrip_evolves (khz : Nat) (s : State) : EvolvesTo (.sec :: fatalParts) s (execTamperRootClockTrip khz s) := by
  unfold execTamperRootClockTrip
  extract_lets out s1
  have h1 : Evolves (.sec :: fatalParts) s.dev s1.dev := by
    unfold s1
    split
    · exact (Dev.rootClock_evolves ..).mono
    · exact .refl
  exact .next ((State.trip_evolves ..).after h1)

theorem execAuthRateWindow_evolves (s : State) : EvolvesTo (.tim :: .sec :: reportParts) s (execAuthRateWindow s) := by
  refine .go fun d => ?_
  split
  · exact .refl
  · extract_lets d1 _ _ d2
    have hd1 : Evolves (.tim :: .sec :: reportParts) d d1 := (Dev.toMono_evolves ..).mono
    have hd2 : Evolves (.tim :: .sec :: reportParts) d d2 := Evolves.sec.after hd1
    exact .ite ((Dev.recordPost_evolves ..).after <| Evolves.sec.after hd2) hd2

/-! ## Tariff -/

theorem execTariffLoad_evolves (pair : Fin 64) (buf : HostRead) (s : State) : EvolvesTo (.tar :: .par :: .ldg :: reportParts) s (execTariffLoad pair buf s) := by
  refine .go fun d => ?_
  refine Evolves.onDesc (fun d h => ?_) .refl
  split
  · exact (Dev.complete_evolves ..).mono
  · split
    · exact (Dev.complete_evolves ..).after <| (Dev.emit_evolves ..).mono
    · exact (Dev.tariffLoad_evolves ..).mono

theorem execTariffActivate_evolves (pair : Fin 64) (s : State) : EvolvesTo (.tar :: .par :: .ldg :: reportParts) s (execTariffActivate pair s) := by
  refine .go fun d => ?_
  refine Evolves.onDesc (fun d h => ?_) .refl
  extract_lets _ _ _ _ d1
  have hd1 : Evolves (.tar :: .par :: .ldg :: reportParts) d d1 := (Dev.offer_evolves ..).after <| (Dev.journal_evolves ..).after <| (Dev.setGrpTar_evolves ..).mono
  exact .ite ((Dev.complete_evolves ..).mono) ((Dev.complete_evolves ..).after hd1)

theorem execTariffGet_evolves (pair : Fin 64) (s : State) : EvolvesTo [.regs, .rng, .out] s (execTariffGet pair s) := by
  refine .go fun d => ?_
  refine Evolves.onDesc (fun d h => ?_) .refl
  extract_lets
  exact (Dev.complete_evolves ..).after (.ite .refl ((Dev.writeBuf_evolves ..).mono))

theorem execTimeConfirm_evolves (pair : Fin 64) (s : State) : EvolvesTo (.tim :: .tar :: reportParts) s (execTimeConfirm pair s) := by
  refine .go fun d => ?_
  refine Evolves.onDesc (fun d h => ?_) .refl
  extract_lets _ _ d1
  have hd1 : Evolves (.tim :: .tar :: reportParts) d d1 := Evolves.tar.mono
  exact .ite ((Dev.timeCheck_evolves ..).after <| (Dev.complete_evolves ..).after hd1) ((Dev.complete_evolves ..).mono)

theorem execBooking_evolves (s : State) : EvolvesTo (.ctx :: .tar :: .par :: .ldg :: .eth :: .fl :: reportParts) s (execBooking s) := by
  refine .go fun d => ?_
  split
  · split
    · exact (Dev.ctxTry_evolves ..).after <| (Dev.book_evolves ..).after <| (Dev.laneDrop_evolves ..).mono
    · exact .refl
  · exact .refl

theorem execTariffActivation_evolves (grp : Fin 4096) (s : State) : EvolvesTo (.tim :: .tar :: .par :: .ldg :: reportParts) s (execTariffActivation grp s) := by
  refine .go fun d => ?_
  split
  · exact .ite ((Dev.activate_evolves ..).after <| (Dev.toNs_evolves ..).mono) .refl
  · exact .refl

theorem execDemandBoundary_evolves (minutes : Nat) (s : State) : EvolvesTo (.tim :: .tar :: .par :: .ldg :: reportParts) s (execDemandBoundary minutes s) :=
  .ite .fault (.go fun _ => .ite ((Dev.journal_evolves ..).after (Dev.toNs_evolves ..).mono) .refl)

theorem execCloseInstant_evolves (grp : Fin 4096) (s : State) : EvolvesTo (.tim :: .tar :: .par :: .ldg :: reportParts) s (execCloseInstant grp s) :=
  .go fun _ => (Dev.closeInstant_evolves ..).mono

theorem execCloseSweepEnd_evolves (grp : Fin 4096) (s : State) : EvolvesTo (.tar :: .par :: .ldg :: reportParts) s (execCloseSweepEnd grp s) := by
  refine .go fun d => ?_
  split
  · exact .ite ((Dev.endSweep_evolves ..).mono) .refl
  · exact .refl

theorem execDisplayFrame_evolves (s : State) : EvolvesTo [.tim, .evr, .tar, .out] s (execDisplayFrame s) := by
  refine .go fun d => ?_
  split
  · extract_lets d1 _ d2
    have hd1 : Evolves [.tim, .evr, .tar, .out] d d1 := (Dev.toMono_evolves ..).mono
    have hd2 : Evolves [.tim, .evr, .tar, .out] d d2 := (Dev.emit_evolves ..).after hd1
    exact Evolves.tar.after hd2
  · exact .refl

theorem execBar4Write_evolves (_off : BitVec 20) (_val : Word) (s : State) : EvolvesTo [.regs] s (execBar4Write _off _val s) :=
  .go fun _ => .ite ((Dev.bump_evolves ..).mono) .refl

theorem execCheckValueRecompute_evolves (digest : BitVec 256) (s : State) : EvolvesTo fatalParts s (execCheckValueRecompute digest s) := by
  refine .go fun d => ?_
  split
  · extract_lets _ d1 _ d2 _ d3
    have hd1 : Evolves fatalParts d d1 := (Dev.toMono_evolves ..).mono
    have hd2 : Evolves fatalParts d d2 := Evolves.tar.after hd1
    have hd3 : Evolves fatalParts d d3 := (Dev.fault_evolves ..).after <| (Dev.wrb_evolves ..).after <| Evolves.tar.after hd2
    exact .ite hd1 (.ite (.ite ((Dev.dropDescs_evolves ..).after <| (Dev.yieldClaim_evolves ..).after hd3) hd3) hd2)
  · exact .refl

/-! ## Line -/

theorem execLineFrameRx_evolves (port : Fin 2) (rx : LineRx) (s : State) : EvolvesTo (.ctx :: .sch :: .lcp :: .ldg :: reportParts) s (execLineFrameRx port rx s) :=
  .go fun _ => (Dev.lineRx_evolves ..).mono

theorem execSegmentTimeout_evolves (port : Fin 2) (s : State) : EvolvesTo [.regs, .tim, .evr, .lcp] s (execSegmentTimeout port s) := by
  refine .go fun d => ?_
  split
  · exact (Dev.lineBad_evolves ..).after <| (Dev.bump_evolves ..).after <| (Dev.updLp_evolves ..).after <| (Dev.toMono_evolves ..).mono
  · exact .refl

theorem execBackoffExpiry_evolves (port : Fin 2) (s : State) : EvolvesTo [.regs, .tim, .evr, .lcp, .out] s (execBackoffExpiry port s) :=
  .go fun _ => .ite ((Dev.lineSend_evolves ..).mono) .refl

theorem execLineTxEnd_evolves (port : Fin 2) (gain : Fin 8) (s : State) : EvolvesTo (.img :: .eth :: .fl :: fatalParts) s (execLineTxEnd port gain s) :=
  .go fun _ => .ite ((Dev.lineTxEnd_evolves ..).mono) .refl

theorem execBlankEnd_evolves (port : Fin 2) (s : State) : EvolvesTo [.tim, .evr, .lcp] s (execBlankEnd port s) := by
  refine .go fun d => ?_
  split
  · exact (Dev.updLp_evolves ..).after <| (Dev.toMono_evolves ..).mono
  · exact .refl

theorem execGovSample_evolves (port : Fin 2) (vsns : BitVec 14) (isns : BitVec 14) (s : State) : EvolvesTo (.img :: .eth :: .fl :: fatalParts) s (execGovSample port vsns isns s) :=
  .go fun _ => .ite ((Dev.govSample_evolves ..).mono) .refl

theorem execGovCapWrite_evolves (port : Fin 2) (val : Word) (s : State) : EvolvesTo (.dirty :: .lcp :: reportParts) s (execGovCapWrite port val s) :=
  .go fun _ => .ite ((Dev.govCheck_evolves ..).after <| (Dev.plainWrite_evolves ..).mono) .refl

theorem execGovFuseGo_evolves (port : Fin 2) (val : Word) (s : State) : EvolvesTo (.lcp :: reportParts) s (execGovFuseGo port val s) :=
  .go fun _ => (Dev.fuseGo_evolves ..).mono

theorem execGovFuseDone_evolves (port : Fin 2) (s : State) : EvolvesTo (.lcp :: reportParts) s (execGovFuseDone port s) :=
  .ite (.next (Dev.fuseDone_evolves ..).mono) (.next .refl)

theorem execLcpCounterClear_evolves (port : Fin 2) (counter : Fin 12) (_val : Word) (s : State) : EvolvesTo [.regs] s (execLcpCounterClear port counter _val s) :=
  .go fun _ => .ite ((Dev.setWord_evolves ..).mono) .refl

theorem execTmRefreshDue_evolves (port : Fin 2) (nb : Fin 2048) (s : State) : EvolvesTo [.tim, .evr, .lcp] s (execTmRefreshDue port nb s) := by
  refine .go fun d => ?_
  split
  · refine (Dev.updNb_evolves ..).after ?_
    split
    · exact (Dev.toNs_evolves ..).mono
    · exact .refl
  · exact .refl

theorem execTmTtlExpiry_evolves (port : Fin 2) (nb : Fin 2048) (s : State) : EvolvesTo [.tim, .evr, .lcp] s (execTmTtlExpiry port nb s) := by
  refine .go fun d => ?_
  split
  · refine (Dev.updNb_evolves ..).after ?_
    split
    · exact (Dev.toNs_evolves ..).mono
    · exact .refl
  · exact .refl

theorem execZeroCrossEdge_evolves (port : Fin 2) (edge : Fin 3 × Bool) (s : State) : EvolvesTo [.lcp] s (execZeroCrossEdge port edge s) :=
  .go fun _ => (Dev.zeroCross_evolves ..).mono

theorem execPortPollWindow_evolves (port : Fin 2) (s : State) : EvolvesTo (.tim :: .lcp :: reportParts) s (execPortPollWindow port s) :=
  .go fun _ => .ite ((Dev.pollWindow_evolves ..).mono) .refl

theorem execNeighbourAgeExpiry_evolves (port : Fin 2) (nb : Fin 2048) (s : State) : EvolvesTo [.tim, .evr, .lcp] s (execNeighbourAgeExpiry port nb s) := by
  refine .go fun d => ?_
  split
  · exact (Dev.updNb_evolves ..).after <| (Dev.toNs_evolves ..).mono
  · exact .refl

theorem execNbSnapshotRead_evolves (port : Fin 2) (route : Bool) (s : State) : EvolvesTo [.lcp, .out] s (execNbSnapshotRead port route s) :=
  .go fun _ => .ite ((Dev.nbSnapshot_evolves ..).mono) .refl

/-! ## Radio -/

theorem execRadioFrameRx_evolves (port : Fin 4) (rx : RadioRx) (answer : ℕ) (us : ℕ) (s : State) : EvolvesTo (.tim :: .ctx :: .sec :: .sch :: .rad :: .cals :: reportParts) s (execRadioFrameRx port rx answer us s) :=
  .go fun _ => (Dev.radRx_evolves ..).mono

theorem execSeenKeyExpiry_evolves (port : Fin 4) (s : State) : EvolvesTo [.tim, .evr, .rad] s (execSeenKeyExpiry port s) := by
  refine .go fun d => ?_
  split
  · exact .refl
  · exact .ite ((Dev.updRp_evolves ..).after <| (Dev.toMono_evolves ..).mono) .refl

theorem execIqLaneTrained_evolves (port : Fin 4) (dly : BitVec 6 × BitVec 6) (bad : ℕ) (s : State) : EvolvesTo [.regs, .rad, .out] s (execIqLaneTrained port dly bad s) :=
  .go fun _ => .ite ((Dev.laneTrained_evolves ..).mono) .refl

theorem execIqLockTimeout_evolves (port : Fin 4) (s : State) : EvolvesTo (.fn :: .ldg :: .eth :: .fl :: fatalParts) s (execIqLockTimeout port s) :=
  .go fun _ => .ite ((Dev.radHalt_evolves ..).after <| (Dev.failFn_evolves ..).after <| (Dev.toMono_evolves ..).mono) .refl

theorem execIqLockLost_evolves (lost : Fin 4 × ℕ) (s : State) : EvolvesTo [.regs, .rad] s (execIqLockLost lost s) :=
  .go fun _ => (Dev.iqLost_evolves ..).mono

theorem execSpiIrqEdge_evolves (port : Fin 4) (s : State) : EvolvesTo [.regs] s (execSpiIrqEdge port s) :=
  .go fun _ => .ite ((Dev.bump_evolves ..).mono) .refl

theorem execLbtListenEnd_evolves (port : Fin 4) (rssi : ℤ) (us : ℕ) (s : State) : EvolvesTo [.regs, .tim, .evr, .sch, .rad, .freeCtr, .out] s (execLbtListenEnd port rssi us s) :=
  .go fun _ => (Dev.listenEnd_evolves ..).mono

theorem execDutyWaitEnd_evolves (port : Fin 4) (s : State) : EvolvesTo [.regs, .tim, .rng, .lne, .evr, .flt, .ctx, .tar, .par, .sch, .lcp, .rad, .ldg, .eth, .fl, .freeCtr, .out] s (execDutyWaitEnd port s) :=
  .go fun _ => .ite ((Dev.dutyEnd_evolves ..).mono) .refl

theorem execRadioTxEnd_evolves (port : Fin 4) (s : State) : EvolvesTo (.tim :: .sch :: .img :: .rad :: .eth :: .fl :: reportParts) s (execRadioTxEnd port s) :=
  .go fun _ => .ite ((Dev.radTxEnd_evolves ..).mono) .refl

theorem execAgreedSlot_evolves (mix : BitVec 20) (rssi : List ℤ) (bytes : ℕ) (us : ℕ) (s : State) : EvolvesTo [.regs, .tim, .rng, .lne, .evr, .flt, .ctx, .tar, .par, .sec, .sch, .lcp, .rad, .cals, .ldg, .eth, .fl, .freeCtr, .out] s (execAgreedSlot mix rssi bytes us s) := by
  refine .go fun d => ?_
  split
  · exact .refl
  · split
    · exact .refl
    · exact .ite ((Dev.agreedSlot_evolves ..).mono) .refl

theorem execSlotAnswerTimeout_evolves (mix : BitVec 20) (s : State) : EvolvesTo [.regs, .tim, .rng, .lne, .evr, .flt, .ctx, .tar, .par, .sch, .lcp, .rad, .cals, .ldg, .eth, .fl, .freeCtr, .out] s (execSlotAnswerTimeout mix s) := by
  refine .go fun d => ?_
  split
  · exact .refl
  · split
    · exact .ite ((Dev.radLost_evolves ..).after <| (Dev.updRp_evolves ..).after <| (Dev.slotMiss_evolves ..).after <| (Dev.toMono_evolves ..).mono) .refl
    · exact .refl

theorem execWmbFrameLate_evolves (mix : BitVec 20) (s : State) : EvolvesTo [.regs, .tim, .evr, .ctx, .sch, .cals] s (execWmbFrameLate mix s) := by
  refine .go fun d => ?_
  split
  · exact .refl
  · split
    · exact .refl
    · split
      · extract_lets
        exact (Dev.slotMiss_evolves ..).after <| (Dev.slotOn_evolves ..).after <| (Dev.toNs_evolves ..).mono
      · exact .refl

theorem execRendezvousWindowOpen_evolves (mix : BitVec 20) (s : State) : EvolvesTo [.tim, .evr, .rad] s (execRendezvousWindowOpen mix s) := by
  refine .go fun d => ?_
  split
  · exact .refl
  · split
    · exact .refl
    · split
      · extract_lets
        exact (Dev.updRp_evolves ..).after <| (Dev.toNs_evolves ..).mono
      · exact .refl

theorem execRendezvousWindowClose_evolves (mix : BitVec 20) (s : State) : EvolvesTo [.tim, .evr, .rad] s (execRendezvousWindowClose mix s) := by
  refine .go fun d => ?_
  split
  · exact .refl
  · split
    · exact .ite ((Dev.updRp_evolves ..).after <| (Dev.toNs_evolves ..).mono) .refl
    · exact .refl

/-! ## Funcs -/

theorem execFunctionEnable_evolves (fix : Fin 128) (val : Word) (s : State) : EvolvesTo (.dirty :: .fn :: .ldg :: .met :: .eth :: .fl :: fatalParts) s (execFunctionEnable fix val s) :=
  .go fun _ => (Dev.fnCfgWrite_evolves ..).mono

theorem execFunctionDisable_evolves (fix : Fin 128) (val : Word) (s : State) : EvolvesTo (.dirty :: .fn :: .ldg :: .met :: .eth :: .fl :: fatalParts) s (execFunctionDisable fix val s) :=
  .go fun _ => (Dev.fnCfgWrite_evolves ..).mono

theorem execFunctionStarted_evolves (fix : Fin 128) (nand : NandPart) (s : State) : EvolvesTo (.fn :: .ftl :: .met :: fatalParts) s (execFunctionStarted fix nand s) :=
  .go fun _ => (Dev.fnStarted_evolves ..).mono

theorem execFunctionStopped_evolves (fix : Fin 128) (s : State) : EvolvesTo (.fn :: .ldg :: .met :: .eth :: .fl :: fatalParts) s (execFunctionStopped fix s) := by
  refine .go fun d => ?_
  extract_lets
  exact .ite ((Dev.fnOff_evolves ..).mono) .refl

theorem execFunctionStartTimeout_evolves (fix : Fin 128) (s : State) : EvolvesTo (.fn :: .ldg :: .met :: .eth :: .fl :: fatalParts) s (execFunctionStartTimeout fix s) := by
  refine .go fun d => ?_
  extract_lets _ d1
  have hd1 : Evolves (.fn :: .ldg :: .met :: .eth :: .fl :: fatalParts) d d1 := (Dev.toMono_evolves ..).mono
  exact .ite ((Dev.fnRelease_evolves ..).after <| (Dev.failFn_evolves ..).after hd1) .refl

theorem execFunctionReset_evolves (val : Word) (s : State) : EvolvesTo (.fn :: .met :: .eth :: fatalParts) s (execFunctionReset val s) :=
  .go fun _ => .ite ((Dev.fnReset_evolves ..).mono) .refl

theorem execSerdesLockLoss_evolves (port : Fin 5) (s : State) : EvolvesTo (.fn :: .ldg :: .met :: .eth :: .fl :: fatalParts) s (execSerdesLockLoss port s) := by
  refine .go fun d => ?_
  split
  · split
    · extract_lets _ d1
      have hd1 : Evolves (.fn :: .ldg :: .met :: .eth :: .fl :: fatalParts) d d1 := (Dev.failFn_evolves ..).after <| (Dev.bump_evolves ..).after <| Evolves.par.mono
      exact (Dev.healthCheck_evolves ..).after <| (Dev.fnRelease_evolves ..).after hd1
    · exact .refl
  · exact .ite ((Dev.fnRelease_evolves ..).after <| (Dev.failFn_evolves ..).after <| (Dev.ethDown_evolves ..).mono) .refl

/-! ## Pair -/

theorem execPairStatus_evolves (pair : Fin 64) (s : State) : EvolvesTo [.regs, .rng] s (execPairStatus pair s) := by
  refine .go fun d => ?_
  refine Evolves.onDesc (fun d h => ?_) .refl
  extract_lets
  exact (Dev.complete_evolves ..).mono

theorem execPairSwap_evolves (pair : Fin 64) (s : State) : EvolvesTo [.regs, .tim, .rng, .lne, .evr, .flt, .ctx, .tar, .par, .sch, .lcp, .rad, .freeCtr, .out] s (execPairSwap pair s) := by
  refine .go fun d => ?_
  refine Evolves.onDesc (fun d h => ?_) .refl
  split
  · exact (Dev.complete_evolves ..).mono
  · exact (Dev.swapAsk_evolves ..).after <| (Dev.markStarted_evolves ..).mono

theorem execPairDrill_evolves (pair : Fin 64) (results : BitVec 4) (s : State) : EvolvesTo [.regs, .dirty, .tim, .rng, .lne, .evr, .flt, .ctx, .tar, .par, .sch, .lcp, .rad, .freeCtr, .out] s (execPairDrill pair results s) := by
  refine .go fun d => ?_
  refine Evolves.onDesc (fun d h => ?_) .refl
  split
  · exact (Dev.complete_evolves ..).mono
  · rename_i y0 y1
    extract_lets _ _ d1
    have hd1 : Evolves [.regs, .dirty, .tim, .rng, .lne, .evr, .flt, .ctx, .tar, .par, .sch, .lcp, .rad, .freeCtr, .out] d d1 := (Dev.wrb_evolves ..).after <| (Dev.markStarted_evolves ..).mono
    exact (Dev.drillRun_evolves ..).after <| Evolves.par.after hd1

theorem execArbListenEnd_evolves (s : State) : EvolvesTo [.regs, .fn, .glb, .tim, .rng, .lne, .evr, .flt, .ctx, .tar, .par, .nand, .sec, .sch, .lcp, .rad, .cals, .ldg, .met, .eth, .fl, .freeCtr, .out] s (execArbListenEnd s) := by
  refine .go fun d => ?_
  split
  · exact .refl
  · extract_lets d1
    have hd1 : Evolves [.regs, .fn, .glb, .tim, .rng, .lne, .evr, .flt, .ctx, .tar, .par, .nand, .sec, .sch, .lcp, .rad, .cals, .ldg, .met, .eth, .fl, .freeCtr, .out] d d1 := (Dev.toMono_evolves ..).mono
    exact .ite ((Dev.arbEnd_evolves ..).after hd1) ((Dev.pairSend_evolves ..).after hd1)

theorem execArbRx_evolves (hdr : PairHdr) (rootValid : Bool) (lastStroke : Bool) (side : Bool) (serial : ℕ) (s : State) : EvolvesTo [.regs, .par] s (execArbRx hdr rootValid lastStroke side serial s) := by
  refine .go fun d => ?_
  refine Evolves.onPair (fun d => ?_) .refl
  extract_lets _ d1
  have hd1 : Evolves [.regs, .par] d d1 := Evolves.par.mono
  exact .ite (Evolves.par.after hd1) hd1

theorem execArbClaimInstant_evolves (s : State) : EvolvesTo [.regs, .fn, .glb, .tim, .rng, .lne, .evr, .flt, .ctx, .tar, .par, .nand, .sec, .sch, .lcp, .rad, .cals, .ldg, .met, .eth, .fl, .freeCtr, .out] s (execArbClaimInstant s) := by
  refine .go fun d => ?_
  split
  · exact .refl
  · extract_lets _ d1
    have hd1 : Evolves [.regs, .fn, .glb, .tim, .rng, .lne, .evr, .flt, .ctx, .tar, .par, .nand, .sec, .sch, .lcp, .rad, .cals, .ldg, .met, .eth, .fl, .freeCtr, .out] d d1 := (Dev.toMono_evolves ..).mono
    exact .ite ((Dev.arbEnd_evolves ..).after hd1) (.ite ((Dev.arbEnd_evolves ..).after hd1) ((Dev.arbEnd_evolves ..).after hd1))

theorem execClaimInChange_evolves (level : Bool) (stays : Bool) (s : State) : EvolvesTo [.regs, .dirty, .tim, .rng, .lne, .evr, .flt, .ctx, .tar, .par, .sec, .sch, .lcp, .rad, .cals, .ldg, .met, .eth, .fl, .freeCtr, .out] s (execClaimInChange level stays s) := by
  refine .go fun d => ?_
  split
  · exact .refl
  · extract_lets _ _ d0 d1 d2
    have hd0 : Evolves [.regs, .dirty, .tim, .rng, .lne, .evr, .flt, .ctx, .tar, .par, .sec, .sch, .lcp, .rad, .cals, .ldg, .met, .eth, .fl, .freeCtr, .out] d d0 := Evolves.par.mono
    have hd1 : Evolves [.regs, .dirty, .tim, .rng, .lne, .evr, .flt, .ctx, .tar, .par, .sec, .sch, .lcp, .rad, .cals, .ldg, .met, .eth, .fl, .freeCtr, .out] d d1 := .ite ((Dev.gateShut_evolves ..).after hd0) hd0
    have hd2 : Evolves [.regs, .dirty, .tim, .rng, .lne, .evr, .flt, .ctx, .tar, .par, .sec, .sch, .lcp, .rad, .cals, .ldg, .met, .eth, .fl, .freeCtr, .out] d d2 := (Dev.toMono_evolves ..).after hd1
    exact .ite hd1 (.ite hd2 (.ite ((Dev.claimRose_evolves ..).after hd2) ((Dev.claimFell_evolves ..).after hd2)))

theorem execClaimLowTimeout_evolves (s : State) : EvolvesTo [.regs, .tim, .rng, .lne, .evr, .flt, .ctx, .tar, .par, .sec, .sch, .lcp, .cals, .ldg, .met, .eth, .fl, .freeCtr, .out] s (execClaimLowTimeout s) :=
  .go fun _ => .ite ((Dev.takeover_evolves ..).after <| (Dev.toMono_evolves ..).mono) .refl

theorem execClaimTimerExpiry_evolves (s : State) : EvolvesTo [.regs, .tim, .rng, .evr, .ctx, .par, .sch, .lcp, .rad, .out] s (execClaimTimerExpiry s) := by
  refine .go fun d => ?_
  split
  · exact .ite ((Dev.dropDescs_evolves ..).after <| (Dev.dropClaim_evolves ..).after <| (Dev.toMono_evolves ..).mono) .refl
  · exact .refl

theorem execPairHeartbeatSend_evolves (s : State) : EvolvesTo [.regs, .tim, .rng, .lne, .evr, .flt, .ctx, .tar, .par, .sch, .lcp, .rad, .freeCtr, .out] s (execPairHeartbeatSend s) := by
  refine .go fun d => ?_
  split
  · exact .refl
  · extract_lets d1 d2 _ d3
    have hd1 : Evolves [.regs, .tim, .rng, .lne, .evr, .flt, .ctx, .tar, .par, .sch, .lcp, .rad, .freeCtr, .out] d d1 := (Dev.toMono_evolves ..).mono
    have hd2 : Evolves [.regs, .tim, .rng, .lne, .evr, .flt, .ctx, .tar, .par, .sch, .lcp, .rad, .freeCtr, .out] d d2 := .ite ((Dev.setClaim_evolves ..).after hd1) hd1
    have hd3 : Evolves [.regs, .tim, .rng, .lne, .evr, .flt, .ctx, .tar, .par, .sch, .lcp, .rad, .freeCtr, .out] d d3 := Evolves.par.after hd2
    exact (Dev.swapTry_evolves ..).after <| (Dev.pairSend_evolves ..).after hd3

theorem execPairHeartbeatRx_evolves (hdr : PairHdr) (peer : PairPeer) (s : State) : EvolvesTo (.par :: reportParts) s (execPairHeartbeatRx hdr peer s) :=
  .go fun _ => Evolves.onPair (fun _ => (Dev.healthCheck_evolves ..).after <| Evolves.par.mono) .refl

theorem execPairHeartbeatMiss_evolves (s : State) : EvolvesTo [.regs, .tim, .rng, .lne, .evr, .flt, .ctx, .tar, .par, .sec, .sch, .lcp, .cals, .ldg, .met, .eth, .fl, .freeCtr, .out] s (execPairHeartbeatMiss s) := by
  refine .go fun d => ?_
  split
  · rename_i y0 y1 y2
    split
    · exact .refl
    · extract_lets d1 _ d2
      have hd1 : Evolves [.regs, .tim, .rng, .lne, .evr, .flt, .ctx, .tar, .par, .sec, .sch, .lcp, .cals, .ldg, .met, .eth, .fl, .freeCtr, .out] d d1 := (Dev.bump_evolves ..).after <| (Dev.toMono_evolves ..).mono
      have hd2 : Evolves [.regs, .tim, .rng, .lne, .evr, .flt, .ctx, .tar, .par, .sec, .sch, .lcp, .cals, .ldg, .met, .eth, .fl, .freeCtr, .out] d d2 := Evolves.par.after hd1
      exact .ite ((Dev.heartbeatLost_evolves ..).after hd2) hd2
  · exact .refl

theorem execStrokeCycleClose_evolves (s : State) : EvolvesTo (.tim :: .ctx :: .tar :: .par :: reportParts) s (execStrokeCycleClose s) := by
  refine .go fun d => ?_
  split
  · exact .refl
  · split
    · exact (Dev.cycleClose_evolves ..).mono
    · extract_lets d1
      have hd1 : Evolves (.tim :: .ctx :: .tar :: .par :: reportParts) d d1 := (Dev.toMono_evolves ..).mono
      exact (Dev.cycleClose_evolves ..).after <| Evolves.par.after hd1

theorem execStrokeCycleEnd_evolves (s : State) : EvolvesTo [.regs, .tim, .rng, .lne, .evr, .flt, .ctx, .tar, .par, .ftl, .sec, .sch, .img, .lcp, .rad, .cals, .freeCtr, .out] s (execStrokeCycleEnd s) := by
  refine .go fun d => ?_
  split
  · exact .ite ((Dev.cycleEnd_evolves ..).mono) .refl
  · exact .refl

theorem execDeltaRx_evolves (hdr : PairHdr) (recs : List DeltaRec) (s : State) : EvolvesTo [.regs, .par] s (execDeltaRx hdr recs s) :=
  .go fun _ => Evolves.onPair (fun _ => .ite Evolves.par.mono .refl) .refl

theorem execEndRx_evolves (hdr : PairHdr) (count : ℕ) (hashOk : Bool) (s : State) : EvolvesTo [.regs, .dirty, .rng, .lne, .evr, .flt, .ctx, .tar, .par, .sec, .sch, .img, .lcp, .cals, .ldg, .fl, .freeCtr, .out] s (execEndRx hdr count hashOk s) := by
  refine .go fun d => ?_
  refine Evolves.onPair (fun d => ?_) .refl
  split
  · exact .refl
  · extract_lets _ _ d1 _ d2
    have hd1 : Evolves [.regs, .dirty, .rng, .lne, .evr, .flt, .ctx, .tar, .par, .sec, .sch, .img, .lcp, .cals, .ldg, .fl, .freeCtr, .out] d d1 := Evolves.par.mono
    have hd2 : Evolves [.regs, .dirty, .rng, .lne, .evr, .flt, .ctx, .tar, .par, .sec, .sch, .img, .lcp, .cals, .ldg, .fl, .freeCtr, .out] d d2 := Evolves.par.after hd1
    exact .ite (.ite (Evolves.par.after hd1) ((Dev.applyDelta_evolves ..).after hd1)) ((Dev.pairSend_evolves ..).after hd2)

theorem execAckRx_evolves (hdr : PairHdr) (s : State) : EvolvesTo [.regs, .par] s (execAckRx hdr s) := by
  refine .go fun d => ?_
  refine Evolves.onPair (fun d => ?_) .refl
  split
  · exact .ite Evolves.par.mono .refl
  · exact .refl

theorem execJmirRx_evolves (hdr : PairHdr) (entries : List (ℕ × JWhat)) (s : State) : EvolvesTo (.tar :: .par :: reportParts) s (execJmirRx hdr entries s) := by
  refine .go fun d => ?_
  refine Evolves.onPair (fun d => ?_) .refl
  split
  · extract_lets d1
    have hd1 : Evolves (.tar :: .par :: reportParts) d d1 := .foldl (fun _ _ => .ite ((Dev.applyMirror_evolves ..).mono) .refl) .refl
    exact (Dev.pairSend_evolves ..).after hd1
  · exact .refl

theorem execJackRx_evolves (hdr : PairHdr) (seq : ℕ) (s : State) : EvolvesTo [.regs, .rng, .tar, .par, .ldg] s (execJackRx hdr seq s) :=
  .go fun _ => Evolves.onPair (fun _ => .ite .refl ((Dev.acknowledge_evolves ..).mono)) .refl

theorem execCreditRx_evolves (hdr : PairHdr) (cells : ℕ) (s : State) : EvolvesTo [.regs, .lne, .par, .out] s (execCreditRx hdr cells s) := by
  refine .go fun d => ?_
  refine Evolves.onPair (fun d => ?_) .refl
  extract_lets _ d1
  have hd1 : Evolves [.regs, .lne, .par, .out] d d1 := Evolves.par.mono
  exact (Dev.pairDrain_evolves ..).after hd1

theorem execCreditSend_evolves (s : State) : EvolvesTo [.par, .out] s (execCreditSend s) := by
  refine .go fun d => ?_
  split
  · extract_lets
    exact (Dev.pairEmit_evolves ..).after <| Evolves.par.mono
  · exact .refl

theorem execYieldRx_evolves (hdr : PairHdr) (s : State) : EvolvesTo [.regs, .tim, .rng, .lne, .evr, .flt, .ctx, .tar, .par, .sec, .sch, .lcp, .cals, .ldg, .met, .eth, .fl, .freeCtr, .out] s (execYieldRx hdr s) :=
  .go fun _ => Evolves.onPair (fun _ => .ite ((Dev.takeover_evolves ..).after <| Evolves.par.mono) .refl) .refl

theorem execSwapRx_evolves (hdr : PairHdr) (s : State) : EvolvesTo [.regs, .dirty, .tim, .rng, .lne, .evr, .flt, .ctx, .tar, .par, .sec, .sch, .lcp, .rad, .cals, .ldg, .met, .eth, .fl, .freeCtr, .out] s (execSwapRx hdr s) :=
  .go fun _ => Evolves.onPair (fun _ => .ite ((Dev.swapTake_evolves ..).after <| Evolves.par.mono) (.ite .refl ((Dev.swapStart_evolves ..).mono))) .refl

theorem execSwapTimeout_evolves (s : State) : EvolvesTo (.dirty :: .tim :: .par :: reportParts) s (execSwapTimeout s) := by
  refine .go fun d => ?_
  split
  · rename_i y0 y1 y2
    split
    · extract_lets d1 d2
      have hd1 : Evolves (.dirty :: .tim :: .par :: reportParts) d d1 := (Dev.swapDesc_evolves ..).after <| (Dev.setClaim_evolves ..).after <| (Dev.toMono_evolves ..).mono
      have hd2 : Evolves (.dirty :: .tim :: .par :: reportParts) d d2 := (Dev.drillStep_evolves ..).after hd1
      split
      · exact .ite ((Dev.drillEnd_evolves ..).after hd2) ((Dev.drillEnd_evolves ..).after <| (Dev.pairSend_evolves ..).after hd2)
      · exact hd1
    · exact .refl
  · exact .refl

theorem execCatchupRequest_evolves (hdr : Option PairHdr) (s : State) : EvolvesTo (.par :: reportParts) s (execCatchupRequest hdr s) := by
  refine .go fun d => ?_
  split
  · exact .ite ((Dev.pairSend_evolves ..).after <| Evolves.par.mono) .refl
  · exact Evolves.onPair (fun _ => .ite ((Dev.catchupSend_evolves ..).mono) .refl) .refl

theorem execCatchupRx_evolves (hdr : PairHdr) (recs : List DeltaRec) (s : State) : EvolvesTo [.regs, .dirty, .rng, .lne, .evr, .flt, .ctx, .tar, .par, .sec, .sch, .img, .lcp, .cals, .ldg, .fl, .freeCtr, .out] s (execCatchupRx hdr recs s) := by
  refine .go fun d => ?_
  refine Evolves.onPair (fun d => ?_) .refl
  split
  · exact .refl
  · split
    · exact .foldl (fun _ _ => (Dev.applyRec_evolves ..).mono) ((Dev.catchupClear_evolves ..).mono)
    · extract_lets _ _ d0 d1 _ _ d2
      have hd0 : Evolves [.regs, .dirty, .rng, .lne, .evr, .flt, .ctx, .tar, .par, .sec, .sch, .img, .lcp, .cals, .ldg, .fl, .freeCtr, .out] d d0 := (Dev.catchupEnd_evolves ..).after <| (Dev.catchupClear_evolves ..).mono
      have hd1 : Evolves [.regs, .dirty, .rng, .lne, .evr, .flt, .ctx, .tar, .par, .sec, .sch, .img, .lcp, .cals, .ldg, .fl, .freeCtr, .out] d d1 := (Dev.offer_evolves ..).after <| (Dev.journalCycle_evolves ..).after hd0
      have hd2 : Evolves [.regs, .dirty, .rng, .lne, .evr, .flt, .ctx, .tar, .par, .sec, .sch, .img, .lcp, .cals, .ldg, .fl, .freeCtr, .out] d d2 := .over [.ctx, .par] hd1
      exact .foldl (fun _ _ => (Dev.applyDelta_evolves ..).mono) ((Dev.pairSend_evolves ..).after hd2)

theorem execCatchupDone_evolves (s : State) : EvolvesTo (.par :: reportParts) s (execCatchupDone s) := by
  refine .go fun d => ?_
  split
  · rename_i y0 y1 y2
    split
    · exact .refl
    · split
      · exact (Dev.healthCheck_evolves ..).after <| Evolves.par.mono
      · extract_lets _ d1
        have hd1 : Evolves (.par :: reportParts) d d1 := Evolves.par.mono
        exact .ite ((Dev.recordPost_evolves ..).after hd1) hd1
  · exact .refl

theorem execDrillRx_evolves (hdr : PairHdr) (step : Fin 5) (means : List (ℕ × ℕ × ℕ)) (result : Option (Bool × ℕ)) (finds : Bool) (s : State) : EvolvesTo [.regs, .dirty, .tim, .rng, .lne, .evr, .flt, .ctx, .tar, .par, .sch, .lcp, .rad, .freeCtr, .out] s (execDrillRx hdr step means result finds s) := by
  refine .go fun d => ?_
  refine Evolves.onPair (fun d => ?_) .refl
  split
  · rename_i y0 y1 y2
    extract_lets d1
    have hd1 : Evolves [.regs, .dirty, .tim, .rng, .lne, .evr, .flt, .ctx, .tar, .par, .sch, .lcp, .rad, .freeCtr, .out] d d1 := (Dev.drillStep_evolves ..).mono
    exact .ite (.ite hd1 ((Dev.wr_evolves ..).after hd1)) ((Dev.drillRun_evolves ..).after hd1)
  · rename_i y0
    split
    · exact .ite ((Dev.pairSend_evolves ..).mono) .refl
    · split
      · extract_lets
        exact (Dev.wrb_evolves ..).after <| Evolves.par.mono
      · split
        · exact .refl
        · extract_lets _ d1
          have hd1 : Evolves [.regs, .dirty, .tim, .rng, .lne, .evr, .flt, .ctx, .tar, .par, .sch, .lcp, .rad, .freeCtr, .out] d d1 := (Dev.wrb_evolves ..).after <| Evolves.par.mono
          exact (Dev.swapStart_evolves ..).after <| (Dev.pairSend_evolves ..).after hd1

theorem execDrillWindow_evolves (s : State) : EvolvesTo [.regs, .tim, .rng, .lne, .evr, .flt, .ctx, .tar, .par, .sch, .lcp, .rad, .freeCtr, .out] s (execDrillWindow s) := by
  refine .go fun d => ?_
  split
  · exact .refl
  · rename_i y0 y1 y2
    split
    · exact .refl
    · rename_i y0 y1 y2
      split
      · exact .refl
      · extract_lets d1 _ _ d2
        have hd1 : Evolves [.regs, .tim, .rng, .lne, .evr, .flt, .ctx, .tar, .par, .sch, .lcp, .rad, .freeCtr, .out] d d1 := (Dev.toMono_evolves ..).mono
        have hd2 : Evolves [.regs, .tim, .rng, .lne, .evr, .flt, .ctx, .tar, .par, .sch, .lcp, .rad, .freeCtr, .out] d d2 := Evolves.par.after hd1
        split
        · exact (Dev.drillOver_evolves ..).after hd2
        · split
          · exact (Dev.drillOver_evolves ..).after hd2
          · exact hd2

theorem execDrillHoldEnd_evolves (s : State) : EvolvesTo [.regs, .tim, .rng, .lne, .evr, .flt, .ctx, .tar, .par, .sch, .lcp, .rad, .freeCtr, .out] s (execDrillHoldEnd s) := by
  refine .go fun d => ?_
  split
  · exact .refl
  · split
    · exact .refl
    · split
      · exact .refl
      · split
        · exact (Dev.drillOver_evolves ..).mono
        · exact (Dev.drillOver_evolves ..).after <| (Dev.toMono_evolves ..).mono

theorem execPairLaneLoss_evolves (lane : Fin 2) (s : State) : EvolvesTo (.par :: reportParts) s (execPairLaneLoss lane s) := by
  refine .go fun d => ?_
  split
  · exact .refl
  · extract_lets _ d1 _ d2
    have hd1 : Evolves (.par :: reportParts) d d1 := Evolves.par.mono
    have hd2 : Evolves (.par :: reportParts) d d2 := .ite hd1 ((Dev.bump_evolves ..).after <| Evolves.par.after hd1)
    exact (Dev.healthCheck_evolves ..).after hd2

theorem execPairLaneReturn_evolves (lane : Fin 2) (s : State) : EvolvesTo (.par :: reportParts) s (execPairLaneReturn lane s) :=
  .go fun _ => .ite ((Dev.healthCheck_evolves ..).after <| Evolves.par.mono) .refl

theorem execPairForce_evolves (val : Word) (s : State) : EvolvesTo [.regs, .tim, .rng, .lne, .evr, .flt, .ctx, .tar, .par, .sec, .sch, .lcp, .cals, .ldg, .met, .eth, .fl, .freeCtr, .out] s (execPairForce val s) := by
  refine .go fun d => ?_
  split
  · extract_lets d1
    have hd1 : Evolves [.regs, .tim, .rng, .lne, .evr, .flt, .ctx, .tar, .par, .sec, .sch, .lcp, .cals, .ldg, .met, .eth, .fl, .freeCtr, .out] d d1 := (Dev.becomeStroke_evolves ..).after <| (Dev.swapDesc_evolves ..).mono
    exact (Dev.recordPost_evolves ..).after hd1
  · exact .refl

theorem execParDeltaClear_evolves (_val : Word) (s : State) : EvolvesTo [.regs] s (execParDeltaClear _val s) :=
  .go fun _ => .ite ((Dev.wr_evolves ..).mono) .refl

/-! ## Ports -/

theorem execPortBoundary_evolves (port : Fin 7) (fdx : Fin 1024) (bytes : ℕ) (s : State) : EvolvesTo [.regs, .tim, .rng, .lne, .evr, .flt, .ctx, .tar, .par, .sec, .sch, .img, .lcp, .rad, .ldg, .eth, .fl, .freeCtr, .out] s (execPortBoundary port fdx bytes s) :=
  .go fun _ => (Dev.boundary_evolves ..).mono

theorem execExchangeTimeout_evolves (port : Fin 6) (s : State) : EvolvesTo [.tim, .evr, .lcp, .rad] s (execExchangeTimeout port s) :=
  .go fun _ => .ite ((Dev.exTimeout_evolves ..).mono) .refl

theorem execExchangeEnd_evolves (port : Fin 6) (s : State) : EvolvesTo [.regs, .rng, .lne, .evr, .flt, .ctx, .tar, .par, .sec, .sch, .lcp, .rad, .ldg, .eth, .fl, .freeCtr, .out] s (execExchangeEnd port s) :=
  .go fun _ => .ite ((Dev.exEnd_evolves ..).mono) .refl

theorem execTransactionDeadline_evolves (pair : Fin 64) (s : State) : EvolvesTo [.regs, .tim, .rng, .lne, .evr, .flt, .ctx, .tar, .par, .sch, .lcp, .ldg, .eth, .fl, .freeCtr, .out] s (execTransactionDeadline pair s) := by
  refine .go fun d => ?_
  split
  · exact .ite ((Dev.ctxTry_evolves ..).after <| (Dev.expire_evolves ..).after <| (Dev.toMono_evolves ..).mono) .refl
  · exact .refl

/-! ## Sched -/

theorem execPolicyLoad_evolves (pair : Fin 64) (buf : HostRead) (s : State) : EvolvesTo [.regs, .rng, .sch, .out] s (execPolicyLoad pair buf s) :=
  .go fun _ => Evolves.onDescRead (fun _ _ _ => (Dev.policyLoad_evolves ..).mono) .refl

theorem execPolicyGet_evolves (pair : Fin 64) (s : State) : EvolvesTo [.regs, .rng, .out] s (execPolicyGet pair s) := by
  refine .go fun d => ?_
  refine Evolves.onDesc (fun d h => ?_) .refl
  extract_lets
  exact (Dev.complete_evolves ..).after <| (Dev.writeBuf_evolves ..).mono

theorem execPolicyHold_evolves (pair : Fin 64) (s : State) : EvolvesTo [.regs, .rng, .ctx, .sch] s (execPolicyHold pair s) :=
  .go fun _ => Evolves.onDesc (fun _ _ => (Dev.complete_evolves ..).after <| (Dev.holdGroup_evolves ..).mono) .refl

theorem execReadNow_evolves (pair : Fin 64) (s : State) : EvolvesTo [.regs, .rng, .ctx, .sch] s (execReadNow pair s) :=
  .go fun _ => Evolves.onDesc (fun _ _ => Evolves.meterDesc (fun _ _ _ => (Dev.mergeRead_evolves ..).after <| (Dev.markStarted_evolves ..).mono) .refl) .refl

theorem execWriteObj_evolves (pair : Fin 64) (buf : HostRead) (s : State) : EvolvesTo [.regs, .rng, .sch, .out] s (execWriteObj pair buf s) :=
  .go fun _ => Evolves.onDescRead (fun _ _ _ => (Dev.writeDesc_evolves ..).mono) .refl

theorem execWriteAction_evolves (pair : Fin 64) (buf : HostRead) (s : State) : EvolvesTo [.regs, .rng, .sch, .out] s (execWriteAction pair buf s) :=
  .go fun _ => Evolves.onDescRead (fun _ _ _ => (Dev.writeDesc_evolves ..).mono) .refl

theorem execWriteTime_evolves (pair : Fin 64) (s : State) : EvolvesTo [.regs, .rng, .sch] s (execWriteTime pair s) :=
  .go fun _ => Evolves.onDesc (fun _ _ => (Dev.writeDesc_evolves ..).mono) .refl

theorem execStormWindow_evolves (s : State) : EvolvesTo (.tim :: .ctx :: .sch :: reportParts) s (execStormWindow s) :=
  .go fun _ => .ite ((Dev.stormWindow_evolves ..).mono) .refl

theorem execHeatStart_evolves (grp : Fin 4096) (s : State) : EvolvesTo [.regs, .tim, .evr, .ctx, .sch] s (execHeatStart grp s) :=
  .go fun _ => .ite ((Dev.heatOpen_evolves ..).after <| (Dev.toNs_evolves ..).mono) .refl

theorem execHeatEnd_evolves (grp : Fin 4096) (s : State) : EvolvesTo (.glb :: .tim :: .ctx :: .sch :: .lcp :: reportParts) s (execHeatEnd grp s) := by
  refine .go fun d => ?_
  split
  · exact (Dev.heatClose_evolves ..).after <| (Dev.toMono_evolves ..).after <| (Dev.suspend_evolves ..).mono
  · exact .refl

theorem execSchedEntryDue_evolves (mix : BitVec 20) (s : State) : EvolvesTo [.tim, .evr, .ctx, .sch] s (execSchedEntryDue mix s) :=
  .go fun _ => (Dev.entryDue_evolves ..).mono

theorem execPushGraceExpiry_evolves (mix : BitVec 20) (s : State) : EvolvesTo [.regs, .tim, .evr, .ctx, .sch] s (execPushGraceExpiry mix s) :=
  .go fun _ => .ite ((Dev.pushLate_evolves ..).mono) .refl

theorem execCensusStart_evolves (s : State) : EvolvesTo [.regs, .glb, .ctx, .sch] s (execCensusStart s) :=
  .go fun _ => .ite ((Dev.census_evolves ..).mono) .refl

/-! ## Boot -/

theorem execSoftReset_evolves (val : Word) (s : State) : EvolvesTo [.regs, .dirty, .fn, .glb, .tim, .rng, .lne, .evr, .flt, .ctx, .tar, .par, .ftl, .nand, .sec, .sch, .lcp, .rad, .cals, .ldg, .met, .eth, .fl, .upd, .freeCtr, .out] s (execSoftReset val s) :=
  .go fun _ => .ite ((Dev.latchReset_evolves ..).mono) .refl

theorem execResetNAssert_evolves (s : State) : EvolvesTo [.regs, .dirty, .fn, .glb, .tim, .rng, .lne, .evr, .flt, .ctx, .tar, .par, .ftl, .nand, .sec, .sch, .lcp, .rad, .cals, .ldg, .met, .eth, .fl, .upd, .freeCtr, .out] s (execResetNAssert s) :=
  .go fun _ => (Dev.latchReset_evolves ..).after (.over [.glb, .sec] .refl)

theorem execPerstNAssert_evolves (s : State) : EvolvesTo [.regs, .dirty, .fn, .glb, .tim, .rng, .lne, .evr, .flt, .ctx, .tar, .par, .ftl, .nand, .sec, .sch, .lcp, .rad, .cals, .ldg, .met, .eth, .fl, .upd, .freeCtr, .out] s (execPerstNAssert s) :=
  .go fun _ => (Dev.latchReset_evolves ..).after <| Evolves.glb.mono

theorem execPcieHotReset_evolves (s : State) : EvolvesTo [.regs, .dirty, .fn, .glb, .tim, .rng, .lne, .evr, .flt, .ctx, .tar, .par, .ftl, .nand, .sec, .sch, .lcp, .rad, .cals, .ldg, .met, .eth, .fl, .upd, .freeCtr, .out] s (execPcieHotReset s) :=
  .go fun _ => (Dev.latchReset_evolves ..).mono

theorem execFlr_evolves (s : State) : EvolvesTo [.regs, .dirty, .fn, .glb, .tim, .rng, .lne, .evr, .flt, .ctx, .tar, .par, .ftl, .nand, .sec, .sch, .lcp, .rad, .cals, .ldg, .met, .eth, .fl, .upd, .freeCtr, .out] s (execFlr s) :=
  .go fun _ => (Dev.latchReset_evolves ..).mono

theorem execAutoResetExpiry_evolves (s : State) : EvolvesTo [.regs, .dirty, .fn, .glb, .tim, .rng, .lne, .evr, .flt, .ctx, .tar, .par, .ftl, .nand, .sec, .sch, .lcp, .rad, .cals, .ldg, .met, .eth, .fl, .upd, .freeCtr, .out] s (execAutoResetExpiry s) := by
  refine .go fun d => ?_
  split
  · exact .ite ((Dev.latchReset_evolves ..).after <| (Dev.toMono_evolves ..).mono) .refl
  · exact .refl

theorem execResetRelease_evolves (resetN : Bool) (perstN : Bool) (s : State) : EvolvesTo [.glb] s (execResetRelease resetN perstN s) :=
  .go fun _ => (Dev.releasePins_evolves ..).mono

theorem State.powerUp_evolves (s : State) (offS : Nat) (cold resetN perstN pwrFailN : Bool) :
    Evolves [.glb, .tim, .evr] s.dev (s.powerUp offS cold resetN perstN pwrFailN).dev := by
  have hset (t : Tim) (n : Nat) (g : Glb) :
      Evolves [.glb, .tim, .evr] s.dev { s.dev with tim := t, evr := { s.dev.evr with powerCycles := n }, glb := g } := .over [.glb, .tim, .evr] .refl
  unfold State.powerUp
  extract_lets d _ _ _ d1
  have h1 : Evolves [.glb, .tim, .evr] d d1 := hset _ _ _
  split
  · exact .refl
  · exact (Dev.releasePins_evolves ..).after <| (Dev.passCycles_evolves ..).after h1

theorem execPowerUp_evolves (offS : Nat) (cold resetN perstN pwrFailN : Bool) (s : State) :
    EvolvesTo [.glb, .tim, .evr] s (execPowerUp offS cold resetN perstN pwrFailN s) :=
  .next (State.powerUp_evolves ..)

theorem execMainSupplyLoss_evolves (s : State) : EvolvesTo [.regs, .dirty, .fn, .glb, .tim, .rng, .lne, .evr, .flt, .ctx, .tar, .par, .ftl, .sec, .sch, .lcp, .rad, .cals, .ldg, .met, .eth, .fl, .upd] s (execMainSupplyLoss s) := by
  refine .go fun d => ?_
  split
  · extract_lets x
    have hx : Evolves [.regs, .dirty, .fn, .glb, .tim, .rng, .lne, .evr, .flt, .ctx, .tar, .par, .ftl, .sec, .sch, .lcp, .rad, .cals, .ldg, .met, .eth, .fl, .upd] d x := (Dev.reborn_evolves ..).mono
    exact Evolves.glb.after hx
  · exact .refl

theorem State.bootBattery_evolves (s : State) : Evolves fatalParts s.dev s.bootBattery.dev := by
  unfold State.bootBattery
  extract_lets d d1 n sd x d2
  have h1 : Evolves fatalParts d d1 := .ite ((Dev.recordPost_evolves ..).after (Dev.wrb_evolves ..).mono) .refl
  have hx : Evolves fatalParts d x := (Dev.record_evolves ..).after <| Evolves.freeCtr.after h1
  exact .ite ((Dev.fault_evolves ..).after <| (Dev.post_evolves ..).after hx) h1

theorem State.boot_evolves (s : State) (e : BootEnv) : Evolves everyPart s.dev (s.boot e).dev := by
  unfold State.boot
  extract_lets d f d1 s1 d2 s2
  have hf : Evolves everyPart d f.2 := (Dev.bootFormats_evolves ..).mono
  have h1 : Evolves everyPart d d1 :=
    (Dev.bootCaps_evolves ..).after <| (Dev.bootFirmware_evolves ..).after <| (Dev.bootClocks_evolves ..).after hf
  have hs1 : Evolves everyPart d s1.dev := (Dev.showBat_evolves ..).after <| (Dev.seed_evolves ..).after h1
  have h2 : Evolves everyPart d d2 :=
    (Dev.bootRetain_evolves ..).after <| (Dev.bootCheck_evolves ..).after <| (Dev.bootTime_evolves ..).after <|
      (Dev.bootRecords_evolves ..).after <| (Dev.bootModes_evolves ..).after hs1
  have hs2 : Evolves everyPart d s2.dev := (State.bootBattery_evolves _).after <| (Dev.bootImage_evolves ..).after h2
  split
  · exact .refl
  split
  · exact (Dev.haltBoot_evolves ..).after (Dev.passCycles_evolves ..).mono
  · exact (Dev.bootStart_evolves ..).after <| (Dev.bootDegraded_evolves ..).after hs2

theorem execBoot_evolves (env : BootEnv) (s : State) : EvolvesTo everyPart s (execBoot env s) :=
  .ite (.next (State.boot_evolves ..)) .fault

theorem execBootRetry_evolves (s : State) : EvolvesTo [.regs, .glb, .tim, .evr] s (execBootRetry s) := by
  refine .go fun d => ?_
  split
  · extract_lets d1
    have hd1 : Evolves [.regs, .glb, .tim, .evr] d d1 := (Dev.wr_evolves ..).after <| (Dev.wrb_evolves ..).after <| (Dev.toMono_evolves ..).mono
    exact Evolves.glb.after hd1
  · exact .refl

theorem execRestoreDone_evolves (s : State) : EvolvesTo [.regs, .fn, .glb, .tim, .rng, .lne, .evr, .flt, .ctx, .tar, .par, .nand, .sec, .sch, .lcp, .rad, .cals, .ldg, .met, .eth, .fl, .upd, .freeCtr, .out] s (execRestoreDone s) :=
  .go fun _ => .ite ((Dev.stepGEnd_evolves ..).mono) .refl

theorem execSpareInitDone_evolves (s : State) : EvolvesTo [.glb] s (execSpareInitDone s) := .go fun _ => .ite Evolves.glb.mono .refl

theorem execPwrFailFall_evolves (s : State) : EvolvesTo [.regs, .dirty, .fn, .glb, .tim, .rng, .lne, .evr, .flt, .ctx, .tar, .par, .ftl, .sec, .sch, .lcp, .rad, .cals, .ldg, .met, .eth, .fl, .upd, .freeCtr, .out] s (execPwrFailFall s) := by
  refine .go fun d => ?_
  split
  · refine (Dev.failStart_evolves ..).after ?_
    extract_lets y
    have hy : Evolves [.regs, .dirty, .fn, .glb, .tim, .rng, .lne, .evr, .flt, .ctx, .tar, .par, .ftl, .sec, .sch, .lcp, .rad, .cals, .ldg, .met, .eth, .fl, .upd, .freeCtr, .out] d y := .ite ((Dev.wrb_evolves ..).mono) .refl
    exact Evolves.glb.after hy
  · exact .refl

theorem execRailTrip_evolves (rails : BitVec 10) (s : State) : EvolvesTo [.regs, .dirty, .fn, .glb, .tim, .rng, .lne, .evr, .flt, .ctx, .tar, .par, .ftl, .sec, .sch, .lcp, .rad, .cals, .ldg, .met, .eth, .fl, .upd, .freeCtr, .out] s (execRailTrip rails s) := by
  refine .go fun d => ?_
  split
  · extract_lets _ d1
    have hd1 : Evolves [.regs, .dirty, .fn, .glb, .tim, .rng, .lne, .evr, .flt, .ctx, .tar, .par, .ftl, .sec, .sch, .lcp, .rad, .cals, .ldg, .met, .eth, .fl, .upd, .freeCtr, .out] d d1 := .ite ((Dev.record_evolves ..).after <| (Dev.bump_evolves ..).after <| (Dev.wr_evolves ..).mono) .refl
    exact (Dev.failStart_evolves ..).after hd1
  · exact .refl

theorem execPowerFailCommitDone_evolves (us : ℕ) (s : State) : EvolvesTo (.store :: .glb :: .tim :: .tar :: .nand :: reportParts) s (execPowerFailCommitDone us s) :=
  .go fun _ => .ite ((Dev.failDone_evolves ..).mono) .refl

theorem execPwrFailRise_evolves (s : State) : EvolvesTo everyPart s (execPwrFailRise s) := by
  have hcycle (x : Dev) (g : Glb) : Evolves [.glb, .evr] x { x with evr := { x.evr with powerCycles := x.evr.powerCycles + 1 }, glb := g } :=
    .over [.glb, .evr] .refl
  refine .go fun d => ?_
  have h1 : Evolves everyPart d (d.releasePins false false true) := (Dev.releasePins_evolves ..).mono
  refine .ite ((Dev.releasePins_evolves ..).after ((hcycle _ _).after ?_)) h1
  exact (Dev.reborn_evolves ..).after <| (Dev.passCycles_evolves ..).after h1

theorem execHoldupSample_evolves (mv : BitVec 12) (s : State) : EvolvesTo (.glb :: reportParts) s (execHoldupSample mv s) :=
  .go fun _ => .ite ((Dev.holdSample_evolves ..).mono) .refl

theorem execPwrTempClear_evolves (_val : Word) (s : State) : EvolvesTo [.regs] s (execPwrTempClear _val s) :=
  .go fun _ => .ite ((Dev.wr_evolves ..).after <| (Dev.wr_evolves ..).mono) .refl

theorem execRtcOscillatorStop_evolves (s : State) : EvolvesTo (.tim :: reportParts) s (execRtcOscillatorStop s) := by
  refine .go fun d => ?_
  extract_lets _ d1
  have hd1 : Evolves (.tim :: reportParts) d d1 := Evolves.tim.mono
  exact .ite ((Dev.timeCheck_evolves ..).after <| (Dev.wrb_evolves ..).after <| (Dev.wrb_evolves ..).after hd1) hd1

/-! ## Ingest -/

theorem execFrameProcess_evolves (queue : Fin 10) (s : State) : EvolvesTo [.regs, .rng, .lne, .evr, .flt, .ctx, .tar, .par, .sec, .sch, .img, .lcp, .cals, .ldg, .eth, .fl, .freeCtr, .out] s (execFrameProcess queue s) := by
  refine .go fun d => ?_
  split
  · exact .refl
  · split
    · exact .ite ((Dev.takeFrame_evolves ..).mono) ((Dev.laneDrop_evolves ..).mono)
    · exact .refl

theorem execJoinRx_evolves (queue : Fin 10) (moves : List (Fin 4)) (s : State) : EvolvesTo (.ctx :: .img :: .lcp :: .cals :: .ldg :: linkParts) s (execJoinRx queue moves s) := by
  refine .go fun d => ?_
  split
  · exact .refl
  · rename_i y0 y1 y2 y3
    split
    · rename_i y0 y1 y2 y3
      extract_lets d1
      have hd1 : Evolves (.ctx :: .img :: .lcp :: .cals :: .ldg :: linkParts) d d1 := (Dev.laneDrop_evolves ..).mono
      exact .ite ((Dev.processJoin_evolves ..).after hd1) hd1
    · exact .refl

/-! ## FieldLink -/

theorem execFlFrameRx_evolves (port : Fin 4) (s : State) : EvolvesTo linkParts s (execFlFrameRx port s) := .go fun _ => (Dev.flFrame_evolves ..).mono

theorem execHelloKRx_evolves (s : State) : EvolvesTo linkParts s (execHelloKRx s) := by
  refine .go fun d => ?_
  refine Evolves.onRec (fun d fdx p x r => ?_) .refl
  split
  · rename_i y0 y1 y2 y3 y4 y5 y6 y7 y8
    extract_lets n
    have hn : Evolves linkParts d n.2 := (Dev.draw16_evolves ..).mono
    exact (Dev.musterAdd_evolves ..).after hn
  · exact .refl

theorem execKeywrapRx_evolves (s : State) : EvolvesTo linkParts s (execKeywrapRx s) := by
  refine .go fun d => ?_
  refine Evolves.onRec (fun d fdx x x r => ?_) .refl
  split
  · rename_i y0 y1 y2 y3 y4 y5 y6 y7 y8
    split
    · exact .refl
    · split
      · exact .refl
      · rename_i y0 y1 y2
        extract_lets _ _ d1
        have hd1 : Evolves linkParts d d1 := Evolves.fl.mono
        exact (Dev.sendHello_evolves ..).after hd1
  · exact .refl

theorem execHelloRx_evolves (s : State) : EvolvesTo linkParts s (execHelloRx s) := by
  refine .go fun d => ?_
  refine Evolves.onRec (fun d fdx p x r => ?_) .refl
  split
  · rename_i y0 y1 y2
    extract_lets _ d1
    have hd1 : Evolves linkParts d d1 := (Dev.bump_evolves ..).mono
    exact .ite (.ite ((Dev.record_evolves ..).after <| Evolves.fl.after hd1) hd1) ((Dev.musterAdd_evolves ..).after <| (Dev.setFd_evolves ..).mono)
  · exact .refl

theorem execWelcomeRx_evolves (s : State) : EvolvesTo (.ftl :: .eth :: .fl :: fatalParts) s (execWelcomeRx s) := by
  refine .go fun d => ?_
  refine Evolves.onRec (fun d x x x r => ?_) .refl
  split
  · rename_i y0 y1 y2 y3
    split
    · exact .refl
    · extract_lets d1 _ d2
      have hd1 : Evolves (.ftl :: .eth :: .fl :: fatalParts) d d1 := (Dev.freeHeld_evolves ..).mono
      have hd2 : Evolves (.ftl :: .eth :: .fl :: fatalParts) d d2 := Evolves.fl.after hd1
      exact (Dev.flPush_evolves ..).after <| (Dev.stepFEnd_evolves ..).after hd2
  · exact .refl

theorem execFlHeartbeatRx_evolves (s : State) : EvolvesTo [.fl] s (execFlHeartbeatRx s) := .go fun _ => Evolves.onRec (fun _ _ _ _ _ => .refl) .refl

theorem execMeterUpRx_evolves (s : State) : EvolvesTo (.ctx :: .ldg :: .eth :: .fl :: reportParts) s (execMeterUpRx s) := by
  refine .go fun d => ?_
  refine Evolves.onRec (fun d fdx p x r => ?_) .refl
  split
  · rename_i y0 y1 y2 y3 y4 y5 y6
    extract_lets h
    have hh : Evolves (.ctx :: .ldg :: .eth :: .fl :: reportParts) d h.2 := (Dev.heldRx_evolves ..).mono
    exact .ite hh ((Dev.offer_evolves ..).after <| (Dev.noteFdPort_evolves ..).after hh)
  · exact .refl

theorem execJoinRecordRx_evolves (s : State) : EvolvesTo linkParts s (execJoinRecordRx s) := by
  refine .go fun d => ?_
  refine Evolves.onRec (fun d fdx p rx r => ?_) .refl
  split
  · rename_i y0 y1 y2 y3
    extract_lets h
    have hh : Evolves linkParts d h.2 := (Dev.heldRx_evolves ..).mono
    exact .ite hh ((Dev.offer_evolves ..).after hh)
  · exact .refl

theorem execMeterStsRx_evolves (s : State) : EvolvesTo (.ctx :: .ldg :: .eth :: .fl :: reportParts) s (execMeterStsRx s) := by
  refine .go fun d => ?_
  refine Evolves.onRec (fun d fdx x x r => ?_) .refl
  split
  · rename_i y0 y1 y2 y3 y4 y5 y6
    extract_lets h d1
    have hh : Evolves (.ctx :: .ldg :: .eth :: .fl :: reportParts) d h.2 := (Dev.heldRx_evolves ..).mono
    have hd1 : Evolves (.ctx :: .ldg :: .eth :: .fl :: reportParts) d d1 := (Dev.noteFdPort_evolves ..).after hh
    split
    · exact hh
    · split
      · exact (Dev.editCtx_evolves ..).after hd1
      · exact hd1
  · exact .refl

theorem execPortStsRx_evolves (s : State) : EvolvesTo [.fl] s (execPortStsRx s) := by
  refine .go fun d => ?_
  refine Evolves.onRec (fun d fdx x x r => ?_) .refl
  split
  · exact (Dev.setFd_evolves ..).mono
  · exact .refl

theorem execCheckRecRx_evolves (s : State) : EvolvesTo (.ldg :: .eth :: .fl :: reportParts) s (execCheckRecRx s) := by
  refine .go fun d => ?_
  refine Evolves.onRec (fun d fdx x x r => ?_) .refl
  split
  · rename_i y0 y1 y2
    extract_lets h
    have hh : Evolves (.ldg :: .eth :: .fl :: reportParts) d h.2 := (Dev.heldRx_evolves ..).mono
    exact .ite hh (.ite hh ((Dev.nodeLogs_evolves ..).after hh))
  · exact .refl

theorem execDataAckRx_evolves (s : State) : EvolvesTo (.ftl :: .eth :: .fl :: fatalParts) s (execDataAckRx s) := by
  refine .go fun d => ?_
  refine Evolves.onRec (fun d x x x r => ?_) .refl
  split
  · rename_i y0 y1 y2
    extract_lets d1
    have hd1 : Evolves (.ftl :: .eth :: .fl :: fatalParts) d d1 := .foldl (fun _ _ => (Dev.learnForwarded_evolves ..).mono) .refl
    exact (Dev.flPush_evolves ..).after <| (Dev.freeHeld_evolves ..).after <| Evolves.fl.after hd1
  · exact .refl

theorem execOrderRx_evolves (s : State) : EvolvesTo (.ctx :: .sch :: .lcp :: .eth :: .fl :: reportParts) s (execOrderRx s) := by
  refine .go fun d => ?_
  refine Evolves.onRec (fun d x x x r => ?_) .refl
  split
  · split
    · rename_i y0 y1 y2
      exact (Dev.orderKnown_evolves y2).mono
    · exact .ite ((Dev.castOrder_evolves ..).mono) ((Dev.meterOrder_evolves ..).mono)
  · exact .refl

theorem execOrderDeadline_evolves (order : Word) (s : State) : EvolvesTo (.tim :: .sch :: .eth :: .fl :: reportParts) s (execOrderDeadline order s) := by
  refine .go fun d => ?_
  extract_lets
  split
  · exact .refl
  · rename_i y0 y1 y2
    split
    · exact .refl
    · extract_lets d1 _ d2
      have hd1 : Evolves (.tim :: .sch :: .eth :: .fl :: reportParts) d d1 := (Dev.toNs_evolves ..).mono
      have hd2 : Evolves (.tim :: .sch :: .eth :: .fl :: reportParts) d d2 := Evolves.sch.after hd1
      exact (Dev.orderDone_evolves ..).after hd2

theorem execJoinOkRx_evolves (moves : List (Fin 4)) (s : State) : EvolvesTo (.ctx :: .lcp :: .cals :: .ldg :: .eth :: .fl :: reportParts) s (execJoinOkRx moves s) := by
  refine .go fun d => ?_
  refine Evolves.onRec (fun d x x x r => ?_) .refl
  split
  · split
    · rename_i y0 y1 y2
      exact (Dev.orderKnown_evolves y2).mono
    · exact (Dev.joinOk_evolves ..).mono
  · exact .refl

theorem execReleaseRx_evolves (s : State) : EvolvesTo (.ctx :: .sec :: .sch :: .img :: .lcp :: .cals :: linkParts) s (execReleaseRx s) := by
  refine .go fun d => ?_
  refine Evolves.onRec (fun d x x x r => ?_) .refl
  split
  · split
    · rename_i y0 y1 y2
      exact (Dev.orderKnown_evolves y2).mono
    · split
      · split
        · exact (Dev.orderDone_evolves ..).after (.ite ((Dev.freeCtx_evolves ..).mono) .refl)
        · exact (Dev.orderDone_evolves ..).mono
      · exact (Dev.orderDone_evolves ..).mono
  · exact .refl

theorem execOrderDoneRx_evolves (s : State) : EvolvesTo [.regs, .rng, .lne, .evr, .flt, .ctx, .tar, .par, .sec, .sch, .img, .lcp, .ldg, .eth, .fl, .freeCtr, .out] s (execOrderDoneRx s) := by
  refine .go fun d => ?_
  refine Evolves.onRec (fun d fdx x x r => ?_) .refl
  split
  · rename_i y0 y1 y2 y3 y4 y5 y6
    extract_lets h
    have hh : Evolves [.regs, .rng, .lne, .evr, .flt, .ctx, .tar, .par, .sec, .sch, .img, .lcp, .ldg, .eth, .fl, .freeCtr, .out] d h.2 := (Dev.heldRx_evolves ..).mono
    exact .ite ((Dev.orderResult_evolves ..).after hh) hh
  · exact .refl

theorem execTimeRecordRx_evolves (s : State) : EvolvesTo (.tim :: .ctx :: .tar :: .cals :: .met :: linkParts) s (execTimeRecordRx s) := by
  refine .go fun d => ?_
  refine Evolves.onRec (fun d x x rx r => ?_) .refl
  split
  · exact (Dev.timeRec_evolves ..).mono
  · exact .refl

theorem execDelayReqRx_evolves (s : State) : EvolvesTo linkParts s (execDelayReqRx s) := by
  refine .go fun d => ?_
  refine Evolves.onRec (fun d fdx x rx r => ?_) .refl
  split
  · exact (Dev.flSend_evolves ..).mono
  · exact .refl

theorem execDelayRspRx_evolves (s : State) : EvolvesTo [.tim, .fl] s (execDelayRspRx s) := by
  refine .go fun d => ?_
  refine Evolves.onRec (fun d x x x r => ?_) .refl
  split
  · split
    · exact .ite Evolves.tim.mono .refl
    · exact .refl
  · exact .refl

theorem execFlTimeSend_evolves (fdx : Fin 1024) (s : State) : EvolvesTo (.tim :: .eth :: .fl :: reportParts) s (execFlTimeSend fdx s) := by
  refine .go fun d => ?_
  split
  · extract_lets d1
    have hd1 : Evolves (.tim :: .eth :: .fl :: reportParts) d d1 := (Dev.toMono_evolves ..).mono
    exact (Dev.flSend_evolves ..).after <| (Dev.setFd_evolves ..).after hd1
  · exact .refl

theorem execFlTimeMiss_evolves (s : State) : EvolvesTo (.tim :: reportParts) s (execFlTimeMiss s) := by
  refine .go fun d => ?_
  split
  · exact .refl
  · rename_i y0 y1 y2
    split
    · exact .refl
    · extract_lets d1 _ _ d2
      have hd1 : Evolves (.tim :: reportParts) d d1 := (Dev.bump_evolves ..).after <| (Dev.toMono_evolves ..).mono
      have hd2 : Evolves (.tim :: reportParts) d d2 := Evolves.tim.after hd1
      exact .ite ((Dev.sourceLost_evolves ..).after hd2) hd2

theorem execFlHeartbeatSend_evolves (fdx : Fin 1024) (s : State) : EvolvesTo (.tim :: .eth :: .fl :: reportParts) s (execFlHeartbeatSend fdx s) :=
  .go fun _ => .ite ((Dev.flSend_evolves ..).after <| (Dev.musterSend_evolves ..).after <| (Dev.toMono_evolves ..).mono) .refl

theorem execFlLinkLost_evolves (s : State) : EvolvesTo (.tim :: .eth :: .fl :: reportParts) s (execFlLinkLost s) := by
  refine .go fun d => ?_
  split
  · extract_lets d1
    have hd1 : Evolves (.tim :: .eth :: .fl :: reportParts) d d1 := (Dev.toMono_evolves ..).mono
    split
    · exact .ite hd1 ((Dev.flTake_evolves ..).after hd1)
    · exact Evolves.fl.after hd1
  · exact .refl

theorem execEthLinkUp_evolves (port : Fin 4) (speed : Fin 3) (s : State) : EvolvesTo linkParts s (execEthLinkUp port speed s) := by
  refine .go fun d => ?_
  split
  · extract_lets d1
    have hd1 : Evolves linkParts d d1 := (Dev.wr_evolves ..).after <| (Dev.wrb_evolves ..).mono
    exact (Dev.flStart_evolves ..).after <| (Dev.setEp_evolves ..).after hd1
  · exact .refl

theorem execFdxLost_evolves (fdx : Fin 1024) (s : State) : EvolvesTo (.tim :: .par :: .fl :: reportParts) s (execFdxLost fdx s) := by
  refine .go fun d => ?_
  split
  · extract_lets d1
    have hd1 : Evolves (.tim :: .par :: .fl :: reportParts) d d1 := (Dev.toMono_evolves ..).mono
    exact (Dev.recordPost_evolves ..).after <| (Dev.drillFd_evolves ..).after <| (Dev.setFd_evolves ..).after hd1
  · exact .refl

theorem execFlRtoExpiry_evolves (s : State) : EvolvesTo (.tim :: .eth :: .fl :: reportParts) s (execFlRtoExpiry s) := by
  refine .go fun d => ?_
  extract_lets
  split
  · exact .refl
  · split
    · split
      · rename_i y0 y1 y2
        split
        · exact .refl
        · extract_lets d1
          have hd1 : Evolves (.tim :: .eth :: .fl :: reportParts) d d1 := (Dev.toMono_evolves ..).mono
          exact Evolves.fl.after <| (Dev.flSend_evolves ..).after hd1
      · exact .refl
    · split
      · rename_i y0 y1 y2
        extract_lets d1
        have hd1 : Evolves (.tim :: .eth :: .fl :: reportParts) d d1 := (Dev.toMono_evolves ..).mono
        exact Evolves.fl.after <| (Dev.flSend_evolves ..).after hd1
      · exact .refl

theorem execDataAckDue_evolves (fdx : Fin 1024) (s : State) : EvolvesTo (.tim :: .eth :: .fl :: reportParts) s (execDataAckDue fdx s) := by
  refine .go fun d => ?_
  split
  · exact .ite ((Dev.dataAck_evolves ..).after <| (Dev.toMono_evolves ..).mono) .refl
  · exact .refl

theorem execHelloResend_evolves (s : State) : EvolvesTo (.tim :: .eth :: .fl :: reportParts) s (execHelloResend s) := by
  refine .go fun d => ?_
  split
  · exact .refl
  · split
    · exact (Dev.sendHelloK_evolves ..).after <| (Dev.toMono_evolves ..).mono
    · split
      · extract_lets d1
        have hd1 : Evolves (.tim :: .eth :: .fl :: reportParts) d d1 := (Dev.toMono_evolves ..).mono
        exact .ite ((Dev.sendHelloK_evolves ..).after hd1) ((Dev.sendHello_evolves ..).after hd1)
      · exact .refl

theorem execPortStsSend_evolves (s : State) : EvolvesTo (.tim :: .eth :: .fl :: reportParts) s (execPortStsSend s) := by
  refine .go fun d => ?_
  split
  · extract_lets d1
    have hd1 : Evolves (.tim :: .eth :: .fl :: reportParts) d d1 := (Dev.toMono_evolves ..).mono
    exact (Dev.flUp_evolves ..).after <| Evolves.fl.after hd1
  · exact .refl

theorem execFlCodeVoid_evolves (s : State) : EvolvesTo [.tim, .evr, .fl] s (execFlCodeVoid s) := by
  refine .go fun d => ?_
  split
  · rename_i y0 y1 y2
    split
    · extract_lets d1
      have hd1 : Evolves [.tim, .evr, .fl] d d1 := (Dev.toMono_evolves ..).mono
      exact Evolves.fl.after hd1
    · exact .refl
  · exact .refl

theorem execFlPortFailback_evolves (s : State) : EvolvesTo (.tim :: .eth :: .fl :: reportParts) s (execFlPortFailback s) := by
  refine .go fun d => ?_
  split
  · exact .refl
  · split
    · split
      · exact (Dev.flTake_evolves ..).after <| (Dev.toMono_evolves ..).mono
      · exact .refl
    · exact .refl

/-! ## Ledger -/

theorem execReadLog_evolves (pair : Fin 64) (s : State) : EvolvesTo [.regs, .rng, .out] s (execReadLog pair s) :=
  .go fun _ => Evolves.onDesc (fun _ _ => (Dev.readLog_evolves ..).mono) .refl

theorem execGapFill_evolves (mix : BitVec 20) (s : State) : EvolvesTo (.tim :: .ctx :: .ldg :: reportParts) s (execGapFill mix s) := by
  refine .go fun d => ?_
  split
  · exact .ite ((Dev.fillRun_evolves ..).after <| (Dev.toNs_evolves ..).mono) .refl
  · exact .refl

theorem execVeeFlagsClear_evolves (s : State) : EvolvesTo [.tim, .evr, .ctx] s (execVeeFlagsClear s) := by
  refine .go fun d => ?_
  split
  · extract_lets d1
    have hd1 : Evolves [.tim, .evr, .ctx] d d1 := (Dev.toNs_evolves ..).mono
    exact .foldl (fun _ _ => .ite .refl ((Dev.editCtx_evolves ..).mono)) hd1
  · exact .refl

theorem execIntervalEventWindow_evolves (s : State) : EvolvesTo (.tim :: .ldg :: reportParts) s (execIntervalEventWindow s) := by
  refine .go fun d => ?_
  split
  · extract_lets _ d1
    have hd1 : Evolves (.tim :: .ldg :: reportParts) d d1 := (Dev.toMono_evolves ..).mono
    exact .ite hd1 ((Dev.post_evolves ..).after <| Evolves.ldg.after hd1)
  · exact .refl

theorem execBalanceForm_evolves (s : State) : EvolvesTo [.regs, .tim, .evr, .ldg] s (execBalanceForm s) := by
  refine .go fun d => ?_
  split
  · extract_lets _ d1 _ d2
    have hd1 : Evolves [.regs, .tim, .evr, .ldg] d d1 := (Dev.toNs_evolves ..).mono
    have hd2 : Evolves [.regs, .tim, .evr, .ldg] d d2 := Evolves.ldg.after hd1
    exact .ite (.foldl (fun _ _ => (Dev.formRow_evolves ..).mono) hd2) hd2
  · exact .refl

theorem execLedgerEvaluation_evolves (s : State) : EvolvesTo (.tim :: .ctx :: .tar :: .par :: .ldg :: reportParts) s (execLedgerEvaluation s) := by
  refine .go fun d => ?_
  split
  · extract_lets _ d1
    have hd1 : Evolves (.tim :: .ctx :: .tar :: .par :: .ldg :: reportParts) d d1 := (Dev.toNs_evolves ..).mono
    exact .ite (Evolves.ldg.after hd1) (.ite (Evolves.ldg.after hd1) ((Dev.evaluate_evolves ..).after hd1))
  · exact .refl

theorem execLedgerRecomputeDone_evolves (s : State) : EvolvesTo (.ctx :: .tar :: .par :: .ldg :: reportParts) s (execLedgerRecomputeDone s) := by
  refine .go fun d => ?_
  split
  · extract_lets _ d1
    have hd1 : Evolves (.ctx :: .tar :: .par :: .ldg :: reportParts) d d1 := Evolves.ldg.mono
    exact .ite ((Dev.evaluate_evolves ..).after hd1) hd1
  · exact .refl

theorem execNodeDataSnapshotRead_evolves (s : State) : EvolvesTo [.ldg, .out] s (execNodeDataSnapshotRead s) := by
  refine .go fun d => ?_
  split
  · extract_lets
    exact (Dev.emit_evolves ..).after <| Evolves.ldg.mono
  · exact .refl

/-! ## Metrology -/

theorem execMetChOutput_evolves (ch : Fin 24) (bits : ℕ) (overload : Bool) (s : State) : EvolvesTo [.regs, .dirty, .tim, .evr, .met, .freeCtr] s (execMetChOutput ch bits overload s) := by
  refine .go fun d => ?_
  split
  · extract_lets d1
    have hd1 : Evolves [.regs, .dirty, .tim, .evr, .met, .freeCtr] d d1 := (Dev.chOutput_evolves ..).mono
    split
    · exact .ite ((Dev.cmSample_evolves ..).after hd1) hd1
    · exact hd1
  · exact .refl

theorem execSwapArm_evolves (ch : Fin 24) (val : Word) (s : State) : EvolvesTo [.regs, .dirty, .met] s (execSwapArm ch val s) := by
  refine .go fun d => ?_
  split
  · extract_lets d1 _ _ d2
    have hd1 : Evolves [.regs, .dirty, .met] d d1 := (Dev.plainWrite_evolves ..).mono
    have hd2 : Evolves [.regs, .dirty, .met] d d2 := (Dev.setMch_evolves ..).after hd1
    exact .ite (.ite ((Dev.wrb_evolves ..).after hd2) hd2) ((Dev.setMch_evolves ..).after hd1)
  · exact .refl

theorem execMetTrimGainWrite_evolves (ch : Fin 24) (gain : Bool) (val : Word) (s : State) : EvolvesTo [.regs, .dirty, .met] s (execMetTrimGainWrite ch gain val s) :=
  .go fun _ => .ite ((Dev.trimGain_evolves ..).mono) .refl

theorem execBankActiveWrite_evolves (ch : Fin 24) (_word : Fin 97) (_val : Word) (s : State) : EvolvesTo [.regs] s (execBankActiveWrite ch _word _val s) :=
  .go fun _ => .ite ((Dev.wrb_evolves ..).mono) .refl

theorem execBitstreamStuck_evolves (ch : Fin 24) (s : State) : EvolvesTo fatalParts s (execBitstreamStuck ch s) :=
  .go fun _ => .ite ((Dev.fault_evolves ..).after <| (Dev.wrb_evolves ..).mono) .refl

theorem execBitstreamRecover_evolves (ch : Fin 24) (s : State) : EvolvesTo [.regs] s (execBitstreamRecover ch s) :=
  .go fun _ => .ite ((Dev.wrb_evolves ..).mono) .refl

theorem execCmSecond_evolves (cm : Fin 4) (s : State) : EvolvesTo [.regs, .met, .freeCtr] s (execCmSecond cm s) := by
  refine .go fun d => ?_
  split
  · exact .ite ((Dev.cmSecond_evolves ..).mono) .refl
  · exact .refl

theorem execCmIntervalClose_evolves (cm : Fin 4) (s : State) : EvolvesTo (.ldg :: .met :: .eth :: .fl :: reportParts) s (execCmIntervalClose cm s) := by
  refine .go fun d => ?_
  split
  · exact .ite ((Dev.cmClose_evolves ..).mono) .refl
  · exact .refl

theorem execMetSampleSnapshotRead_evolves (ch : Fin 24) (s : State) : EvolvesTo [.met, .out] s (execMetSampleSnapshotRead ch s) := by
  refine .go fun d => ?_
  split
  · extract_lets
    exact (Dev.emit_evolves ..).after <| (Dev.setMch_evolves ..).mono
  · exact .refl

theorem execCmLastSnapshotRead_evolves (cm : Fin 4) (s : State) : EvolvesTo [.met, .out] s (execCmLastSnapshotRead cm s) := by
  refine .go fun d => ?_
  split
  · extract_lets
    exact (Dev.emit_evolves ..).after <| (Dev.setMcm_evolves ..).mono
  · exact .refl

/-! ## Update -/

theorem execFwWrite_evolves (pair : Fin 64) (buf : HostRead) (s : State) : EvolvesTo [.regs, .rng, .upd, .out] s (execFwWrite pair buf s) :=
  .go fun _ => Evolves.onDescRead (fun _ _ _ => (Dev.fwWrite_evolves ..).mono) .refl

theorem execFwActivate_evolves (pair : Fin 64) (s : State) : EvolvesTo (.fn :: .ctx :: .par :: .upd :: reportParts) s (execFwActivate pair s) :=
  .go fun _ => Evolves.onDesc (fun _ _ => (Dev.fwActivate_evolves ..).mono) .refl

theorem execActivationReset_evolves (s : State) : EvolvesTo [.regs, .dirty, .fn, .glb, .tim, .rng, .lne, .evr, .flt, .ctx, .tar, .par, .ftl, .nand, .sec, .sch, .lcp, .rad, .cals, .ldg, .met, .eth, .fl, .upd, .freeCtr, .out] s (execActivationReset s) :=
  .go fun _ => .ite .refl (.ite ((Dev.installGo_evolves ..).mono) (.ite ((Dev.activationReset_evolves ..).mono) .refl))

theorem execHitlessStep_evolves (s : State) : EvolvesTo [.regs, .dirty, .fn, .glb, .tim, .rng, .lne, .evr, .flt, .ctx, .tar, .par, .ftl, .nand, .sec, .sch, .lcp, .rad, .cals, .ldg, .met, .eth, .fl, .upd, .freeCtr, .out] s (execHitlessStep s) :=
  .go fun _ => .ite ((Dev.hitlessStep_evolves ..).mono) .refl

theorem execHitlessStop_evolves (s : State) : EvolvesTo (.tim :: .upd :: reportParts) s (execHitlessStop s) :=
  .go fun _ => .ite ((Dev.hitlessStop_evolves ..).mono) .refl

theorem execPairImageRx_evolves (pause : Bool) (offset : ℕ) (total : ℕ) (bytes : List Byte) (s : State) : EvolvesTo [.regs, .dirty, .fn, .glb, .tim, .rng, .lne, .evr, .flt, .ctx, .tar, .par, .ftl, .nand, .sec, .sch, .lcp, .rad, .cals, .ldg, .met, .eth, .fl, .upd, .freeCtr, .out] s (execPairImageRx pause offset total bytes s) := by
  refine .go fun d => ?_
  split
  · exact .refl
  · extract_lets _ d1
    have hd1 : Evolves [.regs, .dirty, .fn, .glb, .tim, .rng, .lne, .evr, .flt, .ctx, .tar, .par, .ftl, .nand, .sec, .sch, .lcp, .rad, .cals, .ldg, .met, .eth, .fl, .upd, .freeCtr, .out] d d1 := Evolves.par.mono
    exact .ite hd1 (.ite (Evolves.upd.after hd1) ((Dev.imageWhole_evolves ..).after hd1))

theorem execTftpRecoveryRead_evolves (block : Option (List Byte)) (s : State) : EvolvesTo [.tim, .evr, .upd] s (execTftpRecoveryRead block s) :=
  .ite .fault (.go fun _ => .ite (Dev.tftpRead_evolves ..) .refl)

theorem execRecoveryInstall_evolves (s : State) : EvolvesTo [.regs, .dirty, .fn, .glb, .tim, .rng, .lne, .evr, .flt, .ctx, .tar, .par, .ftl, .nand, .sec, .sch, .lcp, .rad, .cals, .ldg, .met, .eth, .fl, .upd, .freeCtr, .out] s (execRecoveryInstall s) := by
  refine .go fun d => ?_
  split
  · exact .refl
  · split
    · exact .refl
    · rename_i y0 y1 y2 y3
      split
      · exact (Dev.discard_evolves ..).mono
      · extract_lets _ d1
        have hd1 : Evolves [.regs, .dirty, .fn, .glb, .tim, .rng, .lne, .evr, .flt, .ctx, .tar, .par, .ftl, .nand, .sec, .sch, .lcp, .rad, .cals, .ldg, .met, .eth, .fl, .upd, .freeCtr, .out] d d1 := (Dev.recordPost_evolves ..).after <| (Dev.writeRun_evolves ..).mono
        exact (Dev.latchReset_evolves ..).after <| Evolves.upd.after hd1

/-! ## Bus -/

theorem State.regWrite_evolves (s : State) (base i off v : Nat) : Evolves everyPart s.dev (s.regWrite base i off v).dev := by
  have hfn (d : Dev) (fix w : Nat) : Evolves everyPart d (d.fnCfgWrite fix w) := (Dev.fnCfgWrite_evolves ..).mono
  have hplain (d : Dev) (w : Nat) : Evolves everyPart d (d.plainWrite off w) := (Dev.plainWrite_evolves ..).mono
  have hafter {ps : List Part} {o : Host.Outcome State Fault Refusal} (ho : EvolvesTo ps s o) (hs : ps ⊆ everyPart := by decide) :
      Evolves everyPart s.dev (s.after o).dev := ho.after.mono hs
  unfold State.regWrite
  dsimp only
  split
  · exact hafter (execSoftReset_evolves ..)
  · exact hafter (execFunctionReset_evolves ..)
  · exact hfn ..
  · exact hafter (execRngPairCntClear_evolves ..)
  · exact hafter (execRngLatClr_evolves ..)
  · exact (Dev.queueFlush_evolves ..).mono
  · exact hafter (execTamperLatchClear_evolves ..)
  · exact (State.rootCtl_evolves ..).mono
  · exact hafter (execCloneCodeWrite_evolves ..)
  · exact (State.ktkCtl_evolves ..).mono
  · exact Evolves.sec.mono
  · exact (Dev.plainWrite_evolves ..).after (Dev.setWord_evolves ..).mono
  · exact hfn ..
  · exact hafter (execGovCapWrite_evolves ..)
  · exact (Dev.fuseGo_evolves ..).mono
  · exact hfn ..
  · exact hfn ..
  · exact (Dev.mgtGo_evolves ..).mono
  · exact hafter (execMgtRxPop_evolves ..)
  · exact (Dev.flCodeWrite_evolves ..).mono
  · exact hafter (execHostTimerEnable_evolves ..)
  · exact hafter (execHostTimerEnable_evolves ..)
  · exact (Dev.txqPop_evolves ..).mono
  · exact hfn ..
  · exact (Dev.trimGain_evolves ..).mono
  · exact (Dev.trimGain_evolves ..).mono
  · exact hafter (execSwapArm_evolves ..)
  · exact .ite (Dev.wrb_evolves ..).mono (hplain ..)
  · exact hfn ..
  · exact (Dev.ftlCtl_evolves ..).mono
  · exact hfn ..
  · exact hafter (execPairForce_evolves ..)
  · exact hafter (execParDeltaClear_evolves ..)
  · exact (Dev.degradedClear_evolves ..).mono
  · exact (Dev.pinCtrl_evolves ..).mono
  · exact hafter (execFltCounterClear_evolves ..)
  · exact hafter (execEvrFreeze_evolves ..)
  · exact (Dev.enChanged_evolves ..).after (hplain ..)
  · exact hafter (execPwrTempClear_evolves ..)
  · exact hplain ..

theorem State.busWrite_evolves (s : State) (off v : Nat) : Evolves everyPart s.dev (s.busWrite off v).dev := by
  unfold State.busWrite
  split
  · exact .refl
  split
  · exact (Dev.winWrite_evolves ..).mono
  split
  · exact State.regWrite_evolves ..
  · exact .refl

/-- The effect of a read. -/
theorem readEffect_evolves {off : Nat} {f : State → Host.Outcome State Fault Refusal} (hf : readEffect off = some f) (s : State) :
    EvolvesTo everyPart s (f s) := by
  unfold readEffect at hf
  split at hf
  · obtain rfl := Option.some.inj hf; exact (execNbSnapshotRead_evolves ..).mono
  · obtain rfl := Option.some.inj hf; exact (execNbSnapshotRead_evolves ..).mono
  · obtain rfl := Option.some.inj hf; exact (execEthCounterSnapshotRead_evolves ..).mono
  · obtain rfl := Option.some.inj hf; exact (execCmLastSnapshotRead_evolves ..).mono
  · obtain rfl := Option.some.inj hf; exact (execNodeDataSnapshotRead_evolves ..).mono
  · cases hf
  · split at hf
    · cases hf
    · split at hf
      · obtain rfl := Option.some.inj hf; exact (execTimeSnapshotRead_evolves ..).mono
      · obtain rfl := Option.some.inj hf; exact (execCapturePop_evolves ..).mono
      · obtain rfl := Option.some.inj hf; exact (execMetSampleSnapshotRead_evolves ..).mono
      · obtain rfl := Option.some.inj hf; exact (execFaultHistSnapshotRead_evolves ..).mono
      · obtain rfl := Option.some.inj hf; exact (execEvrSnapshotRead_evolves ..).mono
      · cases hf

theorem State.busRead_evolves (s : State) (off : Nat) : Evolves everyPart s.dev (s.busRead off).2.dev := by
  unfold State.busRead
  split
  · exact .refl
  split
  · exact .refl
  split
  · next hf => exact (Dev.took_evolves ..).after (readEffect_evolves hf s).after
  · exact .refl

theorem execRegisterWrite_evolves (off : BitVec 24) (val : Word) (s : State) : EvolvesTo everyPart s (execRegisterWrite off val s) := by
  refine .next ?_
  split
  · exact State.busWrite_evolves ..
  · exact .refl

theorem execCfgLockSet_evolves (val : Word) (s : State) : EvolvesTo [.regs, .dirty] s (execCfgLockSet val s) :=
  .go fun _ => .ite ((Dev.plainWrite_evolves ..).mono) .refl

theorem execUnalignedAccess_evolves (isWrite : Bool) (off : BitVec 24) (bytes : Nat) (s : State) :
    EvolvesTo [.out] s (execUnalignedAccess isWrite off bytes s) :=
  .ite .fault (.go fun _ => .ite .refl (Dev.emit_evolves ..))

/-! ## CfgCmd -/

theorem execConfigStoreWrite_evolves (s : State) : EvolvesTo [.store, .dirty] s (execConfigStoreWrite s) :=
  .go fun _ => .ite ((Dev.storeAll_evolves ..).mono) .refl

theorem execCfgCommit_evolves (pair : Fin 64) (s : State) : EvolvesTo [.regs, .store, .dirty, .rng] s (execCfgCommit pair s) :=
  .go fun _ => Evolves.onDesc (fun _ _ => (Dev.complete_evolves ..).after <| (Dev.storeAll_evolves ..).mono) .refl

/-- An opcode on the whole state changes what its meaning changes, where that covers a completion. -/
theorem State.onDesc_evolves {ps : List Part} {f : State → Held → State} (s : State) (p op : Nat) (hf : ∀ h, Evolves ps s.dev (f s h).dev)
    (hs : [.regs, .rng] ⊆ ps := by decide) : Evolves ps s.dev (s.onDesc p op f).dev := by
  unfold State.onDesc
  split
  · exact .refl
  split
  · exact .refl
  split
  · exact (Dev.complete_evolves ..).mono hs
  · exact hf _

theorem State.done_evolves {ps : List Part} {d : Dev} {t : State} (h : Evolves ps d t.dev) (p id st sub : Nat) (res : List Nat)
    (hs : [.regs, .rng] ⊆ ps := by decide) : Evolves ps d (t.done p id st sub res).dev := (Dev.complete_evolves ..).after h hs

theorem State.cfgSet_evolves (s : State) (p : Nat) (h : Held) : Evolves everyPart s.dev (s.cfgSet p h).dev := by
  unfold State.cfgSet
  split
  · exact State.done_evolves .refl ..
  · exact State.done_evolves (t := { s with dev := _ }) (Dev.timerSet_evolves ..).mono ..
  · split
    · exact State.done_evolves .refl ..
    split
    · exact State.done_evolves .refl ..
    · exact State.done_evolves ((State.busRead_evolves ..).after (State.busWrite_evolves ..)) ..

theorem execCfgSet_evolves (pair : Fin 64) (s : State) : EvolvesTo everyPart s (execCfgSet pair s) :=
  .next (State.onDesc_evolves _ _ _ fun _ => State.cfgSet_evolves ..)

theorem State.cfgGet_evolves (s : State) (p : Nat) (h : Held) : Evolves everyPart s.dev (s.cfgGet p h).dev := by
  unfold State.cfgGet
  split
  · exact State.done_evolves .refl ..
  · exact State.done_evolves .refl ..
  · exact State.done_evolves (State.busRead_evolves ..) ..

theorem execCfgGet_evolves (pair : Fin 64) (s : State) : EvolvesTo everyPart s (execCfgGet pair s) :=
  .next (State.onDesc_evolves _ _ _ fun _ => State.cfgGet_evolves ..)

theorem State.diagCounters_evolves (s : State) (p : Nat) (h : Held) : Evolves [.regs, .rng, .out] s.dev (s.diagCounters p h).dev := by
  unfold State.diagCounters
  dsimp only
  split
  · exact State.done_evolves .refl ..
  · exact State.done_evolves (t := { s with dev := _ }) (Dev.writeBuf_evolves ..).mono ..

theorem execDiagCounters_evolves (pair : Fin 64) (s : State) : EvolvesTo [.regs, .rng, .out] s (execDiagCounters pair s) :=
  .next (State.onDesc_evolves _ _ _ fun _ => State.diagCounters_evolves ..)

theorem execDiagLoop_evolves (pair : Fin 64) (s : State) : EvolvesTo [.regs, .rng, .sch] s (execDiagLoop pair s) :=
  .go fun _ => Evolves.onDesc (fun _ _ => (Dev.diagLoop_evolves ..).mono) .refl

theorem execDiagLoopEnd_evolves (loop : ℕ) (pass : Bool) (part : BitVec 8) (errors : BitVec 16) (s : State) : EvolvesTo [.regs, .rng, .sch] s (execDiagLoopEnd loop pass part errors s) :=
  .go fun _ => .ite ((Dev.loopEnd_evolves ..).mono) .refl

/-! ## Images -/

theorem execImageStage_evolves (pair : Fin 64) (buf : HostRead) (s : State) : EvolvesTo (.img :: reportParts) s (execImageStage pair buf s) :=
  .go fun _ => Evolves.onDescRead (fun _ _ _ => (Dev.imageStage_evolves ..).mono) .refl

theorem execImageStart_evolves (pair : Fin 64) (s : State) : EvolvesTo (.ctx :: .img :: reportParts) s (execImageStart pair s) := by
  refine .go fun d => ?_
  refine Evolves.onDesc (fun d h => ?_) .refl
  extract_lets
  split
  · exact (Dev.complete_evolves ..).mono
  · exact .ite ((Dev.complete_evolves ..).mono) (.ite ((Dev.complete_evolves ..).mono) ((Dev.complete_evolves ..).after <| (Dev.imageBegin_evolves ..).mono))

theorem execImageStatus_evolves (pair : Fin 64) (s : State) : EvolvesTo [.regs, .rng] s (execImageStatus pair s) := by
  refine .go fun d => ?_
  refine Evolves.onDesc (fun d h => ?_) .refl
  split
  · exact Evolves.withCtx (fun _ _ => (Dev.complete_evolves ..).mono) .refl
  · extract_lets
    exact (Dev.complete_evolves ..).mono

theorem execImageAbort_evolves (pair : Fin 64) (s : State) : EvolvesTo (.ctx :: .sch :: .img :: reportParts) s (execImageAbort pair s) := by
  refine .go fun d => ?_
  refine Evolves.onDesc (fun d h => ?_) .refl
  extract_lets
  exact .ite ((Dev.complete_evolves ..).mono) (.ite ((Dev.complete_evolves ..).after <| (Dev.imgFree_evolves ..).mono) ((Dev.complete_evolves ..).after (.ite ((Dev.campAbort_evolves ..).mono) .refl)))

theorem execImageWindowOpen_evolves (grp : Fin 4096) (s : State) : EvolvesTo (.tim :: .img :: reportParts) s (execImageWindowOpen grp s) := by
  refine .go fun d => ?_
  split
  · exact .refl
  · exact .ite .refl ((Dev.campState_evolves ..).after (.ite .refl ((Dev.toNs_evolves ..).mono)))

theorem execImageWindowClose_evolves (grp : Fin 4096) (s : State) : EvolvesTo (.tim :: .img :: reportParts) s (execImageWindowClose grp s) := by
  refine .go fun d => ?_
  split
  · exact .refl
  · exact .ite .refl ((Dev.campState_evolves ..).after (.ite ((Dev.toNs_evolves ..).mono) .refl))

theorem execImagePassStart_evolves (grp : Fin 4096) (port : Fin 7) (fdx : Fin 1024) (s : State) : EvolvesTo [.regs, .tim, .evr, .img] s (execImagePassStart grp port fdx s) := by
  refine .go fun d => ?_
  extract_lets
  split
  · exact .refl
  · rename_i y0 y1 y2 y3
    extract_lets _ d1
    have hd1 : Evolves [.regs, .tim, .evr, .img] d d1 := by
      unfold d1
      split
      · exact (Dev.toNs_evolves ..).mono
      · exact .refl
    exact .ite .refl (.ite ((Dev.passStart_evolves ..).after hd1) hd1)

/-! ## Every command -/

/-- Whatever a command leaves, its recorder has only grown. -/
theorem exec_grows {c : Instr} {s t : State} (h : exec c s = .next t) : RecsGrow s.dev t.dev := by
  cases c with
  | registerWrite => exact ((execRegisterWrite_evolves ..).leaves t h).grows
  | unalignedAccess => exact ((execUnalignedAccess_evolves ..).leaves t h).grows
  | cfgLockSet => exact ((execCfgLockSet_evolves ..).leaves t h).grows
  | configStoreWrite => exact ((execConfigStoreWrite_evolves ..).leaves t h).grows
  | doorbellSubTail => exact ((execDoorbellSubTail_evolves ..).leaves t h).grows
  | doorbellCmpHead => exact ((execDoorbellCmpHead_evolves ..).leaves t h).grows
  | fetchGrant => exact ((execFetchGrant_evolves ..).leaves t h).grows
  | fetchFailed => exact ((execFetchFailed_evolves ..).leaves t h).grows
  | completionWrite => exact ((execCompletionWrite_evolves ..).leaves t h).grows
  | eventPost => exact ((execEventPost_evolves ..).leaves t h).grows
  | irqModTimer => exact ((execIrqModTimer_evolves ..).leaves t h).grows
  | msixUnmask => exact ((execMsixUnmask_evolves ..).leaves t h).grows
  | stoppingPairTimeout => exact ((execStoppingPairTimeout_evolves ..).leaves t h).grows
  | rngLatClr val => exact ((execRngLatClr_evolves val s).leaves t h).grows
  | rngPairCntClear pair val => exact ((execRngPairCntClear_evolves pair val s).leaves t h).grows
  | reservedOpcode => exact ((execReservedOpcode_evolves ..).leaves t h).grows
  | cfgSet => exact ((execCfgSet_evolves ..).leaves t h).grows
  | cfgGet => exact ((execCfgGet_evolves ..).leaves t h).grows
  | cfgCommit => exact ((execCfgCommit_evolves ..).leaves t h).grows
  | policyLoad => exact ((execPolicyLoad_evolves ..).leaves t h).grows
  | policyGet => exact ((execPolicyGet_evolves ..).leaves t h).grows
  | policyHold => exact ((execPolicyHold_evolves ..).leaves t h).grows
  | readNow => exact ((execReadNow_evolves ..).leaves t h).grows
  | readLog => exact ((execReadLog_evolves ..).leaves t h).grows
  | writeObj => exact ((execWriteObj_evolves ..).leaves t h).grows
  | writeAction => exact ((execWriteAction_evolves ..).leaves t h).grows
  | writeTime => exact ((execWriteTime_evolves ..).leaves t h).grows
  | tariffLoad => exact ((execTariffLoad_evolves ..).leaves t h).grows
  | tariffActivate => exact ((execTariffActivate_evolves ..).leaves t h).grows
  | tariffGet => exact ((execTariffGet_evolves ..).leaves t h).grows
  | timeConfirm => exact ((execTimeConfirm_evolves ..).leaves t h).grows
  | imageStage => exact ((execImageStage_evolves ..).leaves t h).grows
  | imageStart => exact ((execImageStart_evolves ..).leaves t h).grows
  | imageStatus => exact ((execImageStatus_evolves ..).leaves t h).grows
  | imageAbort => exact ((execImageAbort_evolves ..).leaves t h).grows
  | fwWrite => exact ((execFwWrite_evolves ..).leaves t h).grows
  | fwActivate => exact ((execFwActivate_evolves ..).leaves t h).grows
  | keyStage => exact ((execKeyStage_evolves ..).leaves t h).grows
  | keyCommit => exact ((execKeyCommit_evolves ..).leaves t h).grows
  | keyDiscard => exact ((execKeyDiscard_evolves ..).leaves t h).grows
  | attest => exact ((execAttest_evolves ..).leaves t h).grows
  | ctxGet => exact ((execCtxGet_evolves ..).leaves t h).grows
  | ctxAdmit => exact ((execCtxAdmit_evolves ..).leaves t h).grows
  | ctxRetire => exact ((execCtxRetire_evolves ..).leaves t h).grows
  | ctxOwner => exact ((execCtxOwner_evolves ..).leaves t h).grows
  | mediaHealth => exact ((execMediaHealth_evolves ..).leaves t h).grows
  | mediaDrain => exact ((execMediaDrain_evolves ..).leaves t h).grows
  | logRead => exact ((execLogRead_evolves ..).leaves t h).grows
  | logFreeze => exact ((execLogFreeze_evolves ..).leaves t h).grows
  | faultHist => exact ((execFaultHist_evolves ..).leaves t h).grows
  | pairStatus => exact ((execPairStatus_evolves ..).leaves t h).grows
  | pairSwap => exact ((execPairSwap_evolves ..).leaves t h).grows
  | pairDrill => exact ((execPairDrill_evolves ..).leaves t h).grows
  | diagEcho => exact ((execDiagEcho_evolves ..).leaves t h).grows
  | diagCounters => exact ((execDiagCounters_evolves ..).leaves t h).grows
  | diagLoop => exact ((execDiagLoop_evolves ..).leaves t h).grows
  | diagLoopEnd => exact ((execDiagLoopEnd_evolves ..).leaves t h).grows
  | lineFrameRx => exact ((execLineFrameRx_evolves ..).leaves t h).grows
  | segmentTimeout => exact ((execSegmentTimeout_evolves ..).leaves t h).grows
  | portBoundary => exact ((execPortBoundary_evolves ..).leaves t h).grows
  | backoffExpiry => exact ((execBackoffExpiry_evolves ..).leaves t h).grows
  | exchangeTimeout => exact ((execExchangeTimeout_evolves ..).leaves t h).grows
  | exchangeEnd => exact ((execExchangeEnd_evolves ..).leaves t h).grows
  | lineTxEnd => exact ((execLineTxEnd_evolves ..).leaves t h).grows
  | blankEnd => exact ((execBlankEnd_evolves ..).leaves t h).grows
  | govSample => exact ((execGovSample_evolves ..).leaves t h).grows
  | govCapWrite => exact ((execGovCapWrite_evolves ..).leaves t h).grows
  | govFuseGo => exact ((execGovFuseGo_evolves ..).leaves t h).grows
  | govFuseDone => exact ((execGovFuseDone_evolves ..).leaves t h).grows
  | lcpCounterClear port counter val => exact ((execLcpCounterClear_evolves port counter val s).leaves t h).grows
  | tmRefreshDue => exact ((execTmRefreshDue_evolves ..).leaves t h).grows
  | tmTtlExpiry => exact ((execTmTtlExpiry_evolves ..).leaves t h).grows
  | zeroCrossEdge => exact ((execZeroCrossEdge_evolves ..).leaves t h).grows
  | portPollWindow => exact ((execPortPollWindow_evolves ..).leaves t h).grows
  | neighbourAgeExpiry => exact ((execNeighbourAgeExpiry_evolves ..).leaves t h).grows
  | nbSnapshotRead => exact ((execNbSnapshotRead_evolves ..).leaves t h).grows
  | radioFrameRx => exact ((execRadioFrameRx_evolves ..).leaves t h).grows
  | seenKeyExpiry => exact ((execSeenKeyExpiry_evolves ..).leaves t h).grows
  | iqLaneTrained => exact ((execIqLaneTrained_evolves ..).leaves t h).grows
  | iqLockTimeout => exact ((execIqLockTimeout_evolves ..).leaves t h).grows
  | iqLockLost => exact ((execIqLockLost_evolves ..).leaves t h).grows
  | spiIrqEdge => exact ((execSpiIrqEdge_evolves ..).leaves t h).grows
  | lbtListenEnd => exact ((execLbtListenEnd_evolves ..).leaves t h).grows
  | dutyWaitEnd => exact ((execDutyWaitEnd_evolves ..).leaves t h).grows
  | agreedSlot => exact ((execAgreedSlot_evolves ..).leaves t h).grows
  | slotAnswerTimeout => exact ((execSlotAnswerTimeout_evolves ..).leaves t h).grows
  | wmbFrameLate => exact ((execWmbFrameLate_evolves ..).leaves t h).grows
  | rendezvousWindowOpen => exact ((execRendezvousWindowOpen_evolves ..).leaves t h).grows
  | rendezvousWindowClose => exact ((execRendezvousWindowClose_evolves ..).leaves t h).grows
  | frameProcess => exact ((execFrameProcess_evolves ..).leaves t h).grows
  | joinRx => exact ((execJoinRx_evolves ..).leaves t h).grows
  | joinTimeout => exact ((execJoinTimeout_evolves ..).leaves t h).grows
  | lookupRehashDone => exact ((execLookupRehashDone_evolves ..).leaves t h).grows
  | contextSnapshotStart => exact ((execContextSnapshotStart_evolves ..).leaves t h).grows
  | cacheSetUnpin => exact ((execCacheSetUnpin_evolves ..).leaves t h).grows
  | gapFill => exact ((execGapFill_evolves ..).leaves t h).grows
  | veeFlagsClear => exact ((execVeeFlagsClear_evolves ..).leaves t h).grows
  | intervalEventWindow => exact ((execIntervalEventWindow_evolves ..).leaves t h).grows
  | balanceForm => exact ((execBalanceForm_evolves ..).leaves t h).grows
  | ledgerEvaluation => exact ((execLedgerEvaluation_evolves ..).leaves t h).grows
  | ledgerRecomputeDone => exact ((execLedgerRecomputeDone_evolves ..).leaves t h).grows
  | booking => exact ((execBooking_evolves ..).leaves t h).grows
  | tariffActivation => exact ((execTariffActivation_evolves ..).leaves t h).grows
  | demandBoundary => exact ((execDemandBoundary_evolves ..).leaves t h).grows
  | closeInstant => exact ((execCloseInstant_evolves ..).leaves t h).grows
  | closeSweepEnd => exact ((execCloseSweepEnd_evolves ..).leaves t h).grows
  | displayFrame => exact ((execDisplayFrame_evolves ..).leaves t h).grows
  | bar4Write off val => exact ((execBar4Write_evolves off val s).leaves t h).grows
  | checkValueRecompute => exact ((execCheckValueRecompute_evolves ..).leaves t h).grows
  | holdover24h => exact ((execHoldover24h_evolves ..).leaves t h).grows
  | ptpMessageRx => exact ((execPtpMessageRx_evolves ..).leaves t h).grows
  | ptpMessageTx => exact ((execPtpMessageTx_evolves ..).leaves t h).grows
  | ptpSourceLost => exact ((execPtpSourceLost_evolves ..).leaves t h).grows
  | leapSecond => exact ((execLeapSecond_evolves ..).leaves t h).grows
  | rtcSet => exact ((execRtcSet_evolves ..).leaves t h).grows
  | rateStore => exact ((execRateStore_evolves ..).leaves t h).grows
  | timeSnapshotRead => exact ((execTimeSnapshotRead_evolves ..).leaves t h).grows
  | hostTimerEnable => exact ((execHostTimerEnable_evolves ..).leaves t h).grows
  | hostTimerFire => exact ((execHostTimerFire_evolves ..).leaves t h).grows
  | ppsEdge => exact ((execPpsEdge_evolves ..).leaves t h).grows
  | ppsWidthEnd => exact ((execPpsWidthEnd_evolves ..).leaves t h).grows
  | captureEdge => exact ((execCaptureEdge_evolves ..).leaves t h).grows
  | capturePop => exact ((execCapturePop_evolves ..).leaves t h).grows
  | txqPop => exact ((execTxqPop_evolves ..).leaves t h).grows
  | beaconDue => exact ((execBeaconDue_evolves ..).leaves t h).grows
  | queueRefill => exact ((execQueueRefill_evolves ..).leaves t h).grows
  | holdRelease => exact ((execHoldRelease_evolves ..).leaves t h).grows
  | queueFlush => exact ((execQueueFlush_evolves ..).leaves t h).grows
  | flushDone => exact ((execFlushDone_evolves ..).leaves t h).grows
  | cellEccError => exact ((execCellEccError_evolves ..).leaves t h).grows
  | poolScanDone => exact ((execPoolScanDone_evolves ..).leaves t h).grows
  | stormWindow => exact ((execStormWindow_evolves ..).leaves t h).grows
  | heatStart => exact ((execHeatStart_evolves ..).leaves t h).grows
  | heatEnd => exact ((execHeatEnd_evolves ..).leaves t h).grows
  | schedEntryDue => exact ((execSchedEntryDue_evolves ..).leaves t h).grows
  | pushGraceExpiry => exact ((execPushGraceExpiry_evolves ..).leaves t h).grows
  | censusStart => exact ((execCensusStart_evolves ..).leaves t h).grows
  | ethFrameRx => exact ((execEthFrameRx_evolves ..).leaves t h).grows
  | ethFrameTx => exact ((execEthFrameTx_evolves ..).leaves t h).grows
  | pauseExpiry => exact ((execPauseExpiry_evolves ..).leaves t h).grows
  | ethLinkDown => exact ((execEthLinkDown_evolves ..).leaves t h).grows
  | ethLinkUp => exact ((execEthLinkUp_evolves ..).leaves t h).grows
  | serdesLockLoss => exact ((execSerdesLockLoss_evolves ..).leaves t h).grows
  | mgtTxGo => exact ((execMgtTxGo_evolves ..).leaves t h).grows
  | mgtRxPop => exact ((execMgtRxPop_evolves ..).leaves t h).grows
  | ethCounterSnapshotRead => exact ((execEthCounterSnapshotRead_evolves ..).leaves t h).grows
  | flFrameRx => exact ((execFlFrameRx_evolves ..).leaves t h).grows
  | helloKRx => exact ((execHelloKRx_evolves ..).leaves t h).grows
  | keywrapRx => exact ((execKeywrapRx_evolves ..).leaves t h).grows
  | helloRx => exact ((execHelloRx_evolves ..).leaves t h).grows
  | welcomeRx => exact ((execWelcomeRx_evolves ..).leaves t h).grows
  | flHeartbeatRx => exact ((execFlHeartbeatRx_evolves ..).leaves t h).grows
  | meterUpRx => exact ((execMeterUpRx_evolves ..).leaves t h).grows
  | dataAckRx => exact ((execDataAckRx_evolves ..).leaves t h).grows
  | orderRx => exact ((execOrderRx_evolves ..).leaves t h).grows
  | orderDoneRx => exact ((execOrderDoneRx_evolves ..).leaves t h).grows
  | joinOkRx => exact ((execJoinOkRx_evolves ..).leaves t h).grows
  | releaseRx => exact ((execReleaseRx_evolves ..).leaves t h).grows
  | timeRecordRx => exact ((execTimeRecordRx_evolves ..).leaves t h).grows
  | delayReqRx => exact ((execDelayReqRx_evolves ..).leaves t h).grows
  | delayRspRx => exact ((execDelayRspRx_evolves ..).leaves t h).grows
  | joinRecordRx => exact ((execJoinRecordRx_evolves ..).leaves t h).grows
  | meterStsRx => exact ((execMeterStsRx_evolves ..).leaves t h).grows
  | portStsRx => exact ((execPortStsRx_evolves ..).leaves t h).grows
  | checkRecRx => exact ((execCheckRecRx_evolves ..).leaves t h).grows
  | flTimeSend => exact ((execFlTimeSend_evolves ..).leaves t h).grows
  | flTimeMiss => exact ((execFlTimeMiss_evolves ..).leaves t h).grows
  | flHeartbeatSend => exact ((execFlHeartbeatSend_evolves ..).leaves t h).grows
  | flLinkLost => exact ((execFlLinkLost_evolves ..).leaves t h).grows
  | fdxLost => exact ((execFdxLost_evolves ..).leaves t h).grows
  | flRtoExpiry => exact ((execFlRtoExpiry_evolves ..).leaves t h).grows
  | dataAckDue => exact ((execDataAckDue_evolves ..).leaves t h).grows
  | helloResend => exact ((execHelloResend_evolves ..).leaves t h).grows
  | portStsSend => exact ((execPortStsSend_evolves ..).leaves t h).grows
  | flCodeVoid => exact ((execFlCodeVoid_evolves ..).leaves t h).grows
  | flPortFailback => exact ((execFlPortFailback_evolves ..).leaves t h).grows
  | mediaWrite => exact ((execMediaWrite_evolves ..).leaves t h).grows
  | mediaRead => exact ((execMediaRead_evolves ..).leaves t h).grows
  | foldStart => exact ((execFoldStart_evolves ..).leaves t h).grows
  | gcStart => exact ((execGcStart_evolves ..).leaves t h).grows
  | gcSwitch => exact ((execGcSwitch_evolves ..).leaves t h).grows
  | nandProgramFail => exact ((execNandProgramFail_evolves ..).leaves t h).grows
  | euRefresh => exact ((execEuRefresh_evolves ..).leaves t h).grows
  | wearLevelMove => exact ((execWearLevelMove_evolves ..).leaves t h).grows
  | historyRelease => exact ((execHistoryRelease_evolves ..).leaves t h).grows
  | billingSnapshot => exact ((execBillingSnapshot_evolves ..).leaves t h).grows
  | nandChannelFail => exact ((execNandChannelFail_evolves ..).leaves t h).grows
  | ftlFormatRequest => exact ((execFtlFormatRequest_evolves ..).leaves t h).grows
  | ftlFormatCancel => exact ((execFtlFormatCancel_evolves ..).leaves t h).grows
  | claimInChange => exact ((execClaimInChange_evolves ..).leaves t h).grows
  | arbListenEnd => exact ((execArbListenEnd_evolves ..).leaves t h).grows
  | arbRx => exact ((execArbRx_evolves ..).leaves t h).grows
  | arbClaimInstant => exact ((execArbClaimInstant_evolves ..).leaves t h).grows
  | pairHeartbeatSend => exact ((execPairHeartbeatSend_evolves ..).leaves t h).grows
  | pairHeartbeatRx => exact ((execPairHeartbeatRx_evolves ..).leaves t h).grows
  | pairHeartbeatMiss => exact ((execPairHeartbeatMiss_evolves ..).leaves t h).grows
  | claimTimerExpiry => exact ((execClaimTimerExpiry_evolves ..).leaves t h).grows
  | claimLowTimeout => exact ((execClaimLowTimeout_evolves ..).leaves t h).grows
  | strokeCycleClose => exact ((execStrokeCycleClose_evolves ..).leaves t h).grows
  | deltaRx => exact ((execDeltaRx_evolves ..).leaves t h).grows
  | endRx => exact ((execEndRx_evolves ..).leaves t h).grows
  | ackRx => exact ((execAckRx_evolves ..).leaves t h).grows
  | strokeCycleEnd => exact ((execStrokeCycleEnd_evolves ..).leaves t h).grows
  | jmirRx => exact ((execJmirRx_evolves ..).leaves t h).grows
  | jackRx => exact ((execJackRx_evolves ..).leaves t h).grows
  | creditRx => exact ((execCreditRx_evolves ..).leaves t h).grows
  | creditSend => exact ((execCreditSend_evolves ..).leaves t h).grows
  | yieldRx => exact ((execYieldRx_evolves ..).leaves t h).grows
  | swapRx => exact ((execSwapRx_evolves ..).leaves t h).grows
  | swapTimeout => exact ((execSwapTimeout_evolves ..).leaves t h).grows
  | catchupRequest => exact ((execCatchupRequest_evolves ..).leaves t h).grows
  | catchupRx => exact ((execCatchupRx_evolves ..).leaves t h).grows
  | catchupDone => exact ((execCatchupDone_evolves ..).leaves t h).grows
  | drillRx => exact ((execDrillRx_evolves ..).leaves t h).grows
  | drillWindow => exact ((execDrillWindow_evolves ..).leaves t h).grows
  | drillHoldEnd => exact ((execDrillHoldEnd_evolves ..).leaves t h).grows
  | pairLaneLoss => exact ((execPairLaneLoss_evolves ..).leaves t h).grows
  | pairLaneReturn => exact ((execPairLaneReturn_evolves ..).leaves t h).grows
  | pairForce => exact ((execPairForce_evolves ..).leaves t h).grows
  | parDeltaClear val => exact ((execParDeltaClear_evolves val s).leaves t h).grows
  | rootGenerate => exact ((execRootGenerate_evolves ..).leaves t h).grows
  | rootCloneSend => exact ((execRootCloneSend_evolves ..).leaves t h).grows
  | rootCloneRecv => exact ((execRootCloneRecv_evolves ..).leaves t h).grows
  | cloneFrameRx => exact ((execCloneFrameRx_evolves ..).leaves t h).grows
  | rootZeroise => exact ((execRootZeroise_evolves ..).leaves t h).grows
  | cloneCodeWrite => exact ((execCloneCodeWrite_evolves ..).leaves t h).grows
  | cloneCodeVoid => exact ((execCloneCodeVoid_evolves ..).leaves t h).grows
  | ktkClearLoad => exact ((execKtkClearLoad_evolves ..).leaves t h).grows
  | ktkWrappedLoad => exact ((execKtkWrappedLoad_evolves ..).leaves t h).grows
  | ktkErase => exact ((execKtkErase_evolves ..).leaves t h).grows
  | tamperLatchClear => exact ((execTamperLatchClear_evolves ..).leaves t h).grows
  | tamperInputTrip => exact ((execTamperInputTrip_evolves ..).leaves t h).grows
  | tamperMeshTrip => exact ((execTamperMeshTrip_evolves ..).leaves t h).grows
  | tamperTempTrip => exact ((execTamperTempTrip_evolves ..).leaves t h).grows
  | tamperVoltageTrip => exact ((execTamperVoltageTrip_evolves ..).leaves t h).grows
  | tamperBatteryTrip => exact ((execTamperBatteryTrip_evolves ..).leaves t h).grows
  | tamperRootClockTrip => exact ((execTamperRootClockTrip_evolves ..).leaves t h).grows
  | authRateWindow => exact ((execAuthRateWindow_evolves ..).leaves t h).grows
  | metChOutput => exact ((execMetChOutput_evolves ..).leaves t h).grows
  | swapArm => exact ((execSwapArm_evolves ..).leaves t h).grows
  | metTrimGainWrite => exact ((execMetTrimGainWrite_evolves ..).leaves t h).grows
  | bankActiveWrite ch word val => exact ((execBankActiveWrite_evolves ch word val s).leaves t h).grows
  | bitstreamStuck => exact ((execBitstreamStuck_evolves ..).leaves t h).grows
  | bitstreamRecover => exact ((execBitstreamRecover_evolves ..).leaves t h).grows
  | cmSecond => exact ((execCmSecond_evolves ..).leaves t h).grows
  | cmIntervalClose => exact ((execCmIntervalClose_evolves ..).leaves t h).grows
  | functionEnable => exact ((execFunctionEnable_evolves ..).leaves t h).grows
  | functionDisable => exact ((execFunctionDisable_evolves ..).leaves t h).grows
  | functionStarted => exact ((execFunctionStarted_evolves ..).leaves t h).grows
  | functionStopped => exact ((execFunctionStopped_evolves ..).leaves t h).grows
  | functionStartTimeout => exact ((execFunctionStartTimeout_evolves ..).leaves t h).grows
  | functionReset => exact ((execFunctionReset_evolves ..).leaves t h).grows
  | softReset => exact ((execSoftReset_evolves ..).leaves t h).grows
  | resetNAssert => exact ((execResetNAssert_evolves ..).leaves t h).grows
  | perstNAssert => exact ((execPerstNAssert_evolves ..).leaves t h).grows
  | pcieHotReset => exact ((execPcieHotReset_evolves ..).leaves t h).grows
  | flr => exact ((execFlr_evolves ..).leaves t h).grows
  | resetRelease => exact ((execResetRelease_evolves ..).leaves t h).grows
  | powerUp => exact ((execPowerUp_evolves ..).leaves t h).grows
  | boot => exact ((execBoot_evolves ..).leaves t h).grows
  | bootRetry => exact ((execBootRetry_evolves ..).leaves t h).grows
  | restoreDone => exact ((execRestoreDone_evolves ..).leaves t h).grows
  | spareInitDone => exact ((execSpareInitDone_evolves ..).leaves t h).grows
  | pwrFailFall => exact ((execPwrFailFall_evolves ..).leaves t h).grows
  | powerFailCommitDone => exact ((execPowerFailCommitDone_evolves ..).leaves t h).grows
  | pwrFailRise => exact ((execPwrFailRise_evolves ..).leaves t h).grows
  | railTrip => exact ((execRailTrip_evolves ..).leaves t h).grows
  | holdupSample => exact ((execHoldupSample_evolves ..).leaves t h).grows
  | pwrTempClear val => exact ((execPwrTempClear_evolves val s).leaves t h).grows
  | pllLockLoss => exact ((execPllLockLoss_evolves ..).leaves t h).grows
  | coreWatchdogExpiry => exact ((execCoreWatchdogExpiry_evolves ..).leaves t h).grows
  | sramEccUncorrected => exact ((execSramEccUncorrected_evolves ..).leaves t h).grows
  | lpddr5EccUncorrected => exact ((execLpddr5EccUncorrected_evolves ..).leaves t h).grows
  | emramEccUncorrected => exact ((execEmramEccUncorrected_evolves ..).leaves t h).grows
  | billingAccessRefused => exact ((execBillingAccessRefused_evolves ..).leaves t h).grows
  | junctionOvertemp => exact ((execJunctionOvertemp_evolves ..).leaves t h).grows
  | fltSelfFault => exact ((execFltSelfFault_evolves ..).leaves t h).grows
  | faultPulseEnd => exact ((execFaultPulseEnd_evolves ..).leaves t h).grows
  | autoResetExpiry => exact ((execAutoResetExpiry_evolves ..).leaves t h).grows
  | pwrCycleRequest => exact ((execPwrCycleRequest_evolves ..).leaves t h).grows
  | faultNDrive => exact ((execFaultNDrive_evolves ..).leaves t h).grows
  | degradedClear => exact ((execDegradedClear_evolves ..).leaves t h).grows
  | evrFreeze => exact ((execEvrFreeze_evolves ..).leaves t h).grows
  | freezeMaxExpiry => exact ((execFreezeMaxExpiry_evolves ..).leaves t h).grows
  | evrSnapshotRead => exact ((execEvrSnapshotRead_evolves ..).leaves t h).grows
  | optimeSave => exact ((execOptimeSave_evolves ..).leaves t h).grows
  | fltCounterClear counter val => exact ((execFltCounterClear_evolves counter val s).leaves t h).grows
  | activationReset => exact ((execActivationReset_evolves ..).leaves t h).grows
  | hitlessStep => exact ((execHitlessStep_evolves ..).leaves t h).grows
  | hitlessStop => exact ((execHitlessStop_evolves ..).leaves t h).grows
  | pairImageRx => exact ((execPairImageRx_evolves ..).leaves t h).grows
  | tftpRecoveryRead => exact ((execTftpRecoveryRead_evolves ..).leaves t h).grows
  | recoveryInstall => exact ((execRecoveryInstall_evolves ..).leaves t h).grows
  | imageWindowOpen => exact ((execImageWindowOpen_evolves ..).leaves t h).grows
  | imageWindowClose => exact ((execImageWindowClose_evolves ..).leaves t h).grows
  | imagePassStart => exact ((execImagePassStart_evolves ..).leaves t h).grows
  | mainSupplyLoss => exact ((execMainSupplyLoss_evolves ..).leaves t h).grows
  | rtcOscillatorStop => exact ((execRtcOscillatorStop_evolves ..).leaves t h).grows
  | radioTxEnd => exact ((execRadioTxEnd_evolves ..).leaves t h).grows
  | transactionDeadline => exact ((execTransactionDeadline_evolves ..).leaves t h).grows
  | orderDeadline => exact ((execOrderDeadline_evolves ..).leaves t h).grows
  | snapshotComplete => exact ((execSnapshotComplete_evolves ..).leaves t h).grows
  | faultHistSnapshotRead => exact ((execFaultHistSnapshotRead_evolves ..).leaves t h).grows
  | metSampleSnapshotRead => exact ((execMetSampleSnapshotRead_evolves ..).leaves t h).grows
  | cmLastSnapshotRead => exact ((execCmLastSnapshotRead_evolves ..).leaves t h).grows
  | nodeDataSnapshotRead => exact ((execNodeDataSnapshotRead_evolves ..).leaves t h).grows

end Sys2Proof.Machine
end

section

open Sys2Proof Sys2Proof.Machine

/-- Settles O54: every operation of the model that touches the recorder puts records in front of those it holds, and only while there is room. -/
theorem recorderOnlyGrows : Obligations.RecorderOnlyGrows := by
  intro c s t h
  obtain ⟨hsuffix, hbound⟩ := exec_grows h
  exact ⟨hsuffix, hbound⟩

end

section

-- one proof after the other: the check gives the text few threads
set_option Elab.async false

namespace Sys2Proof.Machine

/-! ## What recording and reporting leave as it was

A record, an event, an item for a queue and a report of a class below Fatal write a few registers, the queues they join and the vectors they
fire; everything else that a statement can read of a register, a pair, a queue or the output stands. -/

/-- Registers that a record, an event or an item for a queue can write. -/
def recordRegs : List Nat :=
  [F.LNE_DROP.at 0, F.LNE_HELD.at 0, F.LNE_SPILLED.at 0, F.LNE_OVF_PEAK_ENTRIES.at 0, F.SCH_STS_STORM.at 0, F.SCH_STORMS.at 0,
   F.RNG_EVT_UNROUTED.at 0, F.EVR_STAGE_OVF.at 0, F.FLT_DEGRADED_CNT.at 0, F.FLT_STS_PULSE.at 0, F.FLT_HIST_OVF.at 0]

/-- Registers that a report can write: those and the counters of the classes. -/
def faultRegs : List Nat := [F.FLT_FATAL_CNT.at 0, F.FLT_FUNCTION_CNT.at 0, F.FLT_NOTICE_CNT.at 0] ++ recordRegs

/-- From the first device to the second only the listed registers and queues change, vectors may have fired and the output has grown, and
what else recording can change. -/
structure Reporting (offs qs : List Nat) (d e : Dev) : Prop where
  keeps : Keeps reportParts d e
  word : ∀ off, off ∉ offs → e.word off = d.word off
  lane : ∀ q, q ∉ qs → e.lane q = d.lane q
  out : d.out <:+ e.out
  rng : e.rng = { d.rng with vecs := e.rng.vecs }

namespace Reporting

variable {offs offs' qs qs' : List Nat} {d e f : Dev}

theorem refl : Reporting offs qs d d := ⟨Keeps.refl _ d, fun _ _ => rfl, fun _ _ => rfl, List.suffix_refl _, rfl⟩

theorem trans (h1 : Reporting offs qs d e) (h2 : Reporting offs qs e f) : Reporting offs qs d f where
  keeps := h1.keeps.trans h2.keeps
  word off hoff := (h2.word off hoff).trans (h1.word off hoff)
  lane q hq := (h2.lane q hq).trans (h1.lane q hq)
  out := h1.out.trans h2.out
  rng := by rw [h2.rng, h1.rng]

theorem mono (h : Reporting offs qs d e) (ho : offs ⊆ offs' := by simp) (hq : qs ⊆ qs' := by simp) : Reporting offs' qs' d e :=
  ⟨h.keeps, fun off hoff => h.word off fun hin => hoff (ho hin), fun q hnot => h.lane q fun hin => hnot (hq hin), h.out, h.rng⟩

theorem ite {c : Prop} [Decidable c] (h1 : Reporting offs qs d e) (h2 : Reporting offs qs d f) : Reporting offs qs d (if c then e else f) := by
  split <;> assumption

theorem foldl {α : Type} {g : Dev → α → Dev} {l : List α} (hg : ∀ x a, Reporting offs qs x (g x a)) (h : Reporting offs qs d e) :
    Reporting offs qs d (l.foldl g e) := by
  induction l generalizing e with
  | nil => exact h
  | cons a t ih => exact ih (h.trans (hg e a))

/-! ### What it says of fields, pairs, functions -/

theorem rd (h : Reporting offs qs d e) (x : F) (i : Nat) (hx : x.at i ∉ offs) : e.rd x i = d.rd x i := by
  unfold Dev.rd
  rw [h.word _ hx]

theorem on (h : Reporting offs qs d e) (x : F) (i : Nat) (hx : x.at i ∉ offs) : e.on x i = d.on x i := by
  unfold Dev.on
  rw [h.rd x i hx]

theorem pairs (h : Reporting offs qs d e) : e.rng.pairs = d.rng.pairs := by rw [h.rng]

theorem pair (h : Reporting offs qs d e) (p : Nat) : e.pair p = d.pair p := by
  unfold Dev.pair
  rw [h.pairs]

theorem fn (h : Reporting offs qs d e) : e.fn = d.fn := h.keeps .fn (by decide)

theorem fnOf (h : Reporting offs qs d e) (fix : Nat) : e.fnOf fix = d.fnOf fix := by
  unfold Dev.fnOf
  rw [h.fn]

theorem pairState (h : Reporting offs qs d e) (p : Nat) : e.pairState p = d.pairState p := by
  unfold Dev.pairState
  rw [h.fnOf]

theorem mem_out (h : Reporting offs qs d e) {o : Out} (ho : o ∈ d.out) : o ∈ e.out := h.out.subset ho

/-! ### Single changes -/

/-- A register of the list is written. -/
theorem wr (x : F) (i v : Nat) (hx : x.at i ∈ offs) : Reporting offs qs d (d.wr x i v) where
  keeps := (d.wr_keeps x i v).mono (by decide)
  word off hoff := Dev.word_setWord_other _ _ _ _ fun heq => hoff (heq ▸ hx)
  lane _ _ := rfl
  out := List.suffix_refl _
  rng := rfl

theorem wrb (x : F) (i : Nat) (b : Bool) (hx : x.at i ∈ offs) : Reporting offs qs d (d.wrb x i b) := wr x i _ hx

theorem bump (x : F) (i n : Nat) (hx : x.at i ∈ offs) : Reporting offs qs d (d.bump x i n) := wr x i _ hx

/-- A queue of the list is set. -/
theorem setLane (q : Nat) (l : Lane) (hq : q ∈ qs) : Reporting offs qs d (d.setLane q l) where
  keeps := (d.setLane_keeps q l).mono (by decide)
  word _ _ := rfl
  lane j hj := Dev.lane_setLane_other _ _ _ _ fun heq => hj (heq ▸ hq)
  out := List.suffix_refl _
  rng := rfl

theorem emit (o : Out) : Reporting offs qs d (d.emit o) where
  keeps := (d.emit_keeps o).mono (by decide)
  word _ _ := rfl
  lane _ _ := rfl
  out := List.suffix_cons _ _
  rng := rfl

theorem setVec (v : Nat) (x : MsixVec) : Reporting offs qs d (d.setVec v x) where
  keeps := (d.setVec_keeps v x).mono (by decide)
  word _ _ := rfl
  lane _ _ := rfl
  out := List.suffix_refl _
  rng := rfl

theorem evr (x : Evr) : Reporting offs qs d { d with evr := x } where
  keeps := (Keeps.evr d x).mono (by decide)
  word _ _ := rfl
  lane _ _ := rfl
  out := List.suffix_refl _
  rng := rfl

theorem flt (x : Flt) : Reporting offs qs d { d with flt := x } where
  keeps := (Keeps.flt d x).mono (by decide)
  word _ _ := rfl
  lane _ _ := rfl
  out := List.suffix_refl _
  rng := rfl

theorem freeCtr (x : Nat) : Reporting offs qs d { d with freeCtr := x } where
  keeps := (Keeps.freeCtr d x).mono (by decide)
  word _ _ := rfl
  lane _ _ := rfl
  out := List.suffix_refl _
  rng := rfl

/-- Marks of the Lane manager change, its queues not. -/
theorem lne (x : Lne) (hx : x.lanes = d.lne.lanes) : Reporting offs qs d { d with lne := x } where
  keeps := (Keeps.lne d x).mono (by decide)
  word _ _ := rfl
  lane q _ := congrArg (fun t : Tab Lane => t.getD q {}) hx
  out := List.suffix_refl _
  rng := rfl

end Reporting

/-! ## The operations -/

theorem Dev.evrPush_reporting {offs qs : List Nat} (d : Dev) (w : List Nat) : Reporting offs qs d (d.evrPush w) := .ite (.evr _) (.evr _)

theorem Dev.evrCommit_reporting {qs : List Nat} (d : Dev) (w : List Nat) : Reporting recordRegs qs d (d.evrCommit w) := by
  unfold Dev.evrCommit
  split
  · exact .ite (.evr _) ((Reporting.bump F.EVR_STAGE_OVF 0 1 (by decide)).trans (.evr _))
  · exact d.evrPush_reporting w

theorem Dev.ringPut_reporting {d e : Dev} {q : Nat} {i : Item} (h : d.ringPut q i = some e) : Reporting recordRegs [q, 13] d e := by
  unfold Dev.ringPut at h
  dsimp only at h
  split at h
  · obtain rfl := Option.some.inj h
    exact (Reporting.setLane q _ (by simp)).trans ((Reporting.bump F.LNE_SPILLED 0 1 (by decide)).trans (.wr _ _ _ (by decide)))
  · cases h

theorem Dev.routeEvent_reporting {qs : List Nat} (hq : 13 ∈ qs) {put : Dev → Item → Dev} (hput : ∀ x i, Reporting recordRegs qs x (put x i))
    (d : Dev) (e : Event) : Reporting recordRegs qs d (Dev.routeEvent put d e) := by
  unfold Dev.routeEvent
  dsimp only
  split
  · exact .bump _ _ _ (by decide)
  · split
    · exact .setLane 13 _ hq
    · split
      · exact .setLane 13 _ hq
      · exact hput _ _

/-- An event that is put into its queue where fuel is left. -/
theorem Reporting.fuelled {qs : List Nat} (put : Nat → Dev → Item → Dev) (fuel : Nat) (x : Dev) (e : Event) :
    13 ∈ qs → (∀ f, f < fuel → ∀ y i, Reporting recordRegs qs y (put f y i)) →
      Reporting recordRegs qs x (match fuel with | 0 => x | f + 1 => x.routeEvent (fun y i => put f y i) e) := by
  intro hq hput
  cases fuel with
  | zero => exact .refl
  | succ f => exact Dev.routeEvent_reporting hq (hput f (Nat.lt_succ_self f)) _ _

theorem Dev.offerRaw_reporting (fuel : Nat) (d : Dev) (q : Nat) (i : Item) : Reporting recordRegs [q, 13] d (Dev.offerRaw fuel d q i) := by
  induction fuel using Nat.strongRecOn generalizing d q i with
  | ind fuel ih =>
    have hnext (x : Dev) (e : Event) := Reporting.fuelled (qs := [q, 13]) (fun f y j => Dev.offerRaw f y 13 j) fuel x e (by simp)
      fun f hf y j => (ih f hf y 13 j).mono
    have hlane (x : Dev) (l : Lane) : Reporting recordRegs [q, 13] x (x.setLane q l) := .setLane q l (by simp)
    have hheld (x : Dev) (l : Lane) : Reporting recordRegs [q, 13] x ((x.setLane q l).bump F.LNE_HELD) := (hlane x l).trans (.bump _ _ _ (by decide))
    unfold Dev.offerRaw
    extract_lets l d1 y d2 d3
    have h1 : Reporting recordRegs [q, 13] d d1 := .bump _ _ _ (by decide)
    have h2 : Reporting recordRegs [q, 13] d d2 := h1.trans (.lne _ rfl)
    have h3 : Reporting recordRegs [q, 13] d d3 := h2.trans (Dev.evrCommit_reporting _ _)
    split
    · exact hlane _ _
    · split
      · split
        · next e he =>
          have h := Dev.ringPut_reporting he
          split
          · exact (h.trans (.lne { e.lne with warned := true } rfl)).trans (hnext _ _)
          · exact h
        · exact .ite (hheld _ _) (.ite (h3.trans (hnext _ _)) h1)
      · exact hheld _ _

theorem Dev.routeRaw_reporting {d : Dev} (e : Event) : Reporting recordRegs [13] d (d.routeEvent (fun x i => x.offerRaw 2 13 i) e) :=
  Dev.routeEvent_reporting (by simp) (fun x i => (Dev.offerRaw_reporting 2 x 13 i).mono) _ _

theorem Dev.stormStart_reporting (d : Dev) : Reporting recordRegs [13] d d.stormStart := by
  unfold Dev.stormStart
  extract_lets d1 y d2 d3
  have h1 : Reporting recordRegs [13] d d1 := (Reporting.wrb _ _ _ (by decide)).trans (.bump _ _ _ (by decide))
  have h3 : Reporting recordRegs [13] d d3 := (h1.trans (.lne { d1.lne with stormRec := false } rfl)).trans (Dev.evrCommit_reporting d2 _)
  exact h3.trans (Dev.routeRaw_reporting _)

theorem Dev.postRaw_reporting (d : Dev) (e : Event) : Reporting recordRegs [13] d (d.postRaw e) := by
  unfold Dev.postRaw
  have h := Dev.routeRaw_reporting (d := d) e
  exact .ite (h.trans (Dev.stormStart_reporting _)) h

theorem Dev.fire_reporting {offs qs : List Nat} (d : Dev) (v : Nat) : Reporting offs qs d (d.fire v) := .ite (.setVec _ _) (.emit _)

theorem Dev.noteRecord_reporting {offs qs : List Nat} (d : Dev) (k : Nat × Nat × Nat) : Reporting offs qs d (d.noteRecord k) := .flt _

theorem Dev.history_reporting {qs : List Nat} (d : Dev) (code src cls detail : Nat) (safe : Bool) :
    Reporting recordRegs qs d (d.history code src cls detail safe) := by
  unfold Dev.history
  exact .ite (.flt _) ((Reporting.ite (.bump _ _ _ (by decide)) .refl).trans (.flt _))

theorem Dev.pulse_reporting {qs : List Nat} (d : Dev) : Reporting recordRegs qs d d.pulse :=
  (Reporting.wrb F.FLT_STS_PULSE 0 true (by decide)).trans (.flt _)

/-- The counter that a report of a class raises. -/
def classCnt (cls : Nat) : F := match cls with | 4 => F.FLT_FATAL_CNT | 3 => F.FLT_DEGRADED_CNT | 2 => F.FLT_FUNCTION_CNT | _ => F.FLT_NOTICE_CNT

theorem classCnt_mem (cls : Nat) : (classCnt cls).at 0 ∈ faultRegs := by
  unfold classCnt
  split <;> decide

theorem Dev.faultCore_reporting_bump (d : Dev) (code src cls detail : Nat) (safe : Bool) :
    Reporting recordRegs [13] (d.bump (classCnt cls)) (d.faultCore code src cls detail safe) := by
  unfold Dev.faultCore
  extract_lets d1 d2 d3 d4 d5
  have h2 : Reporting recordRegs [13] d1 d2 := .ite (Dev.history_reporting _ _ _ _ _ _) .refl
  have h3 : Reporting recordRegs [13] d1 d3 := h2.trans (Dev.postRaw_reporting _ _)
  have h4 : Reporting recordRegs [13] d1 d4 := .ite (h3.trans (.wrb _ _ _ (by decide))) (h3.trans (.wrb _ _ _ (by decide)))
  have h5 : Reporting recordRegs [13] d1 d5 := h4.trans (Dev.pulse_reporting _)
  exact .ite (.ite (h5.trans (Dev.fire_reporting _ _)) h5) h3

theorem Dev.faultCoreF_reporting_bump (d : Dev) (code src cls detail : Nat) (safe : Bool) :
    Reporting recordRegs [13] (d.bump (classCnt cls)) (d.faultCoreF code src cls detail safe) :=
  (d.faultCore_reporting_bump code src cls detail safe).trans (.freeCtr _)

theorem Dev.fullCheck_reporting (d : Dev) : Reporting recordRegs [13] d d.fullCheck := by
  unfold Dev.fullCheck
  extract_lets n y d1
  have h1 : Reporting recordRegs [13] d d1 := .ite ((Reporting.evr _).trans (Dev.postRaw_reporting _ _)) .refl
  have hset (x : Evr) (y : Flt) : Reporting recordRegs [13] d1 { d1 with evr := x, flt := y } :=
    (Reporting.evr x).trans (Reporting.flt (d := { d1 with evr := x }) y)
  exact .ite ((h1.trans (hset _ _)).trans ((Reporting.bump _ _ _ (by decide)).trans (Dev.faultCoreF_reporting_bump _ _ _ _ _ _))) h1

theorem Dev.record_reporting (d : Dev) (code src sev w3 w4 w5 w6 : Nat) (df : Bool) :
    Reporting recordRegs [13] d (d.record code src sev w3 w4 w5 w6 df) := (Dev.evrCommit_reporting _ _).trans (Dev.fullCheck_reporting _)

theorem Dev.post_reporting (d : Dev) (cls code sev src target w4 w5 w6 : Nat) :
    Reporting recordRegs [13] d (d.post cls code sev src target w4 w5 w6) := (Dev.postRaw_reporting _ _).trans (Dev.fullCheck_reporting _)

theorem Dev.recordPost_reporting (d : Dev) (cls code sev src target w3 w4 w5 w6 : Nat) :
    Reporting recordRegs [13] d (d.recordPost cls code sev src target w3 w4 w5 w6) := (Dev.record_reporting _ _ _ _ _ _ _ _ _).trans (Dev.post_reporting _ _ _ _ _ _ _ _ _)

theorem Dev.offer_reporting (d : Dev) (q : Nat) (i : Item) : Reporting recordRegs [q, 13] d (d.offer q i) :=
  (Dev.offerRaw_reporting 2 d q i).trans (Dev.fullCheck_reporting _).mono

/-- Where a report below Fatal leaves the counter of its class, it has raised it by one. -/
theorem Dev.fault_reporting_bump (d : Dev) (code src cls detail : Nat) (own : Bool) (hcls : cls < 4) :
    Reporting recordRegs [13] (d.bump (classCnt cls)) (d.fault code src cls detail own) := by
  have hne : cls ≠ 4 := by omega
  unfold Dev.fault
  simp only [hne, false_and, if_false, decide_false, Bool.false_and]
  refine .ite (d.faultCoreF_reporting_bump _ _ _ _ _) ?_
  exact ((d.faultCoreF_reporting_bump _ _ _ _ _).trans (Dev.record_reporting _ _ _ _ _ _ _ _ _)).trans (Dev.noteRecord_reporting _ _)

theorem Dev.fault_reporting (d : Dev) (code src cls detail : Nat) (own : Bool) (hcls : cls < 4) :
    Reporting faultRegs [13] d (d.fault code src cls detail own) :=
  (Reporting.bump _ _ _ (classCnt_mem cls)).trans ((d.fault_reporting_bump code src cls detail own hcls).mono (List.subset_append_right _ _))

/-- A function that fails: its own state, and a report. -/
theorem Dev.failFn_reporting (d : Dev) (fix : Nat) : Reporting faultRegs [13] (d.setFn fix { st := .failed }) (d.failFn fix) :=
  .ite .refl (Dev.fault_reporting _ _ _ _ _ _ (by decide))

end Sys2Proof.Machine
end

section

-- one proof after the other: the check gives the text few threads
set_option Elab.async false

namespace Sys2Proof.Machine

/-! ## Registers of devices that share them -/

theorem Dev.word_congr {d e : Dev} (hregs : e.regs = d.regs) (hgrade : e.grade = d.grade) (off : Nat) : e.word off = d.word off := by
  simp only [Dev.word, hregs, hgrade]

theorem Dev.rd_congr {d e : Dev} (hregs : e.regs = d.regs) (hgrade : e.grade = d.grade) (f : F) (i : Nat) : e.rd f i = d.rd f i := by
  simp only [Dev.rd, Dev.word_congr hregs hgrade]

theorem Dev.on_congr {d e : Dev} (hregs : e.regs = d.regs) (hgrade : e.grade = d.grade) (f : F) (i : Nat) : e.on f i = d.on f i := by
  simp only [Dev.on, Dev.rd_congr hregs hgrade]

@[simp] theorem Dev.word_emit (d : Dev) (o : Out) (off : Nat) : (d.emit o).word off = d.word off := rfl
@[simp] theorem Dev.rd_emit (d : Dev) (o : Out) (f : F) (i : Nat) : (d.emit o).rd f i = d.rd f i := rfl
@[simp] theorem Dev.on_emit (d : Dev) (o : Out) (f : F) (i : Nat) : (d.emit o).on f i = d.on f i := rfl
@[simp] theorem Dev.word_setFn (d : Dev) (k : Nat) (x : Fn) (off : Nat) : (d.setFn k x).word off = d.word off := rfl
@[simp] theorem Dev.rd_setFn (d : Dev) (k : Nat) (x : Fn) (f : F) (i : Nat) : (d.setFn k x).rd f i = d.rd f i := rfl
@[simp] theorem Dev.on_setFn (d : Dev) (k : Nat) (x : Fn) (f : F) (i : Nat) : (d.setFn k x).on f i = d.on f i := rfl
@[simp] theorem Dev.word_setLane (d : Dev) (k : Nat) (x : Lane) (off : Nat) : (d.setLane k x).word off = d.word off := rfl
@[simp] theorem Dev.rd_setLane (d : Dev) (k : Nat) (x : Lane) (f : F) (i : Nat) : (d.setLane k x).rd f i = d.rd f i := rfl
@[simp] theorem Dev.on_setLane (d : Dev) (k : Nat) (x : Lane) (f : F) (i : Nat) : (d.setLane k x).on f i = d.on f i := rfl
@[simp] theorem Dev.word_setPair (d : Dev) (k : Nat) (x : Pair) (off : Nat) : (d.setPair k x).word off = d.word off := rfl
@[simp] theorem Dev.rd_setPair (d : Dev) (k : Nat) (x : Pair) (f : F) (i : Nat) : (d.setPair k x).rd f i = d.rd f i := rfl
@[simp] theorem Dev.on_setPair (d : Dev) (k : Nat) (x : Pair) (f : F) (i : Nat) : (d.setPair k x).on f i = d.on f i := rfl
@[simp] theorem Dev.word_updPair (d : Dev) (k : Nat) (x : Pair → Pair) (off : Nat) : (d.updPair k x).word off = d.word off := rfl
@[simp] theorem Dev.rd_updPair (d : Dev) (k : Nat) (x : Pair → Pair) (f : F) (i : Nat) : (d.updPair k x).rd f i = d.rd f i := rfl
@[simp] theorem Dev.on_updPair (d : Dev) (k : Nat) (x : Pair → Pair) (f : F) (i : Nat) : (d.updPair k x).on f i = d.on f i := rfl
@[simp] theorem Dev.word_setVec (d : Dev) (k : Nat) (x : MsixVec) (off : Nat) : (d.setVec k x).word off = d.word off := rfl
@[simp] theorem Dev.rd_setVec (d : Dev) (k : Nat) (x : MsixVec) (f : F) (i : Nat) : (d.setVec k x).rd f i = d.rd f i := rfl
@[simp] theorem Dev.on_setVec (d : Dev) (k : Nat) (x : MsixVec) (f : F) (i : Nat) : (d.setVec k x).on f i = d.on f i := rfl
@[simp] theorem Dev.rd_touch (d : Dev) (k : Nat) (f : F) (i : Nat) : (d.touch k).rd f i = d.rd f i := rfl
@[simp] theorem Dev.on_touch (d : Dev) (k : Nat) (f : F) (i : Nat) : (d.touch k).on f i = d.on f i := rfl
@[simp] theorem Dev.word_passCycles (d : Dev) (n : Nat) (off : Nat) : (d.passCycles n).word off = d.word off := rfl
@[simp] theorem Dev.rd_passCycles (d : Dev) (n : Nat) (f : F) (i : Nat) : (d.passCycles n).rd f i = d.rd f i := rfl
@[simp] theorem Dev.on_passCycles (d : Dev) (n : Nat) (f : F) (i : Nat) : (d.passCycles n).on f i = d.on f i := rfl
@[simp] theorem Dev.word_toMono (d : Dev) (n : Nat) (off : Nat) : (d.toMono n).word off = d.word off := rfl
@[simp] theorem Dev.rd_toMono (d : Dev) (n : Nat) (f : F) (i : Nat) : (d.toMono n).rd f i = d.rd f i := rfl
@[simp] theorem Dev.on_toMono (d : Dev) (n : Nat) (f : F) (i : Nat) : (d.toMono n).on f i = d.on f i := rfl
@[simp] theorem Dev.word_toNs (d : Dev) (n : Nat) (off : Nat) : (d.toNs n).word off = d.word off := Dev.word_congr (by simp) (by simp) off
@[simp] theorem Dev.rd_toNs (d : Dev) (n : Nat) (f : F) (i : Nat) : (d.toNs n).rd f i = d.rd f i := Dev.rd_congr (by simp) (by simp) f i
@[simp] theorem Dev.on_toNs (d : Dev) (n : Nat) (f : F) (i : Nat) : (d.toNs n).on f i = d.on f i := Dev.on_congr (by simp) (by simp) f i

/-- Recording and reporting write no register of a ring pair. -/
theorem faultRegs_off_pairs {off : Nat} (h : 0x10000 ≤ off ∧ off < 0x14000) : off ∉ faultRegs := by
  intro hin
  have hall : ∀ off ∈ faultRegs, off < 0x10000 ∨ 0x14000 ≤ off := by decide
  have := hall off hin
  omega

/-! ## The pair that a completion leaves -/

theorem Dev.pair_watchFull (d : Dev) (p : Nat) : (d.watchFull p).pair p = { d.pair p with
    fullSince := if decide (d.pairState p = .stopping) && d.cmpFull p && !(d.pair p).waiting.isEmpty
      then some ((d.pair p).fullSince.getD d.tim.mono) else none } := by
  unfold Dev.watchFull
  split <;> simp

theorem Dev.cmpSize_eq_of_word {d e : Dev} {p : Nat} (h : e.word (0x10000 + 0x40 * p) = d.word (0x10000 + 0x40 * p)) : e.cmpSize p = d.cmpSize p := by
  unfold Dev.cmpSize Dev.rd
  rw [show F.at F.RNG_PAIR_CFG_CMP_LOG2 p = 0x10000 + 0x40 * p from rfl, h]

theorem Dev.cmpSize_setPair (d : Dev) (p q : Nat) (x : Pair) : (d.setPair p x).cmpSize q = d.cmpSize q := rfl

theorem Dev.cmpSize_bump_drop (d : Dev) (p q n : Nat) : (d.bump F.RNG_PAIR_CNT_CMP_DROP p n).cmpSize q = d.cmpSize q := by
  refine Dev.cmpSize_eq_of_word (Dev.word_setWord_other _ _ _ _ ?_)
  simp only [F.at, F.RNG_PAIR_CNT_CMP_DROP]
  omega

theorem Dev.pairState_setPair (d : Dev) (p q : Nat) (x : Pair) : (d.setPair p x).pairState q = d.pairState q := rfl

theorem Dev.pairState_bump (d : Dev) (f : F) (i n q : Nat) : (d.bump f i n).pairState q = d.pairState q := by
  simp [Dev.pairState, Dev.fnOf]

theorem Dev.pairState_eq_of_fn {d e : Dev} (h : e.fn = d.fn) (p : Nat) : e.pairState p = d.pairState p := by
  simp only [Dev.pairState, Dev.fnOf, h]

theorem Dev.pair_eq_of_rng {d e : Dev} (h : e.rng = d.rng) (p : Nat) : e.pair p = d.pair p := by
  simp only [Dev.pair, h]

/-- A pair after the completions that are due have joined those that wait. -/
def Pair.settled (x : Pair) : Pair :=
  { x with held := (settleHeld [] x.held).1, waiting := x.waiting ++ (postings (settleHeld [] x.held).2).1 }

/-- A pair whose ring stays full while it stops notes since when. -/
def Pair.watched (stopping : Bool) (size mono : Nat) (x : Pair) : Pair :=
  { x with fullSince := if stopping && decide ((x.cmpTail + 1) % size = x.cmpHead) && !x.waiting.isEmpty
      then some (x.fullSince.getD mono) else none }

theorem Dev.pair_watchFull_eq (d : Dev) (p : Nat) :
    (d.watchFull p).pair p = (d.pair p).watched (decide (d.pairState p = .stopping)) (d.cmpSize p) d.tim.mono := Dev.pair_watchFull d p

theorem Dev.pair_settle (d : Dev) (p : Nat) :
    (d.settle p).pair p = (d.pair p).settled.watched (decide (d.pairState p = .stopping)) (d.cmpSize p) d.tim.mono := by
  unfold Dev.settle
  extract_lets x r c
  rw [Dev.pair_watchFull_eq, Dev.pair_bump, Dev.pair_setPair, Dev.pairState_bump, Dev.cmpSize_bump_drop, Dev.bump_tim]
  rfl

/-- A completion of a descriptor rests, for its pair, on the pair, its state, the ring's size and the time. -/
theorem Dev.pair_complete_congr {d e : Dev} {p : Nat} (id st sub : Nat) (res : List Nat) (hpair : e.pair p = d.pair p)
    (hst : e.pairState p = d.pairState p) (hsize : e.cmpSize p = d.cmpSize p) (hmono : e.tim.mono = d.tim.mono) :
    (e.complete p id st sub res).pair p = (d.complete p id st sub res).pair p := by
  unfold Dev.complete
  simp only [Dev.pair_settle, Dev.pair_updPair, hpair]
  unfold Dev.updPair
  rw [Dev.pairState_setPair, Dev.pairState_setPair, Dev.cmpSize_setPair, Dev.cmpSize_setPair, hst, hsize, Dev.setPair_tim, Dev.setPair_tim, hmono]

/-- What changes none of rings, functions, time and registers changes no completion's pair. -/
theorem Keeps.pair_complete {ps : List Part} {d e : Dev} (h : Keeps ps d e) (p id st sub : Nat) (res : List Nat)
    (hps : Part.rng ∉ ps ∧ Part.fn ∉ ps ∧ Part.tim ∉ ps ∧ Part.regs ∉ ps ∧ Part.grade ∉ ps := by decide) :
    (e.complete p id st sub res).pair p = (d.complete p id st sub res).pair p := by
  obtain ⟨hrng, hfn, htim, hregs, hgrade⟩ := hps
  have hword (off : Nat) : e.word off = d.word off := by
    simp only [Dev.word, show e.regs = d.regs from h .regs hregs, show e.grade = d.grade from h .grade hgrade]
  exact Dev.pair_complete_congr id st sub res (Dev.pair_eq_of_rng (h .rng hrng) p) (Dev.pairState_eq_of_fn (h .fn hfn) p)
    (Dev.cmpSize_eq_of_word (hword _)) (congrArg Tim.mono (h .tim htim))

end Sys2Proof.Machine
end

section

-- one proof after the other: the check gives the text few threads
set_option Elab.async false

namespace Sys2Proof.Machine

theorem Evolves.into {ps qs : List Part} {d e : Dev} (h : Evolves ps d e) (hsub : ps ⊆ qs := by decide) : Keeps qs d e := h.keeps.mono hsub

/-! ## Registers left as they are -/

theorem KeepsRegs.refl {offs : List Nat} {d : Dev} : KeepsRegs offs d d := fun _ _ => rfl

theorem KeepsRegs.trans {offs : List Nat} {a b c : Dev} (h1 : KeepsRegs offs a b) (h2 : KeepsRegs offs b c) : KeepsRegs offs a c :=
  fun off h => (h2 off h).trans (h1 off h)

theorem KeepsRegs.mono {offs offs' : List Nat} {d e : Dev} (h : KeepsRegs offs d e) (hsub : ∀ off ∈ offs, off ∈ offs') : KeepsRegs offs' d e :=
  fun off hoff => h off (fun hmem => hoff (hsub off hmem))

theorem KeepsRegs.ite {offs : List Nat} {c : Prop} [Decidable c] {d e f : Dev} (h1 : c → KeepsRegs offs d e) (h2 : ¬ c → KeepsRegs offs d f) :
    KeepsRegs offs d (if c then e else f) := by
  split
  · exact h1 ‹_›
  · exact h2 ‹_›

theorem KeepsRegs.foldl {α : Type} {offs : List Nat} {f : Dev → α → Dev} (h : ∀ d a, KeepsRegs offs d (f d a)) (l : List α) (d : Dev) :
    KeepsRegs offs d (l.foldl f d) := by
  induction l generalizing d with
  | nil => exact .refl
  | cons a l ih => exact (h d a).trans (ih _)

/-- What changes neither registers nor grade leaves every register. -/
theorem Keeps.keepsRegs {ps : List Part} {d e : Dev} (h : Keeps ps d e) {offs : List Nat}
    (hps : Part.regs ∉ ps ∧ Part.grade ∉ ps := by decide) : KeepsRegs offs d e := fun off _ =>
  Dev.word_congr (h .regs hps.1) (h .grade hps.2) off

theorem keepsRegs_setWord {d : Dev} {off v : Nat} : KeepsRegs [off] d (d.setWord off v) := fun _ hoff =>
  Dev.word_setWord_other _ _ _ _ (by simpa using hoff)

theorem keepsRegs_wr {d : Dev} {f : F} {i v : Nat} : KeepsRegs [f.at i] d (d.wr f i v) := keepsRegs_setWord

theorem keepsRegs_wrb {d : Dev} {f : F} {i : Nat} {b : Bool} : KeepsRegs [f.at i] d (d.wrb f i b) := keepsRegs_setWord

theorem keepsRegs_bump {d : Dev} {f : F} {i n : Nat} : KeepsRegs [f.at i] d (d.bump f i n) := keepsRegs_setWord

theorem KeepsRegs.rd {offs : List Nat} {d e : Dev} (h : KeepsRegs offs d e) (f : F) (i : Nat) (hf : f.at i ∉ offs) : e.rd f i = d.rd f i := by
  simp only [Dev.rd, h _ hf]

theorem KeepsRegs.on {offs : List Nat} {d e : Dev} (h : KeepsRegs offs d e) (f : F) (i : Nat) (hf : f.at i ∉ offs) : e.on f i = d.on f i := by
  simp only [Dev.on, h.rd f i hf]

/-- The register that holds the ring sizes of a pair. -/
theorem KeepsRegs.cmpSize {offs : List Nat} {d e : Dev} (h : KeepsRegs offs d e) (p : Nat) (hf : 0x10000 + 0x40 * p ∉ offs) :
    e.cmpSize p = d.cmpSize p := Dev.cmpSize_eq_of_word (h _ hf)

/-! ## What a command does -/

theorem Does.of {c : Instr} {s : State} {ps : List Part} {post : Dev → Prop} {e : Dev} (hruns : Runs c s e) (hkeeps : Keeps ps s.dev e)
    (hpost : post e) : Does c s ps post := ⟨e, hruns, hkeeps, hpost⟩

/-! ## Completions of a descriptor that a command takes -/

/-- A command that acts and then completes its descriptor: what it does before leaves what a completion of the pair rests on. -/
theorem Completes.of_same {c : Instr} {s : State} {p : Nat} {h : Held} {res : List Nat} {ps : List Part} {post : Dev → Prop} {e : Dev}
    (hruns : Runs c s (e.complete p h.id 0 0 res)) (hkeeps : Keeps (.rng :: .regs :: ps) s.dev e) (hpair : e.pair p = s.dev.pair p)
    (hst : e.pairState p = s.dev.pairState p) (hsize : e.cmpSize p = s.dev.cmpSize p) (hmono : e.tim.mono = s.dev.tim.mono)
    (hpost : post (e.complete p h.id 0 0 res)) : Completes c s p h res ps post :=
  ⟨_, hruns, (Dev.complete_keeps e p h.id 0 0 res).step (fun _ h => List.mem_append_left ps h) hkeeps,
    Dev.pair_complete_congr _ _ _ _ hpair hst hsize hmono, hpost⟩

/-- The same where nothing before the completion touches ring pairs, functions, time or registers. -/
theorem Completes.intro {c : Instr} {s : State} {p : Nat} {h : Held} {res : List Nat} {ps : List Part} {post : Dev → Prop} {e : Dev}
    (hruns : Runs c s (e.complete p h.id 0 0 res)) (hkeeps : Keeps ps s.dev e) (hpost : post (e.complete p h.id 0 0 res))
    (hps : Part.rng ∉ ps ∧ Part.fn ∉ ps ∧ Part.tim ∉ ps ∧ Part.regs ∉ ps ∧ Part.grade ∉ ps := by decide) : Completes c s p h res ps post :=
  ⟨_, hruns, (Dev.complete_keeps e p h.id 0 0 res).step (fun _ h => List.mem_append_left ps h)
    (hkeeps.mono (fun _ h => .tail _ (.tail _ h))), hkeeps.pair_complete p h.id 0 0 res hps, hpost⟩

/-- A command that reads its data buffer acts with the bytes that come, filled up to the buffer's length. -/
theorem State.takes.onDescRead_eq {s : State} {p op : Nat} {h : Held} (htakes : s.takes p op h) (bs : List Byte)
    (f : Dev → Held → List Byte → Dev) :
    s.dev.onDescRead p op (.data bs) f = f s.dev h (padTo (bufLen h.desc) (bs.take (bufLen h.desc))) := by
  rw [Dev.onDescRead, htakes.onDesc_eq]

end Sys2Proof.Machine

end

section

-- one proof after the other: the check gives the text few threads
set_option Elab.async false

namespace Sys2Proof.Machine

/-! ## States for refutations -/

/-- A booted device, changed by `f`. -/
def State.booted (f : Dev → Dev) : State := { State.reset with dev := f { State.reset.dev with glb := { State.reset.dev.glb with phase := .ready } } }

/-- A descriptor of these words, the rest 0. -/
def descOf (ws : List Nat) : Desc := ⟨(ws ++ List.replicate (16 - ws.length) 0).map (BitVec.ofNat 32)⟩

/-- A descriptor that no command has started, with this number. -/
def heldAs (id : Nat) (ws : List Nat) : Held := { id := id, desc := descOf ws, started := false, result := none, mute := 0 }

/-- The device that a command leaves; the device before it where the command does not run. -/
def State.devAfter (s : State) (c : Instr) : Dev := match exec c s with | .next t => t.dev | _ => s.dev

theorem Runs.devAfter_eq {c : Instr} {s : State} {d : Dev} (h : Runs c s d) : s.devAfter c = d := by
  simp only [State.devAfter, show exec c s = _ from h, State.withDev]

/-- What a command is said to do, the device that it leaves does. -/
theorem Does.devAfter {c : Instr} {s : State} {ps : List Part} {post : Dev → Prop} (h : Does c s ps post) : post (s.devAfter c) := by
  obtain ⟨d, hruns, -, hpost⟩ := h
  rwa [hruns.devAfter_eq]

end Sys2Proof.Machine

end

section

-- one proof after the other: the check gives the text few threads
set_option Elab.async false

namespace Sys2Proof.Machine

theorem Dev.lane_congr {d e : Dev} (h : e.lne = d.lne) (q : Nat) : e.lane q = d.lane q := by simp only [Dev.lane, h]

/-! ## Completions after reports -/

namespace Reporting

variable {offs qs : List Nat} {d e : Dev}

/-- What a record can write a report can write. -/
theorem ofRecord (h : Reporting recordRegs qs d e) : Reporting faultRegs qs d e := h.mono (List.subset_append_right _ _)

theorem cmpSize (h : Reporting faultRegs qs d e) {p : Nat} (hp : p < 64) : e.cmpSize p = d.cmpSize p :=
  Dev.cmpSize_eq_of_word (h.word _ (faultRegs_off_pairs (by omega)))

theorem tim (h : Reporting offs qs d e) : e.tim = d.tim := h.keeps .tim (by decide)

end Reporting

/-- A command that acts, reports and then completes its descriptor. -/
theorem Completes.of_reporting {c : Instr} {s : State} {p : Fin 64} {h : Held} {res qs : List Nat} {parts : List Part}
    {post : Dev → Prop} {x e : Dev} (hruns : Runs c s (e.complete p h.id 0 0 res)) (hkeeps : Keeps parts s.dev x) (hrep : Reporting faultRegs qs x e)
    (hpost : post (e.complete p h.id 0 0 res))
    (hps : Part.rng ∉ parts ∧ Part.fn ∉ parts ∧ Part.tim ∉ parts ∧ Part.regs ∉ parts ∧ Part.grade ∉ parts := by decide) :
    Completes c s p h res (parts ++ reportParts) post := by
  obtain ⟨hrng, hfn, htim, hregs, hgrade⟩ := hps
  refine .of_same hruns ?_ ((hrep.pair p).trans (Dev.pair_eq_of_rng (hkeeps .rng hrng) p))
    ((hrep.pairState p).trans (Dev.pairState_eq_of_fn (hkeeps .fn hfn) p))
    ((hrep.cmpSize p.isLt).trans (Dev.cmpSize_eq_of_word (Dev.word_congr (hkeeps .regs hregs) (hkeeps .grade hgrade) _)))
    (congrArg Tim.mono (hrep.tim.trans (hkeeps .tim htim))) hpost
  exact hrep.keeps.step (fun _ h => by simp [h]) (hkeeps.mono fun _ h => by simp [h])

/-! ## The billing journal of a single device (R414, R422) -/

/-- From the first device to the second one entry was journalled, without a mirror: the entry joins the half that is filled, which closes when it
is full; the ledger is left as `l`. -/
def Journalled (d : Dev) (l : Ldg) (e : Dev) : Prop :=
  ∃ half closed eff, Reporting recordRegs [14, 13]
    { d with tar := { d.tar with jseq := d.tar.jseq + 1, half := half, closedHalves := closed, eff := eff }, ldg := l } e

namespace Journalled

variable {d e : Dev} {l : Ldg}

theorem tar (h : Journalled d l e) : ∃ half closed eff, e.tar = { d.tar with jseq := d.tar.jseq + 1, half := half, closedHalves := closed, eff := eff } := by
  obtain ⟨half, closed, eff, hrep⟩ := h
  exact ⟨half, closed, eff, hrep.keeps .tar (by decide)⟩

theorem jseq (h : Journalled d l e) : e.tar.jseq = d.tar.jseq + 1 := by
  obtain ⟨_, _, _, htar⟩ := h.tar
  rw [htar]

theorem grpTar (h : Journalled d l e) (g : Nat) : e.grpTar g = d.grpTar g := by
  obtain ⟨_, _, _, htar⟩ := h.tar
  simp only [Dev.grpTar, htar]

theorem loads (h : Journalled d l e) : e.tar.loads = d.tar.loads := by
  obtain ⟨_, _, _, htar⟩ := h.tar
  rw [htar]

theorem pair (h : Journalled d l e) (p : Nat) : e.pair p = d.pair p := by
  obtain ⟨half, closed, eff, hrep⟩ := h
  exact hrep.pair p

theorem ext (h : Journalled d l e) (m : Nat) : e.ext m = d.ext m := by
  obtain ⟨_, _, _, htar⟩ := h.tar
  simp only [Dev.ext, htar]

theorem keeps (h : Journalled d l e) : Keeps (.tar :: .ldg :: reportParts) d e := by
  obtain ⟨half, closed, eff, hrep⟩ := h
  exact hrep.keeps.step (by decide) (Evolves.over [.tar, .ldg] (qs := [.tar, .ldg]) .refl).into

theorem keeps_of_ldg (h : Journalled d d.ldg e) : Keeps (.tar :: reportParts) d e := by
  obtain ⟨half, closed, eff, hrep⟩ := h
  exact hrep.keeps.step (by decide) Evolves.tar.into

end Journalled

theorem Dev.closeHalf_reporting (d : Dev) :
    Reporting recordRegs [14, 13] { d with tar := { d.tar with half := [], closedHalves := d.tar.closedHalves ++ [d.tar.half] } } d.closeHalf :=
  Dev.offer_reporting ..

theorem Dev.setBook_keeps (d : Dev) (m seq code : Nat) : ∃ l, d.setBook m seq code = { d with ldg := l } := by
  unfold Dev.setBook
  split
  · exact ⟨d.ldg, rfl⟩
  · exact ⟨_, rfl⟩

/-- What an entry brings into force: the extension that it holds, and the outcome that it holds for an interval. -/
theorem Dev.effective_eq (d : Dev) (e : JEntry) : ∃ eff l, d.effective e = { d with tar := { d.tar with eff := eff }, ldg := l } ∧ (e.out = none → l = d.ldg) := by
  unfold Dev.effective
  extract_lets _ d1
  have h1 : ∃ eff, d1 = { d with tar := { d.tar with eff := eff } } := by
    unfold d1
    split
    · exact ⟨_, rfl⟩
    · exact ⟨d.tar.eff, rfl⟩
  obtain ⟨eff, h1⟩ := h1
  split
  next m seq code hout =>
    obtain ⟨l, hl⟩ := d1.setBook_keeps m seq code
    exact ⟨eff, l, by rw [hl, h1], fun hnone => by simp [hnone] at hout⟩
  next => exact ⟨eff, d.ldg, by rw [h1], fun _ => rfl⟩

theorem Dev.journal_single {d : Dev} (hen : d.par.en = false) (what : JWhat) (mix : Option Nat) (ext : Option Ext)
    (out : Option (Nat × Nat × Nat)) : ∃ l, Journalled d l (d.journal what mix ext out) ∧ (out = none → l = d.ldg) := by
  unfold Dev.journal
  extract_lets e _ d1 _ d2
  have hmirror : d1.mirrored = false := by simp [Dev.mirrored, show d1.par = d.par from rfl, hen]
  obtain ⟨eff, l, heff, hl⟩ := d1.effective_eq e
  have h2 : d2 = { d1 with tar := { d1.tar with eff := eff }, ldg := l } := by
    unfold d2
    rw [hmirror, if_neg (by decide), heff]
  rw [h2]
  refine ⟨l, ?_, hl⟩
  split
  · exact ⟨[], _, eff, Dev.closeHalf_reporting { d1 with tar := { d1.tar with eff := eff }, ldg := l }⟩
  · exact ⟨_, _, eff, .refl⟩

theorem Dev.journal_single_plain {d : Dev} (hen : d.par.en = false) (what : JWhat) (mix : Option Nat) (ext : Option Ext) :
    Journalled d d.ldg (d.journal what mix ext) := by
  obtain ⟨l, hj, hl⟩ := Dev.journal_single hen what mix ext none
  rwa [hl rfl] at hj

end Sys2Proof.Machine

end

section

-- one proof after the other: the check gives the text few threads
set_option Elab.async false

namespace Sys2Proof.Machine

/-! ## Doorbells (R71, R72) -/

theorem Dev.bar2Write_tail (d : Dev) (p : Fin 64) (v : Nat) : d.bar2Write (0x1000 * p) v = d.subTail p v := by
  have hp : 0x1000 * p.val / 0x1000 = p.val := by omega
  have hword : 0x1000 * p.val % 0x1000 = 0 := by omega
  simp [Dev.bar2Write, hp, hword]

theorem Dev.bar2Write_head (d : Dev) (p : Fin 64) (v : Nat) : d.bar2Write (0x1000 * p + 4) v = d.cmpHeadWrite p v := by
  have hp : (0x1000 * p.val + 4) / 0x1000 = p.val := by omega
  have hword : (0x1000 * p.val + 4) % 0x1000 = 4 := by omega
  simp [Dev.bar2Write, hp, hword]

theorem otherPairs_setPair {d : Dev} {p : Nat} {x : Pair} : OtherPairs p d (d.setPair p x) := fun j hj => Dev.pair_setPair_other d p j x hj

theorem OtherPairs.trans {p : Nat} {d e f : Dev} (h1 : OtherPairs p d e) (h2 : OtherPairs p e f) : OtherPairs p d f :=
  fun j hj => (h2 j hj).trans (h1 j hj)

theorem otherPairs_watchFull {d : Dev} {p : Nat} : OtherPairs p d (d.watchFull p) := by
  obtain ⟨f, hf⟩ := d.watchFull_eq p
  rw [hf]
  exact otherPairs_setPair

theorem doorbellSubTail_moves {s : State} {pair : Fin 64} {val : Word} (hlive : s.dev.live = true) (hon : s.dev.pairState pair = .on)
    (hsub : s.dev.isEventPair pair = false)
    (hfwd : ((s.dev.pair pair).tail + s.dev.subSize pair - (s.dev.pair pair).subHead) % s.dev.subSize pair
      ≤ (min (val.toNat % 65536) (s.dev.subSize pair - 1) + s.dev.subSize pair - (s.dev.pair pair).subHead) % s.dev.subSize pair) :
    Does (.doorbellSubTail pair val) s [.rng] (fun d =>
      d.pair pair = { s.dev.pair pair with tail := min (val.toNat % 65536) (s.dev.subSize pair - 1) } ∧ OtherPairs pair s.dev d) := by
  have hruns : Runs (.doorbellSubTail pair val) s (s.dev.bar2Write (0x1000 * pair) val.toNat) := rfl
  simp only [Dev.bar2Write_tail, Dev.subTail, hlive, hon, hsub, Nat.not_lt.2 hfwd, Bool.not_true, Bool.false_eq_true, ne_eq, not_true, if_false]
    at hruns
  exact ⟨_, hruns, Dev.setPair_keeps _ _ _, Dev.pair_setPair _ _ _, otherPairs_setPair⟩

theorem doorbellCmpHead_moves {s : State} {pair : Fin 64} {val : Word} (hlive : s.dev.live = true) (hon : s.dev.pairState pair = .on) :
    Does (.doorbellCmpHead pair val) s [.rng] (fun d =>
      (d.pair pair).cmpHead = min (val.toNat % 65536) (s.dev.cmpSize pair - 1) ∧ (d.pair pair).cmpTail = (s.dev.pair pair).cmpTail
        ∧ (d.pair pair).waiting = (s.dev.pair pair).waiting ∧ OtherPairs pair s.dev d) := by
  have hruns : Runs (.doorbellCmpHead pair val) s (s.dev.bar2Write (0x1000 * pair + 4) val.toNat) := rfl
  simp only [Dev.bar2Write_head, Dev.cmpHeadWrite, hlive, hon, Bool.not_true, Bool.false_eq_true, ne_eq, not_true, false_and, if_false] at hruns
  refine ⟨_, hruns, (Dev.setPair_keeps _ _ _).trans (Dev.watchFull_keeps _ _), ?_, ?_, ?_, otherPairs_setPair.trans otherPairs_watchFull⟩
  all_goals simp [Dev.pair_watchFull]

/-! ## Fetch (R74, R91, R94) -/

/-- A descriptor with the expected sequence number becomes held last, with the next number. -/
theorem Dev.takeDesc_of_expected {d : Dev} {p : Nat} {x : Desc} (hseq : x.word 1 % 65536 = (d.pair p).expSeq) :
    d.takeDesc p x = ({ d with rng := { d.rng with nextId := d.rng.nextId + 1 } } : Dev).setPair p { d.pair p with
      subHead := ((d.pair p).subHead + 1) % d.subSize p
      expSeq := ((d.pair p).expSeq + 1) % 65536
      held := (d.pair p).held ++ [{ id := d.rng.nextId, desc := x, started := false, result := none, mute := 0 }] } := by
  simp only [Dev.takeDesc, hseq, if_true]

@[simp] theorem Dev.latency_rng (d : Dev) (ns : Nat) : (d.latency ns).rng = { d.rng with lats := (ns :: d.rng.lats).take 256 } := by
  simp [Dev.latency]

@[simp] theorem Dev.latency_out (d : Dev) (ns : Nat) : (d.latency ns).out = d.out := by
  simp [Dev.latency]

@[simp] theorem Dev.pair_latency (d : Dev) (ns p : Nat) : (d.latency ns).pair p = d.pair p := by
  simp [Dev.pair]

theorem fetchGrant_takes {s : State} {x : Desc} {lat p : Nat} {round : List Nat} (hlive : s.dev.live = true) (hgrant : s.dev.grant = some (p, round))
    (hone : s.dev.waitingCount p = 1) (hok : grantOk [x] = true) (hseq : x.word 1 % 65536 = (s.dev.pair p).expSeq) :
    Does (.fetchGrant [x] lat) s [.rng, .regs, .out] (fun d =>
      d.out = .hostRead (s.dev.subAddr p ((s.dev.pair p).subHead % s.dev.subSize p)) 64 :: s.dev.out ∧ d.rng.granted = p :: round ∧ d.rng.nextId = s.dev.rng.nextId + 1
        ∧ (d.pair p).held = (s.dev.pair p).held ++ [{ id := s.dev.rng.nextId, desc := x, started := false, result := none, mute := 0 }]
        ∧ (d.pair p).subHead = ((s.dev.pair p).subHead + 1) % s.dev.subSize p ∧ (d.pair p).expSeq = ((s.dev.pair p).expSeq + 1) % 65536) := by
  have hruns : Runs (.fetchGrant [x] lat) s (s.dev.fetchGrant [x] lat) := by simp [Runs, exec, execFetchGrant, hok, State.go, State.withDev]
  refine ⟨_, hruns, ((Dev.fetchGrant_evolves ..).keeps).mono (by decide), ?_⟩
  simp only [Dev.fetchGrant, hlive, hgrant, hone, Bool.not_true, Bool.false_eq_true, if_false, List.take_succ_cons, List.foldl_cons,
    show min 4 1 = 1 from rfl, List.take_nil, List.foldl_nil, List.range_one, List.map_cons, List.map_nil, List.reverse_singleton]
  rw [Dev.takeDesc_of_expected (by exact hseq)]
  simp only [Dev.latency_out, Dev.latency_rng, Dev.pair_latency, Dev.pair_setPair, Dev.setPair_out, Nat.add_zero, List.cons_append, List.nil_append]
  exact ⟨trivial, rfl, rfl, rfl, rfl, rfl⟩

theorem fetchFailed_fails {s : State} {pair : Fin 64} {err : AerErr} (hlive : s.dev.live = true) (hfetch : s.dev.fetchable pair = true) :
    Does (.fetchFailed (pair, err)) s (.fn :: reportParts) (fun d =>
      d.pairState pair = .failed ∧ d.on F.RNG_PAIR_STS_FETCH_ERR pair = true ∧ .aer err ∈ d.out) := by
  have hruns : Runs (.fetchFailed (pair, err)) s (s.dev.fetchFail pair err) := rfl
  simp only [Dev.fetchFail, hlive, hfetch, Bool.and_self, if_true] at hruns
  refine ⟨_, hruns, ?_, ?_⟩
  · exact (Dev.failFn_keeps _ _).step (by decide) ((Dev.emit_keeps _ _).step (by decide) ((Dev.wrb_keeps _ _ _ _).mono (by decide)))
  have hrep := Dev.failFn_reporting ((s.dev.wrb F.RNG_PAIR_STS_FETCH_ERR pair true).emit (.aer err)) (64 + pair)
  refine ⟨?_, ?_, hrep.mem_out ?_⟩
  · rw [Dev.pairState, Dev.failFn_fnOf]
  · rw [hrep.on _ _ (faultRegs_off_pairs (by simp only [F.at, F.RNG_PAIR_STS_FETCH_ERR]; omega)), Dev.on_setFn, Dev.on_emit,
      Dev.on_wrb _ _ _ _ (by decide) rfl]
  · exact List.mem_cons_self

/-! ## Reserved opcodes and DIAG_ECHO (R79, R82) -/

theorem reservedOpcode_completes {s : State} {pair : Fin 64} {h : Held} (hlive : s.dev.live = true)
    (hheld : s.dev.startable pair (fun x => !opKnown s.dev.grade (descOp x)) = some h) :
    Runs (.reservedOpcode pair) s (s.dev.complete pair h.id 1 0) := by
  simp [Runs, exec, execReservedOpcode, State.go, State.withDev, hlive, hheld]

theorem diagEcho_completes {s : State} {pair : Fin 64} {h : Held} (htakes : s.takes pair 0xB0 h) :
    Runs (.diagEcho pair) s (s.dev.complete pair h.id 0 0 [h.desc.word 3, h.desc.word 4, h.desc.word 5, h.desc.word 6]) := by
  simp [Runs, exec, execDiagEcho, State.go, State.withDev, htakes.onDesc_eq]

/-- Settles O5, one command after the other. -/
theorem doorbellsAndFetch : Obligations.DoorbellsAndFetch :=
  ⟨fun _ _ _ => doorbellSubTail_moves, fun _ _ _ => doorbellCmpHead_moves, fun _ _ _ _ _ => fetchGrant_takes, fun _ _ _ => fetchFailed_fails,
    fun _ _ _ => reservedOpcode_completes, fun _ _ _ => diagEcho_completes⟩

end Sys2Proof.Machine

end

section

-- one proof after the other: the check gives the text few threads
set_option Elab.async false

namespace Sys2Proof.Machine

/-! ## GLB_CFG_LOCK (R639) -/

/-- GLB_CFG_LOCK in the register table. -/
def cfgLockReg : RegDef := ⟨"GLB_CFG_LOCK", 0x18, 0, 1, none, [w1sF 0 1 0]⟩

theorem findReg_cfgLock : findReg 0x18 = some (cfgLockReg, 0) := by decide +kernel

theorem absentOff_cfgLock (g : Grade) : absentOff g 0x18 = false := by cases g <;> rfl

/-- A write with bit 0 sets LOCK. -/
theorem Dev.nextWord_cfgLock (d : Dev) {v : Nat} (hv : v % 2 = 1) : d.nextWord cfgLockReg 0 0x18 v = 1 := by
  have hbit : bitsOf v 0 1 = 1 := by simpa [bitsOf] using hv
  have hold : bitsOf (d.word 0x18) 0 1 = 0 ∨ bitsOf (d.word 0x18) 0 1 = 1 := by
    have := bitsOf_lt (d.word 0x18) 0 1
    omega
  have hor : bitsOf (d.word 0x18) 0 1 ||| 1 = 1 := by rcases hold with h | h <;> rw [h] <;> rfl
  simp [Dev.nextWord, Dev.crossClamp, cfgLockReg, RegDef.next, Fld.next, w1sF, sumNat, hbit, hor]

/-- LOCK is not stored, so a write to it leaves the marks of stored settings. -/
theorem Dev.plainWrite_cfgLock (d : Dev) {v : Nat} (hv : v % 2 = 1) : d.plainWrite 0x18 v = d.setWord 0x18 1 := by
  have hstored (a b : Nat) : cfgLockReg.storedDiff a b = false := rfl
  simp only [Dev.plainWrite, absentOff_cfgLock, findReg_cfgLock, Dev.nextWord_cfgLock d hv, hstored, Bool.false_eq_true, if_false]

theorem cfgLockSet_locks {s : State} {val : Word} (hlive : s.dev.live = true) (hval : val.toNat % 2 = 1) :
    Does (.cfgLockSet val) s [.regs] (fun d => d.on F.GLB_CFG_LOCK_LOCK = true ∧ KeepsRegs [0x18] s.dev d) := by
  have hruns : Runs (.cfgLockSet val) s (s.dev.setWord 0x18 1) := by
    have hwrite : s.dev.plainWrite (F.GLB_CFG_LOCK_LOCK.at 0) val.toNat = s.dev.setWord 0x18 1 := s.dev.plainWrite_cfgLock hval
    simp [Runs, exec, execCfgLockSet, State.go, State.withDev, hlive, hwrite]
  refine ⟨_, hruns, Dev.setWord_keeps _ _ _, ?_, fun off hoff => Dev.word_setWord_other _ _ _ _ (by simpa using hoff)⟩
  have hword : (s.dev.setWord 0x18 1).word 0x18 = 1 := s.dev.word_setWord 0x18 1
  simp only [Dev.on, Dev.rd, show F.GLB_CFG_LOCK_LOCK.at 0 = 0x18 from rfl, hword]
  rfl

/-! ## Accesses that are not an aligned word (R16) -/

theorem unalignedWrite_changes_nothing {s : State} {off : BitVec 24} {bytes : Nat} (hok : unalignedOk off bytes = true) :
    Runs (.unalignedAccess true off bytes) s s.dev := by
  simp [Runs, exec, execUnalignedAccess, hok, State.go, State.withDev]

theorem unalignedRead_answers_zero {s : State} {off : BitVec 24} {bytes : Nat} (hok : unalignedOk off bytes = true) :
    Does (.unalignedAccess false off bytes) s [.out] (fun d => d.out = .readData 0 :: s.dev.out) := by
  refine ⟨s.dev.emit (.readData 0), ?_, Dev.emit_keeps _ _, rfl⟩
  simp [Runs, exec, execUnalignedAccess, hok, State.go, State.withDev]

/-- Settles O7: a plain write for a register without a command of its own, the lock, and accesses that are no aligned word. -/
theorem registerAccesses : Obligations.RegisterAccesses :=
  ⟨fun _ _ val _ _ hlive halign habs hwin hreg hown => ⟨_, registerWrite_runs_plainWrite hlive halign habs hwin hreg hown val,
      Dev.plainWrite_keeps _ _ _, Dev.word_plainWrite habs hreg _, Dev.plainWrite_keepsRegs _ _ _⟩,
    fun _ _ => cfgLockSet_locks, fun _ _ _ => unalignedWrite_changes_nothing, fun _ _ _ => unalignedRead_answers_zero⟩

end Sys2Proof.Machine

end

section

-- one proof after the other: the check gives the text few threads
set_option Elab.async false

namespace Sys2Proof.Machine

/-! ## Groups and their entries -/

@[simp] theorem Dev.grpSch_setGrpSch (d : Dev) (g : Nat) (x : GrpSch) : (d.setGrpSch g x).grpSch g = x := Tab.getD_set _ _ _ _

theorem Dev.setGrpSch_keeps (d : Dev) (g : Nat) (x : GrpSch) : Keeps [.sch] d (d.setGrpSch g x) := (Dev.setGrpSch_evolves ..).into

theorem Dev.grpSch_congr {d e : Dev} (h : e.sch.grps = d.sch.grps) (g : Nat) : e.grpSch g = d.grpSch g := by
  simp only [Dev.grpSch, h]

@[simp] theorem Dev.grpSch_complete (d : Dev) (p id st sub : Nat) (res : List Nat) (g : Nat) :
    (d.complete p id st sub res).grpSch g = d.grpSch g :=
  Dev.grpSch_congr (congrArg Sch.grps (d.complete_keeps p id st sub res .sch (by decide))) g

/-- What moving entries of the heat plan changes: the entries and what waits for them, their contexts and the count of members past their
heat's end. -/
structure EntriesMove (d e : Dev) : Prop where
  keeps : Keeps [.sch, .ctx, .regs] d e
  sch : e.sch = { d.sch with entries := e.sch.entries, wait := e.sch.wait }
  words : KeepsRegs [F.SCH_OVERRUN.at 0] d e

namespace EntriesMove

theorem refl {d : Dev} : EntriesMove d d := ⟨.refl _ _, rfl, .refl⟩

theorem trans {a b c : Dev} (h1 : EntriesMove a b) (h2 : EntriesMove b c) : EntriesMove a c :=
  ⟨h1.keeps.trans h2.keeps, h2.sch.trans (by rw [h1.sch]), h1.words.trans h2.words⟩

theorem foldl {α : Type} {f : Dev → α → Dev} (h : ∀ d a, EntriesMove d (f d a)) (l : List α) (d : Dev) : EntriesMove d (l.foldl f d) := by
  induction l generalizing d with
  | nil => exact refl
  | cons a l ih => exact (h d a).trans (ih _)

theorem foldl_fst {α β : Type} {f : Dev × β → α → Dev × β} (h : ∀ x a, EntriesMove x.1 (f x a).1) (l : List α) (x : Dev × β) :
    EntriesMove x.1 (l.foldl f x).1 := by
  induction l generalizing x with
  | nil => exact refl
  | cons a l ih => exact (h x a).trans (ih _)

theorem grpSch {d e : Dev} (h : EntriesMove d e) (g : Nat) : e.grpSch g = d.grpSch g := Dev.grpSch_congr (by rw [h.sch]) g

end EntriesMove

theorem Dev.editCtx_sch (d : Dev) (m : Nat) (f : Ctx → Ctx) : (d.editCtx m f).sch = d.sch := (Dev.editCtx_evolves d m f).keeps .sch (by decide)

theorem Dev.setEntry_move (d : Dev) (m : Nat) (e : Entry) (st : Nat) : EntriesMove d (d.setEntry m e st) where
  keeps := (Dev.setEntry_evolves ..).into
  words := (Dev.setEntry_evolves ..).keeps.keepsRegs
  sch := by
    unfold Dev.setEntry Dev.unmerge Dev.expedite
    simp only
    split_ifs <;> simp [Dev.editCtx_sch]

theorem Dev.bump_overrun_move (d : Dev) : EntriesMove d (d.bump F.SCH_OVERRUN) :=
  ⟨(Dev.bump_evolves ..).into, rfl, keepsRegs_bump⟩

theorem Dev.planAt_move (d : Dev) (heat : Heat) (m : Nat) (e : Entry) (due : Nat) : EntriesMove d (d.planAt heat m e due) := by
  unfold Dev.planAt
  split
  · exact (Dev.setEntry_move ..).trans (Dev.bump_overrun_move _)
  · split
    · exact Dev.setEntry_move ..
    · exact Dev.setEntry_move ..

theorem Dev.spaceOut_move (d : Dev) (heat : Heat) (pk w1 : Nat) (es : List (Nat × Entry)) : EntriesMove d (d.spaceOut heat pk w1 es) :=
  EntriesMove.foldl_fst (fun _ _ => Dev.planAt_move ..) _ (d, 0, 0)

theorem Dev.spaceAll_move (d : Dev) (heat : Heat) (w1 : Nat) (es : List (Nat × Entry)) : EntriesMove d (d.spaceAll heat w1 es) :=
  (EntriesMove.foldl (fun _ _ => Dev.setEntry_move ..) _ d).trans (EntriesMove.foldl (fun _ _ => Dev.spaceOut_move ..) _ _)

theorem Dev.respace_move (d : Dev) (g st : Nat) : EntriesMove d (d.respace g st) := by
  unfold Dev.respace
  split
  · exact .refl
  · exact Dev.spaceAll_move ..

theorem Dev.holdEntries_move (d : Dev) (g : Nat) : EntriesMove d (d.holdEntries g) := EntriesMove.foldl (fun _ _ => Dev.setEntry_move ..) _ d

/-- Holding or releasing a group moves entries of the group with its new hold. -/
theorem Dev.holdGroup_move (d : Dev) (g : Nat) (hold : Bool) :
    EntriesMove (d.setGrpSch g { d.grpSch g with held := hold }) (d.holdGroup g hold) := by
  unfold Dev.holdGroup
  extract_lets d1
  split
  · exact Dev.holdEntries_move ..
  · split
    · exact .refl
    · exact Dev.respace_move ..

/-! ## Policies (R140 to R142, R176) -/

section
variable {s : State} {pair : Fin 64} {h : Held}

theorem policyLoad_holds {bs : List Byte} {pol : Policy} (htakes : s.takes pair 0x10 h) (hlen : 128 ≤ bufLen h.desc)
    (hparse : Policy.parse (padTo (bufLen h.desc) (bs.take (bufLen h.desc))) = .ok pol) :
    Completes (.policyLoad pair (.data bs)) s pair h [((s.dev.grpSch (tGrp h.desc)).loads + 1) % 65536] [.sch] (fun d =>
      d.grpSch (tGrp h.desc) = { s.dev.grpSch (tGrp h.desc) with pol := pol, loads := ((s.dev.grpSch (tGrp h.desc)).loads + 1) % 65536 }) := by
  have hruns : Runs (.policyLoad pair (.data bs)) s (s.dev.policyLoad pair h (padTo (bufLen h.desc) (bs.take (bufLen h.desc)))) := by
    simp [Runs, exec, execPolicyLoad, State.go, State.withDev, htakes.onDescRead_eq]
  simp only [Dev.policyLoad, Nat.not_lt.2 hlen, if_false, hparse] at hruns
  exact .intro hruns (Dev.setGrpSch_evolves ..).into (by simp)

theorem Policy.length_image {pol : Policy} {loads : Nat} (hsels : pol.sels.length ≤ 8) : (pol.image loads).length = 128 := by
  have hflat : (pol.sels.flatMap (leBytes 8)).length = 8 * pol.sels.length := by
    simp [List.length_flatMap, Nat.mul_comm]
  simp only [Policy.image, padTo, List.length_append, length_leBytes, List.length_replicate, hflat]
  omega

theorem policyGet_writes (htakes : s.takes pair 0x11 h) (hlen : 128 ≤ bufLen h.desc)
    (hsels : (s.dev.grpSch (tGrp h.desc)).pol.sels.length ≤ 8) :
    Completes (.policyGet pair) s pair h [128, 0] [.out] (fun d =>
      d.out = .hostWrite (bufAddr h.desc) ((s.dev.grpSch (tGrp h.desc)).pol.image (s.dev.grpSch (tGrp h.desc)).loads) :: s.dev.out) := by
  have himg := Policy.length_image (loads := (s.dev.grpSch (tGrp h.desc)).loads) hsels
  have hruns : Runs (.policyGet pair) s ((s.dev.emit (.hostWrite (bufAddr h.desc)
      ((s.dev.grpSch (tGrp h.desc)).pol.image (s.dev.grpSch (tGrp h.desc)).loads))).complete pair h.id 0 0 [128, 0]) := by
    simp [Runs, exec, execPolicyGet, State.go, State.withDev, htakes.onDesc_eq, Nat.not_lt.2 hlen, himg,
      Dev.writeBuf_of_length_le (himg.trans_le hlen)]
  exact .intro hruns (Dev.emit_evolves ..).into (by simp)

theorem policyHold_holds (htakes : s.takes pair 0x12 h) :
    Completes (.policyHold pair) s pair h [] [.sch, .ctx] (fun d => (d.grpSch (tGrp h.desc)).held = decide (h.desc.word 3 % 2 = 1)) := by
  have hruns : Runs (.policyHold pair) s ((s.dev.holdGroup (tGrp h.desc) (h.desc.word 3 % 2 = 1)).complete pair h.id 0 0) := by
    simp [Runs, exec, execPolicyHold, State.go, State.withDev, htakes.onDesc_eq]
  have hmove := Dev.holdGroup_move s.dev (tGrp h.desc) (h.desc.word 3 % 2 = 1)
  have hset := s.dev.setGrpSch_keeps (tGrp h.desc) { s.dev.grpSch (tGrp h.desc) with held := h.desc.word 3 % 2 = 1 }
  have hkeeps : Keeps [.sch, .ctx, .regs] s.dev (s.dev.holdGroup (tGrp h.desc) (h.desc.word 3 % 2 = 1)) := hmove.keeps.step (fun _ h => h)
    (hset.mono (by decide))
  refine .of_same hruns (hkeeps.mono (by decide)) (Dev.pair_eq_of_rng (hkeeps .rng (by decide)) _)
    (Dev.pairState_eq_of_fn (hkeeps .fn (by decide)) _) ?size (congrArg Tim.mono (hkeeps .tim (by decide))) ?post
  case size =>
    refine (hset.keepsRegs.trans hmove.words).cmpSize pair ?_
    simp only [F.at, F.SCH_OVERRUN, List.mem_singleton]
    omega
  case post => simp [hmove.grpSch]

end

/-! ## Readings and writes on demand (R163 to R166) -/

section
variable {s : State} {pair : Fin 64} {h : Held} {c : Ctx} {pk : Nat}

/-- A descriptor that names a meter which can be reached is acted on. -/
theorem Dev.meterDesc_eq {d : Dev} {p : Nat} (hctx : d.ctxNamed (tMix h.desc) = some c) (howned : c.owned = true) (hport : c.port = some pk)
    (hon : d.portOn pk = true) (hroot : d.on F.SEC_STS_ROOT_VALID = true) (hsend : d.canSend c = true) (f : Nat → Nat → Ctx → Dev) :
    d.meterDesc p h f = f (tMix h.desc) pk c := by
  simp [Dev.meterDesc, hctx, howned, hport, hon, hroot, hsend]

/-- A transaction that a descriptor asks for joins those that wait, and the descriptor is started. -/
theorem does_enqueue {cmd : Instr} {p : Nat} {x : Xfer} (hruns : Runs cmd s ((s.dev.markStarted p h.id).enqueue x)) :
    Does cmd s [.rng, .sch] (fun d => d.sch.wait = s.dev.sch.wait ++ [x] ∧ d.pair p = (s.dev.markStarted p h.id).pair p) :=
  ⟨_, hruns, (Dev.enqueue_evolves ..).into.step (fun _ h => h) (Dev.markStarted_evolves ..).into, rfl, rfl⟩

theorem readNow_enqueues (htakes : s.takes pair 0x20 h) (hctx : s.dev.ctxNamed (tMix h.desc) = some c) (howned : c.owned = true)
    (hport : c.port = some pk) (hon : s.dev.portOn pk = true) (hroot : s.dev.on F.SEC_STS_ROOT_VALID = true) (hsend : s.dev.canSend c = true)
    (hentry : s.dev.entry (tMix h.desc) = none) :
    Does (.readNow pair) s [.rng, .sch] (fun d => d.sch.wait = s.dev.sch.wait ++ [s.dev.odRead (tMix h.desc) pk c pair h]
      ∧ d.pair pair = (s.dev.markStarted pair h.id).pair pair) := by
  have hmerge : (s.dev.markStarted pair h.id).mergeRead (tMix h.desc) pk c pair h
      = (s.dev.markStarted pair h.id).enqueue (s.dev.odRead (tMix h.desc) pk c pair h) := by
    have hnone : (s.dev.markStarted pair h.id).entry (tMix h.desc) = none := hentry
    simp only [Dev.mergeRead, hnone, ite_self]
    rfl
  refine does_enqueue ?_
  rw [← hmerge]
  simp [Runs, exec, execReadNow, State.go, State.withDev, htakes.onDesc_eq, Dev.meterDesc_eq hctx howned hport hon hroot hsend]

/-- A write that a descriptor asks for. -/
theorem Dev.writeDesc_eq {d : Dev} {p : Nat} (hctx : d.ctxNamed (tMix h.desc) = some c) (howned : c.owned = true) (hport : c.port = some pk)
    (hon : d.portOn pk = true) (hroot : d.on F.SEC_STS_ROOT_VALID = true) (hsend : d.canSend c = true) (hmute : d.mute pk (tMix h.desc) = false)
    (ask : Ask) : d.writeDesc p h ask = (d.markStarted p h.id).enqueue { d.odRead (tMix h.desc) pk c p h with ask := ask, sels := [] } := by
  simp [Dev.writeDesc, Dev.meterDesc_eq hctx howned hport hon hroot hsend, hmute]

end

/-- Settles O9, one command after the other. -/
theorem policiesAndOnDemandWork : Obligations.PoliciesAndOnDemandWork := by
  refine ⟨fun _ _ _ _ _ => policyLoad_holds, fun _ _ _ => policyGet_writes, fun _ _ _ => policyHold_holds,
    fun _ _ _ _ _ => readNow_enqueues, ?obj, ?action, ?time⟩
  case obj =>
    intro s pair bs h c pk htakes hctx howned hport hon hroot hsend hmute
    refine does_enqueue ?_
    simp [Runs, exec, execWriteObj, State.go, State.withDev, htakes.onDescRead_eq, Dev.writeDesc_eq hctx howned hport hon hroot hsend hmute]
  case action =>
    intro s pair bs h c pk htakes hctx howned hport hon hroot hsend hmute
    refine does_enqueue ?_
    simp [Runs, exec, execWriteAction, State.go, State.withDev, htakes.onDescRead_eq, Dev.writeDesc_eq hctx howned hport hon hroot hsend hmute]
  case time =>
    intro s pair h c pk htakes hctx howned hport hon hroot hsend hmute
    refine does_enqueue ?_
    simp [Runs, exec, execWriteTime, State.go, State.withDev, htakes.onDesc_eq, Dev.writeDesc_eq hctx howned hport hon hroot hsend hmute]

end Sys2Proof.Machine

end

section

-- one proof after the other: the check gives the text few threads
set_option Elab.async false

namespace Sys2Proof.Machine

/-! ## Heats open and close (R142 to R150) -/

theorem Dev.grpSch_setGrpSch_other (d : Dev) (g j : Nat) (x : GrpSch) (h : j ≠ g) : (d.setGrpSch g x).grpSch j = d.grpSch j :=
  Tab.getD_set_other _ _ _ _ _ h

theorem Dev.markCatchup_move (d : Dev) (m : Nat) : EntriesMove d (d.markCatchup m) where
  keeps := (Dev.markCatchup_evolves ..).into
  words := (Dev.markCatchup_evolves ..).keeps.keepsRegs
  sch := by rw [show (d.markCatchup m).sch = d.sch from Dev.editCtx_sch ..]

/-- A group whose heat opens at a device's time. -/
def Dev.heatOpened (d : Dev) (g : Nat) (census : Bool) : GrpSch :=
  let gs := d.grpSch g
  { gs with
    cur := gs.pol, late := []
    heat := some { start := d.nowNs, from_ := d.tim.mono, until_ := d.tim.mono + gs.pol.cycles, pol := gs.pol, census := census } }

theorem Dev.heatOpen_move {d : Dev} {g : Nat} (hnone : (d.grpSch g).heat = none) (census : Bool) :
    EntriesMove (d.setGrpSch g (d.heatOpened g census)) (d.heatOpen g census) := by
  unfold Dev.heatOpen
  extract_lets gs h d1 ms ranked es d2
  rw [if_neg (by simp [gs, hnone])]
  have h2 : EntriesMove d1 d2 := by
    unfold d2
    split
    · exact .refl
    · exact .foldl (fun _ _ => Dev.markCatchup_move ..) _ _
  refine h2.trans ?_
  split
  · exact .foldl (fun _ _ => Dev.setEntry_move ..) _ _
  · exact Dev.spaceAll_move ..

theorem Dev.heatOpen_of_open {d : Dev} {g : Nat} (hopen : (d.grpSch g).heat.isSome = true) (census : Bool) : d.heatOpen g census = d := by
  simp [Dev.heatOpen, hopen]

theorem Dev.grpSch_heatOpen {d : Dev} {g : Nat} (hnone : (d.grpSch g).heat = none) (census : Bool) :
    (d.heatOpen g census).grpSch g = d.heatOpened g census := by
  rw [(Dev.heatOpen_move hnone census).grpSch, Dev.grpSch_setGrpSch]

theorem Dev.heat_heatOpen_isSome (d : Dev) (g : Nat) (census : Bool) : ((d.heatOpen g census).grpSch g).heat.isSome = true := by
  cases hheat : (d.grpSch g).heat with
  | none => rw [Dev.grpSch_heatOpen hheat]; rfl
  | some x => rw [Dev.heatOpen_of_open (by simp [hheat]), hheat]; rfl

/-- A heat that opens leaves the other groups. -/
theorem Dev.grpSch_heatOpen_other (d : Dev) (g j : Nat) (census : Bool) (hj : j ≠ g) : (d.heatOpen g census).grpSch j = d.grpSch j := by
  cases hheat : (d.grpSch g).heat with
  | none => rw [(Dev.heatOpen_move hheat census).grpSch, Dev.grpSch_setGrpSch_other _ _ _ _ hj]
  | some x => rw [Dev.heatOpen_of_open (by simp [hheat])]

theorem Dev.heat_heatOpen_mono {d : Dev} {j : Nat} (hopen : (d.grpSch j).heat.isSome = true) (g : Nat) (census : Bool) :
    ((d.heatOpen g census).grpSch j).heat.isSome = true := by
  by_cases hj : j = g
  · rw [hj]; exact Dev.heat_heatOpen_isSome ..
  · rwa [Dev.grpSch_heatOpen_other _ _ _ _ hj]

/-- Opening the heats of a list of groups leaves each of them open. -/
theorem heats_open_after_foldl (census : Bool) (l : List Nat) (d : Dev) (g : Nat) (hg : g ∈ l ∨ (d.grpSch g).heat.isSome = true) :
    ((l.foldl (fun (y : Dev) x => y.heatOpen x census) d).grpSch g).heat.isSome = true := by
  induction l generalizing d with
  | nil => simpa using hg
  | cons a l ih =>
    refine ih _ ?_
    rcases hg with hmem | hopen
    · rcases List.mem_cons.1 hmem with rfl | hmem
      · exact .inr (Dev.heat_heatOpen_isSome ..)
      · exact .inl hmem
    · exact .inr (Dev.heat_heatOpen_mono hopen ..)

/-- The end of a heat that is no census takes its entries from the plan. -/
theorem Dev.heatClose_eq {d : Dev} {g : Nat} {x : Heat} (hheat : (d.grpSch g).heat = some x) (hcensus : x.census = false) :
    ∃ (e : Dev) (late : List Nat), Keeps [.sch, .ctx, .lcp] d e ∧ d.heatClose g = e.setGrpSch g { e.grpSch g with heat := none, late := late } := by
  simp only [Dev.heatClose, hheat, hcensus, Bool.not_false, if_true]
  exact ⟨_, _, Keeps.foldl _ (fun _ _ => (Dev.settleEnd_evolves ..).into) _ _, rfl⟩

/-! ## Entries of the plan -/

@[simp] theorem Dev.entry_setEntry (d : Dev) (m : Nat) (e : Entry) (st : Nat) :
    (d.setEntry m e st).entry m = some { e with at_ := d.nowNs + 2 * e.due - 2 * d.tim.mono } := by
  unfold Dev.setEntry Dev.unmerge Dev.expedite Dev.entry
  simp only
  split_ifs <;> simp [Dev.editCtx_sch]

theorem Dev.push_planAt {d : Dev} {heat : Heat} {m : Nat} {e : Entry} {due : Nat} (hdue : due < heat.until_) (hpush : e.push = false)
    (hlate : e.late = true) (hmute : d.mute e.port m = false) : ((d.planAt heat m e due).entry m).map (fun y => y.push) = some false := by
  unfold Dev.planAt
  rw [if_neg (by omega)]
  split
  · simp [hpush]
  · simp [Dev.silentEntry, hlate, hmute]

theorem Dev.mute_toNs (d : Dev) (n pk m : Nat) : (d.toNs n).mute pk m = d.mute pk m := by
  have hcals : (d.toNs n).cals = d.cals := Dev.toNs_cals ..
  have hctx : (d.toNs n).ctx = d.ctx := Dev.toNs_ctx ..
  simp only [Dev.mute, Dev.slotted, Dev.ctxAt, hcals, hctx]

/-! ## Storm windows (R162) -/

theorem Dev.suspend_move (d : Dev) : EntriesMove d d.suspend := by
  unfold Dev.suspend
  split
  · exact .foldl (fun _ _ => Dev.setEntry_move ..) _ _
  · exact .refl

/-- The members that a storm suspended are planned again. -/
theorem respaceHeld_move (l : List Nat) (d : Dev) :
    EntriesMove d (if d.isBow then d else l.foldl (fun (y : Dev) g => if y.grpHeld g then y else y.respace g 9) d) := by
  split
  · exact .refl
  · refine .foldl (fun y g => ?_) _ _
    split
    · exact .refl
    · exact Dev.respace_move ..

/-- The storm's end moves entries and reports; the window, its alarms and the time stay. -/
theorem Dev.stormLeave_window (d : Dev) : d.stormLeave.sch.window = d.sch.window ∧ d.stormLeave.sch.alarms = d.sch.alarms := by
  unfold Dev.stormLeave
  extract_lets d1 d2
  have h2 : EntriesMove d1 d2 := respaceHeld_move _ _
  have hsch : (d2.recordPost 4 0x1202 0 0x12 0 0 (d2.rd F.SCH_STORMS)).sch = d2.sch := (Dev.recordPost_evolves ..).keeps .sch (by decide)
  have h1 : d1.sch = d.suspend.sch := Dev.wrb_sch ..
  rw [hsch, h2.sch, h1, d.suspend_move.sch]
  exact ⟨rfl, rfl⟩

/-! ## The commands -/

section
variable {s : State}

theorem heatStart_opens {grp : Fin 4096} (hlive : s.dev.live = true) (hstep : s.dev.glb.stepH = true)
    (hnone : (s.dev.grpSch grp).heat = none) :
    Does (.heatStart grp) s [.tim, .evr, .sch, .ctx, .regs] (fun d =>
      ((d.grpSch grp).heat.map (fun x => (x.pol, x.census))) = some ((s.dev.grpSch grp).pol, false)
        ∧ (d.grpSch grp).cur = (s.dev.grpSch grp).pol) := by
  have hruns : Runs (.heatStart grp) s ((s.dev.toNs (s.dev.nextHeat grp)).heatOpen grp false) := by
    simp [Runs, exec, execHeatStart, State.go, State.withDev, hlive, hstep, hnone]
  have hgrp : (s.dev.toNs (s.dev.nextHeat grp)).grpSch grp = s.dev.grpSch grp := Dev.grpSch_congr (by simp) _
  refine ⟨_, hruns, ((Dev.heatOpen_evolves ..).after (Dev.toNs_evolves ..).mono).keeps, ?_⟩
  simp only [Dev.grpSch_heatOpen (hgrp ▸ hnone)]
  simp [Dev.heatOpened, hgrp]

theorem heatEnd_closes {grp : Fin 4096} {x : Heat} (hlive : s.dev.live = true) (hheat : (s.dev.grpSch grp).heat = some x)
    (hcensus : x.census = false) :
    Does (.heatEnd grp) s [.tim, .evr, .sch, .ctx, .lcp] (fun d => (d.grpSch grp).heat = none ∧ x.until_ ≤ d.tim.mono) := by
  have hruns : Runs (.heatEnd grp) s ((s.dev.suspend.toMono x.until_).heatClose grp) := by
    simp [Runs, exec, execHeatEnd, State.go, State.withDev, hlive, hheat]
  have hsus := s.dev.suspend_move
  have hgrp : (s.dev.suspend.toMono x.until_).grpSch grp = s.dev.grpSch grp := (Dev.grpSch_congr rfl _).trans (hsus.grpSch grp)
  obtain ⟨e, late, hkeeps, heq⟩ := Dev.heatClose_eq (hgrp ▸ hheat) hcensus
  rw [heq] at hruns
  have hall : Keeps [.tim, .evr, .sch, .ctx, .lcp] s.dev e := hkeeps.step (by decide)
    ((Dev.toMono_evolves ..).after (Dev.suspend_evolves ..).mono).keeps
  refine ⟨_, hruns, (Dev.setGrpSch_evolves ..).keeps.step (by decide) hall, by simp, ?_⟩
  rw [show (e.setGrpSch grp _).tim = e.tim from rfl, show e.tim = _ from hkeeps .tim (by decide), Dev.toMono_mono]
  omega

theorem schedEntryDue_falls {mix : BitVec 20} {e : Entry} (hserves : s.dev.serves = true) (hentry : s.dev.entry mix.toNat = some e)
    (hpush : e.push = false) (hfallen : e.fallen = false) (hst : s.dev.heatState mix.toNat = 1 ∨ s.dev.heatState mix.toNat = 3)
    (hstorm : s.dev.storm = false) :
    Does (.schedEntryDue mix) s [.tim, .evr, .sch] (fun d => d.entry mix.toNat = some { e with fallen := true } ∧ e.due ≤ d.tim.mono) := by
  have hruns : Runs (.schedEntryDue mix) s (s.dev.entryDue mix.toNat) := rfl
  have hlater : (s.dev.toMono e.due).storm = false := by rw [← hstorm]; simp [Dev.storm]
  have hcond : (decide (s.dev.heatState mix.toNat = 1) || decide (s.dev.heatState mix.toNat = 3)) = true := by simpa using hst
  simp only [Dev.entryDue, hentry, hserves, hpush, hfallen, hcond, hlater, Bool.not_false, Bool.and_self, Bool.false_eq_true, if_true, if_false]
    at hruns
  refine ⟨_, hruns, ?_, by simp [Dev.entry, hpush], ?_⟩
  · exact (Evolves.sch.after (Dev.toMono_evolves ..).mono).keeps
  · rw [Dev.toMono_mono]; exact le_max_right _ _

theorem pushGraceExpiry_reads {mix : BitVec 20} {e : Entry} {c : Ctx} {x : Heat} (hserves : s.dev.serves = true)
    (hentry : s.dev.entry mix.toNat = some e) (hctx : s.dev.ctxAt mix.toNat = some c) (hheat : (s.dev.grpSch e.grp).heat = some x)
    (hpush : e.push = true) (hmethod : x.pol.method = 1)
    (hbefore : (s.dev.toNs ((c.firstEnd + x.pol.pushGrace) * 1000000000)).tim.mono < x.until_) (hmute : s.dev.mute e.port mix.toNat = false) :
    Does (.pushGraceExpiry mix) s [.tim, .evr, .sch, .ctx, .regs] (fun d => (d.entry mix.toNat).map (fun y => y.push) = some false) := by
  have hruns : Runs (.pushGraceExpiry mix) s (s.dev.pushLate mix.toNat) := by
    simp [Runs, exec, execPushGraceExpiry, State.go, State.withDev, hserves]
  refine ⟨_, hruns, (Dev.pushLate_evolves ..).into, ?_⟩
  simp only [Dev.pushLate, hentry, hctx, hheat]
  generalize (c.firstEnd + x.pol.pushGrace) * 1000000000 = ns at hbefore ⊢
  simp only [hpush, hmethod, hbefore, hmute, decide_true, Bool.not_false, Bool.and_self, if_true]
  split
  · exact Dev.push_planAt hbefore rfl rfl (by rw [Dev.mute_toNs, hmute])
  · simp [Dev.entry]

theorem censusStart_opens (hlive : s.dev.live = true) (hg : s.dev.glb.stepG = true) (hc : s.dev.glb.stepC = true)
    (hh : s.dev.glb.stepH = false) (hmuster : s.dev.mustered = true) (hports : s.dev.portsServe = true) :
    Does .censusStart s [.glb, .sch, .ctx, .regs] (fun d => d.glb.stepH = true ∧ d.glb.censusOn = true ∧ d.glb.censusOpen = 4096
      ∧ ∀ g : Fin 4096, (d.grpSch g).heat.isSome = true) := by
  have hruns : Runs .censusStart s s.dev.census := by
    simp [Runs, exec, execCensusStart, State.go, State.withDev, hlive, hg, hc, hh, hmuster, hports]
  refine ⟨_, hruns, (Dev.census_evolves ..).into, ?_⟩
  unfold Dev.census
  extract_lets d0 _ d1
  have hglb : ((List.range 4096).foldl (fun (y : Dev) g => y.heatOpen g true) d1).glb = d1.glb :=
    Keeps.foldl (fun (y : Dev) g => y.heatOpen g true) (fun _ _ => (Dev.heatOpen_evolves ..).keeps) _ d1 .glb (by decide)
  simp only [hglb]
  exact ⟨rfl, rfl, rfl, fun g => heats_open_after_foldl true _ d1 g (.inl (List.mem_range.2 g.isLt))⟩

theorem stormWindow_starts (hlive : s.dev.live = true) :
    Does .stormWindow s (.tim :: .sch :: .ctx :: reportParts) (fun d =>
      d.sch.alarms = 0 ∧ d.sch.window = d.tim.mono ∧ s.dev.sch.window + 500000000 ≤ d.tim.mono) := by
  have hruns : Runs .stormWindow s s.dev.stormWindow := by simp [Runs, exec, execStormWindow, State.go, State.withDev, hlive]
  refine ⟨_, hruns, (Dev.stormWindow_evolves ..).into, ?_⟩
  unfold Dev.stormWindow
  extract_lets d0 quiet _ d1
  have htime : s.dev.sch.window + 500000000 ≤ d1.tim.mono := by
    have h0 : d0.tim = (s.dev.toMono (s.dev.sch.window + 500000000)).tim := (Dev.stormCheck_evolves ..).keeps .tim (by decide)
    rw [show d1.tim = d0.tim from rfl, h0, Dev.toMono_mono]
    exact le_max_right _ _
  split
  · obtain ⟨hwindow, halarms⟩ := Dev.stormLeave_window d1
    have htim : d1.stormLeave.tim = d1.tim := (Dev.stormLeave_evolves ..).keeps .tim (by decide)
    simp only [halarms, hwindow, htim]
    exact ⟨rfl, rfl, htime⟩
  · exact ⟨rfl, rfl, htime⟩

end

/-- Settles O10, one command after the other. -/
theorem heats : Obligations.Heats :=
  ⟨fun _ _ => heatStart_opens, fun _ _ _ => heatEnd_closes, fun _ _ _ => schedEntryDue_falls, fun _ _ _ _ _ => pushGraceExpiry_reads,
    fun _ => censusStart_opens, fun _ => stormWindow_starts⟩

end Sys2Proof.Machine

end

section

-- one proof after the other: the check gives the text few threads
set_option Elab.async false

namespace Sys2Proof.Machine

/-! ## CTX_OWNER and descriptors of one number -/

/-- A meter of the device itself, in use. -/
def ownMeter : Ctx := { addr := 5, kind := 0, st := 3, attach := 1, owner := 0xFFFF }

def ownerDesc : Held := heldAs 7 [0x73, 0, 0x10000003, 0, 0, 0, 0xFFFF]

/-- Pair 0 holds a CTX_OWNER and a READ_NOW of the same meter under the same number. -/
def sameNumber : State := .booted fun d => { (d.setFn 64 { st := .on }).setPair 0 { held := [ownerDesc, heldAs 7 [0x20, 0, 0x10000003]] } with
  ctx := { d.ctx with tab := [(3, ownMeter)] } }

theorem sameNumber_takes : sameNumber.takes 0 0x73 ownerDesc := by
  unfold State.takes
  decide +kernel

/-- Starting the one starts the other, which then works for the meter: the change of owner waits. -/
theorem sameNumber_owner_waits : (sameNumber.devAfter (.ctxOwner 0)).ctx.owners ≠ [] := by decide +kernel

/-- Refutes O11 in its clause on CTX_OWNER: nothing says that a pair's descriptors have different numbers, and where two of one meter share
one, starting CTX_OWNER starts the other too, so the meter is busy and its owner not yet the one given. -/
theorem not_contextDescriptors : ¬ Obligations.ContextDescriptors := by
  unfold Obligations.ContextDescriptors
  rintro ⟨-, -, -, howner, -⟩
  have hdoes := howner sameNumber 0 ownerDesc ownMeter sameNumber_takes (by decide +kernel) rfl (by decide +kernel) rfl rfl (by decide +kernel)
  exact sameNumber_owner_waits hdoes.devAfter.2

end Sys2Proof.Machine

end

section

-- one proof after the other: the check gives the text few threads
set_option Elab.async false

namespace Sys2Proof.Machine

/-! ## Tariff tables of a group -/

@[simp] theorem Dev.grpTar_setGrpTar (d : Dev) (g : Nat) (x : GrpTar) : (d.setGrpTar g x).grpTar g = x := Tab.getD_set _ _ _ _

@[simp] theorem Dev.complete_tar (d : Dev) (p id st sub : Nat) (res : List Nat) : (d.complete p id st sub res).tar = d.tar :=
  (Dev.complete_evolves ..).keeps .tar (by decide)

@[simp] theorem Dev.offer_tar (d : Dev) (q : Nat) (i : Item) : (d.offer q i).tar = d.tar := (Dev.offer_evolves ..).keeps .tar (by decide)

theorem Dev.grpTar_congr {d e : Dev} (h : e.tar = d.tar) (g : Nat) : e.grpTar g = d.grpTar g := by simp only [Dev.grpTar, h]

/-- Every table fills 2,208 bytes at least, so no image is empty. -/
theorem TarTable.image_isEmpty (t : TarTable) : t.image.isEmpty = false := by
  simp [TarTable.image, layBytes, leBytes]

/-- What a journalled entry and an item for the media leave of the tariff partition, and of the pairs. -/
theorem Journalled.offer_loads {d e : Dev} (hj : Journalled d d.ldg e) (loads : List LoadWait) (i : Item) :
    Keeps (.tar :: reportParts) d (({ e with tar := { e.tar with loads := loads } } : Dev).offer 14 i)
      ∧ (∀ g, (({ e with tar := { e.tar with loads := loads } } : Dev).offer 14 i).grpTar g = d.grpTar g)
      ∧ (({ e with tar := { e.tar with loads := loads } } : Dev).offer 14 i).tar.loads = loads
      ∧ ∀ p, (({ e with tar := { e.tar with loads := loads } } : Dev).offer 14 i).pair p = d.pair p := by
  have hset : Keeps [.tar] e ({ e with tar := { e.tar with loads := loads } } : Dev) := Keeps.tar _ _
  have hgrp (g : Nat) : ({ e with tar := { e.tar with loads := loads } } : Dev).grpTar g = e.grpTar g := rfl
  have hpair (p : Nat) : ({ e with tar := { e.tar with loads := loads } } : Dev).pair p = e.pair p := rfl
  have hloads : ({ e with tar := { e.tar with loads := loads } } : Dev).tar.loads = loads := rfl
  generalize ({ e with tar := { e.tar with loads := loads } } : Dev) = f at hset hgrp hpair hloads
  have hrep := f.offer_reporting 14 i
  have htar : (f.offer 14 i).tar = f.tar := hrep.keeps .tar (by decide)
  refine ⟨hrep.keeps.step (by decide) (hset.step (by decide) hj.keeps_of_ldg), fun g => ?_, htar ▸ hloads, fun p => ?_⟩
  · rw [Dev.grpTar_congr htar, hgrp, hj.grpTar]
  · rw [hrep.pair, hpair, hj.pair]

section
variable {s : State} {pair : Fin 64} {h : Held}

theorem tariffLoad_stages {bs : List Byte} {t : TarTable} (htakes : s.takes pair 0x40 h) (hlen : 2240 ≤ bufLen h.desc)
    (hparse : TarTable.parse (padTo (bufLen h.desc) (bs.take (bufLen h.desc))) = .ok t) (hen : s.dev.par.en = false)
    (hroom : (s.dev.setGrpTar (tGrp h.desc) { s.dev.grpTar (tGrp h.desc) with staged := none, actAt := none }).slotTables.length < 96) :
    Does (.tariffLoad pair (.data bs)) s (.tar :: reportParts) (fun d =>
      d.grpTar (tGrp h.desc) = { s.dev.grpTar (tGrp h.desc) with staged := some t, actAt := none }
        ∧ d.tar.loads = s.dev.tar.loads ++ [{ pair := pair.val, id := h.id, seq := s.dev.tar.jseq + 1, crc := crc32 t.image }]
        ∧ d.pair pair = (s.dev.markStarted pair h.id).pair pair) := by
  have hruns : Runs (.tariffLoad pair (.data bs)) s (s.dev.tariffLoad pair h (padTo (bufLen h.desc) (bs.take (bufLen h.desc)))) := by
    simp [Runs, exec, execTariffLoad, State.go, State.withDev, htakes.onDesc_eq, Nat.not_lt.2 hlen]
  simp only [Dev.tariffLoad, hparse, Nat.not_le.2 hroom, decide_false, Bool.and_false, Bool.false_eq_true, if_false] at hruns
  have hset := (Dev.setGrpTar_evolves (s.dev.markStarted pair h.id) (tGrp h.desc)
    { s.dev.grpTar (tGrp h.desc) with staged := some t, actAt := none }).keeps
  have hgrp := (s.dev.markStarted pair h.id).grpTar_setGrpTar (tGrp h.desc)
    { s.dev.grpTar (tGrp h.desc) with staged := some t, actAt := none }
  have hmark := (Dev.markStarted_evolves s.dev pair h.id).keeps
  have htar : ((s.dev.markStarted pair h.id).setGrpTar (tGrp h.desc)
      { s.dev.grpTar (tGrp h.desc) with staged := some t, actAt := none }).tar.loads = s.dev.tar.loads
    ∧ ((s.dev.markStarted pair h.id).setGrpTar (tGrp h.desc)
      { s.dev.grpTar (tGrp h.desc) with staged := some t, actAt := none }).tar.jseq = s.dev.tar.jseq := ⟨rfl, rfl⟩
  generalize (s.dev.markStarted pair h.id).setGrpTar (tGrp h.desc) { s.dev.grpTar (tGrp h.desc) with staged := some t, actAt := none } = d0
    at hruns hset hgrp htar
  have hj := Dev.journal_single_plain (d := d0) (by rw [hset .par (by decide), hmark .par (by decide), hen]) (.loaded (tGrp h.desc) t.image)
    none none
  obtain ⟨hkeeps, hgrps, hloads, hpairs⟩ := hj.offer_loads _ _
  refine ⟨_, hruns, hkeeps.step (fun _ h => h) (hset.step (by decide) (hmark.mono (by decide))), (hgrps _).trans hgrp, ?_, ?_⟩
  · rw [hloads, hj.loads, hj.jseq, htar.1, htar.2]
  · rw [hpairs, Dev.pair_eq_of_rng (hset .rng (by decide))]

theorem tariffActivate_arms (htakes : s.takes pair 0x41 h) (hstaged : (s.dev.grpTar (tGrp h.desc)).staged.isSome = true)
    (hen : s.dev.par.en = false) :
    Completes (.tariffActivate pair) s pair h [] (.tar :: reportParts) (fun d => d.tar.jseq = s.dev.tar.jseq + 1
      ∧ d.grpTar (tGrp h.desc) = { s.dev.grpTar (tGrp h.desc) with actAt := some (max s.dev.nowNs (h.desc.quad 3)) }) := by
  have hsome : (s.dev.grpTar (tGrp h.desc)).staged.isNone = false := by simpa using hstaged
  have hruns : Runs (.tariffActivate pair) s _ := rfl
  simp only [htakes.onDesc_eq, hsome, Bool.false_eq_true, if_false] at hruns
  generalize max s.dev.nowNs (h.desc.quad 3) = at_ at hruns ⊢
  have hset := (Dev.setGrpTar_evolves s.dev (tGrp h.desc) { s.dev.grpTar (tGrp h.desc) with actAt := some at_ }).keeps
  have hgrp := s.dev.grpTar_setGrpTar (tGrp h.desc) { s.dev.grpTar (tGrp h.desc) with actAt := some at_ }
  have hjseq : (s.dev.setGrpTar (tGrp h.desc) { s.dev.grpTar (tGrp h.desc) with actAt := some at_ }).tar.jseq = s.dev.tar.jseq := rfl
  generalize s.dev.setGrpTar (tGrp h.desc) { s.dev.grpTar (tGrp h.desc) with actAt := some at_ } = d0 at hruns hset hgrp hjseq
  obtain ⟨half, closed, eff, hj⟩ := Dev.journal_single_plain (d := d0) (by rw [hset .par (by decide), hen]) (.armed (tGrp h.desc) at_) none none
  have htar := hj.keeps .tar (by decide)
  refine .of_reporting (parts := [.tar]) hruns ?_ (hj.trans (Dev.offer_reporting _ 14 _)).ofRecord ⟨?_, ?_⟩
  · exact (Evolves.tar.keeps).step (fun _ h => h) hset
  · rw [Dev.complete_tar, Dev.offer_tar, htar, ← hjseq]
  · rw [Dev.grpTar, Dev.complete_tar, Dev.offer_tar, htar, ← hgrp]
    rfl

theorem tariffGet_writes (htakes : s.takes pair 0x42 h) (hstaged : (s.dev.grpTar (tGrp h.desc)).staged = none) (hlen : 2208 ≤ bufLen h.desc) :
    Completes (.tariffGet pair) s pair h [(s.dev.grpTar (tGrp h.desc)).table.image.length] [.out] (fun d =>
      d.out = .hostWrite (bufAddr h.desc) ((s.dev.grpTar (tGrp h.desc)).table.image.take (bufLen h.desc)) :: s.dev.out) := by
  obtain ⟨k, hk⟩ : ∃ k, bufLen h.desc / 2208 = k + 1 := ⟨bufLen h.desc / 2208 - 1, by omega⟩
  have hruns : Runs (.tariffGet pair) s ((s.dev.writeBuf h.desc (s.dev.grpTar (tGrp h.desc)).table.image).complete pair h.id 0 0
      [(s.dev.grpTar (tGrp h.desc)).table.image.length]) := by
    simp [Runs, exec, execTariffGet, State.go, State.withDev, htakes.onDesc_eq, hstaged, hk, -List.isEmpty_iff, TarTable.image_isEmpty]
  exact .intro hruns (Dev.writeBuf_evolves ..).into (by simp [Dev.writeBuf])

/-- The check of the time's validity reports at most, and notes that the device has had no time. -/
theorem Dev.timeCheck_reporting (d : Dev) :
    ∃ v, Reporting recordRegs [13] { d with tim := { d.tim with freeStep := d.tim.freeStep || d.noTime, valid := v } } d.timeCheck := by
  simp only [Dev.timeCheck]
  split
  · exact ⟨d.tim.valid, .refl⟩
  · exact ⟨d.timeValid, Dev.recordPost_reporting ..⟩

theorem timeConfirm_ends (htakes : s.takes pair 0x43 h) (hpend : s.dev.tar.stepPend ≠ 0)
    (hnear : (signed 64 (h.desc.quad 3) - s.dev.tar.stepPend).natAbs ≤ 1000000000) :
    Completes (.timeConfirm pair) s pair h [] (.tar :: .tim :: reportParts) (fun d =>
      d.tar.stepPend = 0 ∧ d.tim.freeStep = (s.dev.tim.freeStep || s.dev.noTime)) := by
  have hruns : Runs (.timeConfirm pair) s ((({ s.dev with tar := { s.dev.tar with stepPend := 0 } } : Dev).complete pair h.id 0 0).timeCheck) := by
    simp only [Runs, exec, execTimeConfirm, State.go, State.withDev, htakes.onDesc_eq, hpend, hnear, ne_eq, not_false_eq_true, and_self, if_true]
  obtain ⟨v, hrep⟩ := (({ s.dev with tar := { s.dev.tar with stepPend := 0 } } : Dev).complete pair h.id 0 0).timeCheck_reporting
  have hclear : Evolves [.tar] s.dev ({ s.dev with tar := { s.dev.tar with stepPend := 0 } } : Dev) := .tar
  have hdone := Dev.complete_evolves ({ s.dev with tar := { s.dev.tar with stepPend := 0 } } : Dev) pair h.id 0 0 []
  refine ⟨_, hruns, ?keeps, ?pair, ?pend, ?step⟩
  case keeps => exact ((Dev.timeCheck_evolves ..).after ((Dev.complete_evolves ..).after hclear.mono)).keeps
  case pair => exact (hrep.pair _).trans (hclear.keeps.pair_complete _ _ _ _ _)
  case pend =>
    rw [hrep.keeps .tar (by decide)]
    exact congrArg Tar.stepPend (hdone.keeps .tar (by decide))
  case step =>
    rw [hrep.keeps .tim (by decide)]
    simp only [Dev.noTime, show (({ s.dev with tar := { s.dev.tar with stepPend := 0 } } : Dev).complete pair h.id 0 0).tim = s.dev.tim
      from hdone.keeps .tim (by decide)]

end

/-- Settles O12, one command after the other. -/
theorem tariffDescriptors : Obligations.TariffDescriptors :=
  ⟨fun _ _ _ _ _ => tariffLoad_stages, fun _ _ _ => tariffActivate_arms, fun _ _ _ => tariffGet_writes, fun _ _ _ => timeConfirm_ends⟩

end Sys2Proof.Machine

end

section

-- one proof after the other: the check gives the text few threads
set_option Elab.async false

namespace Sys2Proof.Machine

/-! ## The journal of one meter's extension -/

@[simp] theorem Dev.ext_setExt (d : Dev) (m : Nat) (x : Ext) : (d.setExt m x).ext m = some x := by simp [Dev.setExt, Dev.ext]

/-- What a journalled change of an extension leaves on a single device: the extension changed, one entry more. -/
theorem Dev.journalExt_single {d : Dev} {m : Nat} {x : Ext} (hen : d.par.en = false) (hext : d.ext m = some x) (what : JWhat)
    (f : Nat → Ext → Ext) (out : Option (Nat × Nat × Nat)) :
    ∃ l, Journalled (d.setExt m (f (d.tar.jseq + 1) x)) l (d.journalExt m what f out) ∧ (out = none → l = d.ldg) := by
  unfold Dev.journalExt
  rw [hext]
  exact Dev.journal_single (d := d.setExt m (f (d.tar.jseq + 1) x)) hen what (some m) (some (f (d.tar.jseq + 1) x)) out

/-- Journalling an extension's change without an outcome keeps a single device's other parts. -/
theorem Dev.journalExt_keeps {d : Dev} (hen : d.par.en = false) (m : Nat) (what : JWhat) (f : Nat → Ext → Ext) :
    Keeps (.tar :: reportParts) d (d.journalExt m what f) := by
  cases hext : d.ext m with
  | none => simp only [Dev.journalExt, hext]; exact .refl _ _
  | some x =>
    obtain ⟨l, hj, hl⟩ := Dev.journalExt_single hen hext what f none
    rw [hl rfl] at hj
    exact hj.keeps_of_ldg.step (fun _ h => h) (Dev.setExt_evolves ..).into

/-! ## What waits for the Security engine -/

/-- Whether a context can be fetched at once rests on the Context engine alone. -/
theorem Dev.fetchCtx_fst_congr {d e : Dev} (h : e.ctx = d.ctx) (m : Nat) : (e.fetchCtx m).1 = (d.fetchCtx m).1 := by
  have hpinned (w : Nat) : e.pinned w = d.pinned w := by simp only [Dev.pinned, h]
  unfold Dev.fetchCtx
  simp only [h, hpinned]
  cases (d.ctx.cache.getD (m % 2048) []).reverse.find? fun w => !d.pinned w with
  | some v => split_ifs <;> rfl
  | none => split_ifs <;> rfl

theorem Dev.frameForSec_toMono (d : Dev) (m : Nat) (f : MFrame) (v : Via) : (d.toMono m).frameForSec f v = d.frameForSec f v := by
  have hresolve : (d.toMono m).resolve f v = d.resolve f v := rfl
  have hctx (k : Nat) : (d.toMono m).ctxAt k = d.ctxAt k := rfl
  have hfetch (k : Nat) : ((d.toMono m).fetchCtx k).1 = (d.fetchCtx k).1 := Dev.fetchCtx_fst_congr (Dev.toMono_ctx ..) k
  simp only [Dev.frameForSec, hresolve, hctx, hfetch]

/-- What waits for the Security engine is the same at a later time. -/
theorem Dev.secAhead_toMono (d : Dev) (m r : Nat) : (d.toMono m).secAhead r = d.secAhead r := by
  have hserves : (d.toMono m).serves = d.serves := rfl
  have hhead (q : Nat) : (d.toMono m).laneHead q = d.laneHead q := rfl
  have hmedia : (d.toMono m).mediaForSec = d.mediaForSec := rfl
  simp only [Dev.secAhead, Dev.framesForSec, hserves, hhead, hmedia, Dev.frameForSec_toMono]

/-! ## Closing sweeps (R426 to R429) -/

theorem Dev.sweeps_setGrpTar (d : Dev) (g : Nat) (x : GrpTar) : (d.setGrpTar g x).tar.sweeps = d.tar.sweeps := rfl

theorem Dev.sweepMeter_keeps {d : Dev} (hen : d.par.en = false) (m instant : Nat) : Keeps (.tar :: reportParts) d (d.sweepMeter m instant) := by
  unfold Dev.sweepMeter
  split
  next => exact .refl _ _
  next e _ =>
    split
    · exact .refl _ _
    · extract_lets dl cl seq r _ d1
      have h1 : Keeps (.tar :: reportParts) d (d1.offer 14 ⟨7, 128, .media 0 (.closedRec m r)⟩) :=
        ((Dev.offer_evolves ..).after (Evolves.tar (d := d)).mono).keeps
      exact h1.trans (Dev.journalExt_keeps (by rw [h1 .par (by decide), hen]) _ _ _)

theorem Dev.sweepTake_keeps {d : Dev} (hen : d.par.en = false) (w : Sweep) (m : Nat) : Keeps (.tar :: reportParts) d (d.sweepTake w m) :=
  Evolves.tar.keeps.step (by decide) (Dev.sweepMeter_keeps hen m w.instant)

theorem sweepTakes_keep (w : Sweep) (l : List Nat) {d : Dev} (hen : d.par.en = false) :
    Keeps (.tar :: reportParts) d (l.foldl (fun (x : Dev) m => x.sweepTake w m) d) := by
  induction l generalizing d with
  | nil => exact .refl _ _
  | cons m l ih =>
    have h1 := Dev.sweepTake_keeps hen w m
    exact h1.trans (ih (by rw [h1 .par (by decide), hen]))

theorem Dev.endSweep_keeps {d : Dev} (hen : d.par.en = false) (w : Sweep) : Keeps (.tar :: reportParts) d (d.endSweep w) := by
  unfold Dev.endSweep
  extract_lets d1 _ d2 rest _
  have h1 : Keeps (.tar :: reportParts) d d1 := sweepTakes_keep w w.left hen
  exact h1.trans ((Dev.wrb_evolves ..).after (Evolves.tar.after (Dev.setGrpTar_evolves ..).mono)).keeps

theorem Dev.sweepOf_endSweep (d : Dev) (w : Sweep) : (d.endSweep w).sweepOf w.grp = none := by
  unfold Dev.endSweep
  extract_lets d1 _ d2 rest _
  rw [Dev.sweepOf, Dev.wrb_tar]
  simp [rest, List.find?_eq_none]

theorem Dev.closeAt_endSweep (d : Dev) (w : Sweep) : ((d.endSweep w).grpTar w.grp).closeAt = w.instant := by
  unfold Dev.endSweep
  extract_lets d1 _ d2 rest _
  rw [Dev.grpTar, Dev.wrb_tar]
  exact congrArg GrpTar.closeAt (d1.grpTar_setGrpTar w.grp _)

/-- What the instant of a closing does once nothing is to be activated, with the length of a second in the clock's unit as a parameter. -/
def Dev.sweepDue (d : Dev) (second g : Nat) : Dev :=
  match (d.grpTar g).closeDue with
  | none => d
  | some i =>
    let d1 := d.toNs (i * second)
    let d2 := if d1.actDue g then d1.activate g else d1
    match (d2.grpTar g).closeDue with
    | some j => if j = i then (d2.setGrpTar g { d2.grpTar g with lastClose := i }).startSweep g i else d2
    | none => d2

theorem Dev.actDue_of_unstaged {d : Dev} {g : Nat} (h : (d.grpTar g).staged = none) : d.actDue g = false := by
  simp only [Dev.actDue, h, Option.isSome_none, Bool.and_false]
  split <;> rfl

theorem Dev.closeInstant_eq_sweepDue {d : Dev} {g : Nat} (hworks : d.tarWorks = true) (hvalid : d.timeValid = true)
    (hsweep : d.sweepOf g = none) (hstaged : (d.grpTar g).staged = none) : d.closeInstant g = d.sweepDue 1000000000 g := by
  unfold Dev.closeInstant
  rw [if_neg (by simp [hworks, hvalid, hsweep]), Dev.actDue_of_unstaged hstaged, if_neg (by decide)]
  rfl

theorem Dev.sweepDue_eq {d : Dev} {second g i : Nat} (hstaged : (d.grpTar g).staged = none) (hdue : (d.grpTar g).closeDue = some i) :
    d.sweepDue second g = ((d.toNs (i * second)).setGrpTar g { d.grpTar g with lastClose := i }).startSweep g i := by
  have hgrp : (d.toNs (i * second)).grpTar g = d.grpTar g := Dev.grpTar_congr (Dev.toNs_tar ..) g
  have hact : (d.toNs (i * second)).actDue g = false := Dev.actDue_of_unstaged (hgrp ▸ hstaged)
  simp only [Dev.sweepDue, hdue, hact, Bool.false_eq_true, if_false, hgrp, if_true]

/-! ## Booking (R415 to R421) -/

/-- An interval that is to be booked, without a sweep of its group: counters and the default rate's count, then one journalled change of the
extension. -/
theorem Dev.book_eq {d : Dev} {b : BookEntry} {e : Ext} {c : Ctx} (hext : d.ext b.mix = some e) (hst : e.st = 1)
    (hctx : d.ctxAt b.mix = some c) (hbooks : d.books b e = true) (hsweep : d.sweepOf c.grp = none) :
    ∃ d5 what f code, Keeps [.tar, .regs] d d5 ∧ d5.tar.jseq = d.tar.jseq ∧ d5.tar.ext = d.tar.ext
      ∧ d.book b = d5.journalExt b.mix what f (some (b.mix, b.seq, code)) := by
  unfold Dev.book
  simp -zeta only [hext, hctx]
  rw [if_neg (by simp [hst]), if_neg (by simp [hbooks])]
  extract_lets d1 e1 g valid t rate dlen late none_ d2 d3 d4 _ _ d5
  have h1 : d1 = d := by simp only [d1, hsweep]
  have h4 : Keeps [.regs] d d4 := by
    have h2 : Keeps [.regs] d d2 := h1 ▸ (Dev.bumpW_evolves ..).keeps
    have h3 : Keeps [.regs] d d3 := .ite (h2.trans (Dev.bump_evolves ..).keeps) h2
    exact .ite (h3.trans (Dev.bump_evolves ..).keeps) h3
  have htar : d4.tar = d.tar := h4 .tar (by decide)
  refine ⟨d5, _, _, _, ?_, ?_, ?_, rfl⟩
  · exact .ite (h4.mono (by decide)) ((h4.mono (by decide)).trans (Evolves.tar.after (Dev.bump_evolves ..).mono).keeps)
  · rw [← htar]; unfold d5; split <;> rfl
  · rw [← htar]; unfold d5; split <;> rfl

theorem Dev.grps_startSweep (d : Dev) (g i : Nat) : (d.startSweep g i).tar.grps = d.tar.grps := by
  unfold Dev.startSweep
  extract_lets ms _
  clear_value ms
  rw [Dev.wrb_tar]

theorem Dev.grpTar_congr_grps {d e : Dev} (h : e.tar.grps = d.tar.grps) (g : Nat) : e.grpTar g = d.grpTar g := by simp only [Dev.grpTar, h]

section
variable {s : State}

theorem booking_books {n pr by_ : Nat} {b : BookEntry} {e : Ext} {c : Ctx} (hworks : s.dev.tarWorks = true) (hcheck : s.dev.tar.checkOk = true)
    (hfull : s.dev.journalFull = false) (hhead : s.dev.laneHead 10 = some (n, ⟨pr, by_, .booking b⟩)) (hext : s.dev.ext b.mix = some e)
    (hst : e.st = 1) (hctx : s.dev.ctxAt b.mix = some c) (hbooks : s.dev.books b e = true) (hsweep : s.dev.sweepOf c.grp = none)
    (howners : s.dev.ctx.owners = []) (hretire : s.dev.ctx.retire = []) (hen : s.dev.par.en = false) :
    Does .booking s (.tar :: .ldg :: reportParts) (fun d => (d.lane 10).cells = (s.dev.lane 10).cells.eraseIdx n
      ∧ d.tar.jseq = s.dev.tar.jseq + 1 ∧ (d.ext b.mix).isSome = true) := by
  have hruns : Runs .booking s (((s.dev.laneDrop 10 n).book b).ctxTry) := by
    simp [Runs, exec, execBooking, State.go, State.withDev, hworks, hcheck, hfull, hhead]
  have hdrop := (Dev.laneDrop_evolves s.dev 10 n).keeps
  have hcells : ((s.dev.laneDrop 10 n).lane 10).cells = (s.dev.lane 10).cells.eraseIdx n := by simp [Dev.laneDrop]
  obtain ⟨d5, what, f, code, hd5, hjseq, hexts, hbook⟩ := Dev.book_eq (d := s.dev.laneDrop 10 n) hext hst hctx hbooks hsweep
  have htar : (s.dev.laneDrop 10 n).tar = s.dev.tar := hdrop .tar (by decide)
  rw [hbook] at hruns
  have hpar : d5.par = s.dev.par := (hd5 .par (by decide)).trans (hdrop .par (by decide))
  obtain ⟨l, hj, -⟩ := Dev.journalExt_single (d := d5) (m := b.mix) (x := e) (by rw [hpar, hen])
    (by rw [Dev.ext, hexts, htar]; exact hext) what f (some (b.mix, b.seq, code))
  have hset := (Dev.setExt_evolves d5 b.mix (f (d5.tar.jseq + 1) e)).keeps
  have hall := (hj.keeps.trans (.refl _ _)).step (fun _ h => h) (hset.step (qs := .tar :: .ldg :: reportParts) (by decide)
    (hd5.step (by decide) (hdrop.mono (by decide))))
  have hctxs := hall .ctx (by decide)
  have htry : ((d5.journalExt b.mix what f (some (b.mix, b.seq, code))).ctxTry) = d5.journalExt b.mix what f (some (b.mix, b.seq, code)) := by
    simp only [Dev.ctxTry, show (d5.journalExt b.mix what f (some (b.mix, b.seq, code))).ctx = s.dev.ctx from hctxs, howners, hretire,
      List.foldl_nil]
  rw [htry] at hruns
  refine .of hruns hall ⟨?_, ?_, ?_⟩
  · obtain ⟨half, closed, eff, hrep⟩ := hj
    rw [hrep.lane 10 (by decide), ← hcells]
    exact congrArg Lane.cells (Dev.lane_congr ((hset .lne (by decide)).trans (hd5 .lne (by decide))) 10)
  · rw [hj.jseq, ← htar, ← hjseq]; rfl
  · rw [hj.ext, Dev.ext_setExt]; rfl

theorem tariffActivation_applies {grp : Fin 4096} {t : Nat} {tab : TarTable} (hworks : s.dev.tarWorks = true) (hvalid : s.dev.timeValid = true)
    (hat : (s.dev.grpTar grp).actAt = some t) (hstaged : (s.dev.grpTar grp).staged = some tab) (hen : s.dev.par.en = false) :
    Does (.tariffActivation grp) s (.tim :: .tar :: reportParts) (fun d =>
      (d.grpTar grp).inForce = some tab ∧ (d.grpTar grp).staged = none ∧ (d.grpTar grp).actAt = none ∧ d.tar.jseq = s.dev.tar.jseq + 1) := by
  have hruns : Runs (.tariffActivation grp) s ((s.dev.toNs t).activate grp) := by
    simp [Runs, exec, execTariffActivation, State.go, State.withDev, hat, hworks, hvalid]
  have htime := (Dev.toNs_evolves s.dev t).keeps
  have htar : (s.dev.toNs t).tar = s.dev.tar := Dev.toNs_tar ..
  generalize s.dev.toNs t = d at hruns htime htar
  have hgrp := Dev.grpTar_congr htar grp
  rw [← hgrp] at hat hstaged
  unfold Dev.activate at hruns
  simp only [hat, hstaged] at hruns
  obtain ⟨x, hx, hin, hst, hact⟩ : ∃ x : GrpTar, x = _ ∧ x.inForce = some tab ∧ x.staged = none ∧ x.actAt = none :=
    ⟨{ d.grpTar grp with inForce := some tab, since := t / 1000000000 % 2 ^ 32, prev := some (d.grpTar grp).table, staged := none, actAt := none },
      rfl, rfl, rfl, rfl⟩
  rw [← hx] at hruns
  have hset := (Dev.setGrpTar_evolves d grp x).keeps
  have hgot := d.grpTar_setGrpTar grp x
  have hjseq : (d.setGrpTar grp x).tar.jseq = d.tar.jseq := rfl
  generalize d.setGrpTar grp x = d1 at hruns hset hgot hjseq
  have hj := Dev.journal_single_plain (d := d1) (by rw [hset .par (by decide), htime .par (by decide), hen])
    (.activation grp tab.version (t / 1000000000 % 2 ^ 32)) none none
  refine .of hruns ?_ ?_
  · exact (Dev.offer_evolves ..).keeps.step (by decide) (hj.keeps_of_ldg.step (by decide) (hset.step (by decide) (htime.mono (by decide))))
  · rw [Dev.grpTar_congr (Dev.offer_tar ..), Dev.offer_tar, hj.grpTar, hgot, hj.jseq, hjseq, htar]
    exact ⟨hin, hst, hact, rfl⟩

theorem demandBoundary_marks {minutes : Nat} (hok : demandOk minutes = true) (hworks : s.dev.tarWorks = true) (hen : s.dev.par.en = false) :
    Does (.demandBoundary minutes) s (.tim :: .tar :: reportParts) (fun d => d.tar.jseq = s.dev.tar.jseq + 1 ∧ d.tar.ext = s.dev.tar.ext) := by
  obtain ⟨due, mark, hruns⟩ : ∃ due mark, Runs (.demandBoundary minutes) s ((s.dev.toNs due).journal (.marker mark) none none) := by
    refine ⟨ceilDiv s.dev.nowNs (minutes * 60000000000) * (minutes * 60000000000), (s.dev.toNs (ceilDiv s.dev.nowNs (minutes * 60000000000)
      * (minutes * 60000000000))).nowNs / (minutes * 60000000000) * (minutes * 60), ?_⟩
    simp only [Runs, exec, execDemandBoundary, State.go, hok, hworks, Bool.not_true, Bool.false_eq_true, if_false, if_true]
    rfl
  have htime := (Dev.toNs_evolves s.dev due).keeps
  have htar : (s.dev.toNs due).tar = s.dev.tar := Dev.toNs_tar ..
  generalize s.dev.toNs due = d at hruns htime htar
  have hj := Dev.journal_single_plain (d := d) (by rw [htime .par (by decide), hen]) (.marker mark) none none
  refine ⟨_, hruns, hj.keeps_of_ldg.step (by decide) (htime.mono (by decide)), ?_, ?_⟩
  · rw [hj.jseq, htar]
  · obtain ⟨half, closed, eff, h⟩ := hj.tar
    rw [h, ← htar]

theorem closeInstant_sweeps {grp : Fin 4096} {i : Nat} (hworks : s.dev.tarWorks = true) (hvalid : s.dev.timeValid = true)
    (hsweep : s.dev.sweepOf grp = none) (hstaged : (s.dev.grpTar grp).staged = none) (hdue : (s.dev.grpTar grp).closeDue = some i) :
    Does (.closeInstant grp) s [.tim, .evr, .tar, .regs] (fun d => (d.sweepOf grp).map (fun w => w.instant) = some i
      ∧ (d.grpTar grp).lastClose = i ∧ d.on F.TAR_STS_CLOSING = true) := by
  have hruns : Runs (.closeInstant grp) s (s.dev.closeInstant grp) := rfl
  rw [Dev.closeInstant_eq_sweepDue hworks hvalid hsweep hstaged, Dev.sweepDue_eq hstaged hdue] at hruns
  generalize i * 1000000000 = ns at hruns
  have htime := (Dev.toNs_evolves s.dev ns).keeps
  have htar : (s.dev.toNs ns).tar = s.dev.tar := Dev.toNs_tar ..
  generalize s.dev.toNs ns = d at hruns htime htar
  have hnone : d.tar.sweeps.find? (fun w => decide (w.grp = grp.val)) = none := by rw [htar]; exact hsweep
  have hset := (Dev.setGrpTar_evolves d grp { s.dev.grpTar grp with lastClose := i }).keeps
  have hgot := d.grpTar_setGrpTar grp { s.dev.grpTar grp with lastClose := i }
  have hsweeps := d.sweeps_setGrpTar grp { s.dev.grpTar grp with lastClose := i }
  generalize d.setGrpTar grp { s.dev.grpTar grp with lastClose := i } = d1 at hruns hset hgot hsweeps
  refine .of hruns ?_ ⟨?_, ?_, ?_⟩
  · exact (Dev.startSweep_evolves ..).keeps.step (by decide) (hset.step (by decide) (htime.mono (by decide)))
  · rw [Dev.sweepOf, Dev.startSweep, Dev.wrb_tar]
    simp [List.find?_append, hsweeps, hnone]
  · rw [Dev.grpTar_congr_grps (Dev.grps_startSweep ..), hgot]
  · rw [Dev.startSweep, Dev.on_wrb _ _ _ _ (by decide) rfl]

theorem closeSweepEnd_ends {grp : Fin 4096} {w : Sweep} (hsweep : s.dev.sweepOf grp = some w) (hworks : s.dev.tarWorks = true)
    (hen : s.dev.par.en = false) :
    Does (.closeSweepEnd grp) s (.tar :: reportParts) (fun d => d.sweepOf grp = none ∧ (d.grpTar grp).closeAt = w.instant) := by
  have hruns : Runs (.closeSweepEnd grp) s (s.dev.endSweep w) := by
    simp [Runs, exec, execCloseSweepEnd, State.go, State.withDev, hsweep, hworks]
  have hgrp : w.grp = grp := by simpa using List.find?_some hsweep
  exact .of hruns (Dev.endSweep_keeps hen w) (hgrp ▸ ⟨Dev.sweepOf_endSweep .., Dev.closeAt_endSweep ..⟩)

/-! ## The display, BAR4, the check value (R431 to R438) -/

theorem displayFrame_shows (hlive : s.dev.live = true) (htar : s.dev.glb.tarRuns = true) :
    Does .displayFrame s [.tim, .evr, .tar, .out] (fun d => d.tar.dspType = 3 - s.dev.tar.dspType ∧ d.tar.dspSeq = (s.dev.tar.dspSeq + 1) % 16
      ∧ d.out = .display (BitVec.ofNat 64 ((s.dev.toMono s.dev.tar.dspDue).dspBody * 256
          + crc8 (beBytes 7 (s.dev.toMono s.dev.tar.dspDue).dspBody))) :: s.dev.out
      ∧ d.tar.ext = s.dev.tar.ext ∧ d.tar.jseq = s.dev.tar.jseq) := by
  have hruns : Runs .displayFrame s _ := rfl
  simp only [hlive, htar, Bool.and_self, if_true] at hruns
  refine .of hruns ?_ ⟨rfl, rfl, rfl, rfl, rfl⟩
  exact (Evolves.tar.after ((Dev.emit_evolves ..).after (Dev.toMono_evolves ..).mono)).keeps

theorem bar4Write_counts {off : BitVec 20} {val : Word} (hlive : s.dev.live = true) :
    Does (.bar4Write off val) s [.regs] (fun d => d.rd F.TAR_BAR4_WR = min (s.dev.rd F.TAR_BAR4_WR + 1) (2 ^ 32 - 1) ∧ KeepsRegs [0xB0054] s.dev d) := by
  have hruns : Runs (.bar4Write off val) s (s.dev.bump F.TAR_BAR4_WR) := by simp [Runs, exec, execBar4Write, State.go, State.withDev, hlive]
  exact .of hruns (Dev.bump_keeps _ _ _ _) ⟨Dev.rd_bump _ _ _ _ (by decide), keepsRegs_bump (f := F.TAR_BAR4_WR) (i := 0)⟩

section
variable {digest : BitVec 256}

/-- A recomputation that begins sets its time. -/
def Dev.checkNow (d : Dev) : Dev := { d with tar := { d.tar with checkFrom := d.tim.mono } }

/-- A digest that differs withdraws CHECK_OK. -/
def Dev.withdrawCheck (d : Dev) : Dev := ({ d with tar := { d.tar with checkOk := false } } : Dev).wrb F.TAR_STS_CHECK_OK 0 false

/-- The recomputation of the check value, with its period and the longest wait as parameters. -/
def Dev.recheck (period wait : Nat) (digest : BitVec 256) (d : Dev) : Dev :=
  let due := d.tar.checkFrom + period
  let d1 := d.toMono due
  if d1.secAhead 5 && decide (d1.tim.mono < due + wait) then d1
  else
    let d2 := d1.checkNow
    if beBytes 32 digest.toNat ≠ d2.tar.check ∧ d2.tar.checkOk then
      let d3 := d2.withdrawCheck.fault 0x0F19 0xB 3 0
      if d3.par.en && decide (d3.par.role = .stroke) && d3.par.claim && decide (d3.par.health % 128 = 127) then d3.yieldClaim.dropDescs else d3
    else d2

theorem checkValueRecompute_runs (hlive : s.dev.live = true) :
    Runs (.checkValueRecompute digest) s (s.dev.recheck 1800000000000 30000000000 digest) := by
  have hgo : exec (.checkValueRecompute digest) s
      = s.go (fun d => if d.live then d.recheck 1800000000000 30000000000 digest else d) := rfl
  rw [Runs, hgo, State.go, if_pos hlive, State.withDev]

theorem Dev.checkNow_evolves (d : Dev) : Evolves [.tar] d d.checkNow := .tar

theorem Dev.tar_checkNow (d : Dev) : d.checkNow.tar = { d.tar with checkFrom := d.checkNow.tim.mono } := rfl

theorem Dev.withdrawCheck_evolves (d : Dev) : Evolves [.tar, .regs] d d.withdrawCheck := (Dev.wrb_evolves ..).after Evolves.tar.mono

theorem Dev.checkOk_withdrawCheck (d : Dev) : d.withdrawCheck.tar.checkOk = false := rfl

section
variable {period wait : Nat} {d : Dev}

theorem Dev.recheck_of_ahead (hahead : d.secAhead 5 = true) (hsoon : d.tim.mono < d.tar.checkFrom + period + wait) (hwait : 0 < wait) :
    d.recheck period wait digest = d.toMono (d.tar.checkFrom + period) := by
  unfold Dev.recheck
  extract_lets due d1
  refine if_pos ?_
  have hmono : d1.tim.mono = max d.tim.mono due := Dev.toMono_mono ..
  simp only [show d1.secAhead 5 = true from (Dev.secAhead_toMono ..).trans hahead, hmono, Bool.true_and, decide_eq_true_eq]
  omega

theorem Dev.recheck_of_match (hahead : d.secAhead 5 = false) (hdigest : beBytes 32 digest.toNat = d.tar.check) :
    d.recheck period wait digest = (d.toMono (d.tar.checkFrom + period)).checkNow := by
  unfold Dev.recheck
  extract_lets due d1 d2
  have hcheck : d2.tar.check = d.tar.check := by rw [show d2.tar = _ from Dev.tar_checkNow _, Dev.toMono_tar]
  rw [if_neg (by simp [d1, Dev.secAhead_toMono, hahead]), if_neg fun h => h.1 (hdigest.trans hcheck.symm)]

theorem Dev.par_withdrawn (d : Dev) (m : Nat) : ((d.toMono m).checkNow.withdrawCheck.fault 0x0F19 0xB 3 0).par = d.par := by
  have hfault := Dev.fault_keeps (d.toMono m).checkNow.withdrawCheck 0x0F19 0xB 3 0 false (by decide)
  exact (hfault .par (by decide)).trans (((Dev.withdrawCheck_evolves _).keeps .par (by decide)).trans
    (((Dev.checkNow_evolves _).keeps .par (by decide)).trans (Dev.toMono_par ..)))

theorem Dev.recheck_of_differs (hahead : d.secAhead 5 = false) (hdigest : beBytes 32 digest.toNat ≠ d.tar.check) (hok : d.tar.checkOk = true)
    (hen : d.par.en = false) :
    d.recheck period wait digest = (d.toMono (d.tar.checkFrom + period)).checkNow.withdrawCheck.fault 0x0F19 0xB 3 0 := by
  have hlater (m : Nat) : (d.toMono m).secAhead 5 = false := (Dev.secAhead_toMono ..).trans hahead
  have htar (m : Nat) : (d.toMono m).checkNow.tar.check = d.tar.check ∧ (d.toMono m).checkNow.tar.checkOk = d.tar.checkOk := by
    rw [Dev.tar_checkNow, Dev.toMono_tar]
    exact ⟨rfl, rfl⟩
  simp only [Dev.recheck, hlater, htar, Dev.par_withdrawn, hok, hen, hdigest, ne_eq, not_false_eq_true, and_self, if_true, Bool.false_and,
    Bool.false_eq_true, if_false]

end

theorem checkValueRecompute_matches (hlive : s.dev.live = true) (hahead : s.dev.secAhead 5 = false)
    (hdigest : beBytes 32 digest.toNat = s.dev.tar.check) :
    Does (.checkValueRecompute digest) s [.tim, .evr, .tar] (fun d => d.tar.checkOk = s.dev.tar.checkOk ∧ d.tar.checkFrom = d.tim.mono) := by
  have hruns := checkValueRecompute_runs (digest := digest) hlive
  rw [Dev.recheck_of_match hahead hdigest] at hruns
  refine .of hruns ((Dev.checkNow_evolves _).after (Dev.toMono_evolves ..).mono).keeps ?_
  rw [Dev.tar_checkNow, Dev.toMono_tar]
  exact ⟨rfl, rfl⟩

theorem checkValueRecompute_differs (hlive : s.dev.live = true) (hahead : s.dev.secAhead 5 = false)
    (hdigest : beBytes 32 digest.toNat ≠ s.dev.tar.check) (hok : s.dev.tar.checkOk = true) (hen : s.dev.par.en = false) :
    Does (.checkValueRecompute digest) s (.tim :: .tar :: reportParts) (fun d => d.tar.checkOk = false) := by
  have hruns := checkValueRecompute_runs (digest := digest) hlive
  rw [Dev.recheck_of_differs hahead hdigest hok hen] at hruns
  generalize s.dev.tar.checkFrom + 1800000000000 = due at hruns
  have hkeeps : Evolves [.tim, .evr, .tar, .regs] s.dev (s.dev.toMono due).checkNow.withdrawCheck :=
    (Dev.withdrawCheck_evolves _).after ((Dev.checkNow_evolves _).after (Dev.toMono_evolves ..).mono)
  have hfault := Dev.fault_keeps (s.dev.toMono due).checkNow.withdrawCheck 0x0F19 0xB 3 0 false (by decide)
  refine .of hruns (hfault.step (by decide) (hkeeps.keeps.mono (by decide))) ?_
  rw [hfault .tar (by decide), Dev.checkOk_withdrawCheck]

theorem checkValueRecompute_waits (hlive : s.dev.live = true) (hahead : s.dev.secAhead 5 = true)
    (hsoon : s.dev.tim.mono < s.dev.tar.checkFrom + 1830000000000) :
    Does (.checkValueRecompute digest) s [.tim, .evr] (fun d => d.tim.mono < s.dev.tar.checkFrom + 1830000000000) := by
  have hruns := checkValueRecompute_runs (digest := digest) hlive
  rw [Dev.recheck_of_ahead hahead (by rw [Nat.add_assoc]; exact hsoon) (by decide)] at hruns
  have hdue : s.dev.tar.checkFrom + 1800000000000 < s.dev.tar.checkFrom + 1830000000000 := Nat.add_lt_add_left (by decide) _
  generalize s.dev.tar.checkFrom + 1830000000000 = late at hsoon hdue ⊢
  generalize s.dev.tar.checkFrom + 1800000000000 = due at hruns hdue
  exact .of hruns (Dev.toMono_evolves ..).keeps (by rw [Dev.toMono_mono]; exact max_lt hsoon hdue)

end

end

/-- Settles O13, one command after the other. -/
theorem weighInCore : Obligations.WeighInCore :=
  ⟨fun _ _ _ _ _ _ _ => booking_books, fun _ _ _ _ => tariffActivation_applies, fun _ _ => demandBoundary_marks,
    fun _ _ _ => closeInstant_sweeps, fun _ _ _ => closeSweepEnd_ends, fun _ => displayFrame_shows, fun _ _ _ => bar4Write_counts,
    fun _ _ => checkValueRecompute_matches, fun _ _ => checkValueRecompute_differs, fun _ _ => checkValueRecompute_waits⟩

end Sys2Proof.Machine

end

section

-- one proof after the other: the check gives the text few threads
set_option Elab.async false

namespace Sys2Proof.Machine

/-! ## Refill from the overflow ring (R449, R450) -/

@[simp] theorem Dev.lane_ringCheck (d : Dev) (q : Nat) : d.ringCheck.lane q = d.lane q := by
  unfold Dev.ringCheck
  split <;> rfl

theorem Lane.tookRing_fields (l : Lane) (n : Nat) : (l.tookRing n).cells = l.cells ∧ (l.tookRing n).ring = l.ring ∧ (l.tookRing n).waits = l.waits := by
  unfold Lane.tookRing
  split <;> exact ⟨rfl, rfl, rfl⟩

/-- A queue's items in cells stay ahead of those that join them; its ring and its held items lose from the front. -/
structure LaneFills (l m : Lane) : Prop where
  cells : l.cells <+: m.cells
  ring : m.ring.length ≤ l.ring.length
  waits : m.waits = l.waits

theorem LaneFills.refl {l : Lane} : LaneFills l l := ⟨List.prefix_refl _, le_refl _, rfl⟩

theorem LaneFills.trans {a b c : Lane} (h1 : LaneFills a b) (h2 : LaneFills b c) : LaneFills a c :=
  ⟨h1.cells.trans h2.cells, h2.ring.trans h1.ring, h2.waits.trans h1.waits⟩

/-- The oldest entry of the ring is in cells. -/
def Lane.refilled (l : Lane) (i : Item) (t : List Item) : Lane := ({ l with ring := t, cells := l.cells ++ [i] } : Lane).tookRing i.ringCount

theorem Lane.refilled_fields (l : Lane) (i : Item) (t : List Item) :
    (l.refilled i t).cells = l.cells ++ [i] ∧ (l.refilled i t).ring = t ∧ (l.refilled i t).waits = l.waits := Lane.tookRing_fields _ _

theorem Dev.refill_succ {d : Dev} {q : Nat} {i : Item} {t : List Item} (hring : (d.lane q).ring = i :: t) (hfits : d.fits q i.cellCount = true)
    (f : Nat) : d.refill (f + 1) q = (d.setLane q ((d.lane q).refilled i t)).refill f q := by
  rw [Dev.refill]
  simp only [hring, hfits, if_true]
  rfl

theorem Dev.refill_fills (f : Nat) (d : Dev) (q : Nat) : LaneFills (d.lane q) ((d.refill f q).lane q) := by
  induction f generalizing d with
  | zero => exact .refl
  | succ f ih =>
    rw [Dev.refill]
    split
    next => exact .refl
    next i t hring =>
      split
      · obtain ⟨hcells, hring', hwaits⟩ := (d.lane q).refilled_fields i t
        have hstep : LaneFills (d.lane q) ((d.setLane q ((d.lane q).refilled i t)).lane q) := by
          rw [Dev.lane_setLane]
          exact ⟨hcells ▸ List.prefix_append _ _, by rw [hring', hring]; exact Nat.le_succ _, hwaits⟩
        exact hstep.trans (ih _)
      · exact .refl

section
variable {s : State} {queue : Fin 256}

theorem queueRefill_fills {i : Item} {t : List Item} (hlive : s.dev.live = true) (hlow : 8 * s.dev.laneCells queue < 7 * s.dev.quota queue)
    (hring : (s.dev.lane queue).ring = i :: t) (hfits : s.dev.fits queue i.cellCount = true) :
    Does (.queueRefill queue) s [.lne] (fun d => i ∈ (d.lane queue).cells ∧ (d.lane queue).ring.length ≤ t.length
      ∧ (d.lane queue).waits = (s.dev.lane queue).waits) := by
  have hruns : Runs (.queueRefill queue) s ((s.dev.refill (t.length + 1) queue).ringCheck) := by
    simp [Runs, exec, execQueueRefill, State.go, State.withDev, hlive, Dev.queueRefill, hlow, hring]
  rw [Dev.refill_succ hring hfits] at hruns
  obtain ⟨hcells, hring', hwaits⟩ := (s.dev.lane queue).refilled_fields i t
  have hfill := Dev.refill_fills t.length (s.dev.setLane queue ((s.dev.lane queue).refilled i t)) queue
  rw [Dev.lane_setLane] at hfill
  refine .of hruns ?_ ?_
  · exact ((Dev.ringCheck_evolves ..).after ((Dev.refill_evolves ..).after (Dev.setLane_evolves ..).mono)).keeps
  · rw [Dev.lane_ringCheck]
    exact ⟨hfill.cells.subset (by simp [hcells]), hfill.ring.trans (by rw [hring']), hfill.waits.trans hwaits⟩

/-! ## Held items (R451) -/

theorem Dev.lane_ringPut {d e : Dev} {q : Nat} {i : Item} (h : d.ringPut q i = some e) :
    e.lane q = { d.lane q with ring := (d.lane q).ring ++ [i] } := by
  unfold Dev.ringPut at h
  extract_lets l l' y at h
  split at h
  · obtain rfl := Option.some.inj h
    rw [Dev.lane_congr (Dev.wr_lne ..), Dev.lane_congr (Dev.bump_lne ..), Dev.lane_setLane]
  · cases h

theorem Dev.release_fills (f : Nat) (d : Dev) (q : Nat) :
    (d.lane q).cells <+: ((d.release f q).lane q).cells ∧ ((d.release f q).lane q).waits.length ≤ (d.lane q).waits.length := by
  have hself (x : Lane) : x.cells <+: x.cells ∧ x.waits.length ≤ x.waits.length := ⟨List.prefix_refl _, le_refl _⟩
  induction f generalizing d with
  | zero => exact hself _
  | succ f ih =>
    rw [Dev.release]
    split
    next => exact hself _
    next i t hwaits =>
      have hshort : t.length ≤ (d.lane q).waits.length := by simp [hwaits]
      extract_lets l
      split
      · obtain ⟨hc, hw⟩ := ih (d.setLane q { l with waits := t, cells := l.cells ++ [i] })
        rw [Dev.lane_setLane] at hc hw
        exact ⟨(List.prefix_append _ _).trans hc, hw.trans hshort⟩
      · split
        · split
          next e he =>
            obtain ⟨hc, hw⟩ := ih e
            rw [Dev.lane_ringPut he, Dev.lane_setLane] at hc hw
            exact ⟨hc, hw.trans hshort⟩
          next => exact hself _
        · exact hself _

theorem holdRelease_releases {i : Item} {t : List Item} (hlive : s.dev.live = true) (hwaits : (s.dev.lane queue).waits = i :: t)
    (hring : (s.dev.lane queue).ring = []) (hfits : s.dev.fits queue i.cellCount = true) :
    Does (.holdRelease queue) s [.lne, .regs] (fun d => i ∈ (d.lane queue).cells ∧ (d.lane queue).waits.length ≤ t.length) := by
  have hruns : Runs (.holdRelease queue) s (s.dev.release (t.length + 1) queue) := by
    simp [Runs, exec, execHoldRelease, State.go, State.withDev, hlive, hwaits]
  have hempty : (s.dev.lane queue).ring.isEmpty = true := by simp [hring]
  rw [Dev.release] at hruns
  simp only [hwaits, hempty, hfits, Bool.and_self, if_true] at hruns
  obtain ⟨hc, hw⟩ := Dev.release_fills t.length (s.dev.setLane queue { s.dev.lane queue with waits := t, cells := (s.dev.lane queue).cells ++ [i] }) queue
  rw [Dev.lane_setLane] at hc hw
  exact .of hruns ((Dev.release_evolves ..).after (Dev.setLane_evolves ..).mono).keeps ⟨hc.subset (by simp), hw⟩

/-! ## Flush (R454 to R456) -/

theorem queueFlush_empties {val : Word} (hlive : s.dev.live = true) (hbit : val.toNat % 2 = 1) (hmay : laneFlushable queue = true)
    (hidle : (s.dev.lane queue).flushing = false) :
    Does (.queueFlush queue val) s [.lne, .regs] (fun d => (d.lane queue).cells = [] ∧ (d.lane queue).ring = [] ∧ (d.lane queue).flushing = true
      ∧ (d.lane queue).waits = (s.dev.lane queue).waits
      ∧ d.rd F.LNE_FLUSHED = min (s.dev.rd F.LNE_FLUSHED + ((s.dev.lane queue).cells.length + (s.dev.lane queue).ring.length)) (2 ^ 32 - 1)) := by
  have hruns : Runs (.queueFlush queue val) s (s.dev.flushNow queue) := by
    simp [Runs, exec, execQueueFlush, State.go, State.withDev, Dev.queueFlush, hlive, hbit, hmay]
  simp only [Dev.flushNow, hidle, Bool.false_eq_true, if_false] at hruns
  refine .of hruns ((Dev.bump_evolves ..).after (Dev.setLane_evolves ..).mono).keeps ?_
  rw [Dev.lane_congr (Dev.bump_lne ..), Dev.lane_setLane, Dev.rd_bump _ _ _ _ (by decide), Dev.rd_setLane]
  exact ⟨rfl, rfl, rfl, rfl, rfl⟩

theorem flushDone_ends (hflush : (s.dev.lane queue).flushing = true) :
    Does (.flushDone queue) s [.lne] (fun d => d.lane queue = { s.dev.lane queue with flushing := false, freeing := 0, freeingSegs := 0 }) := by
  have hruns : Runs (.flushDone queue) s (s.dev.flushDone queue) := rfl
  simp only [Dev.flushDone, hflush, if_true] at hruns
  exact .of hruns ((Dev.ringCheck_evolves ..).after (Dev.setLane_evolves ..).mono).keeps (by rw [Dev.lane_ringCheck, Dev.lane_setLane])

/-! ## Cell errors (R447, R556) and the pool scan -/

/-- A report of class 1 leaves its count risen by one. -/
theorem Dev.fault_notice (d : Dev) (code src detail : Nat) :
    (d.fault code src 1 detail).rd F.FLT_NOTICE_CNT = min (d.rd F.FLT_NOTICE_CNT + 1) (2 ^ F.FLT_NOTICE_CNT.len - 1) := by
  rw [(d.fault_reporting_bump code src 1 detail false (by decide)).rd _ _ (by decide)]
  exact Dev.rd_bump _ _ _ _ (by decide)

/-- A count of lost items after a report of class 1 leaves what the report left. -/
theorem reported_notice_bump {d e f : Dev} {code src detail : Nat} (he : e = d.fault code src 1 detail) (hword : KeepsRegs [F.LNE_ECC_DROP.at 0] e f) :
    Reported 1 d f :=
  ⟨fun h => absurd h (by decide), fun h => absurd h (by decide), fun h => absurd h (by decide), fun _ =>
    (hword.rd F.FLT_NOTICE_CNT 0 (by decide)).trans (he ▸ d.fault_notice code src detail)⟩

theorem cellEccError_drops {n : Nat} {i : Item} {header : Bool} (hlive : s.dev.live = true) (hqueue : queue.val < 32 ∨ 159 < queue.val)
    (hitem : ((s.dev.fault 0x0F13 2 1 1).lane queue).cells[n]? = some i) :
    Does (.cellEccError (some queue) n header) s reportParts (fun d =>
      (d.lane queue).cells = (if header then ((s.dev.fault 0x0F13 2 1 1).lane queue).cells.take n
        else ((s.dev.fault 0x0F13 2 1 1).lane queue).cells.eraseIdx n) ∧ Reported 1 s.dev d) := by
  have hruns : Runs (.cellEccError (some queue) n header) s (s.dev.cellError (some queue.val) n header) := rfl
  simp only [Dev.cellError, hlive, Bool.not_true, Bool.false_eq_true, if_false, if_neg (show ¬ (32 ≤ queue.val ∧ queue.val ≤ 159) by omega)]
    at hruns
  obtain ⟨e, he⟩ : ∃ e, e = s.dev.fault 0x0F13 2 1 1 := ⟨_, rfl⟩
  have hfault : Keeps reportParts s.dev e := he ▸ Dev.fault_keeps _ _ _ _ _ _ (by decide)
  rw [← he] at hruns hitem ⊢
  simp only [hitem] at hruns
  have hset (l : Lane) : Keeps reportParts s.dev ((e.setLane queue l).bump F.LNE_ECC_DROP) :=
    hfault.trans ((Dev.bump_evolves ..).after (Dev.setLane_evolves ..).mono).keeps
  have hword (l : Lane) : KeepsRegs [F.LNE_ECC_DROP.at 0] e ((e.setLane queue l).bump F.LNE_ECC_DROP) :=
    (Dev.setLane_evolves e queue l).keeps.keepsRegs.trans keepsRegs_bump
  have hlane (l : Lane) : ((e.setLane queue l).bump F.LNE_ECC_DROP).lane queue = l := by
    rw [Dev.lane_congr (Dev.bump_lne ..), Dev.lane_setLane]
  cases header with
  | true =>
    simp only [if_true] at hruns ⊢
    exact .of hruns (hset _) ⟨by rw [hlane], reported_notice_bump he (hword _)⟩
  | false =>
    simp only [Bool.false_eq_true, if_false] at hruns ⊢
    exact .of hruns (hset _) ⟨by rw [hlane], reported_notice_bump he (hword _)⟩

theorem dropPicked_all {α : Type} (all : Bool) (n : Nat) (l : List α) :
    dropPicked (fun _ => true) all n l = if all then l.take n else l.eraseIdx n := by
  induction l generalizing n with
  | nil => cases all <;> simp [dropPicked]
  | cons x t ih =>
    cases n with
    | zero => cases all <;> simp [dropPicked]
    | succ n => cases all <;> simp [dropPicked, ih]

/-- An error in a waiting completion of a pair loses it, or the chain from it on. -/
theorem Dev.waiting_pairCellError {d : Dev} {k p n : Nat} {c : Cmpl} (header : Bool) (hk : k = 96 + p) (hc : (d.pair p).waiting[n]? = some c) :
    ((d.pairCellError k n header).pair p).waiting = (if header then (d.pair p).waiting.take n else (d.pair p).waiting.eraseIdx n)
      ∧ KeepsRegs [F.LNE_ECC_DROP.at 0] d (d.pairCellError k n header) := by
  have hn : n < (d.pair p).waiting.length := (List.getElem?_eq_some_iff.1 hc).1
  have hgone : (dropPicked (fun _ => true) header n (d.pair p).waiting).length < (d.pair p).waiting.length := by
    rw [dropPicked_all]
    cases header
    · simp [List.length_eraseIdx, hn]; omega
    · simp [hn]
  have hp : k - 96 = p := by omega
  simp only [Dev.pairCellError, if_neg (show ¬ k < 96 by omega), hp]
  rw [if_neg (by omega)]
  refine ⟨?_, ?_⟩
  · rw [Dev.pair_bump, Dev.pair_eq_of_rng (Dev.setLane_rng ..), Dev.pair_updPair]
    exact dropPicked_all ..
  · exact ((Dev.setLane_evolves ..).after (Dev.updPair_evolves ..).mono (qs := [.rng, .lne])).keeps.keepsRegs.trans keepsRegs_bump

theorem cellEccError_drops_completion {p n : Nat} {c : Cmpl} {header : Bool} (hlive : s.dev.live = true) (hp : p < 64) (hqueue : queue.val = 96 + p)
    (hc : (s.dev.pair p).waiting[n]? = some c) :
    Does (.cellEccError (some queue) n header) s reportParts (fun d =>
      (d.pair p).waiting = (if header then (s.dev.pair p).waiting.take n else (s.dev.pair p).waiting.eraseIdx n) ∧ Reported 1 s.dev d) := by
  have hruns : Runs (.cellEccError (some queue) n header) s (s.dev.cellError (some queue.val) n header) := rfl
  simp only [Dev.cellError, hlive, Bool.not_true, Bool.false_eq_true, if_false, if_pos (show 32 ≤ queue.val ∧ queue.val ≤ 159 by omega)]
    at hruns
  obtain ⟨e, he⟩ : ∃ e, e = s.dev.fault 0x0F13 2 1 1 := ⟨_, rfl⟩
  have hfault : Keeps reportParts s.dev e := he ▸ Dev.fault_keeps _ _ _ _ _ _ (by decide)
  have hpair : e.pair p = s.dev.pair p := he ▸ (s.dev.fault_reporting 0x0F13 2 1 1 false (by decide)).pair p
  rw [← he] at hruns
  rw [← hpair] at hc ⊢
  obtain ⟨hwaiting, hword⟩ := Dev.waiting_pairCellError header hqueue hc
  exact .of hruns (hfault.trans (Dev.pairCellError_evolves ..).into) ⟨hwaiting, reported_notice_bump he hword⟩

theorem poolScanDone_frees (hlive : s.dev.live = true) :
    Does (.poolScanDone queue) s [.lne, .regs] (fun d => d.lane queue = { s.dev.lane queue with lostCells := 0, lostItems := 0 }
      ∧ d.rd F.LNE_ECC_DROP = min (s.dev.rd F.LNE_ECC_DROP + (s.dev.lane queue).lostItems) (2 ^ 32 - 1)) := by
  have hruns : Runs (.poolScanDone queue) s (s.dev.scanDone queue) := by
    simp [Runs, exec, execPoolScanDone, State.go, State.withDev, hlive]
  refine .of hruns (Dev.scanDone_evolves ..).into ?_
  simp only [Dev.scanDone]
  rw [Dev.lane_congr (Dev.bump_lne ..), Dev.lane_setLane, Dev.rd_bump _ _ _ _ (by decide), Dev.rd_setLane]
  exact ⟨rfl, rfl⟩

end

/-- Settles O14, one command after the other. -/
theorem laneManager : Obligations.LaneManager :=
  ⟨fun _ _ _ _ => queueRefill_fills, fun _ _ _ _ => holdRelease_releases, fun _ _ _ => queueFlush_empties, fun _ _ => flushDone_ends,
    fun _ _ _ _ _ => cellEccError_drops, fun _ _ _ _ _ _ => cellEccError_drops_completion, fun _ _ => poolScanDone_frees⟩

end Sys2Proof.Machine

end

section

-- one proof after the other: the check gives the text few threads
set_option Elab.async false

namespace Sys2Proof.Machine

/-! ## The register fields that an operation can write -/

/-- A register of this field, of some index, has this offset. -/
def F.hits (f : F) (off : Nat) : Bool := decide (f.off ≤ off) && decide ((off - f.off) % f.stride = 0)

/-- Whatever is written to the first field, of whichever index, leaves the second field of this index. -/
def F.spares (f g : F) (i : Nat) : Bool :=
  !f.hits (g.at i) || (decide (g.lo + g.len ≤ f.lo) && decide (f.lo + f.len ≤ 32)) || (decide (f.lo + f.len ≤ g.lo) && decide (g.lo + g.len ≤ 32))

/-- The field of one index. -/
def F.one (f : F) (i : Nat) : F := ⟨f.at i, 0, f.lo, f.len⟩

/-- The register that a field is of. -/
def F.whole (f : F) : F := ⟨f.off, f.stride, 0, 32⟩

/-- The register at an offset. -/
def wordField (off : Nat) : F := ⟨off, 0, 0, 32⟩

/-- From the first device to the second at most the listed fields are written. -/
structure Writes (fs : List F) (d e : Dev) : Prop where
  word : ∀ off, (fs.all fun f => !f.hits off) = true → e.word off = d.word off
  rd : ∀ g i, (fs.all fun f => f.spares g i) = true → e.rd g i = d.rd g i

theorem F.hits_at (f : F) (i : Nat) : f.hits (f.at i) = true := by
  simp [F.hits, F.at]

theorem F.hits_one (f : F) (i off : Nat) : (f.one i).hits off = decide (off = f.at i) := by
  unfold F.hits F.one
  dsimp only
  rw [Nat.mod_zero]
  by_cases h : off = f.at i
  · simp [h]
  · have : ¬ (f.at i ≤ off ∧ off - f.at i = 0) := by omega
    simpa [h] using this

theorem F.spares_one (f g : F) (i j : Nat) : (f.one i).spares g j =
    (!decide (g.at j = f.at i) || (decide (g.lo + g.len ≤ f.lo) && decide (f.lo + f.len ≤ 32))
      || (decide (f.lo + f.len ≤ g.lo) && decide (g.lo + g.len ≤ 32))) := by
  unfold F.spares
  rw [F.hits_one]
  rfl

theorem hits_wordField (off j : Nat) : (wordField off).hits j = decide (j = off) := F.hits_one ⟨off, 0, 0, 32⟩ 0 j

namespace Writes

variable {fs gs : List F} {d e x : Dev}

theorem refl : Writes fs d d := ⟨fun _ _ => rfl, fun _ _ _ => rfl⟩

theorem trans (h1 : Writes fs d e) (h2 : Writes fs e x) : Writes fs d x :=
  ⟨fun off h => (h2.word off h).trans (h1.word off h), fun g i h => (h2.rd g i h).trans (h1.rd g i h)⟩

theorem mono (h : Writes fs d e) (hs : fs ⊆ gs := by decide +kernel) : Writes gs d e := by
  refine ⟨fun off ho => h.word off ?_, fun g i hg => h.rd g i ?_⟩
  · exact List.all_eq_true.mpr fun f hf => List.all_eq_true.mp ho f (hs hf)
  · exact List.all_eq_true.mpr fun f hf => List.all_eq_true.mp hg f (hs hf)

/-- Writes to some fields, after writes to more. -/
theorem after (h2 : Writes fs e x) (h1 : Writes gs d e) (hs : fs ⊆ gs := by decide +kernel) : Writes gs d x := h1.trans (h2.mono hs)

theorem ite {c : Prop} [Decidable c] (h1 : Writes fs d e) (h2 : Writes fs d x) : Writes fs d (if c then e else x) := by split <;> assumption

theorem of_snd {α : Type} {p : α × Dev} {a : α} (h : Writes fs d p.2) (hp : p = (a, e)) : Writes fs d e := by
  subst hp
  exact h

theorem foldl {α : Type} {f : Dev → α → Dev} {l : List α} (hf : ∀ y a, Writes fs y (f y a)) (h : Writes fs d e) : Writes fs d (l.foldl f e) := by
  induction l generalizing e with
  | nil => exact h
  | cons a t ih => exact ih (h.trans (hf e a))

theorem foldl_via {α σ : Type} (dev : σ → Dev) {f : σ → α → σ} {l : List α} {s : σ} (hf : ∀ y a, Writes fs (dev y) (dev (f y a)))
    (h : Writes fs d (dev s)) : Writes fs d (dev (l.foldl f s)) := by
  induction l generalizing s with
  | nil => exact h
  | cons a t ih => exact ih (h.trans (hf s a))

theorem foldr {α : Type} {f : α → Dev → Dev} {l : List α} (hf : ∀ y a, Writes fs y (f a y)) (h : Writes fs d e) : Writes fs d (l.foldr f e) := by
  induction l with
  | nil => exact h
  | cons a t ih => exact ih.trans (hf _ a)

/-! ### What it says of bits and words -/

theorem on (h : Writes fs d e) (g : F) (i : Nat := 0) (hg : (fs.all fun f => f.spares g i) = true := by decide +kernel) : e.on g i = d.on g i := by
  unfold Dev.on
  rw [h.rd g i hg]

theorem rd_eq (h : Writes fs d e) (g : F) (i : Nat := 0) (hg : (fs.all fun f => f.spares g i) = true := by decide +kernel) : e.rd g i = d.rd g i :=
  h.rd g i hg

theorem word_eq (h : Writes fs d e) (off : Nat) (ho : (fs.all fun f => !f.hits off) = true := by decide +kernel) : e.word off = d.word off :=
  h.word off ho

theorem isSafe (h : Writes fs d e) (hg : (fs.all fun f => f.spares F.FLT_STS_SAFE 0) = true := by decide +kernel) : e.isSafe = d.isSafe :=
  h.on F.FLT_STS_SAFE 0 hg

/-! ### Single changes -/

theorem same (hr : x.regs = e.regs := by rfl) (hg : x.grade = e.grade := by rfl) : Writes fs e x := by
  have hw (off : Nat) : x.word off = e.word off := by
    unfold Dev.word
    rw [hr, hg]
  refine ⟨fun off _ => hw off, fun g i _ => ?_⟩
  unfold Dev.rd
  rw [hw]

/-- The field of one index is written. -/
theorem wr_one (f : F) (i v : Nat) : Writes [f.one i] d (d.wr f i v) where
  word off h := by
    have hne : off ≠ f.at i := by simpa [F.hits_one] using h
    exact Dev.word_setWord_other _ _ _ _ hne
  rd g j h := by
    by_cases hat : g.at j = f.at i
    · have hbits : (g.lo + g.len ≤ f.lo ∧ f.lo + f.len ≤ 32) ∨ (f.lo + f.len ≤ g.lo ∧ g.lo + g.len ≤ 32) := by
        simpa [F.spares_one, hat] using h
      rcases hbits with ⟨hb, hw⟩ | ⟨hb, hw⟩
      · exact Dev.rd_wr_below d f g i j v hat hb hw
      · exact Dev.rd_wr_above d f g i j v hat hb hw
    · exact Dev.rd_wr_other d f g i j v hat

theorem of_one {f : F} {i : Nat} (h : Writes [f.one i] d e) : Writes [f] d e := by
  refine ⟨fun off ho => h.word off ?_, fun g j hg => h.rd g j ?_⟩
  · have hno : f.hits off = false := by simpa using ho
    have hne : off ≠ f.at i := fun heq => by
      rw [heq, f.hits_at i] at hno
      cases hno
    simpa [F.hits_one] using hne
  · by_cases hat : g.at j = f.at i
    · have hsp : f.spares g j = true := by simpa using hg
      have hhit : f.hits (g.at j) = true := by rw [hat, f.hits_at]
      have hbits : (g.lo + g.len ≤ f.lo ∧ f.lo + f.len ≤ 32) ∨ (f.lo + f.len ≤ g.lo ∧ g.lo + g.len ≤ 32) := by
        simpa [F.spares, hhit] using hsp
      simpa [F.spares_one, hat] using hbits
    · simp [F.spares_one, hat]

theorem wr (f : F) (i v : Nat) : Writes [f] d (d.wr f i v) := (wr_one f i v).of_one

theorem wrb (f : F) (i : Nat) (b : Bool) : Writes [f] d (d.wrb f i b) := wr f i _

theorem bump (f : F) (i n : Nat) : Writes [f] d (d.bump f i n) := wr f i _

/-- A register is written whole. -/
theorem setWord (off v : Nat) : Writes [wordField off] d (d.setWord off v) where
  word j h := by
    have hne : j ≠ off := by simpa [hits_wordField] using h
    exact Dev.word_setWord_other _ _ _ _ hne
  rd g j h := by
    by_cases hat : g.at j = off
    · have h0 : g.len = 0 := by
        have hbits : (g.lo + g.len ≤ 0 ∧ 32 ≤ 32) ∨ (32 ≤ g.lo ∧ g.lo + g.len ≤ 32) := by
          have hsp : (wordField off).spares g j = true := by simpa using h
          unfold F.spares at hsp
          rw [hits_wordField] at hsp
          simpa [hat, wordField] using hsp
        omega
      unfold Dev.rd bitsOf
      rw [h0, Nat.pow_zero, Nat.mod_one, Nat.mod_one]
    · unfold Dev.rd
      rw [Dev.word_setWord_other _ _ _ _ hat]

end Writes

/-- An operation that leaves the registers as they are. -/
theorem Evolves.quiet {ps : List Part} {d e : Dev} (h : Evolves ps d e) (hr : Part.regs ∉ ps := by decide)
    (hg : Part.grade ∉ ps := by decide) : Writes [] d e := .same (h.keeps .regs hr) (h.keeps .grade hg)

namespace Writes

variable {fs gs : List F} {d e x : Dev}

theorem bumpW (f : F) (i n : Nat) : Writes [f] d (d.bumpW f i n) := wr f i _

theorem plainWrite (off v : Nat) : Writes [wordField off] d (d.plainWrite off v) := by
  have hset (w : Nat) : Writes [wordField off] d ((d.setWord off w).touch off) := (Dev.touch_evolves ..).quiet.after (setWord off w) (List.nil_subset _)
  unfold Dev.plainWrite
  split
  · exact .refl
  · split
    · exact .refl
    · exact .ite (hset _) (setWord off _)

theorem plainWrite_at (f : F) (i v : Nat) : Writes [f.whole] d (d.plainWrite (f.at i) v) :=
  of_one (f := f.whole) (i := i) (plainWrite (f.at i) v)

/-- What leaves the registers as they are. -/
theorem onward (h : Writes fs d e) (hr : x.regs = e.regs := by rfl) (hg : x.grade = e.grade := by rfl) : Writes fs d x := h.trans (same hr hg)

end Writes


/-! ## Sets of fields that operations share -/

/-- What an event, a record or an item on its way into a queue can write. -/
def queueFields : List F := [F.EVR_STAGE_OVF, F.LNE_DROP, F.LNE_HELD, F.LNE_OVF_PEAK_ENTRIES, F.LNE_SPILLED, F.RNG_EVT_UNROUTED, F.SCH_STORMS,
  F.SCH_STS_STORM]

/-- What it can write where the recorder fills up: a Degraded fault besides. -/
def eventFields : List F := [F.FLT_DEGRADED_CNT, F.FLT_HIST_OVF, F.FLT_STS_DEGRADED, F.FLT_STS_PULSE] ++ queueFields

/-- What a report below Fatal can write. -/
def faultFields : List F := [F.FLT_FATAL_CNT, F.FLT_FUNCTION_CNT, F.FLT_NOTICE_CNT, F.FLT_STS_FATAL] ++ eventFields

/-- What a report of any class can write: the safe state shuts the device down. -/
def fatalFields : List F := [F.FLT_STS_CYC_REQ, F.FLT_STS_SAFE, F.LCP_MAC_FAIL, F.PAR_DRILL_STS_RUNNING, F.RNG_PAIR_CNT_CMP_DROP] ++ faultFields

end Sys2Proof.Machine
end

section

-- one proof after the other: the check gives the text few threads
set_option Elab.async false

namespace Sys2Proof.Machine

/-! ## What the device's operations write, one after the other -/

theorem Dev.evrCommit_writes (d : Dev) (w : List Nat) : Writes [F.EVR_STAGE_OVF] d (d.evrCommit w) := by
  unfold Dev.evrCommit
  split
  · split
    · exact (Evolves.evr).quiet.mono
    · extract_lets _ y
      have hy : Writes [F.EVR_STAGE_OVF] d y := (Writes.bump ..).mono
      exact (Evolves.evr).quiet.after hy
  · exact (Dev.evrPush_evolves ..).quiet.mono

/-- An event that is routed writes what its place in the queue writes, or is counted. -/
theorem Writes.routeEvent {fs : List F} {put : Dev → Item → Dev} {d e : Dev} {ev : Event} (hput : ∀ x i, Writes fs x (put x i))
    (h : Writes fs d e) (hs : [F.RNG_EVT_UNROUTED] ⊆ fs := by decide +kernel) : Writes fs d (e.routeEvent put ev) := by
  unfold Dev.routeEvent
  dsimp only
  split
  · exact (Writes.bump ..).after h hs
  · split
    · exact h.trans ((Dev.setLane_evolves ..).quiet.mono (List.nil_subset _))
    · split
      · exact h.trans ((Dev.setLane_evolves ..).quiet.mono (List.nil_subset _))
      · exact h.trans (hput _ _)

theorem Dev.ringPut_writes {d e : Dev} {q : Nat} {i : Item} (h : d.ringPut q i = some e) : Writes [F.LNE_OVF_PEAK_ENTRIES, F.LNE_SPILLED] d e := by
  unfold Dev.ringPut at h
  dsimp only at h
  split at h
  · obtain rfl := Option.some.inj h
    exact (Writes.wr ..).after <| (Writes.bump ..).after (Dev.setLane_evolves ..).quiet.mono
  · cases h

/-- An event that is put into its queue where fuel is left. -/
theorem Writes.fuelled {fs : List F} {put : Nat → Dev → Item → Dev} {fuel : Nat} (hs : [F.RNG_EVT_UNROUTED] ⊆ fs) (x : Dev) (e : Event) :
    (∀ f, f < fuel → ∀ y i, Writes fs y (put f y i)) →
      Writes fs x (match fuel with | 0 => x | f + 1 => x.routeEvent (fun y i => put f y i) e) := by
  intro hput
  cases fuel with
  | zero => exact .refl
  | succ f => exact .routeEvent (hput f (Nat.lt_succ_self f)) .refl hs

theorem Dev.offerRaw_writes (fuel : Nat) (d : Dev) (q : Nat) (i : Item) :
    Writes [F.EVR_STAGE_OVF, F.LNE_DROP, F.LNE_HELD, F.LNE_OVF_PEAK_ENTRIES, F.LNE_SPILLED, F.RNG_EVT_UNROUTED] d (Dev.offerRaw fuel d q i) := by
  induction fuel using Nat.strongRecOn generalizing d q i with
  | ind fuel ih =>
    have hnext (x : Dev) (e : Event) := Writes.fuelled (put := fun f y j => Dev.offerRaw f y 13 j) (by decide +kernel) x e fun f hf y j => ih f hf y 13 j
    unfold Dev.offerRaw
    extract_lets l d1 y d2 d3
    have h1 : Writes [F.EVR_STAGE_OVF, F.LNE_DROP, F.LNE_HELD, F.LNE_OVF_PEAK_ENTRIES, F.LNE_SPILLED, F.RNG_EVT_UNROUTED] d d1 := (Writes.bump ..).mono
    have h2 : Writes [F.EVR_STAGE_OVF, F.LNE_DROP, F.LNE_HELD, F.LNE_OVF_PEAK_ENTRIES, F.LNE_SPILLED, F.RNG_EVT_UNROUTED] d d2 := Evolves.lne.quiet.after h1
    have h3 : Writes [F.EVR_STAGE_OVF, F.LNE_DROP, F.LNE_HELD, F.LNE_OVF_PEAK_ENTRIES, F.LNE_SPILLED, F.RNG_EVT_UNROUTED] d d3 := (Dev.evrCommit_writes ..).after h2
    split
    · exact (Dev.setLane_evolves ..).quiet.mono
    · split
      · split
        · next e he =>
          have h : Writes [F.EVR_STAGE_OVF, F.LNE_DROP, F.LNE_HELD, F.LNE_OVF_PEAK_ENTRIES, F.LNE_SPILLED, F.RNG_EVT_UNROUTED] d e := (Dev.ringPut_writes he).mono
          split
          · exact (hnext _ _).after (Evolves.lne.quiet.after h)
          · exact h
        · refine .ite ((Writes.bump ..).after (Dev.setLane_evolves ..).quiet.mono) (.ite ?_ h1)
          exact (hnext _ _).after h3
      · exact (Writes.bump ..).after (Dev.setLane_evolves ..).quiet.mono

theorem Dev.stormStart_writes (d : Dev) : Writes queueFields d d.stormStart := by
  unfold Dev.stormStart
  extract_lets d1 _ d2 d3
  have hd1 : Writes queueFields d d1 := (Writes.bump ..).after <| (Writes.wrb ..).mono
  have hd2 : Writes queueFields d d2 := Evolves.lne.quiet.after hd1
  have hd3 : Writes queueFields d d3 := (Dev.evrCommit_writes ..).after hd2
  exact Writes.routeEvent (fun _ _ => (Dev.offerRaw_writes ..).mono) hd3

theorem Dev.postRaw_writes (d : Dev) (e : Event) : Writes queueFields d (d.postRaw e) := by
  unfold Dev.postRaw
  extract_lets d1
  have hd1 : Writes queueFields d d1 := Writes.routeEvent (fun _ _ => (Dev.offerRaw_writes ..).mono) .refl
  exact .ite ((Dev.stormStart_writes ..).after hd1) hd1

theorem Dev.history_writes (d : Dev) (code src : Nat) (cls detail : Nat) (safe : Bool) :
    Writes [F.FLT_HIST_OVF] d (d.history code src cls detail safe) := by
  unfold Dev.history
  split
  · exact Evolves.flt.quiet.mono
  · extract_lets _ d1
    have hd1 : Writes [F.FLT_HIST_OVF] d d1 := .ite ((Writes.bump ..).mono) .refl
    exact Evolves.flt.quiet.after hd1

theorem Dev.pulse_writes (d : Dev) : Writes [F.FLT_STS_PULSE] d d.pulse := by
  unfold Dev.pulse
  extract_lets y
  have hy : Writes [F.FLT_STS_PULSE] d y := (Writes.wrb ..).mono
  exact Evolves.flt.quiet.after hy

/-- The latch that a report of a class sets. -/
def classLatch (cls : Nat) : F := if cls = 4 then F.FLT_STS_FATAL else F.FLT_STS_DEGRADED

theorem Dev.faultCore_writes_class (d : Dev) (code src cls detail : Nat) (safe : Bool) :
    Writes ([classCnt cls, classLatch cls, F.FLT_HIST_OVF, F.FLT_STS_PULSE] ++ queueFields) d (d.faultCore code src cls detail safe) := by
  unfold Dev.faultCore
  extract_lets d1 d2 d3 d4 d5
  have h1 : Writes ([classCnt cls, classLatch cls, F.FLT_HIST_OVF, F.FLT_STS_PULSE] ++ queueFields) d d1 :=
    (Writes.bump (classCnt cls) ..).mono (by simp)
  have h2 : Writes ([classCnt cls, classLatch cls, F.FLT_HIST_OVF, F.FLT_STS_PULSE] ++ queueFields) d d2 :=
    .ite ((Dev.history_writes ..).after h1 (by simp)) h1
  have h3 : Writes ([classCnt cls, classLatch cls, F.FLT_HIST_OVF, F.FLT_STS_PULSE] ++ queueFields) d d3 :=
    (Dev.postRaw_writes ..).after h2 (List.subset_append_right _ _)
  have h4 : Writes ([classCnt cls, classLatch cls, F.FLT_HIST_OVF, F.FLT_STS_PULSE] ++ queueFields) d d4 := by
    unfold d4
    split
    · next hc => exact (Writes.wrb ..).after h3 (by simp [classLatch, hc])
    · next hc => exact (Writes.wrb ..).after h3 (by simp [classLatch, hc])
  have h5 : Writes ([classCnt cls, classLatch cls, F.FLT_HIST_OVF, F.FLT_STS_PULSE] ++ queueFields) d d5 := (Dev.pulse_writes ..).after h4 (by simp)
  exact .ite (.ite ((Dev.fire_evolves ..).quiet.after h5 (List.nil_subset _)) h5) h3

theorem Dev.faultCore_writes (d : Dev) (code src cls detail : Nat) (safe : Bool) : Writes faultFields d (d.faultCore code src cls detail safe) := by
  refine (d.faultCore_writes_class code src cls detail safe).mono ?_
  unfold classCnt classLatch
  split <;> split <;> decide +kernel

theorem Dev.faultCoreF_writes (d : Dev) (code src : Nat) (cls detail : Nat) (safe : Bool) :
    Writes faultFields d (d.faultCoreF code src cls detail safe) := by
  unfold Dev.faultCoreF
  extract_lets d1
  have hd1 : Writes faultFields d d1 := (Dev.faultCore_writes ..).mono
  exact Evolves.freeCtr.quiet.after hd1

theorem Dev.fullCheck_writes (d : Dev) : Writes eventFields d d.fullCheck := by
  unfold Dev.fullCheck
  extract_lets n y d1
  have h1 : Writes eventFields d d1 := .ite ((Dev.postRaw_writes ..).after (Evolves.evr).quiet.mono) .refl
  have hcore (x : Dev) : Writes eventFields x (x.faultCoreF 0x0F1F 0x10 3 0 false) := by
    have h := x.faultCore_writes_class 0x0F1F 0x10 3 0 false
    unfold Dev.faultCoreF
    exact Evolves.freeCtr.quiet.after h.mono
  exact .ite ((hcore _).after (.onward h1)) h1

theorem Dev.record_writes (d : Dev) (code src : Nat) (sev w3 : Nat) (w4 w5 w6 : Nat) (deferred : Bool) :
    Writes eventFields d (d.record code src sev w3 w4 w5 w6 deferred) := by
  unfold Dev.record
  exact (Dev.fullCheck_writes ..).after <| (Dev.evrCommit_writes ..).mono

theorem Dev.post_writes (d : Dev) (cls code : Nat) (sev src : Nat) (target w4 : Nat) (w5 w6 : Nat) :
    Writes eventFields d (d.post cls code sev src target w4 w5 w6) := by
  unfold Dev.post
  exact (Dev.fullCheck_writes ..).after <| (Dev.postRaw_writes ..).mono

theorem Dev.recordPost_writes (d : Dev) (cls code : Nat) (sev src : Nat) (target w3 : Nat) (w4 w5 w6 : Nat) :
    Writes eventFields d (d.recordPost cls code sev src target w3 w4 w5 w6) := by
  unfold Dev.recordPost
  exact (Dev.post_writes ..).after <| (Dev.record_writes ..).mono

theorem Dev.offer_writes (d : Dev) (q : Nat) (i : Item) : Writes eventFields d (d.offer q i) := by
  unfold Dev.offer
  exact (Dev.fullCheck_writes ..).after <| (Dev.offerRaw_writes ..).mono

theorem Dev.settle_writes (d : Dev) (p : Nat) : Writes [F.RNG_PAIR_CNT_CMP_DROP] d (d.settle p) := by
  unfold Dev.settle
  extract_lets
  exact (Dev.watchFull_evolves ..).quiet.after <| (Writes.bump ..).after <| (Dev.setPair_evolves ..).quiet.mono

theorem Dev.complete_writes (d : Dev) (p id : Nat) (st sub : Nat) (res : List Nat) :
    Writes [F.RNG_PAIR_CNT_CMP_DROP] d (d.complete p id st sub res) := by
  unfold Dev.complete
  exact (Dev.settle_writes ..).after <| (Dev.updPair_evolves ..).quiet.mono

theorem Dev.completeAll_writes (d : Dev) (pick : Nat → Held → Option (Nat × Nat)) : Writes [F.RNG_PAIR_CNT_CMP_DROP] d (d.completeAll pick) := by
  unfold Dev.completeAll
  exact .foldl (fun _ _ => (Dev.settle_writes ..).after <| (Dev.updPair_evolves ..).quiet.mono) .refl

theorem Dev.pairSend_writes (d : Dev) (cycle : Nat) (b : PairBody) : Writes eventFields d (d.pairSend cycle b) := by
  unfold Dev.pairSend
  exact .ite .refl (.ite ((Dev.pairEmit_evolves ..).quiet.mono) (.ite ((Dev.pairEmit_evolves ..).quiet.after <| Evolves.par.quiet.mono) ((Dev.offer_writes ..).mono)))

theorem Dev.unfreeze_writes (d : Dev) : Writes eventFields d d.unfreeze := by
  unfold Dev.unfreeze
  split
  · extract_lets _ d1 d2
    have hd1 : Writes eventFields d d1 := (Evolves.evr).quiet.mono
    have hd2 : Writes eventFields d d2 := .foldl (fun _ _ => (Dev.fullCheck_writes ..).after <| (Dev.evrPush_evolves ..).quiet.mono) hd1
    exact .ite hd2 ((Dev.record_writes ..).after hd2)
  · exact .refl

theorem Dev.commit_writes (d : Dev) : Writes eventFields d d.commit := by
  unfold Dev.commit
  extract_lets d1 d2 _ d3 d4
  have hd1 : Writes eventFields d d1 := (Dev.unfreeze_writes ..).mono
  have hd2 : Writes eventFields d d2 := .ite ((Dev.persist_evolves ..).quiet.after hd1) hd1
  have hd3 : Writes eventFields d d3 := Evolves.tar.quiet.after hd2
  have hd4 : Writes eventFields d d4 := .ite ((Dev.commitHead_evolves ..).quiet.after hd3) hd3
  exact .onward hd4

theorem Dev.stopSwap_writes (d : Dev) : Writes [F.PAR_DRILL_STS_RUNNING, F.RNG_PAIR_CNT_CMP_DROP] d d.stopSwap := by
  unfold Dev.stopSwap
  extract_lets d1 d2 y
  have hd1 : Writes [F.PAR_DRILL_STS_RUNNING, F.RNG_PAIR_CNT_CMP_DROP] d d1 := by
    unfold d1
    split
    · split
      · exact (Dev.complete_writes ..).mono
      · exact .refl
    · exact .refl
  have hd2 : Writes [F.PAR_DRILL_STS_RUNNING, F.RNG_PAIR_CNT_CMP_DROP] d d2 := by
    unfold d2
    split
    · split
      · exact (Dev.complete_writes ..).after hd1
      · exact hd1
    · exact hd1
  have hy : Writes [F.PAR_DRILL_STS_RUNNING, F.RNG_PAIR_CNT_CMP_DROP] d y := (Writes.wrb ..).after hd2
  exact Evolves.par.quiet.after hy

theorem Dev.claimCutLine_writes (d : Dev) (p : Nat) : Writes [F.LCP_MAC_FAIL] d (d.claimCutLine p) := by
  unfold Dev.claimCutLine
  split
  · exact .refl
  · rename_i y0 y1 y2
    extract_lets _ _ _ d1
    have hd1 : Writes [F.LCP_MAC_FAIL] d d1 := (Dev.updLp_evolves ..).quiet.mono
    exact .ite ((Writes.bump ..).after hd1) hd1

theorem Dev.dropXfers_writes (d0 : Dev) : Writes [F.LCP_MAC_FAIL] d0 d0.dropXfers := by
  unfold Dev.dropXfers
  extract_lets d
  have hd : Writes [F.LCP_MAC_FAIL] d0 d := .foldl (fun _ _ => (Dev.claimCutRad_evolves ..).quiet.mono) (.foldl (fun _ _ => (Dev.claimCutLine_writes ..).mono) .refl)
  exact .onward hd

theorem Dev.dropDescs_writes (d : Dev) : Writes [F.LCP_MAC_FAIL, F.RNG_PAIR_CNT_CMP_DROP] d d.dropDescs := by
  unfold Dev.dropDescs
  exact (Dev.completeAll_writes ..).after <| (Dev.dropXfers_writes ..).mono

theorem Dev.yieldClaim_writes (d : Dev) : Writes eventFields d d.yieldClaim := by
  unfold Dev.yieldClaim
  extract_lets d1
  have hd1 : Writes eventFields d d1 := (Dev.dropClaim_evolves ..).quiet.after <| (Dev.pairSend_writes ..).mono
  exact Evolves.par.quiet.after hd1

theorem Dev.silence_writes (d : Dev) : Writes ([F.LCP_MAC_FAIL, F.PAR_DRILL_STS_RUNNING, F.RNG_PAIR_CNT_CMP_DROP] ++ eventFields) d d.silence := by
  unfold Dev.silence
  extract_lets d1 d3 d4
  have hd1 : Writes ([F.LCP_MAC_FAIL, F.PAR_DRILL_STS_RUNNING, F.RNG_PAIR_CNT_CMP_DROP] ++ eventFields) d d1 := (Dev.unfreeze_writes ..).mono
  have hd3 : Writes ([F.LCP_MAC_FAIL, F.PAR_DRILL_STS_RUNNING, F.RNG_PAIR_CNT_CMP_DROP] ++ eventFields) d d3 := .ite ((Dev.yieldClaim_writes ..).after hd1) ((Dev.dropClaim_evolves ..).quiet.after hd1)
  have hd4 : Writes ([F.LCP_MAC_FAIL, F.PAR_DRILL_STS_RUNNING, F.RNG_PAIR_CNT_CMP_DROP] ++ eventFields) d d4 := (Dev.dropDescs_writes ..).after <| (Dev.stopSwap_writes ..).after hd3
  exact Evolves.tim.quiet.after hd4

theorem Dev.enterSafe_writes (d : Dev) :
    Writes ([F.FLT_STS_SAFE, F.LCP_MAC_FAIL, F.PAR_DRILL_STS_RUNNING, F.RNG_PAIR_CNT_CMP_DROP] ++ eventFields) d d.enterSafe := by
  unfold Dev.enterSafe
  split
  · exact .refl
  · extract_lets d1 y
    have hd1 : Writes ([F.FLT_STS_SAFE, F.LCP_MAC_FAIL, F.PAR_DRILL_STS_RUNNING, F.RNG_PAIR_CNT_CMP_DROP] ++ eventFields) d d1 := (Dev.silence_writes ..).mono
    have hy : Writes ([F.FLT_STS_SAFE, F.LCP_MAC_FAIL, F.PAR_DRILL_STS_RUNNING, F.RNG_PAIR_CNT_CMP_DROP] ++ eventFields) d y := (Writes.wrb ..).after hd1
    exact Evolves.flt.quiet.after hy

theorem Dev.cycleReq_writes (d : Dev) (why : Nat) : Writes ([F.FLT_STS_CYC_REQ] ++ eventFields) d (d.cycleReq why) := by
  unfold Dev.cycleReq
  split
  · exact .refl
  · extract_lets d1 y
    have hd1 : Writes ([F.FLT_STS_CYC_REQ] ++ eventFields) d d1 := (Dev.record_writes ..).mono
    have hy : Writes ([F.FLT_STS_CYC_REQ] ++ eventFields) d y := (Writes.wrb ..).after hd1
    exact Evolves.glb.quiet.after hy

theorem Dev.fault_writes (d : Dev) (code src : Nat) (cls detail : Nat) (own : Bool) : Writes fatalFields d (d.fault code src cls detail own) := by
  unfold Dev.fault
  extract_lets _ d1 _ d2 d3 _ _ d4 _ d5 d6
  have hd1 : Writes fatalFields d d1 := .ite ((Dev.unfreeze_writes ..).mono) .refl
  have hd2 : Writes fatalFields d d2 := (Dev.faultCoreF_writes ..).after hd1
  have hd3 : Writes fatalFields d d3 := .ite ((Dev.enterSafe_writes ..).after hd2) hd2
  have hd4 : Writes fatalFields d d4 := .ite hd3 ((Dev.noteRecord_evolves ..).quiet.after <| (Dev.record_writes ..).after hd3)
  have hd5 : Writes fatalFields d d5 := Evolves.flt.quiet.after hd4
  have hd6 : Writes fatalFields d d6 := .ite hd5 ((Dev.commit_writes ..).after hd5)
  exact .ite (.ite ((Dev.cycleReq_writes ..).after hd6) hd6) hd4

theorem Dev.ringLose_writes (d : Dev) (q n : Nat) : Writes [F.LNE_ECC_DROP] d (d.ringLose q n) := by
  unfold Dev.ringLose
  extract_lets
  exact .ite ((Writes.bump ..).after <| (Dev.setLane_evolves ..).quiet.mono) .refl

end Sys2Proof.Machine
end

section

-- one proof after the other: the check gives the text few threads
set_option Elab.async false

namespace Sys2Proof.Machine

/-! ## The latch DEGRADED: no report, record or commit takes it back -/

/-- Where the latch DEGRADED is set before, it is set after. -/
structure HoldsDegraded (d e : Dev) : Prop where
  latch : d.on F.FLT_STS_DEGRADED = true → e.on F.FLT_STS_DEGRADED = true

namespace HoldsDegraded

variable {d e x : Dev}

theorem refl : HoldsDegraded d d := ⟨id⟩

theorem trans (h1 : HoldsDegraded d e) (h2 : HoldsDegraded e x) : HoldsDegraded d x := ⟨fun h => h2.latch (h1.latch h)⟩

theorem ite {c : Prop} [Decidable c] (h1 : HoldsDegraded d e) (h2 : HoldsDegraded d x) : HoldsDegraded d (if c then e else x) := by
  split <;> assumption

theorem foldl {α : Type} {g : Dev → α → Dev} {l : List α} (hg : ∀ y a, HoldsDegraded y (g y a)) (h : HoldsDegraded d e) :
    HoldsDegraded d (l.foldl g e) := by
  induction l generalizing e with
  | nil => exact h
  | cons a t ih => exact ih (h.trans (hg e a))

end HoldsDegraded

theorem Writes.degraded {fs : List F} {d e : Dev} (h : Writes fs d e)
    (hs : (fs.all fun f => f.spares F.FLT_STS_DEGRADED 0) = true := by decide +kernel) : HoldsDegraded d e :=
  ⟨fun hd => (h.on _ 0 hs).trans hd⟩

/-- A report of class 3 sets the latch. -/
theorem Dev.faultCore_degraded (d : Dev) (code src detail : Nat) (safe : Bool) : (d.faultCore code src 3 detail safe).on F.FLT_STS_DEGRADED = true := by
  unfold Dev.faultCore
  extract_lets d1 d2 d3 d4 d5
  have h4 : d4.on F.FLT_STS_DEGRADED = true := Dev.on_wrb _ _ _ _ (by decide) rfl
  have h5 : d5.on F.FLT_STS_DEGRADED = true := (Dev.pulse_writes d4).degraded.latch h4
  rw [if_pos (show 3 ≥ 3 by decide)]
  split
  · exact (Dev.fire_evolves ..).quiet.degraded.latch h5
  · exact h5

theorem Dev.faultCoreF_degraded (d : Dev) (code src detail : Nat) (safe : Bool) : (d.faultCoreF code src 3 detail safe).on F.FLT_STS_DEGRADED = true := by
  have h := d.faultCore_degraded code src detail safe
  unfold Dev.faultCoreF
  exact Evolves.freeCtr.quiet.degraded.latch h

/-- A report of another class than 3 leaves the latch. -/
theorem Dev.faultCoreF_holdsDegraded (d : Dev) (code src cls detail : Nat) (safe : Bool) :
    HoldsDegraded d (d.faultCoreF code src cls detail safe) := by
  by_cases hc : cls = 3
  · subst hc
    exact ⟨fun _ => d.faultCoreF_degraded code src detail safe⟩
  · have hcore : HoldsDegraded d (d.faultCore code src cls detail safe) := by
      unfold Dev.faultCore
      extract_lets d1 d2 d3 d4 d5
      have h1 : HoldsDegraded d d1 := by
        unfold d1
        split <;> exact (Writes.bump ..).degraded
      have h2 : HoldsDegraded d d2 := .ite (h1.trans (Dev.history_writes ..).degraded) h1
      have h3 : HoldsDegraded d d3 := h2.trans (Dev.postRaw_writes ..).degraded
      have h4 : HoldsDegraded d d4 :=
        .ite (h3.trans (Writes.wrb ..).degraded) ⟨fun _ => Dev.on_wrb _ _ _ _ (by decide) rfl⟩
      have h5 : HoldsDegraded d d5 := h4.trans (Dev.pulse_writes ..).degraded
      exact .ite (.ite (h5.trans (Dev.fire_evolves ..).quiet.degraded) h5) h3
    unfold Dev.faultCoreF
    exact hcore.trans Evolves.freeCtr.quiet.degraded

theorem Dev.fullCheck_degraded (d : Dev) : HoldsDegraded d d.fullCheck := by
  unfold Dev.fullCheck
  extract_lets n y d1
  have h1 : HoldsDegraded d d1 := .ite ((Evolves.evr).quiet.degraded.trans (Dev.postRaw_writes ..).degraded) .refl
  have hset (x : Evr) (z : Flt) : HoldsDegraded d1 { d1 with evr := x, flt := z } := (Writes.refl (fs := [])).onward.degraded
  exact .ite ((h1.trans (hset _ _)).trans (Dev.faultCoreF_holdsDegraded _ _ _ _ _ _)) h1

theorem Dev.record_degraded (d : Dev) (code src sev w3 w4 w5 w6 : Nat) (df : Bool) : HoldsDegraded d (d.record code src sev w3 w4 w5 w6 df) := by
  unfold Dev.record
  exact (Dev.evrCommit_writes ..).degraded.trans (Dev.fullCheck_degraded _)

theorem Dev.offer_degraded (d : Dev) (q : Nat) (i : Item) : HoldsDegraded d (d.offer q i) :=
  (Dev.offerRaw_writes ..).degraded.trans (Dev.fullCheck_degraded _)

theorem Dev.unfreeze_degraded (d : Dev) : HoldsDegraded d d.unfreeze := by
  unfold Dev.unfreeze
  split
  · extract_lets e d1 d2
    have h1 : HoldsDegraded d d1 := (Evolves.evr).quiet.degraded
    have h2 : HoldsDegraded d d2 := .foldl (fun x w => (Dev.evrPush_evolves ..).quiet.degraded.trans (Dev.fullCheck_degraded _)) h1
    exact .ite h2 (h2.trans (Dev.record_degraded ..))
  · exact .refl

theorem Dev.pairSend_degraded (d : Dev) (cycle : Nat) (b : PairBody) : HoldsDegraded d (d.pairSend cycle b) := by
  have hemit (x : Dev) : HoldsDegraded x (x.pairEmit cycle b) := (Dev.pairEmit_evolves ..).quiet.degraded
  unfold Dev.pairSend
  exact .ite .refl (.ite (hemit _) (.ite (Evolves.par.quiet.degraded.trans (hemit _)) (Dev.offer_degraded ..)))

theorem Dev.yieldClaim_degraded (d : Dev) : HoldsDegraded d d.yieldClaim := by
  unfold Dev.yieldClaim
  extract_lets d1
  have h1 : HoldsDegraded d d1 := (Dev.pairSend_degraded ..).trans (Dev.dropClaim_evolves ..).quiet.degraded
  exact h1.trans Evolves.par.quiet.degraded

theorem Dev.silence_degraded (d : Dev) : HoldsDegraded d d.silence := by
  unfold Dev.silence
  extract_lets d1 d3 d4
  have h1 : HoldsDegraded d d1 := d.unfreeze_degraded
  have h3 : HoldsDegraded d d3 := .ite (h1.trans d1.yieldClaim_degraded) (h1.trans (Dev.dropClaim_evolves ..).quiet.degraded)
  have h4 : HoldsDegraded d d4 := h3.trans ((Dev.stopSwap_writes ..).degraded.trans (Dev.dropDescs_writes ..).degraded)
  exact h4.trans Evolves.tim.quiet.degraded

theorem Dev.enterSafe_degraded (d : Dev) : HoldsDegraded d d.enterSafe := by
  unfold Dev.enterSafe
  split
  · exact .refl
  · extract_lets d1
    have h1 : HoldsDegraded d d1 := d.silence_degraded
    exact h1.trans ((Writes.wrb F.FLT_STS_SAFE 0 true).degraded.trans Evolves.flt.quiet.degraded)

theorem Dev.commit_degraded (d : Dev) : HoldsDegraded d d.commit := by
  unfold Dev.commit
  extract_lets d1 d2 _ d3 d4
  have h1 : HoldsDegraded d d1 := d.unfreeze_degraded
  have h2 : HoldsDegraded d d2 := .ite (h1.trans (Dev.persist_evolves ..).quiet.degraded) h1
  have h3 : HoldsDegraded d d3 := h2.trans Evolves.tar.quiet.degraded
  have h4 : HoldsDegraded d d4 := .ite (h3.trans (Dev.commitHead_evolves ..).quiet.degraded) h3
  exact h4.trans (Writes.refl (fs := [])).onward.degraded

theorem Dev.cycleReq_degraded (d : Dev) (why : Nat) : HoldsDegraded d (d.cycleReq why) := by
  unfold Dev.cycleReq
  split
  · exact .refl
  · extract_lets d1
    have h1 : HoldsDegraded d d1 := Dev.record_degraded ..
    exact h1.trans ((Writes.wrb F.FLT_STS_CYC_REQ 0 true).degraded.trans Evolves.glb.quiet.degraded)

/-! ## What a report leaves, by its class -/

/-- What follows the report proper: the record, and what a Fatal one brings with it. -/
theorem Dev.fault_holdsDegraded_of {d x : Dev} {code src cls detail : Nat} {own : Bool}
    (hcore : ∀ y : Dev, HoldsDegraded d y → HoldsDegraded x (y.faultCoreF code src cls detail (cls = 4 && !d.isSafe))) :
    HoldsDegraded x (d.fault code src cls detail own) := by
  have hd : HoldsDegraded d (if cls = 4 ∧ d.evr.frozen then d.unfreeze else d) := .ite d.unfreeze_degraded .refl
  unfold Dev.fault
  extract_lets wasSafe d1 n d2 d3 k due d4 _ d5 d6
  have h2 : HoldsDegraded x d2 := hcore d1 hd
  have h3 : HoldsDegraded x d3 := .ite (h2.trans d2.enterSafe_degraded) h2
  have h4 : HoldsDegraded x d4 := .ite h3 ((h3.trans (Dev.record_degraded ..)).trans (Dev.noteRecord_evolves ..).quiet.degraded)
  have h5 : HoldsDegraded x d5 := h4.trans Evolves.flt.quiet.degraded
  have h6 : HoldsDegraded x d6 := .ite h5 (h5.trans d5.commit_degraded)
  exact .ite (.ite (h6.trans (d6.cycleReq_degraded 1)) h6) h4

theorem Dev.fault_holdsDegraded (d : Dev) (code src cls detail : Nat) (own : Bool) : HoldsDegraded d (d.fault code src cls detail own) :=
  Dev.fault_holdsDegraded_of fun y hy => hy.trans (y.faultCoreF_holdsDegraded ..)

theorem Dev.fault_degraded (d : Dev) (code src detail : Nat) (own : Bool) : (d.fault code src 3 detail own).on F.FLT_STS_DEGRADED = true := by
  have h : HoldsDegraded (d.wrb F.FLT_STS_DEGRADED 0 true) (d.fault code src 3 detail own) :=
    Dev.fault_holdsDegraded_of fun y _ => ⟨fun _ => y.faultCoreF_degraded ..⟩
  exact h.latch (Dev.on_wrb _ _ _ _ (by decide) rfl)

theorem Dev.fault_writes_below (d : Dev) (code src cls detail : Nat) (own : Bool) (hcls : cls < 4) :
    Writes faultFields d (d.fault code src cls detail own) := by
  have hne : cls ≠ 4 := by omega
  unfold Dev.fault
  simp only [hne, false_and, if_false, decide_false, Bool.false_and]
  refine .ite (Dev.faultCoreF_writes ..).mono ?_
  exact (Dev.noteRecord_evolves ..).quiet.after <| (Dev.record_writes ..).after (Dev.faultCoreF_writes ..).mono

/-! ### The safe state -/

theorem Dev.enterSafe_isSafe (d : Dev) : d.enterSafe.isSafe = true := by
  unfold Dev.enterSafe
  split
  · assumption
  · extract_lets d1
    have hset : (d1.wrb F.FLT_STS_SAFE 0 true).isSafe = true := Dev.on_wrb _ _ _ _ (by decide) rfl
    exact ((Evolves.flt (x := { d1.flt with safeAt := some d1.tim.mono, autoRst := d1.rd F.FLT_CFG_AUTO_RST })).quiet.isSafe).trans hset

theorem Dev.fault_isSafe (d : Dev) (code src detail : Nat) (own : Bool) : (d.fault code src 4 detail own).isSafe = true := by
  unfold Dev.fault
  simp -zeta only [if_true]
  extract_lets wasSafe d1 n d2 d3 k due d4 _ d5 d6
  have h3 : d3.isSafe = true := d2.enterSafe_isSafe
  have h4 : d4.isSafe = true := by
    unfold d4
    split
    · exact h3
    · exact ((Dev.noteRecord_evolves ..).quiet.isSafe.trans (Dev.record_writes ..).isSafe).trans h3
  have h5 : d5.isSafe = true := Evolves.flt.quiet.isSafe.trans h4
  have h6 : d6.isSafe = true := by
    unfold d6
    split
    · exact h5
    · exact (Dev.commit_writes ..).isSafe.trans h5
  split
  · exact (Dev.cycleReq_writes ..).isSafe.trans h6
  · exact h6

/-! ### What GLB keeps -/

theorem Dev.cycleReq_glb (d : Dev) (why : Nat) : ∃ b, (d.cycleReq why).glb = { d.glb with pwrCycleReq := b } := by
  have hrec : (d.record 0x0F31 0xF 4 why).glb = d.glb := (Dev.record_evolves ..).keeps .glb (by decide)
  unfold Dev.cycleReq
  split
  · exact ⟨d.glb.pwrCycleReq, rfl⟩
  · exact ⟨true, by simp only [hrec]⟩

/-- A report changes nothing of GLB but the request for a power cycle. -/
theorem Dev.fault_glb (d : Dev) (code src cls detail : Nat) (own : Bool) :
    ∃ b, (d.fault code src cls detail own).glb = { d.glb with pwrCycleReq := b } := by
  unfold Dev.fault
  extract_lets wasSafe d1 n d2 d3 k due d4 _ d5 d6
  have h1 : d1.glb = d.glb := by
    unfold d1
    split
    · exact (Dev.unfreeze_evolves ..).keeps .glb (by decide)
    · rfl
  have h2 : d2.glb = d.glb := ((Dev.faultCoreF_evolves ..).keeps .glb (by decide)).trans h1
  have h3 : d3.glb = d.glb := by
    unfold d3
    split
    · exact ((Dev.enterSafe_evolves ..).keeps .glb (by decide)).trans h2
    · exact h2
  have h4 : d4.glb = d.glb := by
    unfold d4
    split
    · exact h3
    · exact (((Dev.noteRecord_evolves ..).keeps .glb (by decide)).trans ((Dev.record_evolves ..).keeps .glb (by decide))).trans h3
  have h5 : d5.glb = d.glb := (Evolves.flt.keeps .glb (by decide)).trans h4
  have h6 : d6.glb = d.glb := by
    unfold d6
    split
    · exact h5
    · exact ((Dev.commit_evolves ..).keeps .glb (by decide)).trans h5
  split
  · split
    · exact (d6.cycleReq_glb 1).imp fun b hb => by rw [hb, h6]
    · exact ⟨d.glb.pwrCycleReq, h6⟩
  · exact ⟨d.glb.pwrCycleReq, h4⟩

end Sys2Proof.Machine
end

section

-- one proof after the other: the check gives the text few threads
set_option Elab.async false

namespace Sys2Proof.Machine

/-! ## O15: the error sources -/

theorem Dev.fault_function (d : Dev) (code src detail : Nat) (own : Bool) :
    (d.fault code src 2 detail own).rd F.FLT_FUNCTION_CNT = min (d.rd F.FLT_FUNCTION_CNT + 1) (2 ^ F.FLT_FUNCTION_CNT.len - 1) :=
  ((d.fault_reporting_bump code src 2 detail own (by decide)).rd F.FLT_FUNCTION_CNT 0 (by decide)).trans (d.rd_bump F.FLT_FUNCTION_CNT 0 1 (by decide))

theorem Dev.fault_notice_own (d : Dev) (code src detail : Nat) (own : Bool) :
    (d.fault code src 1 detail own).rd F.FLT_NOTICE_CNT = min (d.rd F.FLT_NOTICE_CNT + 1) (2 ^ F.FLT_NOTICE_CNT.len - 1) :=
  ((d.fault_reporting_bump code src 1 detail own (by decide)).rd F.FLT_NOTICE_CNT 0 (by decide)).trans (d.rd_bump F.FLT_NOTICE_CNT 0 1 (by decide))

/-- A report leaves what its class leaves (R556). -/
theorem Dev.reported_fault (d : Dev) (code src cls detail : Nat) (own : Bool) : Reported cls d (d.fault code src cls detail own) :=
  ⟨fun h => h ▸ d.fault_isSafe code src detail own, fun h => h ▸ d.fault_degraded code src detail own,
    fun h => h ▸ d.fault_function code src detail own, fun h => h ▸ d.fault_notice_own code src detail own⟩

/-- What a class leaves, counted from a device whose counters of the classes are the same. -/
theorem Reported.of_counters {cls : Nat} {d e x : Dev} (h : Reported cls e x) (hf : e.rd F.FLT_FUNCTION_CNT = d.rd F.FLT_FUNCTION_CNT)
    (hn : e.rd F.FLT_NOTICE_CNT = d.rd F.FLT_NOTICE_CNT) : Reported cls d x := by
  obtain ⟨h4, h3, h2, h1⟩ := h
  exact ⟨h4, h3, fun hc => hf ▸ h2 hc, fun hc => hn ▸ h1 hc⟩

theorem Reported.after_writes {cls : Nat} {fs : List F} {d e x : Dev} (h : Reported cls e x) (hw : Writes fs d e)
    (hf : (fs.all fun f => f.spares F.FLT_FUNCTION_CNT 0) = true := by decide +kernel)
    (hn : (fs.all fun f => f.spares F.FLT_NOTICE_CNT 0) = true := by decide +kernel) : Reported cls d x :=
  h.of_counters (hw.rd _ 0 hf) (hw.rd _ 0 hn)

/-- The device with the Weigh-in core stopped. -/
def Dev.tarStopped (d : Dev) : Dev := ({ d with glb := { d.glb with tarRuns := false } } : Dev).wrb F.TAR_STS_RUNNING 0 false

theorem Dev.tarStopped_evolves (d : Dev) : Evolves [.glb, .regs] d d.tarStopped := (Dev.wrb_evolves ..).after Evolves.glb.mono

theorem Dev.tarStopped_writes (d : Dev) : Writes [F.TAR_STS_RUNNING] d d.tarStopped := (Writes.wrb ..).after Evolves.glb.quiet.mono

theorem Dev.tarStopped_glb (d : Dev) : d.tarStopped.glb = { d.glb with tarRuns := false } := rfl

theorem Dev.live_congr {d e : Dev} (h : e.glb.phase = d.glb.phase) : e.live = d.live := by
  unfold Dev.live
  rw [h]

theorem Dev.watchdog_weighIn (d : Dev) (hlive : d.live = true) : d.watchdog 4 = d.tarStopped.fault 0x0F11 0xB 4 0 := by
  unfold Dev.watchdog Dev.tarStopped
  simp only [hlive, Bool.not_true, Bool.false_eq_true, if_false, if_true]

theorem Dev.sramError_weighIn (d : Dev) (hlive : d.live = true) :
    d.sramError 6 = d.tarStopped.report 0x0F13 (sramSource 6).2 (sramSource 6).1 6 := by
  unfold Dev.sramError Dev.tarStopped
  simp only [hlive, decide_true, Bool.and_self, if_true]

section
variable {s : State}

theorem coreWatchdogExpiry_reports (core : Fin 5) (hlive : s.dev.live = true) :
    Does (.coreWatchdogExpiry core) s fatalParts (fun d => Reported 4 s.dev d ∧ (core.val = 4 → d.glb.tarRuns = false)) := by
  have hruns : Runs (.coreWatchdogExpiry core) s (s.dev.watchdog core) := rfl
  by_cases hcore : core.val = 4
  · rw [hcore, Dev.watchdog_weighIn _ hlive] at hruns
    obtain ⟨b, hb⟩ := s.dev.tarStopped.fault_glb 0x0F11 0xB 4 0 false
    exact .of hruns ((Dev.fault_evolves ..).after s.dev.tarStopped_evolves.mono).keeps
      ⟨(Dev.reported_fault ..).after_writes s.dev.tarStopped_writes, fun _ => by rw [hb, Dev.tarStopped_glb]⟩
  · simp only [Dev.watchdog, hlive, Bool.not_true, Bool.false_eq_true, if_false, if_neg hcore] at hruns
    exact .of hruns ((Dev.fault_evolves ..).after (Dev.wr_evolves ..).mono).keeps
      ⟨(Dev.reported_fault ..).after_writes (Writes.wr F.COX_STS_RUN ..), fun h => absurd h hcore⟩

theorem sramEccUncorrected_reports (array : Fin 6) (hlive : s.dev.live = true) :
    Does (.sramEccUncorrected array) s fatalParts (fun d =>
      Reported (sramSource (array.val + 1)).1 s.dev d ∧ (array.val = 5 → d.glb.tarRuns = false)) := by
  have hruns : Runs (.sramEccUncorrected array) s (s.dev.sramError (array + 1)) := rfl
  by_cases harray : array.val = 5
  · have h6 : array.val + 1 = 6 := by omega
    have hlive' : s.dev.tarStopped.live = true := (Dev.live_congr (by rw [Dev.tarStopped_glb])).trans hlive
    rw [h6, Dev.sramError_weighIn _ hlive, Dev.report, if_pos hlive'] at hruns
    obtain ⟨b, hb⟩ := s.dev.tarStopped.fault_glb 0x0F13 (sramSource 6).2 (sramSource 6).1 6 false
    rw [h6]
    exact .of hruns ((Dev.fault_evolves ..).after s.dev.tarStopped_evolves.mono).keeps
      ⟨(Dev.reported_fault ..).after_writes s.dev.tarStopped_writes, fun _ => by rw [hb, Dev.tarStopped_glb]⟩
  · have h6 : ¬ (array.val + 1 = 6) := by omega
    simp only [Dev.sramError, h6, decide_false, Bool.and_false, Bool.false_eq_true, if_false, Dev.report, hlive, if_true] at hruns
    exact .of hruns (Dev.fault_evolves ..).into ⟨Dev.reported_fault .., fun h => absurd h harray⟩

theorem lpddr5EccUncorrected_reports (region : Fin 7) (item : Option (Fin 256 × Nat)) (hlive : s.dev.live = true) :
    Does (.lpddr5EccUncorrected region item) s fatalParts (fun d => Reported (if region.val = 1 then 4 else 3) s.dev d) := by
  have hruns : Runs (.lpddr5EccUncorrected region item) s (s.dev.dramError (region + 1) (item.map fun i => (i.1.val, i.2))) := rfl
  have hcls : (if region.val + 1 = 2 then 4 else 3) = (if region.val = 1 then 4 else 3) := by simp
  have hafter (x : Dev) (hx : Evolves [.lne, .regs] s.dev x) (hw : Writes [F.LNE_ECC_DROP] s.dev x)
      (hr : Runs (.lpddr5EccUncorrected region item) s (x.report 0x0F14 0xD (if region.val + 1 = 2 then 4 else 3) (region + 1))) :
      Does (.lpddr5EccUncorrected region item) s fatalParts (fun d => Reported (if region.val = 1 then 4 else 3) s.dev d) := by
    have hl : x.live = true := by
      unfold Dev.live
      rw [hx.keeps .glb (by decide)]
      exact hlive
    simp only [Dev.report, hl, if_true] at hr
    refine .of hr ((Dev.fault_evolves ..).after hx.mono).keeps ?_
    rw [← hcls]
    exact (Dev.reported_fault ..).after_writes hw
  cases item with
  | none => exact hafter _ .refl .refl hruns
  | some i =>
    simp only [Dev.dramError, Option.map_some] at hruns
    split at hruns
    · exact hafter _ (Dev.ringLose_evolves ..).mono (Dev.ringLose_writes ..) hruns
    · exact hafter _ .refl .refl hruns

theorem emramEccUncorrected_reports (area : Fin 5) (hlive : s.dev.live = true) :
    Does (.emramEccUncorrected area) s reportParts (fun d => Reported 3 s.dev d) := by
  have hruns : Runs (.emramEccUncorrected area) s (s.dev.report 0x0F15 (emramBlock (area + 1)) 3 (area + 1)) := rfl
  simp only [Dev.report, hlive, if_true] at hruns
  exact .of hruns (Dev.fault_reporting _ _ _ _ _ _ (by decide)).keeps (Dev.reported_fault ..)

theorem billingAccessRefused_reports (initiator : Fin 3) (hlive : s.dev.live = true) :
    Does (.billingAccessRefused initiator) s fatalParts (fun d => Reported 4 s.dev d) := by
  have hruns : Runs (.billingAccessRefused initiator) s (s.dev.report 0x0F16 0xD 4 (initiator + 1)) := rfl
  simp only [Dev.report, hlive, if_true] at hruns
  exact .of hruns (Dev.fault_evolves ..).into (Dev.reported_fault ..)

theorem pllLockLoss_reports (mem : Bool) (hlive : s.dev.live = true) :
    Does (.pllLockLoss mem) s fatalParts (fun d => Reported 4 s.dev d ∧ d.on F.GLB_CLK_STS_LOSS_SEEN = true) := by
  have hruns : Runs (.pllLockLoss mem) s (s.dev.pllLoss mem) := rfl
  simp only [Dev.pllLoss, hlive, Bool.not_true, Bool.false_eq_true, if_false] at hruns
  have hlock : Writes [F.GLB_CLK_STS_MEM_LOCK, F.GLB_CLK_STS_MAIN_LOCK] s.dev
      (s.dev.wrb (if mem then F.GLB_CLK_STS_MEM_LOCK else F.GLB_CLK_STS_MAIN_LOCK) 0 false) := by
    split <;> exact (Writes.wrb ..).mono
  refine .of hruns ((Dev.fault_evolves ..).after <| (Dev.wrb_evolves ..).after (Dev.wrb_evolves ..).mono).keeps ⟨(Dev.reported_fault ..).after_writes
    (fs := [F.GLB_CLK_STS_MEM_LOCK, F.GLB_CLK_STS_MAIN_LOCK, F.GLB_CLK_STS_LOSS_SEEN]) ((Writes.wrb ..).after hlock.mono), ?_⟩
  exact (Dev.fault_writes ..).on F.GLB_CLK_STS_LOSS_SEEN |>.trans (Dev.on_wrb _ _ _ _ (by decide) rfl)

/-- The registers of the junction temperature after a sample (R663). -/
def Dev.showTemp (d : Dev) (t : Int) : Dev :=
  (((d.setTemp t).wr F.PWR_TEMP_TJ 0 (unsigned 8 (clampInt (-128) 127 t))).wr F.PWR_TEMP_TJ_MAX 0
    (unsigned 8 (max (clampInt (-128) 127 t) ((d.setTemp t).rdS F.PWR_TEMP_TJ_MAX)))).wr F.PWR_TEMP_TJ_MIN 0
      (unsigned 8 (min (clampInt (-128) 127 t) ((d.setTemp t).rdS F.PWR_TEMP_TJ_MIN)))

theorem Dev.showTemp_evolves (d : Dev) (t : Int) : Evolves [.glb, .regs] d (d.showTemp t) :=
  (Dev.wr_evolves ..).after <| (Dev.wr_evolves ..).after <| (Dev.wr_evolves ..).after (Dev.setTemp_evolves ..).mono

theorem Dev.showTemp_writes (d : Dev) (t : Int) : Writes [F.PWR_TEMP_TJ, F.PWR_TEMP_TJ_MAX, F.PWR_TEMP_TJ_MIN] d (d.showTemp t) :=
  (Writes.wr ..).after <| (Writes.wr ..).after <| (Writes.wr ..).after (Dev.setTemp_evolves ..).quiet.mono

theorem Dev.showTemp_glb (d : Dev) (t : Int) :
    (d.showTemp t).glb = { d.glb with temp := t, tempMin := min d.glb.tempMin t, tempMax := max d.glb.tempMax t } := rfl

theorem Dev.junction_eq (d : Dev) (t : Int) : d.junction t =
    if decide (d.glb.temp ≤ 135) && decide (135 < t) then
      (if decide (d.glb.temp ≤ 125) && decide (125 < t) then (d.showTemp t).report 0x0F17 0x13 3 1 else d.showTemp t).report 0x0F17 0x13 4 2
    else if decide (d.glb.temp ≤ 125) && decide (125 < t) then (d.showTemp t).report 0x0F17 0x13 3 1 else d.showTemp t := rfl

theorem junctionOvertemp_reports (tj : Int) (hlive : s.dev.live = true) :
    Does (.junctionOvertemp tj) s fatalParts (fun d => d.glb.temp = tj
      ∧ (s.dev.glb.temp ≤ 125 ∧ 125 < tj → Reported 3 s.dev d) ∧ (s.dev.glb.temp ≤ 135 ∧ 135 < tj → Reported 4 s.dev d)) := by
  have hruns : Runs (.junctionOvertemp tj) s (s.dev.junction tj) := rfl
  rw [Dev.junction_eq] at hruns
  have hev := s.dev.showTemp_evolves tj
  have hw := s.dev.showTemp_writes tj
  have hglb := s.dev.showTemp_glb tj
  generalize s.dev.showTemp tj = d1 at hruns hev hw hglb
  have hlive1 : d1.live = true := by
    unfold Dev.live
    rw [hglb]
    exact hlive
  have hrep (x : Dev) (code src cls detail : Nat) (hx : x.live = true) : x.report code src cls detail = x.fault code src cls detail := by
    simp only [Dev.report, hx, if_true]
  obtain ⟨b3, hb3⟩ := d1.fault_glb 0x0F17 0x13 3 1 false
  have hlive3 : (d1.fault 0x0F17 0x13 3 1).live = true := by
    unfold Dev.live
    rw [hb3]
    exact hlive1
  simp only [hrep _ _ _ _ _ hlive1] at hruns
  by_cases hwarm : s.dev.glb.temp ≤ 125 ∧ 125 < tj
  · simp only [hwarm.1, hwarm.2, decide_true, Bool.and_self, if_true, hrep _ _ _ _ _ hlive3] at hruns
    by_cases hhot : s.dev.glb.temp ≤ 135 ∧ 135 < tj
    · simp only [hhot.1, hhot.2, decide_true, Bool.and_self, if_true] at hruns
      obtain ⟨b4, hb4⟩ := (d1.fault 0x0F17 0x13 3 1).fault_glb 0x0F17 0x13 4 2 false
      refine .of hruns ((Dev.fault_evolves ..).after <| (Dev.fault_evolves ..).after hev.mono).keeps ⟨by rw [hb4, hb3, hglb], fun _ => ?_, fun _ => ?_⟩
      · refine ⟨fun h => absurd h (by decide), fun _ => ?_, fun h => absurd h (by decide), fun h => absurd h (by decide)⟩
        exact (Dev.fault_holdsDegraded ..).latch (d1.fault_degraded ..)
      · refine ⟨fun _ => Dev.fault_isSafe .., fun h => absurd h (by decide), fun h => absurd h (by decide), fun h => absurd h (by decide)⟩
    · have hcold : (decide (s.dev.glb.temp ≤ 135) && decide (135 < tj)) = false := by simpa using hhot
      simp only [hcold, Bool.false_eq_true, if_false] at hruns
      exact .of hruns ((Dev.fault_evolves ..).after hev.mono).keeps
        ⟨by rw [hb3, hglb], fun _ => (Dev.reported_fault ..).after_writes hw, fun h => absurd h hhot⟩
  · have hcool : (decide (s.dev.glb.temp ≤ 125) && decide (125 < tj)) = false := by simpa using hwarm
    simp only [hcool, Bool.false_eq_true, if_false, hrep _ _ _ _ _ hlive1] at hruns
    by_cases hhot : s.dev.glb.temp ≤ 135 ∧ 135 < tj
    · simp only [hhot.1, hhot.2, decide_true, Bool.and_self, if_true] at hruns
      obtain ⟨b4, hb4⟩ := d1.fault_glb 0x0F17 0x13 4 2 false
      exact .of hruns ((Dev.fault_evolves ..).after hev.mono).keeps
        ⟨by rw [hb4, hglb], fun h => absurd h hwarm, fun _ => (Dev.reported_fault ..).after_writes hw⟩
    · have hcold : (decide (s.dev.glb.temp ≤ 135) && decide (135 < tj)) = false := by simpa using hhot
      simp only [hcold, Bool.false_eq_true, if_false] at hruns
      exact .of hruns hev.into ⟨by rw [hglb], fun h => absurd h hwarm, fun h => absurd h hhot⟩

end

/-- The device that holds FAULT_N for a self fault (R558). -/
def Dev.heldFault (d : Dev) : Dev := { d with freeCtr := d.freeCtr + 1, glb := { d.glb with faultHeld := true } }

/-- The latches of a self fault in the safe state. -/
def Dev.selfLatched (d : Dev) : Dev := (d.enterSafe.wrb F.FLT_STS_SELF 0 true).wrb F.FLT_STS_FATAL 0 true

/-- What a self fault records, posts and fires. -/
def Dev.selfNoted (d : Dev) (reg n : Nat) : Dev :=
  let d2 : Dev := { d with flt := { d.flt with autoRst := if reg = 0 then 30 else d.flt.autoRst } }
  let sd := fun k => (Config.sourceData n k).toNat
  let d3 := d2.record 0x0F18 0xF 4 reg (sd 4) (sd 5) (sd 6)
  let d4 := d3.post 6 0x0F18 4 0xF 0 (sd 4) (sd 5) (sd 6)
  if d4.on F.RNG_FAULT_VEC_EN then d4.fire (d4.rd F.RNG_FAULT_VEC_VEC) else d4

theorem Dev.selfFault_eq (d : Dev) (reg : Nat) : d.selfFault reg =
    if !d.live then d else if d.isSafe then d.heldFault.selfLatched.selfNoted reg d.freeCtr else (d.heldFault.selfLatched.selfNoted reg d.freeCtr).commit := rfl

theorem Dev.heldFault_glb (d : Dev) : d.heldFault.glb = { d.glb with faultHeld := true } := rfl

theorem Dev.selfLatched_glb (d : Dev) : d.selfLatched.glb = d.glb := by
  unfold Dev.selfLatched
  rw [Dev.wrb_glb, Dev.wrb_glb]
  exact (Dev.enterSafe_evolves d).keeps .glb (by decide)

theorem Dev.selfLatched_isSafe (d : Dev) : d.selfLatched.isSafe = true := by
  unfold Dev.selfLatched
  exact ((Writes.wrb F.FLT_STS_FATAL 0 true).isSafe.trans (Writes.wrb F.FLT_STS_SELF 0 true).isSafe).trans d.enterSafe_isSafe

theorem Dev.selfLatched_self (d : Dev) : d.selfLatched.on F.FLT_STS_SELF = true := by
  unfold Dev.selfLatched
  exact ((Writes.wrb F.FLT_STS_FATAL 0 true).on F.FLT_STS_SELF).trans (Dev.on_wrb _ _ _ _ (by decide) rfl)

theorem Dev.selfNoted_writes (d : Dev) (reg n : Nat) : Writes eventFields d (d.selfNoted reg n) := by
  unfold Dev.selfNoted
  extract_lets _ d2 sd d3 d4
  have h4 : Writes eventFields d d4 := (Dev.post_writes ..).after <| (Dev.record_writes ..).after Evolves.flt.quiet.mono
  exact .ite ((Dev.fire_evolves ..).quiet.after h4) h4

theorem Dev.selfNoted_evolves (d : Dev) (reg n : Nat) : Evolves reportParts d (d.selfNoted reg n) := by
  unfold Dev.selfNoted
  extract_lets _ d2 sd d3 d4
  have h4 : Evolves reportParts d d4 := (Dev.post_evolves ..).after <| (Dev.record_evolves ..).after Evolves.flt.mono
  exact .ite ((Dev.fire_evolves ..).after h4) h4

/-- What the collector shows of a self fault stays through the record, the event and the commit. -/
theorem fltSelfFault_reports {s : State} (reg : BitVec 16) (hlive : s.dev.live = true) :
    Does (.fltSelfFault reg) s fatalParts (fun d => Reported 4 s.dev d ∧ d.glb.faultHeld = true ∧ d.on F.FLT_STS_SELF = true) := by
  have hruns : Runs (.fltSelfFault reg) s (s.dev.selfFault reg.toNat) := rfl
  have hself : Keeps fatalParts s.dev (s.dev.selfFault reg.toNat) := (Dev.selfFault_evolves ..).into
  have hglb1 : s.dev.heldFault.selfLatched.glb = { s.dev.glb with faultHeld := true } :=
    s.dev.heldFault.selfLatched_glb.trans s.dev.heldFault_glb
  have hsafe1 := s.dev.heldFault.selfLatched_isSafe
  have hself1 := s.dev.heldFault.selfLatched_self
  simp only [Dev.selfFault_eq, hlive, Bool.not_true, Bool.false_eq_true, if_false] at hruns hself
  generalize s.dev.heldFault.selfLatched = d1 at hruns hself hglb1 hsafe1 hself1
  have hw := d1.selfNoted_writes reg.toNat s.dev.freeCtr
  have hglb := (d1.selfNoted_evolves reg.toNat s.dev.freeCtr).keeps .glb (by decide)
  generalize d1.selfNoted reg.toNat s.dev.freeCtr = d5 at hruns hself hw hglb
  have h5 : d5.isSafe = true ∧ d5.glb.faultHeld = true ∧ d5.on F.FLT_STS_SELF = true :=
    ⟨hw.isSafe.trans hsafe1, by rw [hglb, hglb1], (hw.on F.FLT_STS_SELF).trans hself1⟩
  have hpost (x : Dev) (hx : x.isSafe = true ∧ x.glb.faultHeld = true ∧ x.on F.FLT_STS_SELF = true) :
      Reported 4 s.dev x ∧ x.glb.faultHeld = true ∧ x.on F.FLT_STS_SELF = true :=
    ⟨⟨fun _ => hx.1, fun h => absurd h (by decide), fun h => absurd h (by decide), fun h => absurd h (by decide)⟩, hx.2⟩
  split at hruns
  · next hsafe =>
    rw [if_pos hsafe] at hself
    exact .of hruns hself (hpost _ h5)
  · next hsafe =>
    rw [if_neg hsafe] at hself
    obtain ⟨hs5, hh5, ho5⟩ := h5
    have hglb6 := (Dev.commit_evolves d5).keeps .glb (by decide)
    exact .of hruns hself (hpost _ ⟨(Dev.commit_writes d5).isSafe.trans hs5, by rw [hglb6, hh5], ((Dev.commit_writes d5).on F.FLT_STS_SELF).trans ho5⟩)

/-- Settles O15, one source after the other. -/
theorem errorSources : Obligations.ErrorSources :=
  ⟨fun _ core => coreWatchdogExpiry_reports core, fun _ array => sramEccUncorrected_reports array,
    fun _ region item => lpddr5EccUncorrected_reports region item, fun _ area => emramEccUncorrected_reports area,
    fun _ initiator => billingAccessRefused_reports initiator, fun _ tj => junctionOvertemp_reports tj,
    fun _ mem => pllLockLoss_reports mem, fun _ reg => fltSelfFault_reports reg⟩

end Sys2Proof.Machine
end

section

-- one proof after the other: the check gives the text few threads
set_option Elab.async false

namespace Sys2Proof.Machine

/-! ## O16: the Fault collector -/

theorem Dev.cycleReq_requests (d : Dev) (why : Nat) : (d.cycleReq why).on F.FLT_STS_CYC_REQ = true := by
  unfold Dev.cycleReq
  split
  · assumption
  · extract_lets d1
    have hset : (d1.wrb F.FLT_STS_CYC_REQ 0 true).on F.FLT_STS_CYC_REQ = true := Dev.on_wrb _ _ _ _ (by decide) rfl
    exact (Evolves.glb.quiet.on F.FLT_STS_CYC_REQ).trans hset

section
variable {s : State}

theorem faultPulseEnd_ends {t : Nat} (ht : s.dev.flt.pulseEnd = some t) :
    Does .faultPulseEnd s [.tim, .evr, .flt, .regs] (fun d => d.on F.FLT_STS_PULSE = false ∧ d.flt.pulseEnd = none ∧ t ≤ d.tim.mono) := by
  have hruns : Runs .faultPulseEnd s (match s.dev.flt.pulseEnd with
      | none => s.dev
      | some t => { (s.dev.toMono t).wrb F.FLT_STS_PULSE 0 false with
          flt := { ((s.dev.toMono t).wrb F.FLT_STS_PULSE 0 false).flt with pulseEnd := none } }) := rfl
  simp only [ht] at hruns
  have hon : ((s.dev.toMono t).wrb F.FLT_STS_PULSE 0 false).on F.FLT_STS_PULSE = false := Dev.on_wrb _ _ _ _ (by decide) rfl
  have hmono : t ≤ ((s.dev.toMono t).wrb F.FLT_STS_PULSE 0 false).tim.mono := by
    rw [Dev.wrb_tim, Dev.toMono_mono]
    exact Nat.le_max_right _ _
  have hkeeps : Evolves [.tim, .evr, .flt, .regs] s.dev ((s.dev.toMono t).wrb F.FLT_STS_PULSE 0 false) :=
    (Dev.wrb_evolves ..).after (Dev.toMono_evolves ..).mono
  generalize (s.dev.toMono t).wrb F.FLT_STS_PULSE 0 false = d1 at hruns hon hmono hkeeps
  exact .of hruns (Evolves.flt.after hkeeps).keeps ⟨(Evolves.flt.quiet.on F.FLT_STS_PULSE).trans hon, rfl, hmono⟩

theorem pwrCycleRequest_requests {val : Word} (hlive : s.dev.live = true) (hself : s.dev.on F.FLT_STS_SELF = false)
    (hkey : F.FLT_PIN_CTRL_KEY.get val.toNat = 0xF1C7) (hreq : F.FLT_PIN_CTRL_CYC_REQ.get val.toNat = 1) :
    Does (.pwrCycleRequest val) s fatalParts (fun d => d.isSafe = true ∧ d.on F.FLT_STS_CYC_REQ = true) := by
  have hruns : Runs (.pwrCycleRequest val) s (s.dev.pinCtrl val.toNat) := rfl
  have hkeeps : Keeps fatalParts s.dev (s.dev.pinCtrl val.toNat) := (Dev.pinCtrl_evolves ..).into
  simp only [Dev.pinCtrl, hlive, hself, Bool.not_true, Bool.or_self, Bool.false_eq_true, if_false, hkey, hreq, and_self, if_true] at hruns hkeeps
  have hsafe : (if (s.dev.wr F.FLT_PIN_CTRL_DRIVE 0 (val.toNat % 2)).isSafe then s.dev.wr F.FLT_PIN_CTRL_DRIVE 0 (val.toNat % 2)
      else (s.dev.wr F.FLT_PIN_CTRL_DRIVE 0 (val.toNat % 2)).enterSafe.commit).isSafe = true := by
    split
    · assumption
    · exact (Dev.commit_writes ..).isSafe.trans (Dev.enterSafe_isSafe _)
  generalize (if (s.dev.wr F.FLT_PIN_CTRL_DRIVE 0 (val.toNat % 2)).isSafe then s.dev.wr F.FLT_PIN_CTRL_DRIVE 0 (val.toNat % 2)
      else (s.dev.wr F.FLT_PIN_CTRL_DRIVE 0 (val.toNat % 2)).enterSafe.commit) = d1 at hruns hkeeps hsafe
  exact .of hruns hkeeps ⟨(Dev.cycleReq_writes ..).isSafe.trans hsafe, d1.cycleReq_requests 2⟩

theorem faultNDrive_drives {val : Word} (hlive : s.dev.live = true) (hself : s.dev.on F.FLT_STS_SELF = false)
    (hreq : ¬ (F.FLT_PIN_CTRL_KEY.get val.toNat = 0xF1C7 ∧ F.FLT_PIN_CTRL_CYC_REQ.get val.toNat = 1)) :
    Does (.faultNDrive val) s [.regs] (fun d => d.rd F.FLT_PIN_CTRL_DRIVE = val.toNat % 2 ∧ KeepsRegs [0xF0008] s.dev d) := by
  have hruns : Runs (.faultNDrive val) s (s.dev.pinCtrl val.toNat) := rfl
  simp only [Dev.pinCtrl, hlive, hself, Bool.not_true, Bool.or_self, Bool.false_eq_true, if_false, if_neg hreq] at hruns
  refine .of hruns (Dev.wr_evolves ..).keeps ⟨?_, keepsRegs_wr (f := F.FLT_PIN_CTRL_DRIVE) (i := 0)⟩
  rw [Dev.rd_wr _ _ _ _ (by decide)]
  exact Nat.mod_mod ..

theorem degradedClear_clears {val : Word} (hlive : s.dev.live = true) (hval : F.FLT_STS_DEGRADED.get val.toNat = 1)
    (hholds : s.dev.degradedHolds = false) :
    Does (.degradedClear val) s [.regs] (fun d => d.on F.FLT_STS_DEGRADED = false ∧ d.on F.FLT_STS_SAFE = s.dev.on F.FLT_STS_SAFE) := by
  have hruns : Runs (.degradedClear val) s (s.dev.wrb F.FLT_STS_DEGRADED 0 false) := by
    simp [Runs, exec, execDegradedClear, State.go, State.withDev, Dev.degradedClear, hlive, hval, hholds]
  exact .of hruns (Dev.wrb_evolves ..).keeps ⟨Dev.on_wrb _ _ _ _ (by decide) rfl, (Writes.wrb ..).on F.FLT_STS_SAFE⟩

theorem fltCounterClear_clears (counter : Fin 5) (val : Word) (hlive : s.dev.live = true) :
    Does (.fltCounterClear counter val) s [.regs] (fun d =>
      d.word (0xF0020 + 4 * counter.val) = 0 ∧ KeepsRegs [0xF0020 + 4 * counter.val] s.dev d) := by
  have hruns : Runs (.fltCounterClear counter val) s (s.dev.setWord (0xF0020 + 4 * counter) 0) := by
    simp [Runs, exec, execFltCounterClear, State.go, State.withDev, hlive]
  exact .of hruns (Dev.setWord_evolves ..).keeps ⟨Dev.word_setWord .., keepsRegs_setWord⟩

theorem faultHist_answers {pair : Fin 64} {h : Held} (htakes : s.takes pair 0x92 h) (hlen : 256 ≤ bufLen h.desc) :
    Completes (.faultHist pair) s pair h [s.dev.flt.hist.length] [.out] (fun d =>
      d.out = .hostWrite (bufAddr h.desc) ((s.dev.flt.hist.flatMap (fun e => wordsBytes e.words)).take (bufLen h.desc)) :: s.dev.out) := by
  have hruns : Runs (.faultHist pair) s
      ((s.dev.writeBuf h.desc (s.dev.flt.hist.flatMap (fun e => wordsBytes e.words))).complete pair h.id 0 0 [s.dev.flt.hist.length]) := by
    simp [Runs, exec, execFaultHist, State.go, State.withDev, htakes.onDesc_eq, Nat.not_lt.2 hlen]
  exact .intro hruns (Dev.writeBuf_evolves ..).into ((Dev.complete_evolves ..).keeps .out (by decide))

theorem faultHistSnapshotRead_copies {x : Hist} (hlive : s.dev.live = true) (hx : s.dev.flt.hist[s.dev.rd F.FLT_HIST_SEL_INDEX]? = some x) :
    Does .faultHistSnapshotRead s [.flt, .out] (fun d =>
      d.flt = { s.dev.flt with histCopy := x.words.map (BitVec.ofNat 32) } ∧ d.out = .readData (x.words.getD 0 0) :: s.dev.out) := by
  have hruns : Runs .faultHistSnapshotRead s
      (({ s.dev with flt := { s.dev.flt with histCopy := x.words.map (BitVec.ofNat 32) } } : Dev).emit (.readData (x.words.getD 0 0))) := by
    simp [Runs, exec, execFaultHistSnapshotRead, State.go, State.withDev, hlive, hx]
  exact .of hruns ((Dev.emit_evolves ..).after Evolves.flt.mono).keeps ⟨rfl, rfl⟩

end

/-- Settles O16, one command after the other. -/
theorem faultCollector : Obligations.FaultCollector :=
  ⟨fun _ _ => faultPulseEnd_ends, fun _ _ => pwrCycleRequest_requests, fun _ _ => faultNDrive_drives, fun _ _ => degradedClear_clears,
    fun _ counter val => fltCounterClear_clears counter val, fun _ _ _ => faultHist_answers, fun _ _ => faultHistSnapshotRead_copies⟩

end Sys2Proof.Machine
end

section

-- one proof after the other: the check gives the text few threads
set_option Elab.async false

namespace Sys2Proof.Machine

/-! ## O18: the Media manager -/

/-- From the first device to the second, of the media at most the marks of its state change, beside what a report changes. -/
structure MediaMarks (d e : Dev) : Prop where
  keeps : Keeps (.ftl :: reportParts) d e
  ftl : e.ftl = { d.ftl with state := e.ftl.state, warned := e.ftl.warned, retHour := e.ftl.retHour }
  lane : ∀ q, q ≠ 13 → e.lane q = d.lane q
  writes : Writes faultFields d e

namespace MediaMarks

variable {d e x : Dev}

theorem refl : MediaMarks d d := ⟨.refl _ d, rfl, fun _ _ => rfl, .refl⟩

theorem trans (h1 : MediaMarks d e) (h2 : MediaMarks e x) : MediaMarks d x :=
  ⟨h1.keeps.trans h2.keeps, by rw [h2.ftl, h1.ftl], fun q hq => (h2.lane q hq).trans (h1.lane q hq), h1.writes.trans h2.writes⟩

theorem ite {c : Prop} [Decidable c] (h1 : MediaMarks d e) (h2 : MediaMarks d x) : MediaMarks d (if c then e else x) := by split <;> assumption

/-- A report leaves the media as it is. -/
theorem of_reporting {offs : List Nat} (h : Reporting offs [13] d e) (hw : Writes faultFields d e) : MediaMarks d e :=
  ⟨h.keeps.mono (by decide), by rw [h.keeps .ftl (by decide)], fun q hq => h.lane q (by simpa using hq), hw⟩

theorem marks (st w : Nat) (r : Option Nat) : MediaMarks d { d with ftl := { d.ftl with state := st, warned := w, retHour := r } } :=
  ⟨Evolves.ftl.into, rfl, fun _ _ => rfl, Evolves.ftl.quiet.mono⟩

theorem map (h : MediaMarks d e) : e.ftl.map = d.ftl.map := by rw [h.ftl]

theorem slc (h : MediaMarks d e) : e.ftl.slc = d.ftl.slc := by rw [h.ftl]

theorem heads (h : MediaMarks d e) : e.ftl.heads = d.ftl.heads := by rw [h.ftl]

theorem eus (h : MediaMarks d e) : e.ftl.eus = d.ftl.eus := by rw [h.ftl]

theorem eu (h : MediaMarks d e) (i : Nat) : e.ftl.eu i = d.ftl.eu i := by
  rw [h.ftl]
  rfl

end MediaMarks

theorem Dev.recordPost_marks (d : Dev) (cls code sev src target w3 w4 w5 w6 : Nat) : MediaMarks d (d.recordPost cls code sev src target w3 w4 w5 w6) :=
  .of_reporting (Dev.recordPost_reporting ..) (Dev.recordPost_writes ..).mono

theorem Dev.record_marks (d : Dev) (code src sev w3 w4 w5 w6 : Nat) (df : Bool) : MediaMarks d (d.record code src sev w3 w4 w5 w6 df) :=
  .of_reporting (Dev.record_reporting ..) (Dev.record_writes ..).mono

theorem Dev.mediaState_marks (d : Dev) : MediaMarks d d.mediaState := by
  unfold Dev.mediaState
  extract_lets w
  exact .ite ((MediaMarks.marks 1 w d.ftl.retHour).trans (Dev.recordPost_marks ..)) (.ite (.marks 0 0 d.ftl.retHour) .refl)

/-! ### Units that fail, are erased, are released -/

@[simp] theorem Ftl.eu_setEu (f : Ftl) (i : Nat) (e : Eu) : (f.setEu i e).eu i = e := by simp [Ftl.eu, Ftl.setEu, Tab.getD]

/-- From the first device to the second, LUs, cache, open LUs and copies of the media are as before, beside what a report changes. -/
structure KeepsLus (d e : Dev) : Prop where
  keeps : Keeps (.ftl :: reportParts) d e
  map : e.ftl.map = d.ftl.map
  slc : e.ftl.slc = d.ftl.slc
  heads : e.ftl.heads = d.ftl.heads
  copies : e.ftl.copies = d.ftl.copies

namespace KeepsLus

variable {d e x : Dev}

theorem refl : KeepsLus d d := ⟨.refl _ d, rfl, rfl, rfl, rfl⟩

theorem trans (h1 : KeepsLus d e) (h2 : KeepsLus e x) : KeepsLus d x :=
  ⟨h1.keeps.trans h2.keeps, h2.map.trans h1.map, h2.slc.trans h1.slc, h2.heads.trans h1.heads, h2.copies.trans h1.copies⟩

theorem after (h2 : KeepsLus e x) (h1 : KeepsLus d e) : KeepsLus d x := h1.trans h2

theorem ite {c : Prop} [Decidable c] (h1 : KeepsLus d e) (h2 : KeepsLus d x) : KeepsLus d (if c then e else x) := by split <;> assumption

theorem foldl {α : Type} {g : Dev → α → Dev} {l : List α} (hg : ∀ y a, KeepsLus y (g y a)) (h : KeepsLus d e) : KeepsLus d (l.foldl g e) := by
  induction l generalizing e with
  | nil => exact h
  | cons a t ih => exact ih (h.trans (hg e a))

theorem ftl (f : Ftl) (hmap : f.map = d.ftl.map) (hslc : f.slc = d.ftl.slc) (hheads : f.heads = d.ftl.heads) (hcopies : f.copies = d.ftl.copies) :
    KeepsLus d { d with ftl := f } := ⟨Evolves.ftl.into, hmap, hslc, hheads, hcopies⟩

end KeepsLus

theorem MediaMarks.keepsLus {d e : Dev} (h : MediaMarks d e) : KeepsLus d e := ⟨h.keeps, h.map, h.slc, h.heads, by rw [h.ftl]⟩

theorem Dev.fault_marks (d : Dev) (code src detail : Nat) : MediaMarks d (d.fault code src 3 detail) :=
  .of_reporting (Dev.fault_reporting _ _ _ _ _ _ (by decide)) (Dev.fault_writes_below _ _ _ _ _ _ (by decide))

/-- A register of the media is counted up. -/
theorem KeepsLus.bump {d : Dev} (x : F) : KeepsLus d (d.bump x) := ⟨(Dev.bump_evolves ..).into, rfl, rfl, rfl, rfl⟩

/-- The unit marked as retired, counted, and its channel's count (R514). -/
def Dev.unitRetired (d : Dev) (e : Nat) : Dev :=
  ({ d with ftl := { (d.ftl.setEu e { d.ftl.eu e with st := 4 }) with
      spareLeft := d.ftl.spareLeft - 1
      resShort := d.ftl.resShort || ((d.ftl.eu e).st = 5 && d.ftl.spareLeft = 0 && d.ftl.freeCount = 0)
      chRetired := d.ftl.chRetired.put (d.ftl.eu e).channel (d.ftl.chRetired.getD (d.ftl.eu e).channel 0 + 1) } } : Dev).bump F.FTL_RETIRED

/-- The record of a retirement, one an hour. -/
def Dev.retireNoted (d : Dev) (e reason : Nat) : Dev :=
  if d.ftl.retHour = some (d.evr.optime / 3600) then d
  else ({ d with ftl := { d.ftl with retHour := some (d.evr.optime / 3600) } } : Dev).record 0x0D87 0xC 1 e reason

/-- A unit of the legal reserve is replaced by a free one. -/
def Dev.reserveFilled (d : Dev) (legal : Bool) : Dev :=
  if legal && !d.ftl.resShort then
    (match d.ftl.freeEu d.euUsable false with
     | some n => { d with ftl := d.ftl.setEu n { d.ftl.eu n with st := 5 } }
     | none => d)
  else d

theorem Dev.retireEu_eq (d : Dev) (e reason : Nat) : d.retireEu e reason =
    if (((d.unitRetired e).retireNoted e reason).reserveFilled ((d.ftl.eu e).st = 5)).ftl.resShort ∧ ¬ d.ftl.resShort then
      ((((d.unitRetired e).retireNoted e reason).reserveFilled ((d.ftl.eu e).st = 5)).fault 0x0F1C 0xC 3 0).mediaState
    else (((d.unitRetired e).retireNoted e reason).reserveFilled ((d.ftl.eu e).st = 5)).mediaState := rfl

theorem Dev.unitRetired_keepsLus (d : Dev) (e : Nat) : KeepsLus d (d.unitRetired e) := by
  unfold Dev.unitRetired
  exact (KeepsLus.bump _).after (.ftl _ rfl rfl rfl rfl)

theorem Dev.retireNoted_marks (d : Dev) (e reason : Nat) : MediaMarks d (d.retireNoted e reason) := by
  unfold Dev.retireNoted
  exact .ite .refl ((MediaMarks.marks d.ftl.state d.ftl.warned _).trans (Dev.record_marks ..))

theorem Dev.reserveFilled_keepsLus (d : Dev) (legal : Bool) : KeepsLus d (d.reserveFilled legal) := by
  unfold Dev.reserveFilled
  split
  · split
    · exact .ftl _ rfl rfl rfl rfl
    · exact .refl
  · exact .refl

theorem Dev.retireEu_keepsLus (d : Dev) (e reason : Nat) : KeepsLus d (d.retireEu e reason) := by
  have h : KeepsLus d (((d.unitRetired e).retireNoted e reason).reserveFilled ((d.ftl.eu e).st = 5)) :=
    ((d.unitRetired_keepsLus e).trans (Dev.retireNoted_marks ..).keepsLus).trans (Dev.reserveFilled_keepsLus ..)
  rw [Dev.retireEu_eq]
  generalize ((d.unitRetired e).retireNoted e reason).reserveFilled ((d.ftl.eu e).st = 5) = x at h ⊢
  exact .ite (h.trans ((Dev.fault_marks ..).trans (Dev.mediaState_marks _)).keepsLus) (h.trans x.mediaState_marks.keepsLus)

/-- What retiring a unit outside the legal reserve leaves. -/
theorem Dev.retireEu_user {d : Dev} {e reason : Nat} (hst : (d.ftl.eu e).st ≠ 5) :
    ((d.retireEu e reason).ftl.eu e).st = 4 ∧ (d.retireEu e reason).ftl.spareLeft = d.ftl.spareLeft - 1
      ∧ (d.retireEu e reason).rd F.FTL_RETIRED = min (d.rd F.FTL_RETIRED + 1) (2 ^ F.FTL_RETIRED.len - 1) := by
  have heu : (d.unitRetired e).ftl.eu e = { d.ftl.eu e with st := 4 } := Ftl.eu_setEu ..
  have hspare : (d.unitRetired e).ftl.spareLeft = d.ftl.spareLeft - 1 := rfl
  have hres : (d.unitRetired e).ftl.resShort = d.ftl.resShort := by
    unfold Dev.unitRetired
    simp [hst]
  have hcnt : (d.unitRetired e).rd F.FTL_RETIRED = min (d.rd F.FTL_RETIRED + 1) (2 ^ F.FTL_RETIRED.len - 1) := Dev.rd_bump _ _ _ _ (by decide)
  have hnoted := (d.unitRetired e).retireNoted_marks e reason
  rw [Dev.retireEu_eq]
  simp only [hst, decide_false, Dev.reserveFilled, Bool.false_and, Bool.false_eq_true, if_false]
  generalize d.unitRetired e = d1 at heu hspare hres hcnt hnoted ⊢
  have h2 : (d1.retireNoted e reason).ftl.resShort = d.ftl.resShort := by rw [hnoted.ftl, ← hres]
  rw [if_neg (by simp [h2])]
  have hall := hnoted.trans (d1.retireNoted e reason).mediaState_marks
  refine ⟨by rw [hall.eu, heu], by rw [hall.ftl, ← hspare], ?_⟩
  rw [hall.writes.rd_eq F.FTL_RETIRED, hcnt]

theorem Dev.eraseEu_keepsLus (d : Dev) (e : Nat) : KeepsLus d (d.eraseEu e) := by
  unfold Dev.eraseEu
  exact .ite ((Dev.retireEu_keepsLus ..).after (.ftl _ rfl rfl rfl rfl)) (.ftl _ rfl rfl rfl rfl)

theorem Dev.eraseEmpty_keepsLus (d : Dev) : KeepsLus d d.eraseEmpty := .foldl (fun y a => y.eraseEu_keepsLus a.1) .refl

/-! ### Release of what is old -/

/-- From the first device to the second no LU joins the media, beside what a report changes. -/
structure LusShrink (d e : Dev) : Prop where
  keeps : Keeps (.ftl :: reportParts) d e
  used : e.ftl.used ≤ d.ftl.used

theorem LusShrink.trans {d e x : Dev} (h1 : LusShrink d e) (h2 : LusShrink e x) : LusShrink d x :=
  ⟨h1.keeps.trans h2.keeps, h2.used.trans h1.used⟩

theorem Dev.releaseLus_keeps_map (d : Dev) (p : Nat → Lu → Bool) :
    Keeps (.ftl :: reportParts) d (d.releaseLus p) ∧ (d.releaseLus p).ftl.map = d.ftl.map.keep (fun k l => !p k l) := by
  unfold Dev.releaseLus
  extract_lets gone
  have h := Dev.eraseEmpty_keepsLus
    { d with ftl := { d.ftl with
        map := d.ftl.map.keep (fun k l => !p k l)
        slc := d.ftl.slc.filter (fun k => !gone.contains k)
        heads := d.ftl.heads.keep (fun _ h => !gone.contains h.1)
        eus := d.ftl.eus.mapVals (fun _ e => { e with lus := e.lus.filter (fun k => !gone.contains k) }) } }
  exact ⟨h.keeps.step (fun _ h => h) Evolves.ftl.into, h.map⟩

/-- A table that loses what a test picks has fewer entries where the test picks one. -/
theorem Tab.length_keep_lt {α : Type} {t : Tab α} {p : Nat → α → Bool} {e : Nat × α} (he : e ∈ t) (hp : p e.1 e.2 = false) :
    (t.keep p).length < t.length := by
  unfold Tab.keep
  exact List.length_filter_lt_length_iff_exists.2 ⟨e, he, by simp [hp]⟩

/-- The oldest log LU is one of the media's, old enough for release. -/
theorem Dev.oldestLog_mem {d : Dev} {l : Nat × Lu} (h : d.oldestLog = some l) :
    l ∈ d.ftl.map ∧ l.2.stream = 3 ∧ l.2.start < d.histLimit := by
  have hfold (ls : List (Nat × Lu)) (b : Option (Nat × Lu)) (hb : ∀ x, b = some x → x ∈ d.ftl.map ∧ x.2.stream = 3 ∧ x.2.start < d.histLimit)
      (hls : ∀ x ∈ ls, x ∈ d.ftl.map ∧ x.2.stream = 3 ∧ x.2.start < d.histLimit) (r : Nat × Lu)
      (hr : ls.foldl (fun (b : Option (Nat × Lu)) l => match b with | none => some l | some x => if l.2.start < x.2.start then some l else b) b = some r) :
      r ∈ d.ftl.map ∧ r.2.stream = 3 ∧ r.2.start < d.histLimit := by
    induction ls generalizing b with
    | nil => exact hb r hr
    | cons a t ih =>
      have ha := hls a (List.mem_cons_self ..)
      refine ih _ (fun x hx => ?_) (fun x hx => hls x (List.mem_cons_of_mem _ hx)) hr
      cases b with
      | none => exact Option.some.inj hx ▸ ha
      | some y =>
        dsimp only at hx
        split at hx
        · exact Option.some.inj hx ▸ ha
        · exact hb x hx
  refine hfold _ none (fun x hx => nomatch hx) (fun x hx => ?_) l h
  obtain ⟨hmem, hpick⟩ := List.mem_filter.1 hx
  simp only [Bool.and_eq_true, decide_eq_true_eq] at hpick
  exact ⟨hmem, hpick⟩

/-- A release of the oldest log LU takes one LU at least. -/
theorem Dev.releaseOldest_shrinks {d e : Dev} (h : d.releaseOldest = some e) :
    Keeps (.ftl :: reportParts) d e ∧ e.ftl.used < d.ftl.used := by
  unfold Dev.releaseOldest at h
  obtain ⟨l, hl, rfl⟩ := Option.map_eq_some_iff.1 h
  obtain ⟨hmem, hstream, hstart⟩ := Dev.oldestLog_mem hl
  obtain ⟨hkeeps, hmap⟩ := d.releaseLus_keeps_map (fun _ x => x.stream = 3 && x.eu = l.2.eu && x.start < d.histLimit)
  extract_lets d1
  refine ⟨Keeps.step Evolves.ftl.keeps (by decide) hkeeps, ?_⟩
  change d1.ftl.map.length < d.ftl.map.length
  unfold d1
  rw [hmap]
  exact Tab.length_keep_lt hmem (by simp [hstream, hstart])

theorem Dev.histAll_shrink (n : Nat) (d : Dev) : LusShrink d (Dev.histAll n d) := by
  induction n generalizing d with
  | zero => exact ⟨.refl _ d, le_rfl⟩
  | succ n ih =>
    unfold Dev.histAll
    split
    · exact ⟨.refl _ d, le_rfl⟩
    · split
      · next h =>
        obtain ⟨hkeeps, hused⟩ := Dev.releaseOldest_shrinks h
        exact LusShrink.trans ⟨hkeeps, hused.le⟩ (ih _)
      · exact ⟨.refl _ d, le_rfl⟩

/-- Where the history is over its fill and an LU is old enough, the release takes one at least. -/
theorem Dev.histAll_used_lt {n : Nat} {d : Dev} (hfill : d.rd F.FTL_CFG_HIST_FILL * d.ftl.userLu < 100 * d.ftl.used) (hold : d.oldestLog.isSome = true) :
    (Dev.histAll (n + 1) d).ftl.used < d.ftl.used := by
  have hover : ¬ 100 * d.ftl.used < (d.rd F.FTL_CFG_HIST_FILL - 5) * d.ftl.userLu := by
    have := Nat.mul_le_mul_right d.ftl.userLu (Nat.sub_le (d.rd F.FTL_CFG_HIST_FILL) 5)
    omega
  obtain ⟨l, hl⟩ := Option.isSome_iff_exists.1 hold
  unfold Dev.histAll
  rw [if_neg hover]
  split
  · next h => exact ((Dev.histAll_shrink n _).used).trans_lt (Dev.releaseOldest_shrinks h).2
  · next h => simp [Dev.releaseOldest, hl] at h

/-! ### Folding -/

theorem Dev.foldOne_slc {d e : Dev} {lu : Nat} (h : d.foldOne lu = some e) : e.ftl.slc = d.ftl.slc.filter (· ≠ lu) := by
  unfold Dev.foldOne at h
  split at h
  · cases h
    rfl
  · cases h

theorem Dev.foldAll_slc_subset (n : Nat) (d : Dev) : (Dev.foldAll n d).ftl.slc ⊆ d.ftl.slc := by
  induction n generalizing d with
  | zero => exact fun _ h => h
  | succ n ih =>
    unfold Dev.foldAll
    split
    · exact fun _ h => h
    · split
      · exact fun _ h => h
      · split
        · next h =>
          exact fun x hx => (List.mem_filter.1 (Dev.foldOne_slc h ▸ ih _ hx)).1
        · exact fun _ h => h

/-- Bytes that fit the open LU of their stream are programmed there. -/
theorem Dev.placeBytes_fits {d : Dev} {st lu k n item start : Nat} (f : Nat) (hopen : st = 0 ∨ (d.ftl.openEu st).isSome = true)
    (hfind : d.ftl.heads.find st = some (lu, k)) (hn : n ≤ 4096) (hfit : k + n ≤ 4096) :
    Dev.placeBytes (f + 1) d st n item start =
      some (({ d with ftl := { d.ftl with heads := d.ftl.heads.put st (lu, k + n) } } : Dev).emit (.nandProg st lu)) := by
  simp only [Dev.placeBytes, if_pos hopen, Dev.placeItem, hfind, Nat.min_eq_left hn, if_pos hfit, if_pos hn]

/-- The read offsets are asked for in eight sets, the unit's own first (R509). -/
theorem Dev.length_readOrder_retentionSet (d : Dev) (u : Eu) : (readOrder (d.retentionSet u)).length ≤ 8 := by
  have hle : d.retentionSet u ≤ 7 := by
    unfold Dev.retentionSet
    extract_lets n
    split
    · exact (List.length_filter_le _ _).trans (by decide)
    · exact Nat.min_le_left ..
  have hall : ∀ n ≤ 7, (readOrder n).length ≤ 8 := by decide
  exact hall _ hle

/-- The oldest cached data that may fold leaves the cache with the first fold. -/
theorem Dev.not_mem_foldAll {d : Dev} {k : Nat} (hfull : 3 * d.ftl.slcLimit < 4 * d.ftl.slc.length)
    (hk : d.ftl.slc.find? (fun j => match d.ftl.map.find j with | some l => l.stream ≠ 4 | none => false) = some k)
    (hfold : (d.foldOne k).isSome = true) : k ∉ (d.foldAll d.ftl.slc.length).ftl.slc := by
  obtain ⟨n, hn⟩ : ∃ n, d.ftl.slc.length = n + 1 := ⟨d.ftl.slc.length - 1, by omega⟩
  have hover : ¬ 2 * d.ftl.slc.length ≤ d.ftl.slcLimit := by omega
  obtain ⟨e, he⟩ := Option.isSome_iff_exists.1 hfold
  rw [hn]
  unfold Dev.foldAll
  rw [if_neg hover]
  split
  · next h => exact nomatch h.symm.trans hk
  · next j h =>
    obtain rfl : j = k := Option.some.inj (h.symm.trans hk)
    rw [he]
    intro hmem
    have hin := Dev.foldAll_slc_subset n e hmem
    rw [Dev.foldOne_slc he] at hin
    simp at hin

section
variable {s : State}

theorem mediaWrite_programs {n pr b st lu k : Nat} {bs : List Byte} (hruns_ : s.dev.mediaRuns = true)
    (hhead : s.dev.laneHead 14 = some (n, ⟨pr, b, .media st (.raw bs)⟩)) (hstate : s.dev.ftl.state ≤ 1)
    (hopen : st = 0 ∨ (s.dev.ftl.openEu st).isSome = true) (hfind : s.dev.ftl.heads.find st = some (lu, k)) (hb : max 1 b ≤ 4096)
    (hfit : k + max 1 b ≤ 4096) (hsec : s.dev.secAhead 4 = false) (hgc : s.dev.gcAhead = false) :
    Does .mediaWrite s (.ftl :: reportParts) (fun d => (d.lane 14).cells = (s.dev.lane 14).cells.eraseIdx n
      ∧ d.ftl.heads.find st = some (lu, k + max 1 b) ∧ d.ftl.map = s.dev.ftl.map) := by
  have hruns : Runs .mediaWrite s (if s.dev.mediaRuns then s.dev.mediaWrite else s.dev) := rfl
  have h4 : s.dev.ftl.state ≠ 4 := by omega
  have h3 : s.dev.ftl.state ≠ 3 := by omega
  have h2 : s.dev.ftl.state ≠ 2 := by omega
  have hplace := s.dev.placeBytes_fits (item := s.dev.ftl.nextLu) (start := 0) 63 hopen hfind hb hfit
  simp only [hruns_, if_true, Dev.mediaWrite, hhead, h4, h3, h2, false_and, if_false, hsec, hgc, Bool.or_self, Bool.false_eq_true, mediaStart,
    hplace] at hruns
  have hset : Evolves (.ftl :: reportParts) s.dev
      ({ s.dev with ftl := { s.dev.ftl with heads := s.dev.ftl.heads.put st (lu, k + max 1 b) } } : Dev) := Evolves.ftl.mono
  have hheads : ({ s.dev with ftl := { s.dev.ftl with heads := s.dev.ftl.heads.put st (lu, k + max 1 b) } } : Dev).ftl.heads.find st
      = some (lu, k + max 1 b) := Tab.find_put_self ..
  have hmap : ({ s.dev with ftl := { s.dev.ftl with heads := s.dev.ftl.heads.put st (lu, k + max 1 b) } } : Dev).ftl.map = s.dev.ftl.map := rfl
  have hlne : ({ s.dev with ftl := { s.dev.ftl with heads := s.dev.ftl.heads.put st (lu, k + max 1 b) } } : Dev).lne = s.dev.lne := rfl
  generalize ({ s.dev with ftl := { s.dev.ftl with heads := s.dev.ftl.heads.put st (lu, k + max 1 b) } } : Dev) = d1 at hruns hset hheads hmap hlne
  have hdrop : ((d1.emit (.nandProg st lu)).laneDrop 14 n).programmed (.raw bs) = (d1.emit (.nandProg st lu)).laneDrop 14 n := rfl
  rw [hdrop] at hruns
  have hdropped : Evolves (.ftl :: reportParts) s.dev ((d1.emit (.nandProg st lu)).laneDrop 14 n) :=
    (Dev.laneDrop_evolves ..).after <| (Dev.emit_evolves ..).after hset
  have hftl : ((d1.emit (.nandProg st lu)).laneDrop 14 n).ftl = d1.ftl := rfl
  have hlane : (((d1.emit (.nandProg st lu)).laneDrop 14 n).lane 14).cells = (s.dev.lane 14).cells.eraseIdx n := by
    unfold Dev.laneDrop
    rw [Dev.lane_setLane]
    exact congrArg (fun l : Lane => l.cells.eraseIdx n) (Dev.lane_congr hlne 14)
  generalize (d1.emit (.nandProg st lu)).laneDrop 14 n = d2 at hruns hdropped hftl hlane
  have hmarks := d2.mediaState_marks
  exact .of hruns (hdropped.keeps.trans hmarks.keeps)
    ⟨by rw [hmarks.lane 14 (by decide), hlane], by rw [hmarks.heads, hftl, hheads], by rw [hmarks.map, hftl, hmap]⟩

theorem mediaRead_decodes {lu bits : Nat} {k : Fin 4} {over_ : Bool} {l : Lu} (hruns_ : s.dev.mediaRuns = true) (hstate : s.dev.ftl.state ≤ 2)
    (hsec : s.dev.secAhead 4 = false) (hl : s.dev.ftl.map.find lu = some l) (husable : s.dev.euUsable l.eu = true) (hk : k.val < 3) (hbits : bits ≠ 0) :
    Does (.mediaRead lu (some k) bits over_) s [.ftl, .regs, .out] (fun d => d.ftl.corrBits = s.dev.ftl.corrBits + bits ∧ d.ftl.map = s.dev.ftl.map
      ∧ (over_ = true → (d.ftl.eu l.eu).refresh = true) ∧ KeepsRegs [F.FTL_CORR_CW.off] s.dev d
      ∧ d.out = .nandRead lu (((readOrder (s.dev.retentionSet (s.dev.ftl.eu l.eu))).take (if k.val = 0 then 1 else 8)).map
          (fun j => (j, s.dev.setOffsets j))) :: s.dev.out) := by
  have h3 : s.dev.ftl.state ≠ 3 := by omega
  have h4 : s.dev.ftl.state ≠ 4 := by omega
  have hruns : Runs (.mediaRead lu (some k) bits over_) s ((s.dev.readOut lu (some (k.val + 1))).mediaRead lu (some (k.val + 1)) bits over_) := by
    simp [Runs, exec, execMediaRead, State.go, State.withDev, hruns_, h3, h4, hsec, Dev.luReads, hl, husable]
  have hlate : decide (4 ≤ k.val + 1) = false := by simp; omega
  have hk4 : ¬ (k.val + 1 = 4) := by omega
  have hout : s.dev.readOut lu (some (k.val + 1)) = s.dev.emit (.nandRead lu
      (((readOrder (s.dev.retentionSet (s.dev.ftl.eu l.eu))).take (if k.val = 0 then 1 else 8)).map (fun j => (j, s.dev.setOffsets j)))) := by
    have hlen : (readOrder (s.dev.retentionSet (s.dev.ftl.eu l.eu))).length ≤ 8 := Dev.length_readOrder_retentionSet ..
    simp only [Dev.readOut, hl, Option.some.injEq, Nat.add_eq_right]
    split
    · rfl
    · rw [List.take_of_length_le hlen]
  rw [hout] at hruns
  simp only [Dev.mediaRead, Dev.emit_ftl, hl, hlate, hk4, false_and, if_false, hbits, or_self, Bool.false_eq_true] at hruns
  cases over_ with
  | true =>
    simp only [if_true] at hruns
    exact .of hruns ((Dev.bumpW_evolves ..).after <| Evolves.ftl.after <| Evolves.ftl.after (Dev.emit_evolves ..).mono).keeps
      ⟨rfl, rfl, fun _ => by
        change (((s.dev.ftl.setEu l.eu _).eu l.eu).refresh = true)
        rw [Ftl.eu_setEu], keepsRegs_wr (f := F.FTL_CORR_CW) (i := 0), rfl⟩
  | false =>
    simp only [Bool.false_eq_true, if_false] at hruns
    exact .of hruns ((Dev.bumpW_evolves ..).after <| Evolves.ftl.after (Dev.emit_evolves ..).mono).keeps
      ⟨rfl, rfl, fun h => absurd h (by decide), keepsRegs_wr (f := F.FTL_CORR_CW) (i := 0), rfl⟩

theorem foldStart_folds {k : Nat} (hruns_ : s.dev.mediaRuns = true) (hstate : s.dev.ftl.state ≤ 1) (hfull : 3 * s.dev.ftl.slcLimit < 4 * s.dev.ftl.slc.length)
    (hk : s.dev.ftl.slc.find? (fun j => match s.dev.ftl.map.find j with | some l => l.stream ≠ 4 | none => false) = some k)
    (hfold : (s.dev.foldOne k).isSome = true) :
    Does .foldStart s (.ftl :: reportParts) (fun d => k ∉ d.ftl.slc) := by
  have hruns : Runs .foldStart s ((s.dev.foldAll s.dev.ftl.slc.length).eraseEmpty) := by
    simp [Runs, exec, execFoldStart, State.go, State.withDev, hruns_, hstate, hfull]
  have hall := (Dev.foldAll_evolves s.dev.ftl.slc.length s.dev).keeps
  have hk' : k ∉ (s.dev.foldAll s.dev.ftl.slc.length).ftl.slc := Dev.not_mem_foldAll hfull hk hfold
  generalize s.dev.foldAll s.dev.ftl.slc.length = d1 at hruns hall hk'
  have herase := d1.eraseEmpty_keepsLus
  exact .of hruns (herase.keeps.step (fun _ h => h) (hall.mono (by decide))) (by rw [herase.slc]; exact hk')

/-- A copy starts onto the free unit. -/
theorem Dev.copyStart_eq {d : Dev} {src dst : Nat} (h : d.ftl.freeEu (fun i => d.euUsable i && i ≠ src) false = some dst) :
    d.copyStart src = { d with ftl := { d.ftl with copies := d.ftl.copies ++ [{ src := src, dst := dst, left := (d.ftl.eu src).lus, done := [] }] } } := by
  simp only [Dev.copyStart, h]

theorem gcStart_copies {e dst : Nat} (hruns_ : s.dev.mediaRuns = true) (hstate : s.dev.ftl.state ≤ 1) (hgc : s.dev.ftl.gcActive = true)
    (hvictim : s.dev.gcVictim = some e) (hdst : s.dev.ftl.freeEu (fun i => s.dev.euUsable i && i ≠ e) false = some dst) :
    Does .gcStart s [.ftl] (fun d => d.ftl.gcActive = true
      ∧ d.ftl.copies = s.dev.ftl.copies ++ [{ src := e, dst := dst, left := (s.dev.ftl.eu e).lus, done := [] }]) := by
  have hruns : Runs .gcStart s (({ s.dev with ftl := { s.dev.ftl with gcActive := true } } : Dev).copyStart e) := by
    simp [Runs, exec, execGcStart, State.go, State.withDev, hruns_, hstate, hgc, hvictim]
  have hdst' : ({ s.dev with ftl := { s.dev.ftl with gcActive := true } } : Dev).ftl.freeEu
      (fun i => ({ s.dev with ftl := { s.dev.ftl with gcActive := true } } : Dev).euUsable i && i ≠ e) false = some dst := hdst
  rw [Dev.copyStart_eq hdst'] at hruns
  exact .of hruns (Evolves.ftl.after Evolves.ftl).keeps ⟨rfl, rfl⟩

theorem euRefresh_copies {eu dst : Nat} (hruns_ : s.dev.mediaRuns = true) (hstate : s.dev.ftl.state ≤ 1) (hrefresh : (s.dev.ftl.eu eu).refresh = true)
    (hst : (s.dev.ftl.eu eu).st = 3) (hsrc : s.dev.ftl.copies.any (fun c => c.src = eu) = false)
    (hdst : s.dev.ftl.freeEu (fun i => s.dev.euUsable i && i ≠ eu) false = some dst) :
    Does (.euRefresh eu) s [.ftl, .regs] (fun d =>
      d.ftl.copies = s.dev.ftl.copies ++ [{ src := eu, dst := dst, left := (s.dev.ftl.eu eu).lus, done := [] }] ∧ KeepsRegs [F.FTL_REFRESH.off] s.dev d) := by
  have hruns : Runs (.euRefresh eu) s ((s.dev.copyStart eu).bump F.FTL_REFRESH) := by
    simp [Runs, exec, execEuRefresh, State.go, State.withDev, hruns_, hstate, hrefresh, hst, hsrc]
  rw [Dev.copyStart_eq hdst] at hruns
  exact .of hruns ((Dev.bump_evolves ..).after Evolves.ftl.mono).keeps
    ⟨rfl, (Keeps.keepsRegs Evolves.ftl.keeps).trans (keepsRegs_bump (f := F.FTL_REFRESH) (i := 0))⟩

theorem wearLevelMove_copies {e : Nat × Eu} {dst : Nat} (hruns_ : s.dev.mediaRuns = true) (hstate : s.dev.ftl.state ≤ 1) (he : s.dev.wearSource = some e)
    (hgap : s.dev.rd F.FTL_GC_CFG_WL_GAP * s.dev.ratedPe < 100 * (s.dev.ftl.peMax - e.2.pe))
    (hdst : s.dev.ftl.freeEu (fun i => s.dev.euUsable i && i ≠ e.1) false = some dst) :
    Does .wearLevelMove s [.ftl] (fun d =>
      d.ftl.copies = s.dev.ftl.copies ++ [{ src := e.1, dst := dst, left := (s.dev.ftl.eu e.1).lus, done := [] }]) := by
  have hruns : Runs .wearLevelMove s (s.dev.copyStart e.1) := by
    simp [Runs, exec, execWearLevelMove, State.go, State.withDev, he, hruns_, hstate, hgap]
  rw [Dev.copyStart_eq hdst] at hruns
  exact .of hruns Evolves.ftl.keeps rfl

theorem nandProgramFail_retires {eu : Nat} (what : Fin 3) (hlive : s.dev.live = true) (hstate : s.dev.ftl.state ≤ 2) (heu : eu < s.dev.ftl.total)
    (h4 : (s.dev.ftl.eu eu).st ≠ 4) (h5 : (s.dev.ftl.eu eu).st ≠ 5) (h6 : (s.dev.ftl.eu eu).st ≠ 6)
    (hdst : s.dev.ftl.copies.find? (fun c => c.dst = eu) = none) :
    Does (.nandProgramFail eu what) s (.ftl :: reportParts) (fun d => (d.ftl.eu eu).st = 4 ∧ d.ftl.spareLeft = s.dev.ftl.spareLeft - 1
      ∧ d.rd F.FTL_RETIRED = min (s.dev.rd F.FTL_RETIRED + 1) (2 ^ F.FTL_RETIRED.len - 1)) := by
  have hkeeps := s.dev.retireEu_keepsLus eu (what.val + 1)
  have hruns : Runs (.nandProgramFail eu what) s (s.dev.retireEu eu (what.val + 1)) := by
    simp [Runs, exec, execNandProgramFail, State.go, State.withDev, hlive, hstate, Dev.nandFail, Nat.not_le.2 heu, h4, h6, hkeeps.copies, hdst]
  exact .of hruns hkeeps.keeps (Dev.retireEu_user h5)

theorem historyRelease_releases (hlive : s.dev.live = true) (hstate : s.dev.ftl.state ≤ 1)
    (hfill : s.dev.rd F.FTL_CFG_HIST_FILL * s.dev.ftl.userLu < 100 * s.dev.ftl.used) (hold : s.dev.oldestLog.isSome = true) :
    Does .historyRelease s (.ftl :: reportParts) (fun d => d.ftl.used < s.dev.ftl.used) := by
  obtain ⟨n, hn⟩ : ∃ n, s.dev.ftl.map.length = n + 1 := by
    obtain ⟨l, hl⟩ := Option.isSome_iff_exists.1 hold
    exact Nat.exists_eq_succ_of_ne_zero (Nat.ne_of_gt (List.length_pos_of_mem (Dev.oldestLog_mem hl).1))
  have hruns : Runs .historyRelease s (
      let d1 := s.dev.histAll s.dev.ftl.map.length
      let day := d1.nowS / 86400
      if d1.ftl.used = s.dev.ftl.used ∨ d1.ftl.histDay = some day then d1
      else ({ d1 with ftl := { d1.ftl with histDay := some day } } : Dev).post 3 0x0D84 0 0xC 0 d1.ftl.histOldest) := by
    simp [Runs, exec, execHistoryRelease, State.go, State.withDev, hlive, hstate, hfill]
  have hlt := Dev.histAll_used_lt (n := n) hfill hold
  have hshrink := Dev.histAll_shrink (n + 1) s.dev
  rw [hn] at hruns
  generalize s.dev.histAll (n + 1) = d1 at hruns hlt hshrink
  dsimp only at hruns
  split at hruns
  · exact .of hruns hshrink.keeps hlt
  · have hday : Keeps (.ftl :: reportParts) d1 ({ d1 with ftl := { d1.ftl with histDay := some (d1.nowS / 86400) } } : Dev) := Evolves.ftl.into
    have hused : ({ d1 with ftl := { d1.ftl with histDay := some (d1.nowS / 86400) } } : Dev).ftl.used = d1.ftl.used := rfl
    generalize ({ d1 with ftl := { d1.ftl with histDay := some (d1.nowS / 86400) } } : Dev) = d2 at hruns hday hused
    have hpost := d2.post_reporting 3 0x0D84 0 0xC 0 d1.ftl.histOldest 0 0
    refine .of hruns (hpost.keeps.step (by decide) (hday.step (fun _ h => h) hshrink.keeps)) ?_
    rw [hpost.keeps .ftl (by decide), hused]
    exact hlt

theorem gcSwitch_switches {c : Copy} {rest : List Copy} (hruns_ : s.dev.mediaRuns = true) (hstate : s.dev.ftl.state ≤ 1)
    (hcopies : s.dev.ftl.copies = c :: rest) (hcw : (s.dev.ftl.eu c.src).failedCw = false) (hahead : s.dev.gcAhead = true ∨ s.dev.laneHead 14 = none) :
    Does .gcSwitch s [.ftl] (fun d => d.ftl.copies = rest ∧ (d.ftl.eu c.src).lus = [] ∧ (d.ftl.eu c.src).pe = (s.dev.ftl.eu c.src).pe + 1) := by
  have hahead' : (s.dev.gcAhead || (s.dev.laneHead 14).isNone) = true := by
    rcases hahead with h | h <;> simp [h]
  have hruns : Runs .gcSwitch s s.dev.gcSwitch := by
    simp [Runs, exec, execGcSwitch, State.go, State.withDev, hruns_, hstate, hahead']
  simp -zeta only [Dev.gcSwitch, hcopies] at hruns
  revert hruns
  extract_lets live src dst f f1 f2 d1 more
  intro hruns
  have heu : f2.eu c.src = { src with lus := [], refresh := false } := Ftl.eu_setEu f c.src { src with lus := [], refresh := false }
  have hrest : f2.copies = rest := rfl
  have hkeeps : Evolves [.ftl] s.dev d1 := by
    unfold d1 Dev.eraseEu
    simp only [heu, src, hcw, Bool.false_eq_true, if_false]
    exact Evolves.ftl.after Evolves.ftl
  have hftl : d1.ftl = f2.setEu c.src { st := if src.st = 5 then 5 else 0, pe := src.pe + 1, channel := src.channel, lun := src.lun } := by
    unfold d1 Dev.eraseEu
    simp only [heu, src, hcw, Bool.false_eq_true, if_false]
  have hcopies' : d1.ftl.copies = rest := by rw [hftl]; exact hrest
  have hunit : d1.ftl.eu c.src = { st := if src.st = 5 then 5 else 0, pe := src.pe + 1, channel := src.channel, lun := src.lun } := by
    rw [hftl, Ftl.eu_setEu]
  exact .of hruns (Evolves.ftl.after hkeeps).keeps ⟨hcopies', congrArg Eu.lus hunit, congrArg Eu.pe hunit⟩

end

/-- Settles O18, one command after the other. -/
theorem mediaUnits : Obligations.MediaUnits :=
  ⟨fun _ _ _ _ _ _ _ _ => mediaWrite_programs, fun _ _ _ _ _ _ => mediaRead_decodes, fun _ _ => foldStart_folds, fun _ _ _ => gcStart_copies,
    fun _ _ _ => gcSwitch_switches, fun _ _ what => nandProgramFail_retires what, fun _ _ _ => euRefresh_copies,
    fun _ _ _ => wearLevelMove_copies, fun _ => historyRelease_releases⟩

end Sys2Proof.Machine
end

section

-- one proof after the other: the check gives the text few threads
set_option Elab.async false

namespace Sys2Proof.Machine

/-! ## O20: keys and attestation -/

theorem Dev.editCtx_sec (d : Dev) (m : Nat) (f : Ctx → Ctx) : (d.editCtx m f).sec = d.sec := (Dev.editCtx_evolves ..).keeps .sec (by decide)

/-- A shadow set in place changes the table of shadows alone. -/
theorem Dev.setShadow_sec (d : Dev) (m : Nat) (x : Option Shadow) : (d.setShadow m x).sec =
    { d.sec with shadows := match x with | some y => d.sec.shadows.put m y | none => d.sec.shadows.del m } := by
  unfold Dev.setShadow
  rw [Dev.editCtx_sec] <;> rfl

theorem Dev.shadow_setShadow (d : Dev) (m : Nat) (x : Option Shadow) : (d.setShadow m x).shadow m = x := by
  unfold Dev.shadow
  rw [Dev.setShadow_sec]
  cases x with
  | some y => exact Tab.find_put_self ..
  | none => exact Tab.find_del_self ..

theorem Dev.setImport_shadow (d : Dev) (m k : Nat) (i : Import) : (d.setImport m i).shadow k = d.shadow k := rfl

theorem Dev.setImport_waits (d : Dev) (m : Nat) (i : Import) : (d.setImport m i).sec.waits = d.sec.waits := rfl

/-- The key of the set that is stored comes back. -/
theorem Dev.import_setImport_ek (d : Dev) (m : Nat) (i : Import) : ((d.setImport m i).import_ m).ek = i.ek := by
  unfold Dev.setImport Dev.import_ Tab.getD
  dsimp only
  split
  · next h => rw [Tab.find_del_self]; exact h.1.symm
  · rw [Tab.find_put_self]; rfl

theorem Dev.import_setShadow (d : Dev) (m k : Nat) (x : Option Shadow) : (d.setShadow m x).import_ k = d.import_ k := by
  unfold Dev.import_
  rw [Dev.setShadow_sec]

theorem Dev.setShadow_waits (d : Dev) (m : Nat) (x : Option Shadow) : (d.setShadow m x).sec.waits = d.sec.waits := by rw [Dev.setShadow_sec]

/-- A set that is dropped is staged no more. -/
theorem Dev.shadow_dropShadow (d : Dev) (m : Nat) : (d.dropShadow m).shadow m = none := by
  unfold Dev.dropShadow
  split
  · assumption
  · extract_lets d1
    have h1 : d1.shadow m = none := Dev.shadow_setShadow ..
    split
    · exact h1
    · exact h1

theorem Dev.dropShadow_waits (d : Dev) (m : Nat) : (d.dropShadow m).sec.waits = d.sec.waits := by
  unfold Dev.dropShadow
  split
  · rfl
  · extract_lets d1
    have h1 : d1.sec.waits = d.sec.waits := Dev.setShadow_waits ..
    split
    · exact h1
    · exact h1

/-- Where no set is staged, dropping it changes nothing. -/
theorem Dev.dropShadow_none {d : Dev} {m : Nat} (h : d.shadow m = none) : d.dropShadow m = d := by
  unfold Dev.dropShadow
  rw [h]

theorem Dev.stageDerived_waits (d : Dev) (m g : Nat) : (d.stageDerived m g).sec.waits = d.sec.waits :=
  (Dev.setShadow_waits ..).trans (Dev.dropShadow_waits ..)

/-- A generation staged where nothing was leaves the imported keys. -/
theorem Dev.stageDerived_import {d : Dev} {m : Nat} (g : Nat) (h : d.shadow m = none) : (d.stageDerived m g).import_ m = d.import_ m := by
  unfold Dev.stageDerived
  rw [Dev.dropShadow_none h, Dev.import_setShadow]

/-- A complete import that is committed puts its staged key in force (R296). -/
theorem Dev.commitKeys_import {d : Dev} {m : Nat} {c : Ctx} (hc : d.ctxAt m = some c) :
    ((d.commitKeys m 0xFF).import_ m).ek = (d.import_ m).shEk ∧ (d.commitKeys m 0xFF).sec.waits = d.sec.waits := by
  unfold Dev.commitKeys
  rw [hc]
  dsimp -zeta only
  extract_lets d1 i lg d2
  have hsec1 : d1.sec = ((d.kcDrop m c.keyGen).setShadow m none).sec := Dev.editCtx_sec ..
  have hi : i.shEk = (d.import_ m).shEk := by
    unfold i Dev.import_
    rw [hsec1, Dev.setShadow_sec]
    rfl
  have hwaits1 : d1.sec.waits = d.sec.waits := by
    rw [hsec1, Dev.setShadow_waits]
    rfl
  have hshadow1 : d1.shadow m = none := by
    unfold Dev.shadow
    rw [hsec1]
    exact Dev.shadow_setShadow ..
  have h2 : (d2.import_ m).ek = (d.import_ m).shEk := (Dev.import_setImport_ek ..).trans hi
  have hwaits2 : d2.sec.waits = d.sec.waits := (Dev.setImport_waits ..).trans hwaits1
  have hshadow2 : d2.shadow m = none := (Dev.setImport_shadow ..).trans hshadow1
  clear_value d2
  rw [if_pos rfl]
  split
  · split
    · next g _ => exact ⟨by rw [Dev.stageDerived_import g hshadow2, h2], (Dev.stageDerived_waits ..).trans hwaits2⟩
    · exact ⟨h2, hwaits2⟩
  · exact ⟨h2, hwaits2⟩

/-- The context that a MIX names is the one in the table. -/
theorem Dev.ctxAt_of_ctxNamed {d : Dev} {m : Nat} {c : Ctx} (h : d.ctxNamed m = some c) : d.ctxAt m = some c ∧ c.st ≠ 5 := by
  unfold Dev.ctxNamed at h
  obtain ⟨hc, hst⟩ := Option.filter_eq_some_iff.1 h
  exact ⟨hc, by simpa using hst⟩

/-- What a key opcode that ends with the stroke cycle leaves, after a change of contexts and keys. -/
theorem Does.keyWait {c : Instr} {s : State} {pair : Fin 64} {h : Held} {d : Dev} {post : Dev → Prop}
    (hruns : Runs c s (d.keyWait pair h.id [])) (hd : Evolves [.ctx, .sec] s.dev d) (hwaits : d.sec.waits = s.dev.sec.waits)
    (hpost : ∀ e : Dev, e.sec.shadows = d.sec.shadows → e.sec.imports = d.sec.imports → post e) :
    Does c s [.rng, .sec, .ctx] (fun e => post e ∧ e.pair pair = (s.dev.markStarted pair h.id).pair pair
      ∧ e.sec.waits = s.dev.sec.waits ++ [{ pair := pair, id := h.id, cycle := s.dev.openCycle, res := [] }]) := by
  have hmark := (Dev.markStarted_evolves d pair h.id).keeps
  have hpair : (d.markStarted pair h.id).pair pair = (s.dev.markStarted pair h.id).pair pair := by
    unfold Dev.markStarted
    rw [Dev.pair_updPair, Dev.pair_updPair, Dev.pair_eq_of_rng (hd.keeps .rng (by decide))]
  have hcycle : (d.markStarted pair h.id).openCycle = s.dev.openCycle := by
    unfold Dev.openCycle
    rw [hmark .par (by decide), hd.keeps .par (by decide)]
  have hsec : (d.markStarted pair h.id).sec = d.sec := hmark .sec (by decide)
  have hshadows : (d.markStarted pair h.id).sec.shadows = d.sec.shadows := by rw [hsec]
  have himports : (d.markStarted pair h.id).sec.imports = d.sec.imports := by rw [hsec]
  unfold Dev.keyWait at hruns
  have hall : Evolves [.rng, .sec, .ctx] s.dev (d.markStarted pair h.id) := (Dev.markStarted_evolves ..).after hd.mono
  generalize d.markStarted pair h.id = d1 at hruns hpair hcycle hsec hshadows himports hall
  refine .of hruns (Evolves.sec.after hall).keeps ⟨hpost _ hshadows himports, hpair, ?_⟩
  rw [← hcycle, ← hwaits, ← hsec]

section
variable {s : State} {pair : Fin 64} {h : Held}

theorem keyStage_stages {c : Ctx} {g : Nat} (htakes : s.takes pair 0x60 h) (hkind : tKind h.desc = 1) (hc : s.dev.ctxNamed (tMix h.desc) = some c)
    (howned : c.owned = true) (hkeyed : s.dev.keyed = true) (hid : bitsOf (h.desc.word 3) 0 4 < 4)
    (hzero : (stageKey h.desc).all (fun b => b = 0) = true) (hg : s.dev.nextGen (tMix h.desc) c = some g) (hnone : s.dev.shadow (tMix h.desc) = none) :
    Does (.keyStage pair) s [.rng, .sec, .ctx] (fun d =>
      (d.shadow (tMix h.desc)).map (fun x => (x.imported, x.gen)) = some (false, g) ∧ d.pair pair = (s.dev.markStarted pair h.id).pair pair
        ∧ d.sec.waits = s.dev.sec.waits ++ [{ pair := pair, id := h.id, cycle := s.dev.openCycle, res := [] }]) := by
  have hruns : Runs (.keyStage pair) s ((s.dev.stageDerived (tMix h.desc) g).keyWait pair h.id []) := by
    simp [Runs, exec, execKeyStage, State.go, State.withDev, htakes.onDesc_eq, hkind, Dev.withCtx, hc, howned, hkeyed, Dev.keyStageOne, Nat.not_le.2 hid,
      Dev.stageNext, hg, hnone]
    exact fun x hx hne => absurd (of_decide_eq_true (List.all_eq_true.1 hzero x hx)) hne
  refine Does.keyWait hruns (Dev.stageDerived_evolves ..) (Dev.stageDerived_waits ..) fun e hshadows _ => ?_
  have hsh : (s.dev.stageDerived (tMix h.desc) g).shadow (tMix h.desc) = some { imported := false, gen := g } := Dev.shadow_setShadow ..
  unfold Dev.shadow at hsh ⊢
  rw [hshadows, hsh]
  rfl

theorem keyCommit_commits {c : Ctx} (htakes : s.takes pair 0x61 h) (hkind : tKind h.desc = 1) (hc : s.dev.ctxNamed (tMix h.desc) = some c)
    (howned : c.owned = true) (hkeyed : s.dev.keyed = true) (hfits : s.dev.commitFits (tMix h.desc) c h.desc = true) :
    Does (.keyCommit pair) s [.rng, .sec, .ctx] (fun d =>
      (d.import_ (tMix h.desc)).ek = (s.dev.import_ (tMix h.desc)).shEk ∧ d.pair pair = (s.dev.markStarted pair h.id).pair pair
        ∧ d.sec.waits = s.dev.sec.waits ++ [{ pair := pair, id := h.id, cycle := s.dev.openCycle, res := [] }]) := by
  have hruns : Runs (.keyCommit pair) s ((s.dev.commitKeys (tMix h.desc) 0xFF).keyWait pair h.id []) := by
    simp [Runs, exec, execKeyCommit, State.go, State.withDev, htakes.onDesc_eq, hkind, Dev.withCtx, hc, howned, hkeyed, hfits]
  obtain ⟨hek, hwaits⟩ := Dev.commitKeys_import (Dev.ctxAt_of_ctxNamed hc).1
  refine Does.keyWait hruns (Dev.commitKeys_evolves ..) hwaits fun e _ himports => ?_
  unfold Dev.import_ at hek ⊢
  rw [himports, hek]

theorem keyDiscard_discards {c : Ctx} (htakes : s.takes pair 0x62 h) (hkind : tKind h.desc = 1) (hc : s.dev.ctxNamed (tMix h.desc) = some c)
    (howned : c.owned = true) (hstaged : (s.dev.shadow (tMix h.desc)).isSome = true) :
    Does (.keyDiscard pair) s [.rng, .sec, .ctx] (fun d => d.shadow (tMix h.desc) = none ∧ d.pair pair = (s.dev.markStarted pair h.id).pair pair
      ∧ d.sec.waits = s.dev.sec.waits ++ [{ pair := pair, id := h.id, cycle := s.dev.openCycle, res := [] }]) := by
  have hruns : Runs (.keyDiscard pair) s ((s.dev.dropShadow (tMix h.desc)).keyWait pair h.id []) := by
    simp [Runs, exec, execKeyDiscard, State.go, State.withDev, htakes.onDesc_eq, hkind, Dev.withCtx, hc, howned, hstaged]
  refine Does.keyWait hruns (Dev.dropShadow_evolves ..) (Dev.dropShadow_waits ..) fun e hshadows _ => ?_
  have hsh := s.dev.shadow_dropShadow (tMix h.desc)
  unfold Dev.shadow at hsh ⊢
  rw [hshadows, hsh]

theorem attest_answers (htakes : s.takes pair 0x63 h) (hlen : 256 ≤ bufLen h.desc) (hsec : s.dev.secAhead 5 = false) :
    Completes (.attest pair) s pair h [208] [.out] (fun d => d.out = .hostWrite (bufAddr h.desc)
      ((s.dev.attest (wordsBytes ((List.range 8).map (fun i => h.desc.word (6 + i))))).take (bufLen h.desc)) :: s.dev.out) := by
  have hruns : Runs (.attest pair) s
      ((s.dev.writeBuf h.desc (s.dev.attest (wordsBytes ((List.range 8).map (fun i => h.desc.word (6 + i)))))).complete pair h.id 0 0 [208]) := by
    simp only [Runs, exec, execAttest, State.go, State.withDev, htakes.onDesc_eq, if_neg (Nat.not_lt.2 hlen), hsec, Bool.false_eq_true, if_false]
  exact .intro hruns (Dev.writeBuf_evolves ..).into ((Dev.complete_evolves ..).keeps .out (by decide))

theorem attest_waits (htakes : s.takes pair 0x63 h) (hlen : 256 ≤ bufLen h.desc) (hsec : s.dev.secAhead 5 = true) : Runs (.attest pair) s s.dev := by
  simp only [Runs, exec, execAttest, State.go, State.withDev, htakes.onDesc_eq, if_neg (Nat.not_lt.2 hlen), hsec, if_true]

end

/-- Settles O20, one command after the other. -/
theorem keysAndAttestation : Obligations.KeysAndAttestation :=
  ⟨fun _ _ _ _ _ => keyStage_stages, fun _ _ _ _ => keyCommit_commits, fun _ _ _ _ => keyDiscard_discards, fun _ _ _ => attest_answers,
    fun _ _ _ => attest_waits⟩

end Sys2Proof.Machine
end

section

-- one proof after the other: the check gives the text few threads
set_option Elab.async false

namespace Sys2Proof.Machine

/-! ## O21: the root and its clone -/

theorem DoesBat.of {c : Instr} {s : State} {b : Bat} {ps : List Part} {post : Dev → Prop} {e : Dev} (hruns : exec c s = .next { s with bat := b, dev := e })
    (hkeeps : Keeps ps s.dev e) (hpost : post e) : DoesBat c s b ps post := ⟨e, hruns, hkeeps, hpost⟩

/-! ### The registers show the battery domain -/

/-- The registers of the battery domain that are shown after SEC_STS. -/
def shownAfter : List F := [F.SEC_STS_VBAT_LOW, F.SEC_MON_STS_VBAT, wordField 0x40070, wordField 0x40008, wordField 0x4000C, wordField 0x40024,
  wordField 0x40028, F.SEC_TAMPER_STS_SOURCE, F.SEC_TAMPER_STS, wordField 0x40078]

theorem Dev.showBat_writes_after (d : Dev) (b : Bat) : Writes shownAfter
    (((d.wrb F.SEC_STS_ROOT_VALID 0 b.root.isSome).wrb F.SEC_STS_TAMPER_LATCH 0 b.latch).wrb F.SEC_STS_KTK_VALID 0 b.ktk.isSome) (d.showBat b) := by
  unfold Dev.showBat
  extract_lets _ _ _ d1 d2 d3 d4
  have h2 : Writes shownAfter d1 d2 := (Writes.setWord ..).after <| (Writes.wr ..).after (Writes.wrb ..).mono
  have h3 : Writes shownAfter d1 d3 := (Writes.setWord ..).after <| (Writes.setWord ..).after <| (Writes.setWord ..).after h2
  have h4 : Writes shownAfter d1 d4 := (Writes.wr ..).after <| (Writes.setWord ..).after h3
  exact (Writes.setWord ..).after <| (Writes.wr ..).after h4

theorem Dev.showBat_ktkValid (d : Dev) (b : Bat) : (d.showBat b).on F.SEC_STS_KTK_VALID = b.ktk.isSome :=
  ((d.showBat_writes_after b).on _).trans (Dev.on_wrb _ _ _ _ (by decide) rfl)

theorem Dev.showBat_latch (d : Dev) (b : Bat) : (d.showBat b).on F.SEC_STS_TAMPER_LATCH = b.latch :=
  ((d.showBat_writes_after b).on _).trans (((Writes.wrb F.SEC_STS_KTK_VALID ..).on _).trans (Dev.on_wrb _ _ _ _ (by decide) rfl))

theorem Dev.showBat_rootValid (d : Dev) (b : Bat) : (d.showBat b).on F.SEC_STS_ROOT_VALID = b.root.isSome :=
  ((d.showBat_writes_after b).on _).trans (((Writes.wrb F.SEC_STS_KTK_VALID ..).on _).trans
    (((Writes.wrb F.SEC_STS_TAMPER_LATCH ..).on _).trans (Dev.on_wrb _ _ _ _ (by decide) rfl)))

theorem Dev.showBat_sec (d : Dev) (b : Bat) : (d.showBat b).sec = d.sec := (Dev.showBat_evolves ..).keeps .sec (by decide)

theorem Dev.showBat_freeCtr (d : Dev) (b : Bat) : (d.showBat b).freeCtr = d.freeCtr := (Dev.showBat_evolves ..).keeps .freeCtr (by decide)

/-! ### A zeroisation of a powered device -/

/-- The Security engine holds no key and no code. -/
def Dev.wiped (d : Dev) : Dev :=
  ({ d with sec := { d.sec with kdev := none, cache := [], clone := .idle, code := [0, 0, 0, 0], codeAt := none, peerNonce := none } } : Dev).wr F.SEC_STS_CLONE 0 0

theorem Dev.wiped_sec (d : Dev) : d.wiped.sec =
    { d.sec with kdev := none, cache := [], clone := .idle, code := [0, 0, 0, 0], codeAt := none, peerNonce := none } := rfl

theorem Dev.wiped_evolves (d : Dev) : Evolves [.sec, .regs] d d.wiped := (Dev.wr_evolves ..).after Evolves.sec.mono

/-- A zeroisation while powered: the battery domain as the rules say, the key and the code gone, and at most a record and a Degraded report. -/
theorem State.zeroise_powered {s : State} (source : Nat) (hpow : s.dev.powered = true) : ∃ e : Dev,
    s.zeroise source = { s with bat := s.bat.zeroised source (s.dev.tim.rtcNs / 1000000000 % 2 ^ 32), dev := e }
      ∧ Reporting faultRegs [13] (s.dev.wiped.showBat (s.bat.zeroised source (s.dev.tim.rtcNs / 1000000000 % 2 ^ 32))) e := by
  have howed : (s.bat.owed || (!s.bat.latch && !s.dev.powered)) = s.bat.owed := by rw [hpow, Bool.not_true, Bool.and_false, Bool.or_false]
  unfold State.zeroise
  extract_lets was d _ b _ d1 s1 x sd x1
  have hb : b = s.bat.zeroised source (s.dev.tim.rtcNs / 1000000000 % 2 ^ 32) := by
    unfold b Bat.zeroised was d
    rw [howed]
  have hs1 : s1 = { s with bat := b, dev := s.dev.wiped.showBat b } := rfl
  rw [← hb, hpow, if_neg (by decide)]
  clear_value b
  by_cases hwas : was = true
  · rw [if_pos hwas, hs1]
    exact ⟨s.dev.wiped.showBat b, rfl, .refl⟩
  · rw [if_neg hwas]
    have hx : x = s.dev.wiped.showBat b := by
      unfold x
      rw [hs1]
    have hrep : Reporting faultRegs [13] x (x1.fault 0x0F40 4 3 source true) :=
      ((Dev.recordPost_reporting ..).mono (List.subset_append_right _ _)).trans (Dev.fault_reporting _ _ _ _ _ _ (by decide))
    generalize x1.fault 0x0F40 4 3 source true = y at hrep
    rw [hs1, ← hx]
    exact ⟨y, rfl, hrep⟩

/-- What a zeroisation leaves of the Security engine. -/
theorem DoesBat.of_zeroise {c : Instr} {s t : State} {source : Nat} {ps : List Part} {post : Dev → Prop}
    (hruns : exec c s = .next (t.zeroise source)) (hpow : t.dev.powered = true) (ht : ∃ e : Dev, t = { s with dev := e }) (hkeeps : Keeps ps s.dev t.dev)
    (hps : .sec :: reportParts ⊆ ps) (htim : t.dev.tim = s.dev.tim)
    (hpost : ∀ e : Dev, e.sec.kdev = none → e.sec.cache = [] → e.on F.SEC_STS_ROOT_VALID = false → e.glb = t.dev.glb → post e) :
    DoesBat c s (s.bat.zeroised source (s.dev.tim.rtcNs / 1000000000 % 2 ^ 32)) ps post := by
  obtain ⟨y, rfl⟩ := ht
  obtain ⟨e, he, hrep⟩ := State.zeroise_powered (s := { s with dev := y }) source hpow
  have hev : Keeps (.sec :: reportParts) y e :=
    ((Dev.showBat_evolves ..).after y.wiped_evolves.mono).keeps.trans (hrep.keeps.mono (by decide))
  have hsec : e.sec = y.wiped.sec := (hrep.keeps .sec (by decide)).trans (Dev.showBat_sec ..)
  rw [he] at hruns
  dsimp only at hruns htim
  rw [htim] at hruns
  refine .of hruns (hkeeps.trans (hev.mono hps)) (hpost e ?_ ?_ ?_ (hev .glb (by decide)))
  · rw [hsec, Dev.wiped_sec]
  · rw [hsec, Dev.wiped_sec]
  · exact (hrep.on _ 0 (by decide)).trans (Dev.showBat_rootValid ..)

section
variable {s : State} {val : Word}

theorem Dev.powered_of_live {d : Dev} (h : d.live = true) : d.powered = true := by
  unfold Dev.live at h
  unfold Dev.powered
  grind

theorem rootGenerate_draws (hlive : s.dev.live = true) (hop : F.SEC_ROOT_CTL_OP.get val.toNat = 1) (hkey : F.SEC_ROOT_CTL_KEY.get val.toNat = 0x5EC0)
    (hnone : s.bat.root = none) (htrng : s.dev.on F.SEC_STS_TRNG_OK = true) :
    DoesBat (.rootGenerate val) s { s.bat with root := some (beBytes 32 (Config.random s.dev.freeCtr).toNat) } [.regs, .sec, .freeCtr] (fun d =>
      d.on F.SEC_STS_ROOT_VALID = true ∧ d.sec.kdev.isSome = true ∧ d.freeCtr = s.dev.freeCtr + 1) := by
  have hruns : exec (.rootGenerate val) s = .next (({ s with dev := s.dev.fresh.2 } : State).takeRoot (beBytes 32 (Config.random s.dev.freeCtr).toNat)) := by
    simp only [exec, execRootGenerate, State.rootCtl, hlive, hop, hkey, hnone, htrng]
    rfl
  have hev : Evolves [.regs, .sec, .freeCtr] s.dev (({ s with dev := s.dev.fresh.2 } : State).takeRoot (beBytes 32 (Config.random s.dev.freeCtr).toNat)).dev :=
    (State.takeRoot_evolves ..).after (Dev.fresh_evolves ..).mono
  refine .of hruns hev.keeps ⟨Dev.showBat_rootValid .., ?_, Dev.showBat_freeCtr ..⟩
  exact congrArg (fun x : Sec => x.kdev.isSome) (Dev.showBat_sec ..)

theorem rootCloneSend_waits (hlive : s.dev.live = true) (hop : F.SEC_ROOT_CTL_OP.get val.toNat = 2) (hkey : F.SEC_ROOT_CTL_KEY.get val.toNat = 0x5EC0)
    (hroot : s.bat.root.isSome = true) (hgrade : s.dev.grade = .x) (hcode : s.dev.sec.codeAt.isSome = true) (hpeer : s.dev.sec.peerNonce = none) :
    Does (.rootCloneSend val) s [.regs, .sec] (fun d => d.sec = { s.dev.sec with clone := .sending } ∧ d.rd F.SEC_STS_CLONE = 2
      ∧ KeepsRegs [0x40000] s.dev d) := by
  have hruns : Runs (.rootCloneSend val) s (({ s.dev with sec := { s.dev.sec with clone := .sending } } : Dev).wr F.SEC_STS_CLONE 0 2) := by
    simp [Runs, exec, execRootCloneSend, State.rootCtl, State.withDev, hlive, hop, hkey, hroot, hgrade, Option.isNone_eq_false_iff.2 hcode, hpeer]
  exact .of hruns ((Dev.wr_evolves ..).after Evolves.sec.mono).keeps ⟨rfl, Dev.rd_wr _ _ _ _ (by decide), keepsRegs_wr (f := F.SEC_STS_CLONE) (i := 0)⟩

theorem rootCloneRecv_asks (hlive : s.dev.live = true) (hop : F.SEC_ROOT_CTL_OP.get val.toNat = 3) (hkey : F.SEC_ROOT_CTL_KEY.get val.toNat = 0x5EC0)
    (hnone : s.bat.root = none) (hgrade : s.dev.grade = .x) (hcode : s.dev.sec.codeAt.isSome = true) :
    Does (.rootCloneRecv val) s (.sec :: .par :: reportParts) (fun d =>
      d.sec = { s.dev.sec with clone := .receiving (beBytes 16 ((Config.random s.dev.freeCtr).toNat % 2 ^ 128)) } ∧ d.rd F.SEC_STS_CLONE = 3) := by
  have hruns : ∃ d1 : Dev, Runs (.rootCloneRecv val) s ((d1.wr F.SEC_STS_CLONE 0 3).pairSend d1.openCycle
        (.cloneNonce (beBytes 16 ((Config.random s.dev.freeCtr).toNat % 2 ^ 128))))
      ∧ Evolves [.freeCtr, .sec] s.dev d1 ∧ d1.sec = { s.dev.sec with clone := .receiving (beBytes 16 ((Config.random s.dev.freeCtr).toNat % 2 ^ 128)) } := by
    refine ⟨{ s.dev.fresh.2 with sec := { s.dev.fresh.2.sec with clone := .receiving (beBytes 16 ((Config.random s.dev.freeCtr).toNat % 2 ^ 128)) } },
      ?_, Evolves.sec.after (Dev.fresh_evolves ..).mono, rfl⟩
    simp [Runs, exec, execRootCloneRecv, State.rootCtl, State.withDev, hlive, hop, hkey, hnone, hgrade, Option.isNone_eq_false_iff.2 hcode]
    rfl
  obtain ⟨d1, hruns, hd1, hsec⟩ := hruns
  refine .of hruns ((Dev.pairSend_evolves ..).after <| (Dev.wr_evolves ..).after hd1.mono).keeps ⟨?_, ?_⟩
  · have hsent (x : Dev) (c : Nat) (b : PairBody) : (x.pairSend c b).sec = x.sec := (Dev.pairSend_evolves ..).keeps .sec (by decide)
    rw [hsent, Dev.wr_sec, hsec]
  · exact ((Dev.pairSend_writes ..).rd_eq _).trans (Dev.rd_wr _ _ _ _ (by decide))

theorem rootZeroise_zeroises (hlive : s.dev.live = true) (hop : F.SEC_ROOT_CTL_OP.get val.toNat = 4) (hkey : F.SEC_ROOT_CTL_KEY.get val.toNat = 0x5EC0) :
    DoesBat (.rootZeroise val) s (s.bat.zeroised 10 (s.dev.tim.rtcNs / 1000000000 % 2 ^ 32)) (.sec :: reportParts) (fun d =>
      d.sec.kdev = none ∧ d.sec.cache = [] ∧ d.on F.SEC_STS_ROOT_VALID = false) := by
  have hruns : exec (.rootZeroise val) s = .next (s.zeroise 10) := by
    simp only [exec, execRootZeroise, State.rootCtl, hlive, hop, hkey]
    rfl
  exact .of_zeroise hruns (Dev.powered_of_live hlive) ⟨s.dev, rfl⟩ (Keeps.refl _ _) (by decide) rfl fun e hk hc hr _ => ⟨hk, hc, hr⟩

theorem cloneFrameRx_keeps_nonce {n : List Byte} (hlive : s.dev.live = true) (hup : s.dev.pairUp = true) (hidle : s.dev.sec.clone = .idle) :
    Does (.cloneFrameRx (.cloneNonce n)) s [.sec] (fun d => d.sec = { s.dev.sec with peerNonce := some n }) := by
  have hruns : Runs (.cloneFrameRx (.cloneNonce n)) s { s.dev with sec := { s.dev.sec with peerNonce := some n } } := by
    simp [Runs, exec, execCloneFrameRx, State.cloneRx, State.withDev, hlive, hup, hidle]
  exact .of hruns Evolves.sec.into rfl

theorem cloneCodeWrite_takes (n : Fin 4) (hlive : s.dev.live = true) :
    Does (.cloneCodeWrite n val) s [.regs, .sec] (fun d =>
      d.sec = { s.dev.sec with code := s.dev.sec.code.set n val, codeAt := some s.dev.tim.mono, codeFails := 0 }
        ∧ (s.dev.sec.clone = .idle → d.rd F.SEC_STS_CLONE = 1) ∧ KeepsRegs [0x40000] s.dev d) := by
  have hruns : Runs (.cloneCodeWrite n val) s (
      if s.dev.sec.clone = .idle then
        ({ s.dev with sec := { s.dev.sec with code := s.dev.sec.code.set n val, codeAt := some s.dev.tim.mono, codeFails := 0 } } : Dev).wr F.SEC_STS_CLONE 0 1
      else { s.dev with sec := { s.dev.sec with code := s.dev.sec.code.set n val, codeAt := some s.dev.tim.mono, codeFails := 0 } }) := by
    simp only [Runs, exec, execCloneCodeWrite, State.go, State.withDev, hlive, if_true]
  split at hruns
  · exact .of hruns ((Dev.wr_evolves ..).after Evolves.sec.mono).keeps
      ⟨rfl, fun _ => Dev.rd_wr _ _ _ _ (by decide), keepsRegs_wr (f := F.SEC_STS_CLONE) (i := 0)⟩
  · next hbusy => exact .of hruns Evolves.sec.into ⟨rfl, fun h => absurd h hbusy, .refl⟩

theorem Dev.codeVoid_sec (d : Dev) : d.codeVoid.sec = { d.sec with code := [0, 0, 0, 0], codeAt := none, codeFails := 0 } := by
  unfold Dev.codeVoid
  extract_lets _ d1
  split <;> rfl

theorem Dev.codeVoid_keepsRegs (d : Dev) : KeepsRegs [0x40000] d d.codeVoid := by
  unfold Dev.codeVoid
  exact .ite (fun _ => keepsRegs_wr (f := F.SEC_STS_CLONE) (i := 0)) (fun _ => .refl)

theorem cloneCodeVoid_voids {t : Nat} (hlive : s.dev.live = true) (hcode : s.dev.sec.codeAt = some t) :
    Does .cloneCodeVoid s [.regs, .sec, .tim, .evr] (fun d => d.sec = { s.dev.sec with code := [0, 0, 0, 0], codeAt := none, codeFails := 0 }
      ∧ t + 300000000000 ≤ d.tim.mono ∧ KeepsRegs [0x40000] s.dev d) := by
  have hruns : Runs .cloneCodeVoid s (s.dev.toMono (t + 300000000000)).codeVoid := by
    simp only [Runs, exec, execCloneCodeVoid, State.go, State.withDev, hlive, hcode, if_true]
  have hsec : (s.dev.toMono (t + 300000000000)).sec = s.dev.sec := (Dev.toMono_evolves ..).keeps .sec (by decide)
  have hmono : t + 300000000000 ≤ (s.dev.toMono (t + 300000000000)).tim.mono := by
    rw [Dev.toMono_mono]
    omega
  refine .of hruns ((Dev.codeVoid_evolves ..).after (Dev.toMono_evolves ..).mono).keeps ⟨?_, ?_, ?_⟩
  · rw [Dev.codeVoid_sec, hsec]
  · rw [(Dev.codeVoid_evolves _).keeps .tim (by decide)]
    exact hmono
  · exact fun off hoff => (Dev.codeVoid_keepsRegs _ off hoff).trans (Dev.word_toMono ..)

end

/-- Settles O21, one command after the other. -/
theorem rootAndClone : Obligations.RootAndClone :=
  ⟨fun _ _ => rootGenerate_draws, fun _ _ => rootCloneSend_waits, fun _ _ => rootCloneRecv_asks, fun _ _ => rootZeroise_zeroises,
    fun _ _ => cloneFrameRx_keeps_nonce, fun _ n _ => cloneCodeWrite_takes n, fun _ _ => cloneCodeVoid_voids⟩

end Sys2Proof.Machine
end

section

-- one proof after the other: the check gives the text few threads
set_option Elab.async false

namespace Sys2Proof.Machine

/-! ## O22: the key transport key, the tamper trips and the latch -/

/-- The device with its transport-key data words reset. -/
def Dev.ktkCleared (d : Dev) : Dev := { d with sec := { d.sec with ktkData := List.replicate 10 0 } }

/-- A command that sets the transport key, wipes its data words and shows the battery domain. -/
theorem DoesBat.of_ktk {c : Instr} {s : State} {b : Bat} (hruns : exec c s = .next ({ s with bat := b, dev := s.dev.ktkCleared } : State).show_) :
    DoesBat c s b [.regs, .sec] (fun d => d.sec = { s.dev.sec with ktkData := List.replicate 10 0 } ∧ d.on F.SEC_STS_KTK_VALID = b.ktk.isSome) :=
  .of hruns ((Dev.showBat_evolves ..).after Evolves.sec.mono).keeps ⟨Dev.showBat_sec .., Dev.showBat_ktkValid ..⟩

section
variable {s : State} {val : Word}

theorem ktkClearLoad_takes_data (hlive : s.dev.live = true) (hop : F.SEC_KTK_CTL_OP.get val.toNat = 1) (hkey : F.SEC_KTK_CTL_KEY.get val.toNat = 0x5EC0)
    (hlock : s.dev.rd F.GLB_CFG_LOCK_LOCK = 0) (hnone : s.bat.ktk = none) :
    DoesBat (.ktkClearLoad val) s { s.bat with ktk := some (s.dev.ktkBytes 8) } [.regs, .sec] (fun d =>
      d.sec = { s.dev.sec with ktkData := List.replicate 10 0 } ∧ d.on F.SEC_STS_KTK_VALID = true) := by
  refine DoesBat.of_ktk ?_
  simp only [exec, execKtkClearLoad, State.ktkCtl, hlive, hop, hkey, hlock, hnone]
  rfl

theorem ktkWrappedLoad_unwraps {k : List Byte} (hlive : s.dev.live = true) (hop : F.SEC_KTK_CTL_OP.get val.toNat = 2)
    (hkey : F.SEC_KTK_CTL_KEY.get val.toNat = 0x5EC0) (hk : s.bat.ktk = some k) :
    DoesBat (.ktkWrappedLoad val) s { s.bat with ktk := some ((kwUnwrap k (s.dev.ktkBytes 10)).getD k) } [.regs, .sec] (fun d =>
      d.sec = { s.dev.sec with ktkData := List.replicate 10 0 } ∧ d.on F.SEC_STS_KTK_VALID = true) := by
  refine DoesBat.of_ktk ?_
  simp only [exec, execKtkWrappedLoad, State.ktkCtl, hlive, hop, hkey, hk]
  rfl

theorem ktkErase_erases (hlive : s.dev.live = true) (hop : F.SEC_KTK_CTL_OP.get val.toNat = 3) (hkey : F.SEC_KTK_CTL_KEY.get val.toNat = 0x5EC0) :
    DoesBat (.ktkErase val) s { s.bat with ktk := none } [.regs, .sec] (fun d =>
      d.sec = { s.dev.sec with ktkData := List.replicate 10 0 } ∧ d.on F.SEC_STS_KTK_VALID = false) := by
  refine DoesBat.of_ktk ?_
  simp only [exec, execKtkErase, State.ktkCtl, hlive, hop, hkey]
  rfl

theorem tamperLatchClear_clears (hlive : s.dev.live = true) (hbit : F.SEC_STS_TAMPER_LATCH.get val.toNat = 1) (hroot : s.bat.root.isSome = true) :
    DoesBat (.tamperLatchClear val) s { s.bat with latch := false } [.regs] (fun d => d.on F.SEC_STS_TAMPER_LATCH = false) := by
  have hruns : exec (.tamperLatchClear val) s = .next ({ s with bat := { s.bat with latch := false } } : State).show_ := if_pos ⟨hlive, hbit, hroot⟩
  exact .of hruns (Dev.showBat_evolves ..).into (Dev.showBat_latch ..)

/-! ### Trips -/

/-- A trip that zeroises at once. -/
theorem DoesBat.of_trip {c : Instr} {source : Nat} (hruns : exec c s = .next (s.zeroise source)) (hpow : s.dev.powered = true) :
    DoesBat c s (s.bat.zeroised source (s.dev.tim.rtcNs / 1000000000 % 2 ^ 32)) (.sec :: reportParts) (fun d =>
      d.sec.kdev = none ∧ d.on F.SEC_STS_ROOT_VALID = false) :=
  .of_zeroise hruns hpow ⟨s.dev, rfl⟩ (Keeps.refl _ _) (by decide) rfl fun _ hk _ hr _ => ⟨hk, hr⟩

theorem tamperInputTrip_zeroises {n : Fin 4} (hpow : s.dev.powered = true) (harmed : bitAt s.bat.cfg n = true) :
    DoesBat (.tamperInputTrip n) s (s.bat.zeroised (n.val + 1) (s.dev.tim.rtcNs / 1000000000 % 2 ^ 32)) (.sec :: reportParts) (fun d =>
      d.sec.kdev = none ∧ d.on F.SEC_STS_ROOT_VALID = false) :=
  .of_trip (congrArg Host.Outcome.next (if_pos harmed)) hpow

theorem tamperMeshTrip_zeroises (hpow : s.dev.powered = true) (harmed : bitAt s.bat.cfg 4 = true) :
    DoesBat .tamperMeshTrip s (s.bat.zeroised 5 (s.dev.tim.rtcNs / 1000000000 % 2 ^ 32)) (.sec :: reportParts) (fun d =>
      d.sec.kdev = none ∧ d.on F.SEC_STS_ROOT_VALID = false) :=
  .of_trip (congrArg Host.Outcome.next (if_pos harmed)) hpow

/-- The device with a temperature sampled and shown. -/
def Dev.sampled (d : Dev) (temp : Int) : Dev := (d.setTemp temp).wr F.SEC_MON_STS_TEMP 0 (unsigned 8 (clampInt (-128) 127 temp))

theorem Dev.sampled_evolves (d : Dev) (temp : Int) : Evolves [.glb, .regs] d (d.sampled temp) := (Dev.wr_evolves ..).after (Dev.setTemp_evolves ..).mono

theorem Dev.sampled_glb (d : Dev) (temp : Int) :
    (d.sampled temp).glb = { d.glb with temp := temp, tempMin := min d.glb.tempMin temp, tempMax := max d.glb.tempMax temp } := by
  unfold Dev.sampled
  rw [Dev.wr_glb]
  rfl

theorem tamperTempTrip_zeroises {temp : Int} (hpow : s.dev.powered = true) (htemp : temp < -55 ∨ 140 < temp) :
    DoesBat (.tamperTempTrip temp) s (s.bat.zeroised 6 (s.dev.tim.rtcNs / 1000000000 % 2 ^ 32)) (.glb :: .sec :: reportParts) (fun d =>
      d.sec.kdev = none ∧ d.on F.SEC_STS_ROOT_VALID = false ∧ d.glb.temp = temp) := by
  have hruns : exec (.tamperTempTrip temp) s = .next (({ s with dev := s.dev.sampled temp } : State).zeroise 6) :=
    by simp only [exec, execTamperTempTrip, if_pos htemp, Dev.sampled]
  have hpow' : (s.dev.sampled temp).powered = true := by
    unfold Dev.powered
    rw [Dev.sampled_glb]
    exact hpow
  refine .of_zeroise hruns hpow' ⟨_, rfl⟩ (s.dev.sampled_evolves temp).into (by decide) ((s.dev.sampled_evolves temp).keeps .tim (by decide))
    fun e hk _ hr hglb => ⟨hk, hr, ?_⟩
  rw [hglb, Dev.sampled_glb]

theorem tamperVoltageTrip_zeroises {core sram : Nat} (hpow : s.dev.powered = true) (harmed : s.dev.sec.armed = true)
    (hout : core < 700 ∨ 920 < core ∨ sram < 750 ∨ 970 < sram) :
    DoesBat (.tamperVoltageTrip core sram) s (s.bat.zeroised 7 (s.dev.tim.rtcNs / 1000000000 % 2 ^ 32)) (.sec :: reportParts) (fun d =>
      d.sec.kdev = none ∧ d.on F.SEC_STS_ROOT_VALID = false) := by
  have hcond : (s.dev.sec.armed && (core < 700 || 920 < core || sram < 750 || 970 < sram)) = true := by
    simpa [harmed, or_assoc] using hout
  exact .of_trip (congrArg Host.Outcome.next (if_pos hcond)) hpow

theorem tamperBatteryTrip_zeroises {vbat : Nat} (hpow : s.dev.powered = false) (hlow : vbat < 190) :
    DoesBat (.tamperBatteryTrip vbat) s
      { (({ s.bat with vbat := vbat } : Bat).zeroised 8 (s.dev.tim.rtcNs / 1000000000 % 2 ^ 32)) with owed := s.bat.owed || !s.bat.latch } []
      (fun d => d = s.dev) := by
  refine .of ?_ (Keeps.refl _ _) rfl
  simp only [exec, execTamperBatteryTrip, hpow, hlow, if_true, Bool.false_eq_true, if_false, State.zeroise, Bool.not_false, Bool.and_true]
  rfl

theorem tamperRootClockTrip_zeroises {khz : Nat} (hpow : s.dev.powered = true) (harmed : s.dev.sec.armed = true) (hout : khz < 22500 ∨ 27500 < khz) :
    DoesBat (.tamperRootClockTrip khz) s (s.bat.zeroised 9 (s.dev.tim.rtcNs / 1000000000 % 2 ^ 32)) (.sec :: reportParts) (fun d =>
      d.sec.kdev = none ∧ d.on F.SEC_STS_ROOT_VALID = false) := by
  have hruns : exec (.tamperRootClockTrip khz) s = .next (({ s with dev := s.dev.rootClock false } : State).zeroise 9) := by
    simp only [exec, execTamperRootClockTrip, hpow, harmed, decide_eq_true hout, if_true, Bool.and_self, Bool.not_true]
  have hev := s.dev.rootClock_evolves false
  have hpow' : (s.dev.rootClock false).powered = true := by
    unfold Dev.powered
    rw [hev.keeps .glb (by decide)]
    exact hpow
  exact .of_zeroise hruns hpow' ⟨_, rfl⟩ hev.into (by decide) (hev.keeps .tim (by decide)) fun _ hk _ hr _ => ⟨hk, hr⟩

/-- The next window starts with no failure counted. -/
def Dev.windowStarted (d : Dev) : Dev := { d with sec := { d.sec with winFails := 0, winStart := d.sec.winStart + 30000000000 } }

theorem authRateWindow_starts (hlive : s.dev.live = true) :
    Does .authRateWindow s (.tim :: .sec :: reportParts) (fun d => d.sec.winFails = 0 ∧ d.sec.winStart = s.dev.sec.winStart + 30000000000
      ∧ d.sec.kdev = s.dev.sec.kdev) := by
  have hpass : Evolves [.tim, .evr] s.dev (s.dev.toMono (s.dev.sec.winStart + 30000000000)) := Dev.toMono_evolves ..
  have hsec := hpass.keeps .sec (by decide)
  have hruns : ∃ (alarm : Bool) (t n : Nat), Runs .authRateWindow s (
      if alarm then
        ({ (s.dev.toMono (s.dev.sec.winStart + 30000000000)).windowStarted with
          sec := { (s.dev.toMono (s.dev.sec.winStart + 30000000000)).windowStarted.sec with rateAt := some t } } : Dev).recordPost 5 0x0402 1 4 0 0 n
      else (s.dev.toMono (s.dev.sec.winStart + 30000000000)).windowStarted) := by
    simp only [Runs, exec, execAuthRateWindow, State.go, State.withDev, hlive, Bool.not_true, Bool.false_eq_true, if_false]
    exact ⟨_, _, _, rfl⟩
  obtain ⟨alarm, t, n, hruns⟩ := hruns
  generalize s.dev.toMono (s.dev.sec.winStart + 30000000000) = d1 at hpass hsec hruns
  have hstarted : Evolves (.tim :: .sec :: reportParts) s.dev d1.windowStarted := Evolves.sec.after hpass.mono
  have hsec1 : d1.windowStarted.sec = { s.dev.sec with winFails := 0, winStart := s.dev.sec.winStart + 30000000000 } := by
    unfold Dev.windowStarted
    rw [hsec]
  generalize d1.windowStarted = d2 at hruns hstarted hsec1
  split at hruns
  · refine .of hruns ((Dev.recordPost_evolves ..).after <| Evolves.sec.after hstarted).keeps ?_
    rw [(Dev.recordPost_evolves ..).keeps .sec (by decide), hsec1]
    exact ⟨rfl, rfl, rfl⟩
  · exact .of hruns hstarted.keeps (by rw [hsec1]; exact ⟨rfl, rfl, rfl⟩)

end

/-- Settles O22, one command after the other. -/
theorem transportKeyAndTamper : Obligations.TransportKeyAndTamper :=
  ⟨fun _ _ => ktkClearLoad_takes_data, fun _ _ _ => ktkWrappedLoad_unwraps, fun _ _ => ktkErase_erases, fun _ _ => tamperLatchClear_clears,
    fun _ _ => tamperInputTrip_zeroises, fun _ => tamperMeshTrip_zeroises, fun _ _ => tamperTempTrip_zeroises, fun _ _ _ => tamperVoltageTrip_zeroises,
    fun _ _ => tamperBatteryTrip_zeroises, fun _ _ => tamperRootClockTrip_zeroises, fun _ => authRateWindow_starts⟩

end Sys2Proof.Machine
end

section

-- one proof after the other: the check gives the text few threads
set_option Elab.async false

namespace Sys2Proof.Machine

/-! ## O23: device resets -/

/-- Changes of a table at the listed offsets leave every other entry. -/
theorem Tab.find_foldl_other {α : Type} {f : Tab α → Nat → Tab α} {off : Nat} (hf : ∀ t o, off ≠ o → (f t o).find off = t.find off) {os : List Nat}
    (h : off ∉ os) (t : Tab α) : (os.foldl f t).find off = t.find off := by
  induction os generalizing t with
  | nil => rfl
  | cons o os ih =>
    obtain ⟨hne, hrest⟩ := not_or.1 (fun hin => h (List.mem_cons.2 hin))
    exact (ih hrest _).trans (hf t o hne)

theorem Dev.find_reborn (d : Dev) (power : Bool) {off : Nat} (h : off ∉ keptRegs power) : (d.reborn power).regs.find off = d.store.find off := by
  refine Tab.find_foldl_other (fun t o hne => ?_) h d.store
  split
  · exact Tab.find_put_other t o off _ hne
  · rfl

/-- A register that a reset does not keep has its stored setting, or its reset value. -/
theorem Dev.word_reborn (d : Dev) (power : Bool) {off : Nat} (h : off ∉ keptRegs power) :
    (d.reborn power).word off = (match d.store.find off with | some w => w.toNat | none => resetVal d.grade off) := by
  unfold Dev.word
  rw [d.find_reborn power h] <;> rfl

/-- What a restart leaves of the device before it. -/
theorem Dev.restart_resets (x : Dev) (cause : Nat) : (x.restart cause).glb.cause = cause
    ∧ (x.restart cause).glb.phase = (if (x.restart cause).released_ then .booting else .held) ∧ (x.restart cause).fn = []
    ∧ (x.restart cause).rng = {} ∧ (x.restart cause).lne = {}
    ∧ (∀ off, off ∉ keptRegs false → (x.restart cause).word off =
        (match (x.restart cause).store.find off with | some w => w.toNat | none => resetVal (x.restart cause).grade off)) :=
  ⟨rfl, rfl, rfl, rfl, rfl, fun _ hoff => x.word_reborn false hoff⟩

theorem Dev.restart_keeps (x : Dev) (cause : Nat) : (x.restart cause).store = x.store ∧ (x.restart cause).nand = x.nand
    ∧ (x.restart cause).evr.recs = x.evr.recs ∧ (x.restart cause).flt.hist = x.flt.hist := ⟨rfl, rfl, rfl, rfl⟩

theorem Dev.restart_pins (x : Dev) (cause : Nat) :
    (x.restart cause).glb.resetN = x.glb.resetN ∧ (x.restart cause).glb.perstN = x.glb.perstN ∧ (x.restart cause).sec.armed = false := ⟨rfl, rfl, rfl⟩

/-- A latched reset restarts a device that has the pins of the one before and, after the safe state, its store, media, records and history. -/
theorem Dev.latchReset_restarts {d : Dev} (cause : Nat) (h0 : d.glb.phase ≠ .unpowered) (h1 : d.glb.phase ≠ .failing) (h2 : d.glb.phase ≠ .failed) :
    ∃ x : Dev, d.latchReset cause = x.restart cause ∧ x.glb = d.glb ∧ (d.isSafe = true → x.store = d.store ∧ x.nand = d.nand ∧ x.evr = d.evr ∧ x.flt = d.flt) := by
  unfold Dev.latchReset
  extract_lets _ d0
  have hglb : d0.glb = d.glb := rfl
  have hsafe : d0.isSafe = d.isSafe := Evolves.upd.quiet.isSafe
  have hsame : d0.store = d.store ∧ d0.nand = d.nand ∧ d0.evr = d.evr ∧ d0.flt = d.flt := ⟨rfl, rfl, rfl, rfl⟩
  clear_value d0
  split
  · contradiction
  · contradiction
  · contradiction
  · split
    · exact ⟨d0, rfl, hglb, fun _ => hsame⟩
    · next hnot =>
      exact ⟨d0.silence.commit, rfl, (((Dev.commit_evolves ..).after (Dev.silence_evolves ..).mono : Evolves
        (.tar :: .nand :: .tim :: .ctx :: .par :: .sch :: .lcp :: .rad :: reportParts) _ _).keeps .glb (by decide)).trans hglb,
        fun h => absurd (hsafe.trans h) hnot⟩
  · exact ⟨d0, rfl, hglb, fun _ => hsame⟩

/-- A latched reset is a device reset of its cause (R583, R584, R615 to R618); the pins stand. -/
theorem Dev.latchReset_resetWith {b d : Dev} (cause : Nat) (h0 : d.glb.phase ≠ .unpowered) (h1 : d.glb.phase ≠ .failing) (h2 : d.glb.phase ≠ .failed)
    (hsafe : d.isSafe = b.isSafe) (hstore : d.store = b.store) (hnand : d.nand = b.nand) (hrecs : d.evr.recs = b.evr.recs) (hflt : d.flt = b.flt) :
    ResetWith cause b (d.latchReset cause) ∧ (d.latchReset cause).glb.resetN = d.glb.resetN ∧ (d.latchReset cause).glb.perstN = d.glb.perstN
      ∧ (d.latchReset cause).sec.armed = false := by
  obtain ⟨x, hx, hglb, hsame⟩ := Dev.latchReset_restarts cause h0 h1 h2
  obtain ⟨hcause, hphase, hfn, hrng, hlne, hword⟩ := x.restart_resets cause
  obtain ⟨kstore, knand, krecs, khist⟩ := x.restart_keeps cause
  obtain ⟨hr, hp, harmed⟩ := x.restart_pins cause
  rw [hx]
  refine ⟨⟨hcause, hphase, hfn, hrng, hlne, hword, fun hb => ?_⟩, by rw [hr, hglb], by rw [hp, hglb], harmed⟩
  obtain ⟨sstore, snand, sevr, sflt⟩ := hsame (hsafe.trans hb)
  exact ⟨by rw [kstore, sstore, hstore], by rw [knand, snand, hnand], by rw [krecs, sevr, hrecs], by rw [khist, sflt, hflt]⟩

section
variable {s : State}

/-- A device reset is latched at once. -/
theorem latchReset_does {c : Instr} {cause : Nat} (hruns : Runs c s (s.dev.latchReset cause)) (h0 : s.dev.glb.phase ≠ .unpowered)
    (h1 : s.dev.glb.phase ≠ .failing) (h2 : s.dev.glb.phase ≠ .failed) : Does c s resetParts (ResetWith cause s.dev) :=
  .of hruns (Dev.latchReset_evolves ..).into (Dev.latchReset_resetWith cause h0 h1 h2 rfl rfl rfl rfl rfl).1

theorem Dev.phase_ready_of_live {d : Dev} (h : d.live = true) : d.glb.phase = .ready := by
  unfold Dev.live at h
  exact of_decide_eq_true h

theorem softReset_resets {val : Word} (hlive : s.dev.live = true) (hkey : F.GLB_SOFT_RESET_KEY.get val.toNat = 0xC0DE)
    (hgo : F.GLB_SOFT_RESET_GO.get val.toNat = 1) : Does (.softReset val) s resetParts (ResetWith 6 s.dev) := by
  have hphase := Dev.phase_ready_of_live hlive
  have hruns : Runs (.softReset val) s (s.dev.latchReset 6) := by
    simp only [Runs, exec, execSoftReset, State.go, State.withDev, hlive, hkey, hgo, decide_true, Bool.and_self, if_true]
  exact latchReset_does hruns (by simp [hphase]) (by simp [hphase]) (by simp [hphase])

/-- The device with the pin RESET_N low. -/
def Dev.resetLow (d : Dev) : Dev := { d with glb := { d.glb with resetN := false }, sec := { d.sec with armed := false } }

/-- The device with the pin PERST_N low. -/
def Dev.perstLow (d : Dev) : Dev := { d with glb := { d.glb with perstN := false } }

theorem Dev.resetLow_evolves (d : Dev) : Evolves [.glb, .sec] d d.resetLow := .over [.glb, .sec] .refl

theorem Dev.perstLow_evolves (d : Dev) : Evolves [.glb] d d.perstLow := .over [.glb] .refl

theorem resetNAssert_resets (h0 : s.dev.glb.phase ≠ .unpowered) (h1 : s.dev.glb.phase ≠ .failing) (h2 : s.dev.glb.phase ≠ .failed) :
    Does .resetNAssert s resetParts (fun d => ResetWith 2 s.dev d ∧ d.glb.resetN = false ∧ d.sec.armed = false) := by
  have hruns : Runs .resetNAssert s (s.dev.resetLow.latchReset 2) := rfl
  have hev := s.dev.resetLow_evolves
  have hsame : ResetWith 2 s.dev (s.dev.resetLow.latchReset 2) ∧ _ := Dev.latchReset_resetWith (b := s.dev) (d := s.dev.resetLow) 2 h0 h1 h2
    hev.quiet.isSafe (hev.keeps .store (by decide)) (hev.keeps .nand (by decide)) (congrArg Evr.recs (hev.keeps .evr (by decide))) (hev.keeps .flt (by decide))
  obtain ⟨hreset, hresetN, _, harmed⟩ := hsame
  exact .of hruns ((Dev.latchReset_evolves ..).after hev.mono).keeps ⟨hreset, hresetN, harmed⟩

theorem perstNAssert_resets (h0 : s.dev.glb.phase ≠ .unpowered) (h1 : s.dev.glb.phase ≠ .failing) (h2 : s.dev.glb.phase ≠ .failed) :
    Does .perstNAssert s resetParts (fun d => ResetWith 3 s.dev d ∧ d.glb.perstN = false) := by
  have hruns : Runs .perstNAssert s (s.dev.perstLow.latchReset 3) := rfl
  have hev := s.dev.perstLow_evolves
  have hsame : ResetWith 3 s.dev (s.dev.perstLow.latchReset 3) ∧ _ := Dev.latchReset_resetWith (b := s.dev) (d := s.dev.perstLow) 3 h0 h1 h2
    hev.quiet.isSafe (hev.keeps .store (by decide)) (hev.keeps .nand (by decide)) (congrArg Evr.recs (hev.keeps .evr (by decide))) (hev.keeps .flt (by decide))
  obtain ⟨hreset, _, hperstN, _⟩ := hsame
  exact .of hruns ((Dev.latchReset_evolves ..).after hev.mono).keeps ⟨hreset, hperstN⟩

theorem Dev.toMono_recs (d : Dev) (n : Nat) : (d.toMono n).evr.recs = d.evr.recs := rfl

theorem autoResetExpiry_resets {t : Nat} (hat : s.dev.flt.safeAt = some t) (hlive : s.dev.live = true) (hsafe : s.dev.isSafe = true)
    (hauto : s.dev.flt.autoRst ≠ 0) : Does .autoResetExpiry s resetParts (ResetWith 7 s.dev) := by
  have hruns : Runs .autoResetExpiry s ((s.dev.toMono (t + s.dev.flt.autoRst * 500000000)).latchReset 7) := by
    simp [Runs, exec, execAutoResetExpiry, State.go, State.withDev, hat, hlive, hsafe, hauto]
  have hev : Evolves [.tim, .evr] s.dev (s.dev.toMono (t + s.dev.flt.autoRst * 500000000)) := Dev.toMono_evolves ..
  have hrecs : (s.dev.toMono (t + s.dev.flt.autoRst * 500000000)).evr.recs = s.dev.evr.recs := Dev.toMono_recs ..
  have hphase : (s.dev.toMono (t + s.dev.flt.autoRst * 500000000)).glb.phase = .ready := by
    rw [hev.keeps .glb (by decide)]
    exact Dev.phase_ready_of_live hlive
  generalize s.dev.toMono (t + s.dev.flt.autoRst * 500000000) = d1 at hruns hev hrecs hphase
  exact .of hruns ((Dev.latchReset_evolves ..).after hev.mono).keeps (Dev.latchReset_resetWith 7 (by simp [hphase]) (by simp [hphase]) (by simp [hphase])
    hev.quiet.isSafe (hev.keeps .store (by decide)) (hev.keeps .nand (by decide)) hrecs (hev.keeps .flt (by decide))).1

theorem resetRelease_boots {resetN perstN : Bool} (hheld : s.dev.glb.phase = .held) (hr : (s.dev.glb.resetN || resetN) = true)
    (hp : (s.dev.glb.perstN || perstN) = true) (hpwr : s.dev.glb.pwrFailN = true) :
    Does (.resetRelease resetN perstN) s [.glb] (fun d => d.glb.phase = .booting) := by
  have hruns : Runs (.resetRelease resetN perstN) s (s.dev.releasePins resetN perstN false) := rfl
  refine .of hruns (Dev.releasePins_evolves ..).into ?_
  simp [Dev.releasePins, Dev.released_, hheld, hr, hp, hpwr]

end

/-- Settles O23, one command after the other. -/
theorem deviceResets : Obligations.DeviceResets :=
  ⟨fun _ _ => softReset_resets, fun _ => resetNAssert_resets, fun _ => perstNAssert_resets, fun _ => latchReset_does rfl, fun _ => latchReset_does rfl,
    fun _ _ => autoResetExpiry_resets, fun _ _ _ => resetRelease_boots⟩

end Sys2Proof.Machine
end

section

-- one proof after the other: the check gives the text few threads
set_option Elab.async false

namespace Sys2Proof.Machine

/-! ## What the monitors and the validity of device time write -/

theorem Dev.timeCheck_writes (d : Dev) : Writes eventFields d d.timeCheck := by
  unfold Dev.timeCheck
  extract_lets _ _ d0 _ d1
  have hd0 : Writes eventFields d d0 := Evolves.tim.quiet.mono
  have hd1 : Writes eventFields d d1 := Evolves.tim.quiet.after hd0
  exact .ite hd0 ((Dev.recordPost_writes ..).after hd1)

theorem Dev.holdFell_writes (d : Dev) : Writes ([F.PWR_HOLD_LOW_CNT] ++ eventFields) d d.holdFell := by
  unfold Dev.holdFell
  extract_lets d1
  have hd1 : Writes ([F.PWR_HOLD_LOW_CNT] ++ eventFields) d d1 := (Dev.post_writes ..).after <| (Writes.bump ..).mono
  exact .ite ((Dev.record_writes ..).after <| Evolves.glb.quiet.after hd1) hd1

end Sys2Proof.Machine
end

section

-- one proof after the other: the check gives the text few threads
set_option Elab.async false

namespace Sys2Proof.Machine

/-! ## O25: power failure and the board monitors -/

/-- The monitors of R287 disarm, and a pending activation notes the failure. -/
def Dev.disarmed (d : Dev) : Dev := { d with upd := { d.upd with failSeen := d.upd.failSeen || d.upd.mark.isSome }, sec := { d.sec with armed := false } }

theorem Dev.disarmed_evolves (d : Dev) : Evolves [.upd, .sec] d d.disarmed := .over [.upd, .sec] .refl

/-- What the start of the commit leaves of a READY device. -/
theorem Dev.failStart_ready {d : Dev} (h : d.glb.phase = .ready) :
    Evolves [.regs, .glb, .tim, .rng, .lne, .evr, .flt, .ctx, .par, .sec, .sch, .lcp, .rad, .upd, .freeCtr, .out] d d.failStart
      ∧ d.failStart.glb = { d.glb with phase := .failing, stagedAt := d.evr.staged.length } ∧ d.failStart.sec = { d.sec with armed := false } := by
  have hd0 := d.disarmed_evolves
  have hsec0 : d.disarmed.sec = { d.sec with armed := false } := rfl
  have hglb0 : d.disarmed.glb = d.glb := rfl
  have hstart : d.failStart =
      { (if (d.disarmed.wr F.PWR_LAST_COMMIT_V_FAIL 0 (d.disarmed.rd F.PWR_HOLD_STS_VHOLD)).isSafe then
            d.disarmed.wr F.PWR_LAST_COMMIT_V_FAIL 0 (d.disarmed.rd F.PWR_HOLD_STS_VHOLD)
          else (d.disarmed.wr F.PWR_LAST_COMMIT_V_FAIL 0 (d.disarmed.rd F.PWR_HOLD_STS_VHOLD)).silence) with
        glb := { (if (d.disarmed.wr F.PWR_LAST_COMMIT_V_FAIL 0 (d.disarmed.rd F.PWR_HOLD_STS_VHOLD)).isSafe then
            d.disarmed.wr F.PWR_LAST_COMMIT_V_FAIL 0 (d.disarmed.rd F.PWR_HOLD_STS_VHOLD)
          else (d.disarmed.wr F.PWR_LAST_COMMIT_V_FAIL 0 (d.disarmed.rd F.PWR_HOLD_STS_VHOLD)).silence).glb with
            phase := .failing, stagedAt := d.evr.staged.length } } := by
    unfold Dev.failStart
    rw [h]
    rfl
  rw [hstart]
  generalize d.disarmed = d0 at hd0 hsec0 hglb0
  have h1 : Evolves [.upd, .sec, .regs] d (d0.wr F.PWR_LAST_COMMIT_V_FAIL 0 (d0.rd F.PWR_HOLD_STS_VHOLD)) := (Dev.wr_evolves ..).after hd0.mono
  have hsec1 : (d0.wr F.PWR_LAST_COMMIT_V_FAIL 0 (d0.rd F.PWR_HOLD_STS_VHOLD)).sec = { d.sec with armed := false } := by rw [Dev.wr_sec, hsec0]
  have hglb1 : (d0.wr F.PWR_LAST_COMMIT_V_FAIL 0 (d0.rd F.PWR_HOLD_STS_VHOLD)).glb = d.glb := by rw [Dev.wr_glb, hglb0]
  generalize d0.wr F.PWR_LAST_COMMIT_V_FAIL 0 (d0.rd F.PWR_HOLD_STS_VHOLD) = d1 at h1 hsec1 hglb1
  have hquiet : Evolves (.tim :: .ctx :: .par :: .sch :: .lcp :: .rad :: reportParts) d1 (if d1.isSafe then d1 else d1.silence) :=
    .ite .refl (Dev.silence_evolves ..)
  have hsec2 := hquiet.keeps .sec (by decide)
  have hglb2 := hquiet.keeps .glb (by decide)
  generalize (if d1.isSafe then d1 else d1.silence) = d2 at hquiet hsec2 hglb2
  refine ⟨Evolves.glb.after <| hquiet.after h1.mono, ?_, hsec2.trans hsec1⟩
  rw [show d2.glb = d1.glb from hglb2, hglb1]

section
variable {s : State}

/-- The device with PWR_FAIL_N low, and shown so. -/
def Dev.supplyLow (d : Dev) : Dev := { d.wrb F.PWR_SUP_STS_PWR_FAIL 0 true with glb := { d.glb with pwrFailN := false } }

theorem Dev.supplyLow_evolves (d : Dev) : Evolves [.regs, .glb] d d.supplyLow := Evolves.glb.after (Dev.wrb_evolves ..).mono

theorem Dev.supplyLow_glb (d : Dev) : d.supplyLow.glb = { d.glb with pwrFailN := false } := rfl

theorem pwrFailFall_starts (hready : s.dev.glb.phase = .ready) :
    Does .pwrFailFall s [.regs, .glb, .tim, .rng, .lne, .evr, .flt, .ctx, .par, .sec, .sch, .lcp, .rad, .upd, .freeCtr, .out] (fun d =>
      d.glb.phase = .failing ∧ d.glb.pwrFailN = false ∧ d.glb.stagedAt = s.dev.evr.staged.length ∧ d.sec = { s.dev.sec with armed := false }) := by
  have hlive : s.dev.live = true := decide_eq_true hready
  have hruns : Runs .pwrFailFall s s.dev.supplyLow.failStart := by
    simp only [Runs, exec, execPwrFailFall, State.go, State.withDev, Dev.powered_of_live hlive, hlive, if_true]
    rfl
  have hlow := s.dev.supplyLow_evolves
  have hglb0 := s.dev.supplyLow_glb
  generalize s.dev.supplyLow = d0 at hruns hlow hglb0
  obtain ⟨hev, hglb, hsec⟩ := Dev.failStart_ready (d := d0) (by rw [hglb0]; exact hready)
  refine .of hruns (hev.after hlow.mono).keeps ⟨by rw [hglb], by rw [hglb, hglb0], ?_, ?_⟩
  · rw [hglb, hlow.keeps .evr (by decide)]
  · rw [hsec, hlow.keeps .sec (by decide)]

theorem railTrip_starts {rails : BitVec 10} (hready : s.dev.glb.phase = .ready) (hpwr : s.dev.glb.pwrFailN = true) (hrails : rails ≠ 0) :
    Does (.railTrip rails) s [.regs, .glb, .tim, .rng, .lne, .evr, .flt, .ctx, .par, .sec, .sch, .lcp, .rad, .upd, .freeCtr, .out] (fun d =>
      d.glb.phase = .failing ∧ d.sec = { s.dev.sec with armed := false }) := by
  have hlive : s.dev.live = true := decide_eq_true hready
  have hruns : ∃ m, Runs (.railTrip rails) s
      ((((s.dev.wr F.PWR_SUP_STS_RAIL_OK 0 m).bump F.PWR_RAIL_TRIP).record 0x1303 0x13 0 rails.toNat).failStart) := by
    simp only [Runs, exec, execRailTrip, State.go, State.withDev, Dev.powered_of_live hlive, hlive, hpwr, ne_eq, hrails, not_false_eq_true, decide_true,
      Bool.and_self, if_true]
    exact ⟨_, rfl⟩
  obtain ⟨m, hruns⟩ := hruns
  have hrec : Evolves reportParts s.dev (((s.dev.wr F.PWR_SUP_STS_RAIL_OK 0 m).bump F.PWR_RAIL_TRIP).record 0x1303 0x13 0 rails.toNat) :=
    (Dev.record_evolves ..).after <| (Dev.bump_evolves ..).after (Dev.wr_evolves ..).mono
  generalize ((s.dev.wr F.PWR_SUP_STS_RAIL_OK 0 m).bump F.PWR_RAIL_TRIP).record 0x1303 0x13 0 rails.toNat = d1 at hruns hrec
  obtain ⟨hev, hglb, hsec⟩ := Dev.failStart_ready (d := d1) (by rw [hrec.keeps .glb (by decide)]; exact hready)
  refine .of hruns (hev.after hrec.mono).keeps ⟨by rw [hglb], ?_⟩
  rw [hsec, hrec.keeps .sec (by decide)]

theorem Dev.commit_marks (d : Dev) : d.commit.nand.clean = true ∧ d.commit.evr.saved = d.commit.evr.optime := ⟨rfl, rfl⟩

/-- The end of the commit, once it is recorded. -/
def Dev.commitEnded (d1 : Dev) : Dev :=
  let d2 := (if d1.isSafe then d1 else d1.commit).wr F.PWR_LAST_COMMIT_V_END 0 (d1.rd F.PWR_HOLD_STS_VHOLD)
  let w := BitVec.ofNat 32 (d2.word 0x130010)
  { d2 with store := if w = 0 then d2.store.del 0x130010 else d2.store.put 0x130010 w, glb := { d2.glb with phase := .failed } }

theorem Dev.failDone_eq (d : Dev) (us : Nat) :
    d.failDone us = (((d.passCycles (500 * us)).bump F.PWR_FAIL_CNT).record 0x1010 0x13 0 us d.glb.stagedAt).commitEnded := rfl

theorem Dev.commitEnded_phase (d : Dev) : d.commitEnded.glb.phase = .failed := rfl

theorem Dev.commitEnded_nand_evr (d : Dev) : d.commitEnded.nand = (if d.isSafe then d else d.commit).nand
    ∧ d.commitEnded.evr = (if d.isSafe then d else d.commit).evr := by
  unfold Dev.commitEnded
  generalize (if d.isSafe then d else d.commit) = x
  exact ⟨rfl, rfl⟩

/-- What holds the media and the recorder of a device that has committed is marked so. -/
theorem Dev.marks_of_commit {d e : Dev} (hnand : e.nand = (if d.isSafe then d else d.commit).nand) (hevr : e.evr = (if d.isSafe then d else d.commit).evr)
    (h : d.isSafe = false) : e.nand.clean = true ∧ e.evr.saved = e.evr.optime := by
  have hc : (if d.isSafe then d else d.commit) = d.commit := if_neg (by rw [h]; decide)
  rw [hc] at hnand hevr
  rw [hnand, hevr]
  exact d.commit_marks

theorem powerFailCommitDone_ends {us : Nat} (hfailing : s.dev.glb.phase = .failing) :
    Does (.powerFailCommitDone us) s [.regs, .store, .glb, .tim, .rng, .lne, .evr, .flt, .tar, .nand, .freeCtr, .out] (fun d =>
      d.glb.phase = .failed ∧ (s.dev.isSafe = false → d.nand.clean = true ∧ d.evr.saved = d.evr.optime)) := by
  have hruns : Runs (.powerFailCommitDone us) s (s.dev.failDone us) := by
    simp only [Runs, exec, execPowerFailCommitDone, State.go, State.withDev, hfailing, if_true]
  refine .of hruns (Dev.failDone_evolves ..).into ?_
  rw [Dev.failDone_eq]
  refine ⟨Dev.commitEnded_phase _, fun hunsafe => Dev.marks_of_commit (Dev.commitEnded_nand_evr _).1 (Dev.commitEnded_nand_evr _).2 ?_⟩
  rw [(Dev.record_writes ..).isSafe, (Writes.bump ..).isSafe, (Dev.passCycles_evolves ..).quiet.isSafe, hunsafe]

/-- The device starts again after a loss of power with one power cycle more. -/
def Dev.powerCycled (x : Dev) : Dev := { x with evr := { x.evr with powerCycles := x.evr.powerCycles + 1 }, glb := { x.glb with phase := .held, cause := 1 } }

/-- After some cycles the device starts again, and boots once every source is released. -/
def Dev.rebooted (x : Dev) (n : Nat) : Dev := ((x.passCycles n).reborn true).powerCycled.releasePins false false false

/-- The device with PWR_FAIL_N high again. -/
def Dev.supplyHigh (d : Dev) : Dev := { d with glb := { d.glb with pwrFailN := true } }

/-- The parts that a new start changes. -/
def rebornParts : List Part := [.regs, .dirty, .fn, .glb, .tim, .rng, .lne, .evr, .flt, .ctx, .tar, .par, .ftl, .sec, .sch, .lcp, .rad, .cals, .ldg, .met,
  .eth, .fl, .upd]

theorem Dev.powerCycled_reborn (x : Dev) (n : Nat) : Evolves rebornParts x ((x.passCycles n).reborn true).powerCycled :=
  .over [.evr, .glb] ((Dev.reborn_evolves ..).after (Dev.passCycles_evolves ..).mono)

theorem Dev.rebooted_evolves (x : Dev) (n : Nat) : Evolves rebornParts x (x.rebooted n) := (Dev.releasePins_evolves ..).after (x.powerCycled_reborn n)

theorem Dev.releasePins_held {y : Dev} (h : y.glb.phase = .held) : (y.releasePins false false false).glb =
    { y.glb with phase := if y.released_ then .booting else .held } := by
  unfold Dev.releasePins
  simp only [Bool.or_false, h, true_and]
  split
  · next hrel => rw [if_pos (show y.released_ = true from hrel)]
  · next hrel => rw [if_neg (show ¬ y.released_ = true from hrel), ← h]

theorem Dev.rebooted_glb (x : Dev) (n : Nat) : (x.rebooted n).glb.cause = 1
    ∧ (x.rebooted n).glb.phase = (if x.glb.resetN && x.glb.perstN && x.glb.pwrFailN then .booting else .held) := by
  have hheld : ((x.passCycles n).reborn true).powerCycled.glb.phase = .held := rfl
  have hrel : ((x.passCycles n).reborn true).powerCycled.released_ = (x.glb.resetN && x.glb.perstN && x.glb.pwrFailN) := rfl
  have hcause : ((x.passCycles n).reborn true).powerCycled.glb.cause = 1 := rfl
  unfold Dev.rebooted
  rw [Dev.releasePins_held hheld, hrel, hcause]
  exact ⟨rfl, rfl⟩

theorem Dev.rebooted_keeps (x : Dev) (n : Nat) : (x.rebooted n).evr.powerCycles = x.evr.powerCycles + 1 ∧ (x.rebooted n).evr.recs = x.evr.recs
    ∧ (x.rebooted n).fn = [] ∧ (x.rebooted n).rng = {} := by
  have hborn : ((x.passCycles n).reborn true).powerCycled.evr.powerCycles = x.evr.powerCycles + 1
      ∧ ((x.passCycles n).reborn true).powerCycled.evr.recs = x.evr.recs ∧ ((x.passCycles n).reborn true).powerCycled.fn = []
      ∧ ((x.passCycles n).reborn true).powerCycled.rng = {} := ⟨rfl, rfl, rfl, rfl⟩
  unfold Dev.rebooted
  generalize ((x.passCycles n).reborn true).powerCycled = y at hborn
  have hkeeps := (Dev.releasePins_evolves y false false false).keeps
  rw [hkeeps .evr (by decide), hkeeps .fn (by decide), hkeeps .rng (by decide)]
  exact hborn

theorem pwrFailRise_boots (hfailed : s.dev.glb.phase = .failed) :
    Does .pwrFailRise s resetParts (fun d => d.glb.phase = (if s.dev.glb.resetN && s.dev.glb.perstN then .booting else .held) ∧ d.glb.cause = 1
      ∧ d.evr.powerCycles = s.dev.evr.powerCycles + 1 ∧ d.store = s.dev.store ∧ d.nand = s.dev.nand ∧ d.evr.recs = s.dev.evr.recs ∧ d.fn = [] ∧ d.rng = {}) := by
  have hpins : s.dev.releasePins false false true = s.dev.supplyHigh := by
    simp [Dev.releasePins, Dev.supplyHigh, hfailed]
  have hphase : s.dev.supplyHigh.glb.phase = .failed := hfailed
  have hruns : Runs .pwrFailRise s (s.dev.supplyHigh.rebooted 50000000) := by
    simp only [Runs, exec, execPwrFailRise, State.go, State.withDev, hpins, hphase, if_true]
    rfl
  have hhigh : Evolves [.glb] s.dev s.dev.supplyHigh := Evolves.glb
  have hglb : s.dev.supplyHigh.glb = { s.dev.glb with pwrFailN := true } := rfl
  generalize s.dev.supplyHigh = x at hruns hhigh hglb
  have hev : Evolves rebornParts x (x.rebooted 50000000) := Dev.rebooted_evolves ..
  obtain ⟨hcause, hphase'⟩ := x.rebooted_glb 50000000
  obtain ⟨hpc, hrecs, hfn, hrng⟩ := x.rebooted_keeps 50000000
  generalize x.rebooted 50000000 = e at *
  rw [hglb] at hphase'
  have hevr : x.evr = s.dev.evr := hhigh.keeps .evr (by decide)
  refine .of hruns (hev.after hhigh.mono).keeps ⟨by simpa using hphase', hcause, by rw [hpc, hevr], ?_, ?_, by rw [hrecs, hevr], hfn, hrng⟩
  · exact (hev.keeps .store (by decide)).trans (hhigh.keeps .store (by decide))
  · exact (hev.keeps .nand (by decide)).trans (hhigh.keeps .nand (by decide))

/-! ### The monitors -/

theorem holdQuot_lt (n den : Nat) : holdQuot n den < 2 ^ 16 := by
  unfold holdQuot
  omega

/-- The sample and its energy, shown. -/
def Dev.holdShown (d : Dev) (x : Nat) : Dev :=
  (d.wr F.PWR_HOLD_STS_VHOLD 0 (holdQuot x 2560)).wr F.PWR_HOLD_STS_E_AVAIL 0 (holdQuot (d.holdNum x) 6553600000000000)

/-- What a sample leaves of HOLD_LOW and of what the monitor shows. -/
theorem Dev.holdSample_from (d : Dev) (mv : Nat) : ∃ e : Dev, d.holdSample mv = e
    ∧ e.rd F.PWR_HOLD_STS_VHOLD = (d.holdShown (mv * d.rd F.PWR_HOLD_RSV_DIV)).rd F.PWR_HOLD_STS_VHOLD
    ∧ e.rd F.PWR_HOLD_STS_E_AVAIL = (d.holdShown (mv * d.rd F.PWR_HOLD_RSV_DIV)).rd F.PWR_HOLD_STS_E_AVAIL
    ∧ (d.glb.holdRun = 15 → e.on F.PWR_SUP_STS_HOLD_LOW = d.holdLow (mv * d.rd F.PWR_HOLD_RSV_DIV)) := by
  refine ⟨_, rfl, ?_⟩
  unfold Dev.holdSample
  extract_lets x d1 low _ d2
  have hshown : Writes [F.PWR_HOLD_STS_VHOLD, F.PWR_HOLD_STS_E_AVAIL] d d1 := (Writes.wr ..).after (Writes.wr ..).mono
  have h1 : d1 = d.holdShown x := rfl
  rw [← h1]
  clear_value d1
  split
  · next hsame => exact ⟨Evolves.glb.quiet.rd_eq _, Evolves.glb.quiet.rd_eq _, fun _ => (Evolves.glb.quiet.on _).trans ((hshown.on _).trans hsame.symm)⟩
  · split
    · next hrun => exact ⟨Evolves.glb.quiet.rd_eq _, Evolves.glb.quiet.rd_eq _, fun h15 => by omega⟩
    · have h2 : Writes [F.PWR_SUP_STS_HOLD_LOW] d1 d2 := (Writes.wrb ..).after Evolves.glb.quiet.mono
      have hlow : d2.on F.PWR_SUP_STS_HOLD_LOW = low := Dev.on_wrb _ _ _ _ (by decide) rfl
      clear_value d2
      split
      · have hfell := d2.holdFell_writes
        exact ⟨(hfell.rd_eq _).trans (h2.rd_eq _), (hfell.rd_eq _).trans (h2.rd_eq _), fun _ => (hfell.on _).trans hlow⟩
      · exact ⟨h2.rd_eq _, h2.rd_eq _, fun _ => hlow⟩

theorem holdupSample_shows {mv : BitVec 12} (hphase : s.dev.glb.phase = .ready ∨ s.dev.glb.phase = .failing) :
    Does (.holdupSample mv) s (.glb :: reportParts) (fun d =>
      d.rd F.PWR_HOLD_STS_VHOLD = holdQuot (mv.toNat * s.dev.rd F.PWR_HOLD_RSV_DIV) 2560
        ∧ d.rd F.PWR_HOLD_STS_E_AVAIL = holdQuot (s.dev.holdNum (mv.toNat * s.dev.rd F.PWR_HOLD_RSV_DIV)) 6553600000000000
        ∧ (s.dev.glb.holdRun = 15 → d.on F.PWR_SUP_STS_HOLD_LOW = s.dev.holdLow (mv.toNat * s.dev.rd F.PWR_HOLD_RSV_DIV))) := by
  have hruns : Runs (.holdupSample mv) s (s.dev.holdSample mv.toNat) := by
    simp only [Runs, exec, execHoldupSample, State.go, State.withDev, hphase, if_true]
  obtain ⟨e, he, hv, havail, hlow⟩ := s.dev.holdSample_from mv.toNat
  rw [he] at hruns
  refine .of hruns (he ▸ (Dev.holdSample_evolves ..).into) ⟨hv.trans ?_, havail.trans ?_, hlow⟩
  · exact ((Writes.wr ..).rd_eq _).trans ((Dev.rd_wr _ _ _ _ (by decide)).trans (Nat.mod_eq_of_lt (holdQuot_lt ..)))
  · exact (Dev.rd_wr _ _ _ _ (by decide)).trans (Nat.mod_eq_of_lt (holdQuot_lt ..))

theorem Dev.rd_lt (d : Dev) (f : F) (i : Nat) : d.rd f i < 2 ^ f.len := Nat.mod_lt _ (Nat.two_pow_pos _)

theorem pwrTempClear_resets_extremes {val : Word} (hlive : s.dev.live = true) :
    Does (.pwrTempClear val) s [.regs] (fun d => d.rd F.PWR_TEMP_TJ_MAX = s.dev.rd F.PWR_TEMP_TJ ∧ d.rd F.PWR_TEMP_TJ_MIN = s.dev.rd F.PWR_TEMP_TJ
      ∧ d.rd F.PWR_TEMP_TJ = s.dev.rd F.PWR_TEMP_TJ ∧ KeepsRegs [F.PWR_TEMP_TJ.off] s.dev d) := by
  have hruns : Runs (.pwrTempClear val) s ((s.dev.wr F.PWR_TEMP_TJ_MAX 0 (s.dev.rd F.PWR_TEMP_TJ)).wr F.PWR_TEMP_TJ_MIN 0 (s.dev.rd F.PWR_TEMP_TJ)) := by
    simp only [Runs, exec, execPwrTempClear, State.go, State.withDev, hlive, if_true]
  have htj : s.dev.rd F.PWR_TEMP_TJ % 2 ^ 8 = s.dev.rd F.PWR_TEMP_TJ := Nat.mod_eq_of_lt (s.dev.rd_lt ..)
  refine .of hruns ((Dev.wr_evolves ..).after (Dev.wr_evolves ..)).keeps ⟨?_, ?_, ?_, ?_⟩
  · exact ((Writes.wr ..).rd_eq _).trans ((Dev.rd_wr _ _ _ _ (by decide)).trans htj)
  · exact (Dev.rd_wr _ _ _ _ (by decide)).trans htj
  · exact ((Writes.wr ..).rd_eq _).trans ((Writes.wr ..).rd_eq _)
  · exact (keepsRegs_wr (f := F.PWR_TEMP_TJ_MAX) (i := 0)).trans (keepsRegs_wr (f := F.PWR_TEMP_TJ_MIN) (i := 0))

theorem Dev.timeCheck_rtcValid (d : Dev) : d.timeCheck.tim.rtcValid = d.tim.rtcValid := by
  unfold Dev.timeCheck
  extract_lets v d0 d1
  split
  · rfl
  · rw [(Dev.recordPost_evolves ..).keeps .tim (by decide)]

theorem rtcOscillatorStop_stops (hlive : s.dev.live = true) :
    Does .rtcOscillatorStop s (.tim :: reportParts) (fun d => d.tim.rtcValid = false ∧ d.on F.GLB_CLK_STS_RTC_RUN = false
      ∧ d.on F.TIM_STS_RTC_VALID = false) := by
  have hruns : Runs .rtcOscillatorStop s (((({ s.dev with tim := { s.dev.tim with rtcValid := false } } : Dev).wrb F.GLB_CLK_STS_RTC_RUN 0 false).wrb
      F.TIM_STS_RTC_VALID 0 false).timeCheck) := congrArg (fun d => Host.Outcome.next (s.withDev d)) (if_pos hlive)
  have hstop : Evolves [.tim, .regs] s.dev ((({ s.dev with tim := { s.dev.tim with rtcValid := false } } : Dev).wrb F.GLB_CLK_STS_RTC_RUN 0 false).wrb
      F.TIM_STS_RTC_VALID 0 false) := (Dev.wrb_evolves ..).after <| (Dev.wrb_evolves ..).after Evolves.tim.mono
  refine .of hruns ((Dev.timeCheck_evolves ..).after hstop.mono).keeps ⟨?_, ?_, ?_⟩
  · rw [Dev.timeCheck_rtcValid]
    rfl
  · exact ((Dev.timeCheck_writes ..).on _).trans (((Writes.wrb F.TIM_STS_RTC_VALID ..).on _).trans (Dev.on_wrb _ _ _ _ (by decide) rfl))
  · exact ((Dev.timeCheck_writes ..).on _).trans (Dev.on_wrb _ _ _ _ (by decide) rfl)

end

/-- Settles O25, one command after the other. -/
theorem powerFailureAndMonitors : Obligations.PowerFailureAndMonitors :=
  ⟨fun _ => pwrFailFall_starts, fun _ _ => railTrip_starts, fun _ _ => powerFailCommitDone_ends, fun _ => pwrFailRise_boots, fun _ _ => holdupSample_shows,
    fun _ _ => pwrTempClear_resets_extremes, fun _ => rtcOscillatorStop_stops⟩

end Sys2Proof.Machine
end

section

-- one proof after the other: the check gives the text few threads
set_option Elab.async false

namespace Sys2Proof.Machine

/-! ## What a count of an Ethernet port writes -/

theorem Dev.ethCount_writes (d : Dev) (p i n : Nat) : Writes eventFields d (d.ethCount p i n) := by
  unfold Dev.ethCount
  extract_lets _ _ _ d1
  have hd1 : Writes eventFields d d1 := .ite .refl ((Dev.setEp_evolves ..).quiet.mono)
  exact .ite ((Dev.post_writes ..).after hd1) hd1

end Sys2Proof.Machine
end

section

-- one proof after the other: the check gives the text few threads
set_option Elab.async false

namespace Sys2Proof.Machine

/-! ## O26: Ethernet ports -/

/-- The field of one of a series of registers, which whatever is written leaves. -/
theorem Writes.rd_fin {fs : List F} {d e : Dev} {n : Nat} (h : Writes fs d e) (g : F) (i : Fin n)
    (hg : ∀ i : Fin n, (fs.all fun f => f.spares g i) = true := by decide +kernel) : e.rd g i = d.rd g i := h.rd g i (hg i)

theorem Writes.on_fin {fs : List F} {d e : Dev} {n : Nat} (h : Writes fs d e) (g : F) (i : Fin n)
    (hg : ∀ i : Fin n, (fs.all fun f => f.spares g i) = true := by decide +kernel) : e.on g i = d.on g i := h.on g i (hg i)

@[simp] theorem Dev.ep_setEp (d : Dev) (p : Nat) (x : Eth) : (d.setEp p x).ep p = x := Tab.getD_set _ _ _ _

theorem Dev.ep_congr {d e : Dev} (h : e.eth = d.eth) (p : Nat) : e.ep p = d.ep p := by
  unfold Dev.ep
  rw [h]

/-- A port with a counter risen. -/
def Eth.counted (x : Eth) (i n : Nat) : Eth := if n = 0 then x else { x with cnt := x.cnt.put i ((x.cnt.getD i 0 + n) % 2 ^ 64) }

theorem Tab.getD_put_self {α : Type} (t : Tab α) (k : Nat) (x y : α) : (t.put k x).getD k y = x := by simp [Tab.getD]

theorem Tab.getD_put_other {α : Type} (t : Tab α) {k j : Nat} (x y : α) (h : j ≠ k) : (t.put k x).getD j y = t.getD j y := by
  simp [Tab.getD, Tab.find_put_other t k j x h]

theorem Eth.counted_cnt_self (x : Eth) (i : Nat) : (x.counted i 1).cnt.getD i 0 = (x.cnt.getD i 0 + 1) % 2 ^ 64 := Tab.getD_put_self ..

theorem Eth.counted_cnt_other (x : Eth) {i j : Nat} (n : Nat) (h : j ≠ i) : (x.counted i n).cnt.getD j 0 = x.cnt.getD j 0 := by
  unfold Eth.counted
  split
  · rfl
  · exact Tab.getD_put_other _ _ _ h

/-- A count changes nothing of the port but the counter. -/
theorem Eth.counted_eq (x : Eth) (i n : Nat) : x.counted i n = { x with cnt := (x.counted i n).cnt } := by
  unfold Eth.counted
  split <;> rfl

theorem Dev.ep_ethCount (d : Dev) (p i n : Nat) : (d.ethCount p i n).ep p = (d.ep p).counted i n := by
  unfold Dev.ethCount Eth.counted
  extract_lets e old new d1
  have h1 : d1.ep p = if n = 0 then e else { e with cnt := e.cnt.put i new } := by
    unfold d1
    split
    · rfl
    · exact Dev.ep_setEp ..
  rw [← h1]
  split
  · exact Dev.ep_congr ((Dev.post_evolves ..).keeps .eth (by decide)) p
  · rfl

section
variable {s : State} {port : Fin 4} {frame : EthRx}

/-- A frame that is dropped at once counts by its reason. -/
theorem ethFrameRx_drops {i : Nat} (hon : s.dev.epOn port = true) (hlink : s.dev.on F.ETH_STS_LINK port = true) (hdrop : s.dev.ethDrop port frame = some i) :
    Does (.ethFrameRx port frame) s (.eth :: reportParts) (fun d =>
      d.ep port = { s.dev.ep port with cnt := (s.dev.ep port).cnt.put i (((s.dev.ep port).cnt.getD i 0 + 1) % 2 ^ 64) }) := by
  have hruns : Runs (.ethFrameRx port frame) s (s.dev.ethCount port i) := by
    simp [Runs, exec, execEthFrameRx, State.go, State.withDev, hon, hlink, hdrop]
  exact .of hruns (Dev.ethCount_evolves ..).into (Dev.ep_ethCount ..)

/-- A frame that is not dropped is of no class that is filtered. -/
theorem Dev.mgtEn_of_ethDrop {d : Dev} {p : Nat} {f : EthRx} {b : List Byte} (h : d.ethDrop p f = none) (hbody : f.body = .other b) :
    d.on F.ETH_CFG_MGT_EN p = true := by
  unfold Dev.ethDrop at h
  rw [hbody] at h
  by_contra hoff
  have hclass : d.ethClass p (.other b) = 4 := if_neg hoff
  simp only [hclass, decide_true, Bool.or_true, if_true] at h
  split_ifs at h

/-- The two counts of every accepted frame, and that of a group address. -/
def Dev.rxCounted (d : Dev) (p : Nat) (f : EthRx) : Dev :=
  match f.dst with
  | .own | .flMac => (d.ethCount p 0).ethCount p 1 f.bytes
  | _ => ((d.ethCount p 0).ethCount p 1 f.bytes).ethCount p 2

theorem Dev.rxCounted_evolves (d : Dev) (p : Nat) (f : EthRx) : Evolves (.eth :: reportParts) d (d.rxCounted p f) := by
  have h2 : Evolves (.eth :: reportParts) d ((d.ethCount p 0).ethCount p 1 f.bytes) := (Dev.ethCount_evolves ..).after (Dev.ethCount_evolves ..)
  unfold Dev.rxCounted
  split
  · exact h2
  · exact h2
  · exact (Dev.ethCount_evolves ..).after h2

theorem Dev.rxCounted_writes (d : Dev) (p : Nat) (f : EthRx) : Writes eventFields d (d.rxCounted p f) := by
  have h2 : Writes eventFields d ((d.ethCount p 0).ethCount p 1 f.bytes) := (Dev.ethCount_writes ..).trans (Dev.ethCount_writes ..)
  unfold Dev.rxCounted
  split
  · exact h2
  · exact h2
  · exact h2.trans (Dev.ethCount_writes ..)

theorem Dev.rxCounted_ep (d : Dev) (p : Nat) (f : EthRx) : ∃ c : Tab Nat, (d.rxCounted p f).ep p = { d.ep p with cnt := c }
    ∧ c.getD 0 0 = ((d.ep p).cnt.getD 0 0 + 1) % 2 ^ 64 := by
  have h2 : ((d.ethCount p 0).ethCount p 1 f.bytes).ep p = ((d.ep p).counted 0 1).counted 1 f.bytes := by rw [Dev.ep_ethCount, Dev.ep_ethCount]
  have hcnt : (((d.ep p).counted 0 1).counted 1 f.bytes).cnt.getD 0 0 = ((d.ep p).cnt.getD 0 0 + 1) % 2 ^ 64 :=
    (Eth.counted_cnt_other _ _ (by decide)).trans (Eth.counted_cnt_self ..)
  have heq : ((d.ep p).counted 0 1).counted 1 f.bytes = { d.ep p with cnt := (((d.ep p).counted 0 1).counted 1 f.bytes).cnt } := by
    rw [Eth.counted_eq, Eth.counted_eq (d.ep p)]
  unfold Dev.rxCounted
  split
  · exact ⟨_, h2.trans heq, hcnt⟩
  · exact ⟨_, h2.trans heq, hcnt⟩
  · refine ⟨_, (Dev.ep_ethCount ..).trans (((Eth.counted_eq ..)).trans ?_), (Eth.counted_cnt_other _ (i := 2) (j := 0) 1 (by decide)).trans ((congrArg (fun x : Eth => x.cnt.getD 0 0) h2).trans hcnt)⟩
    rw [h2, heq]

/-- A management frame joins the store of its port. -/
theorem Dev.mgtRx_room {d : Dev} {p : Nat} {f : EthRx} {b : List Byte} (hroom : (d.ep p).mgtRx.length < 8) (hbody : f.body = .other b) :
    ∃ k : Fin 8, (d.mgtRx p f).ep p = { d.ep p with mgtRx := (d.ep p).mgtRx ++ [(4 * (d.rxStamp p).toNat + k.val, b)] } := by
  refine ⟨⟨(Config.free8 d.freeCtr).toNat % 8, Nat.mod_lt _ (by decide)⟩, ?_⟩
  unfold Dev.mgtRx
  rw [if_neg (Nat.not_le.2 hroom), hbody]
  exact Dev.ep_setEp ..

theorem ethFrameRx_stores {b : List Byte} (hon : s.dev.epOn port = true) (hlink : s.dev.on F.ETH_STS_LINK port = true)
    (hdrop : s.dev.ethDrop port frame = none) (hbody : frame.body = .other b) (hroom : (s.dev.ep port).mgtRx.length < 8) :
    Does (.ethFrameRx port frame) s (.eth :: reportParts) (fun d =>
      (∃ k : Fin 8, (d.ep port).mgtRx = (s.dev.ep port).mgtRx ++ [(4 * (s.dev.rxStamp port).toNat + k.val, b)])
        ∧ (d.ep port).cnt.getD 0 0 = ((s.dev.ep port).cnt.getD 0 0 + 1) % 2 ^ 64) := by
  have hw := s.dev.rxCounted_writes port frame
  have hev := s.dev.rxCounted_evolves port frame
  have hclass : (s.dev.rxCounted port frame).ethClass port frame.body = 3 := by
    have hen : (s.dev.rxCounted port frame).on F.ETH_CFG_MGT_EN port = true :=
      (hw.on_fin F.ETH_CFG_MGT_EN port).trans (Dev.mgtEn_of_ethDrop hdrop hbody)
    rw [hbody]
    exact if_pos hen
  have hstamp : (s.dev.rxCounted port frame).rxStamp port = s.dev.rxStamp port := by
    unfold Dev.rxStamp Dev.nowNs
    rw [hev.keeps .tim (by decide), hw.rd_fin F.TIM_ETH_DLY_RX_DLY port]
  have hruns : Runs (.ethFrameRx port frame) s ((s.dev.rxCounted port frame).mgtRx port frame) := by
    have haccept : s.dev.ethAccept port frame = (s.dev.rxCounted port frame).mgtRx port frame := by
      unfold Dev.ethAccept
      extract_lets d1 d2
      have h2 : d2 = s.dev.rxCounted port frame := by
        unfold d2 d1 Dev.rxCounted
        cases frame.dst <;> rfl
      rw [h2, hclass]
      rfl
    simp [Runs, exec, execEthFrameRx, State.go, State.withDev, hon, hlink, hdrop, hbody, haccept]
  obtain ⟨c, hep, hcnt⟩ := s.dev.rxCounted_ep port frame
  generalize s.dev.rxCounted port frame = d2 at *
  obtain ⟨k, hk⟩ := Dev.mgtRx_room (d := d2) (p := port) (by rw [hep]; exact hroom) hbody
  refine .of hruns ((Dev.mgtRx_evolves ..).after hev).keeps ⟨⟨k, ?_⟩, ?_⟩
  · rw [hk, hep, hstamp]
  · rw [hk, hep, hcnt]

theorem ethFrameRx_pauses {q : Nat} (hon : s.dev.epOn port = true) (hlink : s.dev.on F.ETH_STS_LINK port = true)
    (hdrop : s.dev.ethDrop port frame = none) (hbody : frame.body = .pause q) (hq : q ≠ 0) (hrx : s.dev.on F.ETH_CFG_PAUSE_RX port = true) :
    Does (.ethFrameRx port frame) s (.eth :: reportParts) (fun d =>
      (d.ep port).pauseUntil = some (s.dev.tim.mono + q * 512 * 500000000 / s.dev.ethRate port) ∧ d.on F.ETH_STS_PAUSED port = true) := by
  have hw : Writes eventFields s.dev (s.dev.ethCount port 8) := Dev.ethCount_writes ..
  have hev : Evolves (.eth :: reportParts) s.dev (s.dev.ethCount port 8) := Dev.ethCount_evolves ..
  have hrx' : (s.dev.ethCount port 8).on F.ETH_CFG_PAUSE_RX port = true := (hw.on_fin _ _).trans hrx
  have hrate : (s.dev.ethCount port 8).ethRate port = s.dev.ethRate port := by
    unfold Dev.ethRate
    rw [hw.rd_fin F.ETH_CFG_RATE port, hw.rd_fin F.ETH_STS_SPEED port]
  have hruns : ∃ from_, Runs (.ethFrameRx port frame) s (((s.dev.ethCount port 8).setEp port { (s.dev.ethCount port 8).ep port with
      pauseUntil := some ((s.dev.ethCount port 8).tim.mono + q * 512 * 500000000 / (s.dev.ethCount port 8).ethRate port), pausedFrom := from_ }).wrb
        F.ETH_STS_PAUSED port true) := by
    simp only [Runs, exec, execEthFrameRx, State.go, State.withDev, hon, hlink, hdrop, hbody, Bool.not_true, Bool.or_self, Bool.false_eq_true, if_false,
      Dev.pauseRx, hrx', hq]
    exact ⟨_, rfl⟩
  obtain ⟨from_, hruns⟩ := hruns
  refine .of hruns ((Dev.wrb_evolves ..).after <| (Dev.setEp_evolves ..).after hev).keeps ⟨?_, Dev.on_wrb _ _ _ _ (by decide) rfl⟩
  rw [hrate, show (s.dev.ethCount port 8).tim = s.dev.tim from hev.keeps .tim (by decide), Dev.ep_congr (Dev.wrb_eth ..), Dev.ep_setEp]

/-- A count takes nothing back of what went out. -/
theorem Dev.ethCount_out (d : Dev) (p i n : Nat) : d.out <:+ (d.ethCount p i n).out := by
  unfold Dev.ethCount
  extract_lets e old new d1
  have h1 : d1.out = d.out := by
    unfold d1
    split <;> rfl
  rw [← h1]
  split
  · exact (Dev.post_reporting ..).out
  · exact List.suffix_refl _

/-- A frame that the port starts leaves its place and goes out; one frame more is counted as sent. -/
theorem Dev.ethSend_sends {d : Dev} {p i : Nat} {t : EthTx} (hnext : nextTx d.ethMay (d.ep p).wait = some (i, t)) :
    ((d.ethSend p).ep p).wait = (d.ep p).wait.eraseIdx i ∧ Out.ethTx p t.cls t.bytes t.dest t.fl t.mgt ∈ (d.ethSend p).out
      ∧ ((d.ethSend p).ep p).cnt.getD 12 0 = ((d.ep p).cnt.getD 12 0 + 1) % 2 ^ 64 := by
  unfold Dev.ethSend
  rw [hnext]
  dsimp -zeta only
  extract_lets e d1 d2 d3
  have hep1 : d1.ep p = { d.ep p with wait := (d.ep p).wait.eraseIdx i } := Dev.ep_setEp ..
  have hout1 : Out.ethTx p t.cls t.bytes t.dest t.fl t.mgt ∈ d1.out := List.mem_cons_self ..
  have hep2 : d2.ep p = (((d1.ep p).counted 12 1).counted 13 t.bytes).counted 16 (b2n t.retx) := by
    unfold d2
    rw [Dev.ep_ethCount, Dev.ep_ethCount, Dev.ep_ethCount]
  have hout2 : Out.ethTx p t.cls t.bytes t.dest t.fl t.mgt ∈ d2.out :=
    (((Dev.ethCount_out ..).trans (Dev.ethCount_out ..)).trans (Dev.ethCount_out ..)).subset hout1
  clear_value d1 d2
  have hstamped : Evolves [.regs, .tim, .fl, .freeCtr] d2 (d3.txStamped p t) := (Dev.txStamped_evolves ..).after (.ite .refl (Dev.wrb_evolves ..).mono)
  rw [Dev.ep_congr (hstamped.keeps .eth (by decide)), hep2]
  refine ⟨?_, ?_, ?_⟩
  · rw [Eth.counted_eq, Eth.counted_eq ((d1.ep p).counted 12 1), Eth.counted_eq (d1.ep p), hep1]
  · rw [hstamped.keeps .out (by decide)]
    exact hout2
  · rw [Eth.counted_cnt_other _ _ (by decide), Eth.counted_cnt_other _ _ (by decide), Eth.counted_cnt_self, hep1]

theorem ethFrameTx_sends {i : Nat} {t : EthTx} (hon : s.dev.epOn port = true) (hloop : s.dev.inLoop (6 + port) = false)
    (hlink : s.dev.linkUp port = true) (hpause : (s.dev.ep port).pauseUntil = none) (hnext : nextTx s.dev.ethMay (s.dev.ep port).wait = some (i, t)) :
    Does (.ethFrameTx port) s (.eth :: .tim :: .fl :: reportParts) (fun d =>
      (d.ep port).wait = (s.dev.ep port).wait.eraseIdx i ∧ Out.ethTx port t.cls t.bytes t.dest t.fl t.mgt ∈ d.out
        ∧ (d.ep port).cnt.getD 12 0 = ((s.dev.ep port).cnt.getD 12 0 + 1) % 2 ^ 64) := by
  have hruns : Runs (.ethFrameTx port) s (s.dev.ethSend port) := by
    simp [Runs, exec, execEthFrameTx, State.go, State.withDev, hon, hloop, hlink, hpause]
  exact .of hruns (Dev.ethSend_evolves ..).into (Dev.ethSend_sends hnext)

theorem pauseExpiry_resumes {t : Nat} (hlive : s.dev.live = true) (hpause : (s.dev.ep port).pauseUntil = some t) :
    Does (.pauseExpiry port) s (.eth :: .tim :: reportParts) (fun d => (d.ep port).pauseUntil = none ∧ d.on F.ETH_STS_PAUSED port = false) := by
  have hruns : Runs (.pauseExpiry port) s ((s.dev.toMono t).pauseEnd port) := by
    simp only [Runs, exec, execPauseExpiry, State.go, State.withDev, hpause, hlive, if_true]
  have hpass : Evolves [.tim, .evr] s.dev (s.dev.toMono t) := Dev.toMono_evolves ..
  have hpause' : ((s.dev.toMono t).ep port).pauseUntil = some t := by rw [Dev.ep_congr (hpass.keeps .eth (by decide)), hpause]
  generalize s.dev.toMono t = d1 at hruns hpass hpause'
  have hend : d1.pauseEnd port = ((d1.setEp port { d1.ep port with pauseUntil := none, pausedFrom := 0 }).wrb F.ETH_STS_PAUSED port false).ethCount port 14
      ((d1.tim.mono - (d1.ep port).pausedFrom) / 500) := by
    unfold Dev.pauseEnd
    dsimp only
    rw [hpause']
  rw [hend] at hruns
  refine .of hruns ((Dev.ethCount_evolves ..).after <| (Dev.wrb_evolves ..).after <| (Dev.setEp_evolves ..).after hpass.mono).keeps ⟨?_, ?_⟩
  · rw [Dev.ep_ethCount, Eth.counted_eq, Dev.ep_congr (Dev.wrb_eth ..), Dev.ep_setEp]
  · exact ((Dev.ethCount_writes ..).on_fin _ port).trans (Dev.on_wrb _ _ _ _ (by decide) rfl)

theorem ethLinkDown_drops (hon : s.dev.epOn port = true) (hlink : s.dev.on F.ETH_STS_LINK port = true) :
    Does (.ethLinkDown port) s (.eth :: reportParts) (fun d =>
      d.on F.ETH_STS_LINK port = false ∧ (d.ep port).wait = [] ∧ d.on F.ETH_MGT_TX_CTL_BUSY port = false
        ∧ (d.ep port).cnt.getD 17 0 = ((s.dev.ep port).cnt.getD 17 0 + 1) % 2 ^ 64) := by
  have hruns : Runs (.ethLinkDown port) s (s.dev.ethDown port) := by
    simp only [Runs, exec, execEthLinkDown, State.go, State.withDev, hon, if_true]
  refine .of hruns (Dev.ethDown_evolves ..).into ?_
  unfold Dev.ethDown
  rw [hlink, if_neg (by decide)]
  unfold Dev.ethDiscard
  have hlinkDown : ((s.dev.wrb F.ETH_STS_LINK port false).ethCount port 17).on F.ETH_STS_LINK port = false :=
    ((Dev.ethCount_writes ..).on_fin _ port).trans (Dev.on_wrb _ _ _ _ (by decide) rfl)
  have hep : ((s.dev.wrb F.ETH_STS_LINK port false).ethCount port 17).ep port = (s.dev.ep port).counted 17 1 := by
    rw [Dev.ep_ethCount, Dev.ep_congr (Dev.wrb_eth ..)]
  generalize (s.dev.wrb F.ETH_STS_LINK port false).ethCount port 17 = d1 at hlinkDown hep
  dsimp only
  have hdiscard : (((d1.setEp port { d1.ep port with wait := [] }).ethCount port 15 (d1.ep port).wait.length).wrb F.ETH_MGT_TX_CTL_BUSY port false).ep port =
      ({ d1.ep port with wait := [] } : Eth).counted 15 (d1.ep port).wait.length := by
    rw [Dev.ep_congr (Dev.wrb_eth ..), Dev.ep_ethCount, Dev.ep_setEp]
  have hwrites : Writes (F.ETH_MGT_TX_CTL_BUSY :: eventFields) d1
      (((d1.setEp port { d1.ep port with wait := [] }).ethCount port 15 (d1.ep port).wait.length).wrb F.ETH_MGT_TX_CTL_BUSY port false) :=
    (Writes.wrb ..).after <| (Dev.ethCount_writes ..).after (Dev.setEp_evolves ..).quiet.mono
  have hbusy : (((d1.setEp port { d1.ep port with wait := [] }).ethCount port 15 (d1.ep port).wait.length).wrb F.ETH_MGT_TX_CTL_BUSY port false).on
      F.ETH_MGT_TX_CTL_BUSY port = false := Dev.on_wrb _ _ _ _ (by decide) rfl
  generalize ((d1.setEp port { d1.ep port with wait := [] }).ethCount port 15 (d1.ep port).wait.length).wrb F.ETH_MGT_TX_CTL_BUSY port false = d2 at *
  have hquiet := (Dev.setEp_evolves d2 port { d2.ep port with linkAt := none }).quiet
  refine ⟨(hquiet.on_fin _ port).trans ((hwrites.on_fin _ port).trans hlinkDown), ?_, (hquiet.on_fin _ port).trans hbusy, ?_⟩
  · rw [Dev.ep_setEp, hdiscard, Eth.counted_eq]
  · rw [Dev.ep_setEp, hdiscard]
    exact (Eth.counted_cnt_other _ _ (by decide)).trans ((congrArg (fun x : Eth => x.cnt.getD 17 0) hep).trans (Eth.counted_cnt_self ..))

theorem mgtTxGo_queues {val : Word} (hon : s.dev.epOn port = true) (hlink : s.dev.on F.ETH_STS_LINK port = true) (hbow : s.dev.isBow = false)
    (hen : s.dev.on F.ETH_CFG_MGT_EN port = true) (hidle : s.dev.on F.ETH_MGT_TX_CTL_BUSY port = false) (hgo : bitAt val.toNat 28 = true) :
    Does (.mgtTxGo port val) s [.eth, .regs, .dirty] (fun d =>
      d.on F.ETH_MGT_TX_CTL_BUSY port = true ∧ (d.ep port).wait.length = (s.dev.ep port).wait.length + 1) := by
  have hparts := hon
  unfold Dev.epOn at hparts
  simp only [Bool.and_eq_true, Bool.not_eq_true'] at hparts
  obtain ⟨⟨hlive, hgrade⟩, hison⟩ := hparts
  have hw : Writes [F.ETH_MGT_TX_CTL_GO.whole] s.dev (s.dev.plainWrite (F.ETH_MGT_TX_CTL_GO.at port) val.toNat) := .plainWrite_at ..
  have hev : Evolves [.regs, .dirty] s.dev (s.dev.plainWrite (F.ETH_MGT_TX_CTL_GO.at port) val.toNat) := Dev.plainWrite_evolves ..
  have hruns : Runs (.mgtTxGo port val) s (s.dev.mgtGo port val.toNat) := by
    simp only [Runs, exec, execMgtTxGo, State.go, State.withDev, hlive, hgrade, Bool.not_false, Bool.and_self, if_true]
  unfold Dev.mgtGo at hruns
  generalize s.dev.plainWrite (F.ETH_MGT_TX_CTL_GO.at port) val.toNat = d1 at hw hev hruns
  have hbow1 : d1.isBow = false := by
    unfold Dev.isBow
    rw [hev.keeps .par (by decide)]
    exact hbow
  have hison1 : d1.isOn (6 + port) = true := by
    unfold Dev.isOn Dev.fnOf
    rw [hev.keeps .fn (by decide)]
    exact hison
  have hon1 : d1.epOn port = true := by
    unfold Dev.epOn
    rw [Dev.live_congr (congrArg Glb.phase (hev.keeps .glb (by decide))), hev.keeps .grade (by decide), hlive, hgrade, hison1]
    rfl
  have hlink1 : d1.linkUp port = true := by
    unfold Dev.linkUp
    rw [hison1, hw.on_fin _ port, hlink]
    rfl
  have hen1 : d1.on F.ETH_CFG_MGT_EN port = true := (hw.on_fin _ port).trans hen
  have hqueue (t : EthTx) : d1.ethQueue port t = d1.setEp port { d1.ep port with wait := (d1.ep port).wait ++ [t] } := if_pos hlink1
  simp only [hgo, hidle, Bool.not_true, Bool.or_self, Bool.false_eq_true, if_false, hbow1, hon1, hen1, hlink1, if_true, hqueue] at hruns
  refine .of hruns ((Dev.wrb_evolves ..).after <| (Dev.setEp_evolves ..).after hev.mono).keeps ⟨Dev.on_wrb _ _ _ _ (by decide) rfl, ?_⟩
  rw [Dev.ep_congr (Dev.wrb_eth ..), Dev.ep_setEp, List.length_append, List.length_singleton, Dev.ep_congr (hev.keeps .eth (by decide))]

theorem mgtRxPop_pops {val : Word} (hlive : s.dev.live = true) (hgrade : fixAbsent s.dev.grade (6 + port) = false) (hpop : bitAt val.toNat 0 = true) :
    Does (.mgtRxPop port val) s [.eth, .regs] (fun d => d.ep port = { s.dev.ep port with mgtRx := (s.dev.ep port).mgtRx.drop 1 }
      ∧ d.rd F.ETH_MGT_PAGE_RX_PAGE port = 0 ∧ KeepsRegs [F.ETH_MGT_PAGE_RX_PAGE.at port] s.dev d) := by
  have hruns : Runs (.mgtRxPop port val) s
      ((s.dev.setEp port { s.dev.ep port with mgtRx := (s.dev.ep port).mgtRx.drop 1 }).wr F.ETH_MGT_PAGE_RX_PAGE port 0) := by
    simp only [Runs, exec, execMgtRxPop, State.go, State.withDev, hlive, hgrade, hpop, Bool.not_false, Bool.and_self, if_true]
  refine .of hruns ((Dev.wr_evolves ..).after (Dev.setEp_evolves ..).mono).keeps ⟨?_, Dev.rd_wr _ _ _ _ (by decide), ?_⟩
  · rw [Dev.ep_congr (Dev.wr_eth ..), Dev.ep_setEp]
  · exact ((Dev.setEp_evolves ..).keeps.keepsRegs).trans keepsRegs_wr

theorem ethCounterSnapshotRead_reads {counter : Fin 18} (hlive : s.dev.live = true) (hgrade : fixAbsent s.dev.grade (6 + port) = false) :
    Does (.ethCounterSnapshotRead port counter) s [.eth, .out] (fun d =>
      d.ep port = { s.dev.ep port with hi := (s.dev.ep port).hi.put counter ((s.dev.ep port).cnt.getD counter 0 / 2 ^ 32) }
        ∧ d.out = .readData ((s.dev.ep port).cnt.getD counter 0 % 2 ^ 32) :: s.dev.out) := by
  have hruns : Runs (.ethCounterSnapshotRead port counter) s
      ((s.dev.setEp port { s.dev.ep port with hi := (s.dev.ep port).hi.put counter ((s.dev.ep port).cnt.getD counter 0 / 2 ^ 32) }).emit
        (.readData ((s.dev.ep port).cnt.getD counter 0 % 2 ^ 32))) := by
    simp only [Runs, exec, execEthCounterSnapshotRead, State.go, State.withDev, hlive, hgrade, Bool.not_false, Bool.and_self, if_true]
  exact .of hruns ((Dev.emit_evolves ..).after (Dev.setEp_evolves ..).mono).keeps ⟨Dev.ep_setEp .., rfl⟩

end

/-- Settles O26, one command after the other. -/
theorem ethernetPorts : Obligations.EthernetPorts :=
  ⟨fun _ _ _ _ => ethFrameRx_drops, fun _ _ _ _ => ethFrameRx_stores, fun _ _ _ _ => ethFrameRx_pauses, fun _ _ _ _ => ethFrameTx_sends,
    fun _ _ _ => pauseExpiry_resumes, fun _ _ => ethLinkDown_drops, fun _ _ _ => mgtTxGo_queues, fun _ _ _ => mgtRxPop_pops,
    fun _ _ _ => ethCounterSnapshotRead_reads⟩

end Sys2Proof.Machine
end

section

-- one proof after the other: the check gives the text few threads
set_option Elab.async false

namespace Sys2Proof.Machine

/-! ## What a failure of a function and the health of the pair write -/

theorem Dev.failFn_writes (d : Dev) (fix : Nat) : Writes fatalFields d (d.failFn fix) := by
  unfold Dev.failFn
  extract_lets d1
  have hd1 : Writes fatalFields d d1 := (Dev.setFn_evolves ..).quiet.mono
  exact .ite hd1 ((Dev.fault_writes ..).after hd1)

theorem Dev.healthCheck_writes (d : Dev) : Writes eventFields d d.healthCheck := by
  unfold Dev.healthCheck
  extract_lets
  exact .ite .refl ((Dev.post_writes ..).after <| Evolves.par.quiet.mono)

theorem Dev.ethLock_writes (d : Dev) : Writes [F.GLB_CLK_STS_ETH_LOCK, F.GLB_CLK_STS_LOSS_SEEN] d d.ethLock := by
  unfold Dev.ethLock
  extract_lets _ d1
  have hd1 : Writes [F.GLB_CLK_STS_ETH_LOCK, F.GLB_CLK_STS_LOSS_SEEN] d d1 := .ite ((Writes.wrb ..).mono) .refl
  exact (Writes.wrb ..).after hd1

end Sys2Proof.Machine
end

section

-- one proof after the other: the check gives the text few threads
set_option Elab.async false

namespace Sys2Proof.Machine

/-! ## O27: the lifecycle of functions -/

theorem Dev.fnOf_congr {d e : Dev} (h : e.fn = d.fn) (j : Nat) : e.fnOf j = d.fnOf j := by
  unfold Dev.fnOf
  rw [h]

/-- What evolves within some parts, and keeps to fewer, evolves within those. -/
theorem Evolves.narrow {ps qs : List Part} {d e : Dev} (h : Evolves ps d e) (hk : Keeps qs d e) : Evolves qs d e := ⟨hk, h.grows⟩

namespace OtherFns

variable {fix : Nat} {d e x : Dev}

theorem refl : OtherFns fix d d := fun _ _ => rfl

theorem trans (h1 : OtherFns fix d e) (h2 : OtherFns fix e x) : OtherFns fix d x := fun j hj => (h2 j hj).trans (h1 j hj)

theorem setFn {f : Fn} : OtherFns fix d (d.setFn fix f) := fun j hj => Dev.fnOf_setFn_other d fix j f hj

end OtherFns

theorem Evolves.otherFns {ps : List Part} {d e : Dev} {fix : Nat} (h : Evolves ps d e) (hp : Part.fn ∉ ps := by decide) : OtherFns fix d e :=
  fun j _ => Dev.fnOf_congr (h.keeps .fn hp) j

/-! ### A function that fails -/

theorem Dev.failFn_reports (d : Dev) (fix : Nat) : Evolves (.fn :: reportParts) d (d.failFn fix) :=
  (Dev.failFn_evolves d fix).narrow (((Dev.setFn_evolves ..).keeps.mono (by decide)).trans ((d.failFn_reporting fix).keeps.mono (by decide)))

theorem Dev.failFn_otherFns (d : Dev) (fix : Nat) : OtherFns fix d (d.failFn fix) := fun j hj =>
  ((d.failFn_reporting fix).fnOf j).trans (Dev.fnOf_setFn_other _ _ _ _ hj)

/-! ### Starting -/

/-- A port that needs the beacon comparator is no other than it was but for being blocked. -/
theorem Dev.needBeacon_fn (d : Dev) (fix : Nat) : OtherFns fix d (d.needBeacon fix) ∧ ((d.needBeacon fix).fnOf fix).st = (d.fnOf fix).st := by
  unfold Dev.needBeacon
  split
  · split
    · next d1 h1 =>
      have hfn : d1.fn = d.fn := (Dev.takeCmp_evolves h1).keeps .fn (by decide)
      exact ⟨fun j _ => Dev.fnOf_congr hfn j, by rw [Dev.fnOf_congr hfn]⟩
    · exact ⟨OtherFns.setFn, by rw [Dev.fnOf_setFn]⟩
  · exact ⟨OtherFns.refl, rfl⟩

/-- Metrology's claim of the MX group touches RP3 alone. -/
theorem Dev.mxTake_otherFns (d : Dev) : OtherFns 5 d d.mxTake := by
  unfold Dev.mxTake
  extract_lets d1 f
  have h1 : OtherFns 5 d d1 := (Dev.wrb_evolves ..).otherFns
  split
  · exact (h1.trans OtherFns.setFn).trans (Dev.record_evolves ..).otherFns
  · exact h1

/-- A check meter's start leaves the functions below its channels, but for itself and RP3. -/
theorem Dev.cmTake_fnOf (d : Dev) (k : Nat) {j : Nat} (hj : j < 19) (h5 : j ≠ 5) : (d.cmTake k).fnOf j = d.fnOf j := by
  unfold Dev.cmTake
  extract_lets cs v1 ratio d1
  have h1 : d1.fnOf j = d.fnOf j := by
    unfold d1
    generalize cs = l
    induction l using List.reverseRecOn with
    | nil => rfl
    | append_singleton l c ih =>
      rw [List.foldl_append]
      refine Eq.trans ?_ ih
      generalize List.foldl _ d l = y
      dsimp -zeta only [List.foldl_cons, List.foldl_nil]
      extract_lets z
      have hz : Evolves [.regs, .met] y (z.setMch c (z.chFresh c)) :=
        (Dev.setMch_evolves ..).after <| (Dev.wrb_evolves ..).after <| (Dev.wr_evolves ..).after (Dev.setWord_evolves ..).mono
      exact (Dev.fnOf_setFn_other _ _ _ _ (by omega)).trans (Dev.fnOf_congr (hz.keeps .fn (by decide)) j)
  split
  · exact (Dev.mxTake_otherFns d1 j h5).trans h1
  · exact h1

theorem Dev.cmStart_fnOf (d : Dev) (k : Nat) {j : Nat} (hj : j < 19) (h5 : j ≠ 5) (hk : j ≠ 14 + k) : (d.cmStart k).fnOf j = d.fnOf j := by
  unfold Dev.cmStart
  split
  · exact (Dev.fnOf_congr (Dev.wrb_fn ..) j).trans (Dev.fnOf_setFn_other _ _ _ _ hk)
  · exact (Dev.cmTake_fnOf _ k hj h5).trans (Dev.fnOf_congr (Dev.wrb_fn ..) j)

theorem Dev.cmStart_st (d : Dev) {k : Nat} (hk : k < 4) : ((d.cmStart k).fnOf (14 + k)).st = (d.fnOf (14 + k)).st := by
  unfold Dev.cmStart
  split
  · rw [Dev.fnOf_congr (Dev.wrb_fn ..), Dev.fnOf_setFn]
  · rw [Dev.cmTake_fnOf _ k (by omega) (by omega), Dev.fnOf_congr (Dev.wrb_fn ..)]

theorem Dev.radLeavesOff_reports (d : Dev) (n : Nat) : Evolves (.fn :: .rad :: reportParts) d (d.radLeavesOff n) := by
  unfold Dev.radLeavesOff
  extract_lets d1
  have h1 : Evolves (.fn :: .rad :: reportParts) d d1 := (Dev.wr_evolves ..).after <| (Dev.wr_evolves ..).after (Dev.play_evolves ..).mono
  exact .ite ((Dev.failFn_reports ..).after <| (Dev.wrb_evolves ..).after h1) ((Dev.updRp_evolves ..).after <| (Dev.wrb_evolves ..).after h1)

/-- A radio port that leaves OFF goes on, or has failed (R242). -/
theorem Dev.radLeavesOff_fn (d : Dev) (n : Nat) : OtherFns (2 + n) d (d.radLeavesOff n)
    ∧ (((d.radLeavesOff n).fnOf (2 + n)).st = (d.fnOf (2 + n)).st ∨ ((d.radLeavesOff n).fnOf (2 + n)).st = .failed) := by
  unfold Dev.radLeavesOff
  extract_lets d1
  have h1 : Evolves [.out, .regs] d d1 := (Dev.wr_evolves ..).after <| (Dev.wr_evolves ..).after (Dev.play_evolves ..).mono
  split
  · exact ⟨(h1.otherFns.trans (Dev.wrb_evolves ..).otherFns).trans (Dev.failFn_otherFns _ _), .inr (by rw [Dev.failFn_fnOf])⟩
  · have h2 : Evolves [.rad, .out, .regs] d ((d1.wrb F.RAD_STS_SLOW n false).updRp n (fun r => { r with training := true, trainFrom := d.tim.mono })) :=
      (Dev.updRp_evolves ..).after <| (Dev.wrb_evolves ..).after h1.mono
    exact ⟨h2.otherFns, .inl (by rw [Dev.fnOf_congr (h2.keeps .fn (by decide))])⟩

theorem Dev.radEnable_reports (d : Dev) (n : Nat) : Evolves (.fn :: .tim :: .rad :: reportParts) d (d.radEnable n) := by
  unfold Dev.radEnable
  split
  · exact (Dev.wrb_evolves ..).after (Dev.setFn_evolves ..).mono
  · extract_lets d1
    have h1 : Evolves (.fn :: .tim :: .rad :: reportParts) d d1 := (Dev.radLeavesOff_reports ..).after (Dev.wrb_evolves ..).mono
    exact .ite ((Dev.needBeacon_evolves ..).after h1) h1

theorem Dev.radEnable_fn (d : Dev) (n : Nat) : OtherFns (2 + n) d (d.radEnable n)
    ∧ (((d.radEnable n).fnOf (2 + n)).st = (d.fnOf (2 + n)).st ∨ ((d.radEnable n).fnOf (2 + n)).st = .failed) := by
  unfold Dev.radEnable
  split
  · next hclaim =>
    obtain rfl : n = 3 := of_decide_eq_true (Bool.and_eq_true_iff.1 hclaim).1
    exact ⟨OtherFns.setFn.trans (Dev.wrb_evolves ..).otherFns, .inl (by rw [Dev.fnOf_congr (Dev.wrb_fn ..), Dev.fnOf_setFn])⟩
  · extract_lets d1
    obtain ⟨hothers, hst⟩ := Dev.radLeavesOff_fn (d.wrb F.RAD_STS_BLOCKED n false) n
    rw [Dev.fnOf_congr (Dev.wrb_fn ..)] at hst
    have h1 : OtherFns (2 + n) d d1 := (Dev.wrb_evolves ..).otherFns.trans hothers
    split
    · obtain ⟨hneed, hneedst⟩ := d1.needBeacon_fn (2 + n)
      exact ⟨h1.trans hneed, hst.imp (hneedst.trans ·) (hneedst.trans ·)⟩
    · exact ⟨h1, hst⟩

/-- A function other than a radio port that goes from OFF to STARTING. -/
theorem Dev.fnStart_starts {d : Dev} {fix : Nat} (hgrade : fixAbsent d.grade fix = false) (hfix : fix < 2 ∨ 6 ≤ fix) :
    Evolves (.fn :: .tim :: .lcp :: .met :: .eth :: reportParts) d (d.fnStart fix) ∧ ((d.fnStart fix).fnOf fix).st = .starting := by
  unfold Dev.fnStart
  rw [hgrade, if_neg (by decide)]
  extract_lets d1 d2
  have h1 : Evolves (.fn :: .tim :: .lcp :: .met :: .eth :: reportParts) d d1 := (Dev.setFn_evolves ..).mono
  have hst : (d1.fnOf fix).st = .starting := by rw [Dev.fnOf_setFn]
  have h2 : Evolves (.fn :: .tim :: .lcp :: .met :: .eth :: reportParts) d d2 := (Dev.setMch_evolves ..).after h1
  have hst2 : (d2.fnOf fix).st = .starting := (congrArg Fn.st (Dev.fnOf_congr ((Dev.setMch_evolves ..).keeps .fn (by decide)) fix)).trans hst
  clear_value d2 d1
  split
  · refine ⟨(Dev.lineLeavesOff_evolves ..).after h1, ?_⟩
    unfold Dev.lineLeavesOff
    rw [(Dev.needBeacon_fn ..).2, Dev.fnOf_congr ((Dev.updLp_evolves ..).keeps .fn (by decide)), Dev.fnOf_congr ((Dev.scMaskMin_evolves ..).keeps .fn (by decide)), hst]
  split
  · omega
  split
  · exact ⟨(Dev.setEp_evolves ..).after h1, (congrArg Fn.st (Dev.fnOf_congr ((Dev.setEp_evolves ..).keeps .fn (by decide)) fix)).trans hst⟩
  split
  · exact ⟨h1, hst⟩
  split
  · refine ⟨(Dev.cmStart_evolves ..).after h1, ?_⟩
    have hfix' : fix = 14 + (fix - 14) := by omega
    rw [hfix', show 14 + (fix - 14) - 14 = fix - 14 by omega, Dev.cmStart_st _ (by omega), ← hfix', hst]
  split
  · exact ⟨h1, hst⟩
  split
  · split
    · exact ⟨(Dev.mxTake_evolves ..).after h2, by rw [Dev.mxTake_otherFns d2 fix (by omega), hst2]⟩
    · exact ⟨h2, hst2⟩
  · exact ⟨(Dev.pairFresh_evolves ..).after h1, (congrArg Fn.st (Dev.fnOf_congr ((Dev.pairFresh_evolves ..).keeps .fn (by decide)) fix)).trans hst⟩

/-! ### Releasing: a function that does not start is left as it is -/

/-- Changes to the functions of a list leave every other. -/
theorem Dev.fnOf_foldl_setFn (f : Dev → Nat → Fn) {l : List Nat} {j : Nat} (hj : j ∉ l) (d : Dev) :
    (l.foldl (fun (y : Dev) k => y.setFn k (f y k)) d).fnOf j = d.fnOf j := by
  induction l generalizing d with
  | nil => rfl
  | cons k l ih =>
    obtain ⟨hne, hrest⟩ := not_or.1 (fun hin => hj (List.mem_cons.2 hin))
    exact (ih hrest _).trans (Dev.fnOf_setFn_other _ _ _ _ hne)

theorem Dev.leaveBeacon_fnOf {d : Dev} {j : Nat} (hj : (d.fnOf j).st ≠ .starting) : d.leaveBeacon.fnOf j = d.fnOf j := by
  unfold Dev.leaveBeacon
  split
  · rfl
  · unfold Dev.freeCmp
    extract_lets d1 ws
    have h1 : d1.fn = d.fn := (Dev.dropCmp_evolves ..).keeps .fn (by decide)
    have hws : j ∉ ws := fun hin => by
      have hwaits := (List.mem_filter.1 hin).2
      unfold Dev.waitsBeacon at hwaits
      simp [Dev.fnOf_congr h1, hj] at hwaits
    split
    · exact Dev.fnOf_congr h1 j
    · split
      · next d2 h2 =>
        exact (Dev.fnOf_foldl_setFn (fun y f => { y.fnOf f with blocked := false, since := y.tim.mono }) hws d2).trans
          (Dev.fnOf_congr (((Dev.takeCmp_evolves h2).keeps .fn (by decide)).trans h1) j)
      · exact Dev.fnOf_congr h1 j

theorem Dev.mxRelease_fnOf {d : Dev} {j : Nat} (hj : (d.fnOf j).st ≠ .starting) : d.mxRelease.fnOf j = d.fnOf j := by
  unfold Dev.mxRelease
  split
  · rfl
  · extract_lets d1 f
    have h1 : d1.fn = d.fn := Dev.wrb_fn ..
    split
    · next hwaits =>
      have hne : j ≠ 5 := fun h => hj (by rw [h, ← Dev.fnOf_congr h1]; exact hwaits.1)
      exact ((Dev.radEnable_fn _ 3).1 j hne).trans ((Dev.fnOf_setFn_other _ _ _ _ hne).trans (Dev.fnOf_congr h1 j))
    · exact Dev.fnOf_congr h1 j

theorem Dev.mxRelease_reports (d : Dev) : Evolves (.fn :: .tim :: .rad :: reportParts) d d.mxRelease := by
  unfold Dev.mxRelease
  split
  · exact .refl
  · extract_lets d1 f
    have h1 : Evolves (.fn :: .tim :: .rad :: reportParts) d d1 := (Dev.wrb_evolves ..).mono
    exact .ite ((Dev.radEnable_reports ..).after <| (Dev.setFn_evolves ..).after h1) h1

/-- The channels of a check meter, OFF. -/
def Dev.chansOff (d : Dev) (cs : List Nat) : Dev :=
  cs.foldl (fun (y : Dev) c => ((y.wrb F.MET_CH_STS_CM_HELD c false).setMch c (y.chOff c)).setFn (19 + c) {}) d

theorem Dev.cmRelease_eq (d : Dev) (k : Nat) : d.cmRelease k = ((d.chansOff (d.cmChans k)).cmStopped k).mxRelease := rfl

theorem Dev.chansOff_evolves (d : Dev) (cs : List Nat) : Evolves [.fn, .met, .regs] d (d.chansOff cs) :=
  .foldl (fun _ _ => (Dev.setFn_evolves ..).after <| (Dev.setMch_evolves ..).after (Dev.wrb_evolves ..).mono) .refl

theorem Dev.chansOff_fnOf (d : Dev) (cs : List Nat) {j : Nat} (hj : j < 19) : (d.chansOff cs).fnOf j = d.fnOf j := by
  unfold Dev.chansOff
  induction cs generalizing d with
  | nil => rfl
  | cons c cs ih =>
    have hoff : Evolves [.met, .regs] d ((d.wrb F.MET_CH_STS_CM_HELD c false).setMch c (d.chOff c)) := (Dev.setMch_evolves ..).after (Dev.wrb_evolves ..).mono
    exact (ih _).trans ((Dev.fnOf_setFn_other _ _ _ _ (by omega)).trans (Dev.fnOf_congr (hoff.keeps .fn (by decide)) j))

theorem Dev.cmRelease_fnOf {d : Dev} (k : Nat) {j : Nat} (hlt : j < 19) (hj : (d.fnOf j).st ≠ .starting) : (d.cmRelease k).fnOf j = d.fnOf j := by
  have hsame : ((d.chansOff (d.cmChans k)).cmStopped k).fnOf j = d.fnOf j :=
    (Dev.fnOf_congr ((Dev.cmStopped_evolves ..).keeps .fn (by decide)) j).trans (Dev.chansOff_fnOf _ _ hlt)
  rw [Dev.cmRelease_eq, Dev.mxRelease_fnOf (by rw [hsame]; exact hj), hsame]

theorem Dev.cmUnblock_fnOf {d : Dev} {j : Nat} (hlt : j < 19) (h5 : j ≠ 5) (hj : (d.fnOf j).st ≠ .starting) : d.cmUnblock.fnOf j = d.fnOf j := by
  unfold Dev.cmUnblock
  generalize List.range 4 = l
  induction l using List.reverseRecOn with
  | nil => rfl
  | append_singleton l k ih =>
    rw [List.foldl_append]
    generalize List.foldl _ d l = y at ih
    dsimp only [List.foldl_cons, List.foldl_nil]
    split
    · next hwaits =>
      have hne : j ≠ 14 + k := fun h => hj (by rw [← ih, h]; exact hwaits.1)
      exact ((Dev.cmStart_fnOf _ k hlt h5 hne).trans (Dev.fnOf_setFn_other _ _ _ _ hne)).trans ih
    · exact ih

theorem Dev.fnRelease_reports (d : Dev) (fix : Nat) :
    Evolves (.fn :: .tim :: .ctx :: .tar :: .par :: .sch :: .lcp :: .rad :: .ldg :: .met :: .eth :: .fl :: reportParts) d (d.fnRelease fix) := by
  refine (Dev.fnRelease_evolves d fix).narrow ?_
  unfold Dev.fnRelease
  split
  · exact ((Dev.leaveBeacon_evolves ..).after <| Evolves.tim.after (Dev.updLp_evolves ..).mono).keeps
  split
  · exact ((Dev.leaveBeacon_evolves ..).after <| Evolves.tim.after <| (Dev.wrb_evolves ..).after <| (Dev.wrb_evolves ..).after (Dev.radHalt_evolves ..).mono).keeps
  split
  · exact ((Dev.ethLock_evolves ..).after <| (Dev.setEp_evolves ..).after <| (Dev.wrb_evolves ..).after (Dev.ethDiscard_evolves ..).mono).keeps
  split
  · exact Keeps.refl _ _
  split
  · rw [Dev.cmRelease_eq]
    exact ((Dev.mxRelease_reports ..).after <| (Dev.cmStopped_evolves ..).after <| (Dev.chansOff_evolves ..).after (Dev.wrb_evolves ..).mono).keeps
  split
  · exact ((Dev.wrb_evolves ..).after (.ite (Dev.wrb_evolves ..).mono .refl)).keeps
  split
  · exact ((Dev.mxRelease_reports ..).after <| (Dev.wrb_evolves ..).after (Dev.setMch_evolves ..).mono).keeps
  · exact Keeps.refl _ _

/-- What a function held is released; the function itself, where it does not start, is as it was. -/
theorem Dev.fnRelease_fnOf {d : Dev} {fix : Nat} (hst : (d.fnOf fix).st ≠ .starting) : (d.fnRelease fix).fnOf fix = d.fnOf fix := by
  have hleave {e : Dev} (h : e.fn = d.fn) : e.leaveBeacon.fnOf fix = d.fnOf fix := by
    rw [Dev.leaveBeacon_fnOf (by rw [Dev.fnOf_congr h]; exact hst), Dev.fnOf_congr h]
  unfold Dev.fnRelease
  split
  · exact hleave ((Evolves.tim.after (Dev.updLp_evolves ..).mono : Evolves [.tim, .lcp] _ _).keeps .fn (by decide))
  split
  · have h1 : (((d.radHalt (fix - 2)).wrb F.RAD_STS_IQ_LOCK (fix - 2) false).wrb F.RAD_STS_BLOCKED (fix - 2) false).fn = d.fn := by
      rw [Dev.wrb_fn, Dev.wrb_fn]
      exact (Dev.radHalt_evolves ..).keeps .fn (by decide)
    generalize ((d.radHalt (fix - 2)).wrb F.RAD_STS_IQ_LOCK (fix - 2) false).wrb F.RAD_STS_BLOCKED (fix - 2) false = d1 at h1
    exact hleave h1
  split
  · have h1 : Evolves (.eth :: reportParts) d (((((d.ethDiscard (fix - 6)).wrb F.ETH_STS_LINK (fix - 6) false)).setEp (fix - 6)
        { ((d.ethDiscard (fix - 6)).wrb F.ETH_STS_LINK (fix - 6) false).ep (fix - 6) with linkAt := none, pauseUntil := none }).ethLock) :=
      (Dev.ethLock_evolves ..).after <| (Dev.setEp_evolves ..).after <| (Dev.wrb_evolves ..).after (Dev.ethDiscard_evolves ..).mono
    exact Dev.fnOf_congr (h1.keeps .fn (by decide)) fix
  split
  · rfl
  split
  · have h1 := Dev.wrb_fn d F.MET_CM_STS_BLOCKED (fix - 14) false
    rw [Dev.cmRelease_fnOf _ (by omega) (by rw [Dev.fnOf_congr h1]; exact hst), Dev.fnOf_congr h1]
  split
  · have h1 : Evolves [.regs] d ((if d.on F.GLB_CLK_STS_PAIR_LOCK then d.wrb F.GLB_CLK_STS_LOSS_SEEN 0 true else d).wrb F.GLB_CLK_STS_PAIR_LOCK 0 false) :=
      (Dev.wrb_evolves ..).after (.ite (Dev.wrb_evolves ..).mono .refl)
    exact Dev.fnOf_congr (h1.keeps .fn (by decide)) fix
  split
  · have h1 : Evolves [.met, .regs] d ((d.setMch (fix - 19) (d.chOff (fix - 19))).wrb F.MET_CH_STS_STUCK (fix - 19) false) :=
      (Dev.wrb_evolves ..).after (Dev.setMch_evolves ..).mono
    have hsame := Dev.fnOf_congr (h1.keeps .fn (by decide)) fix
    rw [Dev.mxRelease_fnOf (by rw [hsame]; exact hst), hsame]
  · rfl

/-! ### The commands -/

theorem enableOf_bit {fix : Nat} {e : F × Nat} (h : enableOf fix = some e) : e.1.lo = 31 ∧ e.1.len = 1 := by
  unfold enableOf at h
  split_ifs at h <;> (obtain rfl := Option.some.inj h; exact ⟨rfl, rfl⟩)

/-- A write of ENABLE to a function that no check meter holds. -/
theorem Dev.fnCfgWrite_eq {d : Dev} {fix : Nat} {e : F × Nat} (v b : Nat) (hlive : d.live = true) (hgrade : fixAbsent d.grade fix = false)
    (he : enableOf fix = some e) (hheld : d.enableHeld fix = false) :
    d.fnCfgWrite fix (withBits v 31 1 b) = (if b % 2 = 1 then (d.plainWrite (e.1.at e.2) (withBits v 31 1 b)).enable fix
      else (d.plainWrite (e.1.at e.2) (withBits v 31 1 b)).disable fix) := by
  obtain ⟨hlo, hlen⟩ := enableOf_bit he
  have hget : e.1.get (withBits v 31 1 b) = b % 2 := by
    unfold F.get
    rw [hlo, hlen, bitsOf_withBits, Nat.pow_one]
  unfold Dev.fnCfgWrite
  rw [he]
  simp only [hlive, hgrade, hheld, Bool.not_true, Bool.or_self, Bool.false_eq_true, if_false, hget]

theorem enableOf_isSome {fix : Nat} (h : fix < 18) : ∃ e, enableOf fix = some e := by
  unfold enableOf
  split_ifs <;> exact ⟨_, rfl⟩

section
variable {s : State} {fix : Fin 128} {val : Word}

theorem functionEnable_starts {e : F × Nat} (hlive : s.dev.live = true) (hgrade : fixAbsent s.dev.grade fix = false) (he : enableOf fix = some e)
    (hheld : s.dev.enableHeld fix = false) (hoff : (s.dev.fnOf fix).st = .off) (hfix : fix.val < 2 ∨ 6 ≤ fix.val) :
    Does (.functionEnable fix val) s (.dirty :: .fn :: .tim :: .lcp :: .met :: .eth :: reportParts) (fun d => (d.fnOf fix).st = .starting) := by
  have hruns : Runs (.functionEnable fix val) s (s.dev.fnCfgWrite fix (withBits val.toNat 31 1 1)) := rfl
  rw [Dev.fnCfgWrite_eq val.toNat 1 hlive hgrade he hheld, if_pos rfl] at hruns
  have hw : Evolves [.regs, .dirty] s.dev (s.dev.plainWrite (e.1.at e.2) (withBits val.toNat 31 1 1)) := Dev.plainWrite_evolves ..
  generalize s.dev.plainWrite (e.1.at e.2) (withBits val.toNat 31 1 1) = d1 at hruns hw
  have hoff1 : (d1.fnOf fix).st = .off := by rw [Dev.fnOf_congr (hw.keeps .fn (by decide)), hoff]
  have hstart : d1.enable fix = d1.fnStart fix := by
    unfold Dev.enable
    rw [hoff1]
  rw [hstart] at hruns
  obtain ⟨hev, hst⟩ := Dev.fnStart_starts (d := d1) (fix := fix) (by rw [hw.keeps .grade (by decide)]; exact hgrade) hfix
  exact .of hruns (hev.after hw.mono).keeps hst

theorem functionEnable_radio (hlive : s.dev.live = true) (hgrade : fixAbsent s.dev.grade fix = false) (hlo : 2 ≤ fix.val) (hhi : fix.val < 6)
    (hoff : (s.dev.fnOf fix).st = .off) :
    Does (.functionEnable fix val) s (.dirty :: .fn :: .tim :: .rad :: reportParts) (fun d =>
      ((d.fnOf fix).st = .starting ∨ (d.fnOf fix).st = .failed) ∧ OtherFns fix s.dev d) := by
  obtain ⟨e, he⟩ := enableOf_isSome (fix := fix.val) (by omega)
  have hheld : s.dev.enableHeld fix = false := by
    unfold Dev.enableHeld
    rw [decide_eq_false (by omega), Bool.false_and]
  have hruns : Runs (.functionEnable fix val) s (s.dev.fnCfgWrite fix (withBits val.toNat 31 1 1)) := rfl
  rw [Dev.fnCfgWrite_eq val.toNat 1 hlive hgrade he hheld, if_pos rfl] at hruns
  have hw : Evolves [.regs, .dirty] s.dev (s.dev.plainWrite (e.1.at e.2) (withBits val.toNat 31 1 1)) := Dev.plainWrite_evolves ..
  generalize s.dev.plainWrite (e.1.at e.2) (withBits val.toNat 31 1 1) = d1 at hruns hw
  have hoff1 : (d1.fnOf fix).st = .off := by rw [Dev.fnOf_congr (hw.keeps .fn (by decide)), hoff]
  have hgrade1 : fixAbsent d1.grade fix = false := by rw [hw.keeps .grade (by decide)]; exact hgrade
  have hstart : d1.enable fix = (d1.setFn fix { st := .starting, since := d1.tim.mono }).radEnable (fix.val - 2) := by
    unfold Dev.enable Dev.fnStart
    rw [hoff1]
    simp only [hgrade1, Bool.false_eq_true, if_false, if_neg (show ¬ fix.val < 2 by omega), if_pos hhi]
  rw [hstart] at hruns
  have h2 : 2 + (fix.val - 2) = fix.val := by omega
  obtain ⟨hothers, hst⟩ := (d1.setFn fix { st := .starting, since := d1.tim.mono }).radEnable_fn (fix.val - 2)
  rw [h2, Dev.fnOf_setFn] at hst
  rw [h2] at hothers
  exact .of hruns ((Dev.radEnable_reports ..).after <| (Dev.setFn_evolves ..).after hw.mono).keeps ⟨hst, (hw.otherFns.trans OtherFns.setFn).trans hothers⟩

/-- A function that is ON goes to STOPPING, and no other changes. -/
theorem Dev.fnStop_fn (d : Dev) (k : Nat) (pending : Bool) :
    (d.fnStop k pending).fnOf k = { d.fnOf k with st := .stopping, pending := pending, thenStop := false } ∧ OtherFns k d (d.fnStop k pending) := by
  have hafter {e x : Dev} (h : Evolves [.rng, .sch, .lcp] e x) (he : e.fnOf k = { d.fnOf k with st := .stopping, pending := pending, thenStop := false }
      ∧ OtherFns k d e) : x.fnOf k = { d.fnOf k with st := .stopping, pending := pending, thenStop := false } ∧ OtherFns k d x :=
    ⟨(Dev.fnOf_congr (h.keeps .fn (by decide)) k).trans he.1, he.2.trans h.otherFns⟩
  unfold Dev.fnStop
  extract_lets _ d1
  have h1 : d1.fnOf k = { d.fnOf k with st := .stopping, pending := pending, thenStop := false } ∧ OtherFns k d d1 := ⟨Dev.fnOf_setFn .., OtherFns.setFn⟩
  split
  · exact hafter (Dev.watchFull_evolves ..).mono h1
  · split
    · exact hafter (Dev.capDrop_evolves ..).mono h1
    · exact h1

theorem functionDisable_stops {e : F × Nat} (hlive : s.dev.live = true) (hgrade : fixAbsent s.dev.grade fix = false) (he : enableOf fix = some e)
    (hheld : s.dev.enableHeld fix = false) (hon : (s.dev.fnOf fix).st = .on) :
    Does (.functionDisable fix val) s [.regs, .dirty, .fn, .rng, .lcp, .sch] (fun d =>
      d.fnOf fix = { s.dev.fnOf fix with st := .stopping, pending := false, thenStop := false } ∧ OtherFns fix s.dev d) := by
  have hruns : Runs (.functionDisable fix val) s (s.dev.fnCfgWrite fix (withBits val.toNat 31 1 0)) := rfl
  rw [Dev.fnCfgWrite_eq val.toNat 0 hlive hgrade he hheld, if_neg (by decide)] at hruns
  have hw : Evolves [.regs, .dirty] s.dev (s.dev.plainWrite (e.1.at e.2) (withBits val.toNat 31 1 0)) := Dev.plainWrite_evolves ..
  generalize s.dev.plainWrite (e.1.at e.2) (withBits val.toNat 31 1 0) = d1 at hruns hw
  have hsame : d1.fnOf fix = s.dev.fnOf fix := Dev.fnOf_congr (hw.keeps .fn (by decide)) fix
  have hstop : d1.disable fix = d1.fnStop fix false := by
    unfold Dev.disable
    dsimp only
    rw [hsame, hon]
  rw [hstop] at hruns
  obtain ⟨hfn, hothers⟩ := d1.fnStop_fn fix false
  rw [hsame] at hfn
  exact .of hruns ((Dev.fnStop_evolves ..).after hw.mono).keeps ⟨hfn, hw.otherFns.trans hothers⟩

/-- A starting function that what its kind asks for lets start. -/
theorem functionStarted_runs {nand : NandPart} (hlive : s.dev.live = true) (hst : (s.dev.fnOf fix).st = .starting) (hblocked : (s.dev.fnOf fix).blocked = false)
    (hready : s.dev.startable_ fix = true) (hstay : (s.dev.fnOf fix).thenStop = false) :
    Runs (.functionStarted fix nand) s ((s.dev.setFn fix { st := .on, pending := (s.dev.fnOf fix).pending }).fnOn fix nand) := by
  simp [Runs, exec, execFunctionStarted, State.go, State.withDev, Dev.fnStarted, hlive, hst, hblocked, hready, hstay]

theorem functionStarted_on {nand : NandPart} (hlive : s.dev.live = true) (hst : (s.dev.fnOf fix).st = .starting) (hblocked : (s.dev.fnOf fix).blocked = false)
    (hready : s.dev.startable_ fix = true) (hstay : (s.dev.fnOf fix).thenStop = false) (hfix : fix.val < 10 ∨ 14 ≤ fix.val) :
    Does (.functionStarted fix nand) s [.regs, .fn, .tim, .met, .par] (fun d =>
      d.fnOf fix = { st := .on, pending := (s.dev.fnOf fix).pending } ∧ OtherFns fix s.dev d) := by
  have hruns := functionStarted_runs (nand := nand) hlive hst hblocked hready hstay
  have hset : Evolves [.fn] s.dev (s.dev.setFn fix { st := .on, pending := (s.dev.fnOf fix).pending }) := Dev.setFn_evolves ..
  have hothers : OtherFns fix s.dev (s.dev.setFn fix { st := .on, pending := (s.dev.fnOf fix).pending }) := OtherFns.setFn
  have hfn := Dev.fnOf_setFn s.dev fix { st := .on, pending := (s.dev.fnOf fix).pending }
  generalize s.dev.setFn fix { st := .on, pending := (s.dev.fnOf fix).pending } = d1 at hruns hset hothers hfn
  have hon : Evolves [.regs, .tim, .met, .par] d1 (d1.fnOn fix nand) := by
    unfold Dev.fnOn
    split
    · exact (Dev.beaconSeries_evolves ..).mono
    split
    · exact (Dev.ethLock_evolves ..).mono
    split
    · omega
    split
    · exact (Dev.setMcm_evolves ..).mono
    split
    · exact Evolves.par.after (Dev.wrb_evolves ..).mono
    split
    · exact .refl
    · exact (Dev.stepDone_evolves ..).mono
  exact .of hruns (hon.after hset.mono).keeps ⟨(Dev.fnOf_congr (hon.keeps .fn (by decide)) _).trans hfn, hothers.trans hon.otherFns⟩

/-- A media fault of the mounting is Degraded. -/
theorem Dev.mount_reports (d : Dev) : Evolves (.ftl :: .nand :: reportParts) d d.mount := by
  refine (Dev.mount_evolves d).narrow ?_
  unfold Dev.mount
  split
  · exact Keeps.refl _ _
  extract_lets d1
  have h1 : Evolves (.ftl :: .nand :: reportParts) d d1 := (Dev.mediaGeom_evolves ..).mono
  split
  · exact h1.keeps
  split
  · exact ((Dev.mediaState_evolves ..).after <| (Dev.format_evolves ..).after h1).keeps
  split
  · exact ((Dev.mediaState_evolves ..).after <| Evolves.ftl.after h1).keeps
  · extract_lets d2 w _ d3
    have h2 : Evolves (.ftl :: .nand :: reportParts) d d2 := Evolves.ftl.after h1
    have h3 : Evolves (.ftl :: .nand :: reportParts) d d3 := Evolves.ftl.after h2
    split
    · exact h2.keeps
    · have h4 : Evolves (.ftl :: .nand :: reportParts) d (d3.recordPost 3 0x0D85 3 0xC 0 0 w) := (Dev.recordPost_evolves ..).after h3
      generalize d3.recordPost 3 0x0D85 3 0xC 0 0 w = d4 at h4
      exact h4.keeps.trans ((d4.fault_reporting 0x0D85 0xC 3 w true (by decide)).keeps.mono (by decide))

theorem functionStarted_channel {n : Fin 4} {nand : NandPart} (hlive : s.dev.live = true) (hfix : fix.val = 10 + n.val)
    (hst : (s.dev.fnOf fix).st = .starting) (hblocked : (s.dev.fnOf fix).blocked = false) (hstay : (s.dev.fnOf fix).thenStop = false)
    (hfast : nand.slow = false) :
    Does (.functionStarted fix nand) s (.fn :: .ftl :: .nand :: reportParts) (fun d =>
      d.fnOf fix = { st := .on, pending := (s.dev.fnOf fix).pending } ∧ OtherFns fix s.dev d) := by
  have hready : s.dev.startable_ fix = true := by
    unfold Dev.startable_
    rw [if_neg (by omega), if_neg (by omega), if_neg (by omega)]
  have hruns := functionStarted_runs (nand := nand) hlive hst hblocked hready hstay
  have hset : Evolves [.fn] s.dev (s.dev.setFn fix { st := .on, pending := (s.dev.fnOf fix).pending }) := Dev.setFn_evolves ..
  have hothers : OtherFns fix s.dev (s.dev.setFn fix { st := .on, pending := (s.dev.fnOf fix).pending }) := OtherFns.setFn
  have hfn := Dev.fnOf_setFn s.dev fix { st := .on, pending := (s.dev.fnOf fix).pending }
  generalize s.dev.setFn fix { st := .on, pending := (s.dev.fnOf fix).pending } = d1 at hruns hset hothers hfn
  have hon : Evolves (.ftl :: .nand :: reportParts) d1 (d1.fnOn fix nand) := by
    unfold Dev.fnOn
    rw [if_neg (by omega), if_neg (by omega), if_pos (by omega)]
    unfold Dev.nandOn
    extract_lets e0 e1 _ e2
    have h0 : Evolves (.ftl :: .nand :: reportParts) d1 e0 := (Dev.setWord_evolves ..).after <| (Dev.wr_evolves ..).after (Dev.wr_evolves ..).mono
    have h1 : Evolves (.ftl :: .nand :: reportParts) d1 e1 := (Dev.wr_evolves ..).after <| (Dev.wr_evolves ..).after <| (Dev.setWord_evolves ..).after h0
    have h2 : Evolves (.ftl :: .nand :: reportParts) d1 e2 := Evolves.ftl.after h1
    rw [hfast, if_neg (by decide)]
    exact (Dev.mount_reports ..).after h2
  exact .of hruns (hon.after hset.mono).keeps ⟨(Dev.fnOf_congr (hon.keeps .fn (by decide)) _).trans hfn, hothers.trans hon.otherFns⟩

theorem functionStopped_runs (hlive : s.dev.live = true) (hst : (s.dev.fnOf fix).st = .stopping) (hidle : s.dev.fnIdle fix = true) :
    Runs (.functionStopped fix) s (s.dev.fnOff fix) := by
  simp [Runs, exec, execFunctionStopped, State.go, State.withDev, hlive, hst, hidle]

theorem functionStopped_simple (hlive : s.dev.live = true) (hst : (s.dev.fnOf fix).st = .stopping) (hpending : (s.dev.fnOf fix).pending = false)
    (hidle : s.dev.fnIdle fix = true) (hfix : (10 ≤ fix.val ∧ fix.val < 14) ∨ fix.val = 18 ∨ 64 ≤ fix.val) :
    Does (.functionStopped fix) s [.regs, .fn] (fun d => d.fnOf fix = {} ∧ OtherFns fix s.dev d) := by
  have hruns := functionStopped_runs hlive hst hidle
  have hoff : s.dev.fnOff fix = (s.dev.setFn fix {}).fnRelease fix := by
    unfold Dev.fnOff
    simp [hpending, show ¬ (2 ≤ fix.val ∧ fix.val < 6) by omega, show ¬ (14 ≤ fix.val ∧ fix.val < 18) by omega]
  have hrel : Evolves [.regs] (s.dev.setFn fix {}) ((s.dev.setFn fix {}).fnRelease fix) := by
    unfold Dev.fnRelease
    rw [if_neg (by omega), if_neg (by omega), if_neg (by omega)]
    split
    · exact .refl
    rw [if_neg (by omega)]
    split
    · exact (Dev.wrb_evolves ..).after (.ite (Dev.wrb_evolves ..) .refl)
    rw [if_neg (by omega)]
    exact .refl
  rw [hoff] at hruns
  exact .of hruns (hrel.after (Dev.setFn_evolves ..).mono).keeps
    ⟨(Dev.fnOf_congr (hrel.keeps .fn (by decide)) _).trans (Dev.fnOf_setFn ..), OtherFns.setFn.trans hrel.otherFns⟩

/-- The parts that the release of a function can change. -/
def releaseParts : List Part :=
  .fn :: .tim :: .ctx :: .tar :: .par :: .sec :: .sch :: .lcp :: .rad :: .cals :: .ldg :: .met :: .eth :: .fl :: reportParts

theorem functionStopped_off (hlive : s.dev.live = true) (hst : (s.dev.fnOf fix).st = .stopping) (hpending : (s.dev.fnOf fix).pending = false)
    (hidle : s.dev.fnIdle fix = true) : Does (.functionStopped fix) s releaseParts (fun d => d.fnOf fix = {}) := by
  have hruns := functionStopped_runs hlive hst hidle
  unfold Dev.fnOff at hruns
  simp only [hpending, Bool.false_eq_true, if_false] at hruns
  have hplay : Evolves [.out] s.dev (if 2 ≤ fix.val ∧ fix.val < 6 then s.dev.play (fix - 2) 3 else s.dev) := .ite (Dev.play_evolves ..) .refl
  generalize (if 2 ≤ fix.val ∧ fix.val < 6 then s.dev.play (fix - 2) 3 else s.dev) = d0 at hruns hplay
  have hset : Evolves releaseParts s.dev (d0.setFn fix {}) := (Dev.setFn_evolves ..).after hplay.mono
  have hfn := Dev.fnOf_setFn d0 fix {}
  generalize d0.setFn fix {} = d1 at hruns hset hfn
  have hst1 : (d1.fnOf fix).st ≠ .starting := by rw [hfn]; decide
  have hrelease (c : Prop) [Decidable c] : Evolves releaseParts s.dev (if c then d1.wrb F.MET_CM_STS_BLOCKED (fix - 14) false else d1.fnRelease fix)
      ∧ (if c then d1.wrb F.MET_CM_STS_BLOCKED (fix - 14) false else d1.fnRelease fix).fnOf fix = {} := by
    split
    · exact ⟨(Dev.wrb_evolves ..).after hset, (Dev.fnOf_congr (Dev.wrb_fn ..) _).trans hfn⟩
    · exact ⟨(Dev.fnRelease_reports ..).after hset, (Dev.fnRelease_fnOf hst1).trans hfn⟩
  obtain ⟨h2, hfn2⟩ := hrelease (14 ≤ fix.val ∧ fix.val < 18 ∧ ¬(decide (14 ≤ fix.val ∧ fix.val < 18) && !(s.dev.fnOf fix).blocked) = true)
  generalize (if 14 ≤ fix.val ∧ fix.val < 18 ∧ ¬(decide (14 ≤ fix.val ∧ fix.val < 18) && !(s.dev.fnOf fix).blocked) = true then
    d1.wrb F.MET_CM_STS_BLOCKED (fix - 14) false else d1.fnRelease fix) = d2 at hruns h2 hfn2
  split at hruns
  · exact .of hruns ((Dev.cmUnblock_evolves ..).after h2).keeps
      ((Dev.cmUnblock_fnOf (by omega) (by omega) (by rw [hfn2]; decide)).trans hfn2)
  · exact .of hruns h2.keeps hfn2

theorem functionStartTimeout_fails (hlive : s.dev.live = true) (hst : (s.dev.fnOf fix).st = .starting) (hblocked : (s.dev.fnOf fix).blocked = false) :
    Does (.functionStartTimeout fix) s releaseParts (fun d => (d.fnOf fix).st = .failed) := by
  have hruns : ∃ t, Runs (.functionStartTimeout fix) s (((s.dev.toMono t).failFn fix).fnRelease fix) := by
    simp only [Runs, exec, execFunctionStartTimeout, State.go, State.withDev, hlive, hst, hblocked, decide_true, Bool.not_false, Bool.and_self, if_true]
    exact ⟨_, rfl⟩
  obtain ⟨t, hruns⟩ := hruns
  have hfail : Evolves releaseParts s.dev ((s.dev.toMono t).failFn fix) := (Dev.failFn_reports ..).after (Dev.toMono_evolves ..).mono
  have hfn := Dev.failFn_fnOf (s.dev.toMono t) fix
  generalize (s.dev.toMono t).failFn fix = d1 at hruns hfail hfn
  refine .of hruns ((Dev.fnRelease_reports ..).after hfail).keeps ?_
  rw [Dev.fnRelease_fnOf (by rw [hfn]; decide), hfn]

theorem functionReset_stops {k : Nat} (hlive : s.dev.live = true) (hgo : F.GLB_FUNC_RESET_GO.get val.toNat = 1)
    (hk : F.GLB_FUNC_RESET_FIX.get val.toNat = k) (hgrade : fixAbsent s.dev.grade k = false) (hon : (s.dev.fnOf k).st = .on) :
    Does (.functionReset val) s (.fn :: .tim :: .ctx :: .par :: .sch :: .lcp :: .rad :: reportParts) (fun d =>
      (d.fnOf k).st = .stopping ∧ (d.fnOf k).pending = true ∧ OtherFns k s.dev d) := by
  have hruns : ∃ d0, Runs (.functionReset val) s (if k = 18 then ((d0.fnFlush k).fnStop k true).pairReset else (d0.fnFlush k).fnStop k true)
      ∧ Evolves [.regs] s.dev d0 := by
    simp only [Runs, exec, execFunctionReset, State.go, State.withDev, hlive, hgo, hk, decide_true, Bool.and_self, if_true, Dev.fnReset, hgrade,
      Bool.false_eq_true, if_false, hon]
    refine ⟨_, rfl, ?_⟩
    split
    · exact .ite .refl (Dev.wrb_evolves ..)
    · exact .refl
  obtain ⟨d0, hruns, h0⟩ := hruns
  have hflush : Evolves [.regs, .rng, .lne, .sch] s.dev (d0.fnFlush k) := (Dev.fnFlush_evolves ..).after h0.mono
  have hsame := Dev.fnOf_congr (hflush.keeps .fn (by decide)) k
  obtain ⟨hfn, hothers⟩ := (d0.fnFlush k).fnStop_fn k true
  have hstop : Evolves (.fn :: .tim :: .ctx :: .par :: .sch :: .lcp :: .rad :: reportParts) s.dev ((d0.fnFlush k).fnStop k true) :=
    (Dev.fnStop_evolves ..).after hflush.mono
  have hall : OtherFns k s.dev ((d0.fnFlush k).fnStop k true) := hflush.otherFns.trans hothers
  generalize (d0.fnFlush k).fnStop k true = d1 at hruns hfn hstop hall
  split at hruns
  · have hpair := d1.pairReset_evolves
    have hfn' := (Dev.fnOf_congr (hpair.keeps .fn (by decide)) k).trans hfn
    exact .of hruns (hpair.after hstop).keeps ⟨by rw [hfn'], by rw [hfn'], hall.trans hpair.otherFns⟩
  · exact .of hruns hstop.keeps ⟨by rw [hfn], by rw [hfn], hall⟩

theorem serdesLockLoss_fails_port {port : Fin 5} (hlive : s.dev.live = true) (hport : port.val < 4) (hon : s.dev.isOn (6 + port.val) = true) :
    Does (.serdesLockLoss port) s (.fn :: .eth :: reportParts) (fun d =>
      (d.fnOf (6 + port.val)).st = .failed ∧ OtherFns (6 + port.val) s.dev d ∧ d.on F.ETH_STS_LINK port = false) := by
  have hruns : Runs (.serdesLockLoss port) s (((s.dev.ethDown port).failFn (6 + port.val)).fnRelease (6 + port.val)) := by
    simp only [Runs, exec, execSerdesLockLoss, State.go, State.withDev, if_neg (show ¬ port.val = 4 by omega), hlive, hon, Bool.and_self, if_true]
  have hdown := s.dev.ethDown_evolves port
  have hfail : Evolves (.fn :: .eth :: reportParts) s.dev ((s.dev.ethDown port).failFn (6 + port.val)) := (Dev.failFn_reports ..).after hdown.mono
  have hfn := Dev.failFn_fnOf (s.dev.ethDown port) (6 + port.val)
  have hothers : OtherFns (6 + port.val) s.dev ((s.dev.ethDown port).failFn (6 + port.val)) := hdown.otherFns.trans (Dev.failFn_otherFns _ _)
  generalize (s.dev.ethDown port).failFn (6 + port.val) = d1 at hruns hfail hfn hothers
  have hrel : d1.fnRelease (6 + port.val) = (((d1.ethDiscard port).wrb F.ETH_STS_LINK port false).setEp port
      { ((d1.ethDiscard port).wrb F.ETH_STS_LINK port false).ep port with linkAt := none, pauseUntil := none }).ethLock := by
    unfold Dev.fnRelease
    rw [if_neg (by omega), if_neg (by omega), if_pos (by omega), Nat.add_sub_cancel_left]
  have hev : Evolves (.eth :: reportParts) d1 (d1.fnRelease (6 + port.val)) := by
    rw [hrel]
    exact (Dev.ethLock_evolves ..).after <| (Dev.setEp_evolves ..).after <| (Dev.wrb_evolves ..).after (Dev.ethDiscard_evolves ..).mono
  refine .of hruns (hev.after hfail).keeps ⟨by rw [Dev.fnOf_congr (hev.keeps .fn (by decide)), hfn], hothers.trans hev.otherFns, ?_⟩
  rw [hrel, (Dev.ethLock_writes ..).on_fin _ port, (Dev.setEp_evolves ..).quiet.on_fin _ port]
  exact Dev.on_wrb _ _ _ _ (by decide) rfl

theorem serdesLockLoss_fails_pair (hlive : s.dev.live = true) (hon : s.dev.isOn 18 = true) :
    Does (.serdesLockLoss 4) s (.fn :: .par :: reportParts) (fun d =>
      (d.fnOf 18).st = .failed ∧ OtherFns 18 s.dev d ∧ d.par.lanes = [false, false] ∧ d.on F.GLB_CLK_STS_PAIR_LOCK = false
        ∧ d.on F.GLB_CLK_STS_LOSS_SEEN = (s.dev.on F.GLB_CLK_STS_LOSS_SEEN || s.dev.on F.GLB_CLK_STS_PAIR_LOCK)) := by
  have hruns : Runs (.serdesLockLoss 4) s (((((({ s.dev with par := { s.dev.par with lanes := [false, false], credit := 0, freed := 4096, staged := [] } } : Dev).bump
      F.PAR_LINK_DOWN).failFn 18)).fnRelease 18).healthCheck) := by
    simp only [Runs, exec, execSerdesLockLoss, State.go, State.withDev, hlive, hon, Bool.and_self, if_true]
    rfl
  have hdown : Evolves [.par, .regs] s.dev (({ s.dev with par := { s.dev.par with lanes := [false, false], credit := 0, freed := 4096, staged := [] } } : Dev).bump
      F.PAR_LINK_DOWN) := (Dev.bump_evolves ..).after Evolves.par.mono
  have hlanes : (({ s.dev with par := { s.dev.par with lanes := [false, false], credit := 0, freed := 4096, staged := [] } } : Dev).bump
      F.PAR_LINK_DOWN).par.lanes = [false, false] := rfl
  have hdownW : Writes [F.PAR_LINK_DOWN] s.dev (({ s.dev with par := { s.dev.par with lanes := [false, false], credit := 0, freed := 4096, staged := [] } } : Dev).bump
      F.PAR_LINK_DOWN) := (Writes.bump ..).after Evolves.par.quiet.mono
  generalize ({ s.dev with par := { s.dev.par with lanes := [false, false], credit := 0, freed := 4096, staged := [] } } : Dev).bump F.PAR_LINK_DOWN = d0
    at hruns hdown hlanes hdownW
  have hfail := d0.failFn_reports 18
  have hfailOthers := d0.failFn_otherFns 18
  have hfailFn := d0.failFn_fnOf 18
  have hfailW := d0.failFn_writes 18
  generalize d0.failFn 18 = d1 at hruns hfail hfailOthers hfailFn hfailW
  have hrel : d1.fnRelease 18 = (if d1.on F.GLB_CLK_STS_PAIR_LOCK then d1.wrb F.GLB_CLK_STS_LOSS_SEEN 0 true else d1).wrb F.GLB_CLK_STS_PAIR_LOCK 0 false := rfl
  have hrelEv : Evolves [.regs] d1 (d1.fnRelease 18) := by
    rw [hrel]
    exact (Dev.wrb_evolves ..).after (.ite (Dev.wrb_evolves ..) .refl)
  have hlock : (d1.fnRelease 18).on F.GLB_CLK_STS_PAIR_LOCK = false := by
    rw [hrel]
    exact Dev.on_wrb _ _ _ _ (by decide) rfl
  have hseen : (d1.fnRelease 18).on F.GLB_CLK_STS_LOSS_SEEN = (d1.on F.GLB_CLK_STS_LOSS_SEEN || d1.on F.GLB_CLK_STS_PAIR_LOCK) := by
    rw [hrel, (Writes.wrb F.GLB_CLK_STS_PAIR_LOCK 0 false).on _]
    split
    · next h => rw [Dev.on_wrb _ _ _ _ (by decide) rfl, h, Bool.or_true]
    · next h => rw [Bool.eq_false_iff.2 h, Bool.or_false]
  generalize d1.fnRelease 18 = d2 at hruns hrelEv hlock hseen
  have hcheck := d2.healthCheck_evolves
  have hcheckW := d2.healthCheck_writes
  have hfn : d2.healthCheck.fnOf 18 = { st := .failed } :=
    (Dev.fnOf_congr (hcheck.keeps .fn (by decide)) 18).trans ((Dev.fnOf_congr (hrelEv.keeps .fn (by decide)) 18).trans hfailFn)
  refine .of hruns (hcheck.after <| hrelEv.after <| hfail.after hdown.mono).keeps ⟨by rw [hfn], ?_, ?_, (hcheckW.on _).trans hlock, ?_⟩
  · exact ((hdown.otherFns.trans hfailOthers).trans hrelEv.otherFns).trans hcheck.otherFns
  · have hpar : d2.healthCheck.par.lanes = d2.par.lanes := by
      unfold Dev.healthCheck
      dsimp only
      split
      · rfl
      · rw [(Dev.post_evolves ..).keeps .par (by decide)]
    rw [hpar, hrelEv.keeps .par (by decide), hfail.keeps .par (by decide), hlanes]
  · rw [hcheckW.on _, hseen, hfailW.on _, hfailW.on _, hdownW.on _, hdownW.on _]

end

/-- Settles O27, one command after the other. -/
theorem functionLifecycle : Obligations.FunctionLifecycle :=
  ⟨fun _ _ _ _ => functionEnable_starts, fun _ _ _ => functionEnable_radio, fun _ _ _ _ => functionDisable_stops, fun _ _ _ => functionStarted_on,
    fun _ _ _ _ => functionStarted_channel, fun _ _ => functionStopped_simple, fun _ _ => functionStopped_off, fun _ _ => functionStartTimeout_fails,
    fun _ _ _ => functionReset_stops, fun _ _ => serdesLockLoss_fails_port, fun _ => serdesLockLoss_fails_pair⟩

end Sys2Proof.Machine
end

section

-- one proof after the other: the check gives the text few threads
set_option Elab.async false

namespace Sys2Proof.Machine

/-! ## Contexts put into the table: what reads back

`putCtx` leaves a context whose image is the same; what an image spells reads back all the same. -/

theorem leBytes_mod {n v w : Nat} (h : leBytes n v = leBytes n w) : v % 256 ^ n = w % 256 ^ n := by
  induction n generalizing v w with
  | zero => simp [Nat.mod_one]
  | succ n ih =>
    obtain ⟨hb, ht⟩ := List.cons.inj h
    have hlow : v % 256 = w % 256 := by
      have hb' := congrArg BitVec.toNat hb
      simpa using hb'
    have hhigh := ih ht
    rw [Nat.pow_succ', Nat.mod_mul, Nat.mod_mul, hlow, hhigh]

/-- Fields that are laid out in the same bytes have the same values, as wide as they are. -/
theorem layBytes_mod {fs gs : List (Nat × Nat)} (hw : fs.map Prod.fst = gs.map Prod.fst) (h : layBytes fs = layBytes gs) :
    fs.map (fun f => f.2 % 256 ^ f.1) = gs.map (fun f => f.2 % 256 ^ f.1) := by
  induction fs generalizing gs with
  | nil =>
    obtain rfl : gs = [] := by simpa using hw.symm
    rfl
  | cons f fs ih =>
    obtain _ | ⟨g, gs⟩ := gs
    · cases hw
    obtain ⟨hfg, hrest⟩ := List.cons.inj hw
    obtain ⟨hhead, htail⟩ := List.append_inj (show leBytes f.1 f.2 ++ layBytes fs = leBytes g.1 g.2 ++ layBytes gs from h)
      (by rw [length_leBytes, length_leBytes, hfg])
    rw [List.map_cons, List.map_cons, ih hrest htail]
    rw [← hfg] at hhead ⊢
    rw [leBytes_mod hhead]

/-- A reading of a context that its image settles, whatever the Ledger's node and the cycle of its change. -/
structure Ctx.Shown {α : Type} (g : Ctx → α) : Prop where
  image : ∀ m c c', Ctx.image m c = Ctx.image m c' → g c = g c'
  node : ∀ c b, g { c with balNode := b } = g c
  cycle : ∀ c l, g { c with lineCycle := l } = g c

theorem Ctx.head_of_image {m : Nat} {c c' : Ctx} (h : c.image m = c'.image m) :
    (c.head m).map (fun f => f.2 % 256 ^ f.1) = (c'.head m).map (fun f => f.2 % 256 ^ f.1) := by
  unfold Ctx.image at h
  rw [List.append_assoc, List.append_assoc] at h
  exact layBytes_mod (by simp only [Ctx.head, List.map_cons, List.map_nil])
    (List.append_inj h (by rw [Ctx.length_layBytes_head, Ctx.length_layBytes_head])).1

theorem Ctx.tail_of_image {m : Nat} {c c' : Ctx} (h : c.image m = c'.image m) :
    c.tail.map (fun f => f.2 % 256 ^ f.1) = c'.tail.map (fun f => f.2 % 256 ^ f.1) := by
  unfold Ctx.image at h
  exact layBytes_mod (by simp only [Ctx.tail, List.map_cons, List.map_nil]) (List.append_inj' h (by rw [Ctx.length_layBytes_tail, Ctx.length_layBytes_tail])).2

theorem Ctx.shown_attach : Ctx.Shown fun c => c.attach % 256 where
  image _ _ _ h := congrArg (fun l : List Nat => l.getD 5 0) (Ctx.head_of_image h)
  node _ _ := rfl
  cycle _ _ := rfl

theorem Ctx.shown_hops : Ctx.Shown fun c => c.hops % 256 where
  image _ _ _ h := congrArg (fun l : List Nat => l.getD 6 0) (Ctx.head_of_image h)
  node _ _ := rfl
  cycle _ _ := rfl

theorem Ctx.shown_linkCost : Ctx.Shown fun c => c.linkCost % 256 where
  image _ _ _ h := congrArg (fun l : List Nat => l.getD 37 0) (Ctx.head_of_image h)
  node _ _ := rfl
  cycle _ _ := rfl

theorem Ctx.shown_lastRx : Ctx.Shown fun c => c.lastRx % 2 ^ 32 where
  image _ _ _ h := congrArg (fun l : List Nat => l.getD 8 0) (Ctx.head_of_image h)
  node _ _ := rfl
  cycle _ _ := rfl

theorem Ctx.shown_framesRx : Ctx.Shown fun c => c.framesRx % 2 ^ 32 where
  image _ _ _ h := congrArg (fun l : List Nat => l.getD 10 0) (Ctx.tail_of_image h)
  node _ _ := rfl
  cycle _ _ := rfl

theorem Ctx.shown_vee : Ctx.Shown fun c => c.vee % 256 where
  image _ _ _ h := congrArg (fun l : List Nat => l.getD 2 0) (Ctx.tail_of_image h)
  node _ _ := rfl
  cycle _ _ := rfl

/-- The word of a context's image that names its MIX, its meter's kind and medium, and its state. -/
def Ctx.idWord (m : Nat) (c : Ctx) : Nat := m % 2 ^ 20 + c.kind % 2 * 2 ^ 20 + c.medium % 16 * 2 ^ 24 + c.st % 16 * 2 ^ 28

theorem Ctx.idWord_of_image {m : Nat} {c c' : Ctx} (h : c.image m = c'.image m) : c.idWord m % 256 ^ 4 = c'.idWord m % 256 ^ 4 := by
  have hat := congrArg (fun l : List Nat => l.getD 1 0) (Ctx.head_of_image h)
  simpa only [Ctx.head, List.map_cons, List.getD_cons_succ, List.getD_cons_zero, Ctx.idWord] using hat

theorem Ctx.shown_st : Ctx.Shown fun c => c.st % 16 where
  image m c c' h := by
    have hid := Ctx.idWord_of_image h
    unfold Ctx.idWord at hid
    norm_num at hid
    omega
  node _ _ := rfl
  cycle _ _ := rfl

theorem Ctx.Shown.prod {α β : Type} {f : Ctx → α} {g : Ctx → β} (hf : Ctx.Shown f) (hg : Ctx.Shown g) : Ctx.Shown fun c => (f c, g c) where
  image m c c' h := by rw [hf.image m c c' h, hg.image m c c' h]
  node c b := by rw [hf.node, hg.node]
  cycle c l := by rw [hf.cycle, hg.cycle]

/-- What is put into the table reads back, as far as images tell. -/
theorem Dev.putCtx_shown {α : Type} {g : Ctx → α} (hg : Ctx.Shown g) (d : Dev) (m : Nat) (c : Ctx) : ((d.putCtx m c).ctxAt m).map g = some (g c) := by
  unfold Dev.putCtx
  extract_lets c1 old c2
  have h1 : g c1 = g c := hg.node c _
  have h2 : g c2 = g c := (hg.cycle c1 _).trans h1
  split
  · next hsame =>
    have hlen := congrArg List.length hsame
    unfold old at hsame hlen
    cases hat : d.ctxAt m with
    | none => simp [hat] at hlen
    | some o =>
      rw [hat] at hsame
      rw [Option.map_some, ← hg.image m _ _ hsame, h1]
  · unfold Dev.mark Dev.ctxAt
    rw [Tab.find_put_self, Option.map_some, h2]

theorem Dev.putCtx_ctxAt_other (d : Dev) {m k : Nat} (c : Ctx) (h : k ≠ m) : (d.putCtx m c).ctxAt k = d.ctxAt k := by
  unfold Dev.putCtx
  extract_lets c1 old c2
  split
  · rfl
  · exact Tab.find_put_other _ _ _ _ h

theorem Dev.editCtx_shown {α : Type} {g : Ctx → α} (hg : Ctx.Shown g) {d : Dev} {m : Nat} {c : Ctx} (h : d.ctxAt m = some c) (f : Ctx → Ctx) :
    ((d.editCtx m f).ctxAt m).map g = some (g (f c)) := by
  unfold Dev.editCtx
  rw [h]
  exact d.putCtx_shown hg m (f c)

theorem Dev.editCtx_ctxAt_other (d : Dev) {m k : Nat} (f : Ctx → Ctx) (h : k ≠ m) : (d.editCtx m f).ctxAt k = d.ctxAt k := by
  unfold Dev.editCtx
  split
  · exact d.putCtx_ctxAt_other _ h
  · rfl

end Sys2Proof.Machine
end

section

-- one proof after the other: the check gives the text few threads
set_option Elab.async false

namespace Sys2Proof.Machine

/-! ## What the field link's sending writes -/

theorem Dev.ethQueue_writes (d : Dev) (p : Nat) (t : EthTx) : Writes eventFields d (d.ethQueue p t) := by
  unfold Dev.ethQueue
  exact .ite ((Dev.setEp_evolves ..).quiet.mono) ((Dev.ethCount_writes ..).mono)

theorem Dev.flSendOn_writes (d : Dev) (p fdx : Nat) (r : FlRec) (retx : Bool) : Writes eventFields d (d.flSendOn p fdx r retx) := by
  unfold Dev.flSendOn
  extract_lets
  split
  · rename_i y0 y1 y2 y3
    split
    · exact .refl
    · extract_lets _ d1
      have hd1 : Writes eventFields d d1 := (Dev.setFlEnd_evolves ..).quiet.mono
      exact (Dev.ethQueue_writes ..).after hd1

theorem Dev.flSend_writes (d : Dev) (fdx : Nat) (r : FlRec) (retx : Bool) : Writes eventFields d (d.flSend fdx r retx) := by
  unfold Dev.flSend
  exact (Dev.flSendOn_writes ..).mono

theorem Dev.dataAck_writes (d : Dev) (fdx : Nat) : Writes eventFields d (d.dataAck fdx) := by
  unfold Dev.dataAck
  extract_lets
  exact (Dev.flSend_writes ..).after <| (Dev.setFd_evolves ..).quiet.mono

end Sys2Proof.Machine
end

section

-- one proof after the other: the check gives the text few threads
set_option Elab.async false

namespace Sys2Proof.Machine

/-! ## O29: field-link records that are held until they are covered, and status -/

/-! ### Taking a record -/

/-- The device without a record that waited. -/
def Dev.tookRec (d : Dev) (e : Nat × Nat × Nat × FlRec) : Dev := { d with fl := { d.fl with inbox := d.fl.inbox.erase e } }

@[simp] theorem Dev.tookRec_fd (d : Dev) (e : Nat × Nat × Nat × FlRec) (k : Nat) : (d.tookRec e).fd k = d.fd k := rfl
@[simp] theorem Dev.tookRec_ctxAt (d : Dev) (e : Nat × Nat × Nat × FlRec) (m : Nat) : (d.tookRec e).ctxAt m = d.ctxAt m := rfl
@[simp] theorem Dev.tookRec_lookup (d : Dev) (e : Nat × Nat × Nat × FlRec) (kind addr : Nat) : (d.tookRec e).lookup kind addr = d.lookup kind addr := rfl
@[simp] theorem Dev.tookRec_rd (d : Dev) (e : Nat × Nat × Nat × FlRec) (f : F) (i : Nat) : (d.tookRec e).rd f i = d.rd f i := rfl

theorem Dev.tookRec_evolves (d : Dev) (e : Nat × Nat × Nat × FlRec) : Evolves [.fl] d (d.tookRec e) := Evolves.fl

/-- The oldest record of its type is the one that its command takes. -/
theorem Dev.onRec_of_hears {d : Dev} {e : Nat × Nat × Nat × FlRec} {pick : FlRec → Bool} {f : Dev → Nat → Nat → Nat → FlRec → Dev} (h : d.hears e)
    (hpick : ∀ r, pick r = true ↔ rtype r = rtype e.2.2.2) : d.onRec pick f = f (d.tookRec e) e.1 e.2.1 e.2.2.1 e.2.2.2 := by
  obtain ⟨hserves, hfind⟩ := h
  have hpicks : (fun x : Nat × Nat × Nat × FlRec => pick x.2.2.2) = fun x => decide (rtype x.2.2.2 = rtype e.2.2.2) := 
    funext fun x => by rw [Bool.eq_iff_iff, hpick, decide_eq_true_iff]
  unfold Dev.onRec
  rw [if_neg (by simp [hserves]), hpicks, hfind]
  rfl

theorem Dev.orderKnown_tookRec {d : Dev} (e : Nat × Nat × Nat × FlRec) {id : Nat} (hdone : d.fl.done.find? (fun x => decide (x.1 = id)) = none)
    (htaken : d.fl.taken.contains id = false) : (d.tookRec e).orderKnown id = none := by
  unfold Dev.orderKnown
  rw [show (d.tookRec e).fl.done.find? (fun x => decide (x.1 = id)) = none from hdone]
  exact if_neg (by rw [show (d.tookRec e).fl.taken.contains id = false from htaken]; decide)

/-! ### Sending leaves what is received and held -/

@[simp] theorem Dev.fd_setFd (d : Dev) (k : Nat) (x : Fd) : (d.setFd k x).fd k = x := Tab.getD_set _ _ _ _

theorem Dev.fd_setFd_other (d : Dev) {k j : Nat} (x : Fd) (h : j ≠ k) : (d.setFd k x).fd j = d.fd j := Tab.getD_set_other _ _ _ _ _ h

theorem Dev.fd_congr {d e : Dev} (h : e.fl = d.fl) (k : Nat) : e.fd k = d.fd k := by unfold Dev.fd; rw [h]

/-- The highest contiguous DSEQ of a field device, and those received above it. -/
def Dev.seqs (d : Dev) (k : Nat) : Nat × List Nat := ((d.fd k).dseq, (d.fd k).above)

theorem Dev.seqs_setFd (d : Dev) (k : Nat) (x : Fd) : (d.setFd k x).seqs k = (x.dseq, x.above) := by
  unfold Dev.seqs
  rw [Dev.fd_setFd]

/-- From the first device to the second the field link only sends: DSEQ, held records, answers and orders are as before. -/
structure Sends (d e : Dev) : Prop where
  seqs : ∀ k, e.seqs k = d.seqs k
  held : e.fl.held = d.fl.held
  learns : e.fl.learns = d.fl.learns
  orders : e.fl.orders = d.fl.orders

namespace Sends

variable {d e x : Dev}

theorem of_fl (h : e.fl = d.fl) : Sends d e :=
  ⟨fun k => by unfold Dev.seqs; rw [Dev.fd_congr h], by rw [h], by rw [h], by rw [h]⟩

theorem refl : Sends d d := of_fl rfl

theorem trans (h1 : Sends d e) (h2 : Sends e x) : Sends d x :=
  ⟨fun k => (h2.seqs k).trans (h1.seqs k), h2.held.trans h1.held, h2.learns.trans h1.learns, h2.orders.trans h1.orders⟩

end Sends

/-- What is set of a field device beside its DSEQ. -/
theorem Dev.setFd_sends (d : Dev) (k : Nat) (x : Fd) (hdseq : x.dseq = (d.fd k).dseq) (habove : x.above = (d.fd k).above) : Sends d (d.setFd k x) where
  seqs j := by
    unfold Dev.seqs
    obtain rfl | hne := eq_or_ne j k
    · rw [Dev.fd_setFd, hdseq, habove]
    · rw [Dev.fd_setFd_other _ _ hne]
  held := rfl
  learns := rfl
  orders := rfl

theorem Dev.setFlEnd_sends (d : Dev) (k : Nat) (e : FlEnd) : Sends d (d.setFlEnd k e) := by
  unfold Dev.setFlEnd
  split
  · exact ⟨fun _ => rfl, rfl, rfl, rfl⟩
  · exact d.setFd_sends k _ rfl rfl

theorem Dev.flSendOn_sends (d : Dev) (p k : Nat) (r : FlRec) (retx : Bool) : Sends d (d.flSendOn p k r retx) := by
  unfold Dev.flSendOn
  extract_lets e
  split
  extract_lets f d1
  split
  · exact .refl
  · exact (d.setFlEnd_sends k _).trans (.of_fl ((Dev.ethQueue_evolves ..).keeps .fl (by decide)))

theorem Dev.flSend_sends (d : Dev) (k : Nat) (r : FlRec) (retx : Bool) : Sends d (d.flSend k r retx) := d.flSendOn_sends _ k r retx

/-- What is sent of the held records stays held, under the same numbers. -/
theorem Dev.flPush_holds (d : Dev) : d.flPush.fl.held.map FlHeld.num = d.fl.held.map FlHeld.num ∧ d.flPush.fl.learns = d.fl.learns := by
  unfold Dev.flPush
  split
  · exact ⟨rfl, rfl⟩
  · refine List.foldlRecOn (motive := fun x : Dev => x.fl.held.map FlHeld.num = d.fl.held.map FlHeld.num ∧ x.fl.learns = d.fl.learns) _ _ ⟨rfl, rfl⟩ ?_
    intro x ⟨hheld, hlearns⟩ h _
    have hsends := Dev.flSend_sends { x with fl := { x.fl with held := x.fl.held.map (fun y => if y.num = h.num then { y with sentAt := some x.tim.mono } else y) } }
      x.ownFdx h.rec_ false
    constructor
    · calc _ = (x.fl.held.map (fun y => if y.num = h.num then { y with sentAt := some x.tim.mono } else y)).map FlHeld.num := congrArg _ hsends.held
        _ = x.fl.held.map FlHeld.num := by
          rw [List.map_map]
          exact List.map_congr_left fun y _ => by dsimp only [Function.comp_apply]; split <;> rfl
        _ = _ := hheld
    · exact hsends.learns.trans hlearns

theorem Dev.flHoldRec_held (d : Dev) (mk : Nat → FlRec) : (d.flHoldRec mk).fl.held ≠ [] := by
  unfold Dev.flHoldRec
  extract_lets n kept d1
  intro hnil
  have hheld := (Dev.flPush_holds _).1.symm.trans (congrArg (List.map FlHeld.num) hnil)
  simp at hheld

/-- An answered order is kept for when it is asked for again (R490). -/
theorem Dev.orderDone_done (d : Dev) (id result attempts answer : Nat) (polling : Bool) :
    ((d.orderDone id result attempts answer polling).fl.done.find? (fun e => decide (e.1 = id))).isSome = true := by
  unfold Dev.orderDone
  extract_lets d1
  have hheld : d1.fl.held ≠ [] := d.flHoldRec_held _
  split
  · next hlast => exact absurd (List.getLast?_eq_none_iff.1 hlast) hheld
  · simp

/-! ### A held record arrives -/

theorem Dev.dataAck_sends (d : Dev) (k : Nat) : Sends d (d.dataAck k) := by
  unfold Dev.dataAck
  extract_lets x
  exact (d.setFd_sends k { x with ackFrom := none, ackCount := 0, auth := [] } rfl rfl).trans (Dev.flSend_sends ..)

theorem Dev.bump_sends (d : Dev) (f : F) : Sends d (d.bump f) := .of_fl ((Dev.bump_evolves ..).keeps .fl (by decide))

/-- A device that has heard of a field device up to `r`. -/
def Dev.heardTo (d : Dev) (k : Nat) (r : Nat × List Nat) (dup : Bool) : Dev :=
  let x := d.fd k
  let y : Fd := { x with dseq := r.1, above := r.2, ackFrom := some (x.ackFrom.getD d.tim.mono), ackCount := x.ackCount + 1 }
  let d1 := d.setFd k y
  let d2 := if dup then d1.bump F.FL_DUP else d1
  if 64 ≤ y.ackCount then d2.dataAck k else d2

theorem Dev.heardTo_spec (d : Dev) (k : Nat) (r : Nat × List Nat) (dup : Bool) :
    (d.heardTo k r dup).seqs k = r ∧ (d.heardTo k r dup).fl.orders = d.fl.orders
      ∧ (dup = true → (d.heardTo k r dup).rd F.FL_DUP = min (d.rd F.FL_DUP + 1) (2 ^ F.FL_DUP.len - 1)) := by
  unfold Dev.heardTo
  extract_lets x y d1 d2
  have hd1 : d1.seqs k = r := d.seqs_setFd k y
  have hd2 : Sends d1 d2 := by
    unfold d2
    split
    · exact d1.bump_sends _
    · exact .refl
  have hcount (h : dup = true) : d2.rd F.FL_DUP = min (d.rd F.FL_DUP + 1) (2 ^ F.FL_DUP.len - 1) := by
    unfold d2
    rw [if_pos h, Dev.rd_bump _ _ _ _ (by decide)]
    rfl
  split
  · have hsends := hd2.trans (d2.dataAck_sends k)
    exact ⟨(hsends.seqs k).trans hd1, hsends.orders, fun h => ((d2.dataAck_writes k).rd_eq F.FL_DUP 0).trans (hcount h)⟩
  · exact ⟨(hd2.seqs k).trans hd1, hd2.orders, hcount⟩

/-- A DSEQ not seen is new, and the highest contiguous one moves over it. -/
theorem Dev.heldRx_new {d : Dev} {k n : Nat} (hle : seqLe n (d.fd k).dseq = false) (habove : (d.fd k).above.contains n = false) :
    d.heldRx k n = (true, d.heardTo k (seqRun ((d.fd k).above.length + 1) (d.fd k).dseq (n :: (d.fd k).above)) false) := by
  have hdup : (seqLe n (d.fd k).dseq || (d.fd k).above.contains n) = false := by rw [hle, habove]; rfl
  unfold Dev.heldRx Dev.heardTo
  dsimp only
  simp only [hdup, Bool.not_false, Bool.false_eq_true, if_false]

/-- A DSEQ seen is counted as a duplicate. -/
theorem Dev.heldRx_seen {d : Dev} {k n : Nat} (hdup : (seqLe n (d.fd k).dseq || (d.fd k).above.contains n) = true) :
    d.heldRx k n = (false, d.heardTo k (d.seqs k) true) := by
  unfold Dev.heldRx Dev.heardTo
  dsimp only
  simp only [hdup, Bool.not_true, if_true]
  rfl

/-! ### The clauses -/

section
variable {s : State} {fdx p rx n : Nat}

/-- What a new record leaves before its meaning. -/
theorem Dev.heldRx_of_new {d : Dev} (e : Nat × Nat × Nat × FlRec) (hle : seqLe n (d.fd fdx).dseq = false) (habove : (d.fd fdx).above.contains n = false) :
    ∃ x, (d.tookRec e).heldRx fdx n = (true, x) ∧ Evolves linkParts d x
      ∧ x.seqs fdx = seqRun ((d.fd fdx).above.length + 1) (d.fd fdx).dseq (n :: (d.fd fdx).above) ∧ x.fl.orders = d.fl.orders := by
  have hheld : (d.tookRec e).heldRx fdx n = _ := Dev.heldRx_new (d := d.tookRec e) hle habove
  have hev := (d.tookRec e).heldRx_evolves fdx n
  rw [hheld] at hev
  obtain ⟨hseqs, horders, -⟩ := (d.tookRec e).heardTo_spec fdx (seqRun ((d.fd fdx).above.length + 1) (d.fd fdx).dseq (n :: (d.fd fdx).above)) false
  exact ⟨_, hheld, hev.after (d.tookRec_evolves e).mono, hseqs, horders⟩

theorem meterUpRx_new {port hops snr rt : Nat} {f : MFrame} (h : s.dev.hears (fdx, p, rx, .meterUp n port hops snr rt f))
    (hle : seqLe n (s.dev.fd fdx).dseq = false) (habove : (s.dev.fd fdx).above.contains n = false) :
    Does .meterUpRx s (.ctx :: .ldg :: linkParts) (fun d =>
      ((d.fd fdx).dseq, (d.fd fdx).above) = seqRun ((s.dev.fd fdx).above.length + 1) (s.dev.fd fdx).dseq (n :: (s.dev.fd fdx).above)) := by
  obtain ⟨d1, hheld, hev, hseqs, -⟩ := Dev.heldRx_of_new (fdx, p, rx, .meterUp n port hops snr rt f) hle habove
  have hruns : Runs .meterUpRx s ((d1.noteFdPort fdx f.kind f.addr (port + 1)).offer (6 + p)
      ⟨0, max 1 f.raw.length, .frame f { attach := 7, fdx := some fdx, rx := rt, hops := hops, snr := signed 8 snr, tag := n }⟩) := by
    simp only [Runs, exec, execMeterUpRx, State.go]
    rw [Dev.onRec_of_hears h (by intro r; cases r <;> simp [rtype]; omega)]
    dsimp only
    rw [hheld]
    rfl
  have hrest : Evolves (.ctx :: .ldg :: reportParts) d1 ((d1.noteFdPort fdx f.kind f.addr (port + 1)).offer (6 + p)
      ⟨0, max 1 f.raw.length, .frame f { attach := 7, fdx := some fdx, rx := rt, hops := hops, snr := signed 8 snr, tag := n }⟩) :=
    (Dev.offer_evolves ..).after (Dev.noteFdPort_evolves ..).mono
  generalize Dev.offer _ _ _ = e at hruns hrest
  refine .of hruns (hrest.after hev.mono).keeps ?_
  rw [Dev.fd_congr (hrest.keeps .fl (by decide))]
  exact hseqs

theorem meterUpRx_seen {port hops snr rt : Nat} {f : MFrame} (h : s.dev.hears (fdx, p, rx, .meterUp n port hops snr rt f))
    (hdup : (seqLe n (s.dev.fd fdx).dseq || (s.dev.fd fdx).above.contains n) = true) :
    Does .meterUpRx s linkParts (fun d => ((d.fd fdx).dseq, (d.fd fdx).above) = ((s.dev.fd fdx).dseq, (s.dev.fd fdx).above)
      ∧ d.rd F.FL_DUP = min (s.dev.rd F.FL_DUP + 1) (2 ^ F.FL_DUP.len - 1)) := by
  let took := s.dev.tookRec (fdx, p, rx, .meterUp n port hops snr rt f)
  have hheld : took.heldRx fdx n = (false, took.heardTo fdx (took.seqs fdx) true) := Dev.heldRx_seen hdup
  have hev : Evolves linkParts s.dev (took.heldRx fdx n).2 := (Dev.heldRx_evolves ..).after (Dev.tookRec_evolves ..).mono
  rw [hheld] at hev
  obtain ⟨hseqs, -, hcount⟩ := took.heardTo_spec fdx (took.seqs fdx) true
  have hruns : Runs .meterUpRx s (took.heardTo fdx (took.seqs fdx) true) := by
    simp only [Runs, exec, execMeterUpRx, State.go]
    rw [Dev.onRec_of_hears h (by intro r; cases r <;> simp [rtype]; omega)]
    dsimp only
    rw [hheld]
    rfl
  exact .of hruns hev.keeps ⟨hseqs, hcount rfl⟩

theorem Dev.ctxAt_congr {d e : Dev} (h : e.ctx = d.ctx) (m : Nat) : e.ctxAt m = d.ctxAt m := by
  unfold Dev.ctxAt
  rw [h]

/-- A context that is put back is the same but for its node and cycle. -/
theorem Dev.putCtx_ctxAt_same {d : Dev} {m : Nat} {c : Ctx} (h : d.ctxAt m = some c) :
    ∃ b l, (d.putCtx m c).ctxAt m = some { c with balNode := b, lineCycle := l } := by
  unfold Dev.putCtx
  extract_lets c1 old c2
  split
  · exact ⟨c.balNode, c.lineCycle, h⟩
  · exact ⟨_, _, Tab.find_put_self ..⟩

theorem Dev.putCtx_index (d : Dev) (m : Nat) (c : Ctx) : (d.putCtx m c).ctx.index = d.ctx.index := by
  unfold Dev.putCtx
  extract_lets c1 old c2
  split <;> rfl

theorem Dev.lookup_congr {d e : Dev} (h : e.ctx.index = d.ctx.index) (kind addr : Nat) : e.lookup kind addr = d.lookup kind addr := by
  unfold Dev.lookup
  rw [h]

/-- Noting a port of a field device's meter leaves its context the meter's, and the lookup as it is. -/
theorem Dev.noteFdPort_ctx {d : Dev} {k kind addr m : Nat} {c : Ctx} (port : Nat) (hlook : d.lookup kind addr = some m) (hctx : d.ctxAt m = some c)
    (howner : c.owner = k) : (d.noteFdPort k kind addr port).lookup kind addr = some m
      ∧ ∃ b l, (d.noteFdPort k kind addr port).ctxAt m = some { c with balNode := b, lineCycle := l } := by
  have hput : d.noteFdPort k kind addr port = (d.setLdgM m { d.ldgM m with fdPort := port }).putCtx m c := by
    unfold Dev.noteFdPort
    rw [hlook]
    dsimp only
    rw [hctx]
    dsimp only
    rw [if_pos howner]
    unfold Dev.editCtx
    rw [show (d.setLdgM m { d.ldgM m with fdPort := port }).ctxAt m = some c from hctx]
    rfl
  rw [hput]
  exact ⟨(Dev.lookup_congr (Dev.putCtx_index ..) kind addr).trans hlook, Dev.putCtx_ctxAt_same (d := d.setLdgM m _) hctx⟩

theorem meterStsRx_new {kind attach hops cost addr m : Nat} {c : Ctx} (h : s.dev.hears (fdx, p, rx, .meterSts n kind attach hops cost addr))
    (hle : seqLe n (s.dev.fd fdx).dseq = false) (habove : (s.dev.fd fdx).above.contains n = false) (hlook : s.dev.lookup kind addr = some m)
    (hctx : s.dev.ctxAt m = some c) (howner : c.owner = fdx) :
    Does .meterStsRx s (.ctx :: .ldg :: linkParts) (fun d => (d.ctxAt m).map (fun x => (x.attach % 256, x.hops % 256, x.linkCost % 256))
        = some (7, min 255 hops, min 255 cost)
      ∧ ((d.fd fdx).dseq, (d.fd fdx).above) = seqRun ((s.dev.fd fdx).above.length + 1) (s.dev.fd fdx).dseq (n :: (s.dev.fd fdx).above)) := by
  obtain ⟨d1, hheld, hev, hseqs, -⟩ := Dev.heldRx_of_new (fdx, p, rx, .meterSts n kind attach hops cost addr) hle habove
  have hctx1 : d1.ctx = s.dev.ctx := hev.keeps .ctx (by decide)
  obtain ⟨hlook2, b, l, hctx2⟩ := Dev.noteFdPort_ctx attach ((Dev.lookup_congr (congrArg _ hctx1) kind addr).trans hlook) ((Dev.ctxAt_congr hctx1 m).trans hctx) howner
  have hev2 : Evolves [.ctx, .ldg] d1 (d1.noteFdPort fdx kind addr attach) := Dev.noteFdPort_evolves ..
  generalize hd2 : d1.noteFdPort fdx kind addr attach = d2 at hlook2 hctx2 hev2
  have hruns : Runs .meterStsRx s (d2.editCtx m (fun c => if c.owner = fdx then { c with attach := 7, hops := min 255 hops, linkCost := min 255 cost } else c)) := by
    simp only [Runs, exec, execMeterStsRx, State.go]
    rw [Dev.onRec_of_hears h (by intro r; cases r <;> simp [rtype]; omega)]
    dsimp only
    rw [hheld]
    dsimp only
    rw [if_neg (by decide), hd2, hlook2]
    rfl
  have hedit : Evolves [.ctx, .ldg] d1 (d2.editCtx m (fun c => if c.owner = fdx then { c with attach := 7, hops := min 255 hops, linkCost := min 255 cost } else c)) :=
    (Dev.editCtx_evolves ..).after hev2
  refine .of hruns (hedit.after hev.mono).keeps ⟨?_, ?_⟩
  · refine (Dev.editCtx_shown (Ctx.shown_attach.prod (Ctx.shown_hops.prod Ctx.shown_linkCost)) hctx2 _).trans ?_
    rw [if_pos howner]
    have hlow (v : Nat) : min 255 v % 256 = min 255 v := Nat.mod_eq_of_lt (by omega)
    exact congrArg some (Prod.ext rfl (Prod.ext (hlow hops) (hlow cost)))
  · rw [Dev.fd_congr (hedit.keeps .fl (by decide))]
    exact hseqs

theorem joinRecordRx_new {port : Nat} {j : JoinReq} (h : s.dev.hears (fdx, p, rx, .join n port j))
    (hle : seqLe n (s.dev.fd fdx).dseq = false) (habove : (s.dev.fd fdx).above.contains n = false) :
    Does .joinRecordRx s linkParts (fun d =>
      ((d.fd fdx).dseq, (d.fd fdx).above) = seqRun ((s.dev.fd fdx).above.length + 1) (s.dev.fd fdx).dseq (n :: (s.dev.fd fdx).above)) := by
  obtain ⟨d1, hheld, hev, hseqs, -⟩ := Dev.heldRx_of_new (fdx, p, rx, .join n port j) hle habove
  have hruns : Runs .joinRecordRx s (d1.offer (6 + p) ⟨0, 64, .join j { attach := 7, fdx := some fdx, rx := rx, tag := n }⟩) := by
    simp only [Runs, exec, execJoinRecordRx, State.go]
    rw [Dev.onRec_of_hears h (by intro r; cases r <;> simp [rtype]; omega)]
    dsimp only
    rw [hheld]
    rfl
  refine .of hruns ((Dev.offer_evolves ..).after hev).keeps ?_
  rw [Dev.fd_congr ((Dev.offer_evolves ..).keeps .fl (by decide))]
  exact hseqs

theorem checkRecRx_new {b : List Byte} (h : s.dev.hears (fdx, p, rx, .checkRec n b))
    (hle : seqLe n (s.dev.fd fdx).dseq = false) (habove : (s.dev.fd fdx).above.contains n = false) :
    Does .checkRecRx s (.ldg :: linkParts) (fun d =>
      ((d.fd fdx).dseq, (d.fd fdx).above) = seqRun ((s.dev.fd fdx).above.length + 1) (s.dev.fd fdx).dseq (n :: (s.dev.fd fdx).above)) := by
  obtain ⟨d1, hheld, hev, hseqs, -⟩ := Dev.heldRx_of_new (fdx, p, rx, .checkRec n b) hle habove
  obtain ⟨e, hruns, hrest⟩ : ∃ e, Runs .checkRecRx s e ∧ Evolves [.ldg] d1 e := by
    simp only [Runs, exec, execCheckRecRx, State.go]
    rw [Dev.onRec_of_hears h (by intro r; cases r <;> simp [rtype]; omega)]
    dsimp only
    rw [hheld]
    exact ⟨_, rfl, .ite .refl (.ite .refl (Dev.nodeLogs_evolves ..))⟩
  refine .of hruns (hrest.after hev.mono).keeps ?_
  rw [Dev.fd_congr (hrest.keeps .fl (by decide))]
  exact hseqs

theorem portStsRx_spec {ttx : List Nat} (h : s.dev.hears (fdx, p, rx, .portSts ttx)) :
    Does .portStsRx s [.fl] (fun d => d.fd fdx = { s.dev.fd fdx with ttx := (List.range 6).map (fun i => clampNat 1 65535 (ttx.getD i 1000)) }) := by
  let took := s.dev.tookRec (fdx, p, rx, .portSts ttx)
  have hruns : Runs .portStsRx s (took.setFd fdx { s.dev.fd fdx with ttx := (List.range 6).map (fun i => clampNat 1 65535 (ttx.getD i 1000)) }) := by
    simp only [Runs, exec, execPortStsRx, State.go]
    rw [Dev.onRec_of_hears h (by intro r; cases r <;> simp [rtype]; omega)]
    rfl
  exact .of hruns ((Dev.setFd_evolves ..).after (Dev.tookRec_evolves ..)).keeps (Dev.fd_setFd ..)

/-- The device with those of the paths of forwarded frames that are still to be learned. -/
def Dev.keepLearns (d : Dev) (f : FlLearn → Bool) : Dev := { d with fl := { d.fl with learns := d.fl.learns.filter f } }

theorem Dev.keepLearns_evolves (d : Dev) (f : FlLearn → Bool) : Evolves [.fl] d (d.keepLearns f) := Evolves.fl

/-- The device without an order that has ended. -/
def Dev.dropOrders (d : Dev) (id : Nat) : Dev := { d with fl := { d.fl with orders := d.fl.orders.filter (fun o => o.num ≠ id) } }

theorem Dev.dropOrders_evolves (d : Dev) (id : Nat) : Evolves [.fl] d (d.dropOrders id) := Evolves.fl

/-- An answered order of a port without an exchange has ended. -/
theorem Dev.orderResult_of_idle {d : Dev} {k id result answer : Nat} {polling : Bool} (h : d.curOf (16 + k) = none) :
    d.orderResult k id result answer polling = d.dropOrders id := by
  unfold Dev.orderResult
  extract_lets pk polled _ d1
  have h1 : d1.curOf pk = none := h
  rw [h1]
  rfl

/-- A path that is learned is a path of a line port. -/
theorem learnForwarded_fold_evolves (d : Dev) (ls : List FlLearn) : Evolves [.lcp] d (ls.foldl Dev.learnForwarded d) :=
  .foldl (fun x l => x.learnForwarded_evolves l) .refl

theorem Dev.freeHeld_keeps (d : Dev) (n : Nat) : Keeps (.ftl :: .fl :: reportParts) d (d.freeHeld n)
    ∧ (d.freeHeld n).fl = { d.fl with held := d.fl.held.filter (fun h => !seqLe h.num n) } := by
  unfold Dev.freeHeld
  extract_lets _ d1
  have h1 : Keeps (.ftl :: .fl :: reportParts) d d1 := Evolves.fl.keeps.mono (by decide)
  split
  · obtain ⟨hkeeps, -⟩ := d1.releaseLus_keeps_map (fun _ l => l.stream = 4)
    exact ⟨hkeeps.step (by decide) h1, hkeeps .fl (by decide)⟩
  · exact ⟨h1, rfl⟩

theorem dataAckRx_spec {auth : List Nat} (h : s.dev.hears (fdx, p, rx, .dataAck n auth)) :
    Does .dataAckRx s (.ftl :: .lcp :: .ldg :: linkParts) (fun d => d.fl.held.map FlHeld.num = ((s.dev.fl.held.filter (fun h => !seqLe h.num n)).map FlHeld.num)
      ∧ d.fl.learns = s.dev.fl.learns.filter (fun l => !auth.contains l.dseq)) := by
  let took := s.dev.tookRec (fdx, p, rx, .dataAck n auth)
  have hlearn := learnForwarded_fold_evolves took (took.fl.learns.filter (fun l => auth.contains l.dseq)).reverse
  generalize hd1 : (took.fl.learns.filter (fun l => auth.contains l.dseq)).reverse.foldl Dev.learnForwarded took = d1 at hlearn
  have hruns : Runs .dataAckRx s ((d1.keepLearns fun l => !auth.contains l.dseq).freeHeld n).flPush := by
    simp only [Runs, exec, execDataAckRx, State.go]
    rw [Dev.onRec_of_hears h (by intro r; cases r <;> simp [rtype]; omega), ← hd1]
    rfl
  have hfl : d1.fl = took.fl := hlearn.keeps .fl (by decide)
  obtain ⟨hkeeps, hfree⟩ := (d1.keepLearns fun l => !auth.contains l.dseq).freeHeld_keeps n
  generalize (d1.keepLearns fun l => !auth.contains l.dseq).freeHeld n = d2 at hruns hkeeps hfree
  obtain ⟨hheld, hlearns⟩ := d2.flPush_holds
  have h1 : Evolves [.lcp, .fl] s.dev (d1.keepLearns fun l => !auth.contains l.dseq) :=
    (d1.keepLearns_evolves _).after (hlearn.after (s.dev.tookRec_evolves _).mono)
  refine .of hruns ((Dev.flPush_evolves ..).keeps.step (by decide) (hkeeps.step (by decide) (h1.keeps.mono (by decide)))) ⟨?_, ?_⟩
  · rw [hheld, hfree]
    exact congrArg (fun l : List FlHeld => (l.filter (fun h => !seqLe h.num n)).map FlHeld.num) (congrArg Fl.held hfl)
  · rw [hlearns, hfree]
    exact congrArg (fun l : List FlLearn => l.filter (fun l => !auth.contains l.dseq)) (congrArg Fl.learns hfl)

theorem orderDoneRx_new {id result attempts answer : Nat} {polling : Bool} (h : s.dev.hears (fdx, p, rx, .orderDone n id result attempts answer polling))
    (hle : seqLe n (s.dev.fd fdx).dseq = false) (habove : (s.dev.fd fdx).above.contains n = false) (hcur : s.dev.curOf (16 + fdx) = none) :
    Does .orderDoneRx s linkParts (fun d => d.fl.orders = s.dev.fl.orders.filter (fun o => o.num ≠ id)
      ∧ ((d.fd fdx).dseq, (d.fd fdx).above) = seqRun ((s.dev.fd fdx).above.length + 1) (s.dev.fd fdx).dseq (n :: (s.dev.fd fdx).above)) := by
  obtain ⟨d1, hheld, hev, hseqs, horders⟩ := Dev.heldRx_of_new (fdx, p, rx, .orderDone n id result attempts answer polling) hle habove
  have hcur1 : d1.curOf (16 + fdx) = none := by
    unfold Dev.curOf Dev.psch at hcur ⊢
    rw [hev.keeps .sch (by decide)]
    exact hcur
  have hruns : Runs .orderDoneRx s (d1.dropOrders id) := by
    simp only [Runs, exec, execOrderDoneRx, State.go]
    rw [Dev.onRec_of_hears h (by intro r; cases r <;> simp [rtype]; omega)]
    dsimp only
    rw [hheld, if_pos rfl, Dev.orderResult_of_idle hcur1]
    rfl
  refine .of hruns ((d1.dropOrders_evolves id).after hev).keeps ⟨?_, hseqs⟩
  rw [← horders]
  rfl

theorem releaseRx_spec {id kind addr m : Nat} {c : Ctx} (h : s.dev.hears (fdx, p, rx, .release id kind addr))
    (hdone : s.dev.fl.done.find? (fun e => decide (e.1 = id)) = none) (htaken : s.dev.fl.taken.contains id = false) (hlook : s.dev.lookup kind addr = some m)
    (hctx : s.dev.ctxAt m = some c) (howner : c.owner = 0xFFFE) :
    Does .releaseRx s (.ctx :: .sec :: .sch :: .img :: .lcp :: .cals :: linkParts) (fun d => d.ctxAt m = none
      ∧ (d.fl.done.find? (fun e => decide (e.1 = id))).isSome = true) := by
  have hruns : Runs .releaseRx s (((s.dev.tookRec (fdx, p, rx, .release id kind addr)).freeCtx m).orderDone id 0 0 0 false) := by
    simp only [Runs, exec, execReleaseRx, State.go]
    rw [Dev.onRec_of_hears h (by intro r; cases r <;> simp [rtype]; omega)]
    dsimp only
    rw [Dev.orderKnown_tookRec _ hdone htaken]
    dsimp only
    rw [Dev.tookRec_lookup, hlook]
    dsimp only
    rw [Dev.tookRec_ctxAt, hctx]
    dsimp only
    rw [if_pos howner]
    rfl
  have hfree : ((s.dev.tookRec (fdx, p, rx, .release id kind addr)).freeCtx m).ctxAt m = none := Tab.find_del_self ..
  have hev : Evolves (.ctx :: .sec :: .sch :: .img :: .lcp :: .cals :: linkParts) s.dev ((s.dev.tookRec (fdx, p, rx, .release id kind addr)).freeCtx m) :=
    (Dev.freeCtx_evolves ..).after (Dev.tookRec_evolves ..).mono
  generalize (s.dev.tookRec _).freeCtx m = d1 at hruns hfree hev
  refine .of hruns ((Dev.orderDone_evolves ..).after hev).keeps ⟨?_, Dev.orderDone_done ..⟩
  exact (Dev.ctxAt_congr ((Dev.orderDone_evolves ..).keeps .ctx (by decide)) m).trans hfree

/-! ### A meter admitted on the head end's word -/

/-- The keys of the stash: those without a bucket. -/
def stashOf (ix : List Slot) : Nat := ix.countP fun e => e.bucket.isNone

theorem stashOf_moved (ix : List Slot) (e : Slot) (o : Nat) :
    stashOf (ix.map fun x => if x = e then { x with bucket := some o } else x) ≤ stashOf ix := by
  unfold stashOf
  rw [List.countP_map]
  refine List.countP_mono_left fun x _ h => ?_
  rw [Function.comp_apply] at h
  split at h
  · exact absurd h (by simp)
  · exact h

/-- Moving keys between their buckets puts none into the stash. -/
theorem stashOf_moveOut {g : Grade} {seed : BitVec 128} {f : Nat} {moves : List (Fin 4)} {ix l : List Slot} {b : Nat}
    (h : moveOut g seed f moves ix b = some l) : stashOf l ≤ stashOf ix := by
  induction f generalizing moves b l with
  | zero => exact absurd h (by simp [moveOut])
  | succ f ih =>
    unfold moveOut at h
    split at h
    · exact absurd h (by simp)
    · next e _ =>
      dsimp only at h
      split at h
      · obtain rfl := Option.some.inj h
        exact stashOf_moved ..
      · split at h
        · next l' hl =>
          split at h
          · obtain rfl := Option.some.inj h
            exact (stashOf_moved ..).trans (ih hl)
          · exact absurd h (by simp)
        · exact absurd h (by simp)

/-- A key more is at most one more in the stash. -/
theorem stashOf_insertKey (g : Grade) (seed : BitVec 128) (moves : List (Fin 4)) (ix : List Slot) (kind addr m : Nat) :
    stashOf (insertKey g seed moves ix kind addr m) ≤ stashOf ix + 1 := by
  have hcons (e : Slot) (l : List Slot) : stashOf (e :: l) ≤ stashOf l + 1 := by
    unfold stashOf
    rw [List.countP_cons]
    split <;> omega
  unfold insertKey
  extract_lets a b best
  split
  · exact hcons ..
  · split
    · exact hcons ..
    · split
      · next l hl => exact (hcons ..).trans (Nat.succ_le_succ (stashOf_moveOut hl))
      · exact hcons ..

theorem Dev.indexPut_room {d : Dev} (moves : List (Fin 4)) (kind addr m : Nat) (hrehash : d.ctx.rehash = false) (hstash : d.stashUsed < 1024) :
    d.indexPut moves kind addr m = (true, { d with ctx := { d.ctx with index := d.withKey moves d.ctx.index kind addr m } }) := by
  have hroom : ¬ 1024 < ((d.withKey moves d.ctx.index kind addr m).filter (fun e => e.bucket.isNone)).length := by
    have h := stashOf_insertKey d.grade d.hashSeed moves d.ctx.index kind addr m
    unfold stashOf at h
    rw [List.countP_eq_length_filter, List.countP_eq_length_filter] at h
    unfold Dev.stashUsed at hstash
    unfold Dev.withKey
    omega
  unfold Dev.indexPut
  rw [if_neg (by rw [hrehash]; decide)]
  dsimp only
  rw [if_neg hroom]
  exact ite_self _

theorem Dev.putCtx_isSome (d : Dev) (m : Nat) (c : Ctx) : ((d.putCtx m c).ctxAt m).isSome = true := by
  have h := d.putCtx_shown (g := fun _ => ()) ⟨fun _ _ _ _ => rfl, fun _ _ => rfl, fun _ _ => rfl⟩ m c
  exact Option.isSome_map.symm.trans (congrArg Option.isSome h)

theorem Dev.editCtx_isSome {d : Dev} {m : Nat} (f : Ctx → Ctx) (h : (d.ctxAt m).isSome = true) : ((d.editCtx m f).ctxAt m).isSome = true := by
  obtain ⟨c, hc⟩ := Option.isSome_iff_exists.1 h
  unfold Dev.editCtx
  rw [hc]
  exact Dev.putCtx_isSome ..

theorem Dev.giveShort_ctxAt (d : Dev) (port m k : Nat) : (d.giveShort port m).2.ctxAt k = d.ctxAt k := by
  unfold Dev.giveShort
  extract_lets t a
  split <;> rfl

theorem Dev.joinNet_isSome {d : Dev} {m : Nat} (j : JoinReq) (v : Via) (h : (d.ctxAt m).isSome = true) : ((d.joinNet m j v).ctxAt m).isSome = true := by
  unfold Dev.joinNet
  extract_lets direct s radio wake d1 d2 d3
  have hs : (s.2.ctxAt m).isSome = true := by
    unfold s
    split
    · rw [Dev.giveShort_ctxAt]
      exact h
    · exact h
  have h1 : (d1.ctxAt m).isSome = true := Dev.editCtx_isSome _ hs
  exact h1

/-- A context that the join takes in hand has its answer sent, and the order is answered. -/
def Dev.joinFinish (x : Dev) (m id kind addr attach : Nat) (req : JoinReq) : Dev :=
  let y := (x.joinNet m { req with title := 0 } { attach := attach }).editCtx m (fun c => { c with attach := attach })
  ((y.emit (.joinAnswer attach kind addr 0 (match y.ctxAt m with | some c => c.short | none => 0))).joinElement m).orderDone id 0 0 0 false

theorem Dev.joinFinish_ctx {x : Dev} {m : Nat} (id kind addr attach : Nat) (req : JoinReq) (h : (x.ctxAt m).isSome = true) :
    ((x.joinFinish m id kind addr attach req).ctxAt m).isSome = true := by
  unfold Dev.joinFinish
  extract_lets y
  have hy : (y.ctxAt m).isSome = true := Dev.editCtx_isSome _ (Dev.joinNet_isSome _ _ h)
  have hrest : Evolves (.cals :: linkParts) y (((y.emit (.joinAnswer attach kind addr 0 (match y.ctxAt m with | some c => c.short | none => 0))).joinElement m).orderDone id 0 0 0 false) :=
    (Dev.orderDone_evolves ..).after <| (Dev.joinElement_evolves ..).after <| (Dev.emit_evolves ..).mono
  rw [Dev.ctxAt_congr (hrest.keeps .ctx (by decide))]
  exact hy

theorem Dev.joinFinish_done (x : Dev) (m id kind addr attach : Nat) (req : JoinReq) :
    ((x.joinFinish m id kind addr attach req).fl.done.find? (fun e => decide (e.1 = id))).isSome = true := by
  unfold Dev.joinFinish
  extract_lets y
  exact Dev.orderDone_done ..

theorem Dev.joinOk_new {d : Dev} (moves : List (Fin 4)) (id : Nat) {kind addr : Nat} (hlook : d.lookup kind addr = none) (hused : d.ctxUsed < d.ctxLimit)
    (hdirect : d.directFull = false) (hrehash : d.ctx.rehash = false) (hstash : d.stashUsed < 1024) :
    ∃ x attach req, d.joinOk moves id kind addr = (Dev.joinFinish x d.freeMix id kind addr attach req) ∧ (x.ctxAt d.freeMix).isSome = true := by
  unfold Dev.joinOk
  extract_lets j attach req v finish m r c
  rw [hlook]
  dsimp only
  rw [if_neg (Nat.not_le.2 hused), if_neg (by rw [hdirect]; decide)]
  have hr : r = (true, { d with ctx := { d.ctx with index := d.withKey moves d.ctx.index kind addr m } }) := Dev.indexPut_room moves kind addr m hrehash hstash
  rw [if_neg (by rw [hr]; exact Bool.false_ne_true)]
  exact ⟨r.2.putCtx m c, attach, req, rfl, Dev.putCtx_isSome ..⟩

theorem joinOkRx_new {moves : List (Fin 4)} {id kind addr : Nat} (h : s.dev.hears (fdx, p, rx, .joinOk id kind addr))
    (hdone : s.dev.fl.done.find? (fun e => decide (e.1 = id)) = none) (htaken : s.dev.fl.taken.contains id = false) (hlook : s.dev.lookup kind addr = none)
    (hused : s.dev.ctxUsed < s.dev.ctxLimit) (hdirect : s.dev.directFull = false) (hrehash : s.dev.ctx.rehash = false) (hstash : s.dev.stashUsed < 1024) :
    Does (.joinOkRx moves) s (.ctx :: .cals :: .ldg :: .lcp :: linkParts) (fun d => (d.ctxAt s.dev.freeMix).isSome = true
      ∧ (d.fl.done.find? (fun e => decide (e.1 = id))).isSome = true) := by
  have hruns : Runs (.joinOkRx moves) s ((s.dev.tookRec (fdx, p, rx, .joinOk id kind addr)).joinOk moves id kind addr) := by
    simp only [Runs, exec, execJoinOkRx, State.go]
    rw [Dev.onRec_of_hears h (by intro r; cases r <;> simp [rtype]; omega)]
    dsimp only
    rw [Dev.orderKnown_tookRec _ hdone htaken]
    rfl
  have hev : Evolves ([.ctx, .lcp, .cals, .ldg] ++ linkParts) s.dev ((s.dev.tookRec (fdx, p, rx, .joinOk id kind addr)).joinOk moves id kind addr) :=
    (Dev.joinOk_evolves ..).after (s.dev.tookRec_evolves _).mono
  obtain ⟨x, attach, req, heq, hsome⟩ := Dev.joinOk_new (d := s.dev.tookRec (fdx, p, rx, .joinOk id kind addr)) moves id hlook hused hdirect hrehash hstash
  rw [heq] at hruns hev
  exact .of hruns (hev.keeps.mono (by decide)) ⟨Dev.joinFinish_ctx _ _ _ _ _ hsome, Dev.joinFinish_done ..⟩

end

/-- Settles O29, one record after the other. -/
theorem fieldLinkRecords : Obligations.FieldLinkRecords :=
  ⟨fun _ _ _ _ _ _ _ _ _ _ => meterUpRx_new, fun _ _ _ _ _ _ _ _ _ _ => meterUpRx_seen, fun _ _ _ _ _ _ _ => joinRecordRx_new,
    fun _ _ _ _ _ _ _ _ _ _ _ _ => meterStsRx_new, fun _ _ _ _ _ => portStsRx_spec, fun _ _ _ _ _ _ => checkRecRx_new,
    fun _ _ _ _ _ _ => dataAckRx_spec, fun _ _ _ _ _ _ _ _ _ _ => orderDoneRx_new, fun _ _ _ _ _ _ _ _ => joinOkRx_new,
    fun _ _ _ _ _ _ _ _ _ => releaseRx_spec⟩

end Sys2Proof.Machine
end

section

-- one proof after the other: the check gives the text few threads
set_option Elab.async false

namespace Sys2Proof.Machine

/-! ## What the image descriptors and campaigns write -/

theorem Dev.campState_writes (d : Dev) (g st : Nat) : Writes eventFields d (d.campState g st) := by
  unfold Dev.campState
  split
  · exact .refl
  · exact .ite .refl ((Dev.post_writes ..).after <| Evolves.img.quiet.mono)

theorem Dev.campCheck_writes (d : Dev) (g : Nat) : Writes eventFields d (d.campCheck g) := by
  unfold Dev.campCheck
  split
  · exact .ite ((Dev.campState_writes ..).mono) .refl
  · exact .refl

theorem Dev.imgSet_writes (d : Dev) (m st : Nat) : Writes ([F.UPD_METER_DONE, F.UPD_METER_FAIL] ++ eventFields) d (d.imgSet m st) := by
  unfold Dev.imgSet
  split
  · exact .refl
  · rename_i y0 y1 y2
    extract_lets d1 _ d2 d3 d4
    have hd1 : Writes ([F.UPD_METER_DONE, F.UPD_METER_FAIL] ++ eventFields) d d1 := (Dev.editCtx_evolves ..).quiet.mono
    have hd2 : Writes ([F.UPD_METER_DONE, F.UPD_METER_FAIL] ++ eventFields) d d2 := Evolves.img.quiet.after hd1
    have hd3 : Writes ([F.UPD_METER_DONE, F.UPD_METER_FAIL] ++ eventFields) d d3 := (Dev.post_writes ..).after hd2
    have hd4 : Writes ([F.UPD_METER_DONE, F.UPD_METER_FAIL] ++ eventFields) d d4 := .ite ((Writes.bump ..).after hd3) (.ite ((Writes.bump ..).after hd3) hd3)
    exact .ite ((Dev.campCheck_writes ..).after hd4) hd2

theorem Dev.imgWait_writes (d : Dev) (m : Nat) (c : Ctx) (blocks : Nat) :
    Writes ([F.UPD_METER_DONE, F.UPD_METER_FAIL] ++ eventFields) d (d.imgWait m c blocks) := by
  unfold Dev.imgWait
  extract_lets d1 _ d2
  have hd1 : Writes ([F.UPD_METER_DONE, F.UPD_METER_FAIL] ++ eventFields) d d1 := (Dev.editCtx_evolves ..).quiet.mono
  have hd2 : Writes ([F.UPD_METER_DONE, F.UPD_METER_FAIL] ++ eventFields) d d2 := Evolves.img.quiet.after hd1
  exact .ite hd2 ((Dev.imgSet_writes ..).after hd2)

theorem Dev.imgStaged_writes (d : Dev) (g n : Nat) : Writes eventFields d (d.imgStaged g n) := by
  unfold Dev.imgStaged
  exact .ite .refl ((Dev.campState_writes ..).after <| Evolves.img.quiet.mono)

theorem Dev.imageBegin_writes (d : Dev) (g n : Nat) (o c blocks : Nat) :
    Writes ([F.UPD_METER_DONE, F.UPD_METER_FAIL] ++ eventFields) d (d.imageBegin g n o c blocks) := by
  unfold Dev.imageBegin
  extract_lets _ _ _ d1 d2
  have hd1 : Writes ([F.UPD_METER_DONE, F.UPD_METER_FAIL] ++ eventFields) d d1 := Evolves.img.quiet.mono
  have hd2 : Writes ([F.UPD_METER_DONE, F.UPD_METER_FAIL] ++ eventFields) d d2 := (Dev.campState_writes ..).after hd1
  exact (Dev.campCheck_writes ..).after (.foldl (fun _ _ => (Dev.imgWait_writes ..).mono) hd2)

theorem Dev.imgFree_writes (d : Dev) (n : Nat) : Writes eventFields d (d.imgFree n) := by
  unfold Dev.imgFree
  extract_lets _ d1
  have hd1 : Writes eventFields d d1 := .foldl (fun _ _ => (Dev.campState_writes ..).mono) .refl
  exact Evolves.img.quiet.after hd1

theorem Dev.campAbort_writes (d : Dev) (g : Nat) : Writes ([F.UPD_METER_DONE, F.UPD_METER_FAIL] ++ eventFields) d (d.campAbort g) := by
  unfold Dev.campAbort
  extract_lets _ d1 _ _ d2
  have hd1 : Writes ([F.UPD_METER_DONE, F.UPD_METER_FAIL] ++ eventFields) d d1 := (Dev.campState_writes ..).mono
  have hd2 : Writes ([F.UPD_METER_DONE, F.UPD_METER_FAIL] ++ eventFields) d d2 := .onward hd1
  exact .foldl (fun _ _ => (Dev.imgSet_writes ..).mono) hd2

end Sys2Proof.Machine
end

section

-- one proof after the other: the check gives the text few threads
set_option Elab.async false

namespace Sys2Proof.Machine

/-! ## O31: meter images -/

/-- A command that completes its descriptor after work that writes a few fields and leaves the pairs. -/
theorem Completes.of_writes {c : Instr} {s : State} {p : Fin 64} {h : Held} {res : List Nat} {ps : List Part} {post : Dev → Prop} {e : Dev} {fs : List F}
    (hruns : Runs c s (e.complete p h.id 0 0 res)) (hev : Evolves (.rng :: .regs :: ps) s.dev e) (hw : Writes fs s.dev e) (hpairs : e.rng.pairs = s.dev.rng.pairs)
    (hpost : post (e.complete p h.id 0 0 res)) (hfn : Part.fn ∉ .rng :: .regs :: ps := by decide) (htim : Part.tim ∉ .rng :: .regs :: ps := by decide)
    (hsize : ∀ i : Fin 64, (fs.all fun f => f.spares F.RNG_PAIR_CFG_CMP_LOG2 i) = true := by decide +kernel) : Completes c s p h res ps post := by
  refine .of_same hruns hev.keeps ?_ (Dev.pairState_eq_of_fn (hev.keeps .fn hfn) p) ?_ (congrArg Tim.mono (hev.keeps .tim htim)) hpost
  · unfold Dev.pair
    rw [hpairs]
  · unfold Dev.cmpSize
    rw [hw.rd_fin F.RNG_PAIR_CFG_CMP_LOG2 p hsize]

/-! ### The states of campaigns -/

theorem Dev.campState_pairs (d : Dev) (g st : Nat) : (d.campState g st).rng.pairs = d.rng.pairs := by
  unfold Dev.campState
  split
  · rfl
  · split
    · rfl
    · exact (Dev.post_reporting ..).pairs

theorem Dev.campState_slots (d : Dev) (g st : Nat) : (d.campState g st).img.slots = d.img.slots := by
  unfold Dev.campState
  split
  · rfl
  · split
    · rfl
    · exact (congrArg Img.slots ((Dev.post_evolves ..).keeps .img (by decide))).trans rfl

theorem Dev.campState_self (d : Dev) (g st : Nat) : (d.campState g st).img.camps.find g = (d.img.camps.find g).map fun c => { c with st := st } := by
  unfold Dev.campState
  split
  · next h => rw [h]; rfl
  · next c h =>
    rw [h]
    split
    · next hst => rw [h, ← hst]; rfl
    · refine (congrArg (fun i : Img => i.camps.find g) ((Dev.post_evolves ..).keeps .img (by decide))).trans ?_
      exact Tab.find_put_self ..

theorem Dev.campState_other (d : Dev) {g k : Nat} (st : Nat) (h : k ≠ g) : (d.campState g st).img.camps.find k = d.img.camps.find k := by
  unfold Dev.campState
  split
  · rfl
  · split
    · rfl
    · refine (congrArg (fun i : Img => i.camps.find k) ((Dev.post_evolves ..).keeps .img (by decide))).trans ?_
      exact Tab.find_put_other _ _ _ _ h

/-- From the first device to the second campaigns go on: that of `g` keeps its slot and window, and stays ended; the ring pairs are as before. -/
structure CampsGoOn (g : Nat) (d e : Dev) : Prop where
  window : (e.img.camps.find g).map (fun c => (c.slot, c.open_, c.close_)) = (d.img.camps.find g).map (fun c => (c.slot, c.open_, c.close_))
  ended : d.campSt g = 5 → e.campSt g = 5
  pairs : e.rng.pairs = d.rng.pairs

namespace CampsGoOn

variable {g : Nat} {d e x : Dev}

theorem of_camps (hcamps : e.img.camps = d.img.camps) (hpairs : e.rng.pairs = d.rng.pairs) : CampsGoOn g d e :=
  ⟨by rw [hcamps], fun h => by rw [← h]; unfold Dev.campSt; rw [hcamps], hpairs⟩

theorem refl : CampsGoOn g d d := of_camps rfl rfl

theorem trans (h1 : CampsGoOn g d e) (h2 : CampsGoOn g e x) : CampsGoOn g d x :=
  ⟨h2.window.trans h1.window, fun h => h2.ended (h1.ended h), h2.pairs.trans h1.pairs⟩

/-- Work on contexts and on members' blocks leaves the campaigns. -/
theorem of_keeps {ps : List Part} (h : Keeps ps d e) (himg : Part.img ∉ ps := by decide) (hrng : Part.rng ∉ ps := by decide) : CampsGoOn g d e :=
  of_camps (congrArg Img.camps (h .img himg)) (congrArg Rng.pairs (h .rng hrng))

theorem foldl {α : Type} {f : Dev → α → Dev} {l : List α} (hf : ∀ y a, CampsGoOn g y (f y a)) (h : CampsGoOn g d e) : CampsGoOn g d (l.foldl f e) :=
  List.foldlRecOn (motive := CampsGoOn g d) l f h fun y hy a _ => hy.trans (hf y a)

end CampsGoOn

theorem Dev.campSt_of_find {d : Dev} {g : Nat} {c : Campaign} (h : d.img.camps.find g = some c) : d.campSt g = c.st := by
  unfold Dev.campSt
  rw [h]

/-- A campaign that runs may end. -/
theorem Dev.campCheck_goesOn (d : Dev) (k g : Nat) : CampsGoOn g d (d.campCheck k) := by
  unfold Dev.campCheck
  split
  · next c hfind =>
    split
    · next hruns =>
      refine ⟨?_, fun h => ?_, d.campState_pairs k 4⟩
      · obtain rfl | hne := eq_or_ne g k
        · rw [d.campState_self, Option.map_map]
          rfl
        · rw [d.campState_other 4 hne]
      · obtain rfl | hne := eq_or_ne g k
        · rw [Dev.campSt_of_find hfind] at h
          omega
        · unfold Dev.campSt at h ⊢
          rw [d.campState_other 4 hne]
          exact h
    · exact .refl
  · exact .refl

theorem Dev.imgSet_goesOn (d : Dev) (m st g : Nat) : CampsGoOn g d (d.imgSet m st) := by
  unfold Dev.imgSet
  split
  · exact .refl
  · next c _ =>
    extract_lets d1 _ d2 d3 d4
    have h1 : CampsGoOn g d d1 := .of_keeps (Dev.editCtx_evolves ..).keeps
    have h2 : CampsGoOn g d d2 := h1.trans (.of_camps rfl rfl)
    have h3 : CampsGoOn g d2 d3 :=
      .of_camps (congrArg Img.camps ((Dev.post_evolves ..).keeps .img (by decide))) (Dev.post_reporting ..).pairs
    have h4 : CampsGoOn g d3 d4 := by
      unfold d4
      split
      · exact .of_camps rfl rfl
      · split
        · exact .of_camps rfl rfl
        · exact .refl
    split
    · exact h2.trans (h3.trans (h4.trans (Dev.campCheck_goesOn ..)))
    · exact h2

theorem Dev.imgWait_goesOn (d : Dev) (m : Nat) (c : Ctx) (blocks g : Nat) : CampsGoOn g d (d.imgWait m c blocks) := by
  unfold Dev.imgWait
  extract_lets d1 _ d2
  have h2 : CampsGoOn g d d2 := (CampsGoOn.of_keeps (Dev.editCtx_evolves ..).keeps).trans (.of_camps (d := d1) rfl rfl)
  split
  · exact h2
  · exact h2.trans (Dev.imgSet_goesOn ..)

/-! ### Staging -/

theorem Dev.imgStaged_same (d : Dev) (g n : Nat) : (d.imgStaged g n).img.slots = d.img.slots ∧ (d.imgStaged g n).rng.pairs = d.rng.pairs := by
  unfold Dev.imgStaged
  split
  · exact ⟨rfl, rfl⟩
  · exact ⟨Dev.campState_slots .., Dev.campState_pairs ..⟩

/-- Data that joins a slot with room for all of it. -/
theorem Dev.imgAppend_room {d : Dev} (p : Nat) (h : Held) {n : Nat} {sl : ImgSlot} {bs : List Byte} (hroom : sl.bytes.length + bs.length ≤ sl.size) :
    ∃ e, d.imgAppend p h n sl bs = e.complete p h.id 0 0 [(sl.bytes.length + bs.length) / sl.block] ∧ Evolves (.img :: reportParts) d e
      ∧ Writes eventFields d e ∧ e.rng.pairs = d.rng.pairs ∧ e.img.slots.find n = some { sl with bytes := sl.bytes ++ bs } := by
  unfold Dev.imgAppend
  extract_lets room s' _ d1 d2 d3
  have hall : bs.take room = bs := List.take_of_length_le (by unfold room; omega)
  have hs' : s' = { sl with bytes := sl.bytes ++ bs } := by unfold s'; rw [hall]
  have h1 : Evolves (.img :: reportParts) d d1 := Evolves.img.mono
  have h12 : Evolves reportParts d1 d2 := .ite .refl (Dev.offer_evolves ..)
  have h23 : Evolves (.img :: reportParts) d2 d3 := .ite (Dev.imgStaged_evolves ..).mono .refl
  have w12 : Writes eventFields d1 d2 := .ite .refl (Dev.offer_writes ..)
  have w23 : Writes eventFields d2 d3 := .ite (Dev.imgStaged_writes ..) .refl
  have p12 : d2.rng.pairs = d1.rng.pairs := by
    unfold d2
    split
    · rfl
    · exact (Dev.offer_reporting ..).pairs
  have s23 : d3.img.slots = d2.img.slots ∧ d3.rng.pairs = d2.rng.pairs := by
    unfold d3
    split
    · exact Dev.imgStaged_same ..
    · exact ⟨rfl, rfl⟩
  refine ⟨d3, ?_, h23.after (h12.after h1), ((Writes.refl.onward (x := d1)).trans w12).trans w23, s23.2.trans p12, ?_⟩
  · rw [if_neg (by unfold room; omega), hs', List.length_append]
  · rw [s23.1, show d2.img = d1.img from h12.keeps .img (by decide), ← hs']
    exact Tab.find_put_self ..

theorem Dev.complete_img (d : Dev) (p id st sub : Nat) (res : List Nat) : (d.complete p id st sub res).img = d.img := d.complete_keeps p id st sub res .img (by decide)

section
variable {s : State} {pair : Fin 64} {bs : List Byte} {h : Held} {sl : ImgSlot}

/-- IMAGE_STAGE of bytes that the slot has room for. -/
theorem imageStage_of_room {data : List Byte} {n : Nat} (hruns : Runs (.imageStage pair (.data bs)) s (s.dev.imgAppend pair h n sl data))
    (hroom : sl.bytes.length + data.length ≤ sl.size) :
    Completes (.imageStage pair (.data bs)) s pair h [(sl.bytes.length + data.length) / sl.block] (.img :: reportParts) (fun d =>
      d.img.slots.find n = some { sl with bytes := sl.bytes ++ data }) := by
  obtain ⟨e, heq, hev, hw, hpairs, hfind⟩ := s.dev.imgAppend_room pair h (n := n) hroom
  rw [heq] at hruns
  refine .of_writes hruns hev.mono hw hpairs ?_
  rw [Dev.complete_img]
  exact hfind

theorem length_bufBytes (x : Desc) (bs : List Byte) : (padTo (bufLen x) (bs.take (bufLen x))).length = bufLen x := by
  rw [padTo, List.length_append, List.length_replicate, List.length_take]
  omega

theorem imageStage_more (htakes : s.takes pair 0x50 h) (hst : s.dev.ftl.state ≠ 2) (hslot : h.desc.word 6 ≤ 15)
    (hused : s.dev.imgUsed (h.desc.word 6) = false) (hfind : s.dev.img.slots.find (h.desc.word 6) = some sl) (hroom : sl.bytes.length + bufLen h.desc ≤ sl.size) :
    Completes (.imageStage pair (.data bs)) s pair h [(sl.bytes.length + bufLen h.desc) / sl.block] (.img :: reportParts) (fun d =>
      d.img.slots.find (h.desc.word 6) = some { sl with bytes := sl.bytes ++ padTo (bufLen h.desc) (bs.take (bufLen h.desc)) }) := by
  have hlen := length_bufBytes h.desc bs
  have hruns : Runs (.imageStage pair (.data bs)) s (s.dev.imgAppend pair h (h.desc.word 6) sl (padTo (bufLen h.desc) (bs.take (bufLen h.desc)))) := by
    simp [Runs, exec, execImageStage, State.go, State.withDev, htakes.onDescRead_eq, Dev.imageStage, hst, hslot, hused, hfind]
  have hdoes := imageStage_of_room hruns (by omega)
  rwa [hlen] at hdoes

/-- A slot that a header opens is empty. -/
theorem ImgSlot.bytes_of_parse {b : List Byte} (hparse : ImgSlot.parse b = .ok sl) : sl.bytes = [] := by
  unfold ImgSlot.parse at hparse
  dsimp only at hparse
  split_ifs at hparse
  obtain rfl := Except.ok.inj hparse
  rfl

theorem imageStage_opens (htakes : s.takes pair 0x50 h) (hst : s.dev.ftl.state ≠ 2) (hslot : h.desc.word 6 ≤ 15)
    (hused : s.dev.imgUsed (h.desc.word 6) = false) (hfind : s.dev.img.slots.find (h.desc.word 6) = none)
    (hparse : ImgSlot.parse (padTo (bufLen h.desc) (bs.take (bufLen h.desc))) = .ok sl) (hroom : bufLen h.desc - 64 ≤ sl.size) :
    Completes (.imageStage pair (.data bs)) s pair h [(bufLen h.desc - 64) / sl.block] (.img :: reportParts) (fun d =>
      d.img.slots.find (h.desc.word 6) = some { sl with bytes := (padTo (bufLen h.desc) (bs.take (bufLen h.desc))).drop 64 }) := by
  have hlen : ((padTo (bufLen h.desc) (bs.take (bufLen h.desc))).drop 64).length = bufLen h.desc - 64 := by rw [List.length_drop, length_bufBytes]
  have hempty := ImgSlot.bytes_of_parse hparse
  have hruns : Runs (.imageStage pair (.data bs)) s (s.dev.imgAppend pair h (h.desc.word 6) sl ((padTo (bufLen h.desc) (bs.take (bufLen h.desc))).drop 64)) := by
    simp [Runs, exec, execImageStage, State.go, State.withDev, htakes.onDescRead_eq, Dev.imageStage, hst, hslot, hused, hfind, hparse]
  have hdoes := imageStage_of_room hruns (by rw [hempty, hlen]; exact (Nat.zero_add _).trans_le hroom)
  rwa [hlen, hempty, List.length_nil, Nat.zero_add, List.nil_append] at hdoes

/-! ### Campaigns by descriptor -/

theorem imageStart_begins (htakes : s.takes pair 0x51 h) (hfind : s.dev.img.slots.find (h.desc.word 6) = some sl) (hwhole : sl.complete = true)
    (hnone : s.dev.campOf (tGrp h.desc) = none) :
    Completes (.imageStart pair) s pair h [] (.img :: .ctx :: reportParts) (fun d =>
      (d.img.camps.find (tGrp h.desc)).map (fun c => (c.slot, c.open_, c.close_))
        = some (h.desc.word 6, minute1439 (h.desc.word 7), minute1439 (h.desc.word 8))) := by
  have hruns : Runs (.imageStart pair) s ((s.dev.imageBegin (tGrp h.desc) (h.desc.word 6) (minute1439 (h.desc.word 7)) (minute1439 (h.desc.word 8)) sl.blocks).complete
      pair h.id 0 0 []) := by
    simp [Runs, exec, execImageStart, State.go, State.withDev, htakes.onDesc_eq, hfind, hwhole, hnone]
  have hbegin : ∀ {d : Dev} {g n o c blocks : Nat}, (d.imageBegin g n o c blocks).rng.pairs = d.rng.pairs
      ∧ ((d.imageBegin g n o c blocks).img.camps.find g).map (fun c => (c.slot, c.open_, c.close_)) = some (n, o, c) := by
    intro d g n o c blocks
    unfold Dev.imageBegin
    extract_lets camp ms _ d1 d2
    have h1 : d1.img.camps.find g = some camp := Tab.find_put_self ..
    have h2 : (d2.img.camps.find g).map (fun c => (c.slot, c.open_, c.close_)) = some (n, o, c) := by
      unfold d2
      rw [Dev.campState_self, h1]
      rfl
    have h23 := (CampsGoOn.foldl (f := fun (x : Dev) (e : Nat × Ctx) => x.imgWait e.1 e.2 blocks) (l := ms) (g := g) (fun y e => y.imgWait_goesOn e.1 e.2 blocks g)
      (.refl (d := d2))).trans (Dev.campCheck_goesOn _ g g)
    exact ⟨h23.pairs.trans (Dev.campState_pairs ..), h23.window.trans h2⟩
  refine .of_writes hruns (Dev.imageBegin_evolves ..).mono (Dev.imageBegin_writes ..) hbegin.1 ?_
  rw [Dev.complete_img]
  exact hbegin.2

theorem imageStatus_meter {c : Ctx} (htakes : s.takes pair 0x52 h) (hkind : tKind h.desc = 1) (hctx : s.dev.ctxNamed (tMix h.desc) = some c)
    (howned : c.owned = true) : Completes (.imageStatus pair) s pair h [c.imgFirst, c.imgMiss, c.imgState] [] (fun _ => True) := by
  have hruns : Runs (.imageStatus pair) s (s.dev.complete pair h.id 0 0 [c.imgFirst, c.imgMiss, c.imgState]) := by
    simp [Runs, exec, execImageStatus, State.go, State.withDev, htakes.onDesc_eq, hkind, Dev.withCtx, hctx, howned]
  exact .intro hruns (.refl _ _) trivial

theorem imageStatus_group (htakes : s.takes pair 0x52 h) (hkind : tKind h.desc ≠ 1) : Completes (.imageStatus pair) s pair h
    [s.dev.imgLowest (tGrp h.desc), (s.dev.imgOpen (tGrp h.desc)).length, s.dev.campSt (tGrp h.desc)] [] (fun _ => True) := by
  have hruns : Runs (.imageStatus pair) s
      (s.dev.complete pair h.id 0 0 [s.dev.imgLowest (tGrp h.desc), (s.dev.imgOpen (tGrp h.desc)).length, s.dev.campSt (tGrp h.desc)]) := by
    simp [Runs, exec, execImageStatus, State.go, State.withDev, htakes.onDesc_eq, hkind]
  exact .intro hruns (.refl _ _) trivial

theorem imageAbort_frees (htakes : s.takes pair 0x53 h) (hslot : h.desc.word 6 ≤ 15) (hused : s.dev.imgUsed (h.desc.word 6) = false) :
    Completes (.imageAbort pair) s pair h [] (.img :: reportParts) (fun d => d.img.slots.find (h.desc.word 6) = none) := by
  have hruns : Runs (.imageAbort pair) s ((s.dev.imgFree (h.desc.word 6)).complete pair h.id 0 0 []) := by
    simp [Runs, exec, execImageAbort, State.go, State.withDev, htakes.onDesc_eq, hslot, hused]
  have hfree : ∀ {d : Dev} {n : Nat}, (d.imgFree n).rng.pairs = d.rng.pairs ∧ (d.imgFree n).img.slots.find n = none := by
    intro d n
    unfold Dev.imgFree
    extract_lets gs d1
    exact ⟨List.foldlRecOn (motive := fun x : Dev => x.rng.pairs = d.rng.pairs) gs _ rfl fun x hx g _ => (x.campState_pairs g 0).trans hx, Tab.find_del_self ..⟩
  refine .of_writes hruns (Dev.imgFree_evolves ..).mono (Dev.imgFree_writes ..) hfree.1 ?_
  rw [Dev.complete_img]
  exact hfree.2

theorem imageAbort_ends (htakes : s.takes pair 0x53 h) (hslot : h.desc.word 6 ≤ 15) (hused : s.dev.imgUsed (h.desc.word 6) = true)
    (hcamp : (s.dev.campOf (tGrp h.desc)).isSome = true) :
    Completes (.imageAbort pair) s pair h [] (.img :: .ctx :: .sch :: reportParts) (fun d => d.campSt (tGrp h.desc) = 5) := by
  have hruns : Runs (.imageAbort pair) s ((s.dev.campAbort (tGrp h.desc)).complete pair h.id 0 0 []) := by
    simp [Runs, exec, execImageAbort, State.go, State.withDev, htakes.onDesc_eq, hslot, hused, hcamp]
  have habort : ∀ {d : Dev} {g : Nat}, (d.img.camps.find g).isSome = true → (d.campAbort g).rng.pairs = d.rng.pairs ∧ (d.campAbort g).campSt g = 5 := by
    intro d g hsome
    obtain ⟨c, hc⟩ := Option.isSome_iff_exists.1 hsome
    unfold Dev.campAbort
    extract_lets ms d1 _ _ d2
    have h1 : d1.img.camps.find g = some { c with st := 5 } := by
      unfold d1
      rw [Dev.campState_self, hc]
      rfl
    have h2 : d2.campSt g = 5 := by
      refine Dev.campSt_of_find (c := { c with st := 5, passes := [] }) ?_
      change (d1.img.camps.upd g _).find g = _
      unfold Tab.upd
      rw [h1]
      exact Tab.find_put_self ..
    have h23 := CampsGoOn.foldl (f := fun (x : Dev) (m : Nat) => x.imgSet m 8) (l := ms) (g := g) (fun y m => y.imgSet_goesOn m 8 g) (.refl (d := d2))
    exact ⟨h23.pairs.trans (Dev.campState_pairs ..), h23.ended h2⟩
  have hsome : (s.dev.img.camps.find (tGrp h.desc)).isSome = true := by
    unfold Dev.campOf at hcamp
    split at hcamp
    · next hc => rw [hc]; rfl
    · cases hcamp
  refine .of_writes hruns (Dev.campAbort_evolves ..).mono (Dev.campAbort_writes ..) (habort hsome).1 ?_
  unfold Dev.campSt
  rw [Dev.complete_img]
  exact (habort hsome).2

end

/-! ### Windows and passes -/

section
variable {s : State} {grp : Fin 4096} {c : Campaign} {sl : ImgSlot}

theorem Dev.find_of_campOf {d : Dev} {g : Nat} (h : d.campOf g = some (c, sl)) : d.img.camps.find g = some c := by
  unfold Dev.campOf at h
  split at h
  · next c' hc =>
    split at h
    · obtain ⟨s', -, heq⟩ := Option.map_eq_some_iff.1 h
      rw [hc, (Prod.mk.inj heq).1]
    · cases h
  · cases h

theorem Dev.campState_does {i : Instr} {d : Dev} {st : Nat} (hruns : Runs i s (d.campState grp st)) (hcamp : s.dev.campOf grp = some (c, sl)) (hd : Evolves [.tim, .evr] s.dev d) :
    Does i s (.img :: .tim :: reportParts) (fun d => d.img.camps.find grp.val = some { c with st := st }) := by
  refine .of hruns ((Dev.campState_evolves ..).after hd.mono).keeps ?_
  rw [Dev.campState_self, hd.keeps .img (by decide), Dev.find_of_campOf hcamp]
  rfl

theorem imageWindowOpen_runs (hcamp : s.dev.campOf grp.val = some (c, sl)) (hserves : s.dev.serves = true) (hst : c.st = 3) :
    Does (.imageWindowOpen grp) s (.img :: .tim :: reportParts) (fun d => d.img.camps.find grp.val = some { c with st := 2 }) := by
  have hruns : Runs (.imageWindowOpen grp) s ((if c.inWindow s.dev.minuteNow then s.dev else s.dev.toNs (s.dev.nextMinute c.open_)).campState grp 2) := by
    simp [Runs, exec, execImageWindowOpen, State.go, State.withDev, hcamp, hserves, hst]
  exact Dev.campState_does hruns hcamp (.ite .refl (Dev.toNs_evolves ..))

theorem imageWindowClose_waits (hcamp : s.dev.campOf grp.val = some (c, sl)) (hserves : s.dev.serves = true) (hst : c.st = 2) (hday : c.open_ ≠ c.close_) :
    Does (.imageWindowClose grp) s (.img :: .tim :: reportParts) (fun d => d.img.camps.find grp.val = some { c with st := 3 }) := by
  have hruns : Runs (.imageWindowClose grp) s ((if c.inWindow s.dev.minuteNow then s.dev.toNs (s.dev.nextMinute c.close_) else s.dev).campState grp 3) := by
    simp [Runs, exec, execImageWindowClose, State.go, State.withDev, hcamp, hserves, hst, hday]
  exact Dev.campState_does hruns hcamp (.ite (Dev.toNs_evolves ..) .refl)

theorem imagePassStart_runs {port : Fin 7} {fdx : Fin 1024} {pk : Nat} {a : Nat × Ctx} {t : List (Nat × Ctx)}
    (hpk : pk = (if port.val = 6 then 16 + fdx.val else port.val)) (hcamp : s.dev.campOf grp.val = some (c, sl)) (hserves : s.dev.serves = true)
    (hnext : (c.passes.getD pk {}).next = none) (hspent : s.dev.passesSpent c pk = false) (hended : (c.passes.getD pk {}).endedAt = none)
    (hsends : s.dev.campSends grp.val = true) (hfor : s.dev.passFor grp.val pk = a :: t) :
    Does (.imagePassStart grp port fdx) s [.img, .regs] (fun d => (d.img.camps.find grp.val).map (fun x => x.passes.find pk) = some (some
        { c.passes.getD pk {} with run := (c.passes.getD pk {}).run + 1, next := some (t.foldl (fun k e => min k e.2.imgFirst) a.2.imgFirst) })
      ∧ KeepsRegs [F.UPD_PASSES.off] s.dev d) := by
  have hruns : Runs (.imagePassStart grp port fdx) s (s.dev.passStart grp pk c) := by
    simp [Runs, exec, execImagePassStart, State.go, State.withDev, ← hpk, hcamp, hserves, hnext, hspent, hended, hsends]
  refine .of hruns (Dev.passStart_evolves ..).into ?_
  unfold Dev.passStart
  extract_lets ps
  rw [hfor]
  dsimp only
  constructor
  · refine (congrArg (Option.map fun x : Campaign => x.passes.find pk) (Tab.find_put_self ..)).trans ?_
    exact congrArg some (Tab.find_put_self ..)
  · exact (Evolves.img (d := s.dev)).keeps.keepsRegs.trans (keepsRegs_bump (f := F.UPD_PASSES) (i := 0))

end

/-- Settles O31, one command after the other. -/
theorem meterImages : Obligations.MeterImages :=
  ⟨fun _ _ _ _ _ => imageStage_more, fun _ _ _ _ _ htakes hst hslot hused hfind hparse _ => imageStage_opens htakes hst hslot hused hfind hparse,
    fun _ _ _ _ => imageStart_begins, fun _ _ _ _ => imageStatus_meter, fun _ _ _ => imageStatus_group, fun _ _ _ => imageAbort_frees,
    fun _ _ _ => imageAbort_ends, fun _ _ _ _ => imageWindowOpen_runs, fun _ _ _ _ => imageWindowClose_waits,
    fun _ _ _ _ _ _ _ _ _ => imagePassStart_runs⟩

end Sys2Proof.Machine
end

section

-- one proof after the other: the check gives the text few threads
set_option Elab.async false

namespace Sys2Proof.Machine

/-! ## Work on contexts that leaves what a frame leaves there

Every context keeps its state, its count of frames and its latest instant under all that the Ledger, the scheduler, the Security engine and
the ports do with it. -/

/-- State, count of frames and latest instant of a context. -/
def Ctx.rxMark (c : Ctx) : Nat × Nat × Nat := (c.framesRx, c.lastRx, c.st)

/-- From the first device to the second every context keeps these. -/
structure KeepsRx (d e : Dev) : Prop where
  marks : ∀ k, (e.ctxAt k).map Ctx.rxMark = (d.ctxAt k).map Ctx.rxMark

namespace KeepsRx

variable {d e x : Dev}

theorem refl : KeepsRx d d := ⟨fun _ => rfl⟩

theorem trans (h1 : KeepsRx d e) (h2 : KeepsRx e x) : KeepsRx d x := ⟨fun k => (h2.marks k).trans (h1.marks k)⟩

theorem of_tab (h : e.ctx.tab = d.ctx.tab) : KeepsRx d e := ⟨fun k => by unfold Dev.ctxAt; rw [h]⟩

/-- Work on other parts. -/
theorem of_evolves {ps : List Part} (h : Evolves ps d e) (hctx : Part.ctx ∉ ps := by decide) : KeepsRx d e := of_tab (congrArg CtxEng.tab (h.keeps .ctx hctx))

/-- Work on other parts, after work that keeps these. -/
theorem beside {ps : List Part} (h : KeepsRx d e) (h2 : Evolves ps e x) (hctx : Part.ctx ∉ ps := by decide) : KeepsRx d x := h.trans (of_evolves h2 hctx)

theorem ite {c : Prop} [Decidable c] (h1 : KeepsRx d e) (h2 : KeepsRx d x) : KeepsRx d (if c then e else x) := by split <;> assumption

theorem foldl {α : Type} {f : Dev → α → Dev} {l : List α} (hf : ∀ y a, KeepsRx y (f y a)) (h : KeepsRx d e) : KeepsRx d (l.foldl f e) :=
  List.foldlRecOn (motive := KeepsRx d) l f h fun y hy a _ => hy.trans (hf y a)

theorem st (h : KeepsRx d e) (k : Nat) : (e.ctxAt k).map (fun c => c.st % 16) = (d.ctxAt k).map (fun c => c.st % 16) := by
  have hmark := congrArg (Option.map fun r : Nat × Nat × Nat => r.2.2 % 16) (h.marks k)
  rwa [Option.map_map, Option.map_map] at hmark

/-- A context that stands keeps its marks. -/
theorem ctxAt (h : KeepsRx d e) {k : Nat} {c : Ctx} (hc : d.ctxAt k = some c) : ∃ c', e.ctxAt k = some c' ∧ c'.rxMark = c.rxMark := by
  have hmark := h.marks k
  rw [hc, Option.map_some] at hmark
  obtain ⟨c', hc', heq⟩ := Option.map_eq_some_iff.1 hmark
  exact ⟨c', hc', heq⟩

end KeepsRx

theorem Dev.putCtx_keepsRx {d : Dev} {m : Nat} {c : Ctx} (h : (d.ctxAt m).map Ctx.rxMark = some c.rxMark) : KeepsRx d (d.putCtx m c) := by
  refine ⟨fun k => ?_⟩
  obtain rfl | hne := eq_or_ne k m
  · unfold Dev.putCtx
    extract_lets c1 old c2
    split
    · rfl
    · refine (congrArg (Option.map Ctx.rxMark) (Tab.find_put_self ..)).trans h.symm
  · rw [d.putCtx_ctxAt_other c hne]

/-- A change of other fields of a context. -/
theorem Dev.editCtx_keepsRx (d : Dev) (m : Nat) {f : Ctx → Ctx} (hf : ∀ c, (f c).rxMark = c.rxMark := by intro c; rfl) : KeepsRx d (d.editCtx m f) := by
  unfold Dev.editCtx
  split
  · next c hc => exact Dev.putCtx_keepsRx (by rw [hc, Option.map_some, hf])
  · exact .refl

/-- A context that is set as it was read but for other fields. -/
theorem Dev.setCtx_keepsRx {d : Dev} {m : Nat} {c c' : Ctx} (h : d.ctxAt m = some c) (hc : c'.rxMark = c.rxMark := by rfl) :
    KeepsRx d (d.editCtx m fun _ => c') := by
  unfold Dev.editCtx
  rw [h]
  exact Dev.putCtx_keepsRx (by rw [h, Option.map_some, hc])

/-! ### The scheduler -/

theorem Dev.expedite_keepsRx (d : Dev) (m : Nat) : KeepsRx d (d.expedite m) := d.editCtx_keepsRx m

theorem Dev.unmerge_keepsRx (d : Dev) (m : Nat) : KeepsRx d (d.unmerge m) := by
  unfold Dev.unmerge
  refine KeepsRx.trans ?_ (Dev.expedite_keepsRx ..)
  exact .of_tab rfl

theorem Dev.setEntry_keepsRx (d : Dev) (m : Nat) (e : Entry) (st : Nat) : KeepsRx d (d.setEntry m e st) := by
  unfold Dev.setEntry
  extract_lets e' _ d1 d2
  have h1 : KeepsRx d d1 := .of_tab rfl
  have h2 : KeepsRx d d2 := h1.trans (Dev.editCtx_keepsRx ..)
  exact .ite h1 (.ite (h2.trans (Dev.unmerge_keepsRx ..)) h2)

theorem Dev.suspend_keepsRx (d : Dev) : KeepsRx d d.suspend := by
  unfold Dev.suspend
  split
  · exact .foldl (fun y x => y.setEntry_keepsRx x.1 x.2 9) .refl
  · exact .refl

theorem Dev.stormCheck_keepsRx (d : Dev) : KeepsRx d d.stormCheck := by
  unfold Dev.stormCheck
  refine KeepsRx.trans ?_ (Dev.suspend_keepsRx _)
  split
  · exact (KeepsRx.of_evolves (Dev.stormStart_evolves ..)).beside (Dev.fullCheck_evolves ..)
  · exact .refl

theorem Dev.planAt_keepsRx (d : Dev) (heat : Heat) (m : Nat) (e : Entry) (due : Nat) : KeepsRx d (d.planAt heat m e due) := by
  unfold Dev.planAt
  split
  · exact (Dev.setEntry_keepsRx ..).beside (Dev.bump_evolves ..)
  · split
    · exact Dev.setEntry_keepsRx ..
    · exact Dev.setEntry_keepsRx ..

theorem Dev.slotReplan_keepsRx (d : Dev) (m : Nat) : KeepsRx d (d.slotReplan m) := by
  unfold Dev.slotReplan
  split
  · exact .refl
  · split
    · exact .refl
    · exact .ite (Dev.planAt_keepsRx ..) .refl

theorem Dev.markCatchup_keepsRx (d : Dev) (m : Nat) : KeepsRx d (d.markCatchup m) := d.editCtx_keepsRx m

theorem Dev.pushArrived_keepsRx (d : Dev) (m : Nat) : KeepsRx d (d.pushArrived m) := by
  unfold Dev.pushArrived
  split
  · exact .ite (Dev.setEntry_keepsRx ..) .refl
  · exact .refl

theorem Dev.muteReads_keepsRx (d : Dev) (pk m : Nat) (data : MData) : KeepsRx d (d.muteReads pk m data) := by
  unfold Dev.muteReads
  split
  · exact .refl
  · extract_lets xs _ d1
    refine .foldl (fun y x => ?_) (.of_tab (e := d1) rfl)
    split
    · exact .refl
    · extract_lets y1
      have h1 : KeepsRx y y1 := .ite (Dev.editCtx_keepsRx ..) .refl
      exact .ite (.foldl (fun z q => .of_evolves (Dev.answerDesc_evolves ..)) h1) (.foldl (fun z q => .of_evolves (Dev.complete_evolves ..)) h1)

/-! ### The ports -/

theorem Dev.calTouch_keepsRx {d : Dev} {n m : Nat} {c : Ctx} (relayed : Bool) (echo : Option Elem) (h : d.ctxAt m = some c) :
    KeepsRx d (d.calTouch n m c relayed echo) := by
  unfold Dev.calTouch
  extract_lets _ k k1 d1 c1
  have h1 : KeepsRx d d1 := .of_evolves (Dev.setCal_evolves ..)
  have hat (x : Cal) : (d1.setCal m x).ctxAt m = some c := h
  have hmark : c1.rxMark = c.rxMark := by
    unfold c1
    split <;> rfl
  clear_value c1 d1 k1
  split
  · exact (h1.beside (Dev.setCal_evolves ..)).trans (Dev.setCtx_keepsRx (hat _) (by exact hmark))
  · exact ((h1.beside (Dev.setCal_evolves ..)).trans (Dev.setCtx_keepsRx (hat _) (by exact hmark))).trans (Dev.slotReplan_keepsRx ..)

theorem Dev.radTouch_keepsRx (d : Dev) (n m fin : Nat) (relayed : Bool) (gen : Option Nat) : KeepsRx d (d.radTouch n m fin relayed gen) := by
  unfold Dev.radTouch
  split
  · exact .refl
  · next c hc =>
    refine .ite (Dev.calTouch_keepsRx _ _ hc) (.ite ?_ (.of_evolves (Dev.setCal_evolves ..)))
    unfold Dev.wmbTouch
    extract_lets ts per next
    exact (KeepsRx.of_evolves (Dev.setCal_evolves ..)).trans (Dev.setCtx_keepsRx (c := c) hc)

theorem Dev.phUnknown_keepsRx (d : Dev) (p m : Nat) : KeepsRx d (d.phUnknown p m) := by
  unfold Dev.phUnknown
  split
  · exact .ite .refl ((KeepsRx.of_evolves (Dev.updLp_evolves ..)).trans (Dev.editCtx_keepsRx ..))
  · exact .refl

theorem Dev.learnVia_keepsRx (d : Dev) (m : Nat) (v : Via) : KeepsRx d (d.learnVia m v) := by
  unfold Dev.learnVia
  split
  · exact .of_evolves (Dev.fdAuth_evolves ..)
  · refine .ite (.ite (.ite (Dev.phUnknown_keepsRx ..) .refl) (.of_evolves (Dev.learnLine_evolves ..))) (.ite (Dev.radTouch_keepsRx ..) .refl)

/-! ### The Ledger -/

theorem Dev.setClass_keepsRx (d : Dev) (m cls : Nat) : KeepsRx d (d.setClass m cls) := by
  unfold Dev.setClass
  split
  · exact .refl
  · refine .ite .refl ?_
    extract_lets d1 x late
    have h1 : KeepsRx d d1 := (Dev.editCtx_keepsRx ..).beside (Dev.post_evolves ..)
    exact .ite (h1.beside (Dev.setLdgM_evolves ..)) h1

theorem Dev.clockMeasure_keepsRx (d : Dev) (m : Nat) (data : MData) (rx : Nat) : KeepsRx d (d.clockMeasure m data rx) := by
  unfold Dev.clockMeasure
  extract_lets d1
  have h1 : KeepsRx d d1 := .ite (.of_evolves (Dev.clockFresh_evolves ..)) .refl
  split
  · exact .ite (h1.trans (Dev.setClass_keepsRx ..)) h1
  · extract_lets x cs ofs
    exact ((h1.beside (Dev.setLdgM_evolves ..)).trans (Dev.editCtx_keepsRx ..)).trans (Dev.setClass_keepsRx ..)

theorem Dev.appendLog_keepsRx (d : Dev) (m : Nat) (e : LogEnt) : KeepsRx d (d.appendLog m e) := by
  unfold Dev.appendLog
  split
  · exact .refl
  · extract_lets e'
    exact (KeepsRx.of_evolves (Dev.setLdgM_evolves ..)).trans (Dev.editCtx_keepsRx ..)

theorem Dev.logFrame_keepsRx (d : Dev) (m : Nat) (raw : List Byte) (counter rx suite : Nat) : KeepsRx d (d.logFrame m raw counter rx suite) := by
  unfold Dev.logFrame
  extract_lets parts last
  exact List.foldlRecOn (motive := fun x : Nat × Dev => KeepsRx d x.2) parts _ .refl fun y hy p _ => hy.trans (Dev.appendLog_keepsRx ..)

theorem Dev.logInterval_keepsRx (d : Dev) (m cls start value : Nat) (reg : Option Nat) (vee ref rx : Nat) :
    KeepsRx d (d.logInterval m cls start value reg vee ref rx) := by
  unfold Dev.logInterval
  split
  · exact .refl
  · extract_lets x handed first day d1 _ d2 d3 d4
    have h1 : KeepsRx d d1 := Dev.appendLog_keepsRx ..
    have h2 : KeepsRx d d2 := (h1.beside (Dev.setLdgM_evolves ..)).trans (Dev.editCtx_keepsRx ..)
    have h3 : KeepsRx d d3 := h2.beside (Dev.bumpW_evolves ..)
    have h4 : KeepsRx d d4 := .ite (h3.beside (Dev.bump_evolves ..)) h3
    exact .ite (h4.beside (Dev.handOver_evolves ..)) h4

theorem Dev.item_keepsRx (d : Dev) (m : Nat) (data : MData) (rx ref : Nat) (it : MItem) : KeepsRx d (d.item m data rx ref it) := by
  unfold Dev.item
  split
  · exact .refl
  · extract_lets x len start dup mis v2 v2r v3 back v4 prevReg fix value cls v6 run v7 pwr adj v9 v10 sup rej vee d1 d2 d3 d4
    have h1 : KeepsRx d d1 := .of_evolves (Dev.setLdgM_evolves ..)
    have h2 : KeepsRx d d2 := h1.trans (Dev.logInterval_keepsRx ..)
    have hreg (c : Ctx) (b : Bool) : (if b then { c with lastReg := it.reg.getD c.lastReg } else c).rxMark = c.rxMark := by split <;> rfl
    have h3 : KeepsRx d d3 := .ite ((h2.trans (Dev.editCtx_keepsRx _ _ fun c => hreg c _)).beside (Dev.bump_evolves ..)) (h2.trans (Dev.editCtx_keepsRx ..))
    have h4 : KeepsRx d d4 := .ite ((h3.beside (Dev.bump_evolves ..)).beside (Dev.post_evolves ..)) h3
    exact .ite (.of_evolves (Dev.bump_evolves ..)) (.ite ((h4.beside (Dev.setLdgM_evolves ..)).beside (Dev.post_evolves ..)) h4)

theorem Dev.reading_keepsRx (d : Dev) (m rx reg : Nat) : KeepsRx d (d.reading m rx reg) := by
  unfold Dev.reading
  split
  · exact .refl
  · extract_lets x len pts lo d1
    refine .foldl (fun y k => ?_) (.of_evolves (Dev.setLdgM_evolves ..))
    extract_lets e
    split
    · exact (Dev.logInterval_keepsRx ..).trans (Dev.editCtx_keepsRx ..)
    · exact .refl

theorem Dev.ledger_keepsRx (d : Dev) (m : Nat) (f : MFrame) (rx : Nat) : KeepsRx d (d.ledger m f rx) := by
  unfold Dev.ledger
  extract_lets d1
  have h1 : KeepsRx d d1 := Dev.clockMeasure_keepsRx ..
  split
  · exact h1
  · extract_lets _ d2 d3
    have h2 : KeepsRx d d2 := .ite (h1.trans (Dev.logFrame_keepsRx ..)) h1
    have h3 : KeepsRx d d3 := .foldl (fun y it => Dev.item_keepsRx ..) h2
    exact .ite (.foldl (fun y r => (Dev.reading_keepsRx ..).trans (Dev.editCtx_keepsRx ..)) h3) h3

/-! ### The Security engine -/

theorem Dev.setShadow_keepsRx (d : Dev) (m : Nat) (s : Option Shadow) : KeepsRx d (d.setShadow m s) := by
  unfold Dev.setShadow
  extract_lets t
  refine KeepsRx.trans ?_ (Dev.editCtx_keepsRx ..)
  exact .of_tab rfl

theorem Dev.dropShadow_keepsRx (d : Dev) (m : Nat) : KeepsRx d (d.dropShadow m) := by
  unfold Dev.dropShadow
  split
  · exact .refl
  · extract_lets d1
    have h1 : KeepsRx d d1 := (KeepsRx.of_evolves (Dev.kcDrop_evolves ..)).trans (Dev.setShadow_keepsRx ..)
    exact .ite (h1.beside (Dev.setImport_evolves ..)) h1

theorem Dev.commitKeys_keepsRx (d : Dev) (m gen : Nat) : KeepsRx d (d.commitKeys m gen) := by
  unfold Dev.commitKeys
  split
  · exact .refl
  · extract_lets d1 i lg d2
    have h1 : KeepsRx d d1 := ((KeepsRx.of_evolves (Dev.kcDrop_evolves ..)).trans (Dev.setShadow_keepsRx ..)).trans (Dev.editCtx_keepsRx ..)
    have h2 : KeepsRx d d2 := h1.beside (Dev.setImport_evolves ..)
    split
    · split
      · split
        · exact (h2.trans (Dev.dropShadow_keepsRx ..)).trans (Dev.setShadow_keepsRx ..)
        · exact h2
      · exact h2
    · exact .ite (h1.beside (Dev.setImport_evolves ..)) h1

theorem Dev.authOk_keepsRx (d : Dev) (m : Nat) (c : Ctx) (f : MFrame) : KeepsRx d (d.authOk m c f) := by
  unfold Dev.authOk
  extract_lets d1
  exact (d.editCtx_keepsRx m).trans (.of_tab rfl)

/-- A frame that authenticates. -/
theorem Dev.authenticate_keepsRx (d : Dev) (m : Nat) (c : Ctx) (f : MFrame) : (d.authenticate m c f).1 = .ok → KeepsRx d (d.authenticate m c f).2 := by
  have h1 : KeepsRx d (d.kcTake m c.grp c.keyGen) := .of_evolves (Dev.kcTake_evolves ..)
  unfold Dev.authenticate
  split
  · nofun
  split
  · nofun
  split
  · nofun
  dsimp only
  generalize d.kcTake m c.grp c.keyGen = d1 at h1 ⊢
  split
  · exact fun _ => h1.trans (Dev.authOk_keepsRx ..)
  split
  · nofun
  · split
    · exact fun _ => (((h1.beside (Dev.kcTake_evolves ..)).trans (Dev.commitKeys_keepsRx ..)).trans (Dev.authOk_keepsRx ..))
    · nofun

/-! ### Images -/

theorem Dev.imgSet_keepsRx (d : Dev) (m st : Nat) : KeepsRx d (d.imgSet m st) := by
  unfold Dev.imgSet
  split
  · exact .refl
  · extract_lets d1 _ d2 d3 d4
    have h1 : KeepsRx d d1 := Dev.editCtx_keepsRx ..
    have h2 : KeepsRx d d2 := h1.trans (.of_tab (d := d1) rfl)
    have h3 : KeepsRx d d3 := h2.beside (Dev.post_evolves ..)
    have h4 : KeepsRx d d4 := .ite (h3.beside (Dev.bump_evolves ..)) (.ite (h3.beside (Dev.bump_evolves ..)) h3)
    exact .ite (h4.beside (Dev.campCheck_evolves ..)) h2

theorem Dev.imgWait_keepsRx (d : Dev) (m : Nat) (c : Ctx) (blocks : Nat) : KeepsRx d (d.imgWait m c blocks) := by
  unfold Dev.imgWait
  extract_lets d1 _ d2
  have h1 : KeepsRx d d1 := Dev.editCtx_keepsRx ..
  have h2 : KeepsRx d d2 := h1.trans (.of_tab (d := d1) rfl)
  exact .ite h2 (h2.trans (Dev.imgSet_keepsRx ..))

theorem Dev.imgJoin_keepsRx (d : Dev) (m : Nat) : KeepsRx d (d.imgJoin m) := by
  unfold Dev.imgJoin
  split
  · exact .refl
  · split
    · exact Dev.imgWait_keepsRx ..
    · exact .refl

/-! ### Joins -/

theorem Dev.joinNet_keepsRx (d : Dev) (m : Nat) (j : JoinReq) (v : Via) : KeepsRx d (d.joinNet m j v) := by
  unfold Dev.joinNet
  extract_lets direct s radio wake d1 _ d2 d3
  have hs : KeepsRx d s.2 := by
    unfold s
    split
    · exact ⟨fun k => by rw [Dev.giveShort_ctxAt]⟩
    · exact .refl
  have h1 : KeepsRx d d1 := hs.trans (Dev.editCtx_keepsRx ..)
  exact h1.trans (.of_tab (d := d1) rfl)

end Sys2Proof.Machine
end

section

-- one proof after the other: the check gives the text few threads
set_option Elab.async false

namespace Sys2Proof.Machine

/-! ## O32: frames and joins from their ingest queues -/

/-! ### Keys and joins of the context engine -/

/-- From the first device to the second every key leads where it led, and the joins in hand are as before. -/
structure KeepsKeys (d e : Dev) : Prop where
  index : e.ctx.index = d.ctx.index
  joins : e.ctx.joins = d.ctx.joins

namespace KeepsKeys

variable {d e x : Dev}

theorem refl : KeepsKeys d d := ⟨rfl, rfl⟩

theorem trans (h1 : KeepsKeys d e) (h2 : KeepsKeys e x) : KeepsKeys d x := ⟨h2.index.trans h1.index, h2.joins.trans h1.joins⟩

theorem of_evolves {ps : List Part} (h : Evolves ps d e) (hctx : Part.ctx ∉ ps := by decide) : KeepsKeys d e :=
  ⟨congrArg CtxEng.index (h.keeps .ctx hctx), congrArg CtxEng.joins (h.keeps .ctx hctx)⟩

end KeepsKeys

theorem Dev.putCtx_keepsKeys (d : Dev) (m : Nat) (c : Ctx) : KeepsKeys d (d.putCtx m c) := by
  unfold Dev.putCtx
  extract_lets c1 old c2
  split
  · exact .refl
  · exact ⟨rfl, rfl⟩

theorem Dev.editCtx_keepsKeys (d : Dev) (m : Nat) (f : Ctx → Ctx) : KeepsKeys d (d.editCtx m f) := by
  unfold Dev.editCtx
  split
  · exact Dev.putCtx_keepsKeys ..
  · exact .refl

theorem Dev.joinNet_keepsKeys (d : Dev) (m : Nat) (j : JoinReq) (v : Via) : KeepsKeys d (d.joinNet m j v) := by
  unfold Dev.joinNet
  extract_lets direct s radio wake d1 _ d2 d3
  have hs : KeepsKeys d s.2 := by
    unfold s
    split
    · unfold Dev.giveShort
      extract_lets t a
      split
      · exact .refl
      · exact ⟨rfl, rfl⟩
    · exact .refl
  have h1 : KeepsKeys d d1 := hs.trans (Dev.editCtx_keepsKeys ..)
  exact h1.trans (x := _) ⟨rfl, rfl⟩

theorem Dev.imgSet_keepsKeys (d : Dev) (m st : Nat) : KeepsKeys d (d.imgSet m st) := by
  unfold Dev.imgSet
  split
  · exact .refl
  · extract_lets d1 _ d2 d3 d4
    have h1 : KeepsKeys d d1 := Dev.editCtx_keepsKeys ..
    have h2 : KeepsKeys d d2 := h1.trans (e := d1) ⟨rfl, rfl⟩
    split
    · have h3 : KeepsKeys d d3 := h2.trans (.of_evolves (Dev.post_evolves ..))
      have h4 : KeepsKeys d3 d4 := .of_evolves (ps := [.regs]) (.ite (Dev.bump_evolves ..) (.ite (Dev.bump_evolves ..) .refl))
      exact (h3.trans h4).trans (.of_evolves (Dev.campCheck_evolves ..))
    · exact h2

theorem Dev.imgJoin_keepsKeys (d : Dev) (m : Nat) : KeepsKeys d (d.imgJoin m) := by
  unfold Dev.imgJoin
  split
  · exact .refl
  · split
    · unfold Dev.imgWait
      extract_lets d1 _ d2
      have h1 : KeepsKeys d d1 := Dev.editCtx_keepsKeys ..
      have h2 : KeepsKeys d d2 := h1.trans (e := d1) ⟨rfl, rfl⟩
      split
      · exact h2
      · exact h2.trans (Dev.imgSet_keepsKeys ..)
    · exact .refl

/-- A context that goes to JOINING: its state, and what its join is. -/
theorem Dev.toJoining_joins {d : Dev} {m : Nat} (from_ : Nat) (j : JoinReq) (v : Via) (h : (d.ctxAt m).isSome = true) :
    ((d.toJoining m from_ j v).ctxAt m).map (fun c => c.st % 16) = some 2 ∧ ((d.toJoining m from_ j v).ctx.joins.find m).map (·.1) = some from_
      ∧ (d.toJoining m from_ j v).ctx.index = d.ctx.index := by
  obtain ⟨c, hc⟩ := Option.isSome_iff_exists.1 h
  unfold Dev.toJoining
  extract_lets _ d1 d2
  have h1 : d1.ctxAt m = some c := hc
  have hst1 : ((d1.editCtx m (fun c => { c with st := 2, poll := c.poll / 4 * 4 })).ctxAt m).map (fun c => c.st % 16) = some 2 :=
    Dev.editCtx_shown Ctx.shown_st h1 _
  have hst2 : (d2.ctxAt m).map (fun c => c.st % 16) = some 2 := by
    exact ((Dev.joinNet_keepsRx _ m j v).st m).trans hst1
  have hkeys : KeepsKeys d1 d2 := (Dev.editCtx_keepsKeys ..).trans (Dev.joinNet_keepsKeys ..)
  have hlast := Dev.answerJoin_evolves (d2.pin m) m j v
  refine ⟨?_, ?_, ?_⟩
  · rw [Dev.ctxAt_congr (hlast.keeps .ctx (by decide))]
    exact hst2
  · rw [hlast.keeps .ctx (by decide), show (d2.pin m).ctx.joins = d2.ctx.joins from rfl, hkeys.joins]
    exact congrArg (Option.map Prod.fst) (Tab.find_put_self ..)
  · rw [hlast.keeps .ctx (by decide)]
    exact hkeys.index

/-! ### A frame that authenticates -/

/-- A context that is put: it stands as it is put, or its image was that of the one that stands. -/
theorem Dev.putCtx_ctxAt {d : Dev} {m : Nat} {c0 : Ctx} (c : Ctx) (h : d.ctxAt m = some c0) :
    (∃ b l, (d.putCtx m c).ctxAt m = some { c with balNode := b, lineCycle := l })
      ∨ ((d.putCtx m c).ctxAt m = some c0 ∧ ∃ b, Ctx.image m { c with balNode := b } = c0.image m) := by
  unfold Dev.putCtx
  extract_lets c1 old c2
  split
  · next hsame =>
    refine .inr ⟨h, _, hsame.trans ?_⟩
    unfold old
    rw [h]
  · exact .inl ⟨_, _, Tab.find_put_self ..⟩

/-- What the frame and its port tell of the meter. -/
theorem Dev.netState_rx {d : Dev} {m : Nat} {c : Ctx} (v : Via) (h : d.ctxAt m = some c) :
    ∃ c', (d.netState m v).ctxAt m = some c' ∧ c'.framesRx = c.framesRx ∧ c'.lastRx % 2 ^ 32 = (v.rx / 1000000000) % 2 ^ 32 := by
  unfold Dev.netState Dev.editCtx
  rw [h]
  dsimp only
  obtain ⟨b, l, hput⟩ | ⟨hput, b, himage⟩ := Dev.putCtx_ctxAt (m := m) { c with
    hops := min 255 v.hops, linkCost := if v.attach ≤ 2 then min 255 v.cost else c.linkCost, snr := clampInt (-128) 127 v.snr
    lastRx := (v.rx / 1000000000) % 2 ^ 32 } h
  · exact ⟨_, hput, rfl, Nat.mod_mod _ _⟩
  · exact ⟨c, hput, rfl, (Ctx.shown_lastRx.image _ _ _ himage).symm.trans (Nat.mod_mod _ _)⟩

/-- A frame more is counted. -/
theorem Dev.countFrame_rx {d : Dev} {m : Nat} {c : Ctx} (tamper : Option Nat) (h : d.ctxAt m = some c) :
    ∃ c', (d.editCtx m (fun c => { c with
      st := if c.st = 4 then 3 else c.st, framesRx := (c.framesRx + 1) % 2 ^ 32, meterTamper := tamper.getD c.meterTamper })).ctxAt m = some c'
        ∧ c'.framesRx = (c.framesRx + 1) % 2 ^ 32 := by
  unfold Dev.editCtx
  rw [h]
  dsimp only
  obtain ⟨b, l, hput⟩ | ⟨hput, b, himage⟩ := Dev.putCtx_ctxAt (m := m) { c with
    st := if c.st = 4 then 3 else c.st, framesRx := (c.framesRx + 1) % 2 ^ 32, meterTamper := tamper.getD c.meterTamper } h
  · exact ⟨_, hput, rfl⟩
  · have hcount : (c.framesRx + 1) % 2 ^ 32 % 2 ^ 32 = c.framesRx % 2 ^ 32 := Ctx.shown_framesRx.image _ _ _ himage
    omega

/-- The parts that the frame of a meter of an own port can change. -/
def frameParts : List Part := .ctx :: .tar :: .par :: .sec :: .sch :: .lcp :: .cals :: .ldg :: reportParts

theorem Dev.learnVia_own_evolves (d : Dev) (m : Nat) {v : Via} (hfdx : v.fdx = none) : Evolves frameParts d (d.learnVia m v) := by
  unfold Dev.learnVia
  rw [hfdx]
  exact .ite (.ite (.ite (Dev.phUnknown_evolves ..).mono .refl) (Dev.learnLine_evolves ..).mono) (.ite (Dev.radTouch_evolves ..).mono .refl)

/-- A frame that asks for nothing settles nothing. -/
theorem Dev.settleAnswer_unasked (d : Dev) (m : Nat) {v : Via} (data : Option MData) (bad : Bool) (ofs : Int) (hfdx : v.fdx = none) (hreply : v.reply = false) :
    d.settleAnswer m v data bad ofs = d := by
  have hnone : d.takeAnswered m v = none := by
    unfold Dev.takeAnswered
    exact Option.map_eq_none_iff.2 (List.find?_eq_none.2 (by simp [hfdx, hreply]))
  unfold Dev.settleAnswer Dev.keepAnswer
  rw [hnone, hfdx]

theorem Dev.acceptFrame_own {d : Dev} {m : Nat} {c : Ctx} {f : MFrame} {v : Via} (hctx : d.ctxAt m = some c) (hst : c.st ≠ 2) (halarm : f.data.alarms = 0)
    (hfdx : v.fdx = none) (hreply : v.reply = false) : Evolves frameParts d (d.acceptFrame m f v)
      ∧ ((d.acceptFrame m f v).ctxAt m).map (fun x => (x.framesRx, x.lastRx % 2 ^ 32)) = some ((c.framesRx + 1) % 2 ^ 32, (v.rx / 1000000000) % 2 ^ 32) := by
  unfold Dev.acceptFrame
  extract_lets ofs d1 d2 d3 d4 d5 d6
  have h1 : d1 = d := by
    unfold d1
    rw [hctx]
    exact if_neg (by simp [hst])
  obtain ⟨c2, hc2, hcount⟩ := Dev.countFrame_rx f.data.tamper (h1 ▸ hctx)
  obtain ⟨c3, hc3, hcount3, hrx3⟩ := Dev.netState_rx v hc2
  have h6 : d6 = d5 := Dev.settleAnswer_unasked _ _ _ _ _ hfdx hreply
  have hev2 : Evolves frameParts d d2 := h1 ▸ (Dev.editCtx_evolves ..).mono
  have hev3 : Evolves frameParts d d3 := (Dev.ledger_evolves ..).after <| (Dev.learnVia_own_evolves _ m hfdx).after <| (Dev.netState_evolves ..).after hev2
  have hrx : KeepsRx (d2.netState m v) d5 := by
    have h3 : KeepsRx (d2.netState m v) d3 := (Dev.learnVia_keepsRx ..).trans (Dev.ledger_keepsRx ..)
    have h4 : KeepsRx d3 d4 := by
      unfold d4 Dev.alarm
      rw [if_pos halarm]
      split
      · exact .of_evolves (Dev.setTamper_evolves ..)
      · exact .refl
    exact (((h3.trans h4).trans (Dev.markCatchup_keepsRx ..)).trans (Dev.pushArrived_keepsRx ..)).trans (Dev.muteReads_keepsRx ..)
  have hev4 : Evolves frameParts d d4 := by
    unfold d4 Dev.alarm
    rw [if_pos halarm]
    split
    · exact (Dev.setTamper_evolves ..).after hev3
    · exact hev3
  have hev5 : Evolves frameParts d d5 := (Dev.muteReads_evolves ..).after <| (Dev.pushArrived_evolves ..).after <| (Dev.markCatchup_evolves ..).after hev4
  rw [if_neg (by simp [hfdx, hreply]), h6]
  obtain ⟨c5, hc5, hmark⟩ := hrx.ctxAt hc3
  refine ⟨hev5, ?_⟩
  have hframes : c5.framesRx = c3.framesRx := congrArg Prod.fst hmark
  have hlast : c5.lastRx = c3.lastRx := congrArg (fun r : Nat × Nat × Nat => r.2.1) hmark
  rw [hc5, Option.map_some, hframes, hlast, hcount3, hrx3, hcount]

/-! ### The clauses -/

section
variable {s : State} {queue : Fin 10} {n pr b m : Nat} {f : MFrame} {v : Via} {c : Ctx}

theorem Dev.resolve_laneDrop (d : Dev) (q n : Nat) (f : MFrame) (v : Via) : (d.laneDrop q n).resolve f v = d.resolve f v := rfl

theorem Dev.lane_laneDrop_cells (d : Dev) (q n : Nat) : ((d.laneDrop q n).lane q).cells = (d.lane q).cells.eraseIdx n := by
  unfold Dev.laneDrop
  rw [Dev.lane_setLane]

/-- A queue entry that is dropped and counted. -/
theorem counted_of_runs {i : Instr} (hruns : Runs i s ((s.dev.laneDrop queue n).bump F.CTX_UNKNOWN_RX)) :
    Does i s [.lne, .regs] (fun d => (d.lane queue).cells = (s.dev.lane queue).cells.eraseIdx n
      ∧ d.rd F.CTX_UNKNOWN_RX = min (s.dev.rd F.CTX_UNKNOWN_RX + 1) (2 ^ F.CTX_UNKNOWN_RX.len - 1) ∧ KeepsRegs [F.CTX_UNKNOWN_RX.off] s.dev d) := by
  have hdrop : Evolves [.lne] s.dev (s.dev.laneDrop queue n) := Dev.laneDrop_evolves ..
  refine .of hruns ((Dev.bump_evolves ..).after hdrop.mono).keeps ⟨Dev.lane_laneDrop_cells .., ?_, ?_⟩
  · rw [Dev.rd_bump _ _ _ _ (by decide)]
    rfl
  · exact hdrop.keeps.keepsRegs.trans (keepsRegs_bump (f := F.CTX_UNKNOWN_RX) (i := 0))

theorem frameProcess_unknown (hhead : s.dev.ingestHead queue = some (n, ⟨pr, b, .frame f v⟩)) (hserves : s.dev.serves = true)
    (hresolve : s.dev.resolve f v = none) :
    Does (.frameProcess queue) s [.lne, .regs] (fun d => (d.lane queue).cells = (s.dev.lane queue).cells.eraseIdx n
      ∧ d.rd F.CTX_UNKNOWN_RX = min (s.dev.rd F.CTX_UNKNOWN_RX + 1) (2 ^ F.CTX_UNKNOWN_RX.len - 1) ∧ KeepsRegs [F.CTX_UNKNOWN_RX.off] s.dev d) := by
  refine counted_of_runs ?_
  simp [Runs, exec, execFrameProcess, State.go, State.withDev, hhead, hserves, Dev.takeFrame, Dev.frameFetch, hresolve, Dev.processFrame, Dev.resolve_laneDrop]

/-- A frame of a meter that is the device's own asks for its context. -/
theorem Dev.frameFetch_own {d : Dev} (hresolve : d.resolve f v = some m) (hctx : d.ctxAt m = some c) (hst : c.st = 3 ∨ c.st = 4) (howner : c.owner ≠ 0xFFFE) :
    d.frameFetch f v = d.fetchCtx m := by
  unfold Dev.frameFetch
  rw [hresolve]
  dsimp only
  rw [hctx]
  exact if_neg (by simp [howner]; omega)

theorem Dev.fetchCtx_keepsRx (d : Dev) (m : Nat) : KeepsRx d (d.fetchCtx m).2 ∧ KeepsKeys d (d.fetchCtx m).2
    ∧ (d.fetchCtx m).2.ctx.shorts = d.ctx.shorts ∧ (d.fetchCtx m).2.ctx.tab = d.ctx.tab := by
  unfold Dev.fetchCtx
  extract_lets ways
  split
  · exact ⟨.of_tab rfl, ⟨rfl, rfl⟩, rfl, rfl⟩
  split
  · exact ⟨.of_tab rfl, ⟨rfl, rfl⟩, rfl, rfl⟩
  split
  · exact ⟨.of_tab rfl, ⟨rfl, rfl⟩, rfl, rfl⟩
  split
  · exact ⟨.of_tab rfl, ⟨rfl, rfl⟩, rfl, rfl⟩
  · split
    · exact ⟨.refl, .refl, rfl, rfl⟩
    · exact ⟨.of_tab rfl, ⟨rfl, rfl⟩, rfl, rfl⟩

theorem frameProcess_accepts (hhead : s.dev.ingestHead queue = some (n, ⟨pr, b, .frame f v⟩)) (hserves : s.dev.serves = true)
    (hresolve : s.dev.resolve f v = some m) (hctx : s.dev.ctxAt m = some c) (hst : c.st = 3 ∨ c.st = 4) (howner : c.owner ≠ 0xFFFE)
    (halarm : f.data.alarms = 0) (hfdx : v.fdx = none) (hreply : v.reply = false) (hfetch : (s.dev.fetchCtx m).1 = true)
    (hauth : ((((s.dev.fetchCtx m).2.laneDrop queue n).stormCheck).authenticate m c f).1 = .ok) :
    Does (.frameProcess queue) s (.ctx :: .tar :: .par :: .sec :: .sch :: .lcp :: .cals :: .ldg :: reportParts) (fun d =>
      (d.ctxAt m).map (fun x => (x.framesRx, x.lastRx % 2 ^ 32)) = some ((c.framesRx + 1) % 2 ^ 32, (v.rx / 1000000000) % 2 ^ 32)) := by
  obtain ⟨-, ⟨hindex, -⟩, hshorts, htab⟩ := s.dev.fetchCtx_keepsRx m
  have hev1 : Evolves frameParts s.dev ((s.dev.fetchCtx m).2.laneDrop queue n) := (Dev.laneDrop_evolves ..).after (Dev.fetchCtx_evolves ..).mono
  have hctx1 : ((s.dev.fetchCtx m).2.laneDrop queue n).ctxAt m = some c := by
    rw [← hctx]
    exact congrArg (fun t : Tab Ctx => t.find m) htab
  have hresolve1 : ((s.dev.fetchCtx m).2.laneDrop queue n).resolve f v = some m := by
    rw [← hresolve, Dev.resolve_laneDrop]
    unfold Dev.resolve Dev.lookup
    rw [hindex, hshorts]
  have htake : s.dev.takeFrame queue n f v = ((s.dev.fetchCtx m).2.laneDrop queue n).processFrame f v := by
    unfold Dev.takeFrame
    rw [Dev.frameFetch_own hresolve hctx hst howner]
    exact if_pos hfetch
  generalize (s.dev.fetchCtx m).2.laneDrop queue n = d1 at *
  have hev2 := d1.stormCheck.authenticate_evolves m c f
  have hrx2 := (Dev.stormCheck_keepsRx d1).trans (d1.stormCheck.authenticate_keepsRx m c f hauth)
  have hproc : d1.processFrame f v = (d1.stormCheck.authenticate m c f).2.acceptFrame m f v := by
    unfold Dev.processFrame
    rw [hresolve1]
    dsimp only
    rw [hctx1]
    dsimp only
    rw [if_neg (by omega), if_neg howner, if_neg (by simp [halarm])]
    unfold Dev.ownFrame
    dsimp only
    rw [hauth]
  generalize (d1.stormCheck.authenticate m c f).2 = d2 at *
  obtain ⟨c2, hc2, hmark⟩ := hrx2.ctxAt hctx1
  have hst2 : c2.st = c.st := congrArg (fun r : Nat × Nat × Nat => r.2.2) hmark
  have hframes2 : c2.framesRx = c.framesRx := congrArg Prod.fst hmark
  obtain ⟨hev3, hpost⟩ := Dev.acceptFrame_own hc2 (by omega) halarm hfdx hreply
  have hruns : Runs (.frameProcess queue) s (d2.acceptFrame m f v) := by
    rw [← hproc, ← htake]
    simp [Runs, exec, execFrameProcess, State.go, State.withDev, hhead, hserves]
  have hev : Evolves frameParts s.dev (d2.acceptFrame m f v) := hev3.after (hev2.after ((Dev.stormCheck_evolves ..).after hev1))
  refine .of hruns hev.keeps ?_
  rw [hpost, hframes2]

theorem frameProcess_waits (hhead : s.dev.ingestHead queue = some (n, ⟨pr, b, .frame f v⟩)) (hserves : s.dev.serves = true)
    (hresolve : s.dev.resolve f v = some m) (hctx : s.dev.ctxAt m = some c) (hst : c.st = 3 ∨ c.st = 4) (howner : c.owner ≠ 0xFFFE)
    (hfetch : (s.dev.fetchCtx m).1 = false) :
    Does (.frameProcess queue) s [.ctx, .regs] (fun d => (d.ctx.waits.contains m) = true ∧ KeepsRegs [F.CTX_CACHE_STS_SET_WAIT.off] s.dev d) := by
  have hruns : Runs (.frameProcess queue) s (s.dev.fetchCtx m).2 := by
    simp [Runs, exec, execFrameProcess, State.go, State.withDev, hhead, hserves, Dev.takeFrame, Dev.frameFetch_own hresolve hctx hst howner, hfetch]
  have hwaits : ∀ {d : Dev}, (d.fetchCtx m).1 = false → ((d.fetchCtx m).2.ctx.waits.contains m) = true
      ∧ KeepsRegs [F.CTX_CACHE_STS_SET_WAIT.off] d (d.fetchCtx m).2 := by
    intro d
    unfold Dev.fetchCtx
    extract_lets ways
    split
    · nofun
    split
    · nofun
    split
    · nofun
    split
    · nofun
    · split
      · next hin => exact fun _ => ⟨hin, .refl⟩
      · exact fun _ => ⟨List.contains_iff_mem.2 (List.mem_append_right _ (List.mem_singleton_self m)),
          (Evolves.ctx (d := d)).keeps.keepsRegs.trans (keepsRegs_bump (f := F.CTX_CACHE_STS_SET_WAIT) (i := 0))⟩
  exact .of hruns (Dev.fetchCtx_evolves ..).into (hwaits hfetch)

end

section
variable {s : State} {queue : Fin 10} {moves : List (Fin 4)} {n pr b m : Nat} {j : JoinReq} {v : Via} {c : Ctx}

theorem Dev.processJoin_unknown {d : Dev} (hlook : d.lookup j.kind j.addr = none) (hfield : d.isField = false) (hrehash : d.ctx.rehash = false) :
    d.processJoin moves j v = d.unknownJoin moves j v := by
  unfold Dev.processJoin
  simp [hlook, hfield, hrehash]

theorem joinRx_runs (hhead : s.dev.ingestHead queue = some (n, ⟨pr, b, .join j v⟩)) (hserves : s.dev.serves = true) :
    Runs (.joinRx queue moves) s ((s.dev.laneDrop queue n).processJoin moves j v) := by
  simp [Runs, exec, execJoinRx, State.go, State.withDev, hhead, hserves]

theorem joinRx_counted (hhead : s.dev.ingestHead queue = some (n, ⟨pr, b, .join j v⟩)) (hserves : s.dev.serves = true)
    (hlook : s.dev.lookup j.kind j.addr = none) (hfield : s.dev.isField = false) (hrehash : s.dev.ctx.rehash = false) (hkind : j.kind = 0)
    (hmode : s.dev.rd F.CTX_ADMIT_CFG_MODE = 0) :
    Does (.joinRx queue moves) s [.lne, .regs] (fun d => (d.lane queue).cells = (s.dev.lane queue).cells.eraseIdx n
      ∧ d.rd F.CTX_UNKNOWN_RX = min (s.dev.rd F.CTX_UNKNOWN_RX + 1) (2 ^ F.CTX_UNKNOWN_RX.len - 1) ∧ KeepsRegs [F.CTX_UNKNOWN_RX.off] s.dev d) := by
  have hproc : (s.dev.laneDrop queue n).processJoin moves j v = (s.dev.laneDrop queue n).bump F.CTX_UNKNOWN_RX := by
    rw [Dev.processJoin_unknown (d := s.dev.laneDrop queue n) hlook hfield hrehash]
    unfold Dev.unknownJoin
    rw [if_neg (by simp [Dev.isQuiet, hkind]), if_pos (show (s.dev.laneDrop queue n).rd F.CTX_ADMIT_CFG_MODE = 0 from hmode)]
  exact counted_of_runs (hproc ▸ joinRx_runs hhead hserves)

/-- A key that was put in leads to its MIX. -/
theorem lookup_insertKey (g : Grade) (seed : BitVec 128) (ix : List Slot) (kind addr m : Nat) :
    ((insertKey g seed moves ix kind addr m).find? (fun e => e.kind = kind && e.addr = addr)).map (·.mix) = some m := by
  unfold insertKey
  extract_lets a b best
  split
  · simp
  · split
    · simp
    · split <;> simp

theorem Dev.unknownJoin_admits {d : Dev} (hkind : j.kind = 0) (hmode : d.rd F.CTX_ADMIT_CFG_MODE ≠ 0) (hused : d.ctxUsed < d.ctxLimit)
    (hattach : d.attachFull v false = false) (hjoining : d.joining < 1024) (hrehash : d.ctx.rehash = false) (hindex : d.ctx.index.length < 1024) :
    (d.unknownJoin moves j v).lookup j.kind j.addr = some d.freeMix
      ∧ ((d.unknownJoin moves j v).ctxAt d.freeMix).map (fun c => c.st % 16) = some 2
      ∧ Evolves (.ctx :: .img :: .cals :: .ldg :: .lcp :: linkParts) d (d.unknownJoin moves j v) := by
  unfold Dev.unknownJoin
  rw [if_neg (by simp [Dev.isQuiet, hkind]), if_neg hmode, if_neg (Nat.not_le.2 hused), if_neg (by rw [hattach]; decide), if_neg (Nat.not_le.2 hjoining)]
  extract_lets m r d1
  have hr : r = (true, { d with ctx := { d.ctx with index := d.withKey moves d.ctx.index j.kind j.addr m } }) := by
    unfold r Dev.indexPut
    rw [if_neg (by rw [hrehash]; decide)]
    exact if_pos hindex
  rw [if_neg (by rw [hr]; exact Bool.false_ne_true)]
  have hevr : Evolves [.ctx] d r.2 := by rw [hr]; exact Evolves.ctx
  have hlookr : (r.2.ctx.index.find? (fun e => e.kind = j.kind && e.addr = j.addr)).map (·.mix) = some m := by
    rw [hr]
    exact lookup_insertKey ..
  clear_value r
  obtain ⟨hst, -, hix⟩ := Dev.toJoining_joins 0 j v (r.2.putCtx_isSome m (d.modeCtx j v))
  have hpost := d1.post_evolves 0 0x0311 0 3 (tgtMix m) m j.kind (if v.fdx.isSome then 7 else v.attach)
  have hev1 : Evolves (.ctx :: .img :: .cals :: .ldg :: .lcp :: linkParts) d d1 :=
    (Dev.imgJoin_evolves ..).after <| (Dev.toJoining_evolves ..).after <| (Dev.putCtx_evolves ..).after hevr.mono
  refine ⟨?_, ?_, hpost.after hev1⟩
  · rw [Dev.lookup_congr (congrArg CtxEng.index (hpost.keeps .ctx (by decide))), ← hlookr]
    exact Dev.lookup_congr ((Dev.imgJoin_keepsKeys ..).index.trans (hix.trans (Dev.putCtx_index ..))) _ _
  · rw [Dev.ctxAt_congr (hpost.keeps .ctx (by decide)), ← hst]
    exact (Dev.imgJoin_keepsRx _ m).st m

theorem joinRx_admits (hhead : s.dev.ingestHead queue = some (n, ⟨pr, b, .join j v⟩)) (hserves : s.dev.serves = true)
    (hlook : s.dev.lookup j.kind j.addr = none) (hfield : s.dev.isField = false) (hkind : j.kind = 0) (hmode : s.dev.rd F.CTX_ADMIT_CFG_MODE ≠ 0)
    (hused : s.dev.ctxUsed < s.dev.ctxLimit) (hattach : s.dev.attachFull v false = false) (hjoining : s.dev.joining < 1024)
    (hrehash : s.dev.ctx.rehash = false) (hindex : s.dev.ctx.index.length < 1024) :
    Does (.joinRx queue moves) s (.ctx :: .img :: .cals :: .ldg :: .lcp :: linkParts) (fun d => d.lookup j.kind j.addr = some s.dev.freeMix
      ∧ (d.ctxAt s.dev.freeMix).map (fun c => c.st % 16) = some 2) := by
  have hruns : Runs (.joinRx queue moves) s ((s.dev.laneDrop queue n).unknownJoin moves j v) :=
    Dev.processJoin_unknown (d := s.dev.laneDrop queue n) hlook hfield hrehash ▸ joinRx_runs hhead hserves
  obtain ⟨h1, h2, hev⟩ := Dev.unknownJoin_admits (d := s.dev.laneDrop queue n) (moves := moves) hkind hmode hused hattach hjoining hrehash hindex
  exact .of hruns (hev.after (Dev.laneDrop_evolves ..).mono).keeps ⟨h1, h2⟩

theorem joinRx_known (hhead : s.dev.ingestHead queue = some (n, ⟨pr, b, .join j v⟩)) (hserves : s.dev.serves = true)
    (hlook : s.dev.lookup j.kind j.addr = some m) (hctx : s.dev.ctxAt m = some c) (howner : c.owner ≠ 0xFFFE) (hst5 : c.st ≠ 5) (hst2 : c.st ≠ 2)
    (hquiet : s.dev.isQuiet j = false) (hrehash : s.dev.ctx.rehash = false) (hattach : s.dev.attachFull v (decide (1 ≤ c.attach ∧ c.attach ≤ 6)) = false)
    (hjoining : s.dev.joining < 1024) :
    Does (.joinRx queue moves) s (.ctx :: .cals :: .ldg :: .lcp :: linkParts) (fun d =>
      (d.ctxAt m).map (fun c => c.st % 16) = some 2 ∧ (d.ctx.joins.find m).map (·.1) = some c.st) := by
  have hproc : ∀ {d : Dev}, d.lookup j.kind j.addr = some m → d.ctxAt m = some c → d.isQuiet j = false → d.ctx.rehash = false →
      d.attachFull v (decide (1 ≤ c.attach ∧ c.attach ≤ 6)) = false → d.joining < 1024 → d.processJoin moves j v = d.toJoining m c.st j v := by
    intro d hlook hctx hquiet hrehash hattach hjoining
    unfold Dev.processJoin Dev.knownJoin
    extract_lets known
    have hknown : known = some (m, c) := by
      unfold known
      rw [hlook, Option.bind_some, hctx, Option.map_some]
    rw [if_neg (by rw [hrehash]; decide), hknown]
    dsimp only
    rw [if_neg howner, if_neg (by rw [hquiet]; decide), if_neg hst5, if_neg hst2, if_neg (by rw [hattach]; decide), if_neg (Nat.not_le.2 hjoining)]
  have hruns : Runs (.joinRx queue moves) s ((s.dev.laneDrop queue n).toJoining m c.st j v) :=
    hproc (d := s.dev.laneDrop queue n) hlook hctx hquiet hrehash hattach hjoining ▸ joinRx_runs hhead hserves
  obtain ⟨hst, hjoins, -⟩ := Dev.toJoining_joins c.st j v (show ((s.dev.laneDrop queue n).ctxAt m).isSome = true from Option.isSome_of_eq_some hctx)
  exact .of hruns ((Dev.toJoining_evolves ..).after (Dev.laneDrop_evolves ..).mono : Evolves (.ctx :: .cals :: .ldg :: .lcp :: linkParts) _ _).keeps ⟨hst, hjoins⟩

end

/-- Settles O32, one command after the other. -/
theorem framesAndJoins : Obligations.FramesAndJoins :=
  ⟨fun _ _ _ _ _ _ _ => frameProcess_unknown, fun _ _ _ _ _ _ _ _ _ => frameProcess_accepts, fun _ _ _ _ _ _ _ _ _ => frameProcess_waits,
    fun _ _ _ _ _ _ _ _ => joinRx_counted, fun _ _ _ _ _ _ _ _ => joinRx_admits, fun _ _ _ _ _ _ _ _ _ _ => joinRx_known⟩

end Sys2Proof.Machine
end

section

-- one proof after the other: the check gives the text few threads
set_option Elab.async false

namespace Sys2Proof.Machine

/-! ## O33: the Ledger's reading, filling, balances and evaluations -/

/-! ### What an evaluation leaves of the Ledger -/

/-- From the first device to the second the Ledger's day, its recomputation and its latest balance are as before. -/
structure KeepsDays (d e : Dev) : Prop where
  evalDay : e.ldg.evalDay = d.ldg.evalDay
  recompute : e.ldg.recompute = d.ldg.recompute
  balTo : e.ldg.balTo = d.ldg.balTo

namespace KeepsDays

variable {d e x : Dev}

theorem refl : KeepsDays d d := ⟨rfl, rfl, rfl⟩

theorem trans (h1 : KeepsDays d e) (h2 : KeepsDays e x) : KeepsDays d x :=
  ⟨h2.evalDay.trans h1.evalDay, h2.recompute.trans h1.recompute, h2.balTo.trans h1.balTo⟩

theorem of_ldg (h : e.ldg = d.ldg) : KeepsDays d e := by constructor <;> rw [h]

/-- Work on other parts, after work that keeps these. -/
theorem beside {ps : List Part} (h : KeepsDays d e) (h2 : Evolves ps e x) (hldg : Part.ldg ∉ ps := by decide) : KeepsDays d x :=
  h.trans (of_ldg (h2.keeps .ldg hldg))

theorem ite {c : Prop} [Decidable c] (h1 : KeepsDays d e) (h2 : KeepsDays d x) : KeepsDays d (if c then e else x) := by split <;> assumption

theorem foldl {α : Type} {f : Dev → α → Dev} {l : List α} (hf : ∀ y a, KeepsDays y (f y a)) (h : KeepsDays d e) : KeepsDays d (l.foldl f e) :=
  List.foldlRecOn (motive := KeepsDays d) l f h fun y hy a _ => hy.trans (hf y a)

theorem setNode (n : Nat) (y : Node) : KeepsDays d (d.setNode n y) := ⟨rfl, rfl, rfl⟩

theorem setLdgM (m : Nat) (y : LdgMeter) : KeepsDays d (d.setLdgM m y) := ⟨rfl, rfl, rfl⟩

end KeepsDays

theorem Dev.setBook_keepsDays (d : Dev) (m seq code : Nat) : KeepsDays d (d.setBook m seq code) := by
  unfold Dev.setBook
  split
  · exact .refl
  · extract_lets e x' _ l at_ l'
    have hl : l'.evalDay = d.ldg.evalDay ∧ l'.recompute = d.ldg.recompute ∧ l'.balTo = d.ldg.balTo := by
      unfold l'
      clear_value e
      split
      · split <;> exact ⟨rfl, rfl, rfl⟩
      · exact ⟨rfl, rfl, rfl⟩
    exact ⟨hl.1, hl.2.1, hl.2.2⟩

theorem Dev.effective_keepsDays (d : Dev) (e : JEntry) : KeepsDays d (d.effective e) := by
  unfold Dev.effective
  extract_lets _ d1
  have h1 : KeepsDays d d1 := by
    unfold d1
    split
    · exact .of_ldg rfl
    · exact .refl
  split
  · exact h1.trans (Dev.setBook_keepsDays ..)
  · exact h1

theorem Dev.journal_keepsDays (d : Dev) (what : JWhat) (mix : Option Nat) (ext : Option Ext) (out : Option (Nat × Nat × Nat)) :
    KeepsDays d (d.journal what mix ext out) := by
  unfold Dev.journal
  extract_lets e _ d1 _ d2
  have h2 : KeepsDays d d2 := by
    unfold d2
    split
    · exact KeepsDays.beside (e := { d1 with tar := { d1.tar with unacked := d1.tar.unacked ++ [e] } }) (.of_ldg rfl) (Dev.pairSend_evolves ..)
    · exact KeepsDays.trans (e := d1) (.of_ldg rfl) (Dev.effective_keepsDays ..)
  exact .ite (h2.beside (Dev.closeHalf_evolves ..)) h2

theorem Dev.setTamper_keepsDays (d : Dev) (m bits : Nat) : KeepsDays d (d.setTamper m bits) := by
  unfold Dev.setTamper
  split
  · exact .refl
  · extract_lets new
    refine .ite .refl (KeepsDays.beside ?_ (Dev.post_evolves ..))
    unfold Dev.journalExt
    split
    · exact .refl
    · exact (KeepsDays.refl.beside (Dev.setExt_evolves ..)).trans (Dev.journal_keepsDays ..)

theorem Dev.suspectFinding_keepsDays (d : Dev) (n : Nat) (f : Fit) : KeepsDays d (d.suspectFinding n f) := by
  unfold Dev.suspectFinding
  extract_lets x run d1
  have h1 : KeepsDays d d1 := (KeepsDays.setLdgM ..).beside (Dev.post_evolves ..)
  exact .ite (h1.trans (Dev.setTamper_keepsDays ..)) h1

theorem Dev.learn_keepsDays (d : Dev) (n today : Nat) : KeepsDays d (d.learn n today) := by
  unfold Dev.learn
  extract_lets x w fs
  exact .ite .refl (.ite .refl (.setNode ..))

theorem Dev.testPhase_keepsDays (d : Dev) (n today k : Nat) : KeepsDays d (d.testPhase n today k) := by
  unfold Dev.testPhase
  extract_lets fs x0 x mb lim lb mean d1 was w4 y l
  have h1 : KeepsDays d d1 := .setNode ..
  exact .ite (.setNode ..) (.ite ((h1.trans (.setNode ..)).beside (Dev.recordPost_evolves ..)) (.ite ((h1.trans (.setNode ..)).beside (Dev.recordPost_evolves ..)) h1))

theorem Dev.evaluate_day (d : Dev) (today : Nat) : (d.evaluate today).ldg.evalDay = today ∧ (d.evaluate today).ldg.recompute = d.ldg.recompute := by
  unfold Dev.evaluate
  extract_lets _ d0 d1
  have h1 : KeepsDays d0 d1 := by
    refine .foldl (fun x n => ?_) .refl
    extract_lets y w
    have hy : KeepsDays x y := .foldl (fun z k => Dev.testPhase_keepsDays ..) (Dev.learn_keepsDays ..)
    have hlaid : KeepsDays y w := by
      refine .ite .refl (.ite (.setNode ..) (.ite (.setNode ..) (.foldl (fun z f => ?_) (.foldl (fun z e => ?_) (.setNode ..)))))
      · have hscore : KeepsDays z (z.editCtx f.m (fun c => { c with suspect := f.score })) := KeepsDays.refl.beside (Dev.editCtx_evolves ..)
        exact .ite (hscore.trans (Dev.suspectFinding_keepsDays ..)) hscore
      · exact .ite .refl (.setLdgM ..)
    exact (hy.trans hlaid).trans (.of_ldg rfl)
  have hdays (e : Dev) (h : KeepsDays d0 e) : e.ldg.evalDay = today ∧ e.ldg.recompute = d.ldg.recompute := ⟨h.evalDay, h.recompute⟩
  exact hdays _ (.ite .refl (.ite h1 (h1.beside (Dev.offer_evolves ..))))

/-! ### Logging -/

@[simp] theorem Dev.ldgM_setLdgM (d : Dev) (m : Nat) (x : LdgMeter) : (d.setLdgM m x).ldgM m = x := Tab.getD_put_self ..

theorem Dev.ldgM_congr {d e : Dev} (h : e.ldg = d.ldg) (m : Nat) : e.ldgM m = d.ldgM m := by
  unfold Dev.ldgM
  rw [h]

/-- An entry that is appended is the newest of the log. -/
theorem Dev.appendLog_log {d : Dev} {m : Nat} (e0 : LogEnt) (h : (d.ctxAt m).isSome = true) :
    (∃ e, ((d.appendLog m e0).ldgM m).log = e :: (d.ldgM m).log ∧ e.typ = e0.typ ∧ e.cls = e0.cls ∧ e.start = e0.start)
      ∧ ((d.appendLog m e0).ctxAt m).isSome = true := by
  obtain ⟨c, hc⟩ := Option.isSome_iff_exists.1 h
  unfold Dev.appendLog
  rw [hc]
  dsimp -zeta only
  extract_lets e
  have h1 : ((d.setLdgM m { d.ldgM m with log := e :: (d.ldgM m).log }).ctxAt m).isSome = true := h
  refine ⟨⟨e, ?_, rfl, rfl, rfl⟩, Dev.editCtx_isSome _ h1⟩
  rw [Dev.ldgM_congr ((Dev.editCtx_evolves ..).keeps .ldg (by decide)), Dev.ldgM_setLdgM]

/-- An interval that is logged is the newest entry of the log. -/
theorem Dev.logInterval_log {d : Dev} {m : Nat} (cls start value : Nat) (reg : Option Nat) (vee ref rx : Nat) (h : (d.ctxAt m).isSome = true) :
    (∃ e, ((d.logInterval m cls start value reg vee ref rx).ldgM m).log = e :: (d.ldgM m).log ∧ e.isInt = true ∧ e.cls = cls ∧ e.start = start)
      ∧ ((d.logInterval m cls start value reg vee ref rx).ctxAt m).isSome = true := by
  obtain ⟨c, hc⟩ := Option.isSome_iff_exists.1 h
  unfold Dev.logInterval
  rw [hc]
  dsimp -zeta only
  extract_lets x handed first day d1 _ d2 d3 d4
  obtain ⟨⟨e, hlog, htyp, hcls, hstart⟩, hsome1⟩ : (∃ e, (d1.ldgM m).log = e :: (d.ldgM m).log ∧ e.typ = 3 ∧ e.cls = cls ∧ e.start = start)
    ∧ (d1.ctxAt m).isSome = true := Dev.appendLog_log _ h
  have hint : e.isInt = true := by unfold LogEnt.isInt; rw [htyp]; rfl
  have hlog2 : (d2.ldgM m).log = (d1.ldgM m).log := by
    unfold d2
    rw [Dev.ldgM_congr ((Dev.editCtx_evolves ..).keeps .ldg (by decide)), Dev.ldgM_setLdgM]
  have hsome2 : (d2.ctxAt m).isSome = true := Dev.editCtx_isSome (d := d1.setLdgM m _) _ hsome1
  have hlast : Evolves reportParts d2 (if handed then d4.handOver m start value first (bitAt vee 12) c.logSeq else d4) := by
    have h3 : Evolves reportParts d2 d3 := (Dev.bumpW_evolves ..).mono
    have h4 : Evolves reportParts d2 d4 := .ite ((Dev.bump_evolves ..).after h3) h3
    exact .ite ((Dev.handOver_evolves ..).after h4) h4
  generalize (if handed then d4.handOver m start value first (bitAt vee 12) c.logSeq else d4) = d5 at hlast ⊢
  refine ⟨⟨e, ?_, hint, hcls, hstart⟩, ?_⟩
  · rw [Dev.ldgM_congr (hlast.keeps .ldg (by decide)), hlog2, hlog]
  · rw [Dev.ctxAt_congr (hlast.keeps .ctx (by decide))]
    exact hsome2

theorem length_shares (total : Nat) (ws : List Rat) : (shares total ws).length = ws.length := by
  unfold shares
  extract_lets ws' sum ex fl left fr
  have hws : ws'.length = ws.length := by
    unfold ws'
    split
    · exact List.length_map _
    · rfl
  rw [List.length_map, List.length_range, List.length_map, List.length_map, hws]

/-- The log has a class R entry of this start. -/
def Dev.filled (d : Dev) (m st : Nat) : Bool := (d.ldgM m).log.any (fun e => e.isInt && e.cls = 2 && e.start = st)

/-- Every start of a run that is filled has its entry. -/
theorem Dev.fillRun_filled {d : Dev} {m : Nat} (starts : List Nat) (growth : Nat) (h : (d.ctxAt m).isSome = true) {st : Nat} (hst : st ∈ starts) :
    (d.fillRun m starts growth).filled m st = true := by
  unfold Dev.fillRun
  extract_lets log vs
  have hlen : starts.length ≤ vs.length := by rw [length_shares, List.length_map]
  have hmem : st ∈ (List.zip starts vs).map Prod.fst := by rwa [List.map_fst_zip hlen]
  have hfold : ∀ (l : List (Nat × Nat)) (y : Dev), (y.ctxAt m).isSome = true → st ∈ l.map Prod.fst ∨ y.filled m st = true →
      (l.foldl (fun (y : Dev) p => y.logInterval m 2 p.1 p.2 none (flagIf 12 (!y.timeValid) + flagIf 14 (!y.timeValid)) 0 0) y).filled m st = true := by
    intro l
    induction l with
    | nil => exact fun y _ h => h.resolve_left (by simp)
    | cons p t ih =>
      intro y hy hin
      obtain ⟨⟨e, hlog, hint, hcls, hstart⟩, hsome⟩ :=
        Dev.logInterval_log 2 p.1 p.2 none (flagIf 12 (!y.timeValid) + flagIf 14 (!y.timeValid)) 0 0 hy
      refine ih _ hsome ?_
      unfold Dev.filled at hin ⊢
      rw [hlog, List.any_cons]
      obtain hmem | hold := hin
      · obtain heq | hlater := List.mem_cons.1 hmem
        · refine .inr ?_
          rw [heq, hint, hcls, hstart]
          simp
        · exact .inl hlater
      · rw [hold, Bool.or_true]
        exact .inr rfl
  exact hfold _ d h (.inl hmem)

/-! ### The clauses -/

section
variable {s : State}

theorem readLog_meter {pair : Fin 64} {h : Held} {c : Ctx} {ok : List (List Byte) × Bool} (htakes : s.takes pair 0x21 h) (hkind : tKind h.desc = 1)
    (hctx : s.dev.ctxNamed (tMix h.desc) = some c) (howned : c.owned = true)
    (hfit : fitting (bufLen h.desc) (s.dev.logOf (h.desc.quad 6) (count4096 (h.desc.word 8)) (bitAt (h.desc.word 9) 0) (tMix h.desc)).1 = ok) :
    Completes (.readLog pair) s pair h
      [ok.1.length, b2n (ok.2 || (s.dev.logOf (h.desc.quad 6) (count4096 (h.desc.word 8)) (bitAt (h.desc.word 9) 0) (tMix h.desc)).2)] [.out] (fun d =>
      d.out = if ok.1.isEmpty then s.dev.out else .hostWrite (bufAddr h.desc) (ok.1.flatten.take (bufLen h.desc)) :: s.dev.out) := by
  have hruns : Runs (.readLog pair) s ((if ok.1.isEmpty then s.dev else s.dev.writeBuf h.desc ok.1.flatten).complete pair h.id 0 0
      [ok.1.length, b2n (ok.2 || (s.dev.logOf (h.desc.quad 6) (count4096 (h.desc.word 8)) (bitAt (h.desc.word 9) 0) (tMix h.desc)).2)]) := by
    simp [Runs, exec, execReadLog, State.go, State.withDev, htakes.onDesc_eq, Dev.readLog, hkind, Dev.withCtx, hctx, howned, hfit]
  have hev : Evolves [.out] s.dev (if ok.1.isEmpty then s.dev else s.dev.writeBuf h.desc ok.1.flatten) := .ite .refl (Dev.writeBuf_evolves ..)
  refine .intro hruns hev.keeps ?_
  rw [Dev.complete_out]
  split <;> rfl

theorem gapFill_fills {mix : BitVec 20} {r : List Nat × Nat × Nat} (hdue : (sortBy (fun r => r.2.2) (s.dev.fillable mix.toNat)).head? = some r)
    (hrun : s.dev.ldgRuns = true) :
    Does (.gapFill mix) s (.tim :: .ctx :: .ldg :: reportParts) (fun d =>
      r.1.all (fun st => (d.ldgM mix.toNat).log.any (fun e => e.isInt && e.cls = 2 && e.start = st)) = true) := by
  have hruns : Runs (.gapFill mix) s ((s.dev.toNs (r.2.2 * 1000000000)).fillRun mix.toNat r.1 r.2.1) := by
    simp [Runs, exec, execGapFill, State.go, State.withDev, hdue, hrun]
  have htime := s.dev.toNs_evolves (r.2.2 * 1000000000)
  have hctx : ((s.dev.toNs (r.2.2 * 1000000000)).ctxAt mix.toNat).isSome = true := by
    rw [Dev.ctxAt_congr (htime.keeps .ctx (by decide))]
    unfold Dev.fillable at hdue
    cases hc : s.dev.ctxAt mix.toNat with
    | none => rw [hc] at hdue; exact absurd hdue (by simp [sortBy])
    | some c => rfl
  refine .of hruns ((Dev.fillRun_evolves ..).after htime.mono : Evolves (.tim :: .ctx :: .ldg :: reportParts) _ _).keeps ?_
  exact List.all_eq_true.2 fun st hst => Dev.fillRun_filled r.1 r.2.1 hctx hst

theorem Tab.mem_of_find {α : Type} {t : Tab α} {k : Nat} {x : α} (h : t.find k = some x) : (k, x) ∈ t := by
  induction t with
  | nil => cases h
  | cons e t ih =>
    obtain ⟨k', x'⟩ := e
    unfold Tab.find at h
    split at h
    · next heq =>
      rw [heq, Option.some.inj h]
      exact List.mem_cons_self
    · exact List.mem_cons_of_mem _ (ih h)

/-- The flags of the day of a context, if there is one. -/
def Dev.veeOf (d : Dev) (m : Nat) : Option Nat := (d.ctxAt m).map fun c => c.vee % 256

/-- What clears the flags of a context clears no other's and makes none. -/
theorem Dev.veeOf_cleared (d : Dev) (k m : Nat) :
    (d.editCtx k (fun c => { c with vee := 0 })).veeOf m = if m = k then (d.ctxAt m).map (fun _ => 0) else d.veeOf m := by
  unfold Dev.veeOf
  split
  · next heq =>
    subst heq
    cases hc : d.ctxAt m with
    | none =>
      unfold Dev.editCtx
      rw [hc]
      dsimp only
      rw [hc]
      rfl
    | some c => exact Dev.editCtx_shown Ctx.shown_vee hc _
  · next hne => rw [Dev.editCtx_ctxAt_other _ _ hne]

theorem Dev.veeOf_clearAll {d : Dev} {m v : Nat}
    (h : (d.ctx.tab.foldl (fun (x : Dev) e => if e.2.vee = 0 then x else x.editCtx e.1 (fun c => { c with vee := 0 })) d).veeOf m = some v) : v = 0 := by
  have hfold : ∀ (l : List (Nat × Ctx)) (y : Dev), (∀ v, y.veeOf m = some v → v = 0 ∨ ∃ e ∈ l, e.1 = m ∧ e.2.vee ≠ 0) →
      ∀ v, (l.foldl (fun (x : Dev) e => if e.2.vee = 0 then x else x.editCtx e.1 (fun c => { c with vee := 0 })) y).veeOf m = some v → v = 0 := by
    intro l
    induction l with
    | nil => exact fun y hy v hv => (hy v hv).resolve_right (by simp)
    | cons e t ih =>
      intro y hy
      refine ih _ fun v hv => ?_
      dsimp only at hv
      split at hv
      · next hzero =>
        obtain hv0 | ⟨e', hmem, hkey, hne⟩ := hy v hv
        · exact .inl hv0
        · obtain rfl | hmem := List.mem_cons.1 hmem
          · exact absurd hzero hne
          · exact .inr ⟨e', hmem, hkey, hne⟩
      · rw [Dev.veeOf_cleared] at hv
        split at hv
        · obtain ⟨c, -, hc⟩ := Option.map_eq_some_iff.1 hv
          exact .inl hc.symm
        · next hother =>
          obtain hv0 | ⟨e', hmem, hkey, hne⟩ := hy v hv
          · exact .inl hv0
          · obtain rfl | hmem := List.mem_cons.1 hmem
            · exact absurd hkey.symm hother
            · exact .inr ⟨e', hmem, hkey, hne⟩
  refine hfold d.ctx.tab d (fun v hv => ?_) v h
  obtain ⟨c, hc, rfl⟩ := Option.map_eq_some_iff.1 hv
  by_cases hzero : c.vee = 0
  · exact .inl (by rw [hzero])
  · exact .inr ⟨(m, c), Tab.mem_of_find hc, rfl, hzero⟩

theorem veeFlagsClear_clears (hrun : s.dev.ldgRuns = true) : Does .veeFlagsClear s [.ctx, .tim, .evr] (fun d =>
    d.ctx.tab.keys.all (fun m => match d.ctxAt m with | some c => c.vee % 256 = 0 | none => true) = true) := by
  have htime := s.dev.toNs_evolves ((s.dev.nowNs / 86400000000000 + 1) * 86400000000000)
  have hruns : Runs .veeFlagsClear s ((s.dev.toNs ((s.dev.nowNs / 86400000000000 + 1) * 86400000000000)).ctx.tab.foldl
      (fun (x : Dev) e => if e.2.vee = 0 then x else x.editCtx e.1 (fun c => { c with vee := 0 }))
      (s.dev.toNs ((s.dev.nowNs / 86400000000000 + 1) * 86400000000000))) := by
    simp [Runs, exec, execVeeFlagsClear, State.go, State.withDev, hrun]
  generalize s.dev.toNs ((s.dev.nowNs / 86400000000000 + 1) * 86400000000000) = d at hruns htime
  refine .of hruns (Evolves.foldl (fun x e => .ite .refl (Dev.editCtx_evolves ..).mono) htime.mono).keeps ?_
  refine List.all_eq_true.2 fun m _ => ?_
  split
  · next c hc => exact decide_eq_true (Dev.veeOf_clearAll (d := d) (m := m) (congrArg (Option.map fun c : Ctx => c.vee % 256) hc))
  · rfl

theorem intervalEventWindow_ends (hrun : s.dev.ldgRuns = true) (hmixes : s.dev.ldg.winMixes ≠ []) :
    Does .intervalEventWindow s (.ldg :: .tim :: reportParts) (fun d => d.ldg = { s.dev.ldg with winEnd := 0, winMixes := [] }) := by
  have hopen : s.dev.ldg.winMixes.isEmpty = false := by simpa using hmixes
  obtain ⟨d1, hd1⟩ : ∃ d1, s.dev.toMono ((s.dev.ldg.winFrom / 30000000000 + 1) * 30000000000) = d1 := ⟨_, rfl⟩
  have htime : Evolves [.tim, .evr] s.dev d1 := hd1 ▸ Dev.toMono_evolves ..
  have hldg : d1.ldg = s.dev.ldg := htime.keeps .ldg (by decide)
  have hruns : Runs .intervalEventWindow s (({ d1 with ldg := { d1.ldg with winEnd := 0, winMixes := [] } } : Dev).post 1 0x0A01 0 0xA 0 d1.ldg.winEnd d1.ldg.winMixes.length) := by
    simp [Runs, exec, execIntervalEventWindow, State.go, State.withDev, hrun, hopen, hd1, hldg]
  refine .of hruns ((Dev.post_evolves ..).after (Evolves.ldg.after (htime.mono (qs := .ldg :: .tim :: reportParts)))).keeps ?_
  rw [(Dev.post_evolves ..).keeps .ldg (by decide), hldg]

theorem Dev.formRow_keepsDays (d : Dev) (n b : Nat) : KeepsDays d (d.formRow n b) := by
  unfold Dev.formRow
  extract_lets y
  split
  · exact .refl
  · split
    · exact .refl
    · extract_lets
      exact .ite .refl (.ite ((KeepsDays.setNode ..).beside (Dev.bump_evolves ..)) ((KeepsDays.setNode ..).beside (Dev.bumpW_evolves ..)))

/-- The balance up to an instant is formed. -/
def Dev.balanced (d : Dev) (b : Nat) : Dev :=
  let d1 : Dev := { d with ldg := { d.ldg with balTo := b } }
  if d1.on F.LDG_BAL_CFG_EN then d1.ldg.nodes.keys.foldl (fun (x : Dev) n => x.formRow n b) d1 else d1

theorem Dev.balanced_evolves (d : Dev) (b : Nat) : Evolves [.ldg, .regs] d (d.balanced b) := by
  unfold Dev.balanced
  extract_lets _ d1
  have h1 : Evolves [.ldg, .regs] d d1 := Evolves.ldg.mono
  exact .ite (.foldl (fun x n => (Dev.formRow_evolves ..).mono) h1) h1

theorem Dev.balanced_balTo (d : Dev) (b : Nat) : (d.balanced b).ldg.balTo = b := by
  unfold Dev.balanced
  extract_lets _ d1
  have hdays : KeepsDays d1 (if d1.on F.LDG_BAL_CFG_EN then d1.ldg.nodes.keys.foldl (fun (x : Dev) n => x.formRow n b) d1 else d1) :=
    .ite (.foldl (fun x n => x.formRow_keepsDays n b) .refl) .refl
  exact hdays.balTo

theorem execBalanceForm_eq (s : State) : execBalanceForm s
    = s.go fun d => if d.ldgRuns then (d.toNs ((d.balNext + d.balLag) * 1000000000)).balanced d.balNext else d := rfl

theorem balanceForm_handles (hrun : s.dev.ldgRuns = true) : Does .balanceForm s [.ldg, .regs, .tim, .evr] (fun d => d.ldg.balTo = s.dev.balNext) := by
  obtain ⟨d1, hd1⟩ : ∃ d1, s.dev.toNs ((s.dev.balNext + s.dev.balLag) * 1000000000) = d1 := ⟨_, rfl⟩
  have htime : Evolves [.tim, .evr] s.dev d1 := hd1 ▸ Dev.toNs_evolves ..
  have hruns : Runs .balanceForm s (d1.balanced s.dev.balNext) := by
    simp only [Runs, exec, execBalanceForm_eq, State.go, State.withDev, hrun, if_true, hd1]
  exact .of hruns ((Dev.balanced_evolves ..).after htime.mono : Evolves [.ldg, .regs, .tim, .evr] _ _).keeps (Dev.balanced_balTo ..)

theorem ledgerEvaluation_handles (hlive : s.dev.live = true) :
    Does .ledgerEvaluation s (.ldg :: .tim :: .ctx :: .tar :: .par :: reportParts) (fun d => d.ldg.evalDay = s.dev.evalNext) := by
  obtain ⟨d1, hd1⟩ : ∃ d1, s.dev.toNs ((s.dev.evalNext * 86400 + s.dev.balLag) * 1000000000) = d1 := ⟨_, rfl⟩
  have htime : Evolves [.tim, .evr] s.dev d1 := hd1 ▸ Dev.toNs_evolves ..
  obtain ⟨e, hruns, he⟩ : ∃ e, Runs .ledgerEvaluation s e ∧ e = (if d1.isBow then { d1 with ldg := { d1.ldg with evalDay := s.dev.evalNext } }
      else if d1.ldg.recompute then { d1 with ldg := { d1.ldg with evalDay := s.dev.evalNext, missed := true } } else d1.evaluate s.dev.evalNext) := by
    refine ⟨_, ?_, rfl⟩
    simp only [Runs, exec, execLedgerEvaluation, State.go, hlive, if_true, hd1]
    rfl
  have hev : Evolves (.ldg :: .tim :: .ctx :: .tar :: .par :: reportParts) s.dev e := by
    rw [he]
    exact .ite (Evolves.ldg.after htime.mono) (.ite (Evolves.ldg.after htime.mono) ((Dev.evaluate_evolves ..).after htime.mono))
  refine .of hruns hev.keeps ?_
  rw [he]
  split
  · rfl
  · split
    · rfl
    · exact (Dev.evaluate_day ..).1

theorem ledgerRecomputeDone_ends (hrun : s.dev.ldgRuns = true) (hrec : s.dev.ldg.recompute = true) :
    Does .ledgerRecomputeDone s (.ldg :: .ctx :: .tar :: .par :: reportParts) (fun d => d.ldg.recompute = false) := by
  obtain ⟨d1, hd1⟩ : ∃ d1, ({ s.dev with ldg := { s.dev.ldg with recompute := false } } : Dev) = d1 := ⟨_, rfl⟩
  have hev1 : Evolves [.ldg] s.dev d1 := hd1 ▸ Evolves.ldg
  have hrec1 : d1.ldg.recompute = false := hd1 ▸ rfl
  obtain ⟨c, today, hruns⟩ : ∃ (c : Bool) (today : Nat), Runs .ledgerRecomputeDone s (if c then d1.evaluate today else d1) := by
    simp only [Runs, exec, execLedgerRecomputeDone, State.go, hrun, hrec, Bool.and_self, if_true, hd1]
    exact ⟨_, _, rfl⟩
  refine .of hruns (Evolves.ite ((Dev.evaluate_evolves ..).after hev1.mono) (hev1.mono (qs := .ldg :: .ctx :: .tar :: .par :: reportParts))).keeps ?_
  split
  · rw [(Dev.evaluate_day ..).2, hrec1]
  · exact hrec1

theorem nodeDataSnapshotRead_copies (hlive : s.dev.live = true) :
    Does .nodeDataSnapshotRead s [.ldg, .out] (fun d =>
      d.ldg = { s.dev.ldg with nodeCopy := (s.dev.nodeWords (s.dev.rd F.LDG_NODE_SEL_NODE)).map (BitVec.ofNat 32) }
        ∧ d.out = .readData ((s.dev.nodeWords (s.dev.rd F.LDG_NODE_SEL_NODE)).getD 0 0) :: s.dev.out) := by
  have hruns : Runs .nodeDataSnapshotRead s (({ s.dev with ldg := { s.dev.ldg with
      nodeCopy := (s.dev.nodeWords (s.dev.rd F.LDG_NODE_SEL_NODE)).map (BitVec.ofNat 32) } } : Dev).emit
        (.readData ((s.dev.nodeWords (s.dev.rd F.LDG_NODE_SEL_NODE)).getD 0 0))) := by
    simp only [Runs, exec, execNodeDataSnapshotRead, State.go, hlive, if_true]
    rfl
  exact .of hruns ((Dev.emit_evolves ..).after Evolves.ldg.mono).keeps ⟨rfl, rfl⟩

end

/-- Settles O33, one command after the other. -/
theorem ledgerTimes : Obligations.LedgerTimes :=
  ⟨fun _ _ _ _ _ => readLog_meter, fun _ _ _ => gapFill_fills, fun _ => veeFlagsClear_clears, fun _ => intervalEventWindow_ends,
    fun _ => balanceForm_handles, fun _ => ledgerEvaluation_handles, fun _ => ledgerRecomputeDone_ends, fun _ => nodeDataSnapshotRead_copies⟩

end Sys2Proof.Machine
end

section

-- one proof after the other: the check gives the text few threads
set_option Elab.async false

namespace Sys2Proof.Machine

/-! ## What the line ports write -/

theorem Dev.hearNb_writes (d : Dev) (p : Nat) (rx : LineRx) (snrs : List Int) (mix : Option Nat) :
    Writes [F.LCP_NB_FULL, F.LCP_TM_EARLY] d (d.hearNb p rx snrs mix) := by
  have hupd (f : Lcp → Lcp) : Writes [F.LCP_NB_FULL, F.LCP_TM_EARLY] d (d.updLp p f) := (Dev.updLp_evolves ..).quiet.mono
  unfold Dev.hearNb
  extract_lets l slot n r d1
  clear_value slot
  cases slot with
  | none => exact (Writes.bump ..).mono
  | some i =>
    dsimp only
    split
    · exact (Writes.bump ..).after (hupd _)
    · exact hupd _

theorem Dev.routeError_writes (d : Dev) (p m : Nat) : Writes [F.LCP_RT_DROP] d (d.routeError p m) := by
  unfold Dev.routeError
  extract_lets
  split
  · exact .refl
  · refine (Writes.bump ..).after ?_
    split
    · extract_lets
      exact (Dev.setLp_evolves ..).quiet.mono
    · exact (Dev.setLp_evolves ..).quiet.mono

theorem Dev.phaseMoved_writes (d : Dev) (m old : Nat) (new t : Nat) : Writes ([F.LDG_PH_MOVE] ++ eventFields) d (d.phaseMoved m old new t) := by
  unfold Dev.phaseMoved
  extract_lets _ d1
  have hd1 : Writes ([F.LDG_PH_MOVE] ++ eventFields) d d1 := (Writes.bump ..).after <| (Dev.setLdgM_evolves ..).quiet.mono
  exact (Dev.post_writes ..).after hd1

theorem Dev.phSample_writes (d : Dev) (p m rxNs : Nat) (h : MacHdr) (plan : Nat) :
    Writes ([F.LCP_PH_CHANGE, F.LDG_PH_MOVE] ++ eventFields) d (d.phSample p m rxNs h plan) := by
  unfold Dev.phSample
  split
  · exact .refl
  · rename_i y0 y1 y2
    extract_lets _ _ d1
    have hd1 : Writes ([F.LCP_PH_CHANGE, F.LDG_PH_MOVE] ++ eventFields) d d1 := (Dev.setLp_evolves ..).quiet.mono
    split
    · rename_i y0 y1 y2 y3 y4 y5
      extract_lets _ d2
      have hd2 : Writes ([F.LCP_PH_CHANGE, F.LDG_PH_MOVE] ++ eventFields) d d2 := (Writes.bump ..).after <| (Dev.updLp_evolves ..).quiet.after hd1
      exact .ite hd1 (.ite hd2 ((Dev.phaseMoved_writes ..).after <| (Dev.editCtx_evolves ..).quiet.after hd2))
    · exact hd1

theorem Dev.beaconOut_writes (d : Dev) (pk lead : Nat) : Writes [F.TIM_BCN_SENT] d (d.beaconOut pk lead) := by
  unfold Dev.beaconOut
  extract_lets d1
  have hd1 : Writes [F.TIM_BCN_SENT] d d1 := (Writes.bumpW ..).after <| (Dev.emit_evolves ..).quiet.mono
  exact Evolves.tim.quiet.after hd1

theorem Dev.sendBeacon_writes (d : Dev) (p plan : Nat) (bps bytes : Nat) : Writes [F.TIM_BCN_SENT] d (d.sendBeacon p plan bps bytes) := by
  unfold Dev.sendBeacon
  extract_lets _ _ _ d1
  have hd1 : Writes [F.TIM_BCN_SENT] d d1 := (Dev.emit_evolves ..).quiet.mono
  exact (Dev.beaconOut_writes ..).after (.ite ((Dev.emit_evolves ..).quiet.after hd1) hd1)

theorem Dev.routeMsg_writes (d : Dev) (p : Nat) (rx : LineRx) : Writes [F.LCP_RT_DROP] d (d.routeMsg p rx) := by
  unfold Dev.routeMsg
  split
  · exact .refl
  · rename_i y0 y1 y2
    split
    · exact (Dev.routeError_writes ..).mono
    · split
      · extract_lets _ d1
        have hd1 : Writes [F.LCP_RT_DROP] d d1 := (Dev.learnRoute_evolves ..).quiet.mono
        split
        · exact .ite ((Dev.ready_evolves ..).quiet.after <| (Dev.setCur_evolves ..).quiet.after hd1) hd1
        · exact hd1
      · exact .refl

theorem Dev.lineMac_writes (d : Dev) (p start rxNs : Nat) (rx : LineRx) (snrs : List Int) :
    Writes ([F.LCP_NB_FULL, F.LCP_PH_CHANGE, F.LCP_RT_DROP, F.LCP_TM_EARLY, F.LDG_PH_MOVE] ++ eventFields) d (d.lineMac p start rxNs rx snrs) := by
  unfold Dev.lineMac
  extract_lets mix d1 d2 d3 own hops cost via d4
  have h1 : Writes ([F.LCP_NB_FULL, F.LCP_PH_CHANGE, F.LCP_RT_DROP, F.LCP_TM_EARLY, F.LDG_PH_MOVE] ++ eventFields) d d1 := (Dev.lineAcked_evolves ..).quiet.after (Dev.hearNb_writes ..).mono
  clear_value d1 own hops cost via mix
  have h2 : Writes ([F.LCP_NB_FULL, F.LCP_PH_CHANGE, F.LCP_RT_DROP, F.LCP_TM_EARLY, F.LDG_PH_MOVE] ++ eventFields) d d2 := by
    unfold d2
    cases mix with
    | some m => exact (Dev.phSample_writes ..).after h1
    | none => exact h1
  have h3 : Writes ([F.LCP_NB_FULL, F.LCP_PH_CHANGE, F.LCP_RT_DROP, F.LCP_TM_EARLY, F.LDG_PH_MOVE] ++ eventFields) d d3 := (Dev.routeMsg_writes ..).after <| (Dev.ackSend_evolves ..).quiet.after h2
  have h4 : Writes ([F.LCP_NB_FULL, F.LCP_PH_CHANGE, F.LCP_RT_DROP, F.LCP_TM_EARLY, F.LDG_PH_MOVE] ++ eventFields) d d4 := by
    unfold d4
    cases mix with
    | some m => exact .ite ((Dev.learnLine_evolves ..).quiet.after h3) h3
    | none => exact h3
  clear_value d4
  split
  · exact h2
  split
  · exact h4
  · exact (Dev.offer_writes ..).after h4
  · exact (Dev.offer_writes ..).after (.ite ((Dev.updLp_evolves ..).quiet.after h4) h4)

theorem Dev.lineSeg_writes (d : Dev) (p start rxNs : Nat) (rx : LineRx) (snrs : List ℤ) :
    Writes ([F.LCP_NB_FULL, F.LCP_PH_CHANGE, F.LCP_RT_DROP, F.LCP_SEG_DROP, F.LCP_TM_EARLY, F.LDG_PH_MOVE] ++ eventFields) d (d.lineSeg p start rxNs rx snrs) := by
  unfold Dev.lineSeg
  extract_lets
  split
  · exact (Dev.lineMac_writes ..).mono
  · split
    · exact .ite (.ite ((Dev.lineMac_writes ..).after <| (Dev.updLp_evolves ..).quiet.mono) ((Dev.updLp_evolves ..).quiet.mono)) ((Dev.lineBad_evolves ..).quiet.after <| (Writes.bump ..).after <| (Dev.updLp_evolves ..).quiet.mono)
    · exact .ite ((Dev.updLp_evolves ..).quiet.mono) .refl

theorem Dev.lineHeard_writes (d : Dev) (p : Nat) (rx : LineRx) (imp : List Bool × List ℤ) : Writes [F.LCP_IMP_SYM] d (d.lineHeard p rx imp) := by
  unfold Dev.lineHeard
  extract_lets d1
  have hd1 : Writes [F.LCP_IMP_SYM] d d1 := (Dev.mediumBusy_evolves ..).quiet.mono
  exact (Writes.bump ..).after <| (Dev.updLp_evolves ..).quiet.after hd1

end Sys2Proof.Machine
end

section

-- one proof after the other: the check gives the text few threads
set_option Elab.async false

namespace Sys2Proof.Machine

/-! ## O34: line-port frames -/

/-! ### The state of a line port -/

@[simp] theorem Dev.lp_setLp (d : Dev) (p : Nat) (l : Lcp) : (d.setLp p l).lp p = l := Tab.getD_set ..

@[simp] theorem Dev.lp_updLp (d : Dev) (p : Nat) (f : Lcp → Lcp) : (d.updLp p f).lp p = f (d.lp p) := Dev.lp_setLp ..

theorem Dev.lp_congr {d e : Dev} (h : e.lcp = d.lcp) (p : Nat) : e.lp p = d.lp p := by
  unfold Dev.lp
  rw [h]

/-- Time that passes leaves the transmit gate. -/
theorem Dev.gateOpen_congr {d e : Dev} (h : Evolves [.tim, .evr] d e) : e.gateOpen = d.gateOpen := by
  unfold Dev.gateOpen Dev.isSafe Dev.on
  rw [Dev.rd_congr (h.keeps .regs (by decide)) (h.keeps .grade (by decide)), h.keeps .grade (by decide), h.keeps .upd (by decide), h.keeps .par (by decide)]

/-! ### Receiving -/

section
variable {s : State} {port : Fin 2} {rx : LineRx}

/-- A frame that a receive chain decodes is heard. -/
theorem Dev.lineHeard_eq (d : Dev) (p : Nat) (rx : LineRx) (imp : List Bool × List Int) :
    ∃ e, Evolves [.lcp] d e ∧ d.lineHeard p rx imp = e.bump F.LCP_IMP_SYM p (imp.1.filter id).length :=
  ⟨_, (Dev.updLp_evolves ..).after (Dev.mediumBusy_evolves ..), rfl⟩

theorem lineFrameRx_good (hrun : s.dev.portRuns port = true) (hplan : (s.dev.plans port).contains rx.plan = true)
    (hblank : (s.dev.lp port).blanked.contains rx.plan = false) (hfc : (LineRx.fcPass rx) = true) (hok : rx.ok = true) :
    Does (.lineFrameRx port rx) s (.ctx :: .lcp :: .ldg :: .sch :: reportParts) (fun d =>
      d.rd F.LCP_RX_OK port = min (s.dev.rd F.LCP_RX_OK port + 1) (2 ^ F.LCP_RX_OK.len - 1)) := by
  have hheard := s.dev.lineHeard_writes port rx (s.dev.impulse port rx)
  have hrest : ∃ e, s.dev.lineRx port rx = e ∧ Writes ([F.LCP_NB_FULL, F.LCP_PH_CHANGE, F.LCP_RT_DROP, F.LCP_SEG_DROP, F.LCP_TM_EARLY, F.LDG_PH_MOVE] ++ eventFields)
      ((s.dev.lineHeard port rx (s.dev.impulse port rx)).bump F.LCP_RX_OK port) e := by
    refine ⟨_, rfl, ?_⟩
    unfold Dev.lineRx
    rw [if_neg (by simp only [hrun, hplan, hblank]; decide)]
    extract_lets imp d1 d2 d3
    rw [if_neg (by rw [hfc]; decide), if_neg (by rw [hok]; decide)]
    have h3 : Writes [] d2 d3 := .ite (Dev.updLp_evolves ..).quiet .refl
    exact .ite .refl ((Dev.lineSeg_writes ..).after (h3.mono (List.nil_subset _)))
  obtain ⟨e, heq, hw⟩ := hrest
  have hruns : Runs (.lineFrameRx port rx) s e := by
    rw [← heq]
    rfl
  refine .of hruns (heq ▸ (Dev.lineRx_evolves ..).into) ?_
  rw [hw.rd_fin F.LCP_RX_OK port, Dev.rd_bump _ _ _ _ (by decide), hheard.rd_fin F.LCP_RX_OK port]

theorem lineFrameRx_bad (hrun : s.dev.portRuns port = true) (hplan : (s.dev.plans port).contains rx.plan = true)
    (hblank : (s.dev.lp port).blanked.contains rx.plan = false) (hbad : ((LineRx.fcPass rx) && rx.ok) = false) :
    Does (.lineFrameRx port rx) s [.lcp, .regs] (fun d =>
      d.rd F.LCP_RX_FCS port = min (s.dev.rd F.LCP_RX_FCS port + 1) (2 ^ F.LCP_RX_FCS.len - 1)
        ∧ KeepsRegs [F.LCP_RX_FCS.at port, F.LCP_IMP_SYM.at port] s.dev d) := by
  obtain ⟨d1, hev1, hheard⟩ := s.dev.lineHeard_eq port rx (s.dev.impulse port rx)
  have hrest : ∃ e, s.dev.lineRx port rx = e ∧ Evolves [.lcp] ((s.dev.lineHeard port rx (s.dev.impulse port rx)).bump F.LCP_RX_FCS port) e := by
    refine ⟨_, rfl, ?_⟩
    unfold Dev.lineRx
    rw [if_neg (by simp only [hrun, hplan, hblank]; decide)]
    extract_lets imp d1 d2 d3
    split
    · exact .refl
    · next hfc =>
      have hok : rx.ok = false := by simpa [show LineRx.fcPass rx = true by simpa using hfc] using hbad
      rw [if_pos (by rw [hok]; decide)]
      exact Dev.lineBad_evolves ..
  obtain ⟨e, heq, hlast⟩ := hrest
  have hruns : Runs (.lineFrameRx port rx) s e := by
    rw [← heq]
    rfl
  have hwrites := s.dev.lineHeard_writes port rx (s.dev.impulse port rx)
  have hev : Evolves [.lcp, .regs] s.dev e := hlast.after <| (Dev.bump_evolves ..).after (Dev.lineHeard_evolves ..).mono
  refine .of hruns hev.keeps ⟨?_, ?_⟩
  · rw [Dev.rd_congr (hlast.keeps .regs (by decide)) (hlast.keeps .grade (by decide)), Dev.rd_bump _ _ _ _ (by decide), hwrites.rd_fin F.LCP_RX_FCS port]
  · have h1 : KeepsRegs [F.LCP_RX_FCS.at port, F.LCP_IMP_SYM.at port] s.dev (s.dev.lineHeard port rx (s.dev.impulse port rx)) := by
      rw [hheard]
      exact hev1.keeps.keepsRegs.trans (keepsRegs_bump.mono (by simp))
    exact (h1.trans (keepsRegs_bump.mono (by simp))).trans hlast.keeps.keepsRegs

theorem segmentTimeout_voids (hrun : s.dev.portRuns port = true) (hseg : (s.dev.lp port).seg.isSome = true) :
    Does (.segmentTimeout port) s [.lcp, .regs, .tim, .evr] (fun d => (d.lp port).seg = none
      ∧ d.rd F.LCP_SEG_DROP port = min (s.dev.rd F.LCP_SEG_DROP port + 1) (2 ^ F.LCP_SEG_DROP.len - 1) ∧ KeepsRegs [F.LCP_SEG_DROP.at port] s.dev d) := by
  obtain ⟨g, hg⟩ := Option.isSome_iff_exists.1 hseg
  obtain ⟨d1, hd1⟩ : ∃ d1, s.dev.toMono (g.ended + usC 500 + g.frm) = d1 := ⟨_, rfl⟩
  have htime : Evolves [.tim, .evr] s.dev d1 := hd1 ▸ Dev.toMono_evolves ..
  have hruns : Runs (.segmentTimeout port) s (((d1.updLp port (fun l => { l with seg := none })).bump F.LCP_SEG_DROP port).lineBad port 2) := by
    simp only [Runs, exec, execSegmentTimeout, State.go, State.withDev, hrun, hg, hd1]
  have hupd : Evolves [.lcp, .tim, .evr] s.dev (d1.updLp port (fun l => { l with seg := none })) := (Dev.updLp_evolves ..).after htime.mono
  have hbad : ∀ x : Dev, (x.lp port).seg = none → ((x.lineBad port 2).lp port).seg = none := by
    intro x hx
    unfold Dev.lineBad
    split
    · split
      · rw [Dev.lp_updLp]
      · exact hx
    · exact hx
  have hlast := ((d1.updLp port (fun l => { l with seg := none })).bump F.LCP_SEG_DROP port).lineBad_evolves port 2
  refine .of hruns (hlast.after ((Dev.bump_evolves ..).after hupd.mono) : Evolves [.lcp, .regs, .tim, .evr] _ _).keeps ⟨hbad _ ?_, ?_, ?_⟩
  · change ((d1.updLp port (fun l => { l with seg := none })).lp port).seg = none
    rw [Dev.lp_updLp]
  · rw [Dev.rd_congr (hlast.keeps .regs (by decide)) (hlast.keeps .grade (by decide)), Dev.rd_bump _ _ _ _ (by decide),
      Dev.rd_congr (hupd.keeps .regs (by decide)) (hupd.keeps .grade (by decide))]
  · exact (hupd.keeps.keepsRegs.trans keepsRegs_bump).trans hlast.keeps.keepsRegs

/-! ### Sending -/

variable {plan bps bytes : Nat}

theorem backoffExpiry_held (hrun : s.dev.portRuns port = true) (hphase : (s.dev.lp port).phase = .contend)
    (hcontends : s.dev.contends port = some (plan, bps, bytes)) (hgate : s.dev.gateOpen = false) :
    Does (.backoffExpiry port) s [.regs, .tim, .evr] (fun d => d.on F.LCP_STS_GATED port = true ∧ KeepsRegs [F.LCP_STS_GATED.at port] s.dev d) := by
  obtain ⟨d0, hd0⟩ : ∃ d0, s.dev.toMono (s.dev.sendAt port plan) = d0 := ⟨_, rfl⟩
  have htime : Evolves [.tim, .evr] s.dev d0 := hd0 ▸ Dev.toMono_evolves ..
  have hgate0 : d0.gateOpen = false := by
    rw [← hgate]
    exact Dev.gateOpen_congr htime
  have hruns : Runs (.backoffExpiry port) s (d0.wrb F.LCP_STS_GATED port true) := by
    simp only [Runs, exec, execBackoffExpiry, State.go, State.withDev, hrun, if_true, Dev.lineSend, hphase, hcontends, hd0, hgate0, Bool.not_false]
  exact .of hruns ((Dev.wrb_evolves ..).after htime.mono).keeps ⟨Dev.on_wrb _ _ _ _ (by decide) rfl, htime.keeps.keepsRegs.trans keepsRegs_wrb⟩

/-- A frame that has started leaves with its parameters; the port keeps them until it ends. -/
theorem Dev.sendBeacon_keeps (d : Dev) (p plan bps n : Nat) : (d.sendBeacon p plan bps n).lp p = d.lp p ∧ (d.sendBeacon p plan bps n).tim.mono = d.tim.mono := by
  have hbeacon (x : Dev) (lead : Nat) : (x.beaconOut p lead).tim.mono = x.tim.mono := rfl
  refine ⟨Dev.lp_congr ((Dev.sendBeacon_evolves ..).keeps .lcp (by decide)) p, ?_⟩
  unfold Dev.sendBeacon
  extract_lets h sig lead d1
  rw [hbeacon]
  split <;> rfl

theorem Dev.sendXfer_keeps (d : Dev) (p plan bps n seg last : Nat) (x : Xfer) :
    ((d.sendXfer p plan bps n seg last x).lp p).tx = (d.lp p).tx ∧ (d.sendXfer p plan bps n seg last x).tim = d.tim := by
  refine ⟨?_, (Dev.sendXfer_evolves ..).keeps .tim (by decide)⟩
  unfold Dev.sendXfer
  extract_lets h nb d1
  have htx : (d1.lp p).tx = (d.lp p).tx := rfl
  clear_value d1 nb
  split
  · unfold Dev.updNb
    rw [Dev.lp_updLp]
    exact htx
  · exact htx

/-- What a started frame of a line port sends: the beacon, or what the transaction in progress carries. -/
def Dev.sendStarted (d : Dev) (p plan bps n seg last : Nat) (beacon : Bool) (cur : Option Xfer) : Dev :=
  if beacon then d.sendBeacon p plan bps n
  else match cur with
    | none => d
    | some x => d.sendXfer p plan bps n seg last x

theorem Dev.lineSend_eq {d e : Dev} {p : Nat} (hphase : (d.lp p).phase = .contend) (hcontends : d.contends p = some (plan, bps, bytes))
    (he : d.toMono (d.sendAt p plan) = e) (hgate : e.gateOpen = true) (hgov : e.govStarts p plan = true) {seg last n : Nat}
    (hseg : (e.lp p).segNext = seg) (hlast : (if plan = 2 then scSegments bytes bps - 1 else 0) = last)
    (hn : (if last = 0 then bytes else segBytes bytes bps seg) = n) :
    d.lineSend p = ((e.wrb F.LCP_STS_GATED p false).lineStart p plan (frameSymbols plan n bps) (e.psch p).beacon seg last).sendStarted
      p plan bps n seg last (e.psch p).beacon (e.curOf p) := by
  subst hn hlast hseg
  simp only [Dev.lineSend, hphase, hcontends, he, hgate, hgov, Bool.not_true, if_neg Bool.false_ne_true]
  rfl

theorem backoffExpiry_sends (hrun : s.dev.portRuns port = true) (hphase : (s.dev.lp port).phase = .contend)
    (hcontends : s.dev.contends port = some (plan, bps, bytes)) (hgate : s.dev.gateOpen = true)
    (hgov : (s.dev.toMono (s.dev.sendAt port plan)).govStarts port plan = true) :
    Does (.backoffExpiry port) s [.lcp, .regs, .tim, .evr, .out] (fun d => d.on F.LCP_STS_GATED port = false
      ∧ (d.lp port).tx = some
        { plan := plan, start := d.tim.mono, beacon := (s.dev.psch port).beacon, seg := (s.dev.lp port).segNext,
          segLast := if plan = 2 then scSegments bytes bps - 1 else 0,
          symbols := frameSymbols plan (if (if plan = 2 then scSegments bytes bps - 1 else 0) = 0 then bytes else segBytes bytes bps (s.dev.lp port).segNext) bps }) := by
  obtain ⟨d0, hd0⟩ : ∃ d0, s.dev.toMono (s.dev.sendAt port plan) = d0 := ⟨_, rfl⟩
  have htime : Evolves [.tim, .evr] s.dev d0 := hd0 ▸ Dev.toMono_evolves ..
  rw [hd0] at hgov
  have hgate0 : d0.gateOpen = true := (Dev.gateOpen_congr htime).trans hgate
  have hlp : d0.lp port = s.dev.lp port := Dev.lp_congr (htime.keeps .lcp (by decide)) port
  have hpsch : d0.psch port = s.dev.psch port := by
    unfold Dev.psch
    rw [htime.keeps .sch (by decide)]
  have hruns : Runs (.backoffExpiry port) s (s.dev.lineSend port) := by
    simp only [Runs, exec, execBackoffExpiry, State.go, State.withDev, hrun, if_true]
  refine .of hruns (Dev.lineSend_evolves ..).into ?_
  rw [Dev.lineSend_eq hphase hcontends hd0 hgate0 hgov rfl rfl rfl, hpsch, hlp]
  generalize (if plan = 2 then scSegments bytes bps - 1 else 0) = last
  generalize (if last = 0 then bytes else segBytes bytes bps (s.dev.lp port).segNext) = n
  generalize (s.dev.lp port).segNext = seg
  generalize (s.dev.psch port).beacon = beacon
  obtain ⟨d1, hd1⟩ : ∃ d1, (d0.wrb F.LCP_STS_GATED port false).lineStart port plan (frameSymbols plan n bps) beacon seg last = d1 := ⟨_, rfl⟩
  have hon : d1.on F.LCP_STS_GATED port = false := by
    rw [← hd1, (Dev.lineStart_evolves ..).quiet.on_fin F.LCP_STS_GATED port, Dev.on_wrb _ _ _ _ (by decide) rfl]
  have htx : (d1.lp port).tx = some { plan := plan, symbols := frameSymbols plan n bps, start := d0.tim.mono, beacon := beacon, seg := seg, segLast := last } := by
    have htim : (d0.wrb F.LCP_STS_GATED port false).tim = d0.tim := (Dev.wrb_evolves ..).keeps .tim (by decide)
    rw [← hd1, Dev.lineStart, Dev.lp_updLp, htim]
  have hstart : Evolves [.lcp, .regs] d0 d1 := hd1 ▸ (Dev.lineStart_evolves ..).after (Dev.wrb_evolves ..).mono
  have hmono : d1.tim.mono = d0.tim.mono := congrArg Tim.mono (hstart.keeps .tim (by decide))
  rw [hd1]
  clear hd1
  unfold Dev.sendStarted
  split
  · obtain ⟨hlp1, hmono1⟩ := d1.sendBeacon_keeps port plan bps n
    exact ⟨((Dev.sendBeacon_writes ..).on_fin F.LCP_STS_GATED port).trans hon, by rw [hlp1, hmono1, hmono]; exact htx⟩
  · split
    · exact ⟨hon, by rw [hmono]; exact htx⟩
    · next x _ =>
      obtain ⟨htx1, htim1⟩ := d1.sendXfer_keeps port plan bps n seg last x
      have hxfer := d1.sendXfer_evolves port plan bps n seg last x
      exact ⟨(hxfer.quiet.on_fin F.LCP_STS_GATED port).trans hon, by rw [htx1, htim1, hmono]; exact htx⟩

/-! ### The end of a frame -/

/-- Transmission and blanking of a line port. -/
def Lcp.txMark (l : Lcp) : Option LineTx × Option Nat := (l.tx, l.blankUntil)

theorem Dev.ready_txMark (d : Dev) (p plan : Nat) (hi polled : Bool) : ((d.ready p plan hi polled).lp p).txMark = (d.lp p).txMark := by
  unfold Dev.ready
  extract_lets n r
  rw [Dev.lp_updLp]
  rfl

theorem Dev.lineAfter_txMark (d : Dev) (p : Nat) (t : LineTx) (t4 : Nat) : ((d.lineAfter p t t4).lp p).txMark = (d.lp p).txMark := by
  unfold Dev.lineAfter
  split
  · extract_lets d1
    refine (congrArg Lcp.txMark (Dev.lp_congr ((Dev.setPsch_evolves ..).keeps .lcp (by decide)) p)).trans ?_
    unfold d1
    rw [Dev.lp_updLp]
    rfl
  · split
    · rw [Dev.lp_updLp]
      rfl
    · next x _ =>
      extract_lets left d1
      have h1 : (d1.lp p).txMark = (d.lp p).txMark := by
        unfold d1
        rw [Dev.lp_updLp]
        rfl
      split
      · rw [Dev.lp_updLp]
        rfl
      · split
        · split
          · rw [Dev.lp_congr ((Dev.castEnd_evolves ..).keeps .lcp (by decide)), h1]
          · rw [Dev.lp_congr (((Dev.castAgain_evolves ..).after (Dev.xferLeave_evolves ..).mono : Evolves [.regs, .sch] d1 _).keeps .lcp (by decide)), h1]
        · split
          · rw [Dev.lp_updLp]
            rfl
          · split
            · rw [Dev.ready_txMark, Dev.lp_congr ((Dev.setCur_evolves ..).keeps .lcp (by decide)), Dev.lp_updLp]
              rfl
            · rw [Dev.lp_updLp]
              rfl

theorem Dev.drvOpen_reports (d : Dev) (p : Nat) (t : LineTx) : Keeps (.lcp :: reportParts) d (d.drvOpen p t) ∧ ((d.drvOpen p t).lp p).txMark = (d.lp p).txMark := by
  unfold Dev.drvOpen
  extract_lets n d1
  have h1 : Evolves (.lcp :: reportParts) d d1 := (Dev.updLp_evolves ..).mono
  have hmark : (d1.lp p).txMark = (d.lp p).txMark := by
    unfold d1
    rw [Dev.lp_updLp]
    rfl
  clear_value d1
  split
  · have hrep := ((d1.wrb F.LCP_STS_DRV_OPEN p true).fault_reporting 0x0F1A 5 3 p false (by decide)).keeps
    have hwrb := d1.wrb_evolves F.LCP_STS_DRV_OPEN p true
    refine ⟨hrep.step (by decide) (hwrb.after h1).keeps, ?_⟩
    rw [Dev.lp_congr (hrep .lcp (by decide)), Dev.lp_congr (hwrb.keeps .lcp (by decide)), hmark]
  · exact ⟨h1.keeps, hmark⟩

theorem lineTxEnd_blanks {gain : Fin 8} {t : LineTx} (hrun : s.dev.portRuns port = true) (htx : (s.dev.lp port).tx = some t) :
    Does (.lineTxEnd port gain) s (.tim :: .lcp :: .sch :: .img :: linkParts) (fun d => (d.lp port).tx = none
      ∧ (d.lp port).blankUntil = some (s.dev.txLast port t + usC (s.dev.rd F.LCP_AFE_CFG_BLANK port))) := by
  have hruns : Runs (.lineTxEnd port gain) s (s.dev.lineTxEnd port gain) := by
    simp only [Runs, exec, execLineTxEnd, State.go, State.withDev, hrun, if_true]
  have hend : Keeps (.tim :: .lcp :: .sch :: .img :: linkParts) s.dev (s.dev.lineTxEnd port gain)
      ∧ ((s.dev.lineTxEnd port gain).lp port).txMark = (none, some (s.dev.txLast port t + usC (s.dev.rd F.LCP_AFE_CFG_BLANK port))) := by
    unfold Dev.lineTxEnd
    rw [htx]
    dsimp -zeta only
    extract_lets t4 d1 d2
    have h1 : Evolves [.tim, .evr] s.dev d1 := Dev.toMono_evolves ..
    have h2 : Evolves (.tim :: .lcp :: .sch :: .img :: linkParts) s.dev d2 :=
      (Dev.updLp_evolves ..).after <| (Dev.mediumBusy_evolves ..).after h1.mono
    have hmark2 : (d2.lp port).txMark = (none, some (t4 + usC (s.dev.rd F.LCP_AFE_CFG_BLANK port))) := by
      unfold d2
      rw [Dev.lp_updLp]
      rfl
    obtain ⟨hopen, hmark⟩ := (d2.wr F.LCP_GOV_STS_LAST_FRAME port (in10uJ t.energy)).drvOpen_reports port t
    have hwr : Evolves (.tim :: .lcp :: .sch :: .img :: linkParts) s.dev (d2.wr F.LCP_GOV_STS_LAST_FRAME port (in10uJ t.energy)) := (Dev.wr_evolves ..).after h2
    exact ⟨(Dev.lineAfter_evolves ..).keeps.step (by decide) (hopen.step (by decide) hwr.keeps),
      (Dev.lineAfter_txMark ..).trans (hmark.trans hmark2)⟩
  exact .of hruns hend.1 ⟨congrArg Prod.fst hend.2, congrArg Prod.snd hend.2⟩

theorem blankEnd_releases {t : Nat} (ht : (s.dev.lp port).blankUntil = some t) :
    Does (.blankEnd port) s [.lcp, .tim, .evr] (fun d => d.lp port = { s.dev.lp port with blanked := [], blankUntil := none }) := by
  have htime := s.dev.toMono_evolves t
  have hruns : Runs (.blankEnd port) s ((s.dev.toMono t).updLp port (fun l => { l with blanked := [], blankUntil := none })) := by
    simp only [Runs, exec, execBlankEnd, State.go, State.withDev, ht]
  refine .of hruns ((Dev.updLp_evolves ..).after htime.mono).keeps ?_
  rw [Dev.lp_updLp, Dev.lp_congr (htime.keeps .lcp (by decide))]

end

/-- Settles O34, one command after the other. -/
theorem linePortFrames : Obligations.LinePortFrames :=
  ⟨fun _ _ _ => lineFrameRx_good, fun _ _ _ => lineFrameRx_bad, fun _ _ => segmentTimeout_voids, fun _ _ _ _ _ => backoffExpiry_sends,
    fun _ _ _ _ _ => backoffExpiry_held, fun _ _ _ _ => lineTxEnd_blanks, fun _ _ _ => blankEnd_releases⟩

end Sys2Proof.Machine
end

section

-- one proof after the other: the check gives the text few threads
set_option Elab.async false

namespace Sys2Proof.Machine

/-! ## What the line ports' fuses and neighbours can write -/

theorem Dev.truncate_writes (d : Dev) (p : Nat) : Writes ([F.LCP_GOV_TRUNC_TRUNC, F.LCP_STS_TRUNC_SEEN] ++ eventFields) d (d.truncate p) := by
  unfold Dev.truncate
  split
  · exact .refl
  · rename_i y0 y1 y2
    split
    · exact .refl
    · extract_lets _ d1 d2
      have hd1 : Writes ([F.LCP_GOV_TRUNC_TRUNC, F.LCP_STS_TRUNC_SEEN] ++ eventFields) d d1 := (Writes.wrb ..).after <| (Writes.bump ..).after <| (Dev.updLp_evolves ..).quiet.mono
      have hd2 : Writes ([F.LCP_GOV_TRUNC_TRUNC, F.LCP_STS_TRUNC_SEEN] ++ eventFields) d d2 := .ite ((Dev.emit_evolves ..).quiet.after hd1) hd1
      exact .ite hd2 ((Dev.record_writes ..).after hd2)

theorem Dev.govCheck_writes (d : Dev) (p : Nat) : Writes ([F.LCP_GOV_TRUNC_TRUNC, F.LCP_STS_TRUNC_SEEN] ++ eventFields) d (d.govCheck p) := by
  unfold Dev.govCheck
  split
  · exact .ite ((Dev.truncate_writes ..).mono) .refl
  · exact .refl

end Sys2Proof.Machine
end

section

-- one proof after the other: the check gives the text few threads
set_option Elab.async false

namespace Sys2Proof.Machine

/-! ## O35: the transmit-energy governor -/

theorem Writes.word_fin {fs : List F} {d e : Dev} {n : Nat} (h : Writes fs d e) (g : F) (i : Fin n)
    (hg : ∀ i : Fin n, (fs.all fun f => !f.hits (g.at i)) = true := by decide +kernel) : e.word (g.at i) = d.word (g.at i) := h.word_eq _ (hg i)

/-- What the governor measures on a line port: the sample's number, the window, the energy of the frame in progress. -/
def Lcp.govMark (l : Lcp) : Nat × List (Nat × Nat) × Option Nat := (l.sample, l.win, l.tx.map (·.energy))

/-- A truncation leaves what was measured. -/
theorem Dev.truncate_govMark (d : Dev) (p : Nat) : ((d.truncate p).lp p).govMark = (d.lp p).govMark := by
  unfold Dev.truncate
  split
  · rfl
  · next t htx =>
    refine (congrArg (fun e => (Dev.lp e p).govMark) (apply_ite id ..)).trans ?_
    split
    · rfl
    · extract_lets hour d1 d2
      have h1 : (d1.lp p).govMark = (d.lp p).govMark := by
        have hlcp : d1.lcp = (d.updLp p (fun l => { l with tx := some { t with cut := some d.sampleNo }, truncAt := some hour, excused := true })).lcp :=
          ((Dev.wrb_evolves ..).after (Dev.bump_evolves ..).mono : Evolves [.regs] _ _).keeps .lcp (by decide)
        rw [Dev.lp_congr hlcp, Dev.lp_updLp]
        unfold Lcp.govMark
        rw [htx]
        rfl
      have hlast : Evolves reportParts d1 (if (d.lp p).truncAt = some hour then d2 else d2.record 0x0501 5 1 p (in10uJ t.energy) (in10uJ (d.eWin p))) := by
        have h2 : Evolves reportParts d1 d2 := .ite (Dev.emit_evolves ..).mono .refl
        exact .ite h2 ((Dev.record_evolves ..).after h2)
      rw [← h1]
      exact congrArg Lcp.govMark (Dev.lp_congr (hlast.keeps .lcp (by decide)) p)

theorem Dev.govCheck_govMark (d : Dev) (p : Nat) : ((d.govCheck p).lp p).govMark = (d.lp p).govMark := by
  unfold Dev.govCheck
  split
  · split
    · exact d.truncate_govMark p
    · rfl
  · rfl

section
variable {s : State} {port : Fin 2}

theorem govSample_samples {v i : BitVec 14} (hlive : s.dev.live = true) (habs : absentOff s.dev.grade (F.LCP_STS_STATE.at port) = false)
    (hends : ∀ t, (s.dev.lp port).tx = some t → 125 * max ((s.dev.lp port).sample + 1) s.dev.sampleNo ≤ s.dev.txDown port t) :
    Does (.govSample port v i) s (.lcp :: .tim :: reportParts) (fun d =>
      (d.lp port).sample = max ((s.dev.lp port).sample + 1) s.dev.sampleNo
        ∧ (d.lp port).win = (if s.dev.samplePower port v.toNat i.toNat = 0 then []
              else [(max ((s.dev.lp port).sample + 1) s.dev.sampleNo, s.dev.samplePower port v.toNat i.toNat)])
            ++ (s.dev.lp port).win.filter (fun e => decide (max ((s.dev.lp port).sample + 1) s.dev.sampleNo < e.1 + 40000))
        ∧ (d.lp port).tx.map (·.energy) = (s.dev.lp port).tx.map (fun t => t.energy + s.dev.samplePower port v.toNat i.toNat)) := by
  have hruns : Runs (.govSample port v i) s (s.dev.govSample port v.toNat i.toNat) := by
    simp only [Runs, exec, execGovSample, State.go, State.withDev, hlive, habs, Bool.not_false, Bool.and_self, if_true]
  have hopen (n : Nat) (hn : max ((s.dev.lp port).sample + 1) s.dev.sampleNo = n) : s.dev.closeBy port n = s.dev := by
    unfold Dev.closeBy
    split
    · next t htx =>
      have := hends t htx
      rw [if_neg (by omega)]
    · rfl
  have hpost : Keeps (.lcp :: .tim :: reportParts) s.dev (s.dev.govSample port v.toNat i.toNat) ∧ ((s.dev.govSample port v.toNat i.toNat).lp port).govMark =
      (max ((s.dev.lp port).sample + 1) s.dev.sampleNo,
        (if s.dev.samplePower port v.toNat i.toNat = 0 then []
              else [(max ((s.dev.lp port).sample + 1) s.dev.sampleNo, s.dev.samplePower port v.toNat i.toNat)])
            ++ (s.dev.lp port).win.filter (fun e => decide (max ((s.dev.lp port).sample + 1) s.dev.sampleNo < e.1 + 40000)),
        (s.dev.lp port).tx.map (fun t => t.energy + s.dev.samplePower port v.toNat i.toNat)) := by
    unfold Dev.govSample
    extract_lets n d1 w mid
    have h1 : Evolves [.tim, .evr] s.dev d1 := by
      unfold d1
      rw [hopen n rfl]
      exact Dev.toMono_evolves ..
    have hw : s.dev.samplePower port v.toNat i.toNat = w := by
      unfold w Dev.samplePower
      rw [Dev.rd_congr (h1.keeps .regs (by decide)) (h1.keeps .grade (by decide)), Dev.rd_congr (h1.keeps .regs (by decide)) (h1.keeps .grade (by decide))]
    refine ⟨((Dev.govCheck_evolves ..).after <| (Dev.updLp_evolves ..).after h1.mono).keeps, ?_⟩
    rw [Dev.govCheck_govMark, Dev.lp_updLp, Dev.lp_congr (h1.keeps .lcp (by decide)), hw]
    unfold Lcp.govMark
    rw [Option.map_map]
    rfl
  obtain ⟨hkeeps, hmark⟩ := hpost
  exact .of hruns hkeeps ⟨congrArg Prod.fst hmark, congrArg (·.2.1) hmark, congrArg (·.2.2) hmark⟩

theorem govCapWrite_writes {val : Word} (hlive : s.dev.live = true) :
    Does (.govCapWrite port val) s (.lcp :: .dirty :: reportParts) (fun d => d.word (F.LCP_GOV_CAP_WIN_CAP.at port)
      = (s.dev.plainWrite (F.LCP_GOV_CAP_WIN_CAP.at port) val.toNat).word (F.LCP_GOV_CAP_WIN_CAP.at port)) := by
  have hruns : Runs (.govCapWrite port val) s ((s.dev.plainWrite (F.LCP_GOV_CAP_WIN_CAP.at port) val.toNat).govCheck port) := by
    simp only [Runs, exec, execGovCapWrite, State.go, State.withDev, hlive, if_true]
  exact .of hruns ((Dev.govCheck_evolves ..).after (Dev.plainWrite_evolves ..).mono).keeps ((Dev.govCheck_writes ..).word_fin F.LCP_GOV_CAP_WIN_CAP port)

section
variable {val : Word} (hlive : s.dev.live = true) (hgo : F.LCP_GOV_PROG_GO.get val.toNat ≠ 0) (habs : absentOff s.dev.grade (F.LCP_GOV_PROG_GO.at port) = false)
include hlive hgo habs

theorem govFuseGo_starts (hok : s.dev.fuseRefused port val.toNat = none) :
    Does (.govFuseGo port val) s [.lcp, .regs] (fun d => (d.lp port).fuseUntil = some (s.dev.tim.mono + 10000000) ∧ d.on F.LCP_STS_FUSING port = true
      ∧ KeepsRegs [F.LCP_STS_FUSING.at port] s.dev d) := by
  obtain ⟨t, ht⟩ : ∃ t, s.dev.tim.mono + 10000000 = t := ⟨_, rfl⟩
  have hruns : Runs (.govFuseGo port val) s ((s.dev.wrb F.LCP_STS_FUSING port true).updLp port (fun l => { l with fuseUntil := some t })) := by
    simp only [Runs, exec, execGovFuseGo, State.go, State.withDev, Dev.fuseGo, hlive, hgo, habs, hok, ← ht, Bool.not_true, decide_false, Bool.or_self, if_neg Bool.false_ne_true]
  rw [ht]
  have hupd := (s.dev.wrb F.LCP_STS_FUSING port true).updLp_evolves port (fun l => { l with fuseUntil := some t })
  refine .of hruns (hupd.after (Dev.wrb_evolves ..).mono).keeps ⟨by rw [Dev.lp_updLp], ?_, keepsRegs_wrb.trans hupd.keeps.keepsRegs⟩
  rw [hupd.quiet.on_fin F.LCP_STS_FUSING port, Dev.on_wrb _ _ _ _ (by decide) rfl]

theorem govFuseGo_refused {why : Nat} (hno : s.dev.fuseRefused port val.toNat = some why) : Runs (.govFuseGo port val) s (s.dev.record 0x0503 5 1 port why) := by
  simp only [Runs, exec, execGovFuseGo, State.go, State.withDev, Dev.fuseGo, hlive, hgo, habs, hno, Bool.not_true, decide_false, Bool.or_self, if_neg Bool.false_ne_true]

end

theorem govFuseDone_fuses (hfusing : (s.dev.lp port).fuseUntil.isSome = true) (hfree : s.die.gov.find port = none) :
    DoesDie (.govFuseDone port) s { s.die with gov := s.die.gov.put port (max 1 (s.dev.rd F.LCP_GOV_FUSE_WIN port), max 1 (s.dev.rd F.LCP_GOV_FUSE_FRAME port)) }
      (.lcp :: reportParts) (fun d => d.on F.LCP_STS_OTP_FUSED port = true ∧ d.on F.LCP_STS_FUSING port = false
        ∧ d.rd F.LCP_GOV_OTP_WIN_HARD port = max 1 (s.dev.rd F.LCP_GOV_FUSE_WIN port)
        ∧ d.rd F.LCP_GOV_OTP_FRAME_HARD port = max 1 (s.dev.rd F.LCP_GOV_FUSE_FRAME port)) := by
  refine ⟨s.dev.fuseDone port (s.dev.fuseValues port), ?_, (Dev.fuseDone_evolves ..).keeps, ?_⟩
  · show execGovFuseDone port s = _
    unfold execGovFuseDone
    rw [if_pos ⟨hfusing, by rw [hfree]; rfl⟩]
    rfl
  · have hwin : max 1 (s.dev.rd F.LCP_GOV_FUSE_WIN port) < 2 ^ 16 := by
      have : s.dev.rd F.LCP_GOV_FUSE_WIN port < 2 ^ 16 := Dev.rd_lt ..
      omega
    have hframe : max 1 (s.dev.rd F.LCP_GOV_FUSE_FRAME port) < 2 ^ 16 := by
      have : s.dev.rd F.LCP_GOV_FUSE_FRAME port < 2 ^ 16 := Dev.rd_lt ..
      omega
    unfold Dev.fuseDone Dev.fuseValues
    dsimp -zeta only
    generalize max 1 (s.dev.rd F.LCP_GOV_FUSE_WIN port) = win at *
    generalize max 1 (s.dev.rd F.LCP_GOV_FUSE_FRAME port) = frame at *
    extract_lets d1 d2
    have hrec : Writes eventFields d2 (d2.record 0x0502 5 0 port win frame) := Dev.record_writes ..
    have hfused : Writes [F.LCP_GOV_OTP_WIN_HARD, F.LCP_GOV_OTP_FRAME_HARD] (d1.wrb F.LCP_STS_OTP_FUSED port true) d2 := (Writes.wr ..).after (Writes.wr ..).mono
    refine ⟨?_, ?_, ?_, ?_⟩
    · rw [hrec.on_fin F.LCP_STS_OTP_FUSED port, hfused.on_fin F.LCP_STS_OTP_FUSED port, Dev.on_wrb _ _ _ _ (by decide) rfl]
    · rw [hrec.on_fin F.LCP_STS_FUSING port, hfused.on_fin F.LCP_STS_FUSING port, (Writes.wrb F.LCP_STS_OTP_FUSED ..).on_fin F.LCP_STS_FUSING port,
        Dev.on_wrb _ _ _ _ (by decide) rfl]
    · rw [hrec.rd_fin F.LCP_GOV_OTP_WIN_HARD port, (Writes.wr F.LCP_GOV_OTP_FRAME_HARD ..).rd_fin F.LCP_GOV_OTP_WIN_HARD port, Dev.rd_wr _ _ _ _ (by decide)]
      exact Nat.mod_eq_of_lt hwin
    · rw [hrec.rd_fin F.LCP_GOV_OTP_FRAME_HARD port, Dev.rd_wr _ _ _ _ (by decide)]
      exact Nat.mod_eq_of_lt hframe

theorem lcpCounterClear_clears {counter : Fin 12} {val : Word} (hlive : s.dev.live = true) :
    Does (.lcpCounterClear port counter val) s [.regs] (fun d => d.word (lcpCounters.getD counter.val 0 + 0x8000 * port.val) = 0
      ∧ KeepsRegs [lcpCounters.getD counter.val 0 + 0x8000 * port.val] s.dev d) := by
  have hruns : Runs (.lcpCounterClear port counter val) s (s.dev.setWord (lcpCounters.getD counter.val 0 + 0x8000 * port.val) 0) := by
    simp only [Runs, exec, execLcpCounterClear, State.go, State.withDev, hlive, if_true]
  exact .of hruns (Dev.setWord_evolves ..).keeps ⟨by rw [Dev.word_setWord, Nat.zero_mod], keepsRegs_setWord⟩

end

/-- Settles O35, one command after the other. -/
theorem governor : Obligations.Governor :=
  ⟨fun _ _ _ _ => govSample_samples, fun _ _ _ => govCapWrite_writes, fun _ _ _ => govFuseGo_starts, fun _ _ _ _ hlive hgo habs => govFuseGo_refused hlive hgo habs,
    fun _ _ => govFuseDone_fuses, fun _ _ _ _ => lcpCounterClear_clears⟩

end Sys2Proof.Machine
end

section

-- one proof after the other: the check gives the text few threads
set_option Elab.async false

namespace Sys2Proof.Machine

/-! ## O36: neighbours, mains crossings and polling windows of a line port -/

section
variable {s : State} {port : Fin 2}

theorem Dev.lp_updNb_nbs {d : Dev} {p i : Nat} {n : Nb} (h : (d.lp p).nbs.find i = some n) (f : Nb → Nb) :
    ((d.updNb p i f).lp p).nbs = (d.lp p).nbs.put i (f n) := by
  unfold Dev.updNb
  rw [Dev.lp_updLp]
  unfold Tab.upd
  rw [h]

/-- A command that changes one neighbour of a port at the instant that `e` has reached. -/
theorem Does.of_updNb {c : Instr} {e : Dev} {i : Nat} {n : Nb} {f : Nb → Nb} (hfind : (s.dev.lp port).nbs.find i = some n)
    (htime : Evolves [.tim, .evr] s.dev e) (hruns : Runs c s (e.updNb port i f)) :
    Does c s [.lcp, .tim, .evr] (fun d => (d.lp port).nbs = (s.dev.lp port).nbs.put i (f n)) := by
  have hlp := Dev.lp_congr (htime.keeps .lcp (by decide)) port
  refine .of hruns ((Dev.updNb_evolves ..).after htime.mono).keeps ?_
  rw [Dev.lp_updNb_nbs (hlp ▸ hfind), hlp]

section
variable {nb : Fin 2048} {n : Nb} (hlive : s.dev.live = true) (hfind : (s.dev.lp port).nbs.find nb = some n)
include hlive hfind

theorem tmRefreshDue_asks : Does (.tmRefreshDue port nb) s [.lcp, .tim, .evr] (fun d => (d.lp port).nbs = (s.dev.lp port).nbs.put nb { n with reqDue := true }) := by
  obtain htm | ⟨t, htm⟩ := Option.eq_none_or_eq_some n.lastTm
  · exact .of_updNb (c := .tmRefreshDue port nb) (f := fun n => { n with reqDue := true }) hfind .refl (by simp only [Runs, exec, execTmRefreshDue, State.go, State.withDev, hlive, hfind, htm])
  · exact .of_updNb (c := .tmRefreshDue port nb) (f := fun n => { n with reqDue := true }) hfind (s.dev.toNs_evolves ((t + s.dev.rd F.LCP_TM_REFRESH_PERIOD port) * 1000000000))
      (by simp only [Runs, exec, execTmRefreshDue, State.go, State.withDev, hlive, hfind, htm])

theorem tmTtlExpiry_voids : Does (.tmTtlExpiry port nb) s [.lcp, .tim, .evr]
    (fun d => (d.lp port).nbs = (s.dev.lp port).nbs.put nb { n with txValid := false, reqDue := true }) := by
  obtain htm | ⟨t, htm⟩ := Option.eq_none_or_eq_some n.lastTm
  · exact .of_updNb (c := .tmTtlExpiry port nb) (f := fun n => { n with txValid := false, reqDue := true }) hfind .refl (by simp only [Runs, exec, execTmTtlExpiry, State.go, State.withDev, hlive, hfind, htm])
  · exact .of_updNb (c := .tmTtlExpiry port nb) (f := fun n => { n with txValid := false, reqDue := true }) hfind (s.dev.toNs_evolves ((t + s.dev.rd F.LCP_TM_REFRESH_TTL port) * 1000000000))
      (by simp only [Runs, exec, execTmTtlExpiry, State.go, State.withDev, hlive, hfind, htm])

theorem neighbourAgeExpiry_stales : Does (.neighbourAgeExpiry port nb) s [.lcp, .tim, .evr]
    (fun d => (d.lp port).nbs = (s.dev.lp port).nbs.put nb { n with stale := true }) :=
  .of_updNb (c := .neighbourAgeExpiry port nb) (f := fun n => { n with stale := true }) hfind (s.dev.toNs_evolves ((n.lastHeard + 60 * s.dev.lcf F.LCP_MESH_CFG_NB_AGE port) * 1000000000))
    (by simp only [Runs, exec, execNeighbourAgeExpiry, State.go, State.withDev, hlive, hfind])

end

theorem getD_map_zipIdx {α : Type} {l : List α} {k : Nat} (h : k < l.length) (f : α × Nat → α) (x : α) : (l.zipIdx.map f).getD k x = f (l.getD k x, k) := by
  simp [List.getD_eq_getElem?_getD, h]

theorem zeroCrossEdge_joins {phase : Fin 3} {rising : Bool} (hrun : s.dev.portRuns port = true) (hen : bitAt (s.dev.rd F.LCP_ZC_CFG_EN port) phase = true)
    (hedge : rising = !bitAt (s.dev.rd F.LCP_ZC_CFG_POL port) phase) (hlen : (s.dev.lp port).zc.length = 3) :
    Does (.zeroCrossEdge port (phase, rising)) s [.lcp] (fun d => (d.lp port).zc.getD phase []
      = ((s.dev.nowNs - 1000 * s.dev.rd F.LCP_ZC_CFG_DEBOUNCE port) :: (s.dev.lp port).zc.getD phase []).take 65) := by
  have hruns : Runs (.zeroCrossEdge port (phase, rising)) s (s.dev.zeroCross port phase rising) := rfl
  refine .of hruns (Dev.zeroCross_evolves ..).into ?_
  unfold Dev.zeroCross
  rw [if_neg (by rw [hrun, hen, hedge]; cases bitAt (s.dev.rd F.LCP_ZC_CFG_POL port) phase <;> decide)]
  dsimp only
  rw [Dev.lp_updLp]
  exact (getD_map_zipIdx (by rw [hlen]; exact phase.isLt) ..).trans (if_pos rfl)

/-- The counts of a line port's polling window. -/
def Lcp.winMark (l : Lcp) : Nat × Nat × Nat := (l.winEx, l.winFail, l.winStart)

theorem portPollWindow_restarts (hrun : s.dev.portRuns port = true) (hbow : s.dev.isBow = false) (hfail : (s.dev.lp port).winFail ≤ (s.dev.lp port).winEx) :
    Does (.portPollWindow port) s (.lcp :: .tim :: reportParts) (fun d => (d.lp port).winEx = 0 ∧ (d.lp port).winFail = 0 ∧ (d.lp port).winStart = d.tim.mono
      ∧ d.rd F.LCP_MAC_STS_FAIL_PCT port = (if (s.dev.lp port).winEx = 0 then 0 else 100 * (s.dev.lp port).winFail / (s.dev.lp port).winEx)) := by
  have hruns : Runs (.portPollWindow port) s (s.dev.pollWindow port) := by
    simp only [Runs, exec, execPortPollWindow, State.go, State.withDev, hrun, hbow, Bool.not_false, Bool.and_self, if_true]
  have hpct : (if (s.dev.lp port).winEx = 0 then 0 else 100 * (s.dev.lp port).winFail / (s.dev.lp port).winEx) < 128 := by
    split
    · decide
    · have : 100 * (s.dev.lp port).winFail / (s.dev.lp port).winEx ≤ 100 := Nat.div_le_of_le_mul (by rw [Nat.mul_comm]; exact Nat.mul_le_mul_right _ hfail)
      omega
  refine .of hruns (Dev.pollWindow_evolves ..).into ?_
  unfold Dev.pollWindow
  extract_lets d l pct inPoll good d1
  have htime : Evolves [.tim, .evr] s.dev d := Dev.toMono_evolves ..
  have hl : l = s.dev.lp port := Dev.lp_congr (htime.keeps .lcp (by decide)) port
  have hwr : Evolves [.lcp, .regs] d d1 := (Dev.wr_evolves ..).after (Dev.setLp_evolves ..).mono
  have h1 : (d1.lp port).winMark = (0, 0, d1.tim.mono) ∧ d1.rd F.LCP_MAC_STS_FAIL_PCT port = pct := by
    have hset : Evolves [.regs] (d.setLp port { l with winEx := 0, winFail := 0, winStart := d.tim.mono, goodWins := if inPoll then good else 0 }) d1 := Dev.wr_evolves ..
    refine ⟨?_, (Dev.rd_wr _ _ _ _ (by decide)).trans (Nat.mod_eq_of_lt ?_)⟩
    · rw [Dev.lp_congr (hset.keeps .lcp (by decide)), Dev.lp_setLp, hwr.keeps .tim (by decide)]
      rfl
    · unfold pct
      rw [hl]
      exact hpct
  have hlast (x : Dev) (b : Bool) (code : Nat) (hx : Evolves [.lcp] d1 x) (hmark : (x.lp port).winMark = (d1.lp port).winMark) :
      (((x.wrb F.LCP_MAC_STS_PORT_POLL port b).record code 5 0 port pct).lp port).winMark = (0, 0, ((x.wrb F.LCP_MAC_STS_PORT_POLL port b).record code 5 0 port pct).tim.mono)
        ∧ ((x.wrb F.LCP_MAC_STS_PORT_POLL port b).record code 5 0 port pct).rd F.LCP_MAC_STS_FAIL_PCT port = pct := by
    have hrec : Evolves reportParts x ((x.wrb F.LCP_MAC_STS_PORT_POLL port b).record code 5 0 port pct) := (Dev.record_evolves ..).after (Dev.wrb_evolves ..).mono
    have hw : Writes ([F.LCP_MAC_STS_PORT_POLL] ++ eventFields) d1 ((x.wrb F.LCP_MAC_STS_PORT_POLL port b).record code 5 0 port pct) :=
      (Dev.record_writes ..).after <| (Writes.wrb ..).after (hx.quiet.mono)
    refine ⟨?_, (hw.rd_fin F.LCP_MAC_STS_FAIL_PCT port).trans h1.2⟩
    rw [Dev.lp_congr (hrec.keeps .lcp (by decide)), hmark, h1.1, hrec.keeps .tim (by decide), hx.keeps .tim (by decide)]
  have hpost : ∀ e : Dev, (e.lp port).winMark = (0, 0, e.tim.mono) ∧ e.rd F.LCP_MAC_STS_FAIL_PCT port = pct → (e.lp port).winEx = 0 ∧ (e.lp port).winFail = 0
      ∧ (e.lp port).winStart = e.tim.mono ∧ e.rd F.LCP_MAC_STS_FAIL_PCT port = (if (s.dev.lp port).winEx = 0 then 0 else 100 * (s.dev.lp port).winFail / (s.dev.lp port).winEx) := by
    intro e he
    rw [← hl]
    exact ⟨congrArg Prod.fst he.1, congrArg (·.2.1) he.1, congrArg (·.2.2) he.1, he.2⟩
  split
  · exact hpost _ (hlast d1 true 0x0510 .refl rfl)
  · split
    · refine hpost _ (hlast _ false 0x0511 (Dev.updLp_evolves ..) ?_)
      rw [Dev.lp_updLp]
      rfl
    · exact hpost _ h1

theorem nbSnapshotRead_copies {n : Nb} (hlive : s.dev.live = true) (hfind : (s.dev.lp port).nbs.find (s.dev.rd F.LCP_NB_SEL_INDEX port) = some n) :
    Does (.nbSnapshotRead port false) s [.lcp, .out] (fun d => d.lp port = { s.dev.lp port with nbCopy := toWords (s.dev.nbBytes port n) }
      ∧ d.out = .readData ((toWords (s.dev.nbBytes port n)).getD 0 0).toNat :: s.dev.out) := by
  obtain ⟨w, hw⟩ : ∃ w, toWords (s.dev.nbBytes port n) = w := ⟨_, rfl⟩
  have hruns : Runs (.nbSnapshotRead port false) s ((s.dev.setLp port { s.dev.lp port with nbCopy := w }).emit (.readData (w.getD 0 0).toNat)) := by
    simp only [Runs, exec, execNbSnapshotRead, State.go, State.withDev, hlive, if_true, Dev.nbSnapshot, if_neg Bool.false_ne_true, hfind, hw]
  rw [hw]
  exact .of hruns ((Dev.emit_evolves ..).after (Dev.setLp_evolves ..).mono).keeps ⟨Dev.lp_setLp .., rfl⟩

theorem nbSnapshotRead_copiesRoute {r : Route} (hlive : s.dev.live = true) (hfind : (s.dev.lp port).routes.find (s.dev.rd F.LCP_RT_SEL_MIX port) = some r) :
    Does (.nbSnapshotRead port true) s [.lcp, .out] (fun d => d.lp port = { s.dev.lp port with rtCopy := toWords (r.bytes (s.dev.rd F.LCP_RT_SEL_MIX port)) }
      ∧ d.out = .readData ((toWords (r.bytes (s.dev.rd F.LCP_RT_SEL_MIX port))).getD 0 0).toNat :: s.dev.out) := by
  obtain ⟨w, hw⟩ : ∃ w, toWords (r.bytes (s.dev.rd F.LCP_RT_SEL_MIX port)) = w := ⟨_, rfl⟩
  have hruns : Runs (.nbSnapshotRead port true) s ((s.dev.setLp port { s.dev.lp port with rtCopy := w }).emit (.readData (w.getD 0 0).toNat)) := by
    simp only [Runs, exec, execNbSnapshotRead, State.go, State.withDev, hlive, if_true, Dev.nbSnapshot, hfind, hw]
  rw [hw]
  exact .of hruns ((Dev.emit_evolves ..).after (Dev.setLp_evolves ..).mono).keeps ⟨Dev.lp_setLp .., rfl⟩

end

/-- Settles O36, one command after the other. -/
theorem lineNeighboursAndWindows : Obligations.LineNeighboursAndWindows :=
  ⟨fun _ _ _ _ => tmRefreshDue_asks, fun _ _ _ _ => tmTtlExpiry_voids, fun _ _ _ _ => neighbourAgeExpiry_stales, fun _ _ _ _ => zeroCrossEdge_joins,
    fun _ _ => portPollWindow_restarts, fun _ _ _ => nbSnapshotRead_copies, fun _ _ _ => nbSnapshotRead_copiesRoute⟩

end Sys2Proof.Machine
end

section

-- one proof after the other: the check gives the text few threads
set_option Elab.async false

namespace Sys2Proof.Machine

/-! ## O37: MET_TRIM_GAIN_WRITE and a pending value -/

/-- Channel 0 is OFF; a gain was written while it was ON and has not come into force. -/
def gainPending : State := .booted fun d => d.setMch 0 { pendGain := some 5 }

/-- The write of a gain drops the pending one. -/
theorem gainPending_dropped : ((gainPending.devAfter (.metTrimGainWrite 0 true 7)).mch 0).pendGain = none := by decide +kernel

/-- A plain write of the register leaves it. -/
theorem gainPending_plainWrite : ((gainPending.dev.plainWrite (F.MET_CH_GAIN_GAIN.at 0) 7).mch 0).pendGain = some 5 := by decide +kernel

/-- Refutes O37 in its clause on MET_TRIM_GAIN_WRITE while the channel is OFF: the value comes into force at once, but the command is more
than a plain write of the register, as it drops a value that was pending from before. -/
theorem not_catchChain : ¬ Obligations.CatchChain := by
  unfold Obligations.CatchChain
  rintro ⟨-, -, hgain, -⟩
  have hruns := hgain gainPending 0 true 7 (by decide +kernel) (by decide +kernel)
  have hdropped := gainPending_dropped
  rw [hruns.devAfter_eq] at hdropped
  exact absurd (gainPending_plainWrite.symm.trans hdropped) (by decide)

end Sys2Proof.Machine

end

section

-- one proof after the other: the check gives the text few threads
set_option Elab.async false

namespace Sys2Proof.Machine

/-! ## The pair unit -/

/-! ### Frames that are taken -/

/-- The device after a keyed frame is taken: the window of counts and the cells that are free again. -/
def Dev.tookFrame (d : Dev) (w : SeqWin) (n : Nat) : Dev := { d with par := { d.par with win := w, freed := n } }

theorem Dev.tookFrame_evolves (d : Dev) (w : SeqWin) (n : Nat) : Evolves [.par] d (d.tookFrame w n) := Evolves.par.mono

theorem Dev.pairTake_eq {d : Dev} {h : PairHdr} {b : PairBody} (htake : (d.pairTake h b).1 = true) : ∃ w n, (d.pairTake h b).2 = d.tookFrame w n := by
  unfold Dev.pairTake at htake ⊢
  split
  · simp_all
  · split
    · simp_all
    · split
      · simp_all
      · exact ⟨_, _, rfl⟩

/-- A command of a keyed frame that is taken: what it does, it does to the device that took the frame. -/
theorem Runs.of_taken {c : Instr} {s : State} {hdr : PairHdr} {b : PairBody} {f : Dev → Dev} (htake : (s.dev.pairTake hdr b).1 = true)
    (hexec : exec c s = s.go fun d => d.onPair hdr b f) :
    ∃ e w n, Evolves [.par] s.dev e ∧ e.par = { s.dev.par with win := w, freed := n } ∧ Runs c s (f e) := by
  obtain ⟨w, n, heq⟩ := Dev.pairTake_eq htake
  refine ⟨s.dev.tookFrame w n, w, n, Dev.tookFrame_evolves .., rfl, hexec.trans ?_⟩
  have hf : s.dev.onPair hdr b f = f (s.dev.tookFrame w n) := heq ▸ if_pos htake
  exact congrArg (fun d => Host.Outcome.next (s.withDev d)) hf

/-! ### Roles -/

/-- What a device says of its role: role, claim, whether it was stroke, READY. -/
def Par.roleMark (x : Par) : Role × Bool × Bool × Bool := (x.role, x.claim, x.wasStroke, x.ready)

theorem Par.of_roleMark {x : Par} {r : Role} {claim was ready : Bool} (h : x.roleMark = (r, claim, was, ready)) :
    x.role = r ∧ x.claim = claim ∧ x.wasStroke = was ∧ x.ready = ready := by
  unfold Par.roleMark at h
  simpa using h

theorem Par.roleMark_heartbeats (x : Par) (a : Option Nat) (b : Nat) : ({ x with lastHb := a, hbDue := b } : Par).roleMark = x.roleMark := rfl

/-- The parts that the start of a function beside line ports and radio ports can change. -/
def startParts : List Part := [.fn, .met, .eth] ++ reportParts

theorem Dev.fnStart_other (d : Dev) {fix : Nat} (h : 6 ≤ fix) : Evolves startParts d (d.fnStart fix) := by
  unfold Dev.fnStart
  refine .ite .refl ?_
  have h1 : Evolves startParts d (d.setFn fix { st := .starting, since := d.tim.mono }) := (Dev.setFn_evolves ..).mono
  extract_lets d1
  rw [if_neg (by omega), if_neg (by omega)]
  refine .ite ((Dev.setEp_evolves ..).after h1) <| .ite h1 <| .ite ((Dev.cmStart_evolves ..).after h1) <| .ite h1 <| .ite ?_ ((Dev.pairFresh_evolves ..).after h1)
  have h2 : Evolves startParts d (d1.setMch (fix - 19) (d1.chFresh (fix - 19))) := (Dev.setMch_evolves ..).after h1
  exact .ite ((Dev.mxTake_evolves ..).after h2) h2

theorem Dev.autoStart_other (d : Dev) {fixes : List Nat} (h : ∀ f ∈ fixes, 6 ≤ f) : Evolves startParts d (d.autoStart fixes) := by
  unfold Dev.autoStart
  induction fixes generalizing d with
  | nil => exact .refl
  | cons f t ih =>
    refine Evolves.trans ?_ (ih _ fun x hx => h x (List.mem_cons_of_mem f hx))
    refine .ite ?_ .refl
    refine Evolves.trans ?_ (Dev.fnStart_other _ (h f (List.mem_cons_self ..)))
    split
    · exact (Dev.wrb_evolves ..).mono
    · exact .refl

/-- The end of step c starts Ethernet ports, channels and check meters: no part of it concerns the pair. -/
theorem Dev.stepCEnd_other (d : Dev) : Evolves (.glb :: startParts) d d.stepCEnd := by
  have hfixes : ∀ f ∈ (List.range 4).map (· + 6) ++ (List.range 24).map (· + 19) ++ (List.range 4).map (· + 14), 6 ≤ f := by decide
  have hdone (x : Dev) (h : Evolves [.regs] d x) (c : Bool) : Evolves (.glb :: startParts) d ({ x with glb := { x.glb with stepC := c } } : Dev) :=
    (Evolves.glb.after h.mono : Evolves [.glb, .regs] _ _).mono
  unfold Dev.stepCEnd
  exact .ite .refl ((Dev.autoStart_other _ hfixes).after (hdone _ (Dev.stepDone_evolves ..) true))

theorem Dev.becomeStroke_roleMark (d : Dev) : d.becomeStroke.par.roleMark = (.stroke, true, true, false) := by
  unfold Dev.becomeStroke
  extract_lets d1 _ d2
  have hlast : Evolves [.regs, .tim, .rng, .lne, .evr, .flt, .ctx, .tar, .sec, .sch, .lcp, .cals, .ldg, .met, .eth, .fl, .freeCtr, .out] d2 d2.protect.adopt :=
    (Dev.adopt_evolves ..).after (Dev.protect_evolves ..).mono
  rw [hlast.keeps .par (by decide)]
  rfl

theorem Dev.becomeBow_roleMark (d : Dev) : d.becomeBow.par.roleMark = (.bow, false, false, false) := by
  unfold Dev.becomeBow
  extract_lets d0 d1
  have hrest : Evolves (.tim :: .ctx :: .sch :: .lcp :: .rad :: .eth :: reportParts) d.dropClaim d1 := by
    refine .foldl (fun x a => (Dev.bowEth_evolves ..).mono) ?_
    refine (Dev.bowCounts_evolves ..).after ?_
    refine .foldl (fun x a => (Dev.bowRad_evolves ..).mono) ?_
    exact .foldl (fun x a => (Dev.bowLine_evolves ..).mono) (Dev.dropDescs_evolves ..).mono
  have hclaim : d1.par.claim = false := congrArg Par.claim (hrest.keeps .par (by decide))
  rw [(Dev.bmca_evolves ..).keeps .par (by decide)]
  unfold Par.roleMark
  rw [hclaim]

theorem Dev.arbEnd_true_roleMark (d : Dev) : (d.arbEnd true).par.roleMark = (.stroke, true, true, false) := by
  unfold Dev.arbEnd
  rw [(Dev.stepCEnd_other ..).keeps .par (by decide), Par.roleMark_heartbeats, if_pos rfl, Dev.becomeStroke_roleMark]

theorem Dev.arbEnd_false_roleMark (d : Dev) : (d.arbEnd false).par.roleMark = (.bow, false, false, false) := by
  unfold Dev.arbEnd
  rw [(Dev.stepCEnd_other ..).keeps .par (by decide), Par.roleMark_heartbeats, if_neg Bool.false_ne_true, Dev.becomeBow_roleMark]

theorem Dev.takeover_roleMark {d : Dev} (h : d.mayClaim = true) (cause : Nat) : (d.takeover cause).par.roleMark = (.stroke, true, true, false) := by
  unfold Dev.takeover
  rw [if_neg (by rw [h]; decide)]
  extract_lets d1
  have h1 : Evolves [.regs] (d.swapDesc 0x16 3).becomeStroke d1 := Dev.bump_evolves ..
  rw [(Dev.recordPost_evolves ..).keeps .par (by decide), h1.keeps .par (by decide)]
  exact Dev.becomeStroke_roleMark _

/-! ### What a frame to the partner leaves -/

/-- Between two devices the pair unit has at most sent: credits and the transmit count apart, it is as it was. -/
structure KeepsPair (d e : Dev) : Prop where
  par : e.par = { d.par with credit := e.par.credit, txCount := e.par.txCount }

namespace KeepsPair

variable {d e x : Dev}

theorem refl : KeepsPair d d := ⟨rfl⟩

theorem of_par (h : e.par = d.par) : KeepsPair d e := ⟨by rw [h]⟩

theorem trans (h1 : KeepsPair d e) (h2 : KeepsPair e x) : KeepsPair d x := ⟨by rw [h2.par, h1.par]⟩

theorem of_evolves {ps : List Part} (h : Evolves ps d e) (hp : Part.par ∉ ps := by decide) : KeepsPair d e := of_par (h.keeps .par hp)

theorem ite {c : Prop} [Decidable c] (h1 : KeepsPair d e) (h2 : KeepsPair d x) : KeepsPair d (if c then e else x) := by split <;> assumption

theorem foldl {α : Type} {f : Dev → α → Dev} {l : List α} (hf : ∀ y a, KeepsPair y (f y a)) : KeepsPair d (l.foldl f d) := by
  induction l generalizing d with
  | nil => exact refl
  | cons a t ih => exact (hf d a).trans ih

/-- A part of the pair unit's state that sending leaves. -/
theorem field (h : KeepsPair d e) {α : Type} (f : Par → α) (hf : ∀ (x : Par) c n, f { x with credit := c, txCount := n } = f x := by intros; rfl) : f e.par = f d.par := by
  rw [h.par]
  exact hf ..

end KeepsPair

theorem Dev.pairEmit_keepsPair (d : Dev) (cycle : Nat) (b : PairBody) : KeepsPair d (d.pairEmit cycle b) := ⟨rfl⟩

theorem Dev.pairSend_keepsPair (d : Dev) (cycle : Nat) (b : PairBody) : KeepsPair d (d.pairSend cycle b) := by
  unfold Dev.pairSend
  refine .ite .refl <| .ite (Dev.pairEmit_keepsPair ..) <| .ite ?_ (.of_evolves (Dev.offer_evolves ..))
  exact ⟨rfl⟩

end Sys2Proof.Machine
end

section

-- one proof after the other: the check gives the text few threads
set_option Elab.async false

namespace Sys2Proof.Machine

/-! ## O38: roles and claims of a pair -/

section
variable {s : State} {hdr : PairHdr}

theorem Dev.role_of_arbitrates {d : Dev} (h : d.arbitrates = true) : d.par.role = .arb := by
  unfold Dev.arbitrates at h
  simp only [Bool.and_eq_true, decide_eq_true_eq] at h
  exact h.1.2

theorem Dev.isBow_of_mayClaim {d : Dev} (h : d.mayClaim = true) : d.isBow = true := by
  unfold Dev.mayClaim at h
  simp only [Bool.and_eq_true] at h
  exact h.1.1.1.1.2

theorem Dev.isBow_congr {d e : Dev} (h : e.par.role = d.par.role) : e.isBow = d.isBow := by
  unfold Dev.isBow
  rw [h]

theorem Dev.claimIn_congr {d e : Dev} {w : SeqWin} {n : Nat} {y : Bool} (h : e.par = { d.par with win := w, freed := n, yielded := y }) (htim : e.tim = d.tim) :
    e.claimIn = d.claimIn := by
  unfold Dev.claimIn
  rw [h, htim]

/-- A frame of the partner leaves whether a device may claim. -/
theorem Dev.mayClaim_congr {d e : Dev} (hev : Evolves [.par] d e) {w : SeqWin} {n : Nat} {y : Bool} (h : e.par = { d.par with win := w, freed := n, yielded := y }) :
    e.mayClaim = d.mayClaim := by
  have hbow : e.isBow = d.isBow := Dev.isBow_congr (by rw [h])
  unfold Dev.mayClaim Dev.rootValid Dev.isSafe Dev.live
  rw [hbow, Dev.on_congr (hev.keeps .regs (by decide)) (hev.keeps .grade (by decide)), Dev.on_congr (hev.keeps .regs (by decide)) (hev.keeps .grade (by decide)),
    Dev.claimIn_congr h (hev.keeps .tim (by decide)), hev.keeps .glb (by decide), h]

theorem arbListenEnd_bow (harb : s.dev.arbitrates = true) (hclaim : (s.dev.toMono (s.dev.par.arbFrom + msC 100)).claimIn = true) :
    Does .arbListenEnd s roleParts (fun d => d.par.role = .bow ∧ d.par.claim = false ∧ d.par.ready = false) := by
  obtain ⟨d1, hd1⟩ : ∃ d1, s.dev.toMono (s.dev.par.arbFrom + msC 100) = d1 := ⟨_, rfl⟩
  have htime : Evolves [.tim, .evr] s.dev d1 := hd1 ▸ Dev.toMono_evolves ..
  rw [hd1] at hclaim
  have hruns : Runs .arbListenEnd s (d1.arbEnd false) := by
    simp only [Runs, exec, execArbListenEnd, State.go, State.withDev, harb, Bool.not_true, if_neg Bool.false_ne_true, hd1, hclaim, if_true]
  obtain ⟨hrole, hdown, -, hready⟩ := Par.of_roleMark d1.arbEnd_false_roleMark
  exact .of hruns ((Dev.arbEnd_evolves ..).after htime.mono : Evolves roleParts _ _).keeps
    ⟨hrole, hdown, hready⟩

theorem arbListenEnd_says (harb : s.dev.arbitrates = true) (hclaim : (s.dev.toMono (s.dev.par.arbFrom + msC 100)).claimIn = false) :
    Does .arbListenEnd s (.par :: .tim :: reportParts) (fun d => d.par.role = .arb ∧ d.par.claim = s.dev.par.claim) := by
  obtain ⟨d1, hd1⟩ : ∃ d1, s.dev.toMono (s.dev.par.arbFrom + msC 100) = d1 := ⟨_, rfl⟩
  have htime : Evolves [.tim, .evr] s.dev d1 := hd1 ▸ Dev.toMono_evolves ..
  rw [hd1] at hclaim
  have hruns : Runs .arbListenEnd s (d1.pairSend 0 (.arb d1.rootValid d1.par.wasStroke d1.par.side (Config.serial 0).toNat)) := by
    simp only [Runs, exec, execArbListenEnd, State.go, State.withDev, harb, Bool.not_true, if_neg Bool.false_ne_true, hd1, hclaim]
  have hpair := (KeepsPair.of_evolves htime).trans (d1.pairSend_keepsPair 0 (.arb d1.rootValid d1.par.wasStroke d1.par.side (Config.serial 0).toNat))
  exact .of hruns ((Dev.pairSend_evolves ..).after htime.mono).keeps ⟨(hpair.field Par.role).trans (Dev.role_of_arbitrates harb), hpair.field Par.claim⟩

theorem arbRx_compares {root last side : Bool} {serial : Nat} (htake : (s.dev.pairTake hdr (.arb root last side serial)).1 = true)
    (harb : s.dev.arbitrates = true) :
    Does (.arbRx hdr root last side serial) s [.par] (fun d => d.par.role = .arb ∧ d.par.peerSerial = serial
      ∧ d.par.won = some (arbWins (s.dev.rootValid, s.dev.par.wasStroke, s.dev.par.side) (root, last, side))) := by
  obtain ⟨e, w, n, hev, hpar, hruns⟩ := Runs.of_taken (c := .arbRx hdr root last side serial) htake rfl
  obtain ⟨e1, he1⟩ : ∃ e1 : Dev, { e with par := { e.par with peerSerial := serial } } = e1 := ⟨_, rfl⟩
  have hev1 : Evolves [.par] s.dev e1 := he1 ▸ Evolves.par.after hev
  have hpar1 : e1.par = { s.dev.par with win := w, freed := n, peerSerial := serial } := by rw [← he1, hpar]
  have harb1 : e1.arbitrates = true := by
    unfold Dev.arbitrates Dev.live
    rw [hev1.keeps .glb (by decide), hev1.keeps .upd (by decide), hpar1]
    exact harb
  have hroot : e1.rootValid = s.dev.rootValid := Dev.on_congr (hev1.keeps .regs (by decide)) (hev1.keeps .grade (by decide)) ..
  simp only [he1, harb1, if_true, hroot] at hruns
  refine .of hruns (Evolves.par.after hev).keeps ⟨?_, rfl, ?_⟩
  · dsimp only
    rw [hpar]
    exact Dev.role_of_arbitrates harb
  · dsimp only
    rw [hpar]

theorem arbClaimInstant_claims (harb : s.dev.arbitrates = true) (hby : (s.dev.pairUp && s.dev.par.won.isSome) = false)
    (hclaim : (s.dev.toMono (s.dev.par.arbFrom + msC (if s.dev.par.side then 250 else 150))).claimIn = false) :
    Does .arbClaimInstant s roleParts (fun d => d.par.role = .stroke ∧ d.par.claim = true ∧ d.par.wasStroke = true) := by
  obtain ⟨d1, hd1⟩ : ∃ d1, s.dev.toMono (s.dev.par.arbFrom + msC (if s.dev.par.side then 250 else 150)) = d1 := ⟨_, rfl⟩
  have htime : Evolves [.tim, .evr] s.dev d1 := hd1 ▸ Dev.toMono_evolves ..
  rw [hd1] at hclaim
  have hruns : Runs .arbClaimInstant s (d1.arbEnd true) := by
    simp only [Runs, exec, execArbClaimInstant, State.go, State.withDev, harb, Bool.not_true, Bool.not_false, Bool.true_and, hby, if_neg Bool.false_ne_true, hd1, hclaim]
  obtain ⟨hrole, hset, hwas, -⟩ := Par.of_roleMark d1.arbEnd_true_roleMark
  exact .of hruns ((Dev.arbEnd_evolves ..).after htime.mono : Evolves roleParts _ _).keeps
    ⟨hrole, hset, hwas⟩

theorem arbClaimInstant_takes {won : Bool} (harb : s.dev.arbitrates = true) (hup : s.dev.pairUp = true) (hwon : s.dev.par.won = some won)
    (hclaim : (s.dev.toMono (s.dev.par.arbFrom + msC 150)).claimIn = false) :
    Does .arbClaimInstant s roleParts (fun d => d.par.role = (if won then Role.stroke else Role.bow) ∧ d.par.claim = won) := by
  obtain ⟨d1, hd1⟩ : ∃ d1, s.dev.toMono (s.dev.par.arbFrom + msC 150) = d1 := ⟨_, rfl⟩
  have htime : Evolves [.tim, .evr] s.dev d1 := hd1 ▸ Dev.toMono_evolves ..
  have hwon1 : d1.par.won = some won := (congrArg Par.won (htime.keeps .par (by decide))).trans hwon
  rw [hd1] at hclaim
  have hruns : Runs .arbClaimInstant s (d1.arbEnd won) := by
    simp only [Runs, exec, execArbClaimInstant, State.go, State.withDev, harb, Bool.not_true, hup, hwon, Option.isSome_some, Bool.and_self, Bool.false_and,
      if_neg Bool.false_ne_true, hd1, hclaim, if_true, hwon1, Option.getD_some]
  refine .of hruns ((Dev.arbEnd_evolves ..).after htime.mono : Evolves roleParts _ _).keeps ?_
  cases won with
  | true =>
    obtain ⟨hrole, hset, -⟩ := Par.of_roleMark d1.arbEnd_true_roleMark
    exact ⟨hrole, hset⟩
  | false =>
    obtain ⟨hrole, hset, -⟩ := Par.of_roleMark d1.arbEnd_false_roleMark
    exact ⟨hrole, hset⟩

theorem claimInChange_shuts (hraw : s.dev.par.claimInRaw = false) :
    Does (.claimInChange true false) s [.par, .regs, .sch, .lcp, .rad, .out] (fun d => d.par.claimInRaw = true ∧ d.par.claimInAt = s.dev.tim.mono
      ∧ d.par.claimInOld = s.dev.claimIn ∧ (s.dev.grade = .x → d.gateOpen = false)) := by
  obtain ⟨d0, hd0⟩ : ∃ d0 : Dev, { s.dev with par := { s.dev.par with claimInOld := s.dev.claimIn, claimInRaw := true, claimInAt := s.dev.tim.mono } } = d0 := ⟨_, rfl⟩
  have hruns : Runs (.claimInChange true false) s d0.gateShut := by
    simp only [Runs, exec, execClaimInChange, State.go, State.withDev, hraw, Bool.true_eq_false, if_false, if_true, Bool.not_false, hd0]
  have h0 : Evolves [.par] s.dev d0 := hd0 ▸ Evolves.par
  have hshut := d0.gateShut_evolves
  have hpar : d0.gateShut.par = d0.par := hshut.keeps .par (by decide)
  refine .of hruns (hshut.after h0.mono).keeps ⟨?_, ?_, ?_, fun hgrade => ?_⟩
  · rw [hpar, ← hd0]
  · rw [hpar, ← hd0]
  · rw [hpar, ← hd0]
  · have hg : d0.gateShut.grade = .x := (hshut.keeps .grade (by decide)).trans ((h0.keeps .grade (by decide)).trans hgrade)
    have hraw0 : d0.par.claimInRaw = true := by rw [← hd0]
    unfold Dev.gateOpen
    rw [hg, hpar, hraw0]
    simp

theorem claimLowTimeout_takes (hlive : s.dev.live = true) (hbow : s.dev.isBow = true) (hraw : s.dev.par.claimInRaw = false)
    (hmay : (s.dev.toMono (s.dev.par.claimInAt + 5000 + 3 * s.dev.hbC)).mayClaim = true) :
    Does .claimLowTimeout s roleParts (fun d => d.par.role = .stroke ∧ d.par.claim = true) := by
  have hruns : Runs .claimLowTimeout s ((s.dev.toMono (s.dev.par.claimInAt + 5000 + 3 * s.dev.hbC)).takeover 3) := by
    simp only [Runs, exec, execClaimLowTimeout, State.go, State.withDev, hlive, hbow, hraw, Bool.not_false, Bool.and_self, if_true]
  obtain ⟨hrole, hset, -⟩ := Par.of_roleMark (Dev.takeover_roleMark hmay 3)
  exact .of hruns ((Dev.takeover_evolves ..).after (Dev.toMono_evolves ..).mono : Evolves roleParts _ _).keeps ⟨hrole, hset⟩

theorem claimTimerExpiry_drops {t : Nat} (hexp : s.dev.par.claimExp = some t) (hlive : s.dev.live = true) :
    Does .claimTimerExpiry s [.par, .tim, .evr, .regs, .rng, .ctx, .sch, .lcp, .rad, .out] (fun d => d.par = { s.dev.par with claim := false, claimExp := none }) := by
  have hruns : Runs .claimTimerExpiry s (s.dev.toMono t).dropClaim.dropDescs := by
    simp only [Runs, exec, execClaimTimerExpiry, State.go, State.withDev, hexp, hlive, if_true]
  have htime := s.dev.toMono_evolves t
  have hdrop := (s.dev.toMono t).dropClaim.dropDescs_evolves
  refine .of hruns (hdrop.after <| (Dev.dropClaim_evolves ..).after htime.mono).keeps ?_
  rw [hdrop.keeps .par (by decide)]
  unfold Dev.dropClaim
  rw [htime.keeps .par (by decide)]

theorem pairForce_takes {val : Word} (hlive : s.dev.live = true) (hkey : F.PAR_CTL_KEY.get val.toNat = 0x9A1E) (hforce : F.PAR_CTL_FORCE.get val.toNat = 1)
    (hbow : s.dev.isBow = true) (hready : s.dev.par.ready = false) (hclaim : s.dev.claimIn = false) (hroot : s.dev.rootValid = true)
    (hsafe : s.dev.isSafe = false) : Does (.pairForce val) s roleParts (fun d => d.par.role = .stroke ∧ d.par.claim = true) := by
  obtain ⟨d1, hd1⟩ : ∃ d1, (s.dev.swapDesc 0x16 3).becomeStroke = d1 := ⟨_, rfl⟩
  have hruns : Runs (.pairForce val) s (d1.recordPost 7 0x0E15 1 0xE 0 0 d1.par.cycle) := by
    simp only [Runs, exec, execPairForce, State.go, State.withDev, hlive, hkey, hforce, hbow, hready, hclaim, hroot, hsafe, decide_true, Bool.not_false, Bool.and_self,
      if_true, hd1]
  have h1 : Evolves roleParts s.dev d1 := hd1 ▸ (Dev.becomeStroke_evolves ..).after (Dev.swapDesc_evolves ..).mono
  have hmark : (d1.recordPost 7 0x0E15 1 0xE 0 0 d1.par.cycle).par.roleMark = (.stroke, true, true, false) := by
    rw [(Dev.recordPost_evolves ..).keeps .par (by decide), ← hd1]
    exact Dev.becomeStroke_roleMark _
  obtain ⟨hrole, hset, -⟩ := Par.of_roleMark hmark
  exact .of hruns ((Dev.recordPost_evolves ..).after h1).keeps ⟨hrole, hset⟩

theorem yieldRx_takes (htake : (s.dev.pairTake hdr .yield).1 = true) (hmay : s.dev.mayClaim = true) :
    Does (.yieldRx hdr) s roleParts (fun d => d.par.role = .stroke ∧ d.par.claim = true) := by
  obtain ⟨e, w, n, hev, hpar, hruns⟩ := Runs.of_taken (c := .yieldRx hdr) htake rfl
  obtain ⟨e1, he1⟩ : ∃ e1 : Dev, { e with par := { e.par with yielded := true } } = e1 := ⟨_, rfl⟩
  have hev1 : Evolves [.par] s.dev e1 := he1 ▸ Evolves.par.after hev
  have hpar1 : e1.par = { s.dev.par with win := w, freed := n, yielded := true } := by rw [← he1, hpar]
  have hbow : e.isBow = true := (Dev.isBow_congr (by rw [hpar])).trans (Dev.isBow_of_mayClaim hmay)
  simp only [he1, hbow, if_true] at hruns
  obtain ⟨hrole, hset, -⟩ := Par.of_roleMark (Dev.takeover_roleMark ((Dev.mayClaim_congr hev1 hpar1).trans hmay) 2)
  exact .of hruns ((Dev.takeover_evolves ..).after hev1.mono : Evolves roleParts _ _).keeps ⟨hrole, hset⟩

theorem yieldRx_waits (htake : (s.dev.pairTake hdr .yield).1 = true) (hbow : s.dev.isBow = true) (hclaim : s.dev.claimIn = true) :
    Does (.yieldRx hdr) s [.par] (fun d => d.par.yielded = true ∧ d.par.role = .bow ∧ d.par.claim = s.dev.par.claim) := by
  obtain ⟨e, w, n, hev, hpar, hruns⟩ := Runs.of_taken (c := .yieldRx hdr) htake rfl
  obtain ⟨e1, he1⟩ : ∃ e1 : Dev, { e with par := { e.par with yielded := true } } = e1 := ⟨_, rfl⟩
  have hev1 : Evolves [.par] s.dev e1 := he1 ▸ Evolves.par.after hev
  have hpar1 : e1.par = { s.dev.par with win := w, freed := n, yielded := true } := by rw [← he1, hpar]
  have hbowe : e.isBow = true := (Dev.isBow_congr (by rw [hpar])).trans hbow
  have hno : e1.mayClaim = false := by
    unfold Dev.mayClaim
    rw [Dev.claimIn_congr hpar1 (hev1.keeps .tim (by decide)), hclaim]
    simp
  simp only [he1, hbowe, if_true, Dev.takeover, hno, Bool.not_false] at hruns
  refine .of hruns hev1.keeps ⟨by rw [hpar1], ?_, by rw [hpar1]⟩
  rw [hpar1]
  exact of_decide_eq_true hbow

end

/-- Settles O38, one command after the other. -/
theorem pairRolesAndClaims : Obligations.PairRolesAndClaims :=
  ⟨fun _ => arbListenEnd_bow, fun _ => arbListenEnd_says, fun _ _ _ _ _ _ => arbRx_compares, fun _ => arbClaimInstant_claims,
    fun _ _ => arbClaimInstant_takes, fun _ => claimInChange_shuts, fun _ => claimLowTimeout_takes, fun _ _ => claimTimerExpiry_drops,
    fun _ _ => pairForce_takes, fun _ _ => yieldRx_takes, fun _ _ => yieldRx_waits⟩

end Sys2Proof.Machine
end

section

-- one proof after the other: the check gives the text few threads
set_option Elab.async false

namespace Sys2Proof.Machine

/-! ## O39: heartbeats, lanes and credits of a pair -/

/-- A health word that is formed again changes nothing else of the pair unit. -/
theorem Dev.healthCheck_par (d : Dev) : d.healthCheck.par = { d.par with health := d.healthCheck.par.health } := by
  unfold Dev.healthCheck
  extract_lets n
  split
  · rfl
  · rw [(Dev.post_evolves ..).keeps .par (by decide)]

/-- A stroke without a swap has none to go on with. -/
theorem Dev.swapTry_none {d : Dev} (h : d.par.swap = none) : d.swapTry = d := by
  unfold Dev.swapTry
  split
  · rfl
  · rw [h]

section
variable {s : State}

theorem Dev.en_of_beats {d : Dev} (h : d.beats = true) : d.par.en = true := by
  unfold Dev.beats at h
  simp only [Bool.and_eq_true] at h
  exact h.1.2

theorem Dev.hbC_congr {ps : List Part} {d e : Dev} (h : Evolves ps d e) (hregs : Part.regs ∉ ps := by decide) (hgrade : Part.grade ∉ ps := by decide) :
    e.hbC = d.hbC := by
  unfold Dev.hbC
  rw [Dev.rd_congr (h.keeps .regs hregs) (h.keeps .grade hgrade)]

/-- A heartbeat goes out from the device `d2`: the next one is due, and the claim is as it is there. -/
theorem heartbeatSent {d1 d2 : Dev} (hbeats : s.dev.beats = true) (hswap : s.dev.par.swap = none) (htime : Evolves [.tim, .evr] s.dev d1) (hd1 : s.dev.toMono s.dev.par.hbDue = d1)
    (hd2 : (if d1.claimStands then d1.setClaim else d1) = d2) :
    Does .pairHeartbeatSend s (.par :: .tim :: reportParts) (fun d => d.par.claim = d2.par.claim ∧ d.par.claimExp = d2.par.claimExp
      ∧ d.par.hbDue = d.tim.mono + s.dev.hbC ∧ d.par.role = s.dev.par.role ∧ d.tim.mono = d1.tim.mono) := by
  have h2 : Evolves [.par] d1 d2 := hd2 ▸ .ite (Dev.setClaim_evolves ..) .refl
  have hpar : d2.par.swap = none ∧ d2.par.role = s.dev.par.role := by
    have hpar1 : d1.par = s.dev.par := htime.keeps .par (by decide)
    rw [← hswap, ← hpar1, ← hd2]
    split <;> exact ⟨rfl, rfl⟩
  obtain ⟨d3, hd3⟩ : ∃ d3 : Dev, { d2 with par := { d2.par with hbDue := d2.tim.mono + d2.hbC } } = d3 := ⟨_, rfl⟩
  have hev3 : Evolves [.par] d1 d3 := hd3 ▸ Evolves.par.after h2
  have hpar3 : d3.par = { d2.par with hbDue := d2.tim.mono + d2.hbC } := by rw [← hd3]
  have hsend := d3.pairSend_keepsPair 0 d3.heartbeat
  have hnone : (d3.pairSend 0 d3.heartbeat).par.swap = none := by rw [hsend.field Par.swap, hpar3, hpar.1]
  have hruns : Runs .pairHeartbeatSend s (d3.pairSend 0 d3.heartbeat) := by
    simp only [Runs, exec, execPairHeartbeatSend, State.go, State.withDev, hbeats, Bool.not_true, if_neg Bool.false_ne_true, hd1, hd2, hd3, Dev.swapTry_none hnone]
  have hev : Evolves (.par :: reportParts) d1 (d3.pairSend 0 d3.heartbeat) := (Dev.pairSend_evolves ..).after hev3.mono
  have hmono : (d3.pairSend 0 d3.heartbeat).tim = d1.tim := hev.keeps .tim (by decide)
  have hhb : d2.hbC = s.dev.hbC := (Dev.hbC_congr h2).trans (Dev.hbC_congr htime)
  refine .of hruns (hev.after htime.mono : Evolves (.par :: .tim :: reportParts) _ _).keeps ⟨?_, ?_, ?_, ?_, by rw [hmono]⟩
  · rw [hsend.field Par.claim, hpar3]
  · rw [hsend.field Par.claimExp, hpar3]
  · rw [hsend.field Par.hbDue, hpar3, hmono, ← hhb, ← h2.keeps .tim (by decide)]
  · rw [hsend.field Par.role, hpar3, hpar.2]

theorem pairHeartbeatSend_reloads (hbeats : s.dev.beats = true) (hswap : s.dev.par.swap = none)
    (hstands : (s.dev.toMono s.dev.par.hbDue).claimStands = true) :
    Does .pairHeartbeatSend s (.par :: .tim :: reportParts) (fun d => d.par.claim = true ∧ d.par.claimExp = some (d.tim.mono + 2 * s.dev.hbC)
      ∧ d.par.hbDue = d.tim.mono + s.dev.hbC ∧ d.par.role = s.dev.par.role) := by
  obtain ⟨d1, hd1⟩ : ∃ d1, s.dev.toMono s.dev.par.hbDue = d1 := ⟨_, rfl⟩
  have htime : Evolves [.tim, .evr] s.dev d1 := hd1 ▸ Dev.toMono_evolves ..
  rw [hd1] at hstands
  have hen : d1.par.en = true := (congrArg Par.en (htime.keeps .par (by decide))).trans (Dev.en_of_beats hbeats)
  obtain ⟨e, hruns, hkeeps, hclaim, hexp, hdue, hrole, hmono⟩ := heartbeatSent hbeats hswap htime hd1 (if_pos hstands)
  refine ⟨e, hruns, hkeeps, hclaim, hexp.trans ?_, hdue, hrole⟩
  unfold Dev.setClaim
  rw [if_pos hen, hmono, Dev.hbC_congr htime]

theorem pairHeartbeatSend_leaves (hbeats : s.dev.beats = true) (hswap : s.dev.par.swap = none)
    (hstands : (s.dev.toMono s.dev.par.hbDue).claimStands = false) :
    Does .pairHeartbeatSend s (.par :: .tim :: reportParts) (fun d => d.par.claim = s.dev.par.claim ∧ d.par.claimExp = s.dev.par.claimExp
      ∧ d.par.hbDue = d.tim.mono + s.dev.hbC ∧ d.par.role = s.dev.par.role) := by
  obtain ⟨d1, hd1⟩ : ∃ d1, s.dev.toMono s.dev.par.hbDue = d1 := ⟨_, rfl⟩
  have htime : Evolves [.tim, .evr] s.dev d1 := hd1 ▸ Dev.toMono_evolves ..
  rw [hd1] at hstands
  have hpar1 : d1.par = s.dev.par := htime.keeps .par (by decide)
  obtain ⟨e, hruns, hkeeps, hclaim, hexp, hdue, hrole, -⟩ := heartbeatSent hbeats hswap htime hd1 (if_neg (by rw [hstands]; decide))
  exact ⟨e, hruns, hkeeps, hclaim.trans (by rw [hpar1]), hexp.trans (by rw [hpar1]), hdue, hrole⟩

theorem pairHeartbeatRx_keeps {hdr : PairHdr} {peer : PairPeer} (htake : (s.dev.pairTake hdr (.heartbeat peer)).1 = true) :
    Does (.pairHeartbeatRx hdr peer) s (.par :: reportParts) (fun d => d.par.peer = peer ∧ d.par.hbMisses = 0 ∧ d.par.hbLost = false
      ∧ d.par.lastHb = some s.dev.tim.mono ∧ d.par.role = s.dev.par.role ∧ d.par.claim = s.dev.par.claim) := by
  obtain ⟨e, w, n, hev, hpar, hruns⟩ := Runs.of_taken (c := .pairHeartbeatRx hdr peer) htake rfl
  obtain ⟨e1, he1⟩ : ∃ e1 : Dev, { e with par := { e.par with peer := peer, hbMisses := 0, hbLost := false, lastHb := some e.tim.mono } } = e1 := ⟨_, rfl⟩
  have hev1 : Evolves [.par] s.dev e1 := he1 ▸ Evolves.par.after hev
  have hpar1 : e1.par = { s.dev.par with win := w, freed := n, peer := peer, hbMisses := 0, hbLost := false, lastHb := some s.dev.tim.mono } := by
    rw [← he1, hpar, hev.keeps .tim (by decide)]
  simp only [he1] at hruns
  refine .of hruns ((Dev.healthCheck_evolves ..).after hev1.mono).keeps ?_
  rw [e1.healthCheck_par, hpar1]
  exact ⟨rfl, rfl, rfl, rfl, rfl, rfl⟩

section
variable {t : Nat} (hlast : s.dev.par.lastHb = some t) (hbeats : s.dev.beats = true) (hlost : s.dev.par.hbLost = false)
include hlast hbeats hlost

/-- A heartbeat that does not come is counted, up to the third in a row. -/
theorem pairHeartbeatMiss_runs : ∃ d2 : Dev, Evolves [.par, .tim, .evr, .regs] s.dev d2
    ∧ d2.par = { s.dev.par with hbMisses := s.dev.par.hbMisses + 1, lastHb := some (t + s.dev.hbC) }
    ∧ d2.tim = (s.dev.toMono (t + s.dev.hbC + 10000)).tim
    ∧ d2.rd F.PAR_HB_MISS = min (s.dev.rd F.PAR_HB_MISS + 1) (2 ^ F.PAR_HB_MISS.len - 1) ∧ KeepsRegs [F.PAR_HB_MISS.at 0] s.dev d2
    ∧ Runs .pairHeartbeatMiss s (if 3 ≤ d2.par.hbMisses then d2.heartbeatLost else d2) := by
  obtain ⟨d0, hd0⟩ : ∃ d0, s.dev.toMono (t + s.dev.hbC + 10000) = d0 := ⟨_, rfl⟩
  have htime : Evolves [.tim, .evr] s.dev d0 := hd0 ▸ Dev.toMono_evolves ..
  obtain ⟨d1, hd1⟩ : ∃ d1, d0.bump F.PAR_HB_MISS = d1 := ⟨_, rfl⟩
  have hbump : Evolves [.regs] d0 d1 := hd1 ▸ Dev.bump_evolves ..
  have hhb : d1.hbC = s.dev.hbC := by
    rw [← Dev.hbC_congr htime]
    unfold Dev.hbC
    rw [← hd1, (Writes.bump ..).rd_eq F.PAR_CFG_HB_MS]
  have hpar1 : d1.par = s.dev.par := (hbump.keeps .par (by decide)).trans (htime.keeps .par (by decide))
  obtain ⟨d2, hd2⟩ : ∃ d2 : Dev, { d1 with par := { d1.par with hbMisses := d1.par.hbMisses + 1, lastHb := some (t + d1.hbC) } } = d2 := ⟨_, rfl⟩
  have hpar2 : Evolves [.par] d1 d2 := hd2 ▸ Evolves.par
  have hmiss : d2.par.hbMisses = d1.par.hbMisses + 1 := by rw [← hd2]
  have hruns : Runs .pairHeartbeatMiss s (if 3 ≤ d2.par.hbMisses then d2.heartbeatLost else d2) := by
    simp only [Runs, exec, execPairHeartbeatMiss, State.go, State.withDev, hlast, hbeats, hlost, Bool.not_true, Bool.or_self, if_neg Bool.false_ne_true, hd0, hd1, hd2]
    rw [hmiss]
  have hrd : d2.rd F.PAR_HB_MISS = min (s.dev.rd F.PAR_HB_MISS + 1) (2 ^ F.PAR_HB_MISS.len - 1) := by
    rw [Dev.rd_congr (hpar2.keeps .regs (by decide)) (hpar2.keeps .grade (by decide)), ← hd1, Dev.rd_bump _ _ _ _ (by decide),
      Dev.rd_congr (htime.keeps .regs (by decide)) (htime.keeps .grade (by decide))]
  have hregs : KeepsRegs [F.PAR_HB_MISS.at 0] s.dev d2 := (htime.keeps.keepsRegs.trans (hd1 ▸ keepsRegs_bump)).trans hpar2.keeps.keepsRegs
  refine ⟨d2, hpar2.after (hbump.after htime.mono), by rw [← hd2, hpar1, hhb], ?_, hrd, hregs, hruns⟩
  rw [hpar2.keeps .tim (by decide), hbump.keeps .tim (by decide), hd0]

theorem pairHeartbeatMiss_counts (hfew : s.dev.par.hbMisses < 2) :
    Does .pairHeartbeatMiss s [.par, .tim, .evr, .regs] (fun d => d.par = { s.dev.par with hbMisses := s.dev.par.hbMisses + 1, lastHb := some (t + s.dev.hbC) }
      ∧ d.rd F.PAR_HB_MISS = min (s.dev.rd F.PAR_HB_MISS + 1) (2 ^ F.PAR_HB_MISS.len - 1) ∧ KeepsRegs [F.PAR_HB_MISS.at 0] s.dev d) := by
  obtain ⟨d2, hev, hpar, -, hrd, hregs, hruns⟩ := pairHeartbeatMiss_runs hlast hbeats hlost
  rw [if_neg (by rw [hpar]; exact Nat.not_le.mpr (Nat.succ_lt_succ hfew))] at hruns
  exact .of hruns hev.keeps ⟨hpar, hrd, hregs⟩

/-- The third heartbeat in a row that does not come: the heartbeat is lost. -/
theorem pairHeartbeatMiss_lost (hmany : 2 ≤ s.dev.par.hbMisses) : ∃ e : Dev, Evolves (.par :: .tim :: reportParts) s.dev e
    ∧ (∃ h, e.par = { s.dev.par with hbMisses := s.dev.par.hbMisses + 1, lastHb := some (t + s.dev.hbC), hbLost := true, health := h })
    ∧ e.tim = (s.dev.toMono (t + s.dev.hbC + 10000)).tim
    ∧ Runs .pairHeartbeatMiss s (if e.isBow then (if e.claimIn then { e with par := { e.par with ready := false, catchup := false } } else e.takeover 1) else e.enterSolo) := by
  obtain ⟨d2, hev, hpar, htim, -, -, hruns⟩ := pairHeartbeatMiss_runs hlast hbeats hlost
  rw [if_pos (by rw [hpar]; exact Nat.succ_le_succ hmany)] at hruns
  obtain ⟨d3, hd3⟩ : ∃ d3 : Dev, { d2 with par := { d2.par with hbLost := true } } = d3 := ⟨_, rfl⟩
  have hev3 : Evolves [.par] d2 d3 := hd3 ▸ Evolves.par
  unfold Dev.heartbeatLost at hruns
  simp only [hd3] at hruns
  have hcheck := d3.healthCheck_evolves
  have htim3 : d3.healthCheck.tim = d3.tim := hcheck.keeps .tim (by decide)
  refine ⟨d3.healthCheck, hcheck.after (hev3.after hev.mono : Evolves (.par :: .tim :: reportParts) _ _), ⟨d3.healthCheck.par.health, ?_⟩, ?_, hruns⟩
  · rw [d3.healthCheck_par, ← hd3, hpar]
  · rw [htim3, hev3.keeps .tim (by decide), htim]

theorem pairHeartbeatMiss_solo (hmany : 2 ≤ s.dev.par.hbMisses) (hrole : s.dev.par.role = .stroke) :
    Does .pairHeartbeatMiss s (.par :: .tim :: .ctx :: .tar :: .ldg :: reportParts) (fun d => d.par.hbLost = true ∧ d.par.solo = true ∧ d.par.role = .stroke) := by
  obtain ⟨e, hev, ⟨h, hpar⟩, -, hruns⟩ := pairHeartbeatMiss_lost hlast hbeats hlost hmany
  have hbow : e.isBow = false := by
    unfold Dev.isBow
    rw [hpar]
    dsimp only
    rw [hrole]
    decide
  rw [if_neg (by rw [hbow]; decide)] at hruns
  refine .of hruns ((Dev.enterSolo_evolves ..).after hev.mono : Evolves (.par :: .tim :: .ctx :: .tar :: .ldg :: reportParts) _ _).keeps ?_
  unfold Dev.enterSolo
  split
  · next hsolo => exact ⟨by rw [hpar], hsolo, by rw [hpar]; exact hrole⟩
  · extract_lets _ d1
    have hpar1 : d1.par.hbLost = true ∧ d1.par.solo = true ∧ d1.par.role = .stroke := ⟨by rw [show d1.par.hbLost = e.par.hbLost from rfl, hpar], rfl,
      by rw [show d1.par.role = e.par.role from rfl, hpar]; exact hrole⟩
    rw [(Dev.recordPost_evolves ..).keeps .par (by decide), (Dev.acknowledge_evolves ..).keeps .par (by decide)]
    exact hpar1

theorem pairHeartbeatMiss_unready (hmany : 2 ≤ s.dev.par.hbMisses) (hbow : s.dev.isBow = true) (hclaim : (s.dev.toMono (t + s.dev.hbC + 10000)).claimIn = true) :
    Does .pairHeartbeatMiss s (.par :: .tim :: reportParts) (fun d => d.par.hbLost = true ∧ d.par.ready = false ∧ d.par.role = .bow
      ∧ d.par.claim = s.dev.par.claim) := by
  obtain ⟨e, hev, ⟨h, hpar⟩, htim, hruns⟩ := pairHeartbeatMiss_lost hlast hbeats hlost hmany
  have hbowe : e.isBow = true := (Dev.isBow_congr (by rw [hpar])).trans hbow
  have hin : e.claimIn = true := by
    rw [← hclaim]
    unfold Dev.claimIn
    rw [htim, hpar, (s.dev.toMono_evolves (t + s.dev.hbC + 10000)).keeps .par (by decide)]
  rw [if_pos hbowe, if_pos hin] at hruns
  refine .of hruns (Evolves.par.after hev).keeps ⟨?_, rfl, ?_, ?_⟩
  · dsimp only
    rw [hpar]
  · dsimp only
    rw [hpar]
    exact of_decide_eq_true hbow
  · dsimp only
    rw [hpar]

end

section
variable {lane : Fin 2}

theorem pairLaneLoss_one (hlive : s.dev.live = true) (hup : s.dev.par.lanes.getD lane false = true)
    (hleft : (s.dev.par.lanes.set lane false).any id = true) :
    Does (.pairLaneLoss lane) s (.par :: reportParts) (fun d => d.par = { s.dev.par with lanes := s.dev.par.lanes.set lane false, health := d.par.health }) := by
  obtain ⟨d1, hd1⟩ : ∃ d1 : Dev, { s.dev with par := { s.dev.par with lanes := s.dev.par.lanes.set lane false } } = d1 := ⟨_, rfl⟩
  have h1 : Evolves [.par] s.dev d1 := hd1 ▸ Evolves.par
  have hpair : d1.pairUp = true := by rw [← hd1]; exact hleft
  have hruns : Runs (.pairLaneLoss lane) s d1.healthCheck := by
    simp only [Runs, exec, execPairLaneLoss, State.go, State.withDev, hlive, hup, Bool.and_self, Bool.not_true, if_neg Bool.false_ne_true, hd1, hpair, if_true]
  refine .of hruns ((Dev.healthCheck_evolves ..).after h1.mono).keeps ?_
  rw [d1.healthCheck_par, ← hd1]

theorem pairLaneLoss_last (hlive : s.dev.live = true) (hup : s.dev.par.lanes.getD lane false = true)
    (hleft : (s.dev.par.lanes.set lane false).any id = false) :
    Does (.pairLaneLoss lane) s (.par :: reportParts) (fun d =>
      d.par = { s.dev.par with lanes := s.dev.par.lanes.set lane false, credit := 0, freed := 4096, staged := [], health := d.par.health }
        ∧ d.rd F.PAR_LINK_DOWN = min (s.dev.rd F.PAR_LINK_DOWN + 1) (2 ^ F.PAR_LINK_DOWN.len - 1)) := by
  obtain ⟨d1, hd1⟩ : ∃ d1 : Dev, { s.dev with par := { s.dev.par with lanes := s.dev.par.lanes.set lane false } } = d1 := ⟨_, rfl⟩
  have hpair : d1.pairUp = false := by rw [← hd1]; exact hleft
  obtain ⟨d2, hd2⟩ : ∃ d2 : Dev, { s.dev with par := { s.dev.par with lanes := s.dev.par.lanes.set lane false, credit := 0, freed := 4096, staged := [] } } = d2 :=
    ⟨_, rfl⟩
  have h2 : Evolves [.par] s.dev d2 := hd2 ▸ Evolves.par
  have hpar2 : d2.par = { s.dev.par with lanes := s.dev.par.lanes.set lane false, credit := 0, freed := 4096, staged := [] } := by rw [← hd2]
  have hruns : Runs (.pairLaneLoss lane) s (d2.bump F.PAR_LINK_DOWN).healthCheck := by
    simp only [Runs, exec, execPairLaneLoss, State.go, State.withDev, hlive, hup, Bool.and_self, Bool.not_true, if_neg Bool.false_ne_true, hd1, hpair, hd2]
  have hbump := d2.bump_evolves F.PAR_LINK_DOWN
  refine .of hruns ((Dev.healthCheck_evolves ..).after <| (Dev.bump_evolves ..).after h2.mono).keeps ⟨?_, ?_⟩
  · rw [Dev.healthCheck_par, (Dev.bump_evolves ..).keeps .par (by decide), hpar2]
  · rw [(Dev.healthCheck_writes ..).rd_eq F.PAR_LINK_DOWN, Dev.rd_bump _ _ _ _ (by decide),
      Dev.rd_congr (h2.keeps .regs (by decide)) (h2.keeps .grade (by decide))]

theorem pairLaneReturn_up (hlive : s.dev.live = true) (hen : s.dev.par.en = true) :
    Does (.pairLaneReturn lane) s (.par :: reportParts) (fun d => d.par = { s.dev.par with lanes := s.dev.par.lanes.set lane true, health := d.par.health }) := by
  obtain ⟨d1, hd1⟩ : ∃ d1 : Dev, { s.dev with par := { s.dev.par with lanes := s.dev.par.lanes.set lane true } } = d1 := ⟨_, rfl⟩
  have h1 : Evolves [.par] s.dev d1 := hd1 ▸ Evolves.par
  have hruns : Runs (.pairLaneReturn lane) s d1.healthCheck := by
    have hon : (s.dev.live && s.dev.par.en) = true := by rw [hlive, hen, Bool.and_self]
    simp only [Runs, exec, execPairLaneReturn, State.go, State.withDev, hon, if_true, hd1]
  refine .of hruns ((Dev.healthCheck_evolves ..).after h1.mono).keeps ?_
  rw [d1.healthCheck_par, ← hd1]

end

theorem creditRx_adds {hdr : PairHdr} {cells : Nat} (htake : (s.dev.pairTake hdr (.credit cells)).1 = true) (hempty : (s.dev.lane 16).cells = []) :
    Does (.creditRx hdr cells) s [.par] (fun d => d.par.credit = s.dev.par.credit + cells ∧ d.par.role = s.dev.par.role ∧ d.par.claim = s.dev.par.claim) := by
  obtain ⟨e, w, n, hev, hpar, hruns⟩ := Runs.of_taken (c := .creditRx hdr cells) htake rfl
  obtain ⟨e1, he1⟩ : ∃ e1 : Dev, { e with par := { e.par with credit := e.par.credit + cells } } = e1 := ⟨_, rfl⟩
  have hev1 : Evolves [.par] s.dev e1 := he1 ▸ Evolves.par.after hev
  have hcells : (e1.lane 16).cells = [] := by
    rw [← hempty]
    unfold Dev.lane
    rw [hev1.keeps .lne (by decide)]
  simp only [he1, hcells, List.length_nil, Dev.pairDrain] at hruns
  refine .of hruns hev1.keeps ?_
  rw [← he1, hpar]
  exact ⟨rfl, rfl, rfl⟩

theorem creditSend_grants (hlive : s.dev.live = true) (hen : s.dev.par.en = true) (hup : s.dev.pairUp = true) (hfreed : 0 < s.dev.par.freed) :
    Does .creditSend s [.par, .out] (fun d => d.par = { s.dev.par with freed := 0, txCount := s.dev.par.txCount + 1 }
      ∧ d.out = .pairTx 0 s.dev.par.epoch s.dev.par.txCount (.credit s.dev.par.freed) :: s.dev.out) := by
  have hruns : Runs .creditSend s (({ s.dev with par := { s.dev.par with freed := 0 } } : Dev).pairEmit 0 (.credit s.dev.par.freed)) := by
    simp only [Runs, exec, execCreditSend, State.go, State.withDev, hlive, hen, hup, hfreed, decide_true, Bool.and_self, if_true]
  exact .of hruns ((Dev.pairEmit_evolves ..).after Evolves.par.mono).keeps ⟨rfl, rfl⟩

theorem parDeltaClear_clears {val : Word} (hlive : s.dev.live = true) (hgrade : s.dev.grade = .x) :
    Does (.parDeltaClear val) s [.regs] (fun d => d.rd F.PAR_DELTA_PEAK = 0 ∧ KeepsRegs [F.PAR_DELTA_PEAK.at 0] s.dev d) := by
  have hruns : Runs (.parDeltaClear val) s (s.dev.wr F.PAR_DELTA_PEAK 0 0) := by
    simp only [Runs, exec, execParDeltaClear, State.go, State.withDev, hlive, hgrade, decide_true, Bool.and_self, if_true]
  exact .of hruns (Dev.wr_evolves ..).keeps ⟨by rw [Dev.rd_wr _ _ _ _ (by decide), Nat.zero_mod], keepsRegs_wr⟩

end

/-- Settles O39, one command after the other. -/
theorem pairHeartbeatsAndLanes : Obligations.PairHeartbeatsAndLanes :=
  ⟨fun _ => pairHeartbeatSend_reloads, fun _ => pairHeartbeatSend_leaves, fun _ _ _ => pairHeartbeatRx_keeps,
    fun _ _ hlast hbeats hlost => pairHeartbeatMiss_counts hlast hbeats hlost, fun _ _ hlast hbeats hlost => pairHeartbeatMiss_solo hlast hbeats hlost,
    fun _ _ hlast hbeats hlost => pairHeartbeatMiss_unready hlast hbeats hlost, fun _ _ => pairLaneLoss_one, fun _ _ => pairLaneLoss_last,
    fun _ _ => pairLaneReturn_up, fun _ _ _ => creditRx_adds, fun _ => creditSend_grants, fun _ _ => parDeltaClear_clears⟩

end Sys2Proof.Machine
end

section

-- one proof after the other: the check gives the text few threads
set_option Elab.async false

namespace Sys2Proof.Machine

/-! ## O40: the stroke cycle and the billing mirror -/

/-! ### A cycle closes -/

/-- Frames to the partner, one for each of a list. -/
theorem Dev.pairSends_keeps {d : Dev} {cycle : Nat} {bs : List (List DeltaRec)} {f : List DeltaRec → PairBody} {last : PairBody} :
    KeepsPair d ((bs.foldl (fun (x : Dev) r => x.pairSend cycle (f r)) d).pairSend cycle last)
      ∧ Evolves (.par :: reportParts) d ((bs.foldl (fun (x : Dev) r => x.pairSend cycle (f r)) d).pairSend cycle last) :=
  ⟨(KeepsPair.foldl fun x r => x.pairSend_keepsPair cycle (f r)).trans (Dev.pairSend_keepsPair ..),
    (Dev.pairSend_evolves ..).after (.foldl (fun _ _ => (Dev.pairSend_evolves ..).mono) .refl)⟩

/-- A cycle that closes is the next one, and its ACK is awaited where the device is mirrored; no context is dirty then. -/
theorem Dev.cycleClose_closes {d : Dev} (h : d.par.closing = none) (early : Bool) :
    (d.cycleClose early).par.closing = some (d.par.cycle + 1, !d.mirrored) ∧ (d.cycleClose early).ctx.dirty = []
      ∧ (d.cycleClose early).par.cycle = d.par.cycle ∧ (d.cycleClose early).par.cycleDue = d.par.cycleDue := by
  unfold Dev.cycleClose
  rw [if_neg (by rw [h]; decide)]
  extract_lets n rs k d1 d2 d3 d4 _ _ d5
  have h1 : Evolves [.regs] d d1 := (Dev.wr_evolves ..).after (Dev.wr_evolves ..)
  have h2 : Evolves [.regs] d d2 := .ite ((Dev.bump_evolves ..).after h1) h1
  have h3 : Evolves (.tar :: reportParts) d d3 := .ite h2.mono ((Dev.closeHalf_evolves ..).after h2.mono)
  have h4 : Evolves (.tar :: reportParts) d d4 := (Dev.journalCycle_evolves ..).after h3
  have hpar4 : d4.par = d.par := h4.keeps .par (by decide)
  have hpar5 : d5.par = { d.par with closing := some (d.par.cycle + 1, !d.mirrored), base := d4.copied } := by
    have hmirrored : d4.mirrored = d.mirrored := by
      unfold Dev.mirrored
      rw [hpar4]
    change ({ d4.par with closing := some (d.par.cycle + 1, !d4.mirrored), base := d4.copied } : Par) = _
    rw [hpar4, hmirrored]
  have hdirty5 : d5.ctx.dirty = [] := rfl
  clear_value d5
  split
  · obtain ⟨hpair, hev⟩ := @Dev.pairSends_keeps d5 n (packRecs 0 [] rs) .delta (.fin rs.length)
    refine ⟨?_, (congrArg CtxEng.dirty (hev.keeps .ctx (by decide))).trans hdirty5, ?_, ?_⟩
    · rw [hpair.field Par.closing, hpar5]
    · rw [hpair.field Par.cycle, hpar5]
    · rw [hpair.field Par.cycleDue, hpar5]
  · rw [hpar5]
    exact ⟨rfl, hdirty5, rfl, rfl⟩

section
variable {s : State} {hdr : PairHdr}

theorem strokeCycleClose_due (hcycles : s.dev.cycles = true) (hclosing : s.dev.par.closing = none) (hfew : sumNat (s.dev.delta.map deltaLen) < 67108864) :
    Does .strokeCycleClose s (.par :: .tim :: .ctx :: .tar :: reportParts) (fun d => d.par.closing = some (s.dev.par.cycle + 1, !s.dev.mirrored)
      ∧ d.ctx.dirty = [] ∧ d.par.cycle = s.dev.par.cycle
      ∧ d.par.cycleDue = seriesNext s.dev.par.cycleDue (msC (s.dev.rd F.PAR_CFG_STROKE_MS)) d.tim.mono) := by
  obtain ⟨d1, hd1⟩ : ∃ d1, s.dev.toMono s.dev.par.cycleDue = d1 := ⟨_, rfl⟩
  have htime : Evolves [.tim, .evr] s.dev d1 := hd1 ▸ Dev.toMono_evolves ..
  have hpar1 : d1.par = s.dev.par := htime.keeps .par (by decide)
  obtain ⟨d2, hd2⟩ : ∃ d2 : Dev, { d1 with par := { d1.par with cycleDue := seriesNext d1.par.cycleDue (msC (d1.rd F.PAR_CFG_STROKE_MS)) d1.tim.mono } } = d2 :=
    ⟨_, rfl⟩
  have h2 : Evolves [.par] d1 d2 := hd2 ▸ Evolves.par
  have hpar2 : d2.par = { s.dev.par with cycleDue := seriesNext s.dev.par.cycleDue (msC (s.dev.rd F.PAR_CFG_STROKE_MS)) d1.tim.mono } := by
    rw [← hd2, hpar1, Dev.rd_congr (htime.keeps .regs (by decide)) (htime.keeps .grade (by decide))]
  have hruns : Runs .strokeCycleClose s (d2.cycleClose false) := by
    simp only [Runs, exec, execStrokeCycleClose, State.go, State.withDev, hcycles, Bool.not_true, if_neg Bool.false_ne_true, if_neg (Nat.not_le.mpr hfew), hd1, hd2]
  have hclose := d2.cycleClose_evolves false
  obtain ⟨hcl, hdirty, hcycle, hdue⟩ := Dev.cycleClose_closes (d := d2) (by rw [hpar2]; exact hclosing) false
  refine .of hruns (hclose.after (h2.after htime.mono : Evolves [.par, .tim, .evr] _ _).mono : Evolves (.par :: .tim :: .ctx :: .tar :: reportParts) _ _).keeps
    ⟨?_, hdirty, ?_, ?_⟩
  · rw [hcl]
    unfold Dev.mirrored
    rw [hpar2]
  · rw [hcycle, hpar2]
  · rw [hdue, hpar2, hclose.keeps .tim (by decide), h2.keeps .tim (by decide)]

theorem strokeCycleClose_early (hcycles : s.dev.cycles = true) (hclosing : s.dev.par.closing = none) (hmany : 67108864 ≤ sumNat (s.dev.delta.map deltaLen)) :
    Does .strokeCycleClose s (.par :: .ctx :: .tar :: reportParts) (fun d => d.par.closing = some (s.dev.par.cycle + 1, !s.dev.mirrored)
      ∧ d.ctx.dirty = [] ∧ d.par.cycle = s.dev.par.cycle ∧ d.par.cycleDue = s.dev.par.cycleDue) := by
  have hruns : Runs .strokeCycleClose s (s.dev.cycleClose true) := by
    simp only [Runs, exec, execStrokeCycleClose, State.go, State.withDev, hcycles, Bool.not_true, if_neg Bool.false_ne_true, if_pos hmany]
  exact .of hruns (Dev.cycleClose_evolves ..).into (Dev.cycleClose_closes hclosing true)

theorem strokeCycleEnd_ends {n : Nat} {acked : Bool} (hclosing : s.dev.par.closing = some (n, acked)) (hlive : s.dev.live = true)
    (hack : (acked || !s.dev.mirrored) = true) (hhalves : s.dev.tar.closedHalves = []) (hswap : s.dev.par.swap = none) :
    Does .strokeCycleEnd s (.par :: .ftl :: .tim :: .ctx :: .tar :: .sec :: .sch :: .img :: .lcp :: .rad :: .cals :: .ldg :: reportParts) (fun d => d.par.cycle = n
      ∧ d.par.closing = none ∧ d.ftl = { s.dev.ftl with cyclesSinceSnap := s.dev.ftl.cyclesSinceSnap + 1 }) := by
  obtain ⟨d1, hd1⟩ : ∃ d1 : Dev, { s.dev with
    par := { s.dev.par with cycle := n, closing := none }
    ftl := { s.dev.ftl with cyclesSinceSnap := s.dev.ftl.cyclesSinceSnap + 1 } } = d1 := ⟨_, rfl⟩
  have htwo (x : Par) (y : Ftl) : Evolves [.par, .ftl] s.dev ({ s.dev with par := x, ftl := y } : Dev) :=
    (Evolves.ftl : Evolves [.ftl] ({ s.dev with par := x } : Dev) { s.dev with par := x, ftl := y }).after (Evolves.par.mono : Evolves [.par, .ftl] s.dev _)
  have h1 : Evolves [.par, .ftl] s.dev d1 := hd1 ▸ htwo ..
  obtain ⟨d2, hd2⟩ : ∃ d2, (((d1.wr F.PAR_CYCLE_CYCLE 0 n).keyEnd n).retireEnd n) = d2 := ⟨_, rfl⟩
  have h2 : Evolves [.regs, .rng, .ctx, .sec, .sch, .img, .lcp, .cals] d1 d2 := by
    rw [← hd2]
    exact (Dev.retireEnd_evolves ..).after <| (Dev.keyEnd_evolves ..).after (Dev.wr_evolves ..).mono
  have hpar2 : d2.par = d1.par := h2.keeps .par (by decide)
  have hend : s.dev.cycleEnd n = d2 := by
    have hnone : d2.par.swap = none := by rw [hpar2, ← hd1]; exact hswap
    unfold Dev.cycleEnd
    dsimp only
    rw [hd1, hd2, Dev.swapTry_none hnone]
  have hruns : Runs .strokeCycleEnd s d2 := by
    simp only [Runs, exec, execStrokeCycleEnd, State.go, State.withDev, hclosing, hlive, hack, hhalves, List.isEmpty_nil, Bool.and_self, if_true, hend]
  refine .of hruns (h2.after h1.mono : Evolves (.par :: .ftl :: .tim :: .ctx :: .tar :: .sec :: .sch :: .img :: .lcp :: .rad :: .cals :: .ldg :: reportParts) _ _).keeps ?_
  rw [hpar2, h2.keeps .ftl (by decide), ← hd1]
  exact ⟨rfl, rfl, rfl⟩

/-! ### The bow's copy -/

theorem deltaRx_stages {recs : List DeltaRec} (htake : (s.dev.pairTake hdr (.delta recs)).1 = true) (hbow : s.dev.isBow = true) :
    Does (.deltaRx hdr recs) s [.par] (fun d => d.par.staged = s.dev.par.staged ++ recs ∧ d.par.cycle = s.dev.par.cycle ∧ d.par.role = .bow) := by
  obtain ⟨e, w, n, hev, hpar, hruns⟩ := Runs.of_taken (c := .deltaRx hdr recs) htake rfl
  have hbowe : e.isBow = true := (Dev.isBow_congr (by rw [hpar])).trans hbow
  simp only [hbowe, if_true] at hruns
  refine .of hruns (Evolves.par.after hev).keeps ?_
  dsimp only
  rw [hpar]
  exact ⟨rfl, rfl, of_decide_eq_true hbow⟩

/-- What the bow copies says nothing of the pair link and of what goes out. -/
theorem Dev.copied_congr {d e : Dev} (h : Evolves [.par, .out] d e) : e.copied = d.copied := by
  unfold Dev.copied
  rw [h.keeps .sec (by decide), h.keeps .sch (by decide), h.keeps .ldg (by decide), h.keeps .cals (by decide), h.keeps .regs (by decide), h.keeps .fl (by decide),
    h.keeps .img (by decide), h.keeps .ctx (by decide)]

/-- An ACK goes out without credits. -/
theorem Dev.pairSend_ack (d : Dev) (cycle : Nat) : Evolves [.par, .out] d (d.pairSend cycle .ack) := by
  have hby : pairBypass .ack = true := rfl
  unfold Dev.pairSend
  rw [if_pos hby]
  exact .ite .refl (Dev.pairEmit_evolves ..)

/-- A delta that is applied: the bow's copy is the stroke's at this cycle. -/
theorem Dev.applyDelta_par (d : Dev) (cycle : Nat) (rs : List DeltaRec) :
    (d.applyDelta cycle rs).par.cycle = max d.par.cycle cycle ∧ (d.applyDelta cycle rs).par.staged = d.par.staged
      ∧ (d.applyDelta cycle rs).par.base = (d.applyDelta cycle rs).copied := by
  unfold Dev.applyDelta
  extract_lets d1 d2 d3
  have h1 : Evolves [.regs, .dirty, .ctx, .tar, .sec, .sch, .img, .lcp, .cals, .ldg, .fl] d d1 := .foldl (fun x r => x.applyRec_evolves r) .refl
  have h2 : Evolves (.dirty :: .ctx :: .tar :: .sec :: .sch :: .img :: .lcp :: .cals :: .ldg :: .fl :: reportParts) d d2 := (Dev.journalCycle_evolves ..).after h1.mono
  have h3 : Evolves (.dirty :: .ctx :: .tar :: .sec :: .sch :: .img :: .lcp :: .cals :: .ldg :: .fl :: reportParts) d d3 := .ite h2 ((Dev.closeHalf_evolves ..).after h2)
  have hpar3 : d3.par = d.par := h3.keeps .par (by decide)
  clear_value d3
  obtain ⟨d4, hd4⟩ : ∃ d4 : Dev, { d3 with par := { d3.par with cycle := max d3.par.cycle cycle, base := d3.copied } } = d4 := ⟨_, rfl⟩
  have h4 : Evolves [.par, .out] d3 d4 := hd4 ▸ Evolves.par.mono
  have hpar4 : d4.par = { d.par with cycle := max d.par.cycle cycle, base := d3.copied } := by rw [← hd4, hpar3]
  rw [hd4]
  have hsend := d4.pairSend_keepsPair cycle .ack
  refine ⟨?_, ?_, ?_⟩
  · rw [hsend.field Par.cycle, hpar4]
  · rw [hsend.field Par.staged, hpar4]
  · rw [hsend.field Par.base, hpar4, Dev.copied_congr (d4.pairSend_ack cycle), Dev.copied_congr h4]

theorem endRx_applies (htake : (s.dev.pairTake hdr (.fin s.dev.par.staged.length)).1 = true) (hbow : s.dev.isBow = true) (hcatchup : s.dev.par.catchup = false) :
    Does (.endRx hdr s.dev.par.staged.length true) s (.dirty :: .par :: .ctx :: .tar :: .sec :: .sch :: .img :: .lcp :: .cals :: .ldg :: .fl :: reportParts)
      (fun d => d.par.cycle = max s.dev.par.cycle hdr.cycle ∧ d.par.staged = [] ∧ d.par.base = d.copied) := by
  obtain ⟨e, w, n, hev, hpar, hruns⟩ := Runs.of_taken (c := .endRx hdr s.dev.par.staged.length true) htake rfl
  have hbowe : e.isBow = true := (Dev.isBow_congr (by rw [hpar])).trans hbow
  have hstaged : e.par.staged = s.dev.par.staged := by rw [hpar]
  have hno : e.par.catchup = false := by rw [hpar]; exact hcatchup
  obtain ⟨d1, hd1⟩ : ∃ d1 : Dev, { e with par := { e.par with staged := [] } } = d1 := ⟨_, rfl⟩
  have h1 : Evolves [.par] s.dev d1 := hd1 ▸ Evolves.par.after hev
  have hpar1 : d1.par.cycle = s.dev.par.cycle ∧ d1.par.staged = [] := by
    rw [← hd1, hpar]
    exact ⟨rfl, rfl⟩
  simp only [hbowe, Bool.not_true, if_neg Bool.false_ne_true, hd1, hstaged, decide_true, Bool.and_self, if_true] at hruns
  simp only [hno, if_neg Bool.false_ne_true] at hruns
  obtain ⟨hcycle, hst, hbase⟩ := d1.applyDelta_par hdr.cycle s.dev.par.staged
  exact .of hruns ((Dev.applyDelta_evolves ..).after h1.mono
    : Evolves (.dirty :: .par :: .ctx :: .tar :: .sec :: .sch :: .img :: .lcp :: .cals :: .ldg :: .fl :: reportParts) _ _).keeps
    ⟨hcycle.trans (by rw [hpar1.1]), hst.trans hpar1.2, hbase⟩

theorem endRx_asks {count : Nat} {hashOk : Bool} (htake : (s.dev.pairTake hdr (.fin count)).1 = true) (hbow : s.dev.isBow = true)
    (hbad : s.dev.par.staged.length ≠ count ∨ hashOk = false) :
    Does (.endRx hdr count hashOk) s (.par :: reportParts) (fun d => d.par.ready = false ∧ d.par.catchup = true ∧ d.par.staged = []
      ∧ d.par.cycle = s.dev.par.cycle) := by
  obtain ⟨e, w, n, hev, hpar, hruns⟩ := Runs.of_taken (c := .endRx hdr count hashOk) htake rfl
  have hbowe : e.isBow = true := (Dev.isBow_congr (by rw [hpar])).trans hbow
  have hno : (decide (e.par.staged.length = count) && hashOk) = false := by
    rw [hpar]
    rcases hbad with h | h
    · rw [decide_eq_false h, Bool.false_and]
    · rw [h, Bool.and_false]
  obtain ⟨d2, hd2⟩ : ∃ d2 : Dev, { e with par := { e.par with staged := [], ready := false, catchup := true, stale := none, held := [] } } = d2 := ⟨_, rfl⟩
  have h2 : Evolves [.par] s.dev d2 := hd2 ▸ Evolves.par.after hev
  simp only [hbowe, Bool.not_true, if_neg Bool.false_ne_true, hno, hd2] at hruns
  have hsend := d2.pairSend_keepsPair hdr.cycle .catchupAsk
  refine .of hruns ((Dev.pairSend_evolves ..).after h2.mono).keeps ⟨?_, ?_, ?_, ?_⟩
  · rw [hsend.field Par.ready, ← hd2]
  · rw [hsend.field Par.catchup, ← hd2]
  · rw [hsend.field Par.staged, ← hd2]
  · rw [hsend.field Par.cycle, ← hd2, hpar]

theorem ackRx_arrives {n : Nat} {a : Bool} (htake : (s.dev.pairTake hdr .ack).1 = true) (hclosing : s.dev.par.closing = some (n, a)) (hn : n ≤ hdr.cycle) :
    Does (.ackRx hdr) s [.par] (fun d => d.par.closing = some (n, true) ∧ d.par.cycle = s.dev.par.cycle) := by
  obtain ⟨e, w, m, hev, hpar, hruns⟩ := Runs.of_taken (c := .ackRx hdr) htake rfl
  have hcl : e.par.closing = some (n, a) := by rw [hpar]; exact hclosing
  simp only [hcl, hn, if_true] at hruns
  refine .of hruns (Evolves.par.after hev).keeps ⟨rfl, ?_⟩
  dsimp only
  rw [hpar]

/-! ### The billing mirror -/

theorem mem_insertBy {α : Type} {key : α → Nat} {x y : α} {l : List α} : y ∈ insertBy key x l ↔ y = x ∨ y ∈ l := by
  induction l with
  | nil => simp [insertBy]
  | cons a t ih =>
    unfold insertBy
    split
    · simp
    · simp only [List.mem_cons, ih]
      tauto

theorem mem_sortBy {α : Type} {key : α → Nat} {y : α} {l : List α} : y ∈ sortBy key l ↔ y ∈ l := by
  have hfold (acc : List α) : y ∈ l.foldl (fun acc x => insertBy key x acc) acc ↔ y ∈ acc ∨ y ∈ l := by
    induction l generalizing acc with
    | nil => simp
    | cons a t ih =>
      simp only [List.foldl_cons, ih, mem_insertBy, List.mem_cons]
      tauto
  unfold sortBy
  simpa using hfold []

/-- An entry of the mirror that is applied is the latest. -/
theorem Dev.applyMirror_jseq (d : Dev) (seq : Nat) (w : JWhat) : (d.applyMirror seq w).tar.jseq = seq := by
  unfold Dev.applyMirror
  extract_lets upd _ r e _ _ d1
  have h1 : d1.tar.jseq = seq := rfl
  clear_value d1
  split
  · unfold Dev.closeHalf
    extract_lets h d2
    exact (congrArg Tar.jseq ((Dev.offer_evolves ..).keeps .tar (by decide))).trans h1
  · exact h1

/-- Entries of the mirror, each applied where it is new. -/
theorem Dev.applyMirrors_jseq (l : List (Nat × JWhat)) (d : Dev) :
    d.tar.jseq ≤ (l.foldl (fun (x : Dev) e => if x.tar.jseq < e.1 then x.applyMirror e.1 e.2 else x) d).tar.jseq
      ∧ ∀ e ∈ l, e.1 ≤ (l.foldl (fun (x : Dev) e => if x.tar.jseq < e.1 then x.applyMirror e.1 e.2 else x) d).tar.jseq := by
  induction l generalizing d with
  | nil => exact ⟨le_rfl, fun e he => nomatch he⟩
  | cons a t ih =>
    obtain ⟨hrest, hall⟩ := ih (if d.tar.jseq < a.1 then d.applyMirror a.1 a.2 else d)
    have hstep : d.tar.jseq ≤ (if d.tar.jseq < a.1 then d.applyMirror a.1 a.2 else d).tar.jseq ∧ a.1 ≤ (if d.tar.jseq < a.1 then d.applyMirror a.1 a.2 else d).tar.jseq := by
      split
      · next h => rw [Dev.applyMirror_jseq]; exact ⟨h.le, le_rfl⟩
      · next h => exact ⟨le_rfl, Nat.not_lt.mp h⟩
    refine ⟨hstep.1.trans hrest, fun e he => ?_⟩
    rcases List.mem_cons.mp he with rfl | ht
    · exact hstep.2.trans hrest
    · exact hall e ht

theorem jmirRx_mirrors {entries : List (Nat × JWhat)} (htake : (s.dev.pairTake hdr (.jmir entries)).1 = true) (hbow : s.dev.isBow = true) :
    Does (.jmirRx hdr entries) s (.par :: .tar :: reportParts) (fun d => s.dev.tar.jseq ≤ d.tar.jseq ∧ ∀ e ∈ entries, e.1 ≤ d.tar.jseq) := by
  obtain ⟨e, w, n, hev, hpar, hruns⟩ := Runs.of_taken (c := .jmirRx hdr entries) htake rfl
  have hbowe : e.isBow = true := (Dev.isBow_congr (by rw [hpar])).trans hbow
  obtain ⟨hle, hall⟩ := Dev.applyMirrors_jseq (sortBy (·.1) entries) e
  have hfold : Evolves (.par :: .tar :: reportParts) s.dev ((sortBy (·.1) entries).foldl (fun (x : Dev) e => if x.tar.jseq < e.1 then x.applyMirror e.1 e.2 else x) e) :=
    .foldl (fun x a => .ite (Dev.applyMirror_evolves ..).mono .refl) hev.mono
  obtain ⟨d1, hd1⟩ : ∃ d1, (sortBy (·.1) entries).foldl (fun (x : Dev) e => if x.tar.jseq < e.1 then x.applyMirror e.1 e.2 else x) e = d1 := ⟨_, rfl⟩
  rw [hd1] at hle hall hfold
  simp only [hbowe, if_true, hd1] at hruns
  refine .of hruns ((Dev.pairSend_evolves ..).after hfold).keeps ?_
  rw [(Dev.pairSend_evolves ..).keeps .tar (by decide), ← hev.keeps .tar (by decide)]
  exact ⟨hle, fun x hx => hall x (mem_sortBy.mpr hx)⟩

/-- A booking that becomes effective leaves what has been acknowledged. -/
theorem Dev.effective_acked (d : Dev) (e : JEntry) : (d.effective e).tar.acked = d.tar.acked := by
  have hbook (x : Dev) (m seq code : Nat) : (x.setBook m seq code).tar = x.tar := by
    unfold Dev.setBook
    split <;> rfl
  unfold Dev.effective
  extract_lets _ d1
  have h1 : d1.tar.acked = d.tar.acked := by
    unfold d1
    split <;> rfl
  split
  · rw [hbook, h1]
  · exact h1

theorem Dev.loadsDone_acked (d : Dev) : d.loadsDone.tar.acked = d.tar.acked := by
  unfold Dev.loadsDone
  extract_lets ready _ d1
  have hdone : Evolves [.regs, .rng] d1 ((d.tar.loads.filter ready).foldl (fun (x : Dev) l => x.complete l.pair l.id 0 0 [l.crc]) d1) :=
    .foldl (fun x l => Dev.complete_evolves ..) .refl
  rw [hdone.keeps .tar (by decide)]

theorem Dev.acknowledge_acked (d : Dev) (seq : Nat) : (d.acknowledge seq).tar.acked = max d.tar.acked seq := by
  have hall (es : List JEntry) (x : Dev) : (es.foldl (fun (x : Dev) e => x.effective e) x).tar.acked = x.tar.acked := by
    induction es generalizing x with
    | nil => rfl
    | cons a t ih => rw [List.foldl_cons, ih, Dev.effective_acked]
  unfold Dev.acknowledge
  rw [Dev.loadsDone_acked, hall]

theorem jackRx_acknowledges {seq : Nat} (htake : (s.dev.pairTake hdr (.jack seq)).1 = true) (hbow : s.dev.isBow = false) :
    Does (.jackRx hdr seq) s (.par :: .tar :: .ctx :: .ldg :: reportParts) (fun d => d.tar.acked = max s.dev.tar.acked seq) := by
  obtain ⟨e, w, n, hev, hpar, hruns⟩ := Runs.of_taken (c := .jackRx hdr seq) htake rfl
  have hbowe : e.isBow = false := (Dev.isBow_congr (by rw [hpar])).trans hbow
  simp only [hbowe, if_neg Bool.false_ne_true] at hruns
  refine .of hruns ((Dev.acknowledge_evolves ..).after hev.mono : Evolves (.par :: .tar :: .ctx :: .ldg :: reportParts) _ _).keeps ?_
  rw [Dev.acknowledge_acked, hev.keeps .tar (by decide)]

end

/-- Settles O40, one command after the other. -/
theorem strokeCycles : Obligations.StrokeCycles :=
  ⟨fun _ => strokeCycleClose_due, fun _ => strokeCycleClose_early, fun _ _ _ => strokeCycleEnd_ends, fun _ _ _ => deltaRx_stages, fun _ _ => endRx_applies,
    fun _ _ _ _ => endRx_asks, fun _ _ _ _ => ackRx_arrives, fun _ _ _ => jmirRx_mirrors, fun _ _ _ => jackRx_acknowledges⟩

end Sys2Proof.Machine
end

section

-- one proof after the other: the check gives the text few threads
set_option Elab.async false

namespace Sys2Proof.Machine

/-! ## O41: swaps, catch-ups and drills of a pair -/

/-! ### What the steps of swaps and drills leave of the pair unit -/

theorem Par.with_swap_none {x : Par} (h : x.swap = none) : x = { x with swap := none } := by
  rw [← h]

theorem Par.with_drill_none {x : Par} (h : x.drill = none) : x = { x with drill := none } := by
  rw [← h]

/-- A descriptor of PAIR_SWAP that completes ends the swap. -/
theorem Dev.swapDesc_par (d : Dev) (st sub : Nat) (res : List Nat) : (d.swapDesc st sub res).par = { d.par with swap := none } := by
  unfold Dev.swapDesc
  split
  · next x hx =>
    split
    · dsimp only
      rw [(Dev.complete_evolves ..).keeps .par (by decide)]
    · rfl
  · next h => exact Par.with_swap_none h

/-- A drill that ends is over. -/
theorem Dev.drillEnd_par (d : Dev) : d.drillEnd.par = { d.par with drill := none } := by
  unfold Dev.drillEnd
  split
  · next h => exact Par.with_drill_none h
  · next x hx =>
    extract_lets _ d1 d2
    have h1 : d1.par = { d.par with drill := none } := (Dev.wrb_evolves ..).keeps .par (by decide)
    have h2 : d2.par = d1.par := by
      have : Evolves (.dirty :: reportParts) d1 d2 :=
        (Dev.recordPost_evolves ..).after <| (Dev.touch_evolves ..).after <| (Dev.wr_evolves ..).after (Dev.wr_evolves ..).mono
      exact this.keeps .par (by decide)
    split
    · exact h1
    · split
      · rw [(Dev.complete_evolves ..).keeps .par (by decide), h2, h1]
      · rw [h2, h1]

theorem Dev.drillSwapped_roleMark (d : Dev) : d.drillSwapped.par.roleMark = d.par.roleMark := by
  unfold Dev.drillSwapped
  split
  · rfl
  · split
    · rfl
    · rw [Dev.drillEnd_par]
      rfl

/-- A stroke whose sweeps run ends them before anything else of a swap. -/
theorem Dev.swapTry_sweeps {d : Dev} {x : Swap} (hrole : d.par.role = .stroke) (hswap : d.par.swap = some x) (hphase : x.phase = .sweep) (hsweeps : d.tar.sweeps ≠ []) :
    d.swapTry = d := by
  unfold Dev.swapTry
  rw [if_neg (by simpa using hrole), hswap]
  dsimp -zeta only
  extract_lets s1 _ d1
  have hs : s1 = x := if_neg (by simp [hsweeps])
  have hd : d1 = d := by
    unfold d1
    rw [hs, ← hswap]
  rw [hs, hphase]
  exact hd

theorem Dev.swapStart_sweeps {d : Dev} (hrole : d.par.role = .stroke) (hsweeps : d.tar.sweeps ≠ []) (desc : Option (Nat × Nat)) :
    d.swapStart desc = { d with par := { d.par with swap := some { phase := .sweep, desc := desc } } } :=
  Dev.swapTry_sweeps hrole rfl rfl hsweeps

/-- A bow that was asked to take over does so once it sees no claim. -/
theorem Dev.swapTake_roleMark {d : Dev} (h : (d.live && d.isBow && d.par.swapRx && !d.claimIn && d.rootValid && !d.isSafe) = true) :
    d.swapTake.par.roleMark = (.stroke, true, true, false) := by
  unfold Dev.swapTake
  rw [if_pos h, Dev.drillSwapped_roleMark, Dev.swapDesc_par]
  exact (congrArg Par.roleMark ((Dev.swapCount_evolves ..).keeps .par (by decide))).trans d.becomeStroke_roleMark

/-! ### Swaps -/

section
variable {s : State} {hdr : PairHdr} {p : Fin 64} {h : Held}

theorem pairStatus_answers (htakes : s.takes p 0xA0 h) :
    Completes (.pairStatus p) s p h [s.dev.par.role.code + 4 * b2n s.dev.par.claim + 8 * b2n s.dev.claimIn + 16 * b2n s.dev.par.solo,
      s.dev.par.cycle % 2 ^ 32, s.dev.par.health] [] (fun d => d.par = s.dev.par) := by
  refine .intro (e := s.dev) ?_ (Evolves.refl (ps := [])).keeps ((Dev.complete_evolves ..).keeps .par (by decide))
  simp only [Runs, exec, execPairStatus, State.go, State.withDev, htakes.onDesc_eq]

theorem pairSwap_asks (htakes : s.takes p 0xA1 h) (hok : s.dev.swapRefusal = none) (hbow : s.dev.isBow = true) :
    Does (.pairSwap p) s (.rng :: .par :: reportParts) (fun d => d.par.swap = some { phase := .sweep, desc := some (p.val, h.id) } ∧ d.par.role = .bow) := by
  obtain ⟨e, he⟩ : ∃ e, s.dev.markStarted p h.id = e := ⟨_, rfl⟩
  have hev : Evolves [.rng] s.dev e := he ▸ Dev.markStarted_evolves ..
  have hpar : e.par = s.dev.par := hev.keeps .par (by decide)
  have hbowe : e.isBow = true := (Dev.isBow_congr (by rw [hpar])).trans hbow
  obtain ⟨e1, he1⟩ : ∃ e1 : Dev, { e with par := { e.par with swap := some { phase := .sweep, desc := some (p.val, h.id) } } } = e1 := ⟨_, rfl⟩
  have hev1 : Evolves [.par] e e1 := he1 ▸ Evolves.par
  have hruns : Runs (.pairSwap p) s (e1.pairSend e.par.cycle .swap) := by
    simp only [Runs, exec, execPairSwap, State.go, State.withDev, htakes.onDesc_eq, hok, he, Dev.swapAsk, hbowe, if_true, he1]
  have hsend := e1.pairSend_keepsPair e.par.cycle .swap
  refine .of hruns ((Dev.pairSend_evolves ..).after (hev1.after hev.mono : Evolves [.par, .rng] _ _).mono : Evolves (.rng :: .par :: reportParts) _ _).keeps ⟨?_, ?_⟩
  · rw [hsend.field Par.swap, ← he1]
  · rw [hsend.field Par.role, ← he1, hpar]
    exact of_decide_eq_true hbow

theorem pairSwap_starts (htakes : s.takes p 0xA1 h) (hok : s.dev.swapRefusal = none) (hrole : s.dev.par.role = .stroke) (hsweeps : s.dev.tar.sweeps ≠ []) :
    Does (.pairSwap p) s [.rng, .par] (fun d => d.par = { s.dev.par with swap := some { phase := .sweep, desc := some (p.val, h.id) } }) := by
  obtain ⟨e, he⟩ : ∃ e, s.dev.markStarted p h.id = e := ⟨_, rfl⟩
  have hev : Evolves [.rng] s.dev e := he ▸ Dev.markStarted_evolves ..
  have hpar : e.par = s.dev.par := hev.keeps .par (by decide)
  have hbow : e.isBow = false := by
    unfold Dev.isBow
    rw [hpar, hrole]
    decide
  have hruns : Runs (.pairSwap p) s ({ e with par := { e.par with swap := some { phase := .sweep, desc := some (p.val, h.id) } } } : Dev) := by
    simp only [Runs, exec, execPairSwap, State.go, State.withDev, htakes.onDesc_eq, hok, he, Dev.swapAsk, hbow, if_neg Bool.false_ne_true,
      Dev.swapStart_sweeps (hpar ▸ hrole) (hev.keeps .tar (by decide) ▸ hsweeps)]
  refine .of hruns (Evolves.par.after hev.mono : Evolves [.rng, .par] _ _).keeps ?_
  dsimp only
  rw [hpar]

/-- The device that has taken a SWAP frame of the stroke. -/
theorem swapRx_runs (htake : (s.dev.pairTake hdr .swap).1 = true) (hbow : s.dev.isBow = true) : ∃ e w n, Evolves [.par] s.dev e
    ∧ e.par = { s.dev.par with win := w, freed := n, swapRx := true } ∧ Runs (.swapRx hdr) s e.swapTake := by
  obtain ⟨e, w, n, hev, hpar, hruns⟩ := Runs.of_taken (c := .swapRx hdr) htake rfl
  have hbowe : e.isBow = true := (Dev.isBow_congr (by rw [hpar])).trans hbow
  obtain ⟨e1, he1⟩ : ∃ e1 : Dev, { e with par := { e.par with swapRx := true } } = e1 := ⟨_, rfl⟩
  simp only [hbowe, if_true, he1] at hruns
  exact ⟨e1, w, n, he1 ▸ Evolves.par.after hev, by rw [← he1, hpar], hruns⟩

theorem live_of_pairTake {d : Dev} {b : PairBody} (htake : (d.pairTake hdr b).1 = true) : d.live = true := by
  unfold Dev.pairTake at htake
  cases hlive : d.live with
  | true => rfl
  | false => simp [hlive] at htake

theorem swapRx_takes (htake : (s.dev.pairTake hdr .swap).1 = true) (hbow : s.dev.isBow = true) (hclaim : s.dev.claimIn = false) (hroot : s.dev.rootValid = true)
    (hsafe : s.dev.isSafe = false) : Does (.swapRx hdr) s roleParts (fun d => d.par.role = .stroke ∧ d.par.claim = true) := by
  obtain ⟨e, w, n, hev, hpar, hruns⟩ := swapRx_runs htake hbow
  have hregs := hev.keeps .regs (by decide)
  have hgrade := hev.keeps .grade (by decide)
  have hin : e.claimIn = false := by
    rw [← hclaim]
    unfold Dev.claimIn
    rw [hpar, hev.keeps .tim (by decide)]
  have hmay : (e.live && e.isBow && e.par.swapRx && !e.claimIn && e.rootValid && !e.isSafe) = true := by
    have hlive : e.live = true := by
      rw [← live_of_pairTake htake]
      unfold Dev.live
      rw [hev.keeps .glb (by decide)]
    rw [hlive, (Dev.isBow_congr (by rw [hpar])).trans hbow, hin, show e.rootValid = true from (Dev.on_congr hregs hgrade ..).trans hroot,
      show e.isSafe = false from (Dev.on_congr hregs hgrade ..).trans hsafe, hpar]
    rfl
  obtain ⟨hrole, hset, -⟩ := Par.of_roleMark (Dev.swapTake_roleMark hmay)
  exact .of hruns ((Dev.swapTake_evolves ..).after hev.mono : Evolves roleParts _ _).keeps ⟨hrole, hset⟩

theorem swapRx_waits (htake : (s.dev.pairTake hdr .swap).1 = true) (hbow : s.dev.isBow = true) (hclaim : s.dev.claimIn = true) :
    Does (.swapRx hdr) s [.par] (fun d => d.par.role = .bow ∧ d.par.swapRx = true ∧ d.par.claim = s.dev.par.claim) := by
  obtain ⟨e, w, n, hev, hpar, hruns⟩ := swapRx_runs htake hbow
  have hin : e.claimIn = true := by
    rw [← hclaim]
    unfold Dev.claimIn
    rw [hpar, hev.keeps .tim (by decide)]
  unfold Dev.swapTake at hruns
  rw [if_neg (by rw [hin]; simp)] at hruns
  refine .of hruns hev.keeps ?_
  rw [hpar]
  exact ⟨of_decide_eq_true hbow, rfl, rfl⟩

theorem swapTimeout_reclaims {x : Swap} (hswap : s.dev.par.swap = some x) (hphase : x.phase = .sent) (hlive : s.dev.live = true)
    (hrole : s.dev.par.role = .stroke) (hsafe : s.dev.isSafe = false) (hdrill : s.dev.par.drill = none) :
    Does .swapTimeout s [.par, .rng, .regs, .tim, .evr] (fun d => d.par.claim = true ∧ d.par.swap = none ∧ d.par.role = .stroke) := by
  obtain ⟨d0, hd0⟩ : ∃ d0, s.dev.toMono (x.sentAt + msC 50) = d0 := ⟨_, rfl⟩
  have htime : Evolves [.tim, .evr] s.dev d0 := hd0 ▸ Dev.toMono_evolves ..
  have hpar0 : d0.par = s.dev.par := htime.keeps .par (by decide)
  obtain ⟨d1, hd1⟩ : ∃ d1, d0.setClaim.swapDesc 0x16 3 = d1 := ⟨_, rfl⟩
  have h1 : Evolves [.par, .rng, .regs] d0 d1 := hd1 ▸ (Dev.swapDesc_evolves ..).after (Dev.setClaim_evolves ..).mono
  have hpar1 : d1.par = { d0.setClaim.par with swap := none } := hd1 ▸ Dev.swapDesc_par ..
  have hnone : d1.par.drill = none := by
    rw [hpar1, ← hdrill, ← hpar0]
    rfl
  have hruns : Runs .swapTimeout s d1 := by
    simp only [Runs, exec, execSwapTimeout, State.go, State.withDev, hswap, hlive, hrole, hphase, hsafe, decide_true, Bool.not_false, Bool.and_self, if_true, hd0, hd1, hnone]
  refine .of hruns (h1.after htime.mono : Evolves [.par, .rng, .regs, .tim, .evr] _ _).keeps ?_
  rw [hpar1, ← hrole, ← hpar0]
  exact ⟨rfl, rfl, rfl⟩

/-! ### Catch-ups -/

theorem catchupRequest_asks (hlive : s.dev.live = true) (hen : s.dev.par.en = true) (hbow : s.dev.isBow = true) (hup : s.dev.pairUp = true)
    (hready : s.dev.par.ready = false) (hcatchup : s.dev.par.catchup = false) :
    Does (.catchupRequest none) s (.par :: reportParts) (fun d => d.par.catchup = true ∧ d.par.held = [] ∧ d.par.stale = none ∧ d.par.caughtAt = none) := by
  have hmay : (s.dev.live && s.dev.par.en && s.dev.isBow && s.dev.pairUp && !s.dev.par.ready && !s.dev.par.catchup) = true := by
    rw [hlive, hen, hbow, hup, hready, hcatchup]
    rfl
  obtain ⟨e, he⟩ : ∃ e : Dev, { s.dev with par := { s.dev.par with catchup := true, stale := none, held := [], caughtAt := none } } = e := ⟨_, rfl⟩
  have hev : Evolves [.par] s.dev e := he ▸ Evolves.par
  have hruns : Runs (.catchupRequest none) s (e.pairSend s.dev.par.cycle .catchupAsk) := by
    simp only [Runs, exec, execCatchupRequest, State.go, State.withDev, if_pos hmay, he]
  have hsend := e.pairSend_keepsPair s.dev.par.cycle .catchupAsk
  refine .of hruns ((Dev.pairSend_evolves ..).after hev.mono).keeps ⟨?_, ?_, ?_, ?_⟩
  · rw [hsend.field Par.catchup, ← he]
  · rw [hsend.field Par.held, ← he]
  · rw [hsend.field Par.stale, ← he]
  · rw [hsend.field Par.caughtAt, ← he]

/-- A stroke that has sent the full state has caught its partner up at the open cycle. -/
theorem Dev.catchupSend_par (d : Dev) : d.catchupSend.par.catchup = false ∧ d.catchupSend.par.caughtAt = some d.openCycle ∧ d.catchupSend.par.base = d.copied := by
  unfold Dev.catchupSend
  extract_lets n _ d1 d2
  obtain ⟨hpair, -⟩ := @Dev.pairSends_keeps d1 n (packRecs 0 [] d.fullState) .catchup (.catchup [])
  exact ⟨rfl, rfl, hpair.field Par.base⟩

theorem catchupRequest_answers (htake : (s.dev.pairTake hdr .catchupAsk).1 = true) (hrole : s.dev.par.role = .stroke) (hclaim : s.dev.par.claim = true) :
    Does (.catchupRequest (some hdr)) s (.par :: reportParts) (fun d => d.par.catchup = false ∧ d.par.caughtAt = some s.dev.openCycle
      ∧ d.par.base = s.dev.copied) := by
  obtain ⟨e, w, n, hev, hpar, hruns⟩ := Runs.of_taken (c := .catchupRequest (some hdr)) htake rfl
  have hmay : (decide (e.par.role = .stroke) && e.par.claim) = true := by
    rw [hpar]
    dsimp only
    rw [hrole, hclaim]
    rfl
  simp only [if_pos hmay] at hruns
  have hcycle : e.openCycle = s.dev.openCycle := by
    unfold Dev.openCycle
    rw [hpar]
  refine .of hruns ((Dev.catchupSend_evolves ..).after hev.mono).keeps ?_
  rw [← hcycle, ← Dev.copied_congr hev.mono]
  exact e.catchupSend_par

/-- What a bow notes of its catch-up. -/
def Par.catchMark (x : Par) : Bool × List (Nat × List DeltaRec) × Option (List Nat) × Option Nat × Bool := (x.catchup, x.held, x.stale, x.caughtAt, x.ready)

theorem Par.of_catchMark {x : Par} {c : Bool} {hs : List (Nat × List DeltaRec)} {st : Option (List Nat)} {ca : Option Nat} {r : Bool}
    (h : x.catchMark = (c, hs, st, ca, r)) : x.catchup = c ∧ x.held = hs ∧ x.stale = st ∧ x.caughtAt = ca ∧ x.ready = r := by
  unfold Par.catchMark at h
  simpa using h

theorem Dev.applyRecs_par (rs : List DeltaRec) (d : Dev) : (rs.foldl Dev.applyRec d).par = d.par :=
  (Evolves.foldl (fun x r => x.applyRec_evolves r) .refl).keeps .par (by decide)

theorem Par.catchMark_over (x : Par) (n c : Nat) (b : Copied) :
    ({ x with catchup := false, held := [], caughtAt := some n, cycle := c, base := b } : Par).catchMark = (false, [], x.stale, some n, x.ready) := rfl

theorem Dev.applyDelta_catchMark (d : Dev) (cycle : Nat) (rs : List DeltaRec) : (d.applyDelta cycle rs).par.catchMark = d.par.catchMark := by
  unfold Dev.applyDelta
  extract_lets d1 d2 d3
  have h2 : d2.par = d.par := ((Dev.journalCycle_evolves ..).keeps .par (by decide)).trans (Dev.applyRecs_par rs d)
  have h3 : d3.par = d.par := by
    rw [← h2]
    unfold d3
    split
    · rfl
    · exact (Dev.closeHalf_evolves ..).keeps .par (by decide)
  clear_value d3
  rw [(Dev.pairSend_keepsPair ..).field Par.catchMark, ← h3]
  rfl

/-- The first frame of a catch-up notes the meters that the bow holds. -/
theorem Dev.catchupClear_par (d : Dev) : ∃ ms, d.catchupClear.par = { d.par with stale := some ms } := by
  unfold Dev.catchupClear
  split
  · next h =>
    obtain ⟨ms, hms⟩ := Option.isSome_iff_exists.mp h
    exact ⟨ms, by rw [← hms]⟩
  · exact ⟨_, rfl⟩

theorem Dev.catchupEnd_par (d : Dev) : d.catchupEnd.par = { d.par with stale := none } := by
  unfold Dev.catchupEnd
  extract_lets gone d1 cut
  have h1 : d1.par = d.par := (Evolves.foldl (fun x m => x.forget_evolves m) .refl).keeps .par (by decide)
  change ({ d1.par with stale := none } : Par) = _
  rw [h1]

theorem Evolves.ctx_par (d : Dev) (c : CtxEng) (x : Par) : Evolves [.ctx, .par] d ({ d with ctx := c, par := x } : Dev) :=
  (Evolves.par : Evolves [.par] ({ d with ctx := c } : Dev) { d with ctx := c, par := x }).after (Evolves.ctx.mono : Evolves [.ctx, .par] d _)

/-- The parts that a catch-up can change at the bow. -/
def catchupParts : List Part := .dirty :: .par :: .ctx :: .tar :: .sec :: .sch :: .img :: .lcp :: .cals :: .ldg :: .fl :: reportParts

theorem catchupRx_applies {recs : List DeltaRec} (htake : (s.dev.pairTake hdr (.catchup recs)).1 = true) (hbow : s.dev.isBow = true)
    (hcatchup : s.dev.par.catchup = true) (hrecs : recs ≠ []) :
    Does (.catchupRx hdr recs) s (.dirty :: .par :: .ctx :: .tar :: .sec :: .sch :: .img :: .lcp :: .cals :: .ldg :: .fl :: reportParts) (fun d =>
      d.par.catchup = true ∧ d.par.stale.isSome = true ∧ d.par.ready = s.dev.par.ready) := by
  obtain ⟨e, w, n, hev, hpar, hruns⟩ := Runs.of_taken (c := .catchupRx hdr recs) htake rfl
  have hbowe : e.isBow = true := (Dev.isBow_congr (by rw [hpar])).trans hbow
  have hon : e.par.catchup = true := by rw [hpar]; exact hcatchup
  have hsome : recs.isEmpty = false := by simpa using hrecs
  simp only [hbowe, hon, Bool.and_self, Bool.not_true, if_neg Bool.false_ne_true, hsome, Bool.not_false, if_true] at hruns
  obtain ⟨ms, hclear⟩ := e.catchupClear_par
  refine .of hruns ((Evolves.foldl (fun x r => (x.applyRec_evolves r).mono) ((Dev.catchupClear_evolves ..).after hev.mono)) : Evolves catchupParts _ _).keeps ?_
  rw [Dev.applyRecs_par, hclear, hpar]
  exact ⟨hcatchup, rfl, rfl⟩

theorem catchupRx_ends (htake : (s.dev.pairTake hdr (.catchup [])).1 = true) (hbow : s.dev.isBow = true) (hcatchup : s.dev.par.catchup = true) :
    Does (.catchupRx hdr []) s (.dirty :: .par :: .ctx :: .tar :: .sec :: .sch :: .img :: .lcp :: .cals :: .ldg :: .fl :: reportParts) (fun d =>
      d.par.catchup = false ∧ d.par.held = [] ∧ d.par.stale = none ∧ d.par.caughtAt = some hdr.cycle ∧ d.par.ready = s.dev.par.ready) := by
  obtain ⟨e, w, n, hev, hpar, hruns⟩ := Runs.of_taken (c := .catchupRx hdr []) htake rfl
  have hbowe : e.isBow = true := (Dev.isBow_congr (by rw [hpar])).trans hbow
  have hon : e.par.catchup = true := by rw [hpar]; exact hcatchup
  rw [if_neg (by rw [hbowe, hon]; decide), if_neg (by decide)] at hruns
  extract_lets hs c d0 d1 _ _ d2 at hruns
  obtain ⟨ms, hclear⟩ := e.catchupClear_par
  have h0 : Evolves catchupParts e d0 := (Dev.catchupEnd_evolves ..).after (Dev.catchupClear_evolves ..).mono
  have h1 : Evolves reportParts d0 d1 := (Dev.offer_evolves ..).after (Dev.journalCycle_evolves ..)
  have hpar1 : d1.par = { s.dev.par with win := w, freed := n, stale := none } := by
    rw [h1.keeps .par (by decide), Dev.catchupEnd_par, hclear, hpar]
  have h2 : Evolves [.ctx, .par] d1 d2 := Evolves.ctx_par ..
  have hmark2 : d2.par.catchMark = (false, [], none, some hdr.cycle, s.dev.par.ready) := by
    refine (Par.catchMark_over d1.par ..).trans ?_
    rw [hpar1]
  clear_value d2
  have hall (l : List (Nat × List DeltaRec)) (x : Dev) : Evolves catchupParts x (l.foldl (fun (x : Dev) h => x.applyDelta h.1 h.2) x)
      ∧ (l.foldl (fun (x : Dev) h => x.applyDelta h.1 h.2) x).par.catchMark = x.par.catchMark := by
    refine ⟨.foldl (fun y a => (Dev.applyDelta_evolves ..).mono) .refl, ?_⟩
    induction l generalizing x with
    | nil => rfl
    | cons a t ih => rw [List.foldl_cons, ih, Dev.applyDelta_catchMark]
  obtain ⟨hev3, hmark3⟩ := hall hs (d2.pairSend c .ack)
  obtain ⟨hc, hh, hst, hca, hr⟩ := Par.of_catchMark (hmark3.trans (((d2.pairSend_keepsPair c .ack).field Par.catchMark).trans hmark2))
  have hsend : Evolves catchupParts e (d2.pairSend c .ack) := (Dev.pairSend_evolves ..).after <| h2.after <| h1.after h0
  exact .of hruns ((hev3.after hsend).after hev.mono : Evolves catchupParts _ _).keeps ⟨hc, hh, hst, hca, hr⟩

theorem catchupDone_ready {n : Nat} (hat : s.dev.par.caughtAt = some n) (hlive : s.dev.live = true) (hen : s.dev.par.en = true) (hcycle : n ≤ s.dev.par.cycle)
    (hbow : s.dev.isBow = true) :
    Does .catchupDone s (.par :: reportParts) (fun d => d.par = { s.dev.par with ready := true, caughtAt := none, health := d.par.health }) := by
  have hno : ¬ ((!(s.dev.live && s.dev.par.en) || decide (s.dev.par.cycle < n)) = true) := by
    rw [hlive, hen]
    simpa using hcycle
  obtain ⟨e, he⟩ : ∃ e : Dev, { s.dev with par := { s.dev.par with ready := true, caughtAt := none } } = e := ⟨_, rfl⟩
  have hev : Evolves [.par] s.dev e := he ▸ Evolves.par
  have hruns : Runs .catchupDone s e.healthCheck := by
    simp only [Runs, exec, execCatchupDone, State.go, State.withDev, hat, if_neg hno, hbow, if_true, he]
  refine .of hruns ((Dev.healthCheck_evolves ..).after hev.mono).keeps ?_
  rw [e.healthCheck_par, ← he]

theorem catchupDone_leavesSolo {n : Nat} (hat : s.dev.par.caughtAt = some n) (hlive : s.dev.live = true) (hen : s.dev.par.en = true) (hcycle : n ≤ s.dev.par.cycle)
    (hbow : s.dev.isBow = false) :
    Does .catchupDone s (.par :: reportParts) (fun d => d.par = { s.dev.par with solo := false, caughtAt := none }) := by
  have hno : ¬ ((!(s.dev.live && s.dev.par.en) || decide (s.dev.par.cycle < n)) = true) := by
    rw [hlive, hen]
    simpa using hcycle
  obtain ⟨e, he⟩ : ∃ e : Dev, { s.dev with par := { s.dev.par with caughtAt := none, solo := false } } = e := ⟨_, rfl⟩
  have hev : Evolves [.par] s.dev e := he ▸ Evolves.par
  have hpar : e.par = { s.dev.par with solo := false, caughtAt := none } := by rw [← he]
  have hruns : Runs .catchupDone s (if s.dev.par.solo then e.recordPost 7 0x0E13 0 0xE 0 0 e.par.cycle else e) := by
    simp only [Runs, exec, execCatchupDone, State.go, State.withDev, hat, if_neg hno, hbow, if_neg Bool.false_ne_true, he]
    rw [← he]
  have hrec : Evolves reportParts e (e.recordPost 7 0x0E13 0 0xE 0 0 e.par.cycle) := Dev.recordPost_evolves ..
  refine .of hruns (.ite (hrec.after hev.mono) hev.mono : Evolves (.par :: reportParts) _ _).keeps ?_
  split
  · rw [hrec.keeps .par (by decide), hpar]
  · exact hpar

/-! ### Drills -/

/-- A drill of which a step has ended. -/
def Drill.ended (x : Drill) (step : Nat) (pass : Bool) (failPort : Nat) : Drill :=
  { x with
    left := x.left - (if bitAt x.left step then 2 ^ step else 0)
    passed := x.passed ||| (if pass && bitAt x.mask step then 2 ^ step else 0)
    failed := x.failed || !pass
    failPort := if x.failPort = 0 then failPort else x.failPort }

theorem Dev.drillStep_some {d : Dev} {x : Drill} (h : d.par.drill = some x) (step : Nat) (pass : Bool) (failPort : Nat) :
    d.drillStep step pass failPort = { d with par := { d.par with drill := some (x.ended step pass failPort) } } := by
  unfold Dev.drillStep
  rw [h]
  rfl

/-- The first step of a drill that is not the swap alone. -/
theorem lowBit_of_ne {w : Nat} (h : w % 16 ≠ 0) : ∃ b, (List.range 5).find? (fun b => bitAt (w % 32) b) = some b ∧ b ≠ 4 := by
  have hall : ∀ m < 32, m % 16 ≠ 0 → ∃ b, b < 5 ∧ (List.range 5).find? (fun b => bitAt m b) = some b ∧ b ≠ 4 := by decide
  obtain ⟨b, -, hb⟩ := hall (w % 32) (Nat.mod_lt _ (by decide)) (by omega)
  exact ⟨b, hb⟩

/-- The device that holds a drill of this device: its descriptor is started. -/
def Dev.drilling (d : Dev) (p : Nat) (h : Held) (results : Nat) : Dev :=
  let d1 := (d.markStarted p h.id).wrb F.PAR_DRILL_STS_RUNNING 0 true
  { d1 with par := { d1.par with drill := some { own := true, desc := some (p, h.id), mask := h.desc.word 3 % 32, left := h.desc.word 3 % 32, results := results } } }

theorem Dev.drilling_evolves (d : Dev) (p : Nat) (h : Held) (results : Nat) : Evolves [.par, .regs, .rng] d (d.drilling p h results) :=
  Evolves.par.after <| ((Dev.wrb_evolves ..).after (Dev.markStarted_evolves ..).mono : Evolves [.par, .regs, .rng] _ _)

theorem Dev.drilling_par (d : Dev) (p : Nat) (h : Held) (results : Nat) : (d.drilling p h results).par = { d.par with
    drill := some { own := true, desc := some (p, h.id), mask := h.desc.word 3 % 32, left := h.desc.word 3 % 32, results := results } } := by
  have hev : Evolves [.regs, .rng] d ((d.markStarted p h.id).wrb F.PAR_DRILL_STS_RUNNING 0 true) := (Dev.wrb_evolves ..).after (Dev.markStarted_evolves ..).mono
  unfold Dev.drilling
  dsimp only
  rw [hev.keeps .par (by decide)]

theorem pairDrill_runs {results : BitVec 4} (htakes : s.takes p 0xA2 h) (hok : s.dev.swapRefusal = none) :
    Runs (.pairDrill p results) s ((s.dev.drilling p h results.toNat).drillRun 6) := by
  simp only [Runs, exec, execPairDrill, State.go, State.withDev, htakes.onDesc_eq, hok, Dev.drilling]

theorem pairDrill_asks {results : BitVec 4} (htakes : s.takes p 0xA2 h) (hok : s.dev.swapRefusal = none) (hbow : s.dev.isBow = false)
    (hsteps : h.desc.word 3 % 16 ≠ 0) :
    Does (.pairDrill p results) s (.rng :: .par :: reportParts) (fun d =>
      d.par.drill = some { own := true, desc := some (p.val, h.id), mask := h.desc.word 3 % 32, left := h.desc.word 3 % 32, results := results.toNat }) := by
  have hruns := pairDrill_runs (results := results) htakes hok
  have hev := s.dev.drilling_evolves p h results.toNat
  have hpar := s.dev.drilling_par p h results.toNat
  obtain ⟨e, he⟩ : ∃ e, s.dev.drilling p h results.toNat = e := ⟨_, rfl⟩
  rw [he] at hruns hev hpar
  have hbowe : e.isBow = false := (Dev.isBow_congr (by rw [hpar])).trans hbow
  obtain ⟨b, hfind, hb⟩ := lowBit_of_ne hsteps
  have hrun : e.drillRun 6 = e.pairSend e.openCycle (.drill b []) := by
    unfold Dev.drillRun
    rw [hpar]
    dsimp only
    rw [hfind]
    split
    · next h => cases h
    · next h => exact absurd (Option.some.inj h) hb
    · next h =>
      rw [Option.some.inj h, if_neg (by rw [hbowe]; decide)]
  rw [hrun] at hruns
  have hsend := e.pairSend_keepsPair e.openCycle (.drill b [])
  refine .of hruns ((Dev.pairSend_evolves ..).after hev.mono : Evolves (.rng :: .par :: reportParts) _ _).keeps ?_
  rw [hsend.field Par.drill, hpar]

/-- The steps that are left of a drill. -/
def stepsLeft (left : Nat) : Nat := ((List.range 5).filter (fun b => bitAt left b)).length

/-- A step that ends is one step less that is left. -/
theorem stepsLeft_step : ∀ left < 16, ((List.range 5).find? (fun b => bitAt left b)).all (fun b =>
    decide (b < 4 ∧ left - (if bitAt left b then 2 ^ b else 0) < 16 ∧ stepsLeft (left - (if bitAt left b then 2 ^ b else 0)) < stepsLeft left)) = true := by
  decide

/-- A bow runs the steps of its drill itself, and the drill ends. -/
theorem Dev.drillRun_bow (fuel : Nat) (d : Dev) (x : Drill) (hbow : d.isBow = true) (hdrill : d.par.drill = some x) (hleft : x.left < 16)
    (hfuel : stepsLeft x.left < fuel) : Evolves (.par :: .dirty :: reportParts) d (d.drillRun fuel) ∧ (d.drillRun fuel).par = { d.par with drill := none } := by
  induction fuel generalizing d x with
  | zero => exact absurd hfuel (Nat.not_lt_zero _)
  | succ fuel ih =>
    have hstep := stepsLeft_step x.left hleft
    unfold Dev.drillRun
    rw [hdrill]
    dsimp only
    cases hfind : (List.range 5).find? (fun b => bitAt x.left b) with
    | none => exact ⟨(Dev.drillEnd_evolves ..).mono, Dev.drillEnd_par d⟩
    | some b =>
      rw [hfind] at hstep
      obtain ⟨hb, hless, hfewer⟩ := of_decide_eq_true hstep
      split
      · next h => cases h
      · next h => exact absurd (Option.some.inj h) (by omega)
      · next b' h =>
        obtain rfl := Option.some.inj h
        rw [if_pos hbow, Dev.drillStep_some hdrill]
        obtain ⟨hev, hpar⟩ := ih ({ d with par := { d.par with drill := some (x.ended b (bitAt x.results b) 0) } } : Dev) _ hbow rfl hless
          (Nat.lt_of_lt_of_le hfewer (Nat.le_of_lt_succ hfuel))
        exact ⟨hev.after Evolves.par.mono, hpar⟩

theorem pairDrill_ends {results : BitVec 4} (htakes : s.takes p 0xA2 h) (hok : s.dev.swapRefusal = none) (hbow : s.dev.isBow = true)
    (hsteps : h.desc.word 3 % 32 < 16) :
    Does (.pairDrill p results) s (.rng :: .par :: .dirty :: reportParts) (fun d => d.par.drill = none ∧ d.par.swap = s.dev.par.swap) := by
  have hruns := pairDrill_runs (results := results) htakes hok
  have hev := s.dev.drilling_evolves p h results.toNat
  have hpar := s.dev.drilling_par p h results.toNat
  have hfuel : stepsLeft (h.desc.word 3 % 32) < 6 := Nat.lt_succ_of_le (List.length_filter_le ..)
  obtain ⟨e, he⟩ : ∃ e, s.dev.drilling p h results.toNat = e := ⟨_, rfl⟩
  rw [he] at hruns hev hpar
  have hbowe : e.isBow = true := (Dev.isBow_congr (by rw [hpar])).trans hbow
  obtain ⟨hrun, hend⟩ := Dev.drillRun_bow 6 e _ hbowe (by rw [hpar]) hsteps hfuel
  refine .of hruns (hrun.after hev.mono : Evolves (.rng :: .par :: .dirty :: reportParts) _ _).keeps ?_
  rw [hend, hpar]
  exact ⟨rfl, rfl⟩

theorem drillRx_swapStep {means : List (Nat × Nat × Nat)} {finds : Bool} (htake : (s.dev.pairTake hdr (.drill 4 means)).1 = true)
    (hbow : s.dev.isBow = true) (hdrill : s.dev.par.drill = none) :
    Does (.drillRx hdr 4 means none finds) s [.par, .regs] (fun d => d.on F.PAR_DRILL_STS_RUNNING = true
      ∧ d.par.drill = some { own := false, desc := none, mask := 16, left := 16, means := means } ∧ KeepsRegs [F.PAR_DRILL_STS_RUNNING.at 0] s.dev d) := by
  obtain ⟨e, w, n, hev, hpar, hruns⟩ := Runs.of_taken (c := .drillRx hdr 4 means none finds) htake rfl
  have hbowe : e.isBow = true := (Dev.isBow_congr (by rw [hpar])).trans hbow
  have hnone : e.par.drill = none := by rw [hpar]; exact hdrill
  obtain ⟨e1, he1⟩ : ∃ e1 : Dev, { e with par := { e.par with drill := some { own := false, desc := none, mask := 16, left := 16, means := means } } } = e1 := ⟨_, rfl⟩
  have hev1 : Evolves [.par] s.dev e1 := he1 ▸ Evolves.par.after hev
  have hfour : ¬ (((4 : Fin 5) : Nat) < 4) := by decide
  simp only [if_neg hfour, hbowe, if_true, hnone, he1] at hruns
  have hwrb := e1.wrb_evolves F.PAR_DRILL_STS_RUNNING 0 true
  refine .of hruns (hwrb.after hev1.mono : Evolves [.par, .regs] _ _).keeps ⟨Dev.on_wrb _ _ _ _ (by decide) rfl, ?_, hev1.keeps.keepsRegs.trans keepsRegs_wrb⟩
  rw [hwrb.keeps .par (by decide), ← he1]

/-- What a drill looks for on the ports is not what the passing of time or the count of its windows changes. -/
theorem Dev.drillPort_congr {d e : Dev} {x y : Drill} (hev : Evolves [.par, .tim, .evr] d e) (hd : d.par.drill = some x) (he : e.par = { d.par with drill := some y })
    (hlost : y.fdLost = x.fdLost) : e.drillPort = d.drillPort := by
  have hregs := hev.keeps .regs (by decide)
  have hgrade := hev.keeps .grade (by decide)
  have hgate : e.gateOpen = d.gateOpen := by
    unfold Dev.gateOpen Dev.isSafe
    rw [Dev.on_congr hregs hgrade, hgrade, hev.keeps .upd (by decide), he]
  have hheld (n : Nat) : e.radHeld n = d.radHeld n := by
    unfold Dev.radHeld Dev.rp
    rw [hgate, Dev.on_congr hregs hgrade, hev.keeps .rad (by decide)]
  have hon (f : Nat) : e.isOn f = d.isOn f := by
    unfold Dev.isOn Dev.fnOf
    rw [hev.keeps .fn (by decide)]
  unfold Dev.drillPort
  rw [he, hd]
  simp only [hlost, hheld, hon, Dev.on_congr hregs hgrade]

/-- A port without exchanges fails in no window. -/
theorem Dev.windowFails_none (d : Dev) (y : Drill) (k : Nat) : d.windowFails y (k, 0, 0) = false := by
  unfold Dev.windowFails
  simp

section
variable {x : Drill} {t : Nat} (hdrill : s.dev.par.drill = some x) (hhold : x.holdFrom = some t) (hlive : s.dev.live = true) (hrole : s.dev.par.role = .stroke)
  (hbit : bitAt x.left 4 = true)
include hdrill hhold hlive hrole hbit

theorem drillWindow_passes (hruns0 : x.runs = []) (hlog : s.dev.par.exLog = []) (hport : s.dev.drillPort = none) :
    Does .drillWindow s [.par, .tim, .evr] (fun d => d.par = { s.dev.par with drill := some { x with windows := x.windows + 1 } }) := by
  obtain ⟨d1, hd1⟩ : ∃ d1, s.dev.toMono (t + (x.windows + 1) * msC 60000) = d1 := ⟨_, rfl⟩
  have htime : Evolves [.tim, .evr] s.dev d1 := hd1 ▸ Dev.toMono_evolves ..
  have hpar1 : d1.par = s.dev.par := htime.keeps .par (by decide)
  have hshares : d1.portShares (msC 60000) = (List.range 6).map (fun k => (k, 0, 0)) := by
    unfold Dev.portShares
    rw [hpar1, hlog]
    rfl
  have hnoruns : (d1.portShares (msC 60000)).foldl (fun (r : Tab Nat) w => if d1.windowFails x w then r.put w.1 (r.getD w.1 0 + 1) else r.del w.1) x.runs = [] := by
    have hall (l : List Nat) : (l.map (fun k => (k, 0, 0))).foldl
        (fun (r : Tab Nat) w => if d1.windowFails x w then r.put w.1 (r.getD w.1 0 + 1) else r.del w.1) [] = [] := by
      induction l with
      | nil => rfl
      | cons a l ih =>
        rw [List.map_cons, List.foldl_cons, if_neg (by rw [Dev.windowFails_none]; decide)]
        exact ih
    rw [hshares, hruns0]
    exact hall _
  obtain ⟨d2, hd2⟩ : ∃ d2 : Dev, { d1 with par := { d1.par with drill := some { x with holdFrom := some t, windows := x.windows + 1, runs := [] } } } = d2 := ⟨_, rfl⟩
  have hev2 : Evolves [.par, .tim, .evr] s.dev d2 := hd2 ▸ Evolves.par.after htime.mono
  have hpar2 : d2.par = { s.dev.par with drill := some { x with windows := x.windows + 1, runs := [] } } := by rw [← hd2, hpar1, ← hhold]
  have hnone : d2.drillPort = none := (Dev.drillPort_congr hev2 hdrill hpar2 rfl).trans hport
  have hmay : (s.dev.live && decide (s.dev.par.role = .stroke) && bitAt x.left 4) = true := by
    rw [hlive, hrole, hbit]
    rfl
  have hruns : Runs .drillWindow s d2 := by
    simp only [Runs, exec, execDrillWindow, State.go, State.withDev, hdrill, hhold, hmay, Bool.not_true, if_neg Bool.false_ne_true, hd1, hnoruns, hd2, hnone, List.find?_nil]
  refine .of hruns hev2.keeps ?_
  rw [hpar2, ← hruns0]

variable (hsweeps : s.dev.tar.sweeps ≠ [])
include hsweeps

omit hlive in
/-- The SWAP step of a drill that holds is over: the result is noted, and the device swaps back. -/
theorem Dev.drillOver_par {e : Dev} (hev : Evolves [.tim, .evr] s.dev e) (pass : Bool) (failPort : Nat) :
    Evolves (.par :: reportParts) e (e.drillOver pass failPort) ∧ (e.drillOver pass failPort).par.swap = some { phase := .sweep, desc := none }
      ∧ (e.drillOver pass failPort).par.drill = some (x.ended 4 pass failPort) := by
  have hpar : e.par = s.dev.par := hev.keeps .par (by decide)
  have hdrill' : e.par.drill = some x := by rw [hpar]; exact hdrill
  unfold Dev.drillOver
  rw [hdrill']
  dsimp -zeta only
  rw [if_neg (by rw [hhold, hbit]; exact Bool.false_ne_true)]
  extract_lets d1 d2 d3
  have h1 : d1 = { e with par := { e.par with drill := some (x.ended 4 pass failPort) } } := Dev.drillStep_some hdrill' ..
  have hev1 : Evolves [.par] e d1 := h1 ▸ Evolves.par
  have hpar1 : d1.par = { s.dev.par with drill := some (x.ended 4 pass failPort) } := by rw [h1, hpar]
  have hev2 : Evolves [.regs] d1 d2 := .ite .refl (Dev.wr_evolves ..)
  have hpair2 : KeepsPair d1 d2 := .of_evolves hev2
  have hpair3 : KeepsPair d1 d3 := .ite hpair2 (hpair2.trans (Dev.pairSend_keepsPair ..))
  have hev3 : Evolves (.par :: reportParts) d1 d3 := .ite hev2.mono ((Dev.pairSend_evolves ..).after hev2.mono)
  have hrole3 : d3.par.role = .stroke := by
    rw [hpair3.field Par.role, hpar1]
    exact hrole
  have hsweeps3 : d3.tar.sweeps ≠ [] := by
    rw [hev3.keeps .tar (by decide), hev1.keeps .tar (by decide), hev.keeps .tar (by decide)]
    exact hsweeps
  rw [Dev.swapStart_sweeps hrole3 hsweeps3]
  exact ⟨Evolves.par.after (hev3.after hev1.mono : Evolves (.par :: reportParts) _ _), rfl, (hpair3.field Par.drill).trans (by rw [hpar1])⟩

theorem drillHoldEnd_fails {k : Nat} (hport : s.dev.drillPort = some k) :
    Does .drillHoldEnd s (.par :: reportParts) (fun d => d.par.swap = some { phase := .sweep, desc := none }
      ∧ d.par.drill = some { x with left := x.left - 16, failed := true, failPort := if x.failPort = 0 then k else x.failPort }) := by
  have hmay : (s.dev.live && decide (s.dev.par.role = .stroke)) = true := by
    rw [hlive, hrole]
    rfl
  have hruns : Runs .drillHoldEnd s (s.dev.drillOver false k) := by
    simp only [Runs, exec, execDrillHoldEnd, State.go, State.withDev, hdrill, hhold, hmay, Bool.not_true, if_neg Bool.false_ne_true, hport]
  obtain ⟨hev, hswap, hend⟩ := Dev.drillOver_par hdrill hhold hrole hbit hsweeps .refl false k
  refine .of hruns hev.keeps ⟨hswap, hend.trans ?_⟩
  simp [Drill.ended, hbit]

theorem drillHoldEnd_passes (hport : s.dev.drillPort = none) :
    Does .drillHoldEnd s (.par :: .tim :: reportParts) (fun d => d.par.swap = some { phase := .sweep, desc := none }
      ∧ d.par.drill = some { x with left := x.left - 16, passed := x.passed ||| (if bitAt x.mask 4 then 16 else 0) }) := by
  have hmay : (s.dev.live && decide (s.dev.par.role = .stroke)) = true := by
    rw [hlive, hrole]
    rfl
  obtain ⟨d1, hd1⟩ : ∃ d1, s.dev.toMono (t + msC (60000 * s.dev.rd F.PAR_DRILL_CFG_DRILL_HOLD)) = d1 := ⟨_, rfl⟩
  have htime : Evolves [.tim, .evr] s.dev d1 := hd1 ▸ Dev.toMono_evolves ..
  have hruns : Runs .drillHoldEnd s (d1.drillOver true 0) := by
    simp only [Runs, exec, execDrillHoldEnd, State.go, State.withDev, hdrill, hhold, hmay, Bool.not_true, if_neg Bool.false_ne_true, hport, hd1]
  obtain ⟨hev, hswap, hend⟩ := Dev.drillOver_par hdrill hhold hrole hbit hsweeps htime true 0
  refine .of hruns (hev.after htime.mono : Evolves (.par :: .tim :: reportParts) _ _).keeps ⟨hswap, hend.trans ?_⟩
  have hport0 : (if x.failPort = 0 then 0 else x.failPort) = x.failPort := by
    split
    · next h => exact h.symm
    · rfl
  simp [Drill.ended, hbit, hport0]

end

end

/-- Settles O41, one command after the other. -/
theorem swapsCatchUpsAndDrills : Obligations.SwapsCatchUpsAndDrills :=
  ⟨fun _ _ _ => pairStatus_answers, fun _ _ _ => pairSwap_asks, fun _ _ _ => pairSwap_starts, fun _ _ => swapRx_takes, fun _ _ => swapRx_waits,
    fun _ _ => swapTimeout_reclaims, fun _ => catchupRequest_asks, fun _ _ => catchupRequest_answers, fun _ _ _ => catchupRx_applies, fun _ _ => catchupRx_ends,
    fun _ _ => catchupDone_ready, fun _ _ => catchupDone_leavesSolo, fun _ _ _ _ => pairDrill_asks, fun _ _ _ _ => pairDrill_ends, fun _ _ _ _ => drillRx_swapStep,
    fun _ _ _ hdrill hhold hlive hrole hbit => drillWindow_passes hdrill hhold hlive hrole hbit,
    fun _ _ _ _ hdrill hhold hlive hrole hbit hport hsweeps => drillHoldEnd_fails hdrill hhold hlive hrole hbit hsweeps hport,
    fun _ _ _ hdrill hhold hlive hrole hbit hport hsweeps => drillHoldEnd_passes hdrill hhold hlive hrole hbit hsweeps hport⟩

end Sys2Proof.Machine
end

section

-- one proof after the other: the check gives the text few threads
set_option Elab.async false

namespace Sys2Proof.Machine

/-! ## O42: late transactions merged with one heat entry -/

/-- The transaction of a READ_NOW of meter 3 merged with the heat entry, due at the monotonic count 5; `id` is its descriptor on pair 0. -/
def mergedRead (id : Nat) : Xfer := { mix := 3, port := 16, heat := true, descs := [(0, id)], deadline := some 5 }

/-- The attempts of the meter's heat entry are spent, and two late transactions merged with it wait. -/
def twoMerged : State := .booted fun d => { d with sch := { d.sch with
  grps := [(0, { heat := some { start := 0, from_ := 0, until_ := 100, pol := {} } })]
  entries := [(3, { grp := 0, port := 16, due := 0, made := 4 })]
  wait := [mergedRead 1, mergedRead 2] } }

/-- The first that is dropped ends the entry, which takes the second out of the merge; as it was before, it no longer waits. -/
theorem twoMerged_keeps_one : (twoMerged.devAfter (.transactionDeadline 0)).sch.wait = [{ mergedRead 2 with heat := false }] := by
  decide +kernel

/-- Refutes O42 in its clause on TRANSACTION_DEADLINE: dropping a late transaction can change another late one that is merged with the same
heat entry, and the model, which looks for that one as it was, then leaves it waiting past its deadline. -/
theorem not_portsAndExchanges : ¬ Obligations.PortsAndExchanges := by
  unfold Obligations.PortsAndExchanges
  rintro ⟨-, -, -, -, -, -, -, -, -, -, -, -, -, hdeadline⟩
  obtain ⟨hpassed, hwait⟩ := (hdeadline twoMerged 0 5 (by decide +kernel) (by decide +kernel)).devAfter
  rw [twoMerged_keeps_one] at hwait
  obtain hnone | hlater := hwait _ List.mem_cons_self
  · exact absurd hnone (by decide)
  · exact absurd hlater (Nat.not_lt.mpr hpassed)

end Sys2Proof.Machine

end

section

-- one proof after the other: the check gives the text few threads
set_option Elab.async false

namespace Sys2Proof.Machine

/-! ## O43: time checks, steps, PTP ports -/

/-- A time check judges the validity and grants a free step where there was no time. -/
theorem Dev.timeCheck_tim (d : Dev) :
    d.timeCheck.tim = { d.tim with freeStep := d.tim.freeStep || d.noTime, valid := d.timeValid } := by
  unfold Dev.timeCheck
  extract_lets v d0 d1
  split
  case isTrue hv =>
    change { d.tim with freeStep := d.tim.freeStep || d.noTime } = _
    rw [← show v = d.timeValid from rfl, hv]
  case isFalse => exact (Dev.recordPost_evolves ..).keeps .tim (by decide)

theorem Dev.realign_steps (d : Dev) (back : Bool) : (d.realign back).tim.steps = d.tim.steps := rfl

theorem Dev.realign_leap (d : Dev) (back : Bool) : (d.realign back).tim.leap = d.tim.leap := rfl

/-- A step of device time counts, and leaves a leap second as it is announced. -/
theorem Dev.stepTime_tim (d : Dev) (by_ : Int) : (d.stepTime by_).tim.steps = d.tim.steps + 1 ∧ (d.stepTime by_).tim.leap = d.tim.leap := by
  unfold Dev.stepTime
  extract_lets before tot time big held _ _ _ d1 d2 d3 n d4 d5
  have hsteps1 : d1.tim.steps = d.tim.steps + 1 := rfl
  have hleap1 : d1.tim.leap = d.tim.leap := rfl
  have hslots : Evolves [.ctx, .regs] d1 (((d1.mapCtx (fun _ c => if c.nextSlot = 0 then c else { c with nextSlot := ((c.nextSlot : Int) + by_).toNat })).wrb
    F.TIM_STS_STEPPED 0 true).bump F.TIM_STEPS) := (Dev.bump_evolves ..).after <| (Dev.wrb_evolves ..).after <| (Dev.mapCtx_evolves ..).mono
  have hsteps2 : d2.tim.steps = d1.tim.steps := by
    unfold d2
    rw [Dev.realign_steps, hslots.keeps .tim (by decide)]
  have hleap2 : d2.tim.leap = d1.tim.leap := by
    unfold d2
    rw [Dev.realign_leap, hslots.keeps .tim (by decide)]
  clear_value d1 d2
  have hrecs : Evolves reportParts d2 d5 :=
    .ite ((Dev.post_evolves ..).after (.ite ((Dev.record_evolves ..).after (Dev.record_evolves ..).mono) (Dev.record_evolves ..).mono))
      (.ite ((Dev.record_evolves ..).after (Dev.record_evolves ..).mono) (Dev.record_evolves ..).mono)
  rw [Dev.timeCheck_tim, hrecs.keeps .tim (by decide)]
  exact ⟨hsteps2.trans hsteps1, hleap2.trans hleap1⟩

/-- The four ports of a device that keeps four. -/
theorem port_lt {l : List PtpPort} {port : Fin 4} (hlen : l.length = 4) : port.val < l.length := by
  rw [hlen]
  exact port.isLt

theorem txDly_spared (port : Fin 4) : F.TIM_ETH_DLY_TX_DLY.at port ∉ [F.TIM_PTP_STS_STATE.at 0] := by
  revert port
  decide

theorem link_spared (port : Fin 4) : F.ETH_STS_LINK.at port ∉ [F.TIM_PTP_STS_STATE.at 0] := by
  revert port
  decide

theorem Dev.tim_setPtp (d : Dev) (p : Nat) (x : PtpPort) : (d.setPtp p x).tim = { d.tim with ptp := d.tim.ptp.set p x } := rfl

theorem Dev.ptpPort_congr {d e : Dev} (h : e.tim = d.tim) (p : Nat) : e.ptpPort p = d.ptpPort p := by
  unfold Dev.ptpPort
  rw [h]

theorem Dev.ptpPort_setPtp_same (d : Dev) {p : Nat} (x : PtpPort) (hp : p < d.tim.ptp.length) : (d.setPtp p x).ptpPort p = x := by
  simp [Dev.ptpPort, Dev.tim_setPtp, List.getD, hp]

theorem Dev.ptpPort_setPtp_other (d : Dev) {p q : Nat} (x : PtpPort) (hq : p ≠ q) : (d.setPtp p x).ptpPort q = d.ptpPort q := by
  simp [Dev.ptpPort, Dev.tim_setPtp, List.getD, hq]

theorem Dev.setPtp_keepsRegs {d : Dev} {p : Nat} {x : PtpPort} : KeepsRegs [F.TIM_PTP_STS_STATE.at 0] d (d.setPtp p x) := fun off hoff =>
  (Dev.word_congr rfl rfl off).trans (keepsRegs_wr off hoff)

/-- Judging the ports changes their states and parents alone. -/
structure PtpJudged (d e : Dev) : Prop where
  parts : Evolves [.regs, .tim] d e
  regs : KeepsRegs [F.TIM_PTP_STS_STATE.at 0] d e
  tim : e.tim = { d.tim with ptp := e.tim.ptp }
  length : e.tim.ptp.length = d.tim.ptp.length
  port : ∀ p, ∃ st parent, e.ptpPort p = { d.ptpPort p with st := st, parent := parent }

theorem PtpJudged.refl {d : Dev} : PtpJudged d d := ⟨.refl, .refl, rfl, rfl, fun _ => ⟨_, _, rfl⟩⟩

theorem PtpJudged.trans {d e x : Dev} (h1 : PtpJudged d e) (h2 : PtpJudged e x) : PtpJudged d x where
  parts := h2.parts.after h1.parts
  regs := h1.regs.trans h2.regs
  tim := by rw [h2.tim, h1.tim]
  length := h2.length.trans h1.length
  port p := by
    obtain ⟨st, parent, hp⟩ := h2.port p
    obtain ⟨st', parent', hp'⟩ := h1.port p
    exact ⟨st, parent, by rw [hp, hp']⟩

theorem Dev.setPtp_judged (d : Dev) (p st parent : Nat) : PtpJudged d (d.setPtp p { d.ptpPort p with st := st, parent := parent }) where
  parts := Dev.setPtp_evolves ..
  regs := Dev.setPtp_keepsRegs
  tim := rfl
  length := List.length_set
  port q := by
    by_cases hq : p = q
    · subst hq
      by_cases hp : p < d.tim.ptp.length
      · exact ⟨st, parent, Dev.ptpPort_setPtp_same _ _ hp⟩
      · refine ⟨(d.ptpPort p).st, (d.ptpPort p).parent, ?_⟩
        rw [Dev.ptpPort, Dev.tim_setPtp, List.set_eq_of_length_le (Nat.not_lt.mp hp)]
        rfl
    · exact ⟨(d.ptpPort q).st, (d.ptpPort q).parent, Dev.ptpPort_setPtp_other _ _ hq⟩

theorem PtpJudged.foldl {f : Dev → Nat → Dev} (hf : ∀ y p, PtpJudged y (f y p)) (l : List Nat) (d : Dev) : PtpJudged d (l.foldl f d) := by
  induction l generalizing d with
  | nil => exact .refl
  | cons p t ih => exact (hf d p).trans (ih _)

theorem Dev.bmca_judged (d : Dev) : PtpJudged d d.bmca := .foldl (fun y p => Dev.setPtp_judged y p _ _) _ _

theorem PtpJudged.toTai {d e : Dev} (h : PtpJudged d e) (t : Int) : e.toTai t = d.toTai t := by
  unfold Dev.toTai
  rw [h.tim, h.regs.rd _ _ (by decide)]

/-- A message goes out over a link that is up. -/
theorem Dev.ptpOut_out {d : Dev} {p : Nat} (kind seq : Nat) (t : Int) (hlink : d.linkUp p = true) : Out.ptpTx p kind seq t ∈ (d.ptpOut p kind seq t).out := by
  rw [Dev.ptpOut, if_pos hlink]
  exact ((Dev.ethCount_out ..).trans (Dev.ethCount_out ..)).subset List.mem_cons_self

theorem Dev.ptpOut_grows (d : Dev) (p kind seq : Nat) (t : Int) : d.out <:+ (d.ptpOut p kind seq t).out := by
  unfold Dev.ptpOut
  split
  · have hemit : d.out <:+ (d.emit (.ptpTx p kind seq t)).out := List.suffix_cons ..
    exact hemit.trans ((Dev.ethCount_out ..).trans (Dev.ethCount_out ..))
  · exact Dev.ethCount_out ..

theorem Dev.ptpFollow_grows (d : Dev) (p kind seq : Nat) (t : Int) : d.out <:+ (d.ptpFollow p kind seq t).out := by
  unfold Dev.ptpFollow
  split
  · exact Dev.ptpOut_grows ..
  · exact List.suffix_refl _

theorem Dev.linkUp_congr {d e : Dev} (hfn : e.fn = d.fn) {p : Nat} (hon : e.on F.ETH_STS_LINK p = d.on F.ETH_STS_LINK p) : e.linkUp p = d.linkUp p := by
  unfold Dev.linkUp Dev.isOn Dev.fnOf
  rw [hfn, hon]

section
variable {s : State}

theorem holdover24h_judges {m : Nat} (hhold : s.dev.tim.holdSince = some m) (hlive : s.dev.live = true) :
    Does .holdover24h s (.tim :: reportParts) (fun d => d.tim.valid = (s.dev.toMono (m + (86401 - s.dev.tim.holdOfs) * 500000000)).timeValid
      ∧ m + (86401 - s.dev.tim.holdOfs) * 500000000 ≤ d.tim.mono) := by
  have hruns : Runs .holdover24h s (s.dev.toMono (m + (86401 - s.dev.tim.holdOfs) * 500000000)).timeCheck := by
    simp only [Runs, exec, execHoldover24h, State.go, State.withDev, hhold, hlive, if_true]
  generalize m + (86401 - s.dev.tim.holdOfs) * 500000000 = t at hruns ⊢
  refine .of hruns ((Dev.timeCheck_evolves ..).after (Dev.toMono_evolves ..).mono).keeps ?_
  rw [Dev.timeCheck_tim]
  exact ⟨rfl, show t ≤ s.dev.tim.mono + (t - s.dev.tim.mono) by omega⟩

end

/-! ### PTP messages -/

section
variable {s : State} {port : Fin 4}

/-- A message is taken by a port that takes part. -/
theorem ptpMessageRx_runs {msg : PtpMsg} {e : Dev} (he : s.dev.ptpRx port msg = e) : Runs (.ptpMessageRx port msg) s e := by
  simp only [Runs, exec, execPtpMessageRx, State.go, State.withDev, he]

theorem ptpMessageRx_announce {who p1 cls acc var p2 gm steps leap : Nat} {utc : Option Nat} (hon : s.dev.ptpOn port = true)
    (hbest : (s.dev.ptpPort port).best = none) (hlen : s.dev.tim.ptp.length = 4) :
    Does (.ptpMessageRx port (.announce (s.dev.rd F.TIM_PTP_CFG_DOMAIN) who p1 cls acc var p2 gm steps utc leap)) s [.tim, .regs] (fun d =>
      (d.ptpPort port).best = some [p1, cls, acc, var, p2, gm, steps, who]
        ∧ KeepsRegs [F.TIM_PTP_STS_STATE.at 0, F.TIM_STS_LEAP_PEND.at 0] s.dev d) := by
  obtain ⟨d1, hd1⟩ : ∃ d1, s.dev.setPtp port { s.dev.ptpPort port with best := some [p1, cls, acc, var, p2, gm, steps, who] } = d1 := ⟨_, rfl⟩
  have hev1 : Evolves [.regs, .tim] s.dev d1 := hd1 ▸ Dev.setPtp_evolves ..
  have hregs1 : KeepsRegs [F.TIM_PTP_STS_STATE.at 0] s.dev d1 := hd1 ▸ Dev.setPtp_keepsRegs
  have hbest1 : (d1.ptpPort port).best = some [p1, cls, acc, var, p2, gm, steps, who] := by
    rw [← hd1, Dev.ptpPort_setPtp_same _ _ (port_lt hlen)]
  have hjudged := d1.bmca_judged
  have hbest2 : (d1.bmca.ptpPort port).best = some [p1, cls, acc, var, p2, gm, steps, who] := by
    obtain ⟨st, parent, hp⟩ := hjudged.port port
    rw [hp, hbest1]
  have hregs2 : KeepsRegs [F.TIM_PTP_STS_STATE.at 0, F.TIM_STS_LEAP_PEND.at 0] s.dev d1.bmca :=
    (hregs1.trans hjudged.regs).mono (by simp)
  have hev2 : Evolves [.regs, .tim] s.dev d1.bmca := hjudged.parts.after hev1
  obtain ⟨d2, hd2⟩ : ∃ d2, d1.bmca = d2 := ⟨_, rfl⟩
  obtain ⟨d3, hd3⟩ : ∃ d3 : Dev, { d2 with tim := { d2.tim with utcOfs := utc, leap := leap } } = d3 := ⟨_, rfl⟩
  have hruns : Runs (.ptpMessageRx port (.announce (s.dev.rd F.TIM_PTP_CFG_DOMAIN) who p1 cls acc var p2 gm steps utc leap)) s
      (if ((d2.ptpPort port).st = 2 ∨ (d2.ptpPort port).st = 3) ∧ (d2.ptpPort port).parent = who then
        d3.wrb F.TIM_STS_LEAP_PEND 0 (decide (leap ≠ 0)) else d2) := ptpMessageRx_runs (by
    simp only [Dev.ptpRx, hon, hbest, Bool.not_true, Bool.false_eq_true, if_false, ne_eq, not_true_eq_false, if_true, hd1, hd2, hd3])
  rw [hd2] at hbest2 hregs2 hev2
  have hev3 : Evolves [.tim] d2 d3 := hd3 ▸ Evolves.tim
  have hregs3 : KeepsRegs [F.TIM_PTP_STS_STATE.at 0, F.TIM_STS_LEAP_PEND.at 0] d2 (d3.wrb F.TIM_STS_LEAP_PEND 0 (decide (leap ≠ 0))) :=
    (hev3.keeps.keepsRegs).trans (keepsRegs_wrb.mono (by simp))
  have hbest3 : (d3.ptpPort port).best = (d2.ptpPort port).best := by rw [← hd3, Dev.ptpPort, Dev.ptpPort]
  split at hruns
  · refine .of hruns ((Dev.wrb_evolves ..).after <| hev3.after hev2.mono).keeps ⟨?_, hregs2.trans hregs3⟩
    rw [Dev.ptpPort_congr ((Dev.wrb_evolves ..).keeps .tim (by decide)), hbest3, hbest2]
  · exact .of hruns hev2.into ⟨hbest2, hregs2⟩

theorem ptpMessageRx_otherDomain {dm who p1 cls acc var p2 gm steps leap : Nat} {utc : Option Nat} (hon : s.dev.ptpOn port = true)
    (hdm : dm ≠ s.dev.rd F.TIM_PTP_CFG_DOMAIN) :
    Runs (.ptpMessageRx port (.announce dm who p1 cls acc var p2 gm steps utc leap)) s s.dev := ptpMessageRx_runs (by
  simp only [Dev.ptpRx, hon, Bool.not_true, Bool.false_eq_true, if_false, ne_eq, hdm, not_false_eq_true, if_true])

theorem ptpMessageRx_other : Runs (.ptpMessageRx port .other) s s.dev := ptpMessageRx_runs (by simp [Dev.ptpRx])

theorem ptpMessageRx_sync {who seq : Nat} {origin corr : Int} (hon : s.dev.ptpOn port = true) (hlen : s.dev.tim.ptp.length = 4)
    (hst : (s.dev.ptpPort port).st = 2 ∨ (s.dev.ptpPort port).st = 3) (hwho : (s.dev.ptpPort port).parent = who) :
    Does (.ptpMessageRx port (.sync (s.dev.rd F.TIM_PTP_CFG_DOMAIN) who seq true origin corr)) s [.tim, .regs] (fun d =>
      d.ptpPort port = { s.dev.ptpPort port with sync := some (seq, s.dev.rxStamp port - corr) } ∧ KeepsRegs [F.TIM_PTP_STS_STATE.at 0] s.dev d) := by
  have hruns : Runs (.ptpMessageRx port (.sync (s.dev.rd F.TIM_PTP_CFG_DOMAIN) who seq true origin corr)) s
      (s.dev.setPtp port { s.dev.ptpPort port with sync := some (seq, s.dev.rxStamp port - corr) }) := ptpMessageRx_runs (by
    simp only [Dev.ptpRx, hon, hst, hwho, Bool.not_true, Bool.false_eq_true, if_false, ne_eq, not_true_eq_false, if_true, decide_true, decide_false,
      Bool.or_false])
  exact .of hruns (Dev.setPtp_evolves ..).into ⟨Dev.ptpPort_setPtp_same _ _ (port_lt hlen), Dev.setPtp_keepsRegs⟩

/-- Without a known delay, an origin gives the offset plus delay alone. -/
theorem Dev.ptpOrigin_raw {d : Dev} {p : Nat} (rx origin : Int) (hdelay : (d.ptpPort p).delay = none) :
    d.ptpOrigin p rx origin = d.setPtp p { d.ptpPort p with raw := some (rx - d.toUtc origin), sync := none } := by
  simp only [Dev.ptpOrigin, hdelay]

theorem ptpMessageRx_syncOneStep {who seq : Nat} {origin corr : Int} (hon : s.dev.ptpOn port = true) (hlen : s.dev.tim.ptp.length = 4)
    (hst : (s.dev.ptpPort port).st = 2 ∨ (s.dev.ptpPort port).st = 3) (hwho : (s.dev.ptpPort port).parent = who)
    (hdelay : (s.dev.ptpPort port).delay = none) :
    Does (.ptpMessageRx port (.sync (s.dev.rd F.TIM_PTP_CFG_DOMAIN) who seq false origin corr)) s [.tim, .regs] (fun d =>
      d.ptpPort port = { s.dev.ptpPort port with raw := some (s.dev.rxStamp port - corr - s.dev.toUtc origin), sync := none }) := by
  have hruns : Runs (.ptpMessageRx port (.sync (s.dev.rd F.TIM_PTP_CFG_DOMAIN) who seq false origin corr)) s
      (s.dev.setPtp port { s.dev.ptpPort port with raw := some (s.dev.rxStamp port - corr - s.dev.toUtc origin), sync := none }) := ptpMessageRx_runs (by
    simp only [Dev.ptpRx, hon, hst, hwho, Bool.not_true, Bool.false_eq_true, if_false, ne_eq, not_true_eq_false, decide_true, decide_false,
      Bool.or_false, Dev.ptpOrigin_raw _ _ hdelay])
  exact .of hruns (Dev.setPtp_evolves ..).into (Dev.ptpPort_setPtp_same _ _ (port_lt hlen))

theorem ptpMessageRx_followUp {who seq : Nat} {rx origin corr : Int} (hon : s.dev.ptpOn port = true) (hlen : s.dev.tim.ptp.length = 4)
    (hst : (s.dev.ptpPort port).st = 2 ∨ (s.dev.ptpPort port).st = 3) (hwho : (s.dev.ptpPort port).parent = who)
    (hsync : (s.dev.ptpPort port).sync = some (seq, rx)) (hdelay : (s.dev.ptpPort port).delay = none) :
    Does (.ptpMessageRx port (.followUp (s.dev.rd F.TIM_PTP_CFG_DOMAIN) who seq origin corr)) s [.tim, .regs] (fun d =>
      d.ptpPort port = { s.dev.ptpPort port with raw := some (rx - corr - s.dev.toUtc origin), sync := none }) := by
  have hruns : Runs (.ptpMessageRx port (.followUp (s.dev.rd F.TIM_PTP_CFG_DOMAIN) who seq origin corr)) s
      (s.dev.setPtp port { s.dev.ptpPort port with raw := some (rx - corr - s.dev.toUtc origin), sync := none }) := ptpMessageRx_runs (by
    simp only [Dev.ptpRx, hon, hst, hwho, hsync, Bool.not_true, Bool.false_eq_true, if_false, ne_eq, not_true_eq_false, decide_true, decide_false,
      Bool.or_false, if_true, Dev.ptpOrigin_raw _ _ hdelay])
  exact .of hruns (Dev.setPtp_evolves ..).into (Dev.ptpPort_setPtp_same _ _ (port_lt hlen))

theorem ptpMessageRx_delayResp {who seq : Nat} {rx turn t3 raw : Int} (hon : s.dev.ptpOn port = true) (hlen : s.dev.tim.ptp.length = 4)
    (hst : (s.dev.ptpPort port).st = 2 ∨ (s.dev.ptpPort port).st = 3) (ht3 : (s.dev.ptpPort port).t3 = some (seq, t3))
    (hraw : (s.dev.ptpPort port).raw = some raw) (hprofile : s.dev.rd F.TIM_PTP_CFG_PROFILE ≠ 1) :
    Does (.ptpMessageRx port (.delayResp (s.dev.rd F.TIM_PTP_CFG_DOMAIN) who seq rx turn)) s [.tim, .regs] (fun d =>
      d.ptpPort port = { s.dev.ptpPort port with t3 := none, delay := some ((raw + (s.dev.toUtc rx - t3)) / 2) }) := by
  have hruns : Runs (.ptpMessageRx port (.delayResp (s.dev.rd F.TIM_PTP_CFG_DOMAIN) who seq rx turn)) s
      (s.dev.setPtp port { s.dev.ptpPort port with t3 := none, delay := some ((raw + (s.dev.toUtc rx - t3)) / 2) }) := ptpMessageRx_runs (by
    simp only [Dev.ptpRx, hon, hst, ht3, hraw, hprofile, Bool.not_true, Bool.false_eq_true, if_false, ne_eq, not_true_eq_false, decide_true, decide_false,
      Bool.or_false, if_true])
  exact .of hruns (Dev.setPtp_evolves ..).into (Dev.ptpPort_setPtp_same _ _ (port_lt hlen))

theorem ptpMessageRx_delayReq {who seq : Nat} (hon : s.dev.ptpOn port = true) (hst : (s.dev.ptpPort port).st = 4) (hlink : s.dev.linkUp port = true) :
    Does (.ptpMessageRx port (.delayReq (s.dev.rd F.TIM_PTP_CFG_DOMAIN) who seq)) s (.eth :: reportParts) (fun d =>
      .ptpTx port 3 seq (s.dev.toTai (s.dev.rxStamp port)) ∈ d.out) := by
  have hruns : Runs (.ptpMessageRx port (.delayReq (s.dev.rd F.TIM_PTP_CFG_DOMAIN) who seq)) s
      (s.dev.ptpOut port 3 seq (s.dev.toTai (s.dev.rxStamp port))) := ptpMessageRx_runs (by
    simp only [Dev.ptpRx, hon, hst, Bool.not_true, Bool.false_eq_true, if_false, ne_eq, not_true_eq_false, decide_true, decide_false, Bool.true_or,
      Bool.or_false])
  exact .of hruns (Dev.ptpOut_evolves ..).into (Dev.ptpOut_out _ _ _ hlink)

/-! ### Messages that fall due -/

/-- A message that may go is sent with the port's number and its time, and its follow-up after it. -/
theorem ptpMessageTx_sends {kind : Fin 3} (hon : s.dev.ptpOn port = true) (hlink : s.dev.linkUp port = true) (hpause : (s.dev.ep port).pauseUntil = none)
    (hok : (if kind.val = 2 then decide ((s.dev.bmca.ptpPort port).st = 2 ∨ (s.dev.bmca.ptpPort port).st = 3)
        || s.dev.bmca.rd F.TIM_PTP_CFG_PROFILE = 1 else decide ((s.dev.bmca.ptpPort port).st = 4) && !s.dev.bmca.isBow) = true) :
    Does (.ptpMessageTx port kind) s (.tim :: .eth :: reportParts) (fun d =>
      .ptpTx port kind (s.dev.bmca.ptpPort port).txSeq (s.dev.toTai (s.dev.nowNs + s.dev.rd F.TIM_ETH_DLY_TX_DLY port : Nat)) ∈ d.out
        ∧ (port.val < s.dev.bmca.tim.ptp.length → kind.val = 2 →
          (d.ptpPort port).t3 = some ((s.dev.bmca.ptpPort port).txSeq, ((s.dev.nowNs + s.dev.rd F.TIM_ETH_DLY_TX_DLY port : Nat) : Int)))) := by
  have hjudged := s.dev.bmca_judged
  have hsent : s.dev.bmca.nowNs + s.dev.bmca.rd F.TIM_ETH_DLY_TX_DLY port = s.dev.nowNs + s.dev.rd F.TIM_ETH_DLY_TX_DLY port := by
    rw [Dev.nowNs, hjudged.tim, hjudged.regs.rd _ _ (txDly_spared port)]
    rfl
  have hpause0 : (s.dev.bmca.ep port).pauseUntil = none := by rw [Dev.ep_congr (hjudged.parts.keeps .eth (by decide)), hpause]
  obtain ⟨t, ht⟩ : ∃ t : Int, ((s.dev.nowNs + s.dev.rd F.TIM_ETH_DLY_TX_DLY port : Nat) : Int) = t := ⟨_, rfl⟩
  have htai : s.dev.bmca.toTai t = s.dev.toTai t := hjudged.toTai t
  have hlink0 : s.dev.bmca.linkUp port = true := by
    rw [Dev.linkUp_congr (hjudged.parts.keeps .fn (by decide)) (hjudged.regs.on _ _ (link_spared port)), hlink]
  rw [ht]
  have hev0 : Evolves [.regs, .tim] s.dev s.dev.bmca := hjudged.parts
  have hruns : Runs (.ptpMessageTx port kind) s (((s.dev.bmca.setPtp port { s.dev.bmca.ptpPort port with
      txSeq := ((s.dev.bmca.ptpPort port).txSeq + 1) % 65536
      t3 := if kind.val = 2 then some ((s.dev.bmca.ptpPort port).txSeq, t) else (s.dev.bmca.ptpPort port).t3 }).ptpOut port kind
        (s.dev.bmca.ptpPort port).txSeq (s.dev.toTai t)).ptpFollow port kind (s.dev.bmca.ptpPort port).txSeq (s.dev.toTai t)) := by
    simp only [Runs, exec, execPtpMessageTx, State.go, State.withDev, Dev.ptpSend, hon, hpause0, hsent, ht, htai, hok, Bool.not_true, Bool.false_eq_true,
      if_false, Option.isNone_none, Bool.true_and, if_true]
  clear hsent hok htai
  generalize s.dev.bmca = d0 at *
  obtain ⟨d1, hd1⟩ : ∃ d1, d0.setPtp port { d0.ptpPort port with
      txSeq := ((d0.ptpPort port).txSeq + 1) % 65536
      t3 := if kind.val = 2 then some ((d0.ptpPort port).txSeq, t) else (d0.ptpPort port).t3 } = d1 := ⟨_, rfl⟩
  rw [hd1] at hruns
  have hev1 : Evolves [.regs, .tim] d0 d1 := hd1 ▸ Dev.setPtp_evolves ..
  have hregs1 : KeepsRegs [F.TIM_PTP_STS_STATE.at 0] d0 d1 := hd1 ▸ Dev.setPtp_keepsRegs
  have hlink1 : d1.linkUp port = true := by
    rw [Dev.linkUp_congr (hev1.keeps .fn (by decide)) (hregs1.on _ _ (link_spared port)), hlink0]
  have hout := Dev.ptpOut_out kind (d0.ptpPort port).txSeq (s.dev.toTai t) hlink1
  refine .of hruns ((Dev.ptpFollow_evolves ..).after <| (Dev.ptpOut_evolves ..).after <| hev1.after hev0.mono).keeps
    ⟨(Dev.ptpFollow_grows ..).subset hout, fun hport hkind => ?_⟩
  have hsame : Evolves (.eth :: reportParts) d1 ((d1.ptpOut port kind (d0.ptpPort port).txSeq (s.dev.toTai t)).ptpFollow port kind
    (d0.ptpPort port).txSeq (s.dev.toTai t)) := (Dev.ptpFollow_evolves ..).after (Dev.ptpOut_evolves ..)
  rw [Dev.ptpPort_congr (hsame.keeps .tim (by decide)), ← hd1, Dev.ptpPort_setPtp_same _ _ hport, if_pos hkind]

theorem ptpMessageTx_master {kind : Fin 3} (hon : s.dev.ptpOn port = true) (hkind : kind.val ≠ 2) (hst : (s.dev.bmca.ptpPort port).st = 4)
    (hbow : s.dev.isBow = false) (hlink : s.dev.linkUp port = true) (hpause : (s.dev.ep port).pauseUntil = none) :
    Does (.ptpMessageTx port kind) s (.tim :: .eth :: reportParts) (fun d =>
      .ptpTx port kind (s.dev.bmca.ptpPort port).txSeq (s.dev.toTai (s.dev.nowNs + s.dev.rd F.TIM_ETH_DLY_TX_DLY port : Nat)) ∈ d.out) := by
  have hpar : s.dev.bmca.par = s.dev.par := s.dev.bmca_judged.parts.keeps .par (by decide)
  have hbow0 : s.dev.bmca.isBow = false := by
    rw [Dev.isBow, hpar]
    exact hbow
  obtain ⟨d, hruns, hkeeps, hout, -⟩ := ptpMessageTx_sends hon hlink hpause (kind := kind) (by rw [if_neg hkind, hst, hbow0]; rfl)
  exact ⟨d, hruns, hkeeps, hout⟩

/-- A port that follows a master is one of those the device has. -/
theorem Dev.ptpPort_in_range {d : Dev} {p : Nat} (hst : (d.ptpPort p).st = 2 ∨ (d.ptpPort p).st = 3) : p < d.tim.ptp.length := by
  by_contra hp
  have hnone : d.ptpPort p = {} := List.getD_eq_default _ _ (Nat.not_lt.mp hp)
  rw [hnone] at hst
  exact absurd hst (by decide)

theorem ptpMessageTx_slave (hon : s.dev.ptpOn port = true) (hst : (s.dev.bmca.ptpPort port).st = 2 ∨ (s.dev.bmca.ptpPort port).st = 3)
    (hlink : s.dev.linkUp port = true) (hpause : (s.dev.ep port).pauseUntil = none) :
    Does (.ptpMessageTx port 2) s (.tim :: .eth :: reportParts) (fun d =>
      .ptpTx port 2 (s.dev.bmca.ptpPort port).txSeq (s.dev.toTai (s.dev.nowNs + s.dev.rd F.TIM_ETH_DLY_TX_DLY port : Nat)) ∈ d.out
        ∧ (d.ptpPort port).t3 = some ((s.dev.bmca.ptpPort port).txSeq, ((s.dev.nowNs + s.dev.rd F.TIM_ETH_DLY_TX_DLY port : Nat) : Int))) := by
  obtain ⟨d, hruns, hkeeps, hout, ht3⟩ := ptpMessageTx_sends hon hlink hpause (kind := 2) (by
    rw [if_pos (show ((2 : Fin 3) : Nat) = 2 from rfl), decide_eq_true hst, Bool.true_or])
  exact ⟨d, hruns, hkeeps, hout, ht3 (Dev.ptpPort_in_range hst) rfl⟩

end

/-! ### The source, leap seconds, the RTC -/

theorem Dev.enterHoldover_sources (d : Dev) (why : Nat) : (d.enterHoldover why).tim.ptp = d.tim.ptp ∧ (d.enterHoldover why).tim.ptpAvail = d.tim.ptpAvail
    ∧ (d.enterHoldover why).tim.flAvail = d.tim.flAvail := by
  unfold Dev.enterHoldover
  split
  · exact ⟨rfl, rfl, rfl⟩
  · extract_lets d1 _ d2 d3
    rw [show (d3.recordPost 8 0x0C20 1 8 0 0 why).tim = d2.tim from (Dev.recordPost_evolves ..).keeps .tim (by decide)]
    exact ⟨rfl, rfl, rfl⟩

/-- PTP that is lost is not available; field-link time and the ports stand. -/
theorem Dev.sourceLost_ptp (d : Dev) : (d.sourceLost 1).tim.ptp = d.tim.ptp ∧ (d.sourceLost 1).tim.ptpAvail = false
    ∧ (d.sourceLost 1).tim.flAvail = d.tim.flAvail := by
  unfold Dev.sourceLost
  extract_lets was _ d1 d2
  split
  case isTrue hwas => exact ⟨rfl, by simpa [was] using hwas, rfl⟩
  case isFalse =>
    have h1 : d1.tim.ptp = d.tim.ptp ∧ d1.tim.ptpAvail = false ∧ d1.tim.flAvail = d.tim.flAvail := ⟨rfl, Bool.and_false _, Bool.and_true _⟩
    have h2 : d2.tim.ptp = d1.tim.ptp ∧ d2.tim.ptpAvail = d1.tim.ptpAvail ∧ d2.tim.flAvail = d1.tim.flAvail := by
      unfold d2
      split
      · exact ⟨rfl, rfl, rfl⟩
      · exact Dev.enterHoldover_sources ..
    obtain ⟨hptp1, havail1, hfl1⟩ := h1
    obtain ⟨hptp2, havail2, hfl2⟩ := h2
    rw [Dev.timeCheck_tim]
    exact ⟨hptp2.trans hptp1, havail2.trans havail1, hfl2.trans hfl1⟩

/-- A leap second at its instant: none is pending, device time is stepped, the servo starts again. -/
def Dev.leapt (d : Dev) (by_ : Int) : Dev :=
  let d2 := (({ d with tim := { d.tim with leap := 0 } } : Dev).wrb F.TIM_STS_LEAP_PEND 0 false).stepTime by_
  let d3 : Dev := { d2 with tim := { d2.tim with integ := d2.presetInteg, coarseRun := 0, fineRun := 0, farRun := 0 } }
  d3.wr F.TIM_STS_LOCK 0 0

theorem Dev.leapt_evolves (d : Dev) (by_ : Int) : Evolves (.tim :: .ctx :: .tar :: .cals :: .met :: reportParts) d (d.leapt by_) := by
  unfold Dev.leapt
  extract_lets _ d2 _ d3
  have h2 : Evolves (.tim :: .ctx :: .tar :: .cals :: .met :: reportParts) d d2 :=
    (Dev.stepTime_evolves ..).after <| (Dev.wrb_evolves ..).after Evolves.tim.mono
  have h3 : Evolves [.tim] d2 d3 := Evolves.tim
  exact (Dev.wr_evolves ..).after (h3.after h2)

theorem Dev.leapt_tim (d : Dev) (by_ : Int) : (d.leapt by_).tim.leap = 0 ∧ (d.leapt by_).tim.steps = d.tim.steps + 1
    ∧ (d.leapt by_).rd F.TIM_STS_LOCK = 0 ∧ (d.leapt by_).tim.coarseRun = 0 ∧ (d.leapt by_).tim.fineRun = 0 := by
  unfold Dev.leapt
  extract_lets _ d2 _ d3
  have hd2 : d2.tim.steps = d.tim.steps + 1 ∧ d2.tim.leap = 0 := by
    obtain ⟨hsteps, hleap⟩ := Dev.stepTime_tim (({ d with tim := { d.tim with leap := 0 } } : Dev).wrb F.TIM_STS_LEAP_PEND 0 false) by_
    rw [(Dev.wrb_evolves ..).keeps .tim (by decide)] at hsteps hleap
    exact ⟨hsteps, hleap⟩
  obtain ⟨hsteps2, hleap2⟩ := hd2
  have hleap3 : d3.tim.leap = d2.tim.leap := rfl
  have hsteps3 : d3.tim.steps = d2.tim.steps := rfl
  have hcoarse3 : d3.tim.coarseRun = 0 := rfl
  have hfine3 : d3.tim.fineRun = 0 := rfl
  clear_value d3
  have hlock : (d3.wr F.TIM_STS_LOCK 0 0).rd F.TIM_STS_LOCK = 0 := Dev.rd_wr _ _ _ _ (by decide)
  rw [(Dev.wr_evolves ..).keeps .tim (by decide), hleap3, hsteps3]
  exact ⟨hleap2, hsteps2, hlock, hcoarse3, hfine3⟩

section
variable {s : State}

theorem ptpSourceLost_lost {port : Fin 4} (hlive : s.dev.live = true) (hst : (s.dev.ptpPort port).st = 3 ∨ (s.dev.ptpPort port).st = 2)
    (hlen : s.dev.tim.ptp.length = 4) :
    Does (.ptpSourceLost port) s (.tim :: reportParts) (fun d => (d.ptpPort port).best = none ∧ (d.ptpPort port).delay = none ∧ d.tim.ptpAvail = false
      ∧ d.tim.flAvail = s.dev.tim.flAvail) := by
  obtain ⟨d1, hd1⟩ : ∃ d1, s.dev.setPtp port { s.dev.ptpPort port with st := 1, best := none, raw := none, sync := none, delay := none } = d1 := ⟨_, rfl⟩
  have hev1 : Evolves [.regs, .tim] s.dev d1 := hd1 ▸ Dev.setPtp_evolves ..
  have hport1 : d1.ptpPort port = { s.dev.ptpPort port with st := 1, best := none, raw := none, sync := none, delay := none } :=
    hd1 ▸ Dev.ptpPort_setPtp_same _ _ (port_lt hlen)
  have hfl1 : d1.tim.flAvail = s.dev.tim.flAvail := by rw [← hd1, Dev.tim_setPtp]
  have hruns : Runs (.ptpSourceLost port) s (d1.sourceLost 1).bmca := by
    have hst' : (s.dev.live && ((s.dev.ptpPort port).st = 3 || (s.dev.ptpPort port).st = 2)) = true := by simpa [hlive] using hst
    simp only [Runs, exec, execPtpSourceLost, State.go, State.withDev, hst', if_true, hd1]
  obtain ⟨hptp, havail, hfl⟩ := d1.sourceLost_ptp
  have hjudged := (d1.sourceLost 1).bmca_judged
  obtain ⟨st, parent, hport⟩ := hjudged.port port
  have hport2 : (d1.sourceLost 1).ptpPort port = d1.ptpPort port := by rw [Dev.ptpPort, hptp, Dev.ptpPort]
  refine .of hruns (hjudged.parts.after <| (Dev.sourceLost_evolves ..).after hev1.mono).keeps ⟨?_, ?_, ?_, ?_⟩
  · rw [hport, hport2, hport1]
  · rw [hport, hport2, hport1]
  · rw [hjudged.tim, havail]
  · rw [hjudged.tim, hfl, hfl1]

theorem leapSecond_steps (hlive : s.dev.live = true) (hleap : s.dev.tim.leap ≠ 0) :
    Does .leapSecond s (.tim :: .ctx :: .met :: .tar :: .cals :: reportParts) (fun d => d.tim.leap = 0 ∧ d.tim.steps = s.dev.tim.steps + 1 ∧ d.rd F.TIM_STS_LOCK = 0
      ∧ d.tim.coarseRun = 0 ∧ d.tim.fineRun = 0) := by
  have hruns : Runs .leapSecond s ((s.dev.toNs (if s.dev.tim.leap = 61 then (s.dev.nowNs / 86400000000000 + 1) * 86400000000000
      else (s.dev.nowNs / 86400000000000 + 1) * 86400000000000 - 1000000000)).leapt (if s.dev.tim.leap = 61 then -1000000000 else 1000000000)) := by
    simp only [Runs, exec, execLeapSecond, State.go, State.withDev, Dev.leapt, hlive, hleap, Bool.not_true, Bool.false_or, decide_false, Bool.false_eq_true,
      if_false]
  generalize (if s.dev.tim.leap = 61 then (s.dev.nowNs / 86400000000000 + 1) * 86400000000000
      else (s.dev.nowNs / 86400000000000 + 1) * 86400000000000 - 1000000000) = ns at hruns
  generalize (if s.dev.tim.leap = 61 then (-1000000000 : Int) else 1000000000) = by_ at hruns
  have hsteps0 : (s.dev.toNs ns).tim.steps = s.dev.tim.steps := by
    unfold Dev.toNs
    split <;> rfl
  obtain ⟨hleap1, hsteps1, hlock, hcoarse, hfine⟩ := (s.dev.toNs ns).leapt_tim by_
  exact .of hruns ((Dev.leapt_evolves ..).after (Dev.toNs_evolves ..).mono).keeps ⟨hleap1, by rw [hsteps1, hsteps0], hlock, hcoarse, hfine⟩

theorem rtcSet_sets (hlive : s.dev.live = true) (hsrc : s.dev.rd F.TIM_STS_SRC ≠ 0) (hhold : s.dev.tim.holdSince = none)
    (hlock : s.dev.rd F.TIM_STS_LOCK ≠ 0) (hrun : s.dev.on F.GLB_CLK_STS_RTC_RUN = true) :
    Does .rtcSet s (.tim :: reportParts) (fun d => d.tim.rtcNs = s.dev.nowNs ∧ d.tim.rtcSet = s.dev.nowNs ∧ d.tim.rtcValid = true) := by
  obtain ⟨d1, hd1⟩ : ∃ d1 : Dev, { s.dev with tim := { s.dev.tim with rtcNs := s.dev.nowNs, rtcSet := s.dev.nowNs, rtcValid := true } } = d1 := ⟨_, rfl⟩
  have hev1 : Evolves [.tim] s.dev d1 := hd1 ▸ Evolves.tim
  have hruns : Runs .rtcSet s (d1.wrb F.TIM_STS_RTC_VALID 0 true).timeCheck := by
    have hmay : (s.dev.live && s.dev.rd F.TIM_STS_SRC ≠ 0 && s.dev.tim.holdSince.isNone && s.dev.rd F.TIM_STS_LOCK ≠ 0
        && s.dev.on F.GLB_CLK_STS_RTC_RUN) = true := by simp [hlive, hsrc, hhold, hlock, hrun]
    simp only [Runs, exec, execRtcSet, State.go, State.withDev, hmay, if_true, hd1]
  refine .of hruns ((Dev.timeCheck_evolves ..).after <| (Dev.wrb_evolves ..).after hev1.mono).keeps ?_
  rw [Dev.timeCheck_tim, (Dev.wrb_evolves ..).keeps .tim (by decide), ← hd1]
  exact ⟨rfl, rfl, rfl⟩

theorem rateStore_stores (hlive : s.dev.live = true) (hlock : s.dev.rd F.TIM_STS_LOCK = 2) :
    Does .rateStore s [.tim] (fun d => d.tim = { s.dev.tim with rateStored := s.dev.tim.rate }) := by
  have hruns : Runs .rateStore s { s.dev with tim := { s.dev.tim with rateStored := s.dev.tim.rate } } := by
    simp only [Runs, exec, execRateStore, State.go, State.withDev, hlive, hlock, decide_true, Bool.and_self, if_true]
  exact .of hruns Evolves.tim.keeps rfl

theorem timeSnapshotRead_reads (hlive : s.dev.live = true) :
    Does .timeSnapshotRead s [.tim, .out] (fun d => d.tim = { s.dev.tim with snapTime := s.dev.tim.time, snapMono := s.dev.tim.mono }
      ∧ d.out = .readData (s.dev.tim.time % 2 ^ 32) :: s.dev.out) := by
  have hruns : Runs .timeSnapshotRead s (({ s.dev with tim := { s.dev.tim with snapTime := s.dev.tim.time, snapMono := s.dev.tim.mono } } : Dev).emit
      (.readData (s.dev.tim.time % 2 ^ 32))) := by
    simp only [Runs, exec, execTimeSnapshotRead, State.go, State.withDev, hlive, if_true]
  exact .of hruns ((Dev.emit_evolves ..).after Evolves.tim.mono).keeps ⟨rfl, rfl⟩

end

/-- Settles O43, one command after the other. -/
theorem timeSources : Obligations.TimeSources :=
  ⟨fun _ _ hhold hlive => holdover24h_judges hhold hlive,
   fun _ _ _ _ _ _ _ _ _ _ _ _ _ hon hdm hbest hlen => hdm ▸ ptpMessageRx_announce hon hbest hlen,
   fun _ _ _ _ _ _ _ _ _ _ _ _ _ hon hdm => ptpMessageRx_otherDomain hon hdm,
   fun _ _ => ptpMessageRx_other,
   fun _ _ _ _ _ _ hon hlen hst hwho => ptpMessageRx_sync hon hlen hst hwho,
   fun _ _ _ _ _ _ hon hlen hst hwho hdelay => ptpMessageRx_syncOneStep hon hlen hst hwho hdelay,
   fun _ _ _ _ _ _ _ hon hlen hst hwho hsync hdelay => ptpMessageRx_followUp hon hlen hst hwho hsync hdelay,
   fun _ _ _ _ _ _ _ _ hon hlen hst ht3 hraw hprofile => ptpMessageRx_delayResp hon hlen hst ht3 hraw hprofile,
   fun _ _ _ _ hon hst hlink => ptpMessageRx_delayReq hon hst hlink,
   fun _ _ _ hon hkind hst hbow hlink hpause => ptpMessageTx_master hon hkind hst hbow hlink hpause,
   fun _ _ hon hst hlink hpause => ptpMessageTx_slave hon hst hlink hpause,
   fun _ _ hlive hst hlen => ptpSourceLost_lost hlive hst hlen,
   fun _ hlive hleap => leapSecond_steps hlive hleap,
   fun _ hlive hsrc hhold hlock hrun => rtcSet_sets hlive hsrc hhold hlock hrun,
   fun _ hlive hlock => rateStore_stores hlive hlock,
   fun _ hlive => timeSnapshotRead_reads hlive⟩

end Sys2Proof.Machine

end

section

-- one proof after the other: the check gives the text few threads
set_option Elab.async false

namespace Sys2Proof.Machine

/-! ## O44: HOST_TIMER_ENABLE and the list of pooled comparators -/

/-- A device whose list of pooled comparators is empty: nothing in the model's state says that it names eight. -/
def noComparators : State := .booted fun d => { d with tim := { d.tim with pool := [] } }

/-- A write that sets ENABLE of a host timer. -/
def enableWord : Word := BitVec.ofNat 32 (2 ^ F.TIM_HT_CFG_ENABLE.lo)

/-- Host timer 0 is enabled as if it had taken the first comparator; the list still names none. -/
theorem noComparators_taken : (noComparators.devAfter (.hostTimerEnable 0 enableWord)).tim.pool = [] := by decide +kernel

/-- Refutes O44 in its clauses on HOST_TIMER_ENABLE: the model reads an owner that the list of pooled comparators does not hold as a free
comparator, and on a device whose list is shorter than eight it takes one that is then not in the list. -/
theorem not_comparatorsAndCaptures : ¬ Obligations.ComparatorsAndCaptures := by
  unfold Obligations.ComparatorsAndCaptures
  rintro ⟨-, hlate, -⟩
  obtain ⟨-, -, hpool⟩ := (hlate noComparators 0 enableWord (by decide) (by decide +kernel) (by decide +kernel) (by decide +kernel) (by decide +kernel)
    (by decide +kernel)).devAfter
  rw [noComparators_taken] at hpool
  exact absurd hpool List.not_mem_nil

end Sys2Proof.Machine

end

section

-- one proof after the other: the check gives the text few threads
set_option Elab.async false

namespace Sys2Proof.Machine

/-! ## What radio ports write -/

theorem Dev.kcOne_writes (d : Dev) (e : Nat × Nat × Nat) (derive : Bool) :
    Writes [F.SEC_DERIVE, F.SEC_KC_HIT, F.SEC_KC_MISS] d (d.kcOne e derive).2 := by
  unfold Dev.kcOne
  split
  · exact (Dev.kcUse_evolves ..).quiet.after <| (Writes.bumpW ..).mono
  · rename_i y0
    extract_lets d1
    have hd1 : Writes [F.SEC_DERIVE, F.SEC_KC_HIT, F.SEC_KC_MISS] d d1 := (Writes.bumpW ..).mono
    exact (Dev.kcUse_evolves ..).quiet.after (.ite ((Writes.bumpW ..).after hd1) hd1)

theorem Dev.kcTake_writes (d : Dev) (m grp gen : Nat) : Writes [F.SEC_DERIVE, F.SEC_KC_HIT, F.SEC_KC_MISS] d (d.kcTake m grp gen) := by
  unfold Dev.kcTake
  extract_lets r
  have hr : Writes [F.SEC_DERIVE, F.SEC_KC_HIT, F.SEC_KC_MISS] d r.2 := (Dev.kcOne_writes ..).mono
  exact .ite hr ((Dev.kcOne_writes ..).after hr)

theorem Dev.secure_writes (d : Dev) (m : Nat) (c : Ctx) : Writes [F.SEC_DERIVE, F.SEC_KC_HIT, F.SEC_KC_MISS] d (d.secure m c).2 := by
  unfold Dev.secure
  extract_lets _ _ _ _ d1
  have hd1 : Writes [F.SEC_DERIVE, F.SEC_KC_HIT, F.SEC_KC_MISS] d d1 := (Dev.editCtx_evolves ..).quiet.after <| (Dev.kcTake_writes ..).mono
  exact (Dev.emit_evolves ..).quiet.after hd1

theorem Dev.xferStart_writes (d : Dev) (x0 : Xfer) (bytes : Nat) : Writes [F.SEC_DERIVE, F.SEC_KC_HIT, F.SEC_KC_MISS] d (d.xferStart x0 bytes) := by
  unfold Dev.xferStart
  extract_lets _ d1 d2 r _ d3 _ d4 d5 d6
  have hd1 : Writes [F.SEC_DERIVE, F.SEC_KC_HIT, F.SEC_KC_MISS] d d1 := .foldl (fun _ _ => (Dev.markStarted_evolves ..).quiet.mono) .refl
  have hd2 : Writes [F.SEC_DERIVE, F.SEC_KC_HIT, F.SEC_KC_MISS] d d2 := by
    unfold d2
    split
    · split
      · exact (Dev.setEntry_evolves ..).quiet.after hd1
      · exact hd1
    · exact hd1
  have hr : Writes [F.SEC_DERIVE, F.SEC_KC_HIT, F.SEC_KC_MISS] d r.2 := by
    unfold r
    split
    · split
      · exact (Dev.secure_writes ..).after hd2
      · exact hd2
    · exact hd2
  have hd3 : Writes [F.SEC_DERIVE, F.SEC_KC_HIT, F.SEC_KC_MISS] d d3 := .ite ((Dev.pin_evolves ..).quiet.after hr) hr
  have hd4 : Writes [F.SEC_DERIVE, F.SEC_KC_HIT, F.SEC_KC_MISS] d d4 := Evolves.sch.quiet.after hd3
  have hd5 : Writes [F.SEC_DERIVE, F.SEC_KC_HIT, F.SEC_KC_MISS] d d5 := by
    unfold d5
    split
    · exact (Dev.emit_evolves ..).quiet.after hd4
    · exact hd4
  have hd6 : Writes [F.SEC_DERIVE, F.SEC_KC_HIT, F.SEC_KC_MISS] d d6 := .ite ((Dev.expedite_evolves ..).quiet.after hd5) hd5
  exact (Dev.setPsch_evolves ..).quiet.after hd6

theorem Dev.radStart_writes (d : Dev) (n : Nat) : Writes [F.TIM_BCN_SENT] d (d.radStart n) := by
  unfold Dev.radStart
  extract_lets _ d0 d1 d2
  have hd0 : Writes [F.TIM_BCN_SENT] d d0 := (Dev.updRp_evolves ..).quiet.after <| (Dev.play_evolves ..).quiet.mono
  have hd1 : Writes [F.TIM_BCN_SENT] d d1 := by
    unfold d1
    split
    · exact (Dev.emit_evolves ..).quiet.after hd0
    · exact hd0
  have hd2 : Writes [F.TIM_BCN_SENT] d d2 := (Dev.emit_evolves ..).quiet.after hd1
  exact .ite ((Dev.beaconOut_writes ..).after hd2) hd2

theorem Dev.radSend_writes (d : Dev) (n : Nat) (until_ : Option Nat) :
    Writes [F.RAD_DUTY_WAIT, F.RAD_STS_GATED, F.TIM_BCN_SENT] d (d.radSend n until_) := by
  unfold Dev.radSend
  split
  · exact (Dev.updRp_evolves ..).quiet.after <| (Writes.wrb ..).mono
  · extract_lets d1
    have hd1 : Writes [F.RAD_DUTY_WAIT, F.RAD_STS_GATED, F.TIM_BCN_SENT] d d1 := (Writes.wrb ..).mono
    exact .ite ((Dev.updRp_evolves ..).quiet.after hd1) (.ite ((Dev.radStart_writes ..).after hd1) ((Writes.bump ..).after <| (Dev.updRp_evolves ..).quiet.after hd1))

theorem Dev.floodRx_writes (d : Dev) (n : Nat) (fl : Nat × Nat × Nat × Bool × Nat) :
    Writes [F.RAD_FLOOD_DUP, F.RAD_SEEN_EVICT] d (d.floodRx n fl).2 := by
  have hseen (f : Rad → Rad) : Writes [F.RAD_FLOOD_DUP, F.RAD_SEEN_EVICT] d (d.updRp n f) := (Dev.updRp_evolves ..).quiet.mono
  unfold Dev.floodRx
  dsimp only
  split
  · exact .refl
  split
  · exact (Writes.bump ..).mono
  split
  · exact (Writes.bump ..).after (hseen _)
  · dsimp only
    exact hseen _

theorem Dev.callAnswer_writes (d0 : Dev) (n m : Nat) (answer us : Nat) :
    Writes [F.RAD_DUTY_WAIT, F.RAD_STS_GATED, F.SEC_DERIVE, F.SEC_KC_HIT, F.SEC_KC_MISS, F.TIM_BCN_SENT] d0 (d0.callAnswer n m answer us) := by
  unfold Dev.callAnswer
  extract_lets d x
  have hd : Writes [F.RAD_DUTY_WAIT, F.RAD_STS_GATED, F.SEC_DERIVE, F.SEC_KC_HIT, F.SEC_KC_MISS, F.TIM_BCN_SENT] d0 d := (Dev.toMono_evolves ..).quiet.mono
  have hx : Writes [F.RAD_DUTY_WAIT, F.RAD_STS_GATED, F.SEC_DERIVE, F.SEC_KC_HIT, F.SEC_KC_MISS, F.TIM_BCN_SENT] d0 x := by
    unfold x
    split
    · exact (Dev.xferStart_writes ..).after hd
    · exact hd
  exact (Dev.radSend_writes ..).after <| (Dev.sendElement_evolves ..).quiet.after <| (Dev.radTake_evolves ..).quiet.after hx

theorem Dev.wmbAnswer_writes (d : Dev) (n m : Nat) (answer us : Nat) (c : Ctx) :
    Writes [F.RAD_DUTY_WAIT, F.RAD_STS_GATED, F.SEC_DERIVE, F.SEC_KC_HIT, F.SEC_KC_MISS, F.TIM_BCN_SENT] d (d.wmbAnswer n m answer us c) := by
  unfold Dev.wmbAnswer
  split
  · exact .refl
  · exact (Dev.radSend_writes ..).after <| (Dev.radTake_evolves ..).quiet.after <| (Dev.xferStart_writes ..).mono

theorem Dev.radAnswers_writes (d : Dev) (n m : Nat) (gen : Option Nat) (answer us : Nat) :
    Writes [F.RAD_DUTY_WAIT, F.RAD_STS_GATED, F.SEC_DERIVE, F.SEC_KC_HIT, F.SEC_KC_MISS, F.TIM_BCN_SENT] d (d.radAnswers n m gen answer us) := by
  unfold Dev.radAnswers
  split
  · exact .refl
  · exact .ite .refl (.ite ((Dev.callAnswer_writes ..).mono) (.ite ((Dev.wmbAnswer_writes ..).mono) .refl))

theorem Dev.radDeliver_writes (d : Dev) (n : Nat) (rx : RadioRx) (answer us : Nat) :
    Writes ([F.RAD_DUTY_WAIT, F.RAD_STS_GATED, F.SEC_DERIVE, F.SEC_KC_HIT, F.SEC_KC_MISS, F.TIM_BCN_SENT] ++ eventFields) d (d.radDeliver n rx answer us) := by
  unfold Dev.radDeliver
  extract_lets hops via pay mix reply d1
  clear_value hops via mix reply pay
  split
  · exact .refl
  · exact (Dev.offer_writes ..).mono
  · extract_lets d2
    have h1 : Writes ([F.RAD_DUTY_WAIT, F.RAD_STS_GATED, F.SEC_DERIVE, F.SEC_KC_HIT, F.SEC_KC_MISS, F.TIM_BCN_SENT] ++ eventFields) d d1 := .ite (Dev.updRp_evolves ..).quiet.mono .refl
    have h2 : Writes ([F.RAD_DUTY_WAIT, F.RAD_STS_GATED, F.SEC_DERIVE, F.SEC_KC_HIT, F.SEC_KC_MISS, F.TIM_BCN_SENT] ++ eventFields) d d2 := (Dev.offer_writes ..).after h1
    clear_value d2
    split
    · next m =>
      have h3 (c : Cal) : Writes ([F.RAD_DUTY_WAIT, F.RAD_STS_GATED, F.SEC_DERIVE, F.SEC_KC_HIT, F.SEC_KC_MISS, F.TIM_BCN_SENT] ++ eventFields) d (d2.setCal m c) := (Dev.setCal_evolves ..).quiet.after h2
      exact .ite (h3 _) ((Dev.radAnswers_writes ..).after (h3 _))
    · exact h2

end Sys2Proof.Machine
end

section

-- one proof after the other: the check gives the text few threads
set_option Elab.async false

namespace Sys2Proof.Machine

/-! ## O45: what a radio port is -/

@[simp] theorem Dev.rp_setRp (d : Dev) (n : Nat) (r : Rad) : (d.setRp n r).rp n = r := Tab.getD_set ..

@[simp] theorem Dev.rp_updRp (d : Dev) (n : Nat) (f : Rad → Rad) : (d.updRp n f).rp n = f (d.rp n) := Dev.rp_setRp ..

theorem Dev.rp_congr {d e : Dev} (h : e.rad = d.rad) (n : Nat) : e.rp n = d.rp n := by
  unfold Dev.rp
  rw [h]

@[simp] theorem Dev.psch_setPsch (d : Dev) (pk : Nat) (x : PortSch) : (d.setPsch pk x).psch pk = x := Tab.getD_set ..

theorem Dev.psch_congr {d e : Dev} (h : e.sch = d.sch) (pk : Nat) : e.psch pk = d.psch pk := by
  unfold Dev.psch
  rw [h]

theorem Dev.curOf_congr {d e : Dev} (h : e.sch = d.sch) (pk : Nat) : e.curOf pk = d.curOf pk := by
  unfold Dev.curOf
  rw [Dev.psch_congr h]

/-- What the transmit gate looks at. -/
theorem Dev.gateOpen_same {d e : Dev} (hgrade : e.grade = d.grade) (hsafe : e.isSafe = d.isSafe) (hupd : e.upd = d.upd) (hpar : e.par = d.par) :
    e.gateOpen = d.gateOpen := by
  unfold Dev.gateOpen
  rw [hgrade, hsafe, hupd, hpar]

/-- What holds a frame back in a rendezvous window. -/
theorem Dev.rdvHolds_congr {d e : Dev} {n : Nat} (hrdv : (e.rp n).rdv = (d.rp n).rdv) (hkind : (e.rp n).kind = (d.rp n).kind)
    (hslot : (e.rp n).slot = (d.rp n).slot) : e.rdvHolds n = d.rdvHolds n := by
  simp only [Dev.rdvHolds, hrdv, hkind, hslot]

/-- What the duty budget looks at. -/
theorem Dev.dutyFits_congr {d e : Dev} {n : Nat} (hlog : (e.rp n).txLog = (d.rp n).txLog) (hmono : e.tim.mono = d.tim.mono)
    (hduty : e.rd F.RAD_DUTY_CFG_DUTY n = d.rd F.RAD_DUTY_CFG_DUTY n) (len : Nat) : e.dutyFits n len = d.dutyFits n len := by
  unfold Dev.dutyFits Dev.dutyUsed Dev.dutyMax
  rw [hlog, hmono, hduty]

/-! ### A frame starts -/

/-- A frame that starts is being sent from now on. -/
theorem Dev.radStart_sending (d : Dev) (n : Nat) : ((d.radStart n).rp n).phase = .sending ∧ ((d.radStart n).rp n).txFrom = d.tim.mono
    ∧ ((d.radStart n).rp n).txLen = (d.rp n).txLen ∧ (d.radStart n).tim.mono = d.tim.mono := by
  unfold Dev.radStart
  extract_lets r d0 d1 d2
  have hplay : (d.play n 2).rp n = d.rp n := Dev.rp_congr ((Dev.play_evolves ..).keeps .rad (by decide)) n
  have hrp0 : d0.rp n = { d.rp n with phase := .sending, txFrom := d.tim.mono, elem := none
                                      floodSeq := if r.kind = 4 then (r.floodSeq + 1) % 65536 else r.floodSeq } := by
    unfold d0
    rw [Dev.rp_updRp, hplay]
  have hev0 : Evolves [.out, .rad] d d0 := (Dev.updRp_evolves ..).after (Dev.play_evolves ..).mono
  have hmono0 : d0.tim.mono = d.tim.mono := by rw [hev0.keeps .tim (by decide)]
  have hev2 : Evolves [.out] d0 d2 := by
    refine (Dev.emit_evolves ..).after (?_ : Evolves [.out] d0 d1)
    unfold d1
    split
    · exact Dev.emit_evolves ..
    · exact .refl
  clear_value d0 d2
  have hrp2 : d2.rp n = d0.rp n := Dev.rp_congr (hev2.keeps .rad (by decide)) n
  have hmono2 : d2.tim.mono = d0.tim.mono := by rw [hev2.keeps .tim (by decide)]
  have hbeacon : (d2.beaconOut (2 + n) (d.sfdNs n r.bytes)).rp n = d2.rp n := Dev.rp_congr ((Dev.beaconOut_evolves ..).keeps .rad (by decide)) n
  have hlast : ((if r.kind = 1 then d2.beaconOut (2 + n) (d.sfdNs n r.bytes) else d2).rp n) = d2.rp n
      ∧ (if r.kind = 1 then d2.beaconOut (2 + n) (d.sfdNs n r.bytes) else d2).tim.mono = d2.tim.mono := by
    split
    · exact ⟨hbeacon, rfl⟩
    · exact ⟨rfl, rfl⟩
  obtain ⟨hrp, hmono⟩ := hlast
  rw [hrp, hmono, hrp2, hmono2, hrp0, hmono0]
  exact ⟨rfl, rfl, rfl, rfl⟩

/-- A frame that nothing holds back starts at once. -/
theorem Dev.radSend_sending {d : Dev} {n : Fin 4} {until_ : Option Nat} (hgate : d.gateOpen = true) (hrdv : d.rdvHolds n = false)
    (hduty : d.dutyFits n (d.rp n).txLen = true) : ((d.radSend n until_).rp n).phase = .sending ∧ ((d.radSend n until_).rp n).txFrom = d.tim.mono
    ∧ ((d.radSend n until_).rp n).txLen = (d.rp n).txLen ∧ (d.radSend n until_).tim.mono = d.tim.mono := by
  unfold Dev.radSend
  rw [if_neg (by rw [hgate]; decide)]
  extract_lets d1
  have hev1 : Evolves [.regs] d d1 := Dev.wrb_evolves ..
  have hw1 : Writes [F.RAD_STS_GATED] d d1 := .wrb ..
  clear_value d1
  have hrp1 : d1.rp n = d.rp n := Dev.rp_congr (hev1.keeps .rad (by decide)) n
  have hmono1 : d1.tim.mono = d.tim.mono := by rw [hev1.keeps .tim (by decide)]
  have hrdv1 : d1.rdvHolds n = false := (Dev.rdvHolds_congr (by rw [hrp1]) (by rw [hrp1]) (by rw [hrp1])).trans hrdv
  have hduty1 : d1.dutyFits n (d1.rp n).txLen = true := by
    rw [Dev.dutyFits_congr (by rw [hrp1]) hmono1 (hw1.rd_fin _ n), hrp1, hduty]
  rw [if_neg (by rw [hrdv1]; decide), if_pos hduty1, ← hrp1, ← hmono1]
  exact Dev.radStart_sending ..

section
variable {s : State} {n : Fin 4}

/-! ### Receiving -/

theorem radioFrameRx_good {rx : RadioRx} {answer us : Nat} (hrun : s.dev.portRuns (2 + n) = true) (hlock : s.dev.on F.RAD_STS_IQ_LOCK n = true)
    (hok : rx.ok = true) :
    Does (.radioFrameRx n rx answer us) s (.rad :: .cals :: .sch :: .ctx :: .sec :: .tim :: reportParts) (fun d =>
      d.rd F.RAD_RX_OK n = min (s.dev.rd F.RAD_RX_OK n + 1) (2 ^ F.RAD_RX_OK.len - 1)) := by
  obtain ⟨d1, hd1⟩ : ∃ d1, (s.dev.bump F.RAD_IQ_STS_BAD n rx.bad).wr F.RAD_STS_RSSI n
      (unsigned 8 (clampInt (-128) 127 (rx.rssi + (s.dev.bump F.RAD_IQ_STS_BAD n rx.bad).rdS F.RAD_IQ_CFG_RSSI_OFS n))) = d1 := ⟨_, rfl⟩
  have hev1 : Evolves [.regs] s.dev d1 := hd1 ▸ (Dev.wr_evolves ..).after (Dev.bump_evolves ..)
  have hw1 : Writes [F.RAD_IQ_STS_BAD, F.RAD_STS_RSSI] s.dev d1 := hd1 ▸ (Writes.wr ..).after (Writes.bump ..).mono
  have hruns : Runs (.radioFrameRx n rx answer us) s (s.dev.radRx n rx answer us) := rfl
  have hrx : ∃ e, s.dev.radRx n rx answer us = e ∧ Evolves (.rad :: .cals :: .sch :: .ctx :: .sec :: .tim :: reportParts) (d1.bump F.RAD_RX_OK n) e
      ∧ e.rd F.RAD_RX_OK n = (d1.bump F.RAD_RX_OK n).rd F.RAD_RX_OK n := by
    simp only [Dev.radRx, hrun, hlock, hok, hd1, Bool.not_true, Bool.or_self, Bool.false_eq_true, if_false]
    have hdeliver (x : Dev) : Evolves (.rad :: .cals :: .sch :: .ctx :: .sec :: .tim :: reportParts) x (x.radDeliver n rx answer us)
        ∧ (x.radDeliver n rx answer us).rd F.RAD_RX_OK n = x.rd F.RAD_RX_OK n :=
      ⟨(Dev.radDeliver_evolves ..).mono, (Dev.radDeliver_writes ..).rd_fin _ n⟩
    cases rx.flood with
    | none => exact ⟨_, rfl, hdeliver _⟩
    | some f =>
      have hflood := (d1.bump F.RAD_RX_OK n).floodRx_evolves n f
      have hfloodRd : ((d1.bump F.RAD_RX_OK n).floodRx n f).2.rd F.RAD_RX_OK n = (d1.bump F.RAD_RX_OK n).rd F.RAD_RX_OK n :=
        (Dev.floodRx_writes ..).rd_fin _ n
      refine ⟨_, rfl, ?_⟩
      dsimp only
      split
      · obtain ⟨hev, hrd⟩ := hdeliver ((d1.bump F.RAD_RX_OK n).floodRx n f).2
        exact ⟨hev.after hflood.mono, hrd.trans hfloodRd⟩
      · exact ⟨hflood.mono, hfloodRd⟩
  obtain ⟨e, he, hev, hrd⟩ := hrx
  rw [he] at hruns
  refine .of hruns (hev.after ((Dev.bump_evolves ..).after hev1.mono)).keeps ?_
  rw [hrd, Dev.rd_bump _ _ _ _ (by decide), hw1.rd_fin _ n]

theorem radioFrameRx_bad {rx : RadioRx} {answer us : Nat} (hrun : s.dev.portRuns (2 + n) = true) (hlock : s.dev.on F.RAD_STS_IQ_LOCK n = true)
    (hok : rx.ok = false) :
    Does (.radioFrameRx n rx answer us) s [.regs] (fun d => d.rd F.RAD_RX_FCS n = min (s.dev.rd F.RAD_RX_FCS n + 1) (2 ^ F.RAD_RX_FCS.len - 1)
      ∧ KeepsRegs [F.RAD_RX_FCS.at n, F.RAD_STS_RSSI.at n, F.RAD_IQ_STS_BAD.at n] s.dev d) := by
  obtain ⟨d1, hd1⟩ : ∃ d1, (s.dev.bump F.RAD_IQ_STS_BAD n rx.bad).wr F.RAD_STS_RSSI n
      (unsigned 8 (clampInt (-128) 127 (rx.rssi + (s.dev.bump F.RAD_IQ_STS_BAD n rx.bad).rdS F.RAD_IQ_CFG_RSSI_OFS n))) = d1 := ⟨_, rfl⟩
  have hev1 : Evolves [.regs] s.dev d1 := hd1 ▸ (Dev.wr_evolves ..).after (Dev.bump_evolves ..)
  have hw1 : Writes [F.RAD_IQ_STS_BAD, F.RAD_STS_RSSI] s.dev d1 := hd1 ▸ (Writes.wr ..).after (Writes.bump ..).mono
  have hregs1 : KeepsRegs [F.RAD_RX_FCS.at n, F.RAD_STS_RSSI.at n, F.RAD_IQ_STS_BAD.at n] s.dev d1 :=
    hd1 ▸ (keepsRegs_bump.mono (by simp)).trans (keepsRegs_wr.mono (by simp))
  have hruns : Runs (.radioFrameRx n rx answer us) s (d1.bump F.RAD_RX_FCS n) := by
    simp only [Runs, exec, execRadioFrameRx, State.go, State.withDev, Dev.radRx, hrun, hlock, hok, hd1, Bool.not_true, Bool.or_self, Bool.false_eq_true,
      if_false, Bool.not_false, if_true]
  refine .of hruns ((Dev.bump_evolves ..).after hev1).keeps ⟨?_, hregs1.trans (keepsRegs_bump.mono (by simp))⟩
  rw [Dev.rd_bump _ _ _ _ (by decide), hw1.rd_fin _ n]

theorem seenKeyExpiry_forgets {e : Nat × Nat × Bool × Nat} {l : List (Nat × Nat × Bool × Nat)} (hlive : s.dev.live = true)
    (hseen : (s.dev.rp n).seen = e :: l) :
    Does (.seenKeyExpiry n) s [.rad, .tim, .evr] (fun d => d.rp n = { s.dev.rp n with seen := l }
      ∧ e.2.2.2 + s.dev.rd F.RAD_FLOOD_CFG_SEEN_AGE n * 500000000 ≤ d.tim.mono) := by
  have hruns : Runs (.seenKeyExpiry n) s ((s.dev.toMono (e.2.2.2 + s.dev.rd F.RAD_FLOOD_CFG_SEEN_AGE n * 500000000)).updRp n
      (fun r => { r with seen := l })) := by
    simp only [Runs, exec, execSeenKeyExpiry, State.go, State.withDev, hseen, hlive, if_true]
  generalize e.2.2.2 + s.dev.rd F.RAD_FLOOD_CFG_SEEN_AGE n * 500000000 = t at hruns ⊢
  obtain ⟨d1, hd1⟩ : ∃ d1, s.dev.toMono t = d1 := ⟨_, rfl⟩
  have htime : Evolves [.tim, .evr] s.dev d1 := hd1 ▸ Dev.toMono_evolves ..
  have hmono : t ≤ d1.tim.mono := hd1 ▸ (show t ≤ s.dev.tim.mono + (t - s.dev.tim.mono) by omega)
  rw [hd1] at hruns
  refine .of hruns ((Dev.updRp_evolves ..).after htime.mono).keeps ⟨?_, ?_⟩
  · rw [Dev.rp_updRp, Dev.rp_congr (htime.keeps .rad (by decide))]
  · rw [(Dev.updRp_evolves ..).keeps .tim (by decide)]
    exact hmono

/-! ### Training -/

theorem iqLaneTrained_locks {i q : BitVec 6} {bad : Nat} (htrains : s.dev.trains n = true) :
    Does (.iqLaneTrained n (i, q) bad) s [.rad, .regs, .out] (fun d => d.rp n = { s.dev.rp n with training := false } ∧ d.on F.RAD_STS_IQ_LOCK n = true
      ∧ d.rd F.RAD_IQ_CFG_DLY_I n = i.toNat ∧ d.rd F.RAD_IQ_CFG_DLY_Q n = q.toNat
      ∧ KeepsRegs [F.RAD_STS_IQ_LOCK.at n, F.RAD_IQ_CFG_DLY_I.at n, F.RAD_IQ_STS_BAD.at n] s.dev d) := by
  obtain ⟨d1, hd1⟩ : ∃ d1, s.dev.updRp n (fun r => { r with training := false }) = d1 := ⟨_, rfl⟩
  obtain ⟨d2, hd2⟩ : ∃ d2, (((d1.bump F.RAD_IQ_STS_BAD n bad).wrb F.RAD_STS_IQ_LOCK n true).wr F.RAD_IQ_CFG_DLY_I n i.toNat).wr
      F.RAD_IQ_CFG_DLY_Q n q.toNat = d2 := ⟨_, rfl⟩
  have hev1 : Evolves [.rad] s.dev d1 := hd1 ▸ Dev.updRp_evolves ..
  have hev2 : Evolves [.regs] d1 d2 :=
    hd2 ▸ (Dev.wr_evolves ..).after <| (Dev.wr_evolves ..).after <| (Dev.wrb_evolves ..).after (Dev.bump_evolves ..)
  have hrp1 : d1.rp n = { s.dev.rp n with training := false } := hd1 ▸ Dev.rp_updRp ..
  have hlock2 : d2.on F.RAD_STS_IQ_LOCK n = true :=
    hd2 ▸ ((Writes.wr ..).on_fin _ n).trans (((Writes.wr ..).on_fin _ n).trans (Dev.on_wrb _ _ _ _ (by decide) rfl))
  have hi2 : d2.rd F.RAD_IQ_CFG_DLY_I n = i.toNat :=
    hd2 ▸ ((Writes.wr ..).rd_fin _ n).trans ((Dev.rd_wr _ _ _ _ (by decide)).trans (Nat.mod_eq_of_lt i.isLt))
  have hq2 : d2.rd F.RAD_IQ_CFG_DLY_Q n = q.toNat := hd2 ▸ (Dev.rd_wr _ _ _ _ (by decide)).trans (Nat.mod_eq_of_lt q.isLt)
  have hregs2 : KeepsRegs [F.RAD_STS_IQ_LOCK.at n, F.RAD_IQ_CFG_DLY_I.at n, F.RAD_IQ_STS_BAD.at n] d1 d2 :=
    hd2 ▸ (((keepsRegs_bump.mono (by simp)).trans (keepsRegs_wrb.mono (by simp))).trans (keepsRegs_wr.mono (by simp))).trans
      ((keepsRegs_wr (f := F.RAD_IQ_CFG_DLY_Q) (i := n)).mono (by
        rw [show F.RAD_IQ_CFG_DLY_Q.at n = F.RAD_IQ_CFG_DLY_I.at n from rfl]
        simp))
  obtain ⟨d3, hd3⟩ : ∃ d3, (if (s.dev.fnOf (2 + n)).st = .starting then d2.play n 1 else d2) = d3 := ⟨_, rfl⟩
  have hev3 : Evolves [.out] d2 d3 := hd3 ▸ .ite (Dev.play_evolves ..) .refl
  have hruns : Runs (.iqLaneTrained n (i, q) bad) s d3 := by
    simp only [Runs, exec, execIqLaneTrained, State.go, State.withDev, Dev.laneTrained, htrains, if_true, hd1, hd2, hd3]
  refine .of hruns (hev3.after <| hev2.after hev1.mono).keeps ⟨?_, ?_, ?_, ?_, ?_⟩
  · rw [Dev.rp_congr (hev3.keeps .rad (by decide)), Dev.rp_congr (hev2.keeps .rad (by decide)), hrp1]
  · rw [Dev.on_congr (hev3.keeps .regs (by decide)) (hev3.keeps .grade (by decide)), hlock2]
  · rw [Dev.rd_congr (hev3.keeps .regs (by decide)) (hev3.keeps .grade (by decide)), hi2]
  · rw [Dev.rd_congr (hev3.keeps .regs (by decide)) (hev3.keeps .grade (by decide)), hq2]
  · exact (hev1.keeps.keepsRegs.trans hregs2).trans hev3.keeps.keepsRegs

/-- A port that stops for good without a transaction is idle and trains no more. -/
theorem Dev.radHalt_idle {d : Dev} {n : Nat} (hcur : d.curOf (2 + n) = none) : Evolves [.rad, .sch] d (d.radHalt n)
    ∧ ((d.radHalt n).rp n).training = false ∧ ((d.radHalt n).rp n).phase = .idle := by
  unfold Dev.radHalt
  extract_lets d1
  obtain ⟨d0, hd0⟩ : ∃ d0, d.updRp n (fun r => { r with phase := .idle, mix := none, training := false, rdv := [], agreed := false, elem := none, airUntil := 0 }) = d0 := ⟨_, rfl⟩
  have hev0 : Evolves [.rad] d d0 := hd0 ▸ Dev.updRp_evolves ..
  have hrp0 : (d0.rp n).training = false ∧ (d0.rp n).phase = .idle := by
    rw [← hd0, Dev.rp_updRp]
    exact ⟨rfl, rfl⟩
  have hd1 : d1 = d0 := by
    have hcur0 : (d0.psch (2 + n)).cur = none := (Dev.curOf_congr (hev0.keeps .sch (by decide)) _).trans hcur
    unfold d1
    rw [hd0, Dev.xferLost, hcur0]
  rw [hd1, Dev.rp_congr ((Dev.setPsch_evolves ..).keeps .rad (by decide))]
  exact ⟨(Dev.setPsch_evolves ..).after hev0.mono, hrp0⟩

theorem iqLockTimeout_fails (htrains : s.dev.trains n = true) (hcur : s.dev.curOf (2 + n) = none) :
    Does (.iqLockTimeout n) s (.fn :: .rad :: .sch :: .tim :: reportParts) (fun d => (d.fnOf (2 + n)).st = .failed ∧ (d.rp n).training = false
      ∧ (d.rp n).phase = .idle ∧ OtherFns (2 + n) s.dev d) := by
  obtain ⟨d1, hd1⟩ : ∃ d1, s.dev.toMono ((s.dev.rp n).trainFrom + msC 10) = d1 := ⟨_, rfl⟩
  have htime : Evolves [.tim, .evr] s.dev d1 := hd1 ▸ Dev.toMono_evolves ..
  have hruns : Runs (.iqLockTimeout n) s ((d1.failFn (2 + n)).radHalt n) := by
    simp only [Runs, exec, execIqLockTimeout, State.go, State.withDev, htrains, if_true, hd1]
  have hfail := d1.failFn_reports (2 + n)
  have hfailed : ((d1.failFn (2 + n)).fnOf (2 + n)).st = .failed := by rw [(d1.failFn_reporting (2 + n)).fnOf, Dev.fnOf_setFn]
  have hother := d1.failFn_otherFns (2 + n)
  generalize d1.failFn (2 + n) = d2 at hruns hfail hfailed hother
  have hcur2 : d2.curOf (2 + n) = none := by rw [Dev.curOf_congr (hfail.keeps .sch (by decide)), Dev.curOf_congr (htime.keeps .sch (by decide)), hcur]
  obtain ⟨hhalt, htraining, hphase⟩ := Dev.radHalt_idle hcur2
  refine .of hruns (hhalt.after <| hfail.after htime.mono).keeps ⟨?_, htraining, hphase, (htime.otherFns.trans hother).trans hhalt.otherFns⟩
  rw [Dev.fnOf_congr (hhalt.keeps .fn (by decide)), hfailed]

theorem iqLockLost_trains {stray : Nat} (hlive : s.dev.live = true) (hlock : s.dev.on F.RAD_STS_IQ_LOCK n = true) :
    Does (.iqLockLost (n, stray)) s [.rad, .regs] (fun d => d.rp n = { s.dev.rp n with training := true, trainFrom := s.dev.tim.mono }
      ∧ d.on F.RAD_STS_IQ_LOCK n = false ∧ d.rd F.RAD_IQ_STS_BAD n = min (s.dev.rd F.RAD_IQ_STS_BAD n + (16 + stray)) (2 ^ F.RAD_IQ_STS_BAD.len - 1)) := by
  obtain ⟨d1, hd1⟩ : ∃ d1, (s.dev.bump F.RAD_IQ_STS_BAD n (16 + stray)).wrb F.RAD_STS_IQ_LOCK n false = d1 := ⟨_, rfl⟩
  have hev1 : Evolves [.regs] s.dev d1 := hd1 ▸ (Dev.wrb_evolves ..).after (Dev.bump_evolves ..)
  have hlock1 : d1.on F.RAD_STS_IQ_LOCK n = false := hd1 ▸ Dev.on_wrb _ _ _ _ (by decide) rfl
  have hbad1 : d1.rd F.RAD_IQ_STS_BAD n = min (s.dev.rd F.RAD_IQ_STS_BAD n + (16 + stray)) (2 ^ F.RAD_IQ_STS_BAD.len - 1) :=
    hd1 ▸ ((Writes.wrb ..).rd_fin _ n).trans (Dev.rd_bump _ _ _ _ (by decide))
  have hruns : Runs (.iqLockLost (n, stray)) s (d1.updRp n (fun r => { r with training := true, trainFrom := s.dev.tim.mono })) := by
    simp only [Runs, exec, execIqLockLost, State.go, State.withDev, Dev.iqLost, hlive, hlock, Bool.and_self, if_true, hd1]
  have hupd : Evolves [.rad] d1 (d1.updRp n (fun r => { r with training := true, trainFrom := s.dev.tim.mono })) := Dev.updRp_evolves ..
  refine .of hruns (hupd.after hev1.mono).keeps ⟨?_, ?_, ?_⟩
  · rw [Dev.rp_updRp, Dev.rp_congr (hev1.keeps .rad (by decide))]
  · rw [Dev.on_congr (hupd.keeps .regs (by decide)) (hupd.keeps .grade (by decide)), hlock1]
  · rw [Dev.rd_congr (hupd.keeps .regs (by decide)) (hupd.keeps .grade (by decide)), hbad1]

theorem spiIrqEdge_counts (hlive : s.dev.live = true) (hthere : absentOff s.dev.grade (F.RAD_XCVR_STS_IRQS.at n) = false) :
    Does (.spiIrqEdge n) s [.regs] (fun d => d.rd F.RAD_XCVR_STS_IRQS n = min (s.dev.rd F.RAD_XCVR_STS_IRQS n + 1) (2 ^ F.RAD_XCVR_STS_IRQS.len - 1)
      ∧ KeepsRegs [F.RAD_XCVR_STS_IRQS.at n] s.dev d) := by
  have hruns : Runs (.spiIrqEdge n) s (s.dev.bump F.RAD_XCVR_STS_IRQS n) := by
    simp only [Runs, exec, execSpiIrqEdge, State.go, State.withDev, hlive, hthere, Bool.not_false, Bool.and_self, if_true]
  exact .of hruns (Dev.bump_evolves ..).keeps ⟨Dev.rd_bump _ _ _ _ (by decide), keepsRegs_bump⟩

end

/-! ### Listening -/

section
variable {s : State} {n : Fin 4} {rssi : Int} {us : Nat}

/-- At the end of a listen span the RSSI is shown, and the port does what the channel asks for. -/
theorem lbtListenEnd_heard (hrun : s.dev.portRuns (2 + n) = true) (hphase : (s.dev.rp n).phase = .listen) :
    ∃ d0 d1, Evolves [.tim, .evr] s.dev d0 ∧ (s.dev.rp n).listenUntil ≤ d0.tim.mono ∧ s.dev.toMono (s.dev.rp n).listenUntil = d0
      ∧ Evolves [.regs] d0 d1 ∧ Writes [F.RAD_STS_RSSI] d0 d1 ∧ KeepsRegs [F.RAD_STS_RSSI.at n] d0 d1
      ∧ Runs (.lbtListenEnd n rssi us) s (if s.dev.chanBusy n rssi then
          if s.dev.rd F.RAD_LBT_CFG_TRIES n ≤ (s.dev.rp n).tries + 1 then
            (if (s.dev.rp n).kind = 1 then (d1.bump F.RAD_LBT_BUSY n).bump F.RAD_BCN_SKIP n else d1.bump F.RAD_LBT_BUSY n).radFail n
          else ((d1.busyWait n (s.dev.rp n).be).2.updRp n (fun r => { r with tries := (s.dev.rp n).tries + 1, be := min 5 (r.be + 1) })).listen n
            (d1.busyWait n (s.dev.rp n).be).1
        else (d1.updRp n (fun r => { r with txLen := s.dev.radFrm n r.bytes us r.fec })).radSend n none) := by
  refine ⟨s.dev.toMono (s.dev.rp n).listenUntil, (s.dev.toMono (s.dev.rp n).listenUntil).seeRssi n rssi, Dev.toMono_evolves .., ?_, rfl,
    Dev.seeRssi_evolves .., Writes.wr .., keepsRegs_wr, ?_⟩
  · exact (show (s.dev.rp n).listenUntil ≤ s.dev.tim.mono + ((s.dev.rp n).listenUntil - s.dev.tim.mono) by omega)
  · have hgo : (!s.dev.portRuns (2 + n) || (s.dev.rp n).phase ≠ .listen) = false := by simp [hrun, hphase]
    simp only [Runs, exec, execLbtListenEnd, State.go, State.withDev, Dev.listenEnd, hgo, Bool.false_eq_true, if_false]
    rfl

theorem lbtListenEnd_sends (hrun : s.dev.portRuns (2 + n) = true) (hphase : (s.dev.rp n).phase = .listen) (hquiet : s.dev.chanBusy n rssi = false)
    (hgate : s.dev.gateOpen = true) (hrdv : s.dev.rdvHolds n = false)
    (hduty : (s.dev.toMono (s.dev.rp n).listenUntil).dutyFits n (s.dev.radFrm n (s.dev.rp n).bytes us (s.dev.rp n).fec) = true) :
    Does (.lbtListenEnd n rssi us) s [.rad, .regs, .tim, .evr, .out] (fun d => (d.rp n).phase = .sending ∧ (d.rp n).txFrom = d.tim.mono
      ∧ (s.dev.rp n).listenUntil ≤ d.tim.mono ∧ (d.rp n).txLen = s.dev.radFrm n (s.dev.rp n).bytes us (s.dev.rp n).fec) := by
  obtain ⟨d0, d1, htime, hmono0, hd0, hev1, hw1, -, hruns⟩ := lbtListenEnd_heard (rssi := rssi) (us := us) hrun hphase
  rw [hd0] at hduty
  rw [hquiet, if_neg Bool.false_ne_true] at hruns
  obtain ⟨d2, hd2⟩ : ∃ d2, d1.updRp n (fun r => { r with txLen := s.dev.radFrm n r.bytes us r.fec }) = d2 := ⟨_, rfl⟩
  have hev2 : Evolves [.rad] d1 d2 := hd2 ▸ Dev.updRp_evolves ..
  have hrp1 : d1.rp n = s.dev.rp n := by rw [Dev.rp_congr (hev1.keeps .rad (by decide)), Dev.rp_congr (htime.keeps .rad (by decide))]
  have hrp2 : d2.rp n = { s.dev.rp n with txLen := s.dev.radFrm n (s.dev.rp n).bytes us (s.dev.rp n).fec } := by rw [← hd2, Dev.rp_updRp, hrp1]
  have hrp0 : d0.rp n = s.dev.rp n := Dev.rp_congr (htime.keeps .rad (by decide)) n
  have hmono2 : d2.tim.mono = d0.tim.mono := by rw [hev2.keeps .tim (by decide), hev1.keeps .tim (by decide)]
  have hw2 : Writes [F.RAD_STS_RSSI] d0 d2 := hev2.quiet.after hw1
  have h02 : Evolves [.regs, .rad] d0 d2 := hev2.after hev1.mono
  have hgate2 : d2.gateOpen = true := by
    rw [Dev.gateOpen_same (h02.keeps .grade (by decide)) hw2.isSafe (h02.keeps .upd (by decide)) (h02.keeps .par (by decide)),
      Dev.gateOpen_congr htime, hgate]
  have hrdv2 : d2.rdvHolds n = false := (Dev.rdvHolds_congr (by rw [hrp2]) (by rw [hrp2]) (by rw [hrp2])).trans hrdv
  have hduty2 : d2.dutyFits n (d2.rp n).txLen = true := by
    rw [Dev.dutyFits_congr (by rw [hrp2, hrp0]) hmono2 (hw2.rd_fin _ n), hrp2]
    exact hduty
  obtain ⟨hsending, hfrom, hlen, hmono⟩ := Dev.radSend_sending (until_ := none) hgate2 hrdv2 hduty2
  rw [hd2] at hruns
  refine .of hruns ((Dev.radSend_evolves ..).after <| h02.after htime.mono).keeps ⟨hsending, ?_, ?_, ?_⟩
  · rw [hfrom, hmono]
  · rw [hmono, hmono2]
    exact hmono0
  · rw [hlen, hrp2]

theorem lbtListenEnd_gated (hrun : s.dev.portRuns (2 + n) = true) (hphase : (s.dev.rp n).phase = .listen) (hquiet : s.dev.chanBusy n rssi = false)
    (hgate : s.dev.gateOpen = false) :
    Does (.lbtListenEnd n rssi us) s [.rad, .regs, .tim, .evr] (fun d => (d.rp n).phase = .duty none ∧ d.on F.RAD_STS_GATED n = true) := by
  obtain ⟨d0, d1, htime, -, -, hev1, hw1, -, hruns⟩ := lbtListenEnd_heard (rssi := rssi) (us := us) hrun hphase
  rw [hquiet, if_neg Bool.false_ne_true] at hruns
  obtain ⟨d2, hd2⟩ : ∃ d2, d1.updRp n (fun r => { r with txLen := s.dev.radFrm n r.bytes us r.fec }) = d2 := ⟨_, rfl⟩
  have hev2 : Evolves [.rad] d1 d2 := hd2 ▸ Dev.updRp_evolves ..
  have hw2 : Writes [F.RAD_STS_RSSI] d0 d2 := hev2.quiet.after hw1
  have h02 : Evolves [.regs, .rad] d0 d2 := hev2.after hev1.mono
  have hgate2 : d2.gateOpen = false := by
    rw [Dev.gateOpen_same (h02.keeps .grade (by decide)) hw2.isSafe (h02.keeps .upd (by decide)) (h02.keeps .par (by decide)),
      Dev.gateOpen_congr htime, hgate]
  have hupd : Evolves [.rad] (d2.wrb F.RAD_STS_GATED n true) ((d2.wrb F.RAD_STS_GATED n true).updRp n (fun r => { r with phase := .duty none })) :=
    Dev.updRp_evolves ..
  rw [hd2, Dev.radSend, hgate2, Bool.not_false, if_pos rfl] at hruns
  refine .of hruns (hupd.after <| (Dev.wrb_evolves ..).after <| h02.after htime.mono).keeps ⟨?_, ?_⟩
  · rw [Dev.rp_updRp]
  · rw [Dev.on_congr (hupd.keeps .regs (by decide)) (hupd.keeps .grade (by decide)), Dev.on_wrb _ _ _ _ (by decide) rfl]

/-- The port listens from now on for the wait, the span and up to 5 ms more. -/
theorem Dev.listen_listens (d : Dev) (n wait : Nat) : ∃ r < 11,
    (d.listen n wait).rp n = { d.rp n with phase := .listen, listenUntil := d.tim.mono + wait + msC (d.rd F.RAD_LBT_CFG_LISTEN n) + 250000 * r }
      ∧ (d.listen n wait).tim = d.tim := by
  refine ⟨(d.drawOf 11).1, Nat.mod_lt _ (by decide), ?_, (Dev.listen_evolves ..).keeps .tim (by decide)⟩
  unfold Dev.listen
  extract_lets r
  rw [Dev.rp_updRp, Dev.rp_congr ((Dev.drawOf_evolves ..).keeps .rad (by decide))]

/-- A busy channel is waited for a draw of 2^be units. -/
theorem Dev.busyWait_bounds (d : Dev) (n be : Nat) : msC (d.rd F.RAD_LBT_CFG_UNIT n) ≤ (d.busyWait n be).1
    ∧ (d.busyWait n be).1 ≤ 2 ^ be * msC (d.rd F.RAD_LBT_CFG_UNIT n) := by
  have hdraw : (d.drawOf (2 ^ be)).1 < 2 ^ be := Nat.mod_lt _ (Nat.two_pow_pos be)
  exact ⟨Nat.le_mul_of_pos_left _ (Nat.succ_pos _), Nat.mul_le_mul_right _ hdraw⟩

theorem lbtListenEnd_tries (hrun : s.dev.portRuns (2 + n) = true) (hphase : (s.dev.rp n).phase = .listen) (hbusy : s.dev.chanBusy n rssi = true)
    (htries : (s.dev.rp n).tries + 1 < s.dev.rd F.RAD_LBT_CFG_TRIES n) :
    Does (.lbtListenEnd n rssi us) s [.rad, .regs, .tim, .evr, .freeCtr] (fun d =>
      d.rp n = { s.dev.rp n with tries := (s.dev.rp n).tries + 1, be := min 5 ((s.dev.rp n).be + 1), listenUntil := (d.rp n).listenUntil }
        ∧ d.tim.mono + msC (s.dev.rd F.RAD_LBT_CFG_UNIT n) + msC (s.dev.rd F.RAD_LBT_CFG_LISTEN n) ≤ (d.rp n).listenUntil
        ∧ (d.rp n).listenUntil ≤ d.tim.mono + 2 ^ (s.dev.rp n).be * msC (s.dev.rd F.RAD_LBT_CFG_UNIT n) + msC (s.dev.rd F.RAD_LBT_CFG_LISTEN n) + 2500000
        ∧ KeepsRegs [F.RAD_STS_RSSI.at n] s.dev d) := by
  obtain ⟨d0, d1, htime, -, -, hev1, hw1, hregs1, hruns⟩ := lbtListenEnd_heard (rssi := rssi) (us := us) hrun hphase
  rw [hbusy, if_pos rfl, if_neg (Nat.not_le.mpr htries)] at hruns
  have hrd (f : F) (hf : ∀ i : Fin 4, ([F.RAD_STS_RSSI].all fun x => x.spares f i) = true) : d1.rd f n = s.dev.rd f n :=
    (hw1.rd_fin f n hf).trans (Dev.rd_congr (htime.keeps .regs (by decide)) (htime.keeps .grade (by decide)) f n)
  have hrp1 : d1.rp n = s.dev.rp n := by rw [Dev.rp_congr (hev1.keeps .rad (by decide)), Dev.rp_congr (htime.keeps .rad (by decide))]
  obtain ⟨hwaitLo, hwaitHi⟩ := d1.busyWait_bounds n (s.dev.rp n).be
  have hdraw : Evolves [.freeCtr] d1 (d1.busyWait n (s.dev.rp n).be).2 := Dev.busyWait_evolves ..
  generalize d1.busyWait n (s.dev.rp n).be = w at hruns hwaitLo hwaitHi hdraw
  obtain ⟨d2, hd2⟩ : ∃ d2, w.2.updRp n (fun r => { r with tries := (s.dev.rp n).tries + 1, be := min 5 (r.be + 1) }) = d2 := ⟨_, rfl⟩
  have hev2 : Evolves [.freeCtr, .rad] d1 d2 := hd2 ▸ (Dev.updRp_evolves ..).after hdraw.mono
  have hrp2 : d2.rp n = { s.dev.rp n with tries := (s.dev.rp n).tries + 1, be := min 5 ((s.dev.rp n).be + 1) } := by
    rw [← hd2, Dev.rp_updRp, Dev.rp_congr (hdraw.keeps .rad (by decide)), hrp1]
  have hlisten2 : d2.rd F.RAD_LBT_CFG_LISTEN n = s.dev.rd F.RAD_LBT_CFG_LISTEN n := by
    rw [Dev.rd_congr (hev2.keeps .regs (by decide)) (hev2.keeps .grade (by decide)), hrd _ (by decide +kernel)]
  rw [hrd _ (by decide +kernel)] at hwaitLo hwaitHi
  rw [hd2] at hruns
  obtain ⟨r, hr, hrp, htim⟩ := d2.listen_listens n w.1
  have hlast := d2.listen_evolves n w.1
  rw [hrp2, hlisten2] at hrp
  refine .of hruns (hlast.after <| hev2.after <| hev1.after htime.mono).keeps ⟨?_, ?_, ?_, ?_⟩
  · rw [hrp, ← hphase]
  · rw [hrp, htim]
    dsimp only
    omega
  · rw [hrp, htim]
    dsimp only
    omega
  · exact (htime.keeps.keepsRegs.trans hregs1).trans (hev2.keeps.keepsRegs.trans hlast.keeps.keepsRegs)

theorem lbtListenEnd_fails (hrun : s.dev.portRuns (2 + n) = true) (hphase : (s.dev.rp n).phase = .listen) (hbusy : s.dev.chanBusy n rssi = true)
    (htries : s.dev.rd F.RAD_LBT_CFG_TRIES n ≤ (s.dev.rp n).tries + 1) (hkind : (s.dev.rp n).kind = 0) (hcur : (s.dev.curOf (2 + n)).isSome = true) :
    Does (.lbtListenEnd n rssi us) s [.rad, .regs, .tim, .evr] (fun d => d.rp n = { s.dev.rp n with phase := .failed }
      ∧ d.rd F.RAD_LBT_BUSY n = min (s.dev.rd F.RAD_LBT_BUSY n + 1) (2 ^ F.RAD_LBT_BUSY.len - 1)) := by
  obtain ⟨d0, d1, htime, -, -, hev1, hw1, -, hruns⟩ := lbtListenEnd_heard (rssi := rssi) (us := us) hrun hphase
  rw [hbusy, if_pos rfl, if_pos htries, if_neg (by rw [hkind]; decide)] at hruns
  have hbusy2 : (d1.bump F.RAD_LBT_BUSY n).rd F.RAD_LBT_BUSY n = min (s.dev.rd F.RAD_LBT_BUSY n + 1) (2 ^ F.RAD_LBT_BUSY.len - 1) := by
    rw [Dev.rd_bump _ _ _ _ (by decide), hw1.rd_fin _ n, Dev.rd_congr (htime.keeps .regs (by decide)) (htime.keeps .grade (by decide))]
  have hev2 : Evolves [.regs] d1 (d1.bump F.RAD_LBT_BUSY n) := Dev.bump_evolves ..
  generalize d1.bump F.RAD_LBT_BUSY n = d2 at hruns hbusy2 hev2
  have h02 : Evolves [.tim, .evr, .regs] s.dev d2 := hev2.after <| hev1.after htime.mono
  have hrp2 : d2.rp n = s.dev.rp n := Dev.rp_congr (h02.keeps .rad (by decide)) n
  have hcur2 : (d2.psch (2 + n)).cur.isSome = true := by rw [Dev.psch_congr (h02.keeps .sch (by decide))]; exact hcur
  have hfail : d2.radFail n = d2.updRp n (fun r => { r with phase := .failed }) := by
    simp only [Dev.radFail, hrp2, hkind, hcur2, if_true]
  rw [hfail] at hruns
  have hupd : Evolves [.rad] d2 (d2.updRp n (fun r => { r with phase := .failed })) := Dev.updRp_evolves ..
  refine .of hruns (hupd.after h02.mono).keeps ⟨?_, ?_⟩
  · rw [Dev.rp_updRp, hrp2]
  · rw [Dev.rd_congr (hupd.keeps .regs (by decide)) (hupd.keeps .grade (by decide)), hbusy2]

end

/-! ### The end of a wait and of a transmission -/

section
variable {s : State} {n : Fin 4}

theorem dutyWaitEnd_sends {t : Nat} (hrun : s.dev.portRuns (2 + n) = true) (hphase : (s.dev.rp n).phase = .duty none) (hgate : s.dev.gateOpen = true)
    (hrdv : s.dev.rdvHolds n = false) (hat : s.dev.dutyAt n (s.dev.rp n).txLen = some t)
    (hduty : (s.dev.toMono t).dutyFits n (s.dev.rp n).txLen = true) :
    Does (.dutyWaitEnd n) s [.rad, .regs, .tim, .evr, .out] (fun d => (d.rp n).phase = .sending ∧ (d.rp n).txFrom = d.tim.mono
      ∧ (d.rp n).txLen = (s.dev.rp n).txLen) := by
  obtain ⟨d1, hd1⟩ : ∃ d1, s.dev.toMono t = d1 := ⟨_, rfl⟩
  have htime : Evolves [.tim, .evr] s.dev d1 := hd1 ▸ Dev.toMono_evolves ..
  have hruns : Runs (.dutyWaitEnd n) s (d1.radSend n none) := by
    simp only [Runs, exec, execDutyWaitEnd, State.go, State.withDev, Dev.dutyEnd, hrun, hphase, hgate, hrdv, hat, hd1, if_true, Bool.not_true,
      Bool.false_eq_true, if_false]
  have hrp1 : d1.rp n = s.dev.rp n := Dev.rp_congr (htime.keeps .rad (by decide)) n
  rw [hd1, ← hrp1] at hduty
  have hrdv1 : d1.rdvHolds n = false := (Dev.rdvHolds_congr (by rw [hrp1]) (by rw [hrp1]) (by rw [hrp1])).trans hrdv
  obtain ⟨hsending, hfrom, hlen, hmono⟩ := Dev.radSend_sending (until_ := none) ((Dev.gateOpen_congr htime).trans hgate) hrdv1 hduty
  refine .of hruns ((Dev.radSend_evolves ..).after htime.mono).keeps ⟨hsending, ?_, ?_⟩
  · rw [hfrom, hmono]
  · rw [hlen, hrp1]

/-- A radio port's account of a transmission that has just ended. -/
def Rad.ended (r : Rad) (now : Nat) : Rad :=
  { r with txLog := (r.txFrom, now) :: r.txLog.filter (fun e => decide (now < e.2 + hourC)) }

/-- At the end of a transmission its span is the newest of the account. -/
theorem radioTxEnd_accounts (hrun : s.dev.portRuns (2 + n) = true) (hphase : (s.dev.rp n).phase = .sending) :
    ∃ d : Dev, Evolves [.tim, .evr, .rad, .out] s.dev d ∧ d.rp n = (s.dev.rp n).ended d.tim.mono ∧ Runs (.radioTxEnd n) s (d.radAfter n) := by
  obtain ⟨d1, hd1⟩ : ∃ d1, s.dev.toMono ((s.dev.rp n).txFrom + (s.dev.rp n).txLen) = d1 := ⟨_, rfl⟩
  have htime : Evolves [.tim, .evr] s.dev d1 := hd1 ▸ Dev.toMono_evolves ..
  have hrp1 : d1.rp n = s.dev.rp n := Dev.rp_congr (htime.keeps .rad (by decide)) n
  obtain ⟨d2, hd2⟩ : ∃ d2, d1.updRp n (fun x => { x with
    txLog := ((s.dev.rp n).txFrom, d1.tim.mono) :: x.txLog.filter (fun e => decide (d1.tim.mono < e.2 + hourC)) }) = d2 := ⟨_, rfl⟩
  have hev2 : Evolves [.rad] d1 d2 := hd2 ▸ Dev.updRp_evolves ..
  have hrp2 : d2.rp n = (s.dev.rp n).ended d2.tim.mono := by
    rw [hev2.keeps .tim (by decide), ← hd2, Dev.rp_updRp, hrp1, Rad.ended]
  have hplay : Evolves [.out] d2 (d2.play n 1) := Dev.play_evolves ..
  refine ⟨d2.play n 1, hplay.after <| hev2.after htime.mono, ?_, ?_⟩
  · rw [Dev.rp_congr (hplay.keeps .rad (by decide)), hplay.keeps .tim (by decide), hrp2]
  · simp only [Runs, exec, execRadioTxEnd, State.go, State.withDev, Dev.radTxEnd, hrun, hphase, if_true, hd1, hd2]

theorem Dev.radWait_congr {d e : Dev} {n : Nat} (hregs : e.regs = d.regs) (hgrade : e.grade = d.grade) (hkind : (e.rp n).kind = (d.rp n).kind)
    (hlen : (e.rp n).txLen = (d.rp n).txLen) : e.radWait n = d.radWait n := by
  have hmode : e.radMode n = d.radMode n := Dev.rd_congr hregs hgrade ..
  have hsun : e.radSun n = d.radSun n := by
    unfold Dev.radSun
    rw [hmode]
  simp only [Dev.radWait, hsun, hmode, Dev.rd_congr hregs hgrade, hkind, hlen]

theorem radioTxEnd_awaits {x : Xfer} (hrun : s.dev.portRuns (2 + n) = true) (hphase : (s.dev.rp n).phase = .sending)
    (hcur : s.dev.curOf (2 + n) = some x) (hkind1 : (s.dev.rp n).kind ≠ 1) (hkind5 : (s.dev.rp n).kind ≠ 5) :
    Does (.radioTxEnd n) s [.rad, .tim, .evr, .out] (fun d => (d.rp n).phase = .awaiting (d.tim.mono + s.dev.radWait n)
      ∧ (d.rp n).txLog.head? = some ((s.dev.rp n).txFrom, d.tim.mono)) := by
  obtain ⟨d1, hev1, hrp1, hruns⟩ := radioTxEnd_accounts hrun hphase
  have hcur1 : d1.curOf (2 + n) = some x := by rw [Dev.curOf_congr (hev1.keeps .sch (by decide)), hcur]
  have hkind : (d1.rp n).kind = (s.dev.rp n).kind := by rw [hrp1, Rad.ended]
  have hwait : d1.radWait n = s.dev.radWait n :=
    Dev.radWait_congr (hev1.keeps .regs (by decide)) (hev1.keeps .grade (by decide)) hkind (by rw [hrp1, Rad.ended])
  have hafter : d1.radAfter n = d1.updRp n (fun r => { r with phase := .awaiting (d1.tim.mono + d1.radWait n) }) := by
    rw [← hkind] at hkind1 hkind5
    simp only [Dev.radAfter, hcur1]
  rw [hafter, hwait] at hruns
  have hupd : Evolves [.rad] d1 (d1.updRp n (fun r => { r with phase := .awaiting (d1.tim.mono + s.dev.radWait n) })) := Dev.updRp_evolves ..
  refine .of hruns (hupd.after hev1.mono).keeps ⟨?_, ?_⟩
  · rw [Dev.rp_updRp, hupd.keeps .tim (by decide)]
  · rw [Dev.rp_updRp, hupd.keeps .tim (by decide), hrp1]
    rfl

theorem radioTxEnd_beacon (hrun : s.dev.portRuns (2 + n) = true) (hphase : (s.dev.rp n).phase = .sending) (hkind : (s.dev.rp n).kind = 1) :
    Does (.radioTxEnd n) s [.rad, .sch, .tim, .evr, .out] (fun d => (d.rp n).phase = .idle ∧ (d.psch (2 + n)).beacon = false
      ∧ (d.rp n).txLog.head? = some ((s.dev.rp n).txFrom, d.tim.mono)) := by
  obtain ⟨d1, hev1, hrp1, hruns⟩ := radioTxEnd_accounts hrun hphase
  have hkind1 : (d1.rp n).kind = 1 := by rw [hrp1, Rad.ended, hkind]
  obtain ⟨d2, hd2⟩ : ∃ d2, d1.updRp n (fun r => { r with phase := .idle, mix := none, slot := false, agreed := false }) = d2 := ⟨_, rfl⟩
  have hev2 : Evolves [.rad] d1 d2 := hd2 ▸ Dev.updRp_evolves ..
  have hrp2 : (d2.rp n).phase = .idle ∧ (d2.rp n).txLog.head? = some ((s.dev.rp n).txFrom, d1.tim.mono) := by
    rw [← hd2, Dev.rp_updRp, hrp1]
    exact ⟨rfl, rfl⟩
  have hafter : d1.radAfter n = d2.setPsch (2 + n) { d1.psch (2 + n) with beacon := false } := by
    simp only [Dev.radAfter, hkind1, hd2]
  rw [hafter] at hruns
  have hset : Evolves [.sch] d2 (d2.setPsch (2 + n) { d1.psch (2 + n) with beacon := false }) := Dev.setPsch_evolves ..
  obtain ⟨hidle, hlog⟩ := hrp2
  refine .of hruns (hset.after <| hev2.after hev1.mono).keeps ⟨?_, ?_, ?_⟩
  · rw [Dev.rp_congr (hset.keeps .rad (by decide)), hidle]
  · rw [Dev.psch_setPsch]
  · rw [Dev.rp_congr (hset.keeps .rad (by decide)), hset.keeps .tim (by decide), hev2.keeps .tim (by decide), hlog]

end

/-- Settles O45, one command after the other. -/
theorem radioPorts : Obligations.RadioPorts :=
  ⟨fun _ _ _ _ _ hrun hlock hok => radioFrameRx_good hrun hlock hok,
   fun _ _ _ _ _ hrun hlock hok => radioFrameRx_bad hrun hlock hok,
   fun _ _ _ _ hlive hseen => seenKeyExpiry_forgets hlive hseen,
   fun _ _ _ _ _ htrains => iqLaneTrained_locks htrains,
   fun _ _ htrains hcur => iqLockTimeout_fails htrains hcur,
   fun _ _ _ hlive hlock => iqLockLost_trains hlive hlock,
   fun _ _ hlive hthere => spiIrqEdge_counts hlive hthere,
   fun _ _ _ _ hrun hphase hquiet hgate hrdv hduty => lbtListenEnd_sends hrun hphase hquiet hgate hrdv hduty,
   fun _ _ _ _ hrun hphase hquiet hgate => lbtListenEnd_gated hrun hphase hquiet hgate,
   fun _ _ _ _ hrun hphase hbusy htries => lbtListenEnd_tries hrun hphase hbusy htries,
   fun _ _ _ _ hrun hphase hbusy htries hkind hcur => lbtListenEnd_fails hrun hphase hbusy htries hkind hcur,
   fun _ _ _ hrun hphase hgate hrdv hat hduty => dutyWaitEnd_sends hrun hphase hgate hrdv hat hduty,
   fun _ _ _ hrun hphase hcur hkind1 hkind5 => radioTxEnd_awaits hrun hphase hcur hkind1 hkind5,
   fun _ _ hrun hphase hkind => radioTxEnd_beacon hrun hphase hkind⟩

end Sys2Proof.Machine

end

section

-- one proof after the other: the check gives the text few threads
set_option Elab.async false

namespace Sys2Proof.Machine

/-! ## O46: a slot that is yielded, and an attempt that no longer fits its heat -/

/-- A calendar meter of radio port 0, SCHEDULED in the open heat, with its next slot at 1 s. -/
def calendarMeter : Ctx := { addr := 5, kind := 0, st := 3, attach := 3, heat := 1, nextSlot := 1000000000 }

/-- Radio port 0 is ON in a SUN mode and a beacon of it is due; the attempt of meter 3 was asked for after the end of its heat. -/
def yieldedLate : State := .booted fun d => { (d.setFn 2 { st := .on }).wr F.RAD_CFG_MODE 0 3 with
  tim := { d.tim with beaconDue := [2] }
  ctx := { d.ctx with tab := [(3, calendarMeter)] }
  sch := { d.sch with
    grps := [(0, { heat := some { start := 0, from_ := 0, until_ := 10 ^ 10, pol := {} } })]
    entries := [(3, { grp := 0, port := 2, due := 0, asked := 10 ^ 10 })] } }

/-- The meter's attempt is planned again, past the end of the heat: an overrun is counted. -/
theorem yieldedLate_overruns : (yieldedLate.devAfter (.agreedSlot 3 [] 0 0)).word (F.SCH_OVERRUN.at 0) ≠ yieldedLate.dev.word (F.SCH_OVERRUN.at 0) := by
  decide +kernel

/-- Refutes O46 in its clause on a slot that is yielded to a beacon: the meter's attempt is planned again behind the slot, and where it no longer
fits its heat the overrun is counted in a register of the Heat scheduler besides RAD_SLOT_YIELD. -/
theorem not_slotsAndWindows : ¬ Obligations.SlotsAndWindows := by
  unfold Obligations.SlotsAndWindows
  rintro ⟨hyield, -⟩
  obtain ⟨-, hregs⟩ := (hyield yieldedLate 3 [] 0 0 calendarMeter 0 (by decide +kernel) (by decide +kernel) (by decide +kernel) (by decide +kernel)
    (by decide +kernel) (by decide +kernel) (by decide +kernel) (by decide +kernel) (by decide +kernel)).devAfter
  exact yieldedLate_overruns (hregs _ (by decide))

end Sys2Proof.Machine

end

section

-- one proof after the other: the check gives the text few threads
set_option Elab.async false

namespace Sys2Proof.Machine

/-! ## O47: the update engine's own state -/

theorem Dev.hstepTo_upd (d : Dev) (n : Nat) : (d.hstepTo n).upd = { d.upd with hstep := n } := (Dev.recordPost_evolves ..).keeps .upd (by decide)

theorem Dev.hitlessEnd_upd (d : Dev) (reason : Nat) : (d.hitlessEnd reason).upd = { d.upd with st := 0 } :=
  (Dev.recordPost_evolves ..).keeps .upd (by decide)

theorem Dev.hitlessEnd_mono (d : Dev) (reason : Nat) : (d.hitlessEnd reason).tim = d.tim := (Dev.recordPost_evolves ..).keeps .tim (by decide)

theorem Dev.ringsReset_rings (d : Dev) : d.ringsReset.rng.pairs = [] ∧ d.ringsReset.rng.granted = [] ∧ d.ringsReset.upd = d.upd := ⟨rfl, rfl, rfl⟩

/-- A paused activation: the running region holds the staged package, the rings are as after a reset. -/
theorem Dev.pauseStart_upd (d : Dev) (p : Nat) (h : Held) :
    (d.pauseStart p h).upd = { d.upd with st := 3, paused := true, fresh := true, run := pkgInfo d.upd.staged }
      ∧ (d.pauseStart p h).rng.pairs = [] ∧ (d.pauseStart p h).rng.granted = [] := by
  unfold Dev.pauseStart
  extract_lets i d1 d2 d3 u
  rw [show pkgInfo d.upd.staged = i from rfl]
  clear_value i
  have hev1 : Evolves (.par :: reportParts) d d1 := .ite (Dev.sendImage_evolves ..) .refl
  have hrings : Evolves (.ctx :: reportParts) (d1.writeRun i) (d2.drainRings p) :=
    (Dev.drainRings_evolves ..).after <| (Dev.recordPost_evolves ..).after (Dev.complete_evolves ..).mono
  have hupd3 : d3.upd = { d.upd with run := i, fresh := true } := by
    obtain ⟨-, -, hupdr⟩ := (d2.drainRings p).ringsReset_rings
    rw [show d3.upd = (d2.drainRings p).upd from hupdr, hrings.keeps .upd (by decide), Dev.writeRun, hev1.keeps .upd (by decide)]
  obtain ⟨hpairs, hgranted, -⟩ := (d2.drainRings p).ringsReset_rings
  have hpairs3 : d3.rng.pairs = [] := hpairs
  have hgranted3 : d3.rng.granted = [] := hgranted
  have hu : u = { d.upd with run := i, fresh := true } := hupd3
  clear_value u d3
  subst hu
  exact ⟨rfl, hpairs3, hgranted3⟩

/-- A hitless activation begins with its first step. -/
theorem Dev.hitlessStart_upd (d : Dev) (p : Nat) (h : Held) :
    (d.hitlessStart p h).upd = { d.upd with
      st := 4, hstep := 1, target := (pkgInfo d.upd.staged).version, resetAt := none, readyAt := none } := by
  unfold Dev.hitlessStart
  extract_lets i _ d1 d2
  have hev2 : Evolves reportParts d1 d2 := (Dev.recordPost_evolves ..).after (Dev.complete_evolves ..).mono
  have hupd2 : d2.upd = { d.upd with st := 4, target := i.version, resetAt := none, readyAt := none } := hev2.keeps .upd (by decide)
  clear_value d2
  rw [(Dev.sendImage_evolves ..).keeps .upd (by decide), Dev.hstepTo_upd, hupd2]

theorem Dev.activateHost_upd (d : Dev) (p : Nat) (h : Held) :
    (d.activateHost p h).upd = if d.accepts d.upd.staged then { d.upd with hostOk := true } else { d.upd with staged := [] } := by
  unfold Dev.activateHost
  split
  · exact ((Dev.recordPost_evolves ..).keeps .upd (by decide)).trans ((Dev.complete_evolves ..).keeps .upd (by decide))
  · extract_lets f
    exact (Dev.complete_evolves ..).keeps .upd (by decide)

/-! ### Staging and activation by descriptor -/

section
variable {s : State} {p : Fin 64} {h : Held}

/-- The bytes of a descriptor's buffer as they come. -/
def Held.bytesOf (h : Held) (bs : List Byte) : List Byte := padTo (bufLen h.desc) (bs.take (bufLen h.desc))

theorem fwWrite_runs {bs : List Byte} (htakes : s.takes p 0x58 h) : Runs (.fwWrite p (.data bs)) s (s.dev.fwWrite p h (h.bytesOf bs)) := by
  simp only [Runs, exec, execFwWrite, State.go, State.withDev, htakes.onDescRead_eq, Held.bytesOf]

theorem fwWrite_first {bs : List Byte} (htakes : s.takes p 0x58 h) (hlock : s.dev.on F.UPD_CFG_OWNER_LOCK = false) (hact : s.dev.activating = false)
    (hfirst : h.desc.word 6 = 0) :
    Completes (.fwWrite p (.data bs)) s p h
      [((padTo (bufLen h.desc) (bs.take (bufLen h.desc))).take (stageCap (padTo (bufLen h.desc) (bs.take (bufLen h.desc))))).length] [.upd] (fun d =>
        d.upd = { s.dev.upd with staged := (padTo (bufLen h.desc) (bs.take (bufLen h.desc))).take (stageCap (padTo (bufLen h.desc) (bs.take (bufLen h.desc)))) }) := by
  rw [← Held.bytesOf]
  have hruns := fwWrite_runs (bs := bs) htakes
  generalize h.bytesOf bs = all at hruns ⊢
  have hwrite : s.dev.fwWrite p h all = ({ s.dev with upd := { s.dev.upd with staged := all.take (stageCap all) } } : Dev).complete p h.id 0 0
      [(all.take (stageCap all)).length] := by
    simp only [Dev.fwWrite, hlock, hact, hfirst, Bool.false_eq_true, if_false, if_true, List.length_nil, ne_eq, not_true_eq_false, false_and, or_self,
      List.nil_append, Nat.sub_zero]
  rw [hwrite] at hruns
  exact .intro hruns Evolves.upd.keeps ((Dev.complete_evolves ..).keeps .upd (by decide))

theorem fwWrite_next {bs : List Byte} (htakes : s.takes p 0x58 h) (hlock : s.dev.on F.UPD_CFG_OWNER_LOCK = false) (hact : s.dev.activating = false)
    (hlater : h.desc.word 6 ≠ 0) (hplace : h.desc.word 6 = s.dev.upd.staged.length) (hroom : s.dev.upd.staged.length < stageCap s.dev.upd.staged) :
    Does (.fwWrite p (.data bs)) s [.rng, .regs, .upd] (fun d => d.upd = { s.dev.upd with
      staged := (s.dev.upd.staged ++ padTo (bufLen h.desc) (bs.take (bufLen h.desc))).take
        (stageCap (s.dev.upd.staged ++ padTo (bufLen h.desc) (bs.take (bufLen h.desc)))) }) := by
  rw [← Held.bytesOf]
  have hruns := fwWrite_runs (bs := bs) htakes
  generalize h.bytesOf bs = new at hruns ⊢
  obtain ⟨d1, hd1⟩ : ∃ d1 : Dev, { s.dev with upd := { s.dev.upd with
    staged := (s.dev.upd.staged ++ new).take (stageCap (s.dev.upd.staged ++ new)) } } = d1 := ⟨_, rfl⟩
  have hev1 : Evolves [.upd] s.dev d1 := hd1 ▸ Evolves.upd
  have hfits : ¬(h.desc.word 6 ≠ s.dev.upd.staged.length ∨ (h.desc.word 6 ≠ 0 ∧ stageCap s.dev.upd.staged ≤ h.desc.word 6)) := by
    rintro (hne | ⟨-, hle⟩)
    · exact hne hplace
    · exact absurd (hplace ▸ hle) (Nat.not_le.mpr hroom)
  have hwrite : s.dev.fwWrite p h new = d1.complete p h.id 0 0
      [((s.dev.upd.staged ++ new).take (stageCap (s.dev.upd.staged ++ new))).length - s.dev.upd.staged.length] := by
    simp only [Dev.fwWrite, hlock, hact, if_neg hlater, if_neg hfits, Bool.false_eq_true, if_false, hd1]
  rw [hwrite] at hruns
  refine .of hruns ((Dev.complete_evolves ..).after hev1.mono).keeps ?_
  rw [(Dev.complete_evolves ..).keeps .upd (by decide), ← hd1]

/-- An activation that nothing refuses, of a package that is whole. -/
theorem Dev.fwActivate_goes {d : Dev} {p : Nat} {hitless : Bool} (hact : d.activating = false) (href : d.updRefuse = 0)
    (hhit : (d.par.en && !bitAt (h.desc.word 3) 0 && !d.upd.recovery) = hitless) (hwhole : d.pkgFault hitless = none) :
    d.fwActivate p h = if d.upd.recovery then d.activateHost p h else if hitless then d.hitlessStart p h else d.pauseStart p h := by
  simp only [Dev.fwActivate, hact, href, hhit, hwhole, Bool.false_eq_true, if_false, ne_eq, not_true_eq_false]

theorem fwActivate_runs (htakes : s.takes p 0x59 h) : Runs (.fwActivate p) s (s.dev.fwActivate p h) := by
  simp only [Runs, exec, execFwActivate, State.go, State.withDev, htakes.onDesc_eq]

theorem fwActivate_pause (htakes : s.takes p 0x59 h) (hact : s.dev.activating = false) (href : s.dev.updRefuse = 0) (hrec : s.dev.upd.recovery = false)
    (hpause : s.dev.par.en = false ∨ bitAt (h.desc.word 3) 0 = true) (hwhole : s.dev.pkgFault false = none) :
    Does (.fwActivate p) s (.upd :: .fn :: .par :: .ctx :: reportParts) (fun d =>
      d.upd = { s.dev.upd with st := 3, paused := true, fresh := true, run := pkgInfo s.dev.upd.staged } ∧ d.rng.pairs = [] ∧ d.rng.granted = []) := by
  have hhit : (s.dev.par.en && !bitAt (h.desc.word 3) 0 && !s.dev.upd.recovery) = false := by
    obtain hen | hbit := hpause
    · rw [hen, Bool.false_and, Bool.false_and]
    · rw [hbit, Bool.not_true, Bool.and_false, Bool.false_and]
  have hruns := fwActivate_runs htakes
  rw [Dev.fwActivate_goes hact href hhit hwhole, hrec, if_neg Bool.false_ne_true, if_neg Bool.false_ne_true] at hruns
  exact .of hruns (Dev.pauseStart_evolves ..).into (Dev.pauseStart_upd ..)

theorem fwActivate_hitless (htakes : s.takes p 0x59 h) (hact : s.dev.activating = false) (href : s.dev.updRefuse = 0) (hrec : s.dev.upd.recovery = false)
    (hen : s.dev.par.en = true) (hbit : bitAt (h.desc.word 3) 0 = false) (hwhole : s.dev.pkgFault true = none) :
    Does (.fwActivate p) s (.upd :: .par :: reportParts) (fun d => d.upd = { s.dev.upd with
      st := 4, hstep := 1, target := (pkgInfo s.dev.upd.staged).version, resetAt := none, readyAt := none }) := by
  have hhit : (s.dev.par.en && !bitAt (h.desc.word 3) 0 && !s.dev.upd.recovery) = true := by rw [hen, hbit, hrec]; rfl
  have hruns := fwActivate_runs htakes
  rw [Dev.fwActivate_goes hact href hhit hwhole, hrec, if_neg Bool.false_ne_true, if_pos rfl] at hruns
  exact .of hruns (Dev.hitlessStart_evolves ..).into (Dev.hitlessStart_upd ..)

theorem fwActivate_recovery (htakes : s.takes p 0x59 h) (hact : s.dev.activating = false) (href : s.dev.updRefuse = 0) (hrec : s.dev.upd.recovery = true)
    (hwhole : s.dev.pkgFault false = none) :
    Does (.fwActivate p) s (.upd :: reportParts) (fun d =>
      d.upd = (if s.dev.accepts s.dev.upd.staged then { s.dev.upd with hostOk := true } else { s.dev.upd with staged := [] })) := by
  have hhit : (s.dev.par.en && !bitAt (h.desc.word 3) 0 && !s.dev.upd.recovery) = false := by rw [hrec, Bool.not_true, Bool.and_false]
  have hruns := fwActivate_runs htakes
  rw [Dev.fwActivate_goes hact href hhit hwhole, hrec, if_pos rfl] at hruns
  exact .of hruns (Dev.activateHost_evolves ..).into (Dev.activateHost_upd ..)

end

/-! ### The reset of an activation -/

theorem Dev.dropClaim_cycle (d : Dev) : d.dropClaim.par.cycle = d.par.cycle := rfl

theorem Dev.yieldClaim_cycle (d : Dev) : d.yieldClaim.par.cycle = d.par.cycle := by
  unfold Dev.yieldClaim
  extract_lets d1
  have h1 : d1.par.cycle = d.par.cycle := by
    unfold d1
    rw [Dev.dropClaim_cycle, (d.pairSend_keepsPair d.par.cycle .yield).field Par.cycle]
  clear_value d1
  exact h1

/-- The completion of the descriptor of a swap or a drill, where it has one. -/
theorem Dev.swapFails_evolves (d : Dev) (desc : Option (Nat × Nat)) :
    Evolves [.regs, .rng] d (match desc with | some (p, i) => d.complete p i 0x16 3 | none => d) := by
  split
  · exact (Dev.complete_evolves ..).mono
  · exact .refl

theorem Dev.stopSwap_cycle (d : Dev) : d.stopSwap.par.cycle = d.par.cycle := by
  unfold Dev.stopSwap
  extract_lets d1 d2
  have h1 : Evolves [.regs, .rng] d d1 := by
    unfold d1
    split
    · exact Dev.swapFails_evolves ..
    · exact .refl
  have h2 : Evolves [.regs, .rng] d1 d2 := by
    unfold d2
    split
    · exact Dev.swapFails_evolves ..
    · exact .refl
  have hpar : d2.par = d.par := (h2.keeps .par (by decide)).trans (h1.keeps .par (by decide))
  clear_value d2
  change ({ d2.par with swap := none, drill := none } : Par).cycle = d.par.cycle
  rw [hpar]

/-- A device that falls silent keeps the number of its stroke cycle. -/
theorem Dev.silence_cycle (d : Dev) : d.silence.par.cycle = d.par.cycle := by
  unfold Dev.silence
  extract_lets d1 d3 d4
  have h1 : d1.par = d.par := (Dev.unfreeze_evolves ..).keeps .par (by decide)
  have h3 : d3.par.cycle = d1.par.cycle := by
    unfold d3
    split
    · exact d1.yieldClaim_cycle
    · exact d1.dropClaim_cycle
  have h4 : d4.par.cycle = d3.par.cycle := by
    unfold d4
    rw [(Dev.dropDescs_evolves ..).keeps .par (by decide), Dev.stopSwap_cycle]
  clear_value d4
  exact h4.trans (h3.trans (by rw [h1]))

/-- What a device reset keeps of the update engine's state. -/
theorem Dev.restart_upd (d : Dev) (cause : Nat) : (d.restart cause).upd.run = d.upd.run ∧ (d.restart cause).upd.weigh = d.upd.weigh
    ∧ (d.restart cause).upd.mark = d.upd.mark ∧ (d.restart cause).upd.kept = d.upd.kept
    ∧ (d.restart cause).upd.st = (if d.upd.st = 4 ∧ d.upd.hstep = 5 then 4 else 0) := ⟨rfl, rfl, rfl, rfl, rfl⟩

section
variable {s : State}

theorem activationReset_restarts (hlive : s.dev.live = true) (hinstall : s.dev.upd.install = false) (hst : s.dev.upd.st = 3)
    (hquiet : s.dev.portsQuiet = true) (hwaits : s.dev.imageWaits = false) (hmay : s.dev.updMayReset = true) :
    Does .activationReset s resetParts (fun d => d.glb.cause = 6 ∧ d.glb.phase = (if d.released_ then .booting else .held) ∧ d.fn = [] ∧ d.rng = {}
      ∧ d.upd.mark = some s.dev.par.cycle ∧ d.upd.weigh = s.dev.upd.run.check ∧ d.upd.kept.isSome = true ∧ d.upd.st = 0) := by
  obtain ⟨d1, hd1⟩ : ∃ d1, s.dev.silence.commit = d1 := ⟨_, rfl⟩
  have hcommit : Evolves (.tar :: .nand :: reportParts) s.dev.silence d1 := hd1 ▸ Dev.commit_evolves ..
  have hupd1 : d1.upd = s.dev.upd := by rw [hcommit.keeps .upd (by decide), (Dev.silence_evolves ..).keeps .upd (by decide)]
  have hcycle1 : d1.par.cycle = s.dev.par.cycle := by rw [hcommit.keeps .par (by decide), Dev.silence_cycle]
  obtain ⟨x, hx⟩ : ∃ x : Dev, { d1 with upd := { d1.upd with
    weigh := d1.upd.run.check, mark := some d1.par.cycle, kept := some d1.retained, otherReset := false, failSeen := false } } = x := ⟨_, rfl⟩
  have hreset : s.dev.activationReset = x.restart 6 := by
    unfold Dev.activationReset
    simp only [hd1, hx]
  have hruns : Runs .activationReset s s.dev.activationReset := by
    simp only [Runs, exec, execActivationReset, State.go, State.withDev, hlive, hinstall, hst, hquiet, hwaits, hmay, Bool.not_true, Bool.not_false,
      Bool.false_eq_true, if_false, decide_true, Bool.and_self, if_true]
  refine .of hruns (Dev.activationReset_evolves ..).into ?_
  rw [hreset]
  obtain ⟨hcause, hphase, hfn, hrng, -, -⟩ := x.restart_resets 6
  obtain ⟨-, hweigh, hmark, hkept, hstx⟩ := x.restart_upd 6
  have hxst : x.upd.st = 3 := by rw [← hx, hupd1, hst]
  refine ⟨hcause, hphase, hfn, hrng, ?_, ?_, ?_, ?_⟩
  · rw [hmark, ← hx, hcycle1]
  · rw [hweigh, ← hx, hupd1]
  · rw [hkept, ← hx]
    rfl
  · rw [hstx, if_neg (by simp [hxst])]

/-! ### Hitless activation -/

theorem hitlessStep_second (hlive : s.dev.live = true) (hst : s.dev.upd.st = 4) (hstep : s.dev.upd.hstep = 1) (hwaits : s.dev.imageWaits = false) :
    Does .hitlessStep s (.upd :: reportParts) (fun d => d.upd = { s.dev.upd with hstep := 2 }) := by
  have hruns : Runs .hitlessStep s (s.dev.hstepTo 2) := by
    simp only [Runs, exec, execHitlessStep, State.go, State.withDev, Dev.hitlessStep, hlive, hst, hstep, hwaits, decide_true, Bool.and_self, if_true,
      Bool.false_eq_true, if_false]
  exact .of hruns (Dev.hstepTo_evolves ..).into (Dev.hstepTo_upd ..)

theorem hitlessStep_third (hlive : s.dev.live = true) (hst : s.dev.upd.st = 4) (hstep : s.dev.upd.hstep = 2) (hlost : s.dev.par.hbLost = true) :
    Does .hitlessStep s (.upd :: reportParts) (fun d => d.upd = { s.dev.upd with hstep := 3, resetAt := some s.dev.tim.mono }) := by
  obtain ⟨d1, hd1⟩ : ∃ d1, s.dev.hstepTo 3 = d1 := ⟨_, rfl⟩
  have hev1 : Evolves (.upd :: reportParts) s.dev d1 := hd1 ▸ Dev.hstepTo_evolves ..
  have hupd1 : d1.upd = { s.dev.upd with hstep := 3 } := hd1 ▸ Dev.hstepTo_upd ..
  have hmono1 : d1.tim = s.dev.tim := hev1.keeps .tim (by decide)
  have hruns : Runs .hitlessStep s ({ d1 with upd := { d1.upd with resetAt := some d1.tim.mono } } : Dev) := by
    simp only [Runs, exec, execHitlessStep, State.go, State.withDev, Dev.hitlessStep, hlive, hst, hstep, hlost, decide_true, Bool.and_self, if_true, hd1]
  refine .of hruns (Evolves.upd.after hev1).keeps ?_
  dsimp only
  rw [hupd1, hmono1]

theorem hitlessStep_fourth (hlive : s.dev.live = true) (hst : s.dev.upd.st = 4) (hstep : s.dev.upd.hstep = 3) (hlost : s.dev.par.hbLost = false)
    (hready : s.dev.par.peer.ready = true) (hversion : s.dev.par.peer.version = s.dev.upd.target) (hsweeps : s.dev.tar.sweeps ≠ [])
    (hrole : s.dev.par.role = .stroke) :
    Does .hitlessStep s (.upd :: .par :: reportParts) (fun d => d.upd = { s.dev.upd with hstep := 4, readyAt := some s.dev.tim.mono }
      ∧ d.par = { s.dev.par with swap := some { phase := .sweep, desc := none } }) := by
  obtain ⟨d1, hd1⟩ : ∃ d1, s.dev.hstepTo 4 = d1 := ⟨_, rfl⟩
  have hev1 : Evolves (.upd :: reportParts) s.dev d1 := hd1 ▸ Dev.hstepTo_evolves ..
  have hupd1 : d1.upd = { s.dev.upd with hstep := 4 } := hd1 ▸ Dev.hstepTo_upd ..
  have hmono1 : d1.tim = s.dev.tim := hev1.keeps .tim (by decide)
  obtain ⟨d2, hd2⟩ : ∃ d2 : Dev, { d1 with upd := { d1.upd with readyAt := some d1.tim.mono } } = d2 := ⟨_, rfl⟩
  have hev2 : Evolves [.upd] d1 d2 := hd2 ▸ Evolves.upd
  have hupd2 : d2.upd = { s.dev.upd with hstep := 4, readyAt := some s.dev.tim.mono } := by rw [← hd2, hupd1, hmono1]
  have h02 : Evolves (.upd :: reportParts) s.dev d2 := hev2.after hev1
  have hpar2 : d2.par = s.dev.par := h02.keeps .par (by decide)
  have hruns : Runs .hitlessStep s ({ d2 with par := { d2.par with swap := some { phase := .sweep, desc := none } } } : Dev) := by
    have hgo : (!s.dev.par.hbLost && s.dev.par.peer.ready && decide (s.dev.par.peer.version = s.dev.upd.target)) = true := by
      rw [hlost, hready, hversion]
      simp
    have hsweeps2 : d2.tar.sweeps ≠ [] := by
      rw [h02.keeps .tar (by decide)]
      exact hsweeps
    simp only [Runs, exec, execHitlessStep, State.go, State.withDev, Dev.hitlessStep, hlive, hst, hstep, hgo, decide_true, Bool.and_self, if_true, hd1, hd2,
      Dev.swapStart_sweeps (hpar2 ▸ hrole) hsweeps2]
  refine .of hruns (Evolves.par.after (h02.mono : Evolves (.upd :: .par :: reportParts) _ _)).keeps ⟨hupd2, ?_⟩
  dsimp only
  rw [hpar2]

theorem hitlessStep_last (hlive : s.dev.live = true) (hst : s.dev.upd.st = 4) (hstep : s.dev.upd.hstep = 5) (hbow : s.dev.isBow = true)
    (hready : s.dev.par.ready = true) (hinstall : s.dev.upd.install = false) :
    Does .hitlessStep s (.upd :: reportParts) (fun d => d.upd = { s.dev.upd with hstep := 6, st := 0 }) := by
  obtain ⟨d1, hd1⟩ : ∃ d1, (s.dev.hstepTo 6).recordPost 11 0x1107 0 0x11 0 (s.dev.word 0x11000C) = d1 := ⟨_, rfl⟩
  have hev1 : Evolves (.upd :: reportParts) s.dev d1 := hd1 ▸ (Dev.recordPost_evolves ..).after (Dev.hstepTo_evolves ..)
  have hupd1 : d1.upd = { s.dev.upd with hstep := 6 } := hd1 ▸ ((Dev.recordPost_evolves ..).keeps .upd (by decide)).trans (Dev.hstepTo_upd ..)
  have hruns : Runs .hitlessStep s ({ d1 with upd := { d1.upd with st := 0 } } : Dev) := by
    simp only [Runs, exec, execHitlessStep, State.go, State.withDev, Dev.hitlessStep, hlive, hst, hstep, hbow, hready, hinstall, Bool.not_false, decide_true,
      Bool.and_self, if_true, hd1]
  refine .of hruns (Evolves.upd.after hev1).keeps ?_
  dsimp only
  rw [hupd1]

theorem hitlessStop_fatal (hlive : s.dev.live = true) (hst : s.dev.upd.st = 4) (hinstall : s.dev.upd.install = false) (hfatal : s.dev.pairFatal = true) :
    Does .hitlessStop s (.upd :: reportParts) (fun d => d.upd = { s.dev.upd with st := 0 }) := by
  have hruns : Runs .hitlessStop s (s.dev.hitlessEnd 3) := by
    simp only [Runs, exec, execHitlessStop, State.go, State.withDev, Dev.hitlessStop, hlive, hst, hinstall, hfatal, Bool.not_false, decide_true,
      Bool.and_self, if_true]
  exact .of hruns (Dev.hitlessEnd_evolves ..).into (Dev.hitlessEnd_upd ..)

theorem hitlessStop_timeout {t : Nat} (hlive : s.dev.live = true) (hst : s.dev.upd.st = 4) (hinstall : s.dev.upd.install = false)
    (hfatal : s.dev.pairFatal = false) (hstep : s.dev.upd.hstep = 3) (hready : s.dev.par.peer.ready = false) (hat : s.dev.upd.resetAt = some t) :
    Does .hitlessStop s (.upd :: .tim :: reportParts) (fun d => d.upd = { s.dev.upd with st := 0 } ∧ t + msC 60000 ≤ d.tim.mono) := by
  have hruns : Runs .hitlessStop s ((s.dev.toMono (t + msC 60000)).hitlessEnd 4) := by
    simp only [Runs, exec, execHitlessStop, State.go, State.withDev, Dev.hitlessStop, hlive, hst, hinstall, hfatal, hstep, hready, hat, Bool.not_false,
      decide_true, Bool.and_self, if_true, Bool.false_eq_true, if_false, and_false, false_and, not_false_eq_true, and_self, true_or]
    simp only [if_false, Nat.reduceEqDiff]
  generalize t + msC 60000 = u at hruns ⊢
  obtain ⟨d1, hd1⟩ : ∃ d1, s.dev.toMono u = d1 := ⟨_, rfl⟩
  have htime : Evolves [.tim, .evr] s.dev d1 := hd1 ▸ Dev.toMono_evolves ..
  have hmono : u ≤ d1.tim.mono := hd1 ▸ (show u ≤ s.dev.tim.mono + (u - s.dev.tim.mono) by omega)
  rw [hd1] at hruns
  refine .of hruns ((Dev.hitlessEnd_evolves ..).after htime.mono).keeps ⟨?_, ?_⟩
  · rw [Dev.hitlessEnd_upd, htime.keeps .upd (by decide)]
  · rw [Dev.hitlessEnd_mono]
    exact hmono

/-! ### Packages from the partner -/

theorem pairImageRx_part {pause : Bool} {total : Nat} {bytes : List Byte} (hlive : s.dev.live = true) (hen : s.dev.par.en = true)
    (hup : s.dev.pairUp = true) (htake : (s.dev.upd.recovery || (s.dev.isBow && !s.dev.activating)) = true) (hpart : bytes.length < total) :
    Does (.pairImageRx pause 0 total bytes) s [.par, .upd] (fun d => d.upd = { s.dev.upd with imgRx := bytes, imgLen := total }
      ∧ d.par = { s.dev.par with freed := s.dev.par.freed + pairCells (.image pause 0 total bytes) }) := by
  have hruns : Runs (.pairImageRx pause 0 total bytes) s ({ s.dev with
      par := { s.dev.par with freed := s.dev.par.freed + pairCells (.image pause 0 total bytes) }
      upd := { s.dev.upd with imgRx := bytes, imgLen := total } } : Dev) := by
    have hfits : ¬ total < 0 + bytes.length := by omega
    simp only [Runs, exec, execPairImageRx, State.go, State.withDev, hlive, hen, hup, htake, hpart, hfits, Bool.and_self, Bool.not_true, Bool.false_eq_true,
      if_false, if_true, List.length_nil, ne_eq, not_true_eq_false, decide_false, Bool.or_self, List.nil_append, decide_true, Bool.or_true]
  exact .of hruns (Evolves.over [.par, .upd] .refl).keeps ⟨rfl, rfl⟩

theorem pairImageRx_whole {bytes : List Byte} (hlive : s.dev.live = true) (hen : s.dev.par.en = true) (hup : s.dev.pairUp = true)
    (hrec : s.dev.upd.recovery = false) (hbow : s.dev.isBow = true) (hact : s.dev.activating = false) :
    Does (.pairImageRx true s.dev.upd.imgRx.length (s.dev.upd.imgRx.length + bytes.length) bytes) s [.par, .upd, .rng, .fn, .regs] (fun d =>
      d.upd = { s.dev.upd with imgRx := [], imgLen := 0, run := pkgInfo ((if s.dev.upd.imgRx.length = 0 then [] else s.dev.upd.imgRx) ++ bytes), fresh := true, st := 3, paused := true }
        ∧ d.rng.pairs = []) := by
  obtain ⟨old, hold⟩ : ∃ old, (if s.dev.upd.imgRx.length = 0 then [] else s.dev.upd.imgRx) = old := ⟨_, rfl⟩
  have hlen : old.length = s.dev.upd.imgRx.length := by
    rw [← hold]
    split
    · next h0 => rw [h0, List.length_nil]
    · rfl
  obtain ⟨d1, hd1⟩ : ∃ d1 : Dev, { s.dev with par := { s.dev.par with
    freed := s.dev.par.freed + pairCells (.image true s.dev.upd.imgRx.length (s.dev.upd.imgRx.length + bytes.length) bytes) } } = d1 := ⟨_, rfl⟩
  have hev1 : Evolves [.par] s.dev d1 := hd1 ▸ Evolves.par
  have hupd1 : d1.upd = s.dev.upd := hev1.keeps .upd (by decide)
  have hruns : Runs (.pairImageRx true s.dev.upd.imgRx.length (s.dev.upd.imgRx.length + bytes.length) bytes) s (d1.imageWhole true (old ++ bytes)) := by
    have hshort : ¬ (old ++ bytes).length < s.dev.upd.imgRx.length + bytes.length := by rw [List.length_append, hlen]; omega
    have hmay : (s.dev.live && s.dev.par.en && s.dev.pairUp) = true := by rw [hlive, hen, hup]; rfl
    simp only [Runs, exec, execPairImageRx, State.go, State.withDev, hmay, hrec, hbow, hact, hold, hlen, hshort, hd1, Bool.and_self, Bool.not_true,
      Bool.not_false, Bool.or_true, Bool.false_eq_true, if_false, ne_eq, not_true_eq_false, decide_false, Bool.or_self, Nat.lt_irrefl]
  rw [hold]
  obtain ⟨d2, hd2⟩ : ∃ d2 : Dev, Dev.writeRun ({ d1 with upd := { d1.upd with imgRx := [], imgLen := 0 } } : Dev) (pkgInfo (old ++ bytes)) = d2 := ⟨_, rfl⟩
  have hev2 : Evolves [.upd] d1 d2 := hd2 ▸ .over [.upd] .refl
  have hupd2 : d2.upd = { s.dev.upd with imgRx := [], imgLen := 0, run := pkgInfo (old ++ bytes), fresh := true } := by rw [← hd2, Dev.writeRun, hupd1]
  obtain ⟨hpairs, -, hupdr⟩ := d2.ringsReset_rings
  have hwhole : d1.imageWhole true (old ++ bytes) = ({ d2.ringsReset with upd := { d2.ringsReset.upd with st := 3, paused := true } } : Dev) := by
    simp only [Dev.imageWhole, if_true, hd2]
  rw [hwhole] at hruns
  refine .of hruns (Evolves.upd.after <| (Dev.ringsReset_evolves ..).after <| hev2.after hev1.mono : Evolves [.par, .upd, .rng, .fn, .regs] _ _).keeps
    ⟨?_, hpairs⟩
  dsimp only
  rw [hupdr, hupd2]

/-! ### Recovery -/

/-- A read of the recovery file, where no pause is on. -/
theorem tftpRecoveryRead_runs {block : Option (List Byte)} (hok : tftpOk block = true) (hlive : s.dev.live = true) (hrec : s.dev.upd.recovery = true)
    (hip : s.dev.rcvIp = true) (hports : s.dev.flPorts ≠ []) (hdone : s.dev.upd.tftpDone = false) :
    Runs (.tftpRecoveryRead block) s (s.dev.tftpRead block) := by
  have hgo : (s.dev.live && s.dev.upd.recovery && s.dev.rcvIp && !s.dev.flPorts.isEmpty && !s.dev.upd.tftpDone) = true := by
    simp [hlive, hrec, hip, hports, hdone]
  simp only [Runs, exec, execTftpRecoveryRead, State.go, State.withDev, hok, hgo, Bool.not_true, Bool.false_eq_true, if_false, if_true]

theorem tftpRecoveryRead_block {b : List Byte} (hok : tftpOk (some b) = true) (hlive : s.dev.live = true) (hrec : s.dev.upd.recovery = true)
    (hip : s.dev.rcvIp = true) (hports : s.dev.flPorts ≠ []) (hdone : s.dev.upd.tftpDone = false) (hrest : s.dev.upd.tftpRest = none) :
    Does (.tftpRecoveryRead (some b)) s [.upd] (fun d =>
      d.upd = { s.dev.upd with tftp := s.dev.upd.tftp ++ b, tftpFails := 0, tftpDone := decide (b.length < 1428) }) := by
  have hruns := tftpRecoveryRead_runs hok hlive hrec hip hports hdone
  simp only [Dev.tftpRead, hrest] at hruns
  exact .of hruns Evolves.upd.keeps (by dsimp only; rw [hrest])

theorem tftpRecoveryRead_stall (hlive : s.dev.live = true) (hrec : s.dev.upd.recovery = true) (hip : s.dev.rcvIp = true) (hports : s.dev.flPorts ≠ [])
    (hdone : s.dev.upd.tftpDone = false) (hrest : s.dev.upd.tftpRest = none) (hfails : s.dev.upd.tftpFails < 2) :
    Does (.tftpRecoveryRead none) s [.upd, .tim, .evr] (fun d => d.upd = { s.dev.upd with tftpFails := s.dev.upd.tftpFails + 1 }
      ∧ s.dev.tim.mono + msC 5000 ≤ d.tim.mono) := by
  obtain ⟨d1, hd1⟩ : ∃ d1, s.dev.toMono (s.dev.tim.mono + msC 5000) = d1 := ⟨_, rfl⟩
  have htime : Evolves [.tim, .evr] s.dev d1 := hd1 ▸ Dev.toMono_evolves ..
  have hmono : s.dev.tim.mono + msC 5000 ≤ d1.tim.mono :=
    hd1 ▸ (show s.dev.tim.mono + msC 5000 ≤ s.dev.tim.mono + (s.dev.tim.mono + msC 5000 - s.dev.tim.mono) by omega)
  have hfew : ¬ 3 ≤ s.dev.upd.tftpFails + 1 := by omega
  have hstall : s.dev.tftpRead none = ({ d1 with upd := { d1.upd with tftpFails := s.dev.upd.tftpFails + 1 } } : Dev) := by
    simp only [Dev.tftpRead, hrest, Dev.tftpStall, if_neg hfew, hd1]
  have hruns := tftpRecoveryRead_runs (block := none) (by decide) hlive hrec hip hports hdone
  rw [hstall] at hruns
  refine .of hruns (Evolves.upd.after htime.mono : Evolves [.upd, .tim, .evr] _ _).keeps ⟨?_, hmono⟩
  dsimp only
  rw [htime.keeps .upd (by decide)]

theorem tftpRecoveryRead_rests (hlive : s.dev.live = true) (hrec : s.dev.upd.recovery = true) (hip : s.dev.rcvIp = true) (hports : s.dev.flPorts ≠ [])
    (hdone : s.dev.upd.tftpDone = false) (hrest : s.dev.upd.tftpRest = none) (hfails : 2 ≤ s.dev.upd.tftpFails) :
    Does (.tftpRecoveryRead none) s [.upd] (fun d =>
      d.upd = { s.dev.upd with tftp := [], tftpFails := 0, tftpRest := some (s.dev.tim.mono + msC 60000) }) := by
  have hmany : 3 ≤ s.dev.upd.tftpFails + 1 := by omega
  have hstall : s.dev.tftpRead none = ({ s.dev with upd := { s.dev.upd with
      tftp := [], tftpFails := 0, tftpRest := some (s.dev.tim.mono + msC 60000) } } : Dev) := by
    simp only [Dev.tftpRead, hrest, Dev.tftpStall, if_pos hmany]
  have hruns := tftpRecoveryRead_runs (block := none) (by decide) hlive hrec hip hports hdone
  rw [hstall] at hruns
  exact .of hruns Evolves.upd.keeps rfl

/-- A latched reset of a live device restarts one whose running region and Weigh-in region stand. -/
theorem Dev.latchReset_upd {d : Dev} (cause : Nat) (hlive : d.live = true) :
    ∃ x : Dev, d.latchReset cause = x.restart cause ∧ x.upd.run = d.upd.run ∧ x.upd.weigh = d.upd.weigh := by
  unfold Dev.latchReset
  extract_lets _ d0
  rw [Dev.phase_ready_of_live hlive]
  have hrun : d0.upd.run = d.upd.run := rfl
  have hweigh : d0.upd.weigh = d.upd.weigh := rfl
  clear_value d0
  dsimp only
  split
  · exact ⟨d0, rfl, hrun, hweigh⟩
  · have hsame : d0.silence.commit.upd = d0.upd := by
      rw [(Dev.commit_evolves ..).keeps .upd (by decide), (Dev.silence_evolves ..).keeps .upd (by decide)]
    exact ⟨d0.silence.commit, rfl, by rw [hsame, hrun], by rw [hsame, hweigh]⟩

theorem recoveryInstall_decides {source : Nat} {b : List Byte} (hlive : s.dev.live = true) (hrec : s.dev.upd.recovery = true)
    (hpackage : s.dev.recoveryPackage = some (source, b)) :
    Does .recoveryInstall s resetParts (fun d => if s.dev.accepts b then
        d.glb.cause = 6 ∧ d.fn = [] ∧ d.rng = {} ∧ d.upd.run = pkgInfo b ∧ d.upd.weigh = (pkgInfo b).check
      else d = s.dev.discard source) := by
  by_cases haccepts : s.dev.accepts b = true
  case pos =>
    obtain ⟨d1, hd1⟩ : ∃ d1, (s.dev.writeRun (pkgInfo b)).recordPost 11 0x1103 0 0x11 0 source (pkgInfo b).version = d1 := ⟨_, rfl⟩
    obtain ⟨d2, hd2⟩ : ∃ d2 : Dev, { d1 with upd := { d1.upd with weigh := (pkgInfo b).check } } = d2 := ⟨_, rfl⟩
    have hwrite : Evolves [.upd] s.dev (s.dev.writeRun (pkgInfo b)) := Evolves.upd
    have hev1 : Evolves (.upd :: reportParts) s.dev d1 := hd1 ▸ (Dev.recordPost_evolves ..).after hwrite.mono
    have hrun1 : d1.upd.run = pkgInfo b := by rw [← hd1, (Dev.recordPost_evolves ..).keeps .upd (by decide), Dev.writeRun]
    have hev2 : Evolves (.upd :: reportParts) s.dev d2 := (hd2 ▸ Evolves.upd : Evolves [.upd] d1 d2).after hev1
    have hlive2 : d2.live = true := by
      rw [Dev.live, hev2.keeps .glb (by decide)]
      exact hlive
    have hruns : Runs .recoveryInstall s (d2.latchReset 6) := by
      simp only [Runs, exec, execRecoveryInstall, State.go, State.withDev, hlive, hrec, hpackage, haccepts, Bool.and_self, Bool.not_true,
        Bool.false_eq_true, if_false, hd1, hd2]
    refine .of hruns ((Dev.latchReset_evolves ..).after hev2.mono : Evolves resetParts _ _).keeps ?_
    rw [if_pos haccepts]
    obtain ⟨x, hx, hrun, hweigh⟩ := Dev.latchReset_upd 6 hlive2
    obtain ⟨hcause, -, hfn, hrng, -, -⟩ := x.restart_resets 6
    obtain ⟨hrunx, hweighx, -, -, -⟩ := x.restart_upd 6
    rw [hx]
    refine ⟨hcause, hfn, hrng, ?_, ?_⟩
    · rw [hrunx, hrun, ← hd2, hrun1]
    · rw [hweighx, hweigh, ← hd2]
  case neg =>
    have hruns : Runs .recoveryInstall s (s.dev.discard source) := by
      simp only [Runs, exec, execRecoveryInstall, State.go, State.withDev, hlive, hrec, hpackage, haccepts, Bool.and_self, Bool.not_true,
        Bool.false_eq_true, if_false, Bool.not_false, if_true]
    refine .of hruns (Dev.discard_evolves ..).into ?_
    rw [if_neg haccepts]

end

/-- Settles O47, one command after the other. -/
theorem firmwareUpdates : Obligations.FirmwareUpdates :=
  ⟨fun _ _ _ _ htakes hlock hact hfirst => fwWrite_first htakes hlock hact hfirst,
   fun _ _ _ _ htakes hlock hact hlater hplace hroom => fwWrite_next htakes hlock hact hlater hplace hroom,
   fun _ _ _ htakes hact href hrec hpause hwhole => fwActivate_pause htakes hact href hrec hpause hwhole,
   fun _ _ _ htakes hact href hrec hen hbit hwhole => fwActivate_hitless htakes hact href hrec hen hbit hwhole,
   fun _ _ _ htakes hact href hrec hwhole => fwActivate_recovery htakes hact href hrec hwhole,
   fun _ hlive hinstall hst hquiet hwaits hmay => activationReset_restarts hlive hinstall hst hquiet hwaits hmay,
   fun _ hlive hst hstep hwaits => hitlessStep_second hlive hst hstep hwaits,
   fun _ hlive hst hstep hlost => hitlessStep_third hlive hst hstep hlost,
   fun _ hlive hst hstep hlost hready hversion hsweeps hrole => hitlessStep_fourth hlive hst hstep hlost hready hversion hsweeps hrole,
   fun _ hlive hst hstep hbow hready hinstall => hitlessStep_last hlive hst hstep hbow hready hinstall,
   fun _ hlive hst hinstall hfatal => hitlessStop_fatal hlive hst hinstall hfatal,
   fun _ _ hlive hst hinstall hfatal hstep hready hat => hitlessStop_timeout hlive hst hinstall hfatal hstep hready hat,
   fun _ _ _ _ hlive hen hup htake hpart => pairImageRx_part hlive hen hup htake hpart,
   fun _ _ hlive hen hup hrec hbow hact _ => pairImageRx_whole hlive hen hup hrec hbow hact,
   fun _ _ hok hlive hrec hip hports hdone hrest => tftpRecoveryRead_block hok hlive hrec hip hports hdone hrest,
   fun _ hlive hrec hip hports hdone hrest hfails => tftpRecoveryRead_stall hlive hrec hip hports hdone hrest hfails,
   fun _ hlive hrec hip hports hdone hrest hfails => tftpRecoveryRead_rests hlive hrec hip hports hdone hrest hfails,
   fun _ _ _ hlive hrec hpackage => recoveryInstall_decides hlive hrec hpackage⟩

end Sys2Proof.Machine

end
